-- ==== Sys2Proof/Word.lean ====
section
/-! DEFINITION. The word types of the register fabric (R7) and their plainest arithmetic. -/

namespace Sys2Proof

/-- A register word: 32 bits, little-endian (R7). -/
abbrev Word := BitVec 32

/-- A byte of a memory or of a message. -/
abbrev Byte := BitVec 8

/-- Bit `i` of a word, as a Boolean. -/
def Word.bit (w : Word) (i : Nat) : Bool := w.getLsbD i

/-- The bits `[lo + n - 1 : lo]` of a number. -/
def bitsOf (v lo n : Nat) : Nat := (v >>> lo) % 2 ^ n

/-- A number read as two's complement of `n` bits. -/
def signed (n v : Nat) : Int := if v % 2 ^ n < 2 ^ (n - 1) then (v % 2 ^ n : Nat) else (v % 2 ^ n : Nat) - (2 ^ n : Nat)

/-- The `n`-bit two's complement code of an integer, wrapping. -/
def unsignedOf (n : Nat) (v : Int) : Nat := (v % (2 ^ n : Nat)).toNat

/-- An integer limited to the range from `lo` to `hi`. -/
def clampInt (lo hi v : Int) : Int := max lo (min hi v)

/-- Two's complement saturation to `n` bits. -/
def satSigned (n : Nat) (v : Int) : Int := clampInt (-(2 ^ (n - 1) : Nat)) ((2 ^ (n - 1) : Nat) - 1) v

/-- The number of bits that are 1 among the low `n` bits. -/
def popCount : Nat → Nat → Nat
  | 0, _ => 0
  | n + 1, v => v % 2 + popCount n (v / 2)

end Sys2Proof
end

