-- ==== Sys2Proof/Operand.lean ====
section
/-! DEFINITION. The operands of the commands: who asks, which unit is meant, and what an event brings from outside the
modelled block (a measured figure, an upset, the bytes of a message). -/

namespace Sys2Proof

/-- The requesters of R41 and R42, coded as in `GLB.STAT.SRC`. -/
inductive Requester where
  | pcie | i2c | keeper | debug
deriving DecidableEq, Repr

/-- The three BARs of R29, coded as in `GLB.OFF_ACC_ADDR.BAR`. -/
inductive Bar where
  | bar0 | bar2 | bar4
deriving DecidableEq, Repr

/-- The PLLs that an EN field starts (R93, R176): the line cluster PLLs, the spare-lane PLL, host PLLs A and B. -/
inductive PllId where
  | line (c : Fin 4)
  | spare
  | hostA (k : Fin 4)
  | hostB (k : Fin 4)
deriving DecidableEq, Repr

/-- The LANE_PWR registers (R93): of a line cluster or of a host cluster. -/
inductive LanePwrId where
  | line (c : Fin 4)
  | host (k : Fin 4)
deriving DecidableEq, Repr

/-- A lane with a receiver: a line lane or a host lane. -/
inductive LaneId where
  | line (n : Fin 17)
  | host (n : Fin 64)
deriving DecidableEq, Repr

/-- An engine, numbered as R334 numbers them: LE0 to LE16, then HE0 to HE3. -/
abbrev EngineId := Fin 21

/-- The counter groups that a CLR, SNAP or LIVE bit acts on (R85, R104, R142, R180, R214, R266). -/
inductive CounterGroup where
  | residue (n : Fin 17)
  | clip (n : Fin 17)
  | inner (n : Fin 17)
  | lpc (n : Fin 17)
  | sync (n : Fin 64)
  | port (n : Fin 64)
  | foghorn
deriving DecidableEq, Repr

/-- What a calibration of one sub-converter delivers: its trims, and whether every trim is inside its range (R63). -/
structure SubCal where
  sub : Nat
  offset : BitVec 8
  gain : BitVec 10
  skew : BitVec 8
  inRange : Bool
deriving DecidableEq, Repr

/-- What a calibration of one DAC segment delivers (R105). -/
structure SegCal where
  seg : Nat
  trim : BitVec 6
  inRange : Bool
deriving DecidableEq, Repr

/-- The result of an automatic scan of one eye (R90). -/
structure EyeResult where
  eye : Fin 3
  width : BitVec 8
  height : BitVec 10
deriving DecidableEq, Repr

/-- Bits of a stored byte, check bits included, that an upset has inverted since the byte was last written (R336). -/
structure Flip where
  addr : Nat
  mask : BitVec 13
deriving DecidableEq, Repr

/-- The outcome of an RS monitor for a codeword (R139): symbol errors 1 to 15, and bits changed. -/
inductive RsOutcome where
  | clean
  | corrected (syms : Nat) (bits : Nat)
  | uncorrectable
deriving DecidableEq, Repr

/-- A row of an LPC block as it leaves the window (R135): its index, the bits changed, whether its component is no codeword,
and the slot of the lane it belongs to (R204). -/
structure LpcRow where
  row : Fin 289
  bits : Nat
  failed : Bool
  slot : Fin 4
deriving DecidableEq, Repr

/-- What authenticates a twin message (R221): the low 16 bits of its counter, and whether its tag checks. -/
structure MsgAuth where
  low : BitVec 16
  tagOk : Bool
deriving DecidableEq, Repr

/-- An entry of a POS message (R222, R229): the sender's port, generation and codeword count, and the port's marker period,
which the receiver compares with its own. -/
structure PosEntry where
  port : Fin 64
  gen : BitVec 16
  cw : BitVec 64
  period : Nat
deriving DecidableEq, Repr

/-- An entry of a POS_ACK message (R222). -/
structure PosAck where
  port : Fin 64
  delta : BitVec 32
  resid : BitVec 16
deriving DecidableEq, Repr

/-- What a SPARE_STATUS message reports (R238). -/
inductive SpareNote where
  | ready | switched | skipped
deriving DecidableEq, Repr

/-- A record of a HEALTH message (R243). -/
structure HealthRec where
  seq : Word
  typ : BitVec 16
  time : Word
  digest : BitVec 64
deriving DecidableEq, Repr

/-- What leaves a housekeeping chain (R306): for an input that has been constant over the chain's whole memory, the
corrected code before it is clamped (R300); otherwise the output value and whether a stage saturated or a clamped code
contributed, because the half-band taps are not stated. -/
inductive HkSample where
  | steady (code : Int)
  | value (data : BitVec 24) (ovr : Bool)
deriving DecidableEq, Repr

/-- What a calibration delivers at one gain (R305). -/
structure HkCal where
  offset : BitVec 16
  gain : BitVec 16
  residual : BitVec 16
deriving DecidableEq, Repr

/-- A record of a configuration image body (R408). -/
inductive CfgRecord where
  /-- BAR0 offset and words. -/
  | regs (off : BitVec 24) (words : List Word)
  /-- `DDR.CFG` value and size in GiB. -/
  | ddr (cfg gib : Word)
  /-- 32 channel words: [1:0] MODE, [12] CLR_EN, [31:16] CLR_CODE. -/
  | hdac (words : List Word)
  /-- Pairs of macro and `REP_DATA`. -/
  | repair (pairs : List (Word × Word))
  /-- 16 words of `HKCc_CAL_FACT`, core then gain. -/
  | hkcal (words : List Word)
  /-- A seed set and its bank words. -/
  | seeds (set : Fin 4) (words : List Word)
  /-- Domains powered after boot, `RET_KPR` and `RET_COEF`. -/
  | power (doms kpr coef : Word)
  /-- Domain mask of power-on BIST. -/
  | bist (mask : Word)
  /-- `LOG_CTL`, `RING_BASE`, `RING_SIZE`, `ANCH_BASE`, `ANCH_SIZE`. -/
  | log (ctl ringBase ringSize anchBase anchSize : Word)
deriving DecidableEq, Repr

/-- A configuration image (R406, R408): VERSION, the LINE flag and its records. -/
structure CfgImage where
  version : Word
  line : Bool
  records : List CfgRecord
deriving DecidableEq, Repr

/-- The outcome of the checks of R407 on a firmware image or a microcode bundle, with VERSION and SVN. -/
structure FwImage where
  result : Fin 8
  version : Word
  svn : BitVec 6
deriving DecidableEq, Repr

/-- What a test of a domain ends with (R427): mismatches of the signature and of the march, and the signature computed. -/
structure BistDom where
  dom : Fin 24
  logic : Bool
  mem : Bool
  sig : Word
deriving DecidableEq, Repr

/-- A configuration slot as the boot ROM finds it: slot, result of R407 and image. -/
structure BootSlot where
  slot : Fin 16
  result : Fin 8
  image : CfgImage
deriving DecidableEq, Repr

/-- What a cold boot meets outside the device (R411): straps, the directory where its copy in the device is not the newest,
the firmware entries with the higher VERSION first, the configuration slots, the bundles with the ACTIVE one first, the
slots with a VALID entry, REFCLK and the rails (R426), the tested domains that end otherwise than with a match, whether the
digests kept in PD_AON agree (R412), the microseconds the boot took, and what VOUT_MODE reads. -/
structure BootInput where
  straps : BitVec 2
  dir : Option (BitVec 8 × BitVec 8 × Bool)
  firmware : List FwImage
  slots : List BootSlot
  bundles : List FwImage
  stored : BitVec 16
  refclk : Bool
  rails : BitVec 7
  tests : List BistDom
  fast : Bool
  us : Word
  vmode : Byte
deriving DecidableEq, Repr

end Sys2Proof
end

