-- ==== Sys2Proof/Syntax.lean ====
section
/-! DEFINITION. The commands of the device: one constructor per row of spec/opcode_table.json, in the table's order, with
the row's operands. A register write row carries the requester and the word written; an event row carries what comes from
outside the modelled block (the lane, a measured figure, the fields of a message). -/

namespace Sys2Proof

/-- The commands. -/
inductive Instr where
  /-- POWER_ON_RESET (R8) PORST_N, or the internal power-on detector, is released and the device boots from Reset values. -/
  | powerOnReset (x : BootInput)
  /-- PCIE_PERST (R445) PCIE_PERST_N low resets the PCIe controller, PHY and configuration space and nothing else. -/
  | pciePerst
  /-- LINK_UP (R28) The PCIe link reaches data-link-active, and pending MSI-X messages are sent. -/
  | linkUp (speed : Fin 6) (width : Fin 5) (flit reversed : Bool)
  /-- LINK_DOWN (R55) The PCIe link leaves data-link-active, so messages are pended and host-bound writes fail. -/
  | linkDown
  /-- REG_WRITE (R39) Atomic read-modify-write of a register that has no row of its own, through the direct window or a set, clear or toggle alias. -/
  | regWrite (q : Requester) (addr : BitVec 24) (be : BitVec 4) (v : Word)
  /-- HOLDING_WRITE (R41) A lower-word write of a wide register fills the requester's holding register, and the most significant word applies the held words. -/
  | holdingWrite (q : Requester) (addr : BitVec 24) (v : Word)
  /-- OFF_ACCESS (R15) An access to an unpowered or transitioning domain returns 0, is recorded in GLB.OFF_ACC_ADDR and raises OFF_ACCESS. -/
  | offAccess (q : Requester) (bar : Bar) (off : BitVec 34) (write : Bool)
  /-- HOST_MEM_READ (R31) A BAR2 or BAR4 read is served with correction, page decode, or a poisoned completion or Completer Abort. -/
  | hostMemRead (q : Requester) (bar : Bar) (off : BitVec 34) (len : Nat) (flips : List Flip)
  /-- HOST_MEM_WRITE (R346) A BAR2 or BAR4 write, including zero-fill of invalid pages, the unsealing of sealed pages and denial checks. -/
  | hostMemWrite (q : Requester) (bar : Bar) (off : BitVec 34) (data : List Byte)
  /-- UNSUPPORTED_REQUEST (R32) A request outside the BARs, to another function, or an atomic operation receives Unsupported Request. -/
  | unsupportedRequest
  /-- I2C_WRITE (R34) An I2C write stores bytes at the window sub-address, which then advances. -/
  | i2cWrite (bytes : List Byte)
  /-- I2C_READ (R34) An I2C read returns bytes from the current sub-address, which advances and wraps. -/
  | i2cRead (count : Nat)
  /-- I2C_CMD_READ (R35) Command 0x01 starts a BAR0 read of ADDR. -/
  | i2cCmdRead
  /-- I2C_CMD_WRITE (R35) Command 0x02 starts a BAR0 write of DATA to ADDR. -/
  | i2cCmdWrite
  /-- I2C_CMD_READ_INC (R35) Command 0x05 reads and then advances ADDR by 4. -/
  | i2cCmdReadInc
  /-- I2C_CMD_WRITE_INC (R35) Command 0x06 writes and then advances ADDR by 4. -/
  | i2cCmdWriteInc
  /-- I2C_ACCESS_DONE (R35) The BAR0 access of an I2C command completes and BUSY clears. -/
  | i2cAccessDone
  /-- I2C_ADDRESS_MATCH (R393) An I2C address match in PS1 to PS5, or during entry, wakes the device when I2C wake is enabled. -/
  | i2cAddressMatch
  /-- SOFT_RESET (R8) BLK_CTL.SOFT_RESET returns the block's fields, banks and filters to their Reset values and disarms the block without a report. -/
  | softReset (q : Requester) (b : Fin 179)
  /-- STAGE_ON (R45) BLK_CTL.STAGE changes from 0 to 1 and every shadow is loaded from its active value. -/
  | stageOn (q : Requester) (b : Fin 179)
  /-- STAGE_OFF (R49) Clearing STAGE disarms the block, reloads its shadows and returns RWS fields to direct writes. -/
  | stageOff (q : Requester) (b : Fin 179)
  /-- INT_FORCE (R43) A write of INT_FORCE sets the matching INT_STAT bits. -/
  | intForce (q : Requester) (b : Fin 179) (v : Word)
  /-- INT_STAT_CLEAR (R55) A W1C write to INT_STAT clears bits, and a new message is sent when the vector input stays at 1. -/
  | intStatClear (q : Requester) (b : Fin 179) (v : Word)
  /-- MSIX_UNMASK (R55) Unmasking a vector whose PBA bit is set and whose input is 1 sends the pending message. -/
  | msixUnmask (vec : Fin 256)
  /-- COMMIT_NOW (R46) The block checks its shadow pairs and parity and commits all shadows in one datapath cycle, or is refused. -/
  | commitNow (q : Requester) (b : Fin 179)
  /-- DISCARD (R49) Shadows are reloaded from the active values, and an armed block is disarmed with DISARMED. -/
  | discard (q : Requester) (b : Fin 179)
  /-- ARM (R49) SE_EN is written 1 while STAGE = 1, and the block arms on scheduler entry COMMIT_SE. -/
  | arm (q : Requester) (b : Fin 179) (se : Fin 256)
  /-- DISARM (R49) SE_EN is written 0 or COMMIT_SE changes, and the block reports DISARMED and rearms on a new entry where asked. -/
  | disarm (q : Requester) (b : Fin 179) (se : Option (Fin 256))
  /-- PARITY_SWEEP (R51) In an idle fabric cycle the sweep checker reads one parity-protected register and reports a new fault once. -/
  | paritySweep (b : Fin 179) (word : Fin 1024) (shadow : Bool) (upset : BitVec 33)
  /-- PARITY_RESTORE (R422) With AUTO_RESTORE, a faulty active value is restored from the golden image copy within 100 µs. -/
  | parityRestore (b : Fin 179) (word : Fin 1024)
  /-- REFCLK_LOSS (R19) REFCLK is absent for 1 µs or deviates by more than 500 ppm: transmitters idle, and the fabric and Keeper move to the AON clock. -/
  | refclkLoss (ppm : BitVec 16)
  /-- REFCLK_RETURN (R19) After 10 ms within ±100 ppm, the reference PLL relocks and the fabric returns to 625 MHz. -/
  | refclkReturn (ppm : BitVec 16)
  /-- REF_PLL_RELOCK (R277) The relocked reference PLL returns the time bases to the time-base clock with re-seeding and an uncertainty. -/
  | refPllRelock
  /-- XTAL_FAIL (R458) The AON crystal stops for 10 µs, which pauses the AON counter and sets FAIL_SEEN. -/
  | xtalFail
  /-- PLL_ENABLE (R93) A write of a line, spare or host PLL EN starts or stops the PLL; stopping it clears lane status without interrupts. -/
  | pllEnable (q : Requester) (p : PllId) (v : Word)
  /-- PLL_LOCK (R93) A PLL acquires lock, and its lanes and engines resume with their trims and banks. -/
  | pllLock (p : PllId) (us : BitVec 8)
  /-- PLL_LOCK_LOST (R93) An enabled PLL loses lock: receivers deliver erasures, CDR_LOCK clears, and engines and transmitters pause or squelch. -/
  | pllLockLost (p : PllId)
  /-- LANE_PWR_WRITE (R93) A LANE_PWR write powers slices; clearing a bit clears that lane's RX_EN or TX_EN. -/
  | lanePwrWrite (q : Requester) (c : LanePwrId) (v : Word)
  /-- SLICE_PWR_RDY (R93) Within 20 µs of being powered, the slices are biased and PWR_RDY sets. -/
  | slicePwrRdy (l : LaneId)
  /-- RX_CTL_WRITE (R62) An RX_CTL write applies its fields, refuses an illegal RATE change, and starts foreground calibration on RX_EN 0→1. -/
  | rxCtlWrite (q : Requester) (n : Fin 17) (v : Word)
  /-- FG_CAL_DONE (R64) ADC foreground calibration ends, the initial slot map is built, and CAL_RUN clears. -/
  | fgCalDone (n : Fin 17) (cal : List SubCal) (spur : BitVec 8) (resErr : BitVec 16)
  /-- SIG_DET_RISE (R61) The averaged mean absolute sample reaches SD_THR, and SIG_DET sets. -/
  | sigDetRise (l : LaneId)
  /-- SIG_DET_FALL (R61) After 256 cycles below threshold SIG_DET falls: symbols are erased, the loop holds, SIG_LOST is raised and CDR_LOCK falls. -/
  | sigDetFall (l : LaneId)
  /-- CDR_LOCK_GAIN (R72) After 4,096 cycles with small phase error, CDR_LOCK sets. -/
  | cdrLockGain (l : LaneId) (freq : Word)
  /-- CDR_LOCK_LOSS (R72) After 256 cycles at or above LOCK_THR, CDR_LOCK clears and CDR_LOCK_LOST is raised. -/
  | cdrLockLoss (l : LaneId)
  /-- FREQ_OOR_SET (R72) The integrator is at its ±250 ppm limit for 1 ms, so FREQ_OOR is set and CDR_LOCK is held at 0. -/
  | freqOorSet (l : LaneId)
  /-- FREQ_OOR_CLEAR (R72) The integrator has left its limit for 1 ms, and FREQ_OOR clears. -/
  | freqOorClear (l : LaneId)
  /-- BGCAL_STEP_END (R65) A background ADC calibration step ends, the shadowing spare takes the slot, and the next step starts. -/
  | bgcalStepEnd (n : Fin 17) (trim : SubCal) (spur : BitVec 8) (resErr : BitVec 16)
  /-- COEF_DATA_WRITE (R75) A host write of a receive bank word applies or is refused, and INDEX auto-increments. -/
  | coefDataWrite (q : Requester) (n : Fin 17) (v : Word)
  /-- COEF_DATA_READ (R75) A read of a receive bank word returns it and auto-increments INDEX. -/
  | coefDataRead (q : Requester) (n : Fin 17)
  /-- FFE_RESIDUE_MISMATCH (R83) An FFE mod-3 residue mismatch erases its symbol group and counts the event. -/
  | ffeResidueMismatch (n : Fin 17) (group : Fin 16)
  /-- MLSE_RESIDUE_MISMATCH (R84) An MLSE residue mismatch erases the group and 32 further symbols and resets the path metrics. -/
  | mlseResidueMismatch (n : Fin 17) (group : Fin 16)
  /-- INJ_FFE (R87) Writing INJ_FFE corrupts one residue in the next FFE group, held pending while the checker is idle. -/
  | injFfe (q : Requester) (n : Fin 17)
  /-- INJ_MLSE (R87) Writing INJ_MLSE corrupts one residue in the next MLSE group, held pending while the checker is idle. -/
  | injMlse (q : Requester) (n : Fin 17)
  /-- COUNTER_CLR (R142) A CLR write zeroes a counter group in one cycle. -/
  | counterClr (q : Requester) (g : CounterGroup)
  /-- COUNTER_SNAP (R142) A SNAP write latches a counter group and clears LIVE. -/
  | counterSnap (q : Requester) (g : CounterGroup)
  /-- COUNTER_LIVE (R142) Writing 1 to LIVE returns reads to the live counter values. -/
  | counterLive (q : Requester) (g : CounterGroup)
  /-- EYE_START (R88) Eye monitor START begins a collection or automatic scan, reserving a spare when the phase is nonzero. -/
  | eyeStart (q : Requester) (n : Fin 17) (v : Word)
  /-- EYE_DONE (R88) The collection reaches its total or the scan ends, and EYE_DONE is raised. -/
  | eyeDone (n : Fin 17) (hits : Word) (results : List EyeResult)
  /-- TX_CTL_WRITE (R118) A TX_CTL write applies its fields, refuses an illegal RATE change, and starts DAC calibration on TX_EN 0→1. -/
  | txCtlWrite (q : Requester) (n : Fin 17) (v : Word)
  /-- DAC_CAL_DONE (R106) DAC foreground calibration ends, and the segment position map is built. -/
  | dacCalDone (n : Fin 17) (cal : List SegCal) (segRes : BitVec 12) (segMax : BitVec 8)
  /-- DAC_BGCAL_STEP_END (R107) A background DAC step ends, the trimmed segment takes its position, and the lap end updates DAC_QUAL. -/
  | dacBgcalStepEnd (n : Fin 17) (trim : SegCal) (segRes : BitVec 12) (segMax : BitVec 8)
  /-- TX_COEF_DATA_WRITE (R98) A host write of a transmit bank or pre-distortion word applies or is refused, with auto-increment. -/
  | txCoefDataWrite (q : Requester) (n : Fin 17) (v : Word)
  /-- TX_COEF_DATA_READ (R98) A read of a transmit store word returns it and auto-increments INDEX. -/
  | txCoefDataRead (q : Requester) (n : Fin 17)
  /-- TX_PD_CTL_WRITE (R101) A write of TX_PD_CTL or TX_PD_MAP changes the pre-distortion set selection, and releasing HOLD applies the newest band. -/
  | txPdCtlWrite (q : Requester) (n : Fin 17) (map : Bool) (v : Word)
  /-- DAC_CLR_FALL (R117) DAC_CLR_N falls, or is taken as low: lanes with CLR_SQ squelch and HDAC channels with CLR_EN drive their clear code. -/
  | dacClrFall
  /-- DAC_CLR_RISE (R117) DAC_CLR_N rises, which ends the unlatched CLR cause. -/
  | dacClrRise
  /-- CLR_SEEN_CLEAR (R117) Writing 1 to CLR_SEEN while the pin is high releases a latched CLR cause. -/
  | clrSeenClear (q : Requester) (n : Fin 17)
  /-- FEC_MODE_WRITE (R119) A LANE_CTLn write that would change MODE while a lane runs is refused whole; any other write applies. -/
  | fecModeWrite (q : Requester) (n : Fin 17) (v : Word)
  /-- INNER_WINDOW_END (R125) A 64-frame window ends and its ZSYN drives the HUNT and LOCKED transitions of inner frame lock. -/
  | innerWindowEnd (n : Fin 17) (zsyn : Fin 257)
  /-- FORCE_HUNT (R125) Writing FORCE_HUNT moves inner lock to HUNT at the next offset. -/
  | forceHunt (q : Requester) (n : Fin 17)
  /-- INNER_CODEWORD_DECODED (R127) Chase decoding of one inner codeword yields CLEAN, CORRECTED or FAILED, and the counters are charged. -/
  | innerCodewordDecoded (n : Fin 17) (hard : BitVec 136) (rel : List (Fin 17)) (phase : Fin 40)
  /-- LPC_BLOCK_PERIOD (R133) In each block period the LPC decoder makes its passes, scores the frame bits, and advances hunt, verify or lock. -/
  | lpcBlockPeriod (n : Fin 17) (score : Fin 290)
  /-- LPC_BLOCK_END (R135) The oldest block leaves the window, and its rows are checked, delivered or marked. -/
  | lpcBlockEnd (n : Fin 17) (rows : List LpcRow)
  /-- ITER_CHG (R134) At the lane's next block boundary a new iteration count I takes effect. -/
  | iterChg (n : Fin 17)
  /-- RS_CODEWORD_MONITORED (R139) An RS monitor records CLEAN, CORRECTED or UNCORRECTABLE for a codeword, and the port counters and tap are updated. -/
  | rsCodewordMonitored (p : Fin 64) (hostBound : Bool) (flow : Fin 4) (outcome : RsOutcome) (codeword : List Byte)
  /-- ADD (R154) sd := sa + sb. -/
  | addOp (e : EngineId) (d a b : Fin 16)
  /-- SUB (R154) sd := sa - sb. -/
  | subOp (e : EngineId) (d a b : Fin 16)
  /-- AND (R154) Bitwise AND of scalar registers. -/
  | andOp (e : EngineId) (d a b : Fin 16)
  /-- OR (R154) Bitwise OR of scalar registers. -/
  | orOp (e : EngineId) (d a b : Fin 16)
  /-- XOR (R154) Bitwise XOR of scalar registers. -/
  | xorOp (e : EngineId) (d a b : Fin 16)
  /-- SLL (R154) Logical left shift by sb. -/
  | sllOp (e : EngineId) (d a b : Fin 16)
  /-- SRL (R154) Logical right shift by sb. -/
  | srlOp (e : EngineId) (d a b : Fin 16)
  /-- SRA (R154) Arithmetic right shift by sb. -/
  | sraOp (e : EngineId) (d a b : Fin 16)
  /-- SLT (R154) Signed set-less-than. -/
  | sltOp (e : EngineId) (d a b : Fin 16)
  /-- SLTU (R154) Unsigned set-less-than. -/
  | sltuOp (e : EngineId) (d a b : Fin 16)
  /-- MIN (R154) Signed minimum. -/
  | minOp (e : EngineId) (d a b : Fin 16)
  /-- MAX (R154) Signed maximum. -/
  | maxOp (e : EngineId) (d a b : Fin 16)
  /-- MUL (R154) Low 32 bits of the product. -/
  | mulOp (e : EngineId) (d a b : Fin 16)
  /-- MULH (R154) High 32 bits of the signed product. -/
  | mulhOp (e : EngineId) (d a b : Fin 16)
  /-- CMP (R154) Sets the flags from sa - sb. -/
  | cmp (e : EngineId) (a b : Fin 16)
  /-- ADDI (R154) Adds a sign-extended immediate. -/
  | addi (e : EngineId) (d a : Fin 16) (i : BitVec 18)
  /-- ANDI (R154) AND with a zero-extended immediate. -/
  | andi (e : EngineId) (d a : Fin 16) (i : BitVec 18)
  /-- ORI (R154) OR with a zero-extended immediate. -/
  | ori (e : EngineId) (d a : Fin 16) (i : BitVec 18)
  /-- XORI (R154) XOR with a zero-extended immediate. -/
  | xori (e : EngineId) (d a : Fin 16) (i : BitVec 18)
  /-- SLLI (R154) Logical left shift by an immediate. -/
  | slli (e : EngineId) (d a : Fin 16) (i : Fin 32)
  /-- SRLI (R154) Logical right shift by an immediate. -/
  | srli (e : EngineId) (d a : Fin 16) (i : Fin 32)
  /-- SRAI (R154) Arithmetic right shift by an immediate. -/
  | srai (e : EngineId) (d a : Fin 16) (i : Fin 32)
  /-- LUI (R154) sd := imm << 14. -/
  | lui (e : EngineId) (d : Fin 16) (i : BitVec 18)
  /-- CMPI (R154) Sets the flags from sa - sext(imm). -/
  | cmpi (e : EngineId) (a : Fin 16) (i : BitVec 18)
  /-- SATI (R154) Saturates sa to imm + 1 signed bits. -/
  | sati (e : EngineId) (d a : Fin 16) (i : Fin 32)
  /-- LW (R154) Loads a word from data SRAM. -/
  | lw (e : EngineId) (d a : Fin 16) (i : BitVec 18)
  /-- LH (R154) Loads a signed half-word. -/
  | lh (e : EngineId) (d a : Fin 16) (i : BitVec 18)
  /-- LHU (R154) Loads an unsigned half-word. -/
  | lhu (e : EngineId) (d a : Fin 16) (i : BitVec 18)
  /-- SW (R154) Stores a word to data SRAM. -/
  | sw (e : EngineId) (d a : Fin 16) (i : BitVec 18)
  /-- SH (R154) Stores a half-word. -/
  | sh (e : EngineId) (d a : Fin 16) (i : BitVec 18)
  /-- BR (R154) Conditional PC-relative branch, which can end a hardware loop. -/
  | br (e : EngineId) (cond : Fin 9) (off : BitVec 18)
  /-- JAL (R154) Jumps and links into s15. -/
  | jal (e : EngineId) (target : BitVec 11)
  /-- JR (R154) Jumps to the address in a register. -/
  | jr (e : EngineId) (a : Fin 16)
  /-- LOOP (R155) Starts the single hardware loop with the count in sa. -/
  | loop (e : EngineId) (a : Fin 16) (last : BitVec 11)
  /-- WAIT (R169) Waits until a masked event is pending, then returns the pending events. -/
  | wait (e : EngineId) (d : Fin 16) (mask : BitVec 8)
  /-- HALT (R153) Stops the engine with HALTED and clears RUN. -/
  | halt (e : EngineId)
  /-- PRD (R156) Reads one primitive word, setting P when refused. -/
  | prd (e : EngineId) (d a : Fin 16) (addr : BitVec 16)
  /-- PWR (R156) Writes one primitive word, setting P when refused. -/
  | pwr (e : EngineId) (d a : Fin 16) (addr : BitVec 16)
  /-- VLDP (R156) Loads 16 primitive words into a vector, saturated. -/
  | vldp (e : EngineId) (d a : Fin 16) (addr : BitVec 16)
  /-- VSTP (R156) Stores a vector to 16 primitive words. -/
  | vstp (e : EngineId) (d a : Fin 16) (addr : BitVec 16)
  /-- VADD (R154) Lane-wise saturating add. -/
  | vadd (e : EngineId) (d a b : Fin 16)
  /-- VSUB (R154) Lane-wise saturating subtract. -/
  | vsub (e : EngineId) (d a b : Fin 16)
  /-- VMUL (R154) Lane-wise multiply, shift and round. -/
  | vmul (e : EngineId) (d a b : Fin 16) (sh : BitVec 6)
  /-- VMIN (R154) Lane-wise signed minimum. -/
  | vmin (e : EngineId) (d a b : Fin 16)
  /-- VMAX (R154) Lane-wise signed maximum. -/
  | vmax (e : EngineId) (d a b : Fin 16)
  /-- VSGN (R154) Lane-wise product of signs. -/
  | vsgn (e : EngineId) (d a b : Fin 16)
  /-- VSHR (R154) Lane-wise rounded arithmetic right shift. -/
  | vshr (e : EngineId) (d a : Fin 16) (sh : BitVec 6)
  /-- VSHL (R154) Lane-wise saturating left shift. -/
  | vshl (e : EngineId) (d a : Fin 16) (sh : BitVec 6)
  /-- VSAT (R154) Lane-wise saturation to sh bits. -/
  | vsat (e : EngineId) (d a : Fin 16) (sh : BitVec 6)
  /-- VAND (R154) Lane-wise bitwise AND. -/
  | vand (e : EngineId) (d a b : Fin 16)
  /-- VMOV (R154) Vector move. -/
  | vmov (e : EngineId) (d a : Fin 16)
  /-- VMAC (R154) Multiply-accumulates into an accumulator. -/
  | vmac (e : EngineId) (a b : Fin 16) (n sc : Fin 2)
  /-- VRDA (R154) Reads an accumulator into a vector, optionally clearing it. -/
  | vrda (e : EngineId) (d : Fin 16) (n clr : Fin 2) (sh : BitVec 6)
  /-- VCLR (R154) Clears an accumulator. -/
  | vclr (e : EngineId) (n : Fin 2)
  /-- VRED (R154) Sums the 16 lanes into a scalar. -/
  | vred (e : EngineId) (d a : Fin 16)
  /-- VBC (R154) Broadcasts a scalar to every lane. -/
  | vbc (e : EngineId) (d a : Fin 16)
  /-- VEXT (R154) Extracts one lane to a scalar. -/
  | vext (e : EngineId) (d a lane : Fin 16)
  /-- VINS (R154) Inserts a scalar into one lane. -/
  | vins (e : EngineId) (d b lane : Fin 16)
  /-- VLD (R154) Loads 32 bytes of data SRAM into a vector. -/
  | vld (e : EngineId) (d a : Fin 16) (i : BitVec 18)
  /-- VST (R154) Stores a vector to 32 bytes of data SRAM. -/
  | vst (e : EngineId) (d a : Fin 16) (i : BitVec 18)
  /-- ILLEGAL_INSTRUCTION (R152) A reserved opcode, function, condition or field value is issued. -/
  | illegalInstruction (e : EngineId) (w : Word)
  /-- ENGINE_WATCHDOG (R152) 2^WDOG engine cycles pass without a completed WAIT, and the engine faults WATCHDOG. -/
  | engineWatchdog (e : EngineId)
  /-- RX_SWAP (R162) A primitive write swaps the receive bank after the pair 1 check. -/
  | rxSwap (e : EngineId) (v : Word)
  /-- TX_SWAP (R162) A primitive write swaps the transmit bank. -/
  | txSwap (e : EngineId) (v : Word)
  /-- PD_OUT (R160) A primitive write supplies e(t) for the next engine cycle. -/
  | pdOut (e : EngineId) (v : Word)
  /-- PHOFS_STEP (R157) A primitive write adds a one-time phase step. -/
  | phofsStep (e : EngineId) (v : Word)
  /-- SLOT_MAP (R161) A primitive write assigns a sub-converter to a slot, or is refused. -/
  | slotMap (e : EngineId) (v : Word)
  /-- GA_ACK (R157) Writing GA_STAT acknowledges READY or clears OVERRUN. -/
  | gaAck (e : EngineId) (v : Word)
  /-- HIST_START (R159) START clears the bins and starts an error histogram window. -/
  | histStart (e : EngineId) (v : Word)
  /-- HIST_DONE (R159) The histogram window ends, and BUSY clears with DONE set. -/
  | histDone (l : LaneId) (bins : List (Fin 256 × Nat))
  /-- GA_WINDOW_END (R158) A gradient window ends: sums go to the result buffer, READY sets and SEQ advances, or the window is skipped under D. -/
  | gaWindowEnd (l : LaneId) (sums : List (Fin 144 × Int))
  /-- TIMER_CMP (R169) A write of TIMER_CMP sets the compare value and ends a pending TIMER event. -/
  | timerCmp (e : EngineId) (v : Word)
  /-- TIMER_MATCH (R169) The engine TIMER reaches TIMER_CMP, and the TIMER event becomes pending. -/
  | timerMatch (e : EngineId)
  /-- MBX_DONE (R168) The engine completes the mailbox command, copying the responses and setting DONE. -/
  | mbxDone (e : EngineId) (v : Word)
  /-- MBX_NOTE (R168) The engine posts a note code. -/
  | mbxNote (e : EngineId) (v : Word)
  /-- PWR_RSP (R171) The program answers a power request with ACCEPT, DELAY or REFUSE. -/
  | pwrRsp (e : EngineId) (v : Word)
  /-- TRN_REQ (R194) The host engine sends a training coefficient request or preset. -/
  | trnReq (e : EngineId) (v : Word)
  /-- TRN_READY (R194) The host engine reports local receiver ready. -/
  | trnReady (e : EngineId) (v : Word)
  /-- ENGINE_RUN (R153) RUN 0→1 starts the engine at word 0 of the bank in use. -/
  | engineRun (q : Requester) (e : EngineId)
  /-- ENGINE_STEP (R153) STEP executes one instruction while halted. -/
  | engineStep (q : Requester) (e : EngineId)
  /-- UC_DATA_WRITE (R164) A microcode word is stored and the bank unsealed, or the write is refused with UC_REFUSED. -/
  | ucDataWrite (q : Requester) (e : EngineId) (v : Word)
  /-- UC_SEAL (R165) SEAL starts sealing a bank's pages with its LEN. -/
  | ucSeal (q : Requester) (e : EngineId) (bank : Fin 2) (len : BitVec 12)
  /-- INVALIDATE (R165) INVALIDATE clears a bank's VALID bit. -/
  | invalidate (q : Requester) (e : EngineId) (bank : Fin 2)
  /-- SEALED (R165) Sealing completes: VALID, LEN and the version are recorded, and SEALED is set. -/
  | sealed (e : EngineId)
  /-- MICROCODE_SWAP (R167) At an engine-cycle boundary after a bank change, the new bank is in use and PC := 0. -/
  | microcodeSwap (e : EngineId)
  /-- MBX_CMD (R168) A host or Keeper command write sets BUSY and DOORBELL, or sets OVERRUN when busy. -/
  | mbxCmd (q : Requester) (e : EngineId) (v : Word)
  /-- TRAIN (R170) Supplied line program: adapts the receive chain until convergence or the time limit. -/
  | train (n : Fin 17) (converged : Bool) (words : List (Fin 145 × BitVec 12)) (windows : BitVec 16) (err : Word)
  /-- FREEZE (R170) Supplied line program: stops bank writes and swaps. -/
  | freeze (n : Fin 17)
  /-- RESUME (R170) Supplied line program: moves from FROZEN to TRACKING. -/
  | resume (n : Fin 17)
  /-- SET_MU (R170) Supplied line program: sets the adaptation step shifts. -/
  | setMu (n : Fin 17)
  /-- SET_LOOP (R170) Supplied line program: sets the acquisition and tracking loop gains. -/
  | setLoop (n : Fin 17)
  /-- STATUS (R170) Supplied line program: returns PROG_STAT and the latest error power. -/
  | status (n : Fin 17) (err : Word)
  /-- EYE (R170) Supplied line program: runs an automatic eye scan. -/
  | eye (n : Fin 17) (hits : Word) (results : List EyeResult)
  /-- REMAP (R170) Supplied line program: writes SLOT_MAP. -/
  | remap (n : Fin 17)
  /-- SPARE_TRAIN (R170) Supplied line program: trains on a mirrored stream. -/
  | spareTrain (n : Fin 17) (converged : Bool) (words : List (Fin 145 × BitVec 12)) (windows : BitVec 16) (err : Word)
  /-- STOP (R170) Supplied line program: ends adaptation. -/
  | stop (n : Fin 17)
  /-- ADAPT (R196) Supplied host program: trains and tracks the masked lanes. -/
  | adapt (k : Fin 4)
  /-- HOST_FREEZE (R196) Supplied host program: freezes the masked lanes. -/
  | hostFreeze (k : Fin 4)
  /-- HOST_RESUME (R196) Supplied host program: resumes tracking on the masked lanes. -/
  | hostResume (k : Fin 4)
  /-- HOST_SET_MU (R196) Supplied host program: sets the step shifts. -/
  | hostSetMu (k : Fin 4)
  /-- HOST_STATUS (R196) Supplied host program: returns a lane's status and error power. -/
  | hostStatus (k : Fin 4) (err : Word)
  /-- SET_PRESET (R196) Supplied host program: chooses the preset requested first in TRAIN. -/
  | setPreset (k : Fin 4)
  /-- HOST_STOP (R196) Supplied host program: ends adaptation on the masked lanes. -/
  | hostStop (k : Fin 4)
  /-- HL_CTL_WRITE (R188) An HL_CTL write enables or disables a host lane, starting negotiation or bypass, and refuses illegal FORCE_RATE or NEG_BYPASS changes. -/
  | hlCtlWrite (q : Requester) (m : Fin 64) (v : Word)
  /-- HL_CAL_DONE (R177) Host ADC calibration for all four rates completes. -/
  | hlCalDone (m : Fin 64)
  /-- BLOCK_LOCK (R184) Clause 49 block lock is gained, and the lane starts the page exchange. -/
  | blockLock (m : Fin 64)
  /-- CAPABILITY_PAGE_RX (R186) A capability page is received, checked, and accepted after three agree; it drives negotiation. -/
  | capabilityPageRx (m : Fin 64) (page : BitVec 64)
  /-- CAPABILITY_PAGE_TX (R188) A page is sent, and the countdown advances toward SWITCH. -/
  | capabilityPageTx (m : Fin 64)
  /-- SWITCH_ELAPSED (R188) 2 µs after SWITCH, the lane changes PLL and rate and enters TRAIN or UP. -/
  | switchElapsed (m : Fin 64)
  /-- TRAINING_FRAME_RX (R190) A training frame applies partner requests and reports readiness; both ready gives UP. -/
  | trainingFrameRx (m : Fin 64) (tap : Fin 5) (op : Fin 3) (preset : Fin 4) (ready : Bool)
  /-- TRAIN_LIMIT (R188) TRAIN_LIMIT expires in TRAIN, and the lane goes to FALLBACK. -/
  | trainLimit (m : Fin 64)
  /-- NEG_TIMER_LIMIT (R188) NEG_TIMER.LIMIT expires before SWITCH, so NEG_FAIL is raised and the lane returns to LOCK. -/
  | negTimerLimit (m : Fin 64)
  /-- LINK_DOWN_TIMEOUT (R188) CDR_LOCK, or NRZ block lock, is lost for 10 ms in UP, so DOWN is raised and the lane renegotiates. -/
  | linkDownTimeout (m : Fin 64)
  /-- RESTART (R188) NEG_CTL.RESTART returns the lane to LOCK with a new SEQ. -/
  | restart (q : Requester) (m : Fin 64)
  /-- RX_IDLE_SET (R191) The mean absolute sample stays below RX_THR for 64 ns, and the loops hold. -/
  | rxIdleSet (m : Fin 64)
  /-- RX_IDLE_CLEAR (R191) The signal returns, and RX_IDLE clears. -/
  | rxIdleClear (m : Fin 64)
  /-- FAST_EXIT_MARKER (R192) The partner's burst end marker, or NRZ block lock, returns the lane to UP. -/
  | fastExitMarker (m : Fin 64)
  /-- HCOEF_DATA_WRITE (R178) A host lane bank word is written, or refused when it addresses the bank in use. -/
  | hcoefDataWrite (q : Requester) (m : Fin 64) (v : Word)
  /-- MUX_LOCK (R203) Four consecutive good groups give mux lock on a lane. -/
  | muxLock (n : Fin 17)
  /-- MUX_LOCK_LOST (R203) Eight all-uncorrectable groups clear mux lock. -/
  | muxLockLost (n : Fin 17)
  /-- MARKER_LOCK (R206) Marker lock on every PCS lane or flow moves the direction to DESKEW. -/
  | markerLock (p : Fin 64) (hostBound : Bool) (skew : BitVec 16)
  /-- DESKEW_DONE (R206) The measured skew is judged: ALIGNED with a new generation, or SKEW_OOR. -/
  | deskewDone (p : Fin 64) (hostBound : Bool)
  /-- MARKER_LOSS (R206) Three consecutive missing or mismatched marker groups return the direction to HUNT. -/
  | markerLoss (p : Fin 64) (hostBound : Bool)
  /-- LANES_NOT_READY (R206) Lanes stop being ready, ENABLE clears or a pair fails, and the direction goes to DOWN. -/
  | lanesNotReady (p : Fin 64) (hostBound : Bool)
  /-- FORCE_TX (R206) FORCE_TX sends the line-bound direction to HUNT. -/
  | forceTx (q : Requester) (p : Fin 64)
  /-- FORCE_RX (R206) FORCE_RX sends the host-bound direction to HUNT. -/
  | forceRx (q : Requester) (p : Fin 64)
  /-- SLIP (R208) The elastic buffer overflows or underflows, and a codeword is omitted or repeated. -/
  | slip (p : Fin 64)
  /-- MON_WINDOW_END (R215) A monitor window ends, and the DEG and UCT flags are updated. -/
  | monWindowEnd (p : Fin 64) (hostBound : Bool)
  /-- PAIR_HAIL (R223) PAIR_CTL.HAIL starts hailing with a new ephemeral key. -/
  | pairHail (q : Requester)
  /-- PAIR_RELEASE (R223) PAIR_CTL.RELEASE sends RELEASE and enters RELEASING. -/
  | pairRelease (q : Requester)
  /-- HAIL_TIMER (R223) Every HAIL_PERIOD while HAILING, a HAIL is sent. -/
  | hailTimer
  /-- HAIL_LIMIT (R223) HAIL_LIMIT elapses while HAILING, and PAIR_FAIL is raised. -/
  | hailLimit
  /-- CONFIRM_WAIT_EXPIRY (R223) No CONFIRM arrives within 4 × HAIL_PERIOD, so the keys are erased. -/
  | confirmWaitExpiry
  /-- HEARTBEAT_TIMER (R223) Every heartbeat PERIOD while PAIRED or ADRIFT, a HEARTBEAT is sent. -/
  | heartbeatTimer
  /-- ADRIFT (R223) No message is accepted for MISS × PERIOD: the relations are invalidated and an anchored record is written. -/
  | adrift
  /-- ADRIFT_LIMIT (R223) ADRIFT_LIMIT elapses, the record is erased, and RELEASED is raised. -/
  | adriftLimit
  /-- HAIL (R223) A HAIL message is received and answered, resolved as a collision, or discarded. -/
  | hail (id : BitVec 128) (ok : Bool)
  /-- ANSWER (R223) A valid ANSWER derives the keys, sends CONFIRM, and enters PAIRED. -/
  | answer (id : BitVec 128) (ok : Bool)
  /-- CONFIRM (R223) A valid CONFIRM with counter 1 enters PAIRED. -/
  | confirm (a : MsgAuth)
  /-- HEARTBEAT (R226) A heartbeat is authenticated and updates the twin's versions and reserve delay. -/
  | heartbeat (a : MsgAuth) (act prev : Word) (spareSt : Fin 9) (rsv : BitVec 12)
  /-- POS (R229) A POS message is sampled against the local count and relations are computed and returned. -/
  | pos (a : MsgAuth) (l : List PosEntry)
  /-- POS_ACK (R230) POS_ACK installs the position relations. -/
  | posAck (a : MsgAuth) (l : List PosAck)
  /-- POS_RUN (R228) POS_CTL.RUN starts the position handshake, measuring a range first when none is valid. -/
  | posRun (q : Requester)
  /-- POS_AUTO_RERUN (R230) With AUTO, the device reruns the handshake for ports whose relation became invalid. -/
  | posAutoRerun
  /-- RANGE_RUN (R231) RANGE_CTL.RUN sends RANGE to measure the round trip. -/
  | rangeRun (q : Requester)
  /-- RANGE (R231) A RANGE is received and answered with RANGE_ECHO. -/
  | range (a : MsgAuth)
  /-- RANGE_ECHO (R231) A RANGE_ECHO gives the round trip, one-way delay and fibre length. -/
  | rangeEcho (a : MsgAuth) (t1 t2 t3 t4 : BitVec 64)
  /-- COORD_START (R232) COORD_CTL.START begins a coordinated transaction, or refuses it locally. -/
  | coordStart (q : Requester)
  /-- COORD_ABORT (R233) COORD_CTL.ABORT sends ABORT and disarms. -/
  | coordAbort (q : Requester)
  /-- PROPOSE (R232) The responder checks a PROPOSE, arms its trigger and answers ACCEPT or REJECT. -/
  | propose (a : MsgAuth) (tag : BitVec 16) (action : Fin 4) (port : Fin 64) (n : BitVec 64) (ver : Word)
  /-- ACCEPT (R232) On ACCEPT the initiator sets its trigger and starts sending GO. -/
  | accept (a : MsgAuth) (tag : BitVec 16) (m : BitVec 64)
  /-- REJECT (R232) A REJECT ends the transaction with its reason. -/
  | reject (a : MsgAuth) (tag : BitVec 16) (reason : Fin 16)
  /-- GO (R233) GO received before the cutoff lets the responder commit. -/
  | go (a : MsgAuth) (tag : BitVec 16)
  /-- ABORT (R233) ABORT received before the cutoff makes the end disarm. -/
  | abort (a : MsgAuth) (tag : BitVec 16)
  /-- COORD_CUTOFF (R233) The cutoff is reached, and each end decides whether to commit or disarm with SKIPPED. -/
  | coordCutoff
  /-- PREPARE (R235) SPARE_CTL.OP PREPARE starts mirroring onto LL16 and sends SPARE_REQ, or is refused. -/
  | prepare (q : Requester) (v : Word)
  /-- SWITCH (R239) SPARE_CTL.OP SWITCH requests the coordinated spare switch from READY. -/
  | switch (q : Requester) (v : Word)
  /-- RETURN (R240) SPARE_CTL.OP RETURN starts handing the lane back from LL16. -/
  | returnOp (q : Requester) (v : Word)
  /-- SPARE_ABORT (R239) SPARE_CTL.OP ABORT returns the operation to IDLE. -/
  | spareAbort (q : Requester) (v : Word)
  /-- ASSIGN (R240) SPARE_CTL.OP ASSIGN assigns a lane to LL16 while its ports are disabled. -/
  | assign (q : Requester) (v : Word)
  /-- FORCE (R241) SPARE_CTL.OP FORCE permits a non-hitless switch outside the skew window. -/
  | force (q : Requester) (v : Word)
  /-- SPARE_REQ (R239) The responder tests a SPARE_REQ, mirrors and trains, and answers SPARE_RSP. -/
  | spareReq (a : MsgAuth) (lane : Fin 16) (ret : Bool)
  /-- SPARE_RSP (R239) SPARE_RSP moves the initiator to TRAIN, or to IDLE with REJECTED. -/
  | spareRsp (a : MsgAuth) (reason : Fin 16)
  /-- SPARE_STATUS (R238) SPARE_STATUS reports the twin's READY, SWITCHED or SWITCH_SKIPPED. -/
  | spareStatus (a : MsgAuth) (x : SpareNote)
  /-- SPARE_MATCH (R236) After 65,536 consecutive equal groups MATCH sets, which can move the operation to READY. -/
  | spareMatch (delta : BitVec 24)
  /-- SPARE_MISMATCH (R236) An unequal clean group, or a lock loss on LL16, clears MATCH. -/
  | spareMismatch
  /-- SPARE_TRAIN_LIMIT (R239) The sparing TRAIN_LIMIT elapses, ending with NOT_TRAINED or SKEW. -/
  | spareTrainLimit
  /-- EMERGENCY (R242) A lane loses lock or signal for HOLD ms and emergency sparing mirrors and switches it. -/
  | emergency (lane : Fin 16)
  /-- EMERGENCY_IDENTIFIED (R242) With ANSWER_EN, LL16's stream matches a lane, which is then spared on the receive side. -/
  | emergencyIdentified (lane : Fin 16)
  /-- HEALTH_REQUEST (R243) HEALTH_CTL.REQ sends HEALTH_REQ. -/
  | healthRequest (q : Requester)
  /-- HEALTH_REQ (R243) A HEALTH_REQ is answered with the 16 newest anchored records. -/
  | healthReq (a : MsgAuth)
  /-- HEALTH (R243) A HEALTH answer replaces the health table. -/
  | health (a : MsgAuth) (l : List HealthRec)
  /-- RELEASE (R223) A RELEASE is accepted and answered, and the record is erased. -/
  | release (a : MsgAuth)
  /-- RELEASE_ACK (R223) RELEASE_ACK ends RELEASING. -/
  | releaseAck (a : MsgAuth)
  /-- RELEASE_RESEND (R223) RELEASE is resent until three have gone, and then the pairing ends. -/
  | releaseResend
  /-- TX_QCTL_GO (R261) A Foghorn buffer is queued with LEN, or refused. -/
  | txQctlGo (q : Requester) (buf : Fin 4) (len : BitVec 10)
  /-- PACKET_TX_START (R261) A queued buffer starts transmission when the transmitter is idle, or at a slot. -/
  | packetTxStart
  /-- TX_DONE (R261) A packet's last symbol is sent, BUSY clears and DONE sets. -/
  | txDone (ago : Nat)
  /-- FOG_RX_ENABLE (R262) RX_EN 0→1 enters SEARCH and chooses the path; 1→0 abandons any reception. -/
  | fogRxEnable (q : Requester) (v : Word)
  /-- PREAMBLE_DETECTION (R262) A preamble is detected and starts or replaces a reception, or is counted COLLIDED. -/
  | preambleDetection (metric : Nat) (power : BitVec 16)
  /-- PREAMBLE_END (R262) The first symbol outside the preamble bin moves the receiver to MARKER. -/
  | preambleEnd
  /-- FRAME_MARKER (R262) The frame marker is found and fixes timing and frequency, or it is missed. -/
  | frameMarker (found : Bool)
  /-- HEADER_DECODED (R262) The header passes and is time-stamped, or fails with HDR_FAIL. -/
  | headerDecoded (info : BitVec 32) (crc : BitVec 16) (ago : Nat)
  /-- PAYLOAD_END (R265) The payload CRC is checked and the packet is delivered to TWIN or the ring, or PAY_FAIL is raised. -/
  | payloadEnd (data : List Byte) (crc : BitVec 32) (snr power drift : BitVec 16)
  /-- TRACK_LOST (R263) Two consecutive weak pilots abandon the reception. -/
  | trackLost
  /-- RX_POP (R265) RX_POP frees the oldest ring entry. -/
  | rxPop (q : Requester)
  /-- DUTY_LISTEN (R268) In PS4 the receiver listens for PRE_DET + 1 symbols in every PS4_PERIOD. -/
  | dutyListen (listen : Bool)
  /-- FREQ_WRITE (R271) Writing TBn_FREQ_HI applies a new frequency word, or refuses it. -/
  | freqWrite (q : Requester) (n : Fin 4) (w : BitVec 64)
  /-- STEP_SET (R272) STEP_GO in SET mode requests that the time base take the step value at the next tick. -/
  | stepSet (q : Requester) (n : Fin 4)
  /-- STEP_ADD (R272) STEP_GO in ADD mode requests that the step value be added at the next tick. -/
  | stepAdd (q : Requester) (n : Fin 4)
  /-- STEP_SET_TPI (R272) STEP_GO in SET_TPI0 or SET_TPI1 mode waits for the capture edge. -/
  | stepSetTpi (q : Requester) (n : Fin 4) (j : Fin 2)
  /-- STEP_APPLIED (R272) A pending step is applied at the tick or edge, or refused. -/
  | stepApplied (n : Fin 4)
  /-- STEP_CANCEL (R272) STEP_CANCEL withdraws a pending step. -/
  | stepCancel (q : Requester) (n : Fin 4)
  /-- CLR_COARSE (R273) CLR_COARSE clears COARSE and UNC. -/
  | clrCoarse (q : Requester) (n : Fin 4)
  /-- TB_ENABLE (R278) A write of TBn_CTL.EN starts the time base with re-seeding, or holds it. -/
  | tbEnable (q : Requester) (n : Fin 4) (v : Word)
  /-- SNAP (R274) SNAP_CTL.SNAP captures all time bases and the AON counter at one edge. -/
  | snap (q : Requester)
  /-- EVT_TB_WRITE (R275) Selects the event time base, from the second fabric cycle onwards. -/
  | evtTbWrite (q : Requester) (n : Fin 4)
  /-- FRAME_STAMP (R279) A port TSU stamps a frame or marker codeword with corrections, or drops it when the FIFO is full. -/
  | frameStamp (p : Fin 64) (i : Fin 4) (hostBound marker : Bool) (bytes : BitVec 64) (key : BitVec 16)
  /-- PT_POP (R282) Frees the oldest port stamp. -/
  | ptPop (q : Requester) (v : Word)
  /-- LT_POP (R283) Frees the oldest lane event. -/
  | ltPop (q : Requester)
  /-- TPO_EDGE (R284) A pulse output reaches its START or period instant and drives its pin. -/
  | tpoEdge (k : Fin 4)
  /-- TPI_EDGE (R286) An active capture edge is time-stamped into the FIFO, or dropped. -/
  | tpiEdge (j : Fin 2) (falling : Bool)
  /-- TPI_POP (R286) Frees the oldest capture. -/
  | tpiPop (q : Requester) (j : Fin 2)
  /-- SE_WRITE (R289) A host write of an entry word disables and disarms, or enables and evaluates the trigger. -/
  | seWrite (q : Requester) (w : Fin 7) (v : Word)
  /-- ENTRY_FIRE (R287) An entry's trigger is reached, or passed under its late attribute, and the entry fires, skips or is refused. -/
  | entryFire (ks : List (Fin 256))
  /-- HIST_POP (R292) Frees the oldest scheduler history record. -/
  | histPop (q : Requester)
  /-- SCHED_WAKE (R294) The AON compare of a WAKE time entry is reached, and the device wakes early. -/
  | schedWake
  /-- REF_CTL_WRITE (R301) A reference selection write clears REF_SETTLED and aborts calibration. -/
  | refCtlWrite (q : Requester) (v : Word)
  /-- REF_SETTLED (R301) The reference settling time ends, and REF_SETTLED sets. -/
  | refSettled
  /-- SEQ_START (R303) HKCc START begins a pass, or sets TRIG_MISS when one runs. -/
  | seqStart (q : Requester) (c : Fin 4)
  /-- SEQ_STOP (R303) HKCc STOP ends the pass after the conversion in progress. -/
  | seqStop (q : Requester) (c : Fin 4)
  /-- HK_RESULT (R312) A filtered result leaves the chain with its tags and stamp, enters the FIFO, and advances the visit and pass. -/
  | hkResult (c : Fin 4) (x : HkSample)
  /-- HK_CAL_START (R305) Calibration START begins core calibration at all gains, or is refused. -/
  | hkCalStart (q : Requester) (c : Fin 4)
  /-- CAL_DONE (R305) Core calibration ends and writes the factors and residuals. -/
  | calDone (c : Fin 4) (cal : List HkCal)
  /-- HK_RX_WRITE (R253) Enabling the photodiode path claims a core and abandons its pass. -/
  | hkRxWrite (q : Requester) (v : Word)
  /-- FCOEF_DATA_WRITE (R308) A FIR coefficient write applies, or is refused for the bank in use. -/
  | fcoefDataWrite (q : Requester) (v : BitVec 16)
  /-- HK_POP (R312) Frees the oldest housekeeping result. -/
  | hkPop (q : Requester) (c : Fin 4)
  /-- CH_CODE_WRITE (R315) A CHn_CODE write updates the input register and loads at the next tick in immediate mode. -/
  | chCodeWrite (q : Requester) (n : Fin 32) (v : BitVec 16)
  /-- STROBE (R315) A STROBE write loads every channel of the named groups. -/
  | strobe (q : Requester) (groups : BitVec 16)
  /-- STREAM_RESUME (R315) RESUME starts stream output on a channel. -/
  | streamResume (q : Requester) (n : Fin 32)
  /-- MODE_CHANGE (R316) A change of MODE starts the clear-code mode-change sequence. -/
  | modeChange (q : Requester) (n : Fin 32) (mode : Fin 4)
  /-- CHANGE_DONE (R316) The mode-change sequence ends, and the channel takes its code. -/
  | changeDone (n : Fin 32)
  /-- SHORT_CIRCUIT (R318) The voltage-mode current limit acts, and SC is set. -/
  | shortCircuit (n : Fin 32)
  /-- COMPLIANCE (R318) A current-mode output leaves compliance. -/
  | compliance (n : Fin 32)
  /-- MEAS (R323) MEAS_CTL.MEAS starts a thermal measurement, or sets MISS. -/
  | meas (q : Requester)
  /-- MEAS_TIMER (R323) The periodic timer expires and starts a measurement. -/
  | measTimer
  /-- MEASUREMENT_DONE (R325) A measurement completes: TMAX and TAVG update, then band, throttle and critical limit are evaluated. -/
  | measurementDone (l : List (Option Int))
  /-- FORCE_BAND (R327) Setting FORCE_EN or changing FORCE_BAND sets the band at once. -/
  | forceBand (q : Requester) (v : Word)
  /-- INVAL_CTL (R337) INVAL_CTL GO starts invalidating an SRAM region and drops its seals. -/
  | invalCtl (q : Requester) (v : Word)
  /-- INVAL_DONE (R337) The region invalidate completes, and INVAL_BUSY clears. -/
  | invalDone
  /-- SEAL_CTL (R339) MEM.SEAL_CTL starts sealing golden-store pages, or is refused. -/
  | sealCtl (q : Requester) (v : Word)
  /-- SEAL_DONE (R339) Page sealing completes. -/
  | sealDone
  /-- REP_APPLY (R340) REP_DATA APPLY makes a soft repair, or is refused. -/
  | repApply (q : Requester) (v : Word)
  /-- DDR_INIT (R341) CFG.INIT starts DDR4 training. -/
  | ddrInit (q : Requester) (v : Word)
  /-- DDR_TRAINED (R341) Training ends with TRAINED, or with TRAIN_FAIL. -/
  | ddrTrained (ok : Bool)
  /-- DDR_SEAL_CTL (R345) DDR.SEAL_CTL seals a data-area page, or is refused. -/
  | ddrSealCtl (q : Requester) (v : Word)
  /-- PV_CTL (R346) PV_CTL GO clears the page-valid bits and seals of a region. -/
  | pvCtl (q : Requester) (v : Word)
  /-- DDR_REFRESH (R347) The refresh interval expires and a refresh is issued. -/
  | ddrRefresh
  /-- PHY_RECENTRE (R347) The re-centring interval expires, and the channel is re-centred and ZQ-calibrated. -/
  | phyRecentre
  /-- SRAM_SCRUB (R349) The SRAM scrubber reads and corrects one line, and checks the page at its end. -/
  | sramScrub (flips : List Flip)
  /-- DDR_SCRUB (R349) The DDR4 scrubber reads one burst or sealed page and corrects it. -/
  | ddrScrub (flips : List Flip)
  /-- GOLDEN_RELOAD (R354) A poisoned page is reloaded from its golden copy, resealed and cleared. -/
  | goldenReload (flash : Option (List Byte))
  /-- CH_TAIL_WRITE (R359) Advancing TAIL gives a running channel new descriptors. -/
  | chTailWrite (q : Requester) (c : Fin 16) (v : Word)
  /-- RING_WRITE (R359) A ring register write resets HEAD and TAIL, or is refused while running. -/
  | ringWrite (q : Requester) (c : Fin 16) (hi : Bool) (v : Word)
  /-- DESCRIPTOR_START (R360) A channel takes the descriptor at HEAD and checks it. -/
  | descriptorStart (c : Fin 16) (desc : List Byte)
  /-- DESCRIPTOR_COMPLETE (R361) A descriptor completes with writeback of status, CRC and time, and may stop the channel in ERROR. -/
  | descriptorComplete (c : Fin 16) (source : List Byte) (writeErr : Bool)
  /-- LATE_WRITE_ERR (R362) A posted-mode write error arrives after completion, and the channel stops at the next boundary. -/
  | lateWriteErr (c : Fin 16) (idx : BitVec 16)
  /-- DMA_RUN (R364) RUN 0→1 resumes a channel at HEAD. -/
  | dmaRun (q : Requester) (c : Fin 16)
  /-- DMA_STOP (R364) STOP completes the current descriptor and stops. -/
  | dmaStop (q : Requester) (c : Fin 16)
  /-- DMA_ABORT (R364) ABORT ends the burst, writes back ABORTED and stops. -/
  | dmaAbort (q : Requester) (c : Fin 16)
  /-- SHARE_WINDOW (R365) A 10 µs share window ends, and the bus-share cap is applied. -/
  | shareWindow (moves : List (Fin 16 × Nat × List Byte))
  /-- TAP_BLOCK_CLOSE (R368) A tap block is completed or closed early and stored in the ring, or dropped with TAP_OVF. -/
  | tapBlockClose
  /-- TAP_CTL_WRITE (R367) A tap selection write applies, or is refused. -/
  | tapCtlWrite (q : Requester) (v : Word)
  /-- ALIAS_CTL_WRITE (R370) A CTL write through the TB1608 window also sets ACK_MODE. -/
  | aliasCtlWrite (q : Requester) (c : Fin 8) (v : Word)
  /-- LOG_DRAIN (R374) The Keeper drains four sealed staging pages to the DDR4 ring or anchored region. -/
  | logDrain
  /-- DRAIN_WRITE (R376) A write of LOG_CTL.DRAIN = 1 enables draining, or is refused. -/
  | drainWrite (q : Requester) (on : Bool)
  /-- ANCH_CLR (R375) ANCH_CLR empties the anchored region. -/
  | anchClrWrite (q : Requester)
  /-- HREC (R372) HREC_CTL GO creates a host record, or is refused. -/
  | hrec (q : Requester) (typ : BitVec 16) (anchor : Bool)
  /-- POWER_REQUEST (R384) PWR.REQ with GO starts entry to PS1–PS5, or sets BAD_REQ. -/
  | powerRequest (q : Requester) (target : Fin 8)
  /-- PCIE_WAKE (R393) A PCIe write of REQ with TARGET 0 wakes from PS1 or PS2. -/
  | pcieWake
  /-- HANDSHAKE_ANSWER (R386) A block answers; once all accept, entry proceeds through its steps to the state. -/
  | handshakeAnswer (b : Fin 179) (t : Nat)
  /-- HANDSHAKE_DELAY_EXPIRY (R386) A DELAY expires, and the controller asks the block again. -/
  | handshakeDelayExpiry (b : Fin 179)
  /-- HANDSHAKE_TIMEOUT (R386) HS_LIMIT elapses, and entry ends at AP1 with TIMEOUT. -/
  | handshakeTimeout
  /-- WAKE_PIN (R393) A debounced WAKE0–WAKE3 event wakes the device. -/
  | wakePin (p : Fin 4) (level : Bool)
  /-- WAKE (R389) A wake decision either rolls back an entry or starts the exit. -/
  | wake
  /-- DOM_ON (R399) DOM_REQ ON powers a domain up, subject to its parent and BIST exclusion. -/
  | domOn (q : Requester) (d : Fin 32)
  /-- DOM_OFF (R399) DOM_REQ OFF powers a domain and its descendants down after a handshake. -/
  | domOff (q : Requester) (d : Fin 32)
  /-- VOLTAGE_REQUEST (R397) A VDD_CORE request sends VOUT_COMMAND over PMBus, or completes at once when disabled. -/
  | voltageRequest
  /-- PMBUS_POLL (R397) Every 50 µs STATUS_WORD is read, and the request is acknowledged when good. -/
  | pmbusPoll (status : Option (BitVec 16))
  /-- ATTEMPT_TIMEOUT (R397) An attempt is not acknowledged in 2 ms, so it is retried or ends in PWR_FAULT. -/
  | attemptTimeout
  /-- PMB_ALERT (R397) PMB_ALERT_N low reads STATUS_WORD into PMB_STAT.LAST. -/
  | pmbAlert (status : BitVec 16)
  /-- PMB_ENABLE (R397) Enabling the PMBus controller reads VOUT_MODE, clears faults and sends the target. -/
  | pmbEnable (q : Requester) (vmode : Byte)
  /-- PROVISION (R403) LC_CTL 0x5C00_0001 starts fuse programming to PROVISIONED. -/
  | provision (q : Requester)
  /-- FIELD (R403) LC_CTL 0x5C00_0002 starts fuse programming to FIELD. -/
  | field (q : Requester)
  /-- LC_CHANGED (R403) Fuse programming completes, or fails with FUSE_FAIL. -/
  | lcChanged (ok : Bool)
  /-- ARB_CTL (R409) Raises the anti-rollback counter, or is refused. -/
  | arbCtl (q : Requester) (v : Word)
  /-- KEEPER_LOAD (R411) KCTL.LOAD in RECOVERY verifies and starts firmware from DMA staging. -/
  | keeperLoad (q : Requester) (x : FwImage)
  /-- KEEPER_RESTART (R392) KCTL.RESTART restarts the Keeper through the boot ROM. -/
  | keeperRestart (q : Requester)
  /-- KEEPER_HALT (R414) KCTL.HALT halts the Keeper at OPEN. -/
  | keeperHalt (q : Requester) (on : Bool)
  /-- KEEPER_STEP (R414) KCTL.STEP executes one Keeper instruction at OPEN. -/
  | keeperStep (q : Requester)
  /-- LOCKSTEP (R413) The lockstep cores disagree and are reset. -/
  | lockstep
  /-- CHAL_NEW (R416) Draws a new nonce. -/
  | chalNew (q : Requester)
  /-- REQUEST (R415) A tokenless debug-level request is granted or refused. -/
  | request (q : Requester) (level : Fin 4)
  /-- SUBMIT (R416) Starts the unlock token check and consumes the nonce. -/
  | submit (q : Requester)
  /-- TOKEN_CHECK_DONE (R416) The token check ends with a RESULT, which can unlock or start the transition to RETURNED. -/
  | tokenCheckDone (sigOk : Bool)
  /-- LOCK (R417) Returns the debug level to CLOSED. -/
  | lock (q : Requester)
  /-- UNLOCK_EXPIRY (R417) DURATION seconds pass and the level returns to CLOSED. -/
  | unlockExpiry
  /-- APPLY (R419) APPLY GO starts verifying a configuration image. -/
  | apply (q : Requester) (slot : Fin 16) (se : Fin 256)
  /-- VERIFYING_DONE (R419) The image check completes, and staging begins or the apply fails. -/
  | verifyingDone (result : Fin 8) (x : CfgImage)
  /-- STAGING_DONE (R419) The shadows are written and armed, and the apply enters ARMED. -/
  | stagingDone
  /-- VERSION_CONFIRM (R420) CFGV CONFIRM with the active version stops the timer. -/
  | versionConfirm (q : Requester) (v : Word)
  /-- CONFIRM_TIMEOUT (R420) The confirm timer expires and starts a rollback. -/
  | confirmTimeout
  /-- ROLLBACK (R421) ROLLBACK GO applies the previous version. -/
  | rollback (q : Requester)
  /-- BIST_START (R430) CTL.START runs on-demand BIST on the masked domains. -/
  | bistStart (q : Requester) (refclk : Bool) (rails : BitVec 7)
  /-- BIST_STOP (R431) CTL.STOP cuts the run short. -/
  | bistStop (q : Requester)
  /-- BIST_PRECOND_LAPSE (R431) A precondition lapses for 1 µs, and the run is cut short. -/
  | bistPrecondLapse (refclk : Bool) (rails : BitVec 7)
  /-- BIST_DONE (R427) A run completes and the results, exclusions and overall result are written. -/
  | bistDone (l : List BistDom)
  /-- LANE_BIST_START (R432) LANE_CTL START starts an in-service lane test, or reports IN_USE. -/
  | laneBistStart (q : Requester) (lane : Fin 32)
  /-- LANE_DONE (R432) The lane test ends, and the lane's registers reset. -/
  | laneDone (rx tx slice : Bool) (subs : List (Fin 136)) (segs : List (Fin 132))
  /-- CLR_ALL (R436) Zeroes every performance counter. -/
  | clrAll (q : Requester)
  /-- GLOBAL_EN (R436) Starts or stops every performance counter. -/
  | globalEn (q : Requester) (on : Bool)
  /-- PORST_N_LOW (R444) PORST_N goes low, or the internal detector sees VDD_AON or VDD_IO fall below 85 %, and the device enters reset: outputs show their unpowered behaviour and any PMBus request is abandoned. -/
  | porstNLow
  /-- PCIE_CONFIG_WRITE (R385) A host configuration write to the function changes its power state (D0 or D3hot), bus mastering, or MSI-X enable. -/
  | pcieConfigWrite (d3hot busMaster msixEn : Bool)
  /-- BLOCK_LOCK_LOST (R184) A host lane running NRZ loses Clause 49 block lock, so BLOCK_LOCK clears and the 10 ms loss count of R188 starts. -/
  | blockLockLost (m : Fin 64)
  /-- SHORT_CIRCUIT_END (R318) The voltage-mode current limit of an HDAC channel stops acting, and CHn_STAT.SC returns to 0. -/
  | shortCircuitEnd (n : Fin 32)
  /-- COMPLIANCE_END (R318) A current-mode HDAC output comes back within compliance, and CHn_STAT.COMPLIANCE returns to 0. -/
  | complianceEnd (n : Fin 32)
  /-- ENTRY_STEP_DONE (R388) A timed step of power-state entry completes (lanes idled or stopped, retention save, isolation, domain switches opened), passing the next abort point. -/
  | entryStepDone
  /-- EXIT_STEP_DONE (R395) A timed step of exit completes (switches closed, PLLs relocked, blocks restored, Keeper running), ending with PS0 and EXITED. -/
  | exitStepDone (ddrKept : Bool) (x : Option BootInput)
  /-- DOM_DONE (R399) A domain power-up or power-down outside the power states completes: DOM_PWR updates, DOM_DONE is raised and the domain's blocks are reachable or off. -/
  | domDone (ddrKept : Bool)
  /-- PV_DONE (R346) The clearing of a region's page-valid bits completes, and PV_BUSY clears. -/
  | pvDone
  /-- KEEPER_RESTART_DONE (R412) The Keeper's restart through the boot ROM completes and the firmware resumes its deferred work, such as draining and scheduling. -/
  | keeperRestartDone (us : Word) (fw : Option (List FwImage))
  /-- XTAL_RESUME (R458) The 25 MHz AON crystal runs again, XTAL_STAT.OK returns to 1, and the AON counter resumes from its held value. -/
  | xtalResume
deriving DecidableEq, Repr

end Sys2Proof
end

