-- ==== Sys2Proof/Machine/Codec.lean ====
section
/-! DEFINITION. The codes the spec defines bit by bit: the light per-byte code of on-chip memory (R336), CRC-32C of
records and descriptors (R371), the inner code and its Chase decoding (R123 to R127). -/

namespace Sys2Proof.Machine.Codec

/-! ### The light code of R336: bits 7:0 data, 11:8 check bits c3 to c0, bit 12 the overall parity -/

/-- Parity of the data bits that `mask` selects. -/
def parityOf (w n : Nat) : Nat := popCount n w % 2

/-- The check bits c3 to c0 of a data byte. -/
def checkBits (d : Nat) : Nat :=
  parityOf (d &&& 0x5B) 8 + 2 * parityOf (d &&& 0x6D) 8 + 4 * parityOf (d &&& 0x8E) 8 + 8 * parityOf (d &&& 0xF0) 8

/-- The stored 13 bits of a byte. -/
def eccEncode (d : Nat) : Nat :=
  let w := d % 256 + 256 * checkBits (d % 256)
  w + 4096 * parityOf w 12

/-- What a read of a stored byte gives. -/
inductive EccRead where
  | clean (d : Nat)
  | corrected (d : Nat)
  | flagged
deriving DecidableEq, Repr

/-- The data bit that a syndrome points to, if it is the column of one. -/
def eccColumn (syn : Nat) : Option Nat :=
  match syn with
  | 3 => some 0 | 5 => some 1 | 6 => some 2 | 7 => some 3 | 9 => some 4 | 10 => some 5 | 11 => some 6 | 12 => some 7
  | _ => none

/-- Decoding of 13 stored bits: single errors are corrected, double errors flagged (R336). -/
def eccDecode (w : Nat) : EccRead :=
  let d := w % 256
  let syn := (w / 256 % 16) ^^^ checkBits d
  if parityOf w 13 = 0 then (if syn = 0 then .clean d else .flagged)
  else match eccColumn syn with
    | some i => .corrected (d ^^^ 2 ^ i)
    | none => if syn = 0 ∨ syn = 1 ∨ syn = 2 ∨ syn = 4 ∨ syn = 8 then .corrected d else .flagged

/-! ### CRC-32C (R371): reflected polynomial 0x82F63B78, initial value and final inversion all ones -/

/-- One bit of the reflected register. -/
def crcBit (c : BitVec 32) : BitVec 32 := if c.getLsbD 0 then (c >>> 1) ^^^ 0x82F63B78 else c >>> 1

/-- The register after one byte. -/
def crcByte (c : BitVec 32) (b : BitVec 8) : BitVec 32 :=
  let c := c ^^^ b.setWidth 32
  crcBit (crcBit (crcBit (crcBit (crcBit (crcBit (crcBit (crcBit c)))))))

/-- CRC-32C of a list of bytes. -/
def crc32c (l : List (BitVec 8)) : BitVec 32 := ~~~(l.foldl crcByte 0xFFFFFFFF)

/-! ### Little-endian bytes -/

/-- The `n` low bytes of a number, lowest first. -/
def leBytes : Nat → Nat → List (BitVec 8)
  | 0, _ => []
  | n + 1, v => BitVec.ofNat 8 v :: leBytes n (v / 256)

/-- The number that bytes spell, lowest first. -/
def ofBytes : List (BitVec 8) → Nat
  | [] => 0
  | b :: t => b.toNat + 256 * ofBytes t

/-! ### The inner (136,128) code (R123): g(x) = x^8 + x^4 + x^3 + x^2 + 1 -/

/-- Multiplication by x modulo g(x) in GF(2^8). -/
def xtime (v : Nat) : Nat := if v < 128 then 2 * v else (2 * v - 256) ^^^ 0x1D

/-- The remainder of a polynomial given by its coefficients, highest power first, modulo g(x). -/
def innerRem (bits : List Bool) : Nat := bits.foldl (fun r b => xtime r ^^^ b.toNat) 0

/-- The check bits r7 to r0 of a 128-bit message: m(x) mod g(x), where bit j is the coefficient of x^(135-j). -/
def innerCheck (msg : List Bool) : List Bool :=
  let r := innerRem (msg ++ List.replicate 8 false)
  (List.range 8).map fun i => r.testBit (7 - i)

/-- The codeword of a message: the message, then the check bits. -/
def innerEncode (msg : List Bool) : List Bool := msg ++ innerCheck msg

/-- The powers of alpha, from alpha^0: `alphaPow k` is x^k mod g(x). -/
def alphaPow : Nat → Nat
  | 0 => 1
  | k + 1 => xtime (alphaPow k)

/-- The position that a nonzero syndrome alpha^(135-j) names, among `fuel` positions counted from 135 down. -/
def innerLocate (syn : Nat) : Nat → Nat → Option Nat
  | 0, _ => none
  | fuel + 1, pw => if pw = syn then some fuel else innerLocate syn fuel (xtime pw)

/-- The outcome of Chase decoding (R127). -/
inductive InnerOutcome where
  | clean
  | corrected (positions : List Nat)
  | failed
deriving DecidableEq, Repr

/-- Insertion of a position into a list ordered by (reliability, position). -/
def insertRel (rel : Nat → Nat) (p : Nat) : List Nat → List Nat
  | [] => [p]
  | q :: t => if rel p < rel q ∨ (rel p = rel q ∧ p < q) then p :: q :: t else q :: insertRel rel p t

/-- The six least reliable positions (R127, step 1), keeping only six at every point. -/
def leastSix (rel : Nat → Nat) (n : Nat) : List Nat :=
  (List.range n).foldl (fun l p => (insertRel rel p l).take 6) []

/-- The positions that test pattern `t` flips. -/
def patternOf (ps : List Nat) (t : Nat) : List Nat :=
  (List.range ps.length).filterMap fun b => if t.testBit b then ps[b]? else none

/-- The candidate of pattern `t`: the positions in which it differs from the hard decisions (R127, step 2). -/
def chaseCandidate (syn0 : Nat) (ps : List Nat) (t : Nat) : Option (List Nat) :=
  let fl := patternOf ps t
  let syn := fl.foldl (fun a p => a ^^^ alphaPow (135 - p)) syn0
  if syn = 0 then some fl
  else match innerLocate syn 136 1 with
    | some j => some (if fl.contains j then fl.filter (· ≠ j) else fl ++ [j])
    | none => none

/-- The best candidate over patterns `t` and up: lowest cost, ties to the lowest pattern (R127, steps 3 and 4). The cost of
a position is its reliability less one: an erased bit has reliability 0 here and costs 0, like a bit of REL 0. -/
def chaseBest (cost : Nat → Nat) (syn0 : Nat) (ps : List Nat) : List Nat → Option (Nat × List Nat)
  | [] => none
  | t :: ts =>
    match chaseCandidate syn0 ps t, chaseBest cost syn0 ps ts with
    | none, r => r
    | some c, none => some ((c.map cost).foldl (· + ·) 0, c)
    | some c, some (k, d) => let kc := (c.map cost).foldl (· + ·) 0; if kc ≤ k then some (kc, c) else some (k, d)

/-- Chase decoding of one inner codeword (R126, R127): `hard` are the 136 hard decisions, position 0 first, and `rel`
gives each position's reliability plus one, 0 for an erased bit. -/
def chase (hard : List Bool) (rel : List Nat) : InnerOutcome :=
  let syn := innerRem hard
  if syn = 0 then .clean
  else
    let r := fun p => (rel[p]?).getD 16
    match chaseBest (fun p => r p - 1) syn (leastSix r 136) (List.range 64) with
    | some (_, c) => .corrected c
    | none => .failed

end Sys2Proof.Machine.Codec
end

