-- ==== Sys2Proof/Config.lean ====
section
/-! DEFINITION. What the spec leaves open. `freeValue` has no body, so nothing in Lean can evaluate it or prove a value
of it: a statement about it holds whatever the hardware delivers. The step applies it to a counter of State that it
advances, so that two uses are unrelated. -/

namespace Sys2Proof

/-- A value the spec does not fix, of `w` bits: the `k`-th one the machine draws. -/
opaque Config.freeValue (w : Nat) (k : Nat) : BitVec w

/-- The number a choice that the spec does not order is made with (taken modulo the number of alternatives). -/
opaque Config.freeChoice (k : Nat) : Nat

/-- The first 64 bits of SHA-384 over the bytes of a record (R243), left uninterpreted. -/
opaque Config.recordDigest (record : List (BitVec 8)) : BitVec 64

/-- Word `i` of the public key the boot ROM derives from the fused device secret (R404), which no register shows. -/
opaque Config.devPub (i : Nat) : BitVec 32

/-- Where, above +0x10_0000 of the golden store, the bank words of seed set `set` begin (R334, R408): the spec gives the four
sets one area and no offset for each. -/
opaque Config.seedBase (set : Nat) : Nat

end Sys2Proof
end

