-- ==== Sys2Proof/Machine/RegMap.lean ====
section
/-! DEFINITION. The register map: every register and every field of the register and field tables of spec/01 to
spec/18, by block, with its offset, its place and its access class (R7), and the Reset column of the tables.
A block window is addressed by its interrupt index of R36 (`Blk`); a register's key in the register store is
`4096 * block + offset`. Arrays of registers take their index as an argument; the engine control set (R147) is
written relative to its base `b` inside the page that holds it. -/

namespace Sys2Proof.Machine

/-- A field of a register: the register's offset inside its block, the field's lowest bit and its width. -/
structure Fld where
  off : Nat
  lo : Nat
  w : Nat
deriving DecidableEq, Repr

/-- One row of a register table: the first offset, the distance to the next register of the row and their number, the
Reset column, and the bits of each access class of R7: RW, RWS, W1C and WO. Every other bit of the register is read-only
or reserved. -/
structure RegDef where
  name : String
  off : Nat
  stride : Nat
  count : Nat
  reset : Nat
  rw : Nat
  rws : Nat
  w1c : Nat
  wo : Nat
deriving DecidableEq, Repr


/-! ### HDR: spec/02 after R43 -/

namespace HDR
def BLK_ID : Nat := 0x0
def BLK_ID_TYPE : Fld := ⟨0x0, 16, 16⟩
def BLK_ID_INSTANCE : Fld := ⟨0x0, 8, 8⟩
def BLK_ID_VERSION : Fld := ⟨0x0, 0, 8⟩
def BLK_CAP : Nat := 0x4
def BLK_CAP_NUM_INT : Fld := ⟨0x4, 0, 8⟩
def BLK_CAP_NUM_PAIRS : Fld := ⟨0x4, 8, 8⟩
def BLK_CAP_HAS_STAGE : Fld := ⟨0x4, 16, 1⟩
def BLK_CAP_HAS_PARITY : Fld := ⟨0x4, 17, 1⟩
def BLK_CTL : Nat := 0x8
def BLK_CTL_ENABLE : Fld := ⟨0x8, 0, 1⟩
def BLK_CTL_SOFT_RESET : Fld := ⟨0x8, 1, 1⟩
def BLK_CTL_STAGE : Fld := ⟨0x8, 2, 1⟩
def BLK_CTL_SHADOW_VIEW : Fld := ⟨0x8, 3, 1⟩
def BLK_STAT : Nat := 0xc
def BLK_STAT_BUSY : Fld := ⟨0xc, 0, 1⟩
def BLK_STAT_PAIR_MISMATCH : Fld := ⟨0xc, 1, 1⟩
def BLK_STAT_PAIR_ID : Fld := ⟨0xc, 8, 8⟩
def INT_STAT : Nat := 0x10
def INT_EN : Nat := 0x14
def INT_FORCE : Nat := 0x18
def PAR_STAT : Nat := 0x1c
def PAR_STAT_ERR : Fld := ⟨0x1c, 0, 1⟩
def PAR_STAT_SHADOW : Fld := ⟨0x1c, 1, 1⟩
def PAR_STAT_COUNT : Fld := ⟨0x1c, 8, 8⟩
def PAR_STAT_WORD : Fld := ⟨0x1c, 16, 10⟩
def STAGE_CTL : Nat := 0x20
def STAGE_CTL_COMMIT_SE : Fld := ⟨0x20, 0, 8⟩
def STAGE_CTL_SE_EN : Fld := ⟨0x20, 8, 1⟩
def STAGE_CTL_COMMIT_NOW : Fld := ⟨0x20, 16, 1⟩
def STAGE_CTL_DISCARD : Fld := ⟨0x20, 17, 1⟩
def STAGE_STAT : Nat := 0x24
def STAGE_STAT_DIRTY : Fld := ⟨0x24, 0, 1⟩
def STAGE_STAT_ARMED : Fld := ⟨0x24, 1, 1⟩
def STAGE_STAT_LAST : Fld := ⟨0x24, 4, 3⟩
def EVT_TIME_LO : Nat := 0x28
def EVT_TIME_HI : Nat := 0x2c
def INT_PAIR : Nat := 0
def INT_PARITY : Nat := 1
def INT_COMMIT : Nat := 2
end HDR

/-! ### GLB: spec/01 after R15, spec/02 after R42, spec/02 after R52, spec/02 after R54 -/

namespace GLB
def DOM_PWR : Nat := 0x180
def DOM_PWR_PWR : Fld := ⟨0x180, 0, 24⟩
def FLOOR_STAT : Nat := 0x184
def FLOOR_STAT_HK_REQ : Fld := ⟨0x184, 5, 1⟩
def FLOOR_STAT_MGMT_MET : Fld := ⟨0x184, 4, 1⟩
def FLOOR_STAT_PCIE_ATTACHED : Fld := ⟨0x184, 3, 1⟩
def FLOOR_STAT_TRAFFIC_POSSIBLE : Fld := ⟨0x184, 2, 1⟩
def FLOOR_STAT_TRAFFIC_MET : Fld := ⟨0x184, 1, 1⟩
def FLOOR_STAT_MGMT_ONLY_I2C : Fld := ⟨0x184, 0, 1⟩
def OFF_ACC_ADDR : Nat := 0x188
def OFF_ACC_ADDR_BAR : Fld := ⟨0x188, 30, 2⟩
def OFF_ACC_ADDR_OFFSET : Fld := ⟨0x188, 0, 30⟩
def OFF_ACC_STAT : Nat := 0x18c
def OFF_ACC_STAT_COUNT : Fld := ⟨0x18c, 16, 16⟩
def OFF_ACC_STAT_WAS_WRITE : Fld := ⟨0x18c, 1, 1⟩
def OFF_ACC_STAT_OFF_ACCESS : Fld := ⟨0x18c, 0, 1⟩
def STAT : Nat := 0x100
def STAT_SRC : Fld := ⟨0x100, 4, 2⟩
def STAT_UNMAPPED : Fld := ⟨0x100, 1, 1⟩
def STAT_ACCESS_ERR : Fld := ⟨0x100, 0, 1⟩
def ACC_ERR_ADDR : Nat := 0x104
def PSWEEP_CTL : Nat := 0x190
def PSWEEP_CTL_EN : Fld := ⟨0x190, 0, 1⟩
def PSWEEP_STAT : Nat := 0x194
def PSWEEP_STAT_LAP_US : Fld := ⟨0x194, 0, 24⟩
def PSWEEP_STAT_CUR_BLK : Fld := ⟨0x194, 24, 8⟩
def INT_SUM (n : Nat) : Nat := 0x200 + 0x4 * n
def INTN_MASK (n : Nat) : Nat := 0x220 + 0x4 * n
def MSIX_MAP (n : Nat) : Nat := 0x300 + 0x4 * n
def INT_ACCESS_ERR : Nat := 4
def INT_OFF_ACCESS : Nat := 5
def INT_UNMAPPED : Nat := 6
end GLB

/-! ### PWR: spec/16 after R402 -/

namespace PWR
def REQ : Nat := 0x100
def REQ_TARGET : Fld := ⟨0x100, 0, 3⟩
def REQ_GO : Fld := ⟨0x100, 8, 1⟩
def STAT : Nat := 0x104
def STAT_STATE : Fld := ⟨0x104, 0, 3⟩
def STAT_BUSY : Fld := ⟨0x104, 3, 1⟩
def STAT_LAST_ENTRY : Fld := ⟨0x104, 4, 3⟩
def STAT_AP : Fld := ⟨0x104, 8, 3⟩
def STAT_REF_IS_DOM : Fld := ⟨0x104, 11, 1⟩
def STAT_REFUSER : Fld := ⟨0x104, 16, 8⟩
def STAT_REASON : Fld := ⟨0x104, 24, 8⟩
def DOM_REQ : Nat := 0x108
def DOM_REQ_DOMAIN : Fld := ⟨0x108, 0, 5⟩
def DOM_REQ_ON : Fld := ⟨0x108, 8, 1⟩
def DOM_REQ_OFF : Fld := ⟨0x108, 9, 1⟩
def HS_LIMIT : Nat := 0x10c
def HS_LIMIT_MS : Fld := ⟨0x10c, 0, 16⟩
def RET_KPR : Nat := 0x110
def RET_KPR_BANKS : Fld := ⟨0x110, 0, 16⟩
def RET_COEF : Nat := 0x114
def RET_COEF_BANKS : Fld := ⟨0x114, 0, 8⟩
def KEEP : Nat := 0x118
def KEEP_PS3_HK : Fld := ⟨0x118, 0, 1⟩
def KEEP_PS4_HK : Fld := ⟨0x118, 1, 1⟩
def KEEP_PS4_FOG : Fld := ⟨0x118, 2, 1⟩
def WAKE_EN : Nat := 0x11c
def WAKE_EN_EN : Fld := ⟨0x11c, 0, 9⟩
def WAKE_STAT : Nat := 0x120
def WAKE_STAT_SEEN : Fld := ⟨0x120, 0, 9⟩
def WAKE_STAT_SRC : Fld := ⟨0x120, 16, 4⟩
def PMB_CFG : Nat := 0x124
def PMB_CFG_ADDR : Fld := ⟨0x124, 0, 7⟩
def PMB_CFG_EN : Fld := ⟨0x124, 8, 1⟩
def PMB_CFG_FAST : Fld := ⟨0x124, 9, 1⟩
def PMB_STAT : Nat := 0x128
def PMB_STAT_BUSY : Fld := ⟨0x128, 0, 1⟩
def PMB_STAT_FAULT : Fld := ⟨0x128, 1, 1⟩
def PMB_STAT_RETRIES : Fld := ⟨0x128, 2, 2⟩
def PMB_STAT_LAST : Fld := ⟨0x128, 16, 16⟩
def AVS_CTL : Nat := 0x12c
def AVS_CTL_TRIM : Fld := ⟨0x12c, 0, 8⟩
def AVS_CTL_RET_MV : Fld := ⟨0x12c, 16, 10⟩
def AVS_STAT : Nat := 0x130
def AVS_STAT_TARGET : Fld := ⟨0x130, 0, 10⟩
def AVS_STAT_CURRENT : Fld := ⟨0x130, 16, 10⟩
def ENTRY_US : Nat := 0x134
def EXIT_US : Nat := 0x138
def INT_ENTERED : Nat := 4
def INT_EXITED : Nat := 5
def INT_ABORTED : Nat := 6
def INT_REFUSED : Nat := 7
def INT_PWR_FAULT : Nat := 8
def INT_PMB_ALERT : Nat := 9
def INT_DOM_DONE : Nat := 10
def INT_WAKE : Nat := 11
end PWR

/-! ### CLK: spec/16 after R402 -/

namespace CLK
def STAT : Nat := 0x100
def STAT_REF_PLL_LOCK : Fld := ⟨0x100, 0, 1⟩
def STAT_REF_LOST : Fld := ⟨0x100, 1, 1⟩
def STAT_ON_AON : Fld := ⟨0x100, 2, 1⟩
def REF_PPM : Nat := 0x104
def REF_PPM_PPM : Fld := ⟨0x104, 0, 16⟩
def INT_REF_LOST : Nat := 4
end CLK

/-! ### AON: spec/16 after R458 -/

namespace AON
def WAKE_CTL : Nat := 0x100
def WAKE_CTL_DEBOUNCE : Fld := ⟨0x100, 24, 8⟩
def PIN_STAT : Nat := 0x104
def PIN_STAT_WAKE : Fld := ⟨0x104, 0, 4⟩
def PIN_STAT_I2C_A : Fld := ⟨0x104, 8, 2⟩
def AON_CNT_LO : Nat := 0x108
def AON_CNT_HI : Nat := 0x10c
def RESET_CAUSE : Nat := 0x110
def RESET_CAUSE_CAUSE : Fld := ⟨0x110, 0, 3⟩
def XTAL_STAT : Nat := 0x114
def XTAL_STAT_OK : Fld := ⟨0x114, 0, 1⟩
def XTAL_STAT_FAIL_SEEN : Fld := ⟨0x114, 1, 1⟩
def SCRATCH (n : Nat) : Nat := 0x120 + 0x4 * n
end AON

/-! ### KPR: spec/17 after R423 -/

namespace KPR
def KSTAT : Nat := 0x100
def KSTAT_STAGE : Fld := ⟨0x100, 0, 4⟩
def KSTAT_FAST : Fld := ⟨0x100, 4, 1⟩
def KSTAT_FW_FALLBACK : Fld := ⟨0x100, 5, 1⟩
def KSTAT_LOCKSTEP : Fld := ⟨0x100, 8, 1⟩
def KSTAT_FW_RESULT : Fld := ⟨0x100, 12, 4⟩
def KSTAT_LOCKSTEP_CNT : Fld := ⟨0x100, 16, 8⟩
def KSTAT_ARB_REFUSED : Fld := ⟨0x100, 24, 1⟩
def KCTL : Nat := 0x104
def KCTL_HALT : Fld := ⟨0x104, 0, 1⟩
def KCTL_STEP : Fld := ⟨0x104, 1, 1⟩
def KCTL_RESTART : Fld := ⟨0x104, 2, 1⟩
def KCTL_LOAD : Fld := ⟨0x104, 3, 1⟩
def BOOT_US : Nat := 0x108
def FW_VER : Nat := 0x10c
def FW_SVN : Nat := 0x110
def FW_SVN_SVN : Fld := ⟨0x110, 0, 6⟩
def FW_SVN_ARB : Fld := ⟨0x110, 16, 6⟩
def ARB_CTL : Nat := 0x114
def UC_BUNDLE : Nat := 0x118
def TRACE_CTL : Nat := 0x120
def TRACE_CTL_EN : Fld := ⟨0x120, 0, 1⟩
def TRACE_IDX : Nat := 0x124
def TRACE_DATA : Nat := 0x128
def INT_LOCKSTEP : Nat := 4
def INT_RECOVERY : Nat := 5
def INT_ARB_ADVANCED : Nat := 6
end KPR

/-! ### SEC: spec/17 after R423 -/

namespace SEC
def LC : Nat := 0x100
def LC_LIFECYCLE : Fld := ⟨0x100, 0, 2⟩
def LC_FUSE_BUSY : Fld := ⟨0x100, 8, 1⟩
def LC_FUSE_FAIL : Fld := ⟨0x100, 9, 1⟩
def LC_LC_REFUSED : Fld := ⟨0x100, 10, 1⟩
def LC_CTL : Nat := 0x104
def DEV_ID (n : Nat) : Nat := 0x110 + 0x4 * n
def ROOT_HASH (n : Nat) : Nat := 0x120 + 0x4 * n
def VERIFY : Nat := 0x150
def VERIFY_FW : Fld := ⟨0x150, 0, 4⟩
def VERIFY_CFG : Fld := ⟨0x150, 4, 4⟩
def VERIFY_BUNDLE : Fld := ⟨0x150, 8, 4⟩
def DEV_PUB (n : Nat) : Nat := 0x160 + 0x4 * n
def INT_LC_CHANGED : Nat := 4
def INT_FUSE_FAIL : Nat := 5
end SEC

/-! ### DBG: spec/17 after R423 -/

namespace DBG
def STAT : Nat := 0x100
def STAT_LEVEL : Fld := ⟨0x100, 0, 2⟩
def STAT_BUSY : Fld := ⟨0x100, 2, 1⟩
def STAT_LAST_EXPIRY : Fld := ⟨0x100, 4, 3⟩
def STAT_DENIED : Fld := ⟨0x100, 8, 1⟩
def STAT_BUS_ERR : Fld := ⟨0x100, 9, 1⟩
def CTL : Nat := 0x104
def CTL_LEVEL_REQ : Fld := ⟨0x104, 0, 2⟩
def CTL_REQUEST : Fld := ⟨0x104, 4, 1⟩
def CTL_SUBMIT : Fld := ⟨0x104, 5, 1⟩
def CTL_LOCK : Fld := ⟨0x104, 6, 1⟩
def CTL_CHAL_NEW : Fld := ⟨0x104, 7, 1⟩
def RESULT : Nat := 0x108
def REMAIN : Nat := 0x10c
def CHAL (n : Nat) : Nat := 0x110 + 0x4 * n
def TOK_IDX : Nat := 0x140
def TOK_DATA : Nat := 0x144
def INT_UNLOCKED : Nat := 4
def INT_EXPIRED : Nat := 5
def INT_DENIED : Nat := 6
def INT_REFUSED : Nat := 7
end DBG

/-! ### CFGV: spec/17 after R423 -/

namespace CFGV
def CTL : Nat := 0x100
def CTL_AUTO_RESTORE : Fld := ⟨0x100, 0, 1⟩
def CTL_COORD_EN : Fld := ⟨0x100, 1, 1⟩
def CTL_RB_SE : Fld := ⟨0x100, 8, 8⟩
def CTL_REF_PORT : Fld := ⟨0x100, 16, 6⟩
def APPLY : Nat := 0x104
def APPLY_SLOT : Fld := ⟨0x104, 0, 4⟩
def APPLY_SE : Fld := ⟨0x104, 8, 8⟩
def APPLY_GO : Fld := ⟨0x104, 31, 1⟩
def CONFIRM : Nat := 0x108
def ROLLBACK : Nat := 0x10c
def ROLLBACK_GO : Fld := ⟨0x10c, 31, 1⟩
def STAT : Nat := 0x110
def STAT_PHASE : Fld := ⟨0x110, 0, 3⟩
def STAT_FAIL : Fld := ⟨0x110, 8, 1⟩
def STAT_RESULT : Fld := ⟨0x110, 12, 4⟩
def STAT_TIMER_RUN : Fld := ⟨0x110, 16, 1⟩
def ACT_VER : Nat := 0x114
def PREV_VER : Nat := 0x118
def SLOTS : Nat := 0x11c
def SLOTS_ACT : Fld := ⟨0x11c, 0, 8⟩
def SLOTS_PREV : Fld := ⟨0x11c, 8, 8⟩
def TIMEOUT : Nat := 0x120
def REMAIN : Nat := 0x124
def RB_LEAD : Nat := 0x128
def RESTORE_CNT : Nat := 0x12c
def STORE_MAP : Nat := 0x130
def INT_APPLIED : Nat := 4
def INT_APPLY_FAIL : Nat := 5
def INT_CONFIRMED : Nat := 6
def INT_ROLLED_BACK : Nat := 7
def INT_ROLLBACK_FAIL : Nat := 8
def INT_RESTORED : Nat := 9
end CFGV

/-! ### MEM: spec/14 after R356 -/

namespace MEM
def STAT : Nat := 0x100
def STAT_DENIED : Fld := ⟨0x100, 0, 1⟩
def STAT_CFG_REFUSED : Fld := ⟨0x100, 1, 1⟩
def STAT_INVAL_BUSY : Fld := ⟨0x100, 2, 1⟩
def STAT_WRAPPED : Fld := ⟨0x100, 8, 4⟩
def SEAL_CTL : Nat := 0x104
def SEAL_CTL_PAGE : Fld := ⟨0x104, 0, 13⟩
def SEAL_CTL_COUNT : Fld := ⟨0x104, 16, 13⟩
def SEAL_STAT : Nat := 0x108
def SEAL_STAT_BUSY : Fld := ⟨0x108, 0, 1⟩
def SEAL_STAT_DONE : Fld := ⟨0x108, 16, 13⟩
def UNSEAL_CNT : Nat := 0x10c
def INVAL_CTL : Nat := 0x110
def INVAL_CTL_REGION : Fld := ⟨0x110, 0, 3⟩
def INVAL_CTL_GO : Fld := ⟨0x110, 8, 1⟩
def CE_CNT : Nat := 0x114
def PCE_CNT : Nat := 0x118
def UE_CNT : Nat := 0x11c
def UE_ADDR : Nat := 0x120
def UE_ADDR_OFFSET : Fld := ⟨0x120, 0, 26⟩
def UE_INFO : Nat := 0x124
def UE_INFO_REGION : Fld := ⟨0x124, 0, 3⟩
def UE_INFO_SRC : Fld := ⟨0x124, 4, 3⟩
def UE_INFO_SEALED : Fld := ⟨0x124, 8, 1⟩
def SCRUB_CTL : Nat := 0x128
def SCRUB_CTL_EN : Fld := ⟨0x128, 0, 1⟩
def SCRUB_CTL_RATE : Fld := ⟨0x128, 8, 5⟩
def SCRUB_LAP : Nat := 0x12c
def SCRUB_LAP_MS : Fld := ⟨0x12c, 0, 24⟩
def SCRUB_POS : Nat := 0x130
def SCRUB_POS_POS : Fld := ⟨0x130, 0, 16⟩
def GOLD_CTL : Nat := 0x134
def GOLD_CTL_SE : Fld := ⟨0x134, 0, 8⟩
def GOLD_CTL_SE_EN : Fld := ⟨0x134, 8, 1⟩
def GOLD_STAT : Nat := 0x138
def GOLD_STAT_PENDING : Fld := ⟨0x138, 0, 1⟩
def GOLD_STAT_LOST : Fld := ⟨0x138, 1, 1⟩
def REP_IDX : Nat := 0x140
def REP_IDX_MACRO : Fld := ⟨0x140, 0, 10⟩
def REP_DATA : Nat := 0x144
def REP_DATA_ROWS_USED : Fld := ⟨0x144, 0, 2⟩
def REP_DATA_COLS_USED : Fld := ⟨0x144, 2, 2⟩
def REP_DATA_ADDR : Fld := ⟨0x144, 8, 12⟩
def REP_DATA_COL : Fld := ⟨0x144, 24, 1⟩
def REP_DATA_APPLY : Fld := ⟨0x144, 31, 1⟩
def DENY_ADDR : Nat := 0x148
def DENY_ADDR_OFFSET : Fld := ⟨0x148, 0, 26⟩
def INT_MEM_UE : Nat := 4
def INT_UNSEAL : Nat := 5
def INT_GOLD_DONE : Nat := 6
def INT_GOLD_LOST : Nat := 7
def INT_DENIED : Nat := 8
def INT_WRAPPED : Nat := 9
end MEM

/-! ### DDR: spec/14 after R356 -/

namespace DDR
def CFG : Nat := 0x100
def CFG_RANKS : Fld := ⟨0x100, 0, 1⟩
def CFG_WIDTH : Fld := ⟨0x100, 1, 1⟩
def CFG_DENSITY : Fld := ⟨0x100, 2, 1⟩
def CFG_INIT : Fld := ⟨0x100, 8, 1⟩
def CFG_SIZE_GIB : Fld := ⟨0x100, 16, 6⟩
def STAT : Nat := 0x104
def STAT_TRAINED : Fld := ⟨0x104, 0, 1⟩
def STAT_SELF_REFRESH : Fld := ⟨0x104, 1, 1⟩
def STAT_CONTENT_LOST : Fld := ⟨0x104, 2, 1⟩
def STAT_DENIED : Fld := ⟨0x104, 3, 1⟩
def STAT_PV_BUSY : Fld := ⟨0x104, 4, 1⟩
def STAT_SEAL_BUSY : Fld := ⟨0x104, 5, 1⟩
def STAT_WRAPPED : Fld := ⟨0x104, 8, 4⟩
def BAND_STAT : Nat := 0x108
def BAND_STAT_REF : Fld := ⟨0x108, 0, 2⟩
def BAND_STAT_PHY : Fld := ⟨0x108, 4, 2⟩
def SEAL_CTL : Nat := 0x10c
def SEAL_CTL_PAGE : Fld := ⟨0x10c, 0, 22⟩
def PV_CTL : Nat := 0x110
def PV_CTL_REGION : Fld := ⟨0x110, 0, 3⟩
def PV_CTL_GO : Fld := ⟨0x110, 8, 1⟩
def PAR_CNT : Nat := 0x114
def COR_CNT : Nat := 0x118
def UE_CNT : Nat := 0x11c
def UE_ADDR_LO : Nat := 0x120
def UE_ADDR_HI : Nat := 0x124
def UE_ADDR_HI_OFFSET : Fld := ⟨0x124, 0, 2⟩
def SCRUB_CTL : Nat := 0x128
def SCRUB_CTL_EN : Fld := ⟨0x128, 0, 1⟩
def SCRUB_CTL_RATE : Fld := ⟨0x128, 8, 5⟩
def SCRUB_LAP : Nat := 0x12c
def SCRUB_LAP_MS : Fld := ⟨0x12c, 0, 24⟩
def SCRUB_POS : Nat := 0x130
def SCRUB_POS_POS : Fld := ⟨0x130, 0, 16⟩
def UNSEAL_CNT : Nat := 0x134
def DENY_ADDR_LO : Nat := 0x138
def DENY_ADDR_HI : Nat := 0x13c
def DENY_ADDR_HI_OFFSET : Fld := ⟨0x13c, 0, 2⟩
def RGN_BASE (n : Nat) : Nat := 0x140 + 0x8 * n
def RGN_BASE_BASE (n : Nat) : Fld := ⟨0x140 + 0x8 * n, 0, 22⟩
def RGN_SIZE (n : Nat) : Nat := 0x144 + 0x8 * n
def RGN_SIZE_SIZE (n : Nat) : Fld := ⟨0x144 + 0x8 * n, 0, 22⟩
def RGN_SIZE_SEAL (n : Nat) : Fld := ⟨0x144 + 0x8 * n, 24, 1⟩
def INT_DDR_UE : Nat := 4
def INT_PAGE_COR : Nat := 5
def INT_CONTENT_LOST : Nat := 6
def INT_TRAIN_FAIL : Nat := 7
def INT_UNSEAL : Nat := 8
def INT_DENIED : Nat := 9
def INT_WRAPPED : Nat := 10
end DDR

/-! ### DMA: spec/15 after R380 -/

namespace DMA
def STAT : Nat := 0x100
def STAT_CFG_REFUSED : Fld := ⟨0x100, 0, 1⟩
def STAT_BYTES_WRAP : Fld := ⟨0x100, 1, 1⟩
def PWR_WAIT : Nat := 0x104
def SHARE_CTL : Nat := 0x108
def SHARE_CTL_CAP : Fld := ⟨0x108, 0, 7⟩
def SHARE_CTL_EFF : Fld := ⟨0x108, 16, 7⟩
def LINK_CAP : Nat := 0x10c
def DONE_MAP : Nat := 0x110
def ERR_MAP : Nat := 0x114
def TAP_CTL : Nat := 0x140
def TAP_CTL_EN : Fld := ⟨0x140, 0, 1⟩
def TAP_CTL_MODE : Fld := ⟨0x140, 1, 1⟩
def TAP_CTL_DIR : Fld := ⟨0x140, 2, 1⟩
def TAP_CTL_PORT : Fld := ⟨0x140, 4, 6⟩
def TAP_CTL_CH : Fld := ⟨0x140, 12, 4⟩
def TAP_CTL_FAIL_MAX : Fld := ⟨0x140, 24, 8⟩
def TAP_STAT : Nat := 0x144
def TAP_STAT_ACTIVE : Fld := ⟨0x144, 0, 1⟩
def TAP_STAT_OVF : Fld := ⟨0x144, 1, 1⟩
def TAP_STAT_SEQ_WRAP : Fld := ⟨0x144, 2, 1⟩
def TAP_STAT_FILL : Fld := ⟨0x144, 16, 16⟩
def TAP_BASE : Nat := 0x148
def TAP_SIZE : Nat := 0x14c
def TAP_SEQ : Nat := 0x150
def TAP_DROP : Nat := 0x154
def CH_CTL (n : Nat) : Nat := 0x200 + 0x40 * n
def CH_CTL_RUN (n : Nat) : Fld := ⟨0x200 + 0x40 * n, 0, 1⟩
def CH_CTL_STOP (n : Nat) : Fld := ⟨0x200 + 0x40 * n, 1, 1⟩
def CH_CTL_ABORT (n : Nat) : Fld := ⟨0x200 + 0x40 * n, 2, 1⟩
def CH_CTL_ACK_MODE (n : Nat) : Fld := ⟨0x200 + 0x40 * n, 3, 1⟩
def CH_CTL_RING_SPACE (n : Nat) : Fld := ⟨0x200 + 0x40 * n, 4, 1⟩
def CH_CTL_RING_LOG2 (n : Nat) : Fld := ⟨0x200 + 0x40 * n, 8, 4⟩
def CH_CTL_WEIGHT (n : Nat) : Fld := ⟨0x200 + 0x40 * n, 12, 4⟩
def CH_STAT (n : Nat) : Nat := 0x204 + 0x40 * n
def CH_STAT_STATE (n : Nat) : Fld := ⟨0x204 + 0x40 * n, 0, 3⟩
def CH_STAT_LATE_ERR (n : Nat) : Fld := ⟨0x204 + 0x40 * n, 4, 1⟩
def CH_STAT_ERR (n : Nat) : Fld := ⟨0x204 + 0x40 * n, 5, 1⟩
def CH_STAT_LAST_STATUS (n : Nat) : Fld := ⟨0x204 + 0x40 * n, 8, 8⟩
def CH_STAT_CLASS (n : Nat) : Fld := ⟨0x204 + 0x40 * n, 16, 1⟩
def CH_RING_LO (n : Nat) : Nat := 0x208 + 0x40 * n
def CH_RING_HI (n : Nat) : Nat := 0x20c + 0x40 * n
def CH_HEAD (n : Nat) : Nat := 0x210 + 0x40 * n
def CH_TAIL (n : Nat) : Nat := 0x214 + 0x40 * n
def CH_LIMIT (n : Nat) : Nat := 0x218 + 0x40 * n
def CH_LATE_IDX (n : Nat) : Nat := 0x21c + 0x40 * n
def CH_BYTES_LO (n : Nat) : Nat := 0x220 + 0x40 * n
def CH_BYTES_HI (n : Nat) : Nat := 0x224 + 0x40 * n
def INT_DESC_DONE : Nat := 4
def INT_CH_ERR : Nat := 5
def INT_LATE_WRITE_ERR : Nat := 6
def INT_TAP_OVF : Nat := 7
def INT_CFG_REFUSED : Nat := 8
def INT_WRAPPED : Nat := 9
end DMA

/-! ### LOG: spec/15 after R380 -/

namespace LOG
def LOG_CTL : Nat := 0x100
def LOG_CTL_DRAIN : Fld := ⟨0x100, 0, 1⟩
def LOG_CTL_ANCH_CLR : Fld := ⟨0x100, 8, 1⟩
def STAT : Nat := 0x104
def STAT_ANCHOR_FULL : Fld := ⟨0x104, 0, 1⟩
def STAT_SEQ_WRAP : Fld := ⟨0x104, 1, 1⟩
def STAT_RING_WRAP : Fld := ⟨0x104, 2, 1⟩
def STAT_OVERWRITE : Fld := ⟨0x104, 3, 1⟩
def STAT_DRAIN_UE : Fld := ⟨0x104, 4, 1⟩
def STAT_CFG_REFUSED : Fld := ⟨0x104, 5, 1⟩
def RATE_CTL : Nat := 0x108
def RATE_CTL_RATE : Fld := ⟨0x108, 0, 16⟩
def RATE_CTL_BURST : Fld := ⟨0x108, 16, 16⟩
def SEQ : Nat := 0x10c
def RING_BASE : Nat := 0x110
def RING_SIZE : Nat := 0x114
def ANCH_BASE : Nat := 0x118
def ANCH_SIZE : Nat := 0x11c
def RING_WR : Nat := 0x120
def ANCH_WR : Nat := 0x124
def STG_STAT : Nat := 0x128
def STG_STAT_RING : Fld := ⟨0x128, 0, 10⟩
def STG_STAT_ANCH : Fld := ⟨0x128, 16, 10⟩
def LIMIT_DROP : Nat := 0x130
def OVWR_DROP : Nat := 0x134
def ANCH_DROP : Nat := 0x138
def STG_DROP : Nat := 0x13c
def HREC_CTL : Nat := 0x140
def HREC_CTL_TYPE : Fld := ⟨0x140, 0, 16⟩
def HREC_CTL_ANCHOR : Fld := ⟨0x140, 16, 1⟩
def HREC_CTL_GO : Fld := ⟨0x140, 31, 1⟩
def HREC_D (n : Nat) : Nat := 0x144 + 0x4 * n
def INT_ANCHOR_FULL : Nat := 4
def INT_OVERWRITE : Nat := 5
def INT_LIMITED : Nat := 6
def INT_DRAIN_UE : Nat := 7
def INT_WRAPPED : Nat := 8
def INT_CFG_REFUSED : Nat := 9
end LOG

/-! ### PCIE: spec/02 after R32 -/

namespace PCIE
def LINK_STAT : Nat := 0x100
def LINK_STAT_SPEED : Fld := ⟨0x100, 0, 4⟩
def LINK_STAT_WIDTH : Fld := ⟨0x100, 4, 5⟩
def LINK_STAT_FLIT : Fld := ⟨0x100, 9, 1⟩
def LINK_STAT_DL_ACTIVE : Fld := ⟨0x100, 10, 1⟩
def LINK_STAT_REVERSED : Fld := ⟨0x100, 11, 1⟩
def ERR_CTL : Nat := 0x104
def ERR_CTL_POISON_MODE : Fld := ⟨0x104, 0, 1⟩
def ERR_STAT : Nat := 0x108
def ERR_STAT_POISONED_SENT : Fld := ⟨0x108, 0, 1⟩
def ERR_STAT_CA_SENT : Fld := ⟨0x108, 1, 1⟩
def ERR_STAT_UR_SENT : Fld := ⟨0x108, 2, 1⟩
def ERR_STAT_COUNT : Fld := ⟨0x108, 16, 16⟩
def ERR_ADDR : Nat := 0x10c
end PCIE

/-! ### TIME: spec/11 after R297 -/

namespace TIME
def TB_CTL (n : Nat) : Nat := 0x100 + 0x40 * n
def TB_CTL_EN (n : Nat) : Fld := ⟨0x100 + 0x40 * n, 0, 1⟩
def TB_CTL_STEP_MODE (n : Nat) : Fld := ⟨0x100 + 0x40 * n, 1, 2⟩
def TB_CTL_STEP_GO (n : Nat) : Fld := ⟨0x100 + 0x40 * n, 4, 1⟩
def TB_CTL_STEP_CANCEL (n : Nat) : Fld := ⟨0x100 + 0x40 * n, 5, 1⟩
def TB_CTL_CLR_COARSE (n : Nat) : Fld := ⟨0x100 + 0x40 * n, 6, 1⟩
def TB_STAT (n : Nat) : Nat := 0x104 + 0x40 * n
def TB_STAT_RUNNING (n : Nat) : Fld := ⟨0x104 + 0x40 * n, 0, 1⟩
def TB_STAT_STEP_USED (n : Nat) : Fld := ⟨0x104 + 0x40 * n, 1, 1⟩
def TB_STAT_STEP_PEND (n : Nat) : Fld := ⟨0x104 + 0x40 * n, 2, 1⟩
def TB_STAT_COARSE (n : Nat) : Fld := ⟨0x104 + 0x40 * n, 3, 1⟩
def TB_STAT_STEP_REFUSED (n : Nat) : Fld := ⟨0x104 + 0x40 * n, 8, 1⟩
def TB_STAT_RATE_REFUSED (n : Nat) : Fld := ⟨0x104 + 0x40 * n, 9, 1⟩
def TB_STAT_RESTORED (n : Nat) : Fld := ⟨0x104 + 0x40 * n, 10, 1⟩
def TB_FREQ_LO (n : Nat) : Nat := 0x108 + 0x40 * n
def TB_FREQ_HI (n : Nat) : Nat := 0x10c + 0x40 * n
def TB_STEP_NS (n : Nat) : Nat := 0x110 + 0x40 * n
def TB_STEP_NS_NS (n : Nat) : Fld := ⟨0x110 + 0x40 * n, 0, 30⟩
def TB_STEP_NS_SIGN (n : Nat) : Fld := ⟨0x110 + 0x40 * n, 31, 1⟩
def TB_STEP_S_LO (n : Nat) : Nat := 0x114 + 0x40 * n
def TB_STEP_S_HI (n : Nat) : Nat := 0x118 + 0x40 * n
def TB_STEP_S_HI_S_HI (n : Nat) : Fld := ⟨0x118 + 0x40 * n, 0, 16⟩
def TB_UNC (n : Nat) : Nat := 0x11c + 0x40 * n
def EVT_TB : Nat := 0x200
def EVT_TB_TB : Fld := ⟨0x200, 0, 2⟩
def SNAP_CTL : Nat := 0x204
def SNAP_CTL_SNAP : Fld := ⟨0x204, 0, 1⟩
def AON_TOL : Nat := 0x208
def AON_TOL_PPM : Fld := ⟨0x208, 0, 16⟩
def SNAP_NS (n : Nat) : Nat := 0x210 + 0x10 * n
def SNAP_S_LO (n : Nat) : Nat := 0x214 + 0x10 * n
def SNAP_S_HI (n : Nat) : Nat := 0x218 + 0x10 * n
def SNAP_S_HI_S_HI (n : Nat) : Fld := ⟨0x218 + 0x10 * n, 0, 16⟩
def SNAP_S_HI_FRAC (n : Nat) : Fld := ⟨0x218 + 0x10 * n, 16, 16⟩
def SNAP_AON_LO : Nat := 0x250
def SNAP_AON_HI : Nat := 0x254
def SNAP_STAT : Nat := 0x258
def SNAP_STAT_VALID : Fld := ⟨0x258, 0, 1⟩
def TPO_CTL (n : Nat) : Nat := 0x300 + 0x20 * n
def TPO_CTL_MODE (n : Nat) : Fld := ⟨0x300 + 0x20 * n, 0, 2⟩
def TPO_CTL_TB (n : Nat) : Fld := ⟨0x300 + 0x20 * n, 4, 2⟩
def TPO_CTL_POL (n : Nat) : Fld := ⟨0x300 + 0x20 * n, 8, 1⟩
def TPO_CTL_ADJ (n : Nat) : Fld := ⟨0x300 + 0x20 * n, 16, 16⟩
def TPO_START_NS (n : Nat) : Nat := 0x304 + 0x20 * n
def TPO_START_NS_NS (n : Nat) : Fld := ⟨0x304 + 0x20 * n, 0, 30⟩
def TPO_START_S_LO (n : Nat) : Nat := 0x308 + 0x20 * n
def TPO_START_S_HI (n : Nat) : Nat := 0x30c + 0x20 * n
def TPO_START_S_HI_S_HI (n : Nat) : Fld := ⟨0x30c + 0x20 * n, 0, 16⟩
def TPO_PERIOD (n : Nat) : Nat := 0x310 + 0x20 * n
def TPO_WIDTH (n : Nat) : Nat := 0x314 + 0x20 * n
def TPO_STAT (n : Nat) : Nat := 0x318 + 0x20 * n
def TPO_STAT_ACTIVE (n : Nat) : Fld := ⟨0x318 + 0x20 * n, 0, 1⟩
def TPO_STAT_DONE (n : Nat) : Fld := ⟨0x318 + 0x20 * n, 1, 1⟩
def TPO_STAT_LATE (n : Nat) : Fld := ⟨0x318 + 0x20 * n, 2, 1⟩
def TPI_CTL (n : Nat) : Nat := 0x380 + 0x20 * n
def TPI_CTL_EN (n : Nat) : Fld := ⟨0x380 + 0x20 * n, 0, 1⟩
def TPI_CTL_EDGE (n : Nat) : Fld := ⟨0x380 + 0x20 * n, 1, 1⟩
def TPI_CTL_TB (n : Nat) : Fld := ⟨0x380 + 0x20 * n, 4, 2⟩
def TPI_CTL_ADJ (n : Nat) : Fld := ⟨0x380 + 0x20 * n, 16, 16⟩
def TPI_STAT (n : Nat) : Nat := 0x384 + 0x20 * n
def TPI_STAT_COUNT (n : Nat) : Fld := ⟨0x384 + 0x20 * n, 0, 3⟩
def TPI_STAT_OVF (n : Nat) : Fld := ⟨0x384 + 0x20 * n, 4, 1⟩
def TPI_NS (n : Nat) : Nat := 0x388 + 0x20 * n
def TPI_S_LO (n : Nat) : Nat := 0x38c + 0x20 * n
def TPI_S_HI (n : Nat) : Nat := 0x390 + 0x20 * n
def TPI_S_HI_S_HI (n : Nat) : Fld := ⟨0x390 + 0x20 * n, 0, 16⟩
def TPI_S_HI_FRAC (n : Nat) : Fld := ⟨0x390 + 0x20 * n, 16, 16⟩
def TPI_POP (n : Nat) : Nat := 0x394 + 0x20 * n
def TPI_POP_POP (n : Nat) : Fld := ⟨0x394 + 0x20 * n, 0, 1⟩
def INT_STEP_APPLIED : Nat := 4
def INT_STEP_REFUSED : Nat := 5
def INT_RATE_REFUSED : Nat := 6
def INT_RESTORED : Nat := 7
def INT_TPI_CAPT : Nat := 8
def INT_TPI_OVF : Nat := 9
def INT_TPO_DONE : Nat := 10
def INT_TPO_LATE : Nat := 11
end TIME

/-! ### TSU: spec/11 after R297 -/

namespace TSU
def TSU_SEL : Nat := 0x100
def TSU_SEL_UNIT : Fld := ⟨0x100, 0, 7⟩
def PT_CTL : Nat := 0x110
def PT_CTL_TX_EN : Fld := ⟨0x110, 0, 1⟩
def PT_CTL_RX_EN : Fld := ⟨0x110, 1, 1⟩
def PT_CTL_TB : Fld := ⟨0x110, 2, 2⟩
def PT_CTL_TX_KIND : Fld := ⟨0x110, 4, 2⟩
def PT_CTL_RX_KIND : Fld := ⟨0x110, 6, 2⟩
def PT_CTL_KEY_OFS : Fld := ⟨0x110, 8, 8⟩
def PT_CTL_FLT_OFS : Fld := ⟨0x110, 16, 7⟩
def PT_FLT_VAL_LO : Nat := 0x114
def PT_FLT_VAL_HI : Nat := 0x118
def PT_FLT_MASK_LO : Nat := 0x11c
def PT_FLT_MASK_HI : Nat := 0x120
def PT_ADJ : Nat := 0x124
def PT_ADJ_TX_ADJ : Fld := ⟨0x124, 0, 16⟩
def PT_ADJ_RX_ADJ : Fld := ⟨0x124, 16, 16⟩
def PT_GDLY_TX : Nat := 0x128
def PT_GDLY_RX : Nat := 0x12c
def PT_STAT : Nat := 0x130
def PT_STAT_TX_COUNT : Fld := ⟨0x130, 0, 5⟩
def PT_STAT_RX_COUNT : Fld := ⟨0x130, 8, 5⟩
def PT_STAT_TX_OVF : Fld := ⟨0x130, 16, 1⟩
def PT_STAT_RX_OVF : Fld := ⟨0x130, 17, 1⟩
def PT_POP : Nat := 0x134
def PT_POP_TX : Fld := ⟨0x134, 0, 1⟩
def PT_POP_RX : Fld := ⟨0x134, 1, 1⟩
def PT_DROP : Nat := 0x138
def PT_DROP_TX : Fld := ⟨0x138, 0, 16⟩
def PT_DROP_RX : Fld := ⟨0x138, 16, 16⟩
def PT_TX_W (n : Nat) : Nat := 0x140 + 0x4 * n
def PT_RX_W (n : Nat) : Nat := 0x160 + 0x4 * n
def LT_CTL : Nat := 0x180
def LT_CTL_KIND_EN : Fld := ⟨0x180, 0, 16⟩
def LT_STAT : Nat := 0x184
def LT_STAT_COUNT : Fld := ⟨0x184, 0, 5⟩
def LT_STAT_OVF : Fld := ⟨0x184, 8, 1⟩
def LT_POP : Nat := 0x188
def LT_POP_POP : Fld := ⟨0x188, 0, 1⟩
def LT_W0 : Nat := 0x190
def LT_W0_NS : Fld := ⟨0x190, 0, 30⟩
def LT_W1 : Nat := 0x194
def LT_W2 : Nat := 0x198
def LT_W2_PORT : Fld := ⟨0x198, 0, 6⟩
def LT_W2_POS_VALID : Fld := ⟨0x198, 7, 1⟩
def LT_W2_KIND : Fld := ⟨0x198, 8, 4⟩
def LT_W2_COARSE : Fld := ⟨0x198, 12, 1⟩
def LT_W2_GEN : Fld := ⟨0x198, 16, 16⟩
def LT_W3 : Nat := 0x19c
def LT_W4 : Nat := 0x1a0
def LT_DROP : Nat := 0x1a4
def TX_PEND (n : Nat) : Nat := 0x200 + 0x4 * n
def RX_PEND (n : Nat) : Nat := 0x208 + 0x4 * n
def LT_PEND : Nat := 0x210
def OVF_PORT0 : Nat := 0x214
def OVF_PORT1 : Nat := 0x218
def OVF_LANE : Nat := 0x21c
def INT_PORT_TS : Nat := 4
def INT_LANE_EVT : Nat := 5
def INT_OVF : Nat := 6
end TSU

/-! ### SCHED: spec/11 after R297 -/

namespace SCHED
def SCHED_CFG : Nat := 0x100
def SCHED_CFG_WAKE_MARGIN : Fld := ⟨0x100, 0, 16⟩
def SCHED_CFG_PWR_GUARD : Fld := ⟨0x100, 16, 16⟩
def SE_IDX : Nat := 0x104
def SCHED_STAT : Nat := 0x108
def SCHED_STAT_ENABLED : Fld := ⟨0x108, 0, 9⟩
def SCHED_STAT_TABLE_LOST : Fld := ⟨0x108, 16, 1⟩
def SCHED_STAT_WAKE_ARMED : Fld := ⟨0x108, 24, 1⟩
def SE_W0 : Nat := 0x110
def SE_W0_EN : Fld := ⟨0x110, 0, 1⟩
def SE_W0_TRIG : Fld := ⟨0x110, 1, 1⟩
def SE_W0_LATE_ATTR : Fld := ⟨0x110, 2, 1⟩
def SE_W0_WAKE : Fld := ⟨0x110, 3, 1⟩
def SE_W0_LOG : Fld := ⟨0x110, 5, 1⟩
def SE_W0_INT : Fld := ⟨0x110, 6, 1⟩
def SE_W0_ACTION : Fld := ⟨0x110, 8, 4⟩
def SE_W0_ARG : Fld := ⟨0x110, 16, 16⟩
def SE_W1 : Nat := 0x114
def SE_W1_PORT : Fld := ⟨0x114, 0, 6⟩
def SE_W1_DIR : Fld := ⟨0x114, 6, 1⟩
def SE_W1_TB : Fld := ⟨0x114, 8, 2⟩
def SE_W1_GEN : Fld := ⟨0x114, 16, 16⟩
def SE_W2 : Nat := 0x118
def SE_W3 : Nat := 0x11c
def SE_W4 : Nat := 0x120
def SE_W4_S_HI : Fld := ⟨0x120, 0, 16⟩
def SE_W5 : Nat := 0x124
def SE_W6 : Nat := 0x128
def SE_W6_TAG : Fld := ⟨0x128, 0, 16⟩
def SE_W6_TWIN : Fld := ⟨0x128, 16, 1⟩
def SE_W7 : Nat := 0x12c
def SE_W7_STATE : Fld := ⟨0x12c, 0, 3⟩
def SE_W7_LAST : Fld := ⟨0x12c, 4, 4⟩
def SE_W7_FIRE_CNT : Fld := ⟨0x12c, 8, 8⟩
def SE_W7_ARMED : Fld := ⟨0x12c, 16, 8⟩
def HIST_STAT : Nat := 0x140
def HIST_STAT_COUNT : Fld := ⟨0x140, 0, 6⟩
def HIST_STAT_OVF : Fld := ⟨0x140, 8, 1⟩
def HIST_POP : Nat := 0x144
def HIST_POP_POP : Fld := ⟨0x144, 0, 1⟩
def HIST_W0 : Nat := 0x150
def HIST_W0_ENTRY : Fld := ⟨0x150, 0, 8⟩
def HIST_W0_OUTCOME : Fld := ⟨0x150, 8, 4⟩
def HIST_W0_POS_VALID : Fld := ⟨0x150, 12, 1⟩
def HIST_W0_COARSE : Fld := ⟨0x150, 15, 1⟩
def HIST_W0_GEN : Fld := ⟨0x150, 16, 16⟩
def HIST_W1 : Nat := 0x154
def HIST_W2 : Nat := 0x158
def HIST_W3 : Nat := 0x15c
def HIST_W4 : Nat := 0x160
def HIST_W5 : Nat := 0x164
def HIST_W5_PORT : Fld := ⟨0x164, 0, 6⟩
def HIST_W5_DIR : Fld := ⟨0x164, 6, 1⟩
def HIST_W5_ACTION : Fld := ⟨0x164, 8, 4⟩
def HIST_DROP : Nat := 0x170
def INT_FIRED : Nat := 4
def INT_LATE : Nat := 5
def INT_SKIPPED : Nat := 6
def INT_REFUSED : Nat := 7
def INT_HIST_OVF : Nat := 8
def INT_TABLE_LOST : Nat := 9
end SCHED

/-! ### HK: spec/12 after R321 -/

namespace HK
def REF_CTL : Nat := 0x100
def REF_CTL_SEL : Fld := ⟨0x100, 0, 2⟩
def REF_CTL_EXTRA : Fld := ⟨0x100, 8, 4⟩
def STAT : Nat := 0x104
def STAT_REF_SETTLED : Fld := ⟨0x104, 0, 1⟩
def STAT_CFG_REFUSED : Fld := ⟨0x104, 8, 1⟩
def PWR_WAIT : Nat := 0x108
def PWR_WAIT_US : Fld := ⟨0x108, 0, 16⟩
def HKC_CTL (n : Nat) : Nat := 0x200 + 0x80 * n
def HKC_CTL_MODE (n : Nat) : Fld := ⟨0x200 + 0x80 * n, 0, 2⟩
def HKC_CTL_START (n : Nat) : Fld := ⟨0x200 + 0x80 * n, 4, 1⟩
def HKC_CTL_STOP (n : Nat) : Fld := ⟨0x200 + 0x80 * n, 5, 1⟩
def HKC_CTL_DELIVER_ALL (n : Nat) : Fld := ⟨0x200 + 0x80 * n, 8, 1⟩
def HKC_CTL_LEN (n : Nat) : Fld := ⟨0x200 + 0x80 * n, 12, 4⟩
def HKC_STAT (n : Nat) : Nat := 0x204 + 0x80 * n
def HKC_STAT_RUNNING (n : Nat) : Fld := ⟨0x204 + 0x80 * n, 0, 1⟩
def HKC_STAT_CLAIMED (n : Nat) : Fld := ⟨0x204 + 0x80 * n, 1, 1⟩
def HKC_STAT_CAL_RUN (n : Nat) : Fld := ⟨0x204 + 0x80 * n, 2, 1⟩
def HKC_STAT_SLOT (n : Nat) : Fld := ⟨0x204 + 0x80 * n, 4, 4⟩
def HKC_STAT_COUNT (n : Nat) : Fld := ⟨0x204 + 0x80 * n, 8, 7⟩
def HKC_STAT_OVF (n : Nat) : Fld := ⟨0x204 + 0x80 * n, 16, 1⟩
def HKC_STAT_TRIG_MISS (n : Nat) : Fld := ⟨0x204 + 0x80 * n, 17, 1⟩
def HKC_STAT_CAL_ABORTED (n : Nat) : Fld := ⟨0x204 + 0x80 * n, 18, 1⟩
def HKC_CAL_CTL (n : Nat) : Nat := 0x208 + 0x80 * n
def HKC_CAL_CTL_START (n : Nat) : Fld := ⟨0x208 + 0x80 * n, 0, 1⟩
def HKC_CAL_CTL_GSEL (n : Nat) : Fld := ⟨0x208 + 0x80 * n, 4, 2⟩
def HKC_CAL_FACT (n : Nat) : Nat := 0x20c + 0x80 * n
def HKC_CAL_FACT_OFFSET (n : Nat) : Fld := ⟨0x20c + 0x80 * n, 0, 16⟩
def HKC_CAL_FACT_GAIN (n : Nat) : Fld := ⟨0x20c + 0x80 * n, 16, 16⟩
def HKC_CAL_RES (n : Nat) : Nat := 0x210 + 0x80 * n
def HKC_CAL_RES_RES (n : Nat) : Fld := ⟨0x210 + 0x80 * n, 0, 16⟩
def HKC_CAL_RES_VALID (n : Nat) : Fld := ⟨0x210 + 0x80 * n, 31, 1⟩
def HKC_RES_W0 (n : Nat) : Nat := 0x220 + 0x80 * n
def HKC_RES_W1 (n : Nat) : Nat := 0x224 + 0x80 * n
def HKC_RES_W2 (n : Nat) : Nat := 0x228 + 0x80 * n
def HKC_RES_W3 (n : Nat) : Nat := 0x22c + 0x80 * n
def HKC_POP (n : Nat) : Nat := 0x230 + 0x80 * n
def HKC_POP_POP (n : Nat) : Fld := ⟨0x230 + 0x80 * n, 0, 1⟩
def HKC_DROP (n : Nat) : Nat := 0x234 + 0x80 * n
def HKC_SEQ (c n : Nat) : Nat := 0x240 + 0x80 * c + 0x4 * n
def HKC_SEQ_INPUT (c n : Nat) : Fld := ⟨0x240 + 0x80 * c + 0x4 * n, 0, 7⟩
def HKC_SEQ_GAIN (c n : Nat) : Fld := ⟨0x240 + 0x80 * c + 0x4 * n, 8, 2⟩
def HKC_SEQ_DEC_LOG2 (c n : Nat) : Fld := ⟨0x240 + 0x80 * c + 0x4 * n, 12, 4⟩
def HKC_SEQ_SHIFT (c n : Nat) : Fld := ⟨0x240 + 0x80 * c + 0x4 * n, 16, 6⟩
def HKC_SEQ_IOW (c n : Nat) : Fld := ⟨0x240 + 0x80 * c + 0x4 * n, 22, 2⟩
def HKC_SEQ_IOW_DIR (c n : Nat) : Fld := ⟨0x240 + 0x80 * c + 0x4 * n, 24, 1⟩
def HKC_SEQ_COUNT (c n : Nat) : Fld := ⟨0x240 + 0x80 * c + 0x4 * n, 26, 6⟩
def INT_RES_RDY (c : Nat) : Nat := 4 + c
def INT_OVF (c : Nat) : Nat := 8 + c
def INT_REF_SETTLED : Nat := 12
def INT_CAL_DONE : Nat := 13
def INT_CFG_REFUSED : Nat := 14
def INT_SEQ_DONE : Nat := 15
end HK

/-! ### FILT: spec/12 after R321 -/

namespace FILT
def FILT_CFG (n : Nat) : Nat := 0x100 + 0x40 * n
def FILT_CFG_HB (n : Nat) : Fld := ⟨0x100 + 0x40 * n, 0, 2⟩
def FILT_CFG_FIR_EN (n : Nat) : Fld := ⟨0x100 + 0x40 * n, 4, 1⟩
def FILT_CFG_FIR_DEC (n : Nat) : Fld := ⟨0x100 + 0x40 * n, 8, 3⟩
def FILT_CFG_FIR_SHIFT (n : Nat) : Fld := ⟨0x100 + 0x40 * n, 12, 3⟩
def FILT_CFG_BANK (n : Nat) : Fld := ⟨0x100 + 0x40 * n, 16, 1⟩
def FILT_CFG_TAPS (n : Nat) : Fld := ⟨0x100 + 0x40 * n, 24, 7⟩
def FILT_FLEN (n : Nat) : Nat := 0x104 + 0x40 * n
def FILT_FLEN_LEN_A (n : Nat) : Fld := ⟨0x104 + 0x40 * n, 0, 7⟩
def FILT_FLEN_LEN_B (n : Nat) : Fld := ⟨0x104 + 0x40 * n, 8, 7⟩
def FILT_GDLY (n : Nat) : Nat := 0x108 + 0x40 * n
def FILT_THR_CTL (n : Nat) : Nat := 0x10c + 0x40 * n
def FILT_THR_CTL_TH0_IN (n : Nat) : Fld := ⟨0x10c + 0x40 * n, 0, 7⟩
def FILT_THR_CTL_TH0_EN (n : Nat) : Fld := ⟨0x10c + 0x40 * n, 7, 1⟩
def FILT_THR_CTL_TH1_IN (n : Nat) : Fld := ⟨0x10c + 0x40 * n, 8, 7⟩
def FILT_THR_CTL_TH1_EN (n : Nat) : Fld := ⟨0x10c + 0x40 * n, 15, 1⟩
def FILT_TH0 (n : Nat) : Nat := 0x110 + 0x40 * n
def FILT_TH0_HI (n : Nat) : Fld := ⟨0x110 + 0x40 * n, 0, 16⟩
def FILT_TH0_LO (n : Nat) : Fld := ⟨0x110 + 0x40 * n, 16, 16⟩
def FILT_TH1 (n : Nat) : Nat := 0x114 + 0x40 * n
def FILT_TH1_HI (n : Nat) : Fld := ⟨0x114 + 0x40 * n, 0, 16⟩
def FILT_TH1_LO (n : Nat) : Fld := ⟨0x114 + 0x40 * n, 16, 16⟩
def FILT_TH_STAT (n : Nat) : Nat := 0x118 + 0x40 * n
def FILT_TH_STAT_HI0 (n : Nat) : Fld := ⟨0x118 + 0x40 * n, 0, 1⟩
def FILT_TH_STAT_LO0 (n : Nat) : Fld := ⟨0x118 + 0x40 * n, 1, 1⟩
def FILT_TH_STAT_HI1 (n : Nat) : Fld := ⟨0x118 + 0x40 * n, 2, 1⟩
def FILT_TH_STAT_LO1 (n : Nat) : Fld := ⟨0x118 + 0x40 * n, 3, 1⟩
def FCOEF_IDX : Nat := 0x200
def FCOEF_IDX_TAP : Fld := ⟨0x200, 0, 6⟩
def FCOEF_IDX_BANK : Fld := ⟨0x200, 6, 1⟩
def FCOEF_IDX_CORE : Fld := ⟨0x200, 8, 2⟩
def FCOEF_IDX_AUTO_INC : Fld := ⟨0x200, 12, 1⟩
def FCOEF_DATA : Nat := 0x204
def FCOEF_DATA_VALUE : Fld := ⟨0x204, 0, 16⟩
def FSTAT : Nat := 0x208
def FSTAT_CFG_REFUSED : Fld := ⟨0x208, 0, 1⟩
end FILT

/-! ### HDAC: spec/12 after R321 -/

namespace HDAC
def STROBE : Nat := 0x100
def STROBE_GROUPS : Fld := ⟨0x100, 0, 16⟩
def CLR_STAT : Nat := 0x104
def CLR_STAT_LOW : Fld := ⟨0x104, 0, 1⟩
def CLR_STAT_SEEN : Fld := ⟨0x104, 1, 1⟩
def PWR_CTL : Nat := 0x108
def PWR_CTL_FLOAT_OK : Fld := ⟨0x108, 0, 1⟩
def HSTAT : Nat := 0x10c
def HSTAT_CFG_REFUSED : Fld := ⟨0x10c, 0, 1⟩
def CH_CTL (n : Nat) : Nat := 0x200 + 0x10 * n
def CH_CTL_MODE (n : Nat) : Fld := ⟨0x200 + 0x10 * n, 0, 2⟩
def CH_CTL_UPD (n : Nat) : Fld := ⟨0x200 + 0x10 * n, 4, 2⟩
def CH_CTL_GROUP (n : Nat) : Fld := ⟨0x200 + 0x10 * n, 8, 4⟩
def CH_CTL_CLR_EN (n : Nat) : Fld := ⟨0x200 + 0x10 * n, 12, 1⟩
def CH_CTL_SRC (n : Nat) : Fld := ⟨0x200 + 0x10 * n, 16, 3⟩
def CH_CTL_RESUME (n : Nat) : Fld := ⟨0x200 + 0x10 * n, 24, 1⟩
def CH_CODE (n : Nat) : Nat := 0x204 + 0x10 * n
def CH_CODE_CODE (n : Nat) : Fld := ⟨0x204 + 0x10 * n, 0, 16⟩
def CH_CLR (n : Nat) : Nat := 0x208 + 0x10 * n
def CH_CLR_CLR_CODE (n : Nat) : Fld := ⟨0x208 + 0x10 * n, 0, 16⟩
def CH_STAT (n : Nat) : Nat := 0x20c + 0x10 * n
def CH_STAT_CHANGING (n : Nat) : Fld := ⟨0x20c + 0x10 * n, 0, 1⟩
def CH_STAT_CLEARED (n : Nat) : Fld := ⟨0x20c + 0x10 * n, 1, 1⟩
def CH_STAT_SC (n : Nat) : Fld := ⟨0x20c + 0x10 * n, 2, 1⟩
def CH_STAT_SC_SEEN (n : Nat) : Fld := ⟨0x20c + 0x10 * n, 3, 1⟩
def CH_STAT_COMPLIANCE (n : Nat) : Fld := ⟨0x20c + 0x10 * n, 4, 1⟩
def CH_STAT_COMP_SEEN (n : Nat) : Fld := ⟨0x20c + 0x10 * n, 5, 1⟩
def CH_STAT_WRITTEN (n : Nat) : Fld := ⟨0x20c + 0x10 * n, 6, 1⟩
def CH_STAT_OUT (n : Nat) : Fld := ⟨0x20c + 0x10 * n, 16, 16⟩
def NCO_CTL (n : Nat) : Nat := 0x400 + 0x20 * n
def NCO_CTL_EN (n : Nat) : Fld := ⟨0x400 + 0x20 * n, 0, 1⟩
def NCO_CTL_SHAPE (n : Nat) : Fld := ⟨0x400 + 0x20 * n, 1, 1⟩
def NCO_CTL_DIR (n : Nat) : Fld := ⟨0x400 + 0x20 * n, 2, 1⟩
def NCO_FSTART (n : Nat) : Nat := 0x404 + 0x20 * n
def NCO_FSTART_F (n : Nat) : Fld := ⟨0x404 + 0x20 * n, 0, 24⟩
def NCO_FSTOP (n : Nat) : Nat := 0x408 + 0x20 * n
def NCO_FSTOP_F (n : Nat) : Fld := ⟨0x408 + 0x20 * n, 0, 24⟩
def NCO_SWEEP (n : Nat) : Nat := 0x40c + 0x20 * n
def NCO_SWEEP_US (n : Nat) : Fld := ⟨0x40c + 0x20 * n, 0, 24⟩
def NCO_AMP (n : Nat) : Nat := 0x410 + 0x20 * n
def NCO_AMP_AMP (n : Nat) : Fld := ⟨0x410 + 0x20 * n, 0, 16⟩
def INT_SC : Nat := 4
def INT_COMPLIANCE : Nat := 5
def INT_CLR_ASSERTED : Nat := 6
def INT_CHANGE_DONE : Nat := 7
def INT_CFG_REFUSED : Nat := 8
end HDAC

/-! ### THERM: spec/13 after R332 -/

namespace THERM
def MEAS_CTL : Nat := 0x100
def MEAS_CTL_MEAS : Fld := ⟨0x100, 0, 1⟩
def MEAS_CTL_AON_PERIOD_MS : Fld := ⟨0x100, 8, 8⟩
def MEAS_CTL_PERIOD_US : Fld := ⟨0x100, 16, 16⟩
def STAT : Nat := 0x104
def STAT_BUSY : Fld := ⟨0x104, 0, 1⟩
def STAT_BAND : Fld := ⟨0x104, 1, 3⟩
def STAT_DWELLING : Fld := ⟨0x104, 4, 1⟩
def STAT_CRIT : Fld := ⟨0x104, 8, 1⟩
def STAT_CRIT_SEEN : Fld := ⟨0x104, 9, 1⟩
def STAT_MISS : Fld := ⟨0x104, 10, 1⟩
def STAT_CFG_REFUSED : Fld := ⟨0x104, 11, 1⟩
def STAT_SENSOR_FAULT : Fld := ⟨0x104, 16, 5⟩
def STAT_ANY_FAULT : Fld := ⟨0x104, 21, 1⟩
def TMAX : Nat := 0x108
def TMAX_MAX : Fld := ⟨0x108, 0, 12⟩
def TMAX_SENSOR : Fld := ⟨0x108, 16, 5⟩
def TAVG : Nat := 0x10c
def TAVG_AVG : Fld := ⟨0x10c, 0, 16⟩
def SENS_IDX : Nat := 0x110
def SENS_IDX_SENSOR : Fld := ⟨0x110, 0, 5⟩
def SENS_DATA : Nat := 0x114
def SENS_DATA_VALUE : Fld := ⟨0x114, 0, 12⟩
def SENS_DATA_FAULT : Fld := ⟨0x114, 16, 1⟩
def SENS_DATA_MASKED : Fld := ⟨0x114, 17, 1⟩
def SENSOR_MASK : Nat := 0x118
def SENSOR_MASK_MASK : Fld := ⟨0x118, 0, 24⟩
def FAULT_MAP : Nat := 0x11c
def FAULT_MAP_FAULT : Fld := ⟨0x11c, 0, 24⟩
def BAND_CTL : Nat := 0x120
def BAND_CTL_HYST : Fld := ⟨0x120, 0, 4⟩
def BAND_CTL_DWELL : Fld := ⟨0x120, 8, 4⟩
def BAND_CTL_FORCE_EN : Fld := ⟨0x120, 16, 1⟩
def BAND_CTL_FORCE_BAND : Fld := ⟨0x120, 20, 3⟩
def BT (n : Nat) : Nat := 0x124 + 0x4 * n
def BT_EDGE (n : Nat) : Fld := ⟨0x124 + 0x4 * n, 0, 12⟩
def BAND_CFG (n : Nat) : Nat := 0x140 + 0x4 * n
def BAND_CFG_AVS (n : Nat) : Fld := ⟨0x140 + 0x4 * n, 0, 8⟩
def BAND_CFG_REF (n : Nat) : Fld := ⟨0x140 + 0x4 * n, 8, 2⟩
def BAND_CFG_SEED (n : Nat) : Fld := ⟨0x140 + 0x4 * n, 12, 2⟩
def BAND_CFG_PHY (n : Nat) : Fld := ⟨0x140 + 0x4 * n, 16, 2⟩
def THR_CTL : Nat := 0x160
def THR_CTL_START : Fld := ⟨0x160, 0, 12⟩
def THR_CTL_GAIN : Fld := ⟨0x160, 16, 8⟩
def THR_STAT : Nat := 0x164
def THR_STAT_T : Fld := ⟨0x164, 0, 5⟩
def THR_STAT_RED : Fld := ⟨0x164, 8, 3⟩
def THR_STAT_D : Fld := ⟨0x164, 12, 4⟩
def THR_STAT_SHARE : Fld := ⟨0x164, 16, 4⟩
def THR_STAT_KDIV : Fld := ⟨0x164, 20, 2⟩
def THR_STAT_L : Fld := ⟨0x164, 24, 4⟩
def ALARM : Nat := 0x168
def ALARM_THR : Fld := ⟨0x168, 0, 12⟩
def ALARM_WAKE_EN : Fld := ⟨0x168, 16, 1⟩
def INT_BAND_CHG : Nat := 4
def INT_SENSOR_FAULT : Nat := 5
def INT_CRIT : Nat := 6
def INT_CRIT_CLR : Nat := 7
def INT_ALARM : Nat := 8
def INT_MISS : Nat := 9
def INT_CFG_REFUSED : Nat := 10
def INT_THROTTLE : Nat := 11
end THERM

/-! ### FOG: spec/10 after R269 -/

namespace FOG
def FOG_CTL : Nat := 0x100
def FOG_CTL_TX_EN : Fld := ⟨0x100, 0, 1⟩
def FOG_CTL_RX_EN : Fld := ⟨0x100, 1, 1⟩
def FOG_CTL_RX_PATH : Fld := ⟨0x100, 4, 2⟩
def FOG_CTL_SLOTTED : Fld := ⟨0x100, 8, 1⟩
def FOG_CTL_REF_LANE : Fld := ⟨0x100, 16, 5⟩
def FOG_STAT : Nat := 0x104
def FOG_STAT_RX_STATE : Fld := ⟨0x104, 0, 3⟩
def FOG_STAT_TX_BUSY : Fld := ⟨0x104, 3, 1⟩
def FOG_STAT_PATH : Fld := ⟨0x104, 4, 2⟩
def FOG_STAT_DUTY : Fld := ⟨0x104, 6, 1⟩
def FOG_STAT_CFG_REFUSED : Fld := ⟨0x104, 8, 1⟩
def FOG_STAT_RX_OVF : Fld := ⟨0x104, 9, 1⟩
def PHY_CFG : Nat := 0x108
def PHY_CFG_SF : Fld := ⟨0x108, 0, 4⟩
def PHY_CFG_BW : Fld := ⟨0x108, 4, 2⟩
def PHY_CFG_CR : Fld := ⟨0x108, 8, 2⟩
def PHY_CFG_PRE_LEN : Fld := ⟨0x108, 16, 6⟩
def FREQ : Nat := 0x10c
def FREQ_FC : Fld := ⟨0x10c, 0, 10⟩
def TX_LVL : Nat := 0x110
def TX_LVL_DEPTH : Fld := ⟨0x110, 0, 12⟩
def RX_LANES : Nat := 0x118
def RX_LANES_LANES : Fld := ⟨0x118, 0, 17⟩
def RX_INV : Nat := 0x11c
def RX_INV_INV : Fld := ⟨0x11c, 0, 17⟩
def HK_RX : Nat := 0x120
def HK_RX_HKC : Fld := ⟨0x120, 0, 2⟩
def HK_RX_HKIN : Fld := ⟨0x120, 8, 6⟩
def HK_RX_EN : Fld := ⟨0x120, 16, 1⟩
def HDAC_TX : Nat := 0x124
def HDAC_TX_CH : Fld := ⟨0x124, 0, 5⟩
def HDAC_TX_EN : Fld := ⟨0x124, 8, 1⟩
def HDAC_TX_DEPTH : Fld := ⟨0x124, 16, 16⟩
def LINK : Nat := 0x128
def LINK_CODE : Fld := ⟨0x128, 0, 12⟩
def DET_CTL : Nat := 0x12c
def DET_CTL_DET_THR : Fld := ⟨0x12c, 0, 8⟩
def DET_CTL_CAPTURE_MARGIN : Fld := ⟨0x12c, 8, 4⟩
def DET_CTL_PRE_DET : Fld := ⟨0x12c, 12, 4⟩
def TX_QCTL : Nat := 0x130
def TX_QCTL_BUF : Fld := ⟨0x130, 0, 2⟩
def TX_QCTL_LEN : Fld := ⟨0x130, 16, 10⟩
def TX_QCTL_GO : Fld := ⟨0x130, 31, 1⟩
def TX_QSTAT : Nat := 0x134
def TX_QSTAT_BUSY : Fld := ⟨0x134, 0, 4⟩
def TX_QSTAT_DONE : Fld := ⟨0x134, 8, 4⟩
def TX_QSTAT_ABORTED : Fld := ⟨0x134, 12, 4⟩
def TX_SEQ : Nat := 0x138
def TX_SEQ_SEQ : Fld := ⟨0x138, 0, 16⟩
def TXB_IDX : Nat := 0x13c
def TXB_IDX_WORD : Fld := ⟨0x13c, 0, 8⟩
def TXB_IDX_BUF : Fld := ⟨0x13c, 8, 2⟩
def TXB_IDX_AUTO_INC : Fld := ⟨0x13c, 12, 1⟩
def TXB_DATA : Nat := 0x140
def RX_RING : Nat := 0x144
def RX_RING_COUNT : Fld := ⟨0x144, 0, 4⟩
def RX_POP : Nat := 0x148
def RX_POP_POP : Fld := ⟨0x148, 0, 1⟩
def RXB_IDX : Nat := 0x14c
def RXB_IDX_WORD : Fld := ⟨0x14c, 0, 9⟩
def RXB_IDX_AUTO_INC : Fld := ⟨0x14c, 12, 1⟩
def RXB_DATA : Nat := 0x150
def TX_TS_NS : Nat := 0x158
def TX_TS_S : Nat := 0x15c
def TS_ADJ : Nat := 0x160
def TS_ADJ_TX_ADJ : Fld := ⟨0x160, 0, 16⟩
def TS_ADJ_RX_ADJ : Fld := ⟨0x160, 16, 16⟩
def PWR_CTL : Nat := 0x164
def PWR_CTL_PS4_PERIOD : Fld := ⟨0x164, 0, 8⟩
def PWR_CTL_MAX_WAIT : Fld := ⟨0x164, 8, 16⟩
def PWR_CTL_ABORT_OK : Fld := ⟨0x164, 24, 1⟩
def PWR_CTL_HAIL_PRE : Fld := ⟨0x164, 25, 7⟩
def LAST_RX : Nat := 0x168
def LAST_RX_SNR : Fld := ⟨0x168, 0, 16⟩
def LAST_RX_POWER : Fld := ⟨0x168, 16, 16⟩
def TRACK : Nat := 0x16c
def TRACK_DRIFT : Fld := ⟨0x16c, 0, 16⟩
def CNT_CTL : Nat := 0x170
def CNT_CTL_WRAP : Fld := ⟨0x170, 0, 10⟩
def CNT_CTL_CLR : Fld := ⟨0x170, 16, 1⟩
def TX_BTS_NS : Nat := 0x174
def TX_BTS_S : Nat := 0x178
def CNT (n : Nat) : Nat := 0x180 + 0x4 * n
def INT_RX_PKT : Nat := 4
def INT_TX_DONE : Nat := 5
def INT_HDR_FAIL : Nat := 6
def INT_PAY_FAIL : Nat := 7
def INT_RX_OVF : Nat := 8
def INT_CAPTURED : Nat := 9
def INT_TRACK_LOST : Nat := 10
def INT_CFG_REFUSED : Nat := 11
def INT_WRAPPED : Nat := 12
end FOG

/-! ### TWIN: spec/09 after R245 -/

namespace TWIN
def PAIR_CTL : Nat := 0x100
def PAIR_CTL_HAIL : Fld := ⟨0x100, 0, 1⟩
def PAIR_CTL_LISTEN : Fld := ⟨0x100, 1, 1⟩
def PAIR_CTL_RELEASE : Fld := ⟨0x100, 2, 1⟩
def PAIR_CTL_EXPECT_EN : Fld := ⟨0x100, 3, 1⟩
def PAIR_CTL_HAIL_PERIOD : Fld := ⟨0x100, 8, 8⟩
def PAIR_CTL_HAIL_LIMIT : Fld := ⟨0x100, 16, 16⟩
def PAIR_STAT : Nat := 0x104
def PAIR_STAT_STATE : Fld := ⟨0x104, 0, 3⟩
def PAIR_STAT_KEYS_LOST : Fld := ⟨0x104, 3, 1⟩
def PAIR_STAT_ROLE : Fld := ⟨0x104, 4, 1⟩
def PAIR_STAT_FAIL_REASON : Fld := ⟨0x104, 8, 4⟩
def PAIR_STAT_AUTH_FAIL : Fld := ⟨0x104, 16, 16⟩
def HB_CTL : Nat := 0x108
def HB_CTL_PERIOD : Fld := ⟨0x108, 0, 12⟩
def HB_CTL_MISS : Fld := ⟨0x108, 12, 4⟩
def HB_CTL_ADRIFT_LIMIT : Fld := ⟨0x108, 16, 16⟩
def PEER_ID (n : Nat) : Nat := 0x110 + 0x4 * n
def EXPECT_ID (n : Nat) : Nat := 0x120 + 0x4 * n
def TX_CNT : Nat := 0x130
def RX_CNT : Nat := 0x134
def POS_CTL : Nat := 0x140
def POS_CTL_RUN : Fld := ⟨0x140, 0, 1⟩
def POS_CTL_AUTO : Fld := ⟨0x140, 1, 1⟩
def POS_STAT : Nat := 0x144
def POS_STAT_BUSY : Fld := ⟨0x144, 0, 1⟩
def POS_STAT_FAIL : Fld := ⟨0x144, 1, 1⟩
def POS_STAT_RELATED : Fld := ⟨0x144, 8, 8⟩
def POS_IDX : Nat := 0x148
def POS_IDX_PORT : Fld := ⟨0x148, 0, 6⟩
def POS_IDX_DIR : Fld := ⟨0x148, 8, 1⟩
def POS_REL0 : Nat := 0x14c
def POS_REL0_LOCAL_GEN : Fld := ⟨0x14c, 0, 16⟩
def POS_REL0_TWIN_GEN : Fld := ⟨0x14c, 16, 16⟩
def POS_REL1 : Nat := 0x150
def POS_REL2 : Nat := 0x154
def POS_REL2_TWIN_PORT : Fld := ⟨0x154, 0, 6⟩
def POS_REL2_RESID : Fld := ⟨0x154, 16, 12⟩
def POS_REL2_VALID : Fld := ⟨0x154, 31, 1⟩
def COORD_CTL : Nat := 0x160
def COORD_CTL_SE : Fld := ⟨0x160, 0, 8⟩
def COORD_CTL_PORT : Fld := ⟨0x160, 8, 6⟩
def COORD_CTL_ACTION : Fld := ⟨0x160, 16, 2⟩
def COORD_CTL_START : Fld := ⟨0x160, 24, 1⟩
def COORD_CTL_ABORT : Fld := ⟨0x160, 25, 1⟩
def COORD_N_LO : Nat := 0x164
def COORD_N_HI : Nat := 0x168
def COORD_TAG : Nat := 0x16c
def COORD_TAG_TAG : Fld := ⟨0x16c, 0, 16⟩
def COORD_TAG_CUTOFF : Fld := ⟨0x16c, 16, 16⟩
def COORD_VER : Nat := 0x170
def COORD_STAT : Nat := 0x174
def COORD_STAT_PHASE : Fld := ⟨0x174, 0, 3⟩
def COORD_STAT_REASON : Fld := ⟨0x174, 8, 4⟩
def COORD_STAT_RESPONDER : Fld := ⟨0x174, 12, 1⟩
def CFG_TWIN_ACT : Nat := 0x180
def CFG_TWIN_PREV : Nat := 0x184
def SPARE_CTL : Nat := 0x190
def SPARE_CTL_LANE : Fld := ⟨0x190, 0, 4⟩
def SPARE_CTL_OP : Fld := ⟨0x190, 4, 3⟩
def SPARE_CTL_AUTO_SWITCH : Fld := ⟨0x190, 8, 1⟩
def SPARE_CTL_TRAIN_LIMIT : Fld := ⟨0x190, 16, 16⟩
def SPARE_STAT : Nat := 0x194
def SPARE_STAT_STATE : Fld := ⟨0x194, 0, 4⟩
def SPARE_STAT_LANE : Fld := ⟨0x194, 4, 4⟩
def SPARE_STAT_REASON : Fld := ⟨0x194, 8, 4⟩
def SPARE_STAT_MATCH : Fld := ⟨0x194, 12, 1⟩
def SPARE_STAT_IN_WINDOW : Fld := ⟨0x194, 13, 1⟩
def SPARE_STAT_TWIN_READY : Fld := ⟨0x194, 14, 1⟩
def SPARE_STAT_TWIN_SWITCHED : Fld := ⟨0x194, 15, 1⟩
def SPARE_STAT_SUBST : Fld := ⟨0x194, 16, 1⟩
def SPARE_STAT_SWITCH_SKIPPED : Fld := ⟨0x194, 17, 1⟩
def SPARE_OFS : Nat := 0x198
def SPARE_OFS_DELTA : Fld := ⟨0x198, 0, 24⟩
def SPARE_RSV : Nat := 0x19c
def SPARE_RSV_RSV : Fld := ⟨0x19c, 0, 12⟩
def EMERG_CTL : Nat := 0x1a0
def EMERG_CTL_EN : Fld := ⟨0x1a0, 0, 1⟩
def EMERG_CTL_ANSWER_EN : Fld := ⟨0x1a0, 1, 1⟩
def EMERG_CTL_HOLD : Fld := ⟨0x1a0, 8, 8⟩
def EMERG_STAT : Nat := 0x1a4
def EMERG_STAT_ACTIVE : Fld := ⟨0x1a4, 0, 1⟩
def EMERG_STAT_IDENTIFIED : Fld := ⟨0x1a4, 4, 1⟩
def EMERG_STAT_LANE : Fld := ⟨0x1a4, 8, 4⟩
def RANGE_CTL : Nat := 0x1b0
def RANGE_CTL_RUN : Fld := ⟨0x1b0, 0, 1⟩
def RANGE_CTL_NG : Fld := ⟨0x1b0, 16, 16⟩
def RANGE_STAT : Nat := 0x1b4
def RANGE_STAT_VALID : Fld := ⟨0x1b4, 0, 1⟩
def RANGE_STAT_BUSY : Fld := ⟨0x1b4, 1, 1⟩
def RANGE_STAT_FIBRE_M : Fld := ⟨0x1b4, 16, 16⟩
def RANGE_NS : Nat := 0x1b8
def RANGE_NS_NS : Fld := ⟨0x1b8, 0, 24⟩
def HEALTH_CTL : Nat := 0x1c0
def HEALTH_CTL_REQ : Fld := ⟨0x1c0, 0, 1⟩
def HEALTH_IDX : Nat := 0x1c4
def HEALTH_SEQ : Nat := 0x1c8
def HEALTH_TYPE : Nat := 0x1cc
def HEALTH_TIME : Nat := 0x1d0
def HEALTH_DIG_LO : Nat := 0x1d4
def HEALTH_DIG_HI : Nat := 0x1d8
def PEER (n : Nat) : Nat := 0x200 + 0x4 * n
def PEER_TWIN_PORT (n : Nat) : Fld := ⟨0x200 + 0x4 * n, 0, 6⟩
def PEER_EN (n : Nat) : Fld := ⟨0x200 + 0x4 * n, 8, 1⟩
def INT_PAIRED : Nat := 4
def INT_ADRIFT : Nat := 5
def INT_PAIR_FAIL : Nat := 6
def INT_AUTH_FAIL : Nat := 7
def INT_RELEASED : Nat := 8
def INT_POS_DONE : Nat := 9
def INT_POS_FAIL : Nat := 10
def INT_COORD_DONE : Nat := 11
def INT_COORD_FAIL : Nat := 12
def INT_VERSION_CHG : Nat := 13
def INT_SPARE_CHG : Nat := 14
def INT_SPARE_FAIL : Nat := 15
def INT_EMERGENCY : Nat := 16
def INT_RANGE_DONE : Nat := 17
def INT_HEALTH_RX : Nat := 18
end TWIN

/-! ### PERF: spec/18 after R439 -/

namespace PERF
def CTL : Nat := 0x100
def CTL_GLOBAL_EN : Fld := ⟨0x100, 0, 1⟩
def CTL_CLR_ALL : Fld := ⟨0x100, 1, 1⟩
def WRAP (n : Nat) : Nat := 0x104 + 0x4 * n
def PC_CTL (n : Nat) : Nat := 0x200 + 0x10 * n
def PC_CTL_EVT (n : Nat) : Fld := ⟨0x200 + 0x10 * n, 0, 10⟩
def PC_CTL_EN (n : Nat) : Fld := ⟨0x200 + 0x10 * n, 16, 1⟩
def PC_CTL_VALID (n : Nat) : Fld := ⟨0x200 + 0x10 * n, 17, 1⟩
def PC_LO (n : Nat) : Nat := 0x204 + 0x10 * n
def PC_HI (n : Nat) : Nat := 0x208 + 0x10 * n
end PERF

/-! ### BIST: spec/18 after R439 -/

namespace BIST
def CTL : Nat := 0x100
def CTL_START : Fld := ⟨0x100, 0, 1⟩
def CTL_STOP : Fld := ⟨0x100, 1, 1⟩
def RUN_MASK : Nat := 0x104
def RUN_MASK_MASK : Fld := ⟨0x104, 0, 24⟩
def STAT : Nat := 0x108
def STAT_BUSY : Fld := ⟨0x108, 0, 1⟩
def STAT_OVERALL : Fld := ⟨0x108, 1, 2⟩
def STAT_KIND : Fld := ⟨0x108, 3, 1⟩
def STAT_TIME_VALID : Fld := ⟨0x108, 4, 1⟩
def STAT_PRECOND : Fld := ⟨0x108, 5, 1⟩
def RESULT0 : Nat := 0x10c
def RESULT1 : Nat := 0x110
def DOM_IDX : Nat := 0x114
def DOM_IDX_DOMAIN : Fld := ⟨0x114, 0, 5⟩
def DOM_DETAIL : Nat := 0x118
def DOM_DETAIL_RESULT : Fld := ⟨0x118, 0, 2⟩
def DOM_DETAIL_REASON : Fld := ⟨0x118, 4, 4⟩
def DOM_DETAIL_LOGIC_DONE : Fld := ⟨0x118, 8, 1⟩
def DOM_DETAIL_MEM_DONE : Fld := ⟨0x118, 9, 1⟩
def DOM_DETAIL_LOGIC_MISMATCH : Fld := ⟨0x118, 10, 1⟩
def DOM_DETAIL_MEM_MISMATCH : Fld := ⟨0x118, 11, 1⟩
def DOM_DETAIL_PATTERNS : Fld := ⟨0x118, 16, 13⟩
def DOM_SIG : Nat := 0x11c
def RAIL_STAT : Nat := 0x120
def RAIL_STAT_RAIL : Fld := ⟨0x120, 0, 7⟩
def POR_MASK : Nat := 0x124
def EXCLUDED : Nat := 0x128
def RUN_NS : Nat := 0x12c
def RUN_S : Nat := 0x130
def RUN_AON_LO : Nat := 0x134
def RUN_AON_HI : Nat := 0x138
def LANE_CTL : Nat := 0x140
def LANE_CTL_LANE : Fld := ⟨0x140, 0, 5⟩
def LANE_CTL_START : Fld := ⟨0x140, 8, 1⟩
def LANE_STAT : Nat := 0x144
def LANE_STAT_BUSY : Fld := ⟨0x144, 0, 1⟩
def LANE_STAT_RESULT : Fld := ⟨0x144, 1, 2⟩
def LANE_STAT_REASON : Fld := ⟨0x144, 4, 4⟩
def LANE_STAT_RX_FAIL : Fld := ⟨0x144, 8, 1⟩
def LANE_STAT_TX_FAIL : Fld := ⟨0x144, 9, 1⟩
def LANE_STAT_SLICE_FAIL : Fld := ⟨0x144, 10, 1⟩
def LANE_STAT_ADC_BAD : Fld := ⟨0x144, 16, 8⟩
def LANE_STAT_DAC_BAD : Fld := ⟨0x144, 24, 8⟩
end BIST

/-! ### PMAP: spec/08 after R219 -/

namespace PMAP
def MUX_LOCK : Nat := 0x100
def MUX_LOCK_LOCK : Fld := ⟨0x100, 0, 16⟩
def SLOT_IDX : Nat := 0x104
def SLOT_IDX_LANE : Fld := ⟨0x104, 0, 4⟩
def SLOT_OWN : Nat := 0x108
def DESKEW_CAP : Nat := 0x10c
def DESKEW_CAP_HOST_NS : Fld := ⟨0x10c, 0, 16⟩
def DESKEW_CAP_LINE_NS : Fld := ⟨0x10c, 16, 16⟩
def TX_ALIGNED (n : Nat) : Nat := 0x110 + 0x4 * n
def RX_ALIGNED (n : Nat) : Nat := 0x118 + 0x4 * n
def INT_MUX_LOCK_LOST : Nat := 4
def INT_LE16 : Nat := 31
end PMAP

/-! ### FEC: spec/05 after R146 -/

namespace FEC
def FEC_STAT : Nat := 0x100
def FEC_STAT_CFG_REFUSED : Fld := ⟨0x100, 0, 1⟩
def LOSS_MAP : Nat := 0x104
def LOSS_MAP_LANE : Fld := ⟨0x104, 0, 17⟩
def FAIL_MAP : Nat := 0x108
def FAIL_MAP_LANE : Fld := ⟨0x108, 0, 17⟩
def WRAP_MAP : Nat := 0x10c
def WRAP_MAP_LANE : Fld := ⟨0x10c, 0, 17⟩
def THR_STAT : Nat := 0x110
def THR_STAT_RED : Fld := ⟨0x110, 0, 3⟩
def LANE_CTL (n : Nat) : Nat := 0x180 + 0x4 * n
def LANE_CTL_MODE (n : Nat) : Fld := ⟨0x180 + 0x4 * n, 0, 1⟩
def LANE_CTL_ITER_MAX (n : Nat) : Fld := ⟨0x180 + 0x4 * n, 8, 4⟩
def LANE_CTL_ITER_FLOOR (n : Nat) : Fld := ⟨0x180 + 0x4 * n, 12, 4⟩
def LANE_CTL_LOG_EN (n : Nat) : Fld := ⟨0x180 + 0x4 * n, 16, 1⟩
def LANE_CTL_LOG_SHIFT (n : Nat) : Fld := ⟨0x180 + 0x4 * n, 20, 5⟩
def LPC_STAT (n : Nat) : Nat := 0x200 + 0x20 * n
def LPC_STAT_LOCK (n : Nat) : Fld := ⟨0x200 + 0x20 * n, 0, 1⟩
def LPC_STAT_ACTIVE (n : Nat) : Fld := ⟨0x200 + 0x20 * n, 1, 1⟩
def LPC_STAT_ITER (n : Nat) : Fld := ⟨0x200 + 0x20 * n, 8, 4⟩
def LPC_STAT_FMATCH (n : Nat) : Fld := ⟨0x200 + 0x20 * n, 16, 9⟩
def CORR_LO (n : Nat) : Nat := 0x204 + 0x20 * n
def CORR_HI (n : Nat) : Nat := 0x208 + 0x20 * n
def ROW_LO (n : Nat) : Nat := 0x20c + 0x20 * n
def ROW_HI (n : Nat) : Nat := 0x210 + 0x20 * n
def FAIL (n : Nat) : Nat := 0x214 + 0x20 * n
def REDUCED (n : Nat) : Nat := 0x218 + 0x20 * n
def CNT_CTL (n : Nat) : Nat := 0x21c + 0x20 * n
def CNT_CTL_CORR_WRAP (n : Nat) : Fld := ⟨0x21c + 0x20 * n, 0, 1⟩
def CNT_CTL_ROW_WRAP (n : Nat) : Fld := ⟨0x21c + 0x20 * n, 1, 1⟩
def CNT_CTL_FAIL_WRAP (n : Nat) : Fld := ⟨0x21c + 0x20 * n, 2, 1⟩
def CNT_CTL_RED_WRAP (n : Nat) : Fld := ⟨0x21c + 0x20 * n, 3, 1⟩
def CNT_CTL_CLR (n : Nat) : Fld := ⟨0x21c + 0x20 * n, 8, 1⟩
def CNT_CTL_SNAP (n : Nat) : Fld := ⟨0x21c + 0x20 * n, 9, 1⟩
def CNT_CTL_LIVE (n : Nat) : Fld := ⟨0x21c + 0x20 * n, 10, 1⟩
def INT_LPC_LOCK_LOST : Nat := 4
def INT_LPC_ROW_FAIL : Nat := 5
def INT_ITER_CHG : Nat := 6
def INT_CFG_REFUSED : Nat := 7
def INT_WRAPPED : Nat := 8
end FEC

/-! ### LLANE: spec/03 after R92, spec/04 after R118, spec/05 after R146 -/

namespace LLANE
def RX_CTL : Nat := 0x100
def RX_CTL_RX_EN : Fld := ⟨0x100, 0, 1⟩
def RX_CTL_RATE : Fld := ⟨0x100, 1, 2⟩
def RX_CTL_POL_INV : Fld := ⟨0x100, 3, 1⟩
def RX_CTL_SD_THR : Fld := ⟨0x100, 8, 8⟩
def RX_STAT : Nat := 0x104
def RX_STAT_SIG_DET : Fld := ⟨0x104, 0, 1⟩
def RX_STAT_CDR_LOCK : Fld := ⟨0x104, 1, 1⟩
def RX_STAT_FREQ_OOR : Fld := ⟨0x104, 2, 1⟩
def RX_STAT_CAL_RUN : Fld := ⟨0x104, 3, 1⟩
def RX_STAT_NO_SPARE : Fld := ⟨0x104, 4, 1⟩
def RX_STAT_PWR_RDY : Fld := ⟨0x104, 5, 1⟩
def RX_STAT_CFG_REFUSED : Fld := ⟨0x104, 8, 1⟩
def FE_CTL : Nat := 0x108
def FE_CTL_PEAK : Fld := ⟨0x108, 0, 5⟩
def FE_CTL_VGA : Fld := ⟨0x108, 8, 6⟩
def RX_GDLY : Nat := 0x10c
def RX_GDLY_GDLY : Fld := ⟨0x10c, 0, 20⟩
def ADC_CTL : Nat := 0x110
def ADC_CTL_BGCAL_EN : Fld := ⟨0x110, 0, 1⟩
def ADC_CTL_CAL_PERIOD : Fld := ⟨0x110, 4, 4⟩
def ADC_CTL_EYE_SPARE_EN : Fld := ⟨0x110, 8, 1⟩
def ADC_SLOT_IDX : Nat := 0x114
def ADC_SLOT_IDX_SLOT : Fld := ⟨0x114, 0, 7⟩
def ADC_SLOT_DATA : Nat := 0x118
def ADC_SLOT_DATA_PHYS : Fld := ⟨0x118, 0, 8⟩
def ADC_SLOT_DATA_SHADOWED : Fld := ⟨0x118, 8, 1⟩
def ADC_SUB_IDX : Nat := 0x11c
def ADC_SUB_IDX_SUB : Fld := ⟨0x11c, 0, 8⟩
def ADC_SUB_TRIM : Nat := 0x120
def ADC_SUB_TRIM_OFFSET : Fld := ⟨0x120, 0, 8⟩
def ADC_SUB_TRIM_GAIN : Fld := ⟨0x120, 8, 10⟩
def ADC_SUB_TRIM_SKEW : Fld := ⟨0x120, 18, 8⟩
def ADC_SUB_TRIM_USABLE : Fld := ⟨0x120, 26, 1⟩
def ADC_SUB_TRIM_FUSE_OFF : Fld := ⟨0x120, 27, 1⟩
def ADC_SUB_TRIM_SLOTTED : Fld := ⟨0x120, 28, 1⟩
def ADC_SUB_TRIM_EYE_HELD : Fld := ⟨0x120, 29, 1⟩
def ADC_QUAL : Nat := 0x124
def ADC_QUAL_SPUR : Fld := ⟨0x124, 0, 8⟩
def ADC_QUAL_RES_ERR : Fld := ⟨0x124, 8, 16⟩
def ADC_QUAL_LAP : Fld := ⟨0x124, 24, 8⟩
def ADC_SAT_CNT : Nat := 0x128
def CDR_CTL : Nat := 0x130
def CDR_CTL_KP : Fld := ⟨0x130, 0, 4⟩
def CDR_CTL_KI : Fld := ⟨0x130, 4, 5⟩
def CDR_CTL_FREEZE : Fld := ⟨0x130, 9, 1⟩
def CDR_CTL_PD_SEL : Fld := ⟨0x130, 10, 2⟩
def CDR_CTL_LOCK_THR : Fld := ⟨0x130, 16, 8⟩
def CDR_STAT : Nat := 0x134
def CDR_STAT_PHASE : Fld := ⟨0x134, 0, 8⟩
def CDR_STAT_PHERR : Fld := ⟨0x134, 16, 16⟩
def CDR_FREQ : Nat := 0x138
def CDR_PHOFS : Nat := 0x13c
def CDR_PHOFS_OFS : Fld := ⟨0x13c, 0, 8⟩
def EQ_CTL : Nat := 0x140
def EQ_CTL_TAPS : Fld := ⟨0x140, 0, 7⟩
def EQ_CTL_CURSOR : Fld := ⟨0x140, 8, 6⟩
def EQ_CTL_BANK : Fld := ⟨0x140, 16, 1⟩
def EQ_STAT : Nat := 0x144
def EQ_STAT_IN_USE : Fld := ⟨0x144, 0, 1⟩
def EQ_STAT_HDR_A : Fld := ⟨0x144, 8, 7⟩
def EQ_STAT_HDR_B : Fld := ⟨0x144, 16, 7⟩
def COEF_IDX : Nat := 0x148
def COEF_IDX_INDEX : Fld := ⟨0x148, 0, 8⟩
def COEF_IDX_BANK : Fld := ⟨0x148, 8, 1⟩
def COEF_IDX_AUTO_INC : Fld := ⟨0x148, 9, 1⟩
def COEF_DATA : Nat := 0x14c
def COEF_DATA_VALUE : Fld := ⟨0x14c, 0, 12⟩
def DET_CTL : Nat := 0x150
def DET_CTL_NLC_EN : Fld := ⟨0x150, 0, 1⟩
def DET_CTL_MLSE_MODE : Fld := ⟨0x150, 4, 2⟩
def DET_CTL_REL_SHIFT : Fld := ⟨0x150, 8, 4⟩
def BLE_CTL : Nat := 0x154
def BLE_CTL_SHIFT : Fld := ⟨0x154, 0, 4⟩
def BLE_CTL_SUB : Fld := ⟨0x154, 4, 1⟩
def BLE_VAL : Nat := 0x158
def BLE_VAL_VAL : Fld := ⟨0x158, 0, 16⟩
def RES_CTL : Nat := 0x160
def RES_CTL_LOG_EN : Fld := ⟨0x160, 0, 1⟩
def RES_CTL_INJ_FFE : Fld := ⟨0x160, 1, 1⟩
def RES_CTL_INJ_MLSE : Fld := ⟨0x160, 2, 1⟩
def RES_CTL_LOG_SHIFT : Fld := ⟨0x160, 8, 5⟩
def RES_STAT : Nat := 0x164
def RES_STAT_RES_WRAP : Fld := ⟨0x164, 0, 1⟩
def RES_STAT_FFE_WRAP : Fld := ⟨0x164, 1, 1⟩
def RES_STAT_MLSE_WRAP : Fld := ⟨0x164, 2, 1⟩
def RES_STAT_ERAS_WRAP : Fld := ⟨0x164, 3, 1⟩
def RES_STAT_SAT_WRAP : Fld := ⟨0x164, 4, 1⟩
def RES_STAT_CLR : Fld := ⟨0x164, 8, 1⟩
def RES_CNT : Nat := 0x168
def RES_FFE_CNT : Nat := 0x16c
def RES_MLSE_CNT : Nat := 0x170
def ERAS_CNT_LO : Nat := 0x174
def ERAS_CNT_HI : Nat := 0x178
def EYE_CTL : Nat := 0x180
def EYE_CTL_START : Fld := ⟨0x180, 0, 1⟩
def EYE_CTL_AUTO : Fld := ⟨0x180, 1, 1⟩
def EYE_CTL_EYE : Fld := ⟨0x180, 2, 2⟩
def EYE_CTL_THRESH : Fld := ⟨0x180, 4, 10⟩
def EYE_CTL_PHASE : Fld := ⟨0x180, 14, 6⟩
def EYE_CTL_DWELL : Fld := ⟨0x180, 20, 4⟩
def EYE_CTL_BER_EXP : Fld := ⟨0x180, 24, 5⟩
def EYE_STAT : Nat := 0x184
def EYE_STAT_BUSY : Fld := ⟨0x184, 0, 1⟩
def EYE_STAT_DONE : Fld := ⟨0x184, 1, 1⟩
def EYE_STAT_NO_SPARE : Fld := ⟨0x184, 2, 1⟩
def EYE_STAT_ABORTED : Fld := ⟨0x184, 3, 1⟩
def EYE_HITS : Nat := 0x188
def EYE_TOTAL : Nat := 0x18c
def EYE_WH (n : Nat) : Nat := 0x190 + 0x4 * n
def EYE_WH_WIDTH (n : Nat) : Fld := ⟨0x190 + 0x4 * n, 0, 8⟩
def EYE_WH_HEIGHT (n : Nat) : Fld := ⟨0x190 + 0x4 * n, 8, 10⟩
def SPLL_CTL : Nat := 0x2f0
def SPLL_CTL_EN : Fld := ⟨0x2f0, 0, 1⟩
def SPLL_STAT : Nat := 0x2f4
def SPLL_STAT_LOCK : Fld := ⟨0x2f4, 0, 1⟩
def SPLL_STAT_LOCK_LOST : Fld := ⟨0x2f4, 1, 1⟩
def SPLL_STAT_LOCK_US : Fld := ⟨0x2f4, 8, 8⟩
def TX_CTL : Nat := 0x400
def TX_CTL_TX_EN : Fld := ⟨0x400, 0, 1⟩
def TX_CTL_RATE : Fld := ⟨0x400, 1, 2⟩
def TX_CTL_POL_INV : Fld := ⟨0x400, 3, 1⟩
def TX_CTL_SQUELCH : Fld := ⟨0x400, 4, 1⟩
def TX_CTL_CLR_SQ : Fld := ⟨0x400, 5, 1⟩
def TX_CTL_CLR_LATCH : Fld := ⟨0x400, 6, 1⟩
def TX_CTL_TSRC : Fld := ⟨0x400, 8, 2⟩
def TX_STAT : Nat := 0x404
def TX_STAT_SQUELCHED : Fld := ⟨0x404, 0, 1⟩
def TX_STAT_PWR_RDY : Fld := ⟨0x404, 1, 1⟩
def TX_STAT_CAL_RUN : Fld := ⟨0x404, 2, 1⟩
def TX_STAT_NO_SPARE : Fld := ⟨0x404, 3, 1⟩
def TX_STAT_HOLDOVER : Fld := ⟨0x404, 4, 1⟩
def TX_STAT_CLR_SEEN : Fld := ⟨0x404, 5, 1⟩
def TX_STAT_FOG_CLIP : Fld := ⟨0x404, 6, 1⟩
def TX_STAT_MIRROR_LOST : Fld := ⟨0x404, 7, 1⟩
def TX_STAT_CFG_REFUSED : Fld := ⟨0x404, 8, 1⟩
def TX_STAT_SQ_SRC : Fld := ⟨0x404, 9, 5⟩
def TX_ANA : Nat := 0x408
def TX_ANA_SWING : Fld := ⟨0x408, 0, 6⟩
def TX_ANA_SKEW : Fld := ⟨0x408, 8, 6⟩
def TX_GDLY : Nat := 0x40c
def TX_GDLY_GDLY : Fld := ⟨0x40c, 0, 20⟩
def TX_EQ_CTL : Nat := 0x410
def TX_EQ_CTL_BANK : Fld := ⟨0x410, 0, 1⟩
def TX_EQ_STAT : Nat := 0x414
def TX_EQ_STAT_IN_USE : Fld := ⟨0x414, 0, 1⟩
def TX_COEF_IDX : Nat := 0x418
def TX_COEF_IDX_INDEX : Fld := ⟨0x418, 0, 10⟩
def TX_COEF_IDX_BANK : Fld := ⟨0x418, 10, 1⟩
def TX_COEF_IDX_AUTO_INC : Fld := ⟨0x418, 11, 1⟩
def TX_COEF_DATA : Nat := 0x41c
def TX_COEF_DATA_VALUE : Fld := ⟨0x41c, 0, 12⟩
def TX_PD_CTL : Nat := 0x420
def TX_PD_CTL_PD_EN : Fld := ⟨0x420, 0, 1⟩
def TX_PD_CTL_FOLLOW : Fld := ⟨0x420, 1, 1⟩
def TX_PD_CTL_HOLD : Fld := ⟨0x420, 2, 1⟩
def TX_PD_CTL_SET : Fld := ⟨0x420, 4, 2⟩
def TX_PD_MAP : Nat := 0x424
def TX_PD_MAP_MAP : Fld := ⟨0x424, 0, 16⟩
def TX_PD_STAT : Nat := 0x428
def TX_PD_STAT_SET : Fld := ⟨0x428, 0, 2⟩
def TX_PD_STAT_PENDING : Fld := ⟨0x428, 2, 1⟩
def TX_PD_STAT_BAND : Fld := ⟨0x428, 4, 3⟩
def TX_DAC_CTL : Nat := 0x430
def TX_DAC_CTL_BGCAL_EN : Fld := ⟨0x430, 0, 1⟩
def TX_DAC_CTL_CAL_PERIOD : Fld := ⟨0x430, 4, 4⟩
def DAC_SEG_IDX : Nat := 0x434
def DAC_SEG_IDX_SEG : Fld := ⟨0x434, 0, 8⟩
def DAC_SEG_DATA : Nat := 0x438
def DAC_SEG_DATA_TRIM : Fld := ⟨0x438, 0, 6⟩
def DAC_SEG_DATA_POS : Fld := ⟨0x438, 8, 8⟩
def DAC_SEG_DATA_USABLE : Fld := ⟨0x438, 16, 1⟩
def DAC_SEG_DATA_FUSE_OFF : Fld := ⟨0x438, 17, 1⟩
def DAC_SEG_DATA_MEASURING : Fld := ⟨0x438, 18, 1⟩
def DAC_QUAL : Nat := 0x43c
def DAC_QUAL_SEG_RES : Fld := ⟨0x43c, 0, 12⟩
def DAC_QUAL_SEG_MAX : Fld := ⟨0x43c, 12, 8⟩
def DAC_QUAL_SPARES_FREE : Fld := ⟨0x43c, 20, 3⟩
def DAC_QUAL_LAP : Fld := ⟨0x43c, 24, 8⟩
def TX_TSRC : Nat := 0x440
def TX_TSRC_HLANE : Fld := ⟨0x440, 0, 6⟩
def TX_TSRC_SMOOTH : Fld := ⟨0x440, 8, 4⟩
def TX_FREQ : Nat := 0x444
def TX_MIRROR : Nat := 0x448
def TX_MIRROR_SRC : Fld := ⟨0x448, 0, 5⟩
def TX_MIRROR_EN : Fld := ⟨0x448, 8, 1⟩
def TX_FOG_CTL : Nat := 0x44c
def TX_FOG_CTL_EN : Fld := ⟨0x44c, 0, 1⟩
def TX_FOG_CTL_INV : Fld := ⟨0x44c, 1, 1⟩
def TX_CLIP_CNT : Nat := 0x450
def TX_CNT_STAT : Nat := 0x454
def TX_CNT_STAT_CLIP_WRAP : Fld := ⟨0x454, 0, 1⟩
def TX_CNT_STAT_CLR : Fld := ⟨0x454, 8, 1⟩
def INNER_CTL : Nat := 0x300
def INNER_CTL_LOG_EN : Fld := ⟨0x300, 0, 1⟩
def INNER_CTL_FORCE_HUNT : Fld := ⟨0x300, 1, 1⟩
def INNER_CTL_LOG_SHIFT : Fld := ⟨0x300, 8, 5⟩
def INNER_STAT : Nat := 0x304
def INNER_STAT_LOCK : Fld := ⟨0x304, 0, 1⟩
def INNER_STAT_BYPASS : Fld := ⟨0x304, 1, 1⟩
def INNER_STAT_LOSS : Fld := ⟨0x304, 2, 1⟩
def INNER_STAT_ZSYN : Fld := ⟨0x304, 16, 9⟩
def INNER_CNT_CTL : Nat := 0x308
def INNER_CNT_CTL_SYM_WRAP : Fld := ⟨0x308, 0, 1⟩
def INNER_CNT_CTL_CORR_WRAP : Fld := ⟨0x308, 1, 1⟩
def INNER_CNT_CTL_CWC_WRAP : Fld := ⟨0x308, 2, 1⟩
def INNER_CNT_CTL_FAIL_WRAP : Fld := ⟨0x308, 3, 1⟩
def INNER_CNT_CTL_CLR : Fld := ⟨0x308, 8, 1⟩
def INNER_CNT_CTL_SNAP : Fld := ⟨0x308, 9, 1⟩
def INNER_CNT_CTL_LIVE : Fld := ⟨0x308, 10, 1⟩
def SYM_CNT_LO : Nat := 0x30c
def SYM_CNT_HI : Nat := 0x310
def CORR_BITS_LO : Nat := 0x314
def CORR_BITS_HI : Nat := 0x318
def CW_CORR_LO : Nat := 0x31c
def CW_CORR_HI : Nat := 0x320
def CW_FAIL : Nat := 0x324
def ENC_GDLY : Nat := 0x328
def ENC_GDLY_GDLY : Fld := ⟨0x328, 0, 20⟩
def DEC_GDLY : Nat := 0x32c
def DEC_GDLY_GDLY : Fld := ⟨0x32c, 0, 24⟩
def INT_RES_FAULT : Nat := 4
def INT_CDR_LOCK_LOST : Nat := 5
def INT_SIG_LOST : Nat := 6
def INT_FREQ_OOR : Nat := 7
def INT_EYE_DONE : Nat := 8
def INT_CAL_LAP : Nat := 9
def INT_SAT : Nat := 10
def INT_CFG_REFUSED : Nat := 11
def INT_WRAPPED : Nat := 12
def INT_TX_CAL_LAP : Nat := 16
def INT_TX_CLIP : Nat := 17
def INT_SQUELCHED : Nat := 18
def INT_CLR_ASSERTED : Nat := 19
def INT_HOLDOVER : Nat := 20
def INT_TX_CFG_REFUSED : Nat := 21
def INT_FOG_CLIP : Nat := 22
def INT_MIRROR_LOST : Nat := 23
def INT_PD_SET_CHG : Nat := 24
def INT_TX_WRAPPED : Nat := 25
def INT_INNER_LOCK_LOST : Nat := 13
def INT_INNER_FAIL : Nat := 14
def INT_INNER_WRAPPED : Nat := 15
end LLANE

/-! ### LCLU: spec/03 after R92 -/

namespace LCLU
def PLL_CTL : Nat := 0x100
def PLL_CTL_EN : Fld := ⟨0x100, 0, 1⟩
def PLL_STAT : Nat := 0x104
def PLL_STAT_LOCK : Fld := ⟨0x104, 0, 1⟩
def PLL_STAT_LOCK_LOST : Fld := ⟨0x104, 1, 1⟩
def PLL_STAT_LOCK_US : Fld := ⟨0x104, 8, 8⟩
def LANE_PWR : Nat := 0x108
def LANE_PWR_RX_PWR : Fld := ⟨0x108, 0, 4⟩
def LANE_PWR_TX_PWR : Fld := ⟨0x108, 8, 4⟩
end LCLU

/-! ### ENG: spec/06 after R174 -/

namespace ENG
def LE_CTL (b : Nat) : Nat := b + 0x0
def LE_CTL_RUN (b : Nat) : Fld := ⟨b + 0x0, 0, 1⟩
def LE_CTL_STEP (b : Nat) : Fld := ⟨b + 0x0, 1, 1⟩
def LE_CTL_AUTO_RESTART (b : Nat) : Fld := ⟨b + 0x0, 3, 1⟩
def LE_CTL_BANK (b : Nat) : Fld := ⟨b + 0x0, 8, 1⟩
def LE_CTL_WDOG (b : Nat) : Fld := ⟨b + 0x0, 16, 5⟩
def LE_STAT (b : Nat) : Nat := b + 0x4
def LE_STAT_RUNNING (b : Nat) : Fld := ⟨b + 0x4, 0, 1⟩
def LE_STAT_WAITING (b : Nat) : Fld := ⟨b + 0x4, 1, 1⟩
def LE_STAT_HALTED (b : Nat) : Fld := ⟨b + 0x4, 2, 1⟩
def LE_STAT_BANK_IN_USE (b : Nat) : Fld := ⟨b + 0x4, 3, 1⟩
def LE_STAT_FAULT (b : Nat) : Fld := ⟨b + 0x4, 4, 4⟩
def LE_STAT_DUTY (b : Nat) : Fld := ⟨b + 0x4, 8, 4⟩
def LE_PC (b : Nat) : Nat := b + 0x8
def LE_PC_PC (b : Nat) : Fld := ⟨b + 0x8, 0, 11⟩
def LE_FAULT (b : Nat) : Nat := b + 0xc
def LE_FAULT_PC (b : Nat) : Fld := ⟨b + 0xc, 0, 11⟩
def LE_FAULT_DETAIL (b : Nat) : Fld := ⟨b + 0xc, 16, 16⟩
def LE_EVT (b : Nat) : Nat := b + 0x10
def LE_EVT_FAULT (b : Nat) : Fld := ⟨b + 0x10, 0, 1⟩
def LE_EVT_MBX_DONE (b : Nat) : Fld := ⟨b + 0x10, 1, 1⟩
def LE_EVT_MBX_NOTE (b : Nat) : Fld := ⟨b + 0x10, 2, 1⟩
def LE_EVT_SWAPPED (b : Nat) : Fld := ⟨b + 0x10, 3, 1⟩
def LE_EVT_GA_OVERRUN (b : Nat) : Fld := ⟨b + 0x10, 4, 1⟩
def LE_EVT_UC_REFUSED (b : Nat) : Fld := ⟨b + 0x10, 5, 1⟩
def LE_EVT_SEALED (b : Nat) : Fld := ⟨b + 0x10, 6, 1⟩
def LE_EVT_EN (b : Nat) : Nat := b + 0x14
def UC_ADDR (b : Nat) : Nat := b + 0x18
def UC_ADDR_WORD (b : Nat) : Fld := ⟨b + 0x18, 0, 11⟩
def UC_ADDR_BANK (b : Nat) : Fld := ⟨b + 0x18, 12, 1⟩
def UC_ADDR_AUTO_INC (b : Nat) : Fld := ⟨b + 0x18, 13, 1⟩
def UC_DATA (b : Nat) : Nat := b + 0x1c
def UC_DATA_WORD (b : Nat) : Fld := ⟨b + 0x1c, 0, 32⟩
def UC_SEAL (b : Nat) : Nat := b + 0x20
def UC_SEAL_SEAL (b : Nat) : Fld := ⟨b + 0x20, 0, 1⟩
def UC_SEAL_INVALIDATE (b : Nat) : Fld := ⟨b + 0x20, 1, 1⟩
def UC_SEAL_BANK (b : Nat) : Fld := ⟨b + 0x20, 4, 1⟩
def UC_SEAL_LEN (b : Nat) : Fld := ⟨b + 0x20, 16, 12⟩
def UC_VER (b : Nat) : Nat := b + 0x24
def UC_BANK0 (b : Nat) : Nat := b + 0x28
def UC_BANK0_VALID (b : Nat) : Fld := ⟨b + 0x28, 0, 1⟩
def UC_BANK0_SEALING (b : Nat) : Fld := ⟨b + 0x28, 1, 1⟩
def UC_BANK0_IN_USE (b : Nat) : Fld := ⟨b + 0x28, 2, 1⟩
def UC_BANK0_ARMED (b : Nat) : Fld := ⟨b + 0x28, 3, 1⟩
def UC_BANK0_LEN (b : Nat) : Fld := ⟨b + 0x28, 16, 12⟩
def UC_BANK1 (b : Nat) : Nat := b + 0x2c
def UC_BANK1_VALID (b : Nat) : Fld := ⟨b + 0x2c, 0, 1⟩
def UC_BANK1_SEALING (b : Nat) : Fld := ⟨b + 0x2c, 1, 1⟩
def UC_BANK1_IN_USE (b : Nat) : Fld := ⟨b + 0x2c, 2, 1⟩
def UC_BANK1_ARMED (b : Nat) : Fld := ⟨b + 0x2c, 3, 1⟩
def UC_BANK1_LEN (b : Nat) : Fld := ⟨b + 0x2c, 16, 12⟩
def UC_VER0 (b : Nat) : Nat := b + 0x30
def UC_VER1 (b : Nat) : Nat := b + 0x34
def MBX_CMD (b : Nat) : Nat := b + 0x40
def MBX_CMD_CMD (b : Nat) : Fld := ⟨b + 0x40, 0, 8⟩
def MBX_CMD_TAG (b : Nat) : Fld := ⟨b + 0x40, 8, 8⟩
def MBX_ARG0 (b : Nat) : Nat := b + 0x44
def MBX_ARG1 (b : Nat) : Nat := b + 0x48
def MBX_STAT (b : Nat) : Nat := b + 0x4c
def MBX_STAT_BUSY (b : Nat) : Fld := ⟨b + 0x4c, 0, 1⟩
def MBX_STAT_DONE (b : Nat) : Fld := ⟨b + 0x4c, 1, 1⟩
def MBX_STAT_OVERRUN (b : Nat) : Fld := ⟨b + 0x4c, 2, 1⟩
def MBX_STAT_ERR (b : Nat) : Fld := ⟨b + 0x4c, 4, 4⟩
def MBX_STAT_TAG (b : Nat) : Fld := ⟨b + 0x4c, 8, 8⟩
def MBX_STAT_NOTE (b : Nat) : Fld := ⟨b + 0x4c, 16, 8⟩
def MBX_RSP0 (b : Nat) : Nat := b + 0x50
def MBX_RSP1 (b : Nat) : Nat := b + 0x54
def PROG_STAT (b : Nat) : Nat := b + 0x58
def DBG_IDX (b : Nat) : Nat := b + 0x60
def DBG_IDX_INDEX (b : Nat) : Fld := ⟨b + 0x60, 0, 9⟩
def DBG_DATA (b : Nat) : Nat := b + 0x64
def DBG_DATA_VALUE (b : Nat) : Fld := ⟨b + 0x64, 0, 32⟩
end ENG

/-! ### HCLU: spec/07 after R197 -/

namespace HCLU
def PLLA_CTL : Nat := 0x100
def PLLA_CTL_EN : Fld := ⟨0x100, 0, 1⟩
def PLLA_STAT : Nat := 0x104
def PLLA_STAT_LOCK : Fld := ⟨0x104, 0, 1⟩
def PLLA_STAT_LOCK_LOST : Fld := ⟨0x104, 1, 1⟩
def PLLA_STAT_LOCK_US : Fld := ⟨0x104, 8, 8⟩
def PLLB_CTL : Nat := 0x108
def PLLB_CTL_EN : Fld := ⟨0x108, 0, 1⟩
def PLLB_STAT : Nat := 0x10c
def PLLB_STAT_LOCK : Fld := ⟨0x10c, 0, 1⟩
def PLLB_STAT_LOCK_LOST : Fld := ⟨0x10c, 1, 1⟩
def PLLB_STAT_LOCK_US : Fld := ⟨0x10c, 8, 8⟩
def LANE_PWR : Nat := 0x110
def LANE_PWR_PWR : Fld := ⟨0x110, 0, 16⟩
def RX_LMAP0 : Nat := 0x114
def RX_LMAP1 : Nat := 0x118
def TX_LMAP0 : Nat := 0x11c
def TX_LMAP1 : Nat := 0x120
def UP_MAP : Nat := 0x124
def UP_MAP_UP : Fld := ⟨0x124, 0, 16⟩
def INT_PLLA_LOST : Nat := 4
def INT_PLLB_LOST : Nat := 5
def INT_HE : Nat := 8
end HCLU

/-! ### HLANE: spec/07 after R197 -/

namespace HLANE
def HL_CTL : Nat := 0x100
def HL_CTL_EN : Fld := ⟨0x100, 0, 1⟩
def HL_CTL_RX_POL_INV : Fld := ⟨0x100, 1, 1⟩
def HL_CTL_TX_POL_INV : Fld := ⟨0x100, 2, 1⟩
def HL_CTL_NEG_BYPASS : Fld := ⟨0x100, 3, 1⟩
def HL_CTL_FORCE_RATE : Fld := ⟨0x100, 4, 3⟩
def HL_CTL_TX_SQUELCH : Fld := ⟨0x100, 8, 1⟩
def HL_CTL_SD_THR : Fld := ⟨0x100, 16, 8⟩
def HL_STAT : Nat := 0x104
def HL_STAT_SIG_DET : Fld := ⟨0x104, 0, 1⟩
def HL_STAT_CDR_LOCK : Fld := ⟨0x104, 1, 1⟩
def HL_STAT_FREQ_OOR : Fld := ⟨0x104, 2, 1⟩
def HL_STAT_BLOCK_LOCK : Fld := ⟨0x104, 3, 1⟩
def HL_STAT_RATE : Fld := ⟨0x104, 4, 3⟩
def HL_STAT_UP : Fld := ⟨0x104, 7, 1⟩
def HL_STAT_RX_IDLE : Fld := ⟨0x104, 8, 1⟩
def HL_STAT_TX_IDLE : Fld := ⟨0x104, 9, 1⟩
def HL_STAT_PWR_RDY : Fld := ⟨0x104, 10, 1⟩
def HL_STAT_CFG_REFUSED : Fld := ⟨0x104, 11, 1⟩
def HL_STAT_STATE : Fld := ⟨0x104, 12, 4⟩
def HL_STAT_HOLDOVER : Fld := ⟨0x104, 16, 1⟩
def HL_STAT_CAL_RUN : Fld := ⟨0x104, 17, 1⟩
def NEG_CTL : Nat := 0x108
def NEG_CTL_RATE_EN : Fld := ⟨0x108, 0, 4⟩
def NEG_CTL_TRAIN_EN : Fld := ⟨0x108, 4, 1⟩
def NEG_CTL_FASTX_EN : Fld := ⟨0x108, 5, 1⟩
def NEG_CTL_GROUP : Fld := ⟨0x108, 8, 8⟩
def NEG_CTL_LANE_ID : Fld := ⟨0x108, 16, 8⟩
def NEG_CTL_RESTART : Fld := ⟨0x108, 24, 1⟩
def NEG_STAT : Nat := 0x10c
def NEG_STAT_FAIL_MASK : Fld := ⟨0x10c, 0, 4⟩
def NEG_STAT_SEL : Fld := ⟨0x10c, 4, 3⟩
def NEG_STAT_PARTNER_VALID : Fld := ⟨0x10c, 7, 1⟩
def NEG_STAT_SEQ : Fld := ⟨0x10c, 8, 4⟩
def NEG_PART : Nat := 0x110
def NEG_PART_PAGE : Fld := ⟨0x110, 0, 32⟩
def NEG_TIMER : Nat := 0x114
def NEG_TIMER_LIMIT : Fld := ⟨0x114, 0, 16⟩
def NEG_TIMER_TRAIN_LIMIT : Fld := ⟨0x114, 16, 16⟩
def NEG_CNT : Nat := 0x118
def NEG_CNT_ATTEMPTS : Fld := ⟨0x118, 0, 8⟩
def NEG_CNT_FALLBACKS : Fld := ⟨0x118, 8, 8⟩
def NEG_CNT_CRC_ERR : Fld := ⟨0x118, 16, 16⟩
def RX_FE : Nat := 0x11c
def RX_FE_PEAK : Fld := ⟨0x11c, 0, 6⟩
def RX_FE_VGA : Fld := ⟨0x11c, 8, 6⟩
def RX_EQ_CTL : Nat := 0x120
def RX_EQ_CTL_BANK : Fld := ⟨0x120, 0, 1⟩
def EQ_STAT : Nat := 0x124
def EQ_STAT_IN_USE : Fld := ⟨0x124, 0, 1⟩
def HCOEF_IDX : Nat := 0x128
def HCOEF_IDX_INDEX : Fld := ⟨0x128, 0, 8⟩
def HCOEF_IDX_BANK : Fld := ⟨0x128, 8, 1⟩
def HCOEF_IDX_AUTO_INC : Fld := ⟨0x128, 9, 1⟩
def HCOEF_DATA : Nat := 0x12c
def HCOEF_DATA_VALUE : Fld := ⟨0x12c, 0, 12⟩
def CDR_CTL : Nat := 0x130
def CDR_CTL_KP : Fld := ⟨0x130, 0, 4⟩
def CDR_CTL_KI : Fld := ⟨0x130, 4, 5⟩
def CDR_CTL_FREEZE : Fld := ⟨0x130, 9, 1⟩
def CDR_CTL_PD_SEL : Fld := ⟨0x130, 10, 2⟩
def CDR_CTL_LOCK_THR : Fld := ⟨0x130, 16, 8⟩
def CDR_STAT : Nat := 0x134
def CDR_STAT_PHASE : Fld := ⟨0x134, 0, 8⟩
def CDR_STAT_PHERR : Fld := ⟨0x134, 16, 16⟩
def CDR_FREQ : Nat := 0x138
def TX_FFE0 : Nat := 0x140
def TX_FFE0_CM3 : Fld := ⟨0x140, 0, 8⟩
def TX_FFE0_CM2 : Fld := ⟨0x140, 8, 8⟩
def TX_FFE0_CM1 : Fld := ⟨0x140, 16, 8⟩
def TX_FFE1 : Nat := 0x144
def TX_FFE1_C0 : Fld := ⟨0x144, 0, 8⟩
def TX_FFE1_C1 : Fld := ⟨0x144, 8, 8⟩
def TX_ANA : Nat := 0x148
def TX_ANA_SWING : Fld := ⟨0x148, 0, 6⟩
def TX_TSRC : Nat := 0x14c
def TX_TSRC_LLANE : Fld := ⟨0x14c, 0, 5⟩
def TX_TSRC_FOLLOW : Fld := ⟨0x14c, 7, 1⟩
def TX_TSRC_SMOOTH : Fld := ⟨0x14c, 8, 4⟩
def TX_FREQ : Nat := 0x150
def EIDLE_CTL : Nat := 0x154
def EIDLE_CTL_BURST : Fld := ⟨0x154, 4, 2⟩
def EIDLE_CTL_RX_THR : Fld := ⟨0x154, 8, 8⟩
def SYNC_ERR_CNT : Nat := 0x158
def CNT_STAT : Nat := 0x15c
def CNT_STAT_SYNC_WRAP : Fld := ⟨0x15c, 0, 1⟩
def CNT_STAT_CLR : Fld := ⟨0x15c, 8, 1⟩
def TRN_STAT : Nat := 0x160
def TRN_STAT_TAP_LIMIT : Fld := ⟨0x160, 0, 5⟩
def TRN_STAT_LOCAL_READY : Fld := ⟨0x160, 8, 1⟩
def TRN_STAT_PARTNER_READY : Fld := ⟨0x160, 9, 1⟩
def TRN_STAT_REQS : Fld := ⟨0x160, 16, 16⟩
def INT_UP : Nat := 4
def INT_DOWN : Nat := 5
def INT_NEG_FAIL : Nat := 6
def INT_FALLBACK : Nat := 7
def INT_SIG_LOST : Nat := 8
def INT_CDR_LOCK_LOST : Nat := 9
def INT_FREQ_OOR : Nat := 10
def INT_CFG_REFUSED : Nat := 11
def INT_WRAPPED : Nat := 12
def INT_PAGE_RX : Nat := 13
end HLANE

/-! ### PORT: spec/08 after R219 -/

namespace PORT
def PORT_CFG : Nat := 0x100
def PORT_CFG_TYPE : Fld := ⟨0x100, 0, 3⟩
def PORT_CFG_SLOTS : Fld := ⟨0x100, 4, 4⟩
def PORT_CFG_HRATE : Fld := ⟨0x100, 8, 3⟩
def HOST_MAP : Nat := 0x104
def HOST_MAP_HCLU : Fld := ⟨0x104, 0, 2⟩
def HOST_MAP_FIRST : Fld := ⟨0x104, 8, 4⟩
def LINE_MAP : Nat := 0x108
def ALIGN_CTL : Nat := 0x10c
def ALIGN_CTL_FORCE_TX : Fld := ⟨0x10c, 0, 1⟩
def ALIGN_CTL_FORCE_RX : Fld := ⟨0x10c, 1, 1⟩
def ALIGN_STAT : Nat := 0x110
def ALIGN_STAT_TX_STATE : Fld := ⟨0x110, 0, 3⟩
def ALIGN_STAT_TX_VALID : Fld := ⟨0x110, 3, 1⟩
def ALIGN_STAT_RX_STATE : Fld := ⟨0x110, 4, 3⟩
def ALIGN_STAT_RX_VALID : Fld := ⟨0x110, 7, 1⟩
def ALIGN_STAT_SKEW_OOR : Fld := ⟨0x110, 8, 1⟩
def SKEW : Nat := 0x114
def SKEW_HOST : Fld := ⟨0x114, 0, 16⟩
def SKEW_LINE : Fld := ⟨0x114, 16, 16⟩
def AM_PERIOD : Nat := 0x118
def AM_PERIOD_P : Fld := ⟨0x118, 0, 24⟩
def LPOS_GEN : Nat := 0x11c
def LPOS_GEN_TX_GEN : Fld := ⟨0x11c, 0, 16⟩
def LPOS_GEN_RX_GEN : Fld := ⟨0x11c, 16, 16⟩
def LPOS_TX_LO : Nat := 0x120
def LPOS_TX_HI : Nat := 0x124
def LPOS_TX_AM : Nat := 0x128
def LPOS_RX_LO : Nat := 0x130
def LPOS_RX_HI : Nat := 0x134
def LPOS_RX_AM : Nat := 0x138
def MON_CTL : Nat := 0x140
def MON_CTL_WIN : Fld := ⟨0x140, 0, 5⟩
def MON_CTL_SER_THR : Fld := ⟨0x140, 8, 16⟩
def MON_CTL_UC_THR : Fld := ⟨0x140, 24, 8⟩
def MON_STAT : Nat := 0x144
def MON_STAT_DEG_TX : Fld := ⟨0x144, 0, 1⟩
def MON_STAT_DEG_RX : Fld := ⟨0x144, 1, 1⟩
def MON_STAT_UCT_TX : Fld := ⟨0x144, 2, 1⟩
def MON_STAT_UCT_RX : Fld := ⟨0x144, 3, 1⟩
def MON_STAT_SLIP : Fld := ⟨0x144, 8, 1⟩
def CNT_CTL : Nat := 0x148
def CNT_CTL_TX_WRAP : Fld := ⟨0x148, 0, 1⟩
def CNT_CTL_RX_WRAP : Fld := ⟨0x148, 1, 1⟩
def CNT_CTL_LINE_WRAP : Fld := ⟨0x148, 2, 1⟩
def CNT_CTL_SLIP_WRAP : Fld := ⟨0x148, 3, 1⟩
def CNT_CTL_CLR : Fld := ⟨0x148, 8, 1⟩
def CNT_CTL_SNAP : Fld := ⟨0x148, 9, 1⟩
def CNT_CTL_LIVE : Fld := ⟨0x148, 10, 1⟩
def TX_CW_LO : Nat := 0x180
def TX_CW_HI : Nat := 0x184
def TX_CWC_LO : Nat := 0x188
def TX_CWC_HI : Nat := 0x18c
def TX_UNC : Nat := 0x190
def TX_SYM_LO : Nat := 0x194
def TX_SYM_HI : Nat := 0x198
def TX_BIT_LO : Nat := 0x19c
def TX_BIT_HI : Nat := 0x1a0
def RX_CW_LO : Nat := 0x1c0
def RX_CW_HI : Nat := 0x1c4
def RX_CWC_LO : Nat := 0x1c8
def RX_CWC_HI : Nat := 0x1cc
def RX_UNC : Nat := 0x1d0
def RX_SYM_LO : Nat := 0x1d4
def RX_SYM_HI : Nat := 0x1d8
def RX_BIT_LO : Nat := 0x1dc
def RX_BIT_HI : Nat := 0x1e0
def LINE_CORR_LO : Nat := 0x200
def LINE_CORR_HI : Nat := 0x204
def LINE_ERAS_LO : Nat := 0x208
def LINE_ERAS_HI : Nat := 0x20c
def LINE_FAIL : Nat := 0x210
def SLIP_CNT : Nat := 0x214
def INT_TX_ALIGNED : Nat := 4
def INT_TX_LOST : Nat := 5
def INT_RX_ALIGNED : Nat := 6
def INT_RX_LOST : Nat := 7
def INT_DEGRADE : Nat := 8
def INT_UNCORR : Nat := 9
def INT_SLIP : Nat := 10
def INT_WRAPPED : Nat := 11
def INT_SKEW_OOR : Nat := 12
end PORT

def regDefsHDR_0 : List RegDef := [
  ⟨"BLK_ID", 0x0, 4, 1, 0, 0, 0, 0, 0⟩,
  ⟨"BLK_CAP", 0x4, 4, 1, 0, 0, 0, 0, 0⟩,
  ⟨"BLK_CTL", 0x8, 4, 1, 0, 0xd, 0, 0, 2⟩,
  ⟨"BLK_STAT", 0xc, 4, 1, 0, 0, 0, 2, 0⟩,
  ⟨"INT_STAT", 0x10, 4, 1, 0, 0, 0, 0xffffffff, 0⟩,
  ⟨"INT_EN", 0x14, 4, 1, 0, 0xffffffff, 0, 0, 0⟩,
  ⟨"INT_FORCE", 0x18, 4, 1, 0, 0, 0, 0, 0xffffffff⟩,
  ⟨"PAR_STAT", 0x1c, 4, 1, 0, 0, 0, 1, 0⟩,
  ⟨"STAGE_CTL", 0x20, 4, 1, 0, 0x1ff, 0, 0, 0x30000⟩,
  ⟨"STAGE_STAT", 0x24, 4, 1, 0, 0, 0, 0, 0⟩,
  ⟨"EVT_TIME_LO", 0x28, 4, 1, 0, 0, 0, 0, 0⟩,
  ⟨"EVT_TIME_HI", 0x2c, 4, 1, 0, 0, 0, 0, 0⟩]
/-- The register rows of a HDR page. -/
def regDefsHDR : List RegDef := regDefsHDR_0

def regDefsGLB_0 : List RegDef := [
  ⟨"DOM_PWR", 0x180, 4, 1, 0x80001f, 0, 0, 0, 0⟩,
  ⟨"FLOOR_STAT", 0x184, 4, 1, 0x11, 0, 0, 0, 0⟩,
  ⟨"OFF_ACC_ADDR", 0x188, 4, 1, 0, 0, 0, 0, 0⟩,
  ⟨"OFF_ACC_STAT", 0x18c, 4, 1, 0, 0, 0, 1, 0⟩,
  ⟨"STAT", 0x100, 4, 1, 0, 0, 0, 3, 0⟩,
  ⟨"ACC_ERR_ADDR", 0x104, 4, 1, 0, 0, 0, 0, 0⟩,
  ⟨"PSWEEP_CTL", 0x190, 4, 1, 1, 1, 0, 0, 0⟩,
  ⟨"PSWEEP_STAT", 0x194, 4, 1, 0, 0, 0, 0, 0⟩,
  ⟨"INT_SUM", 0x200, 4, 6, 0, 0, 0, 0, 0⟩,
  ⟨"INTN_MASK", 0x220, 4, 6, 0xffffffff, 0xffffffff, 0, 0, 0⟩,
  ⟨"MSIX_MAP", 0x300, 4, 48, 0, 0xffffffff, 0, 0, 0⟩]
/-- The register rows of a GLB page. -/
def regDefsGLB : List RegDef := regDefsGLB_0

def regDefsPWR_0 : List RegDef := [
  ⟨"REQ", 0x100, 4, 1, 0, 0, 0, 0, 0x107⟩,
  ⟨"STAT", 0x104, 4, 1, 0, 0, 0, 0, 0⟩,
  ⟨"DOM_REQ", 0x108, 4, 1, 0, 0, 0, 0, 0x31f⟩,
  ⟨"HS_LIMIT", 0x10c, 4, 1, 0x64, 0xffff, 0, 0, 0⟩,
  ⟨"RET_KPR", 0x110, 4, 1, 0xffff, 0xffff, 0, 0, 0⟩,
  ⟨"RET_COEF", 0x114, 4, 1, 0xff, 0xff, 0, 0, 0⟩,
  ⟨"KEEP", 0x118, 4, 1, 0, 7, 0, 0, 0⟩,
  ⟨"WAKE_EN", 0x11c, 4, 1, 0x1ff, 0x1ff, 0, 0, 0⟩,
  ⟨"WAKE_STAT", 0x120, 4, 1, 0, 0, 0, 0x1ff, 0⟩,
  ⟨"PMB_CFG", 0x124, 4, 1, 0x140, 0x37f, 0, 0, 0⟩,
  ⟨"PMB_STAT", 0x128, 4, 1, 0, 0, 0, 2, 0⟩,
  ⟨"AVS_CTL", 0x12c, 4, 1, 0x28a0000, 0x3ff00ff, 0, 0, 0⟩]
def regDefsPWR_1 : List RegDef := [
  ⟨"AVS_STAT", 0x130, 4, 1, 0, 0, 0, 0, 0⟩,
  ⟨"ENTRY_US", 0x134, 4, 1, 0, 0, 0, 0, 0⟩,
  ⟨"EXIT_US", 0x138, 4, 1, 0, 0, 0, 0, 0⟩]
/-- The register rows of a PWR page. -/
def regDefsPWR : List RegDef := regDefsPWR_0 ++ regDefsPWR_1

def regDefsCLK_0 : List RegDef := [
  ⟨"STAT", 0x100, 4, 1, 1, 0, 0, 2, 0⟩,
  ⟨"REF_PPM", 0x104, 4, 1, 0, 0, 0, 0, 0⟩]
/-- The register rows of a CLK page. -/
def regDefsCLK : List RegDef := regDefsCLK_0

def regDefsAON_0 : List RegDef := [
  ⟨"WAKE_CTL", 0x100, 4, 1, 0xa000000, 0xff003333, 0, 0, 0⟩,
  ⟨"PIN_STAT", 0x104, 4, 1, 0, 0, 0, 0, 0⟩,
  ⟨"AON_CNT_LO", 0x108, 4, 1, 0, 0, 0, 0, 0⟩,
  ⟨"AON_CNT_HI", 0x10c, 4, 1, 0, 0, 0, 0, 0⟩,
  ⟨"RESET_CAUSE", 0x110, 4, 1, 0, 0, 0, 0, 0⟩,
  ⟨"XTAL_STAT", 0x114, 4, 1, 1, 0, 0, 2, 0⟩,
  ⟨"SCRATCH", 0x120, 4, 4, 0, 0xffffffff, 0, 0, 0⟩]
/-- The register rows of a AON page. -/
def regDefsAON : List RegDef := regDefsAON_0

def regDefsKPR_0 : List RegDef := [
  ⟨"KSTAT", 0x100, 4, 1, 0, 0, 0, 0x1000100, 0⟩,
  ⟨"KCTL", 0x104, 4, 1, 0, 1, 0, 0, 0xe⟩,
  ⟨"BOOT_US", 0x108, 4, 1, 0, 0, 0, 0, 0⟩,
  ⟨"FW_VER", 0x10c, 4, 1, 0, 0, 0, 0, 0⟩,
  ⟨"FW_SVN", 0x110, 4, 1, 0, 0, 0, 0, 0⟩,
  ⟨"ARB_CTL", 0x114, 4, 1, 0, 0, 0, 0, 0xffffffff⟩,
  ⟨"UC_BUNDLE", 0x118, 4, 1, 0, 0, 0, 0, 0⟩,
  ⟨"TRACE_CTL", 0x120, 4, 1, 0, 1, 0, 0, 0⟩,
  ⟨"TRACE_IDX", 0x124, 4, 1, 0, 0x3ff, 0, 0, 0⟩,
  ⟨"TRACE_DATA", 0x128, 4, 1, 0, 0, 0, 0, 0⟩]
/-- The register rows of a KPR page. -/
def regDefsKPR : List RegDef := regDefsKPR_0

def regDefsSEC_0 : List RegDef := [
  ⟨"LC", 0x100, 4, 1, 0, 0, 0, 0x600, 0⟩,
  ⟨"LC_CTL", 0x104, 4, 1, 0, 0, 0, 0, 0xffffffff⟩,
  ⟨"DEV_ID", 0x110, 4, 4, 0, 0, 0, 0, 0⟩,
  ⟨"ROOT_HASH", 0x120, 4, 12, 0, 0xffffffff, 0, 0, 0⟩,
  ⟨"VERIFY", 0x150, 4, 1, 0, 0, 0, 0, 0⟩,
  ⟨"DEV_PUB", 0x160, 4, 16, 0, 0, 0, 0, 0⟩]
/-- The register rows of a SEC page. -/
def regDefsSEC : List RegDef := regDefsSEC_0

def regDefsDBG_0 : List RegDef := [
  ⟨"STAT", 0x100, 4, 1, 0, 0, 0, 0x300, 0⟩,
  ⟨"CTL", 0x104, 4, 1, 0, 0, 0, 0, 0xf3⟩,
  ⟨"RESULT", 0x108, 4, 1, 0, 0, 0, 0, 0⟩,
  ⟨"REMAIN", 0x10c, 4, 1, 0, 0, 0, 0, 0⟩,
  ⟨"CHAL", 0x110, 4, 8, 0, 0, 0, 0, 0⟩,
  ⟨"TOK_IDX", 0x140, 4, 1, 0, 0x3f, 0, 0, 0⟩,
  ⟨"TOK_DATA", 0x144, 4, 1, 0, 0xffffffff, 0, 0, 0⟩]
/-- The register rows of a DBG page. -/
def regDefsDBG : List RegDef := regDefsDBG_0

def regDefsCFGV_0 : List RegDef := [
  ⟨"CTL", 0x100, 4, 1, 3, 0x3fff03, 0, 0, 0⟩,
  ⟨"APPLY", 0x104, 4, 1, 0, 0, 0, 0, 0x8000ff0f⟩,
  ⟨"CONFIRM", 0x108, 4, 1, 0, 0, 0, 0, 0xffffffff⟩,
  ⟨"ROLLBACK", 0x10c, 4, 1, 0, 0, 0, 0, 0x80000000⟩,
  ⟨"STAT", 0x110, 4, 1, 0, 0, 0, 0x100, 0⟩,
  ⟨"ACT_VER", 0x114, 4, 1, 0, 0, 0, 0, 0⟩,
  ⟨"PREV_VER", 0x118, 4, 1, 0, 0, 0, 0, 0⟩,
  ⟨"SLOTS", 0x11c, 4, 1, 0xffff, 0, 0, 0, 0⟩,
  ⟨"TIMEOUT", 0x120, 4, 1, 0x258, 0xffffffff, 0, 0, 0⟩,
  ⟨"REMAIN", 0x124, 4, 1, 0, 0, 0, 0, 0⟩,
  ⟨"RB_LEAD", 0x128, 4, 1, 0x1f4, 0xffffffff, 0, 0, 0⟩,
  ⟨"RESTORE_CNT", 0x12c, 4, 1, 0, 0, 0, 0, 0⟩]
def regDefsCFGV_1 : List RegDef := [
  ⟨"STORE_MAP", 0x130, 4, 1, 0, 0, 0, 0, 0⟩]
/-- The register rows of a CFGV page. -/
def regDefsCFGV : List RegDef := regDefsCFGV_0 ++ regDefsCFGV_1

def regDefsMEM_0 : List RegDef := [
  ⟨"STAT", 0x100, 4, 1, 0, 0, 0, 0xf03, 0⟩,
  ⟨"SEAL_CTL", 0x104, 4, 1, 0, 0, 0, 0, 0x1fff1fff⟩,
  ⟨"SEAL_STAT", 0x108, 4, 1, 0, 0, 0, 0, 0⟩,
  ⟨"UNSEAL_CNT", 0x10c, 4, 1, 0, 0, 0, 0, 0⟩,
  ⟨"INVAL_CTL", 0x110, 4, 1, 0, 0, 0, 0, 0x107⟩,
  ⟨"CE_CNT", 0x114, 4, 1, 0, 0, 0, 0, 0⟩,
  ⟨"PCE_CNT", 0x118, 4, 1, 0, 0, 0, 0, 0⟩,
  ⟨"UE_CNT", 0x11c, 4, 1, 0, 0, 0, 0, 0⟩,
  ⟨"UE_ADDR", 0x120, 4, 1, 0, 0, 0, 0, 0⟩,
  ⟨"UE_INFO", 0x124, 4, 1, 0, 0, 0, 0, 0⟩,
  ⟨"SCRUB_CTL", 0x128, 4, 1, 0xa01, 0x1f01, 0, 0, 0⟩,
  ⟨"SCRUB_LAP", 0x12c, 4, 1, 0, 0, 0, 0, 0⟩]
def regDefsMEM_1 : List RegDef := [
  ⟨"SCRUB_POS", 0x130, 4, 1, 0, 0, 0, 0, 0⟩,
  ⟨"GOLD_CTL", 0x134, 4, 1, 0, 0x1ff, 0, 0, 0⟩,
  ⟨"GOLD_STAT", 0x138, 4, 1, 0, 0, 0, 2, 0⟩,
  ⟨"REP_IDX", 0x140, 4, 1, 0, 0x3ff, 0, 0, 0⟩,
  ⟨"REP_DATA", 0x144, 4, 1, 0, 0x10fff00, 0, 0, 0x80000000⟩,
  ⟨"DENY_ADDR", 0x148, 4, 1, 0, 0, 0, 0, 0⟩]
/-- The register rows of a MEM page. -/
def regDefsMEM : List RegDef := regDefsMEM_0 ++ regDefsMEM_1

def regDefsDDR_0 : List RegDef := [
  ⟨"CFG", 0x100, 4, 1, 0, 7, 0, 0, 0x100⟩,
  ⟨"STAT", 0x104, 4, 1, 0, 0, 0, 0xf0c, 0⟩,
  ⟨"BAND_STAT", 0x108, 4, 1, 0, 0, 0, 0, 0⟩,
  ⟨"SEAL_CTL", 0x10c, 4, 1, 0, 0, 0, 0, 0x3fffff⟩,
  ⟨"PV_CTL", 0x110, 4, 1, 0, 0, 0, 0, 0x107⟩,
  ⟨"PAR_CNT", 0x114, 4, 1, 0, 0, 0, 0, 0⟩,
  ⟨"COR_CNT", 0x118, 4, 1, 0, 0, 0, 0, 0⟩,
  ⟨"UE_CNT", 0x11c, 4, 1, 0, 0, 0, 0, 0⟩,
  ⟨"UE_ADDR_LO", 0x120, 4, 1, 0, 0, 0, 0, 0⟩,
  ⟨"UE_ADDR_HI", 0x124, 4, 1, 0, 0, 0, 0, 0⟩,
  ⟨"SCRUB_CTL", 0x128, 4, 1, 0xa01, 0x1f01, 0, 0, 0⟩,
  ⟨"SCRUB_LAP", 0x12c, 4, 1, 0, 0, 0, 0, 0⟩]
def regDefsDDR_1 : List RegDef := [
  ⟨"SCRUB_POS", 0x130, 4, 1, 0, 0, 0, 0, 0⟩,
  ⟨"UNSEAL_CNT", 0x134, 4, 1, 0, 0, 0, 0, 0⟩,
  ⟨"DENY_ADDR_LO", 0x138, 4, 1, 0, 0, 0, 0, 0⟩,
  ⟨"DENY_ADDR_HI", 0x13c, 4, 1, 0, 0, 0, 0, 0⟩,
  ⟨"RGN_BASE", 0x140, 8, 8, 0, 0, 0x3fffff, 0, 0⟩,
  ⟨"RGN_SIZE", 0x144, 8, 8, 0, 0, 0x13fffff, 0, 0⟩]
/-- The register rows of a DDR page. -/
def regDefsDDR : List RegDef := regDefsDDR_0 ++ regDefsDDR_1

def regDefsDMA_0 : List RegDef := [
  ⟨"STAT", 0x100, 4, 1, 0, 0, 0, 3, 0⟩,
  ⟨"PWR_WAIT", 0x104, 4, 1, 0x3e8, 0xffffffff, 0, 0, 0⟩,
  ⟨"SHARE_CTL", 0x108, 4, 1, 0x640064, 0x7f, 0, 0, 0⟩,
  ⟨"LINK_CAP", 0x10c, 4, 1, 0, 0, 0, 0, 0⟩,
  ⟨"DONE_MAP", 0x110, 4, 1, 0, 0, 0, 0xffff, 0⟩,
  ⟨"ERR_MAP", 0x114, 4, 1, 0, 0, 0, 0xffff, 0⟩,
  ⟨"TAP_CTL", 0x140, 4, 1, 0, 0xff00f3f7, 0, 0, 0⟩,
  ⟨"TAP_STAT", 0x144, 4, 1, 0, 0, 0, 6, 0⟩,
  ⟨"TAP_BASE", 0x148, 4, 1, 0, 0xffffffff, 0, 0, 0⟩,
  ⟨"TAP_SIZE", 0x14c, 4, 1, 0x100, 0xffffffff, 0, 0, 0⟩,
  ⟨"TAP_SEQ", 0x150, 4, 1, 0, 0, 0, 0, 0⟩,
  ⟨"TAP_DROP", 0x154, 4, 1, 0, 0, 0, 0, 0⟩]
def regDefsDMA_1 : List RegDef := [
  ⟨"CH_CTL", 0x200, 64, 16, 0x1400, 0xff19, 0, 0, 6⟩,
  ⟨"CH_STAT", 0x204, 64, 16, 0, 0, 0, 0x30, 0⟩,
  ⟨"CH_RING_LO", 0x208, 64, 16, 0, 0xffffffff, 0, 0, 0⟩,
  ⟨"CH_RING_HI", 0x20c, 64, 16, 0, 0xffffffff, 0, 0, 0⟩,
  ⟨"CH_HEAD", 0x210, 64, 16, 0, 0, 0, 0, 0⟩,
  ⟨"CH_TAIL", 0x214, 64, 16, 0, 0xffff, 0, 0, 0⟩,
  ⟨"CH_LIMIT", 0x218, 64, 16, 0, 0xfff, 0, 0, 0⟩,
  ⟨"CH_LATE_IDX", 0x21c, 64, 16, 0, 0, 0, 0, 0⟩,
  ⟨"CH_BYTES_LO", 0x220, 64, 16, 0, 0, 0, 0, 0⟩,
  ⟨"CH_BYTES_HI", 0x224, 64, 16, 0, 0, 0, 0, 0⟩]
/-- The register rows of a DMA page. -/
def regDefsDMA : List RegDef := regDefsDMA_0 ++ regDefsDMA_1

def regDefsLOG_0 : List RegDef := [
  ⟨"LOG_CTL", 0x100, 4, 1, 0, 1, 0, 0, 0x100⟩,
  ⟨"STAT", 0x104, 4, 1, 0, 0, 0, 0x3e, 0⟩,
  ⟨"RATE_CTL", 0x108, 4, 1, 0x1000400, 0xffffffff, 0, 0, 0⟩,
  ⟨"SEQ", 0x10c, 4, 1, 0, 0, 0, 0, 0⟩,
  ⟨"RING_BASE", 0x110, 4, 1, 0, 0xffffffff, 0, 0, 0⟩,
  ⟨"RING_SIZE", 0x114, 4, 1, 0x200000, 0xffffffff, 0, 0, 0⟩,
  ⟨"ANCH_BASE", 0x118, 4, 1, 0x200000, 0xffffffff, 0, 0, 0⟩,
  ⟨"ANCH_SIZE", 0x11c, 4, 1, 0x10000, 0xffffffff, 0, 0, 0⟩,
  ⟨"RING_WR", 0x120, 4, 1, 0, 0, 0, 0, 0⟩,
  ⟨"ANCH_WR", 0x124, 4, 1, 0, 0, 0, 0, 0⟩,
  ⟨"STG_STAT", 0x128, 4, 1, 0, 0, 0, 0, 0⟩,
  ⟨"LIMIT_DROP", 0x130, 4, 1, 0, 0, 0, 0, 0⟩]
def regDefsLOG_1 : List RegDef := [
  ⟨"OVWR_DROP", 0x134, 4, 1, 0, 0, 0, 0, 0⟩,
  ⟨"ANCH_DROP", 0x138, 4, 1, 0, 0, 0, 0, 0⟩,
  ⟨"STG_DROP", 0x13c, 4, 1, 0, 0, 0, 0, 0⟩,
  ⟨"HREC_CTL", 0x140, 4, 1, 0, 0, 0, 0, 0x8001ffff⟩,
  ⟨"HREC_D", 0x144, 4, 7, 0, 0xffffffff, 0, 0, 0⟩]
/-- The register rows of a LOG page. -/
def regDefsLOG : List RegDef := regDefsLOG_0 ++ regDefsLOG_1

def regDefsPCIE_0 : List RegDef := [
  ⟨"LINK_STAT", 0x100, 4, 1, 0, 0, 0, 0, 0⟩,
  ⟨"ERR_CTL", 0x104, 4, 1, 0, 1, 0, 0, 0⟩,
  ⟨"ERR_STAT", 0x108, 4, 1, 0, 0, 0, 7, 0⟩,
  ⟨"ERR_ADDR", 0x10c, 4, 1, 0, 0, 0, 0, 0⟩]
/-- The register rows of a PCIE page. -/
def regDefsPCIE : List RegDef := regDefsPCIE_0

def regDefsTIME_0 : List RegDef := [
  ⟨"TB_CTL", 0x100, 64, 4, 0, 7, 0, 0, 0x70⟩,
  ⟨"TB_STAT", 0x104, 64, 4, 0, 0, 0, 0x700, 0⟩,
  ⟨"TB_FREQ_LO", 0x108, 64, 4, 0xcccccccd, 0xffffffff, 0, 0, 0⟩,
  ⟨"TB_FREQ_HI", 0x10c, 64, 4, 0xcccc, 0xffffffff, 0, 0, 0⟩,
  ⟨"TB_STEP_NS", 0x110, 64, 4, 0, 0xbfffffff, 0, 0, 0⟩,
  ⟨"TB_STEP_S_LO", 0x114, 64, 4, 0, 0xffffffff, 0, 0, 0⟩,
  ⟨"TB_STEP_S_HI", 0x118, 64, 4, 0, 0xffff, 0, 0, 0⟩,
  ⟨"TB_UNC", 0x11c, 64, 4, 0, 0, 0, 0, 0⟩,
  ⟨"EVT_TB", 0x200, 4, 1, 0, 3, 0, 0, 0⟩,
  ⟨"SNAP_CTL", 0x204, 4, 1, 0, 0, 0, 0, 1⟩,
  ⟨"AON_TOL", 0x208, 4, 1, 0x32, 0xffff, 0, 0, 0⟩,
  ⟨"SNAP_NS", 0x210, 16, 4, 0, 0, 0, 0, 0⟩]
def regDefsTIME_1 : List RegDef := [
  ⟨"SNAP_S_LO", 0x214, 16, 4, 0, 0, 0, 0, 0⟩,
  ⟨"SNAP_S_HI", 0x218, 16, 4, 0, 0, 0, 0, 0⟩,
  ⟨"SNAP_AON_LO", 0x250, 4, 1, 0, 0, 0, 0, 0⟩,
  ⟨"SNAP_AON_HI", 0x254, 4, 1, 0, 0, 0, 0, 0⟩,
  ⟨"SNAP_STAT", 0x258, 4, 1, 0, 0, 0, 0, 0⟩,
  ⟨"TPO_CTL", 0x300, 32, 4, 0, 0, 0xffff0133, 0, 0⟩,
  ⟨"TPO_START_NS", 0x304, 32, 4, 0, 0, 0x3fffffff, 0, 0⟩,
  ⟨"TPO_START_S_LO", 0x308, 32, 4, 0, 0, 0xffffffff, 0, 0⟩,
  ⟨"TPO_START_S_HI", 0x30c, 32, 4, 0, 0, 0xffff, 0, 0⟩,
  ⟨"TPO_PERIOD", 0x310, 32, 4, 0x3b9aca00, 0, 0xffffffff, 0, 0⟩,
  ⟨"TPO_WIDTH", 0x314, 32, 4, 0x5f5e100, 0, 0xffffffff, 0, 0⟩,
  ⟨"TPO_STAT", 0x318, 32, 4, 0, 0, 0, 6, 0⟩]
def regDefsTIME_2 : List RegDef := [
  ⟨"TPI_CTL", 0x380, 32, 2, 0, 0xffff0033, 0, 0, 0⟩,
  ⟨"TPI_STAT", 0x384, 32, 2, 0, 0, 0, 0x10, 0⟩,
  ⟨"TPI_NS", 0x388, 32, 2, 0, 0, 0, 0, 0⟩,
  ⟨"TPI_S_LO", 0x38c, 32, 2, 0, 0, 0, 0, 0⟩,
  ⟨"TPI_S_HI", 0x390, 32, 2, 0, 0, 0, 0, 0⟩,
  ⟨"TPI_POP", 0x394, 32, 2, 0, 0, 0, 0, 1⟩]
/-- The register rows of a TIME page. -/
def regDefsTIME : List RegDef := regDefsTIME_0 ++ regDefsTIME_1 ++ regDefsTIME_2

def regDefsTSU_0 : List RegDef := [
  ⟨"TSU_SEL", 0x100, 4, 1, 0, 0x7f, 0, 0, 0⟩,
  ⟨"PT_CTL", 0x110, 4, 1, 0, 0x7fffff, 0, 0, 0⟩,
  ⟨"PT_FLT_VAL_LO", 0x114, 4, 1, 0, 0xffffffff, 0, 0, 0⟩,
  ⟨"PT_FLT_VAL_HI", 0x118, 4, 1, 0, 0xffffffff, 0, 0, 0⟩,
  ⟨"PT_FLT_MASK_LO", 0x11c, 4, 1, 0, 0xffffffff, 0, 0, 0⟩,
  ⟨"PT_FLT_MASK_HI", 0x120, 4, 1, 0, 0xffffffff, 0, 0, 0⟩,
  ⟨"PT_ADJ", 0x124, 4, 1, 0, 0xffffffff, 0, 0, 0⟩,
  ⟨"PT_GDLY_TX", 0x128, 4, 1, 0, 0, 0, 0, 0⟩,
  ⟨"PT_GDLY_RX", 0x12c, 4, 1, 0, 0, 0, 0, 0⟩,
  ⟨"PT_STAT", 0x130, 4, 1, 0, 0, 0, 0x30000, 0⟩,
  ⟨"PT_POP", 0x134, 4, 1, 0, 0, 0, 0, 3⟩,
  ⟨"PT_DROP", 0x138, 4, 1, 0, 0, 0, 0, 0⟩]
def regDefsTSU_1 : List RegDef := [
  ⟨"PT_TX_W", 0x140, 4, 7, 0, 0, 0, 0, 0⟩,
  ⟨"PT_RX_W", 0x160, 4, 7, 0, 0, 0, 0, 0⟩,
  ⟨"LT_CTL", 0x180, 4, 1, 0x1ff, 0xffff, 0, 0, 0⟩,
  ⟨"LT_STAT", 0x184, 4, 1, 0, 0, 0, 0x100, 0⟩,
  ⟨"LT_POP", 0x188, 4, 1, 0, 0, 0, 0, 1⟩,
  ⟨"LT_W0", 0x190, 4, 1, 0, 0, 0, 0, 0⟩,
  ⟨"LT_W1", 0x194, 4, 1, 0, 0, 0, 0, 0⟩,
  ⟨"LT_W2", 0x198, 4, 1, 0, 0, 0, 0, 0⟩,
  ⟨"LT_W3", 0x19c, 4, 1, 0, 0, 0, 0, 0⟩,
  ⟨"LT_W4", 0x1a0, 4, 1, 0, 0, 0, 0, 0⟩,
  ⟨"LT_DROP", 0x1a4, 4, 1, 0, 0, 0, 0, 0⟩,
  ⟨"TX_PEND", 0x200, 4, 2, 0, 0, 0, 0, 0⟩]
def regDefsTSU_2 : List RegDef := [
  ⟨"RX_PEND", 0x208, 4, 2, 0, 0, 0, 0, 0⟩,
  ⟨"LT_PEND", 0x210, 4, 1, 0, 0, 0, 0, 0⟩,
  ⟨"OVF_PORT0", 0x214, 4, 1, 0, 0, 0, 0xffffffff, 0⟩,
  ⟨"OVF_PORT1", 0x218, 4, 1, 0, 0, 0, 0xffffffff, 0⟩,
  ⟨"OVF_LANE", 0x21c, 4, 1, 0, 0, 0, 0x1ffff, 0⟩]
/-- The register rows of a TSU page. -/
def regDefsTSU : List RegDef := regDefsTSU_0 ++ regDefsTSU_1 ++ regDefsTSU_2

def regDefsSCHED_0 : List RegDef := [
  ⟨"SCHED_CFG", 0x100, 4, 1, 0x640032, 0xffffffff, 0, 0, 0⟩,
  ⟨"SE_IDX", 0x104, 4, 1, 0, 0xff, 0, 0, 0⟩,
  ⟨"SCHED_STAT", 0x108, 4, 1, 0, 0, 0, 0x10000, 0⟩,
  ⟨"SE_W0", 0x110, 4, 1, 0, 0xffff0f6f, 0, 0, 0⟩,
  ⟨"SE_W1", 0x114, 4, 1, 0, 0xffff037f, 0, 0, 0⟩,
  ⟨"SE_W2", 0x118, 4, 1, 0, 0xffffffff, 0, 0, 0⟩,
  ⟨"SE_W3", 0x11c, 4, 1, 0, 0xffffffff, 0, 0, 0⟩,
  ⟨"SE_W4", 0x120, 4, 1, 0, 0xffff, 0, 0, 0⟩,
  ⟨"SE_W5", 0x124, 4, 1, 0, 0xffffffff, 0, 0, 0⟩,
  ⟨"SE_W6", 0x128, 4, 1, 0, 0x1ffff, 0, 0, 0⟩,
  ⟨"SE_W7", 0x12c, 4, 1, 0, 0, 0, 0, 0⟩,
  ⟨"HIST_STAT", 0x140, 4, 1, 0, 0, 0, 0x100, 0⟩]
def regDefsSCHED_1 : List RegDef := [
  ⟨"HIST_POP", 0x144, 4, 1, 0, 0, 0, 0, 1⟩,
  ⟨"HIST_W0", 0x150, 4, 1, 0, 0, 0, 0, 0⟩,
  ⟨"HIST_W1", 0x154, 4, 1, 0, 0, 0, 0, 0⟩,
  ⟨"HIST_W2", 0x158, 4, 1, 0, 0, 0, 0, 0⟩,
  ⟨"HIST_W3", 0x15c, 4, 1, 0, 0, 0, 0, 0⟩,
  ⟨"HIST_W4", 0x160, 4, 1, 0, 0, 0, 0, 0⟩,
  ⟨"HIST_W5", 0x164, 4, 1, 0, 0, 0, 0, 0⟩,
  ⟨"HIST_DROP", 0x170, 4, 1, 0, 0, 0, 0, 0⟩]
/-- The register rows of a SCHED page. -/
def regDefsSCHED : List RegDef := regDefsSCHED_0 ++ regDefsSCHED_1

def regDefsHK_0 : List RegDef := [
  ⟨"REF_CTL", 0x100, 4, 1, 0, 0xf03, 0, 0, 0⟩,
  ⟨"STAT", 0x104, 4, 1, 0, 0, 0, 0x100, 0⟩,
  ⟨"PWR_WAIT", 0x108, 4, 1, 0x2710, 0xffff, 0, 0, 0⟩,
  ⟨"HKC_CTL", 0x200, 128, 4, 0x100, 0xf103, 0, 0, 0x30⟩,
  ⟨"HKC_STAT", 0x204, 128, 4, 0, 0, 0, 0x70000, 0⟩,
  ⟨"HKC_CAL_CTL", 0x208, 128, 4, 0, 0x30, 0, 0, 1⟩,
  ⟨"HKC_CAL_FACT", 0x20c, 128, 4, 0x80000000, 0xffffffff, 0, 0, 0⟩,
  ⟨"HKC_CAL_RES", 0x210, 128, 4, 0, 0, 0, 0, 0⟩,
  ⟨"HKC_RES_W0", 0x220, 128, 4, 0, 0, 0, 0, 0⟩,
  ⟨"HKC_RES_W1", 0x224, 128, 4, 0, 0, 0, 0, 0⟩,
  ⟨"HKC_RES_W2", 0x228, 128, 4, 0, 0, 0, 0, 0⟩,
  ⟨"HKC_RES_W3", 0x22c, 128, 4, 0, 0, 0, 0, 0⟩]
def regDefsHK_1 : List RegDef := [
  ⟨"HKC_POP", 0x230, 128, 4, 0, 0, 0, 0, 1⟩,
  ⟨"HKC_DROP", 0x234, 128, 4, 0, 0, 0, 0, 0⟩,
  ⟨"HKC_SEQ", 0x240, 4, 16, 0x4380000, 0, 0xfdfff37f, 0, 0⟩,
  ⟨"HKC_SEQ", 0x2c0, 4, 16, 0x4380000, 0, 0xfdfff37f, 0, 0⟩,
  ⟨"HKC_SEQ", 0x340, 4, 16, 0x4380000, 0, 0xfdfff37f, 0, 0⟩,
  ⟨"HKC_SEQ", 0x3c0, 4, 16, 0x4380000, 0, 0xfdfff37f, 0, 0⟩]
/-- The register rows of a HK page. -/
def regDefsHK : List RegDef := regDefsHK_0 ++ regDefsHK_1

def regDefsFILT_0 : List RegDef := [
  ⟨"FILT_CFG", 0x100, 64, 4, 0x1000000, 0, 0x7f017713, 0, 0⟩,
  ⟨"FILT_FLEN", 0x104, 64, 4, 0x101, 0x7f7f, 0, 0, 0⟩,
  ⟨"FILT_GDLY", 0x108, 64, 4, 0, 0, 0, 0, 0⟩,
  ⟨"FILT_THR_CTL", 0x10c, 64, 4, 0, 0xffff, 0, 0, 0⟩,
  ⟨"FILT_TH0", 0x110, 64, 4, 0xffff, 0xffffffff, 0, 0, 0⟩,
  ⟨"FILT_TH1", 0x114, 64, 4, 0xffff, 0xffffffff, 0, 0, 0⟩,
  ⟨"FILT_TH_STAT", 0x118, 64, 4, 0, 0, 0, 0xf, 0⟩,
  ⟨"FCOEF_IDX", 0x200, 4, 1, 0, 0x137f, 0, 0, 0⟩,
  ⟨"FCOEF_DATA", 0x204, 4, 1, 0, 0xffff, 0, 0, 0⟩,
  ⟨"FSTAT", 0x208, 4, 1, 0, 0, 0, 1, 0⟩]
/-- The register rows of a FILT page. -/
def regDefsFILT : List RegDef := regDefsFILT_0

def regDefsHDAC_0 : List RegDef := [
  ⟨"STROBE", 0x100, 4, 1, 0, 0, 0, 0, 0xffff⟩,
  ⟨"CLR_STAT", 0x104, 4, 1, 0, 0, 0, 2, 0⟩,
  ⟨"PWR_CTL", 0x108, 4, 1, 0, 1, 0, 0, 0⟩,
  ⟨"HSTAT", 0x10c, 4, 1, 0, 0, 0, 1, 0⟩,
  ⟨"CH_CTL", 0x200, 16, 32, 0x1001, 0x1000, 0x70f33, 0, 0x1000000⟩,
  ⟨"CH_CODE", 0x204, 16, 32, 0, 0xffff, 0, 0, 0⟩,
  ⟨"CH_CLR", 0x208, 16, 32, 0, 0xffff, 0, 0, 0⟩,
  ⟨"CH_STAT", 0x20c, 16, 32, 0, 0, 0, 0x28, 0⟩,
  ⟨"NCO_CTL", 0x400, 32, 4, 0, 7, 0, 0, 0⟩,
  ⟨"NCO_FSTART", 0x404, 32, 4, 0, 0, 0xffffff, 0, 0⟩,
  ⟨"NCO_FSTOP", 0x408, 32, 4, 0, 0, 0xffffff, 0, 0⟩,
  ⟨"NCO_SWEEP", 0x40c, 32, 4, 0x3e8, 0xffffff, 0, 0, 0⟩]
def regDefsHDAC_1 : List RegDef := [
  ⟨"NCO_AMP", 0x410, 32, 4, 0, 0xffff, 0, 0, 0⟩]
/-- The register rows of a HDAC page. -/
def regDefsHDAC : List RegDef := regDefsHDAC_0 ++ regDefsHDAC_1

def regDefsTHERM_0 : List RegDef := [
  ⟨"MEAS_CTL", 0x100, 4, 1, 0x3e86400, 0xffffff00, 0, 0, 1⟩,
  ⟨"STAT", 0x104, 4, 1, 0, 0, 0, 0xe00, 0⟩,
  ⟨"TMAX", 0x108, 4, 1, 0, 0, 0, 0, 0⟩,
  ⟨"TAVG", 0x10c, 4, 1, 0, 0, 0, 0, 0⟩,
  ⟨"SENS_IDX", 0x110, 4, 1, 0, 0x1f, 0, 0, 0⟩,
  ⟨"SENS_DATA", 0x114, 4, 1, 0, 0, 0, 0, 0⟩,
  ⟨"SENSOR_MASK", 0x118, 4, 1, 0, 0xffffff, 0, 0, 0⟩,
  ⟨"FAULT_MAP", 0x11c, 4, 1, 0, 0, 0, 0xffffff, 0⟩,
  ⟨"BAND_CTL", 0x120, 4, 1, 0x402, 0x710f0f, 0, 0, 0⟩,
  ⟨"BT", 0x124, 4, 7, 0, 0xfff, 0, 0, 0⟩,
  ⟨"BAND_CFG", 0x140, 4, 8, 0, 0x333ff, 0, 0, 0⟩,
  ⟨"THR_CTL", 0x160, 4, 1, 0x200340, 0xff0fff, 0, 0, 0⟩]
def regDefsTHERM_1 : List RegDef := [
  ⟨"THR_STAT", 0x164, 4, 1, 0, 0, 0, 0, 0⟩,
  ⟨"ALARM", 0x168, 4, 1, 0x10398, 0x10fff, 0, 0, 0⟩]
/-- The register rows of a THERM page. -/
def regDefsTHERM : List RegDef := regDefsTHERM_0 ++ regDefsTHERM_1

def regDefsFOG_0 : List RegDef := [
  ⟨"FOG_CTL", 0x100, 4, 1, 0x20, 0x1f0133, 0, 0, 0⟩,
  ⟨"FOG_STAT", 0x104, 4, 1, 0, 0, 0, 0x300, 0⟩,
  ⟨"PHY_CFG", 0x108, 4, 1, 0xa0029, 0, 0x3f033f, 0, 0⟩,
  ⟨"FREQ", 0x10c, 4, 1, 0x190, 0, 0x3ff, 0, 0⟩,
  ⟨"TX_LVL", 0x110, 4, 1, 0x100, 0xfff, 0, 0, 0⟩,
  ⟨"RX_LANES", 0x118, 4, 1, 0, 0x1ffff, 0, 0, 0⟩,
  ⟨"RX_INV", 0x11c, 4, 1, 0, 0x1ffff, 0, 0, 0⟩,
  ⟨"HK_RX", 0x120, 4, 1, 0, 0x13f03, 0, 0, 0⟩,
  ⟨"HDAC_TX", 0x124, 4, 1, 0, 0xffff011f, 0, 0, 0⟩,
  ⟨"LINK", 0x128, 4, 1, 0x2b, 0xfff, 0, 0, 0⟩,
  ⟨"DET_CTL", 0x12c, 4, 1, 0x4628, 0xffff, 0, 0, 0⟩,
  ⟨"TX_QCTL", 0x130, 4, 1, 0, 0, 0, 0, 0x83ff0003⟩]
def regDefsFOG_1 : List RegDef := [
  ⟨"TX_QSTAT", 0x134, 4, 1, 0, 0, 0, 0xff00, 0⟩,
  ⟨"TX_SEQ", 0x138, 4, 1, 0, 0, 0, 0, 0⟩,
  ⟨"TXB_IDX", 0x13c, 4, 1, 0x1000, 0x13ff, 0, 0, 0⟩,
  ⟨"TXB_DATA", 0x140, 4, 1, 0, 0xffffffff, 0, 0, 0⟩,
  ⟨"RX_RING", 0x144, 4, 1, 0, 0, 0, 0, 0⟩,
  ⟨"RX_POP", 0x148, 4, 1, 0, 0, 0, 0, 1⟩,
  ⟨"RXB_IDX", 0x14c, 4, 1, 0x1000, 0x11ff, 0, 0, 0⟩,
  ⟨"RXB_DATA", 0x150, 4, 1, 0, 0, 0, 0, 0⟩,
  ⟨"TX_TS_NS", 0x158, 4, 1, 0, 0, 0, 0, 0⟩,
  ⟨"TX_TS_S", 0x15c, 4, 1, 0, 0, 0, 0, 0⟩,
  ⟨"TS_ADJ", 0x160, 4, 1, 0, 0xffffffff, 0, 0, 0⟩,
  ⟨"PWR_CTL", 0x164, 4, 1, 0x50006420, 0xffffffff, 0, 0, 0⟩]
def regDefsFOG_2 : List RegDef := [
  ⟨"LAST_RX", 0x168, 4, 1, 0, 0, 0, 0, 0⟩,
  ⟨"TRACK", 0x16c, 4, 1, 0, 0, 0, 0, 0⟩,
  ⟨"CNT_CTL", 0x170, 4, 1, 0, 0, 0, 0x3ff, 0x10000⟩,
  ⟨"TX_BTS_NS", 0x174, 4, 1, 0, 0, 0, 0, 0⟩,
  ⟨"TX_BTS_S", 0x178, 4, 1, 0, 0, 0, 0, 0⟩,
  ⟨"CNT", 0x180, 4, 10, 0, 0, 0, 0, 0⟩]
/-- The register rows of a FOG page. -/
def regDefsFOG : List RegDef := regDefsFOG_0 ++ regDefsFOG_1 ++ regDefsFOG_2

def regDefsTWIN_0 : List RegDef := [
  ⟨"PAIR_CTL", 0x100, 4, 1, 0x3c0a02, 0xffffff0a, 0, 0, 5⟩,
  ⟨"PAIR_STAT", 0x104, 4, 1, 0, 0, 0, 0, 0⟩,
  ⟨"HB_CTL", 0x108, 4, 1, 0x43e8, 0xffffffff, 0, 0, 0⟩,
  ⟨"PEER_ID", 0x110, 4, 4, 0, 0, 0, 0, 0⟩,
  ⟨"EXPECT_ID", 0x120, 4, 4, 0, 0xffffffff, 0, 0, 0⟩,
  ⟨"TX_CNT", 0x130, 4, 1, 0, 0, 0, 0, 0⟩,
  ⟨"RX_CNT", 0x134, 4, 1, 0, 0, 0, 0, 0⟩,
  ⟨"POS_CTL", 0x140, 4, 1, 2, 2, 0, 0, 1⟩,
  ⟨"POS_STAT", 0x144, 4, 1, 0, 0, 0, 2, 0⟩,
  ⟨"POS_IDX", 0x148, 4, 1, 0, 0x13f, 0, 0, 0⟩,
  ⟨"POS_REL0", 0x14c, 4, 1, 0, 0, 0, 0, 0⟩,
  ⟨"POS_REL1", 0x150, 4, 1, 0, 0, 0, 0, 0⟩]
def regDefsTWIN_1 : List RegDef := [
  ⟨"POS_REL2", 0x154, 4, 1, 0, 0, 0, 0, 0⟩,
  ⟨"COORD_CTL", 0x160, 4, 1, 0, 0x33fff, 0, 0, 0x3000000⟩,
  ⟨"COORD_N_LO", 0x164, 4, 1, 0, 0xffffffff, 0, 0, 0⟩,
  ⟨"COORD_N_HI", 0x168, 4, 1, 0, 0xffffffff, 0, 0, 0⟩,
  ⟨"COORD_TAG", 0x16c, 4, 1, 0xc80000, 0xffffffff, 0, 0, 0⟩,
  ⟨"COORD_VER", 0x170, 4, 1, 0, 0xffffffff, 0, 0, 0⟩,
  ⟨"COORD_STAT", 0x174, 4, 1, 0, 0, 0, 0, 0⟩,
  ⟨"CFG_TWIN_ACT", 0x180, 4, 1, 0, 0, 0, 0, 0⟩,
  ⟨"CFG_TWIN_PREV", 0x184, 4, 1, 0, 0, 0, 0, 0⟩,
  ⟨"SPARE_CTL", 0x190, 4, 1, 0x1f40000, 0xffff010f, 0, 0, 0x70⟩,
  ⟨"SPARE_STAT", 0x194, 4, 1, 0, 0, 0, 0x20000, 0⟩,
  ⟨"SPARE_OFS", 0x198, 4, 1, 0, 0, 0, 0, 0⟩]
def regDefsTWIN_2 : List RegDef := [
  ⟨"SPARE_RSV", 0x19c, 4, 1, 0, 0xfff, 0, 0, 0⟩,
  ⟨"EMERG_CTL", 0x1a0, 4, 1, 0xa00, 0xff03, 0, 0, 0⟩,
  ⟨"EMERG_STAT", 0x1a4, 4, 1, 0, 0, 0, 0, 0⟩,
  ⟨"RANGE_CTL", 0x1b0, 4, 1, 0xbbe70000, 0xffff0000, 0, 0, 1⟩,
  ⟨"RANGE_STAT", 0x1b4, 4, 1, 0, 0, 0, 0, 0⟩,
  ⟨"RANGE_NS", 0x1b8, 4, 1, 0, 0, 0, 0, 0⟩,
  ⟨"HEALTH_CTL", 0x1c0, 4, 1, 0, 0, 0, 0, 1⟩,
  ⟨"HEALTH_IDX", 0x1c4, 4, 1, 0, 0xf, 0, 0, 0⟩,
  ⟨"HEALTH_SEQ", 0x1c8, 4, 1, 0, 0, 0, 0, 0⟩,
  ⟨"HEALTH_TYPE", 0x1cc, 4, 1, 0, 0, 0, 0, 0⟩,
  ⟨"HEALTH_TIME", 0x1d0, 4, 1, 0, 0, 0, 0, 0⟩,
  ⟨"HEALTH_DIG_LO", 0x1d4, 4, 1, 0, 0, 0, 0, 0⟩]
def regDefsTWIN_3 : List RegDef := [
  ⟨"HEALTH_DIG_HI", 0x1d8, 4, 1, 0, 0, 0, 0, 0⟩,
  ⟨"PEER", 0x200, 4, 64, 0, 0x13f, 0, 0, 0⟩]
/-- The register rows of a TWIN page. -/
def regDefsTWIN : List RegDef := regDefsTWIN_0 ++ regDefsTWIN_1 ++ regDefsTWIN_2 ++ regDefsTWIN_3

def regDefsPERF_0 : List RegDef := [
  ⟨"CTL", 0x100, 4, 1, 0, 1, 0, 0, 2⟩,
  ⟨"WRAP", 0x104, 4, 2, 0, 0, 0, 0xffffffff, 0⟩,
  ⟨"PC_CTL", 0x200, 16, 64, 0x20000, 0x103ff, 0, 0, 0⟩,
  ⟨"PC_LO", 0x204, 16, 64, 0, 0, 0, 0, 0⟩,
  ⟨"PC_HI", 0x208, 16, 64, 0, 0, 0, 0, 0⟩]
/-- The register rows of a PERF page. -/
def regDefsPERF : List RegDef := regDefsPERF_0

def regDefsBIST_0 : List RegDef := [
  ⟨"CTL", 0x100, 4, 1, 0, 0, 0, 0, 3⟩,
  ⟨"RUN_MASK", 0x104, 4, 1, 0, 0xffffff, 0, 0, 0⟩,
  ⟨"STAT", 0x108, 4, 1, 0, 0, 0, 0, 0⟩,
  ⟨"RESULT0", 0x10c, 4, 1, 0, 0, 0, 0, 0⟩,
  ⟨"RESULT1", 0x110, 4, 1, 0, 0, 0, 0, 0⟩,
  ⟨"DOM_IDX", 0x114, 4, 1, 0, 0x1f, 0, 0, 0⟩,
  ⟨"DOM_DETAIL", 0x118, 4, 1, 0, 0, 0, 0, 0⟩,
  ⟨"DOM_SIG", 0x11c, 4, 1, 0, 0, 0, 0, 0⟩,
  ⟨"RAIL_STAT", 0x120, 4, 1, 0, 0, 0, 0, 0⟩,
  ⟨"POR_MASK", 0x124, 4, 1, 0, 0, 0, 0, 0⟩,
  ⟨"EXCLUDED", 0x128, 4, 1, 0, 0, 0, 0, 0⟩,
  ⟨"RUN_NS", 0x12c, 4, 1, 0, 0, 0, 0, 0⟩]
def regDefsBIST_1 : List RegDef := [
  ⟨"RUN_S", 0x130, 4, 1, 0, 0, 0, 0, 0⟩,
  ⟨"RUN_AON_LO", 0x134, 4, 1, 0, 0, 0, 0, 0⟩,
  ⟨"RUN_AON_HI", 0x138, 4, 1, 0, 0, 0, 0, 0⟩,
  ⟨"LANE_CTL", 0x140, 4, 1, 0, 0, 0, 0, 0x11f⟩,
  ⟨"LANE_STAT", 0x144, 4, 1, 0, 0, 0, 0, 0⟩]
/-- The register rows of a BIST page. -/
def regDefsBIST : List RegDef := regDefsBIST_0 ++ regDefsBIST_1

def regDefsPMAP_0 : List RegDef := [
  ⟨"MUX_LOCK", 0x100, 4, 1, 0, 0, 0, 0, 0⟩,
  ⟨"SLOT_IDX", 0x104, 4, 1, 0, 0xf, 0, 0, 0⟩,
  ⟨"SLOT_OWN", 0x108, 4, 1, 0, 0, 0, 0, 0⟩,
  ⟨"DESKEW_CAP", 0x10c, 4, 1, 0x100000fa, 0, 0, 0, 0⟩,
  ⟨"TX_ALIGNED", 0x110, 4, 2, 0, 0, 0, 0, 0⟩,
  ⟨"RX_ALIGNED", 0x118, 4, 2, 0, 0, 0, 0, 0⟩]
/-- The register rows of a PMAP page. -/
def regDefsPMAP : List RegDef := regDefsPMAP_0

def regDefsFEC_0 : List RegDef := [
  ⟨"FEC_STAT", 0x100, 4, 1, 0, 0, 0, 1, 0⟩,
  ⟨"LOSS_MAP", 0x104, 4, 1, 0, 0, 0, 0x1ffff, 0⟩,
  ⟨"FAIL_MAP", 0x108, 4, 1, 0, 0, 0, 0x1ffff, 0⟩,
  ⟨"WRAP_MAP", 0x10c, 4, 1, 0, 0, 0, 0x1ffff, 0⟩,
  ⟨"THR_STAT", 0x110, 4, 1, 0, 0, 0, 0, 0⟩,
  ⟨"LANE_CTL", 0x180, 4, 17, 0xa02800, 0x1f10001, 0xff00, 0, 0⟩,
  ⟨"LPC_STAT", 0x200, 32, 17, 0, 0, 0, 0, 0⟩,
  ⟨"CORR_LO", 0x204, 32, 17, 0, 0, 0, 0, 0⟩,
  ⟨"CORR_HI", 0x208, 32, 17, 0, 0, 0, 0, 0⟩,
  ⟨"ROW_LO", 0x20c, 32, 17, 0, 0, 0, 0, 0⟩,
  ⟨"ROW_HI", 0x210, 32, 17, 0, 0, 0, 0, 0⟩,
  ⟨"FAIL", 0x214, 32, 17, 0, 0, 0, 0, 0⟩]
def regDefsFEC_1 : List RegDef := [
  ⟨"REDUCED", 0x218, 32, 17, 0, 0, 0, 0, 0⟩,
  ⟨"CNT_CTL", 0x21c, 32, 17, 0x400, 0x400, 0, 0xf, 0x300⟩]
/-- The register rows of a FEC page. -/
def regDefsFEC : List RegDef := regDefsFEC_0 ++ regDefsFEC_1

def regDefsLLANE_0 : List RegDef := [
  ⟨"RX_CTL", 0x100, 4, 1, 0x1000, 0xff0f, 0, 0, 0⟩,
  ⟨"RX_STAT", 0x104, 4, 1, 0, 0, 0, 0x100, 0⟩,
  ⟨"FE_CTL", 0x108, 4, 1, 0xc00, 0, 0x3f1f, 0, 0⟩,
  ⟨"RX_GDLY", 0x10c, 4, 1, 0, 0, 0, 0, 0⟩,
  ⟨"ADC_CTL", 0x110, 4, 1, 0x140, 0x1f1, 0, 0, 0⟩,
  ⟨"ADC_SLOT_IDX", 0x114, 4, 1, 0, 0x7f, 0, 0, 0⟩,
  ⟨"ADC_SLOT_DATA", 0x118, 4, 1, 0, 0, 0, 0, 0⟩,
  ⟨"ADC_SUB_IDX", 0x11c, 4, 1, 0, 0xff, 0, 0, 0⟩,
  ⟨"ADC_SUB_TRIM", 0x120, 4, 1, 0, 0, 0, 0, 0⟩,
  ⟨"ADC_QUAL", 0x124, 4, 1, 0, 0, 0, 0, 0⟩,
  ⟨"ADC_SAT_CNT", 0x128, 4, 1, 0, 0, 0, 0, 0⟩,
  ⟨"CDR_CTL", 0x130, 4, 1, 0x1000e6, 0xff0fff, 0, 0, 0⟩]
def regDefsLLANE_1 : List RegDef := [
  ⟨"CDR_STAT", 0x134, 4, 1, 0, 0, 0, 0, 0⟩,
  ⟨"CDR_FREQ", 0x138, 4, 1, 0, 0, 0, 0, 0⟩,
  ⟨"CDR_PHOFS", 0x13c, 4, 1, 0, 0, 0xff, 0, 0⟩,
  ⟨"EQ_CTL", 0x140, 4, 1, 0x410, 0, 0x13f7f, 0, 0⟩,
  ⟨"EQ_STAT", 0x144, 4, 1, 0x101000, 0, 0, 0, 0⟩,
  ⟨"COEF_IDX", 0x148, 4, 1, 0, 0x3ff, 0, 0, 0⟩,
  ⟨"COEF_DATA", 0x14c, 4, 1, 0, 0xfff, 0, 0, 0⟩,
  ⟨"DET_CTL", 0x150, 4, 1, 0x400, 0, 0xf31, 0, 0⟩,
  ⟨"BLE_CTL", 0x154, 4, 1, 0x18, 0x1f, 0, 0, 0⟩,
  ⟨"BLE_VAL", 0x158, 4, 1, 0, 0, 0, 0, 0⟩,
  ⟨"RES_CTL", 0x160, 4, 1, 0xa00, 0x1f01, 0, 0, 6⟩,
  ⟨"RES_STAT", 0x164, 4, 1, 0, 0, 0, 0x1f, 0x100⟩]
def regDefsLLANE_2 : List RegDef := [
  ⟨"RES_CNT", 0x168, 4, 1, 0, 0, 0, 0, 0⟩,
  ⟨"RES_FFE_CNT", 0x16c, 4, 1, 0, 0, 0, 0, 0⟩,
  ⟨"RES_MLSE_CNT", 0x170, 4, 1, 0, 0, 0, 0, 0⟩,
  ⟨"ERAS_CNT_LO", 0x174, 4, 1, 0, 0, 0, 0, 0⟩,
  ⟨"ERAS_CNT_HI", 0x178, 4, 1, 0, 0, 0, 0, 0⟩,
  ⟨"EYE_CTL", 0x180, 4, 1, 0, 0x1ffffffe, 0, 0, 1⟩,
  ⟨"EYE_STAT", 0x184, 4, 1, 0, 0, 0, 2, 0⟩,
  ⟨"EYE_HITS", 0x188, 4, 1, 0, 0, 0, 0, 0⟩,
  ⟨"EYE_TOTAL", 0x18c, 4, 1, 0, 0, 0, 0, 0⟩,
  ⟨"EYE_WH", 0x190, 4, 3, 0, 0, 0, 0, 0⟩,
  ⟨"SPLL_CTL", 0x2f0, 4, 1, 0, 1, 0, 0, 0⟩,
  ⟨"SPLL_STAT", 0x2f4, 4, 1, 0, 0, 0, 2, 0⟩]
def regDefsLLANE_3 : List RegDef := [
  ⟨"TX_CTL", 0x400, 4, 1, 0, 0x37f, 0, 0, 0⟩,
  ⟨"TX_STAT", 0x404, 4, 1, 0xa01, 0, 0, 0x1e0, 0⟩,
  ⟨"TX_ANA", 0x408, 4, 1, 0x1e, 0, 0x3f3f, 0, 0⟩,
  ⟨"TX_GDLY", 0x40c, 4, 1, 0, 0, 0, 0, 0⟩,
  ⟨"TX_EQ_CTL", 0x410, 4, 1, 0, 0, 1, 0, 0⟩,
  ⟨"TX_EQ_STAT", 0x414, 4, 1, 0, 0, 0, 0, 0⟩,
  ⟨"TX_COEF_IDX", 0x418, 4, 1, 0, 0xfff, 0, 0, 0⟩,
  ⟨"TX_COEF_DATA", 0x41c, 4, 1, 0, 0xfff, 0, 0, 0⟩,
  ⟨"TX_PD_CTL", 0x420, 4, 1, 2, 7, 0x30, 0, 0⟩,
  ⟨"TX_PD_MAP", 0x424, 4, 1, 0, 0xffff, 0, 0, 0⟩,
  ⟨"TX_PD_STAT", 0x428, 4, 1, 0, 0, 0, 0, 0⟩,
  ⟨"TX_DAC_CTL", 0x430, 4, 1, 0x60, 0xf1, 0, 0, 0⟩]
def regDefsLLANE_4 : List RegDef := [
  ⟨"DAC_SEG_IDX", 0x434, 4, 1, 0, 0xff, 0, 0, 0⟩,
  ⟨"DAC_SEG_DATA", 0x438, 4, 1, 0xff00, 0, 0, 0, 0⟩,
  ⟨"DAC_QUAL", 0x43c, 4, 1, 0, 0, 0, 0, 0⟩,
  ⟨"TX_TSRC", 0x440, 4, 1, 0x800, 0xf3f, 0, 0, 0⟩,
  ⟨"TX_FREQ", 0x444, 4, 1, 0, 0, 0, 0, 0⟩,
  ⟨"TX_MIRROR", 0x448, 4, 1, 0, 0, 0x11f, 0, 0⟩,
  ⟨"TX_FOG_CTL", 0x44c, 4, 1, 0, 3, 0, 0, 0⟩,
  ⟨"TX_CLIP_CNT", 0x450, 4, 1, 0, 0, 0, 0, 0⟩,
  ⟨"TX_CNT_STAT", 0x454, 4, 1, 0, 0, 0, 1, 0x100⟩,
  ⟨"INNER_CTL", 0x300, 4, 1, 0xa00, 0x1f01, 0, 0, 2⟩,
  ⟨"INNER_STAT", 0x304, 4, 1, 0, 0, 0, 4, 0⟩,
  ⟨"INNER_CNT_CTL", 0x308, 4, 1, 0x400, 0x400, 0, 0xf, 0x300⟩]
def regDefsLLANE_5 : List RegDef := [
  ⟨"SYM_CNT_LO", 0x30c, 4, 1, 0, 0, 0, 0, 0⟩,
  ⟨"SYM_CNT_HI", 0x310, 4, 1, 0, 0, 0, 0, 0⟩,
  ⟨"CORR_BITS_LO", 0x314, 4, 1, 0, 0, 0, 0, 0⟩,
  ⟨"CORR_BITS_HI", 0x318, 4, 1, 0, 0, 0, 0, 0⟩,
  ⟨"CW_CORR_LO", 0x31c, 4, 1, 0, 0, 0, 0, 0⟩,
  ⟨"CW_CORR_HI", 0x320, 4, 1, 0, 0, 0, 0, 0⟩,
  ⟨"CW_FAIL", 0x324, 4, 1, 0, 0, 0, 0, 0⟩,
  ⟨"ENC_GDLY", 0x328, 4, 1, 0, 0, 0, 0, 0⟩,
  ⟨"DEC_GDLY", 0x32c, 4, 1, 0, 0, 0, 0, 0⟩,
  ⟨"LE_CTL", 0x200, 128, 1, 0x180008, 0x1f0009, 0x100, 0, 2⟩,
  ⟨"LE_STAT", 0x204, 128, 1, 4, 0, 0, 0, 0⟩,
  ⟨"LE_PC", 0x208, 128, 1, 0, 0, 0, 0, 0⟩]
def regDefsLLANE_6 : List RegDef := [
  ⟨"LE_FAULT", 0x20c, 128, 1, 0, 0, 0, 0, 0⟩,
  ⟨"LE_EVT", 0x210, 128, 1, 0, 0, 0, 0x7f, 0⟩,
  ⟨"LE_EVT_EN", 0x214, 128, 1, 0, 0x7f, 0, 0, 0⟩,
  ⟨"UC_ADDR", 0x218, 128, 1, 0x2000, 0x37ff, 0, 0, 0⟩,
  ⟨"UC_DATA", 0x21c, 128, 1, 0, 0xffffffff, 0, 0, 0⟩,
  ⟨"UC_SEAL", 0x220, 128, 1, 0, 0, 0, 0, 0xfff0013⟩,
  ⟨"UC_VER", 0x224, 128, 1, 0, 0xffffffff, 0, 0, 0⟩,
  ⟨"UC_BANK0", 0x228, 128, 1, 0, 0, 0, 0, 0⟩,
  ⟨"UC_BANK1", 0x22c, 128, 1, 0, 0, 0, 0, 0⟩,
  ⟨"UC_VER0", 0x230, 128, 1, 0, 0, 0, 0, 0⟩,
  ⟨"UC_VER1", 0x234, 128, 1, 0, 0, 0, 0, 0⟩,
  ⟨"MBX_CMD", 0x240, 128, 1, 0, 0xffff, 0, 0, 0⟩]
def regDefsLLANE_7 : List RegDef := [
  ⟨"MBX_ARG0", 0x244, 128, 1, 0, 0xffffffff, 0, 0, 0⟩,
  ⟨"MBX_ARG1", 0x248, 128, 1, 0, 0xffffffff, 0, 0, 0⟩,
  ⟨"MBX_STAT", 0x24c, 128, 1, 0, 0, 0, 6, 0⟩,
  ⟨"MBX_RSP0", 0x250, 128, 1, 0, 0, 0, 0, 0⟩,
  ⟨"MBX_RSP1", 0x254, 128, 1, 0, 0, 0, 0, 0⟩,
  ⟨"PROG_STAT", 0x258, 128, 1, 0, 0, 0, 0, 0⟩,
  ⟨"DBG_IDX", 0x260, 128, 1, 0, 0x1ff, 0, 0, 0⟩,
  ⟨"DBG_DATA", 0x264, 128, 1, 0, 0, 0, 0, 0⟩]
/-- The register rows of a LLANE page. -/
def regDefsLLANE : List RegDef := regDefsLLANE_0 ++ regDefsLLANE_1 ++ regDefsLLANE_2 ++ regDefsLLANE_3 ++ regDefsLLANE_4 ++ regDefsLLANE_5 ++ regDefsLLANE_6 ++ regDefsLLANE_7

def regDefsLCLU_0 : List RegDef := [
  ⟨"PLL_CTL", 0x100, 4, 1, 0, 1, 0, 0, 0⟩,
  ⟨"PLL_STAT", 0x104, 4, 1, 0, 0, 0, 2, 0⟩,
  ⟨"LANE_PWR", 0x108, 4, 1, 0, 0xf0f, 0, 0, 0⟩,
  ⟨"LE_CTL", 0x200, 128, 4, 0x180008, 0x1f0009, 0x100, 0, 2⟩,
  ⟨"LE_STAT", 0x204, 128, 4, 4, 0, 0, 0, 0⟩,
  ⟨"LE_PC", 0x208, 128, 4, 0, 0, 0, 0, 0⟩,
  ⟨"LE_FAULT", 0x20c, 128, 4, 0, 0, 0, 0, 0⟩,
  ⟨"LE_EVT", 0x210, 128, 4, 0, 0, 0, 0x7f, 0⟩,
  ⟨"LE_EVT_EN", 0x214, 128, 4, 0, 0x7f, 0, 0, 0⟩,
  ⟨"UC_ADDR", 0x218, 128, 4, 0x2000, 0x37ff, 0, 0, 0⟩,
  ⟨"UC_DATA", 0x21c, 128, 4, 0, 0xffffffff, 0, 0, 0⟩,
  ⟨"UC_SEAL", 0x220, 128, 4, 0, 0, 0, 0, 0xfff0013⟩]
def regDefsLCLU_1 : List RegDef := [
  ⟨"UC_VER", 0x224, 128, 4, 0, 0xffffffff, 0, 0, 0⟩,
  ⟨"UC_BANK0", 0x228, 128, 4, 0, 0, 0, 0, 0⟩,
  ⟨"UC_BANK1", 0x22c, 128, 4, 0, 0, 0, 0, 0⟩,
  ⟨"UC_VER0", 0x230, 128, 4, 0, 0, 0, 0, 0⟩,
  ⟨"UC_VER1", 0x234, 128, 4, 0, 0, 0, 0, 0⟩,
  ⟨"MBX_CMD", 0x240, 128, 4, 0, 0xffff, 0, 0, 0⟩,
  ⟨"MBX_ARG0", 0x244, 128, 4, 0, 0xffffffff, 0, 0, 0⟩,
  ⟨"MBX_ARG1", 0x248, 128, 4, 0, 0xffffffff, 0, 0, 0⟩,
  ⟨"MBX_STAT", 0x24c, 128, 4, 0, 0, 0, 6, 0⟩,
  ⟨"MBX_RSP0", 0x250, 128, 4, 0, 0, 0, 0, 0⟩,
  ⟨"MBX_RSP1", 0x254, 128, 4, 0, 0, 0, 0, 0⟩,
  ⟨"PROG_STAT", 0x258, 128, 4, 0, 0, 0, 0, 0⟩]
def regDefsLCLU_2 : List RegDef := [
  ⟨"DBG_IDX", 0x260, 128, 4, 0, 0x1ff, 0, 0, 0⟩,
  ⟨"DBG_DATA", 0x264, 128, 4, 0, 0, 0, 0, 0⟩]
/-- The register rows of a LCLU page. -/
def regDefsLCLU : List RegDef := regDefsLCLU_0 ++ regDefsLCLU_1 ++ regDefsLCLU_2

def regDefsHCLU_0 : List RegDef := [
  ⟨"PLLA_CTL", 0x100, 4, 1, 0, 1, 0, 0, 0⟩,
  ⟨"PLLA_STAT", 0x104, 4, 1, 0, 0, 0, 2, 0⟩,
  ⟨"PLLB_CTL", 0x108, 4, 1, 0, 1, 0, 0, 0⟩,
  ⟨"PLLB_STAT", 0x10c, 4, 1, 0, 0, 0, 2, 0⟩,
  ⟨"LANE_PWR", 0x110, 4, 1, 0, 0xffff, 0, 0, 0⟩,
  ⟨"RX_LMAP0", 0x114, 4, 1, 0x76543210, 0, 0xffffffff, 0, 0⟩,
  ⟨"RX_LMAP1", 0x118, 4, 1, 0xfedcba98, 0, 0xffffffff, 0, 0⟩,
  ⟨"TX_LMAP0", 0x11c, 4, 1, 0x76543210, 0, 0xffffffff, 0, 0⟩,
  ⟨"TX_LMAP1", 0x120, 4, 1, 0xfedcba98, 0, 0xffffffff, 0, 0⟩,
  ⟨"UP_MAP", 0x124, 4, 1, 0, 0, 0, 0, 0⟩,
  ⟨"LE_CTL", 0x200, 128, 1, 0x180008, 0x1f0009, 0x100, 0, 2⟩,
  ⟨"LE_STAT", 0x204, 128, 1, 4, 0, 0, 0, 0⟩]
def regDefsHCLU_1 : List RegDef := [
  ⟨"LE_PC", 0x208, 128, 1, 0, 0, 0, 0, 0⟩,
  ⟨"LE_FAULT", 0x20c, 128, 1, 0, 0, 0, 0, 0⟩,
  ⟨"LE_EVT", 0x210, 128, 1, 0, 0, 0, 0x7f, 0⟩,
  ⟨"LE_EVT_EN", 0x214, 128, 1, 0, 0x7f, 0, 0, 0⟩,
  ⟨"UC_ADDR", 0x218, 128, 1, 0x2000, 0x37ff, 0, 0, 0⟩,
  ⟨"UC_DATA", 0x21c, 128, 1, 0, 0xffffffff, 0, 0, 0⟩,
  ⟨"UC_SEAL", 0x220, 128, 1, 0, 0, 0, 0, 0xfff0013⟩,
  ⟨"UC_VER", 0x224, 128, 1, 0, 0xffffffff, 0, 0, 0⟩,
  ⟨"UC_BANK0", 0x228, 128, 1, 0, 0, 0, 0, 0⟩,
  ⟨"UC_BANK1", 0x22c, 128, 1, 0, 0, 0, 0, 0⟩,
  ⟨"UC_VER0", 0x230, 128, 1, 0, 0, 0, 0, 0⟩,
  ⟨"UC_VER1", 0x234, 128, 1, 0, 0, 0, 0, 0⟩]
def regDefsHCLU_2 : List RegDef := [
  ⟨"MBX_CMD", 0x240, 128, 1, 0, 0xffff, 0, 0, 0⟩,
  ⟨"MBX_ARG0", 0x244, 128, 1, 0, 0xffffffff, 0, 0, 0⟩,
  ⟨"MBX_ARG1", 0x248, 128, 1, 0, 0xffffffff, 0, 0, 0⟩,
  ⟨"MBX_STAT", 0x24c, 128, 1, 0, 0, 0, 6, 0⟩,
  ⟨"MBX_RSP0", 0x250, 128, 1, 0, 0, 0, 0, 0⟩,
  ⟨"MBX_RSP1", 0x254, 128, 1, 0, 0, 0, 0, 0⟩,
  ⟨"PROG_STAT", 0x258, 128, 1, 0, 0, 0, 0, 0⟩,
  ⟨"DBG_IDX", 0x260, 128, 1, 0, 0x1ff, 0, 0, 0⟩,
  ⟨"DBG_DATA", 0x264, 128, 1, 0, 0, 0, 0, 0⟩]
/-- The register rows of a HCLU page. -/
def regDefsHCLU : List RegDef := regDefsHCLU_0 ++ regDefsHCLU_1 ++ regDefsHCLU_2

def regDefsHLANE_0 : List RegDef := [
  ⟨"HL_CTL", 0x100, 4, 1, 0x100000, 0xff017f, 0, 0, 0⟩,
  ⟨"HL_STAT", 0x104, 4, 1, 0, 0, 0, 0x800, 0⟩,
  ⟨"NEG_CTL", 0x108, 4, 1, 0x3f, 0xffff3f, 0, 0, 0x1000000⟩,
  ⟨"NEG_STAT", 0x10c, 4, 1, 0, 0, 0, 0, 0⟩,
  ⟨"NEG_PART", 0x110, 4, 1, 0, 0, 0, 0, 0⟩,
  ⟨"NEG_TIMER", 0x114, 4, 1, 0x1f403e8, 0xffffffff, 0, 0, 0⟩,
  ⟨"NEG_CNT", 0x118, 4, 1, 0, 0, 0, 0, 0⟩,
  ⟨"RX_FE", 0x11c, 4, 1, 0xc00, 0, 0x3f3f, 0, 0⟩,
  ⟨"RX_EQ_CTL", 0x120, 4, 1, 0, 0, 1, 0, 0⟩,
  ⟨"EQ_STAT", 0x124, 4, 1, 0, 0, 0, 0, 0⟩,
  ⟨"HCOEF_IDX", 0x128, 4, 1, 0, 0x3ff, 0, 0, 0⟩,
  ⟨"HCOEF_DATA", 0x12c, 4, 1, 0, 0xfff, 0, 0, 0⟩]
def regDefsHLANE_1 : List RegDef := [
  ⟨"CDR_CTL", 0x130, 4, 1, 0x1000e6, 0xff0fff, 0, 0, 0⟩,
  ⟨"CDR_STAT", 0x134, 4, 1, 0, 0, 0, 0, 0⟩,
  ⟨"CDR_FREQ", 0x138, 4, 1, 0, 0, 0, 0, 0⟩,
  ⟨"TX_FFE0", 0x140, 4, 1, 0, 0, 0xffffff, 0, 0⟩,
  ⟨"TX_FFE1", 0x144, 4, 1, 0x40, 0, 0xffff, 0, 0⟩,
  ⟨"TX_ANA", 0x148, 4, 1, 0x1e, 0, 0x3f, 0, 0⟩,
  ⟨"TX_TSRC", 0x14c, 4, 1, 0x800, 0xf9f, 0, 0, 0⟩,
  ⟨"TX_FREQ", 0x150, 4, 1, 0, 0, 0, 0, 0⟩,
  ⟨"EIDLE_CTL", 0x154, 4, 1, 0x1010, 0xff30, 0, 0, 0⟩,
  ⟨"SYNC_ERR_CNT", 0x158, 4, 1, 0, 0, 0, 0, 0⟩,
  ⟨"CNT_STAT", 0x15c, 4, 1, 0, 0, 0, 1, 0x100⟩,
  ⟨"TRN_STAT", 0x160, 4, 1, 0, 0, 0, 0, 0⟩]
/-- The register rows of a HLANE page. -/
def regDefsHLANE : List RegDef := regDefsHLANE_0 ++ regDefsHLANE_1

def regDefsPORT_0 : List RegDef := [
  ⟨"PORT_CFG", 0x100, 4, 1, 0, 0, 0x7f7, 0, 0⟩,
  ⟨"HOST_MAP", 0x104, 4, 1, 0, 0, 0xf03, 0, 0⟩,
  ⟨"LINE_MAP", 0x108, 4, 1, 0, 0, 0x1f1f1f1f, 0, 0⟩,
  ⟨"ALIGN_CTL", 0x10c, 4, 1, 0, 0, 0, 0, 3⟩,
  ⟨"ALIGN_STAT", 0x110, 4, 1, 0, 0, 0, 0x100, 0⟩,
  ⟨"SKEW", 0x114, 4, 1, 0, 0, 0, 0, 0⟩,
  ⟨"AM_PERIOD", 0x118, 4, 1, 0, 0, 0, 0, 0⟩,
  ⟨"LPOS_GEN", 0x11c, 4, 1, 0, 0, 0, 0, 0⟩,
  ⟨"LPOS_TX_LO", 0x120, 4, 1, 0, 0, 0, 0, 0⟩,
  ⟨"LPOS_TX_HI", 0x124, 4, 1, 0, 0, 0, 0, 0⟩,
  ⟨"LPOS_TX_AM", 0x128, 4, 1, 0, 0, 0, 0, 0⟩,
  ⟨"LPOS_RX_LO", 0x130, 4, 1, 0, 0, 0, 0, 0⟩]
def regDefsPORT_1 : List RegDef := [
  ⟨"LPOS_RX_HI", 0x134, 4, 1, 0, 0, 0, 0, 0⟩,
  ⟨"LPOS_RX_AM", 0x138, 4, 1, 0, 0, 0, 0, 0⟩,
  ⟨"MON_CTL", 0x140, 4, 1, 0x1080014, 0xffffff1f, 0, 0, 0⟩,
  ⟨"MON_STAT", 0x144, 4, 1, 0, 0, 0, 0x100, 0⟩,
  ⟨"CNT_CTL", 0x148, 4, 1, 0x400, 0x400, 0, 0xf, 0x300⟩,
  ⟨"TX_CW_LO", 0x180, 4, 1, 0, 0, 0, 0, 0⟩,
  ⟨"TX_CW_HI", 0x184, 4, 1, 0, 0, 0, 0, 0⟩,
  ⟨"TX_CWC_LO", 0x188, 4, 1, 0, 0, 0, 0, 0⟩,
  ⟨"TX_CWC_HI", 0x18c, 4, 1, 0, 0, 0, 0, 0⟩,
  ⟨"TX_UNC", 0x190, 4, 1, 0, 0, 0, 0, 0⟩,
  ⟨"TX_SYM_LO", 0x194, 4, 1, 0, 0, 0, 0, 0⟩,
  ⟨"TX_SYM_HI", 0x198, 4, 1, 0, 0, 0, 0, 0⟩]
def regDefsPORT_2 : List RegDef := [
  ⟨"TX_BIT_LO", 0x19c, 4, 1, 0, 0, 0, 0, 0⟩,
  ⟨"TX_BIT_HI", 0x1a0, 4, 1, 0, 0, 0, 0, 0⟩,
  ⟨"RX_CW_LO", 0x1c0, 4, 1, 0, 0, 0, 0, 0⟩,
  ⟨"RX_CW_HI", 0x1c4, 4, 1, 0, 0, 0, 0, 0⟩,
  ⟨"RX_CWC_LO", 0x1c8, 4, 1, 0, 0, 0, 0, 0⟩,
  ⟨"RX_CWC_HI", 0x1cc, 4, 1, 0, 0, 0, 0, 0⟩,
  ⟨"RX_UNC", 0x1d0, 4, 1, 0, 0, 0, 0, 0⟩,
  ⟨"RX_SYM_LO", 0x1d4, 4, 1, 0, 0, 0, 0, 0⟩,
  ⟨"RX_SYM_HI", 0x1d8, 4, 1, 0, 0, 0, 0, 0⟩,
  ⟨"RX_BIT_LO", 0x1dc, 4, 1, 0, 0, 0, 0, 0⟩,
  ⟨"RX_BIT_HI", 0x1e0, 4, 1, 0, 0, 0, 0, 0⟩,
  ⟨"LINE_CORR_LO", 0x200, 4, 1, 0, 0, 0, 0, 0⟩]
def regDefsPORT_3 : List RegDef := [
  ⟨"LINE_CORR_HI", 0x204, 4, 1, 0, 0, 0, 0, 0⟩,
  ⟨"LINE_ERAS_LO", 0x208, 4, 1, 0, 0, 0, 0, 0⟩,
  ⟨"LINE_ERAS_HI", 0x20c, 4, 1, 0, 0, 0, 0, 0⟩,
  ⟨"LINE_FAIL", 0x210, 4, 1, 0, 0, 0, 0, 0⟩,
  ⟨"SLIP_CNT", 0x214, 4, 1, 0, 0, 0, 0, 0⟩]
/-- The register rows of a PORT page. -/
def regDefsPORT : List RegDef := regDefsPORT_0 ++ regDefsPORT_1 ++ regDefsPORT_2 ++ regDefsPORT_3

end Sys2Proof.Machine
end

