-- ==== Sys2Proof/Machine/Blocks.lean ====
section
/-! DEFINITION. The blocks of BAR0 (R36), the power domain of each (R13), the identity and capability words of the page
header (R43), and the Reset column of every register. A block is named by its interrupt index, 0 to 178. -/

namespace Sys2Proof.Machine

/-- The kind of page a block window holds (the type codes of R36). -/
inductive BlkType where
  | glb | pwr | clk | aon | kpr | sec | dbg | cfgv | mem | ddr | dma | log | pcie | time | tsu | sched | hk | filt
  | hdac | therm | fog | twin | perf | bist | pmap | fec | llane | lclu | hclu | hlane | port
deriving DecidableEq, Repr

/-! Interrupt indices of R36. -/

namespace Blk
def glb : Nat := 0
def pwr : Nat := 1
def clk : Nat := 2
def aon : Nat := 3
def kpr : Nat := 4
def sec : Nat := 5
def dbg : Nat := 6
def cfgv : Nat := 7
def mem : Nat := 8
def ddr : Nat := 9
def dma : Nat := 10
def log : Nat := 11
def pcie : Nat := 12
def time : Nat := 13
def tsu : Nat := 14
def sched : Nat := 15
def hk : Nat := 16
def filt : Nat := 17
def hdac : Nat := 18
def therm : Nat := 19
def fog : Nat := 20
def twin : Nat := 21
def perf : Nat := 22
def bist : Nat := 23
def pmap : Nat := 24
def fec : Nat := 25
/-- LLANEn, n = 0 to 16 (LLANE16 has index 42). -/
def llane (n : Nat) : Nat := 26 + n
def lclu (n : Nat) : Nat := 43 + n
def hclu (n : Nat) : Nat := 47 + n
def hlane (n : Nat) : Nat := 51 + n
def port (n : Nat) : Nat := 115 + n
/-- The number of blocks. -/
def count : Nat := 179
end Blk

/-- The kind of block `b` (R36). -/
def blkType (b : Nat) : BlkType :=
  match b with
  | 0 => .glb | 1 => .pwr | 2 => .clk | 3 => .aon | 4 => .kpr | 5 => .sec | 6 => .dbg | 7 => .cfgv | 8 => .mem
  | 9 => .ddr | 10 => .dma | 11 => .log | 12 => .pcie | 13 => .time | 14 => .tsu | 15 => .sched | 16 => .hk
  | 17 => .filt | 18 => .hdac | 19 => .therm | 20 => .fog | 21 => .twin | 22 => .perf | 23 => .bist | 24 => .pmap
  | 25 => .fec
  | _ => if b < 43 then .llane else if b < 47 then .lclu else if b < 51 then .hclu else if b < 115 then .hlane
         else .port

/-- The instance number of block `b` inside its kind; 0 for single blocks (R43). -/
def blkInstance (b : Nat) : Nat :=
  if b < 26 then 0 else if b < 43 then b - 26 else if b < 47 then b - 43 else if b < 51 then b - 47
  else if b < 115 then b - 51 else b - 115

/-- The type code of R36. -/
def typeCode : BlkType → Nat
  | .glb => 1 | .pwr => 2 | .clk => 3 | .aon => 4 | .kpr => 5 | .sec => 6 | .dbg => 7 | .cfgv => 8 | .mem => 9
  | .ddr => 10 | .dma => 11 | .log => 12 | .pcie => 13 | .time => 14 | .tsu => 15 | .sched => 16 | .hk => 17
  | .filt => 18 | .hdac => 19 | .therm => 20 | .fog => 21 | .twin => 22 | .perf => 23 | .bist => 24 | .pmap => 25
  | .fec => 26 | .llane => 0x20 | .lclu => 0x21 | .hclu => 0x22 | .hlane => 0x23 | .port => 0x24

/-! Power domains (R13), by index. -/

namespace Dom
def aon : Nat := 0
def clk : Nat := 1
def fab : Nat := 2
def kpr : Nat := 3
def pcie : Nat := 4
def ddr : Nat := 5
def hk : Nat := 6
def fog : Nat := 7
def lcd (n : Nat) : Nat := 8 + n
def lca (n : Nat) : Nat := 12 + n
def spr : Nat := 16
def hc (n : Nat) : Nat := 17 + n
def pmap : Nat := 21
def time : Nat := 22
def test : Nat := 23
end Dom

/-- The parent domain of R13; PD_AON has none. -/
def domParent (d : Nat) : Option Nat :=
  if d = 0 then none
  else if d = 1 ∨ d = 23 then some 0
  else if d = 2 ∨ d = 22 then some 1
  else if d < 12 then some 2
  else if d < 16 then some (d - 4)
  else if d = 16 then some 21
  else some 2

/-- The domain that holds the page of block `b` (R13). -/
def blkDomain (b : Nat) : Nat :=
  match blkType b with
  | .aon | .pwr | .therm => Dom.aon
  | .clk => Dom.clk
  | .glb | .mem | .dma | .log | .perf => Dom.fab
  | .kpr | .sec | .cfgv => Dom.kpr
  | .pcie => Dom.pcie
  | .ddr => Dom.ddr
  | .hk | .filt | .hdac => Dom.hk
  | .fog | .twin => Dom.fog
  | .llane => if blkInstance b = 16 then Dom.spr else Dom.lcd (blkInstance b / 4)
  | .lclu => Dom.lcd (blkInstance b)
  | .hclu => Dom.hc (blkInstance b)
  | .hlane => Dom.hc (blkInstance b / 16)
  | .port | .pmap | .fec => Dom.pmap
  | .time | .tsu | .sched => Dom.time
  | .dbg | .bist => Dom.test

/-- The BAR0 byte offset of block `b`'s window (R36). -/
def blkBase (b : Nat) : Nat :=
  match blkType b with
  | .llane => if blkInstance b = 16 then 0x7C000 else 0x80000 + 0x4000 * blkInstance b
  | .lclu => 0xC0000 + 0x4000 * blkInstance b
  | .hclu => 0xD0000 + 0x4000 * blkInstance b
  | .hlane => 0x100000 + 0x4000 * blkInstance b
  | .port => 0x200000 + 0x4000 * blkInstance b
  | _ => 0x4000 * b

/-- The block whose window covers window number `w` (the BAR0 offset divided by 16 KiB), if any (R36). -/
def blkOfWindow (w : Nat) : Option Nat :=
  if w < 26 then some w
  else if w = 31 then some 42
  else if 32 ≤ w ∧ w < 48 then some (w - 6)
  else if 48 ≤ w ∧ w < 52 then some (w - 5)
  else if 52 ≤ w ∧ w < 56 then some (w - 5)
  else if 64 ≤ w ∧ w < 128 then some (w - 13)
  else if 128 ≤ w ∧ w < 192 then some (w - 13)
  else none

/-- The rows of the register tables that make up a page of each kind. -/
def regDefs : BlkType → List RegDef
  | .glb => regDefsGLB | .pwr => regDefsPWR | .clk => regDefsCLK | .aon => regDefsAON | .kpr => regDefsKPR
  | .sec => regDefsSEC | .dbg => regDefsDBG | .cfgv => regDefsCFGV | .mem => regDefsMEM | .ddr => regDefsDDR
  | .dma => regDefsDMA | .log => regDefsLOG | .pcie => regDefsPCIE | .time => regDefsTIME | .tsu => regDefsTSU
  | .sched => regDefsSCHED | .hk => regDefsHK | .filt => regDefsFILT | .hdac => regDefsHDAC
  | .therm => regDefsTHERM | .fog => regDefsFOG | .twin => regDefsTWIN | .perf => regDefsPERF | .bist => regDefsBIST
  | .pmap => regDefsPMAP | .fec => regDefsFEC | .llane => regDefsLLANE | .lclu => regDefsLCLU | .hclu => regDefsHCLU
  | .hlane => regDefsHLANE | .port => regDefsPORT

/-- Row `d` covers offset `off`. -/
def RegDef.covers (d : RegDef) (off : Nat) : Bool :=
  decide (d.off ≤ off) && decide ((off - d.off) % d.stride = 0) && decide ((off - d.off) / d.stride < d.count)

/-- The row of the tables that covers offset `off` of a page of kind `t`, the page header included (R43). -/
def regDefAt (t : BlkType) (off : Nat) : Option RegDef :=
  if off < 0x30 then regDefsHDR.find? fun d => d.covers off else (regDefs t).find? fun d => d.covers off

/-- The row that covers offset `off` of block `b`: LLANE0 to LLANE15 hold neither an engine control set nor the spare-lane
PLL (R93, R147). -/
def regDefOf (b off : Nat) : Option RegDef :=
  if blkType b == .llane && blkInstance b != 16 && decide (0x200 ≤ off) && decide (off < 0x300) then none
  else regDefAt (blkType b) off

/-- NUM_INT: the INT_STAT sources in use, the four common bits counted (R43 and the INT_STAT tables of each chapter). -/
def numInt : BlkType → Nat
  | .glb => 7 | .pwr => 12 | .clk => 6 | .aon => 5 | .kpr => 7 | .sec => 6 | .dbg => 8 | .cfgv => 10 | .mem => 10
  | .ddr => 11 | .dma => 10 | .log => 10 | .pcie => 4 | .time => 12 | .tsu => 7 | .sched => 10 | .hk => 16
  | .filt => 21 | .hdac => 9 | .therm => 12 | .fog => 13 | .twin => 19 | .perf => 5 | .bist => 8 | .pmap => 6
  | .fec => 9 | .llane => 26 | .lclu => 9 | .hclu => 7 | .hlane => 14 | .port => 13

/-- NUM_PAIRS: the declared pairs (R43; R91, R145, R183, R178, R217, R250, R285, R304, R308, R319, R345). -/
def numPairs : BlkType → Nat
  | .llane => 2 | .fec => 17 | .hlane => 1 | .hclu => 2 | .port => 3 | .fog => 1 | .time => 4 | .hk => 64 | .filt => 4
  | .hdac => 4 | .ddr => 8 | _ => 0

/-- HAS_STAGE: some register of the page has RWS fields (R43). -/
def hasStage (t : BlkType) : Bool := (regDefs t).any fun d => decide (d.rws ≠ 0)

/-- BLK_ID (R43): the type code, the instance and the version, 0xA0 in GLB (R1) and 0x01 elsewhere. -/
def blkIdWord (b : Nat) : Nat :=
  typeCode (blkType b) <<< 16 ||| blkInstance b <<< 8 ||| (if b = Blk.glb then 0xA0 else 1)

/-- BLK_CAP (R43). HAS_PARITY is 1 in every block, because every BLK_CTL has RW fields (R51). -/
def blkCapWord (b : Nat) : Nat :=
  let t := blkType b
  numInt t ||| numPairs t <<< 8 ||| (if hasStage t then 1 <<< 16 else 0) ||| 1 <<< 17

/-- The Reset values that the tables give per instance or per block: ENABLE of R43, NEG_CTL of HL32 to HL63, TB0, the
band edges and band records of R332 and CLASS of the DMA channels from 8 on. -/
def resetSpecial (b off : Nat) : Option Nat :=
  match blkType b with
  | .glb => if off = 0x234 then some 0x0007FFFF else none
  | .hlane => if 32 ≤ blkInstance b ∧ off = HLANE.NEG_CTL then some 0x37 else none
  | .time => if off = TIME.TB_CTL 0 ∨ off = TIME.TB_STAT 0 then some 1 else none
  | .therm =>
    if off = THERM.BT 0 then some 0xF60 else if off = THERM.BT 1 then some 0
    else if off = THERM.BT 2 then some 0x0A0 else if off = THERM.BT 3 then some 0x140
    else if off = THERM.BT 4 then some 0x1E0 else if off = THERM.BT 5 then some 0x2A8
    else if off = THERM.BT 6 then some 0x348
    else if THERM.BAND_CFG 0 ≤ off ∧ off ≤ THERM.BAND_CFG 7 ∧ off % 4 = 0 then
      let j := (off - THERM.BAND_CFG 0) / 4
      some (100 + (if 6 ≤ j then 1 <<< 8 else 0) + (j / 2) <<< 12)
    else none
  | .dma => if DMA.CH_STAT 8 ≤ off ∧ off ≤ DMA.CH_STAT 15 ∧ (off - DMA.CH_STAT 0) % 0x40 = 0 then some (1 <<< 16) else none
  | _ => none

/-- The Reset column of the register at `off` of block `b`; an offset that no row covers reads 0 (R8, R9, R37). -/
def resetWord (b off : Nat) : Word :=
  if off = 0x000 then BitVec.ofNat 32 (blkIdWord b)
  else if off = 0x004 then BitVec.ofNat 32 (blkCapWord b)
  else if off = 0x008 then
    (match blkType b with
     | .glb | .pwr | .clk | .aon | .pcie => 1
     | _ => 0)
  else match resetSpecial b off with
    | some v => BitVec.ofNat 32 v
    | none => match regDefOf b off with
      | some d => BitVec.ofNat 32 d.reset
      | none => 0

end Sys2Proof.Machine
end

