-- ==== Sys2Proof/Machine/SMap.lean ====
section
/-! DEFINITION. Sparse maps: plain lists of (key, value) pairs kept in one canonical form (keys strictly rising, no
entry equal to what an unlisted key reads as), so that equal contents are equal data. Register stores, memories and
tables of the device are held this way; `Host.Cell` lists are the instance at bytes. -/

namespace Sys2Proof.Machine

/-- A sparse map from numbers to `α`. -/
abbrev SMap (α : Type) := List (Nat × α)

/-- The entry at `k`, if one is listed. -/
def SMap.get? {α : Type} : SMap α → Nat → Option α
  | [], _ => none
  | (a, v) :: t, k => if a = k then some v else SMap.get? t k

/-- The value at `k`; an unlisted key reads as `d`. -/
def SMap.get {α : Type} (d : α) (m : SMap α) (k : Nat) : α := (SMap.get? m k).getD d

/-- The map with an entry `v` at `k`, in key order. -/
def SMap.set {α : Type} : SMap α → Nat → α → SMap α
  | [], k, v => [(k, v)]
  | (a, b) :: t, k, v =>
    if k < a then (k, v) :: (a, b) :: t
    else if a = k then (k, v) :: t
    else (a, b) :: SMap.set t k v

/-- The map without an entry at `k`. -/
def SMap.erase {α : Type} (m : SMap α) (k : Nat) : SMap α := m.filter fun e => e.1 != k

/-- Writes `v` at `k` where an unlisted key reads as `d`: writing `d` removes the entry. -/
def SMap.put {α : Type} [DecidableEq α] (d : α) (m : SMap α) (k : Nat) (v : α) : SMap α :=
  if v = d then SMap.erase m k else SMap.set m k v

/-- The map without the entries whose key satisfies `p`. -/
def SMap.drop {α : Type} (p : Nat → Bool) (m : SMap α) : SMap α := m.filter fun e => !p e.1

/-- The keys rise strictly. -/
abbrev SMap.sorted {α : Type} (m : SMap α) : Prop := m.Pairwise fun a b => a.1 < b.1

/-- The canonical form: rising keys, and no entry equal to what its key reads as when unlisted. -/
abbrev SMap.wf {α : Type} (d : Nat → α) (m : SMap α) : Prop := SMap.sorted m ∧ ∀ e ∈ m, e.2 ≠ d e.1

end Sys2Proof.Machine
end

