-- ==== Sys2Proof/Machine/State.lean ====
section
/-! DEFINITION. The state of the device: every register of the register tables, staged shadows, interrupt status,
memories, FIFOs, banks, engines and pins, the hidden state the chapters describe, and the queue of waiting commands.
Registers live in one sparse store keyed by `4096 * block + offset`; an unlisted register reads its Reset value. -/

namespace Sys2Proof.Machine

/-- The stops. No command raises one: every command of the table has an effect that the spec describes. -/
inductive Fault where
  /-- No meaning raises this: the spec names no command that stops the device. Safe. -/
  | stuck
deriving DecidableEq, Repr

/-- The refusals. -/
inductive Refusal where
  /-- The dispatcher answers this for a command whose meaning has not been written. Safe: the run ends. -/
  | notModelled (mnemonic : String)
deriving DecidableEq, Repr

/-- What the device sends: messages, read data and completions, newest first in `State.out` (the model's own record). -/
inductive OutMsg where
  /-- An MSI-X message of a vector, with the table's address and data (R55). -/
  | msix (vector : Nat) (addrLo addrHi data : Word)
  /-- Read data of a register access. -/
  | regData (q : Requester) (addr : Nat) (v : Word)
  /-- Read data of a BAR2 or BAR4 access. -/
  | memData (bar : Bar) (off : Nat) (data : List Byte)
  /-- A poisoned completion carrying the stored data (R31). -/
  | poisoned (bar : Bar) (off : Nat) (data : List Byte)
  /-- A Completer Abort (R31). -/
  | completerAbort (bar : Bar) (off : Nat)
  /-- An Unsupported Request (R32). -/
  | unsupported
  /-- Bytes an I2C read returned (R34). -/
  | i2cData (data : List Byte)
  /-- A pairing or twin message handed to the Foghorn transmitter (R221). -/
  | twin (typ : Nat) (cnt : Nat) (fields : List Nat)
  /-- A packet that the Foghorn transmitter starts (R256): its SEQ and the values of its header and payload up-chirps (R259), pilots excluded. -/
  | packet (seq : Nat) (symbols : List Nat)
  /-- A PMBus command with its value (R397). -/
  | pmbus (cmd : Nat) (value : Nat)
  /-- A capability page on a host lane (R185). -/
  | page (lane : Nat) (page : BitVec 64)
  /-- A training request of a host lane (R190, R194). -/
  | training (lane : Nat) (tap : Nat) (req : Nat)
  /-- The status a host lane answers to a partner's coefficient request: 0 updated, 1 maximum, 2 minimum (R190). -/
  | trainingStatus (lane : Nat) (tap : Nat) (status : Nat)
  /-- A command to the DDR4 devices: 0 refresh, 1 re-centring and ZQ calibration, 2 self-refresh entry, 3 exit (R347, R348). -/
  | ddr (cmd : Nat)
  /-- Bytes a DMA channel wrote to host memory. -/
  | hostWrite (addr : Nat) (data : List Byte)
  /-- The level of a pulse output (R284). -/
  | pulse (k : Nat) (active : Bool)
  /-- The code an HDAC channel drives (R313). -/
  | hdac (ch : Nat) (code : Nat)
deriving DecidableEq, Repr

/-- A lower word held for a wide register: the alias it was written through (R38) and the word. -/
structure HeldWord where
  alias_ : Nat
  word : Word
deriving DecidableEq, Repr

/-- The holding register of one requester (R41): the wide register it serves, and the lower words held for it. -/
structure Holding where
  /-- Key of the most significant word of the wide register. -/
  target : Nat
  /-- By register key. -/
  words : SMap HeldWord
deriving DecidableEq, Repr

/-- The I2C target's window (R34, R35). -/
structure I2cTarget where
  addr : BitVec 32 := 0
  data : BitVec 32 := 0
  sub : BitVec 4 := 0
  busy : Bool := false
  off : Bool := false
  badCmd : Bool := false
  accessErr : Bool := false
  /-- The command whose BAR0 access is under way. -/
  cmd : BitVec 8 := 0
deriving DecidableEq, Repr

/-- One sub-converter's trims (R63): the fields of `ADC_SUB_TRIM` that calibration sets. -/
structure SubTrim where
  offset : BitVec 8 := 0
  gain : BitVec 10 := 0
  skew : BitVec 8 := 0
  usable : Bool := false
deriving DecidableEq, Repr

/-- One DAC segment's trim (R105). -/
structure SegTrim where
  trim : BitVec 6 := 0
  usable : Bool := false
deriving DecidableEq, Repr

/-- The states of the inner frame lock (R125). -/
inductive InnerState where
  | idle | hunt | locked
deriving DecidableEq, Repr

/-- The states of the LPC frame lock (R132): hunting, verifying an offset (with the blocks still to pass), locked. -/
inductive LpcState where
  | hunt
  | verify (left : Nat)
  | locked
deriving DecidableEq, Repr

/-- The state of one line lane that its registers do not show directly. -/
structure LineLane where
  /-- Receive bank words, key 256 * bank + index (R74). -/
  rxBank : SMap Nat := []
  /-- Transmit bank words, key 16 * bank + index, and pre-distortion entries, key 1024 + index (R97). -/
  txStore : SMap Nat := []
  /-- Slot map: the sub-converter in each active slot (R63). -/
  slot : SMap Nat := []
  sub : SMap SubTrim := []
  /-- The running background step: its slot and the shadowing spare, none when it runs in place (R65, R67). -/
  bg : Option (Nat × Option Nat) := none
  bgNext : Nat := 0
  /-- The spare the eye monitor holds (R89). -/
  eyeSpare : Option Nat := none
  injFfe : Bool := false
  injMlse : Bool := false
  /-- Datapath cycle of the last record of each rate-limited kind (R85, R143). -/
  resLogAt : Option Nat := none
  innerLogAt : Option Nat := none
  lpcLogAt : Option Nat := none
  /-- Runs of symbols marked by the residue checkers, newest first: first symbol and length (R85). -/
  marks : List (Nat × Nat) := []
  seg : SMap SegTrim := []
  /-- Position map: the segment at each position (R105). -/
  segPos : SMap Nat := []
  /-- The running background DAC step: its position and the segment S (R107). -/
  dacBg : Option (Nat × Nat) := none
  dacNext : Nat := 0
  /-- The latched CLR cause of R117. -/
  clrLatched : Bool := false
  /-- The transmit frequency word u of R111, in 2^-26 ppm (TX_FREQ shows its top bits). -/
  u : Int := 0
  inner : InnerState := .idle
  innerOffset : Nat := 0
  innerFails : Nat := 0
  lpc : LpcState := .hunt
  lpcLow : Nat := 0
deriving DecidableEq, Repr

/-- The error causes and activity of an engine (R152, R153). -/
inductive EngRun where
  | halted | running | waiting (mask : Nat) (dest : Nat)
deriving DecidableEq, Repr

/-- The state of one lane engine (R150) and of its primitives (R157). Its microcode and data SRAM lie in the on-chip SRAM
(regions 6 and 7 of R334). -/
structure Engine where
  /-- Scalar registers s1 to s15 (s0 is hard-wired to 0). -/
  s : SMap Word := []
  /-- Vector registers, lane l in bits [16l+15:16l]. -/
  v : SMap (BitVec 256) := []
  /-- Accumulators a0 and a1, lane l in bits [40l+39:40l]. -/
  a0 : BitVec 640 := 0
  a1 : BitVec 640 := 0
  z : Bool := false
  n : Bool := false
  c : Bool := false
  vf : Bool := false
  p : Bool := false
  pc : Nat := 0
  /-- Hardware loop: passes left, first and last address of the body (R155). -/
  loop : Option (Nat × Nat × Nat) := none
  run : EngRun := .halted
  /-- Engine cycles, 32 bits (TIMER). -/
  timer : Nat := 0
  timerCmp : Word := 0
  timerHit : Bool := false
  sigChg : Bool := false
  /-- Destination of the load just issued, for the extra cycle of R154. -/
  loadDest : Option Nat := none
  /-- A bank change committed and not yet in effect (R167). -/
  swapTo : Option Nat := none
  /-- Sealing in progress: bank and length (R165). -/
  sealing : Option (Nat × Nat) := none
  /-- The last request of the power handshake and the answer given (R171). -/
  pwrPending : Bool := false
  pwrTarget : Nat := 0
  pwrAnswer : Option (Nat × Nat) := none
  /-- Responses written and not yet shown to the host (R168). -/
  rsp0 : Word := 0
  rsp1 : Word := 0
  /-- Lane a host engine addresses (R162). -/
  laneSel : Nat := 0
  /-- Settings of the supplied program: step shifts and loop gains (R170, R196). -/
  progMu : Word := 0
  progLoop : Option Word := none
  /-- Lanes the supplied host program adapts, and those frozen (R196); the preset it requests first. -/
  progAdapt : Nat := 0
  progFrozen : Nat := 0
  progPreset : Nat := 0
deriving DecidableEq, Repr

/-- Gradient accumulator and histogram state of one lane (R158, R159, R163). -/
structure Prims where
  gaWin : Nat := 0
  gaShift : Nat := 0
  gaEn : Bool := false
  gaReady : Bool := false
  gaOverrun : Bool := false
  gaSeq : Nat := 0
  /-- Windows counted in the running group of 16, and the skip count in force (R163). -/
  gaCount : Nat := 0
  gaSkip : Nat := 0
  /-- The result buffer: sums and counts by GA index. -/
  ga : SMap Int := []
  histSrc : Nat := 0
  histWin : Nat := 0
  histBusy : Bool := false
  histDone : Bool := false
  hist : SMap Nat := []
  /-- The detector value offered for the next engine cycle (R160). -/
  pdOut : Option (BitVec 16) := none
deriving DecidableEq, Repr

/-- The on-chip SRAM (R334 to R339), by BAR2 offset: stored bytes, valid and poison bits of each 32-bit word, stored bits
that upsets have inverted since each byte was written, and the sealed 1 KiB pages. -/
structure Sram where
  bytes : List Host.Cell := []
  valid : SMap Bool := []
  poison : SMap Bool := []
  flips : SMap (BitVec 13) := []
  sealed : SMap Bool := []
  /-- Pages whose sealing is in progress (R339), and how many the latest command names. -/
  sealJob : List Nat := []
  sealCount : Nat := 0
  /-- Pages that wait for their golden copy, oldest first, and whether their scheduled slot has come (R354). -/
  gold : List Nat := []
  goldDue : Bool := false
  /-- Spare rows and columns in use, by macro (R340). -/
  rep : SMap (Nat × Nat) := []
  /-- The scrubber's segment and line, and the event time, in ns, at which its lap began (R349, R350). -/
  scrubSeg : Nat := 0
  scrubLine : Nat := 0
  lapStart : Nat := 0
deriving DecidableEq, Repr

/-- A line position as records and stamps carry it (R25, R209, R211). -/
structure Pos where
  valid : Bool := false
  port : Nat := 0
  hostBound : Bool := false
  gen : Nat := 0
  cw : Nat := 0
deriving DecidableEq, Repr

/-- An entry of a lane event FIFO (R283): nanoseconds, seconds, COARSE, KIND and position. -/
structure LaneEvt where
  ns : Nat
  sec : Nat
  coarse : Bool
  kind : Nat
  pos : Pos
deriving DecidableEq, Repr

/-- The event TSU of a line lane (R283): LT_CTL, the FIFO oldest first, its OVF flag and LT_DROP. -/
structure LaneTsu where
  ctl : Word := 0x1FF
  fifo : List LaneEvt := []
  ovf : Bool := false
  drop : Nat := 0
deriving DecidableEq, Repr

/-- A stamp of a port TSU (R282). -/
structure PortStamp where
  sec : Nat
  ns : Nat
  frac : Nat
  pos : Pos
  kind : Nat
  coarse : Bool
  key : BitVec 16
deriving DecidableEq, Repr

/-- The TSU of a port (R279 to R282). -/
structure PortTsu where
  ctl : Word := 0
  fltVal : BitVec 64 := 0
  fltMask : BitVec 64 := 0
  adj : Word := 0
  gdlyTx : Nat := 0
  gdlyRx : Nat := 0
  tx : List PortStamp := []
  rx : List PortStamp := []
  txOvf : Bool := false
  rxOvf : Bool := false
  dropTx : Nat := 0
  dropRx : Nat := 0
deriving DecidableEq, Repr

/-- A page of Logbook staging (R374): its number, class, records placed, first SEQ, and whether it is sealed. -/
structure LogPage where
  page : Nat
  anch : Bool
  count : Nat
  firstSeq : Nat
  sealed : Bool
deriving DecidableEq, Repr

/-- The Logbook writer (R373 to R377). -/
structure LogState where
  pages : List LogPage := []
  /-- Tokens spent and not yet refilled, in 1/25,000,000 of a record, and the AON count of the last refill (R373). -/
  spent : Nat := 0
  spentAt : Nat := 0
  /-- Sources with suppressed records since their last record. -/
  limited : List Nat := []
  /-- The newest anchored records, newest first, at most 16 (R243). -/
  anchored : List (List Byte) := []
deriving DecidableEq, Repr

/-- The running window of an RS monitor (R215): codewords of flow 0, corrected symbols and uncorrectable codewords. -/
structure MonAcc where
  cws : Nat := 0
  syms : Nat := 0
  unc : Nat := 0
deriving DecidableEq, Repr

/-- The state of one host lane that its registers do not show directly (spec/07). -/
structure HostLane where
  /-- Receive bank words, key 32 * bank + index (R178). -/
  rxBank : SMap Nat := []
  /-- NEG_TIMER runs (R188). -/
  timer : Bool := false
  /-- CNTDN and ACK of the pages the lane sends (R185, R186). -/
  cntdn : Nat := 15
  ack : Bool := false
  /-- The page received last, bits [47:8] with CNTDN masked, and how many valid pages in a row agreed with it (R186). -/
  lastPage : Nat := 0
  agree : Nat := 0
  /-- CNTDN of the partner's latest valid page. -/
  partnerCntdn : Nat := 15
  /-- The lane is in electrical idle of a power state, or resuming from it with a burst (R192, R193). -/
  asleep : Bool := false
  /-- Frequency word of the transmitter, in 2^-26 ppm (R182). -/
  u : Int := 0
deriving DecidableEq, Repr

/-- The answer of a block in the power handshake (R171, R193, R388): a delay is in microseconds. -/
inductive PwrAnswer where
  | accept
  | delay (us : Nat)
  | refuse (reason : Nat)
deriving DecidableEq, Repr

/-- An entry of the event scheduler (R287 to R291): the words W0 to W6, the state, the last outcome and the firings of W7,
whether its trigger has passed with the fire-late attribute (R290), and whether TWIN has supplied its trigger (R289). -/
structure SchedEntry where
  w0 : Word := 0
  w1 : Word := 0
  w2 : Word := 0
  w3 : Word := 0
  w4 : Word := 0
  w5 : Word := 0
  w6 : Word := 0
  state : Nat := 0
  last : Nat := 0
  fireCnt : Nat := 0
  passed : Bool := false
  supplied : Bool := false
deriving DecidableEq, Repr

/-- A record of the scheduler's history (R292). -/
structure HistRec where
  entry : Nat
  outcome : Nat
  action : Nat
  pos : Pos
  coarse : Bool
  ns : Nat
  sec : Nat
deriving DecidableEq, Repr

/-- The event scheduler: the table and the history FIFO, oldest first. -/
structure SchedState where
  entries : SMap SchedEntry := []
  hist : List HistRec := []
deriving DecidableEq, Repr

/-- A capture of an input (R286). -/
structure Capture where
  sec : Nat
  ns : Nat
  frac : Nat
deriving DecidableEq, Repr

/-- A message the TWIN block has given to the Foghorn transmitter: type, counter (0 for HAIL and ANSWER) and fields. -/
structure TwinMsg where
  typ : Nat
  cnt : Nat
  fields : List Nat
deriving DecidableEq, Repr

/-- A received packet in the receive ring (R265). -/
structure FogPacket where
  seq : Nat
  len : Nat
  cr : Nat
  path : Nat
  pinNs : Nat
  pinS : Nat
  bndNs : Nat
  bndS : Nat
  snr : BitVec 16
  power : BitVec 16
  payload : List Byte
deriving DecidableEq, Repr

/-- The Foghorn transmitter and receiver (R256 to R268). -/
structure FogState where
  /-- Bytes of the transmit buffers, key 1024 * buffer + byte. -/
  txBuf : SMap Byte := []
  /-- Length of each queued buffer. -/
  txLen : SMap Nat := []
  /-- The buffer being sent. -/
  sending : Option Nat := none
  /-- Twin messages waiting for buffer 0, oldest first; the first is the one BUSY bit 0 stands for. -/
  twinQ : List TwinMsg := []
  /-- Metric and power of the reception in progress (R262, R264). -/
  metric : Nat := 0
  power : BitVec 16 := 0
  /-- The header of the reception in progress: SEQ, LEN, CR, and its time-stamps. -/
  hdr : Nat := 0
  pinNs : Nat := 0
  pinS : Nat := 0
  bndNs : Nat := 0
  bndS : Nat := 0
  /-- The receive ring, oldest first. -/
  ring : List FogPacket := []
deriving DecidableEq, Repr

/-- A position relation (R230). -/
structure TwinRel where
  valid : Bool := false
  localGen : Nat := 0
  twinGen : Nat := 0
  delta : Int := 0
  twinPort : Nat := 0
  resid : Int := 0
deriving DecidableEq, Repr

/-- An entry of the health table (R243). -/
structure HealthEntry where
  seq : Word := 0
  typ : BitVec 16 := 0
  time : Word := 0
  digest : BitVec 64 := 0
deriving DecidableEq, Repr

/-- The state of the TWIN block that its registers do not show directly (R221 to R242). -/
structure TwinState where
  /-- The session keys are derived. -/
  keys : Bool := false
  txCnt : Nat := 0
  rxCnt : Nat := 0
  /-- RELEASE messages sent in RELEASING. -/
  released : Nat := 0
  /-- Position relations, key 2 * port + direction (1 inbound). -/
  rel : SMap TwinRel := []
  /-- Entries of the handshake that wait for POS_ACK: port and generation, and whether one has failed. -/
  posWait : List (Nat × Nat) := []
  posBad : Bool := false
  /-- A position handshake waits for a range (R229). -/
  posWantsRange : Bool := false
  /-- The open transaction (R232): entry, tag, action, port, N or the converted point, and version. -/
  coordSe : Nat := 0
  coordTag : Nat := 0
  coordAction : Nat := 0
  coordPort : Nat := 0
  coordPoint : Nat := 0
  coordVer : Word := 0
  /-- What this end did at the point, until the next heartbeat shows what the twin did (R233). -/
  coordDid : Option Bool := none
  /-- FORCE has been written in the sparing operation (R241). -/
  force : Bool := false
  /-- The lane was assigned to LL16 by ASSIGN (R240). -/
  assigned : Bool := false
  /-- The lane that emergency sparing is training. -/
  emerg : Option Nat := none
  /-- SPARE_RSV of the twin, from its heartbeats (R226). -/
  twinRsv : Nat := 0
  health : SMap HealthEntry := []
  /-- Keeper bank 15 holds a pairing record while PD_FOG is off, and the twin's identity in it (R220). -/
  record : Bool := false
  peer : List Word := []
deriving DecidableEq, Repr

/-- A time base as PD_AON latches it at entry to PS3 or deeper (R276): value, frequency word and EN. -/
structure TbLatch where
  val : Nat
  lo : Word
  hi : Word
  en : Bool
deriving DecidableEq, Repr

/-- The PMBus controller (R396 to R398): why the request under way was made (0 band or trim, 1 entry, 2 exit), its target in
mV, the voltage before it, a waiting request (target and reason), VOUT_MODE as read at enable, whether the request turns
the rail off, and the target last sent or in force. -/
structure PmbCtl where
  kind : Nat := 0
  mv : Nat := 0
  prev : Nat := 0
  next : Option (Nat × Nat) := none
  vmode : Byte := 0
  off : Bool := false
  sent : Option Nat := none
deriving DecidableEq, Repr

/-- The power controller's progress (R384 to R395). -/
structure PwrCtl where
  /-- The target of an entry under way; 0 none. -/
  target : Nat := 0
  /-- A domain request in progress: the domain, and whether it goes up. -/
  dom : Option (Nat × Bool) := none
  /-- The step of R388 last passed: 1 while the handshake runs, 2 at AP1. -/
  step : Nat := 0
  /-- Blocks asked, those whose answer is awaited, and those that answered DELAY. -/
  asked : List Nat := []
  waiting : List Nat := []
  delaying : List Nat := []
  /-- Domains the request includes. -/
  doms : BitVec 24 := 0
  /-- A wake is decided and not yet acted on; the sources seen in PS0 and the AON count then (R390). -/
  wake : Bool := false
  seen : Nat := 0
  seenAt : Nat := 0
  /-- The step of R395 last passed in an exit; 0 none, and the state exited from. -/
  exitStep : Nat := 0
  from_ : Nat := 0
  /-- Lanes are in electrical idle or squelched, and the datapath and engine clocks are stopped (step 3 of R388). -/
  idle : Bool := false
  clkOff : Bool := false
  /-- AON count at the start of the operation under way. -/
  startAon : Nat := 0
  /-- Domains the power state has switched off, and the retention masks in force. -/
  down : BitVec 24 := 0
  retKpr : Nat := 0
  retCoef : Nat := 0
  /-- The latch of R276: AON count, AON_TOL and the time bases. -/
  a0 : Nat := 0
  tol : Word := 0
  tbs : List TbLatch := []
  /-- The AON compare of R294. -/
  wakeCmp : Option Nat := none
  /-- Coefficient banks that hold a save (R391), whose bytes the spec does not lay out. -/
  saved : Nat := 0
  /-- TRAFFIC_POSSIBLE as last evaluated (R22, R430). -/
  possible : Bool := false
  /-- Domains that BIST excludes from power-up (R22, R430). -/
  excluded : BitVec 24 := 0
  /-- PD_TIME has powered down outside a power state since it was last up (R295). -/
  timeLost : Bool := false
  pmb : PmbCtl := {}
deriving DecidableEq, Repr

/-- A result in the FIFO of a housekeeping core: the words W0 to W3 of R312. -/
structure HkRes where
  w0 : Word
  w1 : Word
  w2 : Word
  w3 : Word
deriving DecidableEq, Repr

/-- A housekeeping core (R302 to R312). -/
structure HkCore where
  /-- VALID results delivered in this visit, and SETTLING outputs still to come. -/
  good : Nat := 0
  settle : Nat := 0
  /-- The settings of the running chain: the slot word without COUNT; none when the chain is not running. -/
  chain : Option Word := none
  /-- Factors and residuals by gain (R305): offset, gain, residual. -/
  offset : SMap (BitVec 16) := []
  gain : SMap (BitVec 16) := []
  res : SMap (BitVec 16) := []
  fifo : List HkRes := []
deriving DecidableEq, Repr

/-- An HDAC channel (R314 to R317): a stream has been resumed. -/
structure HdacCh where
  stream : Bool := false
deriving DecidableEq, Repr

/-- The thermal block's progress (R324 to R331). Temperatures are in 1/8 °C. -/
structure ThermState where
  /-- The mask in force for the running measurement. -/
  mask : Nat := 0
  /-- Maxima of the latest measurements, newest first, at most 8. -/
  maxima : List Int := []
  /-- The candidate being counted and its count. -/
  cand : Option (Nat × Nat) := none
  /-- Measurements below 115 °C toward the end of the critical state. -/
  cool : Nat := 0
  /-- TMAX was at or above the alarm threshold. -/
  above : Bool := false
  /-- Latest readings after substitution, and whether each sensor was in fault. -/
  reading : SMap Int := []
  fault : SMap Bool := []
deriving DecidableEq, Repr

/-- The DDR4 channel (R341 to R350), by BAR4 offset. A byte of a valid page that is not listed reads 0. -/
structure DdrState where
  /-- INIT has started training. -/
  training : Bool := false
  bytes : List Host.Cell := []
  /-- The page-valid bitmap. -/
  pv : SMap Bool := []
  /-- Inverted bits of stored bytes, parity bit at 8, since each byte was written. -/
  flips : SMap (BitVec 9) := []
  /-- Poisoned 64-byte granules. -/
  poison : SMap Bool := []
  sealed : SMap Bool := []
  /-- Seal counts of the trailers (R344). -/
  seals : SMap Nat := []
  /-- The scrubber's page and burst, and the event time at which its lap began. -/
  scrubPage : Nat := 0
  scrubBurst : Nat := 0
  lapStart : Nat := 0
deriving DecidableEq, Repr

/-- A DMA descriptor's first 24 bytes (R359). -/
structure DmaDesc where
  src : Nat
  dst : Nat
  len : Nat
  ctl : Nat
deriving DecidableEq, Repr

/-- A DMA channel (R359 to R366): the descriptor in progress and the bytes of it moved, the CRC register before its final
inversion, and the reasons to stop at the next boundary. -/
structure DmaCh where
  cur : Option DmaDesc := none
  moved : Nat := 0
  crc : BitVec 32 := 0xFFFFFFFF
  stop : Bool := false
  late : Bool := false
  pwrStop : Bool := false
deriving DecidableEq, Repr

/-- The block the payload tap is filling (R367): header figures, outcomes and codewords so far. -/
structure TapBlock where
  port : Nat
  hostBound : Bool
  failed : Bool
  gap : Bool
  pos : Pos
  coarse : Bool
  ns : Nat
  sec : Nat
  outcomes : List Nat
  words : List (List Byte)
deriving DecidableEq, Repr

/-- The payload tap (R367, R368): the ring's unmoved blocks as BAR2 offset and size, oldest first, the write offset, whether
codewords were lost before the next block, and the second and count of the FAILED-mode limit. -/
structure TapState where
  block : Option TapBlock := none
  ring : List (Nat × Nat) := []
  wr : Nat := 0
  gap : Bool := false
  failSec : Nat := 0
  failCnt : Nat := 0
deriving DecidableEq, Repr

/-- The fuses (R403, R404, R409): lifecycle code, root hash words, device identity words and the anti-rollback count. -/
structure Fuses where
  lifecycle : Nat := 0
  rootHash : SMap Word := []
  devId : SMap Word := []
  arb : Nat := 0
  /-- The transition being programmed. -/
  target : Option Nat := none
deriving DecidableEq, Repr

/-- The debug unlock (R415 to R417): the token words, whether the nonce in CHAL is unspent, the token under check with
whether its nonce agreed, and the AON count at which the unlock expires. -/
structure DbgState where
  token : SMap Word := []
  fresh : Bool := false
  check : Option (SMap Word × Bool) := none
  until_ : Option Nat := none
deriving DecidableEq, Repr

/-- The directory of the image store (R410): ACT_CFG and PREV_CFG (255 none) and CONFIRMED. -/
structure FlashDir where
  act : Nat := 255
  prev : Nat := 255
  confirmed : Bool := true
deriving DecidableEq, Repr

/-- The configuration versions (R419 to R421). -/
structure CfgvState where
  /-- The image being applied, its slot and its entry. -/
  img : Option CfgImage := none
  slot : Nat := 255
  se : Nat := 0
  /-- The blocks the apply has staged. -/
  staged : List Nat := []
  /-- The apply is a rollback, and its coordinated attempt: 0 none, 1 open. -/
  rollback : Bool := false
  coord : Nat := 0
  /-- A rollback is being read and checked; its shadows are armed; a restart of the Keeper interrupted the staging. -/
  checking : Bool := false
  armed : Bool := false
  broken : Bool := false
  /-- Confirm timer, in AON edges left. -/
  ticks : Nat := 0
  active : Option CfgImage := none
  previous : Option CfgImage := none
deriving DecidableEq, Repr

/-- Built-in self-test (R425 to R433): the domains under test and those of the run, the detail and signature words of each
domain, the line lane under test, and a DOM_REQ that waits for the run. -/
structure BistState where
  run : BitVec 24 := 0
  selected : BitVec 24 := 0
  detail : SMap Word := []
  sig : SMap Word := []
  lane : Option Nat := none
  waiting : Option Word := none
deriving DecidableEq, Repr

/-- The state of the device. -/
structure State where
  /-- Commands that are waiting, first in first out. -/
  pending : List Instr := []
  /-- Active register words, key 4096 * block + offset; unlisted keys read the Reset value. -/
  regs : SMap Word := []
  /-- Shadows of RWS registers, listed while STAGE = 1 (R45); an unlisted shadow follows its active value. -/
  shadows : SMap Word := []
  /-- Last consistent values of the registers of an inconsistent pair (R50). -/
  used : SMap Word := []
  /-- Latched counters shown while LIVE = 0 (R142), by register key. -/
  latched : SMap Word := []
  /-- Pairs that their block has found inconsistent, 256 * block + pair number (R50). -/
  pairBad : List Nat := []
  /-- INT_STAT and INT_EN by block. -/
  ints : SMap Word := []
  intEn : SMap Word := []
  /-- Registers, and shadows (key + 2^20), whose stored parity does not agree with their contents, and those already
  reported (R51, R52). -/
  parBad : List Nat := []
  parSeen : List Nat := []
  /-- The copy of the INTN_MASK bits of PWR, AON and THERM in PD_AON (R56). -/
  intnCopy : Word := 0xFFFFFFFF
  hold : SMap Holding := []
  i2c : I2cTarget := {}
  /-- MSI-X table words, key 4 * vector + word (R36), and the pending-bit array. -/
  msix : SMap Word := []
  pba : BitVec 256 := 0
  /-- MSI-X enable, bus mastering and D3hot of the function (R385). -/
  msixEn : Bool := false
  busMaster : Bool := false
  d3hot : Bool := false
  /-- PORST_N, or the internal detector, holds the device in reset (R444); power-on BIST holds it (R22, R428). -/
  inReset : Bool := false
  held : Bool := false
  /-- PCIE_PERST_N is low (R445). -/
  perst : Bool := false
  /-- Domains that are powered and ready, and those part way through a change (R13, R15). -/
  domOn : BitVec 24 := 0x80001F
  domBusy : BitVec 24 := 0
  /-- The fuse FLOOR_HK (R21) and the fuse marks FUSE_OFF of sub-converters and segments, key 256 * lane + number. -/
  fuseFloorHk : Bool := false
  fuseSub : SMap Bool := []
  fuseSeg : SMap Bool := []
  /-- The AON count at which REFCLK was lost, and whether it has been back within its limits for 10 ms (R19, R277). -/
  refAt : Nat := 0
  refBack : Bool := false
  /-- The size of BAR4 in GiB (R30). -/
  bar4Gib : Nat := 16
  /-- DAC_CLR_N is high (R117). -/
  clrPin : Bool := true
  /-- Datapath cycles counted, in 1/1024 of a cycle (R57: 881.958 MHz). -/
  dpTicks : Nat := 0
  /-- Values of the time bases, in 2^-48 ns (R270). -/
  tb : SMap Nat := []
  /-- Line lane records LL0 to LL16. -/
  line : SMap LineLane := []
  /-- Host lane records HL0 to HL63. -/
  host : SMap HostLane := []
  engines : SMap Engine := []
  /-- Primitive state by lane: LL0 to LL16 at 0 to 16, HL0 to HL63 at 32 to 95. -/
  prims : SMap Prims := []
  sram : Sram := {}
  /-- Time-stamp units by port and by line lane (R279 to R283). -/
  portTsu : SMap PortTsu := []
  laneTsu : SMap LaneTsu := []
  /-- Captures of the inputs TPI0 and TPI1, oldest first (R286). -/
  tpi : SMap (List Capture) := []
  /-- Steps that wait for their tick or edge, by time base: STEP_MODE and the step value in ns, signed (R272). -/
  tbStep : SMap (Nat × Int) := []
  /-- One-shot outputs that have issued their pulse since the commit that set MODE (R284). -/
  tpoIssued : SMap Bool := []
  sched : SchedState := {}
  fog : FogState := {}
  twin : TwinState := {}
  hk : SMap HkCore := []
  hdac : SMap HdacCh := []
  /-- FIR coefficients (R308), key 128 * core + 64 * bank + tap; c0 reads 0x4000 when unlisted. -/
  fcoef : SMap (BitVec 16) := []
  ddr : DdrState := {}
  therm : ThermState := {}
  pwr : PwrCtl := {}
  dma : SMap DmaCh := []
  tap : TapState := {}
  log : LogState := {}
  fuse : Fuses := {}
  flash : FlashDir := {}
  dbg : DbgState := {}
  cfgv : CfgvState := {}
  bist : BistState := {}
  /-- The next position of the sweep checker, and the AON count at which its lap began (R51). -/
  sweepAt : Nat := 0
  sweepLap : Nat := 0
  /-- RS monitor windows, key 2 * port + direction (1 host-bound). -/
  portMon : SMap MonAcc := []
  /-- How many free values have been drawn (the model's own counter). -/
  free : Nat := 0
  /-- What the device sent, newest first (the model's own record). -/
  out : List OutMsg := []
deriving DecidableEq, Repr

/-- The device right after reset: every register at its Reset value, PD_AON, PD_CLK, PD_FAB, PD_KPR, PD_PCIE and PD_TEST
powered (R13), memory with nothing listed, no command waiting. -/
def State.reset : State := {}

end Sys2Proof.Machine
end

