-- ==== Sys2Proof/Machine/Ops.lean ====
section
/-! DEFINITION. The named operations every meaning is written with: register fields, domains, interrupts and MSI-X
messages, event time, performance counters, free values, counters that wrap. -/

namespace Sys2Proof.Machine

/-! ### Fields and registers -/

/-- The bits of the field inside its register. -/
def Fld.mask (f : Fld) : Word := BitVec.ofNat 32 ((2 ^ f.w - 1) <<< f.lo)

/-- The value of the field in a register word. -/
def Fld.get (f : Fld) (w : Word) : Nat := bitsOf w.toNat f.lo f.w

/-- The register word with the field set to `v` (its low bits). -/
def Fld.put (f : Fld) (w : Word) (v : Nat) : Word :=
  (w &&& ~~~f.mask) ||| BitVec.ofNat 32 ((v % 2 ^ f.w) <<< f.lo)

/-- The key of a register in the register store. -/
def regKey (b off : Nat) : Nat := 4096 * b + off

namespace State

/-- The active word of the register at `off` of block `b`. -/
def reg (s : State) (b off : Nat) : Word := SMap.get (resetWord b off) s.regs (regKey b off)

/-- Sets the active word of a register. -/
def setReg (s : State) (b off : Nat) (w : Word) : State :=
  { s with regs := SMap.put (resetWord b off) s.regs (regKey b off) w }

/-- The active value of a field. -/
def f (s : State) (b : Nat) (fl : Fld) : Nat := fl.get (s.reg b fl.off)

/-- The active value of a field, as a Boolean: not 0. -/
def fb (s : State) (b : Nat) (fl : Fld) : Bool := s.f b fl != 0

/-- Sets the active value of a field. -/
def setF (s : State) (b : Nat) (fl : Fld) (v : Nat) : State := s.setReg b fl.off (fl.put (s.reg b fl.off) v)

/-- Sets a one-bit field from a Boolean. -/
def setB (s : State) (b : Nat) (fl : Fld) (v : Bool) : State := s.setF b fl v.toNat

/-- The consistent word the block uses for a register that belongs to a pair (R50). -/
def usedReg (s : State) (b off : Nat) : Word := (SMap.get? s.used (regKey b off)).getD (s.reg b off)

/-- A field as the block uses it: from the last consistent pair (R50). -/
def uf (s : State) (b : Nat) (fl : Fld) : Nat := fl.get (s.usedReg b fl.off)

/-! ### Domains -/

/-- Domain `d` is powered and ready. -/
def domReady (s : State) (d : Nat) : Bool := s.domOn.getLsbD d && !s.domBusy.getLsbD d

/-- Block `b` answers register accesses (R15). -/
def blkOn (s : State) (b : Nat) : Bool := s.domReady (blkDomain b)

/-! ### Free values -/

/-- Draws a value the spec leaves open. -/
def draw (s : State) (w : Nat) : BitVec w × State := (Config.freeValue w s.free, { s with free := s.free + 1 })

/-- Chooses one element of a list where the spec names no order. -/
def choose {α : Type} (s : State) (l : List α) : Option α × State :=
  (l[Config.freeChoice s.free % l.length]?, { s with free := s.free + 1 })

/-- Records what the device sends. -/
def send (s : State) (m : OutMsg) : State := { s with out := m :: s.out }

/-! ### Time (R25, R44, R270) -/

end State

/-- 2^48 units of 2^-48 ns make a nanosecond. -/
def nsUnit : Nat := 2 ^ 48

/-- A time-base value split into seconds, nanoseconds and the 16 visible fraction bits (R270). -/
structure TimeVal where
  sec : Nat
  ns : Nat
  frac : Nat
deriving DecidableEq, Repr

/-- The value of an accumulator in 2^-48 ns (R270). -/
def timeVal (t : Nat) : TimeVal :=
  { sec := t / (nsUnit * 1000000000) % 2 ^ 48
    ns := t / nsUnit % 1000000000
    frac := t % nsUnit / 2 ^ 32 }

namespace State

/-- The accumulator of time base `n`, in 2^-48 ns. -/
def tbAcc (s : State) (n : Nat) : Nat := SMap.get 0 s.tb n

/-- Sets a time base; seconds wrap at 2^48. -/
def setTb (s : State) (n v : Nat) : State :=
  { s with tb := SMap.put 0 s.tb n (v % (nsUnit * 1000000000 * 2 ^ 48)) }

/-- The event time base selected by `TIME.EVT_TB` (R25, R275). -/
def evtTb (s : State) : Nat := s.f Blk.time TIME.EVT_TB_TB

/-- PD_TIME is on, so events carry a time (R25, R44). -/
def timeOn (s : State) : Bool := s.domReady Dom.time

/-- The event time; 0 while PD_TIME is off (R371). -/
def evtTime (s : State) : TimeVal := if s.timeOn then timeVal (s.tbAcc s.evtTb) else ⟨0, 0, 0⟩

/-- The event time base is COARSE (R273). -/
def evtCoarse (s : State) : Bool := s.timeOn && s.fb Blk.time (TIME.TB_STAT_COARSE s.evtTb)

/-- The AON counter (R274). -/
def aonCnt (s : State) : Nat := (s.reg Blk.aon AON.AON_CNT_LO).toNat + (s.reg Blk.aon AON.AON_CNT_HI).toNat * 2 ^ 32

/-- Sets the 64-bit AON counter. -/
def setAonCnt (s : State) (v : Nat) : State :=
  (s.setReg Blk.aon AON.AON_CNT_LO (BitVec.ofNat 32 v)).setReg Blk.aon AON.AON_CNT_HI (BitVec.ofNat 32 (v / 2 ^ 32))

/-- Datapath cycles since reset. -/
def dpCycle (s : State) : Nat := s.dpTicks / 1024

/-! ### Interrupt status (R43, R44, R53) -/

/-- INT_STAT of a block. -/
def intStat (s : State) (b : Nat) : Word := SMap.get 0 s.ints b

/-- Sets INT_STAT of a block. -/
def setIntStat (s : State) (b : Nat) (w : Word) : State := { s with ints := SMap.put 0 s.ints b w }

/-- INT_EN of a block. -/
def intEnable (s : State) (b : Nat) : Word := SMap.get 0 s.intEn b

/-- Records the event time in the block's EVT_TIME pair while PD_TIME is on (R44). -/
def stampEvt (s : State) (b : Nat) : State :=
  if s.timeOn then
    (s.setReg b HDR.EVT_TIME_LO (BitVec.ofNat 32 s.evtTime.ns)).setReg b HDR.EVT_TIME_HI
      (BitVec.ofNat 32 s.evtTime.sec)
  else s

/-- An event sets the INT_STAT bits of `m`, whether or not INT_EN enables them; a 0 to 1 change stamps EVT_TIME. -/
def raiseMask (s : State) (b : Nat) (m : Word) : State :=
  if s.intStat b ||| m = s.intStat b then s
  else (s.setIntStat b (s.intStat b ||| m)).stampEvt b

/-- An event sets INT_STAT bit `i` of block `b` (R53). -/
def raise (s : State) (b i : Nat) : State := s.raiseMask b (BitVec.twoPow 32 i)

/-- Sets a one-bit status flag and raises its interrupt source. -/
def flag (s : State) (b : Nat) (fl : Fld) (i : Nat) : State := (s.setF b fl 1).raise b i

/-! ### Performance counters (R435 to R438) -/

/-- Adds `n` events of a class and instance to every counter that selects it and runs. -/
def perf (s : State) (cls inst n : Nat) : State :=
  if !s.fb Blk.perf PERF.CTL_GLOBAL_EN || !s.domReady Dom.fab then s
  else (List.range 64).foldl (fun s i =>
    if s.fb Blk.perf (PERF.PC_CTL_EN i) && s.f Blk.perf (PERF.PC_CTL_EVT i) == 64 * cls + inst then
      let t := (s.reg Blk.perf (PERF.PC_LO i)).toNat + (s.reg Blk.perf (PERF.PC_HI i)).toNat * 2 ^ 32 + n
      let s := (s.setReg Blk.perf (PERF.PC_LO i) (BitVec.ofNat 32 t)).setReg Blk.perf (PERF.PC_HI i)
        (BitVec.ofNat 32 (t / 2 ^ 32 % 2 ^ 16))
      if 2 ^ 48 ≤ t then
        (s.setReg Blk.perf (PERF.WRAP (i / 32)) (s.reg Blk.perf (PERF.WRAP (i / 32)) ||| BitVec.twoPow 32 (i % 32))).raise
          Blk.perf 4
      else s
    else s) s

/-- `n` PCIe TLPs received (0) or sent (1). -/
def tlp (s : State) (dir n : Nat) : State := s.perf 11 dir n

/-- PCIe TLPs of a transfer whose number the spec does not give. -/
def tlps (s : State) (dir : Nat) : State :=
  let d := s.draw 8
  d.2.tlp dir d.1.toNat

/-! ### The GLB level, vectors and messages (R53 to R56) -/

/-- Block `b` contributes 1 to the GLB level. -/
def contributes (s : State) (b : Nat) : Bool :=
  s.domOn.getLsbD (blkDomain b) && (s.intStat b &&& s.intEnable b) != 0

/-- The vector of block `b` in `GLB.MSIX_MAP`. -/
def vectorOf (s : State) (b : Nat) : Nat := bitsOf (s.reg Blk.glb (GLB.MSIX_MAP (b / 4))).toNat (8 * (b % 4)) 8

/-- The blocks that contribute, in index order. -/
def contributors (s : State) : List Nat := (s.ints.map (·.1)).filter s.contributes

/-- The input of vector `v`: the OR of the contributions mapped to it (R55). -/
def vectorInput (s : State) (v : Nat) : Bool := s.contributors.any fun b => s.vectorOf b == v

/-- A word of the MSI-X table; every vector resets masked (R36). -/
def msixWord (s : State) (v w : Nat) : Word := SMap.get (if w = 3 then 1 else 0) s.msix (4 * v + w)

/-- Vector `v` is masked in the MSI-X table. -/
def msixMasked (s : State) (v : Nat) : Bool := (s.msixWord v 3).getLsbD 0

/-- The link is in data-link-active state. -/
def linkUp (s : State) : Bool := s.fb Blk.pcie PCIE.LINK_STAT_DL_ACTIVE

/-- Vector `v` sends its message, or pends it while masked or while the link is down; nothing happens while PD_PCIE is off
or MSI-X is disabled (R55). -/
def sendVector (s : State) (v : Nat) : State :=
  if !s.domReady Dom.pcie || !s.msixEn then s
  else if s.msixMasked v || !s.linkUp then { s with pba := s.pba ||| BitVec.twoPow 256 v }
  else (s.send (.msix v (s.msixWord v 0) (s.msixWord v 1) (s.msixWord v 2))).tlp 1 1

/-- Messages of the vectors whose input rose from `old` to `s` (R55). -/
def sendEdges (old s : State) : State :=
  ((s.contributors.map s.vectorOf).eraseDups.filter fun v => !old.vectorInput v).foldl sendVector s

/-- INT_N is asserted (R56): from `GLB.INTN_MASK` while PD_FAB is up, else from the copy in PD_AON. -/
def intN (s : State) : Bool :=
  s.contributors.any fun b =>
    if s.domReady Dom.fab then (s.reg Blk.glb (GLB.INTN_MASK (b / 32))).getLsbD (b % 32)
    else (b = Blk.pwr ∨ b = Blk.aon ∨ b = Blk.therm) && s.intnCopy.getLsbD b

/-! ### Counters -/

/-- Adds `n` to a 32-bit counter that wraps silently; answers whether it wrapped (R142). -/
def count32 (s : State) (b off n : Nat) : State × Bool :=
  let t := (s.reg b off).toNat + n
  (s.setReg b off (BitVec.ofNat 32 t), decide (2 ^ 32 ≤ t))

/-- Adds `n` to a 48-bit counter held in a low and a high register; answers whether it wrapped (R142). -/
def count48 (s : State) (b lo hi n : Nat) : State × Bool :=
  let t := (s.reg b lo).toNat + (s.reg b hi).toNat * 2 ^ 32 + n
  ((s.setReg b lo (BitVec.ofNat 32 t)).setReg b hi (BitVec.ofNat 32 (t / 2 ^ 32 % 2 ^ 16)), decide (2 ^ 48 ≤ t))

/-- Adds `n` to a field that saturates. -/
def countSat (s : State) (b : Nat) (fl : Fld) (n : Nat) : State := s.setF b fl (min (2 ^ fl.w - 1) (s.f b fl + n))

/-- Adds `n` to a 32-bit counter that saturates. -/
def satReg (s : State) (b off n : Nat) : State :=
  s.setReg b off (BitVec.ofNat 32 (min (2 ^ 32 - 1) ((s.reg b off).toNat + n)))

/-- A 32-bit counter with its wrap flag and interrupt source. -/
def countFlag32 (s : State) (b off n : Nat) (wrap : Fld) (int : Nat) : State :=
  let r := s.count32 b off n
  if r.2 then r.1.flag b wrap int else r.1

/-- A 48-bit counter with its wrap flag and interrupt source. -/
def countFlag48 (s : State) (b lo hi n : Nat) (wrap : Fld) (int : Nat) : State :=
  let r := s.count48 b lo hi n
  if r.2 then r.1.flag b wrap int else r.1

/-! ### Units -/

/-- The record of line lane `n`. -/
def lane (s : State) (n : Nat) : LineLane := SMap.get {} s.line n

/-- Sets the record of line lane `n`. -/
def setLane (s : State) (n : Nat) (l : LineLane) : State := { s with line := SMap.put {} s.line n l }

/-- The record of host lane `m`. -/
def hlane (s : State) (m : Nat) : HostLane := SMap.get {} s.host m

/-- Sets the record of host lane `m`. -/
def setHlane (s : State) (m : Nat) (h : HostLane) : State := { s with host := SMap.put {} s.host m h }

/-- Changes the record of host lane `m`. -/
def modHlane (s : State) (m : Nat) (g : HostLane → HostLane) : State := s.setHlane m (g (s.hlane m))

/-- The record of engine `e`. -/
def eng (s : State) (e : Nat) : Engine := SMap.get {} s.engines e

/-- Sets the record of engine `e`. -/
def setEng (s : State) (e : Nat) (g : Engine) : State := { s with engines := SMap.put {} s.engines e g }

/-- The primitive state of a lane: LL n at n, HL m at 32 + m. -/
def prim (s : State) (k : Nat) : Prims := SMap.get {} s.prims k

/-- Sets the primitive state of a lane. -/
def setPrim (s : State) (k : Nat) (p : Prims) : State := { s with prims := SMap.put {} s.prims k p }

/-- Returns a block's registers, shadows, interrupt bits and latched counters to their Reset values. -/
def clearBlk (s : State) (b : Nat) : State :=
  { s with
    regs := SMap.drop (fun k => k / 4096 == b) s.regs
    shadows := SMap.drop (fun k => k / 4096 == b) s.shadows
    used := SMap.drop (fun k => k / 4096 == b) s.used
    latched := SMap.drop (fun k => k / 4096 == b) s.latched
    pairBad := s.pairBad.filter fun k => k / 256 != b
    ints := SMap.erase s.ints b
    intEn := SMap.erase s.intEn b
    parBad := s.parBad.filter fun k => k % 2 ^ 20 / 4096 != b
    parSeen := s.parSeen.filter fun k => k % 2 ^ 20 / 4096 != b }

/-- The state after the messages of a command: the vectors whose input rose send them. Counting a message can itself raise
an input, so the edges are looked at again. -/
def sent (old s : State) : State := sendEdges s (sendEdges old s)

end State

/-- The outcome of a command: its messages are sent, and the machine goes on. -/
def finish (old s : State) : Host.Outcome State Fault Refusal := .next (State.sent old s)

end Sys2Proof.Machine
end

