-- ==== Sys2Proof/Machine/Services.lean ====
section
/-! DEFINITION. Services that every family uses: line positions (R209 to R212), the lane event FIFOs (R283), raw access to
the on-chip SRAM (R334 to R339, R351, R353) and the Logbook writer (R371 to R377). -/

namespace Sys2Proof.Machine
namespace State

/-! ### Ports, slots and line positions -/

/-- The number of line lanes of a port type (R200). -/
def portLanes (typ : Nat) : Nat := if typ = 4 then 2 else if typ = 5 then 4 else if 1 ≤ typ ∧ typ ≤ 3 then 1 else 0

/-- Port `p` is enabled. -/
def portEnabled (s : State) (p : Nat) : Bool := s.fb (Blk.port p) HDR.BLK_CTL_ENABLE

/-- The logical line lanes of port `p`, from the placement in use. -/
def portLineLanes (s : State) (p : Nat) : List Nat :=
  (List.range (portLanes (s.uf (Blk.port p) PORT.PORT_CFG_TYPE))).map fun i =>
    bitsOf (s.usedReg (Blk.port p) PORT.LINE_MAP).toNat (8 * i) 5

/-- Port `p` claims slot `sl` of logical line lane `l`. -/
def portClaims (s : State) (p l sl : Nat) : Bool :=
  s.portEnabled p && (s.portLineLanes p).contains l && (s.uf (Blk.port p) PORT.PORT_CFG_SLOTS).testBit sl

/-- The enabled port that owns slot `sl` of logical lane `l`. -/
def slotOwner (s : State) (l sl : Nat) : Option Nat := (List.range 64).find? fun p => s.portClaims p l sl

/-- LL16 substitutes for a working lane in the receive direction (R236, R238). -/
def substituted (s : State) : Option Nat :=
  if s.fb Blk.twin TWIN.SPARE_STAT_SUBST then some (s.f Blk.twin TWIN.SPARE_STAT_LANE) else none

/-- The logical lane whose traffic physical lane `n` carries (R200). -/
def logicalLane (s : State) (n : Nat) : Option Nat :=
  if n = 16 then s.substituted else if s.substituted = some n then none else some n

/-- The port that owns the lowest-numbered slot in use on physical lane `n` (R212). -/
def lanePort (s : State) (n : Nat) : Option Nat :=
  (s.logicalLane n).bind fun l => (List.range 4).findSome? fun sl => s.slotOwner l sl

/-- The line position of port `p` in one direction (R209, R211). -/
def portPos (s : State) (p : Nat) (hostBound : Bool) : Pos :=
  let b := Blk.port p
  if hostBound then
    { valid := s.fb b PORT.ALIGN_STAT_RX_VALID, port := p, hostBound := true, gen := s.f b PORT.LPOS_GEN_RX_GEN
      cw := (s.reg b PORT.LPOS_RX_LO).toNat + (s.reg b PORT.LPOS_RX_HI).toNat * 2 ^ 32 }
  else
    { valid := s.fb b PORT.ALIGN_STAT_TX_VALID, port := p, hostBound := false, gen := s.f b PORT.LPOS_GEN_TX_GEN
      cw := (s.reg b PORT.LPOS_TX_LO).toNat + (s.reg b PORT.LPOS_TX_HI).toNat * 2 ^ 32 }

/-- The line position of an event on line lane `n`: host-bound for receive events (R212). -/
def lanePos (s : State) (n : Nat) (hostBound : Bool) : Pos :=
  match s.lanePort n with
  | some p => s.portPos p hostBound
  | none => {}

/-! ### Lane event TSUs (R283) -/

/-- The event TSU of line lane `n`. -/
def ltsu (s : State) (n : Nat) : LaneTsu := SMap.get {} s.laneTsu n

/-- Sets the event TSU of line lane `n`. -/
def setLtsu (s : State) (n : Nat) (u : LaneTsu) : State := { s with laneTsu := SMap.put {} s.laneTsu n u }

/-- Stamps an event of a kind on lane `n` with the event time and the host-bound position: LT_CTL.KIND_EN selects the
kinds; a full FIFO drops the event, counts it and sets OVF; the first entry raises LANE_EVT. -/
def laneEvent (s : State) (n kind : Nat) : State :=
  let u := s.ltsu n
  if !s.timeOn || !u.ctl.getLsbD kind then s
  else if 16 ≤ u.fifo.length then
    ((s.setLtsu n { u with ovf := true, drop := min (2 ^ 32 - 1) (u.drop + 1) }).setReg Blk.tsu TSU.OVF_LANE
      (s.reg Blk.tsu TSU.OVF_LANE ||| BitVec.twoPow 32 n)).raise Blk.tsu TSU.INT_OVF
  else
    let e : LaneEvt := ⟨s.evtTime.ns, s.evtTime.sec % 2 ^ 32, s.evtCoarse, kind, s.lanePos n true⟩
    let s' := s.setLtsu n { u with fifo := u.fifo ++ [e] }
    if u.fifo.isEmpty then s'.raise Blk.tsu TSU.INT_LANE_EVT else s'

/-! ### On-chip SRAM (R334 to R339) -/

/-- The region of a BAR2 offset (R334): its index and, for regions 6 and 7, the engine. -/
def sramRegion (off : Nat) : Option (Nat × Nat) :=
  if off < 0x2000000 then some (0, 0)
  else if off < 0x2400000 then some (1, 0)
  else if off < 0x2C00000 then some (2, 0)
  else if off < 0x2D00000 then some (3, 0)
  else if off < 0x2E00000 then some (4, 0)
  else if off < 0x2F00000 then some (5, 0)
  else
    let e := (off - 0x2F00000) / 0x10000
    let o := off % 0x10000
    if e < 21 then (if o < 0x4000 then some (6, e) else if 0x8000 ≤ o then some (7, e) else none) else none

/-- The domain of an engine (R147). -/
def engDomain (e : Nat) : Nat := if e < 16 then Dom.lcd (e / 4) else if e = 16 then Dom.spr else Dom.hc (e - 17)

/-- The domain that holds a BAR2 offset (R334). -/
def sramDomain (off : Nat) : Option Nat :=
  (sramRegion off).map fun r =>
    if r.1 = 1 then Dom.kpr else if r.1 = 6 ∨ r.1 = 7 then engDomain r.2 else Dom.fab

/-- Base of engine `e`'s microcode bank `b` in BAR2 (R334). -/
def ucBase (e b : Nat) : Nat := 0x2F00000 + e * 0x10000 + b * 0x2000

/-- Base of engine `e`'s data SRAM in BAR2 (R334). -/
def dataBase (e : Nat) : Nat := 0x2F00000 + e * 0x10000 + 0x8000

/-- Sets one field of the on-chip SRAM. -/
def setSram (s : State) (m : Sram) : State := { s with sram := m }

/-- The 13 stored bits of a byte, upsets applied (R336). -/
def sramStored (s : State) (a : Nat) : Nat :=
  Codec.eccEncode (SMap.get 0 s.sram.bytes a).toNat ^^^ (SMap.get 0 s.sram.flips a).toNat

/-- The light code's answer for one byte. -/
def sramByte (s : State) (a : Nat) : Codec.EccRead := Codec.eccDecode (s.sramStored a)

/-- Flagged bytes and unflagged wrong bytes among those of page `pg` that an upset has touched (R338). -/
def pageErrors (s : State) (pg : Nat) : Nat × Nat :=
  (s.sram.flips.filter fun e => e.1 / 1024 == pg).foldl (fun r e =>
    match s.sramByte e.1 with
    | .flagged => (r.1 + 1, r.2)
    | .clean d | .corrected d => if d = (SMap.get 0 s.sram.bytes e.1).toNat then r else (r.1, r.2 + 1)) (0, 0)

/-- Page `pg` decodes: e unflagged and f flagged byte errors with 2e + f at most 16 (R338). -/
def pageDecodes (s : State) (pg : Nat) : Bool := 2 * (s.pageErrors pg).2 + (s.pageErrors pg).1 ≤ 16

/-- Writes the corrected page back (R338). -/
def pageRepair (s : State) (pg : Nat) : State :=
  s.setSram { s.sram with flips := SMap.drop (fun a => a / 1024 == pg) s.sram.flips }

/-- What a read of one 32-bit word gives: the stored or corrected bytes, how many bytes were corrected, and whether the
word is uncorrectable or poisoned. -/
structure WordRead where
  data : Nat
  corrected : Nat
  flagged : Bool
deriving DecidableEq, Repr

/-- A read of the word at word address `w` by the light code alone (R336, R337). -/
def sramWordRaw (s : State) (w : Nat) : WordRead :=
  if !SMap.get false s.sram.valid w then ⟨0, 0, false⟩
  else (List.range 4).foldl (fun (r : WordRead) (i : Nat) =>
    match s.sramByte (4 * w + i) with
    | .clean d => { r with data := r.data + d * 256 ^ i }
    | .corrected d => { r with data := r.data + d * 256 ^ i, corrected := r.corrected + 1 }
    | .flagged => { r with data := r.data + (s.sramStored (4 * w + i) % 256) * 256 ^ i, flagged := true }) ⟨0, 0, false⟩

/-- Counts `n` in a MEM counter with its bit of STAT.WRAPPED (R336, R338, R351). -/
def memCount (s : State) (off bit n : Nat) : State :=
  let r := s.count32 Blk.mem off n
  if r.2 then
    (r.1.setF Blk.mem MEM.STAT_WRAPPED (r.1.f Blk.mem MEM.STAT_WRAPPED ||| 2 ^ bit)).raise Blk.mem MEM.INT_WRAPPED
  else r.1

end State

/-! ### The Logbook writer (R371 to R377) -/

/-- A record before it is placed (R371): type, source, class, position and payload words. -/
structure LogRec where
  typ : Nat
  src : Nat
  anch : Bool := false
  /-- Not subject to the token bucket: SNAPSHOT and HREC records (R373). -/
  free : Bool := false
  pos : Pos := {}
  payload : List Byte := []
deriving DecidableEq, Repr

/-- Payload bytes of 32-bit values, little-endian, padded to the 28 bytes of R371. -/
def logPayload (l : List Nat) : List Byte := ((l.map (Codec.leBytes 4)).flatten ++ List.replicate 28 0).take 28

/-- The 64 bytes of a record (R371). -/
def logBytes (r : LogRec) (seq : Nat) (t : TimeVal) (timeValid coarse limited : Bool) : List Byte :=
  let flags := r.anch.toNat + 2 * timeValid.toNat + 4 * r.pos.valid.toNat + 8 * coarse.toNat
    + 16 * (r.pos.valid && r.pos.hostBound).toNat + 32 * limited.toNat
  let v := r.pos.valid.toNat
  let pos : List Byte :=
    Codec.leBytes 2 (v * r.pos.gen) ++ Codec.leBytes 1 r.pos.port ++ [0, 0, 0] ++ Codec.leBytes 8 (v * r.pos.cw)
  let body := Codec.leBytes 4 seq ++ Codec.leBytes 2 r.typ ++ Codec.leBytes 1 r.src ++ Codec.leBytes 1 flags
    ++ Codec.leBytes 4 t.ns ++ Codec.leBytes 6 t.sec ++ pos ++ (r.payload ++ List.replicate 28 0).take 28
  body ++ Codec.leBytes 4 (Codec.crc32c body).toNat

namespace State

/-- Internal write of bytes: sets them, validates their words (bytes of a word not valid before and not covered read 0),
drops their upsets, and clears the poison of wholly covered words (R337, R353). Page seals are the caller's concern. -/
def sramPoke (s : State) (a : Nat) (data : List Byte) : State :=
  let m := s.sram
  let m := data.zipIdx.foldl (fun (m : Sram) (e : Byte × Nat) =>
    let x := a + e.2
    let w := x / 4
    let m := if SMap.get false m.valid w then m
      else { m with
        bytes := SMap.drop (fun k => k / 4 == w) m.bytes
        flips := SMap.drop (fun k => k / 4 == w) m.flips
        valid := SMap.put false m.valid w true }
    { m with
      bytes := SMap.put 0 m.bytes x e.1
      flips := SMap.erase m.flips x }) m
  s.setSram { m with poison := SMap.drop (fun w => a ≤ 4 * w && 4 * w + 4 ≤ a + data.length) m.poison }

/-- The refill of the token bucket, measured by the AON counter (R373). -/
def logRefill (s : State) : State :=
  let gain := (s.aonCnt - s.log.spentAt) * s.f Blk.log LOG.RATE_CTL_RATE
  { s with log := { s.log with spent := s.log.spent - gain, spentAt := s.aonCnt } }

/-- The bucket holds a whole record's token (R373); BURST 0 acts as 1 and RATE 0 admits none. -/
def logAdmits (s : State) : Bool :=
  s.f Blk.log LOG.RATE_CTL_RATE != 0
    && s.log.spent + 25000000 ≤ max 1 (s.f Blk.log LOG.RATE_CTL_BURST) * 25000000

/-- Takes a page for a class when no open page of it exists: an unused one, else the oldest ring-class page that is sealed
and not yet drained (R377). -/
def logNewPage (s : State) (anch : Bool) (seq : Nat) : Option State :=
  match (List.range 1024).find? fun i => !(s.log.pages.any fun p => p.page == i) with
  | some i => some { s with log := { s.log with pages := s.log.pages ++ [LogPage.mk i anch 0 seq false] } }
  | none =>
    match s.log.pages.find? fun p => !p.anch && p.sealed with
    | none => none
    | some p =>
      let first := !s.fb Blk.log LOG.STAT_OVERWRITE
      let s := s.satReg Blk.log LOG.OVWR_DROP p.count
      let s := { s with
        log := { s.log with pages := (s.log.pages.filter fun (q : LogPage) => q.page != p.page) ++ [LogPage.mk p.page anch 0 seq false] }
        sram := { s.sram with
          sealed := SMap.erase s.sram.sealed (0x2C00000 / 1024 + p.page)
          valid := SMap.drop (fun w => w / 256 == 0x2C00000 / 1024 + p.page) s.sram.valid } }
      let s := s.setF Blk.log LOG.STAT_OVERWRITE 1
      some (if first then s.raise Blk.log LOG.INT_OVERWRITE else s)

/-- Places the bytes of a record in its class's open page, and seals the page when it is full (R374). -/
def logPlace (s : State) (anch : Bool) (seq : Nat) (bytes : List Byte) : State :=
  let opened := if (s.log.pages.any fun p => p.anch == anch && !p.sealed) then some s else s.logNewPage anch seq
  match opened with
  | none => if anch then s.satReg Blk.log LOG.STG_DROP 1 else s
  | some s =>
    match s.log.pages.find? fun p => p.anch == anch && !p.sealed with
    | none => s
    | some p =>
      let s := s.sramPoke (0x2C00000 + 1024 * p.page + 64 * p.count) bytes
      let full := p.count + 1 == 16
      let p' : LogPage := { p with count := p.count + 1, sealed := full }
      { s with
        log := { s.log with pages := s.log.pages.map fun q => if q.page == p.page then p' else q }
        sram := if full then { s.sram with sealed := SMap.put false s.sram.sealed (0x2C00000 / 1024 + p.page) true }
                else s.sram }

/-- Creates a Logbook record: the token bucket, SEQ, the time and the placement (R371, R373, R374). -/
def logRecord (s : State) (r : LogRec) : State :=
  if !s.domReady Dom.fab then s
  else
    let s := s.logRefill
    let limited := !r.anch && !r.free
    if limited && !s.logAdmits then
      let first := (s.reg Blk.log LOG.LIMIT_DROP).toNat == 0
      let s := s.satReg Blk.log LOG.LIMIT_DROP 1
      let s := { s with log := { s.log with limited := r.src :: s.log.limited.filter (· != r.src) } }
      let s := s.perf 14 1 1
      if first then s.raise Blk.log LOG.INT_LIMITED else s
    else
      let s := if limited then { s with log := { s.log with spent := s.log.spent + 25000000 } } else s
      let seq := (s.reg Blk.log LOG.SEQ).toNat
      let c := s.count32 Blk.log LOG.SEQ 1
      let s := if c.2 then c.1.flag Blk.log LOG.STAT_SEQ_WRAP LOG.INT_WRAPPED else c.1
      let bytes := logBytes r seq s.evtTime s.timeOn s.evtCoarse (s.log.limited.contains r.src)
      let anchored := if r.anch then (bytes :: s.log.anchored).take 16 else s.log.anchored
      let s := { s with log := { s.log with limited := s.log.limited.filter (· != r.src), anchored := anchored } }
      (s.logPlace r.anch seq bytes).perf 14 0 1

/-- Every staging page is freed; anchored records that could not be drained are counted (R375). -/
def logFree (s : State) : State :=
  let n := ((s.log.pages.filter (·.anch)).map (·.count)).sum
  let s := if s.fb Blk.log LOG.STAT_ANCHOR_FULL then s.satReg Blk.log LOG.ANCH_DROP n else s
  { s with log := { s.log with pages := [] } }

/-! ### Reads that meet errors (R336, R338, R351) -/

/-- A poisoned or uncorrectable word in a store with a golden copy makes its page wait for the reload (R354). -/
def goldNote (s : State) (pg : Nat) : State :=
  match sramRegion (1024 * pg) with
  | some (r, _) =>
    if (r = 2 ∨ r = 6) ∧ !s.sram.gold.contains pg then
      (s.setSram { s.sram with gold := s.sram.gold ++ [pg] }).setF Blk.mem MEM.GOLD_STAT_PENDING 1
    else s
  | none => s

/-- The words of page `pg` that hold a flagged byte. -/
def pageFlagged (s : State) (pg : Nat) : List Nat :=
  (s.sram.flips.filterMap fun e =>
    if e.1 / 1024 = pg ∧ s.sramByte e.1 = .flagged then some (e.1 / 4) else none).eraseDups

/-- Reports an uncorrectable or poisoned word to requester `src` (R351): poison, UE_ADDR, UE_INFO, the anchored record and
MEM_UE. In a sealed page every word with a flagged byte is poisoned (R352). -/
def sramUe (s : State) (w src : Nat) : State :=
  let isSealed := SMap.get false s.sram.sealed (w / 256)
  let bad := w :: if isSealed then s.pageFlagged (w / 256) else []
  let s := s.setSram { s.sram with poison := bad.foldl (fun m x => SMap.put false m x true) s.sram.poison }
  let s := s.goldNote (w / 256)
  let s := s.memCount MEM.UE_CNT 3 1
  let s := s.setReg Blk.mem MEM.UE_ADDR (BitVec.ofNat 32 (4 * w))
  let s := ((s.setF Blk.mem MEM.UE_INFO_REGION (((sramRegion (4 * w)).map (·.1)).getD 0)).setF Blk.mem MEM.UE_INFO_SRC
    src).setB Blk.mem MEM.UE_INFO_SEALED isSealed
  let s := s.logRecord { typ := 0x0011, src := Blk.mem, anch := true
                         payload := logPayload [(s.reg Blk.mem MEM.UE_INFO).toNat, 4 * w] }
  s.raise Blk.mem MEM.INT_MEM_UE

/-- A read of the word at word address `w` by requester `src`, with correction, page decode and error report. -/
def sramRead (s : State) (w src : Nat) : WordRead × State :=
  if SMap.get false s.sram.poison w then ({ s.sramWordRaw w with flagged := true }, s.sramUe w src)
  else
    let r := s.sramWordRaw w
    if r.flagged then
      if SMap.get false s.sram.sealed (w / 256) && s.pageDecodes (w / 256) then
        let s := (s.pageRepair (w / 256)).memCount MEM.PCE_CNT 2 1
        let s := s.perf 12 1 1
        (s.sramWordRaw w, s)
      else (r, s.sramUe w src)
    else if r.corrected = 0 then (r, s)
    else (r, (s.memCount MEM.CE_CNT 1 r.corrected).perf 12 0 r.corrected)

/-- A write that is not a whole sealed page unseals the pages it touches, abandons their sealing, and counts each (R339,
R356). -/
def sramWrite (s : State) (a : Nat) (data : List Byte) : State :=
  if data.isEmpty then s
  else
    let first := a / 1024
    let pages := (List.range ((a + data.length - 1) / 1024 - first + 1)).map (first + ·)
    let s := pages.foldl (fun (s : State) pg =>
      if SMap.get false s.sram.sealed pg || s.sram.sealJob.contains pg then
        ((s.setSram { s.sram with sealed := SMap.erase s.sram.sealed pg, sealJob := s.sram.sealJob.filter (· != pg) }).memCount
          MEM.UNSEAL_CNT 0 1).raise Blk.mem MEM.INT_UNSEAL
      else s) s
    s.sramPoke a data

end State
end Sys2Proof.Machine
end

