-- ==== Sys2Proof/Machine/Access.lean ====
section
/-! DEFINITION. Register access: the answer of an unpowered domain (R15), the masks of the access classes (R7), staged and
direct writes (R45, R50, R51) and the refused-write report. -/

namespace Sys2Proof.Machine

/-- The code of a requester in `GLB.STAT.SRC` (R42). -/
def reqCode : Requester → Nat
  | .pcie => 0 | .i2c => 1 | .keeper => 2 | .debug => 3

/-- The code of a BAR in `GLB.OFF_ACC_ADDR` (R15). -/
def barCode : Bar → Nat
  | .bar0 => 0 | .bar2 => 1 | .bar4 => 2

namespace State

/-- An access to an unpowered or changing domain (R15): it is recorded with the BAR and offset and raises OFF_ACCESS. For
BAR4 the record holds bits [33:4] of the offset. Nothing can be recorded while PD_FAB itself is off. -/
def offRecord (s : State) (bar : Bar) (off : Nat) (write : Bool) : State :=
  if !s.domReady Dom.fab then s
  else
    let s := s.setF Blk.glb GLB.OFF_ACC_ADDR_BAR (barCode bar)
    let s := s.setF Blk.glb GLB.OFF_ACC_ADDR_OFFSET (if bar = .bar4 then off / 16 else off)
    let s := s.setB Blk.glb GLB.OFF_ACC_STAT_WAS_WRITE write
    let s := s.countSat Blk.glb GLB.OFF_ACC_STAT_COUNT 1
    s.flag Blk.glb GLB.OFF_ACC_STAT_OFF_ACCESS GLB.INT_OFF_ACCESS

/-- Block `b` answers: its domain is ready, and while power-on BIST holds the device only AON and BIST answer (R428). -/
def reach (s : State) (b : Nat) : Bool := s.blkOn b && (!s.held || b == Blk.aon || b == Blk.bist)

/-- An access to offset `off` of block `b`: `k` where the block answers, else R15. -/
def access (s : State) (b off : Nat) (write : Bool) (k : State → State) : State :=
  if s.reach b then k s else s.offRecord .bar0 (blkBase b + off) write

/-- STAGE = 1: writes of RWS fields go to the shadow (R45). -/
def staged (s : State) (b : Nat) : Bool := s.fb b HDR.BLK_CTL_STAGE

/-- The shadow of a register; an unlisted shadow follows its active value. -/
def shadow (s : State) (b off : Nat) : Word := (SMap.get? s.shadows (regKey b off)).getD (s.reg b off)

/-- The RW, RWS, W1C and WO bits of a register. -/
def classBits (b off : Nat) : Word × Word × Word × Word :=
  match regDefOf b off with
  | some d => (BitVec.ofNat 32 d.rw, BitVec.ofNat 32 d.rws, BitVec.ofNat 32 d.w1c, BitVec.ofNat 32 d.wo)
  | none => (0, 0, 0, 0)

/-- A write recomputes the parity of a register or shadow, so it is checked as new (R51, R52). -/
def parityNew (s : State) (key : Nat) : State :=
  { s with parBad := s.parBad.filter (· != key), parSeen := s.parSeen.filter (· != key) }

/-- The key of a shadow in the parity lists. -/
def shadowKey (b off : Nat) : Nat := 2 ^ 20 + regKey b off

/-- A plain register write: RW bits take the value, RWS bits go to the shadow while STAGE = 1 and else take it, W1C bits
written 1 clear, other bits are ignored (R7, R9, R45, R50). -/
def writeReg (s : State) (b off : Nat) (v : Word) : State :=
  let m := classBits b off
  let direct := if s.staged b then m.1 else m.1 ||| m.2.1
  let w := ((s.reg b off &&& ~~~direct) ||| (v &&& direct)) &&& ~~~(v &&& m.2.2.1)
  let s' := (s.setReg b off w).parityNew (regKey b off)
  if s.staged b && m.2.1 != 0 then
    ({ s' with shadows := SMap.set s'.shadows (regKey b off) ((s.shadow b off &&& ~~~m.2.1) ||| (v &&& m.2.1)) }).parityNew
      (shadowKey b off)
  else s'

/-- The word that a read-modify-write of a register starts from: its RW bits, and its RWS bits from the shadow while
STAGE = 1; every other bit 0 (R38). -/
def mergeWord (s : State) (b off : Nat) : Word :=
  let m := classBits b off
  (s.reg b off &&& m.1) ||| ((if s.staged b then s.shadow b off else s.reg b off) &&& m.2.1)

/-- The word that writes one field and leaves the others, as the SET and CLEAR aliases do (R38). -/
def oneField (s : State) (b : Nat) (fl : Fld) (v : Nat) : Word := fl.put (s.mergeWord b fl.off) v

/-! ### Debug level (R414) -/

/-- The debug level in force: CLOSED while PD_TEST is off. -/
def dbgLevel (s : State) : Nat := s.f Blk.dbg DBG.STAT_LEVEL

/-- An access that the debug level forbids (R414). -/
def dbgDenied (s : State) : State :=
  if s.blkOn Blk.dbg then s.flag Blk.dbg DBG.STAT_DENIED DBG.INT_DENIED else s

/-- The debug level admits an access of requester `q` to BAR0 (R414). -/
def dbgAdmits (s : State) (q : Requester) (write : Bool) : Bool :=
  q != .debug || (if write then s.dbgLevel == 2 else s.dbgLevel != 0)

/-- A request of requester `q` has arrived: a PCIe request is a TLP received (R437). -/
def heard (s : State) (q : Requester) : State := if q = .pcie then s.tlp 0 1 else s

/-- An access of requester `q` to offset `off` of block `b`: the debug level is judged first (R414), then the domain (R15). -/
def accessBy (s : State) (q : Requester) (b off : Nat) (write : Bool) (k : State → State) : State :=
  let s := s.heard q
  if s.dbgAdmits q write then s.access b off write k else s.dbgDenied

/-! ### Declared pairs (R50) -/

/-- A declared pair as checked: its number, whether it is consistent, and its registers with the words last used. -/
structure PairView where
  id : Nat
  ok : Bool
  regs : List (Nat × Word)
deriving DecidableEq, Repr

/-- Block `b` checks its pairs, lowest number first: it keeps the last consistent words of an inconsistent pair, sets
PAIR_MISMATCH and PAIR_ID, and sets INT_STAT bit 0 on a change to inconsistent (R50). -/
def pairsCheck (s : State) (b : Nat) (l : List PairView) : State :=
  let bad := l.filter fun p => !p.ok
  let regs := (bad.map (·.regs)).flatten
  let was := s.pairBad
  let kept := s.used.filter fun e => e.1 / 4096 != b || regs.any fun r => regKey b r.1 == e.1
  let s := { s with
    used := regs.foldl (fun m r => if (SMap.get? m (regKey b r.1)).isSome then m else SMap.set m (regKey b r.1) r.2) kept
    pairBad := (bad.map fun p => 256 * b + p.id) ++ s.pairBad.filter fun k => k / 256 != b }
  match bad.head? with
  | none => s
  | some p =>
    let s := (s.setF b HDR.BLK_STAT_PAIR_MISMATCH 1).setF b HDR.BLK_STAT_PAIR_ID p.id
    if bad.any fun p => !was.contains (256 * b + p.id) then s.raise b HDR.INT_PAIR else s

end State
end Sys2Proof.Machine
end

