-- ==== Sys2Proof/Machine/Wake.lean ====
section
/-! DEFINITION. Wake sources (R393): a source that is enabled and listed for the current state sets its bit and decides a
wake; the WAKE command acts on the decision. -/

namespace Sys2Proof.Machine.State

/-- Block `b` has answered ACCEPT in a handshake whose request has not ended: it starts no work that would change its
answer (R386). -/
def hsHolds (s : State) (b : Nat) : Bool :=
  s.pwr.asked.contains b && !s.pwr.waiting.contains b && !s.pwr.delaying.contains b

/-- The power state that R393 takes as current: the target of an entry under way, else the state. -/
def wakeState (s : State) : Nat := if s.pwr.target ≠ 0 then s.pwr.target else s.f Blk.pwr PWR.STAT_STATE

/-- The deepest and shallowest states in which source `i` wakes: 0 to 3 WAKE pins, 4 I2C, 5 PCIe, 6 Foghorn, 7 scheduler,
8 thermal. -/
def wakeListed (i st : Nat) : Bool :=
  match i with
  | 5 => st == 1 || st == 2
  | 6 => st == 4
  | 7 => 1 ≤ st && st ≤ 4
  | _ => 1 ≤ st && st ≤ 5

/-- Source `i` signals a wake. SRC names the one that stands first when several wake before the decision is acted on. In PS0
the source is noted with the AON count, for a request of the same AON clock cycle (R390). -/
def wakeUp (s : State) (i : Nat) : State :=
  if (s.f Blk.pwr PWR.WAKE_EN_EN).testBit i && wakeListed i s.wakeState then
    let src := if s.pwr.wake then min (i + 1) (s.f Blk.pwr PWR.WAKE_STAT_SRC) else i + 1
    let s := (s.setF Blk.pwr PWR.WAKE_STAT_SEEN (s.f Blk.pwr PWR.WAKE_STAT_SEEN ||| 2 ^ i)).setF Blk.pwr
      PWR.WAKE_STAT_SRC src
    ({ s with pwr := { s.pwr with wake := true } }).raise Blk.pwr PWR.INT_WAKE
  else if s.wakeState = 0 ∧ (s.f Blk.pwr PWR.WAKE_EN_EN).testBit i then
    let old := if s.pwr.seenAt = s.aonCnt then s.pwr.seen else 0
    { s with pwr := { s.pwr with seen := old ||| 2 ^ i, seenAt := s.aonCnt } }
  else s

/-- WAKE pin `p` is held at its active level with LEVEL = 1 (R393). -/
def wakeHeld (s : State) (p : Nat) : Bool :=
  let ctl := (s.reg Blk.aon AON.WAKE_CTL).toNat
  decide (p < 4) && ctl.testBit (4 * p + 1) && ctl.testBit (4 * p) == (s.f Blk.aon AON.PIN_STAT_WAKE).testBit p

/-- Pins held active wake a device in a state, or on its way into one, once they are enabled or configured there. -/
def wakeHeldPins (s : State) : State :=
  if s.wakeState = 0 ∨ s.pwr.wake = true then s else ((List.range 4).filter s.wakeHeld).foldl wakeUp s

end Sys2Proof.Machine.State
end

