-- ==== Sys2Proof/Machine/FogCodec.lean ====
section
/-! DEFINITION. The Foghorn packet (R256 to R259): header, CRCs, convolutional code, interleaving, whitening and the values
of the up-chirps. -/

namespace Sys2Proof.Machine.Fog

/-- The CRC of the header (R257): generator x^16 + x^12 + x^5 + 1, initial value 0xFFFF, over bits in sending order. -/
def crc16 (bits : List Bool) : Nat :=
  bits.foldl (fun c b => if (32768 ≤ c : Bool) != b then (2 * c % 65536) ^^^ 0x1021 else 2 * c % 65536) 0xFFFF

/-- The low `n` bits of a number, bit 0 first. -/
def lowFirst (n v : Nat) : List Bool := (List.range n).map v.testBit

/-- The low `n` bits of a number, highest first. -/
def highFirst (n v : Nat) : List Bool := (lowFirst n v).reverse

/-- The 32 information bits of a header (R257), as a number. -/
def headerInfo (seq len cr : Nat) : Nat := seq % 65536 + len % 1024 * 2 ^ 16 + cr % 4 * 2 ^ 26

/-- The header's fields are valid: LEN not 0, CR not 3, VER 0. -/
def headerOk (info : Nat) : Bool := bitsOf info 16 10 != 0 && bitsOf info 26 2 != 3 && bitsOf info 28 2 == 0

/-- The header's bits with their CRC, highest-order first. -/
def headerBits (info : Nat) : List Bool := lowFirst 32 info ++ highFirst 16 (crc16 (lowFirst 32 info))

/-- The payload's bits with their CRC-32C. -/
def payloadBits (p : List (BitVec 8)) : List Bool :=
  (p.map fun b => lowFirst 8 b.toNat).flatten ++ highFirst 32 (Codec.crc32c p).toNat

/-- The two output bits of the encoder of R258 for the six earlier bits `r` (newest in bit 5) and the bit `b`: generators
133 and 171 in octal. -/
def convOut (r : Nat) (b : Bool) : Bool × Bool :=
  let w := b.toNat * 64 + r
  (popCount 7 (w &&& 0o133) % 2 == 1, popCount 7 (w &&& 0o171) % 2 == 1)

/-- The coded bit pairs of a block, from the register value `r`. -/
def convPairs : List Bool → Nat → List (Bool × Bool)
  | [], _ => []
  | b :: t, r => convOut r b :: convPairs t (r / 2 + b.toNat * 32)

/-- Whether A and B of input bit `i` are kept at code rate `cr` (R258). -/
def kept (cr i : Nat) : Bool × Bool :=
  match cr with
  | 1 => (true, i % 2 == 0)
  | 2 => (i % 3 != 2, i % 3 != 1)
  | _ => (true, true)

/-- The punctured bits of coded pairs, from input bit `i` on. -/
def puncture (cr : Nat) : List (Bool × Bool) → Nat → List Bool
  | [], _ => []
  | p :: t, i =>
    (if (kept cr i).1 then [p.1] else []) ++ (if (kept cr i).2 then [p.2] else []) ++ puncture cr t (i + 1)

/-- A coded block: the bits, six tail bits, the code and its puncturing (R258). -/
def encode (cr : Nat) (bits : List Bool) : List Bool := puncture cr (convPairs (bits ++ List.replicate 6 false) 0) 0

/-- The `B`-bit groups of a coded block after padding and interleaving (R259): bit n of an interleaver block becomes bit
⌊n/8⌋ of symbol n mod 8, bit 0 the most significant. -/
def groups (B : Nat) (bits : List Bool) : List Nat :=
  let blocks := (bits.length + 8 * B - 1) / (8 * B)
  (List.range (8 * blocks)).map fun i =>
    (List.range B).foldl (fun v j => 2 * v + ((bits[i / 8 * (8 * B) + 8 * j + i % 8]?).getD false).toNat) 0

/-- The number whose Gray code is `v` (R259): each bit is the parity of the bits of `v` at and above it. -/
def unGray (B v : Nat) : Nat := (List.range B).foldl (fun u j => u + popCount (B - j) (v >>> j) % 2 * 2 ^ j) 0

/-- The first `n` bits of the whitening sequence from its latest twelve bits, oldest first (R259). -/
def whiten : Nat → List Bool → List Bool
  | 0, _ => []
  | n + 1, l =>
    let g := fun i => (l[i]?).getD false
    g 0 :: whiten n (l.drop 1 ++ [(g 6 != g 4) != (g 1 != g 0)])

/-- The values of the up-chirps of the header and payload (R259) for spreading factor `sf` and link code `code`. -/
def symbols (sf code : Nat) (info : Nat) (payload : List (BitVec 8)) : List Nat :=
  let B := sf - 1
  let g := groups B (encode 0 (headerBits info)) ++ groups B (encode (bitsOf info 26 2) (payloadBits payload))
  let w := whiten (B * g.length) (lowFirst 12 (if code = 0 then 0xFFF else code))
  g.zipIdx.map fun e =>
    let wi := (List.range B).foldl (fun a j => a + ((w[B * e.2 + j]?).getD false).toNat * 2 ^ j) 0
    2 * ((unGray B e.1 + wi) % 2 ^ B)

end Sys2Proof.Machine.Fog
end

