-- ==== Sys2Proof/Machine/LineOps.lean ====
section
/-! DEFINITION. Operations of the line lanes: power and PLL conditions, the receive chain's control and calibration
(spec/03), the transmit chain's control, squelch and calibration (spec/04). -/

namespace Sys2Proof.Machine

/-! ### PLLs (R93) -/

/-- The block, enable field and status fields of a PLL, and its lock-lost interrupt source. -/
structure PllRegs where
  blk : Nat
  en : Fld
  lock : Fld
  lost : Fld
  us : Fld
  int : Option Nat

/-- Where a PLL is controlled and reported (R93, R197): LCLUn, LLANE16 for the spare, HCLUk for host PLLs A and B. The
spare-lane PLL has no interrupt source of its own. -/
def pllRegs : PllId → PllRegs
  | .line c => ⟨Blk.lclu c, LCLU.PLL_CTL_EN, LCLU.PLL_STAT_LOCK, LCLU.PLL_STAT_LOCK_LOST, LCLU.PLL_STAT_LOCK_US, some 4⟩
  | .spare => ⟨Blk.llane 16, LLANE.SPLL_CTL_EN, LLANE.SPLL_STAT_LOCK, LLANE.SPLL_STAT_LOCK_LOST, LLANE.SPLL_STAT_LOCK_US, none⟩
  | .hostA k => ⟨Blk.hclu k, HCLU.PLLA_CTL_EN, HCLU.PLLA_STAT_LOCK, HCLU.PLLA_STAT_LOCK_LOST, HCLU.PLLA_STAT_LOCK_US,
      some HCLU.INT_PLLA_LOST⟩
  | .hostB k => ⟨Blk.hclu k, HCLU.PLLB_CTL_EN, HCLU.PLLB_STAT_LOCK, HCLU.PLLB_STAT_LOCK_LOST, HCLU.PLLB_STAT_LOCK_US,
      some HCLU.INT_PLLB_LOST⟩

/-- The PLL of line lane `n` (R93). -/
def linePll (n : Nat) : PllId := if h : n / 4 < 4 then .line ⟨n / 4, h⟩ else .spare

/-- The line lanes that a PLL clocks. -/
def pllLines : PllId → List Nat
  | .line c => [4 * c, 4 * c + 1, 4 * c + 2, 4 * c + 3]
  | .spare => [16]
  | _ => []

/-- Reset contents of a receive bank word (R74). -/
def rxBankReset (i : Nat) : Nat :=
  match i with
  | 4 => 0x400 | 138 => 0x300 | 140 => 0x100 | 141 => 0x280 | 142 => 0x380 | 143 => 0x080 | 144 => 0x180 | 145 => 16
  | _ => 0

/-- The bits a receive bank word keeps (R74, R75). -/
def rxBankBits (i : Nat) : Nat := if i < 64 then 12 else if i = 145 then 7 else 10

/-- Words in sQ1.9 read as the sign extension of their low 10 bits (R75). -/
def signExt10 (v : Nat) : Nat := if v % 1024 < 512 then v % 1024 else v % 1024 + 3072

/-- Reset contents of a transmit store word: bank words 0 to 12, and 0 for the pre-distortion entries (R97). -/
def txStoreReset (i : Nat) : Nat :=
  match i with
  | 1 => 0x400 | 8 => 1 | 9 => 0x280 | 10 => 0x380 | 11 => 0x080 | 12 => 0x180
  | _ => 0

/-- The number of active slots at a rate (R62). -/
def activeSlots (rate : Nat) : Nat := if rate = 0 then 128 else if rate = 1 then 64 else 32

/-- Sub-converter `i` is powered at a rate (R62). -/
def subPowered (rate i : Nat) : Bool :=
  i < 136 && (rate == 0 || (rate == 1 && (i < 64 || 128 ≤ i)) || (rate != 1 && (i < 32 || 128 ≤ i)))

/-- Symbols per FFE residue group at a rate (R83). -/
def ffeGroup (rate : Nat) : Nat := if rate = 0 then 16 else if rate = 1 then 8 else 4

/-- How many symbols of the run `first`, `len` no run of `marks` covers (R85). -/
def newlyMarked (marks : List (Nat × Nat)) (first len : Nat) : Nat :=
  ((List.range len).filter fun i => !(marks.any fun m => m.1 ≤ first + i && first + i < m.1 + m.2)).length

namespace State

/-- Changes the record of line lane `n`. -/
def modLane (s : State) (n : Nat) (g : LineLane → LineLane) : State := s.setLane n (g (s.lane n))

/-- The PLL reports LOCK = 1. -/
def pllLocked (s : State) (p : PllId) : Bool := s.fb (pllRegs p).blk (pllRegs p).lock

/-- PS2 or deeper has stopped the datapath clocks (R61, R93, R388). -/
def clocksStopped (s : State) : Bool := s.pwr.clkOff

/-- The receive slices of lane `n` are powered: its RX_PWR bit and PD_LCAn, or PD_SPR for LL16 (R93). -/
def rxPowered (s : State) (n : Nat) : Bool :=
  if n = 16 then s.domReady Dom.spr
  else s.domReady (Dom.lca (n / 4)) && (s.f (Blk.lclu (n / 4)) LCLU.LANE_PWR_RX_PWR).testBit (n % 4)

/-- The transmit slices of lane `n` are powered (R93). -/
def txPowered (s : State) (n : Nat) : Bool :=
  if n = 16 then s.domReady Dom.spr
  else s.domReady (Dom.lca (n / 4)) && (s.f (Blk.lclu (n / 4)) LCLU.LANE_PWR_TX_PWR).testBit (n % 4)

/-- The receiver of lane `n` runs (R61, R93). -/
def rxRuns (s : State) (n : Nat) : Bool :=
  s.blkOn (Blk.llane n) && s.fb (Blk.llane n) LLANE.RX_CTL_RX_EN && s.rxPowered n && !s.clocksStopped

/-- The engine's SIG_CHG event becomes pending (R169). -/
def sigChange (s : State) (e : Nat) : State := s.setEng e { s.eng e with sigChg := true }

/-! ### Receive banks (R74, R75) -/

/-- A receive bank word. -/
def rxWord (s : State) (n bank i : Nat) : Nat := SMap.get (rxBankReset i) (s.lane n).rxBank (256 * bank + i)

/-- A receive bank word as a read returns it. -/
def rxWordRead (s : State) (n bank i : Nat) : Nat :=
  if 145 < i then 0
  else if 68 ≤ i ∧ i ≤ 144 then signExt10 (s.rxWord n bank i)
  else s.rxWord n bank i

/-- Stores a receive bank word; the header shows in EQ_STAT. -/
def setRxWord (s : State) (n bank i v : Nat) : State :=
  let v := v % 2 ^ rxBankBits i
  let s := s.modLane n fun l => { l with rxBank := SMap.put (rxBankReset i) l.rxBank (256 * bank + i) v }
  if i = 145 then s.setF (Blk.llane n) (if bank = 0 then LLANE.EQ_STAT_HDR_A else LLANE.EQ_STAT_HDR_B) v else s

/-- INDEX advances after each access when AUTO_INC = 1 (R75). -/
def coefAdvance (s : State) (n : Nat) : State :=
  let b := Blk.llane n
  if s.fb b LLANE.COEF_IDX_AUTO_INC then s.setF b LLANE.COEF_IDX_INDEX (s.f b LLANE.COEF_IDX_INDEX + 1) else s

/-- A write of COEF_DATA by a requester: refused for the bank in use and for indices 146 to 255 (R75). -/
def coefWrite (s : State) (n : Nat) (v : Word) : State :=
  let b := Blk.llane n
  let i := s.f b LLANE.COEF_IDX_INDEX
  let bank := s.f b LLANE.COEF_IDX_BANK
  let s' := if bank = s.f b LLANE.EQ_STAT_IN_USE ∨ 145 < i then s.flag b LLANE.RX_STAT_CFG_REFUSED LLANE.INT_CFG_REFUSED
    else s.setRxWord n bank i (v.toNat % 4096)
  s'.coefAdvance n

/-- The word COEF_DATA shows. -/
def coefPeek (s : State) (n : Nat) : Word :=
  BitVec.ofNat 32 (s.rxWordRead n (s.f (Blk.llane n) LLANE.COEF_IDX_BANK) (s.f (Blk.llane n) LLANE.COEF_IDX_INDEX))

/-! ### Transmit store (R97, R98) -/

/-- Key of a transmit store word: bank words 0 to 12 per bank, pre-distortion entries 64 to 319 not banked. -/
def txKey (bank i : Nat) : Nat := if i < 16 then 16 * bank + i else 1024 + i

/-- Indices that name a word of the store. -/
def txIndexOk (i : Nat) : Bool := i ≤ 12 || (64 ≤ i && i < 320)

/-- A transmit store word. -/
def txWord (s : State) (n bank i : Nat) : Nat := SMap.get (txStoreReset i) (s.lane n).txStore (txKey bank i)

/-- A transmit store word as a read returns it. -/
def txWordRead (s : State) (n bank i : Nat) : Nat :=
  if !txIndexOk i then 0 else if i < 9 then s.txWord n bank i else signExt10 (s.txWord n bank i)

/-- Stores a transmit store word. -/
def setTxWord (s : State) (n bank i v : Nat) : State :=
  let v := if i < 8 then v % 4096 else if i = 8 then v % 8 else v % 1024
  s.modLane n fun l => { l with txStore := SMap.put (txStoreReset i) l.txStore (txKey bank i) v }

/-- INDEX advances after each access when AUTO_INC = 1 (R98). -/
def txCoefAdvance (s : State) (n : Nat) : State :=
  let b := Blk.llane n
  if s.fb b LLANE.TX_COEF_IDX_AUTO_INC then s.setF b LLANE.TX_COEF_IDX_INDEX (s.f b LLANE.TX_COEF_IDX_INDEX + 1) else s

/-- The transmit word addressed is in use: the bank in use, or the pre-distortion set in use (R98). -/
def txInUse (s : State) (n bank i : Nat) : Bool :=
  if i ≤ 12 then bank == s.f (Blk.llane n) LLANE.TX_EQ_STAT_IN_USE
  else (i - 64) / 64 == s.f (Blk.llane n) LLANE.TX_PD_STAT_SET

/-- A write of TX_COEF_DATA (R98). -/
def txCoefWrite (s : State) (n : Nat) (v : Word) : State :=
  let b := Blk.llane n
  let i := s.f b LLANE.TX_COEF_IDX_INDEX
  let bank := s.f b LLANE.TX_COEF_IDX_BANK
  let s' := if !txIndexOk i || s.txInUse n bank i then s.flag b LLANE.TX_STAT_CFG_REFUSED LLANE.INT_TX_CFG_REFUSED
    else s.setTxWord n bank i (v.toNat % 4096)
  s'.txCoefAdvance n

/-- The word TX_COEF_DATA shows. -/
def txCoefPeek (s : State) (n : Nat) : Word :=
  BitVec.ofNat 32
    (s.txWordRead n (s.f (Blk.llane n) LLANE.TX_COEF_IDX_BANK) (s.f (Blk.llane n) LLANE.TX_COEF_IDX_INDEX))

/-! ### The slot map (R62 to R68) -/

/-- Sub-converter `i` of lane `n` is marked defective by its fuse. -/
def subFused (s : State) (n i : Nat) : Bool := SMap.get false s.fuseSub (256 * n + i)

/-- Sub-converter `i` is USABLE (R63). -/
def subUsable (s : State) (n i : Nat) : Bool := (SMap.get {} (s.lane n).sub i).usable && !s.subFused n i

/-- Sub-converter `i` holds a slot. -/
def subSlotted (s : State) (n i : Nat) : Bool := (s.lane n).slot.any fun e => e.2 == i

/-- Free spares: powered, USABLE, unslotted, not shadowing and not held by the eye monitor (R65). -/
def freeSpares (s : State) (n : Nat) : List Nat :=
  (List.range 136).filter fun i =>
    subPowered (s.f (Blk.llane n) LLANE.RX_CTL_RATE) i && s.subUsable n i && !s.subSlotted n i
      && (s.lane n).eyeSpare != some i && ((s.lane n).bg.bind (·.2)) != some i

/-- The next background step starts on slot `bgNext`, with a free spare or in place (R65, R67). The spec names no order
among free spares, so the choice is open. -/
def bgStart (s : State) (n : Nat) : State :=
  let b := Blk.llane n
  if s.rxRuns n && s.fb b LLANE.ADC_CTL_BGCAL_EN && s.fb b LLANE.RX_STAT_SIG_DET && !s.fb b LLANE.RX_STAT_CAL_RUN then
    let c := s.choose (s.freeSpares n)
    let s := c.2.setB b LLANE.RX_STAT_NO_SPARE c.1.isNone
    s.modLane n fun l => { l with bg := some (l.bgNext, c.1) }
  else s

/-- The trims of calibration results. -/
def setTrims (s : State) (n : Nat) (cal : List SubCal) : State :=
  cal.foldl (fun s c => s.modLane n fun l =>
    { l with sub := SMap.put {} l.sub c.sub ⟨c.offset, c.gain, c.skew, c.inRange⟩ }) s

/-- The initial slot map (R64): slot s takes SAs when it is USABLE, else the lowest USABLE spare, else the closest USABLE
sub-converter, with NO_SPARE set. -/
def buildSlots (s : State) (n : Nat) : State :=
  let b := Blk.llane n
  let rate := s.f b LLANE.RX_CTL_RATE
  let k := activeSlots rate
  let ok := (List.range 136).filter fun i => subPowered rate i && s.subUsable n i
  let own := (List.range k).filter fun sl => ok.contains sl
  let pool := ok.filter fun i => !own.contains i
  let step := fun (r : SMap Nat × List Nat × Bool) (sl : Nat) =>
    if ok.contains sl then (r.1 ++ [(sl, sl)], r.2.1, r.2.2)
    else match r.2.1 with
      | i :: t => (r.1 ++ [(sl, i)], t, r.2.2)
      | [] =>
        match (List.range 136).findSome? fun d =>
            if d ≤ sl ∧ ok.contains (sl - d) then some (sl - d) else if ok.contains (sl + d) then some (sl + d) else none with
        | some i => (r.1 ++ [(sl, i)], [], true)
        | none => (r.1, [], true)
  let r := (List.range k).foldl step ([], pool, false)
  (s.modLane n fun l => { l with slot := r.1 }).setB b LLANE.RX_STAT_NO_SPARE r.2.2

/-! ### Transmit: squelch, sources and sets (R101, R111 to R117) -/

/-- DAC_CLR_N is low, or taken as low because PD_HK is off (R117). -/
def clrLow (s : State) : Bool := !s.clrPin || !s.domReady Dom.hk

/-- The five causes of SQ_SRC, bit 0 CTL to bit 4 THERM (R116). -/
def sqCauses (s : State) (n : Nat) : Nat :=
  let b := Blk.llane n
  let src := s.f b LLANE.TX_MIRROR_SRC
  let mirrorLost := s.fb b LLANE.TX_MIRROR_EN && !s.domReady (blkDomain (Blk.llane src))
  let ctl := !s.fb b LLANE.TX_CTL_TX_EN || s.fb b LLANE.TX_CTL_SQUELCH || s.fb b LLANE.TX_STAT_CAL_RUN || mirrorLost
  let clr := s.fb b LLANE.TX_CTL_CLR_SQ && (s.clrLow || (s.fb b LLANE.TX_CTL_CLR_LATCH && (s.lane n).clrLatched))
  let idle := s.pwr.idle
  let ref := s.fb Blk.clk CLK.STAT_ON_AON || (!s.pllLocked (linePll n) && !s.clocksStopped)
  ctl.toNat + 2 * clr.toNat + 4 * ref.toNat + 8 * idle.toNat + 16 * (s.fb Blk.therm THERM.STAT_CRIT).toNat

/-- Recomputes SQ_SRC and SQUELCHED of lane `n`; SQUELCHED is raised when CLR, REF, PWR or THERM appears (R116). -/
def squelch (s : State) (n : Nat) : State :=
  let b := Blk.llane n
  if !s.blkOn b then s
  else
    let old := s.f b LLANE.TX_STAT_SQ_SRC
    let new := s.sqCauses n
    let s := (s.setF b LLANE.TX_STAT_SQ_SRC new).setB b LLANE.TX_STAT_SQUELCHED (new != 0)
    if (List.range 4).any fun i => new.testBit (i + 1) && !old.testBit (i + 1) then s.raise b LLANE.INT_SQUELCHED else s

/-- Recomputes the squelch of every line lane. -/
def squelchAll (s : State) : State := (List.range 17).foldl squelch s

/-- A falling edge of DAC_CLR_N as lane `n` sees it (R117). -/
def clrFallLane (s : State) (n : Nat) : State :=
  let b := Blk.llane n
  if s.blkOn b && s.fb b LLANE.TX_CTL_CLR_SQ then
    let s := s.flag b LLANE.TX_STAT_CLR_SEEN LLANE.INT_CLR_ASSERTED
    if s.fb b LLANE.TX_CTL_CLR_LATCH then s.modLane n fun l => { l with clrLatched := true } else s
  else s

/-- The selected timing source of lane `n` has lock, and its frequency word in 2^-10 ppm (R111, R112). TSRC 3 acts as 0. -/
def txSource (s : State) (n : Nat) : Bool × Int :=
  let b := Blk.llane n
  match s.f b LLANE.TX_CTL_TSRC with
  | 1 => let h := Blk.hlane (s.f b LLANE.TX_TSRC_HLANE)
         (s.blkOn h && s.fb h HLANE.HL_STAT_CDR_LOCK, (s.reg h HLANE.CDR_FREQ).toInt)
  | 2 => (s.fb b LLANE.RX_STAT_CDR_LOCK, (s.reg b LLANE.CDR_FREQ).toInt)
  | _ => (true, 0)

/-- HOLDOVER follows the lock of the selected source, and is raised on the change to 1 (R112). -/
def holdover (s : State) (n : Nat) : State :=
  let b := Blk.llane n
  if !s.blkOn b || !s.fb b LLANE.TX_CTL_TX_EN then s
  else
    let lost := !(s.txSource n).1
    let was := s.fb b LLANE.TX_STAT_HOLDOVER
    let s := s.setB b LLANE.TX_STAT_HOLDOVER lost
    if lost && !was then s.raise b LLANE.INT_HOLDOVER else s

/-- The limit of ±250 ppm in units of 2^-26 ppm. -/
def ppmLimit : Int := 250 * 2 ^ 26

/-- One datapath cycle of u (R111): u := u + (s - u) * 2^-SMOOTH, held at 2^-26 ppm and saturated to ±250 ppm. -/
def uStep (u src : Int) (smooth : Nat) : Int :=
  clampInt (-ppmLimit) ppmLimit (u + (src * 2 ^ 16 - u) / (2 : Int) ^ smooth)

/-- `k` cycles of u. -/
def uSteps (src : Int) (smooth : Nat) : Nat → Int → Int
  | 0, u => u
  | k + 1, u => uSteps src smooth k (uStep u src smooth)

/-- `k` datapath cycles of the timing source of lane `n`: a mirroring lane follows its source's u (R114), a lane in
holdover holds (R112). -/
def txFollow (s : State) (n k : Nat) : State :=
  let b := Blk.llane n
  if !s.blkOn b || !s.fb b LLANE.TX_CTL_TX_EN || s.clocksStopped then s
  else
    let u := if s.fb b LLANE.TX_MIRROR_EN then (s.lane (s.f b LLANE.TX_MIRROR_SRC)).u
      else if (s.txSource n).1 then uSteps (s.txSource n).2 (s.f b LLANE.TX_TSRC_SMOOTH) k (s.lane n).u
      else (s.lane n).u
    (s.modLane n fun l => { l with u := u }).setReg b LLANE.TX_FREQ (BitVec.ofInt 32 (u / 2 ^ 16))

/-- The pre-distortion set that the controls and the newest band select (R101). -/
def pdSelected (s : State) (n : Nat) : Nat :=
  let b := Blk.llane n
  if s.fb b LLANE.TX_PD_CTL_FOLLOW then bitsOf (s.reg b LLANE.TX_PD_MAP).toNat (2 * s.f b LLANE.TX_PD_STAT_BAND) 2
  else s.f b LLANE.TX_PD_CTL_SET

/-- Applies the selected set, or keeps it under HOLD with PENDING (R101, R102). -/
def pdApply (s : State) (n : Nat) : State :=
  let b := Blk.llane n
  let cur := s.f b LLANE.TX_PD_STAT_SET
  let new := s.pdSelected n
  if s.fb b LLANE.TX_PD_CTL_HOLD && s.fb b LLANE.TX_PD_CTL_FOLLOW then s.setB b LLANE.TX_PD_STAT_PENDING (new != cur)
  else
    let s := (s.setF b LLANE.TX_PD_STAT_SET new).setF b LLANE.TX_PD_STAT_PENDING 0
    if new = cur then s else s.raise b LLANE.INT_PD_SET_CHG

/-- A band change reported by the thermal block reaches lane `n` (R101). -/
def pdBand (s : State) (n band : Nat) : State :=
  if s.blkOn (Blk.llane n) then (s.setF (Blk.llane n) LLANE.TX_PD_STAT_BAND band).pdApply n else s

/-! ### Group delays (R58, R95, R122), in picoseconds, rounded to nearest -/

/-- Symbols per cycle divisor: 1, 2, 4 symbol periods of 32000/7225 ps. -/
def symPeriods (rate : Nat) : Nat := if rate = 0 then 1 else if rate = 1 then 2 else 4

/-- `RX_GDLY` (R58): 25 cycles of 8192000/7225 ps, CURSOR symbol periods and 60 ps. -/
def rxGdly (s : State) (n : Nat) : Nat :=
  let b := Blk.llane n
  (25 * 8192000 + s.uf b LLANE.EQ_CTL_CURSOR * 32000 * symPeriods (s.f b LLANE.RX_CTL_RATE) + 7225 / 2) / 7225 + 60

/-- `TX_GDLY` without the mirror term (R95). -/
def txGdlyBase (s : State) (n : Nat) : Nat :=
  let b := Blk.llane n
  14780 + (s.txWord n (s.f b LLANE.TX_EQ_STAT_IN_USE) 8 * 32000 * symPeriods (s.f b LLANE.TX_CTL_RATE) + 7225 / 2) / 7225

/-- `TX_GDLY` (R95). -/
def txGdly (s : State) (n : Nat) : Nat :=
  s.txGdlyBase n + if s.fb (Blk.llane n) LLANE.TX_MIRROR_EN then 2268 else 0

/-- Lane `n` is in terminated mode (R119). -/
def terminated (s : State) (n : Nat) : Bool := s.fb Blk.fec (FEC.LANE_CTL_MODE n)

/-- `ENC_GDLY` (R122). -/
def encGdly (s : State) (n : Nat) : Nat := if s.terminated n then 45354 else 2268

/-- `DEC_GDLY` (R122). -/
def decGdly (s : State) (n : Nat) : Nat :=
  if s.terminated n then
    (match s.f (Blk.llane n) LLANE.RX_CTL_RATE with
     | 0 => 2176974
     | 1 => 4353949
     | _ => 8707898)
  else 108849

end State
end Sys2Proof.Machine
end

