-- ==== Sys2Proof/Machine/SchedCore.lean ====
section
/-! DEFINITION. The entries of the event scheduler (R287 to R296) as data: triggers, outcomes and their records, the
disarming of blocks (R48, R49), and the cases of R290 that other units cause. Firing itself stands in `SchedOps`. -/

namespace Sys2Proof.Machine

namespace SchedEntry

/-- EN of an entry. -/
def en (e : SchedEntry) : Bool := SCHED.SE_W0_EN.get e.w0 == 1
/-- The trigger is a time (TRIG = 1). -/
def isTime (e : SchedEntry) : Bool := SCHED.SE_W0_TRIG.get e.w0 == 1
/-- LATE_ATTR = 1: a passed trigger is skipped. -/
def skips (e : SchedEntry) : Bool := SCHED.SE_W0_LATE_ATTR.get e.w0 == 1
/-- ACTION. -/
def action (e : SchedEntry) : Nat := SCHED.SE_W0_ACTION.get e.w0
/-- ARG. -/
def arg (e : SchedEntry) : Nat := SCHED.SE_W0_ARG.get e.w0
/-- PORT of a position trigger. -/
def port (e : SchedEntry) : Nat := SCHED.SE_W1_PORT.get e.w1
/-- DIR of a position trigger: host-bound. -/
def hostBound (e : SchedEntry) : Bool := SCHED.SE_W1_DIR.get e.w1 == 1
/-- GEN of a position trigger. -/
def gen (e : SchedEntry) : Nat := SCHED.SE_W1_GEN.get e.w1
/-- TB of a time trigger. -/
def tb (e : SchedEntry) : Nat := SCHED.SE_W1_TB.get e.w1
/-- CW of a position trigger. -/
def cw (e : SchedEntry) : Nat := e.w2.toNat + e.w3.toNat * 2 ^ 32
/-- The value of a time trigger, in ns. -/
def time (e : SchedEntry) : Nat :=
  (e.w3.toNat + SCHED.SE_W4_S_HI.get e.w4 * 2 ^ 32) * 1000000000 + e.w2.toNat
/-- PERIOD. -/
def period (e : SchedEntry) : Nat := e.w5.toNat
/-- TWIN = 1: the TWIN block supplies the trigger. -/
def twin (e : SchedEntry) : Bool := SCHED.SE_W6_TWIN.get e.w6 == 1
/-- TAG. -/
def tag (e : SchedEntry) : Nat := SCHED.SE_W6_TAG.get e.w6

/-- The entry with a time trigger at `t` ns. -/
def withTime (e : SchedEntry) (t : Nat) : SchedEntry :=
  let sec := t / 1000000000
  { e with w2 := BitVec.ofNat 32 (t % 1000000000), w3 := BitVec.ofNat 32 sec
           w4 := SCHED.SE_W4_S_HI.put e.w4 (sec / 2 ^ 32) }

/-- The entry with a position trigger at codeword `c`. -/
def withCw (e : SchedEntry) (c : Nat) : SchedEntry :=
  { e with w2 := BitVec.ofNat 32 c, w3 := BitVec.ofNat 32 (c / 2 ^ 32) }

/-- The entry disabled. -/
def off (e : SchedEntry) : SchedEntry :=
  { e with w0 := SCHED.SE_W0_EN.put e.w0 0, state := 0, passed := false, supplied := false }

/-- An ACTION that cannot be enabled (R288). -/
def refused (e : SchedEntry) : Bool :=
  decide (11 ≤ e.action) || (e.action == 2 && !e.twin) || (e.action == 10 && e.isTime)

end SchedEntry

namespace State

/-! ### Blocks armed on an entry (R47 to R49) -/

/-- Block `b` is armed. -/
def armed (s : State) (b : Nat) : Bool := s.fb b HDR.STAGE_STAT_ARMED

/-- The blocks armed on entry `k`. -/
def armedOn (s : State) (k : Nat) : List Nat :=
  (List.range Blk.count).filter fun b => s.armed b && s.f b HDR.STAGE_CTL_COMMIT_SE == k

/-- A commit attempt of a block ends, or the block is disarmed: LAST, ARMED and SE_EN, COMMIT (R47 to R49). -/
def blkReport (s : State) (b last : Nat) : State :=
  (((s.setF b HDR.STAGE_STAT_LAST last).setF b HDR.STAGE_STAT_ARMED 0).setF b HDR.STAGE_CTL_SE_EN 0).raise b HDR.INT_COMMIT

/-- Disarms a block with the report DISARMED; nothing when it is not armed (R49). -/
def disarm (s : State) (b : Nat) : State := if s.armed b then s.blkReport b 7 else s

/-- Reports an outcome to every block armed on entry `k`. -/
def reportArmed (s : State) (k last : Nat) : State := (s.armedOn k).foldl (fun s b => s.blkReport b last) s

/-! ### Entries -/

/-- Entry `k`. -/
def se (s : State) (k : Nat) : SchedEntry := SMap.get {} s.sched.entries k

/-- Sets entry `k`. -/
def setSe (s : State) (k : Nat) (e : SchedEntry) : State :=
  { s with sched := { s.sched with entries := SMap.put {} s.sched.entries k e } }

/-- The number of enabled entries. -/
def seEnabled (s : State) : Nat := (s.sched.entries.filter fun x => x.2.en).length

/-- The value of a time base in whole ns. -/
def tbNs (s : State) (n : Nat) : Nat := s.tbAcc n / nsUnit

/-- The history FIFO takes a record, or drops it (R292). -/
def histPush (s : State) (r : HistRec) : State :=
  if s.sched.hist.length < 32 then { s with sched := { s.sched with hist := s.sched.hist ++ [r] } }
  else
    let s := s.setReg Blk.sched SCHED.HIST_DROP (BitVec.ofNat 32 (min (2 ^ 32 - 1) ((s.reg Blk.sched SCHED.HIST_DROP).toNat + 1)))
    s.flag Blk.sched SCHED.HIST_STAT_OVF SCHED.INT_HIST_OVF

/-- The position a record of entry `k` carries (R287): that of the trigger, or none. -/
def sePos (e : SchedEntry) : Pos :=
  if e.isTime then {} else { valid := true, port := e.port, hostBound := e.hostBound, gen := e.gen, cw := e.cw }

/-- Records an outcome of entry `k` (R292): 1 FIRED, 2 LATE, 3 SKIPPED, 4 REFUSED, 5 DISARMED, 6 LOST. -/
def seRecord (s : State) (k o : Nat) : State :=
  let e := s.se k
  let s := s.setSe k { e with last := o, fireCnt := if o = 1 ∨ o = 2 then min 255 (e.fireCnt + 1) else e.fireCnt }
  let t := s.evtTime
  let s := s.histPush { entry := k, outcome := o, action := e.action, pos := sePos e, coarse := s.evtCoarse
                        ns := t.ns, sec := t.sec }
  let s := if SCHED.SE_W0_LOG.get e.w0 = 1 then
      s.logRecord { typ := 0x0030, src := Blk.sched, pos := sePos e, payload := logPayload [k, o, e.action] }
    else s
  if SCHED.SE_W0_INT.get e.w0 = 1 ∧ 1 ≤ o ∧ o ≤ 4 then s.raise Blk.sched (SCHED.INT_FIRED + o - 1) else s

/-- Disables entry `k`. -/
def seOff (s : State) (k : Nat) : State := s.setSe k (s.se k).off

/-- After a firing or skip (R291): a repeating time entry advances to the first trigger that lies in the future, a
position entry by PERIOD codewords past the present count; any other entry is disabled. `ended`: its generation ended. -/
def seAdvance (s : State) (k : Nat) (ended : Bool) : State :=
  let e := s.se k
  if e.period = 0 ∨ ended then s.seOff k
  else if e.isTime then
    let now := s.tbNs e.tb
    let i := if now < e.time then 1 else (now - e.time) / e.period + 1
    s.setSe k { e.withTime (e.time + i * e.period) with state := 1, passed := false }
  else
    let now := (s.portPos e.port e.hostBound).cw
    let i := if now < e.cw then 1 else (now - e.cw) / e.period + 1
    s.setSe k { e.withCw (e.cw + i * e.period) with state := 1, passed := false }

/-- Entry `k` skips (R48, R290): its blocks report SKIPPED. -/
def seSkip (s : State) (k : Nat) (ended : Bool) : State :=
  (((s.reportArmed k 6).seRecord k 3).seAdvance k ended)

/-- The trigger of an enabled entry has passed (R290): a skipping entry skips at once, a late one waits to fire. -/
def sePassed (s : State) (k : Nat) (ended : Bool) : State :=
  let e := s.se k
  if e.skips then s.seSkip k ended else s.setSe k { e with passed := true }

/-- The named generation of a position trigger has ended: an earlier one, or the present one while VALID = 0. -/
def genGone (s : State) (e : SchedEntry) : Bool :=
  let p := s.portPos e.port e.hostBound
  let ahead := (e.gen + 65536 - p.gen) % 65536
  if ahead = 0 then !p.valid else decide (32768 ≤ ahead)

/-- The trigger of an entry is reached: its codeword has crossed, or its time base is at or past its value (R287). -/
def seReached (s : State) (e : SchedEntry) : Bool :=
  if e.isTime then decide (e.time ≤ s.tbNs e.tb)
  else
    let p := s.portPos e.port e.hostBound
    p.valid && p.gen == e.gen && decide (e.cw ≤ p.cw)

/-- Four datapath cycles, in units of 2^-48 ns: a cycle lasts 40 * 1024 / 36125 ns. -/
def fourCycles : Nat := 163840 * nsUnit / 36125

/-- The trigger lies less than 4 datapath cycles ahead, or behind (R290 case 1), or its time base is disabled (case 5). -/
def seLate (s : State) (e : SchedEntry) : Bool :=
  if e.isTime then !s.fb Blk.time (TIME.TB_CTL_EN e.tb) || decide (e.time * nsUnit < s.tbAcc e.tb + fourCycles)
  else s.genGone e || s.seReached e

/-- Evaluates an entry that has just been enabled or supplied with its trigger. -/
def seEval (s : State) (k : Nat) : State :=
  let e := s.se k
  let s := s.setSe k { e with state := 1, passed := false }
  if s.seLate e then s.sePassed k (!e.isTime && s.genGone e) else s

/-- Entry `k` is enabled (R288, R289): refused, waiting for TWIN, or evaluated at once. -/
def seEnable (s : State) (k : Nat) : State :=
  let e := s.se k
  if e.refused then ((s.seRecord k 4).raise Blk.sched SCHED.INT_REFUSED).seOff k
  else if e.twin then s.setSe k { e with state := 2, passed := false, supplied := false }
  else s.seEval k

/-- Disables an enabled entry from outside (R49, R289): its blocks are disarmed and the disarm is recorded. -/
def seDisarm (s : State) (k : Nat) : State :=
  if !(s.se k).en then s
  else (((s.armedOn k).foldl disarm s).seRecord k 5).seOff k

/-- A host write of word `w` (0 to 6) of entry `k` (R289). -/
def seWrite (s : State) (k w : Nat) (v : Word) : State :=
  let s := s.seDisarm k
  let e := s.se k
  let mask : Word := BitVec.ofNat 32 (match w with
    | 0 => 0xFFFF0F6F | 1 => 0xFFFF037F | 4 => 0xFFFF | 6 => 0x1FFFF | _ => 0xFFFFFFFF)
  let v := v &&& mask
  let e := match w with
    | 0 => { e with w0 := v }
    | 1 => { e with w1 := v }
    | 2 => { e with w2 := v }
    | 3 => { e with w3 := v }
    | 4 => { e with w4 := v }
    | 5 => { e with w5 := v }
    | _ => { e with w6 := v }
  let s := s.setSe k e
  if w = 0 ∧ e.en then s.seEnable k else s

/-- TWIN supplies the position trigger of entry `k`; the entry is neither disabled nor disarmed (R289). -/
def seSupply (s : State) (k port : Nat) (hostBound : Bool) (gen cw : Nat) : State :=
  let e := s.se k
  let w1 := SCHED.SE_W1_GEN.put (SCHED.SE_W1_DIR.put (SCHED.SE_W1_PORT.put e.w1 port) hostBound.toNat) gen
  let e := { e.withCw cw with w0 := SCHED.SE_W0_TRIG.put e.w0 0, w1 := w1, supplied := true }
  (s.setSe k e).seEval k

/-- TWIN decides not to commit (R233, R289): the entry is disabled and SKIPPED is recorded. -/
def seTwinSkip (s : State) (k : Nat) : State :=
  if (s.se k).en then (((s.reportArmed k 6).seRecord k 3).seOff k) else s

/-- The word SE_W7 (R289). -/
def seW7 (s : State) (k : Nat) : Word :=
  let e := s.se k
  BitVec.ofNat 32 (e.state + e.last * 2 ^ 4 + e.fireCnt * 2 ^ 8 + min 255 (s.armedOn k).length * 2 ^ 16)

/-- The indices of the enabled entries that satisfy `p`. -/
def seWhere (s : State) (p : SchedEntry → Bool) : List Nat := (s.sched.entries.filter fun x => x.2.en && p x.2).map (·.1)

/-- Every enabled entry with a trigger that satisfies `p` has passed. -/
def seAllPassed (s : State) (ended : Bool) (p : SchedEntry → Bool) : State :=
  (s.seWhere fun e => e.state == 1 && !e.passed && p e).foldl (fun s k => s.sePassed k ended) s

/-- The relations of R230 that the end of a generation of port `p` in one direction makes invalid. -/
def relEnded (s : State) (p : Nat) (hostBound : Bool) : State :=
  let k := 2 * p + hostBound.toNat
  { s with twin := { s.twin with rel := s.twin.rel.map fun x => if x.1 = k then (x.1, { x.2 with valid := false }) else x } }

/-- The generation of port `p` in one direction has ended (R230, R290 case 3). -/
def genEnded (s : State) (p : Nat) (hostBound : Bool) : State :=
  (s.relEnded p hostBound).seAllPassed true fun e =>
    !e.isTime && e.port == p && e.hostBound == hostBound && e.gen == (s.portPos p hostBound).gen

/-- A time base has been carried from `old` to its present value (R290 case 2). -/
def tbJumped (s : State) (n old : Nat) : State :=
  s.seAllPassed false fun e => e.isTime && e.tb == n && decide (old / nsUnit < e.time) && decide (e.time ≤ s.tbNs n)

/-- Time base `n` is disabled (R290 case 5). -/
def tbStopped (s : State) (n : Nat) : State := s.seAllPassed false fun e => e.isTime && e.tb == n

/-- The device is back in PS0: entries held in a state, and those reached in it, are judged (R290 case 4, R293). -/
def schedResume (s : State) : State :=
  (s.seWhere fun e => e.state == 3 || (e.state == 1 && !e.passed && s.seReached e)).foldl (fun s k =>
    (s.setSe k { s.se k with state := 1 }).sePassed k (!(s.se k).isTime && s.genGone (s.se k))) s

end State
end Sys2Proof.Machine
end

