-- ==== Sys2Proof/Machine/FogOps.lean ====
section
/-! DEFINITION. Operations of the Foghorn channel (spec/10): paths, buffers, the transmitter, the receiver and its ring. -/

namespace Sys2Proof.Machine

/-- A pair of PHY_CFG and FREQ is consistent (R248). Frequencies in units of 125 Hz. -/
def fogPairOk (phy freq : Word) : Bool :=
  let bw := 250 * 2 ^ FOG.PHY_CFG_BW.get phy
  let fc := 8 * FOG.FREQ_FC.get freq
  let sf := FOG.PHY_CFG_SF.get phy
  decide (400 + bw / 2 ≤ fc) && decide (fc + bw / 2 ≤ 7200) && decide (6 ≤ sf) && decide (sf ≤ 11)
    && decide (FOG.PHY_CFG_CR.get phy ≤ 2) && decide (8 ≤ FOG.PHY_CFG_PRE_LEN.get phy)

namespace State

/-- PD_FOG is up. -/
def fogOn (s : State) : Bool := s.domReady Dom.fog

/-- RX_STATE: 0 OFF, 1 SEARCH, 2 PREAMBLE, 3 MARKER, 4 HEADER, 5 PAYLOAD. -/
def fogRx (s : State) : Nat := s.f Blk.fog FOG.FOG_STAT_RX_STATE

/-- Counts in counter `i` of FOG (R262 to R265). -/
def fogCount (s : State) (i : Nat) : State :=
  let r := s.count32 Blk.fog (FOG.CNT i) 1
  if r.2 then
    (r.1.setF Blk.fog FOG.CNT_CTL_WRAP (r.1.f Blk.fog FOG.CNT_CTL_WRAP ||| 2 ^ i)).raise Blk.fog FOG.INT_WRAPPED
  else r.1

/-- The path that RX_PATH selects (R253): 1 baseline, 2 photodiode. In PS4 only the photodiode path is used (R268). -/
def fogPath (s : State) : Nat :=
  if s.f Blk.pwr PWR.STAT_STATE = 4 then 2
  else match s.f Blk.fog FOG.FOG_CTL_RX_PATH with
  | 0 => 1
  | 1 => 2
  | _ =>
    if (List.range 17).any fun n => (s.f Blk.fog FOG.RX_LANES_LANES).testBit n && s.blkOn (Blk.llane n)
        && s.fb (Blk.llane n) LLANE.RX_CTL_RX_EN then 1 else 2

/-- Enters SEARCH, where the path is chosen. -/
def fogSearch (s : State) : State :=
  (s.setF Blk.fog FOG.FOG_STAT_RX_STATE 1).setF Blk.fog FOG.FOG_STAT_PATH s.fogPath

/-- A write of FOG_CTL (R253, R262). -/
def fogCtl (s : State) (v : Word) : State :=
  let was := s.fb Blk.fog FOG.FOG_CTL_RX_EN
  let s := s.writeReg Blk.fog FOG.FOG_CTL v
  let now := s.fb Blk.fog FOG.FOG_CTL_RX_EN
  if now then (if !was || s.fogRx = 1 then s.fogSearch else s)
  else if was then
    ((s.setF Blk.fog FOG.FOG_STAT_RX_STATE 0).setF Blk.fog FOG.FOG_STAT_PATH 0).setF Blk.fog FOG.FOG_STAT_DUTY 0
  else s

/-! ### Transmission (R256 to R261) -/

/-- CFG_REFUSED of FOG. -/
def fogRefused (s : State) : State := s.flag Blk.fog FOG.FOG_STAT_CFG_REFUSED FOG.INT_CFG_REFUSED

/-- Buffer `b` is BUSY. -/
def fogBusy (s : State) (b : Nat) : Bool := (s.f Blk.fog FOG.TX_QSTAT_BUSY).testBit b

/-- Sets or clears BUSY of a buffer. -/
def setFogBusy (s : State) (b : Nat) (on : Bool) : State :=
  let w := s.f Blk.fog FOG.TX_QSTAT_BUSY
  s.setF Blk.fog FOG.TX_QSTAT_BUSY (if w.testBit b == on then w else w ^^^ 2 ^ b)

/-- A write of TX_QCTL (R261). -/
def fogQueue (s : State) (v : Word) : State :=
  let b := FOG.TX_QCTL_BUF.get v
  let len := FOG.TX_QCTL_LEN.get v
  if FOG.TX_QCTL_GO.get v = 0 then s
  else if b = 0 ∨ s.fogBusy b ∨ len = 0 then s.fogRefused
  else ({ s with fog := { s.fog with txLen := SMap.set s.fog.txLen b len } }).setFogBusy b true

/-- The TWIN block gives a message to buffer 0 (R261). -/
def fogTwin (s : State) (m : TwinMsg) : State :=
  ({ s with fog := { s.fog with twinQ := s.fog.twinQ ++ [m] } }).setFogBusy 0 true

/-- The bytes of a queued host buffer. -/
def fogBytes (s : State) (b : Nat) : List Byte :=
  (List.range (SMap.get (0 : Nat) s.fog.txLen b)).map fun i => SMap.get (0 : Byte) s.fog.txBuf (1024 * b + i)

/-- The transmitter can run: TX_EN, its domain, and a state of PS2 or shallower (R268). -/
def fogTxRuns (s : State) : Bool :=
  s.fogOn && s.fb Blk.fog FOG.FOG_CTL_TX_EN && decide (s.f Blk.pwr PWR.STAT_STATE < 3)

/-- The lowest-numbered queued buffer starts (R261); nothing when none is queued or a packet is being sent. -/
def fogStart (s : State) : State :=
  if !s.fogTxRuns || s.fog.sending.isSome || s.hsHolds Blk.fog then s
  else match (List.range 4).find? s.fogBusy with
  | none => s
  | some b =>
    let s := ({ s with fog := { s.fog with sending := some b } }).setF Blk.fog FOG.FOG_STAT_TX_BUSY 1
    let phy := s.usedReg Blk.fog FOG.PHY_CFG
    let seq := s.f Blk.fog FOG.TX_SEQ_SEQ
    if b = 0 then
      match s.fog.twinQ.head? with
      | some m => s.send (.twin m.typ m.cnt m.fields)
      | none => s
    else
      let data := s.fogBytes b
      s.send (.packet seq (Fog.symbols (FOG.PHY_CFG_SF.get phy) (s.f Blk.fog FOG.LINK_CODE)
        (Fog.headerInfo seq data.length (FOG.PHY_CFG_CR.get phy)) data))

/-- PACKET_TX_START without slotting (R261). -/
def fogTxStart (s : State) : State := if s.fb Blk.fog FOG.FOG_CTL_SLOTTED then s else s.fogStart

/-- A slot firing (R261, R288). -/
def fogSlot (s : State) : State := if s.fb Blk.fog FOG.FOG_CTL_SLOTTED then s.fogStart else s

/-- The buffer being sent leaves the transmitter. -/
def fogEnd (s : State) : State :=
  match s.fog.sending with
  | none => s
  | some b =>
    let own := b != 0 || (match s.fog.twinQ.head? with
      | some m => m.cnt == 0
      | none => false)
    let q := if b = 0 then s.fog.twinQ.drop 1 else s.fog.twinQ
    let s := ({ s with fog := { s.fog with sending := none, twinQ := q } }).setF Blk.fog FOG.FOG_STAT_TX_BUSY 0
    let s := s.setFogBusy b (b == 0 && !q.isEmpty)
    if own then s.setF Blk.fog FOG.TX_SEQ_SEQ (s.f Blk.fog FOG.TX_SEQ_SEQ + 1) else s

/-- A time `ago` ns before the present of the event time base, moved by `adj` ns: seconds [31:0] and nanoseconds. -/
def fogStamp (s : State) (ago : Nat) (adj : Int) : Nat × Nat :=
  if !s.timeOn then (0, 0)
  else
    let t : Int := (s.tbNs s.evtTb : Int) - ago + adj
    (unsignedOf 32 (t / 1000000000), (t % 1000000000).toNat)

/-- Group delays of REF_LANE in whole ns, rounded to nearest. -/
def fogDelay (s : State) (tx : Bool) : Int :=
  let n := s.f Blk.fog FOG.FOG_CTL_REF_LANE
  let ps := if 16 < n then 0 else if tx then s.encGdly n + s.txGdly n else s.rxGdly n + s.decGdly n
  (ps + 500) / 1000

/-- The last symbol of a packet is sent, `ago` ns after its reference point left the pins (R261, R266). -/
def fogTxDone (s : State) (ago : Nat) : State :=
  match s.fog.sending with
  | none => s
  | some b =>
    let adj := signed 16 (s.f Blk.fog FOG.TS_ADJ_TX_ADJ)
    let pin := s.fogStamp ago adj
    let bnd := s.fogStamp ago (adj - s.fogDelay true)
    let w := fun (n : Nat) => BitVec.ofNat 32 n
    let s := (s.setReg Blk.fog FOG.TX_TS_NS (w pin.2)).setReg Blk.fog FOG.TX_TS_S (w pin.1)
    let s := (s.setReg Blk.fog FOG.TX_BTS_NS (w bnd.2)).setReg Blk.fog FOG.TX_BTS_S (w bnd.1)
    let s := (s.fogEnd.fogCount 1).perf 14 4 1
    (s.setF Blk.fog FOG.TX_QSTAT_DONE (s.f Blk.fog FOG.TX_QSTAT_DONE ||| 2 ^ b)).raise Blk.fog FOG.INT_TX_DONE

/-! ### Reception (R262 to R266) -/

/-- A new reception starts from a preamble with this metric and power. -/
def fogNew (s : State) (metric : Nat) (power : BitVec 16) : State :=
  ({ s with fog := { s.fog with metric := metric, power := power } }).setF Blk.fog FOG.FOG_STAT_RX_STATE 2

/-- A preamble is detected (R262, R264). Power is signed, in 0.25 dB. -/
def fogPreamble (s : State) (metric : Nat) (power : BitVec 16) : State :=
  let st := s.fogRx
  let margin : Int := 4 * (s.f Blk.fog FOG.DET_CTL_CAPTURE_MARGIN : Int)
  if !s.fogOn || st = 0 then s
  else if st = 1 then s.fogNew metric power
  else if s.fog.power.toInt + margin ≤ power.toInt then
    ((s.fogCount 7).raise Blk.fog FOG.INT_CAPTURED).fogNew metric power
  else if st = 5 then s.fogCount 6
  else if s.fog.metric < metric then (s.fogCount 5).fogNew metric power
  else s

/-- The first symbol outside the preamble bin (R262). -/
def fogPreEnd (s : State) : State := if s.fogOn && s.fogRx = 2 then s.setF Blk.fog FOG.FOG_STAT_RX_STATE 3 else s

/-- The frame marker is found, or missed (R262). -/
def fogMarker (s : State) (found : Bool) : State :=
  if !s.fogOn || s.fogRx ≠ 3 then s
  else if found then s.setF Blk.fog FOG.FOG_STAT_RX_STATE 4
  else (s.fogCount 4).fogSearch

/-- The header is decoded, `ago` ns after the reference point reached the pins (R257, R262, R266). -/
def fogHeader (s : State) (info : BitVec 32) (crc : BitVec 16) (ago : Nat) : State :=
  if !s.fogOn || s.fogRx ≠ 4 then s
  else if Fog.crc16 (Fog.lowFirst 32 info.toNat) = crc.toNat ∧ Fog.headerOk info.toNat then
    let adj := - signed 16 (s.f Blk.fog FOG.TS_ADJ_RX_ADJ)
    let pin := s.fogStamp ago adj
    let bnd := s.fogStamp ago (adj + s.fogDelay false)
    ({ s with fog := { s.fog with hdr := info.toNat, pinNs := pin.2, pinS := pin.1, bndNs := bnd.2, bndS := bnd.1 } }).setF
      Blk.fog FOG.FOG_STAT_RX_STATE 5
  else ((s.fogCount 2).raise Blk.fog FOG.INT_HDR_FAIL).fogSearch

/-- The last payload symbol is decoded (R262, R265): the packet goes to TWIN or the ring. A HAIL received in PS4 wakes the
device (R268). -/
def fogPayload (s : State) (data : List Byte) (crc : BitVec 32) (snr power drift : BitVec 16) : State :=
  if !s.fogOn || s.fogRx ≠ 5 then s
  else
    let h := s.fog.hdr
    let len := bitsOf h 16 10
    let p := (data ++ List.replicate len 0).take len
    let s := (s.setF Blk.fog FOG.LAST_RX_SNR snr.toNat).setF Blk.fog FOG.LAST_RX_POWER power.toNat
    let s := s.setF Blk.fog FOG.TRACK_DRIFT drift.toNat
    let path := s.f Blk.fog FOG.FOG_STAT_PATH
    if Codec.crc32c p ≠ crc then ((s.fogCount 3).raise Blk.fog FOG.INT_PAY_FAIL).fogSearch
    else
      let s := ((s.fogCount 0).perf 14 3 1).fogSearch
      let b0 := ((p.head?).getD 0).toNat
      let s := if b0 = 1 ∧ s.f Blk.pwr PWR.STAT_STATE = 4 then s.wakeUp 6 else s
      if b0 < 0x80 then s
      else if s.fog.ring.length < 8 then
        let e : FogPacket := { seq := bitsOf h 0 16, len := len, cr := bitsOf h 26 2, path := path
                               pinNs := s.fog.pinNs, pinS := s.fog.pinS, bndNs := s.fog.bndNs, bndS := s.fog.bndS
                               snr := snr, power := power, payload := p }
        (({ s with fog := { s.fog with ring := s.fog.ring ++ [e] } }).setF Blk.fog FOG.RX_RING_COUNT
          (s.fog.ring.length + 1)).raise Blk.fog FOG.INT_RX_PKT
      else (s.fogCount 9).flag Blk.fog FOG.FOG_STAT_RX_OVF FOG.INT_RX_OVF

/-- Two consecutive weak pilots (R262, R263). -/
def fogTrackLost (s : State) : State :=
  if s.fogOn && decide (2 ≤ s.fogRx) then ((s.fogCount 8).raise Blk.fog FOG.INT_TRACK_LOST).fogSearch else s

/-- Frees the oldest ring entry (R265). -/
def fogPop (s : State) : State :=
  ({ s with fog := { s.fog with ring := s.fog.ring.drop 1 } }).setF Blk.fog FOG.RX_RING_COUNT (s.fog.ring.length - 1)

/-- A listening window of the duty cycle opens or closes in PS4 (R268). -/
def fogDuty (s : State) (listen : Bool) : State :=
  if s.fogOn && s.fb Blk.fog FOG.FOG_CTL_RX_EN && s.f Blk.pwr PWR.STAT_STATE == 4 && decide (s.fogRx ≤ 1) then
    let s := s.setF Blk.fog FOG.FOG_STAT_DUTY 1
    if listen then s.fogSearch else s.setF Blk.fog FOG.FOG_STAT_RX_STATE 0
  else s

/-- Word `i` of the oldest ring entry (R265). -/
def fogRingWord (s : State) (i : Nat) : Word :=
  match s.fog.ring.head? with
  | none => 0
  | some e =>
    BitVec.ofNat 32 (match i with
    | 0 => e.seq + e.len * 2 ^ 16 + e.cr * 2 ^ 26 + e.path * 2 ^ 28
    | 1 => e.pinNs
    | 2 => e.pinS
    | 3 => e.bndNs
    | 4 => e.bndS
    | 5 => e.snr.toNat + e.power.toNat * 2 ^ 16
    | _ => Codec.ofBytes ((e.payload.drop (4 * (i - 6))).take 4))

/-- WORD of an index register advances when AUTO_INC = 1. -/
def idxAdvance (s : State) (b : Nat) (word auto : Fld) : State :=
  if s.fb b auto then s.setF b word (s.f b word + 1) else s

/-- A write of TXB_DATA: buffer 0 refuses it. -/
def fogTxbWrite (s : State) (v : Word) : State :=
  let b := s.f Blk.fog FOG.TXB_IDX_BUF
  let a := 1024 * b + 4 * s.f Blk.fog FOG.TXB_IDX_WORD
  let s := if b = 0 then s
    else { s with fog := { s.fog with
      txBuf := (List.range 4).foldl (fun m i => SMap.put (0 : Byte) m (a + i) (BitVec.ofNat 8 (v.toNat / 256 ^ i)))
        s.fog.txBuf } }
  s.idxAdvance Blk.fog FOG.TXB_IDX_WORD FOG.TXB_IDX_AUTO_INC

/-- The word TXB_DATA shows. -/
def fogTxbPeek (s : State) : Word :=
  let b := s.f Blk.fog FOG.TXB_IDX_BUF
  let a := 1024 * b + 4 * s.f Blk.fog FOG.TXB_IDX_WORD
  if b = 0 then 0
  else BitVec.ofNat 32 (Codec.ofBytes ((List.range 4).map fun i => SMap.get (0 : Byte) s.fog.txBuf (a + i)))

/-- A write of HDAC_TX (R251): a channel that is not in stream update mode refuses the stream. -/
def fogHdacTx (s : State) (v : Word) : State :=
  let s := s.writeReg Blk.fog FOG.HDAC_TX v
  if s.fb Blk.fog FOG.HDAC_TX_EN && s.f Blk.hdac (HDAC.CH_CTL_UPD (s.f Blk.fog FOG.HDAC_TX_CH)) != 2 then
    (s.setF Blk.fog FOG.HDAC_TX_EN 0).fogRefused
  else s

/-- The answer of FOG in the power handshake (R267); `ms` is the remaining duration of the packet. -/
def fogAnswer (s : State) (ms : Nat) : PwrAnswer :=
  if s.fog.sending.isNone && decide (s.fogRx ≤ 4) then .accept
  else if ms ≤ s.f Blk.fog FOG.PWR_CTL_MAX_WAIT then .delay (1000 * ms)
  else if s.fb Blk.fog FOG.PWR_CTL_ABORT_OK then .accept
  else .refuse 5

/-- FOG ends its packet at once (R267). -/
def fogAbort (s : State) : State :=
  let s := match s.fog.sending with
    | some b => (s.fogEnd).setF Blk.fog FOG.TX_QSTAT_ABORTED (s.f Blk.fog FOG.TX_QSTAT_ABORTED ||| 2 ^ b)
    | none => s
  if s.fogRx = 5 then (s.fogCount 9).fogSearch else s

end State
end Sys2Proof.Machine
end

