-- ==== Sys2Proof/Machine/PortOps.lean ====
section
/-! DEFINITION. Operations of the ports (spec/08): the declared pairs, readiness, the alignment states, line positions,
monitors and counters. A direction is a Boolean: true is host-bound. -/

namespace Sys2Proof.Machine

/-- Host lanes that a port type needs at a rate code (R198). -/
def hostLaneCount (typ hrate : Nat) : Option Nat :=
  match typ, hrate with
  | 1, 1 => some 4 | 1, 2 => some 2 | 1, 3 => some 1
  | 2, 2 => some 4 | 2, 3 => some 2 | 2, 4 => some 1
  | 3, 2 => some 8 | 3, 3 => some 4 | 3, 4 => some 2
  | 4, 3 => some 8 | 4, 4 => some 4
  | 5, 3 => some 16 | 5, 4 => some 8
  | _, _ => none

/-- The marker period P in codewords of flow 0 by port type (R209: as IEEE 802.3 sets it). -/
def markerPeriod (typ : Nat) : Nat := if typ = 1 ∨ typ = 2 then 4096 else if 3 ≤ typ ∧ typ ≤ 5 then 8192 else 0

/-- The placement words of a port: PORT_CFG, HOST_MAP and LINE_MAP. -/
structure PortView where
  cfg : Word
  host : Word
  line : Word
deriving DecidableEq, Repr

namespace PortView
/-- TYPE. -/
def typ (v : PortView) : Nat := PORT.PORT_CFG_TYPE.get v.cfg
/-- SLOTS. -/
def slots (v : PortView) : Nat := PORT.PORT_CFG_SLOTS.get v.cfg
/-- HRATE. -/
def hrate (v : PortView) : Nat := PORT.PORT_CFG_HRATE.get v.cfg
/-- The host cluster. -/
def hclu (v : PortView) : Nat := PORT.HOST_MAP_HCLU.get v.host
/-- The first logical host lane. -/
def first (v : PortView) : Nat := PORT.HOST_MAP_FIRST.get v.host
/-- LANEf: the whole 8-bit place of flow f, of which five bits are defined. -/
def laneOf (v : PortView) (f : Nat) : Nat := bitsOf v.line.toNat (8 * f) 5
/-- The logical line lanes of the port. -/
def lanes (v : PortView) : List Nat := (List.range (State.portLanes v.typ)).map v.laneOf
/-- The logical host lanes of the port. -/
def hostLanes (v : PortView) : List Nat :=
  (List.range ((hostLaneCount v.typ v.hrate).getD 0)).map (v.first + ·)
/-- The two ports claim a logical host lane, or a slot of a logical line lane, in common (pair 3 of R217). -/
def clash (v u : PortView) : Bool :=
  (v.hclu == u.hclu && v.hostLanes.any u.hostLanes.contains)
    || (v.lanes.any u.lanes.contains && (v.slots &&& u.slots) != 0)
end PortView

/-- Pair 1 (R198, R199, R217). -/
def portPair1 (v : PortView) : Bool :=
  v.typ == 0 ||
    match hostLaneCount v.typ v.hrate with
    | none => false
    | some l => v.first % l == 0 && v.first + l ≤ 16 && (v.hrate != 4 || v.hclu ≤ 1)

/-- SLOTS permitted for a type on lanes of a rate and FEC mode (R200, R201). -/
def slotsPermitted (typ rate slots : Nat) (term : Bool) : Bool :=
  match typ, rate with
  | 1, 0 => !term && (slots == 1 || slots == 2 || slots == 4 || slots == 8)
  | 1, 1 => slots == 1 || slots == 2
  | 1, 2 => slots == 1
  | 2, 0 => slots == 5 || slots == 10
  | 2, 1 => slots == 3
  | 3, 0 | 4, 0 | 5, 0 => slots == 15
  | _, _ => false

namespace State

/-- The physical receive lane of logical line lane `l` (R200, R238). -/
def physRx (s : State) (l : Nat) : Nat := if s.substituted = some l then 16 else l

/-- The active placement words of port `p`. -/
def portView (s : State) (p : Nat) : PortView :=
  ⟨s.reg (Blk.port p) PORT.PORT_CFG, s.reg (Blk.port p) PORT.HOST_MAP, s.reg (Blk.port p) PORT.LINE_MAP⟩

/-- The shadow placement words of port `p`. -/
def portShadow (s : State) (p : Nat) : PortView :=
  ⟨s.shadow (Blk.port p) PORT.PORT_CFG, s.shadow (Blk.port p) PORT.HOST_MAP, s.shadow (Blk.port p) PORT.LINE_MAP⟩

/-- The placement words that port `p` uses (R50). -/
def portUsed (s : State) (p : Nat) : PortView :=
  ⟨s.usedReg (Blk.port p) PORT.PORT_CFG, s.usedReg (Blk.port p) PORT.HOST_MAP, s.usedReg (Blk.port p) PORT.LINE_MAP⟩

/-- RATE of logical line lane `l`. -/
def lineRate (s : State) (l : Nat) : Nat := s.f (Blk.llane (s.physRx l)) LLANE.RX_CTL_RATE

/-- Pair 2 (R200, R201, R217): distinct lanes below 16 that share one RATE and one MODE, a permitted slot set, and zeros in
the unused LANEf. -/
def portPair2 (s : State) (v : PortView) : Bool :=
  v.typ == 0 ||
    match v.lanes with
    | [] => false
    | l0 :: _ =>
      v.lanes.all (· < 16) && v.lanes.eraseDups.length == v.lanes.length
        && (List.range 4).all (fun f => decide (f < v.lanes.length) || v.laneOf f == 0)
        && v.lanes.all (fun l => s.lineRate l == s.lineRate l0 && s.terminated (s.physRx l) == s.terminated (s.physRx l0))
        && slotsPermitted v.typ (s.lineRate l0) v.slots (s.terminated (s.physRx l0))

/-- Pair 3 (R217): an enabled port with a placement shares no host lane and no slot with another enabled port; `peer` gives
the placement words of each other port. -/
def portPair3 (s : State) (p : Nat) (v : PortView) (peer : Nat → PortView) : Bool :=
  !s.portEnabled p || (List.range 64).all fun q => q == p || !s.portEnabled q || !v.clash (peer q)

/-- The inconsistent pairs of port `p` for given words. -/
def portPairsBad (s : State) (p : Nat) (v : PortView) (peer : Nat → PortView) : List Nat :=
  (if portPair1 v then [] else [1]) ++ (if s.portPair2 v then [] else [2]) ++
    (if s.portPair3 p v peer then [] else [3])

/-! ### Readiness (R206) -/

/-- The logical lane that RX_LMAP gives to physical lane `j` of HCk (R183); the map in use. -/
def rxLmap (s : State) (k j : Nat) : Nat :=
  bitsOf (s.usedReg (Blk.hclu k) (if j < 8 then HCLU.RX_LMAP0 else HCLU.RX_LMAP1)).toNat (4 * (j % 8)) 4

/-- The logical lane that TX_LMAP gives to physical lane `j` of HCk. -/
def txLmap (s : State) (k j : Nat) : Nat :=
  bitsOf (s.usedReg (Blk.hclu k) (if j < 8 then HCLU.TX_LMAP0 else HCLU.TX_LMAP1)).toNat (4 * (j % 8)) 4

/-- Host lane `m` is UP at rate code `r`. -/
def hostUpAt (s : State) (m r : Nat) : Bool :=
  s.blkOn (Blk.hlane m) && s.fb (Blk.hlane m) HLANE.HL_STAT_UP && !(s.hlane m).asleep && s.f (Blk.hlane m) HLANE.HL_STAT_RATE == r

/-- The physical host lanes that RX_LMAP assigns to the port's logical lanes. -/
def portHostPhys (s : State) (p : Nat) : List Nat :=
  let v := s.portUsed p
  ((List.range 16).filter fun j => v.hostLanes.contains (s.rxLmap v.hclu j)).map fun j => 16 * v.hclu + j

/-- The physical host lanes that TX_LMAP assigns to the port's logical lanes. -/
def portHostTxPhys (s : State) (p : Nat) : List Nat :=
  let v := s.portUsed p
  ((List.range 16).filter fun j => v.hostLanes.contains (s.txLmap v.hclu j)).map fun j => 16 * v.hclu + j

/-- Physical lane `n` has inner LOCK or LPC LOCK, whichever its mode uses. -/
def fecLocked (s : State) (n : Nat) : Bool :=
  if s.terminated n then s.fb Blk.fec (FEC.LPC_STAT_LOCK n) else s.fb (Blk.llane n) LLANE.INNER_STAT_LOCK

/-- The lanes of port `p` are ready in a direction (R206, R213). -/
def lanesReady (s : State) (p : Nat) (hb : Bool) : Bool :=
  let v := s.portUsed p
  !s.clocksStopped && v.typ != 0 &&
    if hb then v.lanes.all fun l => s.fecLocked (s.physRx l) && (s.f Blk.pmap PMAP.MUX_LOCK_LOCK).testBit l
    else
      let ph := s.portHostPhys p
      !ph.isEmpty && ph.all fun m => s.hostUpAt m v.hrate

/-- Port `p` may leave DOWN, or stay out of it, in a direction. -/
def portMayRun (s : State) (p : Nat) (hb : Bool) : Bool :=
  s.domReady Dom.pmap && s.portEnabled p && (s.portPairsBad p (s.portView p) s.portView).isEmpty && s.lanesReady p hb

/-! ### The alignment states (R206): 0 DOWN, 1 HUNT, 2 DESKEW, 3 ALIGNED, 4 FREEWHEEL -/

/-- The state field of a direction. -/
def dirStateF (hb : Bool) : Fld := if hb then PORT.ALIGN_STAT_RX_STATE else PORT.ALIGN_STAT_TX_STATE

/-- The VALID field of a direction. -/
def dirValidF (hb : Bool) : Fld := if hb then PORT.ALIGN_STAT_RX_VALID else PORT.ALIGN_STAT_TX_VALID

/-- The alignment state of a direction of port `p`. -/
def dirState (s : State) (p : Nat) (hb : Bool) : Nat := s.f (Blk.port p) (dirStateF hb)

/-- The direction is aligned: ALIGNED or FREEWHEEL. -/
def dirAligned (s : State) (p : Nat) (hb : Bool) : Bool := s.dirState p hb == 3 || s.dirState p hb == 4

/-- Moves a direction to a state that is not aligned: VALID clears, the generation ends, and the LOST source is raised when
asked and the direction was aligned. -/
def portLeave (s : State) (p : Nat) (hb : Bool) (st : Nat) (lost : Bool) : State :=
  let b := Blk.port p
  let was := s.dirAligned p hb
  let s := (s.setF b (dirStateF hb) st).setF b (dirValidF hb) 0
  let s := if was && lost then s.raise b (if hb then PORT.INT_RX_LOST else PORT.INT_TX_LOST) else s
  if was then s.genEnded p hb else s

/-- A FREEWHEEL direction holds while PS1 lasts and until the port's host lanes have left electrical idle (R213). -/
def freewheelHolds (s : State) (p : Nat) : Bool :=
  s.pwr.idle || (s.portHostPhys p ++ s.portHostTxPhys p).any fun m => (s.hlane m).asleep

/-- Re-evaluates a direction: DOWN to HUNT when it may run, any state to DOWN when it may not. In PS1 a FREEWHEEL direction
stays as it is (R213). -/
def portEval (s : State) (p : Nat) (hb : Bool) : State :=
  let st := s.dirState p hb
  if s.portMayRun p hb then
    if st = 0 then s.setF (Blk.port p) (dirStateF hb) 1 else s
  else if st = 0 ∨ (st = 4 ∧ s.portEnabled p ∧ s.freewheelHolds p ∧ !s.clocksStopped) then s
  else s.portLeave p hb 0 true

/-- The registers of pair `id` of a port page (R217). -/
def portPairRegs (id : Nat) : List Nat :=
  if id = 1 then [PORT.PORT_CFG, PORT.HOST_MAP] else if id = 2 then [PORT.PORT_CFG, PORT.LINE_MAP]
  else [PORT.HOST_MAP, PORT.LINE_MAP]

/-- Port `p` checks its pairs; `old` gives the words it used until now. -/
def portCheck (s : State) (p : Nat) (old : Nat → Word) : State :=
  let bad := s.portPairsBad p (s.portView p) s.portView
  s.pairsCheck (Blk.port p) ([1, 2, 3].map fun id =>
    { id := id, ok := !bad.contains id, regs := (portPairRegs id).map fun o => (o, old o) })

/-- Re-evaluates the pairs and both directions of port `p`. -/
def portEval2 (s : State) (p : Nat) : State :=
  ((s.portCheck p (s.usedReg (Blk.port p))).portEval p false).portEval p true

/-- Re-evaluates every enabled port. -/
def portsEval (s : State) : State :=
  (List.range 64).foldl (fun s p => if s.portEnabled p then s.portEval2 p else s) s

/-- AM_PERIOD follows the TYPE in use (R209). -/
def portPeriod (s : State) (p : Nat) : State :=
  s.setF (Blk.port p) PORT.AM_PERIOD_P (markerPeriod (s.portUsed p).typ)

/-- Port `p` is rebuilt by a commit or a direct write of its placement: both directions go to DOWN and start again (R218). -/
def portRebuild (s : State) (p : Nat) : State :=
  let s := s.portPeriod p
  let s := if s.dirState p false = 0 then s else s.portLeave p false 0 true
  let s := if s.dirState p true = 0 then s else s.portLeave p true 0 true
  s.portEval2 p

/-- Marker lock on every PCS lane or flow (R206): HUNT to DESKEW, with the skew measured. -/
def markerLock (s : State) (p : Nat) (hb : Bool) (skew : Nat) : State :=
  if s.dirState p hb = 1 then
    (s.setF (Blk.port p) (dirStateF hb) 2).setF (Blk.port p) (if hb then PORT.SKEW_LINE else PORT.SKEW_HOST) skew
  else s

/-- Sets the line position registers of a direction: CW and AMI = CW / P (R209). -/
def setPos (s : State) (p : Nat) (hb : Bool) (cw : Nat) : State :=
  let b := Blk.port p
  let per := s.f b PORT.AM_PERIOD_P
  let s := s.setReg b (if hb then PORT.LPOS_RX_LO else PORT.LPOS_TX_LO) (BitVec.ofNat 32 cw)
  let s := s.setReg b (if hb then PORT.LPOS_RX_HI else PORT.LPOS_TX_HI) (BitVec.ofNat 32 (cw / 2 ^ 32))
  s.setReg b (if hb then PORT.LPOS_RX_AM else PORT.LPOS_TX_AM) (BitVec.ofNat 32 (cw / per))

/-- The codeword count of a direction. -/
def dirCw (s : State) (p : Nat) (hb : Bool) : Nat := (s.portPos p hb).cw

/-- The measured skew is judged (R206, R207): ALIGNED with a new generation at CW 0, or SKEW_OOR. -/
def deskewDone (s : State) (p : Nat) (hb : Bool) : State :=
  let b := Blk.port p
  if s.dirState p hb ≠ 2 then s
  else
    let ok := if hb then decide (s.f b PORT.SKEW_LINE ≤ s.f Blk.pmap PMAP.DESKEW_CAP_LINE_NS)
      else decide (s.f b PORT.SKEW_HOST ≤ 100 * s.f Blk.pmap PMAP.DESKEW_CAP_HOST_NS)
    if ok then
      let g := if hb then PORT.LPOS_GEN_RX_GEN else PORT.LPOS_GEN_TX_GEN
      let s := (s.setF b (dirStateF hb) 3).setF b (dirValidF hb) 1
      let s := (s.setF b g (s.f b g + 1)).setPos p hb 0
      s.raise b (if hb then PORT.INT_RX_ALIGNED else PORT.INT_TX_ALIGNED)
    else (s.setF b (dirStateF hb) 1).flag b PORT.ALIGN_STAT_SKEW_OOR PORT.INT_SKEW_OOR

/-- Three marker groups missing or mismatched, or a marker group elsewhere after PS1 (R206): ALIGNED or FREEWHEEL to HUNT. -/
def markerLoss (s : State) (p : Nat) (hb : Bool) : State :=
  if s.dirAligned p hb then s.portLeave p hb 1 true else s

/-- FORCE_TX or FORCE_RX (R206): any state to HUNT, without LOST; a direction that may not run goes back to DOWN. -/
def forceDir (s : State) (p : Nat) (hb : Bool) : State := (s.portLeave p hb 1 false).portEval p hb

/-- A write of ALIGN_CTL. -/
def alignCtl (s : State) (p : Nat) (v : Word) : State :=
  let s := if PORT.ALIGN_CTL_FORCE_TX.get v = 1 then s.forceDir p false else s
  if PORT.ALIGN_CTL_FORCE_RX.get v = 1 then s.forceDir p true else s

/-- Entry to PS1: every aligned direction enters FREEWHEEL (R213). -/
def portsFreewheel (s : State) : State :=
  (List.range 64).foldl (fun s p => [false, true].foldl (fun s hb =>
    if s.dirState p hb = 3 then s.setF (Blk.port p) (dirStateF hb) 4 else s) s) s

/-- The first marker group after PS1 is at its predicted codeword (R206). -/
def freewheelEnd (s : State) (p : Nat) (hb : Bool) : State :=
  if s.dirState p hb = 4 ∧ !s.pwr.idle then s.setF (Blk.port p) (dirStateF hb) 3 else s

/-! ### Counters and monitors (R139, R143, R214 to R216) -/

/-- Adds to a port counter while its direction is ALIGNED: `hi` is none for a 32-bit counter. -/
def portAdd (s : State) (p : Nat) (hb : Bool) (lo : Nat) (hi : Option Nat) (wrap : Fld) (n : Nat) : State :=
  if s.dirState p hb ≠ 3 ∨ n = 0 then s
  else match hi with
    | some h => s.countFlag48 (Blk.port p) lo h n wrap PORT.INT_WRAPPED
    | none => s.countFlag32 (Blk.port p) lo n wrap PORT.INT_WRAPPED

/-- LINE_CORR of port `p`. -/
def lineCorr (s : State) (p n : Nat) : State :=
  s.portAdd p true PORT.LINE_CORR_LO (some PORT.LINE_CORR_HI) PORT.CNT_CTL_LINE_WRAP n

/-- LINE_ERAS of port `p`. -/
def lineEras (s : State) (p n : Nat) : State :=
  s.portAdd p true PORT.LINE_ERAS_LO (some PORT.LINE_ERAS_HI) PORT.CNT_CTL_LINE_WRAP n

/-- LINE_FAIL of port `p`. -/
def lineFail (s : State) (p n : Nat) : State := s.portAdd p true PORT.LINE_FAIL none PORT.CNT_CTL_LINE_WRAP n

/-- The ports that own slots of physical line lane `n`, each once. -/
def laneOwners (s : State) (n : Nat) : List Nat :=
  match s.logicalLane n with
  | none => []
  | some l => ((List.range 4).filterMap fun sl => s.slotOwner l sl).eraseDups

/-- The port that owns slot `sl` of physical line lane `n`. -/
def laneSlotOwner (s : State) (n sl : Nat) : Option Nat := (s.logicalLane n).bind fun l => s.slotOwner l sl

/-- Charges residue-erased symbols in concatenated mode (R143). Which of the symbols carry bits of a port's RS symbols
depends on the phase of the stream, which the model does not hold, so each owner's share is a free count of at most all. -/
def chargeEras (s : State) (n fresh : Nat) : State :=
  if s.terminated n || fresh = 0 then s
  else (s.laneOwners n).foldl (fun s p =>
    let share := Config.freeChoice s.free % (fresh + 1)
    { s with free := s.free + 1 }.lineEras p share) s

/-- The monitor accumulator of a direction: key 2 * port + direction. -/
def mon (s : State) (p : Nat) (hb : Bool) : MonAcc := SMap.get {} s.portMon (2 * p + hb.toNat)

/-- Sets the monitor accumulator. -/
def setMon (s : State) (p : Nat) (hb : Bool) (m : MonAcc) : State :=
  { s with portMon := SMap.put {} s.portMon (2 * p + hb.toNat) m }

/-- One codeword of a flow judged by the RS monitor of a direction (R139, R214, R215): the counters, the window and, for
flow 0 of an ALIGNED direction, the line position (R209, R210). -/
def rsMonitored (s : State) (p : Nat) (hb : Bool) (flow : Nat) (o : RsOutcome) : State :=
  if !s.dirAligned p hb then s
  else
    let w := if hb then PORT.CNT_CTL_RX_WRAP else PORT.CNT_CTL_TX_WRAP
    let off := fun (tx rx : Nat) => if hb then rx else tx
    let add := fun (s : State) (lo n : Nat) => s.portAdd p hb lo (some (lo + 4)) w n
    let s := add s (off PORT.TX_CW_LO PORT.RX_CW_LO) 1
    let s := match o with
      | .clean => s
      | .corrected e bits =>
        add (add (add s (off PORT.TX_CWC_LO PORT.RX_CWC_LO) 1) (off PORT.TX_SYM_LO PORT.RX_SYM_LO) e)
          (off PORT.TX_BIT_LO PORT.RX_BIT_LO) bits
      | .uncorrectable => s.portAdd p hb (off PORT.TX_UNC PORT.RX_UNC) none w 1
    let s := match hb, o with
      | false, _ => s.perf 9 p 1
      | true, .clean => s
      | true, .corrected e _ => s.perf 8 p e
      | true, .uncorrectable => s.perf 7 p 1
    if flow ≠ 0 then s
    else
      let m := s.mon p hb
      let s := s.setMon p hb (match o with
        | .clean => { m with cws := m.cws + 1 }
        | .corrected e _ => { m with cws := m.cws + 1, syms := m.syms + e }
        | .uncorrectable => { m with cws := m.cws + 1, unc := m.unc + 1 })
      if s.dirState p hb = 3 then s.setPos p hb (s.dirCw p hb + 1) else s

/-- Sets a monitor flag and raises its source on a change from 0 to 1 (R215). -/
def monFlag (s : State) (p : Nat) (fl : Fld) (on : Bool) (int : Nat) : State :=
  let was := s.fb (Blk.port p) fl
  let s := s.setB (Blk.port p) fl on
  if on && !was then s.raise (Blk.port p) int else s

/-- The end of a monitor window (R215). -/
def monWindowEnd (s : State) (p : Nat) (hb : Bool) : State :=
  let b := Blk.port p
  let m := s.mon p hb
  let s := s.setMon p hb {}
  let s := s.monFlag p (if hb then PORT.MON_STAT_DEG_RX else PORT.MON_STAT_DEG_TX)
    (decide (s.f b PORT.MON_CTL_SER_THR ≤ m.syms)) PORT.INT_DEGRADE
  s.monFlag p (if hb then PORT.MON_STAT_UCT_RX else PORT.MON_STAT_UCT_TX)
    (s.f b PORT.MON_CTL_UC_THR != 0 && decide (s.f b PORT.MON_CTL_UC_THR ≤ m.unc)) PORT.INT_UNCORR

/-- A slip of the line-bound elastic buffer (R208); the line-bound count continues. -/
def slip (s : State) (p : Nat) : State :=
  let b := Blk.port p
  if s.dirAligned p false then
    (s.portAdd p false PORT.SLIP_CNT none PORT.CNT_CTL_SLIP_WRAP 1).flag b PORT.MON_STAT_SLIP PORT.INT_SLIP
  else s

/-- Mux lock of physical lane `n` (R203, R204): the bit of the logical lane it carries. -/
def muxLock (s : State) (n : Nat) : State :=
  match s.logicalLane n with
  | none => s
  | some l =>
    if s.fecLocked n then
      (s.setF Blk.pmap PMAP.MUX_LOCK_LOCK (s.f Blk.pmap PMAP.MUX_LOCK_LOCK ||| 2 ^ l)).portsEval
    else s

/-- Mux lock of physical lane `n` is lost: the bit clears and MUX_LOCK_LOST is raised. -/
def muxUnlock (s : State) (n : Nat) : State :=
  match s.logicalLane n with
  | none => s
  | some l =>
    let m := s.f Blk.pmap PMAP.MUX_LOCK_LOCK
    if m.testBit l then
      ((s.setF Blk.pmap PMAP.MUX_LOCK_LOCK (m ^^^ 2 ^ l)).raise Blk.pmap PMAP.INT_MUX_LOCK_LOST).portsEval
    else s.portsEval

end State
end Sys2Proof.Machine
end

