-- ==== Sys2Proof/Machine/LineEvents.lean ====
section
/-! DEFINITION. Operations of the line lanes that reach ports and the codecs: residue events (R83 to R87), the inner code
and the LPC (spec/05), the counter groups (R142), starting and stopping a receiver or transmitter (R61, R92, R93, R118). -/

namespace Sys2Proof.Machine
namespace State

/-! ### Residue events (R83 to R87) -/

/-- Symbols per datapath cycle (R57): 256, 128 or 64. -/
def cycleSymbols (s : State) (n : Nat) : Nat := 256 / symPeriods (s.f (Blk.llane n) LLANE.RX_CTL_RATE)

/-- The steps common to every residue event: the counters, the stamp, RES_FAULT and the rate-limited record. `kind` is the
lane event kind (0 FFE, 1 MLSE), `group` names the group in the record. -/
def residueEvent (s : State) (n kind first len group : Nat) : State :=
  let b := Blk.llane n
  let fresh := newlyMarked (s.lane n).marks first len
  let s := s.countFlag32 b (if kind = 0 then LLANE.RES_FFE_CNT else LLANE.RES_MLSE_CNT) 1
    (if kind = 0 then LLANE.RES_STAT_FFE_WRAP else LLANE.RES_STAT_MLSE_WRAP) LLANE.INT_WRAPPED
  let s := s.countFlag32 b LLANE.RES_CNT 1 LLANE.RES_STAT_RES_WRAP LLANE.INT_WRAPPED
  let s := s.countFlag48 b LLANE.ERAS_CNT_LO LLANE.ERAS_CNT_HI fresh LLANE.RES_STAT_ERAS_WRAP LLANE.INT_WRAPPED
  let s := s.modLane n fun l =>
    { l with marks := (first, len) :: l.marks.filter fun m => s.dpCycle * s.cycleSymbols n ≤ m.1 + m.2 }
  let s := ((s.perf 1 n 1).perf 2 n fresh).chargeEras n fresh
  let s := (s.laneEvent n kind).raise b LLANE.INT_RES_FAULT
  let due := match (s.lane n).resLogAt with
    | none => true
    | some t => t + 2 ^ s.f b LLANE.RES_CTL_LOG_SHIFT ≤ s.dpCycle
  if s.fb b LLANE.RES_CTL_LOG_EN && due then
    (s.modLane n fun l => { l with resLogAt := some s.dpCycle }).logRecord
      { typ := 0x0001, src := b, pos := s.lanePos n true, payload := logPayload [n, kind, group] }
  else s

/-- The FFE checker runs a group (R61, R87). -/
def ffeChecks (s : State) (n : Nat) : Bool :=
  s.rxRuns n && s.fb (Blk.llane n) LLANE.RX_STAT_SIG_DET && s.pllLocked (linePll n)

/-- The MLSE checker runs a group: not in slicer mode (R84, R87); mode 3 acts as 0 (R79). -/
def mlseChecks (s : State) (n : Nat) : Bool :=
  s.ffeChecks n && (s.f (Blk.llane n) LLANE.DET_CTL_MLSE_MODE == 1 || s.f (Blk.llane n) LLANE.DET_CTL_MLSE_MODE == 2)

/-- An FFE mismatch of sub-array `g` in the present cycle marks its group (R83). -/
def ffeEvent (s : State) (n g : Nat) : State :=
  let len := ffeGroup (s.f (Blk.llane n) LLANE.RX_CTL_RATE)
  s.residueEvent n 0 (s.dpCycle * s.cycleSymbols n + g * len) len g

/-- An MLSE mismatch of group `g` in the present cycle marks the group and the 32 symbols after it (R84). -/
def mlseEvent (s : State) (n g : Nat) : State :=
  s.residueEvent n 1 (s.dpCycle * s.cycleSymbols n + g * 16) 48 g

/-- Pending injections act on the first group that their checker runs (R87). -/
def injRun (s : State) (n : Nat) : State :=
  let s := if (s.lane n).injFfe && s.ffeChecks n then (s.modLane n fun l => { l with injFfe := false }).ffeEvent n 0 else s
  if (s.lane n).injMlse && s.mlseChecks n then (s.modLane n fun l => { l with injMlse := false }).mlseEvent n 0 else s

/-- A write of RES_CTL: the fields, and an injection for each INJ bit written 1 (R87). -/
def resCtl (s : State) (n : Nat) (v : Word) : State :=
  let s := s.writeReg (Blk.llane n) LLANE.RES_CTL v
  (s.modLane n fun l =>
    { l with injFfe := l.injFfe || LLANE.RES_CTL_INJ_FFE.get v == 1
             injMlse := l.injMlse || LLANE.RES_CTL_INJ_MLSE.get v == 1 }).injRun n

/-! ### Counter groups (R85, R104, R142, R180, R216, R266) -/

/-- The block and the counter registers of a group. -/
def counterRegs : CounterGroup → Nat × List Nat
  | .residue n => (Blk.llane n, [LLANE.RES_CNT, LLANE.RES_FFE_CNT, LLANE.RES_MLSE_CNT, LLANE.ERAS_CNT_LO, LLANE.ERAS_CNT_HI,
      LLANE.ADC_SAT_CNT])
  | .clip n => (Blk.llane n, [LLANE.TX_CLIP_CNT])
  | .inner n => (Blk.llane n, [LLANE.SYM_CNT_LO, LLANE.SYM_CNT_HI, LLANE.CORR_BITS_LO, LLANE.CORR_BITS_HI, LLANE.CW_CORR_LO,
      LLANE.CW_CORR_HI, LLANE.CW_FAIL])
  | .lpc n => (Blk.fec, [FEC.CORR_LO n, FEC.CORR_HI n, FEC.ROW_LO n, FEC.ROW_HI n, FEC.FAIL n, FEC.REDUCED n])
  | .sync m => (Blk.hlane m, [HLANE.SYNC_ERR_CNT])
  | .port p => (Blk.port p, (List.range 9).map (PORT.TX_CW_LO + 4 * ·) ++ (List.range 9).map (PORT.RX_CW_LO + 4 * ·)
      ++ (List.range 6).map (PORT.LINE_CORR_LO + 4 * ·))
  | .foghorn => (Blk.fog, (List.range 10).map FOG.CNT)

/-- The register with the group's CLR bit, and the CLR field. -/
def counterCtl : CounterGroup → Fld
  | .residue _ => LLANE.RES_STAT_CLR
  | .clip _ => LLANE.TX_CNT_STAT_CLR
  | .inner _ => LLANE.INNER_CNT_CTL_CLR
  | .lpc n => FEC.CNT_CTL_CLR n
  | .sync _ => HLANE.CNT_STAT_CLR
  | .port _ => PORT.CNT_CTL_CLR
  | .foghorn => FOG.CNT_CTL_CLR

/-- The SNAP and LIVE fields, in the groups that have them (R142, R216). -/
def counterSnapLive : CounterGroup → Option (Fld × Fld)
  | .inner _ => some (LLANE.INNER_CNT_CTL_SNAP, LLANE.INNER_CNT_CTL_LIVE)
  | .lpc n => some (FEC.CNT_CTL_SNAP n, FEC.CNT_CTL_LIVE n)
  | .port _ => some (PORT.CNT_CTL_SNAP, PORT.CNT_CTL_LIVE)
  | _ => none

/-- CLR zeroes the group's counters. -/
def counterZero (s : State) (g : CounterGroup) : State :=
  (counterRegs g).2.foldl (fun s off => s.setReg (counterRegs g).1 off 0) s

/-- SNAP latches the group's counters. -/
def counterLatch (s : State) (g : CounterGroup) : State :=
  let m := (counterRegs g).2.foldl (fun m off => SMap.set m (regKey (counterRegs g).1 off) (s.reg (counterRegs g).1 off))
    s.latched
  { s with latched := m }

/-- LIVE returns reads to the live values. -/
def counterUnlatch (s : State) (g : CounterGroup) : State :=
  { s with latched := (counterRegs g).2.foldl (fun m off => SMap.erase m (regKey (counterRegs g).1 off)) s.latched }

/-- A write of the register that holds a group's CLR, SNAP and LIVE bits (R142): the W1C flags, then SNAP, then CLR.
Writing 0 to LIVE has no effect, and SNAP clears it. -/
def counterCtlWrite (s : State) (g : CounterGroup) (v : Word) : State :=
  let b := (counterRegs g).1
  let clr := counterCtl g
  let s := match counterSnapLive g with
    | none => s.writeReg b clr.off v
    | some (snap, live) =>
      let keep := s.f b live
      let doSnap := snap.get v == 1
      let doLive := live.get v == 1 && !doSnap
      let s := (s.writeReg b clr.off v).setF b live (if doSnap then 0 else if doLive then 1 else keep)
      if doSnap then s.counterLatch g else if doLive then s.counterUnlatch g else s
  if clr.get v = 1 then s.counterZero g else s

/-! ### The inner code (R125, R127, R140, R143) -/

/-- The inner decoder of lane `n` leaves the inner code: IDLE, LOCK and mux lock drop, LOSS is not set. -/
def innerIdle (s : State) (n : Nat) : State :=
  if (s.lane n).inner = .idle then s
  else ((s.modLane n fun l => { l with inner := .idle, innerFails := 0 }).setF (Blk.llane n) LLANE.INNER_STAT_LOCK 0).muxUnlock n

/-- The inner decoder hunts from a candidate offset. -/
def innerHunt (s : State) (n off : Nat) : State :=
  ((s.modLane n fun l => { l with inner := .hunt, innerOffset := off % 272, innerFails := 0 }).setF (Blk.llane n)
    LLANE.INNER_STAT_LOCK 0).portsEval

/-- The LPC decoder of lane `n` hunts again, without LOSS. -/
def lpcDrop (s : State) (n : Nat) : State :=
  let was := s.fb Blk.fec (FEC.LPC_STAT_LOCK n)
  let s := (s.modLane n fun l => { l with lpc := .hunt, lpcLow := 0 }).setF Blk.fec (FEC.LPC_STAT_LOCK n) 0
  if was then s.muxUnlock n else s

/-- The decoders follow RX_EN, the mode and the clocks (R125, R132, R144): which one is active, and IDLE for the other. -/
def codecRefresh (s : State) (n : Nat) : State :=
  let b := Blk.llane n
  let run := s.blkOn b && s.fb b LLANE.RX_CTL_RX_EN && !s.clocksStopped
  let term := s.terminated n
  let s := s.setB b LLANE.INNER_STAT_BYPASS term
  let s := s.setB Blk.fec (FEC.LPC_STAT_ACTIVE n) (term && s.fb b LLANE.RX_CTL_RX_EN)
  let s := if run && !term then (if (s.lane n).inner = .idle then s.innerHunt n 0 else s) else s.innerIdle n
  if run && term then s else s.lpcDrop n

/-- A 64-frame window ends with `zsyn` zero syndromes (R125). -/
def innerWindowEnd (s : State) (n zsyn : Nat) : State :=
  let b := Blk.llane n
  let l := s.lane n
  match l.inner with
  | .idle => s
  | .hunt =>
    let s := s.setF b LLANE.INNER_STAT_ZSYN zsyn
    if 32 ≤ zsyn then
      ((s.modLane n fun l => { l with inner := .locked, innerFails := 0 }).setF b LLANE.INNER_STAT_LOCK 1).portsEval
    else s.modLane n fun l => { l with innerOffset := (l.innerOffset + 1) % 272 }
  | .locked =>
    let s := s.setF b LLANE.INNER_STAT_ZSYN zsyn
    if 32 ≤ zsyn then s.modLane n fun l => { l with innerFails := 0 }
    else if l.innerFails < 3 then s.modLane n fun l => { l with innerFails := l.innerFails + 1 }
    else (s.innerHunt n (l.innerOffset + 1)).flag b LLANE.INNER_STAT_LOSS LLANE.INT_INNER_LOCK_LOST

/-- A write of INNER_CTL: FORCE_HUNT moves the lock to HUNT at the next offset (R125); a lane outside the inner code stays
IDLE. -/
def innerCtl (s : State) (n : Nat) (v : Word) : State :=
  let s := s.writeReg (Blk.llane n) LLANE.INNER_CTL v
  if LLANE.INNER_CTL_FORCE_HUNT.get v = 1 && (s.lane n).inner ≠ .idle then s.innerHunt n ((s.lane n).innerOffset + 1) else s

/-- A record limited to one per 2^shift datapath cycles is due. -/
def logDue (s : State) (last : Option Nat) (shift : Nat) : Bool :=
  match last with
  | none => true
  | some t => t + 2 ^ shift ≤ s.dpCycle

/-- The slots of a lane at its rate (R200). -/
def laneSlots (s : State) (n : Nat) : Nat := 4 / symPeriods (s.f (Blk.llane n) LLANE.RX_CTL_RATE)

/-- Charges corrected bits to the ports that own the RS symbols holding them (R143, R203): message bit j of the codeword is
bit `phase + j` of the lane's groups, whose RS symbols go to the slots in turn; check bits belong to no port. -/
def chargeInner (s : State) (n phase : Nat) (ps : List Nat) : State :=
  (ps.filter (· < 128)).foldl (fun s j =>
    match s.laneSlotOwner n ((phase + j) / 10 % s.laneSlots n) with
    | some p => s.lineCorr p 1
    | none => s) s

/-- The steps of a FAILED codeword (R143). -/
def innerFailed (s : State) (n : Nat) : State :=
  let b := Blk.llane n
  let s := s.countFlag32 b LLANE.CW_FAIL 1 LLANE.INNER_CNT_CTL_FAIL_WRAP LLANE.INT_INNER_WRAPPED
  let s := (s.laneOwners n).foldl (fun s p => s.lineFail p 1) (s.perf 3 n 1)
  let s := (s.laneEvent n 2).raise b LLANE.INT_INNER_FAIL
  if s.fb b LLANE.INNER_CTL_LOG_EN && s.logDue (s.lane n).innerLogAt (s.f b LLANE.INNER_CTL_LOG_SHIFT) then
    (s.modLane n fun l => { l with innerLogAt := some s.dpCycle }).logRecord
      { typ := 0x0002, src := b, pos := s.lanePos n true, payload := logPayload [n, (s.reg b LLANE.CW_FAIL).toNat] }
  else s

/-- One inner codeword is decoded while LOCKED (R127, R140, R143): 68 line symbols, and the counters of its outcome. -/
def innerCodeword (s : State) (n : Nat) (o : Codec.InnerOutcome) (phase : Nat) : State :=
  let b := Blk.llane n
  if (s.lane n).inner ≠ .locked then s
  else
    let s := s.countFlag48 b LLANE.SYM_CNT_LO LLANE.SYM_CNT_HI 68 LLANE.INNER_CNT_CTL_SYM_WRAP LLANE.INT_INNER_WRAPPED
    match o with
    | .clean => s
    | .corrected ps =>
      let s := s.countFlag48 b LLANE.CORR_BITS_LO LLANE.CORR_BITS_HI ps.length LLANE.INNER_CNT_CTL_CORR_WRAP
        LLANE.INT_INNER_WRAPPED
      let s := s.countFlag48 b LLANE.CW_CORR_LO LLANE.CW_CORR_HI 1 LLANE.INNER_CNT_CTL_CWC_WRAP LLANE.INT_INNER_WRAPPED
      s.chargeInner n phase ps
    | .failed => s.innerFailed n

/-! ### The LPC (R132 to R135, R141) -/

/-- LPC lock of lane `n` is reached: LOCK sets, and mux lock follows it (R132, R204). -/
def lpcLocked (s : State) (n : Nat) : State :=
  ((s.modLane n fun l => { l with lpc := .locked, lpcLow := 0 }).setF Blk.fec (FEC.LPC_STAT_LOCK n) 1).muxLock n

/-- One LPC block period with frame-bit score `score` (R132). While hunting, `score` is the best of the offsets scored. -/
def lpcPeriod (s : State) (n score : Nat) : State :=
  if !s.fb Blk.fec (FEC.LPC_STAT_ACTIVE n) || s.clocksStopped then s
  else
    let l := s.lane n
    let s := s.setF Blk.fec (FEC.LPC_STAT_FMATCH n) score
    match l.lpc with
    | .hunt => if 250 ≤ score then s.modLane n fun l => { l with lpc := .verify 3 } else s
    | .verify k =>
      if score < 250 then s.modLane n fun l => { l with lpc := .hunt }
      else if k ≤ 1 then s.lpcLocked n
      else s.modLane n fun l => { l with lpc := .verify (k - 1) }
    | .locked =>
      if 200 ≤ score then s.modLane n fun l => { l with lpcLow := 0 }
      else if l.lpcLow < 7 then s.modLane n fun l => { l with lpcLow := l.lpcLow + 1 }
      else
        (((s.lpcDrop n).setF Blk.fec FEC.LOSS_MAP_LANE (s.f Blk.fec FEC.LOSS_MAP_LANE ||| 2 ^ n)).raise Blk.fec
          FEC.INT_LPC_LOCK_LOST)

/-- A counter of lane `n` in FEC wrapped: its flag, its WRAP_MAP bit and WRAPPED (R142). -/
def lpcWrap (s : State) (n : Nat) (fl : Fld) (r : State × Bool) : State :=
  if r.2 then
    ((r.1.setF Blk.fec fl 1).setF Blk.fec FEC.WRAP_MAP_LANE (r.1.f Blk.fec FEC.WRAP_MAP_LANE ||| 2 ^ n)).raise Blk.fec
      FEC.INT_WRAPPED
  else r.1

/-- A row of lane `n` is marked (R135): FAIL_MAP, LPC_ROW_FAIL, and while locked the counters, charges, stamp and record. -/
def lpcMark (s : State) (n row slot : Nat) (locked : Bool) : State :=
  let s := (s.setF Blk.fec FEC.FAIL_MAP_LANE (s.f Blk.fec FEC.FAIL_MAP_LANE ||| 2 ^ n)).raise Blk.fec FEC.INT_LPC_ROW_FAIL
  if !locked then s
  else
    let s := s.lpcWrap n (FEC.CNT_CTL_FAIL_WRAP n) (s.count32 Blk.fec (FEC.FAIL n) 1)
    let s := match s.laneSlotOwner n slot with
      | some p => (s.perf 3 n 1).lineFail p 1
      | none => s.perf 3 n 1
    let s := s.laneEvent n 3
    if s.fb Blk.fec (FEC.LANE_CTL_LOG_EN n) && s.logDue (s.lane n).lpcLogAt (s.f Blk.fec (FEC.LANE_CTL_LOG_SHIFT n)) then
      (s.modLane n fun l => { l with lpcLogAt := some s.dpCycle }).logRecord
        { typ := 0x0003, src := Blk.fec, pos := s.lanePos n true
          payload := logPayload [n, row, (s.reg Blk.fec (FEC.FAIL n)).toNat] }
    else s

/-- The oldest block leaves the window (R135, R141, R143); `rows` lists the rows with corrections or failures. While the
decoder is not locked every row is marked and nothing is counted. -/
def lpcBlockEnd (s : State) (n : Nat) (rows : List LpcRow) : State :=
  if !s.fb Blk.fec (FEC.LPC_STAT_ACTIVE n) || s.clocksStopped then s
  else if !s.fb Blk.fec (FEC.LPC_STAT_LOCK n) then s.lpcMark n 0 0 false
  else
    let s := s.lpcWrap n (FEC.CNT_CTL_ROW_WRAP n) (s.count48 Blk.fec (FEC.ROW_LO n) (FEC.ROW_HI n) 289)
    let s := if s.f Blk.fec (FEC.LPC_STAT_ITER n) < 8 then
        s.lpcWrap n (FEC.CNT_CTL_RED_WRAP n) (s.count32 Blk.fec (FEC.REDUCED n) 1)
      else s
    rows.foldl (fun s r =>
      let s := s.lpcWrap n (FEC.CNT_CTL_CORR_WRAP n) (s.count48 Blk.fec (FEC.CORR_LO n) (FEC.CORR_HI n) r.bits)
      let s := match s.laneSlotOwner n r.slot with
        | some p => s.lineCorr p r.bits
        | none => s
      if r.failed then s.lpcMark n r.row r.slot true else s) s

/-- I of lane `n` (R134), with ITER_MAX and ITER_FLOOR clamped to 2 to 8. -/
def lpcIter (s : State) (n : Nat) : Nat :=
  let cl := fun x => max 2 (min 8 x)
  min (cl (s.uf Blk.fec (FEC.LANE_CTL_ITER_MAX n)))
    (max (cl (s.uf Blk.fec (FEC.LANE_CTL_ITER_FLOOR n))) (8 - s.f Blk.fec FEC.THR_STAT_RED))

/-- The lane's next block boundary: a new I takes effect, and ITER_CHG is raised (R134). -/
def iterChg (s : State) (n : Nat) : State :=
  if s.fb Blk.fec (FEC.LPC_STAT_ACTIVE n) && s.f Blk.fec (FEC.LPC_STAT_ITER n) != s.lpcIter n then
    (s.setF Blk.fec (FEC.LPC_STAT_ITER n) (s.lpcIter n)).raise Blk.fec FEC.INT_ITER_CHG
  else s

/-- A write of LANE_CTLn (R119): ignored whole when it would change MODE while the lane's receiver or transmitter is
enabled. -/
def fecLaneCtl (s : State) (n : Nat) (v : Word) : State :=
  let running := s.fb (Blk.llane n) LLANE.RX_CTL_RX_EN || s.fb (Blk.llane n) LLANE.TX_CTL_TX_EN
  if (FEC.LANE_CTL_MODE n).get v != s.f Blk.fec (FEC.LANE_CTL_MODE n) && running then
    s.flag Blk.fec FEC.FEC_STAT_CFG_REFUSED FEC.INT_CFG_REFUSED
  else ((s.writeReg Blk.fec (FEC.LANE_CTL n) v).codecRefresh n).portsEval

/-! ### Starting and stopping a lane -/

/-- Host lanes that are UP, from the UP_MAPs. -/
def hostUps (s : State) : List Nat :=
  (List.range 4).flatMap fun k =>
    let m := s.f (Blk.hclu k) HCLU.UP_MAP_UP
    if m = 0 then [] else ((List.range 16).filter m.testBit).map (16 * k + ·)

/-- HOLDOVER of an UP host lane that follows a line lane (R182). -/
def hostHoldover (s : State) (m : Nat) : State :=
  let b := Blk.hlane m
  let l := s.f b HLANE.TX_TSRC_LLANE
  s.setB b HLANE.HL_STAT_HOLDOVER (s.fb b HLANE.HL_STAT_UP && s.fb b HLANE.TX_TSRC_FOLLOW
    && !(decide (l < 17) && s.fb (Blk.llane l) LLANE.RX_STAT_CDR_LOCK))

/-- HOLDOVER of every line lane (R112), and of every UP host lane (R182), follows its source. -/
def holdoverAll (s : State) : State := s.hostUps.foldl hostHoldover ((List.range 17).foldl holdover s)

/-- A collection or scan under way ends with ABORTED = 1 and EYE_DONE (R90). -/
def eyeAbort (s : State) (n : Nat) : State :=
  let b := Blk.llane n
  if s.fb b LLANE.EYE_STAT_BUSY then
    ((((s.setF b LLANE.EYE_STAT_BUSY 0).setF b LLANE.EYE_STAT_ABORTED 1).setF b LLANE.EYE_STAT_DONE 1).modLane n
      fun l => { l with eyeSpare := none }).raise b LLANE.INT_EYE_DONE
  else s

/-- Receiver status goes to 0 without interrupts, because the receiver no longer runs (R61); calibration and the eye
monitor end (R90, R92), and pending background steps are abandoned. -/
def rxStop (s : State) (n : Nat) : State :=
  let b := Blk.llane n
  let changed := s.fb b LLANE.RX_STAT_SIG_DET || s.fb b LLANE.RX_STAT_CDR_LOCK
  let s := ((s.setF b LLANE.RX_STAT_SIG_DET 0).setF b LLANE.RX_STAT_CDR_LOCK 0).setF b LLANE.RX_STAT_FREQ_OOR 0
  let s := s.setF b LLANE.RX_STAT_CAL_RUN 0
  let s := s.eyeAbort n
  let s := s.modLane n fun l => { l with bg := none, eyeSpare := none }
  let s := if changed then s.sigChange n else s
  (s.codecRefresh n).holdoverAll

/-! ### Control writes (R62, R92, R117, R118) -/

/-- The word with RATE as it was when the write's RATE is refused: 3, or a change while the lane is enabled (R62). -/
def rateRefused (s : State) (b : Nat) (en rate : Fld) (v : Word) : Bool :=
  rate.get v == 3 || (s.fb b en && rate.get v != s.f b rate)

/-- A write of RX_CTL (R62, R64, R92). -/
def rxCtl (s : State) (n : Nat) (v : Word) : State :=
  let b := Blk.llane n
  let was := s.fb b LLANE.RX_CTL_RX_EN
  let badRate := s.rateRefused b LLANE.RX_CTL_RX_EN LLANE.RX_CTL_RATE v
  let badEn := LLANE.RX_CTL_RX_EN.get v == 1 && !was && (!s.rxPowered n || s.bist.lane == some n)
  let v := if badRate then LLANE.RX_CTL_RATE.put v (s.f b LLANE.RX_CTL_RATE) else v
  let v := if badEn then LLANE.RX_CTL_RX_EN.put v 0 else v
  let s := s.writeReg b LLANE.RX_CTL v
  let s := if badRate || badEn then s.flag b LLANE.RX_STAT_CFG_REFUSED LLANE.INT_CFG_REFUSED else s
  let now := s.fb b LLANE.RX_CTL_RX_EN
  let s := if now && !was then (s.setF b LLANE.RX_STAT_CAL_RUN 1).codecRefresh n else if was && !now then s.rxStop n else s
  s.portsEval

/-- A write of TX_CTL (R62, R106, R117, R118, R432). -/
def txCtl (s : State) (n : Nat) (v : Word) : State :=
  let b := Blk.llane n
  let was := s.fb b LLANE.TX_CTL_TX_EN
  let wasClr := s.fb b LLANE.TX_CTL_CLR_SQ
  let badRate := s.rateRefused b LLANE.TX_CTL_TX_EN LLANE.TX_CTL_RATE v
  let badEn := LLANE.TX_CTL_TX_EN.get v == 1 && !was && (!s.txPowered n || s.bist.lane == some n)
  let v := if badRate then LLANE.TX_CTL_RATE.put v (s.f b LLANE.TX_CTL_RATE) else v
  let v := if badEn then LLANE.TX_CTL_TX_EN.put v 0 else v
  let s := s.writeReg b LLANE.TX_CTL v
  let s := if badRate || badEn then s.flag b LLANE.TX_STAT_CFG_REFUSED LLANE.INT_TX_CFG_REFUSED else s
  let now := s.fb b LLANE.TX_CTL_TX_EN
  let s := if now && !was then s.setF b LLANE.TX_STAT_CAL_RUN 1
    else if was && !now then (s.setF b LLANE.TX_STAT_CAL_RUN 0).modLane n fun l => { l with dacBg := none }
    else s
  let s := if s.fb b LLANE.TX_CTL_CLR_SQ && !wasClr && s.clrLow then s.clrFallLane n else s
  (s.holdover n).squelch n

/-- A write of TX_STAT: the W1C flags; CLR_SEEN stays while the pin is low with CLR_LATCH = 1, and releases a latched
cause while it is high (R117). -/
def txStat (s : State) (n : Nat) (v : Word) : State :=
  let b := Blk.llane n
  let keep := s.fb b LLANE.TX_CTL_CLR_LATCH && s.clrLow
  let v' := if keep then LLANE.TX_STAT_CLR_SEEN.put v 0 else v
  let s := s.writeReg b LLANE.TX_STAT v'
  let s := if LLANE.TX_STAT_CLR_SEEN.get v' = 1 then s.modLane n fun l => { l with clrLatched := false } else s
  s.squelch n

/-- A mirror word that R113 and R115 permit for lane `n`. -/
def mirrorOk (s : State) (n : Nat) (v : Word) : Bool :=
  let src := LLANE.TX_MIRROR_SRC.get v
  (if n = 16 then src < 16 else src == 16) && s.f (Blk.llane src) LLANE.TX_CTL_RATE == s.f (Blk.llane n) LLANE.TX_CTL_RATE
    && s.domReady (blkDomain (Blk.llane src))

/-- A write of TX_MIRROR (R113, R115): refused whole when it requests a mirror that is not permitted. -/
def txMirror (s : State) (n : Nat) (v : Word) : State :=
  let b := Blk.llane n
  if LLANE.TX_MIRROR_EN.get v == 1 && !s.mirrorOk n v then s.flag b LLANE.TX_STAT_CFG_REFUSED LLANE.INT_TX_CFG_REFUSED
  else (s.writeReg b LLANE.TX_MIRROR v).squelch n

/-- Background DAC calibration: the next step takes the lowest-numbered free USABLE segment, or waits (R107, R108). -/
def dacStart (s : State) (n : Nat) : State :=
  let b := Blk.llane n
  if s.fb b LLANE.TX_CTL_TX_EN && s.fb b LLANE.TX_DAC_CTL_BGCAL_EN && !s.fb b LLANE.TX_STAT_CAL_RUN then
    match (List.range 132).find? fun i => (SMap.get {} (s.lane n).seg i).usable && !SMap.get false s.fuseSeg (256 * n + i)
        && !((s.lane n).segPos.any fun e => e.2 == i) with
    | some i => (s.modLane n fun l => { l with dacBg := some (l.dacNext, i) }).setF b LLANE.TX_STAT_NO_SPARE 0
    | none => (s.modLane n fun l => { l with dacBg := none }).setF b LLANE.TX_STAT_NO_SPARE 1
  else s

/-- RX_EN of lane `n` is cleared by a power change rather than by a write (R92, R93). -/
def rxEnOff (s : State) (n : Nat) : State :=
  if s.fb (Blk.llane n) LLANE.RX_CTL_RX_EN then (s.setF (Blk.llane n) LLANE.RX_CTL_RX_EN 0).rxStop n else s

/-- TX_EN of lane `n` is cleared by a power change (R93, R118); the CTL cause squelches the lane. -/
def txEnOff (s : State) (n : Nat) : State :=
  let b := Blk.llane n
  if s.fb b LLANE.TX_CTL_TX_EN then
    ((((s.setF b LLANE.TX_CTL_TX_EN 0).setF b LLANE.TX_STAT_CAL_RUN 0).modLane n fun l => { l with dacBg := none }).setF b
      LLANE.TX_STAT_HOLDOVER 0).squelch n
  else s

/-! ### Receiver events (R61, R64 to R69, R72, R93) -/

/-- Foreground calibration ends (R64, R69): trims, the slot map, the figures with LAP 0. -/
def fgCalDone (s : State) (n : Nat) (cal : List SubCal) (spur resErr : Nat) : State :=
  let b := Blk.llane n
  if !s.fb b LLANE.RX_STAT_CAL_RUN then s
  else
    let ok := cal.filter fun c => subPowered (s.f b LLANE.RX_CTL_RATE) c.sub && !s.subFused n c.sub
    let s := (s.setTrims n ok).buildSlots n
    let s := s.setReg b LLANE.ADC_QUAL (LLANE.ADC_QUAL_RES_ERR.put (LLANE.ADC_QUAL_SPUR.put 0 spur) resErr)
    s.setF b LLANE.RX_STAT_CAL_RUN 0

/-- The signal is detected (R61): evaluated while the receiver runs, its PLL is locked and no calibration disconnects the
sub-converters. -/
def sigRise (s : State) (n : Nat) : State :=
  let b := Blk.llane n
  if s.rxRuns n && s.pllLocked (linePll n) && !s.fb b LLANE.RX_STAT_CAL_RUN && !s.fb b LLANE.RX_STAT_SIG_DET then
    (((s.setF b LLANE.RX_STAT_SIG_DET 1).sigChange n).bgStart n).injRun n
  else s

/-- CDR_LOCK of lane `n` falls with CDR_LOCK_LOST (R72). -/
def cdrLost (s : State) (n : Nat) : State :=
  let b := Blk.llane n
  if s.fb b LLANE.RX_STAT_CDR_LOCK then
    ((((s.setF b LLANE.RX_STAT_CDR_LOCK 0).sigChange n).laneEvent n 5).raise b LLANE.INT_CDR_LOCK_LOST).holdoverAll
  else s

/-- The signal is lost (R61, R68, R90). -/
def sigFall (s : State) (n : Nat) : State :=
  let b := Blk.llane n
  if s.fb b LLANE.RX_STAT_SIG_DET then
    let s := (((s.setF b LLANE.RX_STAT_SIG_DET 0).sigChange n).laneEvent n 4).raise b LLANE.INT_SIG_LOST
    ((s.cdrLost n).modLane n fun l => { l with bg := none }).eyeAbort n
  else s

/-- CDR_LOCK sets (R72), with the frequency offset the loop holds (R73), within ±250 ppm. -/
def cdrGain (s : State) (n : Nat) (freq : Int) : State :=
  let b := Blk.llane n
  if s.rxRuns n && s.pllLocked (linePll n) && s.fb b LLANE.RX_STAT_SIG_DET && !s.fb b LLANE.RX_STAT_FREQ_OOR
      && !s.fb b LLANE.RX_STAT_CDR_LOCK then
    (((s.setF b LLANE.RX_STAT_CDR_LOCK 1).setReg b LLANE.CDR_FREQ (BitVec.ofInt 32 (clampInt (-256000) 256000 freq))).sigChange
      n).holdoverAll
  else s

/-- The integrator has been at its limit for 1 ms (R72): CDR_LOCK is held at 0. -/
def oorSet (s : State) (n : Nat) : State :=
  let b := Blk.llane n
  if s.rxRuns n && !s.fb b LLANE.RX_STAT_FREQ_OOR then
    let s := s.flag b LLANE.RX_STAT_FREQ_OOR LLANE.INT_FREQ_OOR
    if s.fb b LLANE.RX_STAT_CDR_LOCK then ((s.setF b LLANE.RX_STAT_CDR_LOCK 0).sigChange n).holdoverAll else s
  else s

/-- The integrator has left its limit for 1 ms (R72). -/
def oorClear (s : State) (n : Nat) : State := s.setF (Blk.llane n) LLANE.RX_STAT_FREQ_OOR 0

/-- A trim that moves by at most one LSB towards a new value (R67). -/
def towards (w : Nat) (old new : BitVec w) : BitVec w :=
  if new.toInt < old.toInt then old - 1 else if old.toInt < new.toInt then old + 1 else old

/-- A background step ends (R65 to R69): the shadowing spare takes the slot with its trims, or the in-service converter's
offset and gain move by at most one LSB; the lap end updates ADC_QUAL; the next step starts. -/
def bgEnd (s : State) (n : Nat) (c : SubCal) (spur resErr : Nat) : State :=
  let b := Blk.llane n
  match (s.lane n).bg with
  | none => s
  | some (slot, spare) =>
    let s := match spare with
      | some sp => s.modLane n fun l =>
          { l with sub := SMap.put {} l.sub sp ⟨c.offset, c.gain, c.skew, c.inRange⟩
                   slot := SMap.set l.slot slot sp }
      | none => s.modLane n fun l =>
          let i := SMap.get 0 l.slot slot
          let t : SubTrim := SMap.get {} l.sub i
          let gain := (towards 11 (t.gain.zeroExtend 11) (c.gain.zeroExtend 11)).truncate 10
          { l with sub := SMap.put {} l.sub i ⟨towards 8 t.offset c.offset, gain, t.skew, c.inRange⟩ }
    let last := activeSlots (s.f b LLANE.RX_CTL_RATE) ≤ slot + 1
    let s := s.modLane n fun l => { l with bg := none, bgNext := if last then 0 else slot + 1 }
    let s := if last then
        let lap := min 255 (s.f b LLANE.ADC_QUAL_LAP + 1)
        (s.setReg b LLANE.ADC_QUAL (LLANE.ADC_QUAL_LAP.put (LLANE.ADC_QUAL_RES_ERR.put (LLANE.ADC_QUAL_SPUR.put 0 spur)
          resErr) lap)).raise b LLANE.INT_CAL_LAP
      else s
    s.bgStart n

/-- A write of ADC_CTL (R65, R68, R69): setting BGCAL_EN starts LAP from 0, clearing it stops the running step. -/
def adcCtl (s : State) (n : Nat) (v : Word) : State :=
  let b := Blk.llane n
  let was := s.fb b LLANE.ADC_CTL_BGCAL_EN
  let s := s.writeReg b LLANE.ADC_CTL v
  let now := s.fb b LLANE.ADC_CTL_BGCAL_EN
  if now && !was then (s.setF b LLANE.ADC_QUAL_LAP 0).bgStart n
  else if was && !now then s.modLane n fun l => { l with bg := none }
  else s

/-! ### The eye monitor (R88 to R90) -/

/-- A write of EYE_CTL; START begins a collection or scan. With PHASE other than 0, or for the width of a scan, it takes
the highest-numbered free spare, which EYE_SPARE_EN holds to the end; without one, NO_SPARE is set. -/
def eyeCtl (s : State) (n : Nat) (v : Word) : State :=
  let b := Blk.llane n
  let s := s.writeReg b LLANE.EYE_CTL v
  if LLANE.EYE_CTL_START.get v ≠ 1 then s
  else
    let s := s.modLane n fun l => { l with eyeSpare := none }
    let wants := s.fb b LLANE.EYE_CTL_AUTO || s.fb b LLANE.EYE_CTL_PHASE
    let spare := (s.freeSpares n).getLast?
    let s := ((s.setF b LLANE.EYE_STAT_BUSY 1).setF b LLANE.EYE_STAT_ABORTED 0).setB b LLANE.EYE_STAT_NO_SPARE
      (wants && spare.isNone)
    let s := (s.setReg b LLANE.EYE_HITS 0).setReg b LLANE.EYE_TOTAL 0
    if wants && s.fb b LLANE.ADC_CTL_EYE_SPARE_EN then s.modLane n fun l => { l with eyeSpare := spare } else s

/-- The total that ends a collection: 2^(12 + 2 DWELL), DWELL 10 to 15 acting as 9 (R88). -/
def eyeTotal (s : State) (n : Nat) : Nat := 2 ^ (12 + 2 * min 9 (s.f (Blk.llane n) LLANE.EYE_CTL_DWELL))

/-- The collection reaches its total, or the scan ends (R88 to R90). A collection or width without a spare reports no
samples. -/
def eyeDone (s : State) (n : Nat) (hits : Word) (results : List EyeResult) : State :=
  let b := Blk.llane n
  if !s.fb b LLANE.EYE_STAT_BUSY then s
  else
    let none := s.fb b LLANE.EYE_STAT_NO_SPARE
    let auto := s.fb b LLANE.EYE_CTL_AUTO
    let s := if auto || !none then
        (s.setReg b LLANE.EYE_TOTAL (BitVec.ofNat 32 (s.eyeTotal n))).setReg b LLANE.EYE_HITS
          (BitVec.ofNat 32 (min hits.toNat (s.eyeTotal n)))
      else s
    let eye := s.f b LLANE.EYE_CTL_EYE
    let s := if auto then
        (results.filter fun r => eye == 3 || r.eye.val == eye).foldl (fun s r =>
          s.setReg b (LLANE.EYE_WH r.eye) ((LLANE.EYE_WH_HEIGHT r.eye).put ((LLANE.EYE_WH_WIDTH r.eye).put 0
            (if none then 0 else r.width.toNat)) r.height.toNat)) s
      else s
    (((s.setF b LLANE.EYE_STAT_BUSY 0).setF b LLANE.EYE_STAT_DONE 1).modLane n fun l => { l with eyeSpare := Option.none }).raise
      b LLANE.INT_EYE_DONE

/-! ### Transmitter calibration (R106 to R109) -/

/-- Segment `i` is marked defective by its fuse. -/
def segFused (s : State) (n i : Nat) : Bool := SMap.get false s.fuseSeg (256 * n + i)

/-- The position map (R106): SEGj, else the lowest USABLE of SEG128 to SEG131 not placed, else the lowest segment left that
is not fused, with NO_SPARE. -/
def buildPositions (s : State) (n : Nat) : State :=
  let ok := fun i => (SMap.get {} (s.lane n).seg i).usable && !s.segFused n i
  let own := (List.range 128).filter ok
  let step := fun (r : SMap Nat × List Nat × Bool) (j : Nat) =>
    if ok j then (r.1 ++ [(j, j)], r.2.1, r.2.2)
    else
      match (List.range 4).find? fun k => ok (128 + k) && !r.2.1.contains (128 + k) with
      | some k => (r.1 ++ [(j, 128 + k)], (128 + k) :: r.2.1, r.2.2)
      | none =>
        match (List.range 132).find? fun i => !s.segFused n i && !own.contains i && !r.2.1.contains i with
        | some i => (r.1 ++ [(j, i)], i :: r.2.1, true)
        | none => (r.1, r.2.1, true)
  let r := (List.range 128).foldl step ([], [], false)
  (s.modLane n fun l => { l with segPos := r.1 }).setB (Blk.llane n) LLANE.TX_STAT_NO_SPARE r.2.2

/-- Free USABLE segments (R109). -/
def freeSegs (s : State) (n : Nat) : Nat :=
  ((List.range 132).filter fun i => (SMap.get {} (s.lane n).seg i).usable && !s.segFused n i
    && !((s.lane n).segPos.any fun e => e.2 == i)).length

/-- The quality word of R109. -/
def dacQual (s : State) (n res mx lap : Nat) : State :=
  let b := Blk.llane n
  s.setReg b LLANE.DAC_QUAL (LLANE.DAC_QUAL_LAP.put (LLANE.DAC_QUAL_SPARES_FREE.put (LLANE.DAC_QUAL_SEG_MAX.put
    (LLANE.DAC_QUAL_SEG_RES.put 0 res) mx) (s.freeSegs n)) lap)

/-- DAC foreground calibration ends (R106, R109). -/
def dacCalDone (s : State) (n : Nat) (cal : List SegCal) (res mx : Nat) : State :=
  let b := Blk.llane n
  if !s.fb b LLANE.TX_STAT_CAL_RUN then s
  else
    let s := (cal.filter fun c => c.seg < 132 && !s.segFused n c.seg).foldl
      (fun s c => s.modLane n fun l => { l with seg := SMap.put {} l.seg c.seg ⟨c.trim, c.inRange⟩ }) s
    let s := ((s.buildPositions n).setF b LLANE.TX_STAT_CAL_RUN 0).dacQual n res mx 0
    (s.squelch n).dacStart n

/-- A background DAC step ends (R107 to R109): S takes the position when its trim is in range; a lap end updates DAC_QUAL. -/
def dacBgEnd (s : State) (n : Nat) (c : SegCal) (res mx : Nat) : State :=
  let b := Blk.llane n
  match (s.lane n).dacBg with
  | none => s.dacStart n
  | some (pos, sg) =>
    let s := s.modLane n fun l =>
      { l with seg := SMap.put {} l.seg sg ⟨c.trim, c.inRange⟩
               segPos := if c.inRange then SMap.set l.segPos pos sg else l.segPos
               dacBg := none
               dacNext := (pos + 1) % 128 }
    let s := if pos = 127 then
        (s.dacQual n res mx (min 255 (s.f b LLANE.DAC_QUAL_LAP + 1))).raise b LLANE.INT_TX_CAL_LAP
      else s
    s.dacStart n

/-- A write of TX_DAC_CTL: setting BGCAL_EN starts LAP from 0 and the first step; clearing it stops the running one. -/
def txDacCtl (s : State) (n : Nat) (v : Word) : State :=
  let b := Blk.llane n
  let was := s.fb b LLANE.TX_DAC_CTL_BGCAL_EN
  let s := s.writeReg b LLANE.TX_DAC_CTL v
  let now := s.fb b LLANE.TX_DAC_CTL_BGCAL_EN
  if now && !was then (s.setF b LLANE.DAC_QUAL_LAP 0).dacStart n
  else if was && !now then s.modLane n fun l => { l with dacBg := none }
  else s

/-- A write of TX_PD_CTL or TX_PD_MAP applies the set it selects (R101, R102). -/
def txPdWrite (s : State) (n off : Nat) (v : Word) : State := (s.writeReg (Blk.llane n) off v).pdApply n

/-- A write of TX_TSRC, or of TSRC in TX_CTL, is checked for lock at once (R118). -/
def txTsrc (s : State) (n : Nat) (v : Word) : State := (s.writeReg (Blk.llane n) LLANE.TX_TSRC v).holdover n

end State
end Sys2Proof.Machine
end

