-- ==== Sys2Proof/Machine/PmbOps.lean ====
section
/-! DEFINITION. The supply control (R396 to R398): the VDD_CORE target and the requests over PMBus. -/

namespace Sys2Proof.Machine
namespace State

/-- A field of PWR. -/
def pwf (s : State) (fl : Fld) : Nat := s.f Blk.pwr fl

/-- Changes the power controller. -/
def modPwr (s : State) (g : PwrCtl → PwrCtl) : State := { s with pwr := g s.pwr }

/-- Changes the PMBus controller. -/
def modPmb (s : State) (g : PmbCtl → PmbCtl) : State := s.modPwr fun p => { p with pmb := g p.pmb }

/-- The target of R396 in mV: 650, the AVS code of the band (at most 150) and TRIM, limited to 650 to 800. -/
def avsTarget (s : State) : Nat :=
  let code : Int := min 150 (s.f Blk.therm (THERM.BAND_CFG_AVS (s.f Blk.therm THERM.STAT_BAND)))
  (clampInt 650 800 (650 + code + signed 8 (s.pwf PWR.AVS_CTL_TRIM))).toNat

/-- The LINEAR16 mantissa of a voltage for the exponent of VOUT_MODE, rounded to the nearest (R397). -/
def linear16 (vmode : Byte) (mv : Nat) : Nat :=
  let e := signed 5 (vmode.toNat % 32)
  if e ≤ 0 then (2 * mv * 2 ^ (-e).toNat + 1000) / 2000 % 65536
  else (2 * mv + 1000 * 2 ^ e.toNat) / (2000 * 2 ^ e.toNat) % 65536

/-- The commands of an attempt: OPERATION 0x00 for a rail turned off, else VOUT_COMMAND, after OPERATION 0x80 when the rail
comes back from PS5. -/
def pmbSend (s : State) : State :=
  let p := s.pwr.pmb
  if p.off then s.send (.pmbus 0x01 0)
  else
    let s := if p.kind = 2 ∧ s.pwr.from_ = 5 then s.send (.pmbus 0x01 0x80) else s
    s.send (.pmbus 0x21 (linear16 p.vmode p.mv))

/-- A voltage request (R397): `kind` 0 band or trim, 1 entry, 2 exit; `off` turns the rail off. Answers whether it completed
at once, as it does while EN = 0. -/
def voltBegin (s : State) (mv kind : Nat) (off : Bool) : Bool × State :=
  let show_ := fun (s : State) => if off then s else s.setF Blk.pwr PWR.AVS_STAT_TARGET mv
  if s.pwf PWR.PMB_CFG_EN = 0 then (true, (show_ s).modPmb fun p => { p with sent := if off then none else some mv })
  else if s.pwf PWR.PMB_STAT_BUSY = 1 then (false, s.modPmb fun p => { p with next := some (if off then 0 else mv, kind) })
  else
    let prev := s.pwf PWR.AVS_STAT_CURRENT
    let s := show_ s
    let s := (s.setF Blk.pwr PWR.PMB_STAT_BUSY 1).setF Blk.pwr PWR.PMB_STAT_RETRIES 0
    let s := s.modPmb fun p => { p with kind := kind, mv := mv, prev := prev, off := off, sent := if off then none else some mv }
    (false, s.pmbSend)

/-- Requests follow the target in PS0 to PS2 outside entry and exit (R396, R402). -/
def avsUpdate (s : State) : State :=
  if s.pwr.target ≠ 0 ∨ s.pwr.exitStep ≠ 0 ∨ 3 ≤ s.pwf PWR.STAT_STATE ∨ s.pwr.pmb.sent = some s.avsTarget then s
  else (s.voltBegin s.avsTarget 0 false).2

end State
end Sys2Proof.Machine
end

