-- ==== Sys2Proof/Machine/EngineIsa.lean ====
section
/-! DEFINITION. The lane engines' instruction words (R154): the instructions, their encoding and decoding, and the
arithmetic they share (R151). -/

namespace Sys2Proof.Machine

/-- The functions of opcode 0x00 with a destination (R154). -/
inductive AluOp where
  | add | sub | and | or | xor | sll | srl | sra | slt | sltu | min | max | mul | mulh
deriving DecidableEq, Repr

/-- The immediate operations of opcodes 0x01 to 0x07. -/
inductive ImmOp where
  | add | and | or | xor | sll | srl | sra
deriving DecidableEq, Repr

/-- The loads. -/
inductive LoadOp where
  | w | h | hu
deriving DecidableEq, Repr

/-- The lane-wise functions of opcode 0x28. -/
inductive VecOp where
  | add | sub | mul | min | max | sgn | shr | shl | sat | and | mov
deriving DecidableEq, Repr

/-- An instruction of a lane engine, with its fields as numbers. -/
inductive UInstr where
  | alu (op : AluOp) (d a b : Nat)
  | cmp (a b : Nat)
  | imm (op : ImmOp) (d a i : Nat)
  | lui (d i : Nat)
  | cmpi (a i : Nat)
  | sati (d a n : Nat)
  | load (op : LoadOp) (d a i : Nat)
  | sw (d a i : Nat)
  | sh (d a i : Nat)
  | br (cond off : Nat)
  | jal (target : Nat)
  | jr (a : Nat)
  | loop (a last : Nat)
  | wait (d mask : Nat)
  | halt
  | prd (d a addr : Nat)
  | pwr (d a addr : Nat)
  | vldp (d a addr : Nat)
  | vstp (d a addr : Nat)
  | vec (op : VecOp) (d a b sh : Nat)
  | vmac (a b n s : Nat)
  | vrda (d n clr sh : Nat)
  | vclr (n : Nat)
  | vred (d a : Nat)
  | vbc (d a : Nat)
  | vext (d a lane : Nat)
  | vins (d b lane : Nat)
  | vld (d a i : Nat)
  | vst (d a i : Nat)
deriving DecidableEq, Repr

/-- The function code of an operation of opcode 0x00. -/
def AluOp.code : AluOp → Nat
  | .add => 0 | .sub => 1 | .and => 2 | .or => 3 | .xor => 4 | .sll => 5 | .srl => 6 | .sra => 7 | .slt => 8 | .sltu => 9
  | .min => 10 | .max => 11 | .mul => 12 | .mulh => 13

/-- The opcode of an immediate operation. -/
def ImmOp.code : ImmOp → Nat
  | .add => 1 | .and => 2 | .or => 3 | .xor => 4 | .sll => 5 | .srl => 6 | .sra => 7

/-- The opcode of a load. -/
def LoadOp.code : LoadOp → Nat
  | .w => 0x10 | .h => 0x11 | .hu => 0x12

/-- The function code of a lane-wise operation. -/
def VecOp.code : VecOp → Nat
  | .add => 0 | .sub => 1 | .mul => 2 | .min => 3 | .max => 4 | .sgn => 5 | .shr => 6 | .shl => 7 | .sat => 8 | .and => 9
  | .mov => 10

/-- A word of the formats of R154: opcode, d, a and the low 18 bits. -/
def uWord (op d a low : Nat) : Nat := op * 2 ^ 26 + d * 2 ^ 22 + a * 2 ^ 18 + low

/-- The instruction word (R154). -/
def ucEncode : UInstr → Nat
  | .alu op d a b => uWord 0 d a (b * 2 ^ 14 + op.code)
  | .cmp a b => uWord 0 0 a (b * 2 ^ 14 + 14)
  | .imm op d a i => uWord op.code d a i
  | .lui d i => uWord 8 d 0 i
  | .cmpi a i => uWord 9 0 a i
  | .sati d a n => uWord 0xA d a n
  | .load op d a i => uWord op.code d a i
  | .sw d a i => uWord 0x13 d a i
  | .sh d a i => uWord 0x14 d a i
  | .br c off => uWord 0x18 c 0 off
  | .jal t => uWord 0x19 0 0 t
  | .jr a => uWord 0x1A 0 a 0
  | .loop a l => uWord 0x1B 0 a l
  | .wait d m => uWord 0x1C d 0 m
  | .halt => uWord 0x1D 0 0 0
  | .prd d a x => uWord 0x20 d a x
  | .pwr d a x => uWord 0x21 d a x
  | .vldp d a x => uWord 0x22 d a x
  | .vstp d a x => uWord 0x23 d a x
  | .vec op d a b sh => uWord 0x28 d a (b * 2 ^ 14 + sh * 16 + op.code)
  | .vmac a b n s => uWord 0x29 0 a (b * 2 ^ 14 + n + 2 * s)
  | .vrda d n c sh => uWord 0x2A d 0 (sh * 16 + n + 2 * c)
  | .vclr n => uWord 0x2B 0 0 n
  | .vred d a => uWord 0x2C d a 0
  | .vbc d a => uWord 0x2D d a 0
  | .vext d a l => uWord 0x2E d a (l * 2 ^ 10)
  | .vins d b l => uWord 0x2F d 0 (b * 2 ^ 14 + l * 2 ^ 10)
  | .vld d a i => uWord 0x30 d a i
  | .vst d a i => uWord 0x31 d a i

/-- The function of opcode 0x00 that a code names. -/
def aluOf : Nat → Option AluOp
  | 0 => some .add | 1 => some .sub | 2 => some .and | 3 => some .or | 4 => some .xor | 5 => some .sll | 6 => some .srl
  | 7 => some .sra | 8 => some .slt | 9 => some .sltu | 10 => some .min | 11 => some .max | 12 => some .mul
  | 13 => some .mulh | _ => none

/-- The lane-wise function that a code names. -/
def vecOf : Nat → Option VecOp
  | 0 => some .add | 1 => some .sub | 2 => some .mul | 3 => some .min | 4 => some .max | 5 => some .sgn | 6 => some .shr
  | 7 => some .shl | 8 => some .sat | 9 => some .and | 10 => some .mov | _ => none

/-- An instruction when a condition on its fixed fields holds. -/
def guardU (c : Bool) (u : UInstr) : Option UInstr := if c then some u else none

/-- The instruction that a word spells; none for a reserved opcode, function, condition or field value (R154). -/
def ucDecode (w : Nat) : Option UInstr :=
  let op := bitsOf w 26 6
  let d := bitsOf w 22 4
  let a := bitsOf w 18 4
  let b := bitsOf w 14 4
  let i := bitsOf w 0 18
  let fn := bitsOf w 0 4
  let sh := bitsOf w 4 6
  let lane := bitsOf w 10 4
  match op with
  | 0x00 =>
    if bitsOf w 4 10 ≠ 0 then none
    else if fn = 14 then guardU (d == 0) (.cmp a b)
    else (aluOf fn).map fun o => .alu o d a b
  | 0x01 => some (.imm .add d a i)
  | 0x02 => some (.imm .and d a i)
  | 0x03 => some (.imm .or d a i)
  | 0x04 => some (.imm .xor d a i)
  | 0x05 => guardU (i < 32) (.imm .sll d a i)
  | 0x06 => guardU (i < 32) (.imm .srl d a i)
  | 0x07 => guardU (i < 32) (.imm .sra d a i)
  | 0x08 => guardU (a == 0) (.lui d i)
  | 0x09 => guardU (d == 0) (.cmpi a i)
  | 0x0A => guardU (i < 32) (.sati d a i)
  | 0x10 => some (.load .w d a i)
  | 0x11 => some (.load .h d a i)
  | 0x12 => some (.load .hu d a i)
  | 0x13 => some (.sw d a i)
  | 0x14 => some (.sh d a i)
  | 0x18 => guardU (a == 0 && decide (d ≤ 8)) (.br d i)
  | 0x19 => guardU (d == 0 && a == 0 && decide (i < 2048)) (.jal i)
  | 0x1A => guardU (d == 0 && i == 0) (.jr a)
  | 0x1B => guardU (d == 0 && decide (i < 2048)) (.loop a i)
  | 0x1C => guardU (a == 0 && decide (i < 256) && i != 0) (.wait d i)
  | 0x1D => guardU (d == 0 && a == 0 && i == 0) .halt
  | 0x20 => guardU (decide (i < 65536)) (.prd d a i)
  | 0x21 => guardU (decide (i < 65536)) (.pwr d a i)
  | 0x22 => guardU (decide (i < 65536)) (.vldp d a i)
  | 0x23 => guardU (decide (i < 65536)) (.vstp d a i)
  | 0x28 => (vecOf fn).bind fun o => guardU (o != .sat || (decide (1 ≤ sh) && decide (sh ≤ 16))) (.vec o d a b sh)
  | 0x29 => guardU (decide (fn < 4)) (.vmac a b (fn % 2) (fn / 2))
  | 0x2A => guardU (decide (fn < 4)) (.vrda d (fn % 2) (fn / 2) sh)
  | 0x2B => guardU (decide (fn < 2)) (.vclr fn)
  | 0x2C => some (.vred d a)
  | 0x2D => some (.vbc d a)
  | 0x2E => some (.vext d a lane)
  | 0x2F => some (.vins d b lane)
  | 0x30 => some (.vld d a i)
  | 0x31 => some (.vst d a i)
  | _ => none

/-! ### Arithmetic -/

/-- Division by 2^sh, rounded to nearest with ties away from zero (R151). -/
def roundShift (x : Int) (sh : Nat) : Int :=
  if sh = 0 then x
  else if x < 0 then -(((-x) + 2 ^ (sh - 1)) / 2 ^ sh) else (x + 2 ^ (sh - 1)) / 2 ^ sh

/-- An 18-bit immediate, sign-extended to 32 bits. -/
def sext18 (i : Nat) : Word := BitVec.ofInt 32 (signed 18 i)

/-- The result of a scalar operation (R154). -/
def AluOp.eval (op : AluOp) (x y : Word) : Word :=
  match op with
  | .add => x + y
  | .sub => x - y
  | .and => x &&& y
  | .or => x ||| y
  | .xor => x ^^^ y
  | .sll => x <<< (y.toNat % 32)
  | .srl => x >>> (y.toNat % 32)
  | .sra => x.sshiftRight (y.toNat % 32)
  | .slt => if x.toInt < y.toInt then 1 else 0
  | .sltu => if x.toNat < y.toNat then 1 else 0
  | .min => if x.toInt ≤ y.toInt then x else y
  | .max => if x.toInt ≤ y.toInt then y else x
  | .mul => x * y
  | .mulh => BitVec.ofInt 32 (x.toInt * y.toInt / 2 ^ 32)

/-- The result of an immediate operation (R154): ADDI sign-extends, the logical ones zero-extend. -/
def ImmOp.eval (op : ImmOp) (x : Word) (i : Nat) : Word :=
  match op with
  | .add => x + sext18 i
  | .and => x &&& BitVec.ofNat 32 i
  | .or => x ||| BitVec.ofNat 32 i
  | .xor => x ^^^ BitVec.ofNat 32 i
  | .sll => x <<< (i % 32)
  | .srl => x >>> (i % 32)
  | .sra => x.sshiftRight (i % 32)

/-- The sign of an integer. -/
def signOf (x : Int) : Int := if x < 0 then -1 else if 0 < x then 1 else 0

/-- One lane of a lane-wise operation (R154). -/
def VecOp.eval (op : VecOp) (x y : Int) (sh : Nat) : Int :=
  match op with
  | .add => satSigned 16 (x + y)
  | .sub => satSigned 16 (x - y)
  | .mul => satSigned 16 (roundShift (x * y) sh)
  | .min => if x ≤ y then x else y
  | .max => if x ≤ y then y else x
  | .sgn => signOf x * signOf y
  | .shr => roundShift x sh
  | .shl => satSigned 16 (x * 2 ^ sh)
  | .sat => satSigned sh x
  | .and => signed 16 (unsignedOf 16 x &&& unsignedOf 16 y)
  | .mov => x

/-- A vector of 16 lanes of `w` bits as one number, from its lane codes (lane 0 lowest). -/
def packLanes (w : Nat) (l : List Nat) : Nat := l.foldr (fun x r => x % 2 ^ w + r * 2 ^ w) 0

end Sys2Proof.Machine
end

