-- ==== Sys2Proof/Machine/HostOps.lean ====
section
/-! DEFINITION. Operations of the host lanes (spec/07): rates and PLLs, receive banks, negotiation, training, electrical
idle. Negotiation states: 0 DISABLED, 1 LOCK, 2 EXCHANGE, 3 RESOLVED, 4 COUNTDOWN, 5 SWITCH, 6 TRAIN, 7 UP, 8 FALLBACK,
9 NO_COMMON. -/

namespace Sys2Proof.Machine

/-- Reset contents of a host receive bank word (R178). -/
def hostBankReset (i : Nat) : Nat :=
  match i with
  | 3 => 0x400 | 17 => 0x300 | 19 => 0x100 | 20 => 0x280 | 21 => 0x380 | 22 => 0x080 | 23 => 0x180 | 24 => 3
  | _ => 0

/-- The least and greatest code of tap i of the transmit FFE, in 1/64 (R180). -/
def ffeRange (i : Nat) : Int × Int :=
  match i with
  | 0 => (-8, 0) | 1 => (0, 8) | 2 => (-24, 0) | 3 => (32, 64) | _ => (-16, 0)

/-- The five taps c(-3) to c(1) of two FFE words, as codes in 1/64. -/
def ffeTaps (w0 w1 : Word) : List Int :=
  [signed 8 (HLANE.TX_FFE0_CM3.get w0), signed 8 (HLANE.TX_FFE0_CM2.get w0), signed 8 (HLANE.TX_FFE0_CM1.get w0),
   signed 8 (HLANE.TX_FFE1_C0.get w1), signed 8 (HLANE.TX_FFE1_C1.get w1)]

/-- Pair 1 of a host lane (R181): every tap in its range, and the magnitudes sum to at most 1. -/
def ffeOk (t : List Int) : Bool :=
  (t.zipIdx.all fun e => decide ((ffeRange e.2).1 ≤ e.1) && decide (e.1 ≤ (ffeRange e.2).2))
    && decide ((t.map Int.natAbs).sum ≤ 64)

/-- The FFE words of five taps. -/
def ffeWords (t : List Int) : Word × Word :=
  let c := fun i => unsignedOf 8 ((t[i]?).getD 0)
  (BitVec.ofNat 32 (c 0 + 256 * c 1 + 65536 * c 2), BitVec.ofNat 32 (c 3 + 256 * c 4))

/-- The taps of a preset (R190). -/
def ffePreset (p : Nat) : List Int :=
  match p with
  | 2 => [0, 0, -8, 56, 0]
  | 3 => [0, 2, -12, 48, -2]
  | _ => [0, 0, 0, 64, 0]

/-- A lane map is a permutation of 0 to 15 (R183). -/
def lmapOk (w0 w1 : Word) : Bool :=
  let l := (List.range 16).map fun j => bitsOf (w0.toNat + w1.toNat * 2 ^ 32) (4 * j) 4
  (List.range 16).all l.contains

/-- CRC-8 of a page's bits [47:8], bit 8 first, generator x^8 + x^2 + x + 1, initial value 0 (R185). -/
def pageCrc (page : Nat) : Nat :=
  (List.range 40).foldl (fun c i =>
    let b := (page.testBit (8 + i)) != (128 ≤ c : Bool)
    let c2 := 2 * c % 256
    if b then c2 ^^^ 7 else c2) 0

/-- Bits of a page that must agree in three pages: [47:8] without CNTDN (R186). -/
def pageKey (page : Nat) : Nat := page % 2 ^ 48 / 256 * 256 - bitsOf page 27 4 * 2 ^ 27

namespace State

/-! ### Lanes, PLLs and banks -/

/-- The PLL that rate code `r` of host lane `m` uses (R175). -/
def hostPll (m r : Nat) : PllId :=
  if h : m / 16 < 4 then (if r = 1 then .hostB ⟨m / 16, h⟩ else .hostA ⟨m / 16, h⟩) else .hostA 0

/-- The slices of host lane `m` are powered: its LANE_PWR bit and PD_HCk. -/
def hostPowered (s : State) (m : Nat) : Bool :=
  s.domReady (Dom.hc (m / 16)) && (s.f (Blk.hclu (m / 16)) HCLU.LANE_PWR_PWR).testBit (m % 16)

/-- Host lane `m` runs (R176): enabled at a rate, powered, clocks not stopped, and its PLL locked. -/
def hostRuns (s : State) (m : Nat) : Bool :=
  let b := Blk.hlane m
  s.blkOn b && s.fb b HLANE.HL_CTL_EN && s.hostPowered m && !s.clocksStopped && s.f b HLANE.HL_STAT_RATE != 0
    && s.pllLocked (hostPll m (s.f b HLANE.HL_STAT_RATE))

/-- The engine of a host lane sees SIG_DET or CDR_LOCK change (R169). -/
def hostSigChange (s : State) (m : Nat) : State := s.sigChange (17 + m / 16)

/-- A host bank word. -/
def hostWord (s : State) (m bank i : Nat) : Nat := SMap.get (hostBankReset i) (s.hlane m).rxBank (32 * bank + i)

/-- A host bank word as a read returns it (R178). -/
def hostWordRead (s : State) (m bank i : Nat) : Nat :=
  if 24 < i then 0 else if 16 ≤ i ∧ i < 24 then signExt10 (s.hostWord m bank i) else s.hostWord m bank i

/-- Stores a host bank word. -/
def setHostWord (s : State) (m bank i v : Nat) : State :=
  let v := if i < 16 then v % 4096 else if i < 24 then v % 1024 else v % 16
  s.modHlane m fun h => { h with rxBank := SMap.put (hostBankReset i) h.rxBank (32 * bank + i) v }

/-- INDEX advances after each HCOEF_DATA access when AUTO_INC = 1. -/
def hcoefAdvance (s : State) (m : Nat) : State :=
  let b := Blk.hlane m
  if s.fb b HLANE.HCOEF_IDX_AUTO_INC then s.setF b HLANE.HCOEF_IDX_INDEX (s.f b HLANE.HCOEF_IDX_INDEX + 1) else s

/-- CFG_REFUSED of a host lane. -/
def hostRefused (s : State) (m : Nat) : State := s.flag (Blk.hlane m) HLANE.HL_STAT_CFG_REFUSED HLANE.INT_CFG_REFUSED

/-- A write of HCOEF_DATA (R75, R178). -/
def hcoefWrite (s : State) (m : Nat) (v : Word) : State :=
  let b := Blk.hlane m
  let i := s.f b HLANE.HCOEF_IDX_INDEX
  let bank := s.f b HLANE.HCOEF_IDX_BANK
  let s' := if bank = s.f b HLANE.EQ_STAT_IN_USE ∨ 24 < i then s.hostRefused m else s.setHostWord m bank i (v.toNat % 4096)
  s'.hcoefAdvance m

/-- The word HCOEF_DATA shows. -/
def hcoefPeek (s : State) (m : Nat) : Word :=
  BitVec.ofNat 32 (s.hostWordRead m (s.f (Blk.hlane m) HLANE.HCOEF_IDX_BANK) (s.f (Blk.hlane m) HLANE.HCOEF_IDX_INDEX))

/-! ### State, pages and candidates (R184 to R188) -/

/-- STATE of host lane `m`. -/
def hostState (s : State) (m : Nat) : Nat := s.f (Blk.hlane m) HLANE.HL_STAT_STATE

/-- Sets STATE, UP and UP_MAP; ports are evaluated when UP changes. -/
def setHostState (s : State) (m st : Nat) : State :=
  let b := Blk.hlane m
  let was := s.fb b HLANE.HL_STAT_UP
  let up := st == 7
  let s := (s.setF b HLANE.HL_STAT_STATE st).setB b HLANE.HL_STAT_UP up
  if was == up then s
  else
    let c := Blk.hclu (m / 16)
    let map := s.f c HCLU.UP_MAP_UP
    let s := s.setF c HCLU.UP_MAP_UP (if up then map ||| 2 ^ (m % 16) else map ^^^ 2 ^ (m % 16))
    (s.hostHoldover m).portsEval

/-- SEQ advances (R185). -/
def seqUp (s : State) (m : Nat) : State :=
  s.setF (Blk.hlane m) HLANE.NEG_STAT_SEQ (s.f (Blk.hlane m) HLANE.NEG_STAT_SEQ + 1)

/-- Sets the SEL being sent; a change of the page advances SEQ (R185). -/
def setSel (s : State) (m sel : Nat) : State :=
  let b := Blk.hlane m
  if s.f b HLANE.NEG_STAT_SEL = sel then s else (s.setF b HLANE.NEG_STAT_SEL sel).seqUp m

/-- The page the lane sends (R185), with its CRC. -/
def hostPage (s : State) (m : Nat) : BitVec 64 :=
  let b := Blk.hlane m
  let h := s.hlane m
  let p := 0x4B + 0xD * 2 ^ 8 + s.f b HLANE.NEG_STAT_SEQ * 2 ^ 12 + s.f b HLANE.NEG_CTL_RATE_EN * 2 ^ 16
    + s.f b HLANE.NEG_CTL_TRAIN_EN * 2 ^ 20 + s.f b HLANE.NEG_CTL_FASTX_EN * 2 ^ 21 + h.ack.toNat * 2 ^ 22
    + s.f b HLANE.NEG_STAT_SEL * 2 ^ 24 + h.cntdn * 2 ^ 27 + s.f b HLANE.NEG_CTL_LANE_ID * 2 ^ 32
    + s.f b HLANE.NEG_CTL_GROUP * 2 ^ 40
  BitVec.ofNat 64 (p + pageCrc p * 2 ^ 48)

/-- Bit `i` of the partner's accepted page, counted as in R185. -/
def partnerBit (s : State) (m i : Nat) : Bool := (s.reg (Blk.hlane m) HLANE.NEG_PART).getLsbD (i - 16)

/-- The partner's SEL, codes 5 to 7 taken as 0. -/
def partnerSel (s : State) (m : Nat) : Nat :=
  let x := bitsOf (s.reg (Blk.hlane m) HLANE.NEG_PART).toNat 8 3
  if 5 ≤ x then 0 else x

/-- The candidate rate of a lane that has accepted its partner's page (R187). -/
def hostCandidate (s : State) (m : Nat) : Option Nat :=
  let b := Blk.hlane m
  if !s.fb b HLANE.NEG_STAT_PARTNER_VALID then none
  else [4, 3, 2, 1].find? fun r =>
    (s.f b HLANE.NEG_CTL_RATE_EN).testBit (r - 1) && s.partnerBit m (15 + r)
      && !(s.f b HLANE.NEG_STAT_FAIL_MASK).testBit (r - 1) && (r != 4 || decide (m < 32))
      && (r == 1 || s.partnerBit m 20 || !s.fb b HLANE.NEG_CTL_TRAIN_EN)

/-- The other enabled lanes of the cluster that share the lane's nonzero GROUP (R187). -/
def hostGroup (s : State) (m : Nat) : List Nat :=
  let g := s.f (Blk.hlane m) HLANE.NEG_CTL_GROUP
  if g = 0 then []
  else ((List.range 16).map (16 * (m / 16) + ·)).filter fun k =>
    k != m && s.fb (Blk.hlane k) HLANE.HL_CTL_EN && s.f (Blk.hlane k) HLANE.NEG_CTL_GROUP == g

/-- Every member of the lane's group has accepted its partner's page. -/
def groupComplete (s : State) (m : Nat) : Bool :=
  (s.hostGroup m).all fun k => s.fb (Blk.hlane k) HLANE.NEG_STAT_PARTNER_VALID

/-- The SEL that the lane sends from RESOLVED on (R187): none when it has no candidate. -/
def hostSel (s : State) (m : Nat) : Option Nat :=
  (s.hostCandidate m).map fun c =>
    let ps := s.partnerSel m
    let c := if ps = 0 then c else min c ps
    ((s.hostGroup m).filterMap s.hostCandidate).foldl min c

/-- Entry to LOCK (R188, R189): at 25.78125 Gb/s, or at FORCE_RATE under NEG_BYPASS; NEG_TIMER starts again. -/
def hostToLock (s : State) (m : Nat) : State :=
  let b := Blk.hlane m
  let rate := if s.fb b HLANE.HL_CTL_NEG_BYPASS then s.f b HLANE.HL_CTL_FORCE_RATE else 1
  let s := if s.f b HLANE.HL_STAT_RATE = rate then s
    else (s.setF b HLANE.HL_STAT_RATE rate).setF b HLANE.HL_STAT_BLOCK_LOCK 0
  let s := s.modHlane m fun h => { h with timer := true, cntdn := 15, ack := false, agree := 0 }
  let s := (s.setF b HLANE.NEG_STAT_PARTNER_VALID 0).setF b HLANE.HL_STAT_TX_IDLE 0
  (s.setSel m 0).setHostState m 1

/-- Entry to UP. -/
def hostToUp (s : State) (m : Nat) : State :=
  let s := if s.fb (Blk.hlane m) HLANE.HL_CTL_NEG_BYPASS then s.modHlane m fun h => { h with timer := false } else s
  (s.setHostState m 7).raise (Blk.hlane m) HLANE.INT_UP

/-- Entry to TRAIN. -/
def hostToTrain (s : State) (m : Nat) : State :=
  let b := Blk.hlane m
  let s := if s.fb b HLANE.HL_CTL_NEG_BYPASS then s.modHlane m fun h => { h with timer := false } else s
  ((s.setF b HLANE.TRN_STAT_LOCAL_READY 0).setF b HLANE.TRN_STAT_PARTNER_READY 0).setHostState m 6

/-- RESOLVED, or NO_COMMON when the lane has no candidate (R187, R188). -/
def hostResolve (s : State) (m : Nat) : State :=
  match s.hostSel m with
  | some sel => (s.setSel m sel).setHostState m 3
  | none => ((s.setSel m 0).setHostState m 9).raise (Blk.hlane m) HLANE.INT_NEG_FAIL

/-- One evaluation of the negotiation after a page or a change (R188): EXCHANGE to RESOLVED, RESOLVED to COUNTDOWN,
COUNTDOWN back to RESOLVED. -/
def hostNegotiate (s : State) (m : Nat) : State :=
  let b := Blk.hlane m
  let h := s.hlane m
  match s.hostState m with
  | 2 => if s.fb b HLANE.NEG_STAT_PARTNER_VALID && s.partnerBit m 22 then s.hostResolve m else s
  | 3 =>
    match s.hostSel m with
    | none => s.hostResolve m
    | some sel =>
      let s := s.setSel m sel
      if sel = s.partnerSel m ∧ s.groupComplete m ∧ (h.partnerCntdn = 15 ∨ h.partnerCntdn < 8) then
        (s.modHlane m fun h => { h with cntdn := 7 }).setHostState m 4
      else s
  | 4 =>
    if s.partnerSel m ≠ s.f b HLANE.NEG_STAT_SEL ∨ h.partnerCntdn = 15 ∨ s.hostSel m ≠ some (s.f b HLANE.NEG_STAT_SEL) then
      (s.modHlane m fun h => { h with cntdn := 15 }).hostResolve m
    else s
  | _ => s

/-- A capability page is received (R186). -/
def pageRx (s : State) (m : Nat) (page : BitVec 64) : State :=
  let b := Blk.hlane m
  let p := page.toNat
  if !s.hostRuns m || !s.fb b HLANE.HL_STAT_BLOCK_LOCK || s.hostState m = 0 || 5 ≤ s.hostState m && s.hostState m ≠ 9
      || s.fb b HLANE.HL_CTL_NEG_BYPASS then s
  else if bitsOf p 0 8 ≠ 0x4B ∨ bitsOf p 8 4 ≠ 0xD then s
  else if pageCrc p ≠ bitsOf p 48 8 then s.countSat b HLANE.NEG_CNT_CRC_ERR 1
  else
    let h := s.hlane m
    let k := pageKey p
    let agree := if h.agree ≠ 0 ∧ h.lastPage = k then min 3 (h.agree + 1) else 1
    let raw := bitsOf p 27 4
    let s := s.modHlane m fun h =>
      { h with lastPage := k, agree := agree, partnerCntdn := if 8 ≤ raw then 15 else raw }
    let fresh := agree = 3 ∧ h.agree ≠ 3
    let s := if fresh then
        let s := ((s.setReg b HLANE.NEG_PART (BitVec.ofNat 32 (p / 2 ^ 16))).setF b HLANE.NEG_STAT_PARTNER_VALID 1).modHlane m
          fun h => { h with ack := true }
        let s := s.raise b HLANE.INT_PAGE_RX
        if s.hostState m = 9 then s.setHostState m 2 else s
      else s
    if agree = 3 then s.hostNegotiate m else s

/-- A capability page is sent (R185, R188): in COUNTDOWN the count falls, and the page with CNTDN = 0 leads to SWITCH. -/
def pageTx (s : State) (m : Nat) : State :=
  let b := Blk.hlane m
  let st := s.hostState m
  if !s.hostRuns m || s.fb b HLANE.HL_STAT_CAL_RUN || s.fb b HLANE.HL_CTL_NEG_BYPASS
      || !(st == 1 || st == 2 || st == 3 || st == 4 || st == 9) then s
  else
    let s := s.send (.page m (s.hostPage m))
    if st ≠ 4 then s.hostNegotiate m
    else if (s.hlane m).cntdn = 0 then
      ((s.modHlane m fun h => { h with timer := false }).setF b HLANE.HL_STAT_TX_IDLE 1).setHostState m 5
    else s.modHlane m fun h => { h with cntdn := h.cntdn - 1 }

/-- Block lock is gained at rate 1 (R184): LOCK goes to EXCHANGE; under NEG_BYPASS the lane goes on when CDR_LOCK = 1. -/
def bypassEval (s : State) (m : Nat) : State :=
  let b := Blk.hlane m
  let rate := s.f b HLANE.HL_STAT_RATE
  if s.hostState m = 1 ∧ s.fb b HLANE.HL_CTL_NEG_BYPASS ∧ s.hostRuns m ∧ s.fb b HLANE.HL_STAT_CDR_LOCK
      ∧ (rate ≠ 1 ∨ s.fb b HLANE.HL_STAT_BLOCK_LOCK) then
    if 2 ≤ rate ∧ s.fb b HLANE.NEG_CTL_TRAIN_EN then s.hostToTrain m else s.hostToUp m
  else s

/-- Clause 49 block lock is gained (R184, R188). -/
def blockLock (s : State) (m : Nat) : State :=
  let b := Blk.hlane m
  if s.hostRuns m && s.f b HLANE.HL_STAT_RATE == 1 && !s.fb b HLANE.HL_STAT_CAL_RUN then
    let s := s.setF b HLANE.HL_STAT_BLOCK_LOCK 1
    let s := if s.hostState m = 1 ∧ !s.fb b HLANE.HL_CTL_NEG_BYPASS then
        (s.modHlane m fun h => { h with ack := false }).setHostState m 2
      else s
    let s := if (s.hlane m).asleep && !s.pwr.idle && s.hostState m == 7 then
        (s.modHlane m fun h => { h with asleep := false }).portsEval
      else s
    s.bypassEval m
  else s

/-- SWITCH has lasted 2 µs (R188): PLL and rate change; TRAIN, or UP. -/
def switchElapsed (s : State) (m : Nat) : State :=
  let b := Blk.hlane m
  if s.hostState m ≠ 5 then s
  else
    let sel := s.f b HLANE.NEG_STAT_SEL
    let s := (s.setF b HLANE.HL_STAT_RATE sel).setF b HLANE.HL_STAT_TX_IDLE 0
    let s := if sel = 1 then s else s.setF b HLANE.HL_STAT_BLOCK_LOCK 0
    if 2 ≤ sel ∧ s.fb b HLANE.NEG_CTL_TRAIN_EN then s.hostToTrain m else s.hostToUp m

/-! ### Training (R189, R190, R194) -/

/-- The active taps of host lane `m`. -/
def hostTaps (s : State) (m : Nat) : List Int :=
  ffeTaps (s.reg (Blk.hlane m) HLANE.TX_FFE0) (s.reg (Blk.hlane m) HLANE.TX_FFE1)

/-- Sets the active taps, and TAP_LIMIT: bit i when tap i is at a limit of R180. -/
def setHostTaps (s : State) (m : Nat) (t : List Int) : State :=
  let b := Blk.hlane m
  let w := ffeWords t
  let lim := (t.zipIdx.filter fun e => e.1 == (ffeRange e.2).1 || e.1 == (ffeRange e.2).2).foldl (fun a e => a + 2 ^ e.2) 0
  ((s.setReg b HLANE.TX_FFE0 w.1).setReg b HLANE.TX_FFE1 w.2).setF b HLANE.TRN_STAT_TAP_LIMIT lim

/-- Both ends ready, or under NEG_BYPASS the local receiver: TRAIN to UP. -/
def trainEval (s : State) (m : Nat) : State :=
  let b := Blk.hlane m
  if s.hostState m = 6 ∧ s.fb b HLANE.TRN_STAT_LOCAL_READY
      ∧ (s.fb b HLANE.TRN_STAT_PARTNER_READY ∨ s.fb b HLANE.HL_CTL_NEG_BYPASS) then s.hostToUp m
  else s

/-- A training frame is received in TRAIN (R190): `tap` 0 to 4, `op` 0 hold, 1 increment, 2 decrement, or a preset 1 to 3
(0 none); a request outside R180 or pair 1 is answered with the limit status and not applied. -/
def trainFrame (s : State) (m tap op preset : Nat) (ready : Bool) : State :=
  let b := Blk.hlane m
  if s.hostState m ≠ 6 then s
  else
    let cur := s.hostTaps m
    let want := if preset ≠ 0 then ffePreset preset
      else cur.zipIdx.map fun e => if e.2 = tap then e.1 + (if op = 1 then 1 else if op = 2 then -1 else 0) else e.1
    let asks := preset ≠ 0 ∨ op = 1 ∨ op = 2
    let s := if !asks then s
      else if ffeOk want then
        ((s.setHostTaps m want).countSat b HLANE.TRN_STAT_REQS 1).send (.trainingStatus m tap 0)
      else s.send (.trainingStatus m tap (if op = 2 then 2 else 1))
    (s.setB b HLANE.TRN_STAT_PARTNER_READY ready).trainEval m

/-- TRAIN_LIMIT expires in TRAIN (R188, R189): FALLBACK, then LOCK. -/
def trainLimit (s : State) (m : Nat) : State :=
  let b := Blk.hlane m
  if s.hostState m ≠ 6 then s
  else
    let s := if s.fb b HLANE.HL_CTL_NEG_BYPASS then s
      else s.setF b HLANE.NEG_STAT_FAIL_MASK (s.f b HLANE.NEG_STAT_FAIL_MASK ||| 2 ^ (s.f b HLANE.NEG_STAT_SEL - 1))
    ((s.countSat b HLANE.NEG_CNT_FALLBACKS 1).raise b HLANE.INT_FALLBACK).hostToLock m

/-- NEG_TIMER.LIMIT expires before SWITCH (R188, R189). -/
def negTimerLimit (s : State) (m : Nat) : State :=
  let b := Blk.hlane m
  let st := s.hostState m
  if (s.hlane m).timer ∧ 1 ≤ st ∧ st ≤ 4 ∧ s.f b HLANE.NEG_TIMER_LIMIT ≠ 0 then
    let s := (s.countSat b HLANE.NEG_CNT_ATTEMPTS 1).raise b HLANE.INT_NEG_FAIL
    let sel := s.f b HLANE.NEG_STAT_SEL
    let s := s.hostToLock m
    if sel = 0 then s.seqUp m else s
  else s

/-- Lock has been missing for 10 ms in UP (R188, R189). -/
def linkDownTimeout (s : State) (m : Nat) : State :=
  let b := Blk.hlane m
  if s.hostState m = 7 ∧ (!s.fb b HLANE.HL_STAT_CDR_LOCK
      ∨ (s.f b HLANE.HL_STAT_RATE = 1 ∧ !s.fb b HLANE.HL_STAT_BLOCK_LOCK)) then
    let s := s.raise b HLANE.INT_DOWN
    let s := if s.fb b HLANE.HL_CTL_NEG_BYPASS then s else s.setF b HLANE.NEG_STAT_FAIL_MASK 0
    s.hostToLock m
  else s

/-- `NEG_CTL.RESTART` of an enabled lane (R188). -/
def hostRestart (s : State) (m : Nat) : State :=
  let b := Blk.hlane m
  if !s.fb b HLANE.HL_CTL_EN then s
  else
    let sel := s.f b HLANE.NEG_STAT_SEL
    let s := (s.setF b HLANE.NEG_STAT_FAIL_MASK 0).hostToLock m
    if sel = 0 then s.seqUp m else s

/-- A write of NEG_CTL: a change of a page field advances SEQ once; a change of RATE_EN in NO_COMMON leads to EXCHANGE;
RESTART. Bit 3 of RATE_EN is fixed at 0 on HL32 to HL63 (R175). -/
def negCtl (s : State) (m : Nat) (v : Word) : State :=
  let b := Blk.hlane m
  let v := if 32 ≤ m then HLANE.NEG_CTL_RATE_EN.put v (HLANE.NEG_CTL_RATE_EN.get v % 8) else v
  let old := s.reg b HLANE.NEG_CTL
  let s := s.writeReg b HLANE.NEG_CTL v
  let page := fun w => (HLANE.NEG_CTL_RATE_EN.get w, HLANE.NEG_CTL_TRAIN_EN.get w, HLANE.NEG_CTL_FASTX_EN.get w,
    HLANE.NEG_CTL_GROUP.get w, HLANE.NEG_CTL_LANE_ID.get w)
  let restart := HLANE.NEG_CTL_RESTART.get v == 1 && s.fb b HLANE.HL_CTL_EN
  let s := if page old = page v || restart then s else s.seqUp m
  let s := if s.hostState m = 9 ∧ HLANE.NEG_CTL_RATE_EN.get old ≠ HLANE.NEG_CTL_RATE_EN.get v then s.setHostState m 2 else s
  if restart then s.hostRestart m else s

/-! ### Enable, power, signal (R176, R188, R189, R191) -/

/-- Receiver status goes to 0 without interrupts (R61, R176). -/
def hostQuiet (s : State) (m : Nat) : State :=
  let b := Blk.hlane m
  let changed := s.fb b HLANE.HL_STAT_SIG_DET || s.fb b HLANE.HL_STAT_CDR_LOCK
  let s := (((s.setF b HLANE.HL_STAT_SIG_DET 0).setF b HLANE.HL_STAT_CDR_LOCK 0).setF b HLANE.HL_STAT_FREQ_OOR 0).setF b
    HLANE.HL_STAT_BLOCK_LOCK 0
  let s := if changed then s.hostSigChange m else s
  s.holdoverAll

/-- EN falls (R188): DISABLED, squelch, RATE 0. -/
def hostDisable (s : State) (m : Nat) : State :=
  let b := Blk.hlane m
  let s := ((s.setF b HLANE.HL_CTL_EN 0).setF b HLANE.HL_STAT_RATE 0).setF b HLANE.HL_STAT_CAL_RUN 0
  let s := ((s.setF b HLANE.HL_STAT_TX_IDLE 0).setF b HLANE.HL_STAT_RX_IDLE 0).setF b HLANE.NEG_STAT_PARTNER_VALID 0
  let s := s.modHlane m fun h => { h with timer := false, cntdn := 15, ack := false, agree := 0, asleep := false }
  ((s.setHostState m 0).hostQuiet m).setB b HLANE.HL_STAT_HOLDOVER false

/-- EN rises (R177, R188, R189): calibration, cleared counts, SEQ, LOCK. -/
def hostEnable (s : State) (m : Nat) : State :=
  let b := Blk.hlane m
  let s := (s.setF b HLANE.HL_STAT_CAL_RUN 1).setF b HLANE.NEG_STAT_FAIL_MASK 0
  let s := s.setReg b HLANE.NEG_CNT 0
  ((s.setF b HLANE.NEG_STAT_SEL 0).seqUp m).hostToLock m

/-- A FORCE_RATE that R175 refuses on lane `m`. -/
def rateBad (m r : Nat) : Bool := decide (5 ≤ r) || (r == 4 && decide (32 ≤ m))

/-- A write of HL_CTL (R175, R176, R188, R189). -/
def hlCtl (s : State) (m : Nat) (v : Word) : State :=
  let b := Blk.hlane m
  let was := s.fb b HLANE.HL_CTL_EN
  let change := HLANE.HL_CTL_FORCE_RATE.get v != s.f b HLANE.HL_CTL_FORCE_RATE
    || HLANE.HL_CTL_NEG_BYPASS.get v != s.f b HLANE.HL_CTL_NEG_BYPASS
  let bad := (was && change) || rateBad m (HLANE.HL_CTL_FORCE_RATE.get v)
  let badEn := HLANE.HL_CTL_EN.get v == 1 && !was && !s.hostPowered m
  let v := if bad then HLANE.HL_CTL_NEG_BYPASS.put (HLANE.HL_CTL_FORCE_RATE.put v (s.f b HLANE.HL_CTL_FORCE_RATE))
      (s.f b HLANE.HL_CTL_NEG_BYPASS) else v
  let v := if badEn then HLANE.HL_CTL_EN.put v 0 else v
  let s := s.writeReg b HLANE.HL_CTL v
  let s := if bad || badEn then s.hostRefused m else s
  let now := s.fb b HLANE.HL_CTL_EN
  if now && !was then s.hostEnable m else if was && !now then s.hostDisable m else s

/-- A write of HCLU.LANE_PWR (R176): clearing a bit clears that lane's EN and PWR_RDY. -/
def hostLanePwr (s : State) (k : Nat) (v : Word) : State :=
  let s := s.writeReg (Blk.hclu k) HCLU.LANE_PWR v
  (List.range 16).foldl (fun s j =>
    let m := 16 * k + j
    if s.hostPowered m then s
    else
      let s := if s.fb (Blk.hlane m) HLANE.HL_CTL_EN then s.hostDisable m else s
      s.setF (Blk.hlane m) HLANE.HL_STAT_PWR_RDY 0) s

/-- The signal is detected on a host lane (R61, R176). -/
def hostSigRise (s : State) (m : Nat) : State :=
  let b := Blk.hlane m
  if s.hostRuns m && !s.fb b HLANE.HL_STAT_CAL_RUN && !s.fb b HLANE.HL_STAT_SIG_DET then
    (s.setF b HLANE.HL_STAT_SIG_DET 1).hostSigChange m
  else s

/-- CDR_LOCK of a host lane falls; CDR_LOCK_LOST is raised outside RX_IDLE (R72, R191). -/
def hostCdrLost (s : State) (m : Nat) : State :=
  let b := Blk.hlane m
  if s.fb b HLANE.HL_STAT_CDR_LOCK then
    let s := (s.setF b HLANE.HL_STAT_CDR_LOCK 0).hostSigChange m
    (if s.fb b HLANE.HL_STAT_RX_IDLE then s else s.raise b HLANE.INT_CDR_LOCK_LOST).holdoverAll
  else s

/-- The signal of a host lane is lost (R61, R191). -/
def hostSigFall (s : State) (m : Nat) : State :=
  let b := Blk.hlane m
  if s.fb b HLANE.HL_STAT_SIG_DET then
    let s := (s.setF b HLANE.HL_STAT_SIG_DET 0).hostSigChange m
    (if s.fb b HLANE.HL_STAT_RX_IDLE then s else s.raise b HLANE.INT_SIG_LOST).hostCdrLost m
  else s

/-- CDR_LOCK of a host lane sets (R72, R179). -/
def hostCdrGain (s : State) (m : Nat) (freq : Int) : State :=
  let b := Blk.hlane m
  if s.hostRuns m && s.fb b HLANE.HL_STAT_SIG_DET && !s.fb b HLANE.HL_STAT_FREQ_OOR && !s.fb b HLANE.HL_STAT_CDR_LOCK then
    ((((s.setF b HLANE.HL_STAT_CDR_LOCK 1).setReg b HLANE.CDR_FREQ
      (BitVec.ofInt 32 (clampInt (-256000) 256000 freq))).hostSigChange m).holdoverAll).bypassEval m
  else s

/-- FREQ_OOR of a host lane sets (R72). -/
def hostOorSet (s : State) (m : Nat) : State :=
  let b := Blk.hlane m
  if s.hostRuns m && !s.fb b HLANE.HL_STAT_FREQ_OOR then
    let s := s.flag b HLANE.HL_STAT_FREQ_OOR HLANE.INT_FREQ_OOR
    if s.fb b HLANE.HL_STAT_CDR_LOCK then ((s.setF b HLANE.HL_STAT_CDR_LOCK 0).hostSigChange m).holdoverAll else s
  else s

/-- FREQ_OOR of a host lane clears (R72). -/
def hostOorClear (s : State) (m : Nat) : State := s.setF (Blk.hlane m) HLANE.HL_STAT_FREQ_OOR 0

/-- RX_IDLE sets (R191). -/
def rxIdleSet (s : State) (m : Nat) : State :=
  if s.hostRuns m then s.setF (Blk.hlane m) HLANE.HL_STAT_RX_IDLE 1 else s

/-- RX_IDLE clears (R191). -/
def rxIdleClear (s : State) (m : Nat) : State := s.setF (Blk.hlane m) HLANE.HL_STAT_RX_IDLE 0

/-- The partner's end marker, or NRZ block lock, ends the burst (R192, R193): the lane is UP again. -/
def fastExit (s : State) (m : Nat) : State :=
  let b := Blk.hlane m
  if (s.hlane m).asleep && !s.pwr.idle then
    (((s.modHlane m fun h => { h with asleep := false }).setF b HLANE.HL_STAT_TX_IDLE 0).setHostState m 7).portsEval
  else s

/-- The PLLs of a host cluster stop, or a slice loses power: the lanes on PLL `p` clear their status without interrupts. -/
def hostPllLanes (s : State) (k : Nat) (isB : Bool) : List Nat :=
  ((List.range 16).map (16 * k + ·)).filter fun m =>
    let r := s.f (Blk.hlane m) HLANE.HL_STAT_RATE
    r != 0 && (r == 1) == isB

/-- The entry answers of a host lane (R193). -/
def hostAnswer (s : State) (m : Nat) : PwrAnswer :=
  let b := Blk.hlane m
  match s.hostState m with
  | 0 | 1 | 2 | 8 | 9 => .accept
  | 7 => if s.fb b HLANE.NEG_CTL_FASTX_EN && s.partnerBit m 21 then .accept else .refuse 2
  | _ => .delay 1000

end State
end Sys2Proof.Machine
end

