-- ==== Sys2Proof/Machine/EngineOps.lean ====
section
/-! DEFINITION. Operations of the lane engines (spec/06): control sets, faults, primitives, microcode banks, mailbox, and
the execution of one instruction. Engines are numbered as in R334: LE0 to LE16, then HE0 to HE3 as 17 to 20. -/

namespace Sys2Proof.Machine

/-- The block that holds the control set of engine `e` (R147). -/
def engBlk (e : Nat) : Nat := if e < 16 then Blk.lclu (e / 4) else if e = 16 then Blk.llane 16 else Blk.hclu (e - 17)

/-- The offset of the control set inside the block (R147). -/
def engBase (e : Nat) : Nat := if e < 16 then 0x200 + 0x80 * (e % 4) else 0x200

/-- The interrupt source of the engine: block and INT_STAT bit (R147). -/
def engInt (e : Nat) : Nat × Nat :=
  if e < 16 then (Blk.lclu (e / 4), 8 + e % 4) else if e = 16 then (Blk.pmap, 31) else (Blk.hclu (e - 17), 8)

/-- The engines whose control set lies in block `b`. -/
def blkEngines (b : Nat) : List Nat := (List.range 21).filter fun e => engBlk e == b

/-- What comes after an instruction: the next word, a jump, a fault, a halt, or a wait. -/
inductive EngNext where
  | seq
  | jump (pc : Nat)
  | fault (code detail : Nat)
  | halt
  | wait (mask dest : Nat)
deriving DecidableEq, Repr

namespace State

/-- Changes the record of engine `e`. -/
def modEng (s : State) (e : Nat) (g : Engine → Engine) : State := s.setEng e (g (s.eng e))

/-- A field of the engine's control set. -/
def ef (s : State) (e : Nat) (fl : Nat → Fld) : Nat := s.f (engBlk e) (fl (engBase e))

/-- A one-bit field of the engine's control set. -/
def efb (s : State) (e : Nat) (fl : Nat → Fld) : Bool := s.ef e fl != 0

/-- Sets a field of the engine's control set. -/
def setEf (s : State) (e : Nat) (fl : Nat → Fld) (v : Nat) : State := s.setF (engBlk e) (fl (engBase e)) v

/-- The engine's interrupt source follows LE_EVT and LE_EVT_EN (R147). -/
def engIrq (s : State) (e : Nat) : State :=
  if s.reg (engBlk e) (ENG.LE_EVT (engBase e)) &&& s.reg (engBlk e) (ENG.LE_EVT_EN (engBase e)) = 0 then s
  else s.raise (engInt e).1 (engInt e).2

/-- Sets a bit of LE_EVT. -/
def engEvt (s : State) (e : Nat) (fl : Nat → Fld) : State := (s.setEf e fl 1).engIrq e

/-- The engine's domain is up. -/
def engOn (s : State) (e : Nat) : Bool := s.domReady (engDomain e)

/-- The engine has its clock (R148, R172). -/
def engClock (s : State) (e : Nat) : Bool :=
  s.engOn e && !s.clocksStopped && (if e < 17 then s.pllLocked (linePll e) else s.fb Blk.clk CLK.STAT_REF_PLL_LOCK)

/-- Sets the activity of the engine with LE_STAT. -/
def setRun (s : State) (e : Nat) (r : EngRun) : State :=
  let s := s.modEng e fun g => { g with run := r }
  let s := s.setEf e ENG.LE_STAT_RUNNING (match r with | .running => 1 | _ => 0)
  let s := s.setEf e ENG.LE_STAT_WAITING (match r with | .waiting _ _ => 1 | _ => 0)
  s.setEf e ENG.LE_STAT_HALTED (match r with | .halted => 1 | _ => 0)

/-- The engine stops with a fault (R152); a MEM_UE record is anchored. -/
def engFault (s : State) (e code detail : Nat) : State :=
  let s := s.setEf e ENG.LE_STAT_FAULT code
  let s := (s.setEf e ENG.LE_FAULT_PC (s.eng e).pc).setEf e ENG.LE_FAULT_DETAIL detail
  let s := (s.setEf e ENG.LE_CTL_RUN 0).setRun e .halted
  let s := s.engEvt e ENG.LE_EVT_FAULT
  s.logRecord
    { typ := 0x0020, src := engBlk e, anch := code == 5, pos := if e < 17 then s.lanePos e true else {}
      payload := logPayload [e, (s.reg (engBlk e) (ENG.LE_STAT (engBase e))).toNat,
        (s.reg (engBlk e) (ENG.LE_FAULT (engBase e))).toNat] }

/-! ### Banks (R164 to R167) -/

/-- The VALID, SEALING and LEN fields and the version register of a bank. -/
def bankFields (b : Nat) : (Nat → Fld) × (Nat → Fld) × (Nat → Fld) × (Nat → Nat) :=
  if b = 0 then (ENG.UC_BANK0_VALID, ENG.UC_BANK0_SEALING, ENG.UC_BANK0_LEN, ENG.UC_VER0)
  else (ENG.UC_BANK1_VALID, ENG.UC_BANK1_SEALING, ENG.UC_BANK1_LEN, ENG.UC_VER1)

/-- VALID of a bank. -/
def bankValid (s : State) (e b : Nat) : Bool := s.efb e (bankFields b).1

/-- Bank `b` is in use: LE_STAT names it and it is valid. -/
def bankInUse (s : State) (e b : Nat) : Bool := s.ef e ENG.LE_STAT_BANK_IN_USE == b && s.bankValid e b

/-- A shadow of LE_CTL.BANK names bank `b`. -/
def bankNamed (s : State) (e b : Nat) : Bool :=
  s.staged (engBlk e) && (ENG.LE_CTL_BANK (engBase e)).get (s.shadow (engBlk e) (ENG.LE_CTL (engBase e))) == b

/-- The UC_BANKb word a read returns: IN_USE and ARMED are computed. -/
def ucBankWord (s : State) (e b : Nat) : Word :=
  let off := if b = 0 then ENG.UC_BANK0 (engBase e) else ENG.UC_BANK1 (engBase e)
  let w := s.reg (engBlk e) off
  (ENG.UC_BANK0_ARMED off).put ((ENG.UC_BANK0_IN_USE off).put w (s.bankInUse e b).toNat) (s.bankNamed e b).toNat

/-- UC_REFUSED. -/
def ucRefused (s : State) (e : Nat) : State := s.engEvt e ENG.LE_EVT_UC_REFUSED

/-- Microcode writes are accepted from the Keeper at every debug level, and from others only at OPEN (R164). -/
def ucAllowed (s : State) (q : Requester) : Bool := q == .keeper || s.f Blk.dbg DBG.STAT_LEVEL == 2

/-- A write of UC_DATA (R164). -/
def ucDataWrite (s : State) (q : Requester) (e : Nat) (v : Word) : State :=
  let b := s.ef e ENG.UC_ADDR_BANK
  let w := s.ef e ENG.UC_ADDR_WORD
  if !s.ucAllowed q then s.dbgDenied.ucRefused e
  else if s.bankInUse e b || s.bankNamed e b then s.ucRefused e
  else
    let s := s.sramWrite (ucBase e b + 4 * w) (Codec.leBytes 4 v.toNat)
    let s := s.setEf e (bankFields b).1 0
    if s.efb e ENG.UC_ADDR_AUTO_INC then s.setEf e ENG.UC_ADDR_WORD (w + 1) else s

/-- The word a read of UC_DATA returns (R164). -/
def ucDataPeek (s : State) (q : Requester) (e : Nat) : Word :=
  if q == .keeper || s.f Blk.dbg DBG.STAT_LEVEL != 0 then
    BitVec.ofNat 32 (s.sramWordRaw ((ucBase e (s.ef e ENG.UC_ADDR_BANK) + 4 * s.ef e ENG.UC_ADDR_WORD) / 4)).data
  else 0

/-- A write of UC_SEAL (R165): SEAL, or INVALIDATE. -/
def ucSeal (s : State) (q : Requester) (e : Nat) (v : Word) : State :=
  let o := engBase e
  let b := (ENG.UC_SEAL_BANK o).get v
  let len := (ENG.UC_SEAL_LEN o).get v
  let barred := !s.ucAllowed q || s.bankInUse e b || s.bankNamed e b
  if (ENG.UC_SEAL_SEAL o).get v = 1 then
    if barred || len = 0 || decide (2048 < len) || (s.eng e).sealing.isSome then s.ucRefused e
    else (s.modEng e fun g => { g with sealing := some (b, len) }).setEf e (bankFields b).2.1 1
  else if (ENG.UC_SEAL_INVALIDATE o).get v = 1 then
    if barred then s.ucRefused e else s.setEf e (bankFields b).1 0
  else s

/-- Sealing completes (R165): the pages are sealed, VALID, LEN and the version are recorded. -/
def ucSealed (s : State) (e : Nat) : State :=
  match (s.eng e).sealing with
  | none => s
  | some (b, len) =>
    let f := bankFields b
    let pg := ucBase e b / 1024
    let s := s.setSram { s.sram with
      sealed := (List.range 8).foldl (fun m i => SMap.put false m (pg + i) true) s.sram.sealed }
    let s := ((s.setEf e f.1 1).setEf e f.2.1 0).setEf e f.2.2.1 len
    let s := s.setReg (engBlk e) (f.2.2.2 (engBase e)) (s.reg (engBlk e) (ENG.UC_VER (engBase e)))
    (s.modEng e fun g => { g with sealing := none }).engEvt e ENG.LE_EVT_SEALED

/-- The active LE_CTL.BANK may have changed: a swap is due (R167). -/
def bankChanged (s : State) (e : Nat) : State :=
  let b := s.ef e ENG.LE_CTL_BANK
  if b = s.ef e ENG.LE_STAT_BANK_IN_USE then s.modEng e fun g => { g with swapTo := none }
  else s.modEng e fun g => { g with swapTo := some b }

/-- The swap (R167): the new bank is in use, PC := 0, flags, loop and any WAIT are cleared. -/
def ucSwap (s : State) (e : Nat) : State :=
  match (s.eng e).swapTo with
  | none => s
  | some b =>
    let s := s.modEng e fun g =>
      { g with swapTo := none, pc := 0, z := false, n := false, c := false, vf := false, p := false, loop := none
               loadDest := none }
    let s := match (s.eng e).run with
      | .waiting _ _ => s.setRun e .running
      | _ => s
    let s := s.setEf e ENG.LE_STAT_BANK_IN_USE b
    let s := if e < 17 then s.laneEvent e 8 else s
    s.engEvt e ENG.LE_EVT_SWAPPED

/-- The engine starts at word 0 of the bank in use (R153). -/
def engStart (s : State) (e : Nat) : State :=
  let s := s.modEng e fun g =>
    { g with pc := 0, z := false, n := false, c := false, vf := false, p := false, loop := none, loadDest := none }
  (s.setEf e ENG.LE_STAT_FAULT 0).setRun e .running

/-! ### Mailbox (R168) -/

/-- A host or Keeper write of MBX_CMD. -/
def mbxCmd (s : State) (e : Nat) (v : Word) : State :=
  if s.efb e ENG.MBX_STAT_BUSY then s.setEf e ENG.MBX_STAT_OVERRUN 1
  else (s.writeReg (engBlk e) (ENG.MBX_CMD (engBase e)) v).setEf e ENG.MBX_STAT_BUSY 1

/-- A host or Keeper write of MBX_ARG0 or MBX_ARG1. -/
def mbxArg (s : State) (e off : Nat) (v : Word) : State :=
  if s.efb e ENG.MBX_STAT_BUSY then s.setEf e ENG.MBX_STAT_OVERRUN 1 else s.writeReg (engBlk e) off v

/-- MBX_DONE with an error code completes the command under way. -/
def mbxDone (s : State) (e err : Nat) : State :=
  if !s.efb e ENG.MBX_STAT_BUSY then s
  else
    let b := engBlk e
    let o := engBase e
    let s := (s.setReg b (ENG.MBX_RSP0 o) (s.eng e).rsp0).setReg b (ENG.MBX_RSP1 o) (s.eng e).rsp1
    let s := (s.setEf e ENG.MBX_STAT_ERR err).setEf e ENG.MBX_STAT_TAG (s.ef e ENG.MBX_CMD_TAG)
    ((s.setEf e ENG.MBX_STAT_BUSY 0).setEf e ENG.MBX_STAT_DONE 1).engEvt e ENG.LE_EVT_MBX_DONE

/-- MBX_NOTE. -/
def mbxNote (s : State) (e note : Nat) : State := (s.setEf e ENG.MBX_STAT_NOTE note).engEvt e ENG.LE_EVT_MBX_NOTE

/-! ### Events (R169) -/

/-- The pending events of engine `e`. -/
def engPending (s : State) (e : Nat) : Nat :=
  let p := s.prim (if e < 17 then e else 32 + 16 * (e - 17) + (s.eng e).laneSel)
  p.gaReady.toNat + 2 * p.histDone.toNat + 4 * (e < 17 && s.fb (Blk.llane e) LLANE.EYE_STAT_DONE).toNat
    + 8 * (s.efb e ENG.MBX_STAT_BUSY).toNat + 16 * (s.eng e).timerHit.toNat + 32 * (s.eng e).pwrPending.toNat
    + 64 * (s.eng e).sigChg.toNat

/-- Sets scalar register `i`; s0 ignores writes (R150). -/
def setScalar (s : State) (e i : Nat) (v : Word) : State :=
  if i = 0 then s else s.modEng e fun g => { g with s := SMap.put 0 g.s i v }

/-- Scalar register `i`; s0 reads 0. -/
def scalar (s : State) (e i : Nat) : Word := if i = 0 then 0 else SMap.get 0 (s.eng e).s i

/-- A waiting engine goes on when an event of its mask is pending. -/
def engWake (s : State) (e : Nat) : State :=
  match (s.eng e).run with
  | .waiting m d =>
    let p := s.engPending e &&& m
    if p = 0 ∨ !s.engClock e then s else (s.setScalar e d (BitVec.ofNat 32 p)).setRun e .running
  | _ => s

/-! ### Primitives of a lane (R157 to R163) -/

/-- The gradient result word: sat32(sum >> SHIFT) for sums, the count for counts (R158, R195). -/
def gaWord (p : Prims) (host : Bool) (i : Nat) : Word :=
  let x := SMap.get 0 p.ga i
  let count := if host then (21 ≤ i && i ≤ 24) || i == 26 else (138 ≤ i && i ≤ 141) || i == 143
  if count then BitVec.ofNat 32 (min x.toNat (2 ^ 32 - 1)) else BitVec.ofInt 32 (satSigned 32 (x / 2 ^ p.gaShift))

/-- GA_CTL, GA_STAT, GA, HIST_CTL, HIST_STAT and HIST of the lane with primitive key `k`; none where refused. -/
def statPeek (s : State) (k : Nat) (host : Bool) (a : Nat) : Option Word :=
  let p := s.prim k
  if a = 0x900 then some (BitVec.ofNat 32 (p.gaWin + p.gaShift * 2 ^ 8 + p.gaEn.toNat * 2 ^ 16))
  else if a = 0x901 then some (BitVec.ofNat 32 (p.gaReady.toNat + 2 * p.gaOverrun.toNat + p.gaSeq % 2 ^ 16 * 2 ^ 16))
  else if 0x1000 ≤ a ∧ a < 0x1000 + (if host then 27 else 144) then some (gaWord p host (a - 0x1000))
  else if a = 0x1100 then some (BitVec.ofNat 32 (p.histSrc + p.histWin * 2 ^ 8))
  else if a = 0x1101 then some (BitVec.ofNat 32 (p.histBusy.toNat + 2 * p.histDone.toNat))
  else if 0x1200 ≤ a ∧ a < 0x1300 then some (BitVec.ofNat 32 (SMap.get 0 p.hist (a - 0x1200)))
  else none

/-- A write of GA_CTL: a WIN outside 8 to 20 is refused; clearing EN clears the accumulators (R158). -/
def gaCtl (s : State) (k : Nat) (v : Word) : Option State :=
  let w := v.toNat
  let win := bitsOf w 0 5
  if win < 8 ∨ 20 < win then none
  else some (s.setPrim k { s.prim k with gaWin := win, gaShift := bitsOf w 8 6, gaEn := w.testBit 16 })

/-- A write of GA_STAT acknowledges READY or clears OVERRUN (R157). -/
def gaAck (s : State) (k : Nat) (v : Word) : State :=
  let p := s.prim k
  s.setPrim k { p with gaReady := p.gaReady && !v.getLsbD 0, gaOverrun := p.gaOverrun && !v.getLsbD 1 }

/-- A write of HIST_CTL: source 3 is refused; START clears the bins and DONE and sets BUSY (R159). -/
def histCtl (s : State) (k : Nat) (v : Word) : Option State :=
  let w := v.toNat
  if bitsOf w 0 2 = 3 then none
  else
    let p := { s.prim k with histSrc := bitsOf w 0 2, histWin := bitsOf w 8 5 }
    some (s.setPrim k (if w.testBit 16 then { p with hist := [], histDone := false, histBusy := true } else p))

/-- The writes that line and host lanes share. -/
def statWrite (s : State) (k a : Nat) (v : Word) : Option State :=
  if a = 0x900 then s.gaCtl k v
  else if a = 0x901 then some (s.gaAck k v)
  else if a = 0x1100 then s.histCtl k v
  else if a = 0x804 then some (s.setPrim k { s.prim k with pdOut := some (v.truncate 16) })
  else none

/-- The bank not in use of a line receiver. -/
def rxInactive (s : State) (n : Nat) : Nat := 1 - s.f (Blk.llane n) LLANE.EQ_STAT_IN_USE

/-- The bank not in use of a line transmitter. -/
def txInactive (s : State) (n : Nat) : Nat := 1 - s.f (Blk.llane n) LLANE.TX_EQ_STAT_IN_USE

/-- A staged commit of a bank field will select bank `i` (R162). -/
def willSelect (s : State) (b : Nat) (fl : Fld) (i : Nat) : Bool :=
  s.staged b && fl.get (s.shadow b fl.off) == i && s.f b fl != i

/-- Pair 1 of R91 for a bank and a tap count. -/
def eqPair1 (s : State) (n bank taps : Nat) : Bool :=
  taps == s.rxWord n bank 145 && taps % 8 == 0 && decide (16 ≤ taps) && decide (taps ≤ 64)

/-- A bank of a receiver comes into use: EQ_STAT, and the lane event of R283. -/
def rxBankUse (s : State) (n bank : Nat) : State :=
  if s.f (Blk.llane n) LLANE.EQ_STAT_IN_USE = bank then s
  else (s.setF (Blk.llane n) LLANE.EQ_STAT_IN_USE bank).laneEvent n 7

/-- PAIR_MISMATCH with its pair number and INT_STAT bit 0 (R50). -/
def pairMismatch (s : State) (b id : Nat) : State :=
  let was := s.fb b HDR.BLK_STAT_PAIR_MISMATCH
  let s := (s.setF b HDR.BLK_STAT_PAIR_MISMATCH 1).setF b HDR.BLK_STAT_PAIR_ID id
  if was then s else s.raise b HDR.INT_PAIR

/-- Sets a field of a shadow. -/
def putShadow (s : State) (b : Nat) (fl : Fld) (v : Nat) : State :=
  let w := fl.put (s.shadow b fl.off) v
  { s with shadows := SMap.set s.shadows (regKey b fl.off) w }

/-- RX_SWAP (R162): refused when the inactive bank's header fails pair 1; else the active BANK changes, and the shadow with
it. -/
def rxSwap (s : State) (n : Nat) : Option State :=
  let b := Blk.llane n
  let bank := s.rxInactive n
  if !s.eqPair1 n bank (s.f b LLANE.EQ_CTL_TAPS) then none
  else
    let s := s.setF b LLANE.EQ_CTL_BANK bank
    let s := if s.staged b then
        s.putShadow b LLANE.EQ_CTL_BANK bank
      else s
    some (s.rxBankUse n bank)

/-- TX_SWAP (R99, R162). -/
def txSwap (s : State) (n : Nat) : State :=
  let b := Blk.llane n
  let bank := s.txInactive n
  let s := s.setF b LLANE.TX_EQ_CTL_BANK bank
  let s := if s.staged b then
      s.putShadow b LLANE.TX_EQ_CTL_BANK bank
    else s
  s.setF b LLANE.TX_EQ_STAT_IN_USE bank

/-- SLOT_MAP (R161): the slot is active, and the sub-converter USABLE, not slotted, not held and not shadowing. -/
def slotMap (s : State) (n slot sub : Nat) : Option State :=
  let b := Blk.llane n
  let l := s.lane n
  if activeSlots (s.f b LLANE.RX_CTL_RATE) ≤ slot ∨ 136 ≤ sub ∨ !s.subUsable n sub ∨ s.subSlotted n sub
      ∨ l.eyeSpare = some sub ∨ (l.bg.bind (·.2)) = some sub then none
  else some (s.modLane n fun l => { l with slot := SMap.set l.slot slot sub })

/-- A one-time phase step (R157). -/
def phofsStep (s : State) (n : Nat) (v : Word) : State :=
  s.setF (Blk.llane n) LLANE.CDR_STAT_PHASE
    (unsignedOf 8 (signed 8 v.toNat + (s.f (Blk.llane n) LLANE.CDR_STAT_PHASE : Int)))

/-- The word of the counters 0x1400 to 0x1409. -/
def cntOffsets : List Nat :=
  [LLANE.RES_CNT, LLANE.RES_FFE_CNT, LLANE.RES_MLSE_CNT, LLANE.ERAS_CNT_LO, LLANE.ERAS_CNT_HI, LLANE.SYM_CNT_LO,
   LLANE.SYM_CNT_HI, LLANE.CORR_BITS_LO, LLANE.CORR_BITS_HI, LLANE.CW_FAIL]

/-- A read of a line lane's primitive word below 0x1800; none where refused. -/
def linePeek (s : State) (n a : Nat) : Option Word :=
  let b := Blk.llane n
  let nat := fun (x : Nat) => some (BitVec.ofNat 32 x)
  if a ≤ 0x91 then nat (s.rxWordRead n (s.rxInactive n) a)
  else if 0x100 ≤ a ∧ a ≤ 0x191 then nat (s.rxWordRead n (1 - s.rxInactive n) (a - 0x100))
  else if 0x200 ≤ a ∧ a ≤ 0x20C then nat (s.txWordRead n (s.txInactive n) (a - 0x200))
  else if 0x240 ≤ a ∧ a ≤ 0x33F then nat (s.txWordRead n 0 (a - 0x200))
  else if 0x400 ≤ a ∧ a ≤ 0x40C then nat (s.txWordRead n (1 - s.txInactive n) (a - 0x400))
  else if a = 0x802 then some (s.reg b LLANE.EQ_CTL)
  else if a = 0x803 then nat ((s.reg b LLANE.CDR_CTL).toNat % 4096)
  else if a = 0x805 then nat (s.f b LLANE.CDR_STAT_PHERR)
  else if a = 0x806 then some (s.reg b LLANE.CDR_FREQ)
  else if a = 0x807 then nat (s.f b LLANE.CDR_STAT_PHASE)
  else if a = 0x810 then some (s.reg b LLANE.RX_STAT)
  else if a = 0x811 then some (s.reg b LLANE.BLE_VAL)
  else if a = 0x812 then some (s.reg b LLANE.ADC_QUAL)
  else if a = 0x814 then some (s.reg b LLANE.TX_PD_STAT)
  else if 0x1300 ≤ a ∧ a ≤ 0x1306 then some (s.reg b (LLANE.EYE_CTL + 4 * (a - 0x1300)))
  else if 0x1400 ≤ a ∧ a ≤ 0x1409 then some (s.reg b ((cntOffsets[a - 0x1400]?).getD 0))
  else s.statPeek n false a

/-- A write of a line lane's primitive word below 0x1800; none where refused (R157, R162). -/
def lineWrite (s : State) (n a : Nat) (v : Word) : Option State :=
  let b := Blk.llane n
  if a ≤ 0x91 then
    if s.willSelect b LLANE.EQ_CTL_BANK (s.rxInactive n) then none else some (s.setRxWord n (s.rxInactive n) a v.toNat)
  else if 0x200 ≤ a ∧ a ≤ 0x20C then
    if s.willSelect b LLANE.TX_EQ_CTL_BANK (s.txInactive n) then none
    else some (s.setTxWord n (s.txInactive n) (a - 0x200) v.toNat)
  else if 0x240 ≤ a ∧ a ≤ 0x33F then
    if s.txInUse n 0 (a - 0x200) then none else some (s.setTxWord n 0 (a - 0x200) v.toNat)
  else if a = 0x800 then s.rxSwap n
  else if a = 0x801 then some (s.txSwap n)
  else if a = 0x803 then
    some (s.setReg b LLANE.CDR_CTL ((s.reg b LLANE.CDR_CTL &&& 0xFFFFF000) ||| (v &&& 0xFFF)))
  else if a = 0x808 then some (s.phofsStep n v)
  else if a = 0x813 then s.slotMap n (bitsOf v.toNat 0 7) (bitsOf v.toNat 8 8)
  else if a = 0x1300 then some (s.eyeCtl n v)
  else if a = 0x1301 then some (s.writeReg b LLANE.EYE_STAT v)
  else s.statWrite n a v

/-- The bank not in use of a host receiver. -/
def hostInactive (s : State) (m : Nat) : Nat := 1 - s.f (Blk.hlane m) HLANE.EQ_STAT_IN_USE

/-- A read of a host lane's primitive word below 0x1800 (R194). -/
def hostPeek (s : State) (m a : Nat) : Option Word :=
  let b := Blk.hlane m
  let nat := fun (x : Nat) => some (BitVec.ofNat 32 x)
  if a ≤ 0x18 then nat (s.hostWordRead m (s.hostInactive m) a)
  else if 0x100 ≤ a ∧ a ≤ 0x118 then nat (s.hostWordRead m (1 - s.hostInactive m) (a - 0x100))
  else if a = 0x802 then some (s.reg b HLANE.RX_EQ_CTL)
  else if a = 0x803 then nat ((s.reg b HLANE.CDR_CTL).toNat % 4096)
  else if a = 0x805 then nat (s.f b HLANE.CDR_STAT_PHERR)
  else if a = 0x806 then some (s.reg b HLANE.CDR_FREQ)
  else if a = 0x807 then nat (s.f b HLANE.CDR_STAT_PHASE)
  else if a = 0x810 then some (s.reg b HLANE.HL_STAT)
  else if a = 0x815 then some (s.reg b HLANE.NEG_PART)
  else if a = 0x817 then some (s.reg b HLANE.TRN_STAT)
  else if a = 0x1400 then some (s.reg b HLANE.SYNC_ERR_CNT)
  else s.statPeek (32 + m) true a

/-- TRN_REQ (R194): a training request to the partner, refused outside TRAIN. -/
def trnReq (s : State) (m : Nat) (v : Word) : Option State :=
  if s.hostState m ≠ 6 then none else some (s.send (.training m (bitsOf v.toNat 0 3) (bitsOf v.toNat 4 6)))

/-- TRN_READY (R194): the local receiver's readiness, refused outside TRAIN. -/
def trnReady (s : State) (m : Nat) (v : Word) : Option State :=
  if s.hostState m ≠ 6 then none
  else some ((s.setB (Blk.hlane m) HLANE.TRN_STAT_LOCAL_READY (v.getLsbD 0)).trainEval m)

/-- RX_SWAP of a host lane (R178, R194). -/
def hostSwap (s : State) (m : Nat) : State :=
  let b := Blk.hlane m
  let bank := s.hostInactive m
  let s := s.setF b HLANE.RX_EQ_CTL_BANK bank
  let s := if s.staged b then
      s.putShadow b HLANE.RX_EQ_CTL_BANK bank
    else s
  s.setF b HLANE.EQ_STAT_IN_USE bank

/-- A write of a host lane's primitive word below 0x1800 (R194). -/
def hostWrite (s : State) (m a : Nat) (v : Word) : Option State :=
  let b := Blk.hlane m
  if a ≤ 0x18 then
    if s.willSelect b HLANE.RX_EQ_CTL_BANK (s.hostInactive m) then none
    else some (s.setHostWord m (s.hostInactive m) a (v.toNat % 4096))
  else if a = 0x800 then some (s.hostSwap m)
  else if a = 0x803 then
    some (s.setReg b HLANE.CDR_CTL ((s.reg b HLANE.CDR_CTL &&& 0xFFFFF000) ||| (v &&& 0xFFF)))
  else if a = 0x816 then s.trnReq m v
  else if a = 0x818 then s.trnReady m v
  else s.statWrite (32 + m) a v

/-- The lane a host engine addresses. -/
def hostSelected (s : State) (e : Nat) : Nat := 16 * (e - 17) + (s.eng e).laneSel

/-- A read of a primitive word of engine `e`; none where refused. -/
def primPeek (s : State) (e a : Nat) : Option Word :=
  let g := s.eng e
  let nat := fun (x : Nat) => some (BitVec.ofNat 32 x)
  let pos := if e < 17 then s.lanePos e true else {}
  if a < 0x1800 then (if e < 17 then s.linePeek e a else s.hostPeek (s.hostSelected e) a)
  else match a with
    | 0x1800 => some (s.reg (engBlk e) (ENG.MBX_CMD (engBase e)))
    | 0x1801 => some (s.reg (engBlk e) (ENG.MBX_ARG0 (engBase e)))
    | 0x1802 => some (s.reg (engBlk e) (ENG.MBX_ARG1 (engBase e)))
    | 0x1807 => some (s.reg (engBlk e) (ENG.PROG_STAT (engBase e)))
    | 0x1810 => nat pos.cw
    | 0x1811 => nat (pos.cw / 2 ^ 32)
    | 0x1812 => if pos.valid then some (s.reg (Blk.port pos.port) PORT.LPOS_RX_AM) else some 0
    | 0x1813 => nat (pos.port + pos.valid.toNat * 2 ^ 31)
    | 0x1814 => nat s.evtTime.ns
    | 0x1815 => nat s.evtTime.sec
    | 0x1820 => nat g.timer
    | 0x1821 => some g.timerCmp
    | 0x1830 => nat (g.pwrPending.toNat + g.pwrTarget * 16)
    | 0x1832 => nat (s.ef e ENG.LE_STAT_DUTY)
    | 0x1840 => if e < 17 then none else nat g.laneSel
    | _ => none

/-- A read of a primitive word: reading RX_STAT, or HL_STAT, ends SIG_CHG (R169). -/
def primRead (s : State) (e a : Nat) : Option Word × State :=
  (s.primPeek e a, if a = 0x810 then s.modEng e fun g => { g with sigChg := false } else s)

/-- PWR_RSP (R157, R171): the answer to the pending power request. -/
def pwrRsp (s : State) (e : Nat) (v : Word) : State :=
  s.modEng e fun g => { g with pwrAnswer := some (bitsOf v.toNat 0 2, bitsOf v.toNat 8 8), pwrPending := false }

/-- A write of a primitive word of engine `e`; none where refused. -/
def primWrite (s : State) (e a : Nat) (v : Word) : Option State :=
  if a < 0x1800 then (if e < 17 then s.lineWrite e a v else s.hostWrite (s.hostSelected e) a v)
  else match a with
    | 0x1803 => some (s.modEng e fun g => { g with rsp0 := v })
    | 0x1804 => some (s.modEng e fun g => { g with rsp1 := v })
    | 0x1805 => some (s.mbxDone e (bitsOf v.toNat 0 4))
    | 0x1806 => some (s.mbxNote e (bitsOf v.toNat 0 8))
    | 0x1807 => some (s.setReg (engBlk e) (ENG.PROG_STAT (engBase e)) v)
    | 0x1821 => some (s.modEng e fun g => { g with timerCmp := v, timerHit := false })
    | 0x1831 => some (s.pwrRsp e v)
    | 0x1840 => if e < 17 then none else some (s.modEng e fun g => { g with laneSel := bitsOf v.toNat 0 4 })
    | _ => none

/-- P, the refusal flag (R150, R156). -/
def setP (s : State) (e : Nat) (p : Bool) : State := s.modEng e fun g => { g with p := p }

/-- A primitive write with its P flag; a refused RX_SWAP reports pair 1 as R50 states (R162). -/
def primStore (s : State) (e a : Nat) (v : Word) : State :=
  match s.primWrite e a v with
  | some t => t.setP e false
  | none => (if a = 0x800 ∧ e < 17 then s.pairMismatch (Blk.llane e) 1 else s).setP e true

/-! ### Gradient and histogram windows (R158, R159, R163) -/

/-- A gradient window of a lane ends with its sums: collected, or skipped among the last D of 16 (R163). -/
def gaWindowEnd (s : State) (k e : Nat) (runs : Bool) (sums : List (Nat × Int)) : State :=
  let p := s.prim k
  if !p.gaEn || !runs then s
  else
    let d := s.ef e ENG.LE_STAT_DUTY
    let skip := decide (16 - p.gaSkip ≤ p.gaCount)
    let p' := { p with gaSeq := (p.gaSeq + 1) % 2 ^ 16, gaCount := (p.gaCount + 1) % 16, gaSkip := d }
    if skip then s.setPrim k p'
    else
      let ga := sums.foldl (fun m x => SMap.put 0 m x.1 (satSigned 48 x.2)) []
      let s := s.setPrim k { p' with ga := ga, gaReady := true, gaOverrun := p.gaOverrun || p.gaReady }
      let s := if k < 32 then s.perf 4 k 1 else s
      if p.gaReady then s.engEvt e ENG.LE_EVT_GA_OVERRUN else s

/-- A histogram window of a lane ends with its bins, 32 bits and saturating (R159). -/
def histEnd (s : State) (k : Nat) (bins : List (Fin 256 × Nat)) : State :=
  let p := s.prim k
  if !p.histBusy then s
  else s.setPrim k { p with
    histBusy := false, histDone := true
    hist := bins.foldl (fun m x => SMap.put 0 m x.1 (min x.2 (2 ^ 32 - 1))) [] }

/-! ### Execution (R151 to R156) -/

/-- Vector register `i`. -/
def vreg (s : State) (e i : Nat) : BitVec 256 := SMap.get 0 (s.eng e).v i

/-- Sets vector register `i`. -/
def setVreg (s : State) (e i : Nat) (v : BitVec 256) : State := s.modEng e fun g => { g with v := SMap.put 0 g.v i v }

/-- Lane `l` of a vector, signed. -/
def vlane (v : BitVec 256) (l : Nat) : Int := signed 16 (v.toNat >>> (16 * l))

/-- The vector of 16 lane values. -/
def mkVec (g : Nat → Int) : BitVec 256 := BitVec.ofNat 256 (packLanes 16 ((List.range 16).map fun l => unsignedOf 16 (g l)))

/-- Accumulator `n`. -/
def acc (s : State) (e n : Nat) : BitVec 640 := if n = 0 then (s.eng e).a0 else (s.eng e).a1

/-- Sets accumulator `n`. -/
def setAcc (s : State) (e n : Nat) (v : BitVec 640) : State :=
  s.modEng e fun g => if n = 0 then { g with a0 := v } else { g with a1 := v }

/-- Lane `l` of an accumulator, signed. -/
def accLane (v : BitVec 640) (l : Nat) : Int := signed 40 (v.toNat >>> (40 * l))

/-- The flags Z, N, C, V of a comparison sa - x (R154). -/
def setFlags (s : State) (e : Nat) (x y : Word) : State :=
  let d := x - y
  s.modEng e fun g =>
    { g with z := d == 0, n := d.msb, c := decide (x.toNat < y.toNat), vf := x.msb != y.msb && d.msb != x.msb }

/-- The condition of BR (R154). -/
def condHolds (g : Engine) (c : Nat) : Bool :=
  match c with
  | 0 => true
  | 1 => g.z
  | 2 => !g.z
  | 3 => g.n != g.vf
  | 4 => g.n == g.vf
  | 5 => g.c
  | 6 => !g.c
  | 7 => g.p
  | _ => !g.p

/-- A data address: aligned to `al` and at most 0x7FFF, else the fault (R152). -/
def dataCheck (a al : Nat) : Option EngNext :=
  if a % al ≠ 0 then some (.fault 2 (a % 65536))
  else if 0x7FFF < a then some (.fault 3 (a % 65536))
  else none

/-- A read of `k` words of data SRAM from byte address `a`; an uncorrectable or poisoned word faults (R152, R351). -/
def dataWords (s : State) (e a : Nat) : Nat → State × Option (List Nat)
  | 0 => (s, some [])
  | k + 1 =>
    let r := s.sramRead ((dataBase e + a) / 4) 2
    if r.1.flagged then (r.2, none)
    else
      let t := dataWords r.2 e (a + 4) k
      (t.1, t.2.map (r.1.data :: ·))

/-- A load. -/
def doLoad (s : State) (e : Nat) (op : LoadOp) (d a i : Nat) : State × EngNext :=
  let x := (s.scalar e a + sext18 i).toNat
  match dataCheck x (match op with | .w => 4 | _ => 2) with
  | some f => (s, f)
  | none =>
    match s.dataWords e (x / 4 * 4) 1 with
    | (t, some [w]) =>
      let h := w / 2 ^ (16 * (x / 2 % 2)) % 65536
      let v : Word := match op with
        | .w => BitVec.ofNat 32 w
        | .h => BitVec.ofInt 32 (signed 16 h)
        | .hu => BitVec.ofNat 32 h
      ((t.setScalar e d v).modEng e fun g => { g with loadDest := some d }, .seq)
    | (t, _) => (t, .fault 5 (x % 65536))

/-- A store of `k` bytes. -/
def doStore (s : State) (e d a i k : Nat) : State × EngNext :=
  let x := (s.scalar e a + sext18 i).toNat
  match dataCheck x k with
  | some f => (s, f)
  | none => (s.sramWrite (dataBase e + x) (Codec.leBytes k (s.scalar e d).toNat), .seq)

/-- PRD. -/
def doPrd (s : State) (e d a addr : Nat) : State × EngNext :=
  let r := s.primRead e (s.scalar e a + BitVec.ofNat 32 addr).toNat
  ((r.2.setScalar e d (r.1.getD 0)).setP e r.1.isNone, .seq)

/-- VLDP (R154, R156): P when any word is refused; refused lanes read 0. -/
def doVldp (s : State) (e d a addr : Nat) : State × EngNext :=
  let base := s.scalar e a + BitVec.ofNat 32 addr
  let ws := (List.range 16).map fun l => s.primPeek e (base + BitVec.ofNat 32 l).toNat
  let v := mkVec fun l => match (ws[l]?).join with
    | some w => satSigned 16 w.toInt
    | none => 0
  let s := if (List.range 16).any fun l => (base + BitVec.ofNat 32 l).toNat == 0x810 then
      s.modEng e fun g => { g with sigChg := false }
    else s
  ((s.setVreg e d v).setP e (ws.any Option.isNone), .seq)

/-- VSTP (R154, R156): the words that are not refused are written. -/
def doVstp (s : State) (e d a addr : Nat) : State × EngNext :=
  let base := s.scalar e a + BitVec.ofNat 32 addr
  let v := s.vreg e d
  let r := (List.range 16).foldl (fun (r : State × Bool) l =>
    let t := r.1.primStore e (base + BitVec.ofNat 32 l).toNat (BitVec.ofInt 32 (vlane v l))
    (t, r.2 || (t.eng e).p)) (s, false)
  (r.1.setP e r.2, .seq)

/-- VMAC (R154): 40-bit saturating lanes. -/
def doVmac (s : State) (e a b n sc : Nat) : State × EngNext :=
  let x := s.vreg e a
  let y := s.vreg e b
  let k := signed 16 (s.scalar e b).toNat
  let old := s.acc e n
  let l := (List.range 16).map fun i =>
    unsignedOf 40 (satSigned 40 (accLane old i + vlane x i * (if sc = 1 then k else vlane y i)))
  (s.setAcc e n (BitVec.ofNat 640 (packLanes 40 l)), .seq)

/-- VRDA (R154). -/
def doVrda (s : State) (e d n clr sh : Nat) : State × EngNext :=
  let o := s.acc e n
  let s := s.setVreg e d (mkVec fun l => satSigned 16 (roundShift (accLane o l) sh))
  (if clr = 1 then s.setAcc e n 0 else s, .seq)

/-- VLD: 32 bytes. -/
def doVld (s : State) (e d a i : Nat) : State × EngNext :=
  let x := (s.scalar e a + sext18 i).toNat
  match dataCheck x 32 with
  | some f => (s, f)
  | none =>
    match s.dataWords e x 8 with
    | (t, some ws) => ((t.setVreg e d (BitVec.ofNat 256 (packLanes 32 ws))).modEng e fun g =>
        { g with loadDest := some (16 + d) }, .seq)
    | (t, none) => (t, .fault 5 (x % 65536))

/-- VST: 32 bytes. -/
def doVst (s : State) (e d a i : Nat) : State × EngNext :=
  let x := (s.scalar e a + sext18 i).toNat
  match dataCheck x 32 with
  | some f => (s, f)
  | none => (s.sramWrite (dataBase e + x) (Codec.leBytes 32 (s.vreg e d).toNat), .seq)

/-- LOOP (R155): illegal inside a loop body; a count of 0 skips the body. -/
def doLoop (s : State) (e a last word : Nat) : State × EngNext :=
  let g := s.eng e
  let inside := match g.loop with
    | some (_, st, en) => decide (st ≤ g.pc) && decide (g.pc ≤ en)
    | none => false
  if inside then (s, .fault 1 (word % 65536))
  else
    let n := (s.scalar e a).toNat
    if n = 0 then (s, .jump ((last + 1) % 2048))
    else (s.modEng e fun g => { g with loop := some (n, g.pc + 1, last) }, .seq)

/-- The effect of one instruction and what comes after it (R154). -/
def engExec (s : State) (e : Nat) (stepped : Bool) (u : UInstr) : State × EngNext :=
  let word := ucEncode u
  match u with
  | .alu op d a b => (s.setScalar e d (op.eval (s.scalar e a) (s.scalar e b)), .seq)
  | .cmp a b => (s.setFlags e (s.scalar e a) (s.scalar e b), .seq)
  | .imm op d a i => (s.setScalar e d (op.eval (s.scalar e a) i), .seq)
  | .lui d i => (s.setScalar e d (BitVec.ofNat 32 (i * 2 ^ 14)), .seq)
  | .cmpi a i => (s.setFlags e (s.scalar e a) (sext18 i), .seq)
  | .sati d a n => (s.setScalar e d (BitVec.ofInt 32 (satSigned (n + 1) (s.scalar e a).toInt)), .seq)
  | .load op d a i => s.doLoad e op d a i
  | .sw d a i => s.doStore e d a i 4
  | .sh d a i => s.doStore e d a i 2
  | .br c off =>
    if 8 < c then (s, .fault 1 (word % 65536))
    else if condHolds (s.eng e) c then (s, .jump (unsignedOf 11 ((s.eng e).pc + signed 18 off))) else (s, .seq)
  | .jal t => (s.setScalar e 15 (BitVec.ofNat 32 ((s.eng e).pc + 1)), .jump t)
  | .jr a => (s, .jump ((s.scalar e a).toNat % 2048))
  | .loop a last => s.doLoop e a last word
  | .wait d mask =>
    let m := mask &&& 0x7F
    if mask = 0 then (s, .fault 1 (word % 65536))
    else if stepped then (s.setScalar e d (BitVec.ofNat 32 (s.engPending e &&& m)), .seq)
    else if s.engPending e &&& m ≠ 0 then (s.setScalar e d (BitVec.ofNat 32 (s.engPending e &&& m)), .seq)
    else (s, .wait m d)
  | .halt => (s, .halt)
  | .prd d a x => s.doPrd e d a x
  | .pwr d a x => (s.primStore e (s.scalar e a + BitVec.ofNat 32 x).toNat (s.scalar e d), .seq)
  | .vldp d a x => s.doVldp e d a x
  | .vstp d a x => s.doVstp e d a x
  | .vec op d a b sh =>
    if op = .sat ∧ (sh = 0 ∨ 16 < sh) then (s, .fault 1 (word % 65536))
    else
      let x := s.vreg e a
      let y := s.vreg e b
      (s.setVreg e d (mkVec fun l => op.eval (vlane x l) (vlane y l) sh), .seq)
  | .vmac a b n sc => s.doVmac e a b n sc
  | .vrda d n clr sh => s.doVrda e d n clr sh
  | .vclr n => (s.setAcc e n 0, .seq)
  | .vred d a =>
    (s.setScalar e d (BitVec.ofInt 32 (((List.range 16).map (vlane (s.vreg e a))).foldl (· + ·) 0)), .seq)
  | .vbc d a => let k := signed 16 (s.scalar e a).toNat; (s.setVreg e d (mkVec fun _ => k), .seq)
  | .vext d a l => (s.setScalar e d (BitVec.ofInt 32 (vlane (s.vreg e a) l)), .seq)
  | .vins d b l =>
    let k := signed 16 (s.scalar e b).toNat
    let v := s.vreg e d
    (s.setVreg e d (mkVec fun i => if i = l then k else vlane v i), .seq)
  | .vld d a i => s.doVld e d a i
  | .vst d a i => s.doVst e d a i

/-- The cycles of an instruction (R154); a host engine's primitive access takes 2 more (R148). -/
def engCycles (e : Nat) (u : UInstr) (taken : Bool) : Nat :=
  let sync := if e < 17 then 0 else 2
  match u with
  | .alu .mul _ _ _ | .alu .mulh _ _ _ => 2
  | .br _ _ => if taken then 2 else 1
  | .jal _ | .jr _ => 2
  | .prd _ _ _ | .pwr _ _ _ => 3 + sync
  | .vldp _ _ _ | .vstp _ _ _ => 6 + sync
  | .vred _ _ | .vld _ _ _ | .vst _ _ _ => 2
  | _ => 1

/-- The registers an instruction reads: scalar i as i, vector i as 16 + i (for the load delay of R154). -/
def engReads : UInstr → List Nat
  | .alu _ _ a b => [a, b]
  | .cmp a b => [a, b]
  | .imm _ _ a _ | .cmpi a _ | .sati _ a _ | .load _ _ a _ | .jr a | .loop a _ | .prd _ a _ | .vldp _ a _ | .vbc _ a
  | .vld _ a _ => [a]
  | .sw d a _ | .sh d a _ | .pwr d a _ => [d, a]
  | .vstp d a _ | .vst d a _ => [16 + d, a]
  | .vec op _ a b _ => if op = .shr ∨ op = .shl ∨ op = .sat ∨ op = .mov then [16 + a] else [16 + a, 16 + b]
  | .vmac a b _ s => if s = 1 then [16 + a, b] else [16 + a, 16 + b]
  | .vred _ a | .vext _ a _ => [16 + a]
  | .vins d b _ => [16 + d, b]
  | _ => []

/-- Adds engine cycles to TIMER; passing TIMER_CMP makes the TIMER event pending (R169). -/
def addCycles (s : State) (e n : Nat) : State :=
  s.modEng e fun g =>
    let d := (g.timerCmp.toNat + 2 ^ 32 - g.timer) % 2 ^ 32
    { g with timer := (g.timer + n) % 2 ^ 32, timerHit := g.timerHit || (decide (1 ≤ d) && decide (d ≤ n)) }

/-- The PC after an instruction that goes on to the next word, with the hardware loop (R155). -/
def engSeq (g : Engine) : Engine :=
  match g.loop with
  | some (n, st, en) =>
    if g.pc = en then
      if 1 < n then { g with pc := st, loop := some (n - 1, st, en) } else { g with pc := (g.pc + 1) % 2048, loop := none }
    else { g with pc := (g.pc + 1) % 2048 }
  | none => { g with pc := (g.pc + 1) % 2048 }

/-- The PC after a taken branch; a target outside the body ends the loop (R155). -/
def engJump (g : Engine) (pc : Nat) : Engine :=
  match g.loop with
  | some (_, st, en) => { g with pc := pc, loop := if st ≤ pc ∧ pc ≤ en then g.loop else none }
  | none => { g with pc := pc }

/-- One instruction from issue to retirement. -/
def engOne (s : State) (e : Nat) (stepped : Bool) (u : UInstr) : State :=
  let late := match (s.eng e).loadDest with
    | some d => d != 0 && (engReads u).contains d
    | none => false
  let s0 := s.modEng e fun g => { g with loadDest := none }
  let r := s0.engExec e stepped u
  let t := r.1.perf 6 e 1
  match r.2 with
  | .fault c d => (s.perf 6 e 1).engFault e c d
  | .halt => ((t.modEng e engSeq).setEf e ENG.LE_CTL_RUN 0).setRun e .halted
  | .seq => (t.modEng e engSeq).addCycles e (engCycles e u false + late.toNat)
  | .jump pc => (t.modEng e fun g => engJump g pc).addCycles e (engCycles e u true + late.toNat)
  | .wait m d => ((t.modEng e engSeq).addCycles e (1 + late.toNat)).setRun e (.waiting m d)

/-- The PC lies inside the loaded length of the bank in use (R152). -/
def pcOk (s : State) (e : Nat) : Bool :=
  let b := s.ef e ENG.LE_STAT_BANK_IN_USE
  s.bankValid e b && decide ((s.eng e).pc < s.ef e (bankFields b).2.2.1)

/-- A running engine issues an instruction; at a PC outside the loaded length it faults instead (R152). -/
def engIssue (s : State) (e : Nat) (u : UInstr) : State :=
  let s := s.engWake e
  if !s.engClock e || (s.eng e).run != .running then s
  else if !s.pcOk e then s.engFault e 4 (s.eng e).pc
  else s.engOne e false u

/-- A running engine issues a word that spells no instruction (R152). -/
def engIllegal (s : State) (e : Nat) (w : Word) : State :=
  let s := s.engWake e
  if !s.engClock e || (s.eng e).run != .running || (ucDecode w.toNat).isSome then s
  else if !s.pcOk e then s.engFault e 4 (s.eng e).pc
  else s.engFault e 1 (w.toNat % 65536)

/-- STEP while RUN = 0 (R153): fetches the word at PC and executes it. -/
def engStep (s : State) (e : Nat) : State :=
  if !s.engClock e || (s.eng e).run != .halted then s
  else if !s.pcOk e then s.engFault e 4 (s.eng e).pc
  else
    let a := ucBase e (s.ef e ENG.LE_STAT_BANK_IN_USE) + 4 * (s.eng e).pc
    let r := s.sramRead (a / 4) 2
    if r.1.flagged then r.2.engFault e 5 (4 * (s.eng e).pc % 65536)
    else match ucDecode r.1.data with
      | none => r.2.engFault e 1 (r.1.data % 65536)
      | some u => r.2.engOne e true u

/-- A write of LE_CTL (R153, R166, R167). The BANK part is checked when the write is made: naming another bank with
VALID = 0 leaves BANK as it is and sets UC_REFUSED. -/
def leCtl (s : State) (e : Nat) (v : Word) : State :=
  let b := engBlk e
  let o := engBase e
  let bank := (ENG.LE_CTL_BANK o).get v
  let cur := (ENG.LE_CTL_BANK o).get (if s.staged b then s.shadow b (ENG.LE_CTL o) else s.reg b (ENG.LE_CTL o))
  let bad := bank != cur && !s.bankValid e bank
  let v := if bad then (ENG.LE_CTL_BANK o).put v cur else v
  let was := s.efb e ENG.LE_CTL_RUN
  let s := s.writeReg b (ENG.LE_CTL o) v
  let s := if bad then s.ucRefused e else s
  let s := s.bankChanged e
  let now := s.efb e ENG.LE_CTL_RUN
  let s := if now && !was then s.engStart e else if was && !now then s.setRun e .halted else s
  if (ENG.LE_CTL_STEP o).get v = 1 && !now then s.engStep e else s

/-- A write of LE_EVT or LE_EVT_EN. -/
def leEvtWrite (s : State) (e off : Nat) (v : Word) : State := (s.writeReg (engBlk e) off v).engIrq e

/-- The value DBG_DATA shows while RUNNING = 0. -/
def engDbg (s : State) (e : Nat) : Word :=
  let i := s.ef e ENG.DBG_IDX_INDEX
  let g := s.eng e
  if s.efb e ENG.LE_STAT_RUNNING then 0
  else if i < 16 then s.scalar e i
  else if i = 16 then BitVec.ofNat 32 (g.z.toNat + 2 * g.n.toNat + 4 * g.c.toNat + 8 * g.vf.toNat + 16 * g.p.toNat)
  else if 256 ≤ i then BitVec.ofNat 32 ((s.vreg e ((i - 256) / 16)).toNat / 2 ^ (16 * (i % 16)) % 65536)
  else 0

/-- The engine's answer in the power handshake (R171); `none` while its program has still to write PWR_RSP. -/
def engAnswer (s : State) (e : Nat) : Option PwrAnswer :=
  let g := s.eng e
  match g.run, g.pwrAnswer with
  | .halted, _ => some .accept
  | _, some (1, _) => some .accept
  | _, some (3, r) => some (.refuse r)
  | _, some (_, d) => some (.delay (10 * d))
  | .running, none => if g.pwrPending then none else some (.delay 10)
  | .waiting m _, none => if m.testBit 5 then none else some .accept

/-! ### The supplied programs (R170, R196) -/

/-- The command under way has code `code`, and the engine runs. -/
def progHas (s : State) (e code : Nat) : Bool :=
  s.engClock e && (s.eng e).run != .halted && s.efb e ENG.MBX_STAT_BUSY && s.ef e ENG.MBX_CMD_CMD == code

/-- The arguments of the command. -/
def progArg (s : State) (e i : Nat) : Nat :=
  (s.reg (engBlk e) (if i = 0 then ENG.MBX_ARG0 (engBase e) else ENG.MBX_ARG1 (engBase e))).toNat

/-- The program answers: responses and error code. -/
def progAnswer (s : State) (e : Nat) (rsp0 rsp1 : Word) (err : Nat) : State :=
  (s.modEng e fun g => { g with rsp0 := rsp0, rsp1 := rsp1 }).mbxDone e err

/-- PROG_STAT. -/
def progStat (s : State) (e : Nat) : Word := s.reg (engBlk e) (ENG.PROG_STAT (engBase e))

/-- Sets PROG_STAT. -/
def setProgStat (s : State) (e : Nat) (w : Word) : State := s.setReg (engBlk e) (ENG.PROG_STAT (engBase e)) w

/-- The STATE of the line program: 0 STOPPED, 1 ACQUIRING, 2 TRAINING, 3 TRACKING, 4 FROZEN, 5 LOST. -/
def progState (s : State) (e : Nat) : Nat := bitsOf (s.progStat e).toNat 0 4

/-- The line program enters a state: the loop gains of SET_LOOP are written on the change (R170). -/
def progEnter (s : State) (e st : Nat) : State :=
  let old := s.progState e
  let s := s.setProgStat e ((s.progStat e &&& 0xFFFFFFF0) ||| BitVec.ofNat 32 st)
  match (s.eng e).progLoop with
  | some w =>
    if old = st then s
    else
      let g := if st = 3 then bitsOf w.toNat 16 9 else bitsOf w.toNat 0 9
      s.setReg (Blk.llane e) LLANE.CDR_CTL ((s.reg (Blk.llane e) LLANE.CDR_CTL &&& 0xFFFFFE00) ||| BitVec.ofNat 32 g)
  | none => s

/-- The line program adapts: it copies the bank in use to the other, writes the words it has found there, and swaps. -/
def progBank (s : State) (n : Nat) (words : List (Fin 145 × BitVec 12)) : State :=
  let i := s.rxInactive n
  let s := (List.range 146).foldl (fun s k => s.setRxWord n i k (s.rxWord n (1 - i) k)) s
  let s := words.foldl (fun s w => s.setRxWord n i w.1 w.2.toNat) s
  (s.rxSwap n).getD s

/-- TRAIN and SPARE_TRAIN: at convergence the program is TRACKING with CONVERGED and posts note 0x02, else ERR 5. -/
def progTrain (s : State) (e : Nat) (converged : Bool) (words : List (Fin 145 × BitVec 12)) (windows : BitVec 16)
    (err : Word) : State :=
  let s := (s.progEnter e 2).progBank e words
  let s := s.setProgStat e ((s.progStat e &&& 0x0000FFEF) ||| BitVec.ofNat 32 (windows.toNat * 2 ^ 16 + converged.toNat * 16))
  let s := if converged then (s.progEnter e 3).mbxNote e 2 else s
  s.progAnswer e (s.progStat e) err (if converged then 0 else 5)

end State
end Sys2Proof.Machine
end

