-- ==== Sys2Proof/Machine/EngineProg.lean ====
section
/-! DEFINITION. Events of the engines and of their primitives, and the commands of the supplied programs (R170, R196). -/

namespace Sys2Proof.Machine
namespace State

/-! ### Events -/

/-- The watchdog expires (R152). -/
def engWatchdog (s : State) (e : Nat) : State :=
  if !s.engClock e || (s.eng e).run == .halted || s.ef e ENG.LE_CTL_WDOG == 0 then s else s.engFault e 6 0

/-- A primitive write reaches the lane of an engine that has its clock. -/
def primEvent (s : State) (e a : Nat) (v : Word) : State := if s.engClock e then s.primStore e a v else s

/-- A histogram window of a lane ends. -/
def laneHistEnd (s : State) (l : LaneId) (bins : List (Fin 256 × Nat)) : State :=
  match l with
  | .line n => s.histEnd n bins
  | .host m => s.histEnd (32 + m) bins

/-- A gradient window of a lane ends; a host lane has the indices 0 to 26 (R195). -/
def laneGaEnd (s : State) (l : LaneId) (sums : List (Fin 144 × Int)) : State :=
  let x := sums.map fun e => ((e.1 : Nat), e.2)
  match l with
  | .line n => s.gaWindowEnd n n (s.rxRuns n) x
  | .host m => s.gaWindowEnd (32 + m) (17 + m / 16) (s.hostRuns m) (x.filter fun e => e.1 < 27)

/-- TIMER reaches TIMER_CMP (R169). -/
def timerMatch (s : State) (e : Nat) : State :=
  if s.engClock e then
    (s.modEng e fun g => { g with timer := g.timerCmp.toNat, timerHit := true }).engWake e
  else s

/-- A due swap takes effect at an engine-cycle boundary (R167). -/
def ucSwapNow (s : State) (e : Nat) : State := if s.engClock e then s.ucSwap e else s

/-! ### The supplied line program (R170) -/

/-- Runs a command of the program: its code, the permitted bits of ARG0 and ARG1, and its effect; unlisted argument bits
answer BAD_ARG. -/
def progRun (s : State) (e code m0 m1 : Nat) (k : State → State) : State :=
  if !s.progHas e code then s
  else if s.progArg e 0 &&& m0 ≠ s.progArg e 0 ∨ s.progArg e 1 &&& m1 ≠ s.progArg e 1 then s.progAnswer e 0 0 2
  else k s

/-- TRAIN. Detector code 3 is not listed. -/
def lineTrain (s : State) (n : Nat) (converged : Bool) (words : List (Fin 145 × BitVec 12)) (windows : BitVec 16)
    (err : Word) : State :=
  s.progRun n 1 0x303 0xFFFF fun s =>
    if s.progArg n 0 % 4 = 3 then s.progAnswer n 0 0 2 else s.progTrain n converged words windows err

/-- FREEZE. -/
def lineFreeze (s : State) (n : Nat) : State := s.progRun n 2 0 0 fun s => (s.progEnter n 4).progAnswer n 0 0 0

/-- RESUME. -/
def lineResume (s : State) (n : Nat) : State :=
  s.progRun n 3 0 0 fun s =>
    if s.progState n = 4 then ((s.progEnter n 3).mbxNote n 2).progAnswer n 0 0 0 else s.progAnswer n 0 0 3

/-- SET_MU. -/
def lineSetMu (s : State) (n : Nat) : State :=
  s.progRun n 4 0xFFFF 0 fun s =>
    (s.modEng n fun g => { g with progMu := BitVec.ofNat 32 (s.progArg n 0) }).progAnswer n 0 0 0

/-- SET_LOOP. -/
def lineSetLoop (s : State) (n : Nat) : State :=
  s.progRun n 5 0x1FF01FF 0 fun s =>
    (s.modEng n fun g => { g with progLoop := some (BitVec.ofNat 32 (s.progArg n 0)) }).progAnswer n 0 0 0

/-- STATUS. -/
def lineStatus (s : State) (n : Nat) (err : Word) : State :=
  s.progRun n 6 0 0 fun s => s.progAnswer n (s.progStat n) err 0

/-- EYE: the scan runs; ARG0 is a value for EYE_CTL with AUTO = 1. A scan that cannot start is answered PRIM_REFUSED. -/
def lineEye (s : State) (n : Nat) (hits : Word) (results : List EyeResult) : State :=
  s.progRun n 7 0xFFFFFFFF 0 fun s =>
    let v := BitVec.ofNat 32 (s.progArg n 0)
    if LLANE.EYE_CTL_AUTO.get v = 0 then s.progAnswer n 0 0 2
    else
      let b := Blk.llane n
      let s := s.eyeCtl n (LLANE.EYE_CTL_START.put v 1)
      if !s.fb b LLANE.EYE_STAT_BUSY then s.progAnswer n 0 0 4
      else
        let s := s.eyeDone n hits results
        s.progAnswer n (s.reg b (LLANE.EYE_WH 0)) (s.reg b (LLANE.EYE_WH 1)) 0

/-- REMAP. -/
def lineRemap (s : State) (n : Nat) : State :=
  s.progRun n 8 0xFF7F 0 fun s =>
    match s.slotMap n (s.progArg n 0 % 128) (s.progArg n 0 / 256) with
    | some t => t.progAnswer n 0 0 0
    | none => s.progAnswer n 0 0 4

/-- SPARE_TRAIN. -/
def lineSpareTrain (s : State) (n : Nat) (converged : Bool) (words : List (Fin 145 × BitVec 12)) (windows : BitVec 16)
    (err : Word) : State :=
  s.progRun n 9 0x1F 0 fun s => s.progTrain n converged words windows err

/-- STOP. -/
def lineStop (s : State) (n : Nat) : State := s.progRun n 15 0 0 fun s => (s.progEnter n 0).progAnswer n 0 0 0

/-! ### The supplied host program (R196) -/

/-- The mask of lanes of the command. -/
def hostMask (s : State) (k : Nat) : Nat := s.progArg (17 + k) 0 % 65536

/-- Sets the adapted and frozen lanes; PROG_STAT[15:0] shows the lanes in tracking, those adapted, not frozen and UP. -/
def hostSets (s : State) (k adapt frozen : Nat) : State :=
  let s := s.modEng (17 + k) fun g => { g with progAdapt := adapt, progFrozen := frozen }
  let track := (adapt &&& (65535 ^^^ frozen % 65536)) &&& s.f (Blk.hclu k) HCLU.UP_MAP_UP
  s.setProgStat (17 + k) ((s.progStat (17 + k) &&& 0xFFFF0000) ||| BitVec.ofNat 32 track)

/-- A set of lanes without the masked ones. -/
def maskOut (x m : Nat) : Nat := x &&& (65535 ^^^ m)

/-- ADAPT. -/
def hostAdapt (s : State) (k : Nat) : State :=
  s.progRun (17 + k) 1 0xFFFF 0 fun s =>
    let g := s.eng (17 + k)
    (s.hostSets k (g.progAdapt ||| s.hostMask k) (maskOut g.progFrozen (s.hostMask k))).progAnswer (17 + k) 0 0 0

/-- FREEZE. -/
def hostFreeze (s : State) (k : Nat) : State :=
  s.progRun (17 + k) 2 0xFFFF 0 fun s =>
    let g := s.eng (17 + k)
    (s.hostSets k g.progAdapt (g.progFrozen ||| s.hostMask k)).progAnswer (17 + k) 0 0 0

/-- RESUME: WRONG_STATE when a masked lane is not frozen. -/
def hostResume (s : State) (k : Nat) : State :=
  s.progRun (17 + k) 3 0xFFFF 0 fun s =>
    let g := s.eng (17 + k)
    if g.progFrozen &&& s.hostMask k ≠ s.hostMask k then s.progAnswer (17 + k) 0 0 3
    else (s.hostSets k g.progAdapt (maskOut g.progFrozen (s.hostMask k))).progAnswer (17 + k) 0 0 0

/-- SET_MU. -/
def hostSetMu (s : State) (k : Nat) : State :=
  s.progRun (17 + k) 4 0xFFFF 0xFFF fun s =>
    (s.modEng (17 + k) fun g => { g with progMu := BitVec.ofNat 32 (s.progArg (17 + k) 1) }).progAnswer (17 + k) 0 0 0

/-- STATUS. -/
def hostStatus (s : State) (k : Nat) (err : Word) : State :=
  s.progRun (17 + k) 6 0xFFFF 0xF fun s =>
    s.progAnswer (17 + k) (s.reg (Blk.hlane (16 * k + s.progArg (17 + k) 1)) HLANE.HL_STAT) err 0

/-- SET_PRESET: preset 0 is not listed. -/
def hostPreset (s : State) (k : Nat) : State :=
  s.progRun (17 + k) 10 0xFFFF 3 fun s =>
    if s.progArg (17 + k) 1 = 0 then s.progAnswer (17 + k) 0 0 2
    else (s.modEng (17 + k) fun g => { g with progPreset := s.progArg (17 + k) 1 }).progAnswer (17 + k) 0 0 0

/-- STOP. -/
def hostStop (s : State) (k : Nat) : State :=
  s.progRun (17 + k) 15 0xFFFF 0 fun s =>
    let g := s.eng (17 + k)
    (s.hostSets k (maskOut g.progAdapt (s.hostMask k)) (maskOut g.progFrozen (s.hostMask k))).progAnswer (17 + k) 0 0 0

end State
end Sys2Proof.Machine
end

