-- ==== Sys2Proof/Machine/PllOps.lean ====
section
/-! DEFINITION. PLLs and slice power of the line and host lanes (R93, R176). -/

namespace Sys2Proof.Machine

/-- The host lanes of a host PLL. -/
def pllHost : PllId → Option (Nat × Bool)
  | .hostA k => some (k, false)
  | .hostB k => some (k, true)
  | _ => none

namespace State

/-- A receiver whose PLL stops without a loss of lock clears its status without interrupts (R61, R93). -/
def rxQuiet (s : State) (n : Nat) : State :=
  let b := Blk.llane n
  let changed := s.fb b LLANE.RX_STAT_SIG_DET || s.fb b LLANE.RX_STAT_CDR_LOCK
  let s := ((s.setF b LLANE.RX_STAT_SIG_DET 0).setF b LLANE.RX_STAT_CDR_LOCK 0).setF b LLANE.RX_STAT_FREQ_OOR 0
  let s := (s.modLane n fun l => { l with bg := none }).eyeAbort n
  (if changed then s.sigChange n else s).holdoverAll

/-- The host lanes a PLL clocks at their present rates. -/
def pllHostLanes (s : State) (p : PllId) : List Nat :=
  match pllHost p with
  | some (k, b) => s.hostPllLanes k b
  | none => []

/-- A PLL stops because its EN is cleared, its domain is powered down or a power state stops its clock: LOCK reads 0
without LOCK_LOST (R93, R176). -/
def pllStop (s : State) (p : PllId) : State :=
  let r := pllRegs p
  if !s.pllLocked p then s
  else
    let hosts := s.pllHostLanes p
    let s := s.setF r.blk r.lock 0
    let s := (pllLines p).foldl rxQuiet s
    (hosts.foldl hostQuiet s).squelchAll.portsEval

/-- A write of a PLL control register. -/
def pllCtl (s : State) (p : PllId) (v : Word) : State :=
  let r := pllRegs p
  let s := s.writeReg r.blk r.en.off v
  if s.fb r.blk r.en then s else s.pllStop p

/-- An enabled PLL acquires lock: its lanes and engines resume with their trims and banks (R93). -/
def pllLock (s : State) (p : PllId) (us : Nat) : State :=
  let r := pllRegs p
  if !s.blkOn r.blk || !s.fb r.blk r.en || s.clocksStopped || s.pllLocked p then s
  else
    let s := (s.setF r.blk r.lock 1).setF r.blk r.us us
    let s := (pllLines p).foldl (fun s n =>
      (if s.fb (Blk.llane n) LLANE.RX_STAT_SIG_DET then s.bgStart n else s).injRun n) s
    s.squelchAll.portsEval

/-- An enabled PLL loses lock: the receivers deliver erasures, CDR_LOCK clears and CDR_LOCK_LOST is raised; SIG_DET
keeps its value (R93, R176). -/
def pllLost (s : State) (p : PllId) : State :=
  let r := pllRegs p
  if !s.blkOn r.blk || !s.pllLocked p then s
  else
    let hosts := s.pllHostLanes p
    let s := (s.setF r.blk r.lock 0).setF r.blk r.lost 1
    let s := match r.int with
      | some i => s.raise r.blk i
      | none => s
    let s := (pllLines p).foldl (fun s n => (s.cdrLost n).modLane n fun l => { l with bg := none }) s
    (hosts.foldl hostCdrLost s).squelchAll.portsEval

/-- The lanes of line cluster `c` whose slices lost power clear RX_EN or TX_EN and PWR_RDY (R93, R118). -/
def lineSlices (s : State) (lanes : List Nat) : State :=
  (lanes.foldl (fun s n =>
    let b := Blk.llane n
    let s := if s.rxPowered n then s else (s.rxEnOff n).setF b LLANE.RX_STAT_PWR_RDY 0
    if s.txPowered n then s else (s.txEnOff n).setF b LLANE.TX_STAT_PWR_RDY 0) s).portsEval

/-- A write of LCLU.LANE_PWR (R93). -/
def linePwr (s : State) (c : Nat) (v : Word) : State :=
  (s.writeReg (Blk.lclu c) LCLU.LANE_PWR v).lineSlices [4 * c, 4 * c + 1, 4 * c + 2, 4 * c + 3]

/-- The slices of a lane are biased (R93, R176). -/
def slicesReady (s : State) (l : LaneId) : State :=
  match l with
  | .line n =>
    let b := Blk.llane n
    if !s.blkOn b then s
    else
      let s := if s.rxPowered n then s.setF b LLANE.RX_STAT_PWR_RDY 1 else s
      if s.txPowered n then s.setF b LLANE.TX_STAT_PWR_RDY 1 else s
  | .host m => if s.hostPowered m then s.setF (Blk.hlane m) HLANE.HL_STAT_PWR_RDY 1 else s

/-- Calibration of a host lane's ADC completes (R177). -/
def hostCalDone (s : State) (m : Nat) : State := s.setF (Blk.hlane m) HLANE.HL_STAT_CAL_RUN 0

/-- Clause 49 block lock is lost (R184). -/
def blockLockLost (s : State) (m : Nat) : State := s.setF (Blk.hlane m) HLANE.HL_STAT_BLOCK_LOCK 0

end State
end Sys2Proof.Machine
end

