-- ==== Sys2Proof/Machine/TwinOps.lean ====
section
/-! DEFINITION. Operations of the TWIN block (spec/09): pairing, the position handshake, ranging, coordinated actions and
sparing. Messages leave through Foghorn buffer 0. -/

namespace Sys2Proof.Machine

/-- Division rounded to nearest, ties away from zero. -/
def roundDiv (a : Int) (b : Nat) : Int := if b = 0 then 0 else if a < 0 then -((-a + b / 2) / b) else (a + b / 2) / b

/-- The nominal codeword period of flow 0 of a port type, in 0.1 ns (R202). -/
def cwPeriod (typ : Nat) : Nat := match typ with
  | 1 => 512
  | 2 => 256
  | _ => 128

/-! Reasons of SPARE_STAT.REASON. -/

namespace Why
def notPaired : Nat := 1
def adrift : Nat := 2
def late : Nat := 3
def rejected : Nat := 4
def noEntry : Nat := 5
def version : Nat := 6
def notTrained : Nat := 7
def skew : Nat := 8
def busy : Nat := 10
def unavailable : Nat := 11
def noPosition : Nat := 12
def localVeto : Nat := 13
def timeout : Nat := 14
def split : Nat := 15
end Why

namespace State

/-! ### Messages and pairing (R220 to R227) -/

/-- A field of TWIN. -/
def tf (s : State) (fl : Fld) : Nat := s.f Blk.twin fl

/-- Pairing needs PD_FOG and PD_KPR (R220). -/
def twinOn (s : State) : Bool := s.fogOn && s.domReady Dom.kpr

/-- PAIR_STAT.STATE: 0 UNPAIRED, 1 HAILING, 2 ANSWERED, 3 PAIRED, 4 ADRIFT, 5 RELEASING. -/
def pairState (s : State) : Nat := s.tf TWIN.PAIR_STAT_STATE

/-- Sets the pairing state. -/
def setPair (s : State) (st : Nat) : State := s.setF Blk.twin TWIN.PAIR_STAT_STATE st

/-- Changes the hidden state of TWIN. -/
def modTwin (s : State) (g : TwinState → TwinState) : State := { s with twin := g s.twin }

/-- Sends a message without a counter (HAIL, ANSWER). -/
def twinPlain (s : State) (typ : Nat) (fields : List Nat) : State := s.fogTwin { typ := typ, cnt := 0, fields := fields }

/-- Sends a message under the session keys with the next counter value (R221). -/
def twinSend (s : State) (typ : Nat) (fields : List Nat) : State :=
  let c := s.twin.txCnt + 1
  ((s.modTwin fun t => { t with txCnt := c }).setReg Blk.twin TWIN.TX_CNT (BitVec.ofNat 32 c)).fogTwin
    { typ := typ, cnt := c, fields := fields }

/-- A discarded message is counted in AUTH_FAIL, which is raised (R221). -/
def authFail (s : State) : State := (s.countSat Blk.twin TWIN.PAIR_STAT_AUTH_FAIL 1).raise Blk.twin TWIN.INT_AUTH_FAIL

/-- The smallest counter above the last accepted one whose low 16 bits are `low` (R221). -/
def twinCounter (s : State) (low : Nat) : Nat := s.twin.rxCnt + 1 + (low + 65536 - (s.twin.rxCnt + 1) % 65536) % 65536

/-- Sets the last accepted counter. -/
def setRxCnt (s : State) (c : Nat) : State :=
  (s.modTwin fun t => { t with rxCnt := c }).setReg Blk.twin TWIN.RX_CNT (BitVec.ofNat 32 c)

/-- The session keys are derived, and both counters hold 0 (R221). -/
def deriveKeys (s : State) : State :=
  ((s.modTwin fun t => { t with keys := true, txCnt := 0 }).setReg Blk.twin TWIN.TX_CNT 0).setRxCnt 0

/-- Position relations and the range are invalid (R223, R231). -/
def twinForget (s : State) : State :=
  (s.modTwin fun t => { t with rel := [], posWait := [], posWantsRange := false }).setF Blk.twin
    TWIN.RANGE_STAT_VALID 0 |>.setF Blk.twin TWIN.POS_STAT_BUSY 0 |>.setF Blk.twin TWIN.RANGE_STAT_BUSY 0

/-- The pairing record is erased: keys and counters are zeros (R223). -/
def twinErase (s : State) : State :=
  (((s.modTwin fun t => { t with keys := false, txCnt := 0, released := 0 }).setReg Blk.twin TWIN.TX_CNT 0).setRxCnt
    0).setF Blk.twin TWIN.PAIR_STAT_KEYS_LOST 0 |>.twinForget

/-- The identity of a register quadruple. -/
def idOf (s : State) (b : Nat) (r : Nat → Nat) : Nat :=
  (List.range 4).foldl (fun a i => a + (s.reg b (r i)).toNat * 2 ^ (32 * i)) 0

/-- The device's own identity (R404): DEV_ID3 holds its highest word. -/
def ownId (s : State) : Nat := (List.range 4).foldl (fun a i => a + (SMap.get 0 s.fuse.devId i).toNat * 2 ^ (32 * i)) 0

/-- The twin's identity. -/
def peerId (s : State) : Nat := s.idOf Blk.twin TWIN.PEER_ID

/-- Records the identity of the twin. -/
def setPeer (s : State) (id : Nat) : State :=
  (List.range 4).foldl (fun s i => s.setReg Blk.twin (TWIN.PEER_ID i) (BitVec.ofNat 32 (id / 2 ^ (32 * i)))) s

/-- With EXPECT_EN, only the identity expected is accepted (R225). -/
def expected (s : State) (id : Nat) : Bool :=
  !s.fb Blk.twin TWIN.PAIR_CTL_EXPECT_EN || id == s.idOf Blk.twin TWIN.EXPECT_ID

/-- The pairing fails with a reason (R223). -/
def pairFail (s : State) (why : Nat) : State :=
  ((s.setPair 0).setF Blk.twin TWIN.PAIR_STAT_FAIL_REASON why).raise Blk.twin TWIN.INT_PAIR_FAIL

/-- Writing 1 to HAIL (R223): AUTH_FAIL clears; UNPAIRED starts hailing. A returned part cannot pair (R404). -/
def pairHail (s : State) : State :=
  let s := s.setF Blk.twin TWIN.PAIR_STAT_AUTH_FAIL 0
  if !s.twinOn || s.pairState ≠ 0 then s
  else if s.fuse.lifecycle = 3 then s.pairFail Why.unavailable
  else ((s.setPair 1).setF Blk.twin TWIN.PAIR_STAT_ROLE 0).twinPlain 0x01 []

/-- Writing 1 to RELEASE in PAIRED or ADRIFT (R223). -/
def pairRelease (s : State) : State :=
  if !s.twinOn || !(s.pairState == 3 || s.pairState == 4) then s
  else ((s.setPair 5).modTwin fun t => { t with released := 1 }).twinSend 0x40 []

/-- A write of PAIR_CTL. -/
def pairCtl (s : State) (v : Word) : State :=
  let s := s.writeReg Blk.twin TWIN.PAIR_CTL v
  let s := if TWIN.PAIR_CTL_HAIL.get v = 1 then s.pairHail else s
  if TWIN.PAIR_CTL_RELEASE.get v = 1 then s.pairRelease else s

/-- HAIL_PERIOD elapses while HAILING. -/
def hailTimer (s : State) : State := if s.twinOn && s.pairState = 1 then s.twinPlain 0x01 [] else s

/-- HAIL_LIMIT elapses while HAILING. -/
def hailLimit (s : State) : State := if s.twinOn && s.pairState = 1 then s.pairFail Why.timeout else s

/-- No CONFIRM within 4 HAIL_PERIOD. -/
def confirmWait (s : State) : State :=
  if s.twinOn && s.pairState = 2 then s.twinErase.pairFail Why.timeout else s

/-- The end becomes or stays ANSWERED: it sends ANSWER and derives the keys (R221, R223). -/
def twinAnswered (s : State) (id : Nat) : State :=
  ((((s.setPair 2).setF Blk.twin TWIN.PAIR_STAT_ROLE 1).setF Blk.twin TWIN.PAIR_STAT_KEYS_LOST 0).setPeer id).twinForget.twinPlain
    0x02 [] |>.deriveKeys

/-- A HAIL from `id` is received (R223, R225, R245). A blank part has no root hash and a returned part no key, so that no
pairing succeeds (R404, R418). -/
def rxHail (s : State) (id : Nat) (ok : Bool) : State :=
  if !s.twinOn then s
  else if !ok || !s.expected id || s.fuse.lifecycle = 0 || s.fuse.lifecycle = 3 then s.authFail
  else
    let listen := s.fb Blk.twin TWIN.PAIR_CTL_LISTEN
    match s.pairState with
    | 0 => if listen then s.twinAnswered id else s
    | 1 => if s.ownId < id then s else s.twinAnswered id
    | 2 => if id = s.peerId then s.twinAnswered id else s
    | 3 => s.authFail
    | 4 => if listen && id = s.peerId then s.twinAnswered id else s
    | _ => s

/-- An ANSWER from `id` is received in HAILING (R223). -/
def rxAnswer (s : State) (id : Nat) (ok : Bool) : State :=
  if !s.twinOn then s
  else if !ok || !s.expected id || s.fuse.lifecycle = 0 || s.fuse.lifecycle = 3 then s.authFail
  else if s.pairState ≠ 1 then s
  else (((((s.setPair 3).setPeer id).setF Blk.twin TWIN.PAIR_STAT_KEYS_LOST 0).deriveKeys).twinSend 0x03 []).raise Blk.twin
    TWIN.INT_PAIRED

/-- A CONFIRM is received in ANSWERED: accepted only with counter 1 (R221, R223). -/
def rxConfirm (s : State) (a : MsgAuth) : State :=
  if !s.twinOn then s
  else if s.pairState ≠ 2 || !s.twin.keys || !a.tagOk || s.twinCounter a.low.toNat ≠ 1 then s.authFail
  else ((s.setRxCnt 1).setPair 3).raise Blk.twin TWIN.INT_PAIRED

/-! ### Ranging and the position handshake (R228 to R231) -/

/-- RANGE_CTL.RUN (R231). -/
def rangeRun (s : State) : State :=
  if !s.twinOn || s.pairState ≠ 3 then s else (s.setF Blk.twin TWIN.RANGE_STAT_BUSY 1).twinSend 0x3A []

/-- The position entries sent for the given ports: those with EN whose line-bound direction is VALID (R228). -/
def posEntries (s : State) (ports : List Nat) : List (Nat × Pos) :=
  (ports.filter fun p => s.fb Blk.twin (TWIN.PEER_EN p) && (s.portPos p false).valid).map fun p => (p, s.portPos p false)

/-- Sends position entries in messages of at most eight. -/
def posMessages (s : State) : Nat → List (Nat × Pos) → State
  | 0, _ => s
  | _, [] => s
  | n + 1, l =>
    (s.twinSend 0x11 ((l.take 8).map fun e => [e.1, e.2.gen, e.2.cw]).flatten).posMessages n (l.drop 8)

/-- Starts the handshake for the ports; with no valid range the device first measures one (R228, R229). -/
def posStart (s : State) (ports : List Nat) : State :=
  if !s.twinOn || s.pairState ≠ 3 then s
  else if !s.fb Blk.twin TWIN.RANGE_STAT_VALID then
    let s := (s.modTwin fun t => { t with posWantsRange := true }).setF Blk.twin TWIN.POS_STAT_BUSY 1
    if s.fb Blk.twin TWIN.RANGE_STAT_BUSY then s else s.rangeRun
  else
    let es := s.posEntries ports
    let s := s.modTwin fun t => { t with posWait := es.map fun e => (e.1, e.2.gen), posBad := false, posWantsRange := false }
    if es.isEmpty then (s.setF Blk.twin TWIN.POS_STAT_BUSY 0).raise Blk.twin TWIN.INT_POS_DONE
    else (s.setF Blk.twin TWIN.POS_STAT_BUSY 1).posMessages 8 es

/-- The relation of a port: 2 * port + direction (1 inbound). -/
def relOf (s : State) (p : Nat) (inbound : Bool) : TwinRel := SMap.get {} s.twin.rel (2 * p + inbound.toNat)

/-- AUTO reruns the handshake for the ports whose relation became invalid (R230). -/
def posAuto (s : State) : State :=
  if s.fb Blk.twin TWIN.POS_CTL_AUTO then
    s.posStart ((List.range 64).filter fun p => !(s.relOf p false).valid && (s.portPos p true).valid)
  else s

/-- Every port. -/
def posAll (s : State) : State := s.posStart (List.range 64)

/-- POS_STAT.FAIL sets. -/
def posFail (s : State) : State :=
  (s.modTwin fun t => { t with posBad := true }).flag Blk.twin TWIN.POS_STAT_FAIL TWIN.INT_POS_FAIL

/-- The relation that an entry of POS gives (R229): the local port, ΔAMI and the residual. -/
def posJudge (s : State) (e : PosEntry) : Option (Nat × Int × Int) :=
  match (List.range 64).find? fun q => s.fb Blk.twin (TWIN.PEER_EN q) && s.f Blk.twin (TWIN.PEER_TWIN_PORT q) == e.port.val with
  | none => none
  | some q =>
    let pos := s.portPos q true
    let per := s.f (Blk.port q) PORT.AM_PERIOD_P
    if !s.fb Blk.twin TWIN.RANGE_STAT_VALID || !pos.valid || per = 0 || per ≠ e.period then none
    else
      let d : Int := (pos.cw : Int) - e.cw.toNat
      let r := roundDiv (10 * s.f Blk.twin TWIN.RANGE_NS_NS) (cwPeriod (s.portUsed q).typ)
      let k := roundDiv (d - r) per
      let res := d - r - per * k
      if 4 * res.natAbs ≤ per then some (q, k, res) else none

/-- An authenticated message of the pairing (R221, R223, R226): accepted with its counter, it ends ADRIFT and reruns the
position handshake; otherwise it is discarded. -/
def twinRx (s : State) (a : MsgAuth) (k : State → State) : State :=
  if !s.twinOn then s
  else if s.twin.keys && a.tagOk && !s.fb Blk.twin TWIN.PAIR_STAT_KEYS_LOST && decide (3 ≤ s.pairState) then
    let s := s.setRxCnt (s.twinCounter a.low.toNat)
    k (if s.pairState = 4 then ((s.setPair 3).raise Blk.twin TWIN.INT_PAIRED).posAll else s)
  else s.authFail

/-- A POS message (R229): the relations are kept as inbound and returned in POS_ACK. -/
def rxPos (s : State) (l : List PosEntry) : State :=
  let s := if s.fb Blk.twin TWIN.RANGE_STAT_VALID || s.fb Blk.twin TWIN.RANGE_STAT_BUSY then s else s.rangeRun
  let judged := (l.take 8).map fun e => (e, s.posJudge e)
  let s := if judged.any fun x => x.2.isNone then s.posFail else s
  let good := judged.filterMap fun x => x.2.map fun j => (x.1, j)
  let s := good.foldl (fun s (x : PosEntry × Nat × Int × Int) =>
    let r : TwinRel := { valid := true, localGen := (s.portPos x.2.1 true).gen, twinGen := x.1.gen.toNat
                         delta := x.2.2.1, twinPort := x.1.port, resid := x.2.2.2 }
    s.modTwin fun t => { t with rel := SMap.put {} t.rel (2 * x.2.1 + 1) r }) s
  s.twinSend 0x12 (good.map fun x => [x.1.port.val, unsignedOf 32 x.2.2.1, unsignedOf 16 x.2.2.2]).flatten

/-- A POS_ACK (R229, R230): the outbound relations of the entries it returns; an entry that it does not return, or whose port
has realigned, has failed. The twin's generation does not travel in POS_ACK, so it is a free value. -/
def rxPosAck (s : State) (l : List PosAck) : State :=
  let chunk := s.twin.posWait.take 8
  let s := chunk.foldl (fun s (w : Nat × Nat) =>
    let pos := s.portPos w.1 false
    match l.find? fun a => a.port.val == w.1 with
    | some a =>
      if pos.valid && pos.gen == w.2 then
        let g := s.draw 16
        let r : TwinRel := { valid := true, localGen := w.2, twinGen := g.1.toNat, delta := a.delta.toInt
                             twinPort := s.f Blk.twin (TWIN.PEER_TWIN_PORT w.1), resid := a.resid.toInt }
        g.2.modTwin fun t => { t with rel := SMap.put {} t.rel (2 * w.1) r }
      else s.posFail
    | none => s.posFail) s
  let s := s.modTwin fun t => { t with posWait := t.posWait.drop 8 }
  if chunk.isEmpty || !s.twin.posWait.isEmpty then s
  else
    let s := s.setF Blk.twin TWIN.POS_STAT_BUSY 0
    if s.twin.posBad then s else s.raise Blk.twin TWIN.INT_POS_DONE

/-- A RANGE is answered with its receive and send time-stamps (R231). -/
def rxRange (s : State) : State := s.twinSend 0x3B []

/-- A RANGE_ECHO (R231): t1 and t4 are this end's time-stamps of the two packets, t2 and t3 the twin's, in ns. -/
def rxRangeEcho (s : State) (t1 t2 t3 t4 : BitVec 64) : State :=
  if !s.fb Blk.twin TWIN.RANGE_STAT_BUSY then s
  else
    let rtt : Int := (t4.toNat : Int) - t1.toNat - ((t3.toNat : Int) - t2.toNat)
    let owd := (rtt / 2).toNat
    let ng := s.f Blk.twin TWIN.RANGE_CTL_NG
    let draw := s.draw 16
    let m := if ng = 0 then draw.1.toNat else (owd * 299792458 * 32768 + ng * 500000000) / (ng * 1000000000)
    let s := if ng = 0 then draw.2 else s
    let s := (s.setF Blk.twin TWIN.RANGE_NS_NS (min owd (2 ^ 24 - 1))).setF Blk.twin TWIN.RANGE_STAT_FIBRE_M (min m 65535)
    let s := ((s.setF Blk.twin TWIN.RANGE_STAT_BUSY 0).setF Blk.twin TWIN.RANGE_STAT_VALID 1).raise Blk.twin
      TWIN.INT_RANGE_DONE
    if s.twin.posWantsRange then s.posAll else s

/-- The relation words POS_REL0 to POS_REL2 of the selected port and direction. -/
def posRelWord (s : State) (w : Nat) : Word :=
  let r := s.relOf (s.tf TWIN.POS_IDX_PORT) (s.tf TWIN.POS_IDX_DIR == 1)
  BitVec.ofNat 32 (match w with
    | 0 => r.localGen + r.twinGen * 2 ^ 16
    | 1 => unsignedOf 32 r.delta
    | _ => r.twinPort + unsignedOf 12 r.resid * 2 ^ 16 + r.valid.toNat * 2 ^ 31)

/-- POS_STAT.RELATED: the ports with a valid relation. -/
def posRelated (s : State) : Nat :=
  ((List.range 64).filter fun p => (s.relOf p false).valid || (s.relOf p true).valid).length

/-! ### Sparing (R235 to R242) -/

/-- SPARE_STAT.STATE: 0 IDLE, 1 MIRROR, 2 TRAIN, 3 READY, 4 SWITCH_PENDING, 5 SPARED, 6 RETURN_TRAIN, 7 RETURN_READY,
8 RETURN_PENDING. -/
def spareState (s : State) : Nat := s.tf TWIN.SPARE_STAT_STATE

/-- Sets the state; SPARE_CHG is raised on a change. -/
def setSpare (s : State) (st : Nat) : State :=
  if s.spareState = st then s else (s.setF Blk.twin TWIN.SPARE_STAT_STATE st).raise Blk.twin TWIN.INT_SPARE_CHG

/-- Sets REASON. -/
def spareWhy (s : State) (w : Nat) : State := s.setF Blk.twin TWIN.SPARE_STAT_REASON w

/-- The lane of the operation or substitution. -/
def spareLane (s : State) : Nat := s.tf TWIN.SPARE_STAT_LANE

/-- Starts SPARE_TRAIN on an engine for the mirrored lane (R236), through its mailbox. -/
def spareTrainOn (s : State) (e lane : Nat) : State :=
  (s.mbxArg e (ENG.MBX_ARG0 (engBase e)) (BitVec.ofNat 32 lane)).mbxCmd e 9

/-- Stops SPARE_TRAIN on an engine: its command under way completes with an error code the spec does not name, one of the
codes of R169. -/
def spareTrainOff (s : State) (e : Nat) : State :=
  if s.efb e ENG.MBX_STAT_BUSY && s.ef e ENG.MBX_CMD_CMD == 9 then
    let c := s.choose [0, 1, 2, 3, 4, 5]
    (c.2.progEnter e 0).mbxDone e (c.1.getD 0)
  else s

/-- Mirrors lane `m` onto LL16 (R236). -/
def mirrorOn (s : State) (m : Nat) : State :=
  s.txMirror 16 (LLANE.TX_MIRROR_EN.put (LLANE.TX_MIRROR_SRC.put (s.reg (Blk.llane 16) LLANE.TX_MIRROR) m) 1)

/-- Stops the mirror on LL16. -/
def mirrorOff (s : State) : State := s.txMirror 16 (LLANE.TX_MIRROR_EN.put (s.reg (Blk.llane 16) LLANE.TX_MIRROR) 0)

/-- A return to IDLE other than on completion (R239): REASON, SPARE_FAIL, the mirror and the training stop. A substitution
already made stays, and with it the mirror that carries it. -/
def spareIdle (s : State) (why : Nat) : State :=
  let e := if 6 ≤ s.spareState then s.spareLane else 16
  let s := ((s.setSpare 0).spareWhy why).raise Blk.twin TWIN.INT_SPARE_FAIL
  let s := (s.setF Blk.twin TWIN.SPARE_STAT_MATCH 0).modTwin fun t => { t with force := false }
  let s := if s.fb Blk.twin TWIN.SPARE_STAT_SUBST then s else s.mirrorOff
  s.spareTrainOff e

/-- An engine runs the program of the bank in use. -/
def engRuns (s : State) (e : Nat) : Bool :=
  s.engClock e && (s.eng e).run != .halted && s.bankValid e (s.ef e ENG.LE_STAT_BANK_IN_USE)

/-- Every port on logical lane `i` has valid relations in both directions. -/
def laneRelated (s : State) (i : Nat) : Bool :=
  ((List.range 4).filterMap fun sl => s.slotOwner i sl).eraseDups.all fun p =>
    (s.relOf p false).valid && (s.relOf p true).valid

/-- LL16 and its engine are available for lane `m` (R235). -/
def spareReady (s : State) (m : Nat) : Bool :=
  s.domReady Dom.spr && s.pllLocked .spare && s.fb (Blk.llane 16) LLANE.TX_CTL_TX_EN
    && s.fb (Blk.llane 16) LLANE.RX_CTL_RX_EN
    && s.f (Blk.llane 16) LLANE.RX_CTL_RATE == s.f (Blk.llane m) LLANE.RX_CTL_RATE
    && s.f (Blk.llane 16) LLANE.TX_CTL_RATE == s.f (Blk.llane m) LLANE.TX_CTL_RATE
    && s.terminated 16 == s.terminated m && s.engRuns 16

/-- The first test of R235 that fails for lane `i`; 0 when all pass. -/
def spareTests (s : State) (i : Nat) : Nat :=
  if s.pairState ≠ 3 then Why.notPaired
  else if !s.laneRelated i then Why.noPosition
  else if s.spareState ≠ 0 || s.fb Blk.twin TWIN.SPARE_STAT_SUBST then Why.busy
  else if !s.spareReady i then Why.unavailable
  else 0

/-- A new operation on a lane: the flags of the last one clear. -/
def spareNew (s : State) (i : Nat) : State :=
  let s := (((s.setF Blk.twin TWIN.SPARE_STAT_LANE i).spareWhy 0).setF Blk.twin TWIN.SPARE_STAT_MATCH 0).setF Blk.twin
    TWIN.SPARE_STAT_IN_WINDOW 0
  ((s.setF Blk.twin TWIN.SPARE_STAT_TWIN_READY 0).setF Blk.twin TWIN.SPARE_STAT_TWIN_SWITCHED 0).modTwin fun t =>
    { t with force := false }

/-- OP = PREPARE (R235, R236). -/
def sparePrepare (s : State) (i : Nat) : State :=
  match s.spareTests i with
  | 0 => ((((s.spareNew i).setSpare 1).mirrorOn i).twinSend 0x30 [i, 0])
  | w => s.spareWhy w

/-- The conditions of R240 for a return of lane `m`. -/
def returnReady (s : State) (m : Nat) : Bool :=
  s.fb (Blk.llane m) LLANE.RX_CTL_RX_EN && s.fb (Blk.llane m) LLANE.TX_CTL_TX_EN && s.engRuns m

/-- The start of a return at one end (R240): training LLm; an assigned lane's LL16 is mirrored onto LLm. -/
def returnStart (s : State) : State :=
  let m := s.spareLane
  let s := (s.spareNew m).setSpare 6
  let s := if s.twin.assigned then
      s.txMirror m (LLANE.TX_MIRROR_EN.put (LLANE.TX_MIRROR_SRC.put (s.reg (Blk.llane m) LLANE.TX_MIRROR) 16) 1)
    else s
  s.spareTrainOn m 16

/-- OP = RETURN (R239, R240). -/
def spareReturn (s : State) : State :=
  if s.spareState ≠ 5 then s
  else if !s.returnReady s.spareLane then s.spareWhy Why.unavailable
  else s.returnStart.twinSend 0x30 [s.spareLane, 1]

/-- The crossbar and mirror states change for the lane (R238): its event, and the ports. -/
def spareMoved (s : State) (n : Nat) : State := (s.laneEvent n 6).portsEval

/-- OP = ASSIGN (R240): while every port on the lane is disabled. -/
def spareAssign (s : State) (i : Nat) : State :=
  let used := (List.range 64).any fun p => s.portEnabled p && (s.portLineLanes p).contains i
  if used || s.spareState ≠ 0 || s.fb Blk.twin TWIN.SPARE_STAT_SUBST then s.spareWhy Why.localVeto
  else ((((s.spareNew i).modTwin fun t => { t with assigned := true }).setF Blk.twin TWIN.SPARE_STAT_SUBST 1).setSpare 5).portsEval

/-! ### Coordinated actions (R232, R233) -/

/-- COORD_STAT.PHASE: 0 idle, 1 proposed, 2 accepted, 3 GO seen, 4 done, 5 aborted, 6 split. -/
def coordPhase (s : State) : Nat := s.tf TWIN.COORD_STAT_PHASE

/-- A transaction is open. -/
def coordOpen (s : State) : Bool := 1 ≤ s.coordPhase && s.coordPhase ≤ 3

/-- The transaction ends without a commit at this end. -/
def coordEnd (s : State) (phase why : Nat) : State :=
  ((s.setF Blk.twin TWIN.COORD_STAT_PHASE phase).setF Blk.twin TWIN.COORD_STAT_REASON why).raise Blk.twin TWIN.INT_COORD_FAIL

/-- A pending switch or return of sparing is not made: READY, or RETURN_READY (R239). -/
def spareBack (s : State) : State := if s.spareState = 4 then s.setSpare 3 else if s.spareState = 8 then s.setSpare 7 else s

/-- This end does not commit (R233): its entry is disabled with SKIPPED. -/
def coordDrop (s : State) (why : Nat) : State := ((s.seTwinSkip s.twin.coordSe).coordEnd 5 why).spareBack

/-- A number of ms in codewords of port `p`, rounded up. -/
def msCodewords (s : State) (p ms : Nat) : Nat :=
  let per := cwPeriod (s.portUsed p).typ
  (ms * 10000000 + per - 1) / per

/-- A codeword of one end in the other's count, under a relation of port `p` (R230). -/
def convert (s : State) (p : Nat) (inbound : Bool) (n : Nat) : Nat :=
  unsignedOf 64 ((n : Int) + (s.f (Blk.port p) PORT.AM_PERIOD_P : Int) * (s.relOf p inbound).delta)

/-- Starts a transaction for codeword `n` of port `p`, line-bound (R232). -/
def coordPropose (s : State) (p action n : Nat) : State :=
  if s.coordOpen then s
  else
    let s := s.setF Blk.twin TWIN.COORD_STAT_RESPONDER 0
    let cutoff := s.tf TWIN.COORD_TAG_CUTOFF
    if action = 3 then s.coordEnd 5 Why.localVeto
    else if s.pairState ≠ 3 then s.coordEnd 5 Why.notPaired
    else if !(s.relOf p false).valid then s.coordEnd 5 Why.noPosition
    else if n < (s.portPos p false).cw + s.msCodewords p (2 * cutoff) then s.coordEnd 5 Why.late
    else
      let tag := s.tf TWIN.COORD_TAG_TAG
      let ver := s.reg Blk.twin TWIN.COORD_VER
      let s := s.modTwin fun t =>
        { t with coordSe := s.tf TWIN.COORD_CTL_SE, coordTag := tag, coordAction := action, coordPort := p
                 coordPoint := n, coordVer := ver, coordDid := none }
      ((s.setF Blk.twin TWIN.COORD_STAT_PHASE 1).setF Blk.twin TWIN.COORD_STAT_REASON 0).twinSend 0x20
        [tag, action, (s.relOf p false).twinPort, s.convert p false n, ver.toNat]

/-- COORD_CTL.START: N of the registers. -/
def coordStart (s : State) : State :=
  s.coordPropose (s.tf TWIN.COORD_CTL_PORT) (s.tf TWIN.COORD_CTL_ACTION)
    ((s.reg Blk.twin TWIN.COORD_N_LO).toNat + (s.reg Blk.twin TWIN.COORD_N_HI).toNat * 2 ^ 32)

/-- COORD_CTL.ABORT (R233). -/
def coordAbort (s : State) : State :=
  if s.coordOpen then (s.twinSend 0x24 [s.twin.coordTag]).coordDrop Why.rejected else s

/-- A write of COORD_CTL. -/
def coordCtl (s : State) (v : Word) : State :=
  let s := s.writeReg Blk.twin TWIN.COORD_CTL v
  let s := if TWIN.COORD_CTL_START.get v = 1 ∧ s.twinOn then s.coordStart else s
  if TWIN.COORD_CTL_ABORT.get v = 1 ∧ s.twinOn then s.coordAbort else s

/-- The port that a spare action of the device refers to: the lane's reference port (R212, R238). -/
def spareRefPort (s : State) : Nat := (((List.range 4).findSome? fun sl => s.slotOwner s.spareLane sl)).getD 0

/-- Own and twin READY with a switch asked (R239): both ends go to SWITCH_PENDING, or RETURN_PENDING, and the end with the
lower identity proposes a point 2 CUTOFF ahead. -/
def spareGo (s : State) (asked : Bool) : State :=
  let st := s.spareState
  if !(st == 3 || st == 7) || !s.fb Blk.twin TWIN.SPARE_STAT_TWIN_READY
      || !(asked || st == 7 || s.fb Blk.twin TWIN.SPARE_CTL_AUTO_SWITCH) then s
  else
    let s := s.setSpare (st + 1)
    if s.ownId < s.peerId then
      let p := s.spareRefPort
      s.coordPropose p (if st = 3 then 1 else 2)
        ((s.portPos p false).cw + s.msCodewords p (2 * s.tf TWIN.COORD_TAG_CUTOFF))
    else s

/-- δ lies in the window of R237: RSV - 4,096 ns ≤ δ ≤ RSV, δ in symbols of the lane's rate. -/
def inWindow (s : State) (delta : Int) : Bool :=
  let rsv : Int := min 2048 (s.tf TWIN.SPARE_RSV_RSV)
  let x := 32 * delta * symPeriods (s.f (Blk.llane 16) LLANE.RX_CTL_RATE)
  decide ((rsv - 4096) * 7225 ≤ x) && decide (x ≤ rsv * 7225)

/-- The move from TRAIN to READY (R239, R241), or from RETURN_TRAIN to RETURN_READY. -/
def spareEval (s : State) : State :=
  let st := s.spareState
  if (st == 2 || st == 6) && s.fb Blk.twin TWIN.SPARE_STAT_MATCH
      && (s.fb Blk.twin TWIN.SPARE_STAT_IN_WINDOW || s.twin.force) then
    ((s.setSpare (st + 1)).twinSend 0x32 [s.spareLane, 0]).spareGo false
  else s

/-- MATCH sets with δ (R236, R237). -/
def spareMatch (s : State) (delta : BitVec 24) : State :=
  if !(s.twinOn && (s.spareState == 2 || s.spareState == 3 || s.spareState == 6 || s.spareState == 7)) then s
  else
    let s := (s.setF Blk.twin TWIN.SPARE_OFS_DELTA delta.toNat).setF Blk.twin TWIN.SPARE_STAT_MATCH 1
    (s.setB Blk.twin TWIN.SPARE_STAT_IN_WINDOW (s.inWindow delta.toInt)).spareEval

/-- MATCH clears (R236, R239). -/
def spareMismatch (s : State) : State :=
  let s := s.setF Blk.twin TWIN.SPARE_STAT_MATCH 0
  if s.spareState = 3 then s.setSpare 2 else s

/-- TRAIN_LIMIT elapses in TRAIN (R239, R241); the twin is told. -/
def spareLimit (s : State) : State :=
  if s.twinOn && s.spareState = 2 then
    let why := if s.fb Blk.twin TWIN.SPARE_STAT_MATCH then Why.skew else Why.notTrained
    (s.twinSend 0x31 [s.spareLane, why]).spareIdle why
  else s

/-- The scheduled spare switch or return is made or skipped at this end (R237, R238). -/
def spareSwitch (s : State) : State :=
  let st := s.spareState
  let ok := s.fb Blk.twin TWIN.SPARE_STAT_MATCH && (s.fb Blk.twin TWIN.SPARE_STAT_IN_WINDOW || s.twin.force)
    && s.fecLocked (if st = 4 then 16 else s.spareLane)
  if st = 4 then
    if ok then
      (((s.setF Blk.twin TWIN.SPARE_STAT_SUBST 1).setSpare 5).twinSend 0x32 [s.spareLane, 1]).spareMoved 16
    else ((s.setF Blk.twin TWIN.SPARE_STAT_SWITCH_SKIPPED 1).setSpare 3).twinSend 0x32 [s.spareLane, 2]
  else if st = 8 then
    if ok then
      let s := (((s.setF Blk.twin TWIN.SPARE_STAT_SUBST 0).twinSend 0x32 [s.spareLane, 1]).spareMoved s.spareLane)
      if s.fb Blk.twin TWIN.SPARE_STAT_TWIN_SWITCHED then
        (s.mirrorOff.modTwin fun t => { t with assigned := false, force := false }).setSpare 0
      else s
    else ((s.setF Blk.twin TWIN.SPARE_STAT_SWITCH_SKIPPED 1).setSpare 7).twinSend 0x32 [s.spareLane, 2]
  else s

/-- A write of SPARE_CTL (R235 to R241). -/
def spareCtl (s : State) (v : Word) : State :=
  let s := s.writeReg Blk.twin TWIN.SPARE_CTL v
  let i := TWIN.SPARE_CTL_LANE.get v
  let st := s.spareState
  if !s.twinOn then s
  else match TWIN.SPARE_CTL_OP.get v with
  | 1 => s.sparePrepare i
  | 2 => s.spareGo true
  | 3 => s.spareReturn
  | 4 => if (1 ≤ st ∧ st ≤ 4) ∨ (6 ≤ st ∧ st ≤ 8) then s.spareIdle Why.rejected else s
  | 5 => s.spareAssign i
  | 6 => (s.modTwin fun t => { t with force := true }).spareEval
  | _ => s

/-- PROPOSE (R232): for codeword `n` of local port `q`, host-bound. -/
def rxPropose (s : State) (tag action q n : Nat) (ver staged : Word) : State :=
  let pos := s.portPos q true
  let hit := (s.seWhere fun e => e.twin && e.tag == tag && e.state == 2).head?
  if s.coordOpen then s.twinSend 0x22 [tag, Why.busy]
  else match hit with
  | none => s.twinSend 0x22 [tag, Why.noEntry]
  | some k =>
    if action = 0 ∧ staged ≠ ver then s.twinSend 0x22 [tag, Why.version]
    else if n < pos.cw + s.msCodewords q (s.tf TWIN.COORD_TAG_CUTOFF) then s.twinSend 0x22 [tag, Why.late]
    else
      let s := s.modTwin fun t =>
        { t with coordSe := k, coordTag := tag, coordAction := action, coordPort := q, coordPoint := n
                 coordVer := ver, coordDid := none }
      let s := ((s.setF Blk.twin TWIN.COORD_STAT_PHASE 2).setF Blk.twin TWIN.COORD_STAT_REASON 0).setF Blk.twin
        TWIN.COORD_STAT_RESPONDER 1
      let s := s.seSupply k q true pos.gen n
      let s := if s.spareState = 3 ∧ action = 1 then s.setSpare 4
        else if s.spareState = 7 ∧ action = 2 then s.setSpare 8 else s
      s.twinSend 0x21 [tag, (s.portPos q false).cw + (n - pos.cw)]

/-- ACCEPT with the responder's codeword M (R232). -/
def rxAccept (s : State) (tag m : Nat) : State :=
  if s.coordPhase ≠ 1 || s.fb Blk.twin TWIN.COORD_STAT_RESPONDER || tag ≠ s.twin.coordTag then s
  else
    let p := s.twin.coordPort
    let s := s.setF Blk.twin TWIN.COORD_STAT_PHASE 2
    let s := if s.twin.coordAction = 0 then
        s.seSupply s.twin.coordSe p false (s.portPos p false).gen s.twin.coordPoint
      else s.seSupply s.twin.coordSe p true (s.portPos p true).gen (s.convert p true m)
    s.twinSend 0x23 [tag]

/-- REJECT (R232). -/
def rxReject (s : State) (tag why : Nat) : State :=
  if s.coordPhase ≠ 1 || tag ≠ s.twin.coordTag then s else s.coordDrop why

/-- GO (R233). -/
def rxGo (s : State) (tag : Nat) : State :=
  if s.coordPhase = 2 ∧ s.fb Blk.twin TWIN.COORD_STAT_RESPONDER ∧ tag = s.twin.coordTag then
    s.setF Blk.twin TWIN.COORD_STAT_PHASE 3
  else s

/-- ABORT (R233). -/
def rxAbort (s : State) (tag : Nat) : State :=
  if s.coordOpen && tag == s.twin.coordTag then s.coordDrop Why.rejected else s

/-- The cutoff (R233): the initiator needs ACCEPT, the responder needs GO. -/
def coordCutoff (s : State) : State :=
  let resp := s.fb Blk.twin TWIN.COORD_STAT_RESPONDER
  if s.coordPhase = 1 ∧ !resp then s.coordDrop Why.timeout
  else if s.coordPhase = 2 ∧ resp then (s.coordDrop Why.timeout).modTwin fun t => { t with coordDid := some false }
  else s

/-- The entry of the transaction has fired (R233): done, or refused by R47. -/
def coordFired (s : State) (k : Nat) (made : Bool) : State :=
  if !s.coordOpen || k ≠ s.twin.coordSe then s
  else if made then
    ((s.setF Blk.twin TWIN.COORD_STAT_PHASE 4).raise Blk.twin TWIN.INT_COORD_DONE).modTwin fun t =>
      { t with coordDid := some true }
  else s.coordEnd 5 Why.localVeto

/-- A SPARE_REQ from the twin (R235, R239, R240). -/
def rxSpareReq (s : State) (i : Nat) (ret : Bool) : State :=
  if ret then
    if s.spareState = 5 then
      if s.returnReady s.spareLane then s.returnStart.twinSend 0x31 [i, 0]
      else s.twinSend 0x31 [i, Why.unavailable]
    else s.twinSend 0x31 [i, Why.busy]
  else match s.spareTests i with
  | 0 => (((((s.spareNew i).setSpare 2).mirrorOn i).spareTrainOn 16 i).twinSend 0x31 [i, 0])
  | w => (if s.spareState = 0 then s.spareWhy w else s).twinSend 0x31 [i, w]

/-- A SPARE_RSP (R239): reason 0 accepts. -/
def rxSpareRsp (s : State) (why : Nat) : State :=
  if why = 0 then (if s.spareState = 1 then (s.setSpare 2).spareTrainOn 16 s.spareLane else s)
  else if s.spareState = 1 ∨ s.spareState = 6 ∨ s.spareState = 2 then
    (s.spareIdle Why.rejected).setF Blk.twin TWIN.COORD_STAT_REASON why
  else s

/-- A SPARE_STATUS (R238, R239). -/
def rxSpareStatus (s : State) (x : SpareNote) : State :=
  match x with
  | .ready => (s.setF Blk.twin TWIN.SPARE_STAT_TWIN_READY 1).spareGo false
  | .switched =>
    let s := s.setF Blk.twin TWIN.SPARE_STAT_TWIN_SWITCHED 1
    if s.spareState = 8 ∧ !s.fb Blk.twin TWIN.SPARE_STAT_SUBST then
      (s.mirrorOff.modTwin fun t => { t with assigned := false, force := false }).setSpare 0
    else s
  | .skipped => s.setF Blk.twin TWIN.SPARE_STAT_TWIN_READY 0

/-- Emergency sparing takes lane `i` (R242): SPARED with EMERG_STAT.ACTIVE. -/
def emergSwitch (s : State) (i : Nat) : State :=
  let s := ((s.setF Blk.twin TWIN.SPARE_STAT_LANE i).setF Blk.twin TWIN.SPARE_STAT_SUBST 1).setSpare 5
  let s := (s.setF Blk.twin TWIN.EMERG_STAT_ACTIVE 1).setF Blk.twin TWIN.EMERG_STAT_LANE i
  let s := (s.modTwin fun t => { t with emerg := none }).spareMoved 16
  if s.pairState = 3 then s.twinSend 0x32 [i, 1] else s

/-- A logical lane has lost decoder lock or SIG_DET for HOLD ms (R242): mirror and train, raise EMERGENCY, and switch as soon
as LL16 has both locks. -/
def emergency (s : State) (i : Nat) : State :=
  let lost := !s.fecLocked i || !s.fb (Blk.llane i) LLANE.RX_STAT_SIG_DET
  if !s.twinOn || !s.fb Blk.twin TWIN.EMERG_CTL_EN || s.fb Blk.twin TWIN.SPARE_STAT_SUBST || !lost then s
  else
    let s := if 1 ≤ s.spareState ∧ s.spareState ≤ 4 then s.spareIdle Why.busy else s
    let s := if s.twin.emerg = some i then s
      else (((s.modTwin fun t => { t with emerg := some i }).mirrorOn i).spareTrainOn 16 i).raise Blk.twin TWIN.INT_EMERGENCY
    if s.fecLocked 16 && s.fb (Blk.llane 16) LLANE.RX_STAT_SIG_DET then s.emergSwitch i else s

/-- ANSWER_EN: LL16's stream matches lane `i` (R242). -/
def emergIdentified (s : State) (i : Nat) : State :=
  if !s.twinOn || !s.fb Blk.twin TWIN.EMERG_CTL_ANSWER_EN || s.fb Blk.twin TWIN.SPARE_STAT_SUBST
      || !(s.fecLocked 16 && s.fb (Blk.llane 16) LLANE.RX_STAT_SIG_DET) then s
  else
    let s := (s.setF Blk.twin TWIN.EMERG_STAT_IDENTIFIED 1).setF Blk.twin TWIN.SPARE_STAT_MATCH 1
    (s.mirrorOn i).emergSwitch i

/-! ### Heartbeats, health, release (R223, R226, R234, R243) -/

/-- PAIRED becomes ADRIFT (R223). -/
def twinAdrift (s : State) : State :=
  if !s.twinOn || s.pairState ≠ 3 then s
  else
    let s := (s.setPair 4).twinForget
    let s := s.logRecord { typ := 0x0040, src := Blk.twin, anch := true
                           payload := logPayload [(s.reg Blk.twin (TWIN.PEER_ID 0)).toNat, (s.reg Blk.twin (TWIN.PEER_ID 1)).toNat] }
    let s := s.raise Blk.twin TWIN.INT_ADRIFT
    let st := s.spareState
    if (1 ≤ st ∧ st ≤ 4) ∨ (6 ≤ st ∧ st ≤ 8) then s.spareIdle Why.adrift else s

/-- The pairing ends: the record is erased and RELEASED raised. -/
def twinReleased (s : State) : State := (s.twinErase.setPair 0).raise Blk.twin TWIN.INT_RELEASED

/-- ADRIFT_LIMIT elapses in ADRIFT, if nonzero. -/
def adriftLimit (s : State) : State :=
  if s.twinOn && s.pairState = 4 && s.tf TWIN.HB_CTL_ADRIFT_LIMIT ≠ 0 then s.twinReleased else s

/-- PERIOD elapses while PAIRED or ADRIFT (R226). -/
def heartbeatTimer (s : State) : State :=
  if s.twinOn && (s.pairState = 3 ∨ s.pairState = 4) && s.twin.keys then
    s.twinSend 0x10 [s.pairState, (s.reg Blk.cfgv CFGV.ACT_VER).toNat, (s.reg Blk.cfgv CFGV.PREV_VER).toNat,
      s.f Blk.cfgv CFGV.STAT_TIMER_RUN, s.spareState, s.spareLane,
      Codec.ofBytes (((s.log.anchored.head?).getD []).take 4), s.tf TWIN.SPARE_RSV_RSV]
  else s

/-- A HEARTBEAT (R226, R233, R234): the twin's versions, and whether both ends did the same at the last point. -/
def rxHeartbeat (s : State) (act prev : Word) (spareSt : Nat) (rsv : Nat) : State :=
  let chg := act != s.reg Blk.twin TWIN.CFG_TWIN_ACT || prev != s.reg Blk.twin TWIN.CFG_TWIN_PREV
  let s := (s.setReg Blk.twin TWIN.CFG_TWIN_ACT act).setReg Blk.twin TWIN.CFG_TWIN_PREV prev
  let s := if chg then s.raise Blk.twin TWIN.INT_VERSION_CHG else s
  let s := s.modTwin fun t => { t with twinRsv := rsv }
  match s.twin.coordDid with
  | none => s
  | some did =>
    let s := s.modTwin fun t => { t with coordDid := none }
    let theirs := match s.twin.coordAction with
      | 0 => if s.twin.coordVer = 0 then did else act == s.twin.coordVer
      | 1 => spareSt == 5
      | _ => spareSt == 0 || spareSt == 8
    if theirs == did then s else s.coordEnd 6 Why.split

/-- HEALTH_REQ is answered with the 16 newest anchored records (R243). -/
def rxHealthReq (s : State) : State :=
  let rows := (List.range 16).map fun i => match s.log.anchored[i]? with
    | some r => [Codec.ofBytes (r.take 4), Codec.ofBytes ((r.drop 4).take 2), Codec.ofBytes ((r.drop 12).take 4),
        (Config.recordDigest r).toNat]
    | none => [0, 0, 0, 0]
  s.twinSend 0x39 rows.flatten

/-- A HEALTH answer replaces the table (R243). -/
def rxHealth (s : State) (l : List HealthRec) : State :=
  let t := (l.take 16).zipIdx.foldl (fun m e => SMap.put {} m e.2
    { seq := e.1.seq, typ := e.1.typ, time := e.1.time, digest := e.1.digest : HealthEntry }) []
  (s.modTwin fun x => { x with health := t }).raise Blk.twin TWIN.INT_HEALTH_RX

/-- A RELEASE is accepted in PAIRED or ADRIFT (R223). -/
def rxRelease (s : State) : State :=
  if s.pairState = 3 ∨ s.pairState = 4 then (s.twinSend 0x41 []).twinReleased else s

/-- RELEASE_ACK in RELEASING. -/
def rxReleaseAck (s : State) : State := if s.pairState = 5 then s.twinReleased else s

/-- RELEASE is resent until three have gone (R223). -/
def releaseResend (s : State) : State :=
  if !s.twinOn || s.pairState ≠ 5 then s
  else if 3 ≤ s.twin.released then s.twinReleased
  else
    let s := (s.modTwin fun t => { t with released := t.released + 1 }).twinSend 0x40 []
    if 3 ≤ s.twin.released then s.twinReleased else s

/-- The HEALTH words of the selected entry. -/
def healthWord (s : State) (off : Nat) : Word :=
  let e : HealthEntry := SMap.get {} s.twin.health ((s.reg Blk.twin TWIN.HEALTH_IDX).toNat % 16)
  if off = TWIN.HEALTH_SEQ then e.seq
  else if off = TWIN.HEALTH_TYPE then e.typ.setWidth 32
  else if off = TWIN.HEALTH_TIME then e.time
  else if off = TWIN.HEALTH_DIG_LO then e.digest.setWidth 32
  else (e.digest >>> 32).setWidth 32

/-- A write of POS_CTL: RUN starts the handshake for every related port (R228). -/
def posCtl (s : State) (v : Word) : State :=
  let s := s.writeReg Blk.twin TWIN.POS_CTL v
  if TWIN.POS_CTL_RUN.get v = 1 then s.posAll else s

/-- A write of RANGE_CTL (R231). -/
def rangeCtl (s : State) (v : Word) : State :=
  let s := s.writeReg Blk.twin TWIN.RANGE_CTL v
  if TWIN.RANGE_CTL_RUN.get v = 1 then s.rangeRun else s

/-- A write of HEALTH_CTL: REQ sends HEALTH_REQ under the session keys (R243). -/
def healthCtl (s : State) (v : Word) : State :=
  let s := s.writeReg Blk.twin TWIN.HEALTH_CTL v
  if TWIN.HEALTH_CTL_REQ.get v = 1 ∧ s.twinOn ∧ s.pairState = 3 then s.twinSend 0x38 [] else s

/-- The answer of TWIN in the power handshake for a request that includes the given domains (R244). -/
def twinAnswer (s : State) (doms : List Nat) : PwrAnswer :=
  let st := s.spareState
  if (1 ≤ st ∧ st ≤ 4) ∨ (6 ≤ st ∧ st ≤ 8) ∨ s.coordOpen then .refuse 3
  else if s.fb Blk.twin TWIN.SPARE_STAT_SUBST && !s.twin.assigned && doms.contains (Dom.lcd (s.spareLane / 4)) then .refuse 4
  else .accept

end State
end Sys2Proof.Machine
end

