-- ==== Sys2Proof/Machine/ThermOps.lean ====
section
/-! DEFINITION. Operations of the THERM block (spec/13): measurements, bands, the proportional throttle, the critical limit
and the alarm. Temperatures are integers in 1/8 °C, as sQ9.3 codes them. -/

namespace Sys2Proof.Machine
namespace State

/-- A field of THERM. -/
def thf (s : State) (fl : Fld) : Nat := s.f Blk.therm fl

/-- STAT.BAND. -/
def thermBand (s : State) : Nat := s.thf THERM.STAT_BAND

/-- The device is in the critical state. -/
def critical (s : State) : Bool := s.fb Blk.therm THERM.STAT_CRIT

/-- THERM.BLK_CTL.ENABLE (R322). -/
def thermEnabled (s : State) : Bool := s.fb Blk.therm HDR.BLK_CTL_ENABLE

/-- A 12-bit temperature field. -/
def tempOf (s : State) (fl : Fld) : Int := signed 12 (s.thf fl)

/-- +150 °C, which stands for a sensor in fault. -/
def tempFault : Int := 1200

/-! ### Starting a measurement (R323) -/

/-- A start: it takes the mask in force; during a measurement it is ignored and sets MISS. -/
def measStart (s : State) : State :=
  if s.fb Blk.therm THERM.STAT_BUSY then s.flag Blk.therm THERM.STAT_MISS THERM.INT_MISS
  else ({ s with therm := { s.therm with mask := s.thf THERM.SENSOR_MASK_MASK } }).setF Blk.therm THERM.STAT_BUSY 1

/-- A write of MEAS_CTL. -/
def measCtl (s : State) (v : Word) : State :=
  let s := s.writeReg Blk.therm THERM.MEAS_CTL v
  if THERM.MEAS_CTL_MEAS.get v = 1 then s.measStart else s

/-- The periodic timer expires: PERIOD_US = 0 disables it outside PS3 to PS5 and the critical state. -/
def measTimer (s : State) : State :=
  if 3 ≤ s.f Blk.pwr PWR.STAT_STATE ∨ s.critical ∨ s.thf THERM.MEAS_CTL_PERIOD_US ≠ 0 then s.measStart else s

/-! ### Bands (R326, R327) -/

/-- The lower edge of band `j`, 1 to 7. -/
def bandEdge (s : State) (j : Nat) : Int := s.tempOf (THERM.BT_EDGE (j - 1))

/-- The highest band whose lower edge, moved down by `h`, is at or below `t`. -/
def bandAt (s : State) (t h : Int) : Nat :=
  (List.range 7).foldl (fun b i => if s.bandEdge (i + 1) - h ≤ t then i + 1 else b) 0

/-- The candidate band of a measurement. -/
def bandCandidate (s : State) (t : Int) : Nat :=
  let b := s.thermBand
  let h : Int := 8 * s.thf THERM.BAND_CTL_HYST
  let up := s.bandAt t 0
  if b < up then up else if b ≠ 0 ∧ t < s.bandEdge b - h then s.bandAt t h else b

/-- The band changes: BAND_CHG, and the line lanes take their pre-distortion set (R101, R327). -/
def setBand (s : State) (b : Nat) : State :=
  if s.thermBand = b then s
  else
    let s := (s.setF Blk.therm THERM.STAT_BAND b).raise Blk.therm THERM.INT_BAND_CHG
    ((List.range 17).foldl (fun s n => s.pdBand n b) s).avsUpdate

/-- The candidate under count. -/
def setCand (s : State) (c : Option (Nat × Nat)) : State :=
  ({ s with therm := { s.therm with cand := c } }).setB Blk.therm THERM.STAT_DWELLING c.isSome

/-- The band evaluation of a measurement (R326, R327). -/
def bandEval (s : State) (t : Int) : State :=
  let c := s.bandCandidate t
  if c = s.thermBand then s.setCand none
  else
    let n := match s.therm.cand with
      | some (c', n) => if c' = c then n + 1 else 1
      | none => 1
    if max 1 (s.thf THERM.BAND_CTL_DWELL) ≤ n ∧ !s.fb Blk.therm THERM.BAND_CTL_FORCE_EN then (s.setCand none).setBand c
    else s.setCand (some (c, n))

/-- A write of BAND_CTL: forcing sets the band at once (R327). -/
def bandCtl (s : State) (v : Word) : State :=
  let s := s.writeReg Blk.therm THERM.BAND_CTL v
  if s.fb Blk.therm THERM.BAND_CTL_FORCE_EN then s.setBand (s.thf THERM.BAND_CTL_FORCE_BAND) else s

/-- A write of BTj: ignored when the edges would not ascend strictly (R326). -/
def edgeWrite (s : State) (off : Nat) (v : Word) : State :=
  let t := s.writeReg Blk.therm off v
  if (List.range 6).all fun i => decide (t.bandEdge (i + 1) < t.bandEdge (i + 2)) then t
  else s.flag Blk.therm THERM.STAT_CFG_REFUSED THERM.INT_CFG_REFUSED

/-! ### Throttle (R328 to R330) -/

/-- L of R328. -/
def thermL (s : State) : Nat :=
  if !s.domReady Dom.pmap then 0
  else
    let ls := (List.range 17).filter fun n => s.terminated n && s.blkOn (Blk.llane n) && s.fb (Blk.llane n) LLANE.RX_CTL_RX_EN
    if ls.isEmpty then 0
    else 8 - (ls.map fun n => max 2 (min 8 (s.uf Blk.fec (FEC.LANE_CTL_ITER_FLOOR n)))).foldl min 8

/-- T of R328 for a mean in sQ10.6. -/
def thermT (s : State) (avg : Int) : Nat :=
  if !s.thermEnabled then 0
  else min 31 ((max 0 (avg - 8 * s.tempOf THERM.THR_CTL_START) * s.thf THERM.THR_CTL_GAIN) / 1024).toNat

/-- The stages RED, D, SHARE and KDIV of T and L, at their maxima in the critical state. -/
def thermStages (crit : Bool) (t l : Nat) : Nat × Nat × Nat × Nat :=
  if crit then (6, 12, 8, 3) else (min 6 t, min 12 (t - l), min 8 (t - l - 12), min 3 (t - l - 20))

/-- RED and D reach their consumers: FEC.THR_STAT while PD_PMAP is up, LE_STAT.DUTY of the engines with a domain. -/
def thermDeliver (s : State) : State :=
  let s := if s.domReady Dom.pmap then s.setF Blk.fec FEC.THR_STAT_RED (s.thf THERM.THR_STAT_RED) else s
  (List.range 21).foldl (fun s e =>
    if s.domReady (engDomain e) then s.setEf e ENG.LE_STAT_DUTY (s.thf THERM.THR_STAT_D) else s) s

/-- T and L are published with their stages; THROTTLE is raised when T leaves 0. -/
def throttle (s : State) (t l : Nat) : State :=
  let g := thermStages s.critical t l
  let rise := s.thf THERM.THR_STAT_T = 0 ∧ t ≠ 0
  let s := ((s.setF Blk.therm THERM.THR_STAT_T t).setF Blk.therm THERM.THR_STAT_L l).setF Blk.therm THERM.THR_STAT_RED g.1
  let s := ((s.setF Blk.therm THERM.THR_STAT_D g.2.1).setF Blk.therm THERM.THR_STAT_SHARE g.2.2.1).setF Blk.therm
    THERM.THR_STAT_KDIV g.2.2.2
  let s := s.thermDeliver
  if rise then s.raise Blk.therm THERM.INT_THROTTLE else s

/-- The write of THERM.BLK_CTL has changed ENABLE (R322). -/
def thermEnable (s : State) (was : Bool) : State :=
  if s.thermEnabled = was then s
  else if was then s.throttle 0 (s.thf THERM.THR_STAT_L)
  else s.setCand none

/-! ### Critical limit and alarm (R330, R331) -/

/-- The critical limit: entered at 125 °C, left after 16 measurements below 115 °C. -/
def critEval (s : State) (t : Int) : State :=
  if !s.critical then
    if 1000 ≤ t then
      let s := ({ s with therm := { s.therm with cool := 0 } }).setF Blk.therm THERM.STAT_CRIT 1
      let s := (s.setF Blk.therm THERM.STAT_CRIT_SEEN 1).raise Blk.therm THERM.INT_CRIT
      (s.logRecord { typ := 0x0050, src := Blk.therm, anch := true
                     payload := logPayload [s.thf THERM.TMAX_MAX, s.thf THERM.TMAX_SENSOR] }).squelchAll
    else s
  else
    let n := if t < 920 then s.therm.cool + 1 else 0
    if 16 ≤ n then
      (((({ s with therm := { s.therm with cool := 0 } }).setF Blk.therm THERM.STAT_CRIT 0).raise Blk.therm
        THERM.INT_CRIT_CLR).squelchAll).portsEval
    else { s with therm := { s.therm with cool := n } }

/-- The alarm: raised on each change from below to above the threshold, and a wake source in PS1 to PS5. -/
def alarmEval (s : State) (t : Int) : State :=
  let now := decide (s.tempOf THERM.ALARM_THR ≤ t)
  let was := s.therm.above
  let s := { s with therm := { s.therm with above := now } }
  if now && !was && s.fb Blk.therm THERM.ALARM_WAKE_EN then (s.raise Blk.therm THERM.INT_ALARM).wakeUp 8 else s

/-! ### The end of a measurement (R324, R325) -/

/-- A reading in range: -60 to +180 °C. -/
def readingOk (r : Int) : Bool := decide (-480 ≤ r) && decide (r ≤ 1440)

/-- What sensor `i` delivered, substituted when in fault: the temperature and the fault. -/
def sensorRead (l : List (Option Int)) (i : Nat) : Int × Bool :=
  match l[i]? with
  | some (some r) => if readingOk r then (r, false) else (tempFault, true)
  | _ => (tempFault, true)

/-- The maximum over the unmasked sensors and the lowest-numbered sensor that gives it; +150 °C and 31 when all are masked. -/
def sensorMax (l : List (Option Int)) (mask : Nat) : Int × Nat :=
  match (List.range 24).filter fun i => !mask.testBit i with
  | [] => (tempFault, 31)
  | i :: t => t.foldl (fun m j => if m.1 < (sensorRead l j).1 then ((sensorRead l j).1, j) else m) ((sensorRead l i).1, i)

/-- ANY_FAULT follows FAULT_MAP. -/
def faultShow (s : State) : State := s.setB Blk.therm THERM.STAT_ANY_FAULT (s.thf THERM.FAULT_MAP_FAULT != 0)

/-- A measurement completes with the sensors' readings (none: no result in time). -/
def measDone (s : State) (l : List (Option Int)) : State :=
  if !s.fb Blk.therm THERM.STAT_BUSY then s
  else
    let s := s.setF Blk.therm THERM.STAT_BUSY 0
    let bad := (List.range 24).filter fun i => (sensorRead l i).2
    let t := { s.therm with
      reading := (List.range 24).foldl (fun m i => SMap.put 0 m i (sensorRead l i).1) []
      fault := bad.map fun i => (i, true) }
    let s := { s with therm := t }
    let s := match bad.head? with
      | none => s
      | some i =>
        let map := bad.foldl (fun m i => m ||| 2 ^ i) (s.thf THERM.FAULT_MAP_FAULT)
        ((s.setF Blk.therm THERM.FAULT_MAP_FAULT map).setF Blk.therm THERM.STAT_SENSOR_FAULT i).raise Blk.therm
          THERM.INT_SENSOR_FAULT
    let s := s.faultShow
    let m := sensorMax l s.therm.mask
    let s := (s.setF Blk.therm THERM.TMAX_MAX (unsignedOf 12 m.1)).setF Blk.therm THERM.TMAX_SENSOR m.2
    let ms := (m.1 :: s.therm.maxima).take 8
    let avg := roundDiv (8 * ms.sum) ms.length
    let s := ({ s with therm := { s.therm with maxima := ms } }).setF Blk.therm THERM.TAVG_AVG (unsignedOf 16 avg)
    let s := if s.thermEnabled then s.bandEval m.1 else s
    ((s.critEval m.1).throttle (s.thermT avg) s.thermL).alarmEval m.1

/-- SENS_DATA as read. -/
def sensData (s : State) : Word :=
  let i := s.thf THERM.SENS_IDX_SENSOR
  if 24 ≤ i then 0
  else BitVec.ofNat 32 (unsignedOf 12 (SMap.get 0 s.therm.reading i)
    + (SMap.get false s.therm.fault i).toNat * 2 ^ 16 + ((s.thf THERM.SENSOR_MASK_MASK).testBit i).toNat * 2 ^ 17)

/-- A write of a THERM register. -/
def thermWrite (s : State) (off : Nat) (v : Word) : State :=
  if off = THERM.MEAS_CTL then s.measCtl v
  else if off = THERM.BAND_CTL then s.bandCtl v
  else if off = THERM.FAULT_MAP then (s.writeReg Blk.therm off v).faultShow
  else if THERM.BT 0 ≤ off ∧ off ≤ THERM.BT 6 then s.edgeWrite off v
  else s.writeReg Blk.therm off v

/-- What a soft reset of THERM leaves of its hidden state (R330): the critical state and its count. -/
def thermSoft (s : State) : State :=
  ({ s with therm := { cool := s.therm.cool, mask := s.therm.mask } }).throttle 0 s.thermL

end State
end Sys2Proof.Machine
end

