-- ==== Sys2Proof/Machine/MemOps.lean ====
section
/-! DEFINITION. Operations of the memories (spec/14): upsets, invalidates, seals, repairs, scrubbers and golden reloads of
the on-chip SRAM, and the DDR4 channel with its seals, page-valid bitmap and parity. -/

namespace Sys2Proof.Machine
namespace State

/-! ### On-chip SRAM -/

/-- PD_FAB is up. -/
def fabOn (s : State) : Bool := s.domReady Dom.fab

/-- CFG_REFUSED of MEM. -/
def memRefused (s : State) : State := s.setF Blk.mem MEM.STAT_CFG_REFUSED 1

/-- Upsets invert stored bits of the bytes of valid words. -/
def sramUpset (s : State) (l : List Flip) : State :=
  l.foldl (fun s x =>
    if SMap.get false s.sram.valid (x.addr / 4) then
      s.setSram { s.sram with flips := SMap.put 0 s.sram.flips x.addr (SMap.get 0 s.sram.flips x.addr ^^^ x.mask) }
    else s) s

/-- Byte address `a` lies in region `r`. -/
def inRegion (r a : Nat) : Bool := match sramRegion a with
  | some (i, _) => i == r
  | none => false

/-- Words of the addresses that `p` selects lose contents, valid and poison bits, and seals (R337). -/
def sramForget (s : State) (p : Nat → Bool) : State :=
  s.setSram { s.sram with
    bytes := SMap.drop p s.sram.bytes
    flips := SMap.drop p s.sram.flips
    valid := SMap.drop (fun w => p (4 * w)) s.sram.valid
    poison := SMap.drop (fun w => p (4 * w)) s.sram.poison
    sealed := SMap.drop (fun g => p (1024 * g)) s.sram.sealed
    sealJob := s.sram.sealJob.filter fun g => !p (1024 * g)
    gold := s.sram.gold.filter fun g => !p (1024 * g) }

/-- GOLD_STAT.PENDING follows the list of waiting pages. -/
def goldShow (s : State) : State := s.setB Blk.mem MEM.GOLD_STAT_PENDING (!s.sram.gold.isEmpty)

/-- A write of INVAL_CTL (R337, R356). -/
def memInval (s : State) (v : Word) : State :=
  if MEM.INVAL_CTL_GO.get v = 0 then s
  else
    let s := if MEM.INVAL_CTL_REGION.get v = 3 then s.logFree else s
    ((s.sramForget (inRegion (MEM.INVAL_CTL_REGION.get v))).goldShow).setF Blk.mem MEM.STAT_INVAL_BUSY 1

/-- The invalidate completes. -/
def memInvalDone (s : State) : State := s.setF Blk.mem MEM.STAT_INVAL_BUSY 0

/-- A write of MEM.SEAL_CTL (R339): from the Keeper, or from others at debug level OPEN. -/
def memSeal (s : State) (q : Requester) (v : Word) : State :=
  let pg := MEM.SEAL_CTL_PAGE.get v
  let n := max 1 (MEM.SEAL_CTL_COUNT.get v)
  if !s.ucAllowed q || decide (8192 < pg + n) then s.memRefused
  else
    let job := (List.range n).map fun i => 0x2400000 / 1024 + pg + i
    let s := s.setSram { s.sram with sealJob := s.sram.sealJob ++ job, sealCount := n }
    (s.setF Blk.mem MEM.SEAL_STAT_BUSY 1).setF Blk.mem MEM.SEAL_STAT_DONE 0

/-- Sealing completes. -/
def memSealDone (s : State) : State :=
  if !s.fb Blk.mem MEM.SEAL_STAT_BUSY then s
  else
    let job := s.sram.sealJob
    let s := s.setSram { s.sram with sealed := job.foldl (fun m g => SMap.put false m g true) s.sram.sealed, sealJob := [] }
    (s.setF Blk.mem MEM.SEAL_STAT_BUSY 0).setF Blk.mem MEM.SEAL_STAT_DONE (min job.length s.sram.sealCount)

/-- Spare rows and columns in use of macro `m`; the fuses of an unrepaired part record none. -/
def repUsed (s : State) (m : Nat) : Nat × Nat := SMap.get (0, 0) s.sram.rep m

/-- Macro `m` holds the BAR2 offsets of its 64 KiB; every word of it is invalid. -/
def macroEmpty (s : State) (m : Nat) : Bool := !s.sram.valid.any fun e => e.1 / 16384 == m

/-- A write of REP_DATA (R340). -/
def memRepair (s : State) (v : Word) : State :=
  let s := s.writeReg Blk.mem MEM.REP_DATA v
  if MEM.REP_DATA_APPLY.get v = 0 then s
  else
    let m := s.f Blk.mem MEM.REP_IDX_MACRO
    let u := s.repUsed m
    let col := MEM.REP_DATA_COL.get v = 1
    if !(sramRegion (65536 * m)).isSome || !s.macroEmpty m || decide (2 ≤ (if col then u.2 else u.1)) then s.memRefused
    else s.setSram { s.sram with rep := SMap.put (0, 0) s.sram.rep m (if col then (u.1, u.2 + 1) else (u.1 + 1, u.2)) }

/-- REP_DATA as read: the repairs of the macro REP_IDX names. -/
def repWord (s : State) : Word :=
  let u := s.repUsed (s.f Blk.mem MEM.REP_IDX_MACRO)
  MEM.REP_DATA_COLS_USED.put (MEM.REP_DATA_ROWS_USED.put (s.reg Blk.mem MEM.REP_DATA) u.1) u.2

/-! ### The SRAM scrubber (R349, R350, R352) -/

/-- The segments a lap visits, in region order: base, lines, domain. -/
def scrubSegs : List (Nat × Nat × Nat) :=
  [(0, 0x100000, Dom.fab), (0x2000000, 0x20000, Dom.kpr), (0x2400000, 0x40000, Dom.fab), (0x2C00000, 0x8000, Dom.fab),
   (0x2D00000, 0x8000, Dom.fab), (0x2E00000, 0x8000, Dom.fab)]
  ++ ((List.range 21).map fun e => (0x2F00000 + e * 0x10000, 0x200, engDomain e))
  ++ ((List.range 21).map fun e => (0x2F00000 + e * 0x10000 + 0x8000, 0x400, engDomain e))

/-- The powered segments of a lap, with their indices. -/
def scrubPowered (s : State) : List ((Nat × Nat × Nat) × Nat) := scrubSegs.zipIdx.filter fun x => s.domReady x.1.2.2

/-- The position where the scrubber reads next: the segment it stands in, or the next powered one. -/
def scrubHere (s : State) : Option ((Nat × Nat × Nat) × Nat × Nat) :=
  match s.scrubPowered.find? fun x => s.sram.scrubSeg ≤ x.2 with
  | some (g, i) => some (g, i, if i = s.sram.scrubSeg then s.sram.scrubLine else 0)
  | none => none

/-- Event time in ns. -/
def evtNs (s : State) : Nat := s.evtTime.sec * 1000000000 + s.evtTime.ns

/-- The scrubber's report of its position: progress in 2^-16 of a lap, and the lap's duration when it ends. -/
def scrubReport (s : State) (seg line : Nat) (ended : Bool) : State :=
  let segs := s.scrubPowered
  let total := (segs.map fun x => x.1.2.1).sum
  let done := ((segs.filter fun x => x.2 < seg).map fun x => x.1.2.1).sum + line
  let s := s.setSram { s.sram with scrubSeg := seg, scrubLine := line }
  let s := s.setF Blk.mem MEM.SCRUB_POS_POS (if ended ∨ total = 0 then 0 else done * 65536 / total)
  if ended then
    let ms := (s.evtNs - s.sram.lapStart) / 1000000
    (s.setSram { s.sram with lapStart := s.evtNs }).setF Blk.mem MEM.SCRUB_LAP_MS (min ms (2 ^ 24 - 1))
  else s

/-- Corrected bytes of word `w` are written back. -/
def sramWriteBack (s : State) (w : Nat) : State :=
  s.setSram { s.sram with flips := s.sram.flips.filter fun e =>
    !(e.1 / 4 == w && (match s.sramByte e.1 with
      | .corrected d => d == (SMap.get 0 s.sram.bytes e.1).toNat
      | _ => false)) }

/-- The scrubber reads one word: corrected bytes are written back, an uncorrectable word not yet poisoned is reported. -/
def scrubWord (s : State) (w : Nat) : State :=
  if SMap.get false s.sram.poison w then s else (s.sramRead w 6).2.sramWriteBack w

/-- At the last line of a sealed page its syndrome is checked, and the page corrected (R349). -/
def scrubPage (s : State) (g : Nat) : State :=
  let bad := s.sram.flips.any fun e => e.1 / 1024 == g && (match s.sramByte e.1 with
    | .corrected d | .clean d => d != (SMap.get 0 s.sram.bytes e.1).toNat
    | .flagged => true)
  if SMap.get false s.sram.sealed g && bad && s.pageDecodes g then
    ((s.pageRepair g).memCount MEM.PCE_CNT 2 1).perf 12 1 1
  else s

/-- One line of the SRAM scrubber, with the upsets that have struck it. -/
def sramScrub (s : State) (l : List Flip) : State :=
  if !s.fabOn || !s.fb Blk.mem MEM.SCRUB_CTL_EN || decide (2 ≤ s.f Blk.pwr PWR.STAT_STATE) then s
  else match s.scrubHere with
  | none => s
  | some ((base, lines, _), i, line) =>
    let a := base + 32 * line
    let s := s.sramUpset (l.filter fun x => x.addr / 32 == a / 32)
    let s := (List.range 8).foldl (fun s k => s.scrubWord (a / 4 + k)) s
    let s := if (a + 32) % 1024 = 0 then s.scrubPage (a / 1024) else s
    if line + 1 < lines then s.scrubReport i (line + 1) false
    else match s.scrubPowered.find? fun x => i < x.2 with
    | some (_, j) => s.scrubReport j 0 false
    | none => s.scrubReport 0 0 true

/-! ### Golden copies (R354) -/

/-- The scheduler entry GOLD_CTL names has fired: waiting pages may be reloaded. -/
def goldFire (s : State) (k : Nat) : State :=
  if s.fb Blk.mem MEM.GOLD_CTL_SE_EN && s.f Blk.mem MEM.GOLD_CTL_SE == k && !s.sram.gold.isEmpty then
    s.setSram { s.sram with goldDue := true }
  else s

/-- The bytes of page `g` as a read gives them; none when a word of it is uncorrectable or poisoned. -/
def pageBytes (s : State) (g : Nat) : Option (List Byte) :=
  let words := (List.range 256).map fun i => 256 * g + i
  if words.any fun w => SMap.get false s.sram.poison w || ((s.sramWordRaw w).flagged && !s.pageDecodes g) then none
  else some ((words.map fun w => Codec.leBytes 4 (if (s.sramWordRaw w).flagged then
    Codec.ofBytes ((List.range 4).map fun i => SMap.get 0 s.sram.bytes (4 * w + i)) else (s.sramWordRaw w).data)).flatten)

/-- The golden copy of a microcode page: engine e, bank b at + (2e + b) * 0x2000 of the golden store (R334). -/
def goldPageOf (g : Nat) : Nat :=
  let o := 1024 * g - 0x2F00000
  let e := o / 0x10000
  let b := o % 0x10000 / 0x2000
  (0x2400000 + (2 * e + b) * 0x2000 + o % 0x2000) / 1024

/-- The engine of a microcode page whose bank in use holds it, faulted with MEM_UE, restarts when AUTO_RESTART = 1 (R173). -/
def goldRestart (s : State) (g : Nat) : State :=
  let o := 1024 * g - 0x2F00000
  let e := o / 0x10000
  if s.ef e ENG.LE_STAT_FAULT = 5 ∧ s.efb e ENG.LE_CTL_AUTO_RESTART
      ∧ s.ef e ENG.LE_STAT_BANK_IN_USE = o % 0x10000 / 0x2000 then
    (s.setEf e ENG.LE_CTL_RUN 1).engStart e
  else s

/-- The oldest waiting page is replaced by its golden copy: the microcode copy from the golden store, a golden-store page
from flash (`flash`: the page the Keeper delivers, none when its signature fails). -/
def goldReload (s : State) (flash : Option (List Byte)) : State :=
  match s.sram.gold with
  | [] => s
  | g :: rest =>
    let micro := inRegion 6 (1024 * g)
    let ready := s.fabOn && (!s.fb Blk.mem MEM.GOLD_CTL_SE_EN || s.sram.goldDue)
      && (match sramDomain (1024 * g) with
        | some d => s.domReady d
        | none => false)
    if !ready then s
    else
      let data := if micro then s.pageBytes (goldPageOf g) else flash
      let s := (s.setSram { s.sram with gold := rest, goldDue := s.sram.goldDue && !rest.isEmpty }).goldShow
      match data with
      | none => s.flag Blk.mem MEM.GOLD_STAT_LOST MEM.INT_GOLD_LOST
      | some d =>
        let s := s.sramPoke (1024 * g) ((d ++ List.replicate 1024 0).take 1024)
        let s := (s.setSram { s.sram with sealed := SMap.put false s.sram.sealed g true }).raise Blk.mem MEM.INT_GOLD_DONE
        if micro then s.goldRestart g else s

/-! ### Host access to BAR2 (R334, R335) -/

/-- A denied access (R335). -/
def memDenied (s : State) (off : Nat) : State :=
  (s.setF Blk.mem MEM.DENY_ADDR_OFFSET off).flag Blk.mem MEM.STAT_DENIED MEM.INT_DENIED

/-- Requester `q` may read or write at BAR2 offset `off` (R334, R414). -/
def bar2Allows (s : State) (q : Requester) (off : Nat) (write : Bool) : Bool :=
  let lvl := s.f Blk.dbg DBG.STAT_LEVEL
  if q = .keeper then (sramRegion off).isSome
  else
    let level := if write then lvl == 2 else lvl != 0
    match sramRegion off with
    | none => false
    | some (r, e) =>
      (q != .debug || level) && (match r with
      | 0 | 5 => true
      | 3 | 4 => !write
      | 6 => level && (!write || (let b := off % 0x10000 / 0x2000; !s.bankInUse e b && !s.bankNamed e b))
      | _ => level)

/-- A write to a microcode bank clears its VALID bit (R164). -/
def bar2Microcode (s : State) (off : Nat) : State :=
  match sramRegion off with
  | some (6, e) => s.setEf e (bankFields (off % 0x10000 / 0x2000)).1 0
  | _ => s

/-! ### DDR4 (R341 to R349) -/

/-- A field of DDR. -/
def ddrf (s : State) (fl : Fld) : Nat := s.f Blk.ddr fl

/-- Changes the hidden state of the channel. -/
def modDdr (s : State) (g : DdrState → DdrState) : State := { s with ddr := g s.ddr }

/-- Installed size in GiB of a CFG word (R341); 0 for a combination the table does not list. -/
def ddrSize (cfg : Word) : Nat :=
  let n := 4 * 2 ^ (DDR.CFG_RANKS.get cfg + DDR.CFG_WIDTH.get cfg + DDR.CFG_DENSITY.get cfg)
  if n ≤ 16 then n else 0

/-- The data area in bytes: fifteen sixteenths of the installed size (R342). -/
def ddrData (s : State) : Nat := s.ddrf DDR.CFG_SIZE_GIB * 2 ^ 26 * 15

/-- The channel serves accesses. -/
def ddrServes (s : State) : Bool :=
  s.domReady Dom.ddr && s.fb Blk.ddr DDR.STAT_TRAINED && !s.fb Blk.ddr DDR.STAT_SELF_REFRESH

/-- A write of CFG (R341): SIZE_GIB follows the organisation, and INIT starts training while TRAINED = 0. -/
def ddrCfg (s : State) (v : Word) : State :=
  let s := s.writeReg Blk.ddr DDR.CFG v
  let s := s.setF Blk.ddr DDR.CFG_SIZE_GIB (ddrSize (s.reg Blk.ddr DDR.CFG))
  if DDR.CFG_INIT.get v = 1 ∧ !s.fb Blk.ddr DDR.STAT_TRAINED then s.modDdr fun d => { d with training := true } else s

/-- Training ends (R341); an organisation the table does not list cannot train. -/
def ddrTrained (s : State) (ok : Bool) : State :=
  if !s.domReady Dom.ddr || !s.ddr.training then s
  else
    let s := s.modDdr fun d => { d with training := false }
    if ok && s.ddrf DDR.CFG_SIZE_GIB != 0 then s.setF Blk.ddr DDR.STAT_TRAINED 1 else s.raise Blk.ddr DDR.INT_TRAIN_FAIL

/-- Counts in a DDR counter with its bit of STAT.WRAPPED. -/
def ddrCount (s : State) (off bit n : Nat) : State :=
  let r := s.count32 Blk.ddr off n
  if r.2 then
    (r.1.setF Blk.ddr DDR.STAT_WRAPPED (r.1.ddrf DDR.STAT_WRAPPED ||| 2 ^ bit)).raise Blk.ddr DDR.INT_WRAPPED
  else r.1

/-- Page `p` lies in an enabled region with SEAL = 1 (R345), as the block uses the regions (R50). -/
def ddrSealable (s : State) (p : Nat) : Bool :=
  (List.range 8).any fun n =>
    let base := s.uf Blk.ddr (DDR.RGN_BASE_BASE n)
    s.uf Blk.ddr (DDR.RGN_SIZE_SEAL n) == 1 && decide (base ≤ p) && decide (p < base + s.uf Blk.ddr (DDR.RGN_SIZE_SIZE n))

/-- Region pair of R345 among the region words `base` and `size`: inside the data area, overlapping no other enabled region. -/
def ddrRgnOk (s : State) (base size : Nat → Word) (n : Nat) : Bool :=
  let b := fun i => (DDR.RGN_BASE_BASE 0).get (base i)
  let z := fun i => (DDR.RGN_SIZE_SIZE 0).get (size i)
  z n == 0 || (decide (4096 * (b n + z n) ≤ s.ddrData) && (List.range 8).all fun i =>
    i == n || z i == 0 || decide (b i + z i ≤ b n) || decide (b n + z n ≤ b i))

/-- Seals page `p` (R344, R345). -/
def ddrSealPage (s : State) (p : Nat) : State :=
  s.modDdr fun d => { d with sealed := SMap.put false d.sealed p true, seals := SMap.put 0 d.seals p (SMap.get 0 d.seals p + 1) }

/-- A write of DDR.SEAL_CTL (R345): CFG_REFUSED is bit 6 of STAT. -/
def ddrSeal (s : State) (v : Word) : State :=
  let p := DDR.SEAL_CTL_PAGE.get v
  if s.ddrServes && s.ddrSealable p && decide (4096 * p < s.ddrData) then s.ddrSealPage p
  else s.setReg Blk.ddr DDR.STAT (s.reg Blk.ddr DDR.STAT ||| 0x40)

/-- Pages that `p` selects become invalid: their bits, contents, poison and seals go (R346). -/
def ddrForget (s : State) (p : Nat → Bool) : State :=
  s.modDdr fun d => { d with
    bytes := SMap.drop (fun a => p (a / 4096)) d.bytes
    flips := SMap.drop (fun a => p (a / 4096)) d.flips
    pv := SMap.drop p d.pv
    poison := SMap.drop (fun g => p (g / 64)) d.poison
    sealed := SMap.drop p d.sealed }

/-- A write of PV_CTL (R346). -/
def ddrPv (s : State) (v : Word) : State :=
  if DDR.PV_CTL_GO.get v = 0 then s
  else
    let n := DDR.PV_CTL_REGION.get v
    let b := s.uf Blk.ddr (DDR.RGN_BASE_BASE n)
    let z := s.uf Blk.ddr (DDR.RGN_SIZE_SIZE n)
    (s.ddrForget fun p => decide (b ≤ p) && decide (p < b + z)).setF Blk.ddr DDR.STAT_PV_BUSY 1

/-- The bitmap clear completes. -/
def ddrPvDone (s : State) : State := if s.domReady Dom.ddr then s.setF Blk.ddr DDR.STAT_PV_BUSY 0 else s

/-- The refresh interval expires (R347): a refresh is issued, and REF and PHY follow the current band. REF 3 acts as 2. -/
def ddrRefresh (s : State) : State :=
  if !s.ddrServes then s
  else
    let b := s.f Blk.therm THERM.STAT_BAND
    let s := s.setF Blk.ddr DDR.BAND_STAT_REF (min 2 (s.f Blk.therm (THERM.BAND_CFG_REF b)))
    (s.setF Blk.ddr DDR.BAND_STAT_PHY (s.f Blk.therm (THERM.BAND_CFG_PHY b))).send (.ddr 0) |>.perf 12 4 1

/-- The re-centring interval expires (R347). -/
def ddrRecentre (s : State) : State := if s.ddrServes then s.send (.ddr 1) else s

/-! ### DDR4 data (R343 to R346, R351 to R353) -/

/-- Page `p` is valid. -/
def ddrValid (s : State) (p : Nat) : Bool := SMap.get false s.ddr.pv p

/-- The byte at `a` fails parity: an odd number of its nine bits are inverted. -/
def ddrFails (s : State) (a : Nat) : Bool := popCount 9 (SMap.get 0 s.ddr.flips a).toNat % 2 == 1

/-- The byte at `a` as stored. -/
def ddrByte (s : State) (a : Nat) : Byte := SMap.get 0 s.ddr.bytes a ^^^ (SMap.get 0 s.ddr.flips a).setWidth 8

/-- Granule `g` is poisoned: its mark, or a beat in which every byte fails parity. -/
def ddrPoisoned (s : State) (g : Nat) : Bool :=
  SMap.get false s.ddr.poison g || (List.range 8).any fun b => (List.range 8).all fun i => s.ddrFails (64 * g + 8 * b + i)

/-- The bytes of granule `g` that fail parity. -/
def ddrBad (s : State) (g : Nat) : List Nat := ((s.ddr.flips.map (·.1)).filter fun a => a / 64 == g && s.ddrFails a)

/-- Page `p` decodes (R344): in each of the four codewords e errors and f erasures with 2e + f at most 26. -/
def ddrDecodes (s : State) (p : Nat) : Bool :=
  let hit := (s.ddr.flips.filter fun x => x.1 / 4096 == p)
  let erased := (hit.flatMap fun x =>
    if s.ddrFails x.1 then [x.1 % 4096 * 8 / 10, (x.1 % 4096 * 8 + 7) / 10] else []).eraseDups
  let wrong := ((hit.flatMap fun x =>
    if s.ddrFails x.1 then []
    else (List.range 8).filterMap fun i => if x.2.getLsbD i then some ((x.1 % 4096 * 8 + i) / 10) else none).eraseDups).filter
      fun y => !erased.contains y
  (List.range 4).all fun c =>
    decide (2 * (wrong.filter fun y => y % 4 == c).length + (erased.filter fun y => y % 4 == c).length ≤ 26)

/-- Upsets invert stored bits of the bytes of valid pages; bit 8 of a mask is the parity bit. -/
def ddrUpset (s : State) (l : List Flip) : State :=
  l.foldl (fun s x =>
    if s.ddrValid (x.addr / 4096) then
      s.modDdr fun d => { d with flips := SMap.put 0 d.flips x.addr (SMap.get 0 d.flips x.addr ^^^ x.mask.setWidth 9) }
    else s) s

/-- The corrected page is written back (R345). -/
def ddrRepair (s : State) (p : Nat) : State :=
  (((s.modDdr fun d => { d with flips := SMap.drop (fun a => a / 4096 == p) d.flips }).ddrCount DDR.COR_CNT 1 1).perf
    12 3 1).raise Blk.ddr
    DDR.INT_PAGE_COR

/-- Reports an uncorrectable or poisoned granule to requester `src` (R351, R352). -/
def ddrUe (s : State) (g src : Nat) : State :=
  let p := g / 64
  let bad := g :: (if SMap.get false s.ddr.sealed p then
    ((s.ddr.flips.filter fun x => x.1 / 4096 == p && s.ddrFails x.1).map fun x => x.1 / 64).eraseDups else [])
  let s := s.modDdr fun d => { d with poison := bad.foldl (fun m x => SMap.put false m x true) d.poison }
  let s := s.ddrCount DDR.UE_CNT 2 1
  let s := (s.setReg Blk.ddr DDR.UE_ADDR_LO (BitVec.ofNat 32 (64 * g))).setF Blk.ddr DDR.UE_ADDR_HI_OFFSET (64 * g / 2 ^ 32)
  let s := s.logRecord { typ := 0x0012, src := Blk.ddr, anch := true, payload := logPayload [src, 64 * g, 64 * g / 2 ^ 32] }
  s.raise Blk.ddr DDR.INT_DDR_UE

/-- A read of granule `g` by requester `src`: parity, page decode and error report; answers whether the data is good. -/
def ddrReadGranule (s : State) (g src : Nat) : Bool × State :=
  let p := g / 64
  if !s.ddrValid p then (true, s)
  else
    let s := s.perf 12 5 1
    if s.ddrPoisoned g then (false, s.ddrUe g src) else
    let bad := s.ddrBad g
    if bad.isEmpty then (true, s)
    else
      let s := (s.ddrCount DDR.PAR_CNT 0 bad.length).perf 12 2 bad.length
      if SMap.get false s.ddr.sealed p && s.ddrDecodes p then (true, s.ddrRepair p) else (false, s.ddrUe g src)

/-- The granules that `len` bytes at `a` touch. -/
def granules (a len : Nat) : List Nat :=
  if len = 0 then [] else (List.range ((a + len - 1) / 64 - a / 64 + 1)).map (a / 64 + ·)

/-- A read of bytes: whether every granule was good, the bytes, and the state after. -/
def ddrRead (s : State) (a len src : Nat) : Bool × List Byte × State :=
  let r := (granules a len).foldl (fun (r : Bool × State) g =>
    let x := r.2.ddrReadGranule g src
    (r.1 && x.1, x.2)) (true, s)
  (r.1, (List.range len).map fun i => if r.2.ddrValid ((a + i) / 4096) then r.2.ddrByte (a + i) else 0, r.2)

/-- The first write to an invalid page zero-fills it and sets its bit (R346). -/
def ddrTouch (s : State) (p : Nat) : State :=
  if s.ddrValid p then s else (s.ddrForget (· == p)).modDdr fun d => { d with pv := SMap.put false d.pv p true }

/-- A write to a sealed page unseals it and is counted (R345). -/
def ddrUnseal (s : State) (p : Nat) : State :=
  if SMap.get false s.ddr.sealed p then
    ((s.modDdr fun d => { d with sealed := SMap.erase d.sealed p }).ddrCount DDR.UNSEAL_CNT 3 1).raise Blk.ddr DDR.INT_UNSEAL
  else s

/-- A write of bytes; `final`: whole pages of it are written in one sequence that seals them (R345). -/
def ddrWrite (s : State) (a : Nat) (data : List Byte) (final : Bool) : State :=
  if data.isEmpty then s
  else
    let n := data.length
    let pages := (List.range ((a + n - 1) / 4096 - a / 4096 + 1)).map (a / 4096 + ·)
    let whole := fun p => decide (a ≤ 4096 * p) && decide (4096 * p + 4096 ≤ a + n)
    let seals := fun p => final && whole p && s.ddrSealable p
    let s := s.perf 12 6 (granules a n).length
    let s := pages.foldl (fun s p => if seals p then s.ddrTouch p else (s.ddrTouch p).ddrUnseal p) s
    let s := s.modDdr fun d =>
      let m := data.zipIdx.foldl (fun (m : SMap Byte × SMap (BitVec 9)) (x : Byte × Nat) =>
        (SMap.put 0 m.1 (a + x.2) x.1, SMap.erase m.2 (a + x.2))) (d.bytes, d.flips)
      { d with bytes := m.1, flips := m.2
               poison := SMap.drop (fun g => decide (a ≤ 64 * g) && decide (64 * g + 64 ≤ a + n)) d.poison }
    pages.foldl (fun s p => if seals p then s.ddrSealPage p else s) s

/-- A denied BAR4 access (R342). -/
def ddrDenied (s : State) (off : Nat) : State :=
  ((s.setReg Blk.ddr DDR.DENY_ADDR_LO (BitVec.ofNat 32 off)).setF Blk.ddr DDR.DENY_ADDR_HI_OFFSET (off / 2 ^ 32)).flag Blk.ddr
    DDR.STAT_DENIED DDR.INT_DENIED

/-- The valid pages, in order. -/
def ddrPages (s : State) : List Nat := s.ddr.pv.map (·.1)

/-- The DDR4 scrubber moves to page `p` and burst `b`, or ends its lap. -/
def ddrScrubTo (s : State) (p b : Nat) : State :=
  let pages := s.ddrPages
  let ended := !pages.any fun x => decide (p ≤ x)
  let total := pages.length * 64
  let here := (pages.filter fun x => decide (x < p)).length * 64 + b
  let s := s.modDdr fun d => { d with scrubPage := if ended then 0 else p, scrubBurst := if ended then 0 else b }
  let s := s.setF Blk.ddr DDR.SCRUB_POS_POS (if ended ∨ total = 0 then 0 else here * 65536 / total)
  if ended then
    let ms := (s.evtNs - s.ddr.lapStart) / 1000000
    (s.modDdr fun d => { d with lapStart := s.evtNs }).setF Blk.ddr DDR.SCRUB_LAP_MS (min ms (2 ^ 24 - 1))
  else s

/-- The DDR4 scrubber reads one burst of an unsealed page, or a sealed page whole (R349, R352). -/
def ddrScrub (s : State) (l : List Flip) : State :=
  if !s.ddrServes || !s.fb Blk.ddr DDR.SCRUB_CTL_EN || decide (2 ≤ s.f Blk.pwr PWR.STAT_STATE) then s
  else match s.ddrPages.find? fun p => decide (s.ddr.scrubPage ≤ p) with
  | none => s.ddrScrubTo (2 ^ 22) 0
  | some p =>
    let b := if p = s.ddr.scrubPage then s.ddr.scrubBurst else 0
    let isSealed := SMap.get false s.ddr.sealed p
    let gs := if isSealed then (List.range 64).map (64 * p + ·) else [64 * p + b]
    let s := s.ddrUpset (l.filter fun x => gs.contains (x.addr / 64))
    let s := gs.foldl (fun s g => if SMap.get false s.ddr.poison g then s else (s.ddrReadGranule g 6).2) s
    if isSealed || b + 1 = 64 then s.ddrScrubTo (p + 1) 0 else s.ddrScrubTo p (b + 1)

/-- Self-refresh entry (R346, R348). -/
def ddrSleep (s : State) : State :=
  if s.ddrServes then (s.setF Blk.ddr DDR.STAT_SELF_REFRESH 1).send (.ddr 2) else s

/-- Self-refresh exit (R346): `kept` says that the saved bitmap checks and the devices kept power. -/
def ddrResume (s : State) (kept : Bool) : State :=
  let s := (s.setF Blk.ddr DDR.STAT_SELF_REFRESH 0).send (.ddr 3)
  if kept then s
  else
    let s := (s.ddrForget fun _ => true).setF Blk.ddr DDR.STAT_CONTENT_LOST 1
    (s.logRecord { typ := 0x0013, src := Blk.ddr, anch := true, payload := logPayload [] }).raise Blk.ddr DDR.INT_CONTENT_LOST

/-- A write of a DDR register; STAT bit 6 clears like the flags beside it. -/
def ddrWriteReg (s : State) (off : Nat) (v : Word) : State :=
  if off = DDR.CFG then s.ddrCfg v
  else if off = DDR.SEAL_CTL then s.ddrSeal v
  else if off = DDR.PV_CTL then s.ddrPv v
  else if off = DDR.STAT then
    let s := s.writeReg Blk.ddr off v
    s.setReg Blk.ddr off (s.reg Blk.ddr off &&& ~~~(v &&& 0x40))
  else s.writeReg Blk.ddr off v

/-- A write of a MEM register. -/
def memWriteReg (s : State) (q : Requester) (off : Nat) (v : Word) : State :=
  if off = MEM.SEAL_CTL then s.memSeal q v
  else if off = MEM.INVAL_CTL then s.memInval v
  else if off = MEM.REP_DATA then s.memRepair v
  else s.writeReg Blk.mem off v

end State
end Sys2Proof.Machine
end

