-- ==== Sys2Proof/Machine/BistOps.lean ====
section
/-! DEFINITION. Built-in self-test (R22, R425 to R433): runs on domains, lane tests, their results, and what cuts them short. -/

namespace Sys2Proof.Machine

/-- BIST tests domain `d` (R425). -/
def bistTestable (d : Nat) : Bool := decide (1 ≤ d) && decide (d < 23)

/-- Patterns and steps of domain `d`, in units of 16 (R425). -/
def bistFull (d : Nat) : Nat :=
  if d = 1 ∨ d = 6 then 512
  else if d = 2 ∨ d = 21 ∨ (8 ≤ d ∧ d < 12) ∨ (17 ≤ d ∧ d < 21) then 4096
  else if d = 3 then 2048
  else if 12 ≤ d ∧ d < 16 then 256
  else if d = 16 then 4352
  else 1024

/-- Domain `d` has memories that a march tests (R425). -/
def bistMem (d : Nat) : Bool := !(d == 1 || (decide (12 ≤ d) && decide (d < 16)))

/-- A DOM_DETAIL word: result, reason, the parts done, the mismatches, and the patterns. -/
def bistWord (res reason : Nat) (ld md lm mm : Bool) (pat : Nat) : Word :=
  BitVec.ofNat 32 (res + 16 * reason + 2 ^ 8 * ld.toNat + 2 ^ 9 * md.toNat + 2 ^ 10 * lm.toNat + 2 ^ 11 * mm.toNat
    + 2 ^ 16 * (pat % 2 ^ 13))

/-- Both floors can be formed from the domains not in `bad` (R20 to R22): `hk` where FLOOR_HK is programmed. -/
def floorOk (bad : BitVec 24) (hk : Bool) : Bool :=
  let ok := fun d => !bad.getLsbD d
  ok Dom.aon && ok Dom.clk && ok Dom.fab && ok Dom.kpr && ok Dom.pmap
    && ([0, 1, 2, 3].any fun n => ok (Dom.lcd n) && ok (Dom.lca n)) && ([0, 1, 2, 3].any fun k => ok (Dom.hc k))
    && (!hk || ok Dom.hk)

namespace State

/-- The DOM_DETAIL word of domain `d`. -/
def bistDetail (s : State) (d : Nat) : Word := SMap.get 0 s.bist.detail d

/-- The result of domain `d` (R427). -/
def bistResult (s : State) (d : Nat) : Nat := BIST.DOM_DETAIL_RESULT.get (s.bistDetail d)

/-- Sets the detail and the signature of domain `d`. -/
def setBist (s : State) (d : Nat) (w sig : Word) : State :=
  { s with bist := { s.bist with detail := SMap.put 0 s.bist.detail d w, sig := SMap.put 0 s.bist.sig d sig } }

/-- The domains of a set, lowest first. -/
def domList (m : BitVec 24) : List Nat := (List.range 24).filter fun d => m.getLsbD d

/-- The words RESULT0 and RESULT1 (R427). -/
def bistResults (s : State) : Nat := ((List.range 24).map fun d => s.bistResult d * 4 ^ d).sum

/-- A tested domain comes out with its Reset values, and its memories are invalid (R425). -/
def bistWipe (s : State) (d : Nat) : State :=
  let s := s.sramForget fun a => sramDomain a == some d
  let s := (List.range Blk.count).foldl (fun s b => if blkDomain b = d then s.clearBlk b else s) s
  if d = Dom.ddr then { s with ddr := {} } else s

/-- A run ends (R427, R430, R433): the overall result, the time, the exclusions, DONE, FAIL and NOT_RUN. -/
def bistEnd (s : State) : State :=
  let b := Blk.bist
  let res := (domList s.bist.selected).map fun d => s.bistResult d
  let overall := if res.contains 2 then 2 else if res.contains 3 then 3 else if res.contains 0 then 0 else 1
  let por := s.f b BIST.STAT_KIND == 0
  let ex := (domList s.bist.selected).foldl (fun (m : BitVec 24) d =>
    let r := s.bistResult d
    if r = 2 ∨ (r = 3 ∧ por) then m ||| BitVec.ofNat 24 (2 ^ d)
    else if r = 1 then m &&& ~~~BitVec.ofNat 24 (2 ^ d) else m) s.pwr.excluded
  let t := s.evtTime
  let s := ((s.setF b BIST.STAT_BUSY 0).setF b BIST.STAT_OVERALL overall).setB b BIST.STAT_TIME_VALID s.timeOn
  let s := (s.setReg b BIST.RUN_NS (BitVec.ofNat 32 t.ns)).setReg b BIST.RUN_S (BitVec.ofNat 32 t.sec)
  let s := (s.setReg b BIST.RUN_AON_LO (s.reg Blk.aon AON.AON_CNT_LO)).setReg b BIST.RUN_AON_HI
    (s.reg Blk.aon AON.AON_CNT_HI)
  let s := { s with bist := { s.bist with run := 0 }, pwr := { s.pwr with excluded := ex, possible := floorOk ex s.fuseFloorHk } }
  let s := s.raise b 4
  let s := if overall = 2 ∨ overall = 3 then s.raise b 5 else s
  if res.contains 0 then s.raise b 7 else s

/-- The conditions of R426 as a run or the boot ROM finds them, in STAT and RAIL_STAT; the REASON that they give, none
when they are met. The spec names no order for CLOCK and RAIL. -/
def bistPrecond (s : State) (refclk : Bool) (rails : BitVec 7) : Option Nat × State :=
  let s := (s.setB Blk.bist BIST.STAT_PRECOND (refclk && rails == 0)).setF Blk.bist BIST.RAIL_STAT_RAIL rails.toNat
  if refclk && rails == 0 then (none, s)
  else if refclk then (some 2, s)
  else if rails == 0 then (some 1, s)
  else s.choose [1, 2]

/-- Why domain `d` of an on-demand run is not run (R430): none when it is. -/
def bistBars (s : State) (d : Nat) : Option Nat :=
  if !bistTestable d then some 5
  else if s.domOn.getLsbD d || s.domBusy.getLsbD d then some 3
  else if (domParent d).any fun p => !s.domReady p then some 4
  else none

/-- CTL.START (R426, R430): the run begins on the domains of RUN_MASK that meet the conditions. -/
def bistStart (s : State) (refclk : Bool) (rails : BitVec 7) : State :=
  if s.fb Blk.bist BIST.STAT_BUSY then s
  else
    let sel := BitVec.ofNat 24 (s.f Blk.bist BIST.RUN_MASK_MASK)
    let s := (s.setF Blk.bist BIST.STAT_KIND 1).setF Blk.bist BIST.STAT_BUSY 1
    let s := { s with bist := { s.bist with selected := sel, run := 0, detail := [], sig := [] } }
    let c := s.bistPrecond refclk rails
    let s := (domList sel).foldl (fun (t : State) d =>
      match c.1.orElse fun _ => c.2.bistBars d with
      | some why => t.setBist d (bistWord 0 why false false false false 0) 0
      | none => { t.bistWipe d with bist := { t.bist with run := t.bist.run ||| BitVec.ofNat 24 (2 ^ d) } }) c.2
    if s.bist.run = 0 then s.bistEnd else s

/-- Domain `d` completes its test (R427): `x` is what it ends with, none for a match of everything. -/
def bistComplete (s : State) (d : Nat) (x : Option BistDom) : State :=
  let sig : Word × State := match x with
    | some y => (y.sig, s)
    | none => s.draw 32
  let lm := x.any (·.logic)
  let mm := bistMem d && x.any (·.mem)
  sig.2.setBist d (bistWord (if lm || mm then 2 else 1) 0 true (bistMem d) lm mm (bistFull d)) sig.1

/-- The run completes: `l` lists the domains that end otherwise than with a match. -/
def bistDone (s : State) (l : List BistDom) : State :=
  if s.bist.run = 0 then s
  else ((domList s.bist.run).foldl (fun t d => t.bistComplete d (l.find? fun x => x.dom.val == d)) s).bistEnd

/-- Domain `d` is cut short (R427, R431): what it had reached is open, but not that all of it was done. -/
def bistCutDom (s : State) (d cause : Nat) : State :=
  let c := s.choose (if bistMem d then [0, 1, 2] else [0])
  let k := c.1.getD 0
  let m := c.2.draw 1
  let p := m.2.draw 13
  let sig := p.2.draw 32
  let full := bistFull d
  sig.2.setBist d (bistWord 3 cause (k == 1) (k == 2) (k == 1 && m.1 == 1) (k == 2 && m.1 == 1)
    (if k = 1 then full else p.1.toNat % (full + 1))) sig.1

/-! ### Lane tests (R432) -/

/-- A lane test ends: the lane's receive and transmit registers and banks return to Reset. -/
def laneTestEnd (s : State) (n : Nat) (subs segs : List Nat) : State :=
  let b := Blk.llane n
  let l := s.lane n
  let mine := fun k => k / 4096 == b && (k % 4096 / 256 == 1 || k % 4096 / 256 == 4)
  let sub := subs.foldl (fun m i => SMap.put {} m i { SMap.get ({} : SubTrim) m i with usable := false }) l.sub
  let seg := segs.foldl (fun m i => SMap.put {} m i { SMap.get ({} : SegTrim) m i with usable := false }) l.seg
  let s := { s with
    regs := SMap.drop mine s.regs
    used := SMap.drop mine s.used
    latched := SMap.drop mine s.latched
    pairBad := s.pairBad.filter fun k => k / 256 != b
    parBad := s.parBad.filter fun k => !mine k
    parSeen := s.parSeen.filter fun k => !mine k
    bist := { s.bist with lane := none } }
  let s := s.setLane n { sub := sub, seg := seg, inner := l.inner, innerOffset := l.innerOffset, innerFails := l.innerFails
                         lpc := l.lpc, lpcLow := l.lpcLow }
  let s := (s.setF Blk.bist BIST.LANE_STAT_BUSY 0).raise Blk.bist 6
  (((s.codecRefresh n).squelch n).holdoverAll).portsEval

/-- A lane test completes with the parts that failed and the faulty sub-converters and segments. -/
def laneTestDone (s : State) (rx tx slice : Bool) (subs segs : List Nat) : State :=
  match s.bist.lane with
  | none => s
  | some n =>
    let b := Blk.bist
    let s := s.setF b BIST.LANE_STAT_RESULT (if rx || tx || slice then 2 else 1)
    let s := ((s.setB b BIST.LANE_STAT_RX_FAIL rx).setB b BIST.LANE_STAT_TX_FAIL tx).setB b BIST.LANE_STAT_SLICE_FAIL slice
    let s := (s.setF b BIST.LANE_STAT_ADC_BAD (min 255 subs.eraseDups.length)).setF b BIST.LANE_STAT_DAC_BAD
      (min 255 segs.eraseDups.length)
    s.laneTestEnd n subs.eraseDups segs.eraseDups

/-- A lane test is cut short. -/
def laneTestCut (s : State) (cause : Nat) : State :=
  match s.bist.lane with
  | none => s
  | some n =>
    ((s.setF Blk.bist BIST.LANE_STAT_RESULT 3).setF Blk.bist BIST.LANE_STAT_REASON cause).laneTestEnd n [] []

/-- No enabled port maps the logical lane that physical lane `n` carries. -/
def laneUnmapped (s : State) (n : Nat) : Bool :=
  match s.logicalLane n with
  | none => true
  | some l => !((List.range 64).any fun p => s.portEnabled p && (s.portLineLanes p).contains l)

/-- A lane test is accepted (R432). -/
def laneTestFree (s : State) (n : Nat) : Bool :=
  !s.fb (Blk.llane n) LLANE.RX_CTL_RX_EN && !s.fb (Blk.llane n) LLANE.TX_CTL_TX_EN && s.laneUnmapped n

/-- A write of LANE_CTL (R432): a lane number past 16 is not tested, and a lane whose cluster is off has no parent. -/
def laneTest (s : State) (v : Word) : State :=
  let n := BIST.LANE_CTL_LANE.get v
  if BIST.LANE_CTL_START.get v = 0 ∨ s.fb Blk.bist BIST.LANE_STAT_BUSY then s
  else
    let why := if 17 ≤ n then 5 else if !s.blkOn (Blk.llane n) then 4 else if !s.laneTestFree n then 6 else 0
    let s := s.setReg Blk.bist BIST.LANE_STAT 0
    if why ≠ 0 then s.setF Blk.bist BIST.LANE_STAT_REASON why
    else { s.setF Blk.bist BIST.LANE_STAT_BUSY 1 with bist := { s.bist with lane := some n } }

/-- A run and a lane test are cut short (R431): 8 STOP, 9 PRECOND, 10 POWER, 11 PARENT. -/
def bistCut (s : State) (cause : Nat) : State :=
  let s := if s.bist.run = 0 then s else ((domList s.bist.run).foldl (fun t d => t.bistCutDom d cause) s).bistEnd
  s.laneTestCut cause

/-- A precondition of R426 has lapsed for 1 µs. -/
def bistLapse (s : State) (refclk : Bool) (rails : BitVec 7) : State :=
  let c := s.bistPrecond refclk rails
  if !s.domReady Dom.test || c.1.isNone then s else c.2.bistCut 9

/-- The domains `d` lose power: a run with a tested domain under one of them, and a lane test in one of them, are cut. -/
def bistParents (s : State) (d : BitVec 24) : State :=
  let hit := (domList s.bist.run).any fun x => (domParent x).any fun p => d.getLsbD p
  let lane := match s.bist.lane with
    | some n => d.getLsbD (blkDomain (Blk.llane n)) || (decide (n < 16) && d.getLsbD (Dom.lca (n / 4)))
    | none => false
  let s := if hit then ((domList s.bist.run).foldl (fun t x => t.bistCutDom x 11) s).bistEnd else s
  if lane then s.laneTestCut 11 else s

end State
end Sys2Proof.Machine
end

