-- ==== Sys2Proof/Machine/TimeOps.lean ====
section
/-! DEFINITION. Operations of the TIME and TSU blocks (spec/11): rates, steps, snapshots, pulse outputs, capture inputs,
frame stamps and their FIFOs. -/

namespace Sys2Proof.Machine
namespace State

/-- A field of TIME. -/
def tif (s : State) (fl : Fld) : Nat := s.f Blk.time fl

/-! ### Rates (R271) -/

/-- The frequency word of a time base. -/
def tbFreq (s : State) (n : Nat) : Nat :=
  (s.reg Blk.time (TIME.TB_FREQ_LO n)).toNat + (s.reg Blk.time (TIME.TB_FREQ_HI n)).toNat * 2 ^ 32

/-- A frequency word lies within 1,000 ppm of 0.8 ns: 5 F against 4 * 2^48, within a thousandth. -/
def freqOk (w : Nat) : Bool := decide (((5 * w : Nat) - (4 * 2 ^ 48 : Nat) : Int).natAbs * 1000 ≤ 4 * 2 ^ 48)

/-- A write of TBn_FREQ_HI, with the lower word waiting for it (R41, R271). -/
def tbRate (s : State) (n w : Nat) : State :=
  if freqOk w then
    (s.setReg Blk.time (TIME.TB_FREQ_LO n) (BitVec.ofNat 32 w)).setReg Blk.time (TIME.TB_FREQ_HI n)
      (BitVec.ofNat 32 (w / 2 ^ 32))
  else s.flag Blk.time (TIME.TB_STAT_RATE_REFUSED n) TIME.INT_RATE_REFUSED

/-! ### Steps (R272, R273, R278) -/

/-- The largest value of a time base, in ns, plus one. -/
def tbLimit : Nat := 2 ^ 48 * 1000000000

/-- The step value of the registers, in ns. -/
def stepValue (s : State) (n : Nat) : Nat :=
  ((s.reg Blk.time (TIME.TB_STEP_S_LO n)).toNat + s.tif (TIME.TB_STEP_S_HI_S_HI n) * 2 ^ 32) * 1000000000
    + min (s.tif (TIME.TB_STEP_NS_NS n)) 999999999

/-- The time base is running. -/
def tbRuns (s : State) (n : Nat) : Bool := s.timeOn && s.fb Blk.time (TIME.TB_STAT_RUNNING n)

/-- A refused STEP_GO. -/
def stepRefuse (s : State) (n : Nat) : State := s.flag Blk.time (TIME.TB_STAT_STEP_REFUSED n) TIME.INT_STEP_REFUSED

/-- STEP_GO would be refused: the step is used, one is pending, or the time base is not running. -/
def stepBars (s : State) (n : Nat) : Bool :=
  s.fb Blk.time (TIME.TB_STAT_STEP_USED n) || (SMap.get? s.tbStep n).isSome || !s.tbRuns n

/-- STEP_GO: the value and mode of the moment are requested. -/
def stepGo (s : State) (n : Nat) : State :=
  if s.stepBars n then s.stepRefuse n
  else
    let mode := s.tif (TIME.TB_CTL_STEP_MODE n)
    let neg := mode == 1 && s.fb Blk.time (TIME.TB_STEP_NS_SIGN n)
    let v : Int := if neg then - (s.stepValue n : Int) else s.stepValue n
    ({ s with tbStep := SMap.set s.tbStep n (mode, v) }).setF Blk.time (TIME.TB_STAT_STEP_PEND n) 1

/-- A pending step is withdrawn unused. -/
def stepCancel (s : State) (n : Nat) : State :=
  ({ s with tbStep := SMap.erase s.tbStep n }).setF Blk.time (TIME.TB_STAT_STEP_PEND n) 0

/-! ### Pulse outputs (R284, R285) -/

/-- Drives the pin of output `k`. -/
def tpoDrive (s : State) (k : Nat) (on : Bool) : State :=
  if s.fb Blk.time (TIME.TPO_STAT_ACTIVE k) = on then s
  else (s.setB Blk.time (TIME.TPO_STAT_ACTIVE k) on).send (.pulse k on)

/-- START of output `k`, in ns. -/
def tpoStart (s : State) (k : Nat) : Nat :=
  ((s.reg Blk.time (TIME.TPO_START_S_LO k)).toNat + s.tif (TIME.TPO_START_S_HI_S_HI k) * 2 ^ 32) * 1000000000
    + s.tif (TIME.TPO_START_NS_NS k)

/-- The output follows a configuration that has just taken effect (R284). -/
def tpoApply (s : State) (k : Nat) : State :=
  let s := { s with tpoIssued := SMap.erase s.tpoIssued k }
  s.tpoDrive k (s.uf Blk.time (TIME.TPO_CTL_MODE k) == 3)

/-- START less ADJ times 10 ps has been reached. -/
def tpoReached (s : State) (k : Nat) : Bool :=
  let acc : Int := s.tbAcc (s.uf Blk.time (TIME.TPO_CTL_TB k))
  let adj : Int := signed 16 (s.uf Blk.time (TIME.TPO_CTL_ADJ k))
  decide ((s.tpoStart k * 100 - adj) * nsUnit ≤ acc * 100)

/-- The output reaches its next instant (R284): a rise once START, or a period instant, has come; a fall WIDTH later. -/
def tpoEdge (s : State) (k : Nat) : State :=
  if !s.timeOn then s
  else
    let mode := s.uf Blk.time (TIME.TPO_CTL_MODE k)
    let issued := SMap.get false s.tpoIssued k
    if mode = 1 then
      if s.fb Blk.time (TIME.TPO_STAT_ACTIVE k) then
        (s.tpoDrive k false).flag Blk.time (TIME.TPO_STAT_DONE k) TIME.INT_TPO_DONE
      else if !issued && s.tpoReached k then
        ({ s with tpoIssued := SMap.put false s.tpoIssued k true }).tpoDrive k true
      else s
    else if mode = 2 then
      if s.fb Blk.time (TIME.TPO_STAT_ACTIVE k) then s.tpoDrive k false
      else if s.tpoReached k then s.tpoDrive k true
      else s
    else s

/-- A step or restoration has carried time base `n` forward from `old`: a one-shot it passes is issued at once (R285). -/
def tpoJumped (s : State) (n old : Nat) : State :=
  (List.range 4).foldl (fun s k =>
    if s.uf Blk.time (TIME.TPO_CTL_MODE k) == 1 && s.uf Blk.time (TIME.TPO_CTL_TB k) == n
        && !SMap.get false s.tpoIssued k && decide (old < s.tpoStart k * nsUnit)
        && decide (s.tpoStart k * nsUnit ≤ s.tbAcc n) then
      (({ s with tpoIssued := SMap.put false s.tpoIssued k true }).tpoDrive k true).flag Blk.time (TIME.TPO_STAT_LATE k)
        TIME.INT_TPO_LATE
    else s) s

/-- Time base `n` has jumped from `old` to its present value. -/
def tbMoved (s : State) (n old : Nat) : State := (s.tbJumped n old).tpoJumped n old

/-- The pending step of time base `n` is applied, or an ADD that leaves the range is refused (R272, R273). -/
def stepApply (s : State) (n : Nat) : State :=
  match SMap.get? s.tbStep n with
  | none => s
  | some (mode, v) =>
    let s := s.stepCancel n
    let old := s.tbAcc n
    let sum : Int := if mode = 1 then (old : Int) + v * nsUnit else v * nsUnit
    if sum < 0 ∨ ((tbLimit * nsUnit : Nat) : Int) ≤ sum then s.stepRefuse n
    else
      let s := (s.setTb n sum.toNat).setF Blk.time (TIME.TB_STAT_STEP_USED n) 1
      let s := (s.setF Blk.time (TIME.TB_STAT_COARSE n) 0).setReg Blk.time (TIME.TB_UNC n) 0
      (s.raise Blk.time TIME.INT_STEP_APPLIED).tbMoved n old

/-- A tick of time base `n` comes: a SET or ADD step that waits for it applies. -/
def stepTick (s : State) (n : Nat) : State :=
  match SMap.get? s.tbStep n with
  | some (mode, _) => if mode ≤ 1 ∧ s.tbRuns n then s.stepApply n else s
  | none => s

/-- The time base is seeded: its one step is available (R272). -/
def tbSeed (s : State) (n : Nat) : State := s.setF Blk.time (TIME.TB_STAT_STEP_USED n) 0

/-- A write of TBn_CTL (R272, R273, R278). -/
def tbCtl (s : State) (n : Nat) (v : Word) : State :=
  let was := s.fb Blk.time (TIME.TB_CTL_EN n)
  let s := s.writeReg Blk.time (TIME.TB_CTL n) v
  let now := s.fb Blk.time (TIME.TB_CTL_EN n)
  let s := if was && !now then ((s.stepCancel n).setF Blk.time (TIME.TB_STAT_RUNNING n) 0).tbStopped n
    else if !was && now then (s.setF Blk.time (TIME.TB_STAT_RUNNING n) 1).tbSeed n
    else s
  let s := if (TIME.TB_CTL_CLR_COARSE n).get v = 1 then
      (s.setF Blk.time (TIME.TB_STAT_COARSE n) 0).setReg Blk.time (TIME.TB_UNC n) 0
    else s
  let s := if (TIME.TB_CTL_STEP_CANCEL n).get v = 1 then s.stepCancel n else s
  if (TIME.TB_CTL_STEP_GO n).get v = 1 then s.stepGo n else s

/-! ### Snapshots (R274) -/

/-- SNAP: all time bases and the AON counter at one edge. -/
def timeSnap (s : State) : State :=
  let s := (List.range 4).foldl (fun s n =>
    let t := timeVal (s.tbAcc n)
    ((s.setReg Blk.time (TIME.SNAP_NS n) (BitVec.ofNat 32 t.ns)).setReg Blk.time (TIME.SNAP_S_LO n)
      (BitVec.ofNat 32 t.sec)).setReg Blk.time (TIME.SNAP_S_HI n) (BitVec.ofNat 32 (t.sec / 2 ^ 32 + t.frac * 2 ^ 16))) s
  let s := (s.setReg Blk.time TIME.SNAP_AON_LO (BitVec.ofNat 32 s.aonCnt)).setReg Blk.time TIME.SNAP_AON_HI
    (BitVec.ofNat 32 (s.aonCnt / 2 ^ 32))
  s.setF Blk.time TIME.SNAP_STAT_VALID 1

/-! ### Stamps -/

/-- The value of time base `n`, `ps` picoseconds from now; a value below zero is one the spec does not state, and free. -/
def stampAt (s : State) (n : Nat) (ps : Int) : TimeVal × State :=
  let t : Int := ((s.tbAcc n : Int) * 1000 + ps * nsUnit) / 1000
  if 0 ≤ t then (timeVal t.toNat, s)
  else
    let d := s.draw 96
    (timeVal (d.1.toNat * 2 ^ 32), d.2)

/-- An active edge of capture input `j` (R286, R297): a pending step takes it, and a capture is taken when EN = 1. -/
def tpiEdge (s : State) (j : Nat) (falling : Bool) : State :=
  if !s.timeOn || s.fb Blk.time (TIME.TPI_CTL_EDGE j) != falling then s
  else
    let s := (List.range 4).foldl (fun s n =>
      match SMap.get? s.tbStep n with
      | some (mode, _) => if mode = j + 2 ∧ s.tbRuns n then s.stepApply n else s
      | none => s) s
    if !s.fb Blk.time (TIME.TPI_CTL_EN j) then s
    else
      let q : List Capture := SMap.get [] s.tpi j
      if 4 ≤ q.length then s.flag Blk.time (TIME.TPI_STAT_OVF j) TIME.INT_TPI_OVF
      else
        let x := s.stampAt (s.tif (TIME.TPI_CTL_TB j)) (-10 * signed 16 (s.tif (TIME.TPI_CTL_ADJ j)))
        let s := x.2
        let c : Capture := ⟨x.1.sec, x.1.ns, x.1.frac⟩
        (({ s with tpi := SMap.put [] s.tpi j (q ++ [c]) }).setF Blk.time (TIME.TPI_STAT_COUNT j) (q.length + 1)).raise
          Blk.time TIME.INT_TPI_CAPT

/-- TPIj_POP frees the oldest capture. -/
def tpiPop (s : State) (j : Nat) : State :=
  let q : List Capture := SMap.get [] s.tpi j
  ({ s with tpi := SMap.put [] s.tpi j (q.drop 1) }).setF Blk.time (TIME.TPI_STAT_COUNT j) (q.length - 1)

/-- The word of the oldest capture: nanoseconds, seconds low, seconds high with the fraction; 0 when none is held. -/
def tpiWord (s : State) (j w : Nat) : Word :=
  match (SMap.get ([] : List Capture) s.tpi j).head? with
  | none => 0
  | some c => BitVec.ofNat 32 (match w with
    | 0 => c.ns
    | 1 => c.sec
    | _ => c.sec / 2 ^ 32 + c.frac * 2 ^ 16)

/-! ### Port TSUs (R279 to R282) -/

/-- The TSU of port `p`. -/
def ptsu (s : State) (p : Nat) : PortTsu := SMap.get {} s.portTsu p

/-- Sets the TSU of port `p`. -/
def setPtsu (s : State) (p : Nat) (u : PortTsu) : State := { s with portTsu := SMap.put {} s.portTsu p u }

/-- The reserve delay of physical lane `n`, in ps (R237, R280): RSV, or RSV - δ on LL16 while it substitutes. -/
def reserveDelay (s : State) (n : Nat) : Int :=
  let rsv : Int := 1000 * (min 2048 (s.f Blk.twin TWIN.SPARE_RSV_RSV) : Nat)
  if n = 16 then
    let d := signed 24 (s.f Blk.twin TWIN.SPARE_OFS_DELTA)
    rsv - d * (32000 * symPeriods (s.f (Blk.llane 16) LLANE.RX_CTL_RATE) : Nat) / 7225
  else rsv

/-- The physical lane that carries lane `i` of port `p` in one direction. -/
def physLane (s : State) (p i : Nat) (hostBound : Bool) : Option Nat :=
  ((s.portLineLanes p)[i]?).map fun l => if hostBound && s.substituted == some l then 16 else l

/-- The correction of R280 on physical lane `n`, in ps, without the ADJ term. -/
def tsuDelay (s : State) (n : Nat) (hostBound : Bool) : Int :=
  if hostBound then (s.rxGdly n + s.decGdly n : Nat) + s.reserveDelay n else (s.encGdly n + s.txGdly n : Nat)

/-- The position of a stamp: that of the direction's present codeword. -/
def ptsuPush (s : State) (p : Nat) (hostBound : Bool) (x : PortStamp) : State :=
  let u := s.ptsu p
  let fifo := if hostBound then u.rx else u.tx
  if 16 ≤ fifo.length then
    let u := if hostBound then { u with rxOvf := true, dropRx := min 65535 (u.dropRx + 1) }
      else { u with txOvf := true, dropTx := min 65535 (u.dropTx + 1) }
    let off := if p < 32 then TSU.OVF_PORT0 else TSU.OVF_PORT1
    ((s.setPtsu p u).setReg Blk.tsu off (s.reg Blk.tsu off ||| BitVec.twoPow 32 (p % 32))).raise Blk.tsu TSU.INT_OVF
  else
    let s := s.setPtsu p (if hostBound then { u with rx := fifo ++ [x] } else { u with tx := fifo ++ [x] })
    if fifo.isEmpty then s.raise Blk.tsu TSU.INT_PORT_TS else s

/-- Stamps the symbol that crosses now on lane `i` of port `p` (R279, R280). -/
def ptsuStamp (s : State) (p i : Nat) (hostBound : Bool) (kind : Nat) (pos : Pos) (key : BitVec 16) : State :=
  match s.physLane p i hostBound with
  | none => s
  | some n =>
    let u := s.ptsu p
    let tb := TSU.PT_CTL_TB.get u.ctl
    let d := s.tsuDelay n hostBound
    let ps := if hostBound then -d - 10 * signed 16 (TSU.PT_ADJ_RX_ADJ.get u.adj)
      else d + 10 * signed 16 (TSU.PT_ADJ_TX_ADJ.get u.adj)
    let u := if hostBound then { u with gdlyRx := unsignedOf 32 d } else { u with gdlyTx := unsignedOf 32 d }
    let t := (s.setPtsu p u).stampAt tb ps
    t.2.ptsuPush p hostBound { sec := t.1.sec, ns := t.1.ns, frac := t.1.frac, pos := pos, kind := kind
                               coarse := s.fb Blk.time (TIME.TB_STAT_COARSE tb), key := key }

/-- A frame (its 8 filter bytes, first byte in [7:0], and its 2 key bytes) or a codeword begins in a direction of a port
(R279). -/
def frameStamp (s : State) (p i : Nat) (hostBound marker : Bool) (bytes : BitVec 64) (key : BitVec 16) : State :=
  let u := s.ptsu p
  let en := (if hostBound then TSU.PT_CTL_RX_EN else TSU.PT_CTL_TX_EN).get u.ctl == 1
  let kind := (if hostBound then TSU.PT_CTL_RX_KIND else TSU.PT_CTL_TX_KIND).get u.ctl
  let pos := s.portPos p hostBound
  let per := s.f (Blk.port p) PORT.AM_PERIOD_P
  if !s.timeOn || !s.blkOn (Blk.port p) || !s.portEnabled p || !en then s
  else if marker then
    if (kind == 1 || kind == 2) && per != 0 && pos.cw % per == 0 then s.ptsuStamp p i hostBound 1 pos 0 else s
  else if kind != 1 && (bytes ^^^ u.fltVal) &&& u.fltMask == 0 then s.ptsuStamp p i hostBound 0 pos key
  else s

/-- TSU_SEL. -/
def tsuSel (s : State) : Nat := s.f Blk.tsu TSU.TSU_SEL_UNIT

/-- PT_POP: frees the oldest stamps of the selected port. -/
def ptPop (s : State) (v : Word) : State :=
  if 64 ≤ s.tsuSel then s
  else
    let u := s.ptsu s.tsuSel
    let u := if TSU.PT_POP_TX.get v = 1 then { u with tx := u.tx.drop 1 } else u
    s.setPtsu s.tsuSel (if TSU.PT_POP_RX.get v = 1 then { u with rx := u.rx.drop 1 } else u)

/-- LT_POP: frees the oldest event of the selected lane. -/
def ltPop (s : State) : State :=
  if 64 ≤ s.tsuSel ∧ s.tsuSel ≤ 80 then
    let u := s.ltsu (s.tsuSel - 64)
    s.setLtsu (s.tsuSel - 64) { u with fifo := u.fifo.drop 1 }
  else s

/-- A 64-bit value with its low or high word replaced. -/
def putHalf (x : BitVec 64) (hi : Bool) (v : Word) : BitVec 64 :=
  if hi then BitVec.ofNat 64 (x.toNat % 2 ^ 32 + v.toNat * 2 ^ 32) else BitVec.ofNat 64 (x.toNat / 2 ^ 32 * 2 ^ 32 + v.toNat)

/-- A write of a TSU register (R279 to R283, the notes to the TSU registers). -/
def tsuWrite (s : State) (off : Nat) (v : Word) : State :=
  let sel := s.tsuSel
  let port := sel < 64
  let lane := 64 ≤ sel ∧ sel ≤ 80
  let p := s.ptsu sel
  let l := s.ltsu (sel - 64)
  if off = TSU.PT_CTL then (if port then s.setPtsu sel { p with ctl := v &&& 0x7FFFFF } else s)
  else if off = TSU.PT_FLT_VAL_LO then (if port then s.setPtsu sel { p with fltVal := putHalf p.fltVal false v } else s)
  else if off = TSU.PT_FLT_VAL_HI then (if port then s.setPtsu sel { p with fltVal := putHalf p.fltVal true v } else s)
  else if off = TSU.PT_FLT_MASK_LO then (if port then s.setPtsu sel { p with fltMask := putHalf p.fltMask false v } else s)
  else if off = TSU.PT_FLT_MASK_HI then (if port then s.setPtsu sel { p with fltMask := putHalf p.fltMask true v } else s)
  else if off = TSU.PT_ADJ then (if port then s.setPtsu sel { p with adj := v } else s)
  else if off = TSU.PT_STAT then
    (if port then s.setPtsu sel { p with txOvf := p.txOvf && TSU.PT_STAT_TX_OVF.get v == 0
                                         rxOvf := p.rxOvf && TSU.PT_STAT_RX_OVF.get v == 0 } else s)
  else if off = TSU.PT_POP then s.ptPop v
  else if off = TSU.LT_CTL then (if lane then s.setLtsu (sel - 64) { l with ctl := v &&& 0xFFFF } else s)
  else if off = TSU.LT_STAT then
    (if lane then s.setLtsu (sel - 64) { l with ovf := l.ovf && TSU.LT_STAT_OVF.get v == 0 } else s)
  else if off = TSU.LT_POP then (if TSU.LT_POP_POP.get v = 1 then s.ltPop else s)
  else if off = TSU.OVF_PORT0 ∨ off = TSU.OVF_PORT1 then
    let base := if off = TSU.OVF_PORT0 then 0 else 32
    (List.range 32).foldl (fun s i =>
      if v.getLsbD i then s.setPtsu (base + i) { s.ptsu (base + i) with txOvf := false, rxOvf := false } else s)
      (s.writeReg Blk.tsu off v)
  else if off = TSU.OVF_LANE then
    (List.range 17).foldl (fun s i =>
      if v.getLsbD i then s.setLtsu i { s.ltsu i with ovf := false } else s) (s.writeReg Blk.tsu off v)
  else s.writeReg Blk.tsu off v

/-- Word `w` (0 to 6) of a port stamp (R282). -/
def stampWord (x : Option PortStamp) (w : Nat) : Nat :=
  match x with
  | none => 0
  | some x => match w with
    | 0 => x.ns
    | 1 => x.sec % 2 ^ 32
    | 2 => x.sec / 2 ^ 32 + x.frac * 2 ^ 16
    | 3 => x.pos.cw % 2 ^ 32
    | 4 => x.pos.cw / 2 ^ 32
    | 5 => x.pos.gen + x.kind * 2 ^ 16 + x.pos.valid.toNat * 2 ^ 30 + x.coarse.toNat * 2 ^ 31
    | _ => x.key.toNat

/-- Word `w` (0 to 4) of a lane event. -/
def laneEvtWord (x : Option LaneEvt) (w : Nat) : Nat :=
  match x with
  | none => 0
  | some x => match w with
    | 0 => x.ns
    | 1 => x.sec
    | 2 => x.pos.port + x.pos.valid.toNat * 2 ^ 7 + x.kind * 2 ^ 8 + x.coarse.toNat * 2 ^ 12 + x.pos.gen * 2 ^ 16
    | 3 => x.pos.cw % 2 ^ 32
    | _ => x.pos.cw / 2 ^ 32

/-- The bits of a pending register: units from `base` whose FIFO `p` says holds an entry. -/
def pendWord (n base : Nat) (p : Nat → Bool) : Nat :=
  (List.range n).foldl (fun a i => a + (p (base + i)).toNat * 2 ^ i) 0

/-- A read of a TSU register. -/
def tsuRead (s : State) (off : Nat) : Word :=
  let sel := s.tsuSel
  let p := s.ptsu sel
  let l := s.ltsu (sel - 64)
  let pv := fun (x : Nat) => if sel < 64 then x else 0
  let lv := fun (x : Nat) => if 64 ≤ sel ∧ sel ≤ 80 then x else 0
  if 0x110 ≤ off ∧ off < 0x180 then BitVec.ofNat 32 (pv (
    if off = TSU.PT_CTL then p.ctl.toNat
    else if off = TSU.PT_FLT_VAL_LO then p.fltVal.toNat % 2 ^ 32
    else if off = TSU.PT_FLT_VAL_HI then p.fltVal.toNat / 2 ^ 32
    else if off = TSU.PT_FLT_MASK_LO then p.fltMask.toNat % 2 ^ 32
    else if off = TSU.PT_FLT_MASK_HI then p.fltMask.toNat / 2 ^ 32
    else if off = TSU.PT_ADJ then p.adj.toNat
    else if off = TSU.PT_GDLY_TX then p.gdlyTx
    else if off = TSU.PT_GDLY_RX then p.gdlyRx
    else if off = TSU.PT_STAT then
      p.tx.length + p.rx.length * 2 ^ 8 + p.txOvf.toNat * 2 ^ 16 + p.rxOvf.toNat * 2 ^ 17
    else if off = TSU.PT_DROP then p.dropTx + p.dropRx * 2 ^ 16
    else if 0x140 ≤ off ∧ off < 0x15C then stampWord p.tx.head? ((off - 0x140) / 4)
    else if 0x160 ≤ off ∧ off < 0x17C then stampWord p.rx.head? ((off - 0x160) / 4)
    else 0))
  else if 0x180 ≤ off ∧ off < 0x1A8 then BitVec.ofNat 32 (lv (
    if off = TSU.LT_CTL then l.ctl.toNat
    else if off = TSU.LT_STAT then l.fifo.length + l.ovf.toNat * 2 ^ 8
    else if 0x190 ≤ off ∧ off < 0x1A4 then laneEvtWord l.fifo.head? ((off - 0x190) / 4)
    else if off = TSU.LT_DROP then l.drop
    else 0))
  else if 0x200 ≤ off ∧ off < 0x210 then
    let tx := off < 0x208
    BitVec.ofNat 32 (pendWord 32 (if off % 8 = 0 then 0 else 32) fun u =>
      !(if tx then (s.ptsu u).tx else (s.ptsu u).rx).isEmpty)
  else if off = TSU.LT_PEND then BitVec.ofNat 32 (pendWord 17 0 fun n => !(s.ltsu n).fifo.isEmpty)
  else s.reg Blk.tsu off

/-- A write of a TIME register; the pulse-output registers act through `tpoApply` when their active values change. -/
def timeWrite (s : State) (off : Nat) (v : Word) : State :=
  if off = TIME.SNAP_CTL then (if TIME.SNAP_CTL_SNAP.get v = 1 then s.timeSnap else s)
  else if off = TIME.TPI_POP 0 ∨ off = TIME.TPI_POP 1 then
    (if v.getLsbD 0 then s.tpiPop ((off - TIME.TPI_POP 0) / 0x20) else s)
  else if 0x100 ≤ off ∧ off < 0x200 then
    let n := (off - 0x100) / 0x40
    if off = TIME.TB_CTL n then s.tbCtl n v
    else if off = TIME.TB_FREQ_LO n ∨ off = TIME.TB_FREQ_HI n then s
    else s.writeReg Blk.time off v
  else s.writeReg Blk.time off v

/-! ### The event scheduler's registers (R289, R292) -/

/-- HIST_POP frees the oldest record. -/
def histPop (s : State) : State := { s with sched := { s.sched with hist := s.sched.hist.drop 1 } }

/-- Word `w` (0 to 5) of the oldest history record. -/
def histWord (s : State) (w : Nat) : Nat :=
  match s.sched.hist.head? with
  | none => 0
  | some r => match w with
    | 0 => r.entry + r.outcome * 2 ^ 8 + r.pos.valid.toNat * 2 ^ 12 + r.coarse.toNat * 2 ^ 15 + r.pos.gen * 2 ^ 16
    | 1 => r.ns
    | 2 => r.sec % 2 ^ 32
    | 3 => r.pos.cw % 2 ^ 32
    | 4 => r.pos.cw / 2 ^ 32
    | _ => r.pos.port + r.pos.hostBound.toNat * 2 ^ 6 + r.action * 2 ^ 8

/-- The entry SE_IDX selects. -/
def seIdx (s : State) : Nat := (s.reg Blk.sched SCHED.SE_IDX).toNat % 256

/-- A write of a SCHED register. -/
def schedWrite (s : State) (off : Nat) (v : Word) : State :=
  if SCHED.SE_W0 ≤ off ∧ off ≤ SCHED.SE_W6 then s.seWrite s.seIdx ((off - SCHED.SE_W0) / 4) v
  else if off = SCHED.HIST_POP then (if v.getLsbD 0 then s.histPop else s)
  else s.writeReg Blk.sched off v

/-- A read of a SCHED register. -/
def schedRead (s : State) (off : Nat) : Word :=
  let e := s.se s.seIdx
  if off = SCHED.SE_W0 then e.w0 else if off = SCHED.SE_W1 then e.w1 else if off = SCHED.SE_W2 then e.w2
  else if off = SCHED.SE_W3 then e.w3 else if off = SCHED.SE_W4 then e.w4 else if off = SCHED.SE_W5 then e.w5
  else if off = SCHED.SE_W6 then e.w6 else if off = SCHED.SE_W7 then s.seW7 s.seIdx
  else if off = SCHED.SCHED_STAT then SCHED.SCHED_STAT_ENABLED.put (s.reg Blk.sched off) s.seEnabled
  else if off = SCHED.HIST_STAT then SCHED.HIST_STAT_COUNT.put (s.reg Blk.sched off) s.sched.hist.length
  else if SCHED.HIST_W0 ≤ off ∧ off ≤ SCHED.HIST_W5 then BitVec.ofNat 32 (s.histWord ((off - SCHED.HIST_W0) / 4))
  else s.reg Blk.sched off

end State
end Sys2Proof.Machine
end

