-- ==== Sys2Proof/Machine/HkOps.lean ====
section
/-! DEFINITION. Operations of the housekeeping blocks HK, FILT and HDAC (spec/12). -/

namespace Sys2Proof.Machine
namespace State

/-! ### References, slots and passes (R301 to R305) -/

/-- PD_HK is up. -/
def hkOn (s : State) : Bool := s.domReady Dom.hk

/-- The record of core `c`. -/
def hkc (s : State) (c : Nat) : HkCore := SMap.get {} s.hk c

/-- Sets the record of core `c`. -/
def setHkc (s : State) (c : Nat) (h : HkCore) : State := { s with hk := SMap.put {} s.hk c h }

/-- A field of HK. -/
def hf (s : State) (fl : Fld) : Nat := s.f Blk.hk fl

/-- CFG_REFUSED of HK. -/
def hkRefused (s : State) : State := s.flag Blk.hk HK.STAT_CFG_REFUSED HK.INT_CFG_REFUSED

/-- The word of slot `k` of core `c` as the core uses it: the last consistent settings (R50, R307). The Reset value of a
slot is consistent, so every slot has been consistent once. -/
def hkSlot (s : State) (c k : Nat) : Word := s.usedReg Blk.hk (HK.HKC_SEQ c k)

/-- The slot being visited. -/
def hkVisit (s : State) (c : Nat) : Nat := s.hf (HK.HKC_STAT_SLOT c)

/-- The settings that two visits share when the second continues the chain (R302): everything but COUNT. -/
def hkSettings (w : Word) : Word := w &&& 0x03FFFFFF

/-- The half-band stages of core `c`: 3 acts as 2. -/
def hkHb (s : State) (c : Nat) : Nat := min 2 (s.uf Blk.filt (FILT.FILT_CFG_HB c))

/-- The decimation of the FIR: 0 acts as 1. -/
def hkFirDec (s : State) (c : Nat) : Nat := max 1 (s.uf Blk.filt (FILT.FILT_CFG_FIR_DEC c))

/-- FIR_EN. -/
def hkFir (s : State) (c : Nat) : Bool := s.uf Blk.filt (FILT.FILT_CFG_FIR_EN c) == 1

/-- TAPS. -/
def hkTaps (s : State) (c : Nat) : Nat := s.uf Blk.filt (FILT.FILT_CFG_TAPS c)

/-- N of R311. -/
def hkSettleN (s : State) (c : Nat) : Nat :=
  3 + 10 * s.hkHb c + if s.hkFir c then (s.hkTaps c + s.hkFirDec c - 1) / s.hkFirDec c else 0

/-- The decimation R of the slot being visited. -/
def hkR (s : State) (c : Nat) : Nat := 2 ^ (HK.HKC_SEQ_DEC_LOG2 0 0).get (s.hkSlot c (s.hkVisit c))

/-- The group delay D of R309, in ns. -/
def hkGdly (s : State) (c : Nat) : Nat :=
  let r := s.hkR c
  500 + 3 * (r - 1) * 250 + ((List.range (s.hkHb c)).map fun i => 9 * 500 * r * 2 ^ i).sum
    + if s.hkFir c then (s.hkTaps c - 1) * 250 * r * 2 ^ s.hkHb c else 0

/-- FILTc_GDLY shows D. -/
def hkShowGdly (s : State) (c : Nat) : State := s.setReg Blk.filt (FILT.FILT_GDLY c) (BitVec.ofNat 32 (s.hkGdly c))

/-- Starts the visit of slot `k`: it continues the chain or is a change of channel (R302, R311). -/
def hkStartVisit (s : State) (c k : Nat) : State :=
  let w := hkSettings (s.hkSlot c k)
  let s := s.setF Blk.hk (HK.HKC_STAT_SLOT c) k
  let h := s.hkc c
  let h := if h.chain = some w then { h with good := 0 } else { h with good := 0, settle := s.hkSettleN c, chain := some w }
  (s.setHkc c h).hkShowGdly c

/-- The visit restarts as a change of channel. -/
def hkRestart (s : State) (c : Nat) : State :=
  if s.fb Blk.hk (HK.HKC_STAT_RUNNING c) then
    (s.setHkc c { s.hkc c with chain := none }).hkStartVisit c (s.hkVisit c)
  else s.setHkc c { s.hkc c with chain := none }

/-- The core stops: the chain is no longer running. -/
def hkStop (s : State) (c : Nat) : State :=
  (s.setF Blk.hk (HK.HKC_STAT_RUNNING c) 0).setHkc c { s.hkc c with chain := none, good := 0, settle := 0 }

/-- A pass ends: SINGLE and TRIGGERED stop and raise SEQ_DONE, CONTINUOUS starts the next pass. -/
def hkPassEnd (s : State) (c : Nat) : State :=
  if s.hf (HK.HKC_CTL_MODE c) = 2 then s.hkStartVisit c 0 else (s.hkStop c).raise Blk.hk HK.INT_SEQ_DONE

/-- A trigger of core `c` (R303). -/
def hkTrigger (s : State) (c : Nat) : State :=
  if s.fb Blk.hk (HK.HKC_STAT_CLAIMED c) || s.fb Blk.hk (HK.HKC_STAT_RUNNING c) then
    s.setF Blk.hk (HK.HKC_STAT_TRIG_MISS c) 1
  else if s.hf (HK.HKC_CTL_MODE c) = 0 || s.hsHolds Blk.hk then s
  else (s.setF Blk.hk (HK.HKC_STAT_RUNNING c) 1).hkStartVisit c 0

/-- STOP: the pass ends after the conversion in progress. -/
def hkStopCmd (s : State) (c : Nat) : State :=
  if !s.fb Blk.hk (HK.HKC_STAT_RUNNING c) then s
  else if s.hf (HK.HKC_CTL_MODE c) = 2 then s.hkStop c
  else (s.hkStop c).raise Blk.hk HK.INT_SEQ_DONE

/-- A write of HKCc_CTL. -/
def hkCtl (s : State) (c : Nat) (v : Word) : State :=
  let s := s.writeReg Blk.hk (HK.HKC_CTL c) v
  let s := if s.hf (HK.HKC_CTL_MODE c) = 0 ∧ s.fb Blk.hk (HK.HKC_STAT_RUNNING c) then s.hkStop c else s
  let s := if (HK.HKC_CTL_STOP c).get v = 1 then s.hkStopCmd c else s
  if (HK.HKC_CTL_START c).get v = 1 then s.hkTrigger c else s

/-- A scheduler HK_START firing (R288, R303): the cores of the mask in TRIGGERED mode. -/
def hkFire (s : State) (mask : Nat) : State :=
  if !s.hkOn then s
  else (List.range 4).foldl (fun s c =>
    if mask.testBit c && s.hf (HK.HKC_CTL_MODE c) == 3 then s.hkTrigger c else s) s

/-- A calibration of core `c` is ended without factors. -/
def hkCalAbort (s : State) (c : Nat) : State :=
  if s.fb Blk.hk (HK.HKC_STAT_CAL_RUN c) then
    ((s.setF Blk.hk (HK.HKC_STAT_CAL_RUN c) 0).setF Blk.hk (HK.HKC_STAT_CAL_ABORTED c) 1).hkRestart c
  else s

/-- A write of REF_CTL (R301, R305). -/
def hkRefCtl (s : State) (v : Word) : State :=
  if HK.REF_CTL_SEL.get v = 3 then s.hkRefused
  else (List.range 4).foldl hkCalAbort ((s.writeReg Blk.hk HK.REF_CTL v).setF Blk.hk HK.STAT_REF_SETTLED 0)

/-- The settling time of the reference ends. -/
def hkRefSettled (s : State) : State :=
  if !s.hkOn || s.fb Blk.hk HK.STAT_REF_SETTLED then s else s.flag Blk.hk HK.STAT_REF_SETTLED HK.INT_REF_SETTLED

/-- A write of HKCc_CAL_CTL (R305). -/
def hkCalCtl (s : State) (c : Nat) (v : Word) : State :=
  let s := s.writeReg Blk.hk (HK.HKC_CAL_CTL c) v
  if (HK.HKC_CAL_CTL_START c).get v = 0 then s
  else if !s.fb Blk.hk HK.STAT_REF_SETTLED || s.fb Blk.hk (HK.HKC_STAT_CLAIMED c) then s.hkRefused
  else s.setF Blk.hk (HK.HKC_STAT_CAL_RUN c) 1

/-- A calibration ends with its factors and residuals for gains 0 to 3; a paused pass restarts its visit. -/
def hkCalDone (s : State) (c : Nat) (cal : List HkCal) : State :=
  if !s.hkOn || !s.fb Blk.hk (HK.HKC_STAT_CAL_RUN c) then s
  else
    let h := (cal.take 4).zipIdx.foldl (fun (h : HkCore) (x : HkCal × Nat) =>
      { h with offset := SMap.put 0 h.offset x.2 x.1.offset, gain := SMap.put 0x8000 h.gain x.2 x.1.gain
               res := SMap.set h.res x.2 x.1.residual }) (s.hkc c)
    (((s.setHkc c h).setF Blk.hk (HK.HKC_STAT_CAL_RUN c) 0).hkRestart c).raise Blk.hk HK.INT_CAL_DONE

/-- GSEL of core `c`. -/
def hkGsel (s : State) (c : Nat) : Nat := s.hf (HK.HKC_CAL_CTL_GSEL c)

/-- Sets the factors of core `c` at gain `g`: offset in the low half, gain in the high half. -/
def hkFactAt (s : State) (c g : Nat) (v : Word) : State :=
  let h := s.hkc c
  s.setHkc c { h with offset := SMap.put 0 h.offset g (v.setWidth 16)
                      gain := SMap.put 0x8000 h.gain g ((v >>> 16).setWidth 16) }

/-- A write of HKCc_CAL_FACT: the factors at the gain that GSEL names. -/
def hkFact (s : State) (c : Nat) (v : Word) : State := s.hkFactAt c (s.hkGsel c) v

/-- HKCc_CAL_FACT as read. -/
def hkFactWord (s : State) (c : Nat) : Word :=
  SMap.get 0x8000 (s.hkc c).gain (s.hkGsel c) ++ SMap.get (0 : BitVec 16) (s.hkc c).offset (s.hkGsel c)

/-- HKCc_CAL_RES as read. -/
def hkResWord (s : State) (c : Nat) : Word :=
  match SMap.get? (s.hkc c).res (s.hkGsel c) with
  | some r => BitVec.ofNat 32 (r.toNat + 2 ^ 31)
  | none => 0

/-- A write of a slot (R299): an input of 72 to 127 is refused. While STAGE = 0 the visit of a slot changed under it
restarts (R321). -/
def hkSeq (s : State) (c k : Nat) (v : Word) : State :=
  if 72 ≤ (HK.HKC_SEQ_INPUT c k).get v then s.hkRefused else s.writeReg Blk.hk (HK.HKC_SEQ c k) v

/-- The settings of a slot have changed from `old` (R321). -/
def hkSlotChanged (s : State) (c k : Nat) (old : Word) : State :=
  if s.fb Blk.hk (HK.HKC_STAT_RUNNING c) && s.hkVisit c == k && old != s.hkSlot c k then s.hkRestart c else s

/-- A FILTc_CFG field has changed by a commit (R311): the chain is flushed and N outputs are tagged. -/
def filtChanged (s : State) (c : Nat) : State :=
  let s := if s.fb Blk.hk (HK.HKC_STAT_RUNNING c) then s.setHkc c { s.hkc c with settle := s.hkSettleN c } else s
  s.hkShowGdly c

/-! ### Results (R306 to R312) -/

/-- uQ0.24 with rounding done: the saturated value and whether it saturated. -/
def sat24 (x : Int) : Nat × Bool :=
  if x < 0 then (0, true) else if (2 ^ 24 : Int) ≤ x then (2 ^ 24 - 1, true) else (x.toNat, false)

/-- Coefficient `t` of bank `k` of core `c` (R308). -/
def fcoefAt (s : State) (c k t : Nat) : BitVec 16 :=
  SMap.get (if t = 0 then 0x4000 else 0) s.fcoef (128 * c + 64 * k + t)

/-- What the chain of core `c` delivers for an input held at one code (R300, R306): clamped, scaled by the sinc³ sum and
SHIFT, passed by the half-band stages with unity gain, and filtered by the FIR. -/
def hkSteady (s : State) (c : Nat) (code : Int) : Nat × Bool :=
  let x := clampInt 0 65535 code
  let w := s.hkSlot c (s.hkVisit c)
  let sh := signed 6 ((HK.HKC_SEQ_SHIFT 0 0).get w)
  let sum := x * ((s.hkR c : Int) ^ 3)
  let y := sat24 (if 0 ≤ sh then roundShift sum sh.toNat else sum * 2 ^ sh.natAbs)
  let z := if s.hkFir c then
      let bank := s.uf Blk.filt (FILT.FILT_CFG_BANK c)
      let g := ((List.range (s.hkTaps c)).map fun t => (s.fcoefAt c bank t).toInt).sum
      sat24 (roundShift (g * y.1 * 2 ^ s.uf Blk.filt (FILT.FILT_CFG_FIR_SHIFT c)) 14)
    else (y.1, false)
  (z.1, x != code || y.2 || z.2)

/-- Comparator `k` of core `c` on a VALID result (R310). -/
def hkCompare (s : State) (c k input data : Nat) : State :=
  let en := if k = 0 then FILT.FILT_THR_CTL_TH0_EN c else FILT.FILT_THR_CTL_TH1_EN c
  let inp := if k = 0 then FILT.FILT_THR_CTL_TH0_IN c else FILT.FILT_THR_CTL_TH1_IN c
  let hi := if k = 0 then FILT.FILT_TH0_HI c else FILT.FILT_TH1_HI c
  let lo := if k = 0 then FILT.FILT_TH0_LO c else FILT.FILT_TH1_LO c
  let fhi := if k = 0 then FILT.FILT_TH_STAT_HI0 c else FILT.FILT_TH_STAT_HI1 c
  let flo := if k = 0 then FILT.FILT_TH_STAT_LO0 c else FILT.FILT_TH_STAT_LO1 c
  if !s.fb Blk.filt en || s.f Blk.filt inp != input then s
  else
    let v := data / 256
    let s := if s.f Blk.filt hi ≤ v then s.flag Blk.filt fhi (4 + 4 * c + 2 * k) else s
    if v ≤ s.f Blk.filt lo then s.flag Blk.filt flo (5 + 4 * c + 2 * k) else s

/-- The FIFO of core `c` takes a result (R312). -/
def hkPush (s : State) (c : Nat) (r : HkRes) : State :=
  let h := s.hkc c
  if 64 ≤ h.fifo.length then
    let off := HK.HKC_DROP c
    (s.setReg Blk.hk off (BitVec.ofNat 32 (min (2 ^ 32 - 1) ((s.reg Blk.hk off).toNat + 1)))).flag Blk.hk
      (HK.HKC_STAT_OVF c) (HK.INT_OVF c)
  else
    let s := (s.setHkc c { h with fifo := h.fifo ++ [r] }).setF Blk.hk (HK.HKC_STAT_COUNT c) (h.fifo.length + 1)
    if h.fifo.isEmpty then s.raise Blk.hk (HK.INT_RES_RDY c) else s

/-- A result leaves the chain of core `c` (R309 to R312): tags, stamp, comparators, FIFO, and the progress of the visit. -/
def hkResult (s : State) (c : Nat) (x : HkSample) : State :=
  if !s.hkOn || !s.fb Blk.hk (HK.HKC_STAT_RUNNING c) || s.fb Blk.hk (HK.HKC_STAT_CAL_RUN c)
      || s.fb Blk.hk (HK.HKC_STAT_CLAIMED c) then s
  else
    let h := s.hkc c
    let k := s.hkVisit c
    let w := s.hkSlot c k
    let input := (HK.HKC_SEQ_INPUT 0 0).get w
    let d := match x with
      | .steady code => s.hkSteady c code
      | .value data ovr => (data.toNat, ovr)
    let settling := decide (0 < h.settle)
    let unsettled := !s.fb Blk.hk HK.STAT_REF_SETTLED
    let valid := !settling && !unsettled && !d.2
    let t := if s.timeOn then s.stampAt s.evtTb (-(1000 * (s.hkGdly c : Int))) else (⟨0, 0, 0⟩, s)
    let s := t.2
    let w0 := d.1 + valid.toNat * 2 ^ 24 + settling.toNat * 2 ^ 25 + unsettled.toNat * 2 ^ 26 + d.2.toNat * 2 ^ 27
      + min 15 (h.settle - 1) * 2 ^ 28
    let w1 := input + k * 2 ^ 8 + (HK.HKC_SEQ_GAIN 0 0).get w * 2 ^ 12
      + ((HK.HKC_SEQ_IOW 0 0).get w != 0).toNat * 2 ^ 14 + s.evtCoarse.toNat * 2 ^ 15
    let r : HkRes := ⟨BitVec.ofNat 32 w0, BitVec.ofNat 32 w1, BitVec.ofNat 32 t.1.ns, BitVec.ofNat 32 t.1.sec⟩
    let s := s.setHkc c { h with settle := h.settle - 1, good := h.good + valid.toNat }
    let s := if valid then (s.hkCompare c 0 input d.1).hkCompare c 1 input d.1 else s
    let s := if valid || s.fb Blk.hk (HK.HKC_CTL_DELIVER_ALL c) then s.hkPush c r else s
    let n := (HK.HKC_SEQ_COUNT 0 0).get w
    if (s.hkc c).good < (if n = 0 then 64 else n) then s
    else if k < s.hf (HK.HKC_CTL_LEN c) then s.hkStartVisit c (k + 1)
    else s.hkPassEnd c

/-- HKCc_POP frees the oldest result. -/
def hkPop (s : State) (c : Nat) : State :=
  let h := s.hkc c
  (s.setHkc c { h with fifo := h.fifo.drop 1 }).setF Blk.hk (HK.HKC_STAT_COUNT c) (h.fifo.length - 1)

/-- Word `w` of the oldest result; 0 when none is held. -/
def hkResultWord (s : State) (c w : Nat) : Word :=
  match (s.hkc c).fifo.head? with
  | none => 0
  | some r => match w with
    | 0 => r.w0
    | 1 => r.w1
    | 2 => r.w2
    | _ => r.w3

/-- Foghorn's claim of core `c` begins or ends (R303, R321). -/
def hkClaim (s : State) (c : Nat) (on : Bool) : State :=
  if !s.hkOn then s
  else if on then ((s.hkCalAbort c).hkStop c).setF Blk.hk (HK.HKC_STAT_CLAIMED c) 1
  else s.setF Blk.hk (HK.HKC_STAT_CLAIMED c) 0

/-- A write of FOG.HK_RX (R253): the claim follows EN and HKC. -/
def fogHkRx (s : State) (v : Word) : State :=
  let oldC := s.f Blk.fog FOG.HK_RX_HKC
  let oldEn := s.fb Blk.fog FOG.HK_RX_EN
  let s := s.writeReg Blk.fog FOG.HK_RX v
  let c := s.f Blk.fog FOG.HK_RX_HKC
  let en := s.fb Blk.fog FOG.HK_RX_EN
  let s := if oldEn && !(en && c == oldC) then s.hkClaim oldC false else s
  if en && !(oldEn && c == oldC) then s.hkClaim c true else s

/-- CFG_REFUSED of FILT. -/
def filtRefused (s : State) : State := s.flag Blk.filt FILT.FSTAT_CFG_REFUSED 20

/-- TAP advances after an access of FCOEF_DATA when AUTO_INC = 1. -/
def fcoefAdvance (s : State) : State := s.idxAdvance Blk.filt FILT.FCOEF_IDX_TAP FILT.FCOEF_IDX_AUTO_INC

/-- The selected FIR coefficient: core, bank, tap. -/
def fcoefSel (s : State) : Nat × Nat × Nat :=
  (s.f Blk.filt FILT.FCOEF_IDX_CORE, s.f Blk.filt FILT.FCOEF_IDX_BANK, s.f Blk.filt FILT.FCOEF_IDX_TAP)

/-- A write of FCOEF_DATA (R308). -/
def fcoefWrite (s : State) (v : Word) : State :=
  let x := s.fcoefSel
  let s := if x.2.1 = s.uf Blk.filt (FILT.FILT_CFG_BANK x.1) then s.filtRefused
    else { s with fcoef := SMap.put (if x.2.2 = 0 then 0x4000 else 0) s.fcoef (128 * x.1 + 64 * x.2.1 + x.2.2) (v.setWidth 16) }
  s.fcoefAdvance

/-- FCOEF_DATA as read, before TAP advances. -/
def fcoefPeek (s : State) : Word := (s.fcoefAt s.fcoefSel.1 s.fcoefSel.2.1 s.fcoefSel.2.2).setWidth 32

/-- A write of FILTc_FLEN (R308): a change of the length of the bank in use is refused. -/
def flenWrite (s : State) (c : Nat) (v : Word) : State :=
  let fl := if s.uf Blk.filt (FILT.FILT_CFG_BANK c) = 0 then FILT.FILT_FLEN_LEN_A c else FILT.FILT_FLEN_LEN_B c
  if fl.get v = s.f Blk.filt fl then s.writeReg Blk.filt (FILT.FILT_FLEN c) v else s.filtRefused

/-- Slot pair (R307): the slot word is consistent. -/
def hkSlotOk (w : Word) : Bool :=
  let d := (HK.HKC_SEQ_DEC_LOG2 0 0).get w
  decide (d ≤ 8) && decide (signed 6 ((HK.HKC_SEQ_SHIFT 0 0).get w) = 3 * (d : Int) + (HK.HKC_SEQ_GAIN 0 0).get w - 8)

/-- FILT pair (R308): TAPS equals the length of the selected bank. -/
def filtOk (cfg flen : Word) : Bool :=
  (FILT.FILT_CFG_TAPS 0).get cfg
    == (if (FILT.FILT_CFG_BANK 0).get cfg = 0 then (FILT.FILT_FLEN_LEN_A 0).get flen else (FILT.FILT_FLEN_LEN_B 0).get flen)

/-! ### HDAC channels (R313 to R319) -/

/-- A field of HDAC. -/
def df (s : State) (fl : Fld) : Nat := s.f Blk.hdac fl

/-- Channel `n` streams. -/
def hdacStreams (s : State) (n : Nat) : Bool := (SMap.get ({} : HdacCh) s.hdac n).stream

/-- A stream starts or stops. -/
def setStream (s : State) (n : Nat) (on : Bool) : State := { s with hdac := SMap.put {} s.hdac n { stream := on } }

/-- Drives code `v` on channel `n`. -/
def hdacOut (s : State) (n v : Nat) : State :=
  if s.df (HDAC.CH_STAT_OUT n) = v then s else (s.setF Blk.hdac (HDAC.CH_STAT_OUT n) v).send (.hdac n v)

/-- The pin holds channel `n` at its clear code. -/
def hdacHeld (s : State) (n : Nat) : Bool := !s.clrPin && s.fb Blk.hdac (HDAC.CH_CTL_CLR_EN n)

/-- CLR_CODE of channel `n`. -/
def hdacClr (s : State) (n : Nat) : Nat := s.df (HDAC.CH_CLR_CLR_CODE n)

/-- CODE of channel `n`. -/
def hdacCode (s : State) (n : Nat) : Nat := s.df (HDAC.CH_CODE_CODE n)

/-- The largest excursion of the modulation on channel `n` (R251, R315, R319): the amplitude of its NCO while that runs, and
the depth of the Foghorn stream while a packet is sent on it. -/
def hdacSwing (s : State) (n : Nat) : Nat :=
  let src := s.df (HDAC.CH_CTL_SRC n)
  let nco := if 1 ≤ src ∧ src ≤ 4 ∧ s.fb Blk.hdac (HDAC.NCO_CTL_EN (src - 1)) then s.df (HDAC.NCO_AMP_AMP (src - 1)) else 0
  let fog := if s.fogOn && s.fb Blk.fog FOG.HDAC_TX_EN && s.f Blk.fog FOG.HDAC_TX_CH == n && s.fog.sending.isSome then
    s.f Blk.fog FOG.HDAC_TX_DEPTH else 0
  nco + fog

/-- One tick of a streaming channel: CODE plus its modulation, whose rounded value is free within its excursion, saturated. -/
def hdacTick (s : State) (n : Nat) : State :=
  if !s.hdacStreams n || s.fb Blk.hdac (HDAC.CH_STAT_CHANGING n) || s.hdacHeld n
      || s.fb Blk.hdac (HDAC.CH_STAT_CLEARED n) then s
  else
    let m := s.hdacSwing n
    if m = 0 then s.hdacOut n (s.hdacCode n)
    else
      let d := s.draw 32
      let x : Int := (d.1.toNat % (2 * m + 1) : Nat) - (m : Int)
      d.2.hdacOut n (clampInt 0 65535 (s.hdacCode n + x)).toNat

/-- A load of channel `n` (R314 to R317): held back by a mode change or by the pin. -/
def hdacLoad (s : State) (n : Nat) : State :=
  if s.fb Blk.hdac (HDAC.CH_STAT_CHANGING n) || s.hdacHeld n then s
  else
    let s := (s.setF Blk.hdac (HDAC.CH_STAT_WRITTEN n) 1).setF Blk.hdac (HDAC.CH_STAT_CLEARED n) 0
    if s.hdacStreams n then s.hdacTick n else s.hdacOut n (s.hdacCode n)

/-- A write of CHn_CODE: immediate mode loads it. -/
def hdacCodeWrite (s : State) (n : Nat) (v : Word) : State :=
  let s := s.writeReg Blk.hdac (HDAC.CH_CODE n) v
  match s.df (HDAC.CH_CTL_UPD n) with
  | 0 => s.hdacLoad n
  | 2 => s.hdacTick n
  | _ => s

/-- A strobe of the groups of `g` (R315): channels in strobe mode load at one tick. -/
def hdacStrobe (s : State) (g : Nat) : State :=
  if !s.hkOn then s
  else (List.range 32).foldl (fun s n =>
    if s.df (HDAC.CH_CTL_UPD n) == 1 && g.testBit (s.df (HDAC.CH_CTL_GROUP n)) then s.hdacLoad n else s) s

/-- RESUME (R315): starts the stream of a channel in stream mode. -/
def hdacResume (s : State) (n : Nat) : State :=
  if s.df (HDAC.CH_CTL_UPD n) ≠ 2 then s else (s.setStream n true).hdacLoad n

/-- The channel drives its clear code while the pin is low (R317). -/
def hdacClear (s : State) (n : Nat) : State :=
  if s.hdacHeld n then
    ((s.setF Blk.hdac (HDAC.CH_STAT_CLEARED n) 1).setStream n false).hdacOut n (s.hdacClr n)
  else s

/-- Step 1 of R316. -/
def hdacChange (s : State) (n : Nat) : State := (s.setF Blk.hdac (HDAC.CH_STAT_CHANGING n) 1).hdacOut n (s.hdacClr n)

/-- CHn_CTL has changed from `old`: a new MODE starts the sequence of R316, and a mode other than stream ends the stream. -/
def hdacCtlChanged (s : State) (n : Nat) (old : Word) : State :=
  let s := if s.df (HDAC.CH_CTL_UPD n) = 2 then s else s.setStream n false
  if (HDAC.CH_CTL_MODE n).get old = s.df (HDAC.CH_CTL_MODE n) then s else s.hdacChange n

/-- HSTAT.CFG_REFUSED. -/
def hdacRefused (s : State) : State := s.flag Blk.hdac HDAC.HSTAT_CFG_REFUSED HDAC.INT_CFG_REFUSED

/-- A write of CHn_CTL (R315 to R317). -/
def hdacCtl (s : State) (n : Nat) (v : Word) : State :=
  if (HDAC.CH_CTL_UPD n).get v = 3 then s.hdacRefused
  else
    let old := s.reg Blk.hdac (HDAC.CH_CTL n)
    let s := ((s.writeReg Blk.hdac (HDAC.CH_CTL n) v).hdacCtlChanged n old).hdacClear n
    if (HDAC.CH_CTL_RESUME n).get v = 1 then s.hdacResume n else s

/-- Steps 4 and 5 of R316: the channel takes CHn_CODE or resumes its stream, unless the pin holds it. -/
def hdacChangeDone (s : State) (n : Nat) : State :=
  if !s.hkOn || !s.fb Blk.hdac (HDAC.CH_STAT_CHANGING n) then s
  else
    let s := (s.setF Blk.hdac (HDAC.CH_STAT_CHANGING n) 0).raise Blk.hdac HDAC.INT_CHANGE_DONE
    if s.hdacHeld n || s.fb Blk.hdac (HDAC.CH_STAT_CLEARED n) then s.hdacOut n (s.hdacClr n)
    else if s.hdacStreams n then s.hdacTick n
    else s.hdacOut n (s.hdacCode n)

/-- DAC_CLR_N falls (R317). -/
def hdacFall (s : State) : State :=
  if !s.hkOn then s
  else
    let s := (s.setF Blk.hdac HDAC.CLR_STAT_LOW 1).flag Blk.hdac HDAC.CLR_STAT_SEEN HDAC.INT_CLR_ASSERTED
    (List.range 32).foldl hdacClear s

/-- DAC_CLR_N rises. -/
def hdacRise (s : State) : State := if s.hkOn then s.setF Blk.hdac HDAC.CLR_STAT_LOW 0 else s

/-- The current limit of a voltage output starts or stops acting (R318). -/
def hdacShort (s : State) (n : Nat) (on : Bool) : State :=
  if !s.hkOn || decide (2 ≤ s.df (HDAC.CH_CTL_MODE n)) then s
  else if on then (s.setF Blk.hdac (HDAC.CH_STAT_SC n) 1).flag Blk.hdac (HDAC.CH_STAT_SC_SEEN n) HDAC.INT_SC
  else s.setF Blk.hdac (HDAC.CH_STAT_SC n) 0

/-- A current output leaves or regains compliance (R318). -/
def hdacCompliance (s : State) (n : Nat) (on : Bool) : State :=
  if !s.hkOn || decide (s.df (HDAC.CH_CTL_MODE n) < 2) then s
  else if on then
    (s.setF Blk.hdac (HDAC.CH_STAT_COMPLIANCE n) 1).flag Blk.hdac (HDAC.CH_STAT_COMP_SEEN n) HDAC.INT_COMPLIANCE
  else s.setF Blk.hdac (HDAC.CH_STAT_COMPLIANCE n) 0

/-- NCO pair (R319). -/
def ncoOk (shape fstart fstop : Nat) : Bool :=
  if shape = 0 then decide (fstart < 2 ^ 23) else decide (fstart < fstop) && decide (fstop < 2 ^ 23)

/-- A write of an HDAC register. -/
def hdacWrite (s : State) (off : Nat) (v : Word) : State :=
  if off = HDAC.STROBE then s.hdacStrobe (HDAC.STROBE_GROUPS.get v)
  else if 0x200 ≤ off ∧ off < 0x400 then
    let n := (off - 0x200) / 0x10
    if off = HDAC.CH_CTL n then s.hdacCtl n v
    else if off = HDAC.CH_CODE n then s.hdacCodeWrite n v
    else if off = HDAC.CH_CLR n then (s.writeReg Blk.hdac off v).hdacClear n
    else s.writeReg Blk.hdac off v
  else s.writeReg Blk.hdac off v

/-- A write of an HK register. -/
def hkWrite (s : State) (off : Nat) (v : Word) : State :=
  if off = HK.REF_CTL then s.hkRefCtl v
  else if 0x200 ≤ off ∧ off < 0x400 then
    let c := (off - 0x200) / 0x80
    let k := (off - HK.HKC_SEQ c 0) / 4
    if off = HK.HKC_CTL c then s.hkCtl c v
    else if off = HK.HKC_CAL_CTL c then s.hkCalCtl c v
    else if off = HK.HKC_CAL_FACT c then s.hkFact c v
    else if off = HK.HKC_POP c then (if v.getLsbD 0 then s.hkPop c else s)
    else if HK.HKC_SEQ c 0 ≤ off then s.hkSeq c k v
    else s.writeReg Blk.hk off v
  else s.writeReg Blk.hk off v

/-- A read of an HK register. -/
def hkRead (s : State) (off : Nat) : Word :=
  if 0x200 ≤ off ∧ off < 0x400 then
    let c := (off - 0x200) / 0x80
    if off = HK.HKC_CAL_FACT c then s.hkFactWord c
    else if off = HK.HKC_CAL_RES c then s.hkResWord c
    else if HK.HKC_RES_W0 c ≤ off ∧ off ≤ HK.HKC_RES_W3 c then s.hkResultWord c ((off - HK.HKC_RES_W0 c) / 4)
    else s.reg Blk.hk off
  else s.reg Blk.hk off

/-- A write of a FILT register. -/
def filtWrite (s : State) (off : Nat) (v : Word) : State :=
  if off = FILT.FCOEF_DATA then s.fcoefWrite v
  else if off = FILT.FILT_FLEN 0 ∨ off = FILT.FILT_FLEN 1 ∨ off = FILT.FILT_FLEN 2 ∨ off = FILT.FILT_FLEN 3 then
    s.flenWrite ((off - FILT.FILT_FLEN 0) / 0x40) v
  else s.writeReg Blk.filt off v

/-- A power-up of PD_HK: every channel drives its clear code until its first load (R314). -/
def hkPowerUp (s : State) : State :=
  let s := { s with hk := [], hdac := [], fcoef := [] }
  let s := (List.range 32).foldl (fun s n => s.hdacOut n (s.hdacClr n)) s
  if s.clrPin then s else s.hdacFall

/-- Some channel drives a nonzero output (R320). -/
def hdacDrives (s : State) : Bool := (List.range 32).any fun n => s.df (HDAC.CH_STAT_OUT n) != 0

/-- The answer of HK (R320); `us` is the time to the end of the running passes. -/
def hkAnswer (s : State) (us : Nat) : PwrAnswer :=
  if !(List.range 4).any fun c => s.fb Blk.hk (HK.HKC_STAT_RUNNING c) then .accept
  else if us ≤ s.hf HK.PWR_WAIT_US then .delay us
  else .accept

/-- HK abandons its passes when it accepts (R320). -/
def hkAbandon (s : State) : State := (List.range 4).foldl (fun s c => if s.fb Blk.hk (HK.HKC_STAT_RUNNING c) then s.hkStop c else s) s

/-- The answer of HDAC (R320). -/
def hdacAnswer (s : State) : PwrAnswer :=
  if s.hdacDrives && !s.fb Blk.hdac HDAC.PWR_CTL_FLOAT_OK then .refuse 6 else .accept

/-- The clear pin falls (R117, R317). While PD_HK is off its buffer sees no edge. -/
def clrFall (s : State) : State :=
  if !s.clrPin then s
  else
    let s' := { s with clrPin := false }
    if s.hkOn then ((List.range 17).foldl clrFallLane s').squelchAll.hdacFall else s'

/-- The clear pin rises. -/
def clrRise (s : State) : State := ({ s with clrPin := true }).squelchAll.hdacRise

end State
end Sys2Proof.Machine
end

