-- ==== Sys2Proof/Machine/Lanes.lean ====
section
/-! DEFINITION. The meanings of the commands that line and host lanes share: PLLs, slice power, signal and lock. -/

namespace Sys2Proof.Machine

/-- PLL_ENABLE (R93, R176): a write of the PLL's control register. -/
def execPllEnable (q : Requester) (p : PllId) (v : Word) (s : State) : Host.Outcome State Fault Refusal :=
  finish s (s.accessBy q (pllRegs p).blk (pllRegs p).en.off true fun s => s.pllCtl p v)

/-- PLL_LOCK (R93, R176). -/
def execPllLock (p : PllId) (us : BitVec 8) (s : State) : Host.Outcome State Fault Refusal := finish s (s.pllLock p us.toNat)

/-- PLL_LOCK_LOST (R93, R176). -/
def execPllLockLost (p : PllId) (s : State) : Host.Outcome State Fault Refusal := finish s (s.pllLost p)

/-- LANE_PWR_WRITE (R93, R118, R176). -/
def execLanePwrWrite (q : Requester) (c : LanePwrId) (v : Word) (s : State) : Host.Outcome State Fault Refusal :=
  finish s (match c with
    | .line c => s.accessBy q (Blk.lclu c) LCLU.LANE_PWR true fun s => s.linePwr c v
    | .host k => s.accessBy q (Blk.hclu k) HCLU.LANE_PWR true fun s => s.hostLanePwr k v)

/-- SLICE_PWR_RDY (R93). -/
def execSlicePwrRdy (l : LaneId) (s : State) : Host.Outcome State Fault Refusal := finish s (s.slicesReady l)

/-- SIG_DET_RISE (R61). -/
def execSigDetRise (l : LaneId) (s : State) : Host.Outcome State Fault Refusal :=
  finish s (match l with
    | .line n => s.sigRise n
    | .host m => s.hostSigRise m)

/-- SIG_DET_FALL (R61, R191). -/
def execSigDetFall (l : LaneId) (s : State) : Host.Outcome State Fault Refusal :=
  finish s (match l with
    | .line n => s.sigFall n
    | .host m => s.hostSigFall m)

/-- CDR_LOCK_GAIN (R72, R73). -/
def execCdrLockGain (l : LaneId) (freq : Word) (s : State) : Host.Outcome State Fault Refusal :=
  finish s (match l with
    | .line n => s.cdrGain n freq.toInt
    | .host m => s.hostCdrGain m freq.toInt)

/-- CDR_LOCK_LOSS (R72). -/
def execCdrLockLoss (l : LaneId) (s : State) : Host.Outcome State Fault Refusal :=
  finish s (match l with
    | .line n => s.cdrLost n
    | .host m => s.hostCdrLost m)

/-- FREQ_OOR_SET (R72). -/
def execFreqOorSet (l : LaneId) (s : State) : Host.Outcome State Fault Refusal :=
  finish s (match l with
    | .line n => s.oorSet n
    | .host m => s.hostOorSet m)

/-- FREQ_OOR_CLEAR (R72). -/
def execFreqOorClear (l : LaneId) (s : State) : Host.Outcome State Fault Refusal :=
  finish s (match l with
    | .line n => s.oorClear n
    | .host m => s.hostOorClear m)

end Sys2Proof.Machine
end

