-- ==== Sys2Proof/Machine/DmaOps.lean ====
section
/-! DEFINITION. The DMA channels and the payload tap (spec/15, R357 to R370): rings, descriptors, moves between the address
spaces, completion and errors, the bus share, the power answers, and the tap's blocks and ring. -/

namespace Sys2Proof.Machine
namespace State

/-! ### Channels -/

/-- A field of DMA. -/
def dmaf (s : State) (fl : Fld) : Nat := s.f Blk.dma fl

/-- The hidden state of channel `c`. -/
def dmaCh (s : State) (c : Nat) : DmaCh := SMap.get {} s.dma c

/-- Changes the hidden state of channel `c`. -/
def modDma (s : State) (c : Nat) (g : DmaCh → DmaCh) : State := { s with dma := SMap.put {} s.dma c (g (s.dmaCh c)) }

/-- STATE of a channel: 0 IDLE, 1 RUNNING, 2 STOPPING, 3 STOPPED, 4 ERROR, 5 PWR_STOPPED. -/
def dmaState (s : State) (c : Nat) : Nat := s.dmaf (DMA.CH_STAT_STATE c)

/-- Sets STATE of a channel. -/
def dmaGoto (s : State) (c n : Nat) : State := s.setF Blk.dma (DMA.CH_STAT_STATE c) n

/-- STATE is RUNNING or STOPPING. -/
def dmaBusy (s : State) (c : Nat) : Bool := s.dmaState c == 1 || s.dmaState c == 2

/-- CFG_REFUSED of DMA. -/
def dmaRefused (s : State) : State := s.flag Blk.dma DMA.STAT_CFG_REFUSED DMA.INT_CFG_REFUSED

/-- Descriptors in the ring of channel `c`: RING_LOG2 below 4 acts as 4 (R359). -/
def dmaRingSize (s : State) (c : Nat) : Nat := 2 ^ max 4 (s.dmaf (DMA.CH_CTL_RING_LOG2 c))

/-- HEAD of channel `c`. -/
def dmaHead (s : State) (c : Nat) : Nat := (s.reg Blk.dma (DMA.CH_HEAD c)).toNat

/-- HEAD = TAIL modulo the ring size: no descriptor waits. -/
def dmaEmpty (s : State) (c : Nat) : Bool :=
  s.dmaHead c % s.dmaRingSize c == (s.reg Blk.dma (DMA.CH_TAIL c)).toNat % s.dmaRingSize c

/-- A channel that has been told to run, or has finished a descriptor, runs while descriptors wait and is idle otherwise. -/
def dmaGo (s : State) (c : Nat) : State := s.dmaGoto c (if s.dmaEmpty c then 0 else 1)

/-- A write of CHc_TAIL: an idle channel with RUN = 1 takes the new descriptors (R359). -/
def dmaTail (s : State) (c : Nat) (v : Word) : State :=
  let s := s.writeReg Blk.dma (DMA.CH_TAIL c) v
  if s.dmaState c = 0 ∧ s.dmaf (DMA.CH_CTL_RUN c) = 1 then s.dmaGo c else s

/-- A write of CHc_RING_LO (`hi` false) or CHc_RING_HI (R359). -/
def dmaRing (s : State) (c : Nat) (hi : Bool) (v : Word) : State :=
  if s.dmaBusy c then s.dmaRefused
  else if hi then s.writeReg Blk.dma (DMA.CH_RING_HI c) v
  else
    ((s.writeReg Blk.dma (DMA.CH_RING_LO c) (v &&& 0xFFFFFFE0)).setReg Blk.dma (DMA.CH_HEAD c) 0).setReg Blk.dma
      (DMA.CH_TAIL c) 0

/-- Address of the descriptor at HEAD: in host memory, or in BAR2 region 5 for RING_SPACE = 1. -/
def dmaDescAddr (s : State) (c : Nat) : Nat :=
  let lo := (s.reg Blk.dma (DMA.CH_RING_LO c)).toNat
  let off := 32 * (s.dmaHead c % s.dmaRingSize c)
  if s.dmaf (DMA.CH_CTL_RING_SPACE c) = 1 then 0x2E00000 + (lo + off) % 0x100000
  else (lo + (s.reg Blk.dma (DMA.CH_RING_HI c)).toNat * 2 ^ 32 + off) % 2 ^ 64

/-- The PCIe function can issue requests: link in data-link-active and bus mastering enabled (R362). -/
def hostReach (s : State) : Bool := s.domReady Dom.pcie && s.linkUp && s.busMaster

/-! ### Moving bytes -/

end State

/-- What a transfer has done: byte chunks newest first, the STATUS code, the state after. -/
structure DmaMove where
  chunks : List (List Byte)
  status : Nat
  st : State

/-- The bytes a transfer read, in order. -/
def DmaMove.bytes (m : DmaMove) : List Byte := (m.chunks.reverse).flatten

namespace State

/-- The bytes of word `w` that lie in `[a, a + n)`. -/
def wordSlice (w a n data : Nat) : List Byte :=
  (List.range 4).filterMap fun i =>
    if a ≤ 4 * w + i ∧ 4 * w + i < a + n then some (BitVec.ofNat 8 (data / 256 ^ i)) else none

/-- A DMA access to the BAR2 offset of word `w` is permitted to the host and its domain is up; else the state after R15. -/
def dmaSramOk (s : State) (w : Nat) (write : Bool) : Bool × State :=
  match sramDomain (4 * w) with
  | none => (false, s)
  | some d =>
    if !s.domReady d then (false, s.offRecord .bar2 (4 * w) write) else (s.bar2Allows .pcie (4 * w) write, s)

/-- Words that `n` bytes at `a` touch. -/
def wordsOf (a n : Nat) : List Nat :=
  if n = 0 then [] else (List.range ((a + n - 1) / 4 - a / 4 + 1)).map (a / 4 + ·)

/-- Reads SRAM words until one is denied (5) or in error (1). `host`: the permissions of R334 apply. -/
def dmaReadSram (s : State) (a n : Nat) (host : Bool) : DmaMove :=
  (wordsOf a n).foldl (fun (m : DmaMove) w =>
    if m.status ≠ 0 then m
    else
      let ok := if host then m.st.dmaSramOk w false else (true, m.st)
      if !ok.1 then { m with status := 5, st := ok.2 }
      else
        let r := ok.2.sramRead w 3
        if r.1.flagged then { m with status := 1, st := r.2 }
        else { m with chunks := wordSlice w a n r.1.data :: m.chunks, st := r.2 }) ⟨[], 0, s⟩

/-- The DDR4 granule `g` is accessible: PD_DDR up and serving, inside the data area. -/
def dmaDdrOk (s : State) (g : Nat) (write : Bool) : Bool × State :=
  if !s.domReady Dom.ddr then (false, s.offRecord .bar4 (64 * g) write)
  else (s.ddrServes && decide (64 * g < s.ddrData), s)

/-- Reads DDR4 granules until one is denied or in error. -/
def dmaReadDdr (s : State) (a n : Nat) : DmaMove :=
  (granules a n).foldl (fun (m : DmaMove) g =>
    if m.status ≠ 0 then m
    else
      let ok := m.st.dmaDdrOk g false
      if !ok.1 then { m with status := 5, st := ok.2 }
      else
        let lo := max a (64 * g)
        let r := ok.2.ddrRead lo (min (a + n) (64 * g + 64) - lo) 3
        if !r.1 then { m with status := 1, st := r.2.2 }
        else { m with chunks := r.2.1 :: m.chunks, st := r.2.2 }) ⟨[], 0, s⟩

/-- Reads `n` bytes of host memory: `host` holds the bytes of the responses received without error. -/
def dmaReadHost (s : State) (n : Nat) (host : List Byte) : DmaMove :=
  if !s.domReady Dom.pcie then ⟨[], 5, s⟩
  else if !s.hostReach then ⟨[], 1, s⟩
  else ⟨[host.take n], if host.length < n then 1 else 0, (s.tlps 1).tlps 0⟩

/-- The channel that TAP_CTL.CH names; values from 8 up name a bulk channel (R367). -/
def tapChannel (s : State) : Nat := (8 + s.dmaf DMA.TAP_CTL_CH) % 16

/-- Ring occupancy in 64 KiB units. -/
def tapFill (s : State) : State := s.setF Blk.dma DMA.TAP_STAT_FILL ((s.tap.ring.map (·.2)).sum / 65536)

/-- Moves whole tap blocks, oldest first, up to `n` bytes, and frees them (R368). -/
def dmaReadTap (s : State) (c n : Nat) : DmaMove :=
  if s.tapChannel ≠ c then ⟨[], 0, s⟩
  else
    let r := s.tap.ring.foldl (fun (r : Bool × DmaMove) b =>
      if r.1 || r.2.status != 0 || decide (n < (r.2.chunks.map List.length).sum + b.2) then (true, r.2)
      else
        let m := r.2.st.dmaReadSram b.1 b.2 false
        let st := m.st
        (false, { chunks := m.chunks ++ r.2.chunks, status := m.status
                  st := if m.status = 0 then { st with tap := { st.tap with ring := st.tap.ring.drop 1 } } else st }))
      (false, ⟨[], 0, s⟩)
    { r.2 with st := r.2.st.tapFill }

/-- Reads from a source space. -/
def dmaRead (s : State) (c space a n : Nat) (host : List Byte) : DmaMove :=
  match space with
  | 0 => s.dmaReadHost n host
  | 1 => s.dmaReadSram a n true
  | 2 => s.dmaReadDdr a n
  | _ => s.dmaReadTap c n

/-- How many of `n` bytes at destination `a` may be written before a granule is denied, and the state after R15. -/
def dmaRoom (s : State) (space a n : Nat) : Nat × State :=
  match space with
  | 0 => if s.domReady Dom.pcie then (n, s) else (0, s)
  | 1 =>
    let r := (wordsOf a n).foldl (fun (r : Option Nat × State) w =>
      match r.1 with
      | some _ => r
      | none =>
        let ok := r.2.dmaSramOk w true
        if ok.1 then (none, ok.2) else (some (max a (4 * w) - a), ok.2)) (none, s)
    (r.1.getD n, r.2)
  | _ =>
    let r := (granules a n).foldl (fun (r : Option Nat × State) g =>
      match r.1 with
      | some _ => r
      | none =>
        let ok := r.2.dmaDdrOk g true
        if ok.1 then (none, ok.2) else (some (max a (64 * g) - a), ok.2)) (none, s)
    (r.1.getD n, r.2)

/-- Writes bytes to a destination space; `final` seals the DDR4 pages (R345). -/
def dmaPut (s : State) (space a : Nat) (data : List Byte) (final : Bool) : State :=
  if data.isEmpty then s
  else match space with
  | 0 => if s.hostReach then (s.send (.hostWrite a data)).tlps 1 else s
  | 1 =>
    let pages := (List.range ((a + data.length - 1) / 1024 - a / 1024 + 1)).map (a / 1024 + ·)
    pages.foldl (fun s p => s.bar2Microcode (1024 * p)) (s.sramWrite a data)
  | _ => s.ddrWrite a data final

/-- Space codes of a descriptor. -/
def dmaSrcSpace (d : DmaDesc) : Nat := bitsOf d.ctl 0 2
/-- The destination space. -/
def dmaDstSpace (d : DmaDesc) : Nat := bitsOf d.ctl 2 2
/-- SEAL of a descriptor. -/
def dmaSeal (d : DmaDesc) : Bool := d.ctl.testBit 9

/-- Counts bytes moved by channel `c`: BYTES, its wrap flag, and the performance event of 64 bytes. -/
def dmaBytes (s : State) (c n : Nat) : State :=
  let old := (s.reg Blk.dma (DMA.CH_BYTES_LO c)).toNat + (s.reg Blk.dma (DMA.CH_BYTES_HI c)).toNat * 2 ^ 32
  (s.countFlag48 Blk.dma (DMA.CH_BYTES_LO c) (DMA.CH_BYTES_HI c) n DMA.STAT_BYTES_WRAP DMA.INT_WRAPPED).perf 10 c
    ((old + n) / 64 - old / 64)

/-- Channel `c` moves up to `n` more bytes of its descriptor; answers the STATUS so far. -/
def dmaStep (s : State) (c n : Nat) (host : List Byte) : Nat × State :=
  match (s.dmaCh c).cur with
  | none => (0, s)
  | some d =>
    let ch := s.dmaCh c
    let want := min n (d.len - ch.moved)
    let room := s.dmaRoom (dmaDstSpace d) (d.dst + ch.moved) want
    let m := room.2.dmaRead c (dmaSrcSpace d) (d.src + ch.moved) room.1 host
    let data := m.bytes
    let s := m.st.dmaPut (dmaDstSpace d) (d.dst + ch.moved) data (dmaSeal d)
    let s := s.modDma c fun x => { x with moved := x.moved + data.length, crc := data.foldl Codec.crcByte x.crc }
    (if m.status ≠ 0 then m.status else if room.1 < want then 5 else 0, s.dmaBytes c data.length)

/-! ### Descriptors -/

/-- The boundary of a descriptor: ERROR, PWR_STOPPED, STOPPED, or on to the next (R361, R362, R364, R366). -/
def dmaBoundary (s : State) (c status : Nat) (stop : Bool) : State :=
  let ch := s.dmaCh c
  let s := s.modDma c fun x => { x with cur := none, moved := 0, stop := false, late := false, pwrStop := false }
  if status ≠ 0 ∧ status ≠ 3 then s.dmaGoto c 4
  else if ch.pwrStop then s.dmaGoto c 5
  else if ch.stop || ch.late || stop then s.dmaGoto c 3
  else s.dmaGo c

/-- Bytes 16 to 31 that the device writes back (R361). -/
def dmaBack (s : State) (status residue : Nat) (crc : BitVec 32) : List Byte :=
  Codec.leBytes 4 (status + residue * 256) ++ Codec.leBytes 4 crc.toNat
    ++ Codec.leBytes 4 (s.evtTime.ns + s.evtCoarse.toNat * 2 ^ 30 + 2 ^ 31) ++ Codec.leBytes 4 s.evtTime.sec

/-- Completes the descriptor of channel `c` with a STATUS: writeback, HEAD, flags, and the boundary. `intOn` is its INT bit
and `len` its length. -/
def dmaComplete (s : State) (c status len : Nat) (intOn stop : Bool) : State :=
  let ch := s.dmaCh c
  let back := s.dmaBack status (len - ch.moved) (~~~ch.crc)
  let a := s.dmaDescAddr c + 16
  let s := if s.dmaf (DMA.CH_CTL_RING_SPACE c) = 1 then s.sramWrite a back
    else if s.hostReach then (s.send (.hostWrite a back)).tlp 1 1 else s
  let s := s.setReg Blk.dma (DMA.CH_HEAD c) (BitVec.ofNat 32 ((s.dmaHead c + 1) % s.dmaRingSize c))
  let s := s.setF Blk.dma (DMA.CH_STAT_LAST_STATUS c) status
  let s := if intOn then
      (s.setReg Blk.dma DMA.DONE_MAP (s.reg Blk.dma DMA.DONE_MAP ||| BitVec.twoPow 32 c)).raise Blk.dma DMA.INT_DESC_DONE
    else s
  let s := if status ≠ 0 ∧ status ≠ 3 then
      ((s.setF Blk.dma (DMA.CH_STAT_ERR c) 1).setReg Blk.dma DMA.ERR_MAP
        (s.reg Blk.dma DMA.ERR_MAP ||| BitVec.twoPow 32 c)).raise Blk.dma DMA.INT_CH_ERR
    else s
  s.dmaBoundary c status stop

/-- The tap block size of the mode (R367). -/
def tapBlockSize (failed : Bool) : Nat := if failed then 768 else 10944

/-- The cases of BAD_DESC (R360). -/
def dmaBad (s : State) (c : Nat) (d : DmaDesc) : Bool :=
  d.len == 0 || dmaDstSpace d == 3 || (dmaSrcSpace d == 3 && decide (c < 8))
    || (dmaSeal d && (dmaDstSpace d != 2 || d.dst % 4096 != 0 || d.len % 4096 != 0
      || (List.range (d.len / 4096)).any fun i => !s.ddrSealable (d.dst / 4096 + i)))
    || (dmaSrcSpace d == 3 && d.len % tapBlockSize (s.dmaf DMA.TAP_CTL_MODE == 1) != 0)

/-- A descriptor's source or destination lies in one of the domains of `doms`. -/
def dmaTouches (doms : BitVec 24) (d : DmaDesc) : Bool :=
  let of := fun (space a : Nat) => match space with
    | 0 => doms.getLsbD Dom.pcie
    | 1 => (match sramDomain a with
      | some x => doms.getLsbD x
      | none => false)
    | 2 => doms.getLsbD Dom.ddr
    | _ => doms.getLsbD Dom.pmap || doms.getLsbD Dom.fab
  of (dmaSrcSpace d) d.src || of (dmaDstSpace d) d.dst

/-- A channel takes the descriptor at HEAD and checks it (R359, R360). `host`: its bytes, read from a ring in host memory. A
ring read that meets an error ends the descriptor with SRC_ERR. While the block is asked in a power handshake no descriptor
that touches its domains starts (R386). -/
def dmaStart (s : State) (c : Nat) (host : List Byte) : State :=
  if s.dmaState c ≠ 1 ∨ (s.dmaCh c).cur.isSome ∨ s.dmaEmpty c ∨ (s.dmaCh c).pwrStop then s
  else
    let m : DmaMove := if s.dmaf (DMA.CH_CTL_RING_SPACE c) = 1 then s.dmaReadSram (s.dmaDescAddr c) 32 false
      else s.dmaReadHost 32 host
    let w := fun i => Codec.ofBytes ((m.bytes.drop i).take 4)
    let d : DmaDesc := ⟨w 0 + w 4 * 2 ^ 32, w 8 + w 12 * 2 ^ 32, w 16 % 2 ^ 24, w 20⟩
    if m.status = 0 ∧ s.pwr.asked.contains Blk.dma ∧ dmaTouches s.pwr.doms d then s else
    let s := m.st.modDma c fun x => { x with cur := some d, moved := 0, crc := if d.ctl.testBit 10 then x.crc else 0xFFFFFFFF }
    if m.status ≠ 0 then s.dmaComplete c m.status 0 false false
    else if s.dmaBad c d then s.dmaComplete c 4 d.len (d.ctl.testBit 8) false
    else s

/-- The rest of the descriptor moves and it completes; a tap source with an empty ring waits on (R361, R363, R368).
`writeErr`: a write response of it carried an error. -/
def dmaDone (s : State) (c : Nat) (host : List Byte) (writeErr : Bool) : State :=
  match (s.dmaCh c).cur with
  | none => s
  | some d =>
    if !s.dmaBusy c then s
    else
      let r := s.dmaStep c d.len host
      let s := r.2
      let ack := s.dmaf (DMA.CH_CTL_ACK_MODE c) = 1
      if r.1 = 0 ∧ (s.dmaCh c).moved < d.len then s
      else
        let lost := dmaDstSpace d = 0 ∧ !s.hostReach
        s.dmaComplete c (if r.1 = 0 ∧ ack ∧ (writeErr ∨ lost) then 2 else r.1) d.len (d.ctl.testBit 8) false

/-- A write error response after completion in posted mode (R362, R380). -/
def dmaLate (s : State) (c : Nat) (idx : BitVec 16) : State :=
  if s.dmaf (DMA.CH_CTL_ACK_MODE c) = 1 then s
  else
    let s := if (s.dmaCh c).late then s else s.setReg Blk.dma (DMA.CH_LATE_IDX c) (idx.setWidth 32)
    let s := s.setF Blk.dma (DMA.CH_STAT_LATE_ERR c) 1
    let s := (s.raise Blk.dma DMA.INT_LATE_WRITE_ERR).stampEvt Blk.dma
    let s := s.logRecord { typ := 0x0060, src := Blk.dma, anch := true, payload := logPayload [c, idx.toNat] }
    if (s.dmaCh c).cur.isSome then (s.modDma c fun x => { x with late := true }).dmaGoto c 2
    else if s.dmaState c ≤ 1 then s.dmaGoto c 3
    else s

/-- STOP (R364): at the boundary, which is at once when no descriptor is in progress. -/
def dmaStop (s : State) (c : Nat) : State :=
  if (s.dmaCh c).cur.isSome then (s.modDma c fun x => { x with stop := true }).dmaGoto c 2
  else if s.dmaState c ≤ 1 then s.dmaGoto c 3
  else s

/-- ABORT (R364): the current burst ends and the descriptor is written back with ABORTED and its residue. -/
def dmaAbort (s : State) (c : Nat) : State :=
  match (s.dmaCh c).cur with
  | none => s.dmaStop c
  | some d => s.dmaComplete c 3 d.len (d.ctl.testBit 8) true

/-- A write of CHc_CTL (R359, R364). -/
def dmaCtl (s : State) (c : Nat) (v : Word) : State :=
  let was := s.dmaf (DMA.CH_CTL_RUN c)
  let sp := DMA.CH_CTL_RING_SPACE c
  let lg := DMA.CH_CTL_RING_LOG2 c
  let held := s.dmaBusy c && (sp.get v != s.dmaf sp || lg.get v != s.dmaf lg)
  let w := if held then lg.put (sp.put v (s.dmaf sp)) (s.dmaf lg) else v
  let s := s.writeReg Blk.dma (DMA.CH_CTL c) w
  let s := if held then s.dmaRefused else s
  let s := if was = 0 ∧ (DMA.CH_CTL_RUN c).get v = 1 ∧ !s.dmaBusy c then s.dmaGo c else s
  let s := if (DMA.CH_CTL_STOP c).get v = 1 then s.dmaStop c else s
  if (DMA.CH_CTL_ABORT c).get v = 1 then s.dmaAbort c else s

/-- A write of CTL through the TB1608 window also sets ACK_MODE (R370). -/
def dmaAliasCtl (s : State) (c : Nat) (v : Word) : State := s.dmaCtl c ((DMA.CH_CTL_ACK_MODE c).put v 1)

/-! ### Bus share (R365) -/

/-- LINK_CAP in MB/s: 112 GB/s at 64 GT/s x16, in proportion to rate and width. -/
def linkCap (s : State) : Nat :=
  let rate := match s.f Blk.pcie PCIE.LINK_STAT_SPEED with
    | 1 => 25 | 2 => 50 | 3 => 80 | 4 => 160 | 5 => 320 | 6 => 640 | _ => 0
  112000 * rate * s.f Blk.pcie PCIE.LINK_STAT_WIDTH / (640 * 16)

/-- The cap of R365 in percent: CAP (at most 100) and (10 − SHARE) × 10, SHARE being the throttle stage of R328. -/
def dmaEff (s : State) : Nat :=
  min (min 100 (s.dmaf DMA.SHARE_CTL_CAP)) ((10 - s.f Blk.therm THERM.THR_STAT_SHARE) * 10)

/-- A share window ends: each listed channel has moved up to its bytes in it, in the order served, within the cap of the
window and its own LIMIT; then the cap in use follows SHARE and CAP. -/
def dmaWindow (s : State) (moves : List (Fin 16 × Nat × List Byte)) : State :=
  if !s.fabOn then s
  else
    let budget := s.linkCap * 10 * s.dmaf DMA.SHARE_CTL_EFF / 100
    let r := moves.foldl (fun (r : Nat × State) m =>
      let c := m.1.val
      let lim := (s.reg Blk.dma (DMA.CH_LIMIT c)).toNat % 4096
      let n := min (min m.2.1 r.1) (if lim = 0 then m.2.1 else 640 * lim)
      if !r.2.dmaBusy c then r
      else
        let was := (r.2.dmaCh c).moved
        let x := r.2.dmaStep c n m.2.2
        let used := (x.2.dmaCh c).moved - was
        let st := match (x.2.dmaCh c).cur with
          | some d => if x.1 ≠ 0 then x.2.dmaComplete c x.1 d.len (d.ctl.testBit 8) false else x.2
          | none => x.2
        (r.1 - used, st)) (budget, s)
    r.2.setF Blk.dma DMA.SHARE_CTL_EFF r.2.dmaEff

/-! ### Payload tap (R367 to R369) -/

/-- The 64-byte block header and the codewords, padded to the block size. -/
def tapBytes (seq : Nat) (b : TapBlock) : List Byte :=
  let flags := b.hostBound.toNat + 2 * b.failed.toNat + 4 * b.coarse.toNat + 8 * b.gap.toNat
  let outs := (b.outcomes.zipIdx.map fun x => x.1 * 4 ^ x.2).sum
  let head := Codec.leBytes 4 seq ++ Codec.leBytes 1 b.port ++ Codec.leBytes 1 flags ++ Codec.leBytes 2 b.words.length
    ++ Codec.leBytes 8 b.pos.cw ++ Codec.leBytes 2 b.pos.gen ++ [0, 0] ++ Codec.leBytes 4 b.ns ++ Codec.leBytes 6 b.sec
    ++ [0, 0] ++ Codec.leBytes 4 outs ++ List.replicate 24 0
  let body := (b.words.map fun w => (w ++ List.replicate 680 0).take 680).flatten
  let all := head ++ Codec.leBytes 4 (Codec.crc32c head).toNat ++ body
  all ++ List.replicate (tapBlockSize b.failed - all.length) 0

/-- Codewords or blocks dropped: TAP_DROP saturates, and the next block stored carries GAP. -/
def tapLost (s : State) (n : Nat) : State :=
  let s := s.satReg Blk.dma DMA.TAP_DROP n
  { s with tap := { s.tap with gap := true } }

/-- The ring bytes from TAP_BASE, cut at the end of the capture store. -/
def tapRingSize (s : State) : Nat :=
  min (65536 * (s.reg Blk.dma DMA.TAP_SIZE).toNat) (0x2000000 - 65536 * (s.reg Blk.dma DMA.TAP_BASE).toNat)

/-- Closes the open block: it is stored in the ring, or dropped when it would overwrite a block not yet moved (R368). -/
def tapClose (s : State) : State :=
  match s.tap.block with
  | none => s
  | some b =>
    let seq := (s.reg Blk.dma DMA.TAP_SEQ).toNat
    let s := { s with tap := { s.tap with block := none } }
    let s := s.countFlag32 Blk.dma DMA.TAP_SEQ 1 DMA.TAP_STAT_SEQ_WRAP DMA.INT_WRAPPED
    let n := tapBlockSize b.failed
    let base := 65536 * (s.reg Blk.dma DMA.TAP_BASE).toNat
    let off := if s.tap.wr + n ≤ s.tapRingSize then s.tap.wr else 0
    let a := base + off
    if decide (s.tapRingSize < off + n) || s.tap.ring.any fun e => decide (e.1 < a + n) && decide (a < e.1 + e.2) then
      ((s.tapLost 1).flag Blk.dma DMA.TAP_STAT_OVF DMA.INT_TAP_OVF).perf 10 17 1
    else
      let s := s.sramWrite a (tapBytes seq { b with gap := b.gap || s.tap.gap })
      let s := { s with tap := { s.tap with ring := s.tap.ring ++ [(a, n)], wr := off + n, gap := false } }
      s.tapFill.perf 10 16 1

/-- The open block is complete: 16 codewords, or one in FAILED mode. -/
def tapFull (b : TapBlock) : Bool := b.failed || decide (16 ≤ b.words.length)

/-- The direction of the open block has left ALIGNED. -/
def tapAdrift (s : State) (b : TapBlock) : Bool :=
  !s.dirAligned b.port b.hostBound || (s.portPos b.port b.hostBound).gen != b.pos.gen

/-- A close of the open block that is due: it is complete, or its direction has left ALIGNED, which the next block's GAP
shows. -/
def tapDue (s : State) : State :=
  match s.tap.block with
  | none => s
  | some b =>
    if s.tapAdrift b then
      let s := s.tapClose
      { s with tap := { s.tap with gap := true } }
    else if tapFull b then s.tapClose
    else s

/-- The outcome code of a block header. -/
def tapCode (o : RsOutcome) : Nat := match o with
  | .clean => 0
  | .corrected _ _ => 1
  | .uncorrectable => 2

/-- FAILED mode admits another block in this second of the AON counter (R368). -/
def tapAdmits (s : State) : Bool × State :=
  let sec := s.aonCnt / 25000000
  let cnt := if s.tap.failSec = sec then s.tap.failCnt else 0
  if 1024 * max 1 (s.dmaf DMA.TAP_CTL_FAIL_MAX) ≤ cnt then (false, s)
  else (true, { s with tap := { s.tap with failSec := sec, failCnt := cnt + 1 } })

/-- A codeword that the monitor of port `p` has judged, at position `pos`, reaches the tap. -/
def tapWord (s : State) (p : Nat) (hb : Bool) (o : RsOutcome) (cw : List Byte) (pos : Pos) : State :=
  let failed := s.dmaf DMA.TAP_CTL_MODE == 1
  if !s.fb Blk.dma DMA.TAP_STAT_ACTIVE || s.dmaf DMA.TAP_CTL_PORT != p || (s.dmaf DMA.TAP_CTL_DIR == 1) != hb then s
  else if failed && tapCode o != 2 then s
  else
    let s := s.tapDue
    let a := if failed then s.tapAdmits else (true, s)
    if !a.1 then a.2.tapLost 1
    else
      let s := a.2
      let b : TapBlock := s.tap.block.getD
        ⟨p, hb, failed, false, pos, s.evtCoarse, s.evtTime.ns, s.evtTime.sec, [], []⟩
      { s with tap := { s.tap with block := some { b with outcomes := b.outcomes ++ [tapCode o], words := b.words ++ [cw] } } }

/-- An RS monitor judges a codeword (R139): the port's counters, window and position, and the tap. -/
def rsCodeword (s : State) (p : Nat) (hb : Bool) (flow : Nat) (o : RsOutcome) (cw : List Byte) : State :=
  let aligned := s.dirAligned p hb
  let was := s.portPos p hb
  let pos := if flow = 0 then was else { was with cw := was.cw - 1 }
  let s := s.rsMonitored p hb flow o
  if aligned && s.fabOn then s.tapWord p hb o cw pos else s

/-- TAP_CTL (R367): a 1.6TbE port, or enabling while CH names a bulk channel, is refused; a change closes the open block. -/
def tapCtl (s : State) (v : Word) : State :=
  let en := DMA.TAP_CTL_EN.get v = 1
  if s.uf (Blk.port (DMA.TAP_CTL_PORT.get v)) PORT.PORT_CFG_TYPE = 5 ∨ (en ∧ 8 ≤ DMA.TAP_CTL_CH.get v) then s.dmaRefused
  else
    let was := s.reg Blk.dma DMA.TAP_CTL
    let s' := s.writeReg Blk.dma DMA.TAP_CTL v
    let s := if s'.reg Blk.dma DMA.TAP_CTL = was then s else s.tapDue.tapClose
    (s.writeReg Blk.dma DMA.TAP_CTL v).setB Blk.dma DMA.TAP_STAT_ACTIVE en

/-- A write of TAP_BASE or TAP_SIZE starts an empty ring there. -/
def tapPlace (s : State) (off : Nat) (v : Word) : State :=
  let s := s.writeReg Blk.dma off v
  { s with tap := { s.tap with ring := [], wr := 0 } }.tapFill

/-! ### Power handshake (R366) -/

/-- The channels that answer for the domains `doms`: their descriptor touches one. -/
def dmaAffected (s : State) (doms : BitVec 24) : List Nat :=
  (List.range 16).filter fun c => match (s.dmaCh c).cur with
    | some d => dmaTouches doms d
    | none => false

/-- The block is asked: capture channels end their descriptor with ABORTED, bulk channels wait for its end, the tap closes
its block when its domain is included. -/
def dmaPwrAsk (s : State) (doms : BitVec 24) : PwrAnswer × State :=
  let s := if doms.getLsbD Dom.pmap || doms.getLsbD Dom.fab then s.tapDue.tapClose else s
  let l := s.dmaAffected doms
  let s := l.foldl (fun s c =>
    let s := s.modDma c fun x => { x with pwrStop := true }
    if c < 8 then s else s.dmaAbort c) s
  (if l.any (· < 8) then .delay (s.reg Blk.dma DMA.PWR_WAIT).toNat else .accept, s)

/-- No bulk channel holds up the answer any more. -/
def dmaPwrReady (s : State) : Bool := (List.range 8).all fun c => !((s.dmaCh c).pwrStop && (s.dmaCh c).cur.isSome)

/-- The request is abandoned: channels that were waiting go on. -/
def dmaPwrAbandon (s : State) : State :=
  (List.range 16).foldl (fun s c => if (s.dmaCh c).pwrStop then s.modDma c fun x => { x with pwrStop := false } else s) s

/-! ### Registers -/

/-- A write of a DMA register. -/
def dmaWriteReg (s : State) (off : Nat) (v : Word) : State :=
  if off = DMA.TAP_CTL then s.tapCtl v
  else if off = DMA.TAP_BASE ∨ off = DMA.TAP_SIZE then s.tapPlace off v
  else if off < 0x200 ∨ 0x600 ≤ off then s.writeReg Blk.dma off v
  else
    let c := (off - 0x200) / 0x40
    if off = DMA.CH_CTL c then s.dmaCtl c v
    else if off = DMA.CH_TAIL c then s.dmaTail c v
    else if off = DMA.CH_RING_LO c then s.dmaRing c false v
    else if off = DMA.CH_RING_HI c then s.dmaRing c true v
    else s.writeReg Blk.dma off v

end State
end Sys2Proof.Machine
end

