-- ==== Sys2Proof/Machine/LogOps.lean ====
section
/-! DEFINITION. The Logbook's draining, its regions, host records and snapshots (spec/15, R372 to R378). -/

namespace Sys2Proof.Machine
namespace State

/-- A field of LOG. -/
def logf (s : State) (fl : Fld) : Nat := s.f Blk.log fl

/-- CFG_REFUSED of LOG. -/
def logRefused (s : State) : State := s.flag Blk.log LOG.STAT_CFG_REFUSED LOG.INT_CFG_REFUSED

/-- The Keeper runs its firmware: PD_KPR is up, KSTAT.STAGE is RUNNING, and it is not halted (R411, R414). -/
def kprRuns (s : State) : Bool :=
  s.domReady Dom.kpr && s.f Blk.kpr KPR.KSTAT_STAGE == 7 && !s.fb Blk.kpr KPR.KCTL_HALT

/-- Both regions lie in the data area and do not overlap (R375, R376): pages `rb` to `rb + rs` and `ab` to `ab + as`. -/
def logRegionsOk (s : State) (rb rs ab as : Nat) : Bool :=
  decide (4096 * (rb + rs) ≤ s.ddrData) && decide (4096 * (ab + as) ≤ s.ddrData)
    && (decide (rb + rs ≤ ab) || decide (ab + as ≤ rb))

/-- A register of LOG as a number. -/
def logn (s : State) (off : Nat) : Nat := (s.reg Blk.log off).toNat

/-- A write of RING_BASE, RING_SIZE, ANCH_BASE or ANCH_SIZE (R375). -/
def logRegion (s : State) (off : Nat) (v : Word) : State :=
  let x := fun o => if o = off then v.toNat else s.logn o
  if s.fb Blk.log LOG.LOG_CTL_DRAIN
      || !s.logRegionsOk (x LOG.RING_BASE) (x LOG.RING_SIZE) (x LOG.ANCH_BASE) (x LOG.ANCH_SIZE) then s.logRefused
  else s.writeReg Blk.log off v

/-- ANCH_CLR (R375): the anchored region is empty. -/
def anchClr (s : State) : State := (s.setReg Blk.log LOG.ANCH_WR 0).setF Blk.log LOG.STAT_ANCHOR_FULL 0

/-- A write of LOG_CTL (R375, R376): DRAIN = 1 with regions outside the data area or overlapping is refused. -/
def logCtl (s : State) (v : Word) : State :=
  let on := LOG.LOG_CTL_DRAIN.get v = 1
  let ok := s.logRegionsOk (s.logn LOG.RING_BASE) (s.logn LOG.RING_SIZE) (s.logn LOG.ANCH_BASE) (s.logn LOG.ANCH_SIZE)
  let s := if LOG.LOG_CTL_ANCH_CLR.get v = 1 then s.anchClr else s
  if on && !ok then s.logRefused else s.setB Blk.log LOG.LOG_CTL_DRAIN on

/-- HREC_CTL (R372): GO creates the record of a host type; other types are refused. -/
def hrec (s : State) (v : Word) : State :=
  if LOG.HREC_CTL_GO.get v = 0 then s
  else if LOG.HREC_CTL_TYPE.get v < 0x8000 then s.logRefused
  else s.logRecord { typ := LOG.HREC_CTL_TYPE.get v, src := 255, anch := LOG.HREC_CTL_ANCHOR.get v == 1, free := true
                     payload := logPayload ((List.range 7).map fun i => s.logn (LOG.HREC_D i)) }

/-- STG_STAT as read: pages of each class in staging. -/
def stgStat (s : State) : Word :=
  let n := fun a => (s.log.pages.filter fun p => p.anch == a).length
  LOG.STG_STAT_ANCH.put (LOG.STG_STAT_RING.put 0 (n false)) (n true)

/-! ### Draining (R374, R375, R377) -/

/-- The sealed pages of a class in SEQ order, which is the order they were opened in. -/
def logSealed (s : State) (anch : Bool) : List LogPage := s.log.pages.filter fun p => p.anch == anch && p.sealed

/-- Reads a staging page for draining: its bytes, and the words in error. -/
def logPageRead (s : State) (pg : Nat) : List Byte × List Nat × State :=
  (List.range 256).foldl (fun (r : List Byte × List Nat × State) i =>
    let w := (0x2C00000 + 1024 * pg) / 4 + i
    let x := r.2.2.sramRead w 4
    (r.1 ++ Codec.leBytes 4 x.1.data, if x.1.flagged then i :: r.2.1 else r.2.1, x.2)) ([], [], s)

/-- Four pages are written as one page at DDR4 page `dst`, marked final; granules with a word in error are poisoned there. -/
def logMove (s : State) (four : List LogPage) (dst : Nat) : State :=
  let r := four.foldl (fun (r : List Byte × List Nat × State) p =>
    let x := r.2.2.logPageRead p.page
    (r.1 ++ x.1, r.2.1 ++ x.2.1.map fun i => 64 * dst + (r.1.length + 4 * i) / 64, x.2.2)) ([], [], s)
  let s := r.2.2.ddrWrite (4096 * dst) r.1 true
  let s := s.modDdr fun d => { d with poison := r.2.1.foldl (fun m g => SMap.put false m g true) d.poison }
  let s := if r.2.1.isEmpty then s else s.flag Blk.log LOG.STAT_DRAIN_UE LOG.INT_DRAIN_UE
  let gone := four.map (·.page)
  let unsealed := SMap.drop (fun g => gone.any fun x => g == 0x2C00000 / 1024 + x) s.sram.sealed
  { s with
    log := { s.log with pages := s.log.pages.filter fun p => !gone.contains p.page }
    sram := { s.sram with sealed := unsealed } }

/-- Four ring-class pages go to the ring, which wraps (R375). -/
def logDrainRing (s : State) (four : List LogPage) : State :=
  let size := s.logn LOG.RING_SIZE
  let wr := s.logn LOG.RING_WR
  let s := s.logMove four (s.logn LOG.RING_BASE + wr / 64 % size)
  let next := (wr + 64) % (64 * size)
  let s := s.setReg Blk.log LOG.RING_WR (BitVec.ofNat 32 next)
  if next = 0 ∧ !s.fb Blk.log LOG.STAT_RING_WRAP then s.flag Blk.log LOG.STAT_RING_WRAP LOG.INT_WRAPPED else s

/-- ANCHOR_FULL follows from a full region. -/
def anchFull (s : State) : State :=
  if 64 * s.logn LOG.ANCH_SIZE ≤ s.logn LOG.ANCH_WR then
    (if s.fb Blk.log LOG.STAT_ANCHOR_FULL then s else s.flag Blk.log LOG.STAT_ANCHOR_FULL LOG.INT_ANCHOR_FULL)
  else s

/-- Four anchored-class pages go to the anchored region, which never wraps (R375). -/
def logDrainAnch (s : State) (four : List LogPage) : State :=
  let wr := s.logn LOG.ANCH_WR
  let s := s.logMove four (s.logn LOG.ANCH_BASE + wr / 64)
  (s.setReg Blk.log LOG.ANCH_WR (BitVec.ofNat 32 (wr + 64))).anchFull

/-- The Keeper drains four sealed pages of one class: the class whose oldest sealed page is older, of those that have four
and somewhere to go (R374). -/
def logDrain (s : State) : State :=
  if !s.fabOn || !s.kprRuns || !s.ddrServes || !s.fb Blk.log LOG.LOG_CTL_DRAIN then s
  else
    let s := s.anchFull
    let r := s.logSealed false
    let a := s.logSealed true
    let ringGo := decide (4 ≤ r.length) && decide (0 < s.logn LOG.RING_SIZE)
    let anchGo := decide (4 ≤ a.length) && !s.fb Blk.log LOG.STAT_ANCHOR_FULL
    let order := s.log.pages.find? fun p => p.sealed && (if p.anch then anchGo else ringGo)
    match order with
    | none => s
    | some p => if p.anch then s.logDrainAnch (a.take 4) else s.logDrainRing (r.take 4)

/-! ### Snapshots (R378) -/

/-- One SNAPSHOT record: set bit, instance and values. -/
def snapRec (s : State) (pos : Pos) (set inst : Nat) (vals : List Nat) : State :=
  s.logRecord { typ := 0x0031, src := Blk.log, free := true, pos := pos, payload := logPayload ((set + 256 * inst) :: vals) }

/-- Registers of a block as numbers. -/
def regsOf (s : State) (b : Nat) (l : List Nat) : List Nat := l.map fun o => (s.reg b o).toNat

/-- A LOG_SNAP firing (R378): the sets of `arg`, with the firing's position. -/
def logSnap (s : State) (arg : Nat) (pos : Pos) : State :=
  let s := if arg.testBit 0 then s.snapRec pos 0 0 (s.regsOf Blk.therm [THERM.TMAX, THERM.TAVG, THERM.THR_STAT]) else s
  let s := if !arg.testBit 1 then s else (List.range 17).foldl (fun s n =>
    if s.fb Blk.fec (FEC.LPC_STAT_ACTIVE n) then
      s.snapRec pos 1 n (s.regsOf Blk.fec [FEC.ROW_LO n, FEC.ROW_HI n, FEC.CORR_LO n, FEC.CORR_HI n, FEC.FAIL n])
    else s) s
  let s := if !arg.testBit 2 then s else (List.range 17).foldl (fun s n =>
    if s.fb (Blk.llane n) LLANE.INNER_STAT_LOCK then
      s.snapRec pos 2 n (s.regsOf (Blk.llane n) [LLANE.SYM_CNT_LO, LLANE.SYM_CNT_HI, LLANE.CORR_BITS_LO, LLANE.CORR_BITS_HI,
        LLANE.CW_FAIL])
    else s) s
  let s := if !arg.testBit 3 then s else (List.range 64).foldl (fun s p =>
    if s.portEnabled p then
      s.snapRec (s.portPos p true) 3 p (s.regsOf (Blk.port p) [PORT.RX_CW_LO, PORT.RX_CW_HI, PORT.RX_CWC_LO, PORT.RX_CWC_HI,
        PORT.RX_UNC, PORT.LINE_FAIL])
    else s) s
  let s := if !arg.testBit 4 then s else
    let s := (List.range 4).foldl (fun s n =>
      let t := timeVal (s.tbAcc n)
      s.snapRec pos 4 n [t.ns, t.sec % 2 ^ 32, t.sec / 2 ^ 32 + t.frac * 2 ^ 16]) s
    s.snapRec pos 4 4 [s.aonCnt, s.aonCnt / 2 ^ 32]
  if arg.testBit 5 then
    s.snapRec pos 5 0 (s.regsOf Blk.mem [MEM.SCRUB_LAP, MEM.SCRUB_POS] ++ s.regsOf Blk.ddr [DDR.SCRUB_LAP, DDR.SCRUB_POS])
  else s

/-- A write of a LOG register. -/
def logWriteReg (s : State) (off : Nat) (v : Word) : State :=
  if off = LOG.LOG_CTL then s.logCtl v
  else if off = LOG.RING_BASE ∨ off = LOG.RING_SIZE ∨ off = LOG.ANCH_BASE ∨ off = LOG.ANCH_SIZE then s.logRegion off v
  else if off = LOG.HREC_CTL then s.hrec v
  else s.writeReg Blk.log off v

end State
end Sys2Proof.Machine
end

