-- ==== Sys2Proof/Machine/PwrDomains.lean ====
section
/-! DEFINITION. Power domains (spec/01, spec/16): which domains a state leaves on, what a power-down loses and keeps, and what
a power-up brings. -/

namespace Sys2Proof.Machine

/-- What a power-down keeps: the coefficient and Keeper banks retained, and whether a power state is entered. -/
structure Retain where
  coef : Nat
  kpr : Nat
  state : Bool
deriving DecidableEq, Repr

namespace State

/-! ### Domains (R13, R14, R20 to R23, R383) -/

/-- The set of one domain. -/
def domBit (d : Nat) : BitVec 24 := BitVec.ofNat 24 (2 ^ d)

/-- The ancestors of a domain, nearest first (R13): no chain is longer than four. -/
def domAncestors (d : Nat) : List Nat :=
  let up := fun (x : Option Nat) => x.bind domParent
  let a := domParent d
  [a, up a, up (up a), up (up (up a))].filterMap id

/-- Domain `d` and its powered descendants (R14). -/
def domTree (s : State) (d : Nat) : List Nat :=
  (List.range 24).filter fun x => (x == d || (domAncestors x).contains d) && s.domOn.getLsbD x

/-- The set of a list of domains. -/
def domSet (l : List Nat) : BitVec 24 := l.foldl (fun m d => m ||| domBit d) 0

/-- The lane domains: PD_LCD0 to PD_HC3. -/
def laneDoms : BitVec 24 := 0x1FFF00

/-- The domains that state `t` leaves in a condition other than On (R383), less those kept under PWR.KEEP. -/
def notOn (s : State) (t : Nat) : BitVec 24 :=
  let kept : BitVec 24 :=
    if t = 3 then (if s.pwf PWR.KEEP_PS3_HK = 1 then domBit Dom.hk else 0)
    else if t = 4 then (if s.pwf PWR.KEEP_PS4_HK = 1 then domBit Dom.hk else 0)
      ||| (if s.pwf PWR.KEEP_PS4_FOG = 1 then domBit Dom.fog else 0)
    else 0
  if t = 1 then laneDoms
  else if t = 2 then laneDoms ||| domBit Dom.ddr ||| domBit Dom.pmap
  else 0xFFFFFE &&& ~~~kept

/-- An enabled and placed port uses domain `d` (R23): its line lanes' clusters, its host lanes' cluster, PD_PMAP, and PD_HK
where FLOOR_HK is programmed. -/
def domInService (s : State) (d : Nat) : Bool :=
  (List.range 64).any fun p =>
    let v := s.portUsed p
    s.portEnabled p && v.typ != 0 && (d == Dom.pmap || (d == Dom.hk && s.fuseFloorHk)
      || (s.portLineLanes p).any (fun l => decide (l < 16) && (d == Dom.lcd (l / 4) || d == Dom.lca (l / 4)))
      || d == Dom.hc v.hclu)

/-- The coefficient retention bank of a block (R391); 8 stands for none. -/
def retBank (b : Nat) : Nat :=
  match blkType b with
  | .lclu => blkInstance b
  | .llane => if blkInstance b = 16 then 4 else blkInstance b / 4
  | .pmap | .fec | .port => 4
  | .hclu => 5 + blkInstance b / 2
  | .hlane => 5 + blkInstance b / 32
  | _ => if 2 ≤ blkDomain b ∧ blkDomain b ≤ 7 then 7 else 8

/-- Block `b` keeps its registers. -/
def keeps (r : Retain) (b : Nat) : Bool :=
  r.state && (if b = Blk.time ∨ b = Blk.tsu ∨ b = Blk.sched then r.kpr.testBit 14 else r.coef.testBit (retBank b))

/-! ### What a power-down loses -/

/-- The event scheduler's table is lost (R295): every entry reads disabled with LAST = LOST. -/
def tableLost (s : State) : State :=
  let s := (List.range Blk.count).foldl (fun s b => s.disarm b) s
  { s with sched := { s.sched with entries := (List.range 256).map fun k => (k, { last := 6 }) } }

/-- PD_TIME goes down: FIFO contents and waiting steps are lost, and without bank 14 everything else. -/
def timeDown (s : State) (keep : Bool) : State :=
  let s := { s with tpi := [], tbStep := [], sched := { s.sched with hist := [] } }
  if keep then
    let s := (List.range 2).foldl (fun s j => s.setF Blk.time (TIME.TPI_STAT_COUNT j) 0) s
    let s := (List.range 4).foldl (fun s n => s.setF Blk.time (TIME.TB_STAT_STEP_PEND n) 0) s
    { s with
      portTsu := s.portTsu.map fun x => (x.1, { x.2 with tx := [], rx := [] })
      laneTsu := s.laneTsu.map fun x => (x.1, { x.2 with fifo := [] }) }
  else
    { s.tableLost with tb := [], portTsu := [], laneTsu := [], tpoIssued := [] }

/-- Engine `e` goes down (R172): everything is lost but its handoff area, and the microcode bank in use, which the Keeper
reloads with the same number and version. -/
def engDown (s : State) (e : Nat) (keep : Bool) : State :=
  let use := s.ef e ENG.LE_STAT_BANK_IN_USE
  let uses := keep && s.bankValid e use
  let base := 0x2F00000 + e * 0x10000
  let kept := fun (o : Nat) => keep && (decide (0xFF00 ≤ o) || (uses && decide (o / 0x2000 = use)))
  let s := s.sramForget fun a => decide (base ≤ a) && decide (a < base + 0x10000) && !kept (a - base)
  let s := if keep then s.setEf e (bankFields (1 - use)).1 0 else s
  ({ s with engines := SMap.erase s.engines e, prims := SMap.erase s.prims (if e < 17 then e else e + 15) })

/-- Line lane `n` goes down. -/
def lineDown (s : State) (n : Nat) (keep : Bool) : State :=
  let s := if keep then s else { s with line := SMap.erase s.line n }
  s.engDown n keep

/-- Host cluster `k` goes down. -/
def hostDown (s : State) (k : Nat) (keep : Bool) : State :=
  let lanes := (List.range 16).map (16 * k + ·)
  let s := lanes.foldl (fun s m =>
    let s := { s with prims := SMap.erase s.prims (32 + m) }
    if keep then s else { s with host := SMap.erase s.host m }) s
  s.engDown (17 + k) keep

/-- PD_FOG goes down (R220, R227): packets and the protocol's progress are lost; the pairing record of Keeper bank 15 is not. -/
def fogDown (s : State) : State :=
  let t := s.twin
  let rec_ := decide (3 ≤ s.pairState)
  let ids := (List.range 4).map fun i => s.reg Blk.twin (TWIN.PEER_ID i)
  let s := { s with fog := {}, twin := { keys := rec_ && t.keys, txCnt := t.txCnt, rxCnt := t.rxCnt, health := [], record := rec_
                                         peer := ids } }
  s

/-- The on-chip memories of PD_FAB go down: contents other than the retention banks, staging and the seals are lost. -/
def fabDown (s : State) (r : Retain) : State :=
  let s := s.logFree
  let s := s.sramForget fun a => match sramRegion a with
    | some (4, _) => !(r.state && r.coef.testBit ((a - 0x2D00000) / 0x20000))
    | some (1, _) | some (6, _) | some (7, _) => false
    | _ => true
  let s := s.goldShow
  { s with dma := [], tap := {}, hold := [], log := { s.log with limited := [], anchored := [] } }

/-- PD_KPR goes down: Keeper banks not retained are lost (R391); bank 13 holds the configuration versions (R419).
The images themselves lie in flash. -/
def kprDown (s : State) (r : Retain) : State :=
  let s := if r.state && r.kpr.testBit 13 then s
    else { s with
      cfgv := { active := s.cfgv.active, previous := s.cfgv.previous }
      regs := SMap.drop (fun k => k / 4096 == Blk.cfgv && decide (0x110 ≤ k % 4096) && decide (k % 4096 < 0x120)) s.regs }
  s.sramForget fun a => inRegion 1 a && !(r.state && r.kpr.testBit ((a - 0x2000000) / 0x40000))

/-- PD_PCIE goes down: configuration space and the MSI-X table come back from bank 7, or as after a fundamental reset
(R385). -/
def pcieDown (s : State) (keep : Bool) : State :=
  let s := (s.setF Blk.pcie PCIE.LINK_STAT_DL_ACTIVE 0).setF Blk.pcie PCIE.LINK_STAT_SPEED 0
  if keep then { s with d3hot := true } else { s with msix := [], pba := 0, msixEn := false, busMaster := false, d3hot := false }

/-- What the units in the domains `d` lose as these power down: their hidden state, where `r` does not retain it. -/
def unitsDown (s : State) (d : BitVec 24) (r : Retain) : State :=
  let has := fun x => d.getLsbD x
  let k := fun b => keeps r b
  let s := if has Dom.test then { s with bist := {}, dbg := {} } else s
  let s := if has Dom.pcie then s.pcieDown (k Blk.pcie) else s
  let s := if has Dom.fog then s.fogDown else s
  let s := (List.range 4).foldl (fun s c =>
    if has (Dom.lcd c) then [0, 1, 2, 3].foldl (fun s i => s.lineDown (4 * c + i) (k (Blk.lclu c))) s else s) s
  let s := if has Dom.spr then s.lineDown 16 (k (Blk.llane 16)) else s
  let s := (List.range 4).foldl (fun s c => if has (Dom.hc c) then s.hostDown c (k (Blk.hclu c)) else s) s
  let s := if has Dom.pmap then { s with portMon := [], tap := { s.tap with block := none } } else s
  if has Dom.time then s.timeDown (k Blk.time) else s

/-- The same of PD_HK, PD_KPR and PD_FAB. -/
def coresDown (s : State) (d : BitVec 24) (r : Retain) : State :=
  let has := fun x => d.getLsbD x
  let s := if has Dom.hk then
      (if keeps r Blk.hk then
        { s with hk := s.hk.map fun x => (x.1, { x.2 with good := 0, settle := 0, chain := none, fifo := [] }) }
       else { s with hk := [], hdac := [], fcoef := [] })
    else s
  let s := if has Dom.kpr then s.kprDown r else s
  if has Dom.fab then s.fabDown r else s

/-- The registers of the blocks in the domains `d` that `r` does not retain return to Reset. -/
def pagesDown (s : State) (d : BitVec 24) (r : Retain) : State :=
  (List.range Blk.count).foldl (fun s b => if d.getLsbD (blkDomain b) && !keeps r b then s.clearBlk b else s) s

/-- The line clusters whose PD_LCA alone is among `d` lose their PLL. -/
def analogDown (s : State) (d : BitVec 24) : State :=
  (List.range 4).foldl (fun s c =>
    if d.getLsbD (Dom.lca c) && !d.getLsbD (Dom.lcd c) then
      (s.pllStop (.line (Fin.ofNat 4 c))).lineSlices [4 * c, 4 * c + 1, 4 * c + 2, 4 * c + 3]
    else s) s

/-- The domains of `d` lose power, keeping what `r` retains; every other register of their blocks returns to Reset. -/
def domainsDown (s : State) (d : BitVec 24) (r : Retain) : State :=
  let d := d &&& s.domOn
  let s := s.bistParents d
  let unlocked := d.getLsbD Dom.test && s.fb Blk.dbg DBG.STAT_LEVEL
  let s := ((s.unitsDown d r).coresDown d r).pagesDown d r
  let s := if unlocked then s.setF Blk.dbg DBG.STAT_LAST_EXPIRY (if r.state then 2 else 1) else s
  let s := { s with domOn := s.domOn &&& ~~~d, domBusy := s.domBusy &&& ~~~d
                    ddr := if d.getLsbD Dom.ddr then { s.ddr with training := false } else s.ddr
                    pwr := { s.pwr with timeLost := s.pwr.timeLost || (d.getLsbD Dom.time && !r.state) } }
  (s.analogDown d).squelchAll.portsEval

/-! ### What a power-up brings -/

/-- The pairing record is restored when PD_FOG powers up (R220, R227): ADRIFT, with KEYS_LOST when bank 15 is lost. -/
def fogUp (s : State) (kept : Bool) : State :=
  if !s.twin.record then s
  else
    let s := s.twin.peer.zipIdx.foldl (fun s x => s.setReg Blk.twin (TWIN.PEER_ID x.2) x.1) s
    let s := (s.setPair 4).setB Blk.twin TWIN.PAIR_STAT_KEYS_LOST (!kept)
    let s := (s.setReg Blk.twin TWIN.TX_CNT (BitVec.ofNat 32 s.twin.txCnt)).setReg Blk.twin TWIN.RX_CNT
      (BitVec.ofNat 32 s.twin.rxCnt)
    (s.modTwin fun t => { t with record := false, keys := t.keys && kept }).twinForget

/-- TABLE_LOST is set and raised (R295). -/
def tableLostShow (s : State) : State := s.flag Blk.sched SCHED.SCHED_STAT_TABLE_LOST SCHED.INT_TABLE_LOST

/-- A domain powered up outside a power state is ready (R295, R314, R346, R399). `ddrKept`: the saved bitmap checks and the
devices kept power. -/
def domainUp (s : State) (d : Nat) (ddrKept : Bool) : State :=
  let s := { s with domOn := s.domOn ||| domBit d, domBusy := s.domBusy &&& ~~~domBit d }
  if d = Dom.hk then s.hkPowerUp.squelchAll
  else if d = Dom.fog then s.fogUp true
  else if d = Dom.time ∧ s.pwr.timeLost then (s.modPwr fun p => { p with timeLost := false }).tableLostShow
  else if d = Dom.ddr then (if s.ddr.pv.isEmpty then s else s.ddrResume ddrKept)
  else s.squelchAll.portsEval

end State
end Sys2Proof.Machine
end

