-- ==== Sys2Proof/Machine/PwrOps.lean ====
section
/-! DEFINITION. Power states and domain requests (spec/16): requests, the entry handshake, the steps of entry and exit,
rollback, wakes, and the PMBus requests. -/

namespace Sys2Proof.Machine
namespace State

/-! ### The entry handshake (R386, R387) -/

/-- The engines that a block answers for (R171). -/
def blkEngines (b : Nat) : List Nat :=
  match blkType b with
  | .lclu => [0, 1, 2, 3].map (4 * blkInstance b + ·)
  | .llane => if blkInstance b = 16 then [16] else []
  | .hclu => [17 + blkInstance b]
  | _ => []

/-- The blocks whose answer is asked: those whose chapters state one, in the powered domains of the request. FOG is asked
in PS4 even when kept (R386); DMA answers for the domains its channels touch (R366), TWIN also for a power-down of a line
cluster (R244). -/
def hsBlocks (s : State) (doms : BitVec 24) : List Nat :=
  let has := fun d => doms.getLsbD d && s.domOn.getLsbD d
  let fogKept := s.pwr.target = 4 ∧ s.domOn.getLsbD Dom.fog
  (List.range Blk.count).filter fun b =>
    match blkType b with
    | .lclu | .hclu | .hlane => has (blkDomain b)
    | .llane => decide (b = Blk.llane 16) && has Dom.spr
    | .fog => has Dom.fog || decide fogKept
    | .twin => has Dom.fog || (decide (s.pwr.target = 0) && s.domOn.getLsbD Dom.fog && [0, 1, 2, 3].any fun c => has (Dom.lcd c))
    | .hk | .hdac => has Dom.hk
    | .ddr => has Dom.ddr
    | .dma => s.domOn.getLsbD Dom.fab
    | .pcie => decide (3 ≤ s.pwr.target) && has Dom.pcie
    | .cfgv => has Dom.kpr
    | _ => false

/-- Block `b` is asked: its engines that wait for PWR_REQ are woken (R171). -/
def hsAsk (s : State) (b : Nat) : State :=
  (blkEngines b).foldl (fun s e =>
    let s := s.modEng e fun g => { g with pwrAnswer := none, pwrTarget := s.pwr.target }
    match (s.eng e).run with
    | .waiting m _ => if m.testBit 5 then (s.modEng e fun g => { g with pwrPending := true }).engWake e else s
    | _ => s) s

/-- The answer of a block that holds engines: the first REFUSE, else a DELAY if any. An engine that has written nothing
within 100 µs answers DELAY 10 µs (R171). -/
def engsAnswer (s : State) (b : Nat) : PwrAnswer :=
  (blkEngines b).foldl (fun a e =>
    match a, (s.engAnswer e).getD (.delay 10) with
    | .refuse r, _ => .refuse r
    | _, .refuse r => .refuse r
    | .delay u, _ => .delay u
    | .accept, x => x) .accept

/-- The answer of block `b`, and what it does with it. `t` is what its chapter measures: for FOG the remaining milliseconds
of its packet, for HK the remaining microseconds of its passes, for DMA the microseconds since it was asked. -/
def hsAnswer (s : State) (b t : Nat) : PwrAnswer × State :=
  match blkType b with
  | .hlane => (s.hostAnswer (blkInstance b), s)
  | .fog =>
    let a := s.fogAnswer t
    (a, if a = .accept then s.fogAbort else s)
  | .twin => (s.twinAnswer ((List.range 24).filter fun d => s.pwr.doms.getLsbD d), s)
  | .hk =>
    let a := s.hkAnswer t
    (a, if a = .accept then s.hkAbandon else s)
  | .hdac => (s.hdacAnswer, s)
  | .ddr => if s.ddrServes then (.delay 50, s.ddrSleep) else (.accept, s)
  | .dma =>
    let r := s.dmaPwrAsk s.pwr.doms
    (if r.1 = .accept then .accept else if (s.reg Blk.dma DMA.PWR_WAIT).toNat < t then .refuse 7 else .delay 10, r.2)
  | .pcie => (if s.linkUp && !s.d3hot then .refuse 8 else .accept, s)
  | .cfgv => (if s.f Blk.cfgv CFGV.STAT_PHASE = 2 then .delay 1000 else .accept, s)
  | _ => (s.engsAnswer b, s)

/-- The request has ended without its power-down: what blocks did for it is undone. -/
def hsUndo (s : State) : State :=
  let s := (List.range 21).foldl (fun s e => s.modEng e fun g => { g with pwrPending := false, pwrAnswer := none }) s
  let s := s.dmaPwrAbandon
  let s := (List.range 16).foldl (fun s c => if s.dmaState c = 5 then s.dmaGo c else s) s
  let s := if s.domReady Dom.ddr && s.fb Blk.ddr DDR.STAT_SELF_REFRESH then s.ddrResume true else s
  s.modPwr fun p => { p with asked := [], waiting := [], delaying := [], doms := 0, target := 0, step := 0, dom := none }

/-- The operation under way ends: BUSY clears. -/
def pwrIdle (s : State) : State := (s.setF Blk.pwr PWR.STAT_BUSY 0).avsUpdate

/-- A request is refused (R386, R387): LAST_ENTRY 2 REFUSED or 4 TIMEOUT; an entry ends at AP1. -/
def pwrRefuse (s : State) (last refuser reason : Nat) (isDom : Bool) : State :=
  let s := if s.pwr.target ≠ 0 then s.setF Blk.pwr PWR.STAT_AP 1 else s
  let s := (s.setF Blk.pwr PWR.STAT_LAST_ENTRY last).setF Blk.pwr PWR.STAT_REFUSER refuser
  let s := (s.setF Blk.pwr PWR.STAT_REASON reason).setB Blk.pwr PWR.STAT_REF_IS_DOM isDom
  (s.hsUndo.raise Blk.pwr PWR.INT_REFUSED).pwrIdle

/-- BAD_REQ (R384): nothing else changes. -/
def pwrBad (s : State) : State := (s.setF Blk.pwr PWR.STAT_LAST_ENTRY 6).raise Blk.pwr PWR.INT_REFUSED

/-- The handshake passes once every asked block has accepted: AP1 of an entry, or the power-down of a domain begins. -/
def hsPass (s : State) : State :=
  if s.pwr.step ≠ 1 ∨ !s.pwr.waiting.isEmpty ∨ !s.pwr.delaying.isEmpty then s
  else
    let s := s.modPwr fun p => { p with step := 2 }
    if s.pwr.target ≠ 0 then s else { s with domBusy := s.domBusy ||| (s.pwr.doms &&& s.domOn) }

/-- The handshake starts with the domains `doms`. -/
def hsStart (s : State) (doms : BitVec 24) : State :=
  let s := if doms.getLsbD Dom.test then s.bistCut 10 else s
  let l := s.hsBlocks doms
  let s := s.modPwr fun p => { p with step := 1, doms := doms, asked := l, waiting := l, delaying := [] }
  (l.foldl hsAsk s).hsPass

/-- A block answers (R386). -/
def hsReply (s : State) (b t : Nat) : State :=
  if s.pwr.step ≠ 1 ∨ !s.pwr.waiting.contains b then s
  else
    let a := s.hsAnswer b t
    let s := a.2.modPwr fun p => { p with waiting := p.waiting.filter (· != b) }
    match a.1 with
    | .accept => s.hsPass
    | .delay _ => s.modPwr fun p => { p with delaying := p.delaying ++ [b] }
    | .refuse r => s.pwrRefuse 2 b r false

/-- The DELAY of a block expires, and it is asked again. -/
def hsExpire (s : State) (b : Nat) : State :=
  if s.pwr.step ≠ 1 ∨ !s.pwr.delaying.contains b then s
  else (s.modPwr fun p => { p with delaying := p.delaying.filter (· != b), waiting := p.waiting ++ [b] }).hsAsk b

/-- HS_LIMIT elapses (R386): REFUSER names a block still delaying, where several do one of them. -/
def hsTimeout (s : State) : State :=
  if s.pwr.step ≠ 1 then s
  else
    let c := s.choose (if s.pwr.delaying.isEmpty then s.pwr.waiting else s.pwr.delaying)
    c.2.pwrRefuse 4 (c.1.getD 0) 0x0B false

/-- REFCLK is lost during the handshake of an entry (R402): REFUSER names CLK. -/
def hsRefLost (s : State) : State :=
  if s.pwr.step = 1 ∧ s.pwr.target ≠ 0 then s.pwrRefuse 2 Blk.clk 0 false else s

/-! ### Entry (R384, R388) -/

/-- Microseconds since the operation began, by the AON counter. -/
def pwrElapsed (s : State) : Word := BitVec.ofNat 32 (min (2 ^ 32 - 1) ((s.aonCnt - s.pwr.startAon) * 40 / 1000))

/-- The entry is abandoned by a wake at abort point `ap` (R389, R390): LAST_ENTRY = ABORTED_WAKE. -/
def pwrAborted (s : State) (ap : Nat) : State :=
  let s := (s.setF Blk.pwr PWR.STAT_LAST_ENTRY 3).setF Blk.pwr PWR.STAT_AP ap
  ((s.hsUndo.modPwr fun p => { p with wake := false }).raise Blk.pwr PWR.INT_ABORTED).pwrIdle

/-- A request for state `t` (R384). A wake decided in the same AON clock cycle comes first (R390), as does a WAKE pin held at its
active level (R393). -/
def pwrRequest (s : State) (t : Nat) : State :=
  if t = 0 ∨ 6 ≤ t ∨ s.pwf PWR.STAT_STATE ≠ 0 ∨ s.fb Blk.pwr PWR.STAT_BUSY then s.pwrBad
  else
    let s := (s.setF Blk.pwr PWR.STAT_BUSY 1).bistCut 10
    let s := s.modPwr fun p => { p with target := t, startAon := s.aonCnt, wake := false }
    let early := (List.range 9).filter fun i => wakeListed i t &&
      ((decide (s.pwr.seenAt = s.aonCnt) && s.pwr.seen.testBit i) || ((s.f Blk.pwr PWR.WAKE_EN_EN).testBit i && s.wakeHeld i))
    if early.isEmpty then s.hsStart (s.notOn t) else (early.foldl wakeUp s).pwrAborted 1

/-- A write of PWR.REQ by requester `q` (R384, R393): TARGET 0 from PCIe is the PCIe wake. -/
def pwrReq (s : State) (q : Requester) (v : Word) : State :=
  if PWR.REQ_GO.get v = 0 then s
  else if PWR.REQ_TARGET.get v = 0 ∧ q = .pcie then s.wakeUp 5
  else s.pwrRequest (PWR.REQ_TARGET.get v)

/-- The state is reached (step 8): `last` is COMPLETED, or PWR_FAULT (R398). -/
def pwrReached (s : State) (last : Nat) : State :=
  let t := s.pwr.target
  let s := (s.setF Blk.pwr PWR.STAT_STATE t).setF Blk.pwr PWR.STAT_LAST_ENTRY last
  let s := s.setReg Blk.pwr PWR.ENTRY_US s.pwrElapsed
  let s := s.modPwr fun p => { p with target := 0, step := 0, asked := [], waiting := [], delaying := [], doms := 0 }
  (s.raise Blk.pwr PWR.INT_ENTERED).pwrIdle

/-- Every PLL of the device. -/
def allPlls : List PllId :=
  [.line 0, .line 1, .line 2, .line 3, .spare, .hostA 0, .hostA 1, .hostA 2, .hostA 3, .hostB 0, .hostB 1, .hostB 2, .hostB 3]

/-- Step 3 (R388, R193, R213): host lanes that are UP enter electrical idle; in PS1 ports go to FREEWHEEL; deeper, lanes are
squelched, PLLs and datapath and engine clocks stop, and ports go to DOWN. -/
def pwrQuiet (s : State) (deep : Bool) : State :=
  let s := if deep then s else s.portsFreewheel
  let s := s.modPwr fun p => { p with idle := true, clkOff := deep }
  let s := (List.range 64).foldl (fun s m =>
    if s.blkOn (Blk.hlane m) && s.hostState m == 7 then
      (s.modHlane m fun h => { h with asleep := true }).setF (Blk.hlane m) HLANE.HL_STAT_TX_IDLE 1
    else s) s
  let s := if deep then (List.range 17).foldl codecRefresh (allPlls.foldl pllStop s) else s
  s.squelchAll.portsEval

/-- Step 6 (R276, R294, R388): the time bases are latched, the earliest wake entry becomes an AON compare, and the domain
switches open. -/
def pwrLatch (s : State) : State :=
  let lead := (if s.pwr.target = 3 then 100000 else 1000000) + s.f Blk.sched SCHED.SCHED_CFG_WAKE_MARGIN * 1000
  let cmps := if s.timeOn && decide (s.pwr.target ≤ 4) then
      (s.sched.entries.filter fun x => x.2.en && x.2.isTime && SCHED.SE_W0_WAKE.get x.2.w0 == 1
        && s.fb Blk.time (TIME.TB_CTL_EN x.2.tb) && decide (x.2.state = 1)).map fun x =>
          s.aonCnt + (x.2.time - s.tbNs x.2.tb - lead + 39) / 40
    else []
  let cmp := cmps.foldl (fun (a : Option Nat) c => some (match a with
    | some b => min b c
    | none => c)) none
  let tbs := (List.range 4).map fun n => TbLatch.mk (s.tbAcc n) (s.reg Blk.time (TIME.TB_FREQ_LO n))
    (s.reg Blk.time (TIME.TB_FREQ_HI n)) (s.timeOn && s.fb Blk.time (TIME.TB_CTL_EN n))
  let s := s.modPwr fun p => { p with a0 := s.aonCnt, tol := s.reg Blk.time TIME.AON_TOL, tbs := if s.timeOn then tbs else []
                                      wakeCmp := cmp }
  if s.timeOn then s.setB Blk.sched SCHED.SCHED_STAT_WAKE_ARMED cmp.isSome else s

/-- The domain switches open. -/
def pwrOpen (s : State) : State :=
  let d := s.notOn s.pwr.target &&& s.domOn
  let deep := s.pwr.target = 5
  let r : Retain := { coef := if deep then 0 else s.pwr.retCoef, kpr := if deep then 0 else s.pwr.retKpr, state := true }
  let s := s.modPwr fun p => { p with down := d }
  s.domainsDown d r

/-- RET_MV, limited to 650 to 800. -/
def retMv (s : State) : Nat := max 650 (min 800 (s.pwf PWR.AVS_CTL_RET_MV))

/-- A timed step of entry completes (R388). -/
def entryStep (s : State) : State :=
  let t := s.pwr.target
  if t = 0 then s
  else match s.pwr.step with
  | 2 =>
    let s := (s.pwrQuiet (decide (2 ≤ t))).modPwr fun p => { p with step := 3 }
    if t ≤ 2 then s.pwrReached 1 else s
  | 3 =>
    s.modPwr fun p => { p with step := 4, retKpr := s.pwf PWR.RET_KPR_BANKS, retCoef := s.pwf PWR.RET_COEF_BANKS
                               saved := p.saved ||| s.pwf PWR.RET_COEF_BANKS }
  | 4 => (s.setF Blk.pcie PCIE.LINK_STAT_DL_ACTIVE 0).modPwr fun p => { p with step := 5 }
  | 5 =>
    let s := (s.pwrLatch.pwrOpen).modPwr fun p => { p with step := 6 }
    if t = 3 then s.pwrReached 1
    else
      let v := if t = 4 then s.voltBegin s.retMv 1 false else s.voltBegin 0 1 true
      if v.1 then v.2.pwrReached 1 else v.2.modPwr fun p => { p with step := 7 }
  | _ => s

/-! ### Rollback, wakes and exit (R389 to R395) -/

/-- Lanes leave electrical idle: squelch cause PWR ends, and host transmitters start their burst. -/
def pwrUnquiet (s : State) : State :=
  let s := s.modPwr fun p => { p with idle := false }
  let s := (List.range 64).foldl (fun s m =>
    if s.blkOn (Blk.hlane m) && (s.hlane m).asleep then s.setF (Blk.hlane m) HLANE.HL_STAT_TX_IDLE 0 else s) s
  s.squelchAll.portsEval

/-- The clocks run again and every enabled PLL relocks with its retained calibration (R193, R395); its lock time is the
figure it had. -/
def pwrClocks (s : State) : State :=
  let s := s.modPwr fun p => { p with clkOff := false }
  let s := allPlls.foldl (fun s p => s.pllLock p (s.f (pllRegs p).blk (pllRegs p).us)) s
  (List.range 17).foldl codecRefresh s

/-- The last abort point that state `t` has: AP1, AP2, or AP4 (R388). -/
def lastAp (t : Nat) : Nat := if t = 1 then 1 else if t = 2 then 2 else 4

/-- The abort points passed after step `st` of R388. -/
def apPassed (st : Nat) : Nat := if st ≤ 1 then 0 else min 4 (st - 1)

/-- The device rolls back from the most recent abort point passed (R389). -/
def pwrRollback (s : State) : State :=
  let ap := apPassed s.pwr.step
  let s := if 2 ≤ ap then s.pwrClocks.pwrUnquiet else s
  s.pwrAborted (max 1 ap)

/-- The voltage for an exit from PS4 or PS5 has been acknowledged, or needs no change. -/
def exitBegin (s : State) : State :=
  let st := s.pwf PWR.STAT_STATE
  let s := s.setF Blk.pwr PWR.STAT_BUSY 1
  let s := s.modPwr fun p => { p with from_ := st, startAon := s.aonCnt, wake := false, exitStep := if st = 1 then 6 else if st = 2 then 5 else if st = 3 then 2 else 1 }
  if st ≤ 3 then s
  else
    let v := s.voltBegin s.avsTarget 2 false
    if v.1 then v.2.modPwr fun p => { p with exitStep := 2 } else v.2

/-- A wake decision is acted on (R389): it rolls an entry back before the state's last abort point, waits after it, or starts
the exit. -/
def wakeAct (s : State) : State :=
  if !s.pwr.wake then s
  else if s.pwr.target ≠ 0 then (if apPassed s.pwr.step < lastAp s.pwr.target then s.pwrRollback else s)
  else if s.pwf PWR.STAT_STATE ≠ 0 ∧ s.pwr.exitStep = 0 then s.exitBegin
  else s

/-- The next step of entry, unless a wake has come before it. -/
def entryNext (s : State) : State :=
  if s.pwr.wake && decide (s.pwr.target ≠ 0) && decide (apPassed s.pwr.step < lastAp s.pwr.target) then s.wakeAct
  else s.entryStep

/-- The time bases are restored (R276). -/
def timeRestore (s : State) (kept : Bool) : State :=
  let a1 := s.aonCnt - s.pwr.a0
  let s := if kept then s else s.tableLostShow
  let s := s.setReg Blk.time TIME.AON_TOL s.pwr.tol
  let unc := min (2 ^ 32 - 1) (80 + (a1 * 40 * s.pwr.tol.toNat + 999999) / 1000000)
  let s := s.pwr.tbs.zipIdx.foldl (fun s x =>
    let n := x.2
    let s := (s.setReg Blk.time (TIME.TB_FREQ_LO n) x.1.lo).setReg Blk.time (TIME.TB_FREQ_HI n) x.1.hi
    if !x.1.en then s.setTb n x.1.val
    else
      let s := s.setTb n ((x.1.val / nsUnit + a1 * 40) * nsUnit)
      let s := ((s.setF Blk.time (TIME.TB_CTL_EN n) 1).setF Blk.time (TIME.TB_STAT_RUNNING n) 1).setF Blk.time
        (TIME.TB_STAT_COARSE n) 1
      let s := (s.setReg Blk.time (TIME.TB_UNC n) (BitVec.ofNat 32 unc)).tbSeed n
      (s.flag Blk.time (TIME.TB_STAT_RESTORED n) TIME.INT_RESTORED).tbMoved n x.1.val) s
  let s := s.modPwr fun p => { p with tbs := [], wakeCmp := none }
  s.setF Blk.sched SCHED.SCHED_STAT_WAKE_ARMED 0

/-- The Keeper reloads the microcode of the retained engines and sets RUN (R172). -/
def engRestore (s : State) (e : Nat) : State :=
  if s.engOn e && s.pwr.down.getLsbD (engDomain e) && s.efb e ENG.LE_CTL_RUN
      && s.bankValid e (s.ef e ENG.LE_STAT_BANK_IN_USE) then s.engStart e
  else s

/-- Keeper banks 0 to 12 hold the firmware and its context: one that is not retained makes the Keeper restart (R392). -/
def kprKept (s : State) : Bool := s.pwr.retKpr % 2 ^ 13 == 2 ^ 13 - 1

/-- The blocks are restored (step 5, R392). -/
def pwrRestore (s : State) (ddrKept : Bool) : State :=
  let d := s.pwr.down
  let s := { s with domBusy := s.domBusy &&& ~~~d
                    intnCopy := if d.getLsbD Dom.fab then s.reg Blk.glb (GLB.INTN_MASK 0) else s.intnCopy }
  let s := if d.getLsbD Dom.ddr && !s.ddr.pv.isEmpty then s.ddrResume ddrKept else s
  let s := if d.getLsbD Dom.fog then s.fogUp (s.pwr.retKpr.testBit 15) else s
  let s := if d.getLsbD Dom.hk then s.hkPowerUp else s
  let s := if d.getLsbD Dom.kpr && !s.kprKept then s.setF Blk.kpr KPR.KSTAT_STAGE 0 else s
  (List.range 21).foldl engRestore s

/-- The exit ends in PS0 (step 7): transmitters leave idle, stopped DMA channels resume, held entries are judged. -/
def exitEnd (s : State) : State :=
  let s := s.setF Blk.pwr PWR.STAT_STATE 0
  let s := s.modPwr fun p => { p with exitStep := 0, down := 0, wake := false }
  let s := s.pwrUnquiet
  let s := (List.range 16).foldl (fun s c => if s.dmaState c = 5 then s.dmaGo c else s) s
  let s := s.setReg Blk.pwr PWR.EXIT_US s.pwrElapsed
  let s := if s.timeOn then s.schedResume else s
  (s.raise Blk.pwr PWR.INT_EXITED).pwrIdle

/-- A timed step of exit completes (R395). A PS5 exit, which boots, is not advanced here. -/
def exitStep (s : State) (ddrKept : Bool) : State :=
  let step := fun (s : State) (n : Nat) => s.modPwr fun p => { p with exitStep := n }
  match s.pwr.exitStep with
  | 2 =>
    let d := s.pwr.down
    step { s with domOn := s.domOn ||| d, domBusy := s.domBusy ||| d } 3
  | 3 =>
    let s := { s with domBusy := s.domBusy &&& ~~~(if s.pwr.down.getLsbD Dom.time then domBit Dom.time ||| domBit Dom.clk else 0) }
    step (if s.pwr.down.getLsbD Dom.time then s.timeRestore (s.pwr.retKpr.testBit 14) else s) 4
  | 4 => step (s.pwrRestore ddrKept) 5
  | 5 => step s.pwrClocks 6
  | 6 => s.exitEnd
  | _ => s

/-- A debounced change of WAKE pin `p` to `level` (R393): an edge to the active level, or the active level where LEVEL = 1. -/
def wakePin (s : State) (p : Nat) (level : Bool) : State :=
  let ctl := (s.reg Blk.aon AON.WAKE_CTL).toNat
  let active := ctl.testBit (4 * p) == level
  let was := (s.f Blk.aon AON.PIN_STAT_WAKE).testBit p
  let pins := s.f Blk.aon AON.PIN_STAT_WAKE
  let s := s.setF Blk.aon AON.PIN_STAT_WAKE (if level then pins ||| 2 ^ p else pins - (if was then 2 ^ p else 0))
  if active && (ctl.testBit (4 * p + 1) || was != level) then s.wakeUp p else s

/-- A time entry with WAKE = 1 asks for the wake (R294): by its time base in PS1 and PS2, by the AON compare in PS3 and PS4. -/
def schedWake (s : State) : State :=
  let st := s.pwf PWR.STAT_STATE
  let lead := (if st = 1 then 1000 else 10000) + s.f Blk.sched SCHED.SCHED_CFG_WAKE_MARGIN * 1000
  let due := if st = 1 ∨ st = 2 then
      s.timeOn && s.sched.entries.any fun x => x.2.en && x.2.isTime && SCHED.SE_W0_WAKE.get x.2.w0 == 1
        && s.fb Blk.time (TIME.TB_CTL_EN x.2.tb) && decide (x.2.state = 1) && decide (x.2.time ≤ s.tbNs x.2.tb + lead)
    else if st = 3 ∨ st = 4 then (match s.pwr.wakeCmp with
      | some c => decide (c ≤ s.aonCnt)
      | none => false)
    else false
  if due then s.wakeUp 7 else s

/-! ### Domain requests (R14, R22, R23, R399) -/

/-- A refusal that names a domain. -/
def domRefuse (s : State) (d reason : Nat) : State := s.pwrRefuse 2 d reason true

/-- DOM_REQ with ON (R14, R22). -/
def domUpReq (s : State) (d : Nat) : State :=
  match (domParent d).filter fun p => !s.domReady p with
  | some p => s.domRefuse p 0x0A
  | none =>
    if s.pwr.excluded.getLsbD d then s.domRefuse d 0x0C
    else
      let s := s.setF Blk.pwr PWR.STAT_BUSY 1
      { s with domBusy := if s.domOn.getLsbD d then s.domBusy else s.domBusy ||| domBit d
               pwr := { s.pwr with dom := some (d, true), step := 2, doms := domBit d } }

/-- DOM_REQ with OFF (R14, R20, R23): the handshake asks the blocks of the domain and of its powered descendants. -/
def domDownReq (s : State) (d : Nat) : State :=
  let l := s.domTree d
  if d ≤ 3 then s.domRefuse d 9
  else match l.find? s.domInService with
  | some x => s.domRefuse x 9
  | none =>
    let s := s.setF Blk.pwr PWR.STAT_BUSY 1
    (s.modPwr fun p => { p with dom := some (d, false) }).hsStart (domSet l)

/-- A write of DOM_REQ (R399); one that names a domain under test waits for the end of the run (R431). -/
def domReq (s : State) (v : Word) : State :=
  let d := PWR.DOM_REQ_DOMAIN.get v
  let on := PWR.DOM_REQ_ON.get v = 1
  if (PWR.DOM_REQ_OFF.get v = 1) = on then s
  else if 24 ≤ d ∨ s.fb Blk.pwr PWR.STAT_BUSY ∨ s.pwf PWR.STAT_STATE ≠ 0 then s.pwrBad
  else if s.bist.run.getLsbD d then
    { s.setF Blk.pwr PWR.STAT_BUSY 1 with bist := { s.bist with waiting := some v } }
  else if on then s.domUpReq d
  else s.domDownReq d

/-- A DOM_REQ that waited for a BIST run goes on once the run has ended (R431). -/
def bistResume (s : State) : State :=
  match s.bist.waiting with
  | some v =>
    if s.bist.run = 0 then ({ s.setF Blk.pwr PWR.STAT_BUSY 0 with bist := { s.bist with waiting := none } }).domReq v else s
  | none => s

/-- A domain request completes (R399). -/
def domDone (s : State) (ddrKept : Bool) : State :=
  match s.pwr.dom with
  | none => s
  | some (d, up) =>
    if s.pwr.step ≠ 2 then s
    else
      let s := if !up then s.domainsDown s.pwr.doms { coef := 0, kpr := 0, state := false }
        else if s.domOn.getLsbD d && !s.domBusy.getLsbD d then s
        else s.domainUp d ddrKept
      let s := s.modPwr fun p => { p with dom := none, step := 0, doms := 0, asked := [], waiting := [], delaying := [] }
      (s.raise Blk.pwr PWR.INT_DOM_DONE).pwrIdle

/-! ### PMBus (R397, R398) -/

/-- A request ends, acknowledged or not; a waiting one starts. -/
def voltEnd (s : State) (ok : Bool) : State :=
  let p := s.pwr.pmb
  let s := s.setF Blk.pwr PWR.PMB_STAT_BUSY 0
  let s := if ok then (if p.off then s.setF Blk.pwr PWR.AVS_STAT_CURRENT 0 else s.setF Blk.pwr PWR.AVS_STAT_CURRENT p.mv)
    else (s.setF Blk.pwr PWR.AVS_STAT_TARGET p.prev).modPmb fun x => { x with sent := some p.prev }
  let s := if p.kind = 1 ∧ s.pwr.step = 7 then s.pwrReached (if ok then 1 else 5)
    else if p.kind = 2 ∧ s.pwr.exitStep = 1 then
      (if ok then s.modPwr fun x => { x with exitStep := 2 } else (s.modPwr fun x => { x with exitStep := 0 }).setF Blk.pwr PWR.STAT_BUSY 0)
    else s
  match p.next with
  | none => s
  | some (mv, kind) =>
    let v := (s.modPmb fun x => { x with next := none }).voltBegin mv kind (decide (mv = 0))
    if v.1 && kind == 1 then v.2.pwrReached 1 else if v.1 && kind == 2 then v.2.modPwr fun x => { x with exitStep := 2 } else v.2

/-- An attempt fails (R397): retried after CLEAR_FAULTS up to three times, then PWR_FAULT. -/
def attemptFail (s : State) : State :=
  if s.pwf PWR.PMB_STAT_BUSY = 0 then s
  else
    let n := s.pwf PWR.PMB_STAT_RETRIES
    if n < 3 then ((s.setF Blk.pwr PWR.PMB_STAT_RETRIES (n + 1)).send (.pmbus 0x03 0)).pmbSend
    else
      let p := s.pwr.pmb
      let s := s.flag Blk.pwr PWR.PMB_STAT_FAULT PWR.INT_PWR_FAULT
      let s := s.logRecord { typ := 0x0070, src := Blk.pwr, anch := true
                             payload := logPayload [s.pwf PWR.PMB_STAT_LAST, p.mv, p.prev, n, p.kind] }
      (s.send (.pmbus 0x21 (linear16 p.vmode p.prev))).voltEnd false

/-- STATUS_WORD is read (R397): none stands for a NACK. POWER_GOOD# is bit 11 and OFF bit 6. -/
def pmbPoll (s : State) (status : Option (BitVec 16)) : State :=
  if s.pwf PWR.PMB_STAT_BUSY = 0 then s
  else match status with
  | none => s.attemptFail
  | some w =>
    let s := s.setF Blk.pwr PWR.PMB_STAT_LAST w.toNat
    if (if s.pwr.pmb.off then w.getLsbD 6 else w == 0) then s.voltEnd true else s

/-- PMB_ALERT_N is low (R397, R402): a failed attempt while a request is in progress. -/
def pmbAlert (s : State) (w : BitVec 16) : State :=
  let s := (s.setF Blk.pwr PWR.PMB_STAT_LAST w.toNat).raise Blk.pwr PWR.INT_PMB_ALERT
  s.attemptFail

/-- The controller is enabled (R397): VOUT_MODE is read, CLEAR_FAULTS written, and the current target sent. -/
def pmbStart (s : State) (vmode : Byte) : State :=
  let s := ((s.modPmb fun p => { p with vmode := vmode, sent := none }).send (.pmbus 0x20 0)).send (.pmbus 0x03 0)
  s.avsUpdate

/-- A write of PMB_CFG. Clearing EN completes a request under way as acknowledged, and CURRENT keeps its value (R397). -/
def pmbCfg (s : State) (v : Word) (vmode : Byte) : State :=
  let was := s.fb Blk.pwr PWR.PMB_CFG_EN
  let s := s.writeReg Blk.pwr PWR.PMB_CFG v
  if !was && s.fb Blk.pwr PWR.PMB_CFG_EN then s.pmbStart vmode
  else if was && !s.fb Blk.pwr PWR.PMB_CFG_EN && s.fb Blk.pwr PWR.PMB_STAT_BUSY then
    let cur := s.pwf PWR.AVS_STAT_CURRENT
    (s.voltEnd true).setF Blk.pwr PWR.AVS_STAT_CURRENT cur
  else s

/-- A write of a PWR register by requester `q`. `vmode` is what VOUT_MODE reads when the write enables the controller. -/
def pwrWriteReg (s : State) (q : Requester) (off : Nat) (v : Word) (vmode : Byte) : State :=
  if off = PWR.REQ then s.pwrReq q v
  else if off = PWR.DOM_REQ then s.domReq v
  else if off = PWR.PMB_CFG then s.pmbCfg v vmode
  else if off = PWR.AVS_CTL then (s.writeReg Blk.pwr off v).avsUpdate
  else if off = PWR.WAKE_EN then (s.writeReg Blk.pwr off v).wakeHeldPins
  else s.writeReg Blk.pwr off v

end State
end Sys2Proof.Machine
end

