-- ==== Sys2Proof/Machine/Staging.lean ====
section
/-! DEFINITION. Staged registers (R45 to R50): the declared pairs of every block, shadows, commits at once and by a scheduler
entry, refusals, DISCARD, arming and disarming, and what a block does when its active values have changed. -/

namespace Sys2Proof.Machine

/-- The numbers of the pairs that block `b` declares. -/
def pairIds (b : Nat) : List Nat := (List.range (numPairs (blkType b))).map (· + 1)

/-- The registers of pair `id` of block `b`. -/
def pairRegs (b id : Nat) : List Nat :=
  let i := id - 1
  match blkType b with
  | .llane => [LLANE.EQ_CTL]
  | .fec => [FEC.LANE_CTL i]
  | .hlane => [HLANE.TX_FFE0, HLANE.TX_FFE1]
  | .hclu => if i = 0 then [HCLU.RX_LMAP0, HCLU.RX_LMAP1] else [HCLU.TX_LMAP0, HCLU.TX_LMAP1]
  | .port => State.portPairRegs id
  | .fog => [FOG.PHY_CFG, FOG.FREQ]
  | .time => [TIME.TPO_CTL i, TIME.TPO_PERIOD i, TIME.TPO_WIDTH i]
  | .hk => [HK.HKC_SEQ (i / 16) (i % 16)]
  | .filt => [FILT.FILT_CFG i]
  | .hdac => [HDAC.NCO_FSTART i, HDAC.NCO_FSTOP i]
  | .ddr => [DDR.RGN_BASE i, DDR.RGN_SIZE i]
  | _ => []

/-- TIME pair k + 1 (R285): MODE with PERIOD and WIDTH. -/
def tpoOk (mode period width : Nat) : Bool :=
  mode == 0 || mode == 3 || decide (8 ≤ width) && (mode == 1 || decide (width < period))

/-- FEC pair n + 1 (R145): ITER_FLOOR at most ITER_MAX, both limited to 2 to 8. -/
def iterOk (w : Word) : Bool :=
  let cl := fun x => max 2 (min 8 x)
  decide (cl ((FEC.LANE_CTL_ITER_FLOOR 0).get w) ≤ cl ((FEC.LANE_CTL_ITER_MAX 0).get w))

namespace State

/-- Pair `id` of block `b` is consistent when `g` gives the words of its registers; `peer` gives the placement words of the
other ports (R91, R145, R181, R183, R217, R248, R285, R307, R308, R319, R345). -/
def pairOk (s : State) (b id : Nat) (g : Nat → Word) (peer : Nat → PortView) : Bool :=
  let i := id - 1
  match blkType b with
  | .llane =>
    let eq := g LLANE.EQ_CTL
    if id = 1 then s.eqPair1 (blkInstance b) (LLANE.EQ_CTL_BANK.get eq) (LLANE.EQ_CTL_TAPS.get eq)
    else decide (LLANE.EQ_CTL_CURSOR.get eq < LLANE.EQ_CTL_TAPS.get eq)
  | .fec => iterOk (g (FEC.LANE_CTL i))
  | .hlane => ffeOk (ffeTaps (g HLANE.TX_FFE0) (g HLANE.TX_FFE1))
  | .hclu => if i = 0 then lmapOk (g HCLU.RX_LMAP0) (g HCLU.RX_LMAP1) else lmapOk (g HCLU.TX_LMAP0) (g HCLU.TX_LMAP1)
  | .port => !(s.portPairsBad (blkInstance b) ⟨g PORT.PORT_CFG, g PORT.HOST_MAP, g PORT.LINE_MAP⟩ peer).contains id
  | .fog => fogPairOk (g FOG.PHY_CFG) (g FOG.FREQ)
  | .time => tpoOk ((TIME.TPO_CTL_MODE i).get (g (TIME.TPO_CTL i))) (g (TIME.TPO_PERIOD i)).toNat (g (TIME.TPO_WIDTH i)).toNat
  | .hk => hkSlotOk (g (HK.HKC_SEQ (i / 16) (i % 16)))
  | .filt => filtOk (g (FILT.FILT_CFG i)) (g (FILT.FILT_FLEN i))
  | .hdac => ncoOk (s.f Blk.hdac (HDAC.NCO_CTL_SHAPE i)) (g (HDAC.NCO_FSTART i)).toNat (g (HDAC.NCO_FSTOP i)).toNat
  | .ddr => s.ddrRgnOk (fun n => g (DDR.RGN_BASE n)) (fun n => g (DDR.RGN_SIZE n)) i
  | _ => true

/-- The inconsistent pairs of block `b` for the words `g`, lowest first. -/
def pairsBad (s : State) (b : Nat) (g : Nat → Word) (peer : Nat → PortView) : List Nat :=
  (pairIds b).filter fun id => !s.pairOk b id g peer

/-- Block `b` checks its pairs in use (R50); `old` is the state before the write. -/
def recheck (old s : State) (b : Nat) : State :=
  if numPairs (blkType b) = 0 then s
  else
    let bad := s.pairsBad b (s.reg b) s.portView
    s.pairsCheck b ((pairIds b).map fun id =>
      { id := id, ok := !bad.contains id, regs := (pairRegs b id).map fun o => (o, old.usedReg b o) })

/-! ### What changed active values do -/

/-- The offsets of block `b` that hold RWS fields. -/
def rwsOffs (b : Nat) : List Nat :=
  ((regDefs (blkType b)).filter fun d => decide (d.rws ≠ 0)).flatMap (fun d =>
    (List.range d.count).map fun i => d.off + i * d.stride) |>.filter fun o => (regDefOf b o).isSome

/-- A register whose word in use has changed acts: a bank comes into use (R74, R99, R167, R178), a detector runs the MLSE
checker, on which a held injection acts (R79, R87), squelch and pre-distortion
follow (R101, R113), an output is driven anew (R284), a visit restarts (R321), a chain is flushed (R311), a channel changes
MODE (R316). -/
def applied (old s : State) (b off : Nat) : State :=
  let n := blkInstance b
  match blkType b with
  | .llane =>
    if off = LLANE.EQ_CTL then s.rxBankUse n (s.uf b LLANE.EQ_CTL_BANK)
    else if off = LLANE.TX_EQ_CTL then s.setF b LLANE.TX_EQ_STAT_IN_USE (s.f b LLANE.TX_EQ_CTL_BANK)
    else if off = LLANE.DET_CTL then s.injRun n
    else if off = LLANE.TX_MIRROR then s.squelch n
    else if off = LLANE.TX_PD_CTL then s.pdApply n
    else if off = 0x200 then s.bankChanged 16
    else s
  | .lclu => s.bankChanged (4 * n + (off - 0x200) / 0x80)
  | .hclu => if off = 0x200 then s.bankChanged (17 + n) else s
  | .hlane => if off = HLANE.RX_EQ_CTL then s.setF b HLANE.EQ_STAT_IN_USE (s.f b HLANE.RX_EQ_CTL_BANK) else s
  | .time => s.tpoApply ((off - TIME.TPO_CTL 0) / 0x20)
  | .hk =>
    let c := (off - 0x200) / 0x80
    s.hkSlotChanged c ((off - HK.HKC_SEQ c 0) / 4) (old.usedReg b off)
  | .filt => s.filtChanged ((off - FILT.FILT_CFG 0) / 0x40)
  | .hdac =>
    if off < 0x400 then s.hdacCtlChanged ((off - 0x200) / 0x10) (old.reg b off) else s
  | _ => s

/-- The words in use of block `b` have changed from `old`: each acts, a re-placed port is rebuilt (R218), and the ports take
the readiness of the lanes that a changed lane map gives them (R183, R206). -/
def activeChanged (old s : State) (b : Nat) : State :=
  let l := (rwsOffs b).filter fun o => old.usedReg b o != s.usedReg b o
  if l.isEmpty then s
  else
    let s := l.foldl (fun s o => applied old s b o) s
    match blkType b with
    | .port => s.portRebuild (blkInstance b)
    | .hclu => s.portsEval
    | _ => s

/-! ### Shadows (R45, R49) -/

/-- Every shadow of block `b` takes its active value, and is checked as new (R45, R52). -/
def loadShadows (s : State) (b : Nat) : State :=
  (rwsOffs b).foldl (fun s o =>
    ({ s with shadows := SMap.set s.shadows (regKey b o) (s.reg b o) }).parityNew (shadowKey b o)) s

/-- The shadows of block `b` are no longer listed: while STAGE = 0 a shadow follows its active value. -/
def dropShadows (s : State) (b : Nat) : State :=
  { s with
    shadows := SMap.drop (fun k => k / 4096 == b) s.shadows
    parBad := s.parBad.filter fun k => decide (k < 2 ^ 20) || k % 2 ^ 20 / 4096 != b
    parSeen := s.parSeen.filter fun k => decide (k < 2 ^ 20) || k % 2 ^ 20 / 4096 != b }

/-- A shadow of block `b` differs from its active value (DIRTY). -/
def dirty (s : State) (b : Nat) : Bool :=
  s.shadows.any fun e => e.1 / 4096 == b &&
    (e.2 ^^^ s.reg b (e.1 % 4096)) &&& (classBits b (e.1 % 4096)).2.1 != 0

/-- A shadow of block `b` carries a parity fault. -/
def shadowFault (s : State) (b : Nat) : Bool := s.parBad.any fun k => decide (2 ^ 20 ≤ k) && k % 2 ^ 20 / 4096 == b

/-- Every shadow of block `b` is copied to its active value. -/
def copyShadows (s : State) (b : Nat) : State :=
  (s.shadows.filter fun e => e.1 / 4096 == b).foldl (fun s e =>
    let o := e.1 % 4096
    let m := (classBits b o).2.1
    ((s.setReg b o ((s.reg b o &&& ~~~m) ||| (e.2 &&& m))).parityNew (regKey b o)).parityNew (shadowKey b o)) s

/-! ### Commits (R46 to R48) -/

/-- What the check of a block's shadows finds: none, or the LAST code 2 REFUSED_PAIR or 3 REFUSED_PARITY; the spec does not
say which of the two a block with both faults reports. -/
def commitCheck (s : State) (b : Nat) (peer : Nat → PortView) : Option Nat × State :=
  let pair := !(s.pairsBad b (s.shadow b) peer).isEmpty
  if pair && s.shadowFault b then s.choose [2, 3]
  else (if pair then some 2 else if s.shadowFault b then some 3 else none, s)

/-- Block `b` reports a refused commit with code `c`; REFUSED_PAIR also sets PAIR_MISMATCH, PAIR_ID and INT_STAT bit 0. -/
def commitRefused (s : State) (b c : Nat) (peer : Nat → PortView) : State :=
  let s := s.blkReport b c
  if c = 2 then
    (((s.setF b HDR.BLK_STAT_PAIR_MISMATCH 1).setF b HDR.BLK_STAT_PAIR_ID
      ((s.pairsBad b (s.shadow b) peer).head?.getD 0))).raise b HDR.INT_PAIR
  else s

/-- COMMIT_NOW (R46): a block that is armed is disarmed by it, with the outcome of this commit (R49). -/
def commitNow (s : State) (b : Nat) : State :=
  let c := s.commitCheck b s.portView
  match c.1 with
  | some code => c.2.commitRefused b code s.portView
  | none =>
    let t := c.2.copyShadows b
    (activeChanged s (recheck s t b) b).blkReport b 1

/-- The placement words a commit on entry `k` gives port `q`: its shadows when it is armed on `k` (R217). -/
def commitPeer (s : State) (k q : Nat) : PortView :=
  if (s.armedOn k).contains (Blk.port q) then s.portShadow q else s.portView q

/-- Entry `k` fires with ACTION COMMIT (R47, R48): every armed block commits, or none does. Answers whether it was refused. -/
def commitEntry (s : State) (k : Nat) (late : Bool) : State × Bool :=
  let l := s.armedOn k
  let peer := s.commitPeer k
  let r := l.foldl (fun (a : List (Nat × Option Nat) × State) b =>
    let c := a.2.commitCheck b peer
    (a.1 ++ [(b, c.1)], c.2)) ([], s)
  if r.1.any fun x => x.2.isSome then
    (r.1.foldl (fun t x => match x.2 with
      | some c => t.commitRefused x.1 c peer
      | none => t.blkReport x.1 4) r.2, true)
  else
    let t := l.foldl copyShadows r.2
    let t := l.foldl (fun t b => recheck s t b) t
    let t := l.foldl (fun t b => activeChanged s t b) t
    (l.foldl (fun t b => t.blkReport b (if late then 5 else 1)) t, false)

/-! ### STAGE_CTL and BLK_CTL (R45, R49) -/

/-- DISCARD: shadows are reloaded, and an armed block is disarmed. -/
def discard (s : State) (b : Nat) : State := (if s.staged b then s.loadShadows b else s).disarm b

/-- STAGE changes from 0 to 1. -/
def stageOn (s : State) (b : Nat) : State := (s.setF b HDR.BLK_CTL_STAGE 1).loadShadows b

/-- STAGE changes from 1 to 0. -/
def stageOff (s : State) (b : Nat) : State := ((s.setF b HDR.BLK_CTL_STAGE 0).disarm b).dropShadows b

/-- Block `b` arms on the entry in COMMIT_SE: SE_EN and ARMED read 1 together. -/
def arm (s : State) (b : Nat) : State := (s.setF b HDR.STAGE_CTL_SE_EN 1).setF b HDR.STAGE_STAT_ARMED 1

/-- A write of STAGE_CTL (R46, R49): DISCARD, then COMMIT_NOW, then the entry and SE_EN. SE_EN is accepted while STAGE = 1. -/
def stageCtl (s : State) (b : Nat) (v : Word) : State :=
  let se := HDR.STAGE_CTL_COMMIT_SE.get v
  let en := HDR.STAGE_CTL_SE_EN.get v = 1
  let s := if HDR.STAGE_CTL_DISCARD.get v = 1 then s.discard b else s
  let now := HDR.STAGE_CTL_COMMIT_NOW.get v = 1
  let s := if now then s.commitNow b else s
  let s := if s.armed b && (se != s.f b HDR.STAGE_CTL_COMMIT_SE || !en) then s.disarm b else s
  let s := (s.setF b HDR.STAGE_CTL_COMMIT_SE se).parityNew (regKey b HDR.STAGE_CTL)
  if en && s.staged b && !s.armed b && !now && HDR.STAGE_CTL_DISCARD.get v = 0 then s.arm b else s

end State
end Sys2Proof.Machine
end

