-- ==== Sys2Proof/Machine/TrustOps.lean ====
section
/-! DEFINITION. Lifecycle fuses, the anti-rollback counter, the Keeper's control, the debug unlock, and the commands of the
configuration versions (R403 to R423). What the Keeper does with a configuration image stands in `CfgvOps`. -/

namespace Sys2Proof.Machine
namespace State

/-! ### Debug level (R414 to R417) -/

/-- An unlock ends and the level returns to CLOSED: 3 duration, 4 LOCK, 5 lifecycle (R417). -/
def dbgClose (s : State) (cause : Nat) : State :=
  if s.dbgLevel = 0 then s
  else
    let s := (s.setF Blk.dbg DBG.STAT_LEVEL 0).setF Blk.dbg DBG.STAT_LAST_EXPIRY cause
    { s with dbg := { s.dbg with until_ := none } }.raise Blk.dbg DBG.INT_EXPIRED

/-- The result of a request or a check; any but GRANTED raises REFUSED (R416). -/
def dbgResult (s : State) (code : Nat) : State :=
  let s := s.setReg Blk.dbg DBG.RESULT (BitVec.ofNat 32 code)
  if code = 1 then s else s.raise Blk.dbg DBG.INT_REFUSED

/-- A level is granted, for `dur` seconds or, with 0, until the next expiry. -/
def dbgGrant (s : State) (level dur : Nat) : State :=
  let s := s.setF Blk.dbg DBG.STAT_LEVEL level
  let s := { s with dbg := { s.dbg with until_ := if dur = 0 then none else some (s.aonCnt + dur * 25000000) } }
  (s.dbgResult 1).raise Blk.dbg DBG.INT_UNLOCKED

/-- A tokenless request for a level (R415); a LEVEL_REQ that names no level is not allowed. -/
def dbgRequest (s : State) (level : Nat) : State :=
  let lc := s.fuse.lifecycle
  let ok := (level = 1 ∧ lc ≠ 2) ∨ (level = 2 ∧ (lc = 0 ∨ lc = 3))
  if ok then s.dbgGrant level 0 else s.dbgResult 6

/-- CHAL_NEW draws a new nonce (R416). -/
def chalNew (s : State) : State :=
  let s := (List.range 8).foldl (fun (s : State) i =>
    let r := s.draw 32
    r.2.setReg Blk.dbg (DBG.CHAL i) r.1) s
  { s with dbg := { s.dbg with fresh := true } }

/-- Word `i` of the token. -/
def tokWord (tok : SMap Word) (i : Nat) : Nat := (SMap.get 0 tok i).toNat

/-- SUBMIT starts the check of the token and consumes the nonce (R416). -/
def dbgSubmit (s : State) : State :=
  let nonce := s.dbg.fresh && (List.range 8).all fun i =>
    decide (tokWord s.dbg.token (6 + i) = (s.reg Blk.dbg (DBG.CHAL i)).toNat)
  let s := { s with dbg := { s.dbg with fresh := false } }
  if s.fb Blk.dbg DBG.STAT_BUSY then s.dbgResult 8
  else { s.setF Blk.dbg DBG.STAT_BUSY 1 with dbg := { s.dbg with check := some (s.dbg.token, nonce) } }

/-- The device is programming fuses (R403): the transition to `target` starts. -/
def fuseStart (s : State) (target : Nat) : State :=
  { s.setF Blk.sec SEC.LC_FUSE_BUSY 1 with fuse := { s.fuse with target := some target } }

/-- What is wrong with a token (R416), as RESULT codes. -/
def tokenFaults (s : State) (tok : SMap Word) (nonce sigOk : Bool) : List Nat :=
  let w := tokWord tok 1
  let level := w / 2 ^ 8 % 256
  let mask := w / 2 ^ 16 % 256
  let action := w / 2 ^ 24
  let lc := s.fuse.lifecycle
  let format := tokWord tok 0 = 0x54444254 ∧ w % 256 = 1 ∧ (level = 1 ∨ level = 2) ∧ action ≤ 1 ∧ tokWord tok 15 = 0
  let id := (List.range 4).all fun i => decide (tokWord tok (2 + i) = (SMap.get 0 s.fuse.devId i).toNat)
  (if format then [] else [7]) ++ (if sigOk then [] else [2]) ++ (if id then [] else [3]) ++ (if nonce then [] else [4])
    ++ (if mask.testBit lc && !(action = 1 && !(lc = 1 || lc = 2)) then [] else [5])

/-- The verdict on token `tok` (R416). A token with several faults reports one of them: the spec names no order. -/
def tokenJudge (s : State) (tok : SMap Word) (nonce sigOk : Bool) : State :=
  let c := s.choose (s.tokenFaults tok nonce sigOk)
  match c.1 with
  | some code => c.2.dbgResult code
  | none =>
    let w := tokWord tok 1
    if w / 2 ^ 24 = 1 then ((if c.2.fuse.target.isSome then c.2 else c.2.fuseStart 3).dbgResult 1)
    else c.2.dbgGrant (w / 2 ^ 8 % 256) (tokWord tok 14)

/-- The check of a token ends (R416). `sigOk`: the signer key and the signature agree with the root hash. -/
def tokenDone (s : State) (sigOk : Bool) : State :=
  match s.dbg.check with
  | none => s
  | some (tok, nonce) =>
    { s.setF Blk.dbg DBG.STAT_BUSY 0 with dbg := { s.dbg with check := none } }.tokenJudge tok nonce sigOk

/-- A write of DBG.CTL: the requests of one write act in the order of their bits, and LOCK last. -/
def dbgCtl (s : State) (v : Word) : State :=
  let s := if DBG.CTL_REQUEST.get v = 1 then s.dbgRequest (DBG.CTL_LEVEL_REQ.get v) else s
  let s := if DBG.CTL_SUBMIT.get v = 1 then s.dbgSubmit else s
  let s := if DBG.CTL_CHAL_NEW.get v = 1 then s.chalNew else s
  if DBG.CTL_LOCK.get v = 1 then s.dbgClose 4 else s

/-- A write of a DBG register. TOK_IDX advances after each access to TOK_DATA. -/
def dbgWrite (s : State) (off : Nat) (v : Word) : State :=
  if off = DBG.CTL then s.dbgCtl v
  else if off = DBG.TOK_DATA then
    let i := (s.reg Blk.dbg DBG.TOK_IDX).toNat % 64
    let s := { s with dbg := { s.dbg with token := SMap.put 0 s.dbg.token i v } }
    s.setReg Blk.dbg DBG.TOK_IDX (BitVec.ofNat 32 ((i + 1) % 64))
  else if off = DBG.TOK_IDX then s.writeReg Blk.dbg off (v &&& 0x3F)
  else s.writeReg Blk.dbg off v

/-- A read of a DBG register: REMAIN in whole seconds, rounded up. -/
def dbgRead (s : State) (off : Nat) : Word × State :=
  if off = DBG.REMAIN then
    (match s.dbg.until_ with
     | some t => BitVec.ofNat 32 ((t - s.aonCnt + 24999999) / 25000000)
     | none => 0, s)
  else if off = DBG.TOK_DATA then
    let i := (s.reg Blk.dbg DBG.TOK_IDX).toNat % 64
    (SMap.get 0 s.dbg.token i, s.setReg Blk.dbg DBG.TOK_IDX (BitVec.ofNat 32 ((i + 1) % 64)))
  else (s.reg Blk.dbg off, s)

/-- DURATION has passed since the grant (R417). -/
def unlockExpiry (s : State) : State := if s.dbg.until_.isSome then s.dbgClose 3 else s

/-! ### Lifecycle (R403, R404) -/

/-- The requester is the host, over PCIe or I2C. -/
def isHost (q : Requester) : Bool := q == .pcie || q == .i2c

/-- The root hash that ROOT_HASH holds in BLANK is not all zero. -/
def hashSet (s : State) : Bool := (List.range 12).any fun i => s.reg Blk.sec (SEC.ROOT_HASH i) != 0

/-- A write of LC_CTL by requester `q` (R403). -/
def lcCtl (s : State) (q : Requester) (v : Word) : State :=
  let lc := s.fuse.lifecycle
  let idle := s.fuse.target.isNone
  if v = 0x5C000001 ∧ idle ∧ lc = 0 ∧ (isHost q ∨ q = .keeper) ∧ s.hashSet then s.fuseStart 1
  else if v = 0x5C000002 ∧ idle ∧ lc = 1 ∧ (q = .keeper ∨ (isHost q ∧ s.dbgLevel = 2)) then s.fuseStart 2
  else s.setF Blk.sec SEC.LC_LC_REFUSED 1

/-- The fuses once the transition to lifecycle `t` is complete: PROVISIONED holds the root hash. -/
def fusesAfter (s : State) (t : Nat) : Fuses :=
  let hash := if t = 1 then (List.range 12).foldl (fun (m : SMap Word) i => SMap.put 0 m i (s.reg Blk.sec (SEC.ROOT_HASH i)))
    s.fuse.rootHash else s.fuse.rootHash
  { s.fuse with lifecycle := t, rootHash := hash, target := none }

/-- Fuse programming ends (R403). -/
def lcChanged (s : State) (ok : Bool) : State :=
  match s.fuse.target with
  | none => s
  | some t =>
    let up := s.blkOn Blk.sec
    let after := s.fusesAfter t
    let s := { s with fuse := { s.fuse with target := none } }
    let s := if up then s.setF Blk.sec SEC.LC_FUSE_BUSY 0 else s
    if !ok then (if up then s.flag Blk.sec SEC.LC_FUSE_FAIL SEC.INT_FUSE_FAIL else s)
    else
      let s := { s with fuse := after }
      let s := if t = 3 then (List.range 16).foldl (fun s i => s.setReg Blk.sec (SEC.DEV_PUB i) 0) s else s
      let s := s.dbgClose 5
      if up then s.raise Blk.sec SEC.INT_LC_CHANGED else s

/-- A write of a SEC register: ROOT_HASH takes writes in BLANK only. -/
def secWrite (s : State) (q : Requester) (off : Nat) (v : Word) : State :=
  if off = SEC.LC_CTL then s.lcCtl q v
  else if SEC.ROOT_HASH 0 ≤ off ∧ off ≤ SEC.ROOT_HASH 11 then
    (if s.fuse.lifecycle = 0 then (s.setReg Blk.sec off v).parityNew (regKey Blk.sec off) else s)
  else s.writeReg Blk.sec off v

/-- A read of a SEC register: what the fuses hold. -/
def secRead (s : State) (off : Nat) : Word :=
  if off = SEC.LC then SEC.LC_LIFECYCLE.put (s.reg Blk.sec off) s.fuse.lifecycle
  else if SEC.DEV_ID 0 ≤ off ∧ off ≤ SEC.DEV_ID 3 then SMap.get 0 s.fuse.devId ((off - SEC.DEV_ID 0) / 4)
  else if SEC.ROOT_HASH 0 ≤ off ∧ off ≤ SEC.ROOT_HASH 11 ∧ s.fuse.lifecycle ≠ 0 then
    SMap.get 0 s.fuse.rootHash ((off - SEC.ROOT_HASH 0) / 4)
  else s.reg Blk.sec off

/-- The boot ROM derives the device key pair, but not in RETURNED (R404). -/
def deriveKey (s : State) : State :=
  if s.fuse.lifecycle = 3 then s
  else (List.range 16).foldl (fun s i => s.setReg Blk.sec (SEC.DEV_PUB i) (Config.devPub i)) s

/-! ### The Keeper (R409 to R413) -/

/-- A write of ARB_CTL (R409): the counter rises to `vv` at most to the SVN of the running firmware. -/
def arbCtl (s : State) (q : Requester) (v : Word) : State :=
  let vv := v.toNat % 256
  if v.toNat / 256 = 0xA70000 ∧ s.fuse.arb < vv ∧ vv ≤ s.f Blk.kpr KPR.FW_SVN_SVN ∧ q ≠ .debug then
    { s with fuse := { s.fuse with arb := vv } }.raise Blk.kpr KPR.INT_ARB_ADVANCED
  else s.setF Blk.kpr KPR.KSTAT_ARB_REFUSED 1

/-- The outcome of R407 with the fused counter: BLANK does not check codes 4 and 5. -/
def imageOk (r : Fin 8) : Bool := r == 0 || r == 7

/-- Firmware that verifies starts (R411): its result, VERSION and SVN. -/
def firmwareRun (s : State) (x : FwImage) : State :=
  let s := (s.setF Blk.kpr KPR.KSTAT_FW_RESULT x.result.val).setF Blk.sec SEC.VERIFY_FW x.result.val
  if imageOk x.result then
    ((s.setReg Blk.kpr KPR.FW_VER x.version).setF Blk.kpr KPR.FW_SVN_SVN x.svn.toNat).setF Blk.kpr KPR.KSTAT_STAGE 7
  else s

/-- Step 2 of R411: the valid entry with the higher VERSION, else the other one with FW_FALLBACK, else RECOVERY. -/
def firmwareBoot (s : State) (l : List FwImage) : State :=
  match l with
  | [] =>
    ((s.firmwareRun ⟨1, 0, 0⟩).setF Blk.kpr KPR.KSTAT_STAGE 8).raise Blk.kpr KPR.INT_RECOVERY
  | x :: rest =>
    if imageOk x.result then s.firmwareRun x
    else match rest.head? with
    | some y =>
      let s := s.setF Blk.kpr KPR.KSTAT_FW_FALLBACK 1
      if imageOk y.result then s.firmwareRun y
      else ((s.firmwareRun y).setF Blk.kpr KPR.KSTAT_STAGE 8).raise Blk.kpr KPR.INT_RECOVERY
    | none => ((s.firmwareRun x).setF Blk.kpr KPR.KSTAT_STAGE 8).raise Blk.kpr KPR.INT_RECOVERY

/-- The Keeper restarts through the boot ROM (R392, R413). A staging of shadows that it interrupts is abandoned (R423). -/
def keeperRestart (s : State) : State :=
  let p := s.f Blk.cfgv CFGV.STAT_PHASE
  let staging := p = 2 ∨ (p = 5 ∧ !s.cfgv.checking ∧ !s.cfgv.armed ∧ s.cfgv.img.isSome)
  let s := if staging then { s with cfgv := { s.cfgv with broken := true } } else s
  s.setF Blk.kpr KPR.KSTAT_STAGE 0

/-- KCTL.LOAD in RECOVERY: the ROM verifies the image in DMA staging as in step 2 (R411). -/
def keeperLoad (s : State) (x : FwImage) : State :=
  if s.f Blk.kpr KPR.KSTAT_STAGE = 8 then s.firmwareRun x else s

/-- The lockstep cores disagree (R413). -/
def lockstep (s : State) : State :=
  if !s.domReady Dom.kpr then s
  else (((s.flag Blk.kpr KPR.KSTAT_LOCKSTEP KPR.INT_LOCKSTEP).countSat Blk.kpr KPR.KSTAT_LOCKSTEP_CNT 1).keeperRestart)

/-- A write of KCTL by requester `q` (R414): HALT set and STEP act at OPEN, or from the Keeper. `x` is the image a LOAD
finds in DMA staging. -/
def kctl (s : State) (q : Requester) (v : Word) (x : FwImage) : State :=
  let open_ := q == .keeper || s.dbgLevel == 2
  let halt := KPR.KCTL_HALT.get v = 1 ∧ (open_ ∨ s.fb Blk.kpr KPR.KCTL_HALT)
  let step := KPR.KCTL_STEP.get v = 1 ∧ open_ ∧ s.fb Blk.kpr KPR.KCTL_HALT
  let s := (s.setB Blk.kpr KPR.KCTL_HALT (decide halt)).parityNew (regKey Blk.kpr KPR.KCTL)
  let s := if step then s.perf 13 0 1 else s
  let s := if KPR.KCTL_RESTART.get v = 1 then s.keeperRestart else s
  if KPR.KCTL_LOAD.get v = 1 then s.keeperLoad x else s

/-- A write of a KPR register. -/
def kprWrite (s : State) (q : Requester) (off : Nat) (v : Word) (x : FwImage) : State :=
  if off = KPR.KCTL then s.kctl q v x
  else if off = KPR.ARB_CTL then s.arbCtl q v
  else s.writeReg Blk.kpr off v

/-- A read of a KPR register by requester `q`: the counter of FW_SVN, and the trace, whose words the spec does not lay out. -/
def kprRead (s : State) (q : Requester) (off : Nat) : Word × State :=
  if off = KPR.FW_SVN then (KPR.FW_SVN_ARB.put (s.reg Blk.kpr off) s.fuse.arb, s)
  else if off = KPR.TRACE_DATA then
    (if q = .keeper ∨ s.dbgLevel ≠ 0 then s.draw 32 else (0, s.dbgDenied))
  else (s.reg Blk.kpr off, s)

/-! ### Commands of the configuration versions (R419 to R421) -/

/-- PHASE. -/
def cfgPhase (s : State) : Nat := s.f Blk.cfgv CFGV.STAT_PHASE

/-- Sets PHASE. -/
def setPhase (s : State) (p : Nat) : State := s.setF Blk.cfgv CFGV.STAT_PHASE p

/-- Changes the hidden state of CFGV. -/
def modCfgv (s : State) (g : CfgvState → CfgvState) : State := { s with cfgv := g s.cfgv }

/-- Sets RESULT. -/
def cfgResult (s : State) (r : Nat) : State := s.setF Blk.cfgv CFGV.STAT_RESULT r

/-- APPLY with GO (R419, R423). -/
def cfgApply (s : State) (v : Word) : State :=
  if CFGV.APPLY_GO.get v = 0 then s
  else if s.cfgPhase ≠ 0 then s.cfgResult 11
  else
    let slot := CFGV.APPLY_SLOT.get v
    let se := CFGV.APPLY_SE.get v
    (s.setPhase 1).modCfgv fun c =>
      { c with img := none, slot := slot, se := se, staged := [], rollback := false, checking := false, armed := false
               coord := 0, broken := false }

/-- The confirm timer stops. -/
def cfgTimerOff (s : State) : State :=
  (s.setF Blk.cfgv CFGV.STAT_TIMER_RUN 0).modCfgv fun c => { c with ticks := 0 }

/-- CONFIRM (R420, R423). -/
def cfgConfirm (s : State) (v : Word) : State :=
  if s.cfgPhase = 4 ∧ v = s.reg Blk.cfgv CFGV.ACT_VER then
    let s := s.cfgTimerOff.setPhase 0
    { s with flash := { s.flash with confirmed := true } }.raise Blk.cfgv CFGV.INT_CONFIRMED
  else s.cfgResult 9

/-- A rollback fails because the previous image is missing or fails its check (R421). -/
def rollbackMissing (s : State) : State :=
  (((s.cfgTimerOff.setPhase 0).cfgResult 8).setF Blk.cfgv CFGV.STAT_FAIL 1).raise Blk.cfgv CFGV.INT_ROLLBACK_FAIL

/-- A rollback starts (R421): the Keeper reads and checks the previous image. -/
def rollbackStart (s : State) : State :=
  let slot := s.f Blk.cfgv CFGV.SLOTS_PREV
  if slot = 255 then s.rollbackMissing
  else
    let se := s.f Blk.cfgv CFGV.CTL_RB_SE
    (s.cfgTimerOff.setPhase 5).modCfgv fun c =>
      { c with img := none, slot := slot, se := se, staged := [], rollback := true, checking := true, armed := false
               coord := 0, broken := false }

/-- ROLLBACK with GO: in IDLE and CONFIRMING; an apply or rollback under way is not broken off. -/
def cfgRollback (s : State) (v : Word) : State :=
  if CFGV.ROLLBACK_GO.get v = 0 then s
  else if s.cfgPhase = 0 ∨ s.cfgPhase = 4 then s.rollbackStart
  else s.cfgResult 11

/-- The confirm timer expires (R420). -/
def confirmTimeout (s : State) : State :=
  if s.domReady Dom.kpr && s.cfgPhase == 4 && s.fb Blk.cfgv CFGV.STAT_TIMER_RUN then s.rollbackStart else s

/-- A write of a CFGV register. -/
def cfgvWrite (s : State) (off : Nat) (v : Word) : State :=
  if off = CFGV.APPLY then s.cfgApply v
  else if off = CFGV.CONFIRM then s.cfgConfirm v
  else if off = CFGV.ROLLBACK then s.cfgRollback v
  else s.writeReg Blk.cfgv off v

/-- A read of a CFGV register: REMAIN in whole seconds, rounded up. -/
def cfgvRead (s : State) (off : Nat) : Word :=
  if off = CFGV.REMAIN then BitVec.ofNat 32 ((s.cfgv.ticks + 24999999) / 25000000) else s.reg Blk.cfgv off

end State
end Sys2Proof.Machine
end

