-- ==== Sys2Proof/Machine/Reads.lean ====
section
/-! DEFINITION. Register reads (spec/02): what a register shows that its stored word does not hold, and what a read does. -/

namespace Sys2Proof.Machine

/-- Event number `e` of R435 is listed. -/
def perfListed (e : Nat) : Bool :=
  let i := e % 64
  match e / 64 with
  | 0 => i < 3 | 1 | 2 | 3 | 4 => i < 17 | 5 | 6 => i < 21 | 7 | 8 | 9 => true | 10 => i < 18 | 11 => i < 4
  | 12 => i < 7 | 13 => i < 3 | 14 => i < 5 | _ => false

/-- The engine whose control set covers offset `off` of block `b` (R147), and its base. -/
def engineAt (b off : Nat) : Option Nat :=
  match blkType b with
  | .lclu => if 0x200 ≤ off ∧ off < 0x400 then some (4 * blkInstance b + (off - 0x200) / 0x80) else none
  | .hclu => if 0x200 ≤ off ∧ off < 0x280 then some (17 + blkInstance b) else none
  | .llane => if b = Blk.llane 16 ∧ 0x200 ≤ off ∧ off < 0x280 then some 16 else none
  | _ => none

namespace State

/-- Word `w` of INT_SUM (R54). -/
def intSum (s : State) (w : Nat) : Word :=
  BitVec.ofNat 32 (((List.range 32).map fun i => (decide (32 * w + i < Blk.count) && s.contributes (32 * w + i)).toNat * 2 ^ i).sum)

/-- The powered domains meet the management floor (R20). -/
def mgmtMet (s : State) : Bool := [Dom.aon, Dom.clk, Dom.fab, Dom.kpr].all s.domReady

/-- The powered domains meet the traffic floor (R21). -/
def trafficMet (s : State) : Bool :=
  s.mgmtMet && s.domReady Dom.pmap && [0, 1, 2, 3].any (fun n => s.domReady (Dom.lcd n) && s.domReady (Dom.lca n))
    && [0, 1, 2, 3].any (fun k => s.domReady (Dom.hc k)) && (!s.fuseFloorHk || s.domReady Dom.hk)

/-- FLOOR_STAT. -/
def floorStat (s : State) : Word :=
  BitVec.ofNat 32 (s.fuseFloorHk.toNat * 32 + s.mgmtMet.toNat * 16 + s.linkUp.toNat * 8 + s.pwr.possible.toNat * 4
    + s.trafficMet.toNat * 2 + (!s.linkUp).toNat)

/-- A read of a GLB register. -/
def glbRead (s : State) (off : Nat) : Word :=
  if off = GLB.DOM_PWR then (s.domOn &&& ~~~s.domBusy).setWidth 32
  else if off = GLB.FLOOR_STAT then s.floorStat
  else if GLB.INT_SUM 0 ≤ off ∧ off ≤ GLB.INT_SUM 5 then s.intSum ((off - GLB.INT_SUM 0) / 4)
  else s.reg Blk.glb off

/-- ADC_SLOT_DATA (R63, R65). -/
def slotData (s : State) (n : Nat) : Word :=
  let b := Blk.llane n
  let sl := s.f b LLANE.ADC_SLOT_IDX_SLOT
  let phys := if sl < activeSlots (s.f b LLANE.RX_CTL_RATE) then SMap.get 0 (s.lane n).slot sl else 0xFF
  let shadowed := match (s.lane n).bg with
    | some (x, some _) => x == sl
    | _ => false
  BitVec.ofNat 32 (phys + shadowed.toNat * 256)

/-- ADC_SUB_TRIM (R63). -/
def subTrim (s : State) (n : Nat) : Word :=
  let i := s.f (Blk.llane n) LLANE.ADC_SUB_IDX_SUB
  if 136 ≤ i then 0
  else
    let t : SubTrim := SMap.get {} (s.lane n).sub i
    BitVec.ofNat 32 (t.offset.toNat + t.gain.toNat * 2 ^ 8 + t.skew.toNat * 2 ^ 18 + (s.subUsable n i).toNat * 2 ^ 26
      + (s.subFused n i).toNat * 2 ^ 27 + (s.subSlotted n i).toNat * 2 ^ 28 + ((s.lane n).eyeSpare == some i).toNat * 2 ^ 29)

/-- DAC_SEG_DATA (R105, R107). -/
def segData (s : State) (n : Nat) : Word :=
  let i := s.f (Blk.llane n) LLANE.DAC_SEG_IDX_SEG
  if 132 ≤ i then 0
  else
    let t : SegTrim := SMap.get {} (s.lane n).seg i
    let pos := (((s.lane n).segPos.find? fun e => e.2 == i).map (·.1)).getD 0xFF
    BitVec.ofNat 32 (t.trim.toNat + pos * 2 ^ 8 + (t.usable && !s.segFused n i).toNat * 2 ^ 16
      + (s.segFused n i).toNat * 2 ^ 17 + ((s.lane n).dacBg.map (·.2) == some i).toNat * 2 ^ 18)

/-- SLOT_OWN of the lane that SLOT_IDX names (R202). -/
def slotOwn (s : State) : Word :=
  let l := s.f Blk.pmap PMAP.SLOT_IDX_LANE
  BitVec.ofNat 32 (((List.range 4).map fun i => match s.slotOwner l i with
    | some p => (p + 128) * 256 ^ i
    | none => 0).sum)

/-- TX_ALIGNED or RX_ALIGNED of 32 ports. -/
def alignedMap (s : State) (hb : Bool) (w : Nat) : Word :=
  BitVec.ofNat 32 (((List.range 32).map fun i => (s.portPos (32 * w + i) hb).valid.toNat * 2 ^ i).sum)

/-- A read of an engine register by requester `q` (R164, R166, R173). -/
def engRead (s : State) (q : Requester) (e off : Nat) : Word :=
  let o := engBase e
  if off = ENG.UC_DATA o then s.ucDataPeek q e
  else if off = ENG.UC_BANK0 o then s.ucBankWord e 0
  else if off = ENG.UC_BANK1 o then s.ucBankWord e 1
  else if off = ENG.DBG_DATA o then s.engDbg e
  else s.reg (engBlk e) off

/-- A group delay register of lane `n` (R58, R95, R122): the delay while its direction is enabled; else the Reset value.
DESIGN CHOICE: the spec calls the value valid while RX_EN or TX_EN is 1, and states no other. -/
def gdlyShown (s : State) (n off : Nat) : Word :=
  let rx := s.fb (Blk.llane n) LLANE.RX_CTL_RX_EN
  let tx := s.fb (Blk.llane n) LLANE.TX_CTL_TX_EN
  BitVec.ofNat 32 (
    if off = LLANE.RX_GDLY then (if rx then s.rxGdly n else 0)
    else if off = LLANE.TX_GDLY then (if tx then s.txGdly n else 0)
    else if off = LLANE.ENC_GDLY then (if tx then s.encGdly n else 0)
    else if rx then s.decGdly n else 0)

/-- A read of an LLANE register; a read of the data register of a bank advances its index. -/
def llaneRead (s : State) (n off : Nat) : Word × State :=
  let b := Blk.llane n
  if off = LLANE.COEF_DATA then (s.coefPeek n, s.coefAdvance n)
  else if off = LLANE.TX_COEF_DATA then (s.txCoefPeek n, s.txCoefAdvance n)
  else if off = LLANE.RX_GDLY ∨ off = LLANE.TX_GDLY ∨ off = LLANE.ENC_GDLY ∨ off = LLANE.DEC_GDLY then (s.gdlyShown n off, s)
  else if off = LLANE.ADC_SLOT_DATA then (s.slotData n, s)
  else if off = LLANE.ADC_SUB_TRIM then (s.subTrim n, s)
  else if off = LLANE.DAC_SEG_DATA then (s.segData n, s)
  else (s.reg b off, s)

/-- A read of a FOG register. -/
def fogRead (s : State) (off : Nat) : Word × State :=
  if off = FOG.TXB_DATA then (s.fogTxbPeek, s.idxAdvance Blk.fog FOG.TXB_IDX_WORD FOG.TXB_IDX_AUTO_INC)
  else if off = FOG.RXB_DATA then
    (s.fogRingWord (s.f Blk.fog FOG.RXB_IDX_WORD), s.idxAdvance Blk.fog FOG.RXB_IDX_WORD FOG.RXB_IDX_AUTO_INC)
  else (s.reg Blk.fog off, s)

/-- A read of a BIST register (R427, R430). -/
def bistRead (s : State) (off : Nat) : Word :=
  let d := s.f Blk.bist BIST.DOM_IDX_DOMAIN
  if off = BIST.RESULT0 then BitVec.ofNat 32 s.bistResults
  else if off = BIST.RESULT1 then BitVec.ofNat 32 (s.bistResults / 2 ^ 32)
  else if off = BIST.DOM_DETAIL then s.bistDetail d
  else if off = BIST.DOM_SIG then SMap.get 0 s.bist.sig d
  else if off = BIST.EXCLUDED then s.pwr.excluded.setWidth 32
  else s.reg Blk.bist off

/-- A read of a TIME register. -/
def timeRead (s : State) (off : Nat) : Word :=
  let j := (off - TIME.TPI_NS 0) / 0x20
  if TIME.TPI_NS 0 ≤ off ∧ j < 2 ∧ TIME.TPI_NS j ≤ off ∧ off ≤ TIME.TPI_S_HI j then s.tpiWord j ((off - TIME.TPI_NS j) / 4)
  else s.reg Blk.time off

/-- A read of a TWIN register. -/
def twinRead (s : State) (off : Nat) : Word :=
  if TWIN.POS_REL0 ≤ off ∧ off ≤ TWIN.POS_REL2 then s.posRelWord ((off - TWIN.POS_REL0) / 4)
  else if TWIN.HEALTH_SEQ ≤ off ∧ off ≤ TWIN.HEALTH_DIG_HI then s.healthWord off
  else s.reg Blk.twin off

/-- What requester `q` reads at `off` of block `b` below the page header, and the state after the read: a
counter shows its latched value while one is held (R142). -/
def readOwn (s : State) (q : Requester) (b off : Nat) : Word × State :=
  let n := blkInstance b
  match SMap.get? s.latched (regKey b off), engineAt b off with
  | some w, _ => (w, s)
  | none, some e => (s.engRead q e off, s)
  | none, none =>
    match blkType b with
    | .glb => (s.glbRead off, s)
    | .kpr => s.kprRead q off
    | .sec => (s.secRead off, s)
    | .dbg => s.dbgRead off
    | .cfgv => (s.cfgvRead off, s)
    | .mem => (if off = MEM.REP_DATA then s.repWord else s.reg b off, s)
    | .dma => (if off = DMA.LINK_CAP then BitVec.ofNat 32 s.linkCap else s.reg b off, s)
    | .log => (if off = LOG.STG_STAT then s.stgStat else s.reg b off, s)
    | .time => (s.timeRead off, s)
    | .tsu => (s.tsuRead off, s)
    | .sched => (s.schedRead off, s)
    | .hk => (s.hkRead off, s)
    | .filt => if off = FILT.FCOEF_DATA then (s.fcoefPeek, s.fcoefAdvance) else (s.reg b off, s)
    | .therm => (if off = THERM.SENS_DATA then s.sensData else s.reg b off, s)
    | .fog => s.fogRead off
    | .twin => (s.twinRead off, s)
    | .perf =>
      let i := (off - PERF.PC_CTL 0) / 0x10
      (if PERF.PC_CTL 0 ≤ off ∧ off = PERF.PC_CTL i then
        (PERF.PC_CTL_VALID i).put (s.reg b off) (perfListed ((PERF.PC_CTL_EVT i).get (s.reg b off))).toNat
       else s.reg b off, s)
    | .bist => (s.bistRead off, s)
    | .pmap =>
      (if off = PMAP.SLOT_OWN then s.slotOwn
       else if PMAP.TX_ALIGNED 0 ≤ off ∧ off ≤ PMAP.TX_ALIGNED 1 then s.alignedMap false ((off - PMAP.TX_ALIGNED 0) / 4)
       else if PMAP.RX_ALIGNED 0 ≤ off ∧ off ≤ PMAP.RX_ALIGNED 1 then s.alignedMap true ((off - PMAP.RX_ALIGNED 0) / 4)
       else s.reg b off, s)
    | .llane => s.llaneRead n off
    | .hlane => if off = HLANE.HCOEF_DATA then (s.hcoefPeek n, s.hcoefAdvance n) else (s.reg b off, s)
    | _ => (s.reg b off, s)

/-- STAGE_STAT as read: DIRTY compares each shadow with its active value (R45). -/
def stageStat (s : State) (b : Nat) : Word := HDR.STAGE_STAT_DIRTY.put (s.reg b HDR.STAGE_STAT) (s.dirty b).toNat

/-- A read of the register at `off` of block `b` by requester `q`: write-only bits read 0 (R7), and RWS fields return the
shadow while SHADOW_VIEW = 1 (R43). -/
def readReg (s : State) (q : Requester) (b off : Nat) : Word × State :=
  if off = HDR.INT_STAT then (s.intStat b, s)
  else if off = HDR.INT_EN then (s.intEnable b, s)
  else if off = HDR.STAGE_STAT then (s.stageStat b, s)
  else
    let r := if off < 0x30 then (s.reg b off, s) else s.readOwn q b off
    let m := (classBits b off).2.1
    if s.fb b HDR.BLK_CTL_SHADOW_VIEW then ((r.1 &&& ~~~m) ||| (s.shadow b off &&& m), r.2) else r

end State
end Sys2Proof.Machine
end

