-- ==== Sys2Proof/Machine/SchedOps.lean ====
section
/-! DEFINITION. The firing of scheduler entries (R287 to R293). -/

namespace Sys2Proof.Machine
namespace State

/-- What an entry does at a cycle: nothing, the hold of R293, or a firing. -/
inductive Firing where
  | no | hold | fire
deriving DecidableEq, Repr

/-- Entry `k` in this cycle: enabled, waiting with its trigger reached or passed, in PS0 or PS1 (R287, R290, R293). -/
def seDue (s : State) (k : Nat) : Firing :=
  let e := s.se k
  if !e.en || e.state != 1 || !(e.passed || s.seReached e) then .no
  else if 2 ≤ s.f Blk.pwr PWR.STAT_STATE then .hold
  else .fire

/-- The action of entry `k` (R288), done once per cycle for one ACTION and ARG: `again` when an entry of this cycle has
done it. Answers whether it was refused. COMMIT and TSU_MARK act on the entry's own blocks and port, so each entry does
its own. -/
def seAct (s : State) (k : Nat) (again : Bool) : State × Bool :=
  let e := s.se k
  match e.action with
  | 1 => s.commitEntry k e.passed
  | 10 => (s.ptsuStamp e.port 0 e.hostBound 2 (sePos e) 0, false)
  | a =>
    if again then (s, false)
    else match a with
    | 2 => (s.spareSwitch, false)
    | 3 => (s.hkFire (e.arg % 16), false)
    | 4 => (s.measStart, false)
    | 5 => (s.hdacStrobe (2 ^ (e.arg % 16)), false)
    | 6 => (s.fogSlot, false)
    | 7 => (s.pwrRequest (e.arg % 8), false)
    | 8 => (s.logSnap (e.arg % 256) (sePos e), false)
    | 9 => if s.stepBars (e.arg % 4) then (s.stepRefuse (e.arg % 4), true) else (s.stepGo (e.arg % 4), false)
    | _ => (s, false)

/-- Entry `k` fires: its action, the records of R292, its next trigger (R291), and what hangs on the firing. -/
def seFire (s : State) (k : Nat) (again : Bool) : State :=
  let e := s.se k
  let late := e.passed
  let r := (s.goldFire k).seAct k again
  let s := r.1
  let s := (s.seRecord k (if r.2 then 4 else if late then 2 else 1)).perf 14 2 1
  let s := if e.twin then s.coordFired k (!r.2) else s
  if (s.se k).en then s.seAdvance k (!e.isTime && s.genGone e) else s

/-- The entries of `ks` whose triggers fall in this cycle (R292): they fire in ascending order. -/
def seCycle (s : State) (ks : List Nat) : State :=
  let l := (List.range 256).filter fun k => ks.contains k
  let held := l.filter fun k => s.seDue k == .hold
  let fire := l.filter fun k => s.seDue k == .fire
  let s := held.foldl (fun s k => s.setSe k { s.se k with state := 3 }) s
  (fire.foldl (fun (a : State × List (Nat × Nat)) k =>
    let e := a.1.se k
    let key := (e.action, if e.action = 2 ∨ e.action = 4 ∨ e.action = 6 then 0 else e.arg)
    (a.1.seFire k (a.2.contains key), key :: a.2)) (s, [])).1

end State
end Sys2Proof.Machine
end

