-- ==== Sys2Proof/Machine/SoftReset.lean ====
section
/-! DEFINITION. BLK_CTL.SOFT_RESET (R8): the fields of a block return to their Reset values with its coefficient and filter
banks, an armed block is disarmed without a report (R49), and what the block was doing ends. Memories keep their contents. -/

namespace Sys2Proof.Machine
namespace State

/-- The engines of block `b` halt and lose their registers; their memories keep their contents. -/
def engsReset (s : State) (b : Nat) : State :=
  (blkEngines b).foldl (fun s e => { s.setRun e .halted with engines := SMap.erase s.engines e }) s

/-- What block `b` does when it is reset, its registers still holding their values. -/
def softEnd (s : State) (b : Nat) : State :=
  let n := blkInstance b
  match blkType b with
  | .llane =>
    let s := ((((s.rxCtl n 0).txCtl n 0).innerIdle n).engsReset b)
    let s := if n = 16 then s.pllCtl .spare 0 else s
    { s with line := SMap.erase s.line n }
  | .lclu => ((s.engsReset b).linePwr n 0).pllCtl (.line (Fin.ofNat 4 n)) 0
  | .hclu => (((s.engsReset b).hostLanePwr n 0).pllCtl (.hostA (Fin.ofNat 4 n)) 0).pllCtl (.hostB (Fin.ofNat 4 n)) 0
  | .hlane => { s.hlCtl n 0 with host := SMap.erase s.host n }
  | .port =>
    let s := (s.setF b HDR.BLK_CTL_ENABLE 0).portRebuild n
    { s with portMon := SMap.drop (fun k => k / 2 == n) s.portMon }
  | .fec => (List.range 17).foldl lpcDrop s
  | .time =>
    let s := (List.range 4).foldl (fun s k => s.tpoDrive k false) s
    let s := [1, 2, 3].foldl (fun s k => if s.fb Blk.time (TIME.TB_CTL_EN k) then s.tbStopped k else s) s
    { s with tpi := [], tbStep := [], tpoIssued := [] }
  | .tsu => { s with portTsu := [], laneTsu := [] }
  | .sched => { (s.seWhere fun _ => true).foldl seDisarm s with sched := {} }
  | .hk => { s with hk := [] }
  | .filt => { s with fcoef := [] }
  | .hdac => { s with hdac := [] }
  | .therm => s.thermSoft
  | .fog => { s.fogAbort with fog := {} }
  | .twin => { s with twin := {} }
  | .mem => { s with sram := { s.sram with sealJob := [], sealCount := 0, gold := [], goldDue := false } }
  | .ddr => s.modDdr fun d => { d with training := false }
  | .dma => { s with dma := [], tap := {} }
  | .log => { s.logFree with log := {} }
  | .pwr => s.hsUndo.modPwr fun p => { p with pmb := {}, dom := none }
  | .kpr => s.keeperRestart
  | .dbg => { s with dbg := {} }
  | .cfgv => { s with cfgv := { active := s.cfgv.active, previous := s.cfgv.previous } }
  | .bist => { s with bist := {} }
  | _ => s

/-- The fields that a soft reset of block `b` does not return: what pins, clocks, fuses and the link dictate, and those that
their chapters say survive (R330, R458). -/
def softKeeps (b : Nat) : List Fld :=
  match blkType b with
  | .therm => [THERM.STAT_CRIT]
  | .aon => [⟨AON.AON_CNT_LO, 0, 32⟩, ⟨AON.AON_CNT_HI, 0, 32⟩, ⟨AON.PIN_STAT, 0, 32⟩, AON.XTAL_STAT_OK]
  | .clk => [CLK.STAT_REF_PLL_LOCK, CLK.STAT_ON_AON, ⟨CLK.REF_PPM, 0, 32⟩]
  | .pcie => [⟨PCIE.LINK_STAT, 0, 32⟩]
  | .pwr => [PWR.STAT_STATE]
  | .sec => [SEC.LC_FUSE_BUSY]
  | _ => []

/-- What follows the reset of the registers of block `b`. -/
def softBegin (old s : State) (b : Nat) : State :=
  let n := blkInstance b
  match blkType b with
  | .llane => (((s.codecRefresh n).squelch n).holdoverAll).portsEval
  | .hclu => s.portsEval
  | .port => s.portRebuild n
  | .pmap => s.portsEval
  | .fec => ((List.range 17).foldl codecRefresh s).portsEval
  | .hdac => (List.range 32).foldl (fun s k => s.hdacOut k (s.hdacClr k)) s
  | .filt => (List.range 4).foldl filtChanged s
  | .glb => { s with intnCopy := s.reg Blk.glb (GLB.INTN_MASK 0) }
  | .dbg => if old.dbgLevel = 0 then s else s.setF Blk.dbg DBG.STAT_LAST_EXPIRY 1
  | .bist => s.bistResume
  | _ => s

/-- SOFT_RESET of block `b`. -/
def softReset (s : State) (b : Nat) : State :=
  let t := (s.softEnd b).clearBlk b
  let t := (softKeeps b).foldl (fun t fl => t.setF b fl (s.f b fl)) t
  s.softBegin t b

end State
end Sys2Proof.Machine
end

