-- ==== Sys2Proof/Machine/Writes.lean ====
section
/-! DEFINITION. Register writes (spec/02): the page header (R43), and what a write of each block's registers does. -/

namespace Sys2Proof.Machine
namespace State

/-! ### The page header (R43, R45, R49, R53, R55) -/

/-- A write of BLK_CTL: SOFT_RESET alone, or STAGE and ENABLE with what follows their changes. -/
def blkCtl (s : State) (b : Nat) (v : Word) : State :=
  if HDR.BLK_CTL_SOFT_RESET.get v = 1 then s.softReset b
  else
    let was := s.fb b HDR.BLK_CTL_ENABLE
    let staged := s.staged b
    let t := s.writeReg b HDR.BLK_CTL v
    let t := if !staged && t.staged b then t.loadShadows b
      else if staged && !t.staged b then (t.disarm b).dropShadows b else t
    if t.fb b HDR.BLK_CTL_ENABLE = was then t
    else match blkType b with
    | .port => t.portRebuild (blkInstance b)
    | .therm => t.thermEnable was
    | _ => t

/-- A W1C write of INT_STAT (R55): engine sources that still hold stay set, and the block's vector sends again while its
input is 1. -/
def intClear (s : State) (b : Nat) (v : Word) : State :=
  let s := s.setIntStat b (s.intStat b &&& ~~~v)
  let s := (blkEngines b).foldl engIrq s
  if s.vectorInput (s.vectorOf b) then s.sendVector (s.vectorOf b) else s

/-- The INT_STAT sources a block has: bits 0 to 2 and its own from 4 on. -/
def intSources (b : Nat) : Word := BitVec.ofNat 32 ((2 ^ numInt (blkType b) - 1) - 8)

/-- A write of a header register. -/
def headerWrite (s : State) (b off : Nat) (v : Word) : State :=
  if off = HDR.BLK_CTL then s.blkCtl b v
  else if off = HDR.INT_STAT then s.intClear b v
  else if off = HDR.INT_EN then { s with intEn := SMap.put 0 s.intEn b v }.parityNew (regKey b off)
  else if off = HDR.INT_FORCE then s.raiseMask b (v &&& intSources b)
  else if off = HDR.PAR_STAT then
    (if HDR.PAR_STAT_ERR.get v = 1 then (s.setF b HDR.PAR_STAT_ERR 0).setF b HDR.PAR_STAT_COUNT 0 else s)
  else if off = HDR.STAGE_CTL then s.stageCtl b v
  else s.writeReg b off v

/-! ### Block registers -/

/-- A write of a register of engine `e`. -/
def engWrite (s : State) (q : Requester) (e off : Nat) (v : Word) : State :=
  let o := engBase e
  if off = ENG.LE_CTL o then s.leCtl e v
  else if off = ENG.LE_EVT o ∨ off = ENG.LE_EVT_EN o then s.leEvtWrite e off v
  else if off = ENG.UC_DATA o then s.ucDataWrite q e v
  else if off = ENG.UC_SEAL o then s.ucSeal q e v
  else if off = ENG.MBX_CMD o then s.mbxCmd e v
  else if off = ENG.MBX_ARG0 o ∨ off = ENG.MBX_ARG1 o then s.mbxArg e off v
  else s.writeReg (engBlk e) off v

/-- A write of an LLANE register. -/
def llaneWrite (s : State) (n off : Nat) (v : Word) : State :=
  let b := Blk.llane n
  if off = LLANE.RX_CTL then s.rxCtl n v
  else if off = LLANE.ADC_CTL then s.adcCtl n v
  else if off = LLANE.COEF_DATA then s.coefWrite n v
  else if off = LLANE.RES_CTL then s.resCtl n v
  else if off = LLANE.RES_STAT then (if h : n < 17 then s.counterCtlWrite (.residue ⟨n, h⟩) v else s)
  else if off = LLANE.EYE_CTL then s.eyeCtl n v
  else if off = LLANE.INNER_CTL then s.innerCtl n v
  else if off = LLANE.INNER_CNT_CTL then (if h : n < 17 then s.counterCtlWrite (.inner ⟨n, h⟩) v else s)
  else if off = LLANE.TX_CTL then s.txCtl n v
  else if off = LLANE.TX_STAT then s.txStat n v
  else if off = LLANE.TX_COEF_DATA then s.txCoefWrite n v
  else if off = LLANE.TX_PD_CTL ∨ off = LLANE.TX_PD_MAP then s.txPdWrite n off v
  else if off = LLANE.TX_DAC_CTL then s.txDacCtl n v
  else if off = LLANE.TX_TSRC then s.txTsrc n v
  else if off = LLANE.TX_MIRROR then s.txMirror n v
  else if off = LLANE.TX_CNT_STAT then (if h : n < 17 then s.counterCtlWrite (.clip ⟨n, h⟩) v else s)
  else if off = LLANE.SPLL_CTL ∧ n = 16 then s.pllCtl .spare v
  else s.writeReg b off v

/-- A write of an HLANE register. -/
def hlaneWrite (s : State) (m off : Nat) (v : Word) : State :=
  if off = HLANE.HL_CTL then s.hlCtl m v
  else if off = HLANE.NEG_CTL then s.negCtl m v
  else if off = HLANE.HCOEF_DATA then s.hcoefWrite m v
  else if off = HLANE.CNT_STAT then (if h : m < 64 then s.counterCtlWrite (.sync ⟨m, h⟩) v else s)
  else s.writeReg (Blk.hlane m) off v

/-- A write of an LCLU or HCLU register below the engine sets. -/
def clusterWrite (s : State) (b off : Nat) (v : Word) : State :=
  let n := blkInstance b
  match blkType b with
  | .lclu =>
    if off = LCLU.PLL_CTL then s.pllCtl (.line (Fin.ofNat 4 n)) v
    else if off = LCLU.LANE_PWR then s.linePwr n v
    else s.writeReg b off v
  | _ =>
    if off = HCLU.PLLA_CTL then s.pllCtl (.hostA (Fin.ofNat 4 n)) v
    else if off = HCLU.PLLB_CTL then s.pllCtl (.hostB (Fin.ofNat 4 n)) v
    else if off = HCLU.LANE_PWR then s.hostLanePwr n v
    else s.writeReg b off v

/-- A write of a PORT register. -/
def portWrite (s : State) (p off : Nat) (v : Word) : State :=
  if off = PORT.ALIGN_CTL then s.alignCtl p v
  else if off = PORT.CNT_CTL then (if h : p < 64 then s.counterCtlWrite (.port ⟨p, h⟩) v else s)
  else s.writeReg (Blk.port p) off v

/-- A write of a FEC register. -/
def fecWrite (s : State) (off : Nat) (v : Word) : State :=
  let i := (off - FEC.LANE_CTL 0) / 4
  let j := (off - FEC.LPC_STAT 0) / 0x20
  if FEC.LANE_CTL 0 ≤ off ∧ off ≤ FEC.LANE_CTL 16 then s.fecLaneCtl i v
  else if FEC.CNT_CTL 0 ≤ off ∧ off = FEC.CNT_CTL j then (if h : j < 17 then s.counterCtlWrite (.lpc ⟨j, h⟩) v else s)
  else s.writeReg Blk.fec off v

/-- A write of a FOG register. -/
def fogWrite (s : State) (off : Nat) (v : Word) : State :=
  if off = FOG.FOG_CTL then s.fogCtl v
  else if off = FOG.TX_QCTL then s.fogQueue v
  else if off = FOG.TXB_DATA then s.fogTxbWrite v
  else if off = FOG.RX_POP then (if v.getLsbD 0 then s.fogPop else s)
  else if off = FOG.HK_RX then s.fogHkRx v
  else if off = FOG.HDAC_TX then s.fogHdacTx v
  else if off = FOG.CNT_CTL then s.counterCtlWrite .foghorn v
  else s.writeReg Blk.fog off v

/-- A write of a TWIN register. -/
def twinWrite (s : State) (off : Nat) (v : Word) : State :=
  if off = TWIN.PAIR_CTL then s.pairCtl v
  else if off = TWIN.POS_CTL then s.posCtl v
  else if off = TWIN.COORD_CTL then s.coordCtl v
  else if off = TWIN.SPARE_CTL then s.spareCtl v
  else if off = TWIN.RANGE_CTL then s.rangeCtl v
  else if off = TWIN.HEALTH_CTL then s.healthCtl v
  else s.writeReg Blk.twin off v

/-- A write of PERF.CTL: CLR_ALL zeroes every counter (R436). -/
def perfCtl (s : State) (v : Word) : State :=
  let s := s.writeReg Blk.perf PERF.CTL v
  if PERF.CTL_CLR_ALL.get v = 1 then
    (List.range 64).foldl (fun s i => (s.setReg Blk.perf (PERF.PC_LO i) 0).setReg Blk.perf (PERF.PC_HI i) 0) s
  else s

/-- A write of BIST.CTL: STOP, then START. -/
def bistCtl (s : State) (v : Word) (refclk : Bool) (rails : BitVec 7) : State :=
  let s := if BIST.CTL_STOP.get v = 1 then (s.bistCut 8).bistResume else s
  if BIST.CTL_START.get v = 1 then s.bistStart refclk rails else s

/-- A write of a GLB register: INTN_MASK0 updates the copy of PD_AON (R56), and OFF_ACCESS clears COUNT (R15). -/
def glbWrite (s : State) (off : Nat) (v : Word) : State :=
  let s := s.writeReg Blk.glb off v
  if off = GLB.INTN_MASK 0 then { s with intnCopy := s.reg Blk.glb off }
  else if off = GLB.OFF_ACC_STAT ∧ GLB.OFF_ACC_STAT_OFF_ACCESS.get v = 1 then s.setF Blk.glb GLB.OFF_ACC_STAT_COUNT 0
  else s

/-- A write of a PCIE register: a flag of ERR_STAT written 1 clears COUNT (R31). -/
def pcieWrite (s : State) (off : Nat) (v : Word) : State :=
  let s := s.writeReg Blk.pcie off v
  if off = PCIE.ERR_STAT ∧ v.toNat % 8 ≠ 0 then s.setF Blk.pcie PCIE.ERR_STAT_COUNT 0 else s

/-- The image that KCTL.LOAD finds in DMA staging, where the command does not bring it. -/
def anyImage (s : State) : FwImage × State :=
  let r := s.draw 3
  let v := r.2.draw 32
  let n := v.2.draw 6
  (⟨r.1.toFin, v.1, n.1⟩, n.2)

/-- A write of the register at `off` of block `b` below its header, by requester `q`. What the write meets outside the
register model, where the command does not bring it, is open: VOUT_MODE at the regulator (R397), REFCLK and the rails as BIST
finds them (R426), the image in DMA staging (R411). -/
def writeOwn (s : State) (q : Requester) (b off : Nat) (v : Word) : State :=
  let n := blkInstance b
  match engineAt b off with
  | some e => s.engWrite q e off v
  | none =>
    match blkType b with
    | .glb => s.glbWrite off v
    | .pwr =>
      if off = PWR.PMB_CFG then
        let d := s.draw 8
        d.2.pwrWriteReg q off v d.1
      else s.pwrWriteReg q off v 0
    | .kpr =>
      if off = KPR.KCTL then
        let d := s.anyImage
        d.2.kprWrite q off v d.1
      else s.kprWrite q off v ⟨0, 0, 0⟩
    | .sec => s.secWrite q off v
    | .dbg => s.dbgWrite off v
    | .cfgv => s.cfgvWrite off v
    | .mem => s.memWriteReg q off v
    | .ddr => s.ddrWriteReg off v
    | .dma => s.dmaWriteReg off v
    | .log => s.logWriteReg off v
    | .pcie => s.pcieWrite off v
    | .time => s.timeWrite off v
    | .tsu => s.tsuWrite off v
    | .sched => s.schedWrite off v
    | .hk => s.hkWrite off v
    | .filt => s.filtWrite off v
    | .hdac => s.hdacWrite off v
    | .therm => s.thermWrite off v
    | .fog => s.fogWrite off v
    | .twin => s.twinWrite off v
    | .perf => if off = PERF.CTL then s.perfCtl v else s.writeReg b off v
    | .bist =>
      if off = BIST.CTL then
        let c := s.draw 1
        let r := c.2.draw 7
        r.2.bistCtl v (c.1 == 1) r.1
      else if off = BIST.LANE_CTL then s.laneTest v
      else s.writeReg b off v
    | .fec => s.fecWrite off v
    | .llane => s.llaneWrite n off v
    | .lclu | .hclu => s.clusterWrite b off v
    | .hlane => s.hlaneWrite n off v
    | .port => s.portWrite n off v
    | .aon => if off = AON.WAKE_CTL then (s.writeReg b off v).wakeHeldPins else s.writeReg b off v
    | _ => s.writeReg b off v

/-- The registers whose own write does what a change of their word in use calls for. -/
def actsItself (b off : Nat) : Bool :=
  match blkType b with
  | .hdac => decide (0x200 ≤ off) && decide (off < 0x400) && decide (off % 0x10 = HDAC.CH_CTL 0 % 0x10)
  | _ => (engineAt b off).any fun e => off == ENG.LE_CTL (engBase e)

/-- A write of the register at `off` of block `b`: its own effect, then the pairs of the block are checked, and while STAGE = 0
words in use that changed act (R50). -/
def writeDirect (s : State) (q : Requester) (b off : Nat) (v : Word) : State :=
  if off < 0x30 then s.headerWrite b off v
  else
    let t := s.writeOwn q b off v
    let t := recheck s t b
    if s.staged b || actsItself b off then t else activeChanged s t b

end State
end Sys2Proof.Machine
end

