-- ==== Sys2Proof/Machine/Bus.lean ====
section
/-! DEFINITION. The host's paths into the device (spec/02, spec/14): the BAR0 map, the aliases and holding registers, the
MSI-X table, the TB1608 window, the I2C target, and BAR2 and BAR4. -/

namespace Sys2Proof.Machine

/-! ### The BAR0 map (R36 to R38, R370) -/

/-- What a BAR0 offset names. -/
inductive Bar0Target where
  /-- Register at `off` of block `b`, through alias `al`: 0 direct, 1 set, 2 clear, 3 toggle. -/
  | reg (b off al : Nat)
  /-- Word `w` of MSI-X vector `v`. -/
  | msix (v w : Nat)
  /-- Word `w` of the pending-bit array. -/
  | pba (w : Nat)
  /-- A register of DMA channel `c` through the TB1608 window. -/
  | tb (c off : Nat)
  | unmapped
deriving DecidableEq, Repr

/-- The DMA register at offset `o` of channel `c` in the TB1608 layout (R370). -/
def tbReg (c o : Nat) : Option Nat :=
  match o with
  | 0x00 => some (DMA.CH_CTL c) | 0x04 => some (DMA.CH_STAT c) | 0x08 => some (DMA.CH_RING_LO c)
  | 0x0C => some (DMA.CH_RING_HI c) | 0x10 => some (DMA.CH_HEAD c) | 0x14 => some (DMA.CH_TAIL c) | _ => none

/-- What the word at BAR0 offset `a` is. -/
def bar0Target (a : Nat) : Bar0Target :=
  let a := a - a % 4
  match blkOfWindow (a / 0x4000) with
  | some b => .reg b (a % 0x1000) (a % 0x4000 / 0x1000)
  | none =>
    if 0xFE0000 ≤ a ∧ a < 0xFE1000 then .msix ((a - 0xFE0000) / 16) (a % 16 / 4)
    else if 0xFE1000 ≤ a ∧ a < 0xFE1020 then .pba ((a - 0xFE1000) / 4)
    else if 0xFF0000 ≤ a ∧ a < 0xFF0800 then
      (match tbReg ((a - 0xFF0000) / 0x100) (a % 0x100) with
       | some o => .tb ((a - 0xFF0000) / 0x100) o
       | none => .unmapped)
    else .unmapped

/-- The lower words of the wide register whose most significant word is at `off` of block `b` (R41). -/
def wideLow (b off : Nat) : List Nat :=
  match blkType b with
  | .time =>
    let n := (off - 0x100) / 0x40
    let k := (off - TIME.TPO_START_S_HI 0) / 0x20
    if off = TIME.TB_FREQ_HI n ∧ n < 4 then [TIME.TB_FREQ_LO n]
    else if off = TIME.TB_STEP_S_HI n ∧ n < 4 then [TIME.TB_STEP_NS n, TIME.TB_STEP_S_LO n]
    else if off = TIME.TPO_START_S_HI k ∧ k < 4 then [TIME.TPO_START_NS k, TIME.TPO_START_S_LO k]
    else []
  | .tsu =>
    if off = TSU.PT_FLT_VAL_HI then [TSU.PT_FLT_VAL_LO] else if off = TSU.PT_FLT_MASK_HI then [TSU.PT_FLT_MASK_LO] else []
  | .dma =>
    let c := (off - 0x200) / 0x40
    if 0x200 ≤ off ∧ c < 16 ∧ off = DMA.CH_RING_HI c then [DMA.CH_RING_LO c] else []
  | .twin =>
    if off = TWIN.EXPECT_ID 3 then [TWIN.EXPECT_ID 0, TWIN.EXPECT_ID 1, TWIN.EXPECT_ID 2]
    else if off = TWIN.COORD_N_HI then [TWIN.COORD_N_LO] else []
  | .sec => if off = SEC.ROOT_HASH 11 then (List.range 11).map SEC.ROOT_HASH else []
  | _ => []

/-- The most significant word of the wide register that `off` of block `b` is a lower word of. -/
def wideTop (b off : Nat) : Option Nat := ((List.range 12).map fun i => off + 4 * i).find? fun t => (wideLow b t).contains off

namespace State

/-- The RW and RWS bits of the register at `off` of block `b` as a read-modify-write finds them: RWS bits from the shadow while
STAGE = 1 (R38). -/
def mergeBase (s : State) (q : Requester) (b off : Nat) : Word :=
  let m := classBits b off
  let w := if off = HDR.INT_EN then s.intEnable b else if off < 0x30 then s.reg b off else (s.readOwn q b off).1
  (w &&& m.1) ||| ((if s.staged b then s.shadow b off else w) &&& m.2.1)

/-- The word that a write of `v` through alias `al` stores (R38): the aliases act on RW and RWS fields only. -/
def aliasWord (s : State) (q : Requester) (b off al : Nat) (v : Word) : Word :=
  let m := (classBits b off).1 ||| (classBits b off).2.1
  let w := s.mergeBase q b off
  match al with
  | 0 => v
  | 1 => w ||| (v &&& m)
  | 2 => w &&& ~~~(v &&& m)
  | _ => w ^^^ (v &&& m)

/-- A write of one word through an alias. -/
def writeAlias (s : State) (q : Requester) (b off al : Nat) (v : Word) : State :=
  s.writeDirect q b off (s.aliasWord q b off al v)

/-! ### Holding registers (R41) -/

/-- The holding register of requester `q` when it serves the wide register with top word `key`, else nothing held. -/
def heldFor (s : State) (q : Requester) (key : Nat) : SMap HeldWord :=
  match SMap.get? s.hold (reqCode q) with
  | some h => if h.target = key then h.words else []
  | none => []

/-- A lower word of a wide register is held; words held for another register are discarded. -/
def holdWord (s : State) (q : Requester) (b top off al : Nat) (v : Word) : State :=
  let key := regKey b top
  let words := SMap.set (s.heldFor q key) (regKey b off) ⟨al, v⟩
  { s with hold := SMap.set s.hold (reqCode q) ⟨key, words⟩ }

/-- The most significant word is written: the held words take effect with it, lowest first, and every other lower word keeps
its value. The frequency word of a time base is judged as a whole (R271). -/
def writeWide (s : State) (q : Requester) (b top al : Nat) (v : Word) : State :=
  let held := s.heldFor q (regKey b top)
  let t := { s with hold := SMap.erase s.hold (reqCode q) }
  let n := (top - 0x100) / 0x40
  if b = Blk.time ∧ top = TIME.TB_FREQ_HI n then
    let lo := match SMap.get? held (regKey b (TIME.TB_FREQ_LO n)) with
      | some h => s.aliasWord q b (TIME.TB_FREQ_LO n) h.alias_ h.word
      | none => s.reg b (TIME.TB_FREQ_LO n)
    let w := t.tbRate n (lo.toNat + (s.aliasWord q b top al v).toNat * 2 ^ 32)
    (w.parityNew (regKey b (TIME.TB_FREQ_LO n))).parityNew (regKey b top)
  else
    let t := held.foldl (fun t h => t.writeAlias q b (h.1 % 4096) h.2.alias_ h.2.word) t
    t.writeAlias q b top al v

/-- A write of a word of block `b`: a wide register goes through the holding register. -/
def writeWord (s : State) (q : Requester) (b off al : Nat) (v : Word) : State :=
  match wideTop b off with
  | some top => s.holdWord q b top off al v
  | none => if (wideLow b off).isEmpty then s.writeAlias q b off al v else s.writeWide q b off al v

/-! ### Refused and unmapped writes (R37, R40) -/

/-- A write that BAR0 does not take: the flag, the requester, the offset, and the GLB source. -/
def accErr (s : State) (q : Requester) (a : Nat) (fl : Fld) (int : Nat) : State :=
  if !s.domReady Dom.fab then s
  else ((s.setF Blk.glb GLB.STAT_SRC (reqCode q)).setReg Blk.glb GLB.ACC_ERR_ADDR (BitVec.ofNat 32 (a % 2 ^ 24))).flag Blk.glb
    fl int

/-! ### The MSI-X table (R36, R55) -/

/-- Vector `v` is no longer masked, or the link has come up: a pending bit clears, and its message goes if its input is
still 1. -/
def pendSend (s : State) (v : Nat) : State :=
  if s.pba.getLsbD v && !s.msixMasked v then
    let s := { s with pba := s.pba &&& ~~~BitVec.twoPow 256 v }
    if s.vectorInput v then s.sendVector v else s
  else s

/-- A write of word `w` of MSI-X vector `v`: address bits [1:0] and the reserved bits of the control word hold 0. -/
def msixWrite (s : State) (v w : Nat) (x : Word) : State :=
  let x := if w = 0 then x &&& ~~~(3 : Word) else if w = 3 then x &&& 1 else x
  let t := { s with msix := SMap.put (if w = 3 then 1 else 0) s.msix (4 * v + w) x }
  t.pendSend v

/-! ### BAR0 accesses (R15, R35 to R42, R414) -/

/-- A BAR0 write by requester `q`: byte enables `be`, offset `a`. The debug level is judged first, then the form of the
write, then the map, then the domain. -/
def busWrite (s : State) (q : Requester) (a be : Nat) (v : Word) : State :=
  let s := if q = .pcie then s.tlp 0 1 else s
  if !s.dbgAdmits q true then s.dbgDenied
  else if be ≠ 15 ∨ a % 4 ≠ 0 then s.accErr q a GLB.STAT_ACCESS_ERR GLB.INT_ACCESS_ERR
  else match bar0Target a with
  | .reg b off al => if s.reach b then s.writeWord q b off al v else s.offRecord .bar0 a true
  | .msix n w => if s.domReady Dom.pcie && !s.held then s.msixWrite n w v else s.offRecord .bar0 a true
  | .pba _ => if s.domReady Dom.pcie && !s.held then s else s.offRecord .bar0 a true
  | .tb c off =>
    if !s.reach Blk.dma then s.offRecord .bar0 a true
    else if off = DMA.CH_CTL c then s.dmaAliasCtl c v
    else s.writeWord q Blk.dma off 0 v
  | .unmapped => s.accErr q a GLB.STAT_UNMAPPED GLB.INT_UNMAPPED

/-- A BAR0 read of the word that holds offset `a` by requester `q`. -/
def busRead (s : State) (q : Requester) (a : Nat) : Word × State :=
  if !s.dbgAdmits q false then (0, s.dbgDenied)
  else match bar0Target a with
  | .reg b off _ => if s.reach b then s.readReg q b off else (0, s.offRecord .bar0 a false)
  | .msix n w => if s.domReady Dom.pcie && !s.held then (s.msixWord n w, s) else (0, s.offRecord .bar0 a false)
  | .pba w =>
    if s.domReady Dom.pcie && !s.held then (BitVec.ofNat 32 (s.pba.toNat / 2 ^ (32 * w)), s)
    else (0, s.offRecord .bar0 a false)
  | .tb _ off => if s.reach Blk.dma then s.readReg q Blk.dma off else (0, s.offRecord .bar0 a false)
  | .unmapped => (0, s)

/-- The block that answers at offset `a`: none for what PD_PCIE holds beside its block and for unmapped offsets. -/
def busBlk (a : Nat) : Option Nat :=
  match bar0Target a with
  | .reg b _ _ => some b
  | .msix _ _ | .pba _ => some Blk.pcie
  | .tb _ _ => some Blk.dma
  | .unmapped => none

/-! ### BAR2 and BAR4 (R30, R31, R334, R335, R342, R346) -/

/-- The code of a requester in `MEM.UE_INFO.SRC` and in DDR records (R351). -/
def ueSrc (q : Requester) : Nat :=
  match q with
  | .pcie | .i2c => 0 | .keeper => 1 | .debug => 5

/-- Data that meets an uncorrectable or poisoned word (R31, R351): a poisoned completion or a Completer Abort toward the
host; an error response to the debug port, and an access fault to the Keeper, which carry no data. -/
def ueAnswer (s : State) (q : Requester) (bar : Bar) (off : Nat) (data : List Byte) : State :=
  match q with
  | .pcie =>
    let mode := s.fb Blk.pcie PCIE.ERR_CTL_POISON_MODE
    let s := s.setF Blk.pcie (if mode then PCIE.ERR_STAT_CA_SENT else PCIE.ERR_STAT_POISONED_SENT) 1
    let s := s.countSat Blk.pcie PCIE.ERR_STAT_COUNT 1
    let s := s.setReg Blk.pcie PCIE.ERR_ADDR (BitVec.ofNat 32 (barCode bar * 2 ^ 30
      + (if bar = .bar4 then off / 16 else off) % 2 ^ 30))
    if mode then s.send (.completerAbort bar off) else (s.send (.poisoned bar off data)).tlp 3 1
  | .debug => if s.blkOn Blk.dbg then s.setF Blk.dbg DBG.STAT_BUS_ERR 1 else s
  | _ => s

/-- How a BAR2 access of `n` bytes at `off` is judged: denied at an offset (R335), met an unpowered domain at one (R15), or
permitted. -/
inductive Judged where
  | ok | denied (off : Nat) | off (off : Nat)
deriving DecidableEq, Repr

/-- The first word that bars a BAR2 access decides it. -/
def bar2Judge (s : State) (q : Requester) (a n : Nat) (write : Bool) : Judged :=
  ((wordsOf a n).findSome? fun w =>
    match sramDomain (4 * w) with
    | none => some (Judged.denied (4 * w))
    | some d =>
      if !s.domReady d then some (Judged.off (4 * w))
      else if s.bar2Allows q (4 * w) write then none else some (Judged.denied (4 * w))).getD .ok

/-- Reads the words of a BAR2 access: the stored bytes and whether a word was uncorrectable or poisoned. A coefficient
retention bank that holds a save shows bytes whose layout the spec does not give (R391). -/
def bar2Words (s : State) (q : Requester) (a n : Nat) : List Byte × Bool × State :=
  (wordsOf a n).foldl (fun (r : List Byte × Bool × State) w =>
    let s := r.2.2
    let saved := match sramRegion (4 * w) with
      | some (4, _) => s.pwr.saved.testBit ((4 * w - 0x2D00000) / 0x20000)
      | _ => false
    if saved then
      let d := s.draw 32
      (r.1 ++ wordSlice w a n d.1.toNat, r.2.1, d.2)
    else
      let x := s.sramRead w (ueSrc q)
      (r.1 ++ wordSlice w a n x.1.data, r.2.1 || x.1.flagged, x.2)) ([], false, s)

/-- A BAR2 read. -/
def bar2Read (s : State) (q : Requester) (a n : Nat) : State :=
  let zeros := OutMsg.memData .bar2 a (List.replicate n 0)
  match s.bar2Judge q a n false with
  | .denied o => (s.memDenied o).send zeros
  | .off o => (s.offRecord .bar2 o false).send zeros
  | .ok =>
    let r := s.bar2Words q a n
    if r.2.1 then r.2.2.ueAnswer q .bar2 a r.1 else r.2.2.send (.memData .bar2 a r.1)

/-- A BAR2 write. The Keeper, which is internal, keeps sealed pages that it writes whole sealed (R339). -/
def bar2Write (s : State) (q : Requester) (a : Nat) (data : List Byte) : State :=
  match s.bar2Judge q a data.length true with
  | .denied o => s.memDenied o
  | .off o => s.offRecord .bar2 o true
  | .ok =>
    if data.isEmpty then s
    else
      let s := if q = .keeper ∧ a % 1024 = 0 ∧ data.length % 1024 = 0 then s.sramPoke a data else s.sramWrite a data
      ((List.range ((a + data.length - 1) / 1024 - a / 1024 + 1)).map (a / 1024 + ·)).foldl
        (fun s p => s.bar2Microcode (1024 * p)) s

/-- How a BAR4 access is judged: above the installed channel, or without DDR4 service, as R15; in the trailer area denied. -/
def bar4Judge (s : State) (a n : Nat) : Judged :=
  let last := a + n - 1
  if !s.ddrServes then .off a
  else if s.ddrf DDR.CFG_SIZE_GIB * 2 ^ 30 ≤ last then .off (max a (s.ddrf DDR.CFG_SIZE_GIB * 2 ^ 30))
  else if s.ddrData ≤ last then .denied (max a s.ddrData)
  else .ok

/-- A BAR4 read. -/
def bar4Read (s : State) (q : Requester) (a n : Nat) : State :=
  let zeros := OutMsg.memData .bar4 a (List.replicate n 0)
  match s.bar4Judge a n with
  | .denied o => (s.ddrDenied o).send zeros
  | .off o => (s.offRecord .bar4 o false).send zeros
  | .ok =>
    let r := s.ddrRead a n (ueSrc q)
    if r.1 then r.2.2.send (.memData .bar4 a r.2.1) else r.2.2.ueAnswer q .bar4 a r.2.1

/-- A BAR4 write. -/
def bar4Write (s : State) (a : Nat) (data : List Byte) : State :=
  match s.bar4Judge a data.length with
  | .denied o => s.ddrDenied o
  | .off o => s.offRecord .bar4 o true
  | .ok => s.ddrWrite a data false

/-- Requester `q` reaches BAR2 and BAR4: the I2C target does not (R33), and nobody does while PD_FAB is off or power-on BIST
holds the device (R428). -/
def memReach (s : State) (q : Requester) : Bool := q != .i2c && s.domReady Dom.fab && !s.held

/-- A read through BAR2 or BAR4; BAR0 is read by words. -/
def memRead (s : State) (q : Requester) (bar : Bar) (a n : Nat) : State :=
  if !s.memReach q || n == 0 then s
  else
    let s := if q = .pcie then (s.tlp 0 1).tlps 1 else s
    match bar with
    | .bar0 =>
      let r := (wordsOf a n).foldl (fun (r : List Byte × State) w =>
        let x := r.2.busRead q (4 * w)
        (r.1 ++ wordSlice w a n x.1.toNat, x.2)) ([], s)
      r.2.send (.memData .bar0 a r.1)
    | .bar2 => s.bar2Read q a n
    | .bar4 => s.bar4Read q a n

/-- A write through BAR2 or BAR4. BAR0 takes aligned words (R40): other bytes of the request are refused. -/
def memWrite (s : State) (q : Requester) (bar : Bar) (a : Nat) (data : List Byte) : State :=
  if !s.memReach q || data.isEmpty then s
  else match bar with
  | .bar0 =>
    (wordsOf a data.length).foldl (fun s w =>
      let lanes := (List.range 4).filter fun i => decide (a ≤ 4 * w + i) && decide (4 * w + i < a + data.length)
      let be := (lanes.map fun i => 2 ^ i).sum
      let v := (lanes.map fun i => (data.getD (4 * w + i - a) 0).toNat * 256 ^ i).sum
      s.busWrite q (4 * w) be (BitVec.ofNat 32 v)) s
  | .bar2 => (if q = .pcie then s.tlps 0 else s).bar2Write q a data
  | .bar4 => (if q = .pcie then s.tlps 0 else s).bar4Write a data

/-! ### The I2C target (R33 to R35, R393, R394) -/

/-- Changes the target's window. -/
def modI2c (s : State) (g : I2cTarget → I2cTarget) : State := { s with i2c := g s.i2c }

/-- ADDR advances by 4 after commands 0x05 and 0x06. -/
def i2cBump (s : State) (c : Nat) : State := if c = 5 ∨ c = 6 then s.modI2c fun t => { t with addr := t.addr + 4 } else s

/-- A command starts. While BUSY it is ignored. One whose ADDR has bits [31:24] set makes no access and ends at once. -/
def i2cStart (s : State) (c : Nat) : State :=
  if s.i2c.busy then s
  else if !(c = 1 ∨ c = 2 ∨ c = 5 ∨ c = 6) then s.modI2c fun t => { t with badCmd := true }
  else
    let s := s.modI2c fun t => { t with off := false, badCmd := false, accessErr := false }
    if 2 ^ 24 ≤ s.i2c.addr.toNat then
      let read := c = 1 ∨ c = 5
      (s.modI2c fun t => { t with accessErr := true, data := if read then 0 else t.data }).i2cBump c
    else s.modI2c fun t => { t with busy := true, cmd := BitVec.ofNat 8 c }

/-- The BAR0 access of the command under way is made (R35). In PS3 to PS5 a command to a block outside PD_AON waits for the
exit when I2C wake is enabled (R394). -/
def i2cDone (s : State) : State :=
  if !s.i2c.busy then s
  else
    let c := s.i2c.cmd.toNat
    let a := s.i2c.addr.toNat - s.i2c.addr.toNat % 4
    let aon := (busBlk a).any fun b => blkDomain b == Dom.aon
    if 3 ≤ s.f Blk.pwr PWR.STAT_STATE ∧ !aon ∧ (s.f Blk.pwr PWR.WAKE_EN_EN).testBit 4 then s
    else
      let off := (busBlk a).any fun b => !s.reach b
      let s := if c = 1 ∨ c = 5 then
          let r := s.busRead .i2c a
          r.2.modI2c fun t => { t with data := r.1, off := off }
        else
          (s.busWrite .i2c a 15 s.i2c.data).modI2c fun t => { t with off := off, accessErr := (busBlk a).isNone }
      (s.modI2c fun t => { t with busy := false }).i2cBump c

/-- A word with byte `i` replaced. -/
def putByte (w : BitVec 32) (i : Nat) (x : Byte) : BitVec 32 :=
  (w &&& ~~~(BitVec.ofNat 32 (255 * 256 ^ i))) ||| BitVec.ofNat 32 (x.toNat * 256 ^ i)

/-- A data byte of an I2C write at the current sub-address: BUSY shuts ADDR, DATA and CMD. -/
def i2cByte (r : State × Option Nat) (x : Byte) : State × Option Nat :=
  let s := r.1
  let i := s.i2c.sub.toNat
  let c := if i = 8 ∧ !s.i2c.busy then some x.toNat else r.2
  (s.modI2c fun t => { t with
    addr := if i < 4 ∧ !t.busy then putByte t.addr i x else t.addr
    data := if 4 ≤ i ∧ i < 8 ∧ !t.busy then putByte t.data (i - 4) x else t.data
    sub := t.sub + 1 }, c)

/-- An I2C write (R34): the first byte is the sub-address, and a command it stores starts on the stop condition. -/
def i2cWrite (s : State) (l : List Byte) : State :=
  match l with
  | [] => s
  | first :: rest =>
    let r := rest.foldl i2cByte (s.modI2c fun t => { t with sub := first.setWidth 4 }, none)
    match r.2 with
    | some c => r.1.i2cStart c
    | none => r.1

/-- The byte at sub-address `i`. -/
def i2cAt (t : I2cTarget) (i : Nat) : Byte :=
  if i < 4 then BitVec.ofNat 8 (t.addr.toNat / 256 ^ i)
  else if i < 8 then BitVec.ofNat 8 (t.data.toNat / 256 ^ (i - 4))
  else if i = 9 then BitVec.ofNat 8 (t.busy.toNat + 2 * t.off.toNat + 4 * t.badCmd.toNat + 8 * t.accessErr.toNat)
  else 0

/-- An I2C read of `n` bytes. -/
def i2cRead (s : State) (n : Nat) : State :=
  let i := s.i2c.sub.toNat
  (s.modI2c fun t => { t with sub := t.sub + BitVec.ofNat 4 n }).send
    (.i2cData ((List.range n).map fun k => i2cAt s.i2c ((i + k) % 16)))

end State
end Sys2Proof.Machine
end

