-- ==== Sys2Proof/Machine/CfgvOps.lean ====
section
/-! DEFINITION. What the Keeper does with configuration images (R408, R419 to R423): verifying, staging, the commit and what
follows it, rollback, and the records that a boot or a power-up applies. -/

namespace Sys2Proof.Machine
namespace State

/-! ### Records (R408) -/

/-- The words of the REGS records in record order: BAR0 offset and value. -/
def imgWords (x : CfgImage) : List (Nat × Word) :=
  x.records.flatMap fun r => match r with
    | .regs off ws => ws.zipIdx.map fun w => (off.toNat + 4 * w.2, w.1)
    | _ => []

/-- The REGS words that name a register: block, offset and value. -/
def imgRegs (x : CfgImage) : List (Nat × Nat × Word) :=
  (imgWords x).filterMap fun w => match bar0Target w.1 with
    | .reg b off _ => some (b, off, w.2)
    | .tb _ off => some (Blk.dma, off, w.2)
    | _ => none

/-- The channel words of the HDAC record. -/
def imgHdac (x : CfgImage) : List Word :=
  (x.records.findSome? fun r => match r with
    | .hdac ws => some ws
    | _ => none).getD []

/-- The blocks whose registers an apply of the image stages. -/
def imgBlocks (x : CfgImage) : List Nat :=
  ((imgRegs x).map (·.1) ++ (if (imgHdac x).isEmpty then [] else [Blk.hdac])).eraseDups

/-- SEEDS: the bank words go to the golden store. -/
def applySeeds (s : State) (set : Nat) (words : List Word) : State :=
  if s.domReady Dom.fab then
    s.sramPoke (0x2500000 + Config.seedBase set) ((words.map fun w => Codec.leBytes 4 w.toNat).flatten)
  else s

/-- HKCAL: sixteen factor words, core then gain. -/
def applyHkcal (s : State) (words : List Word) : State :=
  if s.domReady Dom.hk then (words.take 16).zipIdx.foldl (fun s w => s.hkFactAt (w.2 / 4) (w.2 % 4) w.1) s else s

/-- REPAIR: soft repairs through REP_IDX and REP_DATA, of the macros that `p` selects. -/
def applyRepairs (s : State) (pairs : List (Word × Word)) (p : Nat → Bool) : State :=
  (pairs.filter fun x => p x.1.toNat).foldl (fun s x =>
    let s := s.writeDirect .keeper Blk.mem MEM.REP_IDX x.1
    s.writeDirect .keeper Blk.mem MEM.REP_DATA x.2) s

/-- The HDAC record at a power-up of PD_HK (R314): every channel takes MODE, CLR_EN and CLR_CODE, and drives CLR_CODE. -/
def applyHdac (s : State) (words : List Word) : State :=
  (words.take 32).zipIdx.foldl (fun s w =>
    let n := w.2
    let s := s.setF Blk.hdac (HDAC.CH_CTL_MODE n) (w.1.toNat % 4)
    let s := s.setF Blk.hdac (HDAC.CH_CTL_CLR_EN n) (w.1.toNat / 4096 % 2)
    let s := s.setF Blk.hdac (HDAC.CH_CLR_CLR_CODE n) (w.1.toNat / 65536)
    s.hdacOut n (s.hdacClr n)) s

/-- The records of the active image that act at a power-up of PD_HK (R305, R314). -/
def hkRecords (s : State) : State :=
  match s.cfgv.active with
  | none => s
  | some x => x.records.foldl (fun s r => match r with
    | .hdac ws => s.applyHdac ws
    | .hkcal ws => s.applyHkcal ws
    | _ => s) s

/-- The macros of domain `d` take the repairs of the active image again (R340). -/
def domRepairs (s : State) (d : Nat) : State :=
  match s.cfgv.active with
  | none => s
  | some x => x.records.foldl (fun s r => match r with
    | .repair l => s.applyRepairs l fun m => sramDomain (65536 * m) == some d
    | _ => s) s

/-! ### Staging (R419) -/

/-- The RWS fields of a word go to the shadow of its register. -/
def stageWord (s : State) (b off : Nat) (w : Word) : State :=
  let m := (classBits b off).2.1
  if m = 0 then s
  else ({ s with shadows := SMap.set s.shadows (regKey b off) ((s.shadow b off &&& ~~~m) ||| (w &&& m)) }).parityNew
    (shadowKey b off)

/-- The Keeper stages an image: STAGE is set in every block it touches, RWS fields and HDAC MODE values go to shadows, clear
codes, HKCAL and SEEDS are written at once, and the blocks arm on entry `se`. A block that does not answer is recorded under
R15 and not staged. -/
def stageImage (s : State) (x : CfgImage) (se : Nat) : State :=
  let s := ((imgBlocks x).filter fun b => !s.reach b).foldl (fun s b => s.offRecord .bar0 (blkBase b + HDR.BLK_CTL) true) s
  let up := (imgBlocks x).filter fun b => s.reach b && hasStage (blkType b)
  let s := up.foldl (fun s b => if s.staged b then s else s.stageOn b) s
  let s := ((imgRegs x).filter fun w => up.contains w.1).foldl (fun s w => s.stageWord w.1 w.2.1 w.2.2) s
  let s := if up.contains Blk.hdac then
      ((imgHdac x).take 32).zipIdx.foldl (fun s w =>
        let n := w.2
        let s := s.stageWord Blk.hdac (HDAC.CH_CTL n)
          ((HDAC.CH_CTL_MODE n).put (s.shadow Blk.hdac (HDAC.CH_CTL n)) (w.1.toNat % 4))
        let s := s.setF Blk.hdac (HDAC.CH_CTL_CLR_EN n) (w.1.toNat / 4096 % 2)
        s.writeDirect .keeper Blk.hdac (HDAC.CH_CLR n) ((HDAC.CH_CLR_CLR_CODE n).put 0 (w.1.toNat / 65536))) s
    else s
  let s := x.records.foldl (fun s r => match r with
    | .hkcal ws => s.applyHkcal ws
    | .seeds set ws => s.applySeeds set ws
    | _ => s) s
  let s := up.foldl (fun s b => s.stageCtl b (HDR.STAGE_CTL_SE_EN.put (HDR.STAGE_CTL_COMMIT_SE.put 0 se) 1)) s
  s.modCfgv fun c => { c with staged := up }

/-! ### The commit point of a rollback (R421) -/

/-- RB_LEAD in ms: below 450 it acts as 450. -/
def rbLead (s : State) : Nat := max 450 (s.reg Blk.cfgv CFGV.RB_LEAD).toNat

/-- The reference port of a rollback and the codeword RB_LEAD ahead of its line-bound count. -/
def rbPoint (s : State) : Nat × Nat :=
  let p := s.f Blk.cfgv CFGV.CTL_REF_PORT
  (p, (s.portPos p false).cw + s.msCodewords p s.rbLead)

/-- The Keeper programs entry RB_SE, disabled: a position trigger at RB_LEAD ahead, or a time trigger when the count is not
VALID; `twin` makes it wait for the coordinated trigger. -/
def rbProgram (s : State) (twin : Bool) : State :=
  let k := s.cfgv.se
  let x := s.rbPoint
  let pos := s.portPos x.1 false
  let t := s.tbNs s.evtTb + s.rbLead * 1000000
  let w1 := if pos.valid then SCHED.SE_W1_GEN.put (SCHED.SE_W1_PORT.put 0 x.1) pos.gen else SCHED.SE_W1_TB.put 0 s.evtTb
  let lo := if pos.valid then x.2 % 2 ^ 32 else t % 1000000000
  let hi := if pos.valid then x.2 / 2 ^ 32 else t / 1000000000 % 2 ^ 32
  let w4 := if pos.valid then 0 else t / 1000000000 / 2 ^ 32
  let w6 := if twin then SCHED.SE_W6_TWIN.put (SCHED.SE_W6_TAG.put 0 (s.tf TWIN.COORD_TAG_TAG)) 1 else 0
  let w0 := SCHED.SE_W0_TRIG.put (SCHED.SE_W0_ACTION.put 0 1) (!pos.valid).toNat
  [w0, w1, BitVec.ofNat 32 lo, BitVec.ofNat 32 hi, BitVec.ofNat 32 w4, 0, w6].zipIdx.foldl
    (fun s w => s.seWrite k w.2 w.1) s

/-- The Keeper enables entry RB_SE. -/
def rbEnable (s : State) : State :=
  let k := s.cfgv.se
  s.seWrite k 0 (SCHED.SE_W0_EN.put (s.se k).w0 1)

/-- The coordinated attempt: COORD_VER is the previous version, and the transaction is proposed for RB_SE's point. -/
def rbCoord (s : State) (x : CfgImage) : State :=
  let pt := s.rbPoint
  let s := s.setReg Blk.twin TWIN.COORD_VER x.version
  let s := s.setReg Blk.twin TWIN.COORD_CTL (TWIN.COORD_CTL_PORT.put (TWIN.COORD_CTL_SE.put 0 s.cfgv.se) pt.1)
  s.coordPropose pt.1 0 pt.2

/-- The rollback is coordinated: COORD_EN, a LINE image and a PAIRED twin. -/
def rbCoordinated (s : State) (x : CfgImage) : Bool :=
  s.fb Blk.cfgv CFGV.CTL_COORD_EN && x.line && s.twinOn && s.pairState == 3

/-- The entry of a rollback is programmed, the blocks of `l` arm on it, and it is enabled. While PD_TIME is off there is no
entry, and staged blocks commit only at once (R23). -/
def rbArm (s : State) (x : CfgImage) (twin : Bool) (arm : State → State) : State :=
  if !s.timeOn then s.cfgv.staged.foldl commitNow (arm s)
  else
    let s := (arm (s.rbProgram twin)).rbEnable
    if twin then s.rbCoord x else s

/-! ### Phases (R419 to R421, R423) -/

/-- An apply or a rollback ends with a RESULT without changing the versions. -/
def cfgFail (s : State) (result int : Nat) : State :=
  (((s.cfgTimerOff.setPhase 0).cfgResult result).setF Blk.cfgv CFGV.STAT_FAIL 1).raise Blk.cfgv int

/-- The check of the image ends (R407, R419, R421). -/
def verifyingDone (s : State) (result : Fin 8) (x : CfgImage) : State :=
  if !s.kprRuns then s
  else if s.cfgPhase = 1 then
    if imageOk result then ((s.cfgResult result.val).setPhase 2).modCfgv fun c => { c with img := some x }
    else s.cfgFail result.val CFGV.INT_APPLY_FAIL
  else if s.cfgPhase = 5 ∧ s.cfgv.checking then
    if imageOk result then s.modCfgv fun c => { c with img := some x, checking := false }
    else s.rollbackMissing
  else s

/-- Staging ends: an apply waits for entry SE (PHASE 3), a rollback for entry RB_SE. -/
def stagingDone (s : State) : State :=
  if !s.kprRuns then s
  else match s.cfgv.img with
  | none => s
  | some x =>
    let se := s.cfgv.se
    if s.cfgPhase = 2 then (s.stageImage x se).setPhase 3
    else if s.cfgPhase = 5 ∧ !s.cfgv.checking ∧ !s.cfgv.armed then
      let twin := s.rbCoordinated x
      let s := s.modCfgv fun c => { c with armed := true, coord := twin.toNat }
      s.rbArm x twin fun s => s.stageImage x se
    else s

/-- The RW fields of the REGS records are written in record order (PHASE 4). -/
def writeRw (s : State) (x : CfgImage) : State :=
  (imgRegs x).foldl (fun s w =>
    let m := classBits w.1 w.2.1
    if m.1 = 0 then s
    else if !s.reach w.1 then s.offRecord .bar0 (blkBase w.1 + w.2.1) true
    else s.writeWord .keeper w.1 w.2.1 0 ((w.2.2 &&& m.1) ||| (s.mergeBase .keeper w.1 w.2.1 &&& m.2.1))) s

/-- The new active version and slot; the old ones become the previous. -/
def cfgSwap (s : State) (x : CfgImage) (slot : Nat) : State :=
  let act := s.f Blk.cfgv CFGV.SLOTS_ACT
  let s := s.setReg Blk.cfgv CFGV.PREV_VER (s.reg Blk.cfgv CFGV.ACT_VER)
  let s := ((s.setReg Blk.cfgv CFGV.ACT_VER x.version).setF Blk.cfgv CFGV.SLOTS_PREV act).setF Blk.cfgv CFGV.SLOTS_ACT slot
  s.modCfgv fun c => { c with previous := c.active, active := some x }

/-- The commit of an apply has succeeded: CONFIRMING with its timer. -/
def applyDone (s : State) (x : CfgImage) : State :=
  let slot := s.cfgv.slot
  let s := ((s.writeRw x).cfgSwap x slot).setPhase 4
  let s := { s with flash := { act := slot, prev := s.f Blk.cfgv CFGV.SLOTS_PREV, confirmed := false } }
  let t := max 1 (s.reg Blk.cfgv CFGV.TIMEOUT).toNat
  ((s.modCfgv fun c => { c with ticks := t * 25000000, img := none }).setF Blk.cfgv CFGV.STAT_TIMER_RUN 1).raise Blk.cfgv
    CFGV.INT_APPLIED

/-- The commit of a rollback has succeeded. -/
def rollbackDone (s : State) (x : CfgImage) : State :=
  let slot := s.cfgv.slot
  let s := ((s.writeRw x).cfgSwap x slot).cfgTimerOff.setPhase 0
  let s := { s with flash := { act := slot, prev := s.f Blk.cfgv CFGV.SLOTS_PREV, confirmed := true } }
  (s.modCfgv fun c => { c with img := none, rollback := false, armed := false, coord := 0 }).raise Blk.cfgv
    CFGV.INT_ROLLED_BACK

/-- The commit of an apply or rollback has ended otherwise: every staged block is discarded. -/
def cfgCommitFail (s : State) : State :=
  let rb := s.cfgv.rollback
  let s := (s.cfgv.staged.filter s.reach).foldl discard s
  let s := s.modCfgv fun c => { c with img := none, staged := [], rollback := false, armed := false, coord := 0 }
  s.cfgFail 10 (if rb then CFGV.INT_ROLLBACK_FAIL else CFGV.INT_APPLY_FAIL)

/-- The version this end has active once what it has staged is committed (R232). -/
def stagedVersion (s : State) : Word :=
  match s.cfgv.img with
  | some x => if s.cfgPhase = 3 ∨ s.cfgv.armed then x.version else s.reg Blk.cfgv CFGV.ACT_VER
  | none => s.reg Blk.cfgv CFGV.ACT_VER

/-- The Keeper looks at the blocks it has staged: while one is armed it waits; all APPLIED or LATE is success; a coordinated
rollback that has ended otherwise is repeated once, uncoordinated. -/
def cfgvEval (s : State) : State :=
  if !s.kprRuns || !(s.cfgPhase == 3 || (s.cfgPhase == 5 && s.cfgv.armed)) then s
  else match s.cfgv.img with
  | none => s
  | some x =>
    let l := s.cfgv.staged
    let good := l.all fun b =>
      !s.armed b && (s.f b HDR.STAGE_STAT_LAST == 1 || s.f b HDR.STAGE_STAT_LAST == 5)
    let waiting := l.any s.armed
    if good then (if s.cfgPhase = 3 then s.applyDone x else s.rollbackDone x)
    else if s.cfgv.coord = 1 ∧ !s.coordOpen then
      let se := s.cfgv.se
      let s := s.modCfgv fun c => { c with coord := 2 }
      s.rbArm x false fun s => s.cfgv.staged.foldl (fun s b =>
        s.stageCtl b (HDR.STAGE_CTL_SE_EN.put (HDR.STAGE_CTL_COMMIT_SE.put 0 se) 1)) s
    else if waiting then s
    else s.cfgCommitFail

/-! ### The Keeper's restart (R392, R411 to R413, R423) -/

/-- The restart through the boot ROM completes. `fw`: none when the digests agree (FAST), else what full verification finds
of the firmware entries, the higher VERSION first. -/
def keeperRestarted (s : State) (us : Word) (fw : Option (List FwImage)) : State :=
  if !s.domReady Dom.kpr || s.f Blk.kpr KPR.KSTAT_STAGE != 0 then s
  else
    let s := (s.setReg Blk.kpr KPR.BOOT_US us).setB Blk.kpr KPR.KSTAT_FAST fw.isNone
    let s := match fw with
      | none => s.setF Blk.kpr KPR.KSTAT_STAGE 7
      | some l => s.firmwareBoot l
    let s := s.deriveKey
    if s.cfgv.broken && s.kprRuns then
      let rb := s.cfgv.rollback
      let s := (s.cfgv.staged.filter s.reach).foldl discard s
      let s := s.modCfgv fun c => { c with img := none, staged := [], broken := false, rollback := false, armed := false }
      s.cfgFail 12 (if rb then CFGV.INT_ROLLBACK_FAIL else CFGV.INT_APPLY_FAIL)
    else s

end State
end Sys2Proof.Machine
end

