-- ==== Sys2Proof/Machine/Boot.lean ====
section
/-! DEFINITION. Reset and boot (R8, R13, R22, R411, R412, R428, R429, R444, R458), the exit steps that the Keeper takes part in
(R392, R395), the PCIe link (R445), the reference clock and the crystal (R19, R277, R458), and the parity sweep (R51, R52,
R422). -/

namespace Sys2Proof.Machine
namespace State

/-! ### Reset (R8, R403, R444) -/

/-- What a reset by PORST_N leaves: Reset values, the fuses, the flash and the pins. A transition being programmed is left at its
old or its new value. -/
def resetState (s : State) : State :=
  let d := s.draw 1
  let fuse := match s.fuse.target with
    | none => s.fuse
    | some t => if d.1 = 1 then s.fusesAfter t else { s.fuse with target := none }
  let r : State := { State.reset with
    pending := s.pending
    fuse := fuse
    flash := s.flash
    fuseFloorHk := s.fuseFloorHk
    fuseSub := s.fuseSub
    fuseSeg := s.fuseSeg
    clrPin := s.clrPin
    perst := s.perst
    free := d.2.free
    out := s.out }
  let r := r.setReg Blk.aon AON.PIN_STAT (s.reg Blk.aon AON.PIN_STAT)
  if s.dbgLevel = 0 then r else r.setF Blk.dbg DBG.STAT_LAST_EXPIRY 1

/-- PORST_N is low, or the internal detector acts as it (R444): nothing is powered, so nothing answers. -/
def porstLow (s : State) : State := { s.resetState with domOn := 0, inReset := true }

/-! ### Power-on BIST and the floors (R22, R426 to R430) -/

/-- Power-on BIST of the domains of `mask`, and the evaluation of the floors. -/
def porBist (s : State) (mask : BitVec 24) (x : BootInput) : State :=
  let s := (s.setReg Blk.bist BIST.POR_MASK (mask.setWidth 32)).setF Blk.bist BIST.STAT_KIND 0
  if mask = 0 then s.modPwr fun p => { p with possible := floorOk p.excluded s.fuseFloorHk }
  else
    let s := { s with bist := { s.bist with selected := mask, run := 0, detail := [], sig := [] } }
    let c := s.bistPrecond x.refclk x.rails
    ((domList mask).foldl (fun (t : State) d =>
      match c.1.orElse fun _ => if bistTestable d then none else some 5 with
      | some why => t.setBist d (bistWord 0 why false false false false 0) 0
      | none => t.bistComplete d (x.tests.find? fun y => y.dom.val == d)) c.2).bistEnd

/-- The device stays in reset with BIST_FAIL_N low (R428). -/
def bistHold (s : State) : State :=
  let s := s.setF Blk.aon AON.RESET_CAUSE_CAUSE 2
  let s := s.domainsDown (domBit Dom.fab ||| domBit Dom.kpr ||| domBit Dom.pcie) { coef := 0, kpr := 0, state := false }
  { s with held := true }

/-! ### Images (R407, R410, R411) -/

/-- The directory's slots in the order the boot ROM tries them. -/
def bootOrder (d : FlashDir) : Nat × Nat := if d.confirmed then (d.act, d.prev) else (d.prev, d.act)

/-- What the boot ROM finds in slot `n`. -/
def bootSlot (x : BootInput) (n : Nat) : Option BootSlot := x.slots.find? fun y => y.slot.val == n

/-- The result of checking slot `n`: no entry is NO_IMAGE. -/
def slotResult (x : BootInput) (n : Nat) : Fin 8 := ((bootSlot x n).map (·.result)).getD 1

/-- Steps 3 and 4: the configuration image of the first slot, else of the other; with neither, Reset values. -/
def bootConfig (s : State) (x : BootInput) : State :=
  let o := bootOrder s.flash
  let ok := fun n => n != 255 && imageOk (slotResult x n)
  let pick := if ok o.1 then some o else if ok o.2 then some (o.2, o.1) else none
  match pick with
  | none =>
    let last := if o.2 = 255 then o.1 else o.2
    { s.setF Blk.sec SEC.VERIFY_CFG (slotResult x last).val with cfgv := {} }
  | some (a, p) =>
    let act := (bootSlot x a).map (·.image)
    let prev := (bootSlot x p).map (·.image)
    let s := s.setF Blk.sec SEC.VERIFY_CFG (slotResult x a).val
    let s := (s.setF Blk.cfgv CFGV.SLOTS_ACT a).setF Blk.cfgv CFGV.SLOTS_PREV p
    let s := s.setReg Blk.cfgv CFGV.ACT_VER ((act.map (·.version)).getD 0)
    let s := s.setReg Blk.cfgv CFGV.PREV_VER ((prev.map (·.version)).getD 0)
    { s with cfgv := { active := act, previous := prev } }

/-- Step 5: the microcode bundle marked ACTIVE, or the other one. -/
def bootBundle (s : State) (l : List FwImage) : State :=
  match (l.find? fun y => imageOk y.result).orElse fun _ => l.getLast? with
  | none => s.setF Blk.sec SEC.VERIFY_BUNDLE 1
  | some y =>
    let s := s.setF Blk.sec SEC.VERIFY_BUNDLE y.result.val
    if imageOk y.result then s.setReg Blk.kpr KPR.UC_BUNDLE y.version else s

/-! ### The records of the active image at boot (R13, R30, R341, R375, R376, R408) -/

/-- The records of the active image. -/
def activeRecords (s : State) : List CfgRecord := (s.cfgv.active.map (·.records)).getD []

/-- The mask of the BIST record; 0 without one. -/
def bistRecord (l : List CfgRecord) : BitVec 24 :=
  (l.findSome? fun r => match r with
    | .bist m => some (m.setWidth 24)
    | _ => none).getD 0

/-- BAR4 covers the size of the DDR record rounded up to 4, 8 or 16 GiB; 16 without one (R30). -/
def bar4Record (l : List CfgRecord) : Nat :=
  (l.findSome? fun r => match r with
    | .ddr _ g => some (if g.toNat ≤ 4 then 4 else if g.toNat ≤ 8 then 8 else 16)
    | _ => none).getD 16

/-- The Keeper powers domain `d` up at boot, unless it is on, is excluded, or its parent is off; repairs are applied, and PD_HK
takes its records. -/
def bootDomain (s : State) (d : Nat) : State :=
  let parent := match domParent d with
    | some p => s.domReady p
    | none => true
  if s.domOn.getLsbD d || s.pwr.excluded.getLsbD d || !parent then s
  else
    let s := (s.domainUp d false).domRepairs d
    if d = Dom.hk then s.hkRecords else s

/-- The domains of a mask, in index order; PD_SPR follows its parent PD_PMAP in a second pass. -/
def bootDomains (s : State) (m : BitVec 24) : State := (domList m).foldl bootDomain ((domList m).foldl bootDomain s)

/-- The Keeper writes a word of BAR0. -/
def keeperWrite (s : State) (b off : Nat) (v : Word) : State := s.busWrite .keeper (blkBase b + off) 15 v

/-- DRAIN is set with the regions of R376 for the installed size. -/
def drainStart (s : State) : State :=
  let pages := s.ddrData / 4096 - 65536
  let s := if s.ddrf DDR.CFG_SIZE_GIB = 16 then s
    else (((s.setReg Blk.log LOG.RING_BASE 0).setReg Blk.log LOG.RING_SIZE (BitVec.ofNat 32 pages)).setReg Blk.log
      LOG.ANCH_BASE (BitVec.ofNat 32 pages)).setReg Blk.log LOG.ANCH_SIZE 65536
  s.logCtl 1

/-- A record of the active image acts at boot. HDAC, HKCAL and REPAIR act at the power-up of their domains. -/
def bootRecord (s : State) (r : CfgRecord) : State :=
  match r with
  | .regs off ws => ws.zipIdx.foldl (fun s w => s.busWrite .keeper (off.toNat + 4 * w.2) 15 w.1) s
  | .seeds set ws => s.applySeeds set ws
  | .log ctl rb rs ab as =>
    ((((s.setReg Blk.log LOG.RING_BASE rb).setReg Blk.log LOG.RING_SIZE rs).setReg Blk.log LOG.ANCH_BASE ab).setReg Blk.log
      LOG.ANCH_SIZE as).logCtl ctl
  | _ => s

/-- The active image is put into effect: the macros of the powered domains are repaired, domains are powered, DDR4 begins to
train, and the other records act in their order. -/
def bootApply (s : State) : State :=
  let l := s.activeRecords
  let s := (domList s.domOn).foldl domRepairs s
  let s := l.foldl (fun s r => match r with
    | .ddr cfg _ => (s.bootDomains (domBit Dom.ddr)).keeperWrite Blk.ddr DDR.CFG (DDR.CFG_INIT.put cfg 1)
    | _ => s) s
  let s := l.foldl (fun s r => match r with
    | .power m kpr coef =>
      ((s.bootDomains (m.setWidth 24)).setReg Blk.pwr PWR.RET_KPR kpr).setReg Blk.pwr PWR.RET_COEF coef
    | _ => s) s
  let s := l.foldl bootRecord s
  let hasLog := l.any fun r => match r with
    | .log .. => true
    | _ => false
  let hasDdr := l.any fun r => match r with
    | .ddr .. => true
    | _ => false
  if hasDdr && !hasLog then s.drainStart else s

/-! ### The boot ROM (R411, R412) -/

/-- The boot ROM runs; `cause` is what RESET_CAUSE reads. The reset domains are powered when it begins. -/
def boot (s : State) (x : BootInput) (cause : Nat) : State :=
  let s := (s.setF Blk.aon AON.RESET_CAUSE_CAUSE cause).setF Blk.aon AON.PIN_STAT_I2C_A x.straps.toNat
  let flash := match x.dir with
    | some (a, p, c) => { act := a.toNat, prev := p.toNat, confirmed := c : FlashDir }
    | none => s.flash
  let s := { s with flash := flash, inReset := false, held := false }
  let s := (s.setReg Blk.cfgv CFGV.STORE_MAP (x.stored.setWidth 32)).firmwareBoot x.firmware
  let stage := s.f Blk.kpr KPR.KSTAT_STAGE
  let s := ((s.bootConfig x).bootBundle x.bundles).setF Blk.kpr KPR.KSTAT_STAGE 6
  let s := s.porBist (bistRecord s.activeRecords) x
  if !floorOk s.pwr.excluded s.fuseFloorHk then s.bistHold
  else
    let bad := s.pwr.excluded &&& s.domOn
    let s := if bad = 0 then s else s.domainsDown bad { coef := 0, kpr := 0, state := false }
    let s := { s with bar4Gib := bar4Record s.activeRecords }
    let s := ((s.setReg Blk.kpr KPR.BOOT_US x.us).setB Blk.kpr KPR.KSTAT_FAST x.fast).setF Blk.kpr KPR.KSTAT_STAGE stage
    let s := (s.deriveKey).keeperWrite Blk.therm HDR.BLK_CTL 1
    let s := if s.fb Blk.pwr PWR.PMB_CFG_EN then s.pmbStart x.vmode else s
    s.bootApply

/-- The domains that are powered after reset (R13): PD_AON, PD_CLK, PD_FAB, PD_KPR, PD_PCIE and PD_TEST. -/
def resetDoms : BitVec 24 := 0x80001F

/-- PORST_N, or the internal detector, is released. -/
def powerOn (s : State) (x : BootInput) : State := ({ s.resetState with domOn := resetDoms }).boot x 0

/-! ### Exits and domain requests that the Keeper completes (R276, R305, R314, R340, R392, R395) -/

/-- The exit from PS5 runs as a power-on reset that keeps PD_AON. -/
def darkExit (s : State) (x : BootInput) : State :=
  let s := { s with domOn := resetDoms, domBusy := 0, pwr := { s.pwr with saved := 0, down := 0 } }
  let s := s.boot x 1
  let s := if s.timeOn && !s.pwr.tbs.isEmpty then s.timeRestore false else s.modPwr fun p => { p with tbs := [] }
  let s := if s.held then s else s.exitEnd
  s.modPwr fun p => { p with exitStep := 0, wake := false }

/-- The Keeper restores from the active image the registers of the blocks in `down` whose banks were not retained, and repairs
the macros of those domains (R392). -/
def keeperRestore (s : State) (down : BitVec 24) (r : Retain) : State :=
  let s := (domList down).foldl domRepairs s
  let s := if down.getLsbD Dom.hk && !keeps r Blk.hk then s.hkRecords else s
  match s.cfgv.active with
  | none => s
  | some x => ((imgRegs x).filter fun w => down.getLsbD (blkDomain w.1) && !keeps r w.1).foldl (fun s w =>
      s.keeperWrite w.1 w.2.1 w.2.2) s

/-- What the entry under exit retained. -/
def exitRetain (s : State) : Retain := { coef := s.pwr.retCoef, kpr := s.pwr.retKpr, state := true }

/-- A timed step of exit completes. While the Keeper restarts, the exit waits before its last step. -/
def exitStepDone (s : State) (ddrKept : Bool) (x : Option BootInput) : State :=
  let restarting := s.pwr.down.getLsbD Dom.kpr && s.f Blk.kpr KPR.KSTAT_STAGE == 0
  if s.pwr.exitStep = 2 ∧ s.pwr.from_ = 5 then
    match x with
    | some y => s.darkExit y
    | none => s
  else if s.pwr.exitStep = 6 ∧ restarting then s
  else
    let t := s.exitStep ddrKept
    if s.pwr.exitStep = 4 ∧ t.kprRuns then t.keeperRestore s.pwr.down s.exitRetain else t

/-- The Keeper's restart completes; in an exit it then restores what step 5 left to it. -/
def keeperBack (s : State) (us : Word) (fw : Option (List FwImage)) : State :=
  let t := s.keeperRestarted us fw
  if s.pwr.exitStep ≥ 5 ∧ s.f Blk.kpr KPR.KSTAT_STAGE = 0 ∧ t.kprRuns then t.keeperRestore s.pwr.down s.exitRetain else t

/-- A domain request completes; the Keeper applies the records of a domain that is powered up. -/
def domRequestDone (s : State) (ddrKept : Bool) : State :=
  let t := s.domDone ddrKept
  match s.pwr.dom with
  | some (d, true) =>
    if t.pwr.dom.isNone && t.domReady d && !(s.domReady d) && t.kprRuns then
      let t := t.domRepairs d
      if d = Dom.hk then t.hkRecords else t
    else t
  | _ => t

/-! ### The PCIe link (R28, R32, R55, R385, R445) -/

/-- PCIE_PERST_N is low: the controller, the PHY and the function's configuration space are reset, and nothing else. -/
def pcieReset (s : State) : State :=
  let s := { s with perst := true, msix := [], pba := 0, msixEn := false, busMaster := false, d3hot := false }
  if s.domOn.getLsbD Dom.pcie then
    (s.setF Blk.pcie PCIE.LINK_STAT_DL_ACTIVE 0).setF Blk.pcie PCIE.LINK_STAT_SPEED 0
  else s

/-- The link reaches data-link-active state, and vectors that were pended send their messages. -/
def linkUpEvent (s : State) (speed width : Nat) (flit reversed : Bool) : State :=
  if !s.domReady Dom.pcie || s.held then s
  else
    let s := { s with perst := false }
    let s := (s.setF Blk.pcie PCIE.LINK_STAT_SPEED speed).setF Blk.pcie PCIE.LINK_STAT_WIDTH width
    let s := (s.setB Blk.pcie PCIE.LINK_STAT_FLIT flit).setB Blk.pcie PCIE.LINK_STAT_REVERSED reversed
    let s := s.setF Blk.pcie PCIE.LINK_STAT_DL_ACTIVE 1
    if s.msixEn then ((List.range 256).filter fun v => s.pba.getLsbD v).foldl pendSend s else s

/-- The link leaves data-link-active state. -/
def linkDownEvent (s : State) : State :=
  if !s.domReady Dom.pcie then s
  else (s.setF Blk.pcie PCIE.LINK_STAT_DL_ACTIVE 0).setF Blk.pcie PCIE.LINK_STAT_SPEED 0

/-- A configuration write of the host. -/
def configWrite (s : State) (d3hot busMaster msixEn : Bool) : State :=
  if !s.domReady Dom.pcie || s.held then s else { s with d3hot := d3hot, busMaster := busMaster, msixEn := msixEn }

/-- A request that receives Unsupported Request (R32). -/
def unsupportedRequest (s : State) : State :=
  if !s.domReady Dom.pcie || s.held then s
  else
    let s := s.setF Blk.pcie PCIE.ERR_STAT_UR_SENT 1
    (((s.countSat Blk.pcie PCIE.ERR_STAT_COUNT 1).send .unsupported).tlp 0 1).tlp 1 1

/-- A host access to BAR2 or BAR4 beyond the BAR is outside the function's BARs (R30, R32). -/
def inBar (s : State) (bar : Bar) (off n : Nat) : Bool :=
  match bar with
  | .bar0 => decide (off + n ≤ 2 ^ 24)
  | .bar2 => decide (off + n ≤ 2 ^ 26)
  | .bar4 => decide (off + n ≤ s.bar4Gib * 2 ^ 30)

/-- A read of host memory space in BAR2 or BAR4 by requester `q`: upsets strike first, and a PCIe request outside the BAR is
unsupported. -/
def hostRead (s : State) (q : Requester) (bar : Bar) (off n : Nat) (l : List Flip) : State :=
  let s := match bar with
    | .bar0 => s
    | .bar2 => if s.domReady Dom.fab then s.sramUpset l else s
    | .bar4 => if s.ddrServes then s.ddrUpset l else s
  if q = .pcie ∧ !s.inBar bar off n then s.unsupportedRequest else s.memRead q bar off n

/-- A write of host memory space. -/
def hostWriteMem (s : State) (q : Requester) (bar : Bar) (off : Nat) (data : List Byte) : State :=
  if q = .pcie ∧ !s.inBar bar off data.length then s.unsupportedRequest else s.memWrite q bar off data

/-- An access whose target domain is unpowered or changing (R15). -/
def offAccess (s : State) (q : Requester) (bar : Bar) (off : Nat) (write : Bool) : State :=
  let off? := match bar with
    | .bar0 => (busBlk off).any fun b => !s.reach b
    | .bar2 => s.bar2Judge q off 1 write == .off off || s.bar2Judge q off 1 write == .off (off - off % 4)
    | .bar4 => !s.ddrServes
  if !off? then s
  else match bar with
  | .bar0 =>
    if write then s.busWrite q off 15 0
    else
      let r := s.busRead q off
      r.2.send (.regData q off r.1)
  | _ => if write then s.memWrite q bar off [0] else s.memRead q bar off 1

/-- A vector's mask bit is cleared in the MSI-X table. -/
def unmask (s : State) (v : Nat) : State := if s.domReady Dom.pcie && !s.held then s.msixWrite v 3 0 else s

/-- An event of the I2C target, which lies in PD_AON. -/
def onI2c (s : State) (k : State → State) : State := if s.domReady Dom.aon then k s else s

/-! ### The reference clock and the crystal (R19, R277, R458) -/

/-- REFCLK is lost: transmitters enter electrical idle, the fabric, the Keeper and the time bases go on with the AON clock, and
the handshake of an entry ends. -/
def refLoss (s : State) (ppm : BitVec 16) : State :=
  if !s.blkOn Blk.clk || s.fb Blk.clk CLK.STAT_ON_AON then s
  else
    let s := (s.setF Blk.clk CLK.REF_PPM_PPM ppm.toNat).flag Blk.clk CLK.STAT_REF_LOST CLK.INT_REF_LOST
    let s := (s.setF Blk.clk CLK.STAT_ON_AON 1).setF Blk.clk CLK.STAT_REF_PLL_LOCK 0
    let s := { s with refAt := s.aonCnt, refBack := false }
    let s := if s.timeOn then (List.range 4).foldl (fun s n =>
        if s.fb Blk.time (TIME.TB_STAT_RUNNING n) then s.setF Blk.time (TIME.TB_STAT_COARSE n) 1 else s) s
      else s
    let s := (List.range 64).foldl (fun s m =>
      if s.blkOn (Blk.hlane m) && s.fb (Blk.hlane m) HLANE.HL_CTL_EN then s.setF (Blk.hlane m) HLANE.HL_STAT_TX_IDLE 1
      else s) s
    (s.squelchAll.holdoverAll).portsEval.hsRefLost

/-- INT_STAT source of CLK: R19's return conditions are met. -/
def intRefBack : Nat := 5

/-- REFCLK has been within ±100 ppm for 10 ms. -/
def refReturn (s : State) (ppm : BitVec 16) : State :=
  if !s.blkOn Blk.clk || !s.fb Blk.clk CLK.STAT_ON_AON || s.refBack then s
  else if 1000 < ppm.toInt.natAbs then s.setF Blk.clk CLK.REF_PPM_PPM ppm.toNat
  else ({ s.setF Blk.clk CLK.REF_PPM_PPM ppm.toNat with refBack := true }).raise Blk.clk intRefBack

/-- The reference PLL has relocked: the fabric and the Keeper return to 625 MHz, and the time bases to their clock, re-seeded and
with the uncertainty of R276 over the AON edges of the loss (R277). -/
def refRelock (s : State) : State :=
  if !s.blkOn Blk.clk || !s.fb Blk.clk CLK.STAT_ON_AON || !s.refBack then s
  else
    let edges := s.aonCnt - s.refAt
    let tol := (s.reg Blk.time TIME.AON_TOL).toNat
    let unc := min (2 ^ 32 - 1) (80 + (edges * 40 * tol + 999999) / 1000000)
    let s := (s.setF Blk.clk CLK.STAT_ON_AON 0).setF Blk.clk CLK.STAT_REF_PLL_LOCK 1
    let s := { s with refBack := false }
    let s := if s.timeOn then (List.range 4).foldl (fun s n =>
        if s.fb Blk.time (TIME.TB_STAT_RUNNING n) then
          (s.setReg Blk.time (TIME.TB_UNC n) (BitVec.ofNat 32 unc)).tbSeed n
        else s) s
      else s
    s.squelchAll.portsEval

/-- The crystal has stopped for 10 µs. -/
def xtalFail (s : State) : State :=
  if !s.blkOn Blk.aon || !s.fb Blk.aon AON.XTAL_STAT_OK then s
  else (s.setF Blk.aon AON.XTAL_STAT_OK 0).flag Blk.aon AON.XTAL_STAT_FAIL_SEEN 4

/-- The crystal runs again. -/
def xtalResume (s : State) : State := if s.blkOn Blk.aon then s.setF Blk.aon AON.XTAL_STAT_OK 1 else s

/-! ### The parity sweep (R51, R52, R422) -/

/-- The RW and RWS bits of a register, which its parity protects. -/
def protectedBits (b off : Nat) : Word := (classBits b off).1 ||| (classBits b off).2.1

/-- How many bits of a word are set. -/
def onesOf (w : Word) : Nat := ((List.range 32).filter fun i => w.getLsbD i).length

/-- An upset inverts bits of the register at `off` of block `b`, or of its shadow: bits [31:0] of `m` in the word, of which the
protected ones count, and bit 32 in the parity bit. -/
def regUpset (s : State) (b off : Nat) (shadow : Bool) (m : BitVec 33) : State :=
  let bits := m.setWidth 32 &&& (if shadow then (classBits b off).2.1 else protectedBits b off)
  let key := if shadow then shadowKey b off else regKey b off
  let odd := (onesOf bits + (m.getLsbD 32).toNat) % 2 = 1
  let t := if bits = 0 then s
    else if shadow then { s with shadows := SMap.set s.shadows key (s.shadow b off ^^^ bits) }
    else if off = HDR.INT_EN then { s with intEn := SMap.put 0 s.intEn b (s.intEnable b ^^^ bits) }
    else
      let t := s.setReg b off (s.reg b off ^^^ bits)
      activeChanged s (recheck s t b) b
  if !odd then t
  else if t.parBad.contains key then { t with parBad := t.parBad.filter (· != key) }
  else { t with parBad := key :: t.parBad }

/-- A fault that the sweep finds is reported once: PAR_STAT, INT_STAT bit 1 and an anchored record. -/
def parityReport (s : State) (b off : Nat) (shadow : Bool) : State :=
  let key := if shadow then shadowKey b off else regKey b off
  let v := if shadow then s.shadow b off else s.reg b off
  let s := { s with parSeen := key :: s.parSeen }
  let s := (s.setF b HDR.PAR_STAT_ERR 1).setB b HDR.PAR_STAT_SHADOW shadow
  let s := (s.countSat b HDR.PAR_STAT_COUNT 1).setF b HDR.PAR_STAT_WORD (off / 4)
  let s := s.logRecord { typ := 0x0010, src := b, anch := true, payload := logPayload [b, off / 4, v.toNat] }
  s.raise b HDR.INT_PARITY

/-- The position moves to word `off` of block `b`; one that does not lie further on begins a new lap (R51). -/
def sweepTo (s : State) (b off : Nat) : State :=
  let pos := regKey b off
  let s := if s.sweepAt < pos then s
    else
      let us := min (2 ^ 24 - 1) ((s.aonCnt - s.sweepLap) * 40 / 1000)
      { s.setF Blk.glb GLB.PSWEEP_STAT_LAP_US us with sweepLap := s.aonCnt }
  { s.setF Blk.glb GLB.PSWEEP_STAT_CUR_BLK b with sweepAt := pos }

/-- The sweep checker reads a register, or its shadow while STAGE = 1, that an upset `m` may have met before. -/
def paritySweep (s : State) (b off : Nat) (shadow : Bool) (m : BitVec 33) : State :=
  let prot := if shadow then (classBits b off).2.1 else protectedBits b off
  if !s.fabOn || s.f Blk.glb GLB.PSWEEP_CTL_EN = 0 || !s.blkOn b || prot = 0 || (shadow && !s.staged b) then s
  else
    let s := (s.regUpset b off shadow m).sweepTo b off
    let key := if shadow then shadowKey b off else regKey b off
    if s.parBad.contains key && !s.parSeen.contains key then s.parityReport b off shadow else s

/-- The register words that the active image holds: REGS, DDR, POWER and LOG records. -/
def imgValues (x : CfgImage) : List (Nat × Nat × Word) :=
  imgRegs x ++ x.records.flatMap fun r => match r with
    | .ddr cfg _ => [(Blk.ddr, DDR.CFG, cfg)]
    | .power _ kpr coef => [(Blk.pwr, PWR.RET_KPR, kpr), (Blk.pwr, PWR.RET_COEF, coef)]
    | .log ctl rb rs ab as => [(Blk.log, LOG.LOG_CTL, ctl), (Blk.log, LOG.RING_BASE, rb), (Blk.log, LOG.RING_SIZE, rs),
        (Blk.log, LOG.ANCH_BASE, ab), (Blk.log, LOG.ANCH_SIZE, as)]
    | _ => []

/-- A reported fault in an active value is restored from the golden copy of the active image (R422). -/
def parityRestore (s : State) (b off : Nat) : State :=
  let key := regKey b off
  let held := (s.cfgv.active.bind fun x => ((imgValues x).reverse.find? fun w => w.1 == b && w.2.1 == off)).map (·.2.2)
  match held with
  | none => s
  | some w =>
    if !s.domReady Dom.kpr || !s.blkOn b || !s.fb Blk.cfgv CFGV.CTL_AUTO_RESTORE || !s.parBad.contains key
        || !s.parSeen.contains key then s
    else
      let m := protectedBits b off
      let t := if off = HDR.INT_EN then { s with intEn := SMap.put 0 s.intEn b w }
        else s.setReg b off ((s.reg b off &&& ~~~m) ||| (w &&& m))
      let t := (activeChanged s (recheck s t b) b).parityNew key
      (t.satReg Blk.cfgv CFGV.RESTORE_CNT 1).raise Blk.cfgv CFGV.INT_RESTORED

end State
end Sys2Proof.Machine
end

