-- ==== Sys2Proof/Machine/Attach.lean ====
section
/-! DEFINITION. The meanings of the commands of the reset, the attachments, the page header and the clocks (spec/01, spec/02, spec/16, spec/19). -/

namespace Sys2Proof.Machine

/-- POWER_ON_RESET (R8). -/
def execPowerOnReset (x : BootInput) (s : State) : Host.Outcome State Fault Refusal := finish s (s.powerOn x)

/-- PCIE_PERST (R445). -/
def execPciePerst (s : State) : Host.Outcome State Fault Refusal := finish s (s.pcieReset)

/-- LINK_UP (R28). -/
def execLinkUp (speed : Fin 6) (width : Fin 5) (flit reversed : Bool) (s : State) : Host.Outcome State Fault Refusal :=
  finish s (s.linkUpEvent (speed.val + 1) (2 ^ width.val) flit reversed)

/-- LINK_DOWN (R55). -/
def execLinkDown (s : State) : Host.Outcome State Fault Refusal := finish s (s.linkDownEvent)

/-- REG_WRITE (R39). -/
def execRegWrite (q : Requester) (addr : BitVec 24) (be : BitVec 4) (v : Word) (s : State) : Host.Outcome State Fault Refusal :=
  finish s (s.busWrite q addr.toNat be.toNat v)

/-- HOLDING_WRITE (R41). -/
def execHoldingWrite (q : Requester) (addr : BitVec 24) (v : Word) (s : State) : Host.Outcome State Fault Refusal :=
  finish s (s.busWrite q addr.toNat 15 v)

/-- OFF_ACCESS (R15). -/
def execOffAccess (q : Requester) (bar : Bar) (off : BitVec 34) (write : Bool) (s : State) : Host.Outcome State Fault Refusal :=
  finish s (s.offAccess q bar off.toNat write)

/-- HOST_MEM_READ (R31). -/
def execHostMemRead (q : Requester) (bar : Bar) (off : BitVec 34) (len : Nat) (flips : List Flip) (s : State) : Host.Outcome State Fault Refusal :=
  finish s (s.hostRead q bar off.toNat len flips)

/-- HOST_MEM_WRITE (R346). -/
def execHostMemWrite (q : Requester) (bar : Bar) (off : BitVec 34) (data : List Byte) (s : State) : Host.Outcome State Fault Refusal :=
  finish s (s.hostWriteMem q bar off.toNat data)

/-- UNSUPPORTED_REQUEST (R32). -/
def execUnsupportedRequest (s : State) : Host.Outcome State Fault Refusal := finish s (s.unsupportedRequest)

/-- I2C_WRITE (R34). -/
def execI2cWrite (bytes : List Byte) (s : State) : Host.Outcome State Fault Refusal :=
  finish s (s.onI2c fun s => s.i2cWrite bytes)

/-- I2C_READ (R34). -/
def execI2cRead (count : Nat) (s : State) : Host.Outcome State Fault Refusal :=
  finish s (s.onI2c fun s => s.i2cRead count)

/-- I2C_CMD_READ (R35). -/
def execI2cCmdRead (s : State) : Host.Outcome State Fault Refusal := finish s (s.onI2c fun s => s.i2cStart 1)

/-- I2C_CMD_WRITE (R35). -/
def execI2cCmdWrite (s : State) : Host.Outcome State Fault Refusal := finish s (s.onI2c fun s => s.i2cStart 2)

/-- I2C_CMD_READ_INC (R35). -/
def execI2cCmdReadInc (s : State) : Host.Outcome State Fault Refusal := finish s (s.onI2c fun s => s.i2cStart 5)

/-- I2C_CMD_WRITE_INC (R35). -/
def execI2cCmdWriteInc (s : State) : Host.Outcome State Fault Refusal := finish s (s.onI2c fun s => s.i2cStart 6)

/-- I2C_ACCESS_DONE (R35). -/
def execI2cAccessDone (s : State) : Host.Outcome State Fault Refusal := finish s (s.onI2c fun s => s.i2cDone)

/-- I2C_ADDRESS_MATCH (R393). -/
def execI2cAddressMatch (s : State) : Host.Outcome State Fault Refusal := finish s (s.onI2c fun s => s.wakeUp 4)

/-- SOFT_RESET (R8). -/
def execSoftReset (q : Requester) (b : Fin 179) (s : State) : Host.Outcome State Fault Refusal :=
  finish s (s.accessBy q b HDR.BLK_CTL true fun s => s.blkCtl b (s.oneField b HDR.BLK_CTL_SOFT_RESET 1))

/-- STAGE_ON (R45). -/
def execStageOn (q : Requester) (b : Fin 179) (s : State) : Host.Outcome State Fault Refusal :=
  finish s (s.accessBy q b HDR.BLK_CTL true fun s => s.blkCtl b (s.oneField b HDR.BLK_CTL_STAGE 1))

/-- STAGE_OFF (R49). -/
def execStageOff (q : Requester) (b : Fin 179) (s : State) : Host.Outcome State Fault Refusal :=
  finish s (s.accessBy q b HDR.BLK_CTL true fun s => s.blkCtl b (s.oneField b HDR.BLK_CTL_STAGE 0))

/-- INT_FORCE (R43). -/
def execIntForce (q : Requester) (b : Fin 179) (v : Word) (s : State) : Host.Outcome State Fault Refusal :=
  finish s (s.accessBy q b HDR.INT_FORCE true fun s => s.headerWrite b HDR.INT_FORCE v)

/-- INT_STAT_CLEAR (R55). -/
def execIntStatClear (q : Requester) (b : Fin 179) (v : Word) (s : State) : Host.Outcome State Fault Refusal :=
  finish s (s.accessBy q b HDR.INT_STAT true fun s => s.intClear b v)

/-- MSIX_UNMASK (R55). -/
def execMsixUnmask (vec : Fin 256) (s : State) : Host.Outcome State Fault Refusal := finish s (s.unmask vec)

/-- COMMIT_NOW (R46). -/
def execCommitNow (q : Requester) (b : Fin 179) (s : State) : Host.Outcome State Fault Refusal :=
  finish s (s.accessBy q b HDR.STAGE_CTL true fun s => s.stageCtl b (s.oneField b HDR.STAGE_CTL_COMMIT_NOW 1))

/-- DISCARD (R49). -/
def execDiscard (q : Requester) (b : Fin 179) (s : State) : Host.Outcome State Fault Refusal :=
  finish s (s.accessBy q b HDR.STAGE_CTL true fun s => s.stageCtl b (s.oneField b HDR.STAGE_CTL_DISCARD 1))

/-- ARM (R49). -/
def execArm (q : Requester) (b : Fin 179) (se : Fin 256) (s : State) : Host.Outcome State Fault Refusal :=
  finish s (s.accessBy q b HDR.STAGE_CTL true fun s => s.stageCtl b (HDR.STAGE_CTL_SE_EN.put (HDR.STAGE_CTL_COMMIT_SE.put 0 se) 1))

/-- DISARM (R49). -/
def execDisarm (q : Requester) (b : Fin 179) (se : Option (Fin 256)) (s : State) : Host.Outcome State Fault Refusal :=
  finish s (s.accessBy q b HDR.STAGE_CTL true fun s => s.stageCtl b (match se with
    | some k => HDR.STAGE_CTL_SE_EN.put (HDR.STAGE_CTL_COMMIT_SE.put 0 k) 1
    | none => s.oneField b HDR.STAGE_CTL_SE_EN 0))

/-- PARITY_SWEEP (R51). -/
def execParitySweep (b : Fin 179) (word : Fin 1024) (shadow : Bool) (upset : BitVec 33) (s : State) : Host.Outcome State Fault Refusal :=
  finish s (s.paritySweep b (4 * word.val) shadow upset)

/-- PARITY_RESTORE (R422). -/
def execParityRestore (b : Fin 179) (word : Fin 1024) (s : State) : Host.Outcome State Fault Refusal :=
  finish s (s.parityRestore b (4 * word.val))

/-- REFCLK_LOSS (R19). -/
def execRefclkLoss (ppm : BitVec 16) (s : State) : Host.Outcome State Fault Refusal := finish s (s.refLoss ppm)

/-- REFCLK_RETURN (R19). -/
def execRefclkReturn (ppm : BitVec 16) (s : State) : Host.Outcome State Fault Refusal := finish s (s.refReturn ppm)

/-- REF_PLL_RELOCK (R277). -/
def execRefPllRelock (s : State) : Host.Outcome State Fault Refusal := finish s (s.refRelock)

/-- XTAL_FAIL (R458). -/
def execXtalFail (s : State) : Host.Outcome State Fault Refusal := finish s (s.xtalFail)

/-- PORST_N_LOW (R444). -/
def execPorstNLow (s : State) : Host.Outcome State Fault Refusal := finish s (s.porstLow)

/-- PCIE_CONFIG_WRITE (R385). -/
def execPcieConfigWrite (d3hot busMaster msixEn : Bool) (s : State) : Host.Outcome State Fault Refusal :=
  finish s (s.configWrite d3hot busMaster msixEn)

/-- EXIT_STEP_DONE (R395). -/
def execExitStepDone (ddrKept : Bool) (x : Option BootInput) (s : State) : Host.Outcome State Fault Refusal :=
  finish s (s.exitStepDone ddrKept x)

/-- XTAL_RESUME (R458). -/
def execXtalResume (s : State) : Host.Outcome State Fault Refusal := finish s (s.xtalResume)

end Sys2Proof.Machine
end

