-- ==== Sys2Proof/Machine/Coding.lean ====
section
/-! DEFINITION. The meanings of the line coding's commands (spec/05). -/

namespace Sys2Proof.Machine

/-- FEC_MODE_WRITE (R119). -/
def execFecModeWrite (q : Requester) (n : Fin 17) (v : Word) (s : State) : Host.Outcome State Fault Refusal :=
  finish s (s.accessBy q Blk.fec (FEC.LANE_CTL n) true fun s => s.fecLaneCtl n v)

/-- INNER_WINDOW_END (R125). -/
def execInnerWindowEnd (n : Fin 17) (zsyn : Fin 257) (s : State) : Host.Outcome State Fault Refusal :=
  finish s (s.innerWindowEnd n zsyn)

/-- FORCE_HUNT (R125). -/
def execForceHunt (q : Requester) (n : Fin 17) (s : State) : Host.Outcome State Fault Refusal :=
  finish s (s.accessBy q (Blk.llane n) LLANE.INNER_CTL true fun s =>
    s.innerCtl n (s.oneField (Blk.llane n) LLANE.INNER_CTL_FORCE_HUNT 1))

/-- INNER_CODEWORD_DECODED (R126, R127, R140, R143): `hard` holds the hard decision of position j in bit j, `rel` each
position's reliability plus one, 0 for an erased bit, and `phase` the first message bit's place among four RS symbols. -/
def execInnerCodewordDecoded (n : Fin 17) (hard : BitVec 136) (rel : List (Fin 17)) (phase : Fin 40) (s : State) :
    Host.Outcome State Fault Refusal :=
  finish s (s.innerCodeword n (Codec.chase ((List.range 136).map hard.getLsbD) (rel.map (·.val))) phase)

/-- LPC_BLOCK_PERIOD (R132, R133). -/
def execLpcBlockPeriod (n : Fin 17) (score : Fin 290) (s : State) : Host.Outcome State Fault Refusal :=
  finish s (s.lpcPeriod n score)

/-- LPC_BLOCK_END (R135, R141, R143). -/
def execLpcBlockEnd (n : Fin 17) (rows : List LpcRow) (s : State) : Host.Outcome State Fault Refusal :=
  finish s (s.lpcBlockEnd n rows)

/-- ITER_CHG (R134). -/
def execIterChg (n : Fin 17) (s : State) : Host.Outcome State Fault Refusal := finish s (s.iterChg n)

end Sys2Proof.Machine
end

