-- ==== Sys2Proof/Machine/Dma.lean ====
section
/-! DEFINITION. The meanings of the commands of the DMA engine, the payload tap and the Logbook (spec/15), and of the RS monitor that
feeds the tap (R139). -/

namespace Sys2Proof.Machine

/-- CH_TAIL_WRITE (R359). -/
def execChTailWrite (q : Requester) (c : Fin 16) (v : Word) (s : State) : Host.Outcome State Fault Refusal :=
  finish s (s.accessBy q Blk.dma (DMA.CH_TAIL c) true fun s => s.dmaWriteReg (DMA.CH_TAIL c) v)

/-- RING_WRITE (R359). -/
def execRingWrite (q : Requester) (c : Fin 16) (hi : Bool) (v : Word) (s : State) : Host.Outcome State Fault Refusal :=
  finish s (s.accessBy q Blk.dma (if hi then DMA.CH_RING_HI c else DMA.CH_RING_LO c) true fun s =>
    s.dmaWriteReg (if hi then DMA.CH_RING_HI c else DMA.CH_RING_LO c) v)

/-- DESCRIPTOR_START (R360). -/
def execDescriptorStart (c : Fin 16) (desc : List Byte) (s : State) : Host.Outcome State Fault Refusal :=
  finish s (if s.fabOn then s.dmaStart c desc else s)

/-- DESCRIPTOR_COMPLETE (R361). -/
def execDescriptorComplete (c : Fin 16) (source : List Byte) (writeErr : Bool) (s : State) : Host.Outcome State Fault Refusal :=
  finish s (if s.fabOn then s.dmaDone c source writeErr else s)

/-- LATE_WRITE_ERR (R362). -/
def execLateWriteErr (c : Fin 16) (idx : BitVec 16) (s : State) : Host.Outcome State Fault Refusal :=
  finish s (if s.fabOn then s.dmaLate c idx else s)

/-- DMA_RUN (R364). -/
def execDmaRun (q : Requester) (c : Fin 16) (s : State) : Host.Outcome State Fault Refusal :=
  finish s (s.accessBy q Blk.dma (DMA.CH_CTL c) true fun s => s.dmaWriteReg (DMA.CH_CTL c) (s.oneField Blk.dma (DMA.CH_CTL_RUN c) 1))

/-- DMA_STOP (R364). -/
def execDmaStop (q : Requester) (c : Fin 16) (s : State) : Host.Outcome State Fault Refusal :=
  finish s (s.accessBy q Blk.dma (DMA.CH_CTL c) true fun s => s.dmaWriteReg (DMA.CH_CTL c) (s.oneField Blk.dma (DMA.CH_CTL_STOP c) 1))

/-- DMA_ABORT (R364). -/
def execDmaAbort (q : Requester) (c : Fin 16) (s : State) : Host.Outcome State Fault Refusal :=
  finish s (s.accessBy q Blk.dma (DMA.CH_CTL c) true fun s => s.dmaWriteReg (DMA.CH_CTL c) (s.oneField Blk.dma (DMA.CH_CTL_ABORT c) 1))

/-- SHARE_WINDOW (R365). -/
def execShareWindow (moves : List (Fin 16 × Nat × List Byte)) (s : State) : Host.Outcome State Fault Refusal :=
  finish s (s.dmaWindow moves)

/-- TAP_BLOCK_CLOSE (R368). -/
def execTapBlockClose (s : State) : Host.Outcome State Fault Refusal := finish s (if s.fabOn then s.tapDue else s)

/-- TAP_CTL_WRITE (R367). -/
def execTapCtlWrite (q : Requester) (v : Word) (s : State) : Host.Outcome State Fault Refusal :=
  finish s (s.accessBy q Blk.dma DMA.TAP_CTL true fun s => s.dmaWriteReg DMA.TAP_CTL v)

/-- ALIAS_CTL_WRITE (R370). -/
def execAliasCtlWrite (q : Requester) (c : Fin 8) (v : Word) (s : State) : Host.Outcome State Fault Refusal :=
  finish s (s.accessBy q Blk.dma (DMA.CH_CTL c) true fun s => s.dmaAliasCtl c v)

/-- RS_CODEWORD_MONITORED (R139). -/
def execRsCodewordMonitored (p : Fin 64) (hostBound : Bool) (flow : Fin 4) (outcome : RsOutcome) (codeword : List Byte) (s : State) : Host.Outcome State Fault Refusal :=
  finish s (s.rsCodeword p hostBound flow outcome codeword)

/-- LOG_DRAIN (R374). -/
def execLogDrain (s : State) : Host.Outcome State Fault Refusal := finish s (s.logDrain)

/-- DRAIN_WRITE (R376). -/
def execDrainWrite (q : Requester) (on : Bool) (s : State) : Host.Outcome State Fault Refusal :=
  finish s (s.accessBy q Blk.log LOG.LOG_CTL true fun s => s.logWriteReg LOG.LOG_CTL (s.oneField Blk.log LOG.LOG_CTL_DRAIN on.toNat))

/-- ANCH_CLR (R375). -/
def execAnchClrWrite (q : Requester) (s : State) : Host.Outcome State Fault Refusal :=
  finish s (s.accessBy q Blk.log LOG.LOG_CTL true fun s => s.logWriteReg LOG.LOG_CTL (s.oneField Blk.log LOG.LOG_CTL_ANCH_CLR 1))

/-- HREC (R372). -/
def execHrec (q : Requester) (typ : BitVec 16) (anchor : Bool) (s : State) : Host.Outcome State Fault Refusal :=
  finish s (s.accessBy q Blk.log LOG.HREC_CTL true fun s =>
    s.logWriteReg LOG.HREC_CTL (LOG.HREC_CTL_GO.put (LOG.HREC_CTL_ANCHOR.put (LOG.HREC_CTL_TYPE.put 0 typ.toNat) anchor.toNat) 1))

end Sys2Proof.Machine
end

