-- ==== Sys2Proof/Machine/Engines.lean ====
section
/-! DEFINITION. The meanings of the engines' commands (spec/06, and R194 to R196 of spec/07): each instruction as an
engine issues it, the events of the primitives, the microcode and mailbox registers, and the supplied programs. -/

namespace Sys2Proof.Machine

/-- ADD: engine `e` issues it (R154). -/
def execAddOp (e : EngineId) (d a b : Fin 16) (s : State) : Host.Outcome State Fault Refusal :=
  finish s (s.engIssue e (.alu .add d a b))

/-- SUB: engine `e` issues it (R154). -/
def execSubOp (e : EngineId) (d a b : Fin 16) (s : State) : Host.Outcome State Fault Refusal :=
  finish s (s.engIssue e (.alu .sub d a b))

/-- AND: engine `e` issues it (R154). -/
def execAndOp (e : EngineId) (d a b : Fin 16) (s : State) : Host.Outcome State Fault Refusal :=
  finish s (s.engIssue e (.alu .and d a b))

/-- OR: engine `e` issues it (R154). -/
def execOrOp (e : EngineId) (d a b : Fin 16) (s : State) : Host.Outcome State Fault Refusal :=
  finish s (s.engIssue e (.alu .or d a b))

/-- XOR: engine `e` issues it (R154). -/
def execXorOp (e : EngineId) (d a b : Fin 16) (s : State) : Host.Outcome State Fault Refusal :=
  finish s (s.engIssue e (.alu .xor d a b))

/-- SLL: engine `e` issues it (R154). -/
def execSllOp (e : EngineId) (d a b : Fin 16) (s : State) : Host.Outcome State Fault Refusal :=
  finish s (s.engIssue e (.alu .sll d a b))

/-- SRL: engine `e` issues it (R154). -/
def execSrlOp (e : EngineId) (d a b : Fin 16) (s : State) : Host.Outcome State Fault Refusal :=
  finish s (s.engIssue e (.alu .srl d a b))

/-- SRA: engine `e` issues it (R154). -/
def execSraOp (e : EngineId) (d a b : Fin 16) (s : State) : Host.Outcome State Fault Refusal :=
  finish s (s.engIssue e (.alu .sra d a b))

/-- SLT: engine `e` issues it (R154). -/
def execSltOp (e : EngineId) (d a b : Fin 16) (s : State) : Host.Outcome State Fault Refusal :=
  finish s (s.engIssue e (.alu .slt d a b))

/-- SLTU: engine `e` issues it (R154). -/
def execSltuOp (e : EngineId) (d a b : Fin 16) (s : State) : Host.Outcome State Fault Refusal :=
  finish s (s.engIssue e (.alu .sltu d a b))

/-- MIN: engine `e` issues it (R154). -/
def execMinOp (e : EngineId) (d a b : Fin 16) (s : State) : Host.Outcome State Fault Refusal :=
  finish s (s.engIssue e (.alu .min d a b))

/-- MAX: engine `e` issues it (R154). -/
def execMaxOp (e : EngineId) (d a b : Fin 16) (s : State) : Host.Outcome State Fault Refusal :=
  finish s (s.engIssue e (.alu .max d a b))

/-- MUL: engine `e` issues it (R154). -/
def execMulOp (e : EngineId) (d a b : Fin 16) (s : State) : Host.Outcome State Fault Refusal :=
  finish s (s.engIssue e (.alu .mul d a b))

/-- MULH: engine `e` issues it (R154). -/
def execMulhOp (e : EngineId) (d a b : Fin 16) (s : State) : Host.Outcome State Fault Refusal :=
  finish s (s.engIssue e (.alu .mulh d a b))

/-- CMP: engine `e` issues it (R154). -/
def execCmp (e : EngineId) (a b : Fin 16) (s : State) : Host.Outcome State Fault Refusal :=
  finish s (s.engIssue e (.cmp a b))

/-- ADDI: engine `e` issues it (R154). -/
def execAddi (e : EngineId) (d a : Fin 16) (i : BitVec 18) (s : State) : Host.Outcome State Fault Refusal :=
  finish s (s.engIssue e (.imm .add d a i.toNat))

/-- ANDI: engine `e` issues it (R154). -/
def execAndi (e : EngineId) (d a : Fin 16) (i : BitVec 18) (s : State) : Host.Outcome State Fault Refusal :=
  finish s (s.engIssue e (.imm .and d a i.toNat))

/-- ORI: engine `e` issues it (R154). -/
def execOri (e : EngineId) (d a : Fin 16) (i : BitVec 18) (s : State) : Host.Outcome State Fault Refusal :=
  finish s (s.engIssue e (.imm .or d a i.toNat))

/-- XORI: engine `e` issues it (R154). -/
def execXori (e : EngineId) (d a : Fin 16) (i : BitVec 18) (s : State) : Host.Outcome State Fault Refusal :=
  finish s (s.engIssue e (.imm .xor d a i.toNat))

/-- SLLI: engine `e` issues it (R154). -/
def execSlli (e : EngineId) (d a : Fin 16) (i : Fin 32) (s : State) : Host.Outcome State Fault Refusal :=
  finish s (s.engIssue e (.imm .sll d a i))

/-- SRLI: engine `e` issues it (R154). -/
def execSrli (e : EngineId) (d a : Fin 16) (i : Fin 32) (s : State) : Host.Outcome State Fault Refusal :=
  finish s (s.engIssue e (.imm .srl d a i))

/-- SRAI: engine `e` issues it (R154). -/
def execSrai (e : EngineId) (d a : Fin 16) (i : Fin 32) (s : State) : Host.Outcome State Fault Refusal :=
  finish s (s.engIssue e (.imm .sra d a i))

/-- LUI: engine `e` issues it (R154). -/
def execLui (e : EngineId) (d : Fin 16) (i : BitVec 18) (s : State) : Host.Outcome State Fault Refusal :=
  finish s (s.engIssue e (.lui d i.toNat))

/-- CMPI: engine `e` issues it (R154). -/
def execCmpi (e : EngineId) (a : Fin 16) (i : BitVec 18) (s : State) : Host.Outcome State Fault Refusal :=
  finish s (s.engIssue e (.cmpi a i.toNat))

/-- SATI: engine `e` issues it (R154). -/
def execSati (e : EngineId) (d a : Fin 16) (i : Fin 32) (s : State) : Host.Outcome State Fault Refusal :=
  finish s (s.engIssue e (.sati d a i))

/-- LW: engine `e` issues it (R152, R154). -/
def execLw (e : EngineId) (d a : Fin 16) (i : BitVec 18) (s : State) : Host.Outcome State Fault Refusal :=
  finish s (s.engIssue e (.load .w d a i.toNat))

/-- LH: engine `e` issues it (R152, R154). -/
def execLh (e : EngineId) (d a : Fin 16) (i : BitVec 18) (s : State) : Host.Outcome State Fault Refusal :=
  finish s (s.engIssue e (.load .h d a i.toNat))

/-- LHU: engine `e` issues it (R152, R154). -/
def execLhu (e : EngineId) (d a : Fin 16) (i : BitVec 18) (s : State) : Host.Outcome State Fault Refusal :=
  finish s (s.engIssue e (.load .hu d a i.toNat))

/-- SW: engine `e` issues it (R152, R154). -/
def execSw (e : EngineId) (d a : Fin 16) (i : BitVec 18) (s : State) : Host.Outcome State Fault Refusal :=
  finish s (s.engIssue e (.sw d a i.toNat))

/-- SH: engine `e` issues it (R152, R154). -/
def execSh (e : EngineId) (d a : Fin 16) (i : BitVec 18) (s : State) : Host.Outcome State Fault Refusal :=
  finish s (s.engIssue e (.sh d a i.toNat))

/-- BR: engine `e` issues it (R154, R155). -/
def execBr (e : EngineId) (cond : Fin 9) (off : BitVec 18) (s : State) : Host.Outcome State Fault Refusal :=
  finish s (s.engIssue e (.br cond off.toNat))

/-- JAL: engine `e` issues it (R154, R155). -/
def execJal (e : EngineId) (target : BitVec 11) (s : State) : Host.Outcome State Fault Refusal :=
  finish s (s.engIssue e (.jal target.toNat))

/-- JR: engine `e` issues it (R154, R155). -/
def execJr (e : EngineId) (a : Fin 16) (s : State) : Host.Outcome State Fault Refusal :=
  finish s (s.engIssue e (.jr a))

/-- LOOP: engine `e` issues it (R155). -/
def execLoop (e : EngineId) (a : Fin 16) (last : BitVec 11) (s : State) : Host.Outcome State Fault Refusal :=
  finish s (s.engIssue e (.loop a last.toNat))

/-- WAIT: engine `e` issues it (R154, R169). -/
def execWait (e : EngineId) (d : Fin 16) (mask : BitVec 8) (s : State) : Host.Outcome State Fault Refusal :=
  finish s (s.engIssue e (.wait d mask.toNat))

/-- HALT: engine `e` issues it (R153). -/
def execHalt (e : EngineId) (s : State) : Host.Outcome State Fault Refusal :=
  finish s (s.engIssue e (.halt))

/-- PRD: engine `e` issues it (R154, R156). -/
def execPrd (e : EngineId) (d a : Fin 16) (addr : BitVec 16) (s : State) : Host.Outcome State Fault Refusal :=
  finish s (s.engIssue e (.prd d a addr.toNat))

/-- PWR: engine `e` issues it (R154, R156). -/
def execPwr (e : EngineId) (d a : Fin 16) (addr : BitVec 16) (s : State) : Host.Outcome State Fault Refusal :=
  finish s (s.engIssue e (.pwr d a addr.toNat))

/-- VLDP: engine `e` issues it (R154, R156). -/
def execVldp (e : EngineId) (d a : Fin 16) (addr : BitVec 16) (s : State) : Host.Outcome State Fault Refusal :=
  finish s (s.engIssue e (.vldp d a addr.toNat))

/-- VSTP: engine `e` issues it (R154, R156). -/
def execVstp (e : EngineId) (d a : Fin 16) (addr : BitVec 16) (s : State) : Host.Outcome State Fault Refusal :=
  finish s (s.engIssue e (.vstp d a addr.toNat))

/-- VADD: engine `e` issues it (R154). -/
def execVadd (e : EngineId) (d a b : Fin 16) (s : State) : Host.Outcome State Fault Refusal :=
  finish s (s.engIssue e (.vec .add d a b 0))

/-- VSUB: engine `e` issues it (R154). -/
def execVsub (e : EngineId) (d a b : Fin 16) (s : State) : Host.Outcome State Fault Refusal :=
  finish s (s.engIssue e (.vec .sub d a b 0))

/-- VMUL: engine `e` issues it (R154). -/
def execVmul (e : EngineId) (d a b : Fin 16) (sh : BitVec 6) (s : State) : Host.Outcome State Fault Refusal :=
  finish s (s.engIssue e (.vec .mul d a b sh.toNat))

/-- VMIN: engine `e` issues it (R154). -/
def execVmin (e : EngineId) (d a b : Fin 16) (s : State) : Host.Outcome State Fault Refusal :=
  finish s (s.engIssue e (.vec .min d a b 0))

/-- VMAX: engine `e` issues it (R154). -/
def execVmax (e : EngineId) (d a b : Fin 16) (s : State) : Host.Outcome State Fault Refusal :=
  finish s (s.engIssue e (.vec .max d a b 0))

/-- VSGN: engine `e` issues it (R154). -/
def execVsgn (e : EngineId) (d a b : Fin 16) (s : State) : Host.Outcome State Fault Refusal :=
  finish s (s.engIssue e (.vec .sgn d a b 0))

/-- VSHR: engine `e` issues it (R154). -/
def execVshr (e : EngineId) (d a : Fin 16) (sh : BitVec 6) (s : State) : Host.Outcome State Fault Refusal :=
  finish s (s.engIssue e (.vec .shr d a 0 sh.toNat))

/-- VSHL: engine `e` issues it (R154). -/
def execVshl (e : EngineId) (d a : Fin 16) (sh : BitVec 6) (s : State) : Host.Outcome State Fault Refusal :=
  finish s (s.engIssue e (.vec .shl d a 0 sh.toNat))

/-- VSAT: engine `e` issues it (R154; a width outside 1 to 16 is illegal, R152). -/
def execVsat (e : EngineId) (d a : Fin 16) (sh : BitVec 6) (s : State) : Host.Outcome State Fault Refusal :=
  finish s (s.engIssue e (.vec .sat d a 0 sh.toNat))

/-- VAND: engine `e` issues it (R154). -/
def execVand (e : EngineId) (d a b : Fin 16) (s : State) : Host.Outcome State Fault Refusal :=
  finish s (s.engIssue e (.vec .and d a b 0))

/-- VMOV: engine `e` issues it (R154). -/
def execVmov (e : EngineId) (d a : Fin 16) (s : State) : Host.Outcome State Fault Refusal :=
  finish s (s.engIssue e (.vec .mov d a 0 0))

/-- VMAC: engine `e` issues it (R154). -/
def execVmac (e : EngineId) (a b : Fin 16) (n sc : Fin 2) (s : State) : Host.Outcome State Fault Refusal :=
  finish s (s.engIssue e (.vmac a b n sc))

/-- VRDA: engine `e` issues it (R154). -/
def execVrda (e : EngineId) (d : Fin 16) (n clr : Fin 2) (sh : BitVec 6) (s : State) : Host.Outcome State Fault Refusal :=
  finish s (s.engIssue e (.vrda d n clr sh.toNat))

/-- VCLR: engine `e` issues it (R154). -/
def execVclr (e : EngineId) (n : Fin 2) (s : State) : Host.Outcome State Fault Refusal :=
  finish s (s.engIssue e (.vclr n))

/-- VRED: engine `e` issues it (R154). -/
def execVred (e : EngineId) (d a : Fin 16) (s : State) : Host.Outcome State Fault Refusal :=
  finish s (s.engIssue e (.vred d a))

/-- VBC: engine `e` issues it (R154). -/
def execVbc (e : EngineId) (d a : Fin 16) (s : State) : Host.Outcome State Fault Refusal :=
  finish s (s.engIssue e (.vbc d a))

/-- VEXT: engine `e` issues it (R154). -/
def execVext (e : EngineId) (d a lane : Fin 16) (s : State) : Host.Outcome State Fault Refusal :=
  finish s (s.engIssue e (.vext d a lane))

/-- VINS: engine `e` issues it (R154). -/
def execVins (e : EngineId) (d b lane : Fin 16) (s : State) : Host.Outcome State Fault Refusal :=
  finish s (s.engIssue e (.vins d b lane))

/-- VLD: engine `e` issues it (R152, R154). -/
def execVld (e : EngineId) (d a : Fin 16) (i : BitVec 18) (s : State) : Host.Outcome State Fault Refusal :=
  finish s (s.engIssue e (.vld d a i.toNat))

/-- VST: engine `e` issues it (R152, R154). -/
def execVst (e : EngineId) (d a : Fin 16) (i : BitVec 18) (s : State) : Host.Outcome State Fault Refusal :=
  finish s (s.engIssue e (.vst d a i.toNat))

/-- ILLEGAL_INSTRUCTION (R152): engine `e` issues a word that spells no instruction. -/
def execIllegalInstruction (e : EngineId) (w : Word) (s : State) : Host.Outcome State Fault Refusal :=
  finish s (s.engIllegal e w)

/-- ENGINE_WATCHDOG (R152). -/
def execEngineWatchdog (e : EngineId) (s : State) : Host.Outcome State Fault Refusal :=
  finish s (s.engWatchdog e)

/-- RX_SWAP (R162). -/
def execRxSwap (e : EngineId) (v : Word) (s : State) : Host.Outcome State Fault Refusal :=
  finish s (s.primEvent e 0x800 v)

/-- TX_SWAP (R99, R162). -/
def execTxSwap (e : EngineId) (v : Word) (s : State) : Host.Outcome State Fault Refusal :=
  finish s (s.primEvent e 0x801 v)

/-- PD_OUT (R160). -/
def execPdOut (e : EngineId) (v : Word) (s : State) : Host.Outcome State Fault Refusal :=
  finish s (s.primEvent e 0x804 v)

/-- PHOFS_STEP (R157). -/
def execPhofsStep (e : EngineId) (v : Word) (s : State) : Host.Outcome State Fault Refusal :=
  finish s (s.primEvent e 0x808 v)

/-- SLOT_MAP (R161). -/
def execSlotMap (e : EngineId) (v : Word) (s : State) : Host.Outcome State Fault Refusal :=
  finish s (s.primEvent e 0x813 v)

/-- GA_ACK (R157). -/
def execGaAck (e : EngineId) (v : Word) (s : State) : Host.Outcome State Fault Refusal :=
  finish s (s.primEvent e 0x901 v)

/-- HIST_START (R159). -/
def execHistStart (e : EngineId) (v : Word) (s : State) : Host.Outcome State Fault Refusal :=
  finish s (s.primEvent e 0x1100 (v ||| 0x10000))

/-- HIST_DONE (R159). -/
def execHistDone (l : LaneId) (bins : List (Fin 256 × Nat)) (s : State) : Host.Outcome State Fault Refusal :=
  finish s (s.laneHistEnd l bins)

/-- GA_WINDOW_END (R158, R163). -/
def execGaWindowEnd (l : LaneId) (sums : List (Fin 144 × Int)) (s : State) : Host.Outcome State Fault Refusal :=
  finish s (s.laneGaEnd l sums)

/-- TIMER_CMP (R169). -/
def execTimerCmp (e : EngineId) (v : Word) (s : State) : Host.Outcome State Fault Refusal :=
  finish s (s.primEvent e 0x1821 v)

/-- TIMER_MATCH (R169). -/
def execTimerMatch (e : EngineId) (s : State) : Host.Outcome State Fault Refusal :=
  finish s (s.timerMatch e)

/-- MBX_DONE (R168). -/
def execMbxDone (e : EngineId) (v : Word) (s : State) : Host.Outcome State Fault Refusal :=
  finish s (s.primEvent e 0x1805 v)

/-- MBX_NOTE (R168). -/
def execMbxNote (e : EngineId) (v : Word) (s : State) : Host.Outcome State Fault Refusal :=
  finish s (s.primEvent e 0x1806 v)

/-- PWR_RSP (R171). -/
def execPwrRsp (e : EngineId) (v : Word) (s : State) : Host.Outcome State Fault Refusal :=
  finish s (s.primEvent e 0x1831 v)

/-- TRN_REQ (R194). -/
def execTrnReq (e : EngineId) (v : Word) (s : State) : Host.Outcome State Fault Refusal :=
  finish s (s.primEvent e 0x816 v)

/-- TRN_READY (R194). -/
def execTrnReady (e : EngineId) (v : Word) (s : State) : Host.Outcome State Fault Refusal :=
  finish s (s.primEvent e 0x818 v)

/-- ENGINE_RUN (R153). -/
def execEngineRun (q : Requester) (e : EngineId) (s : State) : Host.Outcome State Fault Refusal :=
  finish s (s.accessBy q (engBlk e) (ENG.LE_CTL (engBase e)) true fun s => s.leCtl e (s.oneField (engBlk e) (ENG.LE_CTL_RUN (engBase e)) 1))

/-- ENGINE_STEP (R153). -/
def execEngineStep (q : Requester) (e : EngineId) (s : State) : Host.Outcome State Fault Refusal :=
  finish s (s.accessBy q (engBlk e) (ENG.LE_CTL (engBase e)) true fun s => s.leCtl e (s.oneField (engBlk e) (ENG.LE_CTL_STEP (engBase e)) 1))

/-- UC_DATA_WRITE (R164). -/
def execUcDataWrite (q : Requester) (e : EngineId) (v : Word) (s : State) : Host.Outcome State Fault Refusal :=
  finish s (s.accessBy q (engBlk e) (ENG.UC_DATA (engBase e)) true fun s => s.ucDataWrite q e v)

/-- UC_SEAL (R165). -/
def execUcSeal (q : Requester) (e : EngineId) (bank : Fin 2) (len : BitVec 12) (s : State) : Host.Outcome State Fault Refusal :=
  finish s (s.accessBy q (engBlk e) (ENG.UC_SEAL (engBase e)) true fun s => s.ucSeal q e (ENG.UC_SEAL_LEN (engBase e) |>.put (ENG.UC_SEAL_BANK (engBase e) |>.put 1 bank) len.toNat))

/-- INVALIDATE (R165). -/
def execInvalidate (q : Requester) (e : EngineId) (bank : Fin 2) (s : State) : Host.Outcome State Fault Refusal :=
  finish s (s.accessBy q (engBlk e) (ENG.UC_SEAL (engBase e)) true fun s => s.ucSeal q e (ENG.UC_SEAL_BANK (engBase e) |>.put 2 bank))

/-- SEALED (R165). -/
def execSealed (e : EngineId) (s : State) : Host.Outcome State Fault Refusal :=
  finish s (s.ucSealed e)

/-- MICROCODE_SWAP (R167). -/
def execMicrocodeSwap (e : EngineId) (s : State) : Host.Outcome State Fault Refusal :=
  finish s (s.ucSwapNow e)

/-- MBX_CMD (R168). -/
def execMbxCmd (q : Requester) (e : EngineId) (v : Word) (s : State) : Host.Outcome State Fault Refusal :=
  finish s (s.accessBy q (engBlk e) (ENG.MBX_CMD (engBase e)) true fun s => s.mbxCmd e v)

/-- TRAIN: the supplied program completes the command (R170). -/
def execTrain (n : Fin 17) (converged : Bool) (words : List (Fin 145 × BitVec 12)) (windows : BitVec 16) (err : Word) (s : State) : Host.Outcome State Fault Refusal :=
  finish s (s.lineTrain n converged words windows err)

/-- FREEZE: the supplied program completes the command (R170). -/
def execFreeze (n : Fin 17) (s : State) : Host.Outcome State Fault Refusal :=
  finish s (s.lineFreeze n)

/-- RESUME: the supplied program completes the command (R170). -/
def execResume (n : Fin 17) (s : State) : Host.Outcome State Fault Refusal :=
  finish s (s.lineResume n)

/-- SET_MU: the supplied program completes the command (R170). -/
def execSetMu (n : Fin 17) (s : State) : Host.Outcome State Fault Refusal :=
  finish s (s.lineSetMu n)

/-- SET_LOOP: the supplied program completes the command (R170). -/
def execSetLoop (n : Fin 17) (s : State) : Host.Outcome State Fault Refusal :=
  finish s (s.lineSetLoop n)

/-- STATUS: the supplied program completes the command (R170). -/
def execStatus (n : Fin 17) (err : Word) (s : State) : Host.Outcome State Fault Refusal :=
  finish s (s.lineStatus n err)

/-- EYE: the supplied program completes the command (R170). -/
def execEye (n : Fin 17) (hits : Word) (results : List EyeResult) (s : State) : Host.Outcome State Fault Refusal :=
  finish s (s.lineEye n hits results)

/-- REMAP: the supplied program completes the command (R170). -/
def execRemap (n : Fin 17) (s : State) : Host.Outcome State Fault Refusal :=
  finish s (s.lineRemap n)

/-- SPARE_TRAIN: the supplied program completes the command (R170). -/
def execSpareTrain (n : Fin 17) (converged : Bool) (words : List (Fin 145 × BitVec 12)) (windows : BitVec 16) (err : Word) (s : State) : Host.Outcome State Fault Refusal :=
  finish s (s.lineSpareTrain n converged words windows err)

/-- STOP: the supplied program completes the command (R170). -/
def execStop (n : Fin 17) (s : State) : Host.Outcome State Fault Refusal :=
  finish s (s.lineStop n)

/-- ADAPT: the supplied program completes the command (R196). -/
def execAdapt (k : Fin 4) (s : State) : Host.Outcome State Fault Refusal :=
  finish s (s.hostAdapt k)

/-- HOST_FREEZE: the supplied program completes the command (R196). -/
def execHostFreeze (k : Fin 4) (s : State) : Host.Outcome State Fault Refusal :=
  finish s (s.hostFreeze k)

/-- HOST_RESUME: the supplied program completes the command (R196). -/
def execHostResume (k : Fin 4) (s : State) : Host.Outcome State Fault Refusal :=
  finish s (s.hostResume k)

/-- HOST_SET_MU: the supplied program completes the command (R196). -/
def execHostSetMu (k : Fin 4) (s : State) : Host.Outcome State Fault Refusal :=
  finish s (s.hostSetMu k)

/-- HOST_STATUS: the supplied program completes the command (R196). -/
def execHostStatus (k : Fin 4) (err : Word) (s : State) : Host.Outcome State Fault Refusal :=
  finish s (s.hostStatus k err)

/-- SET_PRESET: the supplied program completes the command (R196). -/
def execSetPreset (k : Fin 4) (s : State) : Host.Outcome State Fault Refusal :=
  finish s (s.hostPreset k)

/-- HOST_STOP: the supplied program completes the command (R196). -/
def execHostStop (k : Fin 4) (s : State) : Host.Outcome State Fault Refusal :=
  finish s (s.hostStop k)

end Sys2Proof.Machine
end

