-- ==== Sys2Proof/Machine/Foghorn.lean ====
section
/-! DEFINITION. The meanings of the Foghorn commands (spec/10). -/

namespace Sys2Proof.Machine

/-- TX_QCTL_GO (R261). -/
def execTxQctlGo (q : Requester) (buf : Fin 4) (len : BitVec 10) (s : State) : Host.Outcome State Fault Refusal :=
  finish s (s.accessBy q Blk.fog FOG.TX_QCTL true fun s => s.fogQueue (FOG.TX_QCTL_GO.put (FOG.TX_QCTL_BUF.put (FOG.TX_QCTL_LEN.put 0 len.toNat) buf) 1))

/-- PACKET_TX_START (R261). -/
def execPacketTxStart (s : State) : Host.Outcome State Fault Refusal := finish s (s.fogTxStart)

/-- TX_DONE (R261). -/
def execTxDone (ago : Nat) (s : State) : Host.Outcome State Fault Refusal := finish s (s.fogTxDone ago)

/-- FOG_RX_ENABLE (R262). -/
def execFogRxEnable (q : Requester) (v : Word) (s : State) : Host.Outcome State Fault Refusal :=
  finish s (s.accessBy q Blk.fog FOG.FOG_CTL true fun s => s.fogCtl v)

/-- PREAMBLE_DETECTION (R262). -/
def execPreambleDetection (metric : Nat) (power : BitVec 16) (s : State) : Host.Outcome State Fault Refusal :=
  finish s (s.fogPreamble metric power)

/-- PREAMBLE_END (R262). -/
def execPreambleEnd (s : State) : Host.Outcome State Fault Refusal := finish s (s.fogPreEnd)

/-- FRAME_MARKER (R262). -/
def execFrameMarker (found : Bool) (s : State) : Host.Outcome State Fault Refusal := finish s (s.fogMarker found)

/-- HEADER_DECODED (R262). -/
def execHeaderDecoded (info : BitVec 32) (crc : BitVec 16) (ago : Nat) (s : State) : Host.Outcome State Fault Refusal :=
  finish s (s.fogHeader info crc ago)

/-- PAYLOAD_END (R265). -/
def execPayloadEnd (data : List Byte) (crc : BitVec 32) (snr power drift : BitVec 16) (s : State) : Host.Outcome State Fault Refusal :=
  finish s (s.fogPayload data crc snr power drift)

/-- TRACK_LOST (R263). -/
def execTrackLost (s : State) : Host.Outcome State Fault Refusal := finish s (s.fogTrackLost)

/-- RX_POP (R265). -/
def execRxPop (q : Requester) (s : State) : Host.Outcome State Fault Refusal :=
  finish s (s.accessBy q Blk.fog FOG.RX_POP true fun s => s.fogPop)

/-- DUTY_LISTEN (R268). -/
def execDutyListen (listen : Bool) (s : State) : Host.Outcome State Fault Refusal := finish s (s.fogDuty listen)

end Sys2Proof.Machine
end

