-- ==== Sys2Proof/Machine/HostLanes.lean ====
section
/-! DEFINITION. The meanings of the host lanes' commands (spec/07). -/

namespace Sys2Proof.Machine

/-- HL_CTL_WRITE (R175, R176, R188). -/
def execHlCtlWrite (q : Requester) (m : Fin 64) (v : Word) (s : State) : Host.Outcome State Fault Refusal :=
  finish s (s.accessBy q (Blk.hlane m) HLANE.HL_CTL true fun s => s.hlCtl m v)

/-- HL_CAL_DONE (R177). -/
def execHlCalDone (m : Fin 64) (s : State) : Host.Outcome State Fault Refusal := finish s (s.hostCalDone m)

/-- BLOCK_LOCK (R184, R188). -/
def execBlockLock (m : Fin 64) (s : State) : Host.Outcome State Fault Refusal := finish s (s.blockLock m)

/-- CAPABILITY_PAGE_RX (R185 to R188). -/
def execCapabilityPageRx (m : Fin 64) (page : BitVec 64) (s : State) : Host.Outcome State Fault Refusal :=
  finish s (s.pageRx m page)

/-- CAPABILITY_PAGE_TX (R185, R188). -/
def execCapabilityPageTx (m : Fin 64) (s : State) : Host.Outcome State Fault Refusal := finish s (s.pageTx m)

/-- SWITCH_ELAPSED (R188). -/
def execSwitchElapsed (m : Fin 64) (s : State) : Host.Outcome State Fault Refusal := finish s (s.switchElapsed m)

/-- TRAINING_FRAME_RX (R190). -/
def execTrainingFrameRx (m : Fin 64) (tap : Fin 5) (op : Fin 3) (preset : Fin 4) (ready : Bool) (s : State) :
    Host.Outcome State Fault Refusal :=
  finish s (s.trainFrame m tap op preset ready)

/-- TRAIN_LIMIT (R188). -/
def execTrainLimit (m : Fin 64) (s : State) : Host.Outcome State Fault Refusal := finish s (s.trainLimit m)

/-- NEG_TIMER_LIMIT (R188). -/
def execNegTimerLimit (m : Fin 64) (s : State) : Host.Outcome State Fault Refusal := finish s (s.negTimerLimit m)

/-- LINK_DOWN_TIMEOUT (R188). -/
def execLinkDownTimeout (m : Fin 64) (s : State) : Host.Outcome State Fault Refusal := finish s (s.linkDownTimeout m)

/-- RESTART (R188). -/
def execRestart (q : Requester) (m : Fin 64) (s : State) : Host.Outcome State Fault Refusal :=
  finish s (s.accessBy q (Blk.hlane m) HLANE.NEG_CTL true fun s =>
    s.negCtl m (s.oneField (Blk.hlane m) HLANE.NEG_CTL_RESTART 1))

/-- RX_IDLE_SET (R191). -/
def execRxIdleSet (m : Fin 64) (s : State) : Host.Outcome State Fault Refusal := finish s (s.rxIdleSet m)

/-- RX_IDLE_CLEAR (R191). -/
def execRxIdleClear (m : Fin 64) (s : State) : Host.Outcome State Fault Refusal := finish s (s.rxIdleClear m)

/-- FAST_EXIT_MARKER (R192, R193). -/
def execFastExitMarker (m : Fin 64) (s : State) : Host.Outcome State Fault Refusal := finish s (s.fastExit m)

/-- HCOEF_DATA_WRITE (R75, R178). -/
def execHcoefDataWrite (q : Requester) (m : Fin 64) (v : Word) (s : State) : Host.Outcome State Fault Refusal :=
  finish s (s.accessBy q (Blk.hlane m) HLANE.HCOEF_DATA true fun s => s.hcoefWrite m v)

/-- BLOCK_LOCK_LOST (R184). -/
def execBlockLockLost (m : Fin 64) (s : State) : Host.Outcome State Fault Refusal := finish s (s.blockLockLost m)

end Sys2Proof.Machine
end

