-- ==== Sys2Proof/Machine/Housekeeping.lean ====
section
/-! DEFINITION. The meanings of the housekeeping commands (spec/12), and of the clear pin (R117, R317). -/

namespace Sys2Proof.Machine

/-- REF_CTL_WRITE (R301). -/
def execRefCtlWrite (q : Requester) (v : Word) (s : State) : Host.Outcome State Fault Refusal :=
  finish s (s.accessBy q Blk.hk HK.REF_CTL true fun s => s.hkWrite HK.REF_CTL v)

/-- REF_SETTLED (R301). -/
def execRefSettled (s : State) : Host.Outcome State Fault Refusal := finish s (s.hkRefSettled)

/-- SEQ_START (R303). -/
def execSeqStart (q : Requester) (c : Fin 4) (s : State) : Host.Outcome State Fault Refusal :=
  finish s (s.accessBy q Blk.hk (HK.HKC_CTL c) true fun s => s.hkCtl c (s.oneField Blk.hk (HK.HKC_CTL_START c) 1))

/-- SEQ_STOP (R303). -/
def execSeqStop (q : Requester) (c : Fin 4) (s : State) : Host.Outcome State Fault Refusal :=
  finish s (s.accessBy q Blk.hk (HK.HKC_CTL c) true fun s => s.hkCtl c (s.oneField Blk.hk (HK.HKC_CTL_STOP c) 1))

/-- HK_RESULT (R312). -/
def execHkResult (c : Fin 4) (x : HkSample) (s : State) : Host.Outcome State Fault Refusal := finish s (s.hkResult c x)

/-- HK_CAL_START (R305). -/
def execHkCalStart (q : Requester) (c : Fin 4) (s : State) : Host.Outcome State Fault Refusal :=
  finish s (s.accessBy q Blk.hk (HK.HKC_CAL_CTL c) true fun s => s.hkCalCtl c (s.oneField Blk.hk (HK.HKC_CAL_CTL_START c) 1))

/-- CAL_DONE (R305). -/
def execCalDone (c : Fin 4) (cal : List HkCal) (s : State) : Host.Outcome State Fault Refusal :=
  finish s (s.hkCalDone c cal)

/-- HK_RX_WRITE (R253). -/
def execHkRxWrite (q : Requester) (v : Word) (s : State) : Host.Outcome State Fault Refusal :=
  finish s (s.accessBy q Blk.fog FOG.HK_RX true fun s => s.fogHkRx v)

/-- FCOEF_DATA_WRITE (R308). -/
def execFcoefDataWrite (q : Requester) (v : BitVec 16) (s : State) : Host.Outcome State Fault Refusal :=
  finish s (s.accessBy q Blk.filt FILT.FCOEF_DATA true fun s => s.filtWrite FILT.FCOEF_DATA (v.setWidth 32))

/-- HK_POP (R312). -/
def execHkPop (q : Requester) (c : Fin 4) (s : State) : Host.Outcome State Fault Refusal :=
  finish s (s.accessBy q Blk.hk (HK.HKC_POP c) true fun s => s.hkWrite (HK.HKC_POP c) 1)

/-- CH_CODE_WRITE (R315). -/
def execChCodeWrite (q : Requester) (n : Fin 32) (v : BitVec 16) (s : State) : Host.Outcome State Fault Refusal :=
  finish s (s.accessBy q Blk.hdac (HDAC.CH_CODE n) true fun s => s.hdacWrite (HDAC.CH_CODE n) (v.setWidth 32))

/-- STROBE (R315). -/
def execStrobe (q : Requester) (groups : BitVec 16) (s : State) : Host.Outcome State Fault Refusal :=
  finish s (s.accessBy q Blk.hdac HDAC.STROBE true fun s => s.hdacWrite HDAC.STROBE (groups.setWidth 32))

/-- STREAM_RESUME (R315). -/
def execStreamResume (q : Requester) (n : Fin 32) (s : State) : Host.Outcome State Fault Refusal :=
  finish s (s.accessBy q Blk.hdac (HDAC.CH_CTL n) true fun s => s.hdacCtl n (s.oneField Blk.hdac (HDAC.CH_CTL_RESUME n) 1))

/-- MODE_CHANGE (R316). -/
def execModeChange (q : Requester) (n : Fin 32) (mode : Fin 4) (s : State) : Host.Outcome State Fault Refusal :=
  finish s (s.accessBy q Blk.hdac (HDAC.CH_CTL n) true fun s => s.hdacCtl n (s.oneField Blk.hdac (HDAC.CH_CTL_MODE n) mode))

/-- CHANGE_DONE (R316). -/
def execChangeDone (n : Fin 32) (s : State) : Host.Outcome State Fault Refusal := finish s (s.hdacChangeDone n)

/-- SHORT_CIRCUIT (R318). -/
def execShortCircuit (n : Fin 32) (s : State) : Host.Outcome State Fault Refusal := finish s (s.hdacShort n true)

/-- SHORT_CIRCUIT_END (R318). -/
def execShortCircuitEnd (n : Fin 32) (s : State) : Host.Outcome State Fault Refusal := finish s (s.hdacShort n false)

/-- COMPLIANCE (R318). -/
def execCompliance (n : Fin 32) (s : State) : Host.Outcome State Fault Refusal := finish s (s.hdacCompliance n true)

/-- COMPLIANCE_END (R318). -/
def execComplianceEnd (n : Fin 32) (s : State) : Host.Outcome State Fault Refusal := finish s (s.hdacCompliance n false)

/-- DAC_CLR_FALL (R117). -/
def execDacClrFall (s : State) : Host.Outcome State Fault Refusal := finish s (s.clrFall)

/-- DAC_CLR_RISE (R117). -/
def execDacClrRise (s : State) : Host.Outcome State Fault Refusal := finish s (s.clrRise)

end Sys2Proof.Machine
end

