-- ==== Sys2Proof/Machine/LineRx.lean ====
section
/-! DEFINITION. The meanings of the line receiver's commands (spec/03). -/

namespace Sys2Proof.Machine

/-- RX_CTL_WRITE (R62, R64, R92). -/
def execRxCtlWrite (q : Requester) (n : Fin 17) (v : Word) (s : State) : Host.Outcome State Fault Refusal :=
  finish s (s.accessBy q (Blk.llane n) LLANE.RX_CTL true fun s => s.rxCtl n v)

/-- FG_CAL_DONE (R64). -/
def execFgCalDone (n : Fin 17) (cal : List SubCal) (spur : BitVec 8) (resErr : BitVec 16) (s : State) :
    Host.Outcome State Fault Refusal :=
  finish s (s.fgCalDone n cal spur.toNat resErr.toNat)

/-- BGCAL_STEP_END (R65 to R69). -/
def execBgcalStepEnd (n : Fin 17) (trim : SubCal) (spur : BitVec 8) (resErr : BitVec 16) (s : State) :
    Host.Outcome State Fault Refusal :=
  finish s (s.bgEnd n trim spur.toNat resErr.toNat)

/-- COEF_DATA_WRITE (R75). -/
def execCoefDataWrite (q : Requester) (n : Fin 17) (v : Word) (s : State) : Host.Outcome State Fault Refusal :=
  finish s (s.accessBy q (Blk.llane n) LLANE.COEF_DATA true fun s => s.coefWrite n v)

/-- COEF_DATA_READ (R75): the word is returned, then INDEX advances. -/
def execCoefDataRead (q : Requester) (n : Fin 17) (s : State) : Host.Outcome State Fault Refusal :=
  finish s (s.accessBy q (Blk.llane n) LLANE.COEF_DATA false fun s =>
    (s.send (.regData q (blkBase (Blk.llane n) + LLANE.COEF_DATA) (s.coefPeek n))).coefAdvance n)

/-- FFE_RESIDUE_MISMATCH (R83, R85). -/
def execFfeResidueMismatch (n : Fin 17) (group : Fin 16) (s : State) : Host.Outcome State Fault Refusal :=
  finish s (if s.ffeChecks n then s.ffeEvent n group else s)

/-- MLSE_RESIDUE_MISMATCH (R84, R85): a group that lies in the cycle at the lane's rate. -/
def execMlseResidueMismatch (n : Fin 17) (group : Fin 16) (s : State) : Host.Outcome State Fault Refusal :=
  finish s (if s.mlseChecks n ∧ 16 * group.val < s.cycleSymbols n then s.mlseEvent n group else s)

/-- INJ_FFE (R87). -/
def execInjFfe (q : Requester) (n : Fin 17) (s : State) : Host.Outcome State Fault Refusal :=
  finish s (s.accessBy q (Blk.llane n) LLANE.RES_CTL true fun s =>
    s.resCtl n (s.oneField (Blk.llane n) LLANE.RES_CTL_INJ_FFE 1))

/-- INJ_MLSE (R87). -/
def execInjMlse (q : Requester) (n : Fin 17) (s : State) : Host.Outcome State Fault Refusal :=
  finish s (s.accessBy q (Blk.llane n) LLANE.RES_CTL true fun s =>
    s.resCtl n (s.oneField (Blk.llane n) LLANE.RES_CTL_INJ_MLSE 1))

/-- COUNTER_CLR (R142). -/
def execCounterClr (q : Requester) (g : CounterGroup) (s : State) : Host.Outcome State Fault Refusal :=
  finish s (s.accessBy q (State.counterRegs g).1 (State.counterCtl g).off true fun s =>
    s.counterCtlWrite g ((State.counterCtl g).put 0 1))

/-- COUNTER_SNAP (R142, R216): the groups without SNAP have no such bit, and nothing is written. -/
def execCounterSnap (q : Requester) (g : CounterGroup) (s : State) : Host.Outcome State Fault Refusal :=
  finish s (s.accessBy q (State.counterRegs g).1 (State.counterCtl g).off true fun s =>
    match State.counterSnapLive g with
    | some (snap, _) => s.counterCtlWrite g (snap.put 0 1)
    | none => s)

/-- COUNTER_LIVE (R142, R216). -/
def execCounterLive (q : Requester) (g : CounterGroup) (s : State) : Host.Outcome State Fault Refusal :=
  finish s (s.accessBy q (State.counterRegs g).1 (State.counterCtl g).off true fun s =>
    match State.counterSnapLive g with
    | some (_, live) => s.counterCtlWrite g (live.put 0 1)
    | none => s)

/-- EYE_START (R88 to R90): EYE_CTL is written with START = 1. -/
def execEyeStart (q : Requester) (n : Fin 17) (v : Word) (s : State) : Host.Outcome State Fault Refusal :=
  finish s (s.accessBy q (Blk.llane n) LLANE.EYE_CTL true fun s => s.eyeCtl n (LLANE.EYE_CTL_START.put v 1))

/-- EYE_DONE (R88, R90). -/
def execEyeDone (n : Fin 17) (hits : Word) (results : List EyeResult) (s : State) : Host.Outcome State Fault Refusal :=
  finish s (s.eyeDone n hits results)

end Sys2Proof.Machine
end

