-- ==== Sys2Proof/Machine/LineTx.lean ====
section
/-! DEFINITION. The meanings of the line transmitter's commands (spec/04). -/

namespace Sys2Proof.Machine

/-- TX_CTL_WRITE (R62, R106, R117, R118). -/
def execTxCtlWrite (q : Requester) (n : Fin 17) (v : Word) (s : State) : Host.Outcome State Fault Refusal :=
  finish s (s.accessBy q (Blk.llane n) LLANE.TX_CTL true fun s => s.txCtl n v)

/-- DAC_CAL_DONE (R106, R109). -/
def execDacCalDone (n : Fin 17) (cal : List SegCal) (segRes : BitVec 12) (segMax : BitVec 8) (s : State) :
    Host.Outcome State Fault Refusal :=
  finish s (s.dacCalDone n cal segRes.toNat segMax.toNat)

/-- DAC_BGCAL_STEP_END (R107 to R109). -/
def execDacBgcalStepEnd (n : Fin 17) (trim : SegCal) (segRes : BitVec 12) (segMax : BitVec 8) (s : State) :
    Host.Outcome State Fault Refusal :=
  finish s (s.dacBgEnd n trim segRes.toNat segMax.toNat)

/-- TX_COEF_DATA_WRITE (R98). -/
def execTxCoefDataWrite (q : Requester) (n : Fin 17) (v : Word) (s : State) : Host.Outcome State Fault Refusal :=
  finish s (s.accessBy q (Blk.llane n) LLANE.TX_COEF_DATA true fun s => s.txCoefWrite n v)

/-- TX_COEF_DATA_READ (R98). -/
def execTxCoefDataRead (q : Requester) (n : Fin 17) (s : State) : Host.Outcome State Fault Refusal :=
  finish s (s.accessBy q (Blk.llane n) LLANE.TX_COEF_DATA false fun s =>
    (s.send (.regData q (blkBase (Blk.llane n) + LLANE.TX_COEF_DATA) (s.txCoefPeek n))).txCoefAdvance n)

/-- TX_PD_CTL_WRITE (R101, R102): a write of TX_PD_MAP or of TX_PD_CTL. -/
def execTxPdCtlWrite (q : Requester) (n : Fin 17) (map : Bool) (v : Word) (s : State) : Host.Outcome State Fault Refusal :=
  let off := if map then LLANE.TX_PD_MAP else LLANE.TX_PD_CTL
  finish s (s.accessBy q (Blk.llane n) off true fun s => s.txPdWrite n off v)

/-- CLR_SEEN_CLEAR (R117). -/
def execClrSeenClear (q : Requester) (n : Fin 17) (s : State) : Host.Outcome State Fault Refusal :=
  finish s (s.accessBy q (Blk.llane n) LLANE.TX_STAT true fun s => s.txStat n (LLANE.TX_STAT_CLR_SEEN.put 0 1))

end Sys2Proof.Machine
end

