-- ==== Sys2Proof/Machine/Memory.lean ====
section
/-! DEFINITION. The meanings of the memory commands (spec/14). -/

namespace Sys2Proof.Machine

/-- INVAL_CTL (R337). -/
def execInvalCtl (q : Requester) (v : Word) (s : State) : Host.Outcome State Fault Refusal :=
  finish s (s.accessBy q Blk.mem MEM.INVAL_CTL true fun s => s.memWriteReg q MEM.INVAL_CTL v)

/-- INVAL_DONE (R337). -/
def execInvalDone (s : State) : Host.Outcome State Fault Refusal := finish s (s.memInvalDone)

/-- SEAL_CTL (R339). -/
def execSealCtl (q : Requester) (v : Word) (s : State) : Host.Outcome State Fault Refusal :=
  finish s (s.accessBy q Blk.mem MEM.SEAL_CTL true fun s => s.memWriteReg q MEM.SEAL_CTL v)

/-- SEAL_DONE (R339). -/
def execSealDone (s : State) : Host.Outcome State Fault Refusal := finish s (s.memSealDone)

/-- REP_APPLY (R340). -/
def execRepApply (q : Requester) (v : Word) (s : State) : Host.Outcome State Fault Refusal :=
  finish s (s.accessBy q Blk.mem MEM.REP_DATA true fun s => s.memWriteReg q MEM.REP_DATA (MEM.REP_DATA_APPLY.put v 1))

/-- DDR_INIT (R341). -/
def execDdrInit (q : Requester) (v : Word) (s : State) : Host.Outcome State Fault Refusal :=
  finish s (s.accessBy q Blk.ddr DDR.CFG true fun s => s.ddrWriteReg DDR.CFG (DDR.CFG_INIT.put v 1))

/-- DDR_TRAINED (R341). -/
def execDdrTrained (ok : Bool) (s : State) : Host.Outcome State Fault Refusal := finish s (s.ddrTrained ok)

/-- DDR_SEAL_CTL (R345). -/
def execDdrSealCtl (q : Requester) (v : Word) (s : State) : Host.Outcome State Fault Refusal :=
  finish s (s.accessBy q Blk.ddr DDR.SEAL_CTL true fun s => s.ddrWriteReg DDR.SEAL_CTL v)

/-- PV_CTL (R346). -/
def execPvCtl (q : Requester) (v : Word) (s : State) : Host.Outcome State Fault Refusal :=
  finish s (s.accessBy q Blk.ddr DDR.PV_CTL true fun s => s.ddrWriteReg DDR.PV_CTL v)

/-- PV_DONE (R346). -/
def execPvDone (s : State) : Host.Outcome State Fault Refusal := finish s (s.ddrPvDone)

/-- DDR_REFRESH (R347). -/
def execDdrRefresh (s : State) : Host.Outcome State Fault Refusal := finish s (s.ddrRefresh)

/-- PHY_RECENTRE (R347). -/
def execPhyRecentre (s : State) : Host.Outcome State Fault Refusal := finish s (s.ddrRecentre)

/-- SRAM_SCRUB (R349). -/
def execSramScrub (flips : List Flip) (s : State) : Host.Outcome State Fault Refusal := finish s (s.sramScrub flips)

/-- DDR_SCRUB (R349). -/
def execDdrScrub (flips : List Flip) (s : State) : Host.Outcome State Fault Refusal := finish s (s.ddrScrub flips)

/-- GOLDEN_RELOAD (R354). -/
def execGoldenReload (flash : Option (List Byte)) (s : State) : Host.Outcome State Fault Refusal :=
  finish s (s.goldReload flash)

end Sys2Proof.Machine
end

