-- ==== Sys2Proof/Machine/Ports.lean ====
section
/-! DEFINITION. The meanings of the ports' commands (spec/08). -/

namespace Sys2Proof.Machine

/-- MUX_LOCK (R203, R204). -/
def execMuxLock (n : Fin 17) (s : State) : Host.Outcome State Fault Refusal := finish s (s.muxLock n)

/-- MUX_LOCK_LOST (R203). -/
def execMuxLockLost (n : Fin 17) (s : State) : Host.Outcome State Fault Refusal := finish s (s.muxUnlock n)

/-- MARKER_LOCK (R206): HUNT to DESKEW with the skew measured; in FREEWHEEL after PS1, the first marker group at its
predicted codeword, back to ALIGNED. -/
def execMarkerLock (p : Fin 64) (hostBound : Bool) (skew : BitVec 16) (s : State) : Host.Outcome State Fault Refusal :=
  finish s ((s.freewheelEnd p hostBound).markerLock p hostBound skew.toNat)

/-- DESKEW_DONE (R206, R207). -/
def execDeskewDone (p : Fin 64) (hostBound : Bool) (s : State) : Host.Outcome State Fault Refusal :=
  finish s (s.deskewDone p hostBound)

/-- MARKER_LOSS (R206). -/
def execMarkerLoss (p : Fin 64) (hostBound : Bool) (s : State) : Host.Outcome State Fault Refusal :=
  finish s (s.markerLoss p hostBound)

/-- LANES_NOT_READY (R206): the direction is evaluated against its lanes, ENABLE and pairs. -/
def execLanesNotReady (p : Fin 64) (hostBound : Bool) (s : State) : Host.Outcome State Fault Refusal :=
  finish s (s.portEval p hostBound)

/-- FORCE_TX (R206). -/
def execForceTx (q : Requester) (p : Fin 64) (s : State) : Host.Outcome State Fault Refusal :=
  finish s (s.accessBy q (Blk.port p) PORT.ALIGN_CTL true fun s => s.alignCtl p (PORT.ALIGN_CTL_FORCE_TX.put 0 1))

/-- FORCE_RX (R206). -/
def execForceRx (q : Requester) (p : Fin 64) (s : State) : Host.Outcome State Fault Refusal :=
  finish s (s.accessBy q (Blk.port p) PORT.ALIGN_CTL true fun s => s.alignCtl p (PORT.ALIGN_CTL_FORCE_RX.put 0 1))

/-- SLIP (R208). -/
def execSlip (p : Fin 64) (s : State) : Host.Outcome State Fault Refusal := finish s (s.slip p)

/-- MON_WINDOW_END (R215). -/
def execMonWindowEnd (p : Fin 64) (hostBound : Bool) (s : State) : Host.Outcome State Fault Refusal :=
  finish s (s.monWindowEnd p hostBound)

end Sys2Proof.Machine
end

