-- ==== Sys2Proof/Machine/Power.lean ====
section
/-! DEFINITION. The meanings of the commands of the power controller and the supply control (spec/16). -/

namespace Sys2Proof.Machine

/-- POWER_REQUEST (R384). -/
def execPowerRequest (q : Requester) (target : Fin 8) (s : State) : Host.Outcome State Fault Refusal :=
  finish s (s.accessBy q Blk.pwr PWR.REQ true fun s => s.pwrWriteReg q PWR.REQ (PWR.REQ_GO.put (PWR.REQ_TARGET.put 0 target) 1) 0)

/-- PCIE_WAKE (R393). -/
def execPcieWake (s : State) : Host.Outcome State Fault Refusal :=
  finish s (s.accessBy .pcie Blk.pwr PWR.REQ true fun s => s.pwrWriteReg .pcie PWR.REQ (PWR.REQ_GO.put 0 1) 0)

/-- HANDSHAKE_ANSWER (R386). -/
def execHandshakeAnswer (b : Fin 179) (t : Nat) (s : State) : Host.Outcome State Fault Refusal :=
  finish s (s.hsReply b t)

/-- HANDSHAKE_DELAY_EXPIRY (R386). -/
def execHandshakeDelayExpiry (b : Fin 179) (s : State) : Host.Outcome State Fault Refusal := finish s (s.hsExpire b)

/-- HANDSHAKE_TIMEOUT (R386). -/
def execHandshakeTimeout (s : State) : Host.Outcome State Fault Refusal := finish s (s.hsTimeout)

/-- WAKE_PIN (R393). -/
def execWakePin (p : Fin 4) (level : Bool) (s : State) : Host.Outcome State Fault Refusal :=
  finish s (s.wakePin p level)

/-- WAKE (R389). -/
def execWake (s : State) : Host.Outcome State Fault Refusal := finish s (s.wakeAct)

/-- DOM_ON (R399). -/
def execDomOn (q : Requester) (d : Fin 32) (s : State) : Host.Outcome State Fault Refusal :=
  finish s (s.accessBy q Blk.pwr PWR.DOM_REQ true fun s => s.pwrWriteReg q PWR.DOM_REQ (PWR.DOM_REQ_ON.put (PWR.DOM_REQ_DOMAIN.put 0 d) 1) 0)

/-- DOM_OFF (R399). -/
def execDomOff (q : Requester) (d : Fin 32) (s : State) : Host.Outcome State Fault Refusal :=
  finish s (s.accessBy q Blk.pwr PWR.DOM_REQ true fun s => s.pwrWriteReg q PWR.DOM_REQ (PWR.DOM_REQ_OFF.put (PWR.DOM_REQ_DOMAIN.put 0 d) 1) 0)

/-- VOLTAGE_REQUEST (R397). -/
def execVoltageRequest (s : State) : Host.Outcome State Fault Refusal := finish s (s.avsUpdate)

/-- PMBUS_POLL (R397). -/
def execPmbusPoll (status : Option (BitVec 16)) (s : State) : Host.Outcome State Fault Refusal :=
  finish s (s.pmbPoll status)

/-- ATTEMPT_TIMEOUT (R397). -/
def execAttemptTimeout (s : State) : Host.Outcome State Fault Refusal := finish s (s.attemptFail)

/-- PMB_ALERT (R397). -/
def execPmbAlert (status : BitVec 16) (s : State) : Host.Outcome State Fault Refusal := finish s (s.pmbAlert status)

/-- PMB_ENABLE (R397). -/
def execPmbEnable (q : Requester) (vmode : Byte) (s : State) : Host.Outcome State Fault Refusal :=
  finish s (s.accessBy q Blk.pwr PWR.PMB_CFG true fun s => s.pwrWriteReg q PWR.PMB_CFG (s.oneField Blk.pwr PWR.PMB_CFG_EN 1) vmode)

/-- ENTRY_STEP_DONE (R388). -/
def execEntryStepDone (s : State) : Host.Outcome State Fault Refusal := finish s (s.entryNext)

/-- DOM_DONE (R399). -/
def execDomDone (ddrKept : Bool) (s : State) : Host.Outcome State Fault Refusal := finish s (s.domRequestDone ddrKept)

/-- SCHED_WAKE (R294). -/
def execSchedWake (s : State) : Host.Outcome State Fault Refusal := finish s (s.schedWake)

end Sys2Proof.Machine
end

