-- ==== Sys2Proof/Machine/Test.lean ====
section
/-! DEFINITION. The meanings of the commands of the self-test and the performance counters (spec/18). -/

namespace Sys2Proof.Machine

/-- BIST_START (R430). -/
def execBistStart (q : Requester) (refclk : Bool) (rails : BitVec 7) (s : State) : Host.Outcome State Fault Refusal :=
  finish s (s.accessBy q Blk.bist BIST.CTL true fun s => s.bistCtl (BIST.CTL_START.put 0 1) refclk rails)

/-- BIST_STOP (R431). -/
def execBistStop (q : Requester) (s : State) : Host.Outcome State Fault Refusal :=
  finish s (s.accessBy q Blk.bist BIST.CTL true fun s => s.bistCtl (BIST.CTL_STOP.put 0 1) true 0)

/-- BIST_PRECOND_LAPSE (R431). -/
def execBistPrecondLapse (refclk : Bool) (rails : BitVec 7) (s : State) : Host.Outcome State Fault Refusal :=
  finish s ((s.bistLapse refclk rails).bistResume)

/-- BIST_DONE (R427). -/
def execBistDone (l : List BistDom) (s : State) : Host.Outcome State Fault Refusal :=
  finish s ((s.bistDone l).bistResume)

/-- LANE_BIST_START (R432). -/
def execLaneBistStart (q : Requester) (lane : Fin 32) (s : State) : Host.Outcome State Fault Refusal :=
  finish s (s.accessBy q Blk.bist BIST.LANE_CTL true fun s => s.laneTest (BIST.LANE_CTL_START.put (BIST.LANE_CTL_LANE.put 0 lane) 1))

/-- LANE_DONE (R432). -/
def execLaneDone (rx tx slice : Bool) (subs : List (Fin 136)) (segs : List (Fin 132)) (s : State) : Host.Outcome State Fault Refusal :=
  finish s (s.laneTestDone rx tx slice (subs.map (·.val)) (segs.map (·.val)))

/-- CLR_ALL (R436). -/
def execClrAll (q : Requester) (s : State) : Host.Outcome State Fault Refusal :=
  finish s (s.accessBy q Blk.perf PERF.CTL true fun s => s.perfCtl (s.oneField Blk.perf PERF.CTL_CLR_ALL 1))

/-- GLOBAL_EN (R436). -/
def execGlobalEn (q : Requester) (on : Bool) (s : State) : Host.Outcome State Fault Refusal :=
  finish s (s.accessBy q Blk.perf PERF.CTL true fun s => s.perfCtl (s.oneField Blk.perf PERF.CTL_GLOBAL_EN on.toNat))

end Sys2Proof.Machine
end

