-- ==== Sys2Proof/Machine/Thermal.lean ====
section
/-! DEFINITION. The meanings of the thermal commands (spec/13). -/

namespace Sys2Proof.Machine

/-- MEAS (R323). -/
def execMeas (q : Requester) (s : State) : Host.Outcome State Fault Refusal :=
  finish s (s.accessBy q Blk.therm THERM.MEAS_CTL true fun s => s.measCtl (s.oneField Blk.therm THERM.MEAS_CTL_MEAS 1))

/-- MEAS_TIMER (R323). -/
def execMeasTimer (s : State) : Host.Outcome State Fault Refusal := finish s (s.measTimer)

/-- MEASUREMENT_DONE (R325). -/
def execMeasurementDone (l : List (Option Int)) (s : State) : Host.Outcome State Fault Refusal :=
  finish s (s.measDone l)

/-- FORCE_BAND (R327). -/
def execForceBand (q : Requester) (v : Word) (s : State) : Host.Outcome State Fault Refusal :=
  finish s (s.accessBy q Blk.therm THERM.BAND_CTL true fun s => s.bandCtl v)

end Sys2Proof.Machine
end

