-- ==== Sys2Proof/Machine/Time.lean ====
section
/-! DEFINITION. The meanings of the time and scheduler commands (spec/11). -/

namespace Sys2Proof.Machine

/-- FREQ_WRITE (R271). -/
def execFreqWrite (q : Requester) (n : Fin 4) (w : BitVec 64) (s : State) : Host.Outcome State Fault Refusal :=
  finish s (s.accessBy q Blk.time (TIME.TB_FREQ_HI n) true fun s => s.tbRate n w.toNat)

/-- STEP_SET (R272). -/
def execStepSet (q : Requester) (n : Fin 4) (s : State) : Host.Outcome State Fault Refusal :=
  finish s (s.accessBy q Blk.time (TIME.TB_CTL n) true fun s =>
    s.tbCtl n ((TIME.TB_CTL_STEP_MODE n).put (s.oneField Blk.time (TIME.TB_CTL_STEP_GO n) 1) 0))

/-- STEP_ADD (R272). -/
def execStepAdd (q : Requester) (n : Fin 4) (s : State) : Host.Outcome State Fault Refusal :=
  finish s (s.accessBy q Blk.time (TIME.TB_CTL n) true fun s =>
    s.tbCtl n ((TIME.TB_CTL_STEP_MODE n).put (s.oneField Blk.time (TIME.TB_CTL_STEP_GO n) 1) 1))

/-- STEP_SET_TPI (R272). -/
def execStepSetTpi (q : Requester) (n : Fin 4) (j : Fin 2) (s : State) : Host.Outcome State Fault Refusal :=
  finish s (s.accessBy q Blk.time (TIME.TB_CTL n) true fun s =>
    s.tbCtl n ((TIME.TB_CTL_STEP_MODE n).put (s.oneField Blk.time (TIME.TB_CTL_STEP_GO n) 1) (j + 2)))

/-- STEP_APPLIED (R272). -/
def execStepApplied (n : Fin 4) (s : State) : Host.Outcome State Fault Refusal := finish s (s.stepTick n)

/-- STEP_CANCEL (R272). -/
def execStepCancel (q : Requester) (n : Fin 4) (s : State) : Host.Outcome State Fault Refusal :=
  finish s (s.accessBy q Blk.time (TIME.TB_CTL n) true fun s => s.tbCtl n (s.oneField Blk.time (TIME.TB_CTL_STEP_CANCEL n) 1))

/-- CLR_COARSE (R273). -/
def execClrCoarse (q : Requester) (n : Fin 4) (s : State) : Host.Outcome State Fault Refusal :=
  finish s (s.accessBy q Blk.time (TIME.TB_CTL n) true fun s => s.tbCtl n (s.oneField Blk.time (TIME.TB_CTL_CLR_COARSE n) 1))

/-- TB_ENABLE (R278). -/
def execTbEnable (q : Requester) (n : Fin 4) (v : Word) (s : State) : Host.Outcome State Fault Refusal :=
  finish s (s.accessBy q Blk.time (TIME.TB_CTL n) true fun s => s.tbCtl n v)

/-- SNAP (R274). -/
def execSnap (q : Requester) (s : State) : Host.Outcome State Fault Refusal :=
  finish s (s.accessBy q Blk.time TIME.SNAP_CTL true fun s => s.timeWrite TIME.SNAP_CTL 1)

/-- EVT_TB_WRITE (R275). -/
def execEvtTbWrite (q : Requester) (n : Fin 4) (s : State) : Host.Outcome State Fault Refusal :=
  finish s (s.accessBy q Blk.time TIME.EVT_TB true fun s => s.timeWrite TIME.EVT_TB (BitVec.ofNat 32 n))

/-- FRAME_STAMP (R279). -/
def execFrameStamp (p : Fin 64) (i : Fin 4) (hostBound marker : Bool) (bytes : BitVec 64) (key : BitVec 16) (s : State) : Host.Outcome State Fault Refusal :=
  finish s (s.frameStamp p i hostBound marker bytes key)

/-- PT_POP (R282). -/
def execPtPop (q : Requester) (v : Word) (s : State) : Host.Outcome State Fault Refusal :=
  finish s (s.accessBy q Blk.tsu TSU.PT_POP true fun s => s.tsuWrite TSU.PT_POP v)

/-- LT_POP (R283). -/
def execLtPop (q : Requester) (s : State) : Host.Outcome State Fault Refusal :=
  finish s (s.accessBy q Blk.tsu TSU.LT_POP true fun s => s.tsuWrite TSU.LT_POP 1)

/-- TPO_EDGE (R284). -/
def execTpoEdge (k : Fin 4) (s : State) : Host.Outcome State Fault Refusal := finish s (s.tpoEdge k)

/-- TPI_EDGE (R286). -/
def execTpiEdge (j : Fin 2) (falling : Bool) (s : State) : Host.Outcome State Fault Refusal :=
  finish s (s.tpiEdge j falling)

/-- TPI_POP (R286). -/
def execTpiPop (q : Requester) (j : Fin 2) (s : State) : Host.Outcome State Fault Refusal :=
  finish s (s.accessBy q Blk.time (TIME.TPI_POP j) true fun s => s.timeWrite (TIME.TPI_POP j) 1)

/-- SE_WRITE (R289). -/
def execSeWrite (q : Requester) (w : Fin 7) (v : Word) (s : State) : Host.Outcome State Fault Refusal :=
  finish s (s.accessBy q Blk.sched (SCHED.SE_W0 + 4 * w) true fun s => s.schedWrite (SCHED.SE_W0 + 4 * w) v)

/-- HIST_POP (R292). -/
def execHistPop (q : Requester) (s : State) : Host.Outcome State Fault Refusal :=
  finish s (s.accessBy q Blk.sched SCHED.HIST_POP true fun s => s.schedWrite SCHED.HIST_POP 1)

end Sys2Proof.Machine
end

