-- ==== Sys2Proof/Machine/Trust.lean ====
section
/-! DEFINITION. The meanings of the commands of the lifecycle, the Keeper, the debug unlock and the configuration versions (spec/17), and of the two scheduler and twin commands that read them (spec/09, spec/11). -/

namespace Sys2Proof.Machine

/-- PROPOSE (R232). -/
def execPropose (a : MsgAuth) (tag : BitVec 16) (action : Fin 4) (port : Fin 64) (n : BitVec 64) (ver : Word) (s : State) : Host.Outcome State Fault Refusal :=
  finish s (s.twinRx a fun s => s.rxPropose tag.toNat action port n.toNat ver s.stagedVersion)

/-- ENTRY_FIRE (R287). -/
def execEntryFire (ks : List (Fin 256)) (s : State) : Host.Outcome State Fault Refusal :=
  finish s (s.seCycle (ks.map (·.val)))

/-- PROVISION (R403). -/
def execProvision (q : Requester) (s : State) : Host.Outcome State Fault Refusal :=
  finish s (s.accessBy q Blk.sec SEC.LC_CTL true fun s => s.lcCtl q 0x5C000001)

/-- FIELD (R403). -/
def execField (q : Requester) (s : State) : Host.Outcome State Fault Refusal :=
  finish s (s.accessBy q Blk.sec SEC.LC_CTL true fun s => s.lcCtl q 0x5C000002)

/-- LC_CHANGED (R403). -/
def execLcChanged (ok : Bool) (s : State) : Host.Outcome State Fault Refusal := finish s (s.lcChanged ok)

/-- ARB_CTL (R409). -/
def execArbCtl (q : Requester) (v : Word) (s : State) : Host.Outcome State Fault Refusal :=
  finish s (s.accessBy q Blk.kpr KPR.ARB_CTL true fun s => s.arbCtl q v)

/-- KEEPER_LOAD (R411). -/
def execKeeperLoad (q : Requester) (x : FwImage) (s : State) : Host.Outcome State Fault Refusal :=
  finish s (s.accessBy q Blk.kpr KPR.KCTL true fun s => s.kctl q (s.oneField Blk.kpr KPR.KCTL_LOAD 1) x)

/-- KEEPER_RESTART (R392). -/
def execKeeperRestart (q : Requester) (s : State) : Host.Outcome State Fault Refusal :=
  finish s (s.accessBy q Blk.kpr KPR.KCTL true fun s => s.kctl q (s.oneField Blk.kpr KPR.KCTL_RESTART 1) ⟨0, 0, 0⟩)

/-- KEEPER_HALT (R414). -/
def execKeeperHalt (q : Requester) (on : Bool) (s : State) : Host.Outcome State Fault Refusal :=
  finish s (s.accessBy q Blk.kpr KPR.KCTL true fun s => s.kctl q (s.oneField Blk.kpr KPR.KCTL_HALT on.toNat) ⟨0, 0, 0⟩)

/-- KEEPER_STEP (R414). -/
def execKeeperStep (q : Requester) (s : State) : Host.Outcome State Fault Refusal :=
  finish s (s.accessBy q Blk.kpr KPR.KCTL true fun s => s.kctl q (s.oneField Blk.kpr KPR.KCTL_STEP 1) ⟨0, 0, 0⟩)

/-- LOCKSTEP (R413). -/
def execLockstep (s : State) : Host.Outcome State Fault Refusal := finish s (s.lockstep)

/-- CHAL_NEW (R416). -/
def execChalNew (q : Requester) (s : State) : Host.Outcome State Fault Refusal :=
  finish s (s.accessBy q Blk.dbg DBG.CTL true fun s => s.dbgCtl (s.oneField Blk.dbg DBG.CTL_CHAL_NEW 1))

/-- REQUEST (R415). -/
def execRequest (q : Requester) (level : Fin 4) (s : State) : Host.Outcome State Fault Refusal :=
  finish s (s.accessBy q Blk.dbg DBG.CTL true fun s => s.dbgCtl (DBG.CTL_LEVEL_REQ.put (DBG.CTL_REQUEST.put 0 1) level))

/-- SUBMIT (R416). -/
def execSubmit (q : Requester) (s : State) : Host.Outcome State Fault Refusal :=
  finish s (s.accessBy q Blk.dbg DBG.CTL true fun s => s.dbgCtl (s.oneField Blk.dbg DBG.CTL_SUBMIT 1))

/-- TOKEN_CHECK_DONE (R416). -/
def execTokenCheckDone (sigOk : Bool) (s : State) : Host.Outcome State Fault Refusal := finish s (s.tokenDone sigOk)

/-- LOCK (R417). -/
def execLock (q : Requester) (s : State) : Host.Outcome State Fault Refusal :=
  finish s (s.accessBy q Blk.dbg DBG.CTL true fun s => s.dbgCtl (s.oneField Blk.dbg DBG.CTL_LOCK 1))

/-- UNLOCK_EXPIRY (R417). -/
def execUnlockExpiry (s : State) : Host.Outcome State Fault Refusal := finish s (s.unlockExpiry)

/-- APPLY (R419). -/
def execApply (q : Requester) (slot : Fin 16) (se : Fin 256) (s : State) : Host.Outcome State Fault Refusal :=
  finish s (s.accessBy q Blk.cfgv CFGV.APPLY true fun s => s.cfgvWrite CFGV.APPLY (CFGV.APPLY_GO.put (CFGV.APPLY_SE.put (CFGV.APPLY_SLOT.put 0 slot) se) 1))

/-- VERIFYING_DONE (R419). -/
def execVerifyingDone (result : Fin 8) (x : CfgImage) (s : State) : Host.Outcome State Fault Refusal :=
  finish s (s.verifyingDone result x)

/-- STAGING_DONE (R419). -/
def execStagingDone (s : State) : Host.Outcome State Fault Refusal := finish s (s.stagingDone)

/-- VERSION_CONFIRM (R420). -/
def execVersionConfirm (q : Requester) (v : Word) (s : State) : Host.Outcome State Fault Refusal :=
  finish s (s.accessBy q Blk.cfgv CFGV.CONFIRM true fun s => s.cfgvWrite CFGV.CONFIRM v)

/-- CONFIRM_TIMEOUT (R420). -/
def execConfirmTimeout (s : State) : Host.Outcome State Fault Refusal := finish s (s.confirmTimeout)

/-- ROLLBACK (R421). -/
def execRollback (q : Requester) (s : State) : Host.Outcome State Fault Refusal :=
  finish s (s.accessBy q Blk.cfgv CFGV.ROLLBACK true fun s => s.cfgvWrite CFGV.ROLLBACK (CFGV.ROLLBACK_GO.put 0 1))

/-- KEEPER_RESTART_DONE (R412). -/
def execKeeperRestartDone (us : Word) (fw : Option (List FwImage)) (s : State) : Host.Outcome State Fault Refusal :=
  finish s (s.keeperBack us fw)

end Sys2Proof.Machine
end

