-- ==== Sys2Proof/Machine/Twin.lean ====
section
/-! DEFINITION. The meanings of the TWIN commands (spec/09). -/

namespace Sys2Proof.Machine

/-- PAIR_HAIL (R223). -/
def execPairHail (q : Requester) (s : State) : Host.Outcome State Fault Refusal :=
  finish s (s.accessBy q Blk.twin TWIN.PAIR_CTL true fun s => s.pairCtl (s.oneField Blk.twin TWIN.PAIR_CTL_HAIL 1))

/-- PAIR_RELEASE (R223). -/
def execPairRelease (q : Requester) (s : State) : Host.Outcome State Fault Refusal :=
  finish s (s.accessBy q Blk.twin TWIN.PAIR_CTL true fun s => s.pairCtl (s.oneField Blk.twin TWIN.PAIR_CTL_RELEASE 1))

/-- HAIL_TIMER (R223). -/
def execHailTimer (s : State) : Host.Outcome State Fault Refusal := finish s (s.hailTimer)

/-- HAIL_LIMIT (R223). -/
def execHailLimit (s : State) : Host.Outcome State Fault Refusal := finish s (s.hailLimit)

/-- CONFIRM_WAIT_EXPIRY (R223). -/
def execConfirmWaitExpiry (s : State) : Host.Outcome State Fault Refusal := finish s (s.confirmWait)

/-- HEARTBEAT_TIMER (R223). -/
def execHeartbeatTimer (s : State) : Host.Outcome State Fault Refusal := finish s (s.heartbeatTimer)

/-- ADRIFT (R223). -/
def execAdrift (s : State) : Host.Outcome State Fault Refusal := finish s (s.twinAdrift)

/-- ADRIFT_LIMIT (R223). -/
def execAdriftLimit (s : State) : Host.Outcome State Fault Refusal := finish s (s.adriftLimit)

/-- HAIL (R223). -/
def execHail (id : BitVec 128) (ok : Bool) (s : State) : Host.Outcome State Fault Refusal :=
  finish s (s.rxHail id.toNat ok)

/-- ANSWER (R223). -/
def execAnswer (id : BitVec 128) (ok : Bool) (s : State) : Host.Outcome State Fault Refusal :=
  finish s (s.rxAnswer id.toNat ok)

/-- CONFIRM (R223). -/
def execConfirm (a : MsgAuth) (s : State) : Host.Outcome State Fault Refusal := finish s (s.rxConfirm a)

/-- HEARTBEAT (R226). -/
def execHeartbeat (a : MsgAuth) (act prev : Word) (spareSt : Fin 9) (rsv : BitVec 12) (s : State) : Host.Outcome State Fault Refusal :=
  finish s (s.twinRx a fun s => s.rxHeartbeat act prev spareSt rsv.toNat)

/-- POS (R229). -/
def execPos (a : MsgAuth) (l : List PosEntry) (s : State) : Host.Outcome State Fault Refusal :=
  finish s (s.twinRx a fun s => s.rxPos l)

/-- POS_ACK (R230). -/
def execPosAck (a : MsgAuth) (l : List PosAck) (s : State) : Host.Outcome State Fault Refusal :=
  finish s (s.twinRx a fun s => s.rxPosAck l)

/-- POS_RUN (R228). -/
def execPosRun (q : Requester) (s : State) : Host.Outcome State Fault Refusal :=
  finish s (s.accessBy q Blk.twin TWIN.POS_CTL true fun s => s.posCtl (s.oneField Blk.twin TWIN.POS_CTL_RUN 1))

/-- POS_AUTO_RERUN (R230). -/
def execPosAutoRerun (s : State) : Host.Outcome State Fault Refusal := finish s (s.posAuto)

/-- RANGE_RUN (R231). -/
def execRangeRun (q : Requester) (s : State) : Host.Outcome State Fault Refusal :=
  finish s (s.accessBy q Blk.twin TWIN.RANGE_CTL true fun s => s.rangeCtl (s.oneField Blk.twin TWIN.RANGE_CTL_RUN 1))

/-- RANGE (R231). -/
def execRange (a : MsgAuth) (s : State) : Host.Outcome State Fault Refusal := finish s (s.twinRx a State.rxRange)

/-- RANGE_ECHO (R231). -/
def execRangeEcho (a : MsgAuth) (t1 t2 t3 t4 : BitVec 64) (s : State) : Host.Outcome State Fault Refusal :=
  finish s (s.twinRx a fun s => s.rxRangeEcho t1 t2 t3 t4)

/-- COORD_START (R232). -/
def execCoordStart (q : Requester) (s : State) : Host.Outcome State Fault Refusal :=
  finish s (s.accessBy q Blk.twin TWIN.COORD_CTL true fun s => s.coordCtl (s.oneField Blk.twin TWIN.COORD_CTL_START 1))

/-- COORD_ABORT (R233). -/
def execCoordAbort (q : Requester) (s : State) : Host.Outcome State Fault Refusal :=
  finish s (s.accessBy q Blk.twin TWIN.COORD_CTL true fun s => s.coordCtl (s.oneField Blk.twin TWIN.COORD_CTL_ABORT 1))

/-- ACCEPT (R232). -/
def execAccept (a : MsgAuth) (tag : BitVec 16) (m : BitVec 64) (s : State) : Host.Outcome State Fault Refusal :=
  finish s (s.twinRx a fun s => s.rxAccept tag.toNat m.toNat)

/-- REJECT (R232). -/
def execReject (a : MsgAuth) (tag : BitVec 16) (reason : Fin 16) (s : State) : Host.Outcome State Fault Refusal :=
  finish s (s.twinRx a fun s => s.rxReject tag.toNat reason)

/-- GO (R233). -/
def execGo (a : MsgAuth) (tag : BitVec 16) (s : State) : Host.Outcome State Fault Refusal :=
  finish s (s.twinRx a fun s => s.rxGo tag.toNat)

/-- ABORT (R233). -/
def execAbort (a : MsgAuth) (tag : BitVec 16) (s : State) : Host.Outcome State Fault Refusal :=
  finish s (s.twinRx a fun s => s.rxAbort tag.toNat)

/-- COORD_CUTOFF (R233). -/
def execCoordCutoff (s : State) : Host.Outcome State Fault Refusal := finish s (s.coordCutoff)

/-- PREPARE (R235). -/
def execPrepare (q : Requester) (v : Word) (s : State) : Host.Outcome State Fault Refusal :=
  finish s (s.accessBy q Blk.twin TWIN.SPARE_CTL true fun s => s.spareCtl (TWIN.SPARE_CTL_OP.put v 1))

/-- SWITCH (R239). -/
def execSwitch (q : Requester) (v : Word) (s : State) : Host.Outcome State Fault Refusal :=
  finish s (s.accessBy q Blk.twin TWIN.SPARE_CTL true fun s => s.spareCtl (TWIN.SPARE_CTL_OP.put v 2))

/-- RETURN (R240). -/
def execReturnOp (q : Requester) (v : Word) (s : State) : Host.Outcome State Fault Refusal :=
  finish s (s.accessBy q Blk.twin TWIN.SPARE_CTL true fun s => s.spareCtl (TWIN.SPARE_CTL_OP.put v 3))

/-- SPARE_ABORT (R239). -/
def execSpareAbort (q : Requester) (v : Word) (s : State) : Host.Outcome State Fault Refusal :=
  finish s (s.accessBy q Blk.twin TWIN.SPARE_CTL true fun s => s.spareCtl (TWIN.SPARE_CTL_OP.put v 4))

/-- ASSIGN (R240). -/
def execAssign (q : Requester) (v : Word) (s : State) : Host.Outcome State Fault Refusal :=
  finish s (s.accessBy q Blk.twin TWIN.SPARE_CTL true fun s => s.spareCtl (TWIN.SPARE_CTL_OP.put v 5))

/-- FORCE (R241). -/
def execForce (q : Requester) (v : Word) (s : State) : Host.Outcome State Fault Refusal :=
  finish s (s.accessBy q Blk.twin TWIN.SPARE_CTL true fun s => s.spareCtl (TWIN.SPARE_CTL_OP.put v 6))

/-- SPARE_REQ (R239). -/
def execSpareReq (a : MsgAuth) (lane : Fin 16) (ret : Bool) (s : State) : Host.Outcome State Fault Refusal :=
  finish s (s.twinRx a fun s => s.rxSpareReq lane ret)

/-- SPARE_RSP (R239). -/
def execSpareRsp (a : MsgAuth) (reason : Fin 16) (s : State) : Host.Outcome State Fault Refusal :=
  finish s (s.twinRx a fun s => s.rxSpareRsp reason)

/-- SPARE_STATUS (R238). -/
def execSpareStatus (a : MsgAuth) (x : SpareNote) (s : State) : Host.Outcome State Fault Refusal :=
  finish s (s.twinRx a fun s => s.rxSpareStatus x)

/-- SPARE_MATCH (R236). -/
def execSpareMatch (delta : BitVec 24) (s : State) : Host.Outcome State Fault Refusal := finish s (s.spareMatch delta)

/-- SPARE_MISMATCH (R236). -/
def execSpareMismatch (s : State) : Host.Outcome State Fault Refusal := finish s (s.spareMismatch)

/-- SPARE_TRAIN_LIMIT (R239). -/
def execSpareTrainLimit (s : State) : Host.Outcome State Fault Refusal := finish s (s.spareLimit)

/-- EMERGENCY (R242). -/
def execEmergency (lane : Fin 16) (s : State) : Host.Outcome State Fault Refusal := finish s (s.emergency lane)

/-- EMERGENCY_IDENTIFIED (R242). -/
def execEmergencyIdentified (lane : Fin 16) (s : State) : Host.Outcome State Fault Refusal :=
  finish s (s.emergIdentified lane)

/-- HEALTH_REQUEST (R243). -/
def execHealthRequest (q : Requester) (s : State) : Host.Outcome State Fault Refusal :=
  finish s (s.accessBy q Blk.twin TWIN.HEALTH_CTL true fun s => s.healthCtl (s.oneField Blk.twin TWIN.HEALTH_CTL_REQ 1))

/-- HEALTH_REQ (R243). -/
def execHealthReq (a : MsgAuth) (s : State) : Host.Outcome State Fault Refusal :=
  finish s (s.twinRx a State.rxHealthReq)

/-- HEALTH (R243). -/
def execHealth (a : MsgAuth) (l : List HealthRec) (s : State) : Host.Outcome State Fault Refusal :=
  finish s (s.twinRx a fun s => s.rxHealth l)

/-- RELEASE (R223). -/
def execRelease (a : MsgAuth) (s : State) : Host.Outcome State Fault Refusal := finish s (s.twinRx a State.rxRelease)

/-- RELEASE_ACK (R223). -/
def execReleaseAck (a : MsgAuth) (s : State) : Host.Outcome State Fault Refusal :=
  finish s (s.twinRx a State.rxReleaseAck)

/-- RELEASE_RESEND (R223). -/
def execReleaseResend (s : State) : Host.Outcome State Fault Refusal := finish s (s.releaseResend)

end Sys2Proof.Machine
end

