-- ==== Sys2Proof/Machine/Dispatch.lean ====
section
/-! DEFINITION. The dispatcher: one arm per command of the opcode table, each a direct call of its meaning. -/

namespace Sys2Proof.Machine

def exec (i : Instr) (s : State) : Host.Outcome State Fault Refusal :=
  match i with
  | .powerOnReset x => Sys2Proof.Machine.execPowerOnReset x s
  | .pciePerst => Sys2Proof.Machine.execPciePerst s
  | .linkUp speed width flit reversed => Sys2Proof.Machine.execLinkUp speed width flit reversed s
  | .linkDown => Sys2Proof.Machine.execLinkDown s
  | .regWrite q addr be v => Sys2Proof.Machine.execRegWrite q addr be v s
  | .holdingWrite q addr v => Sys2Proof.Machine.execHoldingWrite q addr v s
  | .offAccess q bar off write => Sys2Proof.Machine.execOffAccess q bar off write s
  | .hostMemRead q bar off len flips => Sys2Proof.Machine.execHostMemRead q bar off len flips s
  | .hostMemWrite q bar off data => Sys2Proof.Machine.execHostMemWrite q bar off data s
  | .unsupportedRequest => Sys2Proof.Machine.execUnsupportedRequest s
  | .i2cWrite bytes => Sys2Proof.Machine.execI2cWrite bytes s
  | .i2cRead count => Sys2Proof.Machine.execI2cRead count s
  | .i2cCmdRead => Sys2Proof.Machine.execI2cCmdRead s
  | .i2cCmdWrite => Sys2Proof.Machine.execI2cCmdWrite s
  | .i2cCmdReadInc => Sys2Proof.Machine.execI2cCmdReadInc s
  | .i2cCmdWriteInc => Sys2Proof.Machine.execI2cCmdWriteInc s
  | .i2cAccessDone => Sys2Proof.Machine.execI2cAccessDone s
  | .i2cAddressMatch => Sys2Proof.Machine.execI2cAddressMatch s
  | .softReset q b => Sys2Proof.Machine.execSoftReset q b s
  | .stageOn q b => Sys2Proof.Machine.execStageOn q b s
  | .stageOff q b => Sys2Proof.Machine.execStageOff q b s
  | .intForce q b v => Sys2Proof.Machine.execIntForce q b v s
  | .intStatClear q b v => Sys2Proof.Machine.execIntStatClear q b v s
  | .msixUnmask vec => Sys2Proof.Machine.execMsixUnmask vec s
  | .commitNow q b => Sys2Proof.Machine.execCommitNow q b s
  | .discard q b => Sys2Proof.Machine.execDiscard q b s
  | .arm q b se => Sys2Proof.Machine.execArm q b se s
  | .disarm q b se => Sys2Proof.Machine.execDisarm q b se s
  | .paritySweep b word shadow upset => Sys2Proof.Machine.execParitySweep b word shadow upset s
  | .parityRestore b word => Sys2Proof.Machine.execParityRestore b word s
  | .refclkLoss ppm => Sys2Proof.Machine.execRefclkLoss ppm s
  | .refclkReturn ppm => Sys2Proof.Machine.execRefclkReturn ppm s
  | .refPllRelock => Sys2Proof.Machine.execRefPllRelock s
  | .xtalFail => Sys2Proof.Machine.execXtalFail s
  | .pllEnable q p v => Sys2Proof.Machine.execPllEnable q p v s
  | .pllLock p us => Sys2Proof.Machine.execPllLock p us s
  | .pllLockLost p => Sys2Proof.Machine.execPllLockLost p s
  | .lanePwrWrite q c v => Sys2Proof.Machine.execLanePwrWrite q c v s
  | .slicePwrRdy l => Sys2Proof.Machine.execSlicePwrRdy l s
  | .rxCtlWrite q n v => Sys2Proof.Machine.execRxCtlWrite q n v s
  | .fgCalDone n cal spur resErr => Sys2Proof.Machine.execFgCalDone n cal spur resErr s
  | .sigDetRise l => Sys2Proof.Machine.execSigDetRise l s
  | .sigDetFall l => Sys2Proof.Machine.execSigDetFall l s
  | .cdrLockGain l freq => Sys2Proof.Machine.execCdrLockGain l freq s
  | .cdrLockLoss l => Sys2Proof.Machine.execCdrLockLoss l s
  | .freqOorSet l => Sys2Proof.Machine.execFreqOorSet l s
  | .freqOorClear l => Sys2Proof.Machine.execFreqOorClear l s
  | .bgcalStepEnd n trim spur resErr => Sys2Proof.Machine.execBgcalStepEnd n trim spur resErr s
  | .coefDataWrite q n v => Sys2Proof.Machine.execCoefDataWrite q n v s
  | .coefDataRead q n => Sys2Proof.Machine.execCoefDataRead q n s
  | .ffeResidueMismatch n group => Sys2Proof.Machine.execFfeResidueMismatch n group s
  | .mlseResidueMismatch n group => Sys2Proof.Machine.execMlseResidueMismatch n group s
  | .injFfe q n => Sys2Proof.Machine.execInjFfe q n s
  | .injMlse q n => Sys2Proof.Machine.execInjMlse q n s
  | .counterClr q g => Sys2Proof.Machine.execCounterClr q g s
  | .counterSnap q g => Sys2Proof.Machine.execCounterSnap q g s
  | .counterLive q g => Sys2Proof.Machine.execCounterLive q g s
  | .eyeStart q n v => Sys2Proof.Machine.execEyeStart q n v s
  | .eyeDone n hits results => Sys2Proof.Machine.execEyeDone n hits results s
  | .txCtlWrite q n v => Sys2Proof.Machine.execTxCtlWrite q n v s
  | .dacCalDone n cal segRes segMax => Sys2Proof.Machine.execDacCalDone n cal segRes segMax s
  | .dacBgcalStepEnd n trim segRes segMax => Sys2Proof.Machine.execDacBgcalStepEnd n trim segRes segMax s
  | .txCoefDataWrite q n v => Sys2Proof.Machine.execTxCoefDataWrite q n v s
  | .txCoefDataRead q n => Sys2Proof.Machine.execTxCoefDataRead q n s
  | .txPdCtlWrite q n map v => Sys2Proof.Machine.execTxPdCtlWrite q n map v s
  | .dacClrFall => Sys2Proof.Machine.execDacClrFall s
  | .dacClrRise => Sys2Proof.Machine.execDacClrRise s
  | .clrSeenClear q n => Sys2Proof.Machine.execClrSeenClear q n s
  | .fecModeWrite q n v => Sys2Proof.Machine.execFecModeWrite q n v s
  | .innerWindowEnd n zsyn => Sys2Proof.Machine.execInnerWindowEnd n zsyn s
  | .forceHunt q n => Sys2Proof.Machine.execForceHunt q n s
  | .innerCodewordDecoded n hard rel phase => Sys2Proof.Machine.execInnerCodewordDecoded n hard rel phase s
  | .lpcBlockPeriod n score => Sys2Proof.Machine.execLpcBlockPeriod n score s
  | .lpcBlockEnd n rows => Sys2Proof.Machine.execLpcBlockEnd n rows s
  | .iterChg n => Sys2Proof.Machine.execIterChg n s
  | .rsCodewordMonitored p hostBound flow outcome codeword => Sys2Proof.Machine.execRsCodewordMonitored p hostBound flow outcome codeword s
  | .addOp e d a b => Sys2Proof.Machine.execAddOp e d a b s
  | .subOp e d a b => Sys2Proof.Machine.execSubOp e d a b s
  | .andOp e d a b => Sys2Proof.Machine.execAndOp e d a b s
  | .orOp e d a b => Sys2Proof.Machine.execOrOp e d a b s
  | .xorOp e d a b => Sys2Proof.Machine.execXorOp e d a b s
  | .sllOp e d a b => Sys2Proof.Machine.execSllOp e d a b s
  | .srlOp e d a b => Sys2Proof.Machine.execSrlOp e d a b s
  | .sraOp e d a b => Sys2Proof.Machine.execSraOp e d a b s
  | .sltOp e d a b => Sys2Proof.Machine.execSltOp e d a b s
  | .sltuOp e d a b => Sys2Proof.Machine.execSltuOp e d a b s
  | .minOp e d a b => Sys2Proof.Machine.execMinOp e d a b s
  | .maxOp e d a b => Sys2Proof.Machine.execMaxOp e d a b s
  | .mulOp e d a b => Sys2Proof.Machine.execMulOp e d a b s
  | .mulhOp e d a b => Sys2Proof.Machine.execMulhOp e d a b s
  | .cmp e a b => Sys2Proof.Machine.execCmp e a b s
  | .addi e d a imm => Sys2Proof.Machine.execAddi e d a imm s
  | .andi e d a imm => Sys2Proof.Machine.execAndi e d a imm s
  | .ori e d a imm => Sys2Proof.Machine.execOri e d a imm s
  | .xori e d a imm => Sys2Proof.Machine.execXori e d a imm s
  | .slli e d a imm => Sys2Proof.Machine.execSlli e d a imm s
  | .srli e d a imm => Sys2Proof.Machine.execSrli e d a imm s
  | .srai e d a imm => Sys2Proof.Machine.execSrai e d a imm s
  | .lui e d imm => Sys2Proof.Machine.execLui e d imm s
  | .cmpi e a imm => Sys2Proof.Machine.execCmpi e a imm s
  | .sati e d a imm => Sys2Proof.Machine.execSati e d a imm s
  | .lw e d a imm => Sys2Proof.Machine.execLw e d a imm s
  | .lh e d a imm => Sys2Proof.Machine.execLh e d a imm s
  | .lhu e d a imm => Sys2Proof.Machine.execLhu e d a imm s
  | .sw e d a imm => Sys2Proof.Machine.execSw e d a imm s
  | .sh e d a imm => Sys2Proof.Machine.execSh e d a imm s
  | .br e cond off => Sys2Proof.Machine.execBr e cond off s
  | .jal e target => Sys2Proof.Machine.execJal e target s
  | .jr e a => Sys2Proof.Machine.execJr e a s
  | .loop e a last => Sys2Proof.Machine.execLoop e a last s
  | .wait e d mask => Sys2Proof.Machine.execWait e d mask s
  | .halt e => Sys2Proof.Machine.execHalt e s
  | .prd e d a addr => Sys2Proof.Machine.execPrd e d a addr s
  | .pwr e d a addr => Sys2Proof.Machine.execPwr e d a addr s
  | .vldp e d a addr => Sys2Proof.Machine.execVldp e d a addr s
  | .vstp e d a addr => Sys2Proof.Machine.execVstp e d a addr s
  | .vadd e d a b => Sys2Proof.Machine.execVadd e d a b s
  | .vsub e d a b => Sys2Proof.Machine.execVsub e d a b s
  | .vmul e d a b sh => Sys2Proof.Machine.execVmul e d a b sh s
  | .vmin e d a b => Sys2Proof.Machine.execVmin e d a b s
  | .vmax e d a b => Sys2Proof.Machine.execVmax e d a b s
  | .vsgn e d a b => Sys2Proof.Machine.execVsgn e d a b s
  | .vshr e d a sh => Sys2Proof.Machine.execVshr e d a sh s
  | .vshl e d a sh => Sys2Proof.Machine.execVshl e d a sh s
  | .vsat e d a sh => Sys2Proof.Machine.execVsat e d a sh s
  | .vand e d a b => Sys2Proof.Machine.execVand e d a b s
  | .vmov e d a => Sys2Proof.Machine.execVmov e d a s
  | .vmac e a b n sc => Sys2Proof.Machine.execVmac e a b n sc s
  | .vrda e d n clr sh => Sys2Proof.Machine.execVrda e d n clr sh s
  | .vclr e n => Sys2Proof.Machine.execVclr e n s
  | .vred e d a => Sys2Proof.Machine.execVred e d a s
  | .vbc e d a => Sys2Proof.Machine.execVbc e d a s
  | .vext e d a lane => Sys2Proof.Machine.execVext e d a lane s
  | .vins e d b lane => Sys2Proof.Machine.execVins e d b lane s
  | .vld e d a imm => Sys2Proof.Machine.execVld e d a imm s
  | .vst e d a imm => Sys2Proof.Machine.execVst e d a imm s
  | .illegalInstruction e w => Sys2Proof.Machine.execIllegalInstruction e w s
  | .engineWatchdog e => Sys2Proof.Machine.execEngineWatchdog e s
  | .rxSwap e v => Sys2Proof.Machine.execRxSwap e v s
  | .txSwap e v => Sys2Proof.Machine.execTxSwap e v s
  | .pdOut e v => Sys2Proof.Machine.execPdOut e v s
  | .phofsStep e v => Sys2Proof.Machine.execPhofsStep e v s
  | .slotMap e v => Sys2Proof.Machine.execSlotMap e v s
  | .gaAck e v => Sys2Proof.Machine.execGaAck e v s
  | .histStart e v => Sys2Proof.Machine.execHistStart e v s
  | .histDone l bins => Sys2Proof.Machine.execHistDone l bins s
  | .gaWindowEnd l sums => Sys2Proof.Machine.execGaWindowEnd l sums s
  | .timerCmp e v => Sys2Proof.Machine.execTimerCmp e v s
  | .timerMatch e => Sys2Proof.Machine.execTimerMatch e s
  | .mbxDone e v => Sys2Proof.Machine.execMbxDone e v s
  | .mbxNote e v => Sys2Proof.Machine.execMbxNote e v s
  | .pwrRsp e v => Sys2Proof.Machine.execPwrRsp e v s
  | .trnReq e v => Sys2Proof.Machine.execTrnReq e v s
  | .trnReady e v => Sys2Proof.Machine.execTrnReady e v s
  | .engineRun q e => Sys2Proof.Machine.execEngineRun q e s
  | .engineStep q e => Sys2Proof.Machine.execEngineStep q e s
  | .ucDataWrite q e v => Sys2Proof.Machine.execUcDataWrite q e v s
  | .ucSeal q e bank len => Sys2Proof.Machine.execUcSeal q e bank len s
  | .invalidate q e bank => Sys2Proof.Machine.execInvalidate q e bank s
  | .sealed e => Sys2Proof.Machine.execSealed e s
  | .microcodeSwap e => Sys2Proof.Machine.execMicrocodeSwap e s
  | .mbxCmd q e v => Sys2Proof.Machine.execMbxCmd q e v s
  | .train n converged words windows err => Sys2Proof.Machine.execTrain n converged words windows err s
  | .freeze n => Sys2Proof.Machine.execFreeze n s
  | .resume n => Sys2Proof.Machine.execResume n s
  | .setMu n => Sys2Proof.Machine.execSetMu n s
  | .setLoop n => Sys2Proof.Machine.execSetLoop n s
  | .status n err => Sys2Proof.Machine.execStatus n err s
  | .eye n hits results => Sys2Proof.Machine.execEye n hits results s
  | .remap n => Sys2Proof.Machine.execRemap n s
  | .spareTrain n converged words windows err => Sys2Proof.Machine.execSpareTrain n converged words windows err s
  | .stop n => Sys2Proof.Machine.execStop n s
  | .adapt k => Sys2Proof.Machine.execAdapt k s
  | .hostFreeze k => Sys2Proof.Machine.execHostFreeze k s
  | .hostResume k => Sys2Proof.Machine.execHostResume k s
  | .hostSetMu k => Sys2Proof.Machine.execHostSetMu k s
  | .hostStatus k err => Sys2Proof.Machine.execHostStatus k err s
  | .setPreset k => Sys2Proof.Machine.execSetPreset k s
  | .hostStop k => Sys2Proof.Machine.execHostStop k s
  | .hlCtlWrite q m v => Sys2Proof.Machine.execHlCtlWrite q m v s
  | .hlCalDone m => Sys2Proof.Machine.execHlCalDone m s
  | .blockLock m => Sys2Proof.Machine.execBlockLock m s
  | .capabilityPageRx m page => Sys2Proof.Machine.execCapabilityPageRx m page s
  | .capabilityPageTx m => Sys2Proof.Machine.execCapabilityPageTx m s
  | .switchElapsed m => Sys2Proof.Machine.execSwitchElapsed m s
  | .trainingFrameRx m tap op preset ready => Sys2Proof.Machine.execTrainingFrameRx m tap op preset ready s
  | .trainLimit m => Sys2Proof.Machine.execTrainLimit m s
  | .negTimerLimit m => Sys2Proof.Machine.execNegTimerLimit m s
  | .linkDownTimeout m => Sys2Proof.Machine.execLinkDownTimeout m s
  | .restart q m => Sys2Proof.Machine.execRestart q m s
  | .rxIdleSet m => Sys2Proof.Machine.execRxIdleSet m s
  | .rxIdleClear m => Sys2Proof.Machine.execRxIdleClear m s
  | .fastExitMarker m => Sys2Proof.Machine.execFastExitMarker m s
  | .hcoefDataWrite q m v => Sys2Proof.Machine.execHcoefDataWrite q m v s
  | .muxLock n => Sys2Proof.Machine.execMuxLock n s
  | .muxLockLost n => Sys2Proof.Machine.execMuxLockLost n s
  | .markerLock p hostBound skew => Sys2Proof.Machine.execMarkerLock p hostBound skew s
  | .deskewDone p hostBound => Sys2Proof.Machine.execDeskewDone p hostBound s
  | .markerLoss p hostBound => Sys2Proof.Machine.execMarkerLoss p hostBound s
  | .lanesNotReady p hostBound => Sys2Proof.Machine.execLanesNotReady p hostBound s
  | .forceTx q p => Sys2Proof.Machine.execForceTx q p s
  | .forceRx q p => Sys2Proof.Machine.execForceRx q p s
  | .slip p => Sys2Proof.Machine.execSlip p s
  | .monWindowEnd p hostBound => Sys2Proof.Machine.execMonWindowEnd p hostBound s
  | .pairHail q => Sys2Proof.Machine.execPairHail q s
  | .pairRelease q => Sys2Proof.Machine.execPairRelease q s
  | .hailTimer => Sys2Proof.Machine.execHailTimer s
  | .hailLimit => Sys2Proof.Machine.execHailLimit s
  | .confirmWaitExpiry => Sys2Proof.Machine.execConfirmWaitExpiry s
  | .heartbeatTimer => Sys2Proof.Machine.execHeartbeatTimer s
  | .adrift => Sys2Proof.Machine.execAdrift s
  | .adriftLimit => Sys2Proof.Machine.execAdriftLimit s
  | .hail id ok => Sys2Proof.Machine.execHail id ok s
  | .answer id ok => Sys2Proof.Machine.execAnswer id ok s
  | .confirm a => Sys2Proof.Machine.execConfirm a s
  | .heartbeat a act prev spareSt rsv => Sys2Proof.Machine.execHeartbeat a act prev spareSt rsv s
  | .pos a l => Sys2Proof.Machine.execPos a l s
  | .posAck a l => Sys2Proof.Machine.execPosAck a l s
  | .posRun q => Sys2Proof.Machine.execPosRun q s
  | .posAutoRerun => Sys2Proof.Machine.execPosAutoRerun s
  | .rangeRun q => Sys2Proof.Machine.execRangeRun q s
  | .range a => Sys2Proof.Machine.execRange a s
  | .rangeEcho a t1 t2 t3 t4 => Sys2Proof.Machine.execRangeEcho a t1 t2 t3 t4 s
  | .coordStart q => Sys2Proof.Machine.execCoordStart q s
  | .coordAbort q => Sys2Proof.Machine.execCoordAbort q s
  | .propose a tag action port n ver => Sys2Proof.Machine.execPropose a tag action port n ver s
  | .accept a tag m => Sys2Proof.Machine.execAccept a tag m s
  | .reject a tag reason => Sys2Proof.Machine.execReject a tag reason s
  | .go a tag => Sys2Proof.Machine.execGo a tag s
  | .abort a tag => Sys2Proof.Machine.execAbort a tag s
  | .coordCutoff => Sys2Proof.Machine.execCoordCutoff s
  | .prepare q v => Sys2Proof.Machine.execPrepare q v s
  | .switch q v => Sys2Proof.Machine.execSwitch q v s
  | .returnOp q v => Sys2Proof.Machine.execReturnOp q v s
  | .spareAbort q v => Sys2Proof.Machine.execSpareAbort q v s
  | .assign q v => Sys2Proof.Machine.execAssign q v s
  | .force q v => Sys2Proof.Machine.execForce q v s
  | .spareReq a lane ret => Sys2Proof.Machine.execSpareReq a lane ret s
  | .spareRsp a reason => Sys2Proof.Machine.execSpareRsp a reason s
  | .spareStatus a x => Sys2Proof.Machine.execSpareStatus a x s
  | .spareMatch delta => Sys2Proof.Machine.execSpareMatch delta s
  | .spareMismatch => Sys2Proof.Machine.execSpareMismatch s
  | .spareTrainLimit => Sys2Proof.Machine.execSpareTrainLimit s
  | .emergency lane => Sys2Proof.Machine.execEmergency lane s
  | .emergencyIdentified lane => Sys2Proof.Machine.execEmergencyIdentified lane s
  | .healthRequest q => Sys2Proof.Machine.execHealthRequest q s
  | .healthReq a => Sys2Proof.Machine.execHealthReq a s
  | .health a l => Sys2Proof.Machine.execHealth a l s
  | .release a => Sys2Proof.Machine.execRelease a s
  | .releaseAck a => Sys2Proof.Machine.execReleaseAck a s
  | .releaseResend => Sys2Proof.Machine.execReleaseResend s
  | .txQctlGo q buf len => Sys2Proof.Machine.execTxQctlGo q buf len s
  | .packetTxStart => Sys2Proof.Machine.execPacketTxStart s
  | .txDone ago => Sys2Proof.Machine.execTxDone ago s
  | .fogRxEnable q v => Sys2Proof.Machine.execFogRxEnable q v s
  | .preambleDetection metric power => Sys2Proof.Machine.execPreambleDetection metric power s
  | .preambleEnd => Sys2Proof.Machine.execPreambleEnd s
  | .frameMarker found => Sys2Proof.Machine.execFrameMarker found s
  | .headerDecoded info crc ago => Sys2Proof.Machine.execHeaderDecoded info crc ago s
  | .payloadEnd data crc snr power drift => Sys2Proof.Machine.execPayloadEnd data crc snr power drift s
  | .trackLost => Sys2Proof.Machine.execTrackLost s
  | .rxPop q => Sys2Proof.Machine.execRxPop q s
  | .dutyListen listen => Sys2Proof.Machine.execDutyListen listen s
  | .freqWrite q n w => Sys2Proof.Machine.execFreqWrite q n w s
  | .stepSet q n => Sys2Proof.Machine.execStepSet q n s
  | .stepAdd q n => Sys2Proof.Machine.execStepAdd q n s
  | .stepSetTpi q n j => Sys2Proof.Machine.execStepSetTpi q n j s
  | .stepApplied n => Sys2Proof.Machine.execStepApplied n s
  | .stepCancel q n => Sys2Proof.Machine.execStepCancel q n s
  | .clrCoarse q n => Sys2Proof.Machine.execClrCoarse q n s
  | .tbEnable q n v => Sys2Proof.Machine.execTbEnable q n v s
  | .snap q => Sys2Proof.Machine.execSnap q s
  | .evtTbWrite q n => Sys2Proof.Machine.execEvtTbWrite q n s
  | .frameStamp p imm hostBound marker bytes key => Sys2Proof.Machine.execFrameStamp p imm hostBound marker bytes key s
  | .ptPop q v => Sys2Proof.Machine.execPtPop q v s
  | .ltPop q => Sys2Proof.Machine.execLtPop q s
  | .tpoEdge k => Sys2Proof.Machine.execTpoEdge k s
  | .tpiEdge j falling => Sys2Proof.Machine.execTpiEdge j falling s
  | .tpiPop q j => Sys2Proof.Machine.execTpiPop q j s
  | .seWrite q w v => Sys2Proof.Machine.execSeWrite q w v s
  | .entryFire ks => Sys2Proof.Machine.execEntryFire ks s
  | .histPop q => Sys2Proof.Machine.execHistPop q s
  | .schedWake => Sys2Proof.Machine.execSchedWake s
  | .refCtlWrite q v => Sys2Proof.Machine.execRefCtlWrite q v s
  | .refSettled => Sys2Proof.Machine.execRefSettled s
  | .seqStart q c => Sys2Proof.Machine.execSeqStart q c s
  | .seqStop q c => Sys2Proof.Machine.execSeqStop q c s
  | .hkResult c x => Sys2Proof.Machine.execHkResult c x s
  | .hkCalStart q c => Sys2Proof.Machine.execHkCalStart q c s
  | .calDone c cal => Sys2Proof.Machine.execCalDone c cal s
  | .hkRxWrite q v => Sys2Proof.Machine.execHkRxWrite q v s
  | .fcoefDataWrite q v => Sys2Proof.Machine.execFcoefDataWrite q v s
  | .hkPop q c => Sys2Proof.Machine.execHkPop q c s
  | .chCodeWrite q n v => Sys2Proof.Machine.execChCodeWrite q n v s
  | .strobe q groups => Sys2Proof.Machine.execStrobe q groups s
  | .streamResume q n => Sys2Proof.Machine.execStreamResume q n s
  | .modeChange q n mode => Sys2Proof.Machine.execModeChange q n mode s
  | .changeDone n => Sys2Proof.Machine.execChangeDone n s
  | .shortCircuit n => Sys2Proof.Machine.execShortCircuit n s
  | .compliance n => Sys2Proof.Machine.execCompliance n s
  | .meas q => Sys2Proof.Machine.execMeas q s
  | .measTimer => Sys2Proof.Machine.execMeasTimer s
  | .measurementDone l => Sys2Proof.Machine.execMeasurementDone l s
  | .forceBand q v => Sys2Proof.Machine.execForceBand q v s
  | .invalCtl q v => Sys2Proof.Machine.execInvalCtl q v s
  | .invalDone => Sys2Proof.Machine.execInvalDone s
  | .sealCtl q v => Sys2Proof.Machine.execSealCtl q v s
  | .sealDone => Sys2Proof.Machine.execSealDone s
  | .repApply q v => Sys2Proof.Machine.execRepApply q v s
  | .ddrInit q v => Sys2Proof.Machine.execDdrInit q v s
  | .ddrTrained ok => Sys2Proof.Machine.execDdrTrained ok s
  | .ddrSealCtl q v => Sys2Proof.Machine.execDdrSealCtl q v s
  | .pvCtl q v => Sys2Proof.Machine.execPvCtl q v s
  | .ddrRefresh => Sys2Proof.Machine.execDdrRefresh s
  | .phyRecentre => Sys2Proof.Machine.execPhyRecentre s
  | .sramScrub flips => Sys2Proof.Machine.execSramScrub flips s
  | .ddrScrub flips => Sys2Proof.Machine.execDdrScrub flips s
  | .goldenReload flash => Sys2Proof.Machine.execGoldenReload flash s
  | .chTailWrite q c v => Sys2Proof.Machine.execChTailWrite q c v s
  | .ringWrite q c hi v => Sys2Proof.Machine.execRingWrite q c hi v s
  | .descriptorStart c desc => Sys2Proof.Machine.execDescriptorStart c desc s
  | .descriptorComplete c source writeErr => Sys2Proof.Machine.execDescriptorComplete c source writeErr s
  | .lateWriteErr c idx => Sys2Proof.Machine.execLateWriteErr c idx s
  | .dmaRun q c => Sys2Proof.Machine.execDmaRun q c s
  | .dmaStop q c => Sys2Proof.Machine.execDmaStop q c s
  | .dmaAbort q c => Sys2Proof.Machine.execDmaAbort q c s
  | .shareWindow moves => Sys2Proof.Machine.execShareWindow moves s
  | .tapBlockClose => Sys2Proof.Machine.execTapBlockClose s
  | .tapCtlWrite q v => Sys2Proof.Machine.execTapCtlWrite q v s
  | .aliasCtlWrite q c v => Sys2Proof.Machine.execAliasCtlWrite q c v s
  | .logDrain => Sys2Proof.Machine.execLogDrain s
  | .drainWrite q on => Sys2Proof.Machine.execDrainWrite q on s
  | .anchClrWrite q => Sys2Proof.Machine.execAnchClrWrite q s
  | .hrec q typ anchor => Sys2Proof.Machine.execHrec q typ anchor s
  | .powerRequest q target => Sys2Proof.Machine.execPowerRequest q target s
  | .pcieWake => Sys2Proof.Machine.execPcieWake s
  | .handshakeAnswer b t => Sys2Proof.Machine.execHandshakeAnswer b t s
  | .handshakeDelayExpiry b => Sys2Proof.Machine.execHandshakeDelayExpiry b s
  | .handshakeTimeout => Sys2Proof.Machine.execHandshakeTimeout s
  | .wakePin p level => Sys2Proof.Machine.execWakePin p level s
  | .wake => Sys2Proof.Machine.execWake s
  | .domOn q d => Sys2Proof.Machine.execDomOn q d s
  | .domOff q d => Sys2Proof.Machine.execDomOff q d s
  | .voltageRequest => Sys2Proof.Machine.execVoltageRequest s
  | .pmbusPoll status => Sys2Proof.Machine.execPmbusPoll status s
  | .attemptTimeout => Sys2Proof.Machine.execAttemptTimeout s
  | .pmbAlert status => Sys2Proof.Machine.execPmbAlert status s
  | .pmbEnable q vmode => Sys2Proof.Machine.execPmbEnable q vmode s
  | .provision q => Sys2Proof.Machine.execProvision q s
  | .field q => Sys2Proof.Machine.execField q s
  | .lcChanged ok => Sys2Proof.Machine.execLcChanged ok s
  | .arbCtl q v => Sys2Proof.Machine.execArbCtl q v s
  | .keeperLoad q x => Sys2Proof.Machine.execKeeperLoad q x s
  | .keeperRestart q => Sys2Proof.Machine.execKeeperRestart q s
  | .keeperHalt q on => Sys2Proof.Machine.execKeeperHalt q on s
  | .keeperStep q => Sys2Proof.Machine.execKeeperStep q s
  | .lockstep => Sys2Proof.Machine.execLockstep s
  | .chalNew q => Sys2Proof.Machine.execChalNew q s
  | .request q level => Sys2Proof.Machine.execRequest q level s
  | .submit q => Sys2Proof.Machine.execSubmit q s
  | .tokenCheckDone sigOk => Sys2Proof.Machine.execTokenCheckDone sigOk s
  | .lock q => Sys2Proof.Machine.execLock q s
  | .unlockExpiry => Sys2Proof.Machine.execUnlockExpiry s
  | .apply q slot se => Sys2Proof.Machine.execApply q slot se s
  | .verifyingDone result x => Sys2Proof.Machine.execVerifyingDone result x s
  | .stagingDone => Sys2Proof.Machine.execStagingDone s
  | .versionConfirm q v => Sys2Proof.Machine.execVersionConfirm q v s
  | .confirmTimeout => Sys2Proof.Machine.execConfirmTimeout s
  | .rollback q => Sys2Proof.Machine.execRollback q s
  | .bistStart q refclk rails => Sys2Proof.Machine.execBistStart q refclk rails s
  | .bistStop q => Sys2Proof.Machine.execBistStop q s
  | .bistPrecondLapse refclk rails => Sys2Proof.Machine.execBistPrecondLapse refclk rails s
  | .bistDone l => Sys2Proof.Machine.execBistDone l s
  | .laneBistStart q lane => Sys2Proof.Machine.execLaneBistStart q lane s
  | .laneDone rx tx slice subs segs => Sys2Proof.Machine.execLaneDone rx tx slice subs segs s
  | .clrAll q => Sys2Proof.Machine.execClrAll q s
  | .globalEn q on => Sys2Proof.Machine.execGlobalEn q on s
  | .porstNLow => Sys2Proof.Machine.execPorstNLow s
  | .pcieConfigWrite d3hot busMaster msixEn => Sys2Proof.Machine.execPcieConfigWrite d3hot busMaster msixEn s
  | .blockLockLost m => Sys2Proof.Machine.execBlockLockLost m s
  | .shortCircuitEnd n => Sys2Proof.Machine.execShortCircuitEnd n s
  | .complianceEnd n => Sys2Proof.Machine.execComplianceEnd n s
  | .entryStepDone => Sys2Proof.Machine.execEntryStepDone s
  | .exitStepDone ddrKept x => Sys2Proof.Machine.execExitStepDone ddrKept x s
  | .domDone ddrKept => Sys2Proof.Machine.execDomDone ddrKept s
  | .pvDone => Sys2Proof.Machine.execPvDone s
  | .keeperRestartDone us fw => Sys2Proof.Machine.execKeeperRestartDone us fw s
  | .xtalResume => Sys2Proof.Machine.execXtalResume s

end Sys2Proof.Machine
end

