-- ==== Sys2Proof/Machine/Tick.lean ====
section
/-! DEFINITION. What passes when no command waits: one edge of the AON clock, 40 ns, with the counters, clocks and loops that
run by themselves. Timers that expire, and events that come from outside, are commands. -/

namespace Sys2Proof.Machine
namespace State

/-- Time base `n` advances over one AON period: 50 periods of the time-base clock, or 40 ns while it runs from the AON clock
(R270, R277); a step that waits for the next tick is applied (R272). -/
def tbAdvance (s : State) (n : Nat) : State :=
  if !s.tbRuns n then s
  else
    let gain := if s.fb Blk.clk CLK.STAT_ON_AON then 40 * nsUnit else 50 * s.tbFreq n
    (s.setTb n (s.tbAcc n + gain)).stepTick n

/-- A host transmitter that is UP and follows a line lane moves toward its frequency, or holds it (R111, R182); otherwise it runs
at nominal. `k` counts datapath cycles. -/
def hostFollow (s : State) (m k : Nat) : State :=
  let b := Blk.hlane m
  let l := s.f b HLANE.TX_TSRC_LLANE
  let u := if !s.fb b HLANE.TX_TSRC_FOLLOW then 0
    else if l < 17 ∧ s.fb (Blk.llane l) LLANE.RX_STAT_CDR_LOCK then
      uSteps (s.reg (Blk.llane l) LLANE.CDR_FREQ).toInt (s.f b HLANE.TX_TSRC_SMOOTH) k (s.hlane m).u
    else (s.hlane m).u
  (s.modHlane m fun h => { h with u := u }).setReg b HLANE.TX_FREQ (BitVec.ofInt 32 (u / 2 ^ 16))

/-- A direction in FREEWHEEL counts codewords at the nominal rate (R213); `a` is the AON count before the edge. -/
def wheelTurn (s : State) (p : Nat) (hb : Bool) (a : Nat) : State :=
  if s.dirState p hb = 4 then
    let per := cwPeriod (s.portUsed p).typ
    s.setPos p hb (s.dirCw p hb + ((a + 1) * 400 / per - a * 400 / per))
  else s

/-- The engine cycles of an AON period pass (R148, R150): TIMER advances for an engine that issues nothing, cycles in WAIT are
counted, a waiting engine whose event has come goes on, and offered detector values lapse (R160). -/
def engPass (s : State) (e k : Nat) : State :=
  if !s.engClock e then s
  else
    let s := match (s.eng e).run with
      | .running => s
      | .waiting _ _ => (s.modEng e fun g => { g with timer := (g.timer + k) % 2 ^ 32 }).perf 5 e k
      | .halted => s.modEng e fun g => { g with timer := (g.timer + k) % 2 ^ 32 }
    s.engWake e

/-- The counters of clock cycles and of the Keeper (R435): the spec leaves the Keeper's instructions and interrupts open. -/
def perfPass (s : State) (k : Nat) : State :=
  if !s.fb Blk.perf PERF.CTL_GLOBAL_EN || !s.domReady Dom.fab then s
  else
    let fab := if s.fb Blk.clk CLK.STAT_ON_AON then 1 else 25
    let s := (s.perf 0 0 fab).perf 0 2 1
    let s := if s.domReady Dom.pmap && !s.clocksStopped then s.perf 0 1 k else s
    if s.kprRuns then
      let i := s.draw 5
      let j := i.2.draw 1
      ((j.2.perf 13 0 i.1.toNat).perf 13 1 fab).perf 13 2 j.1.toNat
    else s

/-- One AON clock edge (R458). -/
def aonEdge (s : State) : State :=
  let a := s.aonCnt
  let d := s.dpCycle
  let s := s.setAonCnt (a + 1)
  let s := if s.clocksStopped then s else { s with dpTicks := s.dpTicks + 36125 }
  let k := s.dpCycle - d
  let s := (List.range 4).foldl tbAdvance s
  let s := (List.range 17).foldl (fun s n => s.txFollow n k) s
  let s := if s.clocksStopped then s else s.hostUps.foldl (fun s m => s.hostFollow m k) s
  let s := (List.range 64).foldl (fun s p => (s.wheelTurn p false a).wheelTurn p true a) s
  let s := (List.range 21).foldl (fun s e => s.engPass e (k / 2)) s
  let s := (s.prims.filter fun x => x.2.pdOut.isSome).foldl (fun s x => s.setPrim x.1 { x.2 with pdOut := none }) s
  let s := if s.hkOn then ((List.range 32).filter s.hdacStreams).foldl hdacTick s else s
  let s := if s.domReady Dom.kpr then s.modCfgv fun c => { c with ticks := c.ticks - 1 } else s
  (s.perfPass k).cfgvEval

end State

/-- What a step does with no command waiting: one AON clock edge while the device is out of reset and its crystal runs. -/
def tick (s : State) : Host.Outcome State Fault Refusal :=
  if s.inReset || !s.fb Blk.aon AON.XTAL_STAT_OK then .next s else finish s s.aonEdge

end Sys2Proof.Machine
end

