-- ==== Sys2Proof/Safety.lean ====
section
/-! DEFINITION. What a safe outcome is, and the words the statements are written in: that a command answers a next state with
a property, that a requester is served, what a command leaves alone, what the fuses may hold, and the canonical form of
memory. -/

namespace Sys2Proof

/-- The outcome is a next state, not a stop. -/
def Completes (o : Host.Outcome Machine.State Machine.Fault Machine.Refusal) : Prop := ∃ t, o = .next t

/-- A state from which the next step goes on. -/
def Machine.State.Live (s : Machine.State) : Prop := Completes (Machine.step s)

/-! ### Which rows may move what (for the statement that no other row does) -/

/-- Reset, a step of the entry into or the exit from a power state, and the end of a domain request: the rows that may power a
domain up or down (R381, R388, R395, R399). -/
def Instr.movesDomains : Instr → Bool
  | .powerOnReset _ | .porstNLow | .entryStepDone | .exitStepDone _ _ | .domDone _ => true
  | _ => false

/-- The rows that may move PCIE_PERST_N (R445). -/
def Instr.movesPerst : Instr → Bool
  | .powerOnReset _ | .porstNLow | .pciePerst | .linkUp _ _ _ _ => true
  | _ => false

/-- The rows that may move DAC_CLR_N (R117). -/
def Instr.movesDacClr : Instr → Bool
  | .powerOnReset _ | .porstNLow | .dacClrFall | .dacClrRise => true
  | _ => false

/-- The rows that may change D3hot, bus mastering or MSI-X enable of the PCIe function (R385). -/
def Instr.movesFunction : Instr → Bool
  | .pciePerst | .pcieConfigWrite _ _ _ => true
  | c => c.movesDomains

/-- The rows that may set the value of a time base other than by its clock (R272, R276). -/
def Instr.movesTime : Instr → Bool
  | .stepApplied _ | .tpiEdge _ _ => true
  | c => c.movesDomains

namespace Machine

/-- Command `c` in state `s` answers a next state that has property `p`. -/
abbrev Gives (c : Instr) (s : State) (p : State → Prop) : Prop := ∃ t, exec c s = .next t ∧ p t

/-- Requester `q` is served by block `b`: the debug level admits the access (R414), and the block answers (R15). -/
abbrev State.Serves (s : State) (q : Requester) (b : Nat) (write : Bool) : Prop :=
  s.dbgAdmits q write = true ∧ s.reach b = true

/-- The state without its register page contents (registers, shadows, parity, interrupt bits), the pending-bit array, what the
device has sent, and the counter of free values. -/
def State.units (s : State) : State :=
  { s with regs := [], shadows := [], used := [], latched := [], pairBad := [], ints := [], intEn := [], parBad := [], parSeen := [],
           pba := 0, free := 0, out := [] }

/-- From `s` to `t` no register and no INT_STAT bit has changed but in the blocks of `bs`, and in PERF, which counts the messages
that a command sends (R437). -/
structure State.KeepsRegs (bs : List Nat) (s t : State) : Prop where
  reg : ∀ b off, b ∉ bs → b ≠ Blk.perf → off < 4096 → t.reg b off = s.reg b off
  ints : ∀ b, b ∉ bs → b ≠ Blk.perf → t.intStat b = s.intStat b

/-- From `s` to `t` no register of block `b` has changed but those at the offsets of `l`. -/
def State.KeepsBlk (b : Nat) (l : List Nat) (s t : State) : Prop :=
  ∀ off, off ∉ l → off < 4096 → t.reg b off = s.reg b off

/-- From `s` to `t` nothing has changed but register pages, the pending-bit array and what the device has sent: not the queue,
memory, a lane, an engine, a time base, a power domain, the fuses or any other unit. -/
abbrev State.KeepsUnits (s t : State) : Prop := t.units = s.units

/-- From `s` to `t` nothing has changed but register pages, the pending-bit array, what the device has sent, and the units that
`f` blanks: the queue, the pins and every other unit are as they were. -/
abbrev State.KeepsUnitsBut (f : State → State) (s t : State) : Prop := f t.units = f s.units

/-- The register blocks of the line lanes, of the line and host engines, of the host lanes and of the ports. -/
abbrev Blk.lines : List Nat := (List.range 17).map Blk.llane
abbrev Blk.lineEngines : List Nat := (List.range 4).map Blk.lclu
abbrev Blk.hostEngines : List Nat := (List.range 4).map Blk.hclu
abbrev Blk.hosts : List Nat := (List.range 64).map Blk.hlane
abbrev Blk.ports : List Nat := (List.range 64).map Blk.port

/-- Engine `e` issues an instruction: it has its clock, it runs, and its PC lies in the loaded length (R148, R152, R153). -/
abbrev State.Issues (s : State) (e : Nat) : Prop :=
  s.engClock e = true ∧ (s.eng e).run = .running ∧ s.pcOk e = true

/-- The record of an engine without TIMER, the TIMER event and the note of a load's destination, which follow the cycles. -/
def Engine.core (g : Engine) : Engine := { g with timer := 0, timerHit := false, loadDest := none }

/-- From `s` to `t` engine `e` has come to the record `g`, and nothing has changed but that, the on-chip SRAM, and registers of
the blocks of `bs` and of PERF. -/
structure State.EngRuns (bs : List Nat) (e : Nat) (g : Engine) (s t : State) : Prop where
  eng : (t.eng e).core = g.core
  others : ∀ x, x ≠ e → t.eng x = s.eng x
  units : { t.units with engines := [], sram := {} } = { s.units with engines := [], sram := {} }
  regs : s.KeepsRegs bs t

/-- An instruction of engine `e` has set scalar register `d` to `v`, or nothing where `d` is s0 (R150), and has gone on to the
next instruction; all else is as it was. -/
structure State.SetsScalar (e d : Nat) (v : Word) (s t : State) : Prop where
  dest : t.scalar e d = if d = 0 then 0 else v
  rest : ∀ i, i ≠ d → t.scalar e i = s.scalar e i
  runs : s.EngRuns [] e (engSeq { s.eng e with s := (t.eng e).s }) t
  sram : t.sram = s.sram

/-- An instruction of engine `e` has set lane `l` of vector register `d` to `f l`, and has gone on to the next instruction; all
else is as it was. -/
structure State.SetsVector (e d : Nat) (f : Nat → Int) (s t : State) : Prop where
  dest : ∀ l, l < 16 → vlane (t.vreg e d) l = f l
  rest : ∀ i, i ≠ d → t.vreg e i = s.vreg e i
  runs : s.EngRuns [] e (engSeq { s.eng e with v := (t.eng e).v }) t
  sram : t.sram = s.sram

/-- An instruction of engine `e` has set lane `l` of accumulator `n` to `f l`, and has gone on to the next instruction; all else
is as it was. -/
structure State.SetsAcc (e n : Nat) (f : Nat → Int) (s t : State) : Prop where
  dest : ∀ l, l < 16 → accLane (t.acc e n) l = f l
  rest : t.acc e (1 - n) = s.acc e (1 - n)
  runs : s.EngRuns [] e (engSeq { s.eng e with a0 := (t.eng e).a0, a1 := (t.eng e).a1 }) t
  sram : t.sram = s.sram

/-- The byte at BAR2 offset `x` of the on-chip SRAM: a byte of a word that is not valid is 0 (R337). -/
def State.sramSeen (s : State) (x : Nat) : Byte := if SMap.get false s.sram.valid (x / 4) then SMap.get 0 s.sram.bytes x else 0

/-- From `s` to `t` no byte of memory has changed but in the Logbook's staging pages, BAR2 offsets 0x2C00000 to 0x2CFFFFF, where
records wait (R334, R374). -/
structure State.KeepsRam (s t : State) : Prop where
  sram : ∀ x, x < 0x2C00000 ∨ 0x2D00000 ≤ x → t.sramSeen x = s.sramSeen x
  ddr : ∀ x, SMap.get 0 t.ddr.bytes x = SMap.get 0 s.ddr.bytes x

/-- From `s` to `t` the on-chip SRAM holds the bytes `l` from BAR2 offset `a`, and every other byte is as it was. -/
structure State.SramHas (a : Nat) (l : List Byte) (s t : State) : Prop where
  stored : ∀ i, i < l.length → t.sramSeen (a + i) = (l[i]?).getD 0
  rest : ∀ x, x < a ∨ a + l.length ≤ x → t.sramSeen x = s.sramSeen x

/-- The twin's message `a` is accepted in PAIRED: its tag is good and the session keys are held (R221, R223). -/
abbrev State.Accepts (s : State) (a : MsgAuth) : Prop :=
  s.twinOn = true ∧ s.twin.keys = true ∧ s.fb Blk.twin TWIN.PAIR_STAT_KEYS_LOST = false ∧ s.pairState = 3 ∧ a.tagOk = true

/-- From `s` to `t` the device has given Foghorn the message of type `typ` with `fields` under the next counter (R221). -/
abbrev State.SentTwin (typ : Nat) (fields : List Nat) (s t : State) : Prop :=
  t.fog.twinQ = s.fog.twinQ ++ [⟨typ, s.twin.txCnt + 1, fields⟩] ∧ t.twin.txCnt = s.twin.txCnt + 1
    ∧ t.reg Blk.twin TWIN.TX_CNT = BitVec.ofNat 32 (s.twin.txCnt + 1) ∧ t.fogBusy 0 = true

/-- The canonical form of a memory: rising addresses, and no entry equal to what an unlisted byte holds. -/
abbrev Memory.wf (m : List Host.Cell) : Prop := SMap.wf (fun _ => (0 : Byte)) m

end Machine

namespace Machine.Fuses

/-- What the fuses may hold: one of the four lifecycle states of R403, at most the 63 fuses of the anti-rollback counter
(R409), and a transition in progress that leads forward. -/
structure Ok (f : Fuses) : Prop where
  lifecycle_le : f.lifecycle ≤ 3
  arb_le : f.arb ≤ 63
  target_forward : ∀ t, f.target = some t → f.lifecycle < t ∧ t ≤ 3

/-- From fuses `f` to fuses `g` nothing is taken back: the lifecycle state and the anti-rollback counter only go forward. -/
structure Fwd (f g : Fuses) : Prop where
  ok : f.Ok → g.Ok
  lifecycle_le : f.Ok → f.lifecycle ≤ g.lifecycle
  arb_le : f.arb ≤ g.arb

end Machine.Fuses

end Sys2Proof
end

