-- ==== Sys2Proof/Certificates/Slice0/Obligations.lean ====
section
/-! DEFINITION. The statements about the device. `Gives c s p` says that command `c` in state `s` answers a next state with
property `p`; the `Keeps…` clauses are the frame of a command. -/

open Sys2Proof Sys2Proof.Machine Sys2Proof.Machine.State

/-- A step of a state with command c at the front of its queue is the effect of c on the state with the queue's rest. It
follows spec/00_scope.md. -/
def Obligations.QueueFront : Prop :=
  (∀ (c : Instr) (s : State), step { s with pending := c :: s.pending } = exec c s)

/-- After reset every register of every block reads its Reset value (twelve registers of the tables with the printed
number), no interrupt source is set or enabled, PD_AON, PD_CLK, PD_FAB, PD_KPR, PD_PCIE and PD_TEST are powered and no
other domain, no command waits, memory lists nothing, and the invariants of the fuses and of memory hold. Where the
Reset column names a fuse, a strap or a pin, and for state without a register, the values are the model's choice (log
entries 12, 113, 13). It follows spec/00_scope.md, spec/01_architecture.md, spec/02_control_interface.md. -/
def Obligations.ResetState : Prop :=
  (∀ b off : Nat, State.reset.reg b off = resetWord b off) ∧
  (State.reset.reg Blk.glb GLB.DOM_PWR = 0x80001F ∧ State.reset.reg Blk.glb GLB.FLOOR_STAT &&& 0x1F = 0x11 ∧ State.reset.reg
    Blk.therm THERM.THR_CTL = 0x200340 ∧ State.reset.reg Blk.fog FOG.PHY_CFG = 0xA0029 ∧ State.reset.reg Blk.twin
    TWIN.PAIR_CTL = 0x3C0A02 ∧ State.reset.reg Blk.log LOG.RATE_CTL = 0x1000400 ∧ State.reset.reg Blk.pwr PWR.HS_LIMIT = 100
    ∧ State.reset.reg Blk.cfgv CFGV.TIMEOUT = 600 ∧ (∀ n : Fin 17, State.reset.reg (Blk.llane n) LLANE.RX_CTL = 0x1000) ∧ (∀
    m : Fin 64, State.reset.reg (Blk.hlane m) HLANE.NEG_CTL = (if m.val < 32 then 0x3F else 0x37)) ∧ (∀ n : Fin 4,
    State.reset.reg Blk.time (TIME.TPO_PERIOD n) = 1000000000) ∧ (∀ n : Fin 4, State.reset.fb Blk.time (TIME.TB_CTL_EN n) =
    decide (n = 0))) ∧
  (∀ b : Nat, State.reset.intStat b = 0 ∧ State.reset.intEnable b = 0) ∧
  (∀ d : Nat, State.reset.domOn.getLsbD d = decide (d ∈ [Dom.aon, Dom.clk, Dom.fab, Dom.kpr, Dom.pcie, Dom.test])) ∧
  (State.reset.pending = [] ∧ State.reset.sram.bytes = [] ∧ State.reset.ddr.bytes = [] ∧ State.reset.fuse.Ok ∧ Memory.wf
    State.reset.sram.bytes ∧ Memory.wf State.reset.ddr.bytes)

/-- The model's choice (log entry 2): with an empty queue a step is one edge of the AON clock. While the device is in reset
or the crystal does not run, nothing changes; else AON_CNT counts one more, the queue stays empty, and no power domain,
pin, fuse or byte of memory changes. It follows spec/11_time.md, spec/19_electrical.md. -/
def Obligations.IdleClock : Prop :=
  (∀ s : State, s.pending = [] → (s.inReset = true ∨ s.fb Blk.aon AON.XTAL_STAT_OK = false) → step s = .next s) ∧
  (∀ s : State, s.pending = [] → s.inReset = false → s.fb Blk.aon AON.XTAL_STAT_OK = true → ∃ t, step s = .next t ∧ t.aonCnt =
    (s.aonCnt + 1) % 2 ^ 64 ∧ t.pending = [] ∧ t.domOn = s.domOn ∧ t.fuse = s.fuse ∧ t.perst = s.perst ∧ t.clrPin = s.clrPin
    ∧ t.flash = s.flash ∧ s.KeepsRam t)

/-- Every command in every state answers a next state, and so does a step of every state: the model has no fault and no
refusal (the spec gives every row an effect). It follows spec/02_control_interface.md, spec/98_reader.md. -/
def Obligations.EveryCommandCompletes : Prop :=
  (∀ (c : Instr) (s : State), Completes (exec c s)) ∧
  (∀ s : State, s.Live)

/-- PCIE_PERST resets the function and no other block; LINK_UP and LINK_DOWN set LINK_STAT; a configuration write sets
D3hot, bus mastering and MSI-X enable; a request outside the function is answered with Unsupported Request. Each row
completes with that effect and leaves every other block's registers alone. It follows R28, R32, R55, R385, R445 in the
parts that these sentences say. -/
def Obligations.PcieFunctionEvents : Prop :=
  (∀ (s : State), Gives .pciePerst s fun t => t.perst = true ∧ t.msix = [] ∧ t.pba = 0 ∧ t.msixEn = false ∧ t.busMaster =
    false ∧ t.d3hot = false ∧ s.KeepsRegs [Blk.pcie] t ∧ s.KeepsUnitsBut (fun u =>
    { u with msix := [], msixEn := false, busMaster := false, d3hot := false, perst := false }) t) ∧
  (∀ (s : State) (speed : Fin 6) (width : Fin 5) (flit : Bool) (rev : Bool), s.domReady Dom.pcie = true → s.held = false →
    Gives (.linkUp speed width flit rev) s fun t => t.perst = false ∧ t.f Blk.pcie PCIE.LINK_STAT_SPEED = speed.val + 1 ∧
    t.f Blk.pcie PCIE.LINK_STAT_WIDTH = 2 ^ width.val ∧ t.fb Blk.pcie PCIE.LINK_STAT_FLIT = flit ∧ t.fb Blk.pcie
    PCIE.LINK_STAT_REVERSED = rev ∧ t.f Blk.pcie PCIE.LINK_STAT_DL_ACTIVE = 1 ∧ s.KeepsRegs [Blk.pcie] t ∧ s.KeepsUnitsBut
    (fun u => { u with perst := false }) t) ∧
  (∀ (s : State), s.domReady Dom.pcie = true → Gives .linkDown s fun t => t.f Blk.pcie PCIE.LINK_STAT_DL_ACTIVE = 0 ∧
    s.KeepsRegs [Blk.pcie] t ∧ s.KeepsUnits t) ∧
  (∀ (s : State) (d : Bool) (b : Bool) (m : Bool), s.domReady Dom.pcie = true → s.held = false → Gives (.pcieConfigWrite d b
    m) s fun t => t.d3hot = d ∧ t.busMaster = b ∧ t.msixEn = m ∧ s.KeepsRegs [] t ∧ s.KeepsUnitsBut (fun u =>
    { u with msixEn := false, busMaster := false, d3hot := false }) t) ∧
  (∀ (s : State), s.domReady Dom.pcie = true → s.held = false → Gives .unsupportedRequest s fun t => t.f Blk.pcie
    PCIE.ERR_STAT_UR_SENT = 1 ∧ OutMsg.unsupported ∈ t.out ∧ s.KeepsRegs [Blk.pcie] t ∧ s.KeepsUnits t) ∧
  (∀ (s : State) (v : Fin 256), s.domReady Dom.pcie = true → s.held = false → Gives (.msixUnmask v) s fun t => t.msixMasked v
    = false ∧ s.KeepsRegs [] t ∧ s.KeepsUnitsBut (fun u => { u with msix := [] }) t) ∧
  (∀ (s : State) (v : Fin 256), s.domReady Dom.pcie = true → s.held = false → s.msixEn = true → s.linkUp = true →
    s.pba.getLsbD v = true → s.vectorInput v = true → Gives (.msixUnmask v) s fun t => t.msixMasked v = false ∧ OutMsg.msix
    v (s.msixWord v 0) (s.msixWord v 1) (s.msixWord v 2) ∈ t.out ∧ s.KeepsRegs [] t ∧ s.KeepsUnitsBut (fun u =>
    { u with msix := [] }) t)

/-- A whole-word write of INT_EN through the direct window or an alias stores the direct, set, cleared or toggled word and
changes nothing else; an unmapped or partial write changes no register but GLB's error record; a lower word of a wide
register waits in the requester's holding register, and the most significant word of EXPECT_ID applies the held ones; an
access to a block that is off is recorded in GLB. It follows R15, R37, R38, R39, R40, R41 in the parts that these
sentences say. -/
def Obligations.BusWrites : Prop :=
  (∀ (s : State) (b : Nat) (al : Nat) (q : Requester) (addr : BitVec 24) (be : BitVec 4) (v : Word), s.dbgAdmits q true = true
    → be = 15 → addr.toNat % 4 = 0 → bar0Target addr.toNat = .reg b HDR.INT_EN al → s.reach b = true → Gives (.regWrite q
    addr be v) s fun t => t.intEn = SMap.put 0 s.intEn b (if al = 0 then v else if al = 1 then s.intEnable b ||| v else if
    al = 2 then s.intEnable b &&& ~~~v else s.intEnable b ^^^ v) ∧ s.KeepsRegs [] t ∧ s.KeepsUnits t) ∧
  (∀ (s : State) (q : Requester) (addr : BitVec 24) (be : BitVec 4) (v : Word), s.dbgAdmits q true = true → s.domReady Dom.fab
    = true → be = 15 → addr.toNat % 4 = 0 → bar0Target addr.toNat = .unmapped → Gives (.regWrite q addr be v) s fun t => t.f
    Blk.glb GLB.STAT_UNMAPPED = 1 ∧ t.f Blk.glb GLB.STAT_SRC = reqCode q ∧ t.reg Blk.glb GLB.ACC_ERR_ADDR = addr.setWidth 32
    ∧ s.KeepsRegs [Blk.glb] t ∧ s.KeepsUnits t) ∧
  (∀ (s : State) (q : Requester) (addr : BitVec 24) (be : BitVec 4) (v : Word), s.dbgAdmits q true = true → s.domReady Dom.fab
    = true → (be ≠ 15 ∨ addr.toNat % 4 ≠ 0) → Gives (.regWrite q addr be v) s fun t => t.f Blk.glb GLB.STAT_ACCESS_ERR = 1 ∧
    t.f Blk.glb GLB.STAT_SRC = reqCode q ∧ t.reg Blk.glb GLB.ACC_ERR_ADDR = addr.setWidth 32 ∧ s.KeepsRegs [Blk.glb] t ∧
    s.KeepsUnits t) ∧
  (∀ (s : State) (b : Nat) (off : Nat) (al : Nat) (top : Nat) (q : Requester) (addr : BitVec 24) (v : Word), s.dbgAdmits q
    true = true → addr.toNat % 4 = 0 → bar0Target addr.toNat = .reg b off al → s.reach b = true → wideTop b off = some top →
    Gives (.holdingWrite q addr v) s fun t => t.hold = SMap.set s.hold (reqCode q) ⟨regKey b top, SMap.set (s.heldFor q
    (regKey b top)) (regKey b off) ⟨al, v⟩⟩ ∧ s.KeepsRegs [] t ∧ s.KeepsUnitsBut (fun u => { u with hold := [] }) t) ∧
  (∀ (s : State) (i : Fin 3) (lo : Word) (q : Requester) (addr : BitVec 24) (v : Word), s.dbgAdmits q true = true → bar0Target
    addr.toNat = .reg Blk.twin (TWIN.EXPECT_ID 3) 0 → addr.toNat % 4 = 0 → s.reach Blk.twin = true → SMap.get? s.hold
    (reqCode q) = some ⟨regKey Blk.twin (TWIN.EXPECT_ID 3), [(regKey Blk.twin (TWIN.EXPECT_ID i), ⟨0, lo⟩)]⟩ → Gives
    (.holdingWrite q addr v) s fun t => t.reg Blk.twin (TWIN.EXPECT_ID i) = lo ∧ t.reg Blk.twin (TWIN.EXPECT_ID 3) = v ∧
    SMap.get? t.hold (reqCode q) = none ∧ s.KeepsRegs [Blk.twin] t ∧ s.KeepsBlk Blk.twin [TWIN.EXPECT_ID i, TWIN.EXPECT_ID
    3] t ∧ s.KeepsUnitsBut (fun u => { u with hold := [] }) t) ∧
  (∀ (s : State) (b : Nat) (o : Nat) (al : Nat) (q : Requester) (bar : Bar) (off : BitVec 34) (w : Bool), bar = .bar0 →
    s.dbgAdmits q w = true → s.domReady Dom.fab = true → off.toNat % 4 = 0 → bar0Target off.toNat = .reg b o al → s.reach b
    = false → Gives (.offAccess q bar off w) s fun t => t.f Blk.glb GLB.OFF_ACC_ADDR_BAR = 0 ∧ t.f Blk.glb
    GLB.OFF_ACC_ADDR_OFFSET = off.toNat ∧ t.fb Blk.glb GLB.OFF_ACC_STAT_WAS_WRITE = w ∧ t.f Blk.glb
    GLB.OFF_ACC_STAT_OFF_ACCESS = 1 ∧ t.f Blk.glb GLB.OFF_ACC_STAT_COUNT = min 65535 (s.f Blk.glb GLB.OFF_ACC_STAT_COUNT +
    1) ∧ (w = false → OutMsg.regData q off.toNat 0 ∈ t.out) ∧ s.KeepsRegs [Blk.glb] t ∧ s.KeepsUnits t) ∧
  (∀ (s : State) (q : Requester) (bar : Bar) (off : BitVec 34) (len : Nat) (flips : List Flip), bar = .bar4 → flips = [] →
    s.memReach q = true → 0 < len → s.inBar .bar4 off.toNat len = true → s.bar4Judge off.toNat len = .ok → s.ddr.flips = []
    → s.ddr.poison = [] → Gives (.hostMemRead q bar off len flips) s fun t => OutMsg.memData .bar4 off.toNat ((List.range
    len).map fun i => if s.ddrValid ((off.toNat + i) / 4096) then SMap.get 0 s.ddr.bytes (off.toNat + i) else 0) ∈ t.out ∧
    t.ddr = s.ddr ∧ t.sram = s.sram ∧ s.KeepsRegs [] t ∧ s.KeepsUnitsBut (fun u =>
    { u with sram := {}, ddr := {}, log := {} }) t ∧ s.KeepsRam t) ∧
  (∀ (s : State) (a : Nat) (q : Requester) (bar : Bar) (off : BitVec 34) (data : List Byte), bar = .bar4 → s.memReach q = true
    → data ≠ [] → s.inBar .bar4 off.toNat data.length = true → s.bar4Judge off.toNat data.length = .ok → Gives
    (.hostMemWrite q bar off data) s fun t => (∀ i < data.length, SMap.get 0 t.ddr.bytes (off.toNat + i) = data.getD i 0) ∧
    (a < off.toNat ∨ off.toNat + data.length ≤ a → s.ddrValid (a / 4096) = true → SMap.get 0 t.ddr.bytes a = SMap.get 0
    s.ddr.bytes a) ∧ t.ddrValid (off.toNat / 4096) = true ∧ t.sram = s.sram ∧ s.KeepsRegs [Blk.mem, Blk.ddr, Blk.log] t ∧
    s.KeepsUnitsBut (fun u => { u with ddr := {} }) t)

/-- An I2C write advances the sub-address by its data bytes; a read returns the window's bytes and advances it, wrapping at
16; each of the four commands starts an access when none is under way and ADDR lies in BAR0; its completion clears BUSY
and advances ADDR by 4 after commands 0x05 and 0x06; an address match in a state that lists I2C wakes the device. It
follows R33, R34, R35, R393, R394 in the parts that these sentences say. -/
def Obligations.I2cTarget : Prop :=
  (∀ (s : State) (first : Byte) (rest : List Byte), s.domReady Dom.aon = true → Gives (.i2cWrite (first :: rest)) s fun t =>
    t.i2c.sub = first.setWidth 4 + BitVec.ofNat 4 rest.length ∧ s.KeepsRegs [] t ∧ s.KeepsUnitsBut (fun u =>
    { u with i2c := {} }) t) ∧
  (∀ (s : State) (first : Byte) (x : Byte), s.domReady Dom.aon = true → s.i2c.busy = false → first.toNat % 16 < 4 → Gives
    (.i2cWrite [first, x]) s fun t => i2cAt t.i2c (first.toNat % 16) = x ∧ t.i2c.data = s.i2c.data ∧ t.i2c.busy = false ∧
    s.KeepsRegs [] t ∧ s.KeepsUnitsBut (fun u => { u with i2c := {} }) t) ∧
  (∀ (s : State) (n : Nat), s.domReady Dom.aon = true → Gives (.i2cRead n) s fun t => OutMsg.i2cData ((List.range n).map fun k
    => i2cAt s.i2c ((s.i2c.sub.toNat + k) % 16)) ∈ t.out ∧ t.i2c.sub = s.i2c.sub + BitVec.ofNat 4 n ∧ s.KeepsRegs [] t ∧
    s.KeepsUnitsBut (fun u => { u with i2c := {} }) t) ∧
  (∀ (s : State), s.domReady Dom.aon = true → s.i2c.busy = false → s.i2c.addr.toNat < 2 ^ 24 → Gives .i2cCmdRead s fun t =>
    t.i2c = { s.i2c with busy := true, cmd := 1, off := false, badCmd := false, accessErr := false } ∧ s.KeepsRegs [] t ∧
    s.KeepsUnitsBut (fun u => { u with i2c := {} }) t) ∧
  (∀ (s : State), s.domReady Dom.aon = true → s.i2c.busy = false → s.i2c.addr.toNat < 2 ^ 24 → Gives .i2cCmdWrite s fun t =>
    t.i2c = { s.i2c with busy := true, cmd := 2, off := false, badCmd := false, accessErr := false } ∧ s.KeepsRegs [] t ∧
    s.KeepsUnitsBut (fun u => { u with i2c := {} }) t) ∧
  (∀ (s : State), s.domReady Dom.aon = true → s.i2c.busy = false → s.i2c.addr.toNat < 2 ^ 24 → Gives .i2cCmdReadInc s fun t =>
    t.i2c = { s.i2c with busy := true, cmd := 5, off := false, badCmd := false, accessErr := false } ∧ s.KeepsRegs [] t ∧
    s.KeepsUnitsBut (fun u => { u with i2c := {} }) t) ∧
  (∀ (s : State), s.domReady Dom.aon = true → s.i2c.busy = false → s.i2c.addr.toNat < 2 ^ 24 → Gives .i2cCmdWriteInc s fun t
    => t.i2c = { s.i2c with busy := true, cmd := 6, off := false, badCmd := false, accessErr := false } ∧ s.KeepsRegs [] t ∧
    s.KeepsUnitsBut (fun u => { u with i2c := {} }) t) ∧
  (∀ (s : State), s.domReady Dom.aon = true → s.i2c.busy = true → s.f Blk.pwr PWR.STAT_STATE < 3 → Gives .i2cAccessDone s fun
    t => t.i2c.busy = false ∧ t.i2c.sub = s.i2c.sub ∧ (t.i2c.addr = if s.i2c.cmd = 5 ∨ s.i2c.cmd = 6 then s.i2c.addr + 4
    else s.i2c.addr)) ∧
  (∀ (s : State) (b : Nat), s.domReady Dom.aon = true → s.i2c.busy = true → s.i2c.cmd = 1 → s.f Blk.pwr PWR.STAT_STATE < 3 →
    bar0Target (s.i2c.addr.toNat - s.i2c.addr.toNat % 4) = .reg b HDR.INT_EN 0 → s.reach b = true → Gives .i2cAccessDone s
    fun t => t.i2c.data = s.intEnable b ∧ t.i2c.off = false ∧ s.KeepsRegs [] t ∧ s.KeepsUnitsBut (fun u =>
    { u with i2c := {} }) t) ∧
  (∀ (s : State), s.domReady Dom.aon = true → (s.f Blk.pwr PWR.WAKE_EN_EN).testBit 4 = true → 1 ≤ s.wakeState → s.wakeState ≤
    5 → Gives .i2cAddressMatch s fun t => t.pwr.wake = true ∧ (t.f Blk.pwr PWR.WAKE_STAT_SEEN).testBit 4 = true ∧ (t.intStat
    Blk.pwr).getLsbD PWR.INT_WAKE = true ∧ s.KeepsRegs [Blk.pwr] t ∧ s.KeepsUnitsBut (fun u => { u with pwr := {} }) t)

/-- SOFT_RESET returns a block's header to its Reset values; STAGE changes load or drop the shadows; INT_FORCE sets and
INT_STAT_CLEAR clears the bits written; COMMIT_NOW of consistent shadows reports APPLIED; DISCARD reloads the shadows;
ARM and DISARM set and clear ARMED, with DISARMED reported. It follows R8, R43, R45, R46, R48, R49, R53, R55 in the
parts that these sentences say. -/
def Obligations.PageHeaderCommands : Prop :=
  (∀ (s : State) (q : Requester) (b : Fin 179), s.Serves q b true → Gives (.softReset q b) s fun t => t.reg b HDR.BLK_CTL =
    resetWord b HDR.BLK_CTL ∧ t.intEnable b = 0 ∧ t.armed b = false ∧ t.dirty b = false) ∧
  (∀ (s : State) (off : Nat) (q : Requester) (b : Fin 179), s.Serves q b true → hasStage (blkType b) = true → s.staged b =
    false → off ∈ rwsOffs b → Gives (.stageOn q b) s fun t => t.staged b = true ∧ SMap.get? t.shadows (regKey b off) = some
    (s.reg b off) ∧ t.dirty b = false ∧ s.KeepsRegs [b] t ∧ s.KeepsUnits t ∧ s.KeepsBlk b [HDR.BLK_CTL] t) ∧
  (∀ (s : State) (off : Nat) (q : Requester) (b : Fin 179), s.Serves q b true → hasStage (blkType b) = true → s.staged b =
    true → off < 4096 → Gives (.stageOff q b) s fun t => t.staged b = false ∧ t.armed b = false ∧ SMap.get? t.shadows
    (regKey b off) = none ∧ s.KeepsRegs [b] t ∧ s.KeepsUnits t) ∧
  (∀ (s : State) (q : Requester) (b : Fin 179) (v : Word), s.Serves q b true → Gives (.intForce q b v) s fun t => t.intStat b
    &&& (v &&& intSources b) = v &&& intSources b ∧ (b.val ≠ Blk.perf → t.intStat b = s.intStat b ||| (v &&& intSources b))
    ∧ s.KeepsRegs [b] t ∧ (s.KeepsBlk b [HDR.EVT_TIME_LO, HDR.EVT_TIME_HI] t ∨ b.val = Blk.perf) ∧ s.KeepsUnits t) ∧
  (∀ (s : State) (q : Requester) (b : Fin 179) (v : Word), s.Serves q b true → Machine.blkEngines b = [] → b.val ≠ Blk.perf →
    Gives (.intStatClear q b v) s fun t => t.intStat b = s.intStat b &&& ~~~v ∧ s.KeepsRegs [b] t ∧ s.KeepsBlk b [] t ∧
    s.KeepsUnits t) ∧
  (∀ (s : State) (q : Requester) (b : Fin 179) (v : Word), s.Serves q b true → b.val ≠ Blk.perf → Gives (.intStatClear q b v)
    s fun t => (s.intStat b &&& ~~~v) &&& ~~~(t.intStat b) = 0 ∧ s.KeepsRegs [b] t ∧ s.KeepsUnits t) ∧
  (∀ (s : State) (q : Requester) (b : Fin 179), s.Serves q b true → hasStage (blkType b) = true → s.staged b = true →
    s.pairsBad b (s.shadow b) s.portView = [] → s.shadowFault b = false → Gives (.commitNow q b) s fun t => t.f b
    HDR.STAGE_STAT_LAST = 1 ∧ t.armed b = false ∧ t.dirty b = false ∧ (t.intStat b).getLsbD HDR.INT_COMMIT = true ∧
    s.KeepsRegs (b.val :: ([Blk.ddr, Blk.log, Blk.time, Blk.tsu, Blk.sched, Blk.hk, Blk.filt, Blk.hdac, Blk.therm, Blk.fog,
    Blk.twin, Blk.pmap, Blk.fec] ++ Blk.lines ++ Blk.lineEngines ++ Blk.hostEngines ++ Blk.hosts ++ Blk.ports)) t ∧
    s.KeepsUnitsBut (fun u =>
    { u with line := [], engines := [], sram := {}, laneTsu := [], tpoIssued := [], sched := {}, twin := {}, hk := [], hdac := [], log := {} })
    t ∧ s.KeepsRam t) ∧
  (∀ (s : State) (q : Requester) (b : Fin 179), s.Serves q b true → hasStage (blkType b) = true → s.staged b = true → Gives
    (.discard q b) s fun t => t.dirty b = false ∧ t.armed b = false ∧ s.KeepsRegs [b] t ∧ s.KeepsUnits t) ∧
  (∀ (s : State) (q : Requester) (b : Fin 179) (se : Fin 256), s.Serves q b true → hasStage (blkType b) = true → s.staged b =
    true → s.armed b = false → Gives (.arm q b se) s fun t => t.armed b = true ∧ t.f b HDR.STAGE_CTL_COMMIT_SE = se ∧ t.f b
    HDR.STAGE_CTL_SE_EN = 1 ∧ s.KeepsRegs [b] t ∧ s.KeepsBlk b [HDR.STAGE_CTL, HDR.STAGE_STAT] t ∧ s.KeepsUnits t) ∧
  (∀ (s : State) (q : Requester) (b : Fin 179), s.Serves q b true → s.armed b = true → Gives (.disarm q b none) s fun t =>
    t.armed b = false ∧ t.f b HDR.STAGE_STAT_LAST = 7 ∧ (t.intStat b).getLsbD HDR.INT_COMMIT = true ∧ s.KeepsRegs [b] t ∧
    s.KeepsUnits t) ∧
  (∀ (s : State) (k : Fin 256) (q : Requester) (b : Fin 179), s.Serves q b true → hasStage (blkType b) = true → s.staged b =
    true → s.armed b = true → s.f b HDR.STAGE_CTL_COMMIT_SE ≠ k.val → Gives (.disarm q b (some k)) s fun t => t.armed b =
    true ∧ t.f b HDR.STAGE_CTL_COMMIT_SE = k ∧ t.f b HDR.STAGE_STAT_LAST = 7 ∧ s.KeepsRegs [b] t ∧ s.KeepsUnitsBut (fun u =>
    { u with line := [], engines := [], sram := {}, laneTsu := [], tpoIssued := [], sched := {}, twin := {}, hk := [], hdac := [], log := {} })
    t ∧ s.KeepsRam t)

/-- The sweep moves to the register it reads and reports a new single upset; a reported fault of a register in the active
image is restored; loss of REFCLK moves the device to the AON clock and marks the running time bases COARSE, and the
relock takes both back; the crystal's stop and return show in XTAL_STAT; PORST_N leaves nothing powered, and its release
ends the reset. It follows R8, R19, R51, R52, R273, R277, R422, R444, R458 in the parts that these sentences say. -/
def Obligations.ParityAndClocks : Prop :=
  (∀ (s : State) (b : Fin 179) (word : Fin 1024) (shadow : Bool) (upset : BitVec 33), s.fabOn = true → s.f Blk.glb
    GLB.PSWEEP_CTL_EN = 1 → s.blkOn b = true → shadow = false → protectedBits b (4 * word.val) ≠ 0 → Gives (.paritySweep b
    word shadow upset) s fun t => t.f Blk.glb GLB.PSWEEP_STAT_CUR_BLK = b ∧ t.sweepAt = regKey b (4 * word.val) ∧
    s.KeepsRegs [b.val, Blk.glb, Blk.log] t ∧ s.KeepsUnitsBut (fun u =>
    { u with line := [], engines := [], sram := {}, laneTsu := [], tpoIssued := [], sched := {}, twin := {}, hk := [], hdac := [], log := {}, sweepAt := 0, sweepLap := 0 })
    t ∧ s.KeepsRam t) ∧
  (∀ (s : State) (b : Fin 179) (word : Fin 1024) (shadow : Bool) (upset : BitVec 33), s.fabOn = true → s.f Blk.glb
    GLB.PSWEEP_CTL_EN = 1 → s.blkOn b = true → shadow = false → upset = 0 → protectedBits b (4 * word.val) ≠ 0 → regKey b (4
    * word.val) ∈ s.parBad → regKey b (4 * word.val) ∉ s.parSeen → Gives (.paritySweep b word shadow upset) s fun t => t.f b
    HDR.PAR_STAT_ERR = 1 ∧ t.f b HDR.PAR_STAT_SHADOW = 0 ∧ t.f b HDR.PAR_STAT_WORD = word ∧ (t.intStat b).getLsbD
    HDR.INT_PARITY = true ∧ regKey b (4 * word.val) ∈ t.parSeen ∧ s.KeepsRegs [b.val, Blk.glb, Blk.log] t ∧ s.KeepsUnitsBut
    (fun u =>
    { u with line := [], engines := [], sram := {}, laneTsu := [], tpoIssued := [], sched := {}, twin := {}, hk := [], hdac := [], log := {}, sweepAt := 0, sweepLap := 0 })
    t ∧ s.KeepsRam t) ∧
  (∀ (s : State) (x : CfgImage) (w : Word) (b : Fin 179) (word : Fin 1024), s.domReady Dom.kpr = true → s.blkOn b = true →
    s.fb Blk.cfgv CFGV.CTL_AUTO_RESTORE = true → s.cfgv.active = some x → imgValues x = [(b.val, 4 * word.val, w)] → regKey
    b (4 * word.val) ∈ s.parBad → regKey b (4 * word.val) ∈ s.parSeen → Gives (.parityRestore b word) s fun t => regKey b (4
    * word.val) ∉ t.parBad ∧ (t.intStat Blk.cfgv).getLsbD CFGV.INT_RESTORED = true ∧ (b.val ≠ Blk.cfgv → t.reg Blk.cfgv
    CFGV.RESTORE_CNT = BitVec.ofNat 32 (min (2 ^ 32 - 1) ((s.reg Blk.cfgv CFGV.RESTORE_CNT).toNat + 1))) ∧ s.KeepsUnitsBut
    (fun u =>
    { u with line := [], engines := [], sram := {}, laneTsu := [], tpoIssued := [], sched := {}, twin := {}, hk := [], hdac := [], log := {} })
    t ∧ s.KeepsRam t) ∧
  (∀ (s : State) (x : CfgImage) (w : Word) (b : Fin 179) (word : Fin 1024), s.domReady Dom.kpr = true → s.blkOn b = true →
    s.fb Blk.cfgv CFGV.CTL_AUTO_RESTORE = true → s.cfgv.active = some x → imgValues x = [(b.val, 4 * word.val, w)] → b.val =
    Blk.glb → 4 * word.val = GLB.MSIX_MAP 0 → regKey b (4 * word.val) ∈ s.parBad → regKey b (4 * word.val) ∈ s.parSeen →
    Gives (.parityRestore b word) s fun t => t.reg Blk.glb (GLB.MSIX_MAP 0) = w ∧ s.KeepsRegs [Blk.glb, Blk.cfgv] t ∧
    s.KeepsBlk Blk.glb [GLB.MSIX_MAP 0] t ∧ s.KeepsUnitsBut (fun u =>
    { u with line := [], engines := [], sram := {}, laneTsu := [], tpoIssued := [], sched := {}, twin := {}, hk := [], hdac := [], log := {} })
    t ∧ s.KeepsRam t) ∧
  (∀ (s : State) (n : Fin 4) (ppm : BitVec 16), s.blkOn Blk.clk = true → s.fb Blk.clk CLK.STAT_ON_AON = false → Gives
    (.refclkLoss ppm) s fun t => t.fb Blk.clk CLK.STAT_ON_AON = true ∧ t.fb Blk.clk CLK.STAT_REF_LOST = true ∧ t.fb Blk.clk
    CLK.STAT_REF_PLL_LOCK = false ∧ t.f Blk.clk CLK.REF_PPM_PPM = ppm.toNat ∧ t.refAt = s.aonCnt ∧ t.refBack = false ∧
    (s.timeOn = true → s.fb Blk.time (TIME.TB_STAT_RUNNING n) = true → t.fb Blk.time (TIME.TB_STAT_COARSE n) = true) ∧
    s.KeepsRegs ([Blk.pwr, Blk.clk, Blk.ddr, Blk.dma, Blk.log, Blk.time, Blk.sched, Blk.therm, Blk.twin, Blk.pmap, Blk.fec]
    ++ Blk.lines ++ Blk.lineEngines ++ Blk.hostEngines ++ Blk.hosts ++ Blk.ports) t ∧ s.KeepsUnitsBut (fun u =>
    { u with refAt := 0, refBack := false, engines := [], sram := {}, sched := {}, twin := {}, ddr := {}, pwr := {}, dma := [], log := {} })
    t) ∧
  (∀ (s : State) (ppm : BitVec 16), s.blkOn Blk.clk = true → s.fb Blk.clk CLK.STAT_ON_AON = true → s.refBack = false →
    ppm.toInt.natAbs ≤ 1000 → Gives (.refclkReturn ppm) s fun t => t.refBack = true ∧ t.f Blk.clk CLK.REF_PPM_PPM =
    ppm.toNat ∧ (t.intStat Blk.clk).getLsbD 5 = true ∧ s.KeepsRegs [Blk.clk] t ∧ s.KeepsUnitsBut (fun u =>
    { u with refBack := false }) t) ∧
  (∀ (s : State), s.blkOn Blk.clk = true → s.fb Blk.clk CLK.STAT_ON_AON = true → s.refBack = true → Gives .refPllRelock s fun
    t => t.fb Blk.clk CLK.STAT_ON_AON = false ∧ t.fb Blk.clk CLK.STAT_REF_PLL_LOCK = true ∧ t.refBack = false ∧ s.KeepsRegs
    ([Blk.clk, Blk.log, Blk.time, Blk.sched, Blk.therm, Blk.twin, Blk.pmap, Blk.fec] ++ Blk.lines ++ Blk.lineEngines ++
    Blk.hostEngines ++ Blk.hosts ++ Blk.ports) t ∧ s.KeepsUnitsBut (fun u =>
    { u with refBack := false, sram := {}, sched := {}, twin := {}, log := {} }) t ∧ s.KeepsRam t) ∧
  (∀ (s : State), s.blkOn Blk.aon = true → s.fb Blk.aon AON.XTAL_STAT_OK = true → Gives .xtalFail s fun t => t.fb Blk.aon
    AON.XTAL_STAT_OK = false ∧ t.fb Blk.aon AON.XTAL_STAT_FAIL_SEEN = true ∧ t.aonCnt = s.aonCnt ∧ s.KeepsRegs [Blk.aon] t ∧
    s.KeepsUnits t) ∧
  (∀ (s : State), s.blkOn Blk.aon = true → Gives .xtalResume s fun t => t.fb Blk.aon AON.XTAL_STAT_OK = true ∧ t.aonCnt =
    s.aonCnt ∧ s.KeepsRegs [Blk.aon] t ∧ s.KeepsUnits t) ∧
  (∀ (s : State), Gives .porstNLow s fun t => t.inReset = true ∧ t.domOn = 0 ∧ t.pending = s.pending ∧ t.fuseFloorHk =
    s.fuseFloorHk ∧ t.perst = s.perst ∧ t.sram.valid = [] ∧ t.intEn = [] ∧ (s.fuse.target = none → t.fuse = s.fuse)) ∧
  (∀ (s : State) (x : BootInput), Gives (.powerOnReset x) s fun t => t.inReset = false ∧ t.pending = s.pending ∧ t.fuseFloorHk
    = s.fuseFloorHk ∧ t.f Blk.aon AON.PIN_STAT_I2C_A = x.straps.toNat ∧ (t.f Blk.aon AON.RESET_CAUSE_CAUSE = 0 ∨ t.f Blk.aon
    AON.RESET_CAUSE_CAUSE = 2) ∧ t.perst = s.perst)

/-- PROVISION and FIELD start the next transition for the requesters R403 names, and its end moves the lifecycle, or sets
FUSE_FAIL; ARB_CTL raises the counter as far as the running firmware's SVN; LOAD in RECOVERY starts a firmware image
that verifies; RESTART and LOCKSTEP take the Keeper back to its boot ROM; HALT and STEP act at OPEN. It follows R403,
R409, R411, R412, R413, R414 in the parts that these sentences say. -/
def Obligations.LifecycleAndKeeper : Prop :=
  (∀ (s : State) (q : Requester), s.Serves q Blk.sec true → s.fuse.target = none → s.fuse.lifecycle = 0 → q ≠ .debug →
    s.hashSet = true → Gives (.provision q) s fun t => t.fuse.target = some 1 ∧ t.f Blk.sec SEC.LC_FUSE_BUSY = 1 ∧
    t.fuse.lifecycle = 0 ∧ s.KeepsRegs [Blk.sec] t ∧ s.KeepsBlk Blk.sec [SEC.LC] t ∧ s.KeepsUnitsBut (fun u =>
    { u with fuse := {} }) t) ∧
  (∀ (s : State) (q : Requester), s.Serves q Blk.sec true → s.fuse.target = none → s.fuse.lifecycle = 1 → (q = .keeper ∨ ((q =
    .pcie ∨ q = .i2c) ∧ s.dbgLevel = 2)) → Gives (.field q) s fun t => t.fuse.target = some 2 ∧ t.f Blk.sec SEC.LC_FUSE_BUSY
    = 1 ∧ t.fuse.lifecycle = 1 ∧ s.KeepsRegs [Blk.sec] t ∧ s.KeepsBlk Blk.sec [SEC.LC] t ∧ s.KeepsUnitsBut (fun u =>
    { u with fuse := {} }) t) ∧
  (∀ (s : State) (u : Nat), s.fuse.target = some u → s.blkOn Blk.sec = true → Gives (.lcChanged true) s fun t =>
    t.fuse.lifecycle = u ∧ t.fuse.target = none ∧ t.f Blk.sec SEC.LC_FUSE_BUSY = 0 ∧ (t.intStat Blk.sec).getLsbD
    SEC.INT_LC_CHANGED = true ∧ t.dbgLevel = 0 ∧ s.KeepsRegs [Blk.sec, Blk.dbg] t ∧ s.KeepsUnitsBut (fun u =>
    { u with fuse := {}, dbg := {} }) t) ∧
  (∀ (s : State) (u : Nat), s.fuse.target = some u → s.blkOn Blk.sec = true → Gives (.lcChanged false) s fun t => t.fuse =
    { s.fuse with target := none } ∧ t.f Blk.sec SEC.LC_FUSE_BUSY = 0 ∧ t.f Blk.sec SEC.LC_FUSE_FAIL = 1 ∧ (t.intStat
    Blk.sec).getLsbD SEC.INT_FUSE_FAIL = true ∧ s.KeepsRegs [Blk.sec] t ∧ s.KeepsUnitsBut (fun u =>
    { u with fuse := {}, dbg := {} }) t) ∧
  (∀ (s : State) (q : Requester) (v : Word), s.Serves q Blk.kpr true → q ≠ .debug → v.toNat / 256 = 0xA70000 → s.fuse.arb <
    v.toNat % 256 → v.toNat % 256 ≤ s.f Blk.kpr KPR.FW_SVN_SVN → Gives (.arbCtl q v) s fun t => t.fuse =
    { s.fuse with arb := v.toNat % 256 } ∧ (t.intStat Blk.kpr).getLsbD KPR.INT_ARB_ADVANCED = true ∧ s.KeepsRegs [Blk.kpr] t
    ∧ s.KeepsUnitsBut (fun u => { u with fuse := {} }) t) ∧
  (∀ (s : State) (q : Requester) (v : Word), s.Serves q Blk.kpr true → (v.toNat / 256 ≠ 0xA70000 ∨ v.toNat % 256 ≤ s.fuse.arb
    ∨ s.f Blk.kpr KPR.FW_SVN_SVN < v.toNat % 256) → Gives (.arbCtl q v) s fun t => t.fuse = s.fuse ∧ t.f Blk.kpr
    KPR.KSTAT_ARB_REFUSED = 1 ∧ s.KeepsRegs [Blk.kpr] t ∧ s.KeepsUnitsBut (fun u => { u with fuse := {} }) t) ∧
  (∀ (s : State) (q : Requester) (x : FwImage), s.Serves q Blk.kpr true → s.f Blk.kpr KPR.KSTAT_STAGE = 8 → s.f Blk.kpr
    KPR.KCTL_RESTART = 0 → (x.result.val = 0 ∨ x.result.val = 7) → Gives (.keeperLoad q x) s fun t => t.f Blk.kpr
    KPR.KSTAT_STAGE = 7 ∧ t.f Blk.kpr KPR.KSTAT_FW_RESULT = x.result.val ∧ t.f Blk.sec SEC.VERIFY_FW = x.result.val ∧ t.reg
    Blk.kpr KPR.FW_VER = x.version ∧ t.f Blk.kpr KPR.FW_SVN_SVN = x.svn.toNat ∧ s.KeepsRegs [Blk.kpr, Blk.sec] t ∧
    s.KeepsUnitsBut (fun u => { u with cfgv := {} }) t) ∧
  (∀ (s : State) (q : Requester) (x : FwImage), s.Serves q Blk.kpr true → s.f Blk.kpr KPR.KSTAT_STAGE = 8 → s.f Blk.kpr
    KPR.KCTL_RESTART = 0 → (x.result.val ≠ 0 ∧ x.result.val ≠ 7) → Gives (.keeperLoad q x) s fun t => t.f Blk.kpr
    KPR.KSTAT_STAGE = 8 ∧ t.f Blk.kpr KPR.KSTAT_FW_RESULT = x.result.val ∧ t.reg Blk.kpr KPR.FW_VER = s.reg Blk.kpr
    KPR.FW_VER ∧ s.KeepsRegs [Blk.kpr, Blk.sec] t ∧ s.KeepsUnitsBut (fun u => { u with cfgv := {} }) t) ∧
  (∀ (s : State) (q : Requester), s.Serves q Blk.kpr true → Gives (.keeperRestart q) s fun t => t.f Blk.kpr KPR.KSTAT_STAGE =
    0 ∧ t.fuse = s.fuse ∧ s.KeepsRegs [Blk.kpr] t ∧ s.KeepsUnitsBut (fun u => { u with cfgv := {} }) t) ∧
  (∀ (s : State) (q : Requester) (on : Bool), s.Serves q Blk.kpr true → (q = .keeper ∨ s.dbgLevel = 2) → s.f Blk.kpr
    KPR.KCTL_RESTART = 0 → s.f Blk.kpr KPR.KCTL_LOAD = 0 → Gives (.keeperHalt q on) s fun t => t.fb Blk.kpr KPR.KCTL_HALT =
    on ∧ t.f Blk.kpr KPR.KSTAT_STAGE = s.f Blk.kpr KPR.KSTAT_STAGE ∧ s.KeepsRegs [Blk.kpr] t ∧ s.KeepsBlk Blk.kpr [KPR.KCTL]
    t ∧ s.KeepsUnits t) ∧
  (∀ (s : State) (q : Requester), s.Serves q Blk.kpr true → (q = .keeper ∨ s.dbgLevel = 2) → s.fb Blk.kpr KPR.KCTL_HALT = true
    → Gives (.keeperStep q) s fun t => t.fb Blk.kpr KPR.KCTL_HALT = true ∧ s.KeepsRegs [Blk.kpr] t ∧ s.KeepsUnitsBut (fun u
    => { u with cfgv := {} }) t) ∧
  (∀ (s : State), s.domReady Dom.kpr = true → Gives .lockstep s fun t => t.f Blk.kpr KPR.KSTAT_LOCKSTEP = 1 ∧ t.f Blk.kpr
    KPR.KSTAT_STAGE = 0 ∧ t.f Blk.kpr KPR.KSTAT_LOCKSTEP_CNT = min (2 ^ KPR.KSTAT_LOCKSTEP_CNT.w - 1) (s.f Blk.kpr
    KPR.KSTAT_LOCKSTEP_CNT + 1) ∧ (t.intStat Blk.kpr).getLsbD KPR.INT_LOCKSTEP = true ∧ s.KeepsRegs [Blk.kpr] t ∧
    s.KeepsUnitsBut (fun u => { u with cfgv := {} }) t) ∧
  (∀ (s : State) (us : Word) (fw : Option (List FwImage)), s.domReady Dom.kpr = true → s.f Blk.kpr KPR.KSTAT_STAGE = 0 →
    s.pwr.exitStep = 0 → fw = none → Gives (.keeperRestartDone us fw) s fun t => t.f Blk.kpr KPR.KSTAT_STAGE = 7 ∧ t.reg
    Blk.kpr KPR.BOOT_US = us ∧ t.f Blk.kpr KPR.KSTAT_FAST = 1 ∧ t.fuse = s.fuse)

/-- CHAL_NEW makes a fresh nonce; REQUEST grants the level the lifecycle allows without a token, or answers NOT_ALLOWED;
SUBMIT starts a check and spends the nonce; the check of a token without a fault grants its level, and one with a single
fault reports it; LOCK and the end of the duration return the level to CLOSED. It follows R414, R415, R416, R417 in the
parts that these sentences say. -/
def Obligations.DebugUnlock : Prop :=
  (∀ (s : State) (q : Requester), s.Serves q Blk.dbg true → s.f Blk.dbg DBG.CTL_REQUEST = 0 → s.f Blk.dbg DBG.CTL_SUBMIT = 0 →
    s.f Blk.dbg DBG.CTL_LOCK = 0 → Gives (.chalNew q) s fun t => t.dbg.fresh = true ∧ t.dbgLevel = s.dbgLevel ∧ s.KeepsRegs
    [Blk.dbg] t ∧ s.KeepsBlk Blk.dbg ((List.range 8).map DBG.CHAL) t ∧ s.KeepsUnitsBut (fun u => { u with dbg := {} }) t) ∧
  (∀ (s : State) (q : Requester) (level : Fin 4), s.Serves q Blk.dbg true → ((level = 1 ∧ s.fuse.lifecycle ≠ 2) ∨ (level = 2 ∧
    (s.fuse.lifecycle = 0 ∨ s.fuse.lifecycle = 3))) → Gives (.request q level) s fun t => t.dbgLevel = level ∧ t.reg Blk.dbg
    DBG.RESULT = 1 ∧ (t.intStat Blk.dbg).getLsbD DBG.INT_UNLOCKED = true ∧ t.dbg.until_ = none ∧ s.KeepsRegs [Blk.dbg] t ∧
    s.KeepsUnitsBut (fun u => { u with dbg := {} }) t) ∧
  (∀ (s : State) (q : Requester) (level : Fin 4), s.Serves q Blk.dbg true → (level = 1 ∨ level = 2) → s.fuse.lifecycle = 2 →
    Gives (.request q level) s fun t => t.dbgLevel = s.dbgLevel ∧ t.reg Blk.dbg DBG.RESULT = 6 ∧ (t.intStat Blk.dbg).getLsbD
    DBG.INT_REFUSED = true ∧ s.KeepsRegs [Blk.dbg] t ∧ s.KeepsUnits t) ∧
  (∀ (s : State) (q : Requester), s.Serves q Blk.dbg true → s.f Blk.dbg DBG.CTL_REQUEST = 0 → s.f Blk.dbg DBG.CTL_CHAL_NEW = 0
    → s.f Blk.dbg DBG.CTL_LOCK = 0 → s.f Blk.dbg DBG.STAT_BUSY = 0 → Gives (.submit q) s fun t => t.f Blk.dbg DBG.STAT_BUSY
    = 1 ∧ t.dbg.fresh = false ∧ (t.dbg.check.map fun c => c.1) = some s.dbg.token ∧ (s.dbg.fresh = false → (t.dbg.check.map
    fun c => c.2) = some false) ∧ t.dbgLevel = s.dbgLevel ∧ s.KeepsRegs [Blk.dbg] t ∧ s.KeepsBlk Blk.dbg [DBG.STAT] t ∧
    s.KeepsUnitsBut (fun u => { u with dbg := {} }) t) ∧
  (∀ (s : State) (tok : SMap Word) (nonce : Bool) (sigOk : Bool), s.dbg.check = some (tok, nonce) → s.tokenFaults tok nonce
    sigOk = [] → tokWord tok 1 / 2 ^ 24 = 0 → Gives (.tokenCheckDone sigOk) s fun t => t.dbgLevel = tokWord tok 1 / 2 ^ 8 %
    4 ∧ t.f Blk.dbg DBG.STAT_BUSY = 0 ∧ t.reg Blk.dbg DBG.RESULT = 1 ∧ (t.intStat Blk.dbg).getLsbD DBG.INT_UNLOCKED = true ∧
    t.fuse = s.fuse ∧ s.KeepsRegs [Blk.dbg] t ∧ s.KeepsUnitsBut (fun u => { u with fuse := {}, dbg := {} }) t) ∧
  (∀ (s : State) (tok : SMap Word) (nonce : Bool) (sigOk : Bool), s.dbg.check = some (tok, nonce) → s.tokenFaults tok nonce
    sigOk = [] → tokWord tok 1 / 2 ^ 24 = 1 → s.fuse.target = none → Gives (.tokenCheckDone sigOk) s fun t => t.fuse =
    { s.fuse with target := some 3 } ∧ t.f Blk.sec SEC.LC_FUSE_BUSY = 1 ∧ t.reg Blk.dbg DBG.RESULT = 1 ∧ t.f Blk.dbg
    DBG.STAT_BUSY = 0 ∧ s.KeepsRegs [Blk.dbg, Blk.sec] t ∧ s.KeepsUnitsBut (fun u => { u with fuse := {}, dbg := {} }) t) ∧
  (∀ (s : State) (tok : SMap Word) (nonce : Bool) (code : Nat) (sigOk : Bool), s.dbg.check = some (tok, nonce) → s.tokenFaults
    tok nonce sigOk = [code] → Gives (.tokenCheckDone sigOk) s fun t => t.reg Blk.dbg DBG.RESULT = BitVec.ofNat 32 code ∧
    t.f Blk.dbg DBG.STAT_BUSY = 0 ∧ t.dbgLevel = s.dbgLevel ∧ t.fuse = s.fuse ∧ (t.intStat Blk.dbg).getLsbD DBG.INT_REFUSED
    = true ∧ s.KeepsRegs [Blk.dbg] t ∧ s.KeepsUnitsBut (fun u => { u with fuse := {}, dbg := {} }) t) ∧
  (∀ (s : State) (q : Requester), s.Serves q Blk.dbg true → s.f Blk.dbg DBG.CTL_REQUEST = 0 → s.f Blk.dbg DBG.CTL_SUBMIT = 0 →
    s.f Blk.dbg DBG.CTL_CHAL_NEW = 0 → s.dbgLevel ≠ 0 → Gives (.lock q) s fun t => t.dbgLevel = 0 ∧ t.f Blk.dbg
    DBG.STAT_LAST_EXPIRY = 4 ∧ t.dbg.until_ = none ∧ (t.intStat Blk.dbg).getLsbD DBG.INT_EXPIRED = true ∧ s.KeepsRegs
    [Blk.dbg] t ∧ s.KeepsUnitsBut (fun u => { u with dbg := {} }) t) ∧
  (∀ (s : State) (n : Nat), s.dbg.until_ = some n → s.dbgLevel ≠ 0 → Gives .unlockExpiry s fun t => t.dbgLevel = 0 ∧ t.f
    Blk.dbg DBG.STAT_LAST_EXPIRY = 3 ∧ t.dbg.until_ = none ∧ (t.intStat Blk.dbg).getLsbD DBG.INT_EXPIRED = true ∧
    s.KeepsRegs [Blk.dbg] t ∧ s.KeepsUnitsBut (fun u => { u with dbg := {} }) t)

/-- APPLY from IDLE starts verifying the slot; a verified image is staged and armed; CONFIRM of the active version ends
CONFIRMING; the confirm timer's end and ROLLBACK start a rollback to the previous slot; a command in the wrong phase is
answered in RESULT and changes no version. It follows R419, R420, R421, R423 in the parts that these sentences say. -/
def Obligations.ConfigurationVersions : Prop :=
  (∀ (s : State) (q : Requester) (slot : Fin 16) (se : Fin 256), s.Serves q Blk.cfgv true → s.cfgPhase = 0 → Gives (.apply q
    slot se) s fun t => t.cfgPhase = 1 ∧ t.cfgv.slot = slot.val ∧ t.cfgv.se = se.val ∧ t.cfgv.active = s.cfgv.active ∧
    s.KeepsRegs [Blk.cfgv] t ∧ s.KeepsBlk Blk.cfgv [CFGV.STAT] t ∧ s.KeepsUnitsBut (fun u =>
    { u with flash := {}, cfgv := {} }) t) ∧
  (∀ (s : State) (q : Requester) (slot : Fin 16) (se : Fin 256), s.Serves q Blk.cfgv true → s.cfgPhase ≠ 0 → Gives (.apply q
    slot se) s fun t => t.cfgPhase = s.cfgPhase ∧ t.f Blk.cfgv CFGV.STAT_RESULT = 11 ∧ s.KeepsRegs [Blk.cfgv] t ∧ s.KeepsBlk
    Blk.cfgv [CFGV.STAT] t ∧ s.KeepsUnits t) ∧
  (∀ (s : State) (result : Fin 8) (x : CfgImage), s.kprRuns = true → s.cfgPhase = 1 → (result.val = 0 ∨ result.val = 7) →
    Gives (.verifyingDone result x) s fun t => t.cfgPhase = 2 ∧ t.f Blk.cfgv CFGV.STAT_RESULT = result.val ∧ t.cfgv.img =
    some x ∧ s.KeepsRegs [Blk.cfgv] t ∧ s.KeepsUnitsBut (fun u => { u with cfgv := {} }) t) ∧
  (∀ (s : State) (result : Fin 8) (x : CfgImage), s.kprRuns = true → s.cfgPhase = 1 → (result.val ≠ 0 ∧ result.val ≠ 7) →
    Gives (.verifyingDone result x) s fun t => t.cfgPhase = 0 ∧ t.f Blk.cfgv CFGV.STAT_RESULT = result.val ∧ t.f Blk.cfgv
    CFGV.STAT_FAIL = 1 ∧ (t.intStat Blk.cfgv).getLsbD CFGV.INT_APPLY_FAIL = true ∧ t.cfgv.active = s.cfgv.active ∧
    s.KeepsRegs [Blk.cfgv] t ∧ s.KeepsUnitsBut (fun u => { u with cfgv := {} }) t) ∧
  (∀ (s : State) (x : CfgImage), s.kprRuns = true → s.cfgPhase = 2 → s.cfgv.img = some x → Gives .stagingDone s fun t =>
    t.cfgPhase = 3 ∧ t.cfgv.img = some x ∧ t.cfgv.active = s.cfgv.active) ∧
  (∀ (s : State) (q : Requester) (v : Word), s.Serves q Blk.cfgv true → s.cfgPhase = 4 → v = s.reg Blk.cfgv CFGV.ACT_VER →
    Gives (.versionConfirm q v) s fun t => t.cfgPhase = 0 ∧ t.f Blk.cfgv CFGV.STAT_TIMER_RUN = 0 ∧ t.flash =
    { s.flash with confirmed := true } ∧ (t.intStat Blk.cfgv).getLsbD CFGV.INT_CONFIRMED = true ∧ s.KeepsRegs [Blk.cfgv] t ∧
    s.KeepsUnitsBut (fun u => { u with flash := {}, cfgv := {} }) t) ∧
  (∀ (s : State) (q : Requester) (v : Word), s.Serves q Blk.cfgv true → (s.cfgPhase ≠ 4 ∨ v ≠ s.reg Blk.cfgv CFGV.ACT_VER) →
    Gives (.versionConfirm q v) s fun t => t.cfgPhase = s.cfgPhase ∧ t.f Blk.cfgv CFGV.STAT_RESULT = 9 ∧ t.flash = s.flash ∧
    s.KeepsRegs [Blk.cfgv] t ∧ s.KeepsUnits t) ∧
  (∀ (s : State), s.domReady Dom.kpr = true → s.cfgPhase = 4 → s.fb Blk.cfgv CFGV.STAT_TIMER_RUN = true → s.f Blk.cfgv
    CFGV.SLOTS_PREV ≠ 255 → Gives .confirmTimeout s fun t => t.cfgPhase = 5 ∧ t.cfgv.slot = s.f Blk.cfgv CFGV.SLOTS_PREV ∧
    t.cfgv.rollback = true ∧ t.f Blk.cfgv CFGV.STAT_TIMER_RUN = 0 ∧ s.KeepsRegs [Blk.cfgv] t ∧ s.KeepsUnitsBut (fun u =>
    { u with cfgv := {} }) t) ∧
  (∀ (s : State) (q : Requester), s.Serves q Blk.cfgv true → (s.cfgPhase = 0 ∨ s.cfgPhase = 4) → s.f Blk.cfgv CFGV.SLOTS_PREV
    ≠ 255 → Gives (.rollback q) s fun t => t.cfgPhase = 5 ∧ t.cfgv.slot = s.f Blk.cfgv CFGV.SLOTS_PREV ∧ t.cfgv.rollback =
    true ∧ s.KeepsRegs [Blk.cfgv] t ∧ s.KeepsUnitsBut (fun u => { u with flash := {}, cfgv := {} }) t) ∧
  (∀ (s : State) (q : Requester), s.Serves q Blk.cfgv true → (s.cfgPhase = 0 ∨ s.cfgPhase = 4) → s.f Blk.cfgv CFGV.SLOTS_PREV
    = 255 → Gives (.rollback q) s fun t => t.cfgPhase = 0 ∧ t.f Blk.cfgv CFGV.STAT_RESULT = 8 ∧ (t.intStat Blk.cfgv).getLsbD
    CFGV.INT_ROLLBACK_FAIL = true ∧ t.cfgv.active = s.cfgv.active ∧ s.KeepsRegs [Blk.cfgv] t ∧ s.KeepsUnitsBut (fun u =>
    { u with flash := {}, cfgv := {} }) t)

/-- FREQ_WRITE applies a frequency word within 1,000 ppm of 0.8 ns and refuses any other; STEP_GO requests one step per
seeding and refuses a second; a pending SET or ADD step is applied at the tick, or refused when it leaves the range;
STEP_CANCEL withdraws it; CLR_COARSE clears COARSE and UNC; a write of EN starts or holds the time base; SNAP captures
the four time bases and the AON counter; EVT_TB selects the event time base. It follows R271, R272, R273, R274, R275,
R278 in the parts that these sentences say. -/
def Obligations.TimeBaseRates : Prop :=
  (∀ (s : State) (q : Requester) (n : Fin 4) (w : BitVec 64), s.Serves q Blk.time true → freqOk w.toNat = true → Gives
    (.freqWrite q n w) s fun t => t.tbFreq n = w.toNat ∧ t.tb = s.tb ∧ s.KeepsRegs [Blk.time] t ∧ s.KeepsBlk Blk.time
    [TIME.TB_FREQ_LO n, TIME.TB_FREQ_HI n] t ∧ s.KeepsUnits t) ∧
  (∀ (s : State) (q : Requester) (n : Fin 4) (w : BitVec 64), s.Serves q Blk.time true → freqOk w.toNat = false → Gives
    (.freqWrite q n w) s fun t => t.tbFreq n = s.tbFreq n ∧ t.f Blk.time (TIME.TB_STAT_RATE_REFUSED n) = 1 ∧ (t.intStat
    Blk.time).getLsbD TIME.INT_RATE_REFUSED = true ∧ s.KeepsRegs [Blk.time] t ∧ s.KeepsUnits t) ∧
  (∀ (s : State) (q : Requester) (n : Fin 4), s.Serves q Blk.time true → s.stepBars n = false → Gives (.stepSet q n) s fun t
    => SMap.get? t.tbStep n = some (0, (s.stepValue n : Int)) ∧ t.f Blk.time (TIME.TB_STAT_STEP_PEND n) = 1 ∧ t.tbAcc n =
    s.tbAcc n ∧ s.KeepsRegs [Blk.time] t ∧ s.KeepsBlk Blk.time [TIME.TB_CTL n, TIME.TB_STAT n] t ∧ s.KeepsUnitsBut (fun u =>
    { u with sram := {}, tbStep := [], sched := {}, log := {} }) t ∧ s.KeepsRam t) ∧
  (∀ (s : State) (q : Requester) (n : Fin 4), s.Serves q Blk.time true → s.stepBars n = true → Gives (.stepSet q n) s fun t =>
    t.tbStep = s.tbStep ∧ t.f Blk.time (TIME.TB_STAT_STEP_REFUSED n) = 1 ∧ (t.intStat Blk.time).getLsbD
    TIME.INT_STEP_REFUSED = true ∧ s.KeepsRegs [Blk.time] t ∧ s.KeepsUnits t) ∧
  (∀ (s : State) (q : Requester) (n : Fin 4), s.Serves q Blk.time true → s.stepBars n = false → Gives (.stepAdd q n) s fun t
    => SMap.get? t.tbStep n = some (1, if s.fb Blk.time (TIME.TB_STEP_NS_SIGN n) then - (s.stepValue n : Int) else
    s.stepValue n) ∧ t.f Blk.time (TIME.TB_STAT_STEP_PEND n) = 1 ∧ t.tbAcc n = s.tbAcc n ∧ s.KeepsRegs [Blk.time] t ∧
    s.KeepsBlk Blk.time [TIME.TB_CTL n, TIME.TB_STAT n] t ∧ s.KeepsUnitsBut (fun u =>
    { u with sram := {}, tbStep := [], sched := {}, log := {} }) t ∧ s.KeepsRam t) ∧
  (∀ (s : State) (q : Requester) (n : Fin 4) (j : Fin 2), s.Serves q Blk.time true → s.stepBars n = false → Gives (.stepSetTpi
    q n j) s fun t => SMap.get? t.tbStep n = some (j.val + 2, (s.stepValue n : Int)) ∧ t.f Blk.time (TIME.TB_STAT_STEP_PEND
    n) = 1 ∧ t.tbAcc n = s.tbAcc n ∧ s.KeepsRegs [Blk.time] t ∧ s.KeepsBlk Blk.time [TIME.TB_CTL n, TIME.TB_STAT n] t ∧
    s.KeepsUnitsBut (fun u => { u with sram := {}, tbStep := [], sched := {}, log := {} }) t ∧ s.KeepsRam t) ∧
  (∀ (s : State) (mode : Nat) (v : Int) (n : Fin 4), SMap.get? s.tbStep n = some (mode, v) → mode ≤ 1 → s.tbRuns n = true → 0
    ≤ (if mode = 1 then (s.tbAcc n : Int) else 0) + v * nsUnit → (if mode = 1 then (s.tbAcc n : Int) else 0) + v * nsUnit <
    (tbLimit * nsUnit : Nat) → Gives (.stepApplied n) s fun t => (t.tbAcc n : Int) = (if mode = 1 then (s.tbAcc n : Int)
    else 0) + v * nsUnit ∧ SMap.get? t.tbStep n = none ∧ t.f Blk.time (TIME.TB_STAT_STEP_PEND n) = 0 ∧ t.f Blk.time
    (TIME.TB_STAT_STEP_USED n) = 1 ∧ t.f Blk.time (TIME.TB_STAT_COARSE n) = 0 ∧ t.reg Blk.time (TIME.TB_UNC n) = 0 ∧
    (t.intStat Blk.time).getLsbD TIME.INT_STEP_APPLIED = true ∧ s.KeepsRegs ([Blk.log, Blk.time, Blk.sched] ++ Blk.ports) t
    ∧ s.KeepsUnitsBut (fun u => { u with tb := [], sram := {}, tbStep := [], tpoIssued := [], sched := {}, log := {} }) t ∧
    s.KeepsRam t) ∧
  (∀ (s : State) (mode : Nat) (v : Int) (n : Fin 4), SMap.get? s.tbStep n = some (mode, v) → mode ≤ 1 → s.tbRuns n = true →
    ((if mode = 1 then (s.tbAcc n : Int) else 0) + v * nsUnit < 0 ∨ ((tbLimit * nsUnit : Nat) : Int) ≤ (if mode = 1 then
    (s.tbAcc n : Int) else 0) + v * nsUnit) → Gives (.stepApplied n) s fun t => t.tb = s.tb ∧ SMap.get? t.tbStep n = none ∧
    t.f Blk.time (TIME.TB_STAT_STEP_USED n) = s.f Blk.time (TIME.TB_STAT_STEP_USED n) ∧ t.f Blk.time
    (TIME.TB_STAT_STEP_REFUSED n) = 1 ∧ (t.intStat Blk.time).getLsbD TIME.INT_STEP_REFUSED = true ∧ s.KeepsRegs [Blk.time] t
    ∧ s.KeepsUnitsBut (fun u => { u with tb := [], sram := {}, tbStep := [], tpoIssued := [], sched := {}, log := {} }) t ∧
    s.KeepsRam t) ∧
  (∀ (s : State) (q : Requester) (n : Fin 4), s.Serves q Blk.time true → Gives (.stepCancel q n) s fun t => SMap.get? t.tbStep
    n = none ∧ t.f Blk.time (TIME.TB_STAT_STEP_PEND n) = 0 ∧ t.f Blk.time (TIME.TB_STAT_STEP_USED n) = s.f Blk.time
    (TIME.TB_STAT_STEP_USED n) ∧ t.tbAcc n = s.tbAcc n ∧ s.KeepsRegs [Blk.time] t ∧ s.KeepsBlk Blk.time [TIME.TB_CTL n,
    TIME.TB_STAT n] t ∧ s.KeepsUnitsBut (fun u => { u with sram := {}, tbStep := [], sched := {}, log := {} }) t ∧
    s.KeepsRam t) ∧
  (∀ (s : State) (q : Requester) (n : Fin 4), s.Serves q Blk.time true → Gives (.clrCoarse q n) s fun t => t.f Blk.time
    (TIME.TB_STAT_COARSE n) = 0 ∧ t.reg Blk.time (TIME.TB_UNC n) = 0 ∧ t.tb = s.tb ∧ t.tbStep = s.tbStep ∧ s.KeepsRegs
    [Blk.time] t ∧ s.KeepsBlk Blk.time [TIME.TB_CTL n, TIME.TB_STAT n, TIME.TB_UNC n] t ∧ s.KeepsUnits t) ∧
  (∀ (s : State) (q : Requester) (n : Fin 4) (v : Word), s.Serves q Blk.time true → s.fb Blk.time (TIME.TB_CTL_EN n) = false →
    (TIME.TB_CTL_EN n).get v = 1 → (TIME.TB_CTL_STEP_CANCEL n).get v = 0 → (TIME.TB_CTL_STEP_GO n).get v = 0 → Gives
    (.tbEnable q n v) s fun t => t.fb Blk.time (TIME.TB_CTL_EN n) = true ∧ t.f Blk.time (TIME.TB_STAT_RUNNING n) = 1 ∧ t.f
    Blk.time (TIME.TB_STAT_STEP_USED n) = 0 ∧ t.tb = s.tb ∧ t.tbStep = s.tbStep ∧ s.KeepsRegs [Blk.time] t ∧ s.KeepsUnitsBut
    (fun u => { u with sram := {}, tbStep := [], sched := {}, log := {} }) t ∧ s.KeepsRam t) ∧
  (∀ (s : State) (q : Requester) (n : Fin 4) (v : Word), s.Serves q Blk.time true → s.fb Blk.time (TIME.TB_CTL_EN n) = true →
    (TIME.TB_CTL_EN n).get v = 0 → (TIME.TB_CTL_STEP_GO n).get v = 0 → Gives (.tbEnable q n v) s fun t => t.fb Blk.time
    (TIME.TB_CTL_EN n) = false ∧ t.f Blk.time (TIME.TB_STAT_RUNNING n) = 0 ∧ SMap.get? t.tbStep n = none ∧ t.tb = s.tb ∧
    s.KeepsRegs ([Blk.log, Blk.time, Blk.sched] ++ Blk.ports) t ∧ s.KeepsUnitsBut (fun u =>
    { u with sram := {}, tbStep := [], sched := {}, log := {} }) t ∧ s.KeepsRam t) ∧
  (∀ (s : State) (n : Fin 4) (q : Requester), s.Serves q Blk.time true → Gives (.snap q) s fun t => (t.reg Blk.time
    (TIME.SNAP_NS n)).toNat = (timeVal (s.tbAcc n)).ns ∧ (t.reg Blk.time (TIME.SNAP_S_LO n)).toNat = (timeVal (s.tbAcc
    n)).sec % 2 ^ 32 ∧ (t.reg Blk.time (TIME.SNAP_S_HI n)).toNat = (timeVal (s.tbAcc n)).sec / 2 ^ 32 + (timeVal (s.tbAcc
    n)).frac * 2 ^ 16 ∧ t.reg Blk.time TIME.SNAP_AON_LO = BitVec.ofNat 32 s.aonCnt ∧ t.reg Blk.time TIME.SNAP_AON_HI =
    BitVec.ofNat 32 (s.aonCnt / 2 ^ 32) ∧ t.f Blk.time TIME.SNAP_STAT_VALID = 1 ∧ s.KeepsRegs [Blk.time] t ∧ s.KeepsUnits t) ∧
  (∀ (s : State) (q : Requester) (n : Fin 4), s.Serves q Blk.time true → Gives (.evtTbWrite q n) s fun t => t.evtTb = n.val ∧
    t.tb = s.tb ∧ s.KeepsRegs [Blk.time] t ∧ s.KeepsBlk Blk.time [TIME.EVT_TB] t ∧ s.KeepsUnits t)

/-- A frame that the filter of a port's stamp unit passes is stamped at the tail of the direction's FIFO with its key and
the COARSE bit of the selected time base, and dropped, counted and flagged when sixteen stamps wait; PT_POP, LT_POP and
TPI_POP free the oldest entry; a one-shot output rises at START and ends with DONE; an active capture edge is stored, or
flagged OVF when four wait. It follows R279, R280, R281, R282, R283, R284, R285, R286 in the parts that these sentences
say. -/
def Obligations.StampsAndPulses : Prop :=
  (∀ (s : State) (n : Nat) (p : Fin 64) (i : Fin 4) (bytes : BitVec 64) (key : BitVec 16), s.timeOn = true → s.blkOn (Blk.port
    p) = true → s.portEnabled p = true → TSU.PT_CTL_TX_EN.get (s.ptsu p).ctl = 1 → TSU.PT_CTL_TX_KIND.get (s.ptsu p).ctl ≠ 1
    → (bytes ^^^ (s.ptsu p).fltVal) &&& (s.ptsu p).fltMask = 0 → s.physLane p i false = some n → (s.ptsu p).tx.length < 16 →
    Gives (.frameStamp p i false false bytes key) s fun t => (t.ptsu p).tx.length = (s.ptsu p).tx.length + 1 ∧ (t.ptsu
    p).tx.take (s.ptsu p).tx.length = (s.ptsu p).tx ∧ (t.ptsu p).tx.getLast?.map (fun x => (x.key, x.kind, x.coarse, x.pos))
    = some (key, 0, s.fb Blk.time (TIME.TB_STAT_COARSE (TSU.PT_CTL_TB.get (s.ptsu p).ctl)), s.portPos p false) ∧ (t.ptsu
    p).rx = (s.ptsu p).rx ∧ t.tb = s.tb ∧ (s.KeepsRegs [] t ∨ (s.ptsu p).tx = []) ∧ s.KeepsUnitsBut (fun u =>
    { u with portTsu := [] }) t) ∧
  (∀ (s : State) (n : Nat) (p : Fin 64) (i : Fin 4) (bytes : BitVec 64) (key : BitVec 16), s.timeOn = true → s.blkOn (Blk.port
    p) = true → s.portEnabled p = true → TSU.PT_CTL_RX_EN.get (s.ptsu p).ctl = 1 → TSU.PT_CTL_RX_KIND.get (s.ptsu p).ctl ≠ 1
    → (bytes ^^^ (s.ptsu p).fltVal) &&& (s.ptsu p).fltMask = 0 → s.physLane p i true = some n → 16 ≤ (s.ptsu p).rx.length →
    Gives (.frameStamp p i true false bytes key) s fun t => (t.ptsu p).rx = (s.ptsu p).rx ∧ (t.ptsu p).rxOvf = true ∧
    (t.ptsu p).dropRx = min 65535 ((s.ptsu p).dropRx + 1) ∧ (t.reg Blk.tsu (if p.val < 32 then TSU.OVF_PORT0 else
    TSU.OVF_PORT1)).getLsbD (p % 32) = true ∧ (t.intStat Blk.tsu).getLsbD TSU.INT_OVF = true ∧ s.KeepsRegs [Blk.tsu] t ∧
    s.KeepsUnitsBut (fun u => { u with portTsu := [] }) t) ∧
  (∀ (s : State) (p : Fin 64) (i : Fin 4) (hostBound : Bool) (marker : Bool) (bytes : BitVec 64) (key : BitVec 16),
    (s.portEnabled p = false ∨ s.timeOn = false) → Gives (.frameStamp p i hostBound marker bytes key) s fun t => t.portTsu =
    s.portTsu ∧ s.KeepsRegs [] t ∧ s.KeepsUnitsBut (fun u => { u with portTsu := [] }) t) ∧
  (∀ (s : State) (p : Fin 64) (q : Requester) (v : Word), s.Serves q Blk.tsu true → s.tsuSel = p.val → Gives (.ptPop q v) s
    fun t => (t.ptsu p).tx = (if TSU.PT_POP_TX.get v = 1 then (s.ptsu p).tx.drop 1 else (s.ptsu p).tx) ∧ (t.ptsu p).rx = (if
    TSU.PT_POP_RX.get v = 1 then (s.ptsu p).rx.drop 1 else (s.ptsu p).rx) ∧ t.laneTsu = s.laneTsu ∧ s.KeepsRegs [] t ∧
    s.KeepsUnitsBut (fun u => { u with portTsu := [], laneTsu := [] }) t) ∧
  (∀ (s : State) (n : Fin 17) (q : Requester), s.Serves q Blk.tsu true → s.tsuSel = 64 + n.val → Gives (.ltPop q) s fun t =>
    (t.ltsu n).fifo = (s.ltsu n).fifo.drop 1 ∧ (t.ltsu n).ovf = (s.ltsu n).ovf ∧ t.portTsu = s.portTsu ∧ s.KeepsRegs [] t ∧
    s.KeepsUnitsBut (fun u => { u with portTsu := [], laneTsu := [] }) t) ∧
  (∀ (s : State) (k : Fin 4), s.timeOn = true → s.uf Blk.time (TIME.TPO_CTL_MODE k) = 1 → s.fb Blk.time (TIME.TPO_STAT_ACTIVE
    k) = false → SMap.get false s.tpoIssued k = false → s.tpoReached k = true → Gives (.tpoEdge k) s fun t => t.fb Blk.time
    (TIME.TPO_STAT_ACTIVE k) = true ∧ t.out = .pulse k true :: s.out ∧ SMap.get false t.tpoIssued k = true ∧ s.KeepsRegs
    [Blk.time] t ∧ s.KeepsBlk Blk.time [TIME.TPO_STAT k] t ∧ s.KeepsUnitsBut (fun u => { u with tpoIssued := [] }) t) ∧
  (∀ (s : State) (k : Fin 4), s.timeOn = true → s.uf Blk.time (TIME.TPO_CTL_MODE k) = 1 → s.fb Blk.time (TIME.TPO_STAT_ACTIVE
    k) = true → Gives (.tpoEdge k) s fun t => t.fb Blk.time (TIME.TPO_STAT_ACTIVE k) = false ∧ t.f Blk.time
    (TIME.TPO_STAT_DONE k) = 1 ∧ (t.intStat Blk.time).getLsbD TIME.INT_TPO_DONE = true ∧ s.KeepsRegs [Blk.time] t ∧
    t.tpoIssued = s.tpoIssued ∧ s.KeepsUnitsBut (fun u => { u with tpoIssued := [] }) t) ∧
  (∀ (s : State) (k : Fin 4), s.timeOn = true → s.uf Blk.time (TIME.TPO_CTL_MODE k) = 2 → s.fb Blk.time (TIME.TPO_STAT_ACTIVE
    k) = true → Gives (.tpoEdge k) s fun t => t.fb Blk.time (TIME.TPO_STAT_ACTIVE k) = false ∧ t.f Blk.time
    (TIME.TPO_STAT_DONE k) = s.f Blk.time (TIME.TPO_STAT_DONE k) ∧ t.out = .pulse k false :: s.out ∧ s.KeepsRegs [Blk.time]
    t ∧ s.KeepsUnits t) ∧
  (∀ (s : State) (j : Fin 2) (falling : Bool), s.timeOn = true → s.fb Blk.time (TIME.TPI_CTL_EDGE j) = falling → s.tbStep = []
    → s.fb Blk.time (TIME.TPI_CTL_EN j) = true → (SMap.get [] s.tpi j).length < 4 → Gives (.tpiEdge j falling) s fun t =>
    (SMap.get [] t.tpi j).length = (SMap.get [] s.tpi j).length + 1 ∧ (SMap.get [] t.tpi j).take (SMap.get [] s.tpi
    j).length = SMap.get [] s.tpi j ∧ t.f Blk.time (TIME.TPI_STAT_COUNT j) = (SMap.get [] s.tpi j).length + 1 ∧ (t.intStat
    Blk.time).getLsbD TIME.INT_TPI_CAPT = true ∧ t.tb = s.tb ∧ s.KeepsRegs [Blk.time] t ∧ s.KeepsUnitsBut (fun u =>
    { u with tb := [], sram := {}, tpi := [], tbStep := [], tpoIssued := [], sched := {}, log := {} }) t ∧ s.KeepsRam t) ∧
  (∀ (s : State) (j : Fin 2) (falling : Bool), s.timeOn = true → s.fb Blk.time (TIME.TPI_CTL_EDGE j) = falling → s.tbStep = []
    → s.fb Blk.time (TIME.TPI_CTL_EN j) = true → (SMap.get [] s.tpi j).length = 4 → Gives (.tpiEdge j falling) s fun t =>
    t.tpi = s.tpi ∧ t.f Blk.time (TIME.TPI_STAT_OVF j) = 1 ∧ (t.intStat Blk.time).getLsbD TIME.INT_TPI_OVF = true ∧
    s.KeepsRegs [Blk.time] t ∧ s.KeepsUnitsBut (fun u =>
    { u with tb := [], sram := {}, tpi := [], tbStep := [], tpoIssued := [], sched := {}, log := {} }) t ∧ s.KeepsRam t) ∧
  (∀ (s : State) (q : Requester) (j : Fin 2), s.Serves q Blk.time true → (SMap.get [] s.tpi j).length ≤ 4 → Gives (.tpiPop q
    j) s fun t => SMap.get [] t.tpi j = (SMap.get [] s.tpi j).drop 1 ∧ t.f Blk.time (TIME.TPI_STAT_COUNT j) = (SMap.get []
    s.tpi j).length - 1 ∧ s.KeepsRegs [Blk.time] t ∧ s.KeepsBlk Blk.time [TIME.TPI_STAT j] t ∧ s.KeepsUnitsBut (fun u =>
    { u with sram := {}, tpi := [], tbStep := [], sched := {}, log := {} }) t ∧ s.KeepsRam t)

/-- A write of any word of an entry disables it before the word is taken; an ACTION that R288 does not permit is refused
with the entry disabled; HIST_POP frees the oldest record; an entry whose trigger has come fires in PS0 and PS1,
recording FIRED or LATE and counting the firing, is held in a deeper state, and advances by PERIOD or is disabled. It
follows R287, R288, R289, R290, R291, R292, R293 in the parts that these sentences say. -/
def Obligations.SchedulerTable : Prop :=
  (∀ (s : State) (q : Requester) (w : Fin 7) (v : Word), s.Serves q Blk.sched true → w.val ≠ 0 → Gives (.seWrite q w v) s fun
    t => (t.se s.seIdx).en = false ∧ (w.val = 2 → (t.se s.seIdx).w2 = v) ∧ (w.val = 3 → (t.se s.seIdx).w3 = v) ∧ (w.val = 5
    → (t.se s.seIdx).w5 = v) ∧ t.tb = s.tb ∧ s.KeepsRegs ([Blk.log, Blk.sched] ++ Blk.ports) t ∧ s.KeepsUnitsBut (fun u =>
    { u with sram := {}, sched := {}, log := {} }) t ∧ s.KeepsRam t) ∧
  (∀ (s : State) (q : Requester) (w : Fin 7) (v : Word), s.Serves q Blk.sched true → w.val = 0 → SCHED.SE_W0_EN.get v = 1 →
    ({ s.se s.seIdx with w0 := v } : SchedEntry).refused = true → Gives (.seWrite q w v) s fun t => (t.se s.seIdx).en =
    false ∧ (t.se s.seIdx).last = 4 ∧ (t.intStat Blk.sched).getLsbD SCHED.INT_REFUSED = true ∧ t.tb = s.tb ∧ s.KeepsRegs
    ([Blk.log, Blk.sched] ++ Blk.ports) t ∧ s.KeepsUnitsBut (fun u => { u with sram := {}, sched := {}, log := {} }) t ∧
    s.KeepsRam t) ∧
  (∀ (s : State) (q : Requester) (w : Fin 7) (v : Word), s.Serves q Blk.sched true → w.val = 0 → SCHED.SE_W0_EN.get v = 1 →
    (s.se s.seIdx).en = false → (s.se s.seIdx).twin = false → ({ s.se s.seIdx with w0 := v } : SchedEntry).refused = false →
    s.seLate { s.se s.seIdx with w0 := v } = false → Gives (.seWrite q w v) s fun t => (t.se s.seIdx).en = true ∧ (t.se
    s.seIdx).state = 1 ∧ (t.se s.seIdx).passed = false ∧ t.sched.hist = s.sched.hist ∧ s.KeepsRegs [] t ∧ t.tb = s.tb ∧
    s.KeepsUnitsBut (fun u => { u with sram := {}, sched := {}, log := {} }) t ∧ s.KeepsRam t) ∧
  (∀ (s : State) (q : Requester), s.Serves q Blk.sched true → Gives (.histPop q) s fun t => t.sched.hist = s.sched.hist.drop 1
    ∧ t.sched.entries = s.sched.entries ∧ s.KeepsRegs [] t ∧ s.KeepsUnitsBut (fun u =>
    { u with sram := {}, sched := {}, log := {} }) t ∧ s.KeepsRam t) ∧
  (∀ (s : State) (k : Fin 256), (s.se k).en = true → (s.se k).state = 1 → (s.se k).action = 0 → (s.se k).twin = false →
    s.sram.gold = [] → ((s.se k).passed = true ∨ s.seReached (s.se k) = true) → s.f Blk.pwr PWR.STAT_STATE < 2 →
    SCHED.SE_W0_LOG.get (s.se k).w0 = 0 → s.sched.hist.length < 32 → Gives (.entryFire [k]) s fun t => t.sched.hist.length =
    s.sched.hist.length + 1 ∧ t.sched.hist.getLast?.map (fun r => (r.entry, r.outcome, r.action)) = some (k.val, (if (s.se
    k).passed then 2 else 1), 0) ∧ (t.se k).last = (if (s.se k).passed then 2 else 1) ∧ (t.se k).fireCnt = min 255 ((s.se
    k).fireCnt + 1) ∧ (t.se k).en = decide ((s.se k).period ≠ 0 ∧ ((s.se k).isTime = true ∨ s.genGone (s.se k) = false)) ∧
    (t.se k).passed = false ∧ t.tb = s.tb) ∧
  (∀ (s : State) (k : Fin 256), (s.se k).en = true → (s.se k).state = 1 → ((s.se k).passed = true ∨ s.seReached (s.se k) =
    true) → 2 ≤ s.f Blk.pwr PWR.STAT_STATE → Gives (.entryFire [k]) s fun t => (t.se k).state = 3 ∧ (t.se k).en = true ∧
    (t.se k).fireCnt = (s.se k).fireCnt ∧ t.sched.hist = s.sched.hist ∧ s.KeepsRegs [] t ∧ t.tb = s.tb) ∧
  (∀ (s : State) (k : Fin 256), ((s.se k).en = false ∨ (s.se k).passed = false ∧ s.seReached (s.se k) = false) → Gives
    (.entryFire [k]) s fun t => t.sched = s.sched ∧ s.KeepsRegs [] t ∧ s.KeepsUnits t)

/-- Mux lock sets and its loss clears the lane's bit of MUX_LOCK; marker lock moves HUNT to DESKEW and stores the skew; a
skew within the capability gives ALIGNED, a new generation and position 0, and one beyond it gives HUNT with SKEW_OOR;
marker loss and FORCE return the direction to HUNT with VALID clear; a direction whose lanes are not ready goes to DOWN;
a slip of an aligned line-bound direction is flagged; a monitor window's end judges the sums against the thresholds and
starts new ones. It follows R203, R204, R206, R207, R208, R209, R215 in the parts that these sentences say. -/
def Obligations.PortAlignment : Prop :=
  (∀ (s : State) (l : Nat) (n : Fin 17), s.logicalLane n = some l → s.fecLocked n = true → Gives (.muxLock n) s fun t => (t.f
    Blk.pmap PMAP.MUX_LOCK_LOCK).testBit l = true ∧ t.line = s.line ∧ t.tb = s.tb ∧ s.KeepsBlk Blk.pmap [PMAP.MUX_LOCK] t ∧
    s.KeepsRegs ([Blk.log, Blk.sched, Blk.twin, Blk.pmap, Blk.fec] ++ Blk.lines ++ Blk.hostEngines ++ Blk.hosts ++
    Blk.ports) t ∧ s.KeepsUnitsBut (fun u => { u with sram := {}, sched := {}, twin := {}, log := {} }) t ∧ s.KeepsRam t) ∧
  (∀ (s : State) (l : Nat) (n : Fin 17), s.logicalLane n = some l → (s.f Blk.pmap PMAP.MUX_LOCK_LOCK).testBit l = true → Gives
    (.muxLockLost n) s fun t => (t.f Blk.pmap PMAP.MUX_LOCK_LOCK).testBit l = false ∧ (t.intStat Blk.pmap).getLsbD
    PMAP.INT_MUX_LOCK_LOST = true ∧ t.line = s.line ∧ s.KeepsBlk Blk.pmap [PMAP.MUX_LOCK, HDR.EVT_TIME_LO, HDR.EVT_TIME_HI]
    t ∧ s.KeepsRegs ([Blk.log, Blk.sched, Blk.twin, Blk.pmap, Blk.fec] ++ Blk.lines ++ Blk.hostEngines ++ Blk.hosts ++
    Blk.ports) t ∧ s.KeepsUnitsBut (fun u => { u with sram := {}, sched := {}, twin := {}, log := {} }) t ∧ s.KeepsRam t) ∧
  (∀ (s : State) (p : Fin 64) (hostBound : Bool) (skew : BitVec 16), s.dirState p hostBound = 1 → Gives (.markerLock p
    hostBound skew) s fun t => t.dirState p hostBound = 2 ∧ t.f (Blk.port p) (if hostBound then PORT.SKEW_LINE else
    PORT.SKEW_HOST) = skew.toNat ∧ t.dirState p (!hostBound) = s.dirState p (!hostBound) ∧ s.KeepsRegs [Blk.port p] t ∧
    s.KeepsBlk (Blk.port p) [PORT.ALIGN_STAT, PORT.SKEW] t ∧ s.KeepsUnits t) ∧
  (∀ (s : State) (p : Fin 64) (hostBound : Bool), s.dirState p hostBound = 2 → (if hostBound = true then s.f (Blk.port p)
    PORT.SKEW_LINE ≤ s.f Blk.pmap PMAP.DESKEW_CAP_LINE_NS else s.f (Blk.port p) PORT.SKEW_HOST ≤ 100 * s.f Blk.pmap
    PMAP.DESKEW_CAP_HOST_NS) → Gives (.deskewDone p hostBound) s fun t => t.dirState p hostBound = 3 ∧ (t.portPos p
    hostBound).valid = true ∧ (t.portPos p hostBound).cw = 0 ∧ (t.portPos p hostBound).gen = ((s.portPos p hostBound).gen +
    1) % 65536 ∧ t.portPos p (!hostBound) = s.portPos p (!hostBound) ∧ (t.intStat (Blk.port p)).getLsbD (if hostBound then
    PORT.INT_RX_ALIGNED else PORT.INT_TX_ALIGNED) = true ∧ s.KeepsRegs [Blk.port p] t ∧ s.KeepsUnits t) ∧
  (∀ (s : State) (p : Fin 64) (hostBound : Bool), s.dirState p hostBound = 2 → (if hostBound = true then s.f Blk.pmap
    PMAP.DESKEW_CAP_LINE_NS < s.f (Blk.port p) PORT.SKEW_LINE else 100 * s.f Blk.pmap PMAP.DESKEW_CAP_HOST_NS < s.f
    (Blk.port p) PORT.SKEW_HOST) → Gives (.deskewDone p hostBound) s fun t => t.dirState p hostBound = 1 ∧ t.f (Blk.port p)
    PORT.ALIGN_STAT_SKEW_OOR = 1 ∧ t.portPos p hostBound = s.portPos p hostBound ∧ (t.intStat (Blk.port p)).getLsbD
    PORT.INT_SKEW_OOR = true ∧ s.KeepsRegs [Blk.port p] t ∧ s.KeepsUnits t) ∧
  (∀ (s : State) (p : Fin 64) (hostBound : Bool), s.dirAligned p hostBound = true → Gives (.markerLoss p hostBound) s fun t =>
    t.dirState p hostBound = 1 ∧ (t.portPos p hostBound).valid = false ∧ (t.intStat (Blk.port p)).getLsbD (if hostBound then
    PORT.INT_RX_LOST else PORT.INT_TX_LOST) = true ∧ t.dirState p (!hostBound) = s.dirState p (!hostBound) ∧ t.line = s.line
    ∧ s.KeepsRegs ([Blk.log, Blk.sched] ++ Blk.ports) t ∧ s.KeepsUnitsBut (fun u =>
    { u with sram := {}, sched := {}, twin := {}, log := {} }) t ∧ s.KeepsRam t) ∧
  (∀ (s : State) (p : Fin 64) (hostBound : Bool), s.portMayRun p hostBound = false → s.dirState p hostBound = 3 → Gives
    (.lanesNotReady p hostBound) s fun t => t.dirState p hostBound = 0 ∧ (t.portPos p hostBound).valid = false ∧ (t.intStat
    (Blk.port p)).getLsbD (if hostBound then PORT.INT_RX_LOST else PORT.INT_TX_LOST) = true ∧ t.dirState p (!hostBound) =
    s.dirState p (!hostBound) ∧ t.line = s.line ∧ s.KeepsRegs ([Blk.log, Blk.sched, Blk.twin, Blk.pmap, Blk.fec] ++
    Blk.lines ++ Blk.hostEngines ++ Blk.hosts ++ Blk.ports) t ∧ s.KeepsUnitsBut (fun u =>
    { u with sram := {}, sched := {}, twin := {}, log := {} }) t ∧ s.KeepsRam t) ∧
  (∀ (s : State) (q : Requester) (p : Fin 64), s.Serves q (Blk.port p) true → s.portMayRun p false = true → Gives (.forceTx q
    p) s fun t => t.dirState p false = 1 ∧ (t.portPos p false).valid = false ∧ t.dirState p true = s.dirState p true ∧
    t.line = s.line ∧ s.KeepsRegs ([Blk.log, Blk.sched, Blk.twin, Blk.pmap, Blk.fec] ++ Blk.lines ++ Blk.hostEngines ++
    Blk.hosts ++ Blk.ports) t ∧ s.KeepsUnitsBut (fun u => { u with sram := {}, sched := {}, twin := {}, log := {} }) t ∧
    s.KeepsRam t) ∧
  (∀ (s : State) (q : Requester) (p : Fin 64), s.Serves q (Blk.port p) true → s.portMayRun p true = false → Gives (.forceRx q
    p) s fun t => t.dirState p true = 0 ∧ (t.portPos p true).valid = false ∧ t.dirState p false = s.dirState p false ∧
    t.line = s.line ∧ s.KeepsRegs ([Blk.log, Blk.sched, Blk.twin, Blk.pmap, Blk.fec] ++ Blk.lines ++ Blk.hostEngines ++
    Blk.hosts ++ Blk.ports) t ∧ s.KeepsUnitsBut (fun u => { u with sram := {}, sched := {}, twin := {}, log := {} }) t ∧
    s.KeepsRam t) ∧
  (∀ (s : State) (p : Fin 64), s.dirAligned p false = true → Gives (.slip p) s fun t => t.f (Blk.port p) PORT.MON_STAT_SLIP =
    1 ∧ (t.intStat (Blk.port p)).getLsbD PORT.INT_SLIP = true ∧ t.portPos p false = s.portPos p false ∧ (s.dirState p false
    = 3 → t.reg (Blk.port p) PORT.SLIP_CNT = s.reg (Blk.port p) PORT.SLIP_CNT + 1) ∧ s.KeepsRegs [Blk.port p] t ∧
    s.KeepsUnits t) ∧
  (∀ (s : State) (p : Fin 64) (hostBound : Bool), Gives (.monWindowEnd p hostBound) s fun t => t.mon p hostBound = {} ∧ t.fb
    (Blk.port p) (if hostBound then PORT.MON_STAT_DEG_RX else PORT.MON_STAT_DEG_TX) = decide (s.f (Blk.port p)
    PORT.MON_CTL_SER_THR ≤ (s.mon p hostBound).syms) ∧ t.fb (Blk.port p) (if hostBound then PORT.MON_STAT_UCT_RX else
    PORT.MON_STAT_UCT_TX) = (s.f (Blk.port p) PORT.MON_CTL_UC_THR != 0 && decide (s.f (Blk.port p) PORT.MON_CTL_UC_THR ≤
    (s.mon p hostBound).unc)) ∧ t.mon p (!hostBound) = s.mon p (!hostBound) ∧ s.KeepsRegs [Blk.port p] t ∧ s.KeepsBlk
    (Blk.port p) [PORT.MON_STAT, HDR.EVT_TIME_LO, HDR.EVT_TIME_HI] t ∧ s.KeepsUnitsBut (fun u => { u with portMon := [] })
    t)

/-- A change of MODE on a running lane is refused whole; a window of 32 or more zero syndromes locks a hunting inner
decoder, any other moves it to the next offset, and the fourth failing window in a row loses lock; FORCE_HUNT hunts from
the next offset; a decoded codeword counts 68 symbols and its corrections; the frame-bit score moves the LPC decoder
through hunt, three verifications and lock, and the eighth low score loses it; a block counts its 289 rows and each
marked row; ITER takes the iteration count in force. It follows R119, R125, R127, R132, R134, R135, R140, R141 in the
parts that these sentences say. -/
def Obligations.LineCodes : Prop :=
  (∀ (s : State) (q : Requester) (n : Fin 17) (v : Word), s.Serves q Blk.fec true → (FEC.LANE_CTL_MODE n).get v ≠ s.f Blk.fec
    (FEC.LANE_CTL_MODE n) → (s.fb (Blk.llane n) LLANE.RX_CTL_RX_EN = true ∨ s.fb (Blk.llane n) LLANE.TX_CTL_TX_EN = true) →
    Gives (.fecModeWrite q n v) s fun t => t.reg Blk.fec (FEC.LANE_CTL n) = s.reg Blk.fec (FEC.LANE_CTL n) ∧ t.f Blk.fec
    FEC.FEC_STAT_CFG_REFUSED = 1 ∧ (t.intStat Blk.fec).getLsbD FEC.INT_CFG_REFUSED = true ∧ s.KeepsRegs [Blk.fec] t ∧
    s.KeepsUnits t) ∧
  (∀ (s : State) (q : Requester) (n : Fin 17) (v : Word), s.Serves q Blk.fec true → s.fb (Blk.llane n) LLANE.RX_CTL_RX_EN =
    false → s.fb (Blk.llane n) LLANE.TX_CTL_TX_EN = false → s.staged Blk.fec = false → Gives (.fecModeWrite q n v) s fun t
    => t.f Blk.fec (FEC.LANE_CTL_MODE n) = (FEC.LANE_CTL_MODE n).get v ∧ t.f Blk.fec (FEC.LPC_STAT_ACTIVE n) = 0 ∧ t.fb
    (Blk.llane n) LLANE.INNER_STAT_BYPASS = decide ((FEC.LANE_CTL_MODE n).get v = 1) ∧ t.f Blk.fec FEC.FEC_STAT_CFG_REFUSED
    = s.f Blk.fec FEC.FEC_STAT_CFG_REFUSED ∧ s.KeepsRegs ([Blk.log, Blk.sched, Blk.twin, Blk.pmap, Blk.fec] ++ Blk.lines ++
    Blk.hostEngines ++ Blk.hosts ++ Blk.ports) t ∧ s.KeepsUnitsBut (fun u =>
    { u with line := [], sram := {}, sched := {}, twin := {}, log := {} }) t ∧ s.KeepsRam t) ∧
  (∀ (s : State) (n : Fin 17) (zsyn : Fin 257), (s.lane n).inner = .hunt → 32 ≤ zsyn.val → Gives (.innerWindowEnd n zsyn) s
    fun t => (t.lane n).inner = .locked ∧ (t.lane n).innerOffset = (s.lane n).innerOffset ∧ (t.lane n).innerFails = 0 ∧ t.f
    (Blk.llane n) LLANE.INNER_STAT_LOCK = 1 ∧ t.f (Blk.llane n) LLANE.INNER_STAT_ZSYN = zsyn.val ∧ t.tb = s.tb ∧ s.KeepsRegs
    ([Blk.log, Blk.sched, Blk.twin, Blk.pmap, Blk.fec] ++ Blk.lines ++ Blk.hostEngines ++ Blk.hosts ++ Blk.ports) t ∧
    s.KeepsUnitsBut (fun u => { u with line := [], sram := {}, sched := {}, twin := {}, log := {} }) t ∧ s.KeepsRam t) ∧
  (∀ (s : State) (n : Fin 17) (zsyn : Fin 257), (s.lane n).inner = .hunt → zsyn.val < 32 → Gives (.innerWindowEnd n zsyn) s
    fun t => t.lane n = { s.lane n with innerOffset := ((s.lane n).innerOffset + 1) % 272 } ∧ t.f (Blk.llane n)
    LLANE.INNER_STAT_ZSYN = zsyn.val ∧ s.KeepsRegs [Blk.llane n] t ∧ s.KeepsBlk (Blk.llane n) [LLANE.INNER_STAT] t ∧
    s.KeepsUnitsBut (fun u => { u with line := [], sram := {}, sched := {}, twin := {}, log := {} }) t ∧ s.KeepsRam t) ∧
  (∀ (s : State) (n : Fin 17) (zsyn : Fin 257), (s.lane n).inner = .locked → zsyn.val < 32 → (s.lane n).innerFails < 3 → Gives
    (.innerWindowEnd n zsyn) s fun t => t.lane n = { s.lane n with innerFails := (s.lane n).innerFails + 1 } ∧ s.KeepsRegs
    [Blk.llane n] t ∧ s.KeepsBlk (Blk.llane n) [LLANE.INNER_STAT] t ∧ s.KeepsUnitsBut (fun u =>
    { u with line := [], sram := {}, sched := {}, twin := {}, log := {} }) t ∧ s.KeepsRam t) ∧
  (∀ (s : State) (n : Fin 17) (zsyn : Fin 257), (s.lane n).inner = .locked → zsyn.val < 32 → 3 ≤ (s.lane n).innerFails → Gives
    (.innerWindowEnd n zsyn) s fun t => (t.lane n).inner = .hunt ∧ (t.lane n).innerOffset = ((s.lane n).innerOffset + 1) %
    272 ∧ t.f (Blk.llane n) LLANE.INNER_STAT_LOCK = 0 ∧ t.f (Blk.llane n) LLANE.INNER_STAT_LOSS = 1 ∧ (t.intStat (Blk.llane
    n)).getLsbD LLANE.INT_INNER_LOCK_LOST = true ∧ s.KeepsRegs ([Blk.log, Blk.sched, Blk.twin, Blk.pmap, Blk.fec] ++
    Blk.lines ++ Blk.hostEngines ++ Blk.hosts ++ Blk.ports) t ∧ s.KeepsUnitsBut (fun u =>
    { u with line := [], sram := {}, sched := {}, twin := {}, log := {} }) t ∧ s.KeepsRam t) ∧
  (∀ (s : State) (q : Requester) (n : Fin 17), s.Serves q (Blk.llane n) true → (s.lane n).inner ≠ .idle → Gives (.forceHunt q
    n) s fun t => (t.lane n).inner = .hunt ∧ (t.lane n).innerOffset = ((s.lane n).innerOffset + 1) % 272 ∧ t.f (Blk.llane n)
    LLANE.INNER_STAT_LOCK = 0 ∧ t.f (Blk.llane n) LLANE.INNER_STAT_LOSS = s.f (Blk.llane n) LLANE.INNER_STAT_LOSS ∧
    s.KeepsRegs ([Blk.log, Blk.sched, Blk.twin, Blk.pmap, Blk.fec] ++ Blk.lines ++ Blk.hostEngines ++ Blk.hosts ++
    Blk.ports) t ∧ s.KeepsUnitsBut (fun u => { u with line := [], sram := {}, sched := {}, twin := {}, log := {} }) t ∧
    s.KeepsRam t) ∧
  (∀ (s : State) (n : Fin 17) (hard : BitVec 136) (rel : List (Fin 17)) (phase : Fin 40), (s.lane n).inner = .locked →
    Codec.chase ((List.range 136).map hard.getLsbD) (rel.map (·.val)) = .clean → Gives (.innerCodewordDecoded n hard rel
    phase) s fun t => (t.reg (Blk.llane n) LLANE.SYM_CNT_LO).toNat = ((s.reg (Blk.llane n) LLANE.SYM_CNT_LO).toNat + 68) % 2
    ^ 32 ∧ t.lane n = s.lane n ∧ s.KeepsRegs [Blk.llane n] t ∧ s.KeepsBlk (Blk.llane n) [LLANE.SYM_CNT_LO, LLANE.SYM_CNT_HI,
    LLANE.INNER_CNT_CTL, HDR.EVT_TIME_LO, HDR.EVT_TIME_HI] t ∧ s.KeepsUnits t) ∧
  (∀ (s : State) (ps : List Nat) (n : Fin 17) (hard : BitVec 136) (rel : List (Fin 17)) (phase : Fin 40), (s.lane n).inner =
    .locked → Codec.chase ((List.range 136).map hard.getLsbD) (rel.map (·.val)) = .corrected ps → Gives
    (.innerCodewordDecoded n hard rel phase) s fun t => (t.reg (Blk.llane n) LLANE.CORR_BITS_LO).toNat = ((s.reg (Blk.llane
    n) LLANE.CORR_BITS_LO).toNat + ps.length) % 2 ^ 32 ∧ (t.reg (Blk.llane n) LLANE.CW_CORR_LO).toNat = ((s.reg (Blk.llane
    n) LLANE.CW_CORR_LO).toNat + 1) % 2 ^ 32 ∧ t.reg (Blk.llane n) LLANE.CW_FAIL = s.reg (Blk.llane n) LLANE.CW_FAIL ∧
    t.lane n = s.lane n ∧ s.KeepsRegs ([Blk.log, Blk.tsu, Blk.twin] ++ Blk.lines ++ Blk.ports) t ∧ s.KeepsUnitsBut (fun u =>
    { u with line := [], sram := {}, laneTsu := [], log := {} }) t ∧ s.KeepsRam t) ∧
  (∀ (s : State) (n : Fin 17) (score : Fin 290), s.fb Blk.fec (FEC.LPC_STAT_ACTIVE n) = true → s.clocksStopped = false →
    (s.lane n).lpc = .hunt → Gives (.lpcBlockPeriod n score) s fun t => (t.lane n).lpc = (if 250 ≤ score.val then .verify 3
    else .hunt) ∧ t.f Blk.fec (FEC.LPC_STAT_FMATCH n) = score.val ∧ t.fb Blk.fec (FEC.LPC_STAT_LOCK n) = s.fb Blk.fec
    (FEC.LPC_STAT_LOCK n) ∧ s.KeepsRegs [Blk.fec] t ∧ s.KeepsBlk Blk.fec [FEC.LPC_STAT n] t ∧ s.KeepsUnitsBut (fun u =>
    { u with line := [], sram := {}, sched := {}, twin := {}, log := {} }) t ∧ s.KeepsRam t) ∧
  (∀ (s : State) (k : Nat) (n : Fin 17) (score : Fin 290), s.fb Blk.fec (FEC.LPC_STAT_ACTIVE n) = true → s.clocksStopped =
    false → (s.lane n).lpc = .verify k → k ≤ 1 → 250 ≤ score.val → Gives (.lpcBlockPeriod n score) s fun t => (t.lane n).lpc
    = .locked ∧ t.fb Blk.fec (FEC.LPC_STAT_LOCK n) = true ∧ t.f Blk.fec (FEC.LPC_STAT_FMATCH n) = score.val ∧ s.KeepsRegs
    ([Blk.log, Blk.sched, Blk.twin, Blk.pmap, Blk.fec] ++ Blk.lines ++ Blk.hostEngines ++ Blk.hosts ++ Blk.ports) t ∧
    s.KeepsUnitsBut (fun u => { u with line := [], sram := {}, sched := {}, twin := {}, log := {} }) t ∧ s.KeepsRam t) ∧
  (∀ (s : State) (n : Fin 17) (score : Fin 290), s.fb Blk.fec (FEC.LPC_STAT_ACTIVE n) = true → s.clocksStopped = false →
    (s.lane n).lpc = .locked → score.val < 200 → 7 ≤ (s.lane n).lpcLow → Gives (.lpcBlockPeriod n score) s fun t => (t.lane
    n).lpc = .hunt ∧ t.fb Blk.fec (FEC.LPC_STAT_LOCK n) = false ∧ (t.f Blk.fec FEC.LOSS_MAP_LANE).testBit n = true ∧
    (t.intStat Blk.fec).getLsbD FEC.INT_LPC_LOCK_LOST = true ∧ s.KeepsRegs ([Blk.log, Blk.sched, Blk.twin, Blk.pmap,
    Blk.fec] ++ Blk.lines ++ Blk.hostEngines ++ Blk.hosts ++ Blk.ports) t ∧ s.KeepsUnitsBut (fun u =>
    { u with line := [], sram := {}, sched := {}, twin := {}, log := {} }) t ∧ s.KeepsRam t) ∧
  (∀ (s : State) (n : Fin 17), s.fb Blk.fec (FEC.LPC_STAT_ACTIVE n) = true → s.clocksStopped = false → s.fb Blk.fec
    (FEC.LPC_STAT_LOCK n) = true → Gives (.lpcBlockEnd n []) s fun t => (t.reg Blk.fec (FEC.ROW_LO n)).toNat = ((s.reg
    Blk.fec (FEC.ROW_LO n)).toNat + 289) % 2 ^ 32 ∧ t.reg Blk.fec (FEC.FAIL n) = s.reg Blk.fec (FEC.FAIL n) ∧ t.reg Blk.fec
    (FEC.CORR_LO n) = s.reg Blk.fec (FEC.CORR_LO n) ∧ s.KeepsRegs [Blk.fec] t ∧ s.KeepsUnits t) ∧
  (∀ (s : State) (n : Fin 17) (rows : List LpcRow), s.fb Blk.fec (FEC.LPC_STAT_ACTIVE n) = true → s.clocksStopped = false →
    s.fb Blk.fec (FEC.LPC_STAT_LOCK n) = false → Gives (.lpcBlockEnd n rows) s fun t => (t.f Blk.fec
    FEC.FAIL_MAP_LANE).testBit n = true ∧ (t.intStat Blk.fec).getLsbD FEC.INT_LPC_ROW_FAIL = true ∧ t.reg Blk.fec
    (FEC.ROW_LO n) = s.reg Blk.fec (FEC.ROW_LO n) ∧ t.reg Blk.fec (FEC.FAIL n) = s.reg Blk.fec (FEC.FAIL n) ∧ s.KeepsRegs
    [Blk.fec] t ∧ s.KeepsUnits t) ∧
  (∀ (s : State) (n : Fin 17), s.fb Blk.fec (FEC.LPC_STAT_ACTIVE n) = true → s.f Blk.fec (FEC.LPC_STAT_ITER n) ≠ s.lpcIter n →
    Gives (.iterChg n) s fun t => t.f Blk.fec (FEC.LPC_STAT_ITER n) = s.lpcIter n ∧ (t.intStat Blk.fec).getLsbD
    FEC.INT_ITER_CHG = true ∧ s.KeepsRegs [Blk.fec] t ∧ s.KeepsUnits t)

/-- Clearing a PLL's EN clears LOCK without LOCK_LOST; an enabled PLL locks with its lock time shown and loses lock with
LOCK_LOST; LANE_PWR powers slices and clears the enables of those it takes away; PWR_RDY sets on powered slices;
SIG_DET, CDR_LOCK and FREQ_OOR set and clear under the conditions of R61 and R72, with SIG_LOST, CDR_LOCK_LOST and
FREQ_OOR raised. It follows R61, R72, R93, R176, R191 in the parts that these sentences say. -/
def Obligations.LaneSignals : Prop :=
  (∀ (s : State) (q : Requester) (p : PllId) (v : Word), s.Serves q (pllRegs p).blk true → (pllRegs p).en.get v = 0 →
    s.pllLocked p = true → Gives (.pllEnable q p v) s fun t => t.pllLocked p = false ∧ t.f (pllRegs p).blk (pllRegs p).en =
    0 ∧ t.f (pllRegs p).blk (pllRegs p).lost = s.f (pllRegs p).blk (pllRegs p).lost ∧ t.tb = s.tb ∧ s.KeepsRegs ([Blk.log,
    Blk.sched, Blk.therm, Blk.twin, Blk.pmap, Blk.fec] ++ Blk.lines ++ Blk.lineEngines ++ Blk.hostEngines ++ Blk.hosts ++
    Blk.ports) t ∧ s.KeepsUnitsBut (fun u =>
    { u with line := [], engines := [], sram := {}, sched := {}, twin := {}, log := {} }) t ∧ s.KeepsRam t) ∧
  (∀ (s : State) (p : PllId) (us : BitVec 8), s.blkOn (pllRegs p).blk = true → s.fb (pllRegs p).blk (pllRegs p).en = true →
    s.clocksStopped = false → s.pllLocked p = false → Gives (.pllLock p us) s fun t => t.pllLocked p = true ∧ t.f (pllRegs
    p).blk (pllRegs p).us = us.toNat ∧ t.f (pllRegs p).blk (pllRegs p).lost = s.f (pllRegs p).blk (pllRegs p).lost ∧ t.tb =
    s.tb ∧ s.KeepsRegs ([Blk.log, Blk.tsu, Blk.sched, Blk.therm, Blk.twin, Blk.pmap, Blk.fec] ++ Blk.lines ++
    Blk.lineEngines ++ Blk.hostEngines ++ Blk.hosts ++ Blk.ports) t ∧ s.KeepsUnitsBut (fun u =>
    { u with line := [], sram := {}, laneTsu := [], sched := {}, twin := {}, log := {} }) t ∧ s.KeepsRam t) ∧
  (∀ (s : State) (p : PllId), s.blkOn (pllRegs p).blk = true → s.pllLocked p = true → Gives (.pllLockLost p) s fun t =>
    t.pllLocked p = false ∧ t.f (pllRegs p).blk (pllRegs p).lost = 1 ∧ t.fb (pllRegs p).blk (pllRegs p).en = s.fb (pllRegs
    p).blk (pllRegs p).en ∧ t.tb = s.tb ∧ s.KeepsRegs ([Blk.log, Blk.tsu, Blk.sched, Blk.therm, Blk.twin, Blk.pmap, Blk.fec]
    ++ Blk.lines ++ Blk.lineEngines ++ Blk.hostEngines ++ Blk.hosts ++ Blk.ports) t ∧ s.KeepsUnitsBut (fun u =>
    { u with line := [], engines := [], sram := {}, laneTsu := [], sched := {}, twin := {}, log := {} }) t ∧ s.KeepsRam t) ∧
  (∀ (s : State) (c : Fin 4) (q : Requester) (v : Word), s.Serves q (Blk.lclu c) true → Gives (.lanePwrWrite q (.line c) v) s
    fun t => t.f (Blk.lclu c) LCLU.LANE_PWR_RX_PWR = LCLU.LANE_PWR_RX_PWR.get v ∧ t.f (Blk.lclu c) LCLU.LANE_PWR_TX_PWR =
    LCLU.LANE_PWR_TX_PWR.get v ∧ ((LCLU.LANE_PWR_RX_PWR.get v).testBit 2 = false → t.f (Blk.llane (4 * c + 2))
    LLANE.RX_CTL_RX_EN = 0) ∧ ((LCLU.LANE_PWR_TX_PWR.get v).testBit 2 = false → t.f (Blk.llane (4 * c + 2))
    LLANE.TX_CTL_TX_EN = 0) ∧ t.tb = s.tb ∧ s.KeepsRegs ([Blk.log, Blk.sched, Blk.therm, Blk.twin, Blk.pmap, Blk.fec] ++
    Blk.lines ++ Blk.lineEngines ++ Blk.hostEngines ++ Blk.hosts ++ Blk.ports) t ∧ s.KeepsUnitsBut (fun u =>
    { u with line := [], host := [], engines := [], sram := {}, sched := {}, twin := {}, log := {} }) t ∧ s.KeepsRam t) ∧
  (∀ (s : State) (n : Fin 17), s.blkOn (Blk.llane n) = true → s.rxPowered n = true → Gives (.slicePwrRdy (.line n)) s fun t =>
    t.f (Blk.llane n) LLANE.RX_STAT_PWR_RDY = 1 ∧ (s.txPowered n = true → t.f (Blk.llane n) LLANE.TX_STAT_PWR_RDY = 1) ∧
    s.KeepsRegs [Blk.llane n] t ∧ s.KeepsBlk (Blk.llane n) [LLANE.RX_STAT, LLANE.TX_STAT] t ∧ s.KeepsUnits t) ∧
  (∀ (s : State) (m : Fin 64), s.hostPowered m = true → Gives (.slicePwrRdy (.host m)) s fun t => t.f (Blk.hlane m)
    HLANE.HL_STAT_PWR_RDY = 1 ∧ s.KeepsRegs [Blk.hlane m] t ∧ s.KeepsBlk (Blk.hlane m) [HLANE.HL_STAT] t ∧ s.KeepsUnits t) ∧
  (∀ (s : State) (n : Fin 17), s.rxRuns n = true → s.pllLocked (linePll n) = true → s.fb (Blk.llane n) LLANE.RX_STAT_CAL_RUN =
    false → s.fb (Blk.llane n) LLANE.RX_STAT_SIG_DET = false → Gives (.sigDetRise (.line n)) s fun t => t.f (Blk.llane n)
    LLANE.RX_STAT_SIG_DET = 1 ∧ (t.eng n).sigChg = true ∧ t.tb = s.tb ∧ s.KeepsRegs ([Blk.log, Blk.tsu, Blk.twin, Blk.fec]
    ++ Blk.lines ++ Blk.lineEngines ++ Blk.hostEngines ++ Blk.hosts ++ Blk.ports) t ∧ s.KeepsUnitsBut (fun u =>
    { u with line := [], engines := [], sram := {}, laneTsu := [], log := {} }) t ∧ s.KeepsRam t) ∧
  (∀ (s : State) (m : Fin 64), s.hostRuns m = true → s.fb (Blk.hlane m) HLANE.HL_STAT_CAL_RUN = false → s.fb (Blk.hlane m)
    HLANE.HL_STAT_SIG_DET = false → Gives (.sigDetRise (.host m)) s fun t => t.f (Blk.hlane m) HLANE.HL_STAT_SIG_DET = 1 ∧
    (t.eng (17 + m / 16)).sigChg = true ∧ s.KeepsRegs [Blk.hlane m] t ∧ s.KeepsBlk (Blk.hlane m) [HLANE.HL_STAT] t ∧ t.tb =
    s.tb ∧ s.KeepsUnitsBut (fun u => { u with line := [], engines := [], sram := {}, laneTsu := [], log := {} }) t ∧
    s.KeepsRam t) ∧
  (∀ (s : State) (n : Fin 17), s.fb (Blk.llane n) LLANE.RX_STAT_SIG_DET = true → Gives (.sigDetFall (.line n)) s fun t => t.f
    (Blk.llane n) LLANE.RX_STAT_SIG_DET = 0 ∧ t.f (Blk.llane n) LLANE.RX_STAT_CDR_LOCK = 0 ∧ (t.intStat (Blk.llane
    n)).getLsbD LLANE.INT_SIG_LOST = true ∧ (t.eng n).sigChg = true ∧ t.f (Blk.llane n) LLANE.EYE_STAT_BUSY = 0 ∧ t.tb =
    s.tb ∧ s.KeepsRegs ([Blk.tsu, Blk.twin] ++ Blk.lines ++ Blk.hostEngines ++ Blk.hosts ++ Blk.ports) t ∧ s.KeepsUnitsBut
    (fun u => { u with line := [], engines := [], laneTsu := [] }) t) ∧
  (∀ (s : State) (m : Fin 64), s.fb (Blk.hlane m) HLANE.HL_STAT_SIG_DET = true → Gives (.sigDetFall (.host m)) s fun t => t.f
    (Blk.hlane m) HLANE.HL_STAT_SIG_DET = 0 ∧ t.f (Blk.hlane m) HLANE.HL_STAT_CDR_LOCK = 0 ∧ (s.fb (Blk.hlane m)
    HLANE.HL_STAT_RX_IDLE = false → (t.intStat (Blk.hlane m)).getLsbD HLANE.INT_SIG_LOST = true) ∧ t.f (Blk.hlane m)
    HLANE.HL_STAT_RX_IDLE = s.f (Blk.hlane m) HLANE.HL_STAT_RX_IDLE ∧ t.tb = s.tb ∧ s.KeepsRegs ([Blk.tsu, Blk.twin] ++
    Blk.lines ++ Blk.hostEngines ++ Blk.hosts ++ Blk.ports) t ∧ s.KeepsUnitsBut (fun u =>
    { u with line := [], engines := [], laneTsu := [] }) t) ∧
  (∀ (s : State) (n : Fin 17) (freq : Word), s.rxRuns n = true → s.pllLocked (linePll n) = true → s.fb (Blk.llane n)
    LLANE.RX_STAT_SIG_DET = true → s.fb (Blk.llane n) LLANE.RX_STAT_FREQ_OOR = false → s.fb (Blk.llane n)
    LLANE.RX_STAT_CDR_LOCK = false → Gives (.cdrLockGain (.line n) freq) s fun t => t.f (Blk.llane n) LLANE.RX_STAT_CDR_LOCK
    = 1 ∧ t.reg (Blk.llane n) LLANE.CDR_FREQ = BitVec.ofInt 32 (clampInt (-256000) 256000 freq.toInt) ∧ (t.eng n).sigChg =
    true ∧ t.f (Blk.llane n) LLANE.RX_STAT_SIG_DET = 1 ∧ t.tb = s.tb ∧ s.KeepsRegs ([Blk.log, Blk.sched, Blk.twin, Blk.pmap,
    Blk.fec] ++ Blk.lines ++ Blk.lineEngines ++ Blk.hostEngines ++ Blk.hosts ++ Blk.ports) t ∧ s.KeepsUnitsBut (fun u =>
    { u with host := [], engines := [], sram := {}, sched := {}, twin := {}, log := {} }) t ∧ s.KeepsRam t) ∧
  (∀ (s : State) (m : Fin 64) (freq : Word), s.hostRuns m = true → s.fb (Blk.hlane m) HLANE.HL_STAT_SIG_DET = true → s.fb
    (Blk.hlane m) HLANE.HL_STAT_FREQ_OOR = false → s.fb (Blk.hlane m) HLANE.HL_STAT_CDR_LOCK = false → Gives (.cdrLockGain
    (.host m) freq) s fun t => t.f (Blk.hlane m) HLANE.HL_STAT_CDR_LOCK = 1 ∧ t.reg (Blk.hlane m) HLANE.CDR_FREQ =
    BitVec.ofInt 32 (clampInt (-256000) 256000 freq.toInt) ∧ t.tb = s.tb ∧ s.KeepsRegs ([Blk.log, Blk.sched, Blk.twin,
    Blk.pmap, Blk.fec] ++ Blk.lines ++ Blk.lineEngines ++ Blk.hostEngines ++ Blk.hosts ++ Blk.ports) t ∧ s.KeepsUnitsBut
    (fun u => { u with host := [], engines := [], sram := {}, sched := {}, twin := {}, log := {} }) t ∧ s.KeepsRam t) ∧
  (∀ (s : State) (n : Fin 17), s.fb (Blk.llane n) LLANE.RX_STAT_CDR_LOCK = true → Gives (.cdrLockLoss (.line n)) s fun t =>
    t.f (Blk.llane n) LLANE.RX_STAT_CDR_LOCK = 0 ∧ (t.intStat (Blk.llane n)).getLsbD LLANE.INT_CDR_LOCK_LOST = true ∧ t.f
    (Blk.llane n) LLANE.RX_STAT_SIG_DET = s.f (Blk.llane n) LLANE.RX_STAT_SIG_DET ∧ (t.eng n).sigChg = true ∧ t.tb = s.tb ∧
    s.KeepsRegs ([Blk.tsu, Blk.twin] ++ Blk.lines ++ Blk.hostEngines ++ Blk.hosts ++ Blk.ports) t ∧ s.KeepsUnitsBut (fun u
    => { u with engines := [], laneTsu := [] }) t) ∧
  (∀ (s : State) (m : Fin 64), s.fb (Blk.hlane m) HLANE.HL_STAT_CDR_LOCK = true → s.fb (Blk.hlane m) HLANE.HL_STAT_RX_IDLE =
    false → Gives (.cdrLockLoss (.host m)) s fun t => t.f (Blk.hlane m) HLANE.HL_STAT_CDR_LOCK = 0 ∧ (t.intStat (Blk.hlane
    m)).getLsbD HLANE.INT_CDR_LOCK_LOST = true ∧ t.f (Blk.hlane m) HLANE.HL_STAT_SIG_DET = s.f (Blk.hlane m)
    HLANE.HL_STAT_SIG_DET ∧ t.tb = s.tb ∧ s.KeepsRegs ([Blk.tsu, Blk.twin] ++ Blk.lines ++ Blk.hostEngines ++ Blk.hosts ++
    Blk.ports) t ∧ s.KeepsUnitsBut (fun u => { u with engines := [], laneTsu := [] }) t) ∧
  (∀ (s : State) (n : Fin 17), s.rxRuns n = true → s.fb (Blk.llane n) LLANE.RX_STAT_FREQ_OOR = false → Gives (.freqOorSet
    (.line n)) s fun t => t.f (Blk.llane n) LLANE.RX_STAT_FREQ_OOR = 1 ∧ t.f (Blk.llane n) LLANE.RX_STAT_CDR_LOCK = 0 ∧
    (t.intStat (Blk.llane n)).getLsbD LLANE.INT_FREQ_OOR = true ∧ t.tb = s.tb ∧ s.KeepsRegs (Blk.lines ++ Blk.lineEngines ++
    Blk.hostEngines ++ Blk.hosts) t ∧ s.KeepsUnitsBut (fun u => { u with engines := [] }) t) ∧
  (∀ (s : State) (m : Fin 64), s.hostRuns m = true → s.fb (Blk.hlane m) HLANE.HL_STAT_FREQ_OOR = false → Gives (.freqOorSet
    (.host m)) s fun t => t.f (Blk.hlane m) HLANE.HL_STAT_FREQ_OOR = 1 ∧ t.f (Blk.hlane m) HLANE.HL_STAT_CDR_LOCK = 0 ∧
    (t.intStat (Blk.hlane m)).getLsbD HLANE.INT_FREQ_OOR = true ∧ t.tb = s.tb ∧ s.KeepsRegs (Blk.lines ++ Blk.lineEngines ++
    Blk.hostEngines ++ Blk.hosts) t ∧ s.KeepsUnitsBut (fun u => { u with engines := [] }) t) ∧
  (∀ (s : State) (n : Fin 17), Gives (.freqOorClear (.line n)) s fun t => t.f (Blk.llane n) LLANE.RX_STAT_FREQ_OOR = 0 ∧ t.f
    (Blk.llane n) LLANE.RX_STAT_CDR_LOCK = s.f (Blk.llane n) LLANE.RX_STAT_CDR_LOCK ∧ s.KeepsRegs [Blk.llane n] t ∧
    s.KeepsBlk (Blk.llane n) [LLANE.RX_STAT] t ∧ s.KeepsUnits t) ∧
  (∀ (s : State) (m : Fin 64), Gives (.freqOorClear (.host m)) s fun t => t.f (Blk.hlane m) HLANE.HL_STAT_FREQ_OOR = 0 ∧
    s.KeepsRegs [Blk.hlane m] t ∧ s.KeepsBlk (Blk.hlane m) [HLANE.HL_STAT] t ∧ s.KeepsUnits t)

/-- An RX_CTL write enables a powered receiver with calibration running, and refuses an illegal change of RATE; foreground
calibration builds the slot map with usable sub-converters; a background step ends with the spare in the slot; bank
words are refused in the bank in use and read back otherwise, with INDEX advancing under AUTO_INC; a residue mismatch of
a running checker is counted and raised, and injections wait for the checker; CLR, SNAP and LIVE act on counter groups;
the eye monitor starts and ends a collection. It follows R62, R63, R64, R65, R74, R75, R83, R84, R87, R88, R89, R142 in
the parts that these sentences say. -/
def Obligations.LineReceiver : Prop :=
  (∀ (s : State) (q : Requester) (n : Fin 17) (v : Word), s.Serves q (Blk.llane n) true → s.fb (Blk.llane n)
    LLANE.RX_CTL_RX_EN = false → LLANE.RX_CTL_RX_EN.get v = 1 → s.rxPowered n = true → s.bist.lane ≠ some n.val →
    LLANE.RX_CTL_RATE.get v ≠ 3 → Gives (.rxCtlWrite q n v) s fun t => t.f (Blk.llane n) LLANE.RX_CTL_RX_EN = 1 ∧ t.f
    (Blk.llane n) LLANE.RX_CTL_RATE = LLANE.RX_CTL_RATE.get v ∧ t.f (Blk.llane n) LLANE.RX_STAT_CAL_RUN = 1 ∧ t.f (Blk.llane
    n) LLANE.RX_STAT_CFG_REFUSED = s.f (Blk.llane n) LLANE.RX_STAT_CFG_REFUSED ∧ t.tb = s.tb ∧ s.KeepsRegs ([Blk.log,
    Blk.sched, Blk.twin, Blk.pmap, Blk.fec] ++ Blk.lines ++ Blk.lineEngines ++ Blk.hostEngines ++ Blk.hosts ++ Blk.ports) t
    ∧ s.KeepsUnitsBut (fun u => { u with line := [], engines := [], sram := {}, sched := {}, twin := {}, log := {} }) t ∧
    s.KeepsRam t) ∧
  (∀ (s : State) (q : Requester) (n : Fin 17) (v : Word), s.Serves q (Blk.llane n) true → s.fb (Blk.llane n)
    LLANE.RX_CTL_RX_EN = true → LLANE.RX_CTL_RX_EN.get v = 1 → LLANE.RX_CTL_RATE.get v ≠ s.f (Blk.llane n) LLANE.RX_CTL_RATE
    → Gives (.rxCtlWrite q n v) s fun t => t.f (Blk.llane n) LLANE.RX_CTL_RX_EN = 1 ∧ t.f (Blk.llane n) LLANE.RX_CTL_RATE =
    s.f (Blk.llane n) LLANE.RX_CTL_RATE ∧ t.f (Blk.llane n) LLANE.RX_STAT_CFG_REFUSED = 1 ∧ (t.intStat (Blk.llane
    n)).getLsbD LLANE.INT_CFG_REFUSED = true ∧ s.KeepsRegs ([Blk.log, Blk.sched, Blk.twin, Blk.pmap, Blk.fec] ++ Blk.lines
    ++ Blk.lineEngines ++ Blk.hostEngines ++ Blk.hosts ++ Blk.ports) t ∧ s.KeepsUnitsBut (fun u =>
    { u with line := [], engines := [], sram := {}, sched := {}, twin := {}, log := {} }) t ∧ s.KeepsRam t) ∧
  (∀ (s : State) (n : Fin 17) (cal : List SubCal) (spur : BitVec 8) (resErr : BitVec 16), s.fb (Blk.llane n)
    LLANE.RX_STAT_CAL_RUN = true → Gives (.fgCalDone n cal spur resErr) s fun t => t.f (Blk.llane n) LLANE.RX_STAT_CAL_RUN =
    0 ∧ t.f (Blk.llane n) LLANE.ADC_QUAL_SPUR = spur.toNat ∧ t.f (Blk.llane n) LLANE.ADC_QUAL_RES_ERR = resErr.toNat ∧
    ((t.lane n).slot.all fun e => t.subUsable n e.2) = true ∧ s.KeepsRegs [Blk.llane n] t ∧ s.KeepsBlk (Blk.llane n)
    [LLANE.RX_STAT, LLANE.ADC_QUAL] t ∧ s.KeepsUnitsBut (fun u => { u with line := [] }) t) ∧
  (∀ (s : State) (slot : Nat) (spare : Nat) (n : Fin 17) (trim : SubCal) (spur : BitVec 8) (resErr : BitVec 16), (s.lane n).bg
    = some (slot, some spare) → Gives (.bgcalStepEnd n trim spur resErr) s fun t => SMap.get? (t.lane n).slot slot = some
    spare ∧ (t.lane n).bgNext = (if activeSlots (s.f (Blk.llane n) LLANE.RX_CTL_RATE) ≤ slot + 1 then 0 else slot + 1) ∧
    SMap.get {} (t.lane n).sub spare = ⟨trim.offset, trim.gain, trim.skew, trim.inRange⟩ ∧ s.KeepsRegs [Blk.llane n] t ∧
    s.KeepsBlk (Blk.llane n) [LLANE.RX_STAT, LLANE.ADC_QUAL, HDR.EVT_TIME_LO, HDR.EVT_TIME_HI] t ∧ s.KeepsUnitsBut (fun u =>
    { u with line := [] }) t) ∧
  (∀ (s : State) (q : Requester) (n : Fin 17) (v : Word), s.Serves q (Blk.llane n) true → s.f (Blk.llane n)
    LLANE.COEF_IDX_BANK ≠ s.f (Blk.llane n) LLANE.EQ_STAT_IN_USE → s.f (Blk.llane n) LLANE.COEF_IDX_INDEX ≤ 145 → Gives
    (.coefDataWrite q n v) s fun t => t.rxWord n (s.f (Blk.llane n) LLANE.COEF_IDX_BANK) (s.f (Blk.llane n)
    LLANE.COEF_IDX_INDEX) = v.toNat % 4096 % 2 ^ rxBankBits (s.f (Blk.llane n) LLANE.COEF_IDX_INDEX) ∧ t.f (Blk.llane n)
    LLANE.COEF_IDX_INDEX = (if s.fb (Blk.llane n) LLANE.COEF_IDX_AUTO_INC then (s.f (Blk.llane n) LLANE.COEF_IDX_INDEX + 1)
    % 256 else s.f (Blk.llane n) LLANE.COEF_IDX_INDEX) ∧ t.f (Blk.llane n) LLANE.RX_STAT_CFG_REFUSED = s.f (Blk.llane n)
    LLANE.RX_STAT_CFG_REFUSED ∧ s.KeepsRegs [Blk.llane n] t ∧ s.KeepsBlk (Blk.llane n) [LLANE.COEF_IDX, LLANE.EQ_STAT] t ∧
    s.KeepsUnitsBut (fun u => { u with line := [] }) t) ∧
  (∀ (s : State) (q : Requester) (n : Fin 17) (v : Word), s.Serves q (Blk.llane n) true → (s.f (Blk.llane n)
    LLANE.COEF_IDX_BANK = s.f (Blk.llane n) LLANE.EQ_STAT_IN_USE ∨ 145 < s.f (Blk.llane n) LLANE.COEF_IDX_INDEX) → Gives
    (.coefDataWrite q n v) s fun t => t.lane n = s.lane n ∧ t.f (Blk.llane n) LLANE.RX_STAT_CFG_REFUSED = 1 ∧ (t.intStat
    (Blk.llane n)).getLsbD LLANE.INT_CFG_REFUSED = true ∧ s.KeepsRegs [Blk.llane n] t ∧ s.KeepsUnits t) ∧
  (∀ (s : State) (q : Requester) (n : Fin 17), s.Serves q (Blk.llane n) false → Gives (.coefDataRead q n) s fun t =>
    OutMsg.regData q (blkBase (Blk.llane n) + LLANE.COEF_DATA) (BitVec.ofNat 32 (s.rxWordRead n (s.f (Blk.llane n)
    LLANE.COEF_IDX_BANK) (s.f (Blk.llane n) LLANE.COEF_IDX_INDEX))) ∈ t.out ∧ t.f (Blk.llane n) LLANE.COEF_IDX_INDEX = (if
    s.fb (Blk.llane n) LLANE.COEF_IDX_AUTO_INC then (s.f (Blk.llane n) LLANE.COEF_IDX_INDEX + 1) % 256 else s.f (Blk.llane
    n) LLANE.COEF_IDX_INDEX) ∧ t.lane n = s.lane n ∧ s.KeepsRegs [Blk.llane n] t ∧ s.KeepsBlk (Blk.llane n) [LLANE.COEF_IDX]
    t ∧ s.KeepsUnits t) ∧
  (∀ (s : State) (n : Fin 17) (group : Fin 16), s.ffeChecks n = true → Gives (.ffeResidueMismatch n group) s fun t => (t.reg
    (Blk.llane n) LLANE.RES_FFE_CNT).toNat = ((s.reg (Blk.llane n) LLANE.RES_FFE_CNT).toNat + 1) % 2 ^ 32 ∧ (t.reg
    (Blk.llane n) LLANE.RES_CNT).toNat = ((s.reg (Blk.llane n) LLANE.RES_CNT).toNat + 1) % 2 ^ 32 ∧ t.reg (Blk.llane n)
    LLANE.RES_MLSE_CNT = s.reg (Blk.llane n) LLANE.RES_MLSE_CNT ∧ (t.intStat (Blk.llane n)).getLsbD LLANE.INT_RES_FAULT =
    true ∧ (s.dpCycle * s.cycleSymbols n + group * ffeGroup (s.f (Blk.llane n) LLANE.RX_CTL_RATE), ffeGroup (s.f (Blk.llane
    n) LLANE.RX_CTL_RATE)) ∈ (t.lane n).marks ∧ s.KeepsRegs ([Blk.log, Blk.tsu, Blk.twin, Blk.fec] ++ Blk.lines ++
    Blk.lineEngines ++ Blk.hostEngines ++ Blk.ports) t ∧ s.KeepsUnitsBut (fun u =>
    { u with line := [], sram := {}, laneTsu := [], log := {} }) t ∧ s.KeepsRam t) ∧
  (∀ (s : State) (n : Fin 17) (group : Fin 16), s.mlseChecks n = true → 16 * group.val < s.cycleSymbols n → Gives
    (.mlseResidueMismatch n group) s fun t => (t.reg (Blk.llane n) LLANE.RES_MLSE_CNT).toNat = ((s.reg (Blk.llane n)
    LLANE.RES_MLSE_CNT).toNat + 1) % 2 ^ 32 ∧ t.reg (Blk.llane n) LLANE.RES_FFE_CNT = s.reg (Blk.llane n) LLANE.RES_FFE_CNT
    ∧ (t.intStat (Blk.llane n)).getLsbD LLANE.INT_RES_FAULT = true ∧ (s.dpCycle * s.cycleSymbols n + group * 16, 48) ∈
    (t.lane n).marks ∧ s.KeepsRegs ([Blk.log, Blk.tsu, Blk.twin, Blk.fec] ++ Blk.lines ++ Blk.lineEngines ++ Blk.hostEngines
    ++ Blk.ports) t ∧ s.KeepsUnitsBut (fun u => { u with line := [], sram := {}, laneTsu := [], log := {} }) t ∧ s.KeepsRam
    t) ∧
  (∀ (s : State) (q : Requester) (n : Fin 17), s.Serves q (Blk.llane n) true → s.ffeChecks n = false → Gives (.injFfe q n) s
    fun t => (t.lane n).injFfe = true ∧ t.reg (Blk.llane n) LLANE.RES_FFE_CNT = s.reg (Blk.llane n) LLANE.RES_FFE_CNT ∧
    s.KeepsRegs [Blk.llane n] t ∧ s.KeepsBlk (Blk.llane n) [LLANE.RES_CTL] t ∧ s.KeepsUnitsBut (fun u =>
    { u with line := [], sram := {}, laneTsu := [], log := {} }) t ∧ s.KeepsRam t) ∧
  (∀ (s : State) (q : Requester) (n : Fin 17), s.Serves q (Blk.llane n) true → s.ffeChecks n = false → Gives (.injMlse q n) s
    fun t => (t.lane n).injMlse = true ∧ t.reg (Blk.llane n) LLANE.RES_MLSE_CNT = s.reg (Blk.llane n) LLANE.RES_MLSE_CNT ∧
    s.KeepsRegs [Blk.llane n] t ∧ s.KeepsBlk (Blk.llane n) [LLANE.RES_CTL] t ∧ s.KeepsUnitsBut (fun u =>
    { u with line := [], sram := {}, laneTsu := [], log := {} }) t ∧ s.KeepsRam t) ∧
  (∀ (s : State) (off : Nat) (q : Requester) (g : CounterGroup), s.Serves q (counterRegs g).1 true → off ∈ (counterRegs g).2 →
    Gives (.counterClr q g) s fun t => t.reg (counterRegs g).1 off = 0 ∧ s.KeepsRegs [(counterRegs g).1] t ∧ s.KeepsBlk
    (counterRegs g).1 ((counterCtl g).off :: (counterRegs g).2) t ∧ s.KeepsUnits t) ∧
  (∀ (s : State) (snap : Fld) (live : Fld) (off : Nat) (q : Requester) (g : CounterGroup), s.Serves q (counterRegs g).1 true →
    counterSnapLive g = some (snap, live) → off ∈ (counterRegs g).2 → Gives (.counterSnap q g) s fun t => SMap.get?
    t.latched (regKey (counterRegs g).1 off) = some (s.reg (counterRegs g).1 off) ∧ t.f (counterRegs g).1 live = 0 ∧ t.reg
    (counterRegs g).1 off = s.reg (counterRegs g).1 off ∧ s.KeepsRegs [(counterRegs g).1] t ∧ s.KeepsUnits t) ∧
  (∀ (s : State) (snap : Fld) (live : Fld) (off : Nat) (q : Requester) (g : CounterGroup), s.Serves q (counterRegs g).1 true →
    counterSnapLive g = some (snap, live) → off ∈ (counterRegs g).2 → Gives (.counterLive q g) s fun t => SMap.get?
    t.latched (regKey (counterRegs g).1 off) = none ∧ t.f (counterRegs g).1 live = 1 ∧ t.reg (counterRegs g).1 off = s.reg
    (counterRegs g).1 off ∧ s.KeepsRegs [(counterRegs g).1] t ∧ s.KeepsUnits t) ∧
  (∀ (s : State) (q : Requester) (n : Fin 17) (v : Word), s.Serves q (Blk.llane n) true → Gives (.eyeStart q n v) s fun t =>
    t.f (Blk.llane n) LLANE.EYE_STAT_BUSY = 1 ∧ t.f (Blk.llane n) LLANE.EYE_STAT_ABORTED = 0 ∧ t.reg (Blk.llane n)
    LLANE.EYE_HITS = 0 ∧ t.reg (Blk.llane n) LLANE.EYE_TOTAL = 0 ∧ s.KeepsRegs [Blk.llane n] t ∧ s.KeepsBlk (Blk.llane n)
    [LLANE.EYE_CTL, LLANE.EYE_STAT, LLANE.EYE_HITS, LLANE.EYE_TOTAL] t ∧ s.KeepsUnitsBut (fun u => { u with line := [] }) t) ∧
  (∀ (s : State) (n : Fin 17) (hits : Word) (results : List EyeResult), s.fb (Blk.llane n) LLANE.EYE_STAT_BUSY = true → s.fb
    (Blk.llane n) LLANE.EYE_STAT_NO_SPARE = false → Gives (.eyeDone n hits results) s fun t => t.f (Blk.llane n)
    LLANE.EYE_STAT_BUSY = 0 ∧ t.f (Blk.llane n) LLANE.EYE_STAT_DONE = 1 ∧ (t.reg (Blk.llane n) LLANE.EYE_TOTAL).toNat =
    s.eyeTotal n ∧ (t.reg (Blk.llane n) LLANE.EYE_HITS).toNat = min hits.toNat (s.eyeTotal n) ∧ (t.lane n).eyeSpare = none ∧
    (t.intStat (Blk.llane n)).getLsbD LLANE.INT_EYE_DONE = true ∧ s.KeepsRegs [Blk.llane n] t ∧ s.KeepsUnitsBut (fun u =>
    { u with line := [] }) t)

/-- A TX_CTL write enables a powered transmitter with calibration running, or refuses it; DAC calibration builds the
position map and clears CAL_RUN; a background step places its segment when the trim is in range; words of the set in use
are refused, others stored and read back; TX_PD_CTL and TX_PD_MAP select the set; CLR_SEEN releases a latched clear
while the pin is high. It follows R97, R98, R101, R102, R106, R107, R109, R116, R117, R118 in the parts that these
sentences say. -/
def Obligations.LineTransmitter : Prop :=
  (∀ (s : State) (q : Requester) (n : Fin 17) (v : Word), s.Serves q (Blk.llane n) true → s.fb (Blk.llane n)
    LLANE.TX_CTL_TX_EN = false → LLANE.TX_CTL_TX_EN.get v = 1 → s.txPowered n = true → s.bist.lane ≠ some n.val →
    LLANE.TX_CTL_RATE.get v ≠ 3 → Gives (.txCtlWrite q n v) s fun t => t.f (Blk.llane n) LLANE.TX_CTL_TX_EN = 1 ∧ t.f
    (Blk.llane n) LLANE.TX_CTL_RATE = LLANE.TX_CTL_RATE.get v ∧ t.f (Blk.llane n) LLANE.TX_STAT_CAL_RUN = 1 ∧ t.f (Blk.llane
    n) LLANE.TX_STAT_SQUELCHED = 1 ∧ s.KeepsRegs [Blk.llane n] t ∧ t.tb = s.tb ∧ s.KeepsUnitsBut (fun u =>
    { u with line := [] }) t) ∧
  (∀ (s : State) (q : Requester) (n : Fin 17) (v : Word), s.Serves q (Blk.llane n) true → s.fb (Blk.llane n)
    LLANE.TX_CTL_TX_EN = false → LLANE.TX_CTL_TX_EN.get v = 1 → s.txPowered n = false → Gives (.txCtlWrite q n v) s fun t =>
    t.f (Blk.llane n) LLANE.TX_CTL_TX_EN = 0 ∧ t.f (Blk.llane n) LLANE.TX_STAT_CFG_REFUSED = 1 ∧ (t.intStat (Blk.llane
    n)).getLsbD LLANE.INT_TX_CFG_REFUSED = true ∧ s.KeepsRegs [Blk.llane n] t ∧ s.KeepsUnitsBut (fun u =>
    { u with line := [] }) t) ∧
  (∀ (s : State) (n : Fin 17) (cal : List SegCal) (segRes : BitVec 12) (segMax : BitVec 8), s.fb (Blk.llane n)
    LLANE.TX_STAT_CAL_RUN = true → Gives (.dacCalDone n cal segRes segMax) s fun t => t.f (Blk.llane n)
    LLANE.TX_STAT_CAL_RUN = 0 ∧ t.f (Blk.llane n) LLANE.DAC_QUAL_SEG_RES = segRes.toNat ∧ t.f (Blk.llane n)
    LLANE.DAC_QUAL_SEG_MAX = segMax.toNat ∧ t.f (Blk.llane n) LLANE.DAC_QUAL_LAP = 0 ∧ ((t.lane n).segPos.all fun e =>
    !t.segFused n e.2) = true ∧ s.KeepsRegs [Blk.llane n] t ∧ t.tb = s.tb ∧ s.KeepsUnitsBut (fun u => { u with line := [] })
    t) ∧
  (∀ (s : State) (pos : Nat) (seg : Nat) (n : Fin 17) (trim : SegCal) (segRes : BitVec 12) (segMax : BitVec 8), (s.lane
    n).dacBg = some (pos, seg) → Gives (.dacBgcalStepEnd n trim segRes segMax) s fun t => SMap.get? (t.lane n).segPos pos =
    (if trim.inRange then some seg else SMap.get? (s.lane n).segPos pos) ∧ SMap.get {} (t.lane n).seg seg = ⟨trim.trim,
    trim.inRange⟩ ∧ (t.lane n).dacNext = (pos + 1) % 128 ∧ s.KeepsRegs [Blk.llane n] t ∧ t.tb = s.tb ∧ s.KeepsUnitsBut (fun
    u => { u with line := [] }) t) ∧
  (∀ (s : State) (q : Requester) (n : Fin 17) (v : Word), s.Serves q (Blk.llane n) true → txIndexOk (s.f (Blk.llane n)
    LLANE.TX_COEF_IDX_INDEX) = true → s.txInUse n (s.f (Blk.llane n) LLANE.TX_COEF_IDX_BANK) (s.f (Blk.llane n)
    LLANE.TX_COEF_IDX_INDEX) = false → 9 ≤ s.f (Blk.llane n) LLANE.TX_COEF_IDX_INDEX → Gives (.txCoefDataWrite q n v) s fun
    t => t.txWord n (s.f (Blk.llane n) LLANE.TX_COEF_IDX_BANK) (s.f (Blk.llane n) LLANE.TX_COEF_IDX_INDEX) = v.toNat % 1024
    ∧ t.f (Blk.llane n) LLANE.TX_STAT_CFG_REFUSED = s.f (Blk.llane n) LLANE.TX_STAT_CFG_REFUSED ∧ s.KeepsRegs [Blk.llane n]
    t ∧ s.KeepsBlk (Blk.llane n) [LLANE.TX_COEF_IDX] t ∧ s.KeepsUnitsBut (fun u => { u with line := [] }) t) ∧
  (∀ (s : State) (q : Requester) (n : Fin 17) (v : Word), s.Serves q (Blk.llane n) true → s.txInUse n (s.f (Blk.llane n)
    LLANE.TX_COEF_IDX_BANK) (s.f (Blk.llane n) LLANE.TX_COEF_IDX_INDEX) = true → Gives (.txCoefDataWrite q n v) s fun t =>
    t.lane n = s.lane n ∧ t.f (Blk.llane n) LLANE.TX_STAT_CFG_REFUSED = 1 ∧ (t.intStat (Blk.llane n)).getLsbD
    LLANE.INT_TX_CFG_REFUSED = true ∧ s.KeepsRegs [Blk.llane n] t ∧ s.KeepsUnits t) ∧
  (∀ (s : State) (q : Requester) (n : Fin 17), s.Serves q (Blk.llane n) false → Gives (.txCoefDataRead q n) s fun t =>
    OutMsg.regData q (blkBase (Blk.llane n) + LLANE.TX_COEF_DATA) (s.txCoefPeek n) ∈ t.out ∧ t.lane n = s.lane n ∧
    s.KeepsRegs [Blk.llane n] t ∧ s.KeepsBlk (Blk.llane n) [LLANE.TX_COEF_IDX] t ∧ s.KeepsUnits t) ∧
  (∀ (s : State) (q : Requester) (n : Fin 17) (map : Bool) (v : Word), s.Serves q (Blk.llane n) true → s.staged (Blk.llane n)
    = false → map = false → LLANE.TX_PD_CTL_FOLLOW.get v = 0 → Gives (.txPdCtlWrite q n map v) s fun t => t.f (Blk.llane n)
    LLANE.TX_PD_STAT_SET = LLANE.TX_PD_CTL_SET.get v ∧ t.f (Blk.llane n) LLANE.TX_PD_STAT_PENDING = 0 ∧ t.lane n = s.lane n
    ∧ s.KeepsRegs [Blk.llane n] t ∧ s.KeepsBlk (Blk.llane n) [LLANE.TX_PD_CTL, LLANE.TX_PD_STAT, HDR.EVT_TIME_LO,
    HDR.EVT_TIME_HI] t ∧ s.KeepsUnits t) ∧
  (∀ (s : State) (q : Requester) (n : Fin 17), s.Serves q (Blk.llane n) true → s.clrLow = false → Gives (.clrSeenClear q n) s
    fun t => t.f (Blk.llane n) LLANE.TX_STAT_CLR_SEEN = 0 ∧ (t.lane n).clrLatched = false ∧ s.KeepsRegs [Blk.llane n] t ∧
    s.KeepsBlk (Blk.llane n) [LLANE.TX_STAT, HDR.EVT_TIME_LO, HDR.EVT_TIME_HI] t ∧ s.KeepsUnitsBut (fun u =>
    { u with line := [] }) t)

/-- HL_CTL enables a powered lane into LOCK with calibration running and SEQ advanced, refuses a change of FORCE_RATE or
NEG_BYPASS on an enabled lane, and disables it; block lock leads to EXCHANGE, a page of wrong CRC is counted, a page
sent in COUNTDOWN lowers the count and the last leads to SWITCH, which ends at the selected rate; training frames and
the limits of R188 move the lane to UP or back to LOCK; RESTART clears the failed rates; RX_IDLE, the fast exit and the
bank words follow R178, R191 and R192. It follows R75, R176, R177, R178, R184, R185, R186, R188, R189, R190, R191, R192
in the parts that these sentences say. -/
def Obligations.HostNegotiation : Prop :=
  (∀ (s : State) (q : Requester) (m : Fin 64) (v : Word), s.Serves q (Blk.hlane m) true → s.fb (Blk.hlane m) HLANE.HL_CTL_EN =
    false → HLANE.HL_CTL_EN.get v = 1 → s.hostPowered m = true → rateBad m (HLANE.HL_CTL_FORCE_RATE.get v) = false → Gives
    (.hlCtlWrite q m v) s fun t => t.f (Blk.hlane m) HLANE.HL_CTL_EN = 1 ∧ t.hostState m = 1 ∧ t.f (Blk.hlane m)
    HLANE.HL_STAT_CAL_RUN = 1 ∧ t.f (Blk.hlane m) HLANE.NEG_STAT_FAIL_MASK = 0 ∧ t.f (Blk.hlane m) HLANE.NEG_STAT_SEQ = (s.f
    (Blk.hlane m) HLANE.NEG_STAT_SEQ + 1) % 16 ∧ t.f (Blk.hlane m) HLANE.HL_STAT_RATE = (if HLANE.HL_CTL_NEG_BYPASS.get v =
    1 then HLANE.HL_CTL_FORCE_RATE.get v else 1) ∧ t.tb = s.tb ∧ s.KeepsRegs ([Blk.log, Blk.sched, Blk.twin, Blk.pmap,
    Blk.fec] ++ Blk.lines ++ Blk.hostEngines ++ Blk.hosts ++ Blk.ports) t ∧ s.KeepsUnitsBut (fun u =>
    { u with host := [], engines := [], sram := {}, sched := {}, twin := {}, log := {} }) t ∧ s.KeepsRam t) ∧
  (∀ (s : State) (q : Requester) (m : Fin 64) (v : Word), s.Serves q (Blk.hlane m) true → s.fb (Blk.hlane m) HLANE.HL_CTL_EN =
    true → HLANE.HL_CTL_EN.get v = 1 → HLANE.HL_CTL_FORCE_RATE.get v ≠ s.f (Blk.hlane m) HLANE.HL_CTL_FORCE_RATE → Gives
    (.hlCtlWrite q m v) s fun t => t.f (Blk.hlane m) HLANE.HL_CTL_FORCE_RATE = s.f (Blk.hlane m) HLANE.HL_CTL_FORCE_RATE ∧
    t.f (Blk.hlane m) HLANE.HL_CTL_NEG_BYPASS = s.f (Blk.hlane m) HLANE.HL_CTL_NEG_BYPASS ∧ t.f (Blk.hlane m)
    HLANE.HL_STAT_CFG_REFUSED = 1 ∧ (t.intStat (Blk.hlane m)).getLsbD HLANE.INT_CFG_REFUSED = true ∧ s.KeepsRegs [Blk.hlane
    m] t ∧ s.KeepsUnits t) ∧
  (∀ (s : State) (q : Requester) (m : Fin 64) (v : Word), s.Serves q (Blk.hlane m) true → s.fb (Blk.hlane m) HLANE.HL_CTL_EN =
    true → HLANE.HL_CTL_EN.get v = 0 → Gives (.hlCtlWrite q m v) s fun t => t.f (Blk.hlane m) HLANE.HL_CTL_EN = 0 ∧
    t.hostState m = 0 ∧ t.f (Blk.hlane m) HLANE.HL_STAT_RATE = 0 ∧ t.f (Blk.hlane m) HLANE.HL_STAT_SIG_DET = 0 ∧ t.f
    (Blk.hlane m) HLANE.HL_STAT_CDR_LOCK = 0 ∧ t.tb = s.tb ∧ s.KeepsRegs ([Blk.log, Blk.sched, Blk.twin, Blk.pmap, Blk.fec]
    ++ Blk.lines ++ Blk.hostEngines ++ Blk.hosts ++ Blk.ports) t ∧ s.KeepsUnitsBut (fun u =>
    { u with host := [], engines := [], sram := {}, sched := {}, twin := {}, log := {} }) t ∧ s.KeepsRam t) ∧
  (∀ (s : State) (m : Fin 64), Gives (.hlCalDone m) s fun t => t.f (Blk.hlane m) HLANE.HL_STAT_CAL_RUN = 0 ∧ s.KeepsRegs
    [Blk.hlane m] t ∧ s.KeepsBlk (Blk.hlane m) [HLANE.HL_STAT] t ∧ s.KeepsUnits t) ∧
  (∀ (s : State) (m : Fin 64), s.hostRuns m = true → s.f (Blk.hlane m) HLANE.HL_STAT_RATE = 1 → s.fb (Blk.hlane m)
    HLANE.HL_STAT_CAL_RUN = false → s.hostState m = 1 → s.fb (Blk.hlane m) HLANE.HL_CTL_NEG_BYPASS = false → Gives
    (.blockLock m) s fun t => t.f (Blk.hlane m) HLANE.HL_STAT_BLOCK_LOCK = 1 ∧ t.hostState m = 2 ∧ (t.hlane m).ack = false ∧
    t.tb = s.tb ∧ s.KeepsRegs ([Blk.log, Blk.sched, Blk.twin, Blk.pmap, Blk.fec] ++ Blk.lines ++ Blk.lineEngines ++
    Blk.hostEngines ++ Blk.hosts ++ Blk.ports) t ∧ s.KeepsUnitsBut (fun u =>
    { u with host := [], sram := {}, sched := {}, twin := {}, log := {} }) t ∧ s.KeepsRam t) ∧
  (∀ (s : State) (m : Fin 64) (page : BitVec 64), s.hostRuns m = true → s.fb (Blk.hlane m) HLANE.HL_STAT_BLOCK_LOCK = true → 1
    ≤ s.hostState m → s.hostState m ≤ 4 → s.fb (Blk.hlane m) HLANE.HL_CTL_NEG_BYPASS = false → bitsOf page.toNat 0 8 = 0x4B
    → bitsOf page.toNat 8 4 = 0xD → pageCrc page.toNat ≠ bitsOf page.toNat 48 8 → Gives (.capabilityPageRx m page) s fun t
    => t.f (Blk.hlane m) HLANE.NEG_CNT_CRC_ERR = min 255 (s.f (Blk.hlane m) HLANE.NEG_CNT_CRC_ERR + 1) ∧ t.hlane m = s.hlane
    m ∧ t.hostState m = s.hostState m ∧ s.KeepsRegs [Blk.hlane m] t ∧ s.KeepsBlk (Blk.hlane m) [HLANE.NEG_CNT] t ∧
    s.KeepsUnits t) ∧
  (∀ (s : State) (m : Fin 64), s.hostRuns m = true → s.fb (Blk.hlane m) HLANE.HL_STAT_CAL_RUN = false → s.fb (Blk.hlane m)
    HLANE.HL_CTL_NEG_BYPASS = false → s.hostState m = 4 → Gives (.capabilityPageTx m) s fun t => OutMsg.page m (s.hostPage
    m) ∈ t.out ∧ ((s.hlane m).cntdn = 0 ∧ t.hostState m = 5 ∧ t.f (Blk.hlane m) HLANE.HL_STAT_TX_IDLE = 1 ∨ (s.hlane
    m).cntdn ≠ 0 ∧ t.hostState m = 4 ∧ (t.hlane m).cntdn = (s.hlane m).cntdn - 1) ∧ t.tb = s.tb ∧ s.KeepsRegs ([Blk.log,
    Blk.sched, Blk.twin, Blk.pmap, Blk.fec] ++ Blk.lines ++ Blk.lineEngines ++ Blk.hostEngines ++ Blk.hosts ++ Blk.ports) t
    ∧ s.KeepsUnitsBut (fun u => { u with host := [], sram := {}, sched := {}, twin := {}, log := {} }) t ∧ s.KeepsRam t) ∧
  (∀ (s : State) (m : Fin 64), s.hostState m = 5 → Gives (.switchElapsed m) s fun t => t.f (Blk.hlane m) HLANE.HL_STAT_RATE =
    s.f (Blk.hlane m) HLANE.NEG_STAT_SEL ∧ t.hostState m = (if 2 ≤ s.f (Blk.hlane m) HLANE.NEG_STAT_SEL ∧ s.fb (Blk.hlane m)
    HLANE.NEG_CTL_TRAIN_EN = true then 6 else 7) ∧ t.f (Blk.hlane m) HLANE.HL_STAT_TX_IDLE = 0 ∧ t.tb = s.tb ∧ s.KeepsRegs
    ([Blk.log, Blk.sched, Blk.twin, Blk.pmap, Blk.fec] ++ Blk.lines ++ Blk.hostEngines ++ Blk.hosts ++ Blk.ports) t ∧
    s.KeepsUnitsBut (fun u => { u with host := [], sram := {}, sched := {}, twin := {}, log := {} }) t ∧ s.KeepsRam t) ∧
  (∀ (s : State) (m : Fin 64) (tap : Fin 5) (op : Fin 3) (preset : Fin 4) (ready : Bool), s.hostState m = 6 → op.val = 0 →
    preset.val = 0 → Gives (.trainingFrameRx m tap op preset ready) s fun t => t.hostTaps m = s.hostTaps m ∧ t.hostState m =
    (if s.fb (Blk.hlane m) HLANE.TRN_STAT_LOCAL_READY = true ∧ (ready = true ∨ s.fb (Blk.hlane m) HLANE.HL_CTL_NEG_BYPASS =
    true) then 7 else 6) ∧ t.fb (Blk.hlane m) HLANE.TRN_STAT_PARTNER_READY = ready ∧ t.tb = s.tb ∧ s.KeepsRegs ([Blk.log,
    Blk.sched, Blk.twin, Blk.pmap, Blk.fec] ++ Blk.lines ++ Blk.hostEngines ++ Blk.hosts ++ Blk.ports) t ∧ s.KeepsUnitsBut
    (fun u => { u with host := [], sram := {}, sched := {}, twin := {}, log := {} }) t ∧ s.KeepsRam t) ∧
  (∀ (s : State) (m : Fin 64), s.hostState m = 6 → Gives (.trainLimit m) s fun t => t.hostState m = 1 ∧ t.f (Blk.hlane m)
    HLANE.NEG_CNT_FALLBACKS = min 255 (s.f (Blk.hlane m) HLANE.NEG_CNT_FALLBACKS + 1) ∧ (t.intStat (Blk.hlane m)).getLsbD
    HLANE.INT_FALLBACK = true ∧ (s.fb (Blk.hlane m) HLANE.HL_CTL_NEG_BYPASS = false → 1 ≤ s.f (Blk.hlane m)
    HLANE.NEG_STAT_SEL → s.f (Blk.hlane m) HLANE.NEG_STAT_SEL ≤ 4 → (t.f (Blk.hlane m) HLANE.NEG_STAT_FAIL_MASK).testBit
    (s.f (Blk.hlane m) HLANE.NEG_STAT_SEL - 1) = true) ∧ t.tb = s.tb ∧ s.KeepsRegs ([Blk.log, Blk.sched, Blk.twin, Blk.pmap,
    Blk.fec] ++ Blk.lines ++ Blk.hostEngines ++ Blk.hosts ++ Blk.ports) t ∧ s.KeepsUnitsBut (fun u =>
    { u with host := [], sram := {}, sched := {}, twin := {}, log := {} }) t ∧ s.KeepsRam t) ∧
  (∀ (s : State) (m : Fin 64), (s.hlane m).timer = true → 1 ≤ s.hostState m → s.hostState m ≤ 4 → s.f (Blk.hlane m)
    HLANE.NEG_TIMER_LIMIT ≠ 0 → Gives (.negTimerLimit m) s fun t => t.hostState m = 1 ∧ t.f (Blk.hlane m)
    HLANE.NEG_CNT_ATTEMPTS = min 255 (s.f (Blk.hlane m) HLANE.NEG_CNT_ATTEMPTS + 1) ∧ (t.intStat (Blk.hlane m)).getLsbD
    HLANE.INT_NEG_FAIL = true ∧ t.f (Blk.hlane m) HLANE.NEG_STAT_SEL = 0 ∧ t.tb = s.tb ∧ s.KeepsRegs ([Blk.log, Blk.sched,
    Blk.twin, Blk.pmap, Blk.fec] ++ Blk.lines ++ Blk.hostEngines ++ Blk.hosts ++ Blk.ports) t ∧ s.KeepsUnitsBut (fun u =>
    { u with host := [], sram := {}, sched := {}, twin := {}, log := {} }) t ∧ s.KeepsRam t) ∧
  (∀ (s : State) (m : Fin 64), s.hostState m = 7 → s.fb (Blk.hlane m) HLANE.HL_STAT_CDR_LOCK = false → Gives (.linkDownTimeout
    m) s fun t => t.hostState m = 1 ∧ (t.intStat (Blk.hlane m)).getLsbD HLANE.INT_DOWN = true ∧ (s.fb (Blk.hlane m)
    HLANE.HL_CTL_NEG_BYPASS = false → t.f (Blk.hlane m) HLANE.NEG_STAT_FAIL_MASK = 0) ∧ t.tb = s.tb ∧ s.KeepsRegs ([Blk.log,
    Blk.sched, Blk.twin, Blk.pmap, Blk.fec] ++ Blk.lines ++ Blk.hostEngines ++ Blk.hosts ++ Blk.ports) t ∧ s.KeepsUnitsBut
    (fun u => { u with host := [], sram := {}, sched := {}, twin := {}, log := {} }) t ∧ s.KeepsRam t) ∧
  (∀ (s : State) (q : Requester) (m : Fin 64), s.Serves q (Blk.hlane m) true → s.fb (Blk.hlane m) HLANE.HL_CTL_EN = true →
    Gives (.restart q m) s fun t => t.hostState m = 1 ∧ t.f (Blk.hlane m) HLANE.NEG_STAT_FAIL_MASK = 0 ∧ t.f (Blk.hlane m)
    HLANE.NEG_STAT_SEQ = (s.f (Blk.hlane m) HLANE.NEG_STAT_SEQ + 1) % 16 ∧ (t.hlane m).timer = true ∧ t.tb = s.tb ∧
    s.KeepsRegs ([Blk.log, Blk.sched, Blk.twin, Blk.pmap, Blk.fec] ++ Blk.lines ++ Blk.hostEngines ++ Blk.hosts ++
    Blk.ports) t ∧ s.KeepsUnitsBut (fun u => { u with host := [], sram := {}, sched := {}, twin := {}, log := {} }) t ∧
    s.KeepsRam t) ∧
  (∀ (s : State) (m : Fin 64), s.hostRuns m = true → Gives (.rxIdleSet m) s fun t => t.f (Blk.hlane m) HLANE.HL_STAT_RX_IDLE =
    1 ∧ s.KeepsRegs [Blk.hlane m] t ∧ s.KeepsBlk (Blk.hlane m) [HLANE.HL_STAT] t ∧ s.KeepsUnits t) ∧
  (∀ (s : State) (m : Fin 64), Gives (.rxIdleClear m) s fun t => t.f (Blk.hlane m) HLANE.HL_STAT_RX_IDLE = 0 ∧ s.KeepsRegs
    [Blk.hlane m] t ∧ s.KeepsBlk (Blk.hlane m) [HLANE.HL_STAT] t ∧ s.KeepsUnits t) ∧
  (∀ (s : State) (m : Fin 64), (s.hlane m).asleep = true → s.pwr.idle = false → Gives (.fastExitMarker m) s fun t =>
    t.hostState m = 7 ∧ (t.hlane m).asleep = false ∧ t.f (Blk.hlane m) HLANE.HL_STAT_TX_IDLE = 0 ∧ t.tb = s.tb ∧ s.KeepsRegs
    ([Blk.log, Blk.sched, Blk.twin, Blk.pmap, Blk.fec] ++ Blk.lines ++ Blk.hostEngines ++ Blk.hosts ++ Blk.ports) t ∧
    s.KeepsUnitsBut (fun u => { u with host := [], sram := {}, sched := {}, twin := {}, log := {} }) t ∧ s.KeepsRam t) ∧
  (∀ (s : State) (q : Requester) (m : Fin 64) (v : Word), s.Serves q (Blk.hlane m) true → s.f (Blk.hlane m)
    HLANE.HCOEF_IDX_BANK ≠ s.f (Blk.hlane m) HLANE.EQ_STAT_IN_USE → s.f (Blk.hlane m) HLANE.HCOEF_IDX_INDEX < 16 → Gives
    (.hcoefDataWrite q m v) s fun t => t.hostWord m (s.f (Blk.hlane m) HLANE.HCOEF_IDX_BANK) (s.f (Blk.hlane m)
    HLANE.HCOEF_IDX_INDEX) = v.toNat % 4096 ∧ t.f (Blk.hlane m) HLANE.HL_STAT_CFG_REFUSED = s.f (Blk.hlane m)
    HLANE.HL_STAT_CFG_REFUSED ∧ s.KeepsRegs [Blk.hlane m] t ∧ s.KeepsBlk (Blk.hlane m) [HLANE.HCOEF_IDX] t ∧ s.KeepsUnitsBut
    (fun u => { u with host := [] }) t) ∧
  (∀ (s : State) (q : Requester) (m : Fin 64) (v : Word), s.Serves q (Blk.hlane m) true → s.f (Blk.hlane m)
    HLANE.HCOEF_IDX_BANK = s.f (Blk.hlane m) HLANE.EQ_STAT_IN_USE → Gives (.hcoefDataWrite q m v) s fun t => t.hlane m =
    s.hlane m ∧ t.f (Blk.hlane m) HLANE.HL_STAT_CFG_REFUSED = 1 ∧ (t.intStat (Blk.hlane m)).getLsbD HLANE.INT_CFG_REFUSED =
    true ∧ s.KeepsRegs [Blk.hlane m] t ∧ s.KeepsUnits t) ∧
  (∀ (s : State) (m : Fin 64), Gives (.blockLockLost m) s fun t => t.f (Blk.hlane m) HLANE.HL_STAT_BLOCK_LOCK = 0 ∧
    t.hostState m = s.hostState m ∧ s.KeepsRegs [Blk.hlane m] t ∧ s.KeepsBlk (Blk.hlane m) [HLANE.HL_STAT] t ∧ s.KeepsUnits
    t)

/-- A REF_CTL write clears REF_SETTLED and aborts calibration, and the settling time sets it; START begins a pass or sets
TRIG_MISS; STOP ends it with SEQ_DONE; a result that is settling, or taken before the reference settled, is tagged and
not VALID, and a full FIFO drops it; calibration needs a settled reference and writes its factors; Foghorn's claim stops
the core; FIR words of the bank in use are refused; HK_POP frees the oldest result. It follows R253, R301, R303, R305,
R308, R311, R312 in the parts that these sentences say. -/
def Obligations.HousekeepingCores : Prop :=
  (∀ (s : State) (c : Fin 4) (q : Requester) (v : Word), s.Serves q Blk.hk true → HK.REF_CTL_SEL.get v ≠ 3 → Gives
    (.refCtlWrite q v) s fun t => t.f Blk.hk HK.STAT_REF_SETTLED = 0 ∧ t.f Blk.hk HK.REF_CTL_SEL = HK.REF_CTL_SEL.get v ∧
    t.f Blk.hk (HK.HKC_STAT_CAL_RUN c) = 0 ∧ (s.fb Blk.hk (HK.HKC_STAT_CAL_RUN c) = true → t.f Blk.hk
    (HK.HKC_STAT_CAL_ABORTED c) = 1) ∧ s.KeepsRegs [Blk.hk, Blk.filt] t ∧ s.KeepsUnitsBut (fun u => { u with hk := [] }) t) ∧
  (∀ (s : State), s.hkOn = true → s.fb Blk.hk HK.STAT_REF_SETTLED = false → Gives .refSettled s fun t => t.f Blk.hk
    HK.STAT_REF_SETTLED = 1 ∧ (t.intStat Blk.hk).getLsbD HK.INT_REF_SETTLED = true ∧ s.KeepsRegs [Blk.hk] t ∧ s.KeepsUnits
    t) ∧
  (∀ (s : State) (q : Requester) (c : Fin 4), s.Serves q Blk.hk true → s.fb Blk.hk (HK.HKC_STAT_CLAIMED c) = false → s.fb
    Blk.hk (HK.HKC_STAT_RUNNING c) = false → s.hf (HK.HKC_CTL_MODE c) ≠ 0 → s.hsHolds Blk.hk = false → Gives (.seqStart q c)
    s fun t => t.f Blk.hk (HK.HKC_STAT_RUNNING c) = 1 ∧ t.hkVisit c = 0 ∧ (t.hkc c).good = 0 ∧ (t.hkc c).fifo = (s.hkc
    c).fifo ∧ s.KeepsRegs [Blk.hk, Blk.filt] t ∧ s.KeepsUnitsBut (fun u => { u with hk := [] }) t) ∧
  (∀ (s : State) (q : Requester) (c : Fin 4), s.Serves q Blk.hk true → s.fb Blk.hk (HK.HKC_STAT_RUNNING c) = true → s.hf
    (HK.HKC_CTL_MODE c) ≠ 0 → Gives (.seqStart q c) s fun t => t.f Blk.hk (HK.HKC_STAT_TRIG_MISS c) = 1 ∧ t.f Blk.hk
    (HK.HKC_STAT_RUNNING c) = 1 ∧ t.hk = s.hk ∧ s.KeepsRegs [Blk.hk] t ∧ s.KeepsUnitsBut (fun u => { u with hk := [] }) t) ∧
  (∀ (s : State) (q : Requester) (c : Fin 4), s.Serves q Blk.hk true → s.fb Blk.hk (HK.HKC_STAT_RUNNING c) = true → s.hf
    (HK.HKC_CTL_MODE c) = 1 → Gives (.seqStop q c) s fun t => t.f Blk.hk (HK.HKC_STAT_RUNNING c) = 0 ∧ (t.intStat
    Blk.hk).getLsbD HK.INT_SEQ_DONE = true ∧ (t.hkc c).fifo = (s.hkc c).fifo ∧ s.KeepsRegs [Blk.hk] t ∧ s.KeepsUnitsBut (fun
    u => { u with hk := [] }) t) ∧
  (∀ (s : State) (data : BitVec 24) (ovr : Bool) (c : Fin 4), s.hkOn = true → s.fb Blk.hk (HK.HKC_STAT_RUNNING c) = true →
    s.fb Blk.hk (HK.HKC_STAT_CAL_RUN c) = false → s.fb Blk.hk (HK.HKC_STAT_CLAIMED c) = false → s.fb Blk.hk
    (HK.HKC_CTL_DELIVER_ALL c) = true → (s.hkc c).fifo.length < 64 → Gives (.hkResult c (.value data ovr)) s fun t => (t.hkc
    c).fifo.length = (s.hkc c).fifo.length + 1 ∧ (t.hkc c).fifo.take (s.hkc c).fifo.length = (s.hkc c).fifo ∧ (t.hkc
    c).fifo.getLast?.map (fun r => (r.w0.toNat % 2 ^ 24, r.w0.getLsbD 24, r.w0.getLsbD 25, r.w0.getLsbD 26, r.w0.getLsbD
    27)) = some (data.toNat, decide ((s.hkc c).settle = 0) && s.fb Blk.hk HK.STAT_REF_SETTLED && !ovr, decide (0 < (s.hkc
    c).settle), !s.fb Blk.hk HK.STAT_REF_SETTLED, ovr) ∧ s.KeepsRegs [Blk.hk, Blk.filt] t ∧ s.KeepsUnitsBut (fun u =>
    { u with hk := [] }) t) ∧
  (∀ (s : State) (c : Fin 4) (x : HkSample), s.fb Blk.hk (HK.HKC_STAT_RUNNING c) = false → Gives (.hkResult c x) s fun t =>
    t.hk = s.hk ∧ s.KeepsRegs [] t ∧ s.KeepsUnits t) ∧
  (∀ (s : State) (q : Requester) (c : Fin 4), s.Serves q Blk.hk true → s.fb Blk.hk HK.STAT_REF_SETTLED = true → s.fb Blk.hk
    (HK.HKC_STAT_CLAIMED c) = false → Gives (.hkCalStart q c) s fun t => t.f Blk.hk (HK.HKC_STAT_CAL_RUN c) = 1 ∧ t.hk =
    s.hk ∧ s.KeepsRegs [Blk.hk] t ∧ s.KeepsBlk Blk.hk [HK.HKC_CAL_CTL c, HK.HKC_STAT c] t ∧ s.KeepsUnits t) ∧
  (∀ (s : State) (q : Requester) (c : Fin 4), s.Serves q Blk.hk true → s.fb Blk.hk HK.STAT_REF_SETTLED = false → Gives
    (.hkCalStart q c) s fun t => t.f Blk.hk (HK.HKC_STAT_CAL_RUN c) = s.f Blk.hk (HK.HKC_STAT_CAL_RUN c) ∧ t.f Blk.hk
    HK.STAT_CFG_REFUSED = 1 ∧ (t.intStat Blk.hk).getLsbD HK.INT_CFG_REFUSED = true ∧ t.hk = s.hk ∧ s.KeepsRegs [Blk.hk] t ∧
    s.KeepsUnits t) ∧
  (∀ (s : State) (x : HkCal) (c : Fin 4), s.hkOn = true → s.fb Blk.hk (HK.HKC_STAT_CAL_RUN c) = true → Gives (.calDone c [x])
    s fun t => t.f Blk.hk (HK.HKC_STAT_CAL_RUN c) = 0 ∧ SMap.get 0 (t.hkc c).offset 0 = x.offset ∧ SMap.get 0x8000 (t.hkc
    c).gain 0 = x.gain ∧ SMap.get? (t.hkc c).res 0 = some x.residual ∧ SMap.get 0 (t.hkc c).offset 1 = SMap.get 0 (s.hkc
    c).offset 1 ∧ (t.hkc c).fifo = (s.hkc c).fifo ∧ (t.intStat Blk.hk).getLsbD HK.INT_CAL_DONE = true ∧ s.KeepsRegs [Blk.hk,
    Blk.filt] t ∧ s.KeepsUnitsBut (fun u => { u with hk := [] }) t) ∧
  (∀ (s : State) (q : Requester) (v : Word), s.Serves q Blk.fog true → s.hkOn = true → s.fb Blk.fog FOG.HK_RX_EN = false →
    FOG.HK_RX_EN.get v = 1 → Gives (.hkRxWrite q v) s fun t => t.f Blk.fog FOG.HK_RX_EN = 1 ∧ t.f Blk.hk
    (HK.HKC_STAT_CLAIMED (FOG.HK_RX_HKC.get v)) = 1 ∧ t.f Blk.hk (HK.HKC_STAT_RUNNING (FOG.HK_RX_HKC.get v)) = 0 ∧
    s.KeepsRegs [Blk.fog, Blk.hk, Blk.filt] t ∧ s.KeepsUnitsBut (fun u => { u with hk := [] }) t) ∧
  (∀ (s : State) (q : Requester) (v : BitVec 16), s.Serves q Blk.filt true → s.fcoefSel.2.1 ≠ s.uf Blk.filt
    (FILT.FILT_CFG_BANK s.fcoefSel.1) → Gives (.fcoefDataWrite q v) s fun t => t.fcoefAt s.fcoefSel.1 s.fcoefSel.2.1
    s.fcoefSel.2.2 = v ∧ t.hk = s.hk ∧ s.KeepsRegs [Blk.filt] t ∧ s.KeepsBlk Blk.filt [FILT.FCOEF_IDX] t ∧ s.KeepsUnitsBut
    (fun u => { u with fcoef := [] }) t) ∧
  (∀ (s : State) (q : Requester) (v : BitVec 16), s.Serves q Blk.filt true → s.fcoefSel.2.1 = s.uf Blk.filt
    (FILT.FILT_CFG_BANK s.fcoefSel.1) → Gives (.fcoefDataWrite q v) s fun t => t.fcoef = s.fcoef ∧ t.f Blk.filt
    FILT.FSTAT_CFG_REFUSED = 1 ∧ s.KeepsRegs [Blk.filt] t ∧ s.KeepsUnits t) ∧
  (∀ (s : State) (q : Requester) (c : Fin 4), s.Serves q Blk.hk true → (s.hkc c).fifo.length ≤ 64 → Gives (.hkPop q c) s fun t
    => (t.hkc c).fifo = (s.hkc c).fifo.drop 1 ∧ t.f Blk.hk (HK.HKC_STAT_COUNT c) = (s.hkc c).fifo.length - 1 ∧ (t.hkc
    c).offset = (s.hkc c).offset ∧ s.KeepsRegs [Blk.hk] t ∧ s.KeepsBlk Blk.hk [HK.HKC_STAT c] t ∧ s.KeepsUnitsBut (fun u =>
    { u with hk := [] }) t)

/-- An immediate-mode CODE write drives the channel, unless the pin holds it or a mode change runs; STROBE loads the
channels of the named groups in strobe mode; RESUME starts a stream; a change of MODE drives the clear code until the
sequence ends; the short-circuit and compliance flags follow the output; a falling DAC_CLR_N drives the clear code on
channels with CLR_EN and its rise ends LOW. It follows R117, R314, R315, R316, R317, R318 in the parts that these
sentences say. -/
def Obligations.HdacChannels : Prop :=
  (∀ (s : State) (q : Requester) (n : Fin 32) (v : BitVec 16), s.Serves q Blk.hdac true → s.staged Blk.hdac = false → s.df
    (HDAC.CH_CTL_UPD n) = 0 → s.fb Blk.hdac (HDAC.CH_STAT_CHANGING n) = false → s.hdacHeld n = false → s.hdacStreams n =
    false → Gives (.chCodeWrite q n v) s fun t => t.hdacCode n = v.toNat ∧ t.df (HDAC.CH_STAT_OUT n) = v.toNat ∧ t.df
    (HDAC.CH_STAT_WRITTEN n) = 1 ∧ t.df (HDAC.CH_STAT_CLEARED n) = 0 ∧ s.KeepsRegs [Blk.hdac] t ∧ s.KeepsBlk Blk.hdac
    [HDAC.CH_CODE n, HDAC.CH_STAT n] t ∧ s.KeepsUnitsBut (fun u => { u with hdac := [] }) t) ∧
  (∀ (s : State) (q : Requester) (n : Fin 32) (v : BitVec 16), s.Serves q Blk.hdac true → s.staged Blk.hdac = false → s.df
    (HDAC.CH_CTL_UPD n) = 1 → Gives (.chCodeWrite q n v) s fun t => t.hdacCode n = v.toNat ∧ t.df (HDAC.CH_STAT_OUT n) =
    s.df (HDAC.CH_STAT_OUT n) ∧ s.KeepsRegs [Blk.hdac] t ∧ s.KeepsBlk Blk.hdac [HDAC.CH_CODE n] t ∧ s.KeepsUnits t) ∧
  (∀ (s : State) (n : Fin 32) (q : Requester) (groups : BitVec 16), s.Serves q Blk.hdac true → s.df (HDAC.CH_CTL_UPD n) = 1 →
    groups.getLsbD (s.df (HDAC.CH_CTL_GROUP n)) = true → s.fb Blk.hdac (HDAC.CH_STAT_CHANGING n) = false → s.hdacHeld n =
    false → s.hdacStreams n = false → Gives (.strobe q groups) s fun t => t.df (HDAC.CH_STAT_OUT n) = s.hdacCode n ∧ t.df
    (HDAC.CH_STAT_WRITTEN n) = 1 ∧ t.hdacCode n = s.hdacCode n ∧ s.KeepsRegs [Blk.hdac] t ∧ s.KeepsUnitsBut (fun u =>
    { u with hdac := [] }) t) ∧
  (∀ (s : State) (q : Requester) (n : Fin 32), s.Serves q Blk.hdac true → s.df (HDAC.CH_CTL_UPD n) = 2 → s.hdacHeld n = false
    → Gives (.streamResume q n) s fun t => t.hdacStreams n = true ∧ t.hdacCode n = s.hdacCode n ∧ (∀ m : Fin 32, m ≠ n →
    t.df (HDAC.CH_STAT_OUT m) = s.df (HDAC.CH_STAT_OUT m)) ∧ s.KeepsRegs [Blk.hdac] t ∧ s.KeepsUnitsBut (fun u =>
    { u with hdac := [] }) t) ∧
  (∀ (s : State) (q : Requester) (n : Fin 32) (mode : Fin 4), s.Serves q Blk.hdac true → s.staged Blk.hdac = false → s.df
    (HDAC.CH_CTL_UPD n) ≠ 3 → s.df (HDAC.CH_CTL_MODE n) ≠ mode.val → Gives (.modeChange q n mode) s fun t => t.df
    (HDAC.CH_CTL_MODE n) = mode.val ∧ t.df (HDAC.CH_STAT_CHANGING n) = 1 ∧ t.df (HDAC.CH_STAT_OUT n) = s.hdacClr n ∧
    t.hdacCode n = s.hdacCode n ∧ (∀ m : Fin 32, m ≠ n → t.df (HDAC.CH_STAT_OUT m) = s.df (HDAC.CH_STAT_OUT m)) ∧
    s.KeepsRegs [Blk.hdac] t ∧ s.KeepsUnitsBut (fun u => { u with hdac := [] }) t) ∧
  (∀ (s : State) (n : Fin 32), s.hkOn = true → s.fb Blk.hdac (HDAC.CH_STAT_CHANGING n) = true → s.hdacHeld n = false → s.fb
    Blk.hdac (HDAC.CH_STAT_CLEARED n) = false → s.hdacStreams n = false → Gives (.changeDone n) s fun t => t.df
    (HDAC.CH_STAT_CHANGING n) = 0 ∧ t.df (HDAC.CH_STAT_OUT n) = s.hdacCode n ∧ (t.intStat Blk.hdac).getLsbD
    HDAC.INT_CHANGE_DONE = true ∧ s.KeepsRegs [Blk.hdac] t ∧ s.KeepsUnits t) ∧
  (∀ (s : State) (n : Fin 32), s.hkOn = true → s.df (HDAC.CH_CTL_MODE n) < 2 → Gives (.shortCircuit n) s fun t => t.df
    (HDAC.CH_STAT_SC n) = 1 ∧ t.df (HDAC.CH_STAT_SC_SEEN n) = 1 ∧ (t.intStat Blk.hdac).getLsbD HDAC.INT_SC = true ∧
    s.KeepsRegs [Blk.hdac] t ∧ s.KeepsUnits t) ∧
  (∀ (s : State) (n : Fin 32), s.hkOn = true → 2 ≤ s.df (HDAC.CH_CTL_MODE n) → Gives (.compliance n) s fun t => t.df
    (HDAC.CH_STAT_COMPLIANCE n) = 1 ∧ t.df (HDAC.CH_STAT_COMP_SEEN n) = 1 ∧ (t.intStat Blk.hdac).getLsbD HDAC.INT_COMPLIANCE
    = true ∧ s.KeepsRegs [Blk.hdac] t ∧ s.KeepsUnits t) ∧
  (∀ (s : State) (n : Fin 32), s.hkOn = true → s.df (HDAC.CH_CTL_MODE n) < 2 → Gives (.shortCircuitEnd n) s fun t => t.df
    (HDAC.CH_STAT_SC n) = 0 ∧ t.df (HDAC.CH_STAT_SC_SEEN n) = s.df (HDAC.CH_STAT_SC_SEEN n) ∧ s.KeepsRegs [Blk.hdac] t ∧
    s.KeepsBlk Blk.hdac [HDAC.CH_STAT n] t ∧ s.KeepsUnits t) ∧
  (∀ (s : State) (n : Fin 32), s.hkOn = true → 2 ≤ s.df (HDAC.CH_CTL_MODE n) → Gives (.complianceEnd n) s fun t => t.df
    (HDAC.CH_STAT_COMPLIANCE n) = 0 ∧ t.df (HDAC.CH_STAT_COMP_SEEN n) = s.df (HDAC.CH_STAT_COMP_SEEN n) ∧ s.KeepsRegs
    [Blk.hdac] t ∧ s.KeepsBlk Blk.hdac [HDAC.CH_STAT n] t ∧ s.KeepsUnits t) ∧
  (∀ (s : State) (n : Fin 32), s.clrPin = true → s.hkOn = true → s.fb Blk.hdac (HDAC.CH_CTL_CLR_EN n) = true → Gives
    .dacClrFall s fun t => t.clrPin = false ∧ t.df (HDAC.CH_STAT_OUT n) = s.hdacClr n ∧ t.df (HDAC.CH_STAT_CLEARED n) = 1 ∧
    t.hdacStreams n = false ∧ t.f Blk.hdac HDAC.CLR_STAT_LOW = 1 ∧ (t.intStat Blk.hdac).getLsbD HDAC.INT_CLR_ASSERTED = true
    ∧ s.KeepsRegs ([Blk.hdac, Blk.therm] ++ Blk.lines ++ Blk.lineEngines ++ Blk.hostEngines) t ∧ s.KeepsUnitsBut (fun u =>
    { u with clrPin := false, line := [], hdac := [] }) t) ∧
  (∀ (s : State) (n : Fin 32), s.hkOn = true → Gives .dacClrRise s fun t => t.clrPin = true ∧ t.f Blk.hdac HDAC.CLR_STAT_LOW =
    0 ∧ t.df (HDAC.CH_STAT_OUT n) = s.df (HDAC.CH_STAT_OUT n) ∧ t.df (HDAC.CH_STAT_CLEARED n) = s.df (HDAC.CH_STAT_CLEARED
    n) ∧ s.KeepsRegs ([Blk.hdac, Blk.therm] ++ Blk.lines ++ Blk.lineEngines ++ Blk.hostEngines) t ∧ s.KeepsUnitsBut (fun u
    => { u with clrPin := false }) t)

/-- MEAS starts a measurement with the mask in force, or sets MISS while one runs; the periodic timer starts one when it is
enabled; a completed measurement publishes the maximum of the unmasked sensors with its sensor, takes faulty sensors as
+150 °C, enters the critical state at 125 °C, and clears BUSY; a forced band takes effect at once. It follows R323,
R324, R325, R327, R330 in the parts that these sentences say. -/
def Obligations.ThermalMeasurement : Prop :=
  (∀ (s : State) (q : Requester), s.Serves q Blk.therm true → s.fb Blk.therm THERM.STAT_BUSY = false → Gives (.meas q) s fun t
    => t.f Blk.therm THERM.STAT_BUSY = 1 ∧ t.therm = { s.therm with mask := s.thf THERM.SENSOR_MASK_MASK } ∧ s.KeepsRegs
    [Blk.therm] t ∧ s.KeepsBlk Blk.therm [THERM.MEAS_CTL, THERM.STAT] t ∧ s.KeepsUnitsBut (fun u => { u with therm := {} })
    t) ∧
  (∀ (s : State) (q : Requester), s.Serves q Blk.therm true → s.fb Blk.therm THERM.STAT_BUSY = true → Gives (.meas q) s fun t
    => t.f Blk.therm THERM.STAT_MISS = 1 ∧ (t.intStat Blk.therm).getLsbD THERM.INT_MISS = true ∧ t.therm = s.therm ∧
    s.KeepsRegs [Blk.therm] t ∧ s.KeepsUnits t) ∧
  (∀ (s : State), (s.thf THERM.MEAS_CTL_PERIOD_US ≠ 0 ∨ 3 ≤ s.f Blk.pwr PWR.STAT_STATE ∨ s.critical = true) → s.fb Blk.therm
    THERM.STAT_BUSY = false → Gives .measTimer s fun t => t.f Blk.therm THERM.STAT_BUSY = 1 ∧ t.therm.mask = s.thf
    THERM.SENSOR_MASK_MASK ∧ s.KeepsRegs [Blk.therm] t ∧ s.KeepsBlk Blk.therm [THERM.STAT] t ∧ s.KeepsUnitsBut (fun u =>
    { u with therm := {} }) t) ∧
  (∀ (s : State), s.thf THERM.MEAS_CTL_PERIOD_US = 0 → s.f Blk.pwr PWR.STAT_STATE < 3 → s.critical = false → Gives .measTimer
    s fun t => t.therm = s.therm ∧ s.KeepsRegs [] t ∧ s.KeepsUnits t) ∧
  (∀ (s : State) (l : List (Option Int)), s.fb Blk.therm THERM.STAT_BUSY = true → Gives (.measurementDone l) s fun t => t.f
    Blk.therm THERM.STAT_BUSY = 0 ∧ t.f Blk.therm THERM.TMAX_MAX = unsignedOf 12 (sensorMax l s.therm.mask).1 ∧ t.f
    Blk.therm THERM.TMAX_SENSOR = (sensorMax l s.therm.mask).2 ∧ t.therm.maxima = ((sensorMax l s.therm.mask).1 ::
    s.therm.maxima).take 8 ∧ (s.critical = false → t.critical = decide (1000 ≤ (sensorMax l s.therm.mask).1)) ∧ ((List.range
    24).any (fun i => (sensorRead l i).2) = true → (t.intStat Blk.therm).getLsbD THERM.INT_SENSOR_FAULT = true) ∧ t.tb =
    s.tb ∧ s.KeepsRegs ([Blk.pwr, Blk.log, Blk.sched, Blk.therm, Blk.twin, Blk.pmap, Blk.fec] ++ Blk.lines ++
    Blk.lineEngines ++ Blk.hostEngines ++ Blk.hosts ++ Blk.ports) t ∧ s.KeepsUnitsBut (fun u =>
    { u with sram := {}, sched := {}, twin := {}, therm := {}, pwr := {}, log := {} }) t ∧ s.KeepsRam t) ∧
  (∀ (s : State) (q : Requester) (v : Word), s.Serves q Blk.therm true → THERM.BAND_CTL_FORCE_EN.get v = 1 → Gives (.forceBand
    q v) s fun t => t.thermBand = THERM.BAND_CTL_FORCE_BAND.get v ∧ t.f Blk.therm THERM.BAND_CTL_FORCE_EN = 1 ∧ (s.thermBand
    ≠ THERM.BAND_CTL_FORCE_BAND.get v → (t.intStat Blk.therm).getLsbD THERM.INT_BAND_CHG = true) ∧ t.therm = s.therm ∧
    s.KeepsRegs ([Blk.pwr, Blk.therm] ++ Blk.lines) t ∧ s.KeepsUnitsBut (fun u => { u with pwr := {} }) t)

/-- GO queues a free host buffer of nonzero length and refuses any other; the lowest queued buffer starts when the
transmitter is idle; the end of a packet clears BUSY, sets DONE and counts it; RX_EN enters SEARCH and its clearing OFF;
the receiver moves through PREAMBLE, MARKER, HEADER and PAYLOAD, back to SEARCH on a missed marker, a bad header or a
bad payload, which are counted; a host packet joins the ring, or sets RX_OVF when eight wait; RX_POP frees the oldest.
It follows R257, R261, R262, R263, R264, R265, R268 in the parts that these sentences say. -/
def Obligations.FoghornPackets : Prop :=
  (∀ (s : State) (q : Requester) (buf : Fin 4) (len : BitVec 10), s.Serves q Blk.fog true → buf.val ≠ 0 → s.fogBusy buf =
    false → len ≠ 0 → Gives (.txQctlGo q buf len) s fun t => t.fogBusy buf = true ∧ SMap.get? t.fog.txLen buf = some
    len.toNat ∧ t.fog.sending = s.fog.sending ∧ s.KeepsRegs [Blk.fog] t ∧ s.KeepsBlk Blk.fog [FOG.TX_QSTAT] t ∧
    s.KeepsUnitsBut (fun u => { u with fog := {} }) t) ∧
  (∀ (s : State) (q : Requester) (buf : Fin 4) (len : BitVec 10), s.Serves q Blk.fog true → (buf.val = 0 ∨ s.fogBusy buf =
    true ∨ len = 0) → Gives (.txQctlGo q buf len) s fun t => t.fog = s.fog ∧ t.f Blk.fog FOG.FOG_STAT_CFG_REFUSED = 1 ∧
    (t.intStat Blk.fog).getLsbD FOG.INT_CFG_REFUSED = true ∧ s.KeepsRegs [Blk.fog] t ∧ s.KeepsUnits t) ∧
  (∀ (s : State) (b : Nat), s.fb Blk.fog FOG.FOG_CTL_SLOTTED = false → s.fogTxRuns = true → s.fog.sending = none → s.hsHolds
    Blk.fog = false → (List.range 4).find? s.fogBusy = some b → Gives .packetTxStart s fun t => t.fog =
    { s.fog with sending := some b } ∧ t.f Blk.fog FOG.FOG_STAT_TX_BUSY = 1 ∧ t.f Blk.fog FOG.TX_QSTAT_BUSY = s.f Blk.fog
    FOG.TX_QSTAT_BUSY ∧ s.KeepsRegs [Blk.fog] t ∧ s.KeepsBlk Blk.fog [FOG.FOG_STAT] t ∧ s.KeepsUnitsBut (fun u =>
    { u with fog := {} }) t) ∧
  (∀ (s : State) (b : Nat) (ago : Nat), s.fog.sending = some b → b ≠ 0 → b < 4 → Gives (.txDone ago) s fun t => t.fog.sending
    = none ∧ t.f Blk.fog FOG.FOG_STAT_TX_BUSY = 0 ∧ t.fogBusy b = false ∧ (t.f Blk.fog FOG.TX_QSTAT_DONE).testBit b = true ∧
    t.f Blk.fog FOG.TX_SEQ_SEQ = (s.f Blk.fog FOG.TX_SEQ_SEQ + 1) % 65536 ∧ (t.intStat Blk.fog).getLsbD FOG.INT_TX_DONE =
    true ∧ t.fog.ring = s.fog.ring ∧ s.KeepsRegs [Blk.fog] t ∧ s.KeepsUnitsBut (fun u => { u with fog := {} }) t) ∧
  (∀ (s : State) (q : Requester) (v : Word), s.Serves q Blk.fog true → s.fb Blk.fog FOG.FOG_CTL_RX_EN = false →
    FOG.FOG_CTL_RX_EN.get v = 1 → Gives (.fogRxEnable q v) s fun t => t.fogRx = 1 ∧ t.f Blk.fog FOG.FOG_STAT_PATH =
    t.fogPath ∧ t.fog = s.fog ∧ s.KeepsRegs [Blk.fog] t ∧ s.KeepsBlk Blk.fog [FOG.FOG_CTL, FOG.FOG_STAT] t ∧ s.KeepsUnits t) ∧
  (∀ (s : State) (q : Requester) (v : Word), s.Serves q Blk.fog true → s.fb Blk.fog FOG.FOG_CTL_RX_EN = true →
    FOG.FOG_CTL_RX_EN.get v = 0 → Gives (.fogRxEnable q v) s fun t => t.fogRx = 0 ∧ t.f Blk.fog FOG.FOG_STAT_PATH = 0 ∧
    t.fog = s.fog ∧ s.KeepsRegs [Blk.fog] t ∧ s.KeepsBlk Blk.fog [FOG.FOG_CTL, FOG.FOG_STAT] t ∧ s.KeepsUnits t) ∧
  (∀ (s : State) (metric : Nat) (power : BitVec 16), s.fogOn = true → s.fogRx = 1 → Gives (.preambleDetection metric power) s
    fun t => t.fogRx = 2 ∧ t.fog = { s.fog with metric := metric, power := power } ∧ s.KeepsRegs [Blk.fog] t ∧ s.KeepsBlk
    Blk.fog [FOG.FOG_STAT] t ∧ s.KeepsUnitsBut (fun u => { u with fog := {} }) t) ∧
  (∀ (s : State) (metric : Nat) (power : BitVec 16), s.fogOn = true → s.fogRx = 5 → power.toInt < s.fog.power.toInt + 4 * (s.f
    Blk.fog FOG.DET_CTL_CAPTURE_MARGIN : Int) → Gives (.preambleDetection metric power) s fun t => t.fogRx = 5 ∧ t.fog =
    s.fog ∧ (t.reg Blk.fog (FOG.CNT 6)).toNat = ((s.reg Blk.fog (FOG.CNT 6)).toNat + 1) % 2 ^ 32 ∧ s.KeepsRegs [Blk.fog] t ∧
    s.KeepsUnits t) ∧
  (∀ (s : State), s.fogOn = true → s.fogRx = 2 → Gives .preambleEnd s fun t => t.fogRx = 3 ∧ s.KeepsRegs [Blk.fog] t ∧
    s.KeepsBlk Blk.fog [FOG.FOG_STAT] t ∧ s.KeepsUnits t) ∧
  (∀ (s : State) (found : Bool), s.fogOn = true → s.fogRx = 3 → Gives (.frameMarker found) s fun t => t.fogRx = (if found then
    4 else 1) ∧ (found = false → (t.reg Blk.fog (FOG.CNT 4)).toNat = ((s.reg Blk.fog (FOG.CNT 4)).toNat + 1) % 2 ^ 32) ∧
    t.fog = s.fog ∧ s.KeepsRegs [Blk.fog] t ∧ s.KeepsUnits t) ∧
  (∀ (s : State) (info : BitVec 32) (crc : BitVec 16) (ago : Nat), s.fogOn = true → s.fogRx = 4 → Fog.crc16 (Fog.lowFirst 32
    info.toNat) = crc.toNat → Fog.headerOk info.toNat = true → Gives (.headerDecoded info crc ago) s fun t => t.fogRx = 5 ∧
    t.fog.hdr = info.toNat ∧ t.fog.ring = s.fog.ring ∧ s.KeepsRegs [Blk.fog] t ∧ s.KeepsBlk Blk.fog [FOG.FOG_STAT] t ∧
    s.KeepsUnitsBut (fun u => { u with fog := {} }) t) ∧
  (∀ (s : State) (info : BitVec 32) (crc : BitVec 16) (ago : Nat), s.fogOn = true → s.fogRx = 4 → Fog.crc16 (Fog.lowFirst 32
    info.toNat) ≠ crc.toNat → Gives (.headerDecoded info crc ago) s fun t => t.fogRx = 1 ∧ t.fog = s.fog ∧ (t.reg Blk.fog
    (FOG.CNT 2)).toNat = ((s.reg Blk.fog (FOG.CNT 2)).toNat + 1) % 2 ^ 32 ∧ (t.intStat Blk.fog).getLsbD FOG.INT_HDR_FAIL =
    true ∧ s.KeepsRegs [Blk.fog] t ∧ s.KeepsUnitsBut (fun u => { u with fog := {} }) t) ∧
  (∀ (s : State) (data : List Byte) (crc : BitVec 32) (snr : BitVec 16) (power : BitVec 16) (drift : BitVec 16), s.fogOn =
    true → s.fogRx = 5 → data.length = bitsOf s.fog.hdr 16 10 → 0x80 ≤ ((data.head?).getD 0).toNat → Codec.crc32c data = crc
    → s.fog.ring.length < 8 → Gives (.payloadEnd data crc snr power drift) s fun t => t.fogRx = 1 ∧ t.fog.ring.length =
    s.fog.ring.length + 1 ∧ t.fog.ring.take s.fog.ring.length = s.fog.ring ∧ t.fog.ring.getLast?.map (fun e => (e.payload,
    e.seq, e.snr)) = some (data, bitsOf s.fog.hdr 0 16, snr) ∧ t.f Blk.fog FOG.RX_RING_COUNT = s.fog.ring.length + 1 ∧
    (t.intStat Blk.fog).getLsbD FOG.INT_RX_PKT = true ∧ s.KeepsRegs [Blk.fog] t ∧ s.KeepsUnitsBut (fun u =>
    { u with fog := {}, pwr := {} }) t) ∧
  (∀ (s : State) (data : List Byte) (crc : BitVec 32) (snr : BitVec 16) (power : BitVec 16) (drift : BitVec 16), s.fogOn =
    true → s.fogRx = 5 → data.length = bitsOf s.fog.hdr 16 10 → Codec.crc32c data ≠ crc → Gives (.payloadEnd data crc snr
    power drift) s fun t => t.fogRx = 1 ∧ t.fog = s.fog ∧ (t.reg Blk.fog (FOG.CNT 3)).toNat = ((s.reg Blk.fog (FOG.CNT
    3)).toNat + 1) % 2 ^ 32 ∧ (t.intStat Blk.fog).getLsbD FOG.INT_PAY_FAIL = true ∧ s.KeepsRegs [Blk.fog] t ∧
    s.KeepsUnitsBut (fun u => { u with fog := {}, pwr := {} }) t) ∧
  (∀ (s : State), s.fogOn = true → 2 ≤ s.fogRx → Gives .trackLost s fun t => t.fogRx = 1 ∧ t.fog = s.fog ∧ (t.intStat
    Blk.fog).getLsbD FOG.INT_TRACK_LOST = true ∧ s.KeepsRegs [Blk.fog] t ∧ s.KeepsUnits t) ∧
  (∀ (s : State) (q : Requester), s.Serves q Blk.fog true → s.fog.ring.length ≤ 8 → Gives (.rxPop q) s fun t => t.fog =
    { s.fog with ring := s.fog.ring.drop 1 } ∧ t.f Blk.fog FOG.RX_RING_COUNT = s.fog.ring.length - 1 ∧ s.KeepsRegs [Blk.fog]
    t ∧ s.KeepsBlk Blk.fog [FOG.RX_RING] t ∧ s.KeepsUnitsBut (fun u => { u with fog := {} }) t) ∧
  (∀ (s : State) (listen : Bool), s.fogOn = true → s.fb Blk.fog FOG.FOG_CTL_RX_EN = true → s.f Blk.pwr PWR.STAT_STATE = 4 →
    s.fogRx ≤ 1 → Gives (.dutyListen listen) s fun t => t.fogRx = (if listen then 1 else 0) ∧ t.f Blk.fog FOG.FOG_STAT_DUTY
    = 1 ∧ t.fog = s.fog ∧ s.KeepsRegs [Blk.fog] t ∧ s.KeepsBlk Blk.fog [FOG.FOG_STAT] t ∧ s.KeepsUnits t)

/-- INVAL_CTL takes the contents, valid and poison bits of one region and leaves every byte outside it; SEAL_CTL starts
sealing for the Keeper, or for others at level OPEN, and is refused otherwise; its end marks the pages sealed; a repair
of an empty macro uses up one spare, and of a macro with contents is refused; the scrubber moves on one line and leaves
every stored byte below the LOG's staging region as it was; a waiting page is replaced by its copy or reported lost. It
follows R334, R337, R339, R340, R349, R354 in the parts that these sentences say. -/
def Obligations.SramUpkeep : Prop :=
  (∀ (s : State) (a : Nat) (q : Requester) (v : Word), s.Serves q Blk.mem true → MEM.INVAL_CTL_GO.get v = 1 →
    MEM.INVAL_CTL_REGION.get v ≠ 3 → Gives (.invalCtl q v) s fun t => (inRegion (MEM.INVAL_CTL_REGION.get v) a = true →
    SMap.get 0 t.sram.bytes a = 0) ∧ (inRegion (MEM.INVAL_CTL_REGION.get v) a = false → SMap.get 0 t.sram.bytes a = SMap.get
    0 s.sram.bytes a) ∧ (inRegion (MEM.INVAL_CTL_REGION.get v) (4 * a) = true → SMap.get false t.sram.valid a = false ∧
    SMap.get false t.sram.poison a = false) ∧ (inRegion (MEM.INVAL_CTL_REGION.get v) (4 * a) = false → SMap.get false
    t.sram.valid a = SMap.get false s.sram.valid a) ∧ t.f Blk.mem MEM.STAT_INVAL_BUSY = 1 ∧ t.ddr = s.ddr ∧ s.KeepsRegs
    [Blk.mem] t ∧ s.KeepsBlk Blk.mem [MEM.STAT, MEM.GOLD_STAT] t ∧ s.KeepsUnitsBut (fun u =>
    { u with sram := {}, log := {} }) t) ∧
  (∀ (s : State), Gives .invalDone s fun t => t.f Blk.mem MEM.STAT_INVAL_BUSY = 0 ∧ t.sram = s.sram ∧ s.KeepsRegs [Blk.mem] t
    ∧ s.KeepsBlk Blk.mem [MEM.STAT] t ∧ s.KeepsUnits t) ∧
  (∀ (s : State) (q : Requester) (v : Word), s.Serves q Blk.mem true → (q = .keeper ∨ s.dbgLevel = 2) → MEM.SEAL_CTL_PAGE.get
    v + max 1 (MEM.SEAL_CTL_COUNT.get v) ≤ 8192 → Gives (.sealCtl q v) s fun t => 0x2400000 / 1024 + MEM.SEAL_CTL_PAGE.get v
    ∈ t.sram.sealJob ∧ t.sram.bytes = s.sram.bytes ∧ t.sram.sealed = s.sram.sealed ∧ t.f Blk.mem MEM.SEAL_STAT_BUSY = 1 ∧
    s.KeepsRegs [Blk.mem] t ∧ s.KeepsUnitsBut (fun u => { u with sram := {}, log := {} }) t ∧ s.KeepsRam t) ∧
  (∀ (s : State) (q : Requester) (v : Word), s.Serves q Blk.mem true → q ≠ .keeper → s.dbgLevel ≠ 2 → Gives (.sealCtl q v) s
    fun t => t.sram = s.sram ∧ t.f Blk.mem MEM.STAT_CFG_REFUSED = 1 ∧ s.KeepsRegs [Blk.mem] t ∧ s.KeepsUnits t) ∧
  (∀ (s : State) (g : Nat), s.fb Blk.mem MEM.SEAL_STAT_BUSY = true → g ∈ s.sram.sealJob → Gives .sealDone s fun t => SMap.get
    false t.sram.sealed g = true ∧ t.sram.sealJob = [] ∧ t.sram.bytes = s.sram.bytes ∧ t.f Blk.mem MEM.SEAL_STAT_BUSY = 0 ∧
    s.KeepsRegs [Blk.mem] t ∧ s.KeepsBlk Blk.mem [MEM.SEAL_STAT] t ∧ s.KeepsUnitsBut (fun u => { u with sram := {} }) t ∧
    s.KeepsRam t) ∧
  (∀ (s : State) (q : Requester) (v : Word), s.Serves q Blk.mem true → (sramRegion (65536 * s.f Blk.mem
    MEM.REP_IDX_MACRO)).isSome = true → s.macroEmpty (s.f Blk.mem MEM.REP_IDX_MACRO) = true → MEM.REP_DATA_COL.get v = 0 →
    (s.repUsed (s.f Blk.mem MEM.REP_IDX_MACRO)).1 < 2 → Gives (.repApply q v) s fun t => t.repUsed (s.f Blk.mem
    MEM.REP_IDX_MACRO) = ((s.repUsed (s.f Blk.mem MEM.REP_IDX_MACRO)).1 + 1, (s.repUsed (s.f Blk.mem MEM.REP_IDX_MACRO)).2)
    ∧ t.sram.bytes = s.sram.bytes ∧ s.KeepsRegs [Blk.mem] t ∧ s.KeepsBlk Blk.mem [MEM.REP_DATA] t ∧ s.KeepsUnitsBut (fun u
    => { u with sram := {}, log := {} }) t ∧ s.KeepsRam t) ∧
  (∀ (s : State) (q : Requester) (v : Word), s.Serves q Blk.mem true → s.macroEmpty (s.f Blk.mem MEM.REP_IDX_MACRO) = false →
    Gives (.repApply q v) s fun t => t.sram = s.sram ∧ t.f Blk.mem MEM.STAT_CFG_REFUSED = 1 ∧ s.KeepsRegs [Blk.mem] t ∧
    s.KeepsUnitsBut (fun u => { u with sram := {}, log := {} }) t ∧ s.KeepsRam t) ∧
  (∀ (s : State) (a : Nat) (flips : List Flip), s.fabOn = true → s.fb Blk.mem MEM.SCRUB_CTL_EN = true → s.f Blk.pwr
    PWR.STAT_STATE < 2 → s.sram.scrubSeg = 0 → s.sram.scrubLine + 1 < 0x100000 → Gives (.sramScrub flips) s fun t =>
    t.sram.scrubSeg = 0 ∧ t.sram.scrubLine = s.sram.scrubLine + 1 ∧ (a < 0x2C00000 → SMap.get 0 t.sram.bytes a = SMap.get 0
    s.sram.bytes a) ∧ t.ddr = s.ddr ∧ t.tb = s.tb ∧ s.KeepsRegs [Blk.pwr, Blk.mem, Blk.log] t ∧ s.KeepsUnitsBut (fun u =>
    { u with sram := {}, log := {} }) t ∧ s.KeepsRam t) ∧
  (∀ (s : State) (flips : List Flip), (s.fb Blk.mem MEM.SCRUB_CTL_EN = false ∨ 2 ≤ s.f Blk.pwr PWR.STAT_STATE) → Gives
    (.sramScrub flips) s fun t => t.sram = s.sram ∧ s.KeepsRegs [] t ∧ s.KeepsUnits t) ∧
  (∀ (s : State) (g : Nat) (rest : List Nat), s.sram.gold = g :: rest → inRegion 2 (1024 * g) = true → s.fabOn = true → s.fb
    Blk.mem MEM.GOLD_CTL_SE_EN = false → Gives (.goldenReload none) s fun t => t.sram.gold = rest ∧ t.sram.bytes =
    s.sram.bytes ∧ t.f Blk.mem MEM.GOLD_STAT_LOST = 1 ∧ t.fb Blk.mem MEM.GOLD_STAT_PENDING = !rest.isEmpty ∧ (t.intStat
    Blk.mem).getLsbD MEM.INT_GOLD_LOST = true ∧ s.KeepsRegs [Blk.mem] t ∧ s.KeepsUnitsBut (fun u =>
    { u with engines := [], sram := {} }) t) ∧
  (∀ (s : State) (d : Byte) (g : Nat) (rest : List Nat) (a : Nat), s.sram.gold = g :: rest → inRegion 2 (1024 * g) = true →
    s.fabOn = true → s.fb Blk.mem MEM.GOLD_CTL_SE_EN = false → Gives (.goldenReload (some [d])) s fun t => t.sram.gold =
    rest ∧ SMap.get 0 t.sram.bytes (1024 * g) = d ∧ (a < 1024 * g ∨ 1024 * g + 1024 ≤ a → SMap.get 0 t.sram.bytes a =
    SMap.get 0 s.sram.bytes a) ∧ SMap.get false t.sram.sealed g = true ∧ (t.intStat Blk.mem).getLsbD MEM.INT_GOLD_DONE =
    true ∧ s.KeepsRegs [Blk.mem] t ∧ s.KeepsUnitsBut (fun u => { u with engines := [], sram := {} }) t)

/-- INIT starts training of an untrained channel, which ends with TRAINED or TRAIN_FAIL; SEAL_CTL seals a page of a sealing
region and is refused otherwise; PV_CTL takes the contents of the pages of a region and leaves every other byte; refresh
and re-centring reach the devices while the channel serves; the scrubber leaves every byte outside its page's stored
errors. It follows R341, R342, R345, R346, R347, R349 in the parts that these sentences say. -/
def Obligations.DdrUpkeep : Prop :=
  (∀ (s : State) (q : Requester) (v : Word), s.Serves q Blk.ddr true → s.fb Blk.ddr DDR.STAT_TRAINED = false → Gives (.ddrInit
    q v) s fun t => t.ddr = { s.ddr with training := true } ∧ s.KeepsRegs [Blk.ddr] t ∧ s.KeepsBlk Blk.ddr [DDR.CFG] t ∧
    s.KeepsUnitsBut (fun u => { u with ddr := {} }) t ∧ s.KeepsRam t) ∧
  (∀ (s : State) (ok : Bool), s.domReady Dom.ddr = true → s.ddr.training = true → s.ddrf DDR.CFG_SIZE_GIB ≠ 0 → Gives
    (.ddrTrained ok) s fun t => t.ddr = { s.ddr with training := false } ∧ (ok = true → t.f Blk.ddr DDR.STAT_TRAINED = 1) ∧
    (ok = false → t.f Blk.ddr DDR.STAT_TRAINED = s.f Blk.ddr DDR.STAT_TRAINED ∧ (t.intStat Blk.ddr).getLsbD
    DDR.INT_TRAIN_FAIL = true) ∧ s.KeepsRegs [Blk.ddr] t ∧ s.KeepsUnitsBut (fun u => { u with ddr := {} }) t ∧ s.KeepsRam t) ∧
  (∀ (s : State) (q : Requester) (v : Word), s.Serves q Blk.ddr true → s.ddrServes = true → s.ddrSealable
    (DDR.SEAL_CTL_PAGE.get v) = true → 4096 * DDR.SEAL_CTL_PAGE.get v < s.ddrData → Gives (.ddrSealCtl q v) s fun t =>
    SMap.get false t.ddr.sealed (DDR.SEAL_CTL_PAGE.get v) = true ∧ t.ddr.bytes = s.ddr.bytes ∧ t.ddr.pv = s.ddr.pv ∧
    s.KeepsRegs [] t ∧ s.KeepsUnitsBut (fun u => { u with ddr := {} }) t ∧ s.KeepsRam t) ∧
  (∀ (s : State) (q : Requester) (v : Word), s.Serves q Blk.ddr true → s.ddrServes = false → Gives (.ddrSealCtl q v) s fun t
    => t.ddr = s.ddr ∧ (t.reg Blk.ddr DDR.STAT).getLsbD 6 = true ∧ s.KeepsRegs [Blk.ddr] t ∧ s.KeepsBlk Blk.ddr [DDR.STAT] t
    ∧ s.KeepsUnits t) ∧
  (∀ (s : State) (a : Nat) (q : Requester) (v : Word), s.Serves q Blk.ddr true → DDR.PV_CTL_GO.get v = 1 → Gives (.pvCtl q v)
    s fun t => (s.uf Blk.ddr (DDR.RGN_BASE_BASE (DDR.PV_CTL_REGION.get v)) ≤ a / 4096 → a / 4096 < s.uf Blk.ddr
    (DDR.RGN_BASE_BASE (DDR.PV_CTL_REGION.get v)) + s.uf Blk.ddr (DDR.RGN_SIZE_SIZE (DDR.PV_CTL_REGION.get v)) → SMap.get 0
    t.ddr.bytes a = 0 ∧ t.ddrValid (a / 4096) = false) ∧ (a / 4096 < s.uf Blk.ddr (DDR.RGN_BASE_BASE (DDR.PV_CTL_REGION.get
    v)) ∨ s.uf Blk.ddr (DDR.RGN_BASE_BASE (DDR.PV_CTL_REGION.get v)) + s.uf Blk.ddr (DDR.RGN_SIZE_SIZE
    (DDR.PV_CTL_REGION.get v)) ≤ a / 4096 → SMap.get 0 t.ddr.bytes a = SMap.get 0 s.ddr.bytes a ∧ t.ddrValid (a / 4096) =
    s.ddrValid (a / 4096)) ∧ t.f Blk.ddr DDR.STAT_PV_BUSY = 1 ∧ t.sram = s.sram ∧ s.KeepsRegs [Blk.ddr] t ∧ s.KeepsUnitsBut
    (fun u => { u with ddr := {} }) t) ∧
  (∀ (s : State), s.domReady Dom.ddr = true → Gives .pvDone s fun t => t.f Blk.ddr DDR.STAT_PV_BUSY = 0 ∧ t.ddr = s.ddr ∧
    s.KeepsRegs [Blk.ddr] t ∧ s.KeepsBlk Blk.ddr [DDR.STAT] t ∧ s.KeepsUnits t) ∧
  (∀ (s : State), s.ddrServes = true → Gives .ddrRefresh s fun t => OutMsg.ddr 0 ∈ t.out ∧ t.f Blk.ddr DDR.BAND_STAT_REF = min
    2 (s.f Blk.therm (THERM.BAND_CFG_REF (s.f Blk.therm THERM.STAT_BAND))) ∧ t.f Blk.ddr DDR.BAND_STAT_PHY = s.f Blk.therm
    (THERM.BAND_CFG_PHY (s.f Blk.therm THERM.STAT_BAND)) ∧ t.ddr = s.ddr ∧ s.KeepsRegs [Blk.ddr] t ∧ s.KeepsUnits t) ∧
  (∀ (s : State), s.ddrServes = true → Gives .phyRecentre s fun t => t.out = .ddr 1 :: s.out ∧ s.KeepsRegs [] t ∧ s.KeepsUnits
    t) ∧
  (∀ (s : State) (p : Nat) (a : Nat) (flips : List Flip), s.ddrServes = true → s.fb Blk.ddr DDR.SCRUB_CTL_EN = true → s.f
    Blk.pwr PWR.STAT_STATE < 2 → s.ddrPages.find? (fun x => decide (s.ddr.scrubPage ≤ x)) = some p → Gives (.ddrScrub flips)
    s fun t => t.ddr.bytes = s.ddr.bytes ∧ t.ddr.pv = s.ddr.pv ∧ (a / 4096 ≠ p → SMap.get 0 t.ddr.flips a = SMap.get 0
    s.ddr.flips a) ∧ t.tb = s.tb ∧ s.KeepsRegs [Blk.pwr, Blk.ddr, Blk.log] t ∧ s.KeepsUnitsBut (fun u =>
    { u with sram := {}, ddr := {}, log := {} }) t ∧ s.KeepsRam t)

/-- A TAIL write gives an idle channel with RUN = 1 new descriptors; a write of RING_LO resets HEAD and TAIL and is refused
while RUNNING or STOPPING; RUN from 0 to 1 resumes at HEAD; STOP and ABORT stop an idle channel at once, and ABORT of a
descriptor writes it back as ABORTED with state STOPPED; a fetched descriptor is taken, one with LEN 0 ends as BAD_DESC
in ERROR with nothing moved; a finished descriptor advances HEAD, reports OK and counts its bytes; a late write error is
recorded and stops the channel; a share window applies the cap; a CTL write through the alias also sets ACK_MODE. It
follows R359, R360, R361, R362, R364, R365, R370 in the parts that these sentences say. -/
def Obligations.DmaChannels : Prop :=
  (∀ (s : State) (q : Requester) (c : Fin 16) (v : Word), s.Serves q Blk.dma true → (s.dmaState c ≠ 0 ∨ s.dmaf (DMA.CH_CTL_RUN
    c) = 0) → Gives (.chTailWrite q c v) s fun t => t.reg Blk.dma (DMA.CH_TAIL c) = v &&& 0xFFFF ∧ t.dmaState c = s.dmaState
    c ∧ t.dma = s.dma ∧ s.KeepsRegs [Blk.dma] t ∧ s.KeepsBlk Blk.dma [DMA.CH_TAIL c] t ∧ s.KeepsUnitsBut (fun u =>
    { u with sram := {}, dma := [], tap := {} }) t) ∧
  (∀ (s : State) (q : Requester) (c : Fin 16) (v : Word), s.Serves q Blk.dma true → s.dmaState c = 0 → s.dmaf (DMA.CH_CTL_RUN
    c) = 1 → Gives (.chTailWrite q c v) s fun t => t.reg Blk.dma (DMA.CH_TAIL c) = v &&& 0xFFFF ∧ t.dmaState c = (if (s.reg
    Blk.dma (DMA.CH_HEAD c)).toNat % s.dmaRingSize c = (v &&& 0xFFFF).toNat % s.dmaRingSize c then 0 else 1) ∧ t.dma = s.dma
    ∧ s.KeepsRegs [Blk.dma] t ∧ s.KeepsBlk Blk.dma [DMA.CH_TAIL c, DMA.CH_STAT c] t ∧ s.KeepsUnitsBut (fun u =>
    { u with sram := {}, dma := [], tap := {} }) t) ∧
  (∀ (s : State) (q : Requester) (c : Fin 16) (hi : Bool) (v : Word), s.Serves q Blk.dma true → s.dmaBusy c = true → Gives
    (.ringWrite q c hi v) s fun t => t.f Blk.dma DMA.STAT_CFG_REFUSED = 1 ∧ (t.intStat Blk.dma).getLsbD DMA.INT_CFG_REFUSED
    = true ∧ t.dma = s.dma ∧ s.KeepsRegs [Blk.dma] t ∧ s.KeepsBlk Blk.dma [DMA.STAT] t ∧ s.KeepsUnits t) ∧
  (∀ (s : State) (q : Requester) (c : Fin 16) (v : Word), s.Serves q Blk.dma true → s.dmaBusy c = false → Gives (.ringWrite q
    c false v) s fun t => t.reg Blk.dma (DMA.CH_HEAD c) = 0 ∧ t.reg Blk.dma (DMA.CH_TAIL c) = 0 ∧ t.dma = s.dma ∧
    s.KeepsRegs [Blk.dma] t ∧ s.KeepsBlk Blk.dma [DMA.CH_RING_LO c, DMA.CH_HEAD c, DMA.CH_TAIL c] t ∧ s.KeepsUnitsBut (fun u
    => { u with sram := {}, dma := [], tap := {} }) t) ∧
  (∀ (s : State) (q : Requester) (c : Fin 16) (v : Word), s.Serves q Blk.dma true → s.dmaBusy c = false → Gives (.ringWrite q
    c true v) s fun t => t.reg Blk.dma (DMA.CH_RING_HI c) = v ∧ t.dma = s.dma ∧ s.KeepsRegs [Blk.dma] t ∧ s.KeepsBlk Blk.dma
    [DMA.CH_RING_HI c] t ∧ s.KeepsUnitsBut (fun u => { u with sram := {}, dma := [], tap := {} }) t) ∧
  (∀ (s : State) (c : Fin 16) (desc : List Byte), s.fabOn = true → s.dmaState c = 1 → (s.dmaCh c).cur = none → (s.dmaCh
    c).pwrStop = false → s.dmaEmpty c = false → s.dmaf (DMA.CH_CTL_RING_SPACE c) = 0 → s.hostReach = true → s.pwr.asked = []
    → 32 ≤ desc.length → Codec.ofBytes ((desc.drop 16).take 4) % 2 ^ 24 ≠ 0 → Codec.ofBytes ((desc.drop 20).take 4) = 4 →
    Gives (.descriptorStart c desc) s fun t => (t.dmaCh c).cur = some ⟨Codec.ofBytes ((desc.drop 0).take 4) + Codec.ofBytes
    ((desc.drop 4).take 4) * 2 ^ 32, Codec.ofBytes ((desc.drop 8).take 4) + Codec.ofBytes ((desc.drop 12).take 4) * 2 ^ 32,
    Codec.ofBytes ((desc.drop 16).take 4) % 2 ^ 24, 4⟩ ∧ (t.dmaCh c).moved = 0 ∧ (t.dmaCh c).crc = 0xFFFFFFFF ∧ t.dmaState c
    = 1 ∧ s.KeepsRegs [] t ∧ t.sram = s.sram ∧ t.ddr = s.ddr ∧ s.KeepsUnitsBut (fun u =>
    { u with sram := {}, dma := [], log := {} }) t) ∧
  (∀ (s : State) (c : Fin 16) (desc : List Byte), s.fabOn = true → s.dmaState c = 1 → (s.dmaCh c).cur = none → (s.dmaCh
    c).pwrStop = false → s.dmaEmpty c = false → s.dmaf (DMA.CH_CTL_RING_SPACE c) = 0 → s.hostReach = true → s.pwr.asked = []
    → 32 ≤ desc.length → Codec.ofBytes ((desc.drop 16).take 4) % 2 ^ 24 = 0 → Gives (.descriptorStart c desc) s fun t =>
    t.dmaState c = 4 ∧ t.dmaf (DMA.CH_STAT_LAST_STATUS c) = 4 ∧ t.dmaf (DMA.CH_STAT_ERR c) = 1 ∧ (t.reg Blk.dma
    DMA.ERR_MAP).getLsbD c.val = true ∧ (t.intStat Blk.dma).getLsbD DMA.INT_CH_ERR = true ∧ (t.dmaCh c).cur = none ∧
    s.KeepsRegs [Blk.dma] t ∧ t.sram = s.sram ∧ t.ddr = s.ddr ∧ s.KeepsUnitsBut (fun u =>
    { u with sram := {}, dma := [], log := {} }) t) ∧
  (∀ (s : State) (d : DmaDesc) (c : Fin 16) (source : List Byte), s.fabOn = true → s.dmaBusy c = true → (s.dmaCh c).cur = some
    d → (s.dmaCh c).moved = 0 → dmaSrcSpace d = 0 → dmaDstSpace d = 0 → d.len ≤ source.length → s.hostReach = true → s.dmaf
    (DMA.CH_CTL_RING_SPACE c) = 0 → Gives (.descriptorComplete c source false) s fun t => (OutMsg.hostWrite d.dst
    (source.take d.len) ∈ t.out ∨ d.len = 0) ∧ t.reg Blk.dma (DMA.CH_HEAD c) = BitVec.ofNat 32 ((s.dmaHead c + 1) %
    s.dmaRingSize c) ∧ t.dmaf (DMA.CH_STAT_LAST_STATUS c) = 0 ∧ (d.ctl.testBit 8 = true → (t.reg Blk.dma
    DMA.DONE_MAP).getLsbD c.val = true ∧ (t.intStat Blk.dma).getLsbD DMA.INT_DESC_DONE = true) ∧ ((s.dmaCh c).stop = true →
    (s.dmaCh c).pwrStop = false → t.dmaState c = 3) ∧ (t.dmaCh c).cur = none ∧ (t.dmaCh c).crc = (source.take d.len).foldl
    Codec.crcByte (s.dmaCh c).crc ∧ s.KeepsRegs [Blk.dma] t ∧ t.sram = s.sram ∧ t.ddr = s.ddr ∧ s.KeepsUnitsBut (fun u =>
    { u with sram := {}, ddr := {}, dma := [], tap := {}, log := {} }) t) ∧
  (∀ (s : State) (c : Fin 16) (idx : BitVec 16), s.fabOn = true → s.dmaf (DMA.CH_CTL_ACK_MODE c) = 0 → Gives (.lateWriteErr c
    idx) s fun t => t.dmaf (DMA.CH_STAT_LATE_ERR c) = 1 ∧ (t.intStat Blk.dma).getLsbD DMA.INT_LATE_WRITE_ERR = true ∧
    ((s.dmaCh c).late = false → t.reg Blk.dma (DMA.CH_LATE_IDX c) = idx.setWidth 32) ∧ ((s.dmaCh c).late = true → t.reg
    Blk.dma (DMA.CH_LATE_IDX c) = s.reg Blk.dma (DMA.CH_LATE_IDX c)) ∧ ((s.dmaCh c).cur = none → s.dmaState c ≤ 1 →
    t.dmaState c = 3) ∧ ((s.dmaCh c).cur.isSome = true → t.dmaState c = 2 ∧ (t.dmaCh c).late = true) ∧ t.reg Blk.log LOG.SEQ
    = s.reg Blk.log LOG.SEQ + 1 ∧ s.KeepsRegs [Blk.dma, Blk.log] t ∧ t.ddr = s.ddr ∧ s.KeepsUnitsBut (fun u =>
    { u with sram := {}, dma := [], log := {} }) t) ∧
  (∀ (s : State) (c : Fin 16) (idx : BitVec 16), s.dmaf (DMA.CH_CTL_ACK_MODE c) = 1 → Gives (.lateWriteErr c idx) s fun t =>
    t.dma = s.dma ∧ s.KeepsRegs [] t ∧ s.KeepsUnits t) ∧
  (∀ (s : State) (q : Requester) (c : Fin 16), s.Serves q Blk.dma true → s.dmaf (DMA.CH_CTL_RUN c) = 0 → s.dmaBusy c = false →
    Gives (.dmaRun q c) s fun t => t.dmaf (DMA.CH_CTL_RUN c) = 1 ∧ t.dmaState c = (if s.dmaEmpty c then 0 else 1) ∧ t.dma =
    s.dma ∧ t.dmaf (DMA.CH_STAT_ERR c) = s.dmaf (DMA.CH_STAT_ERR c) ∧ s.KeepsRegs [Blk.dma] t ∧ s.KeepsBlk Blk.dma
    [DMA.CH_CTL c, DMA.CH_STAT c] t ∧ s.KeepsUnitsBut (fun u => { u with sram := {}, dma := [], tap := {} }) t) ∧
  (∀ (s : State) (q : Requester) (c : Fin 16), s.Serves q Blk.dma true → (s.dmaCh c).cur.isSome = true → Gives (.dmaStop q c)
    s fun t => t.dmaState c = 2 ∧ (t.dmaCh c).cur = (s.dmaCh c).cur ∧ (t.dmaCh c).stop = true ∧ s.KeepsRegs [Blk.dma] t ∧
    s.KeepsBlk Blk.dma [DMA.CH_CTL c, DMA.CH_STAT c] t ∧ t.sram = s.sram ∧ s.KeepsUnitsBut (fun u =>
    { u with sram := {}, dma := [], tap := {} }) t) ∧
  (∀ (s : State) (q : Requester) (c : Fin 16), s.Serves q Blk.dma true → (s.dmaCh c).cur = none → s.dmaState c ≤ 1 → Gives
    (.dmaStop q c) s fun t => t.dmaState c = 3 ∧ t.dma = s.dma ∧ s.KeepsRegs [Blk.dma] t ∧ s.KeepsBlk Blk.dma [DMA.CH_CTL c,
    DMA.CH_STAT c] t ∧ s.KeepsUnitsBut (fun u => { u with sram := {}, dma := [], tap := {} }) t) ∧
  (∀ (s : State) (d : DmaDesc) (q : Requester) (c : Fin 16), s.Serves q Blk.dma true → (s.dmaCh c).cur = some d → (s.dmaCh
    c).pwrStop = false → s.dmaf (DMA.CH_CTL_RING_SPACE c) = 0 → s.hostReach = true → Gives (.dmaAbort q c) s fun t =>
    t.dmaState c = 3 ∧ t.dmaf (DMA.CH_STAT_LAST_STATUS c) = 3 ∧ t.dmaf (DMA.CH_STAT_ERR c) = s.dmaf (DMA.CH_STAT_ERR c) ∧
    (t.dmaCh c).cur = none ∧ t.out.head? = some (.hostWrite (s.dmaDescAddr c + 16) (s.dmaBack 3 (d.len - (s.dmaCh c).moved)
    (~~~(s.dmaCh c).crc))) ∧ t.reg Blk.dma (DMA.CH_HEAD c) = BitVec.ofNat 32 ((s.dmaHead c + 1) % s.dmaRingSize c) ∧
    s.KeepsRegs [Blk.dma] t ∧ t.sram = s.sram ∧ s.KeepsUnitsBut (fun u => { u with sram := {}, dma := [], tap := {} }) t) ∧
  (∀ (s : State) (q : Requester) (c : Fin 16), s.Serves q Blk.dma true → (s.dmaCh c).cur = none → s.dmaState c ≤ 1 → Gives
    (.dmaAbort q c) s fun t => t.dmaState c = 3 ∧ t.dma = s.dma ∧ s.KeepsRegs [Blk.dma] t ∧ s.KeepsUnitsBut (fun u =>
    { u with sram := {}, dma := [], tap := {} }) t) ∧
  (∀ (s : State) (q : Requester) (c : Fin 8) (v : Word), s.Serves q Blk.dma true → s.dmaBusy c = false → (DMA.CH_CTL_STOP
    c).get v = 0 → (DMA.CH_CTL_ABORT c).get v = 0 → (s.dmaf (DMA.CH_CTL_RUN c) = 1 ∨ (DMA.CH_CTL_RUN c).get v = 0) → Gives
    (.aliasCtlWrite q c v) s fun t => t.dmaf (DMA.CH_CTL_ACK_MODE c) = 1 ∧ t.dmaf (DMA.CH_CTL_RUN c) = (DMA.CH_CTL_RUN
    c).get v ∧ t.dmaf (DMA.CH_CTL_RING_LOG2 c) = (DMA.CH_CTL_RING_LOG2 c).get v ∧ t.dmaState c = s.dmaState c ∧ t.dma =
    s.dma ∧ s.KeepsRegs [Blk.dma] t ∧ s.KeepsBlk Blk.dma [DMA.CH_CTL c] t ∧ s.KeepsUnitsBut (fun u =>
    { u with sram := {}, dma := [] }) t) ∧
  (∀ (s : State), s.fabOn = true → Gives (.shareWindow []) s fun t => t.dmaf DMA.SHARE_CTL_EFF = min (min 100 (s.dmaf
    DMA.SHARE_CTL_CAP)) ((10 - s.f Blk.therm THERM.THR_STAT_SHARE) * 10) ∧ t.dma = s.dma ∧ s.KeepsRegs [Blk.dma] t ∧
    s.KeepsBlk Blk.dma [DMA.SHARE_CTL] t ∧ s.KeepsUnits t)

/-- A codeword of an ALIGNED direction counts in its port's counters and advances the position; one of a direction that is
not changes nothing; a due tap block is closed and takes the next sequence number, an open block that is not due stays;
a TAP_CTL write selects a port that is not 1.6TbE, and is refused otherwise. It follows R139, R209, R215, R367, R368 in
the parts that these sentences say. -/
def Obligations.PayloadTap : Prop :=
  (∀ (s : State) (p : Fin 64) (hostBound : Bool) (flow : Fin 4) (outcome : RsOutcome) (codeword : List Byte), s.dirAligned p
    hostBound = false → Gives (.rsCodewordMonitored p hostBound flow outcome codeword) s fun t => t.portMon = s.portMon ∧
    t.tap = s.tap ∧ s.KeepsRegs [] t ∧ s.KeepsUnits t) ∧
  (∀ (s : State) (p : Fin 64) (codeword : List Byte), s.dirAligned p true = true → s.fb Blk.dma DMA.TAP_STAT_ACTIVE = false →
    Gives (.rsCodewordMonitored p true 0 .clean codeword) s fun t => (t.reg (Blk.port p) PORT.RX_CW_LO) = s.reg (Blk.port p)
    PORT.RX_CW_LO + 1 ∧ t.reg (Blk.port p) PORT.RX_UNC = s.reg (Blk.port p) PORT.RX_UNC ∧ (t.mon p true).cws = (s.mon p
    true).cws + 1 ∧ (t.mon p true).unc = (s.mon p true).unc ∧ t.mon p false = s.mon p false ∧ t.tap = s.tap ∧ t.sram =
    s.sram ∧ s.KeepsRegs [Blk.port p] t ∧ s.KeepsUnitsBut (fun u => { u with sram := {}, tap := {}, portMon := [] }) t) ∧
  (∀ (s : State) (b : TapBlock), s.fabOn = true → s.tap.block = some b → (s.tapAdrift b = true ∨ tapFull b = true) → Gives
    .tapBlockClose s fun t => t.tap.block = none ∧ t.reg Blk.dma DMA.TAP_SEQ = s.reg Blk.dma DMA.TAP_SEQ + 1 ∧ (s.tapAdrift
    b = true → t.tap.gap = true) ∧ s.KeepsRegs [Blk.dma] t ∧ t.ddr = s.ddr ∧ t.dma = s.dma ∧ s.KeepsUnitsBut (fun u =>
    { u with sram := {}, tap := {} }) t) ∧
  (∀ (s : State), s.tap.block = none → Gives .tapBlockClose s fun t => t.tap = s.tap ∧ s.KeepsRegs [] t ∧ s.KeepsUnits t) ∧
  (∀ (s : State) (q : Requester) (v : Word), s.Serves q Blk.dma true → (s.uf (Blk.port (DMA.TAP_CTL_PORT.get v))
    PORT.PORT_CFG_TYPE = 5 ∨ (DMA.TAP_CTL_EN.get v = 1 ∧ 8 ≤ DMA.TAP_CTL_CH.get v)) → Gives (.tapCtlWrite q v) s fun t =>
    t.tap = s.tap ∧ t.f Blk.dma DMA.STAT_CFG_REFUSED = 1 ∧ (t.intStat Blk.dma).getLsbD DMA.INT_CFG_REFUSED = true ∧
    s.KeepsRegs [Blk.dma] t ∧ s.KeepsBlk Blk.dma [DMA.STAT] t ∧ s.KeepsUnits t) ∧
  (∀ (s : State) (q : Requester) (v : Word), s.Serves q Blk.dma true → s.uf (Blk.port (DMA.TAP_CTL_PORT.get v))
    PORT.PORT_CFG_TYPE ≠ 5 → DMA.TAP_CTL_EN.get v = 1 → DMA.TAP_CTL_CH.get v < 8 → s.tap.block = none → Gives (.tapCtlWrite
    q v) s fun t => t.dmaf DMA.TAP_CTL_PORT = DMA.TAP_CTL_PORT.get v ∧ t.dmaf DMA.TAP_CTL_DIR = DMA.TAP_CTL_DIR.get v ∧
    t.dmaf DMA.TAP_CTL_MODE = DMA.TAP_CTL_MODE.get v ∧ t.fb Blk.dma DMA.TAP_STAT_ACTIVE = true ∧ t.tap = s.tap ∧ s.KeepsRegs
    [Blk.dma] t ∧ s.KeepsBlk Blk.dma [DMA.TAP_CTL, DMA.TAP_STAT] t ∧ s.KeepsUnitsBut (fun u =>
    { u with sram := {}, dma := [], tap := {} }) t)

/-- DRAIN = 1 enables draining, or is refused while a region lies outside the data area or the two overlap; ANCH_CLR empties
the anchored region; a host record of type 0x8000 or above takes the next SEQ, and another type is refused; the Keeper
drains nothing while DRAIN = 0, and four sealed ring pages advance RING_WR by 64 records. It follows R372, R374, R375,
R376 in the parts that these sentences say. -/
def Obligations.LogbookRegions : Prop :=
  (∀ (s : State) (q : Requester) (on : Bool), s.Serves q Blk.log true → (on = false ∨ s.logRegionsOk (s.logn LOG.RING_BASE)
    (s.logn LOG.RING_SIZE) (s.logn LOG.ANCH_BASE) (s.logn LOG.ANCH_SIZE) = true) → Gives (.drainWrite q on) s fun t => t.fb
    Blk.log LOG.LOG_CTL_DRAIN = on ∧ t.log = s.log ∧ s.KeepsRegs [Blk.log] t ∧ s.KeepsBlk Blk.log [LOG.LOG_CTL] t ∧
    s.KeepsUnits t) ∧
  (∀ (s : State) (q : Requester), s.Serves q Blk.log true → s.logRegionsOk (s.logn LOG.RING_BASE) (s.logn LOG.RING_SIZE)
    (s.logn LOG.ANCH_BASE) (s.logn LOG.ANCH_SIZE) = false → Gives (.drainWrite q true) s fun t => t.f Blk.log
    LOG.LOG_CTL_DRAIN = s.f Blk.log LOG.LOG_CTL_DRAIN ∧ t.f Blk.log LOG.STAT_CFG_REFUSED = 1 ∧ (t.intStat Blk.log).getLsbD
    LOG.INT_CFG_REFUSED = true ∧ s.KeepsRegs [Blk.log] t ∧ s.KeepsBlk Blk.log [LOG.STAT] t ∧ s.KeepsUnits t) ∧
  (∀ (s : State) (q : Requester), s.Serves q Blk.log true → s.fb Blk.log LOG.LOG_CTL_DRAIN = false → Gives (.anchClrWrite q) s
    fun t => t.reg Blk.log LOG.ANCH_WR = 0 ∧ t.f Blk.log LOG.STAT_ANCHOR_FULL = 0 ∧ t.log = s.log ∧ s.KeepsRegs [Blk.log] t
    ∧ s.KeepsBlk Blk.log [LOG.ANCH_WR, LOG.STAT] t ∧ s.KeepsUnits t) ∧
  (∀ (s : State) (q : Requester) (typ : BitVec 16) (anchor : Bool), s.Serves q Blk.log true → s.domReady Dom.fab = true →
    0x8000 ≤ typ.toNat → Gives (.hrec q typ anchor) s fun t => t.reg Blk.log LOG.SEQ = s.reg Blk.log LOG.SEQ + 1 ∧ (anchor =
    false → t.log.anchored = s.log.anchored) ∧ s.KeepsRegs [Blk.log] t ∧ t.ddr = s.ddr ∧ t.tb = s.tb ∧ s.KeepsUnitsBut (fun
    u => { u with sram := {}, log := {} }) t ∧ s.KeepsRam t) ∧
  (∀ (s : State) (q : Requester) (typ : BitVec 16) (anchor : Bool), s.Serves q Blk.log true → typ.toNat < 0x8000 → Gives
    (.hrec q typ anchor) s fun t => t.log = s.log ∧ t.f Blk.log LOG.STAT_CFG_REFUSED = 1 ∧ (t.intStat Blk.log).getLsbD
    LOG.INT_CFG_REFUSED = true ∧ s.KeepsRegs [Blk.log] t ∧ s.KeepsBlk Blk.log [LOG.STAT] t ∧ s.KeepsUnits t) ∧
  (∀ (s : State), (s.fb Blk.log LOG.LOG_CTL_DRAIN = false ∨ s.kprRuns = false) → Gives .logDrain s fun t => t.log = s.log ∧
    t.ddr = s.ddr ∧ s.KeepsRegs [] t ∧ s.KeepsUnits t) ∧
  (∀ (s : State) (p : LogPage), s.fabOn = true → s.kprRuns = true → s.ddrServes = true → s.fb Blk.log LOG.LOG_CTL_DRAIN = true
    → 4 ≤ (s.logSealed false).length → 0 < s.logn LOG.RING_SIZE → (s.logSealed true).length < 4 → s.log.pages.find? (fun x
    => x.sealed && !x.anch) = some p → Gives .logDrain s fun t => t.logn LOG.RING_WR = (s.logn LOG.RING_WR + 64) % (64 *
    s.logn LOG.RING_SIZE) % 2 ^ 32 ∧ t.log.pages.length < s.log.pages.length ∧ p ∉ t.log.pages ∧ t.tb = s.tb ∧ t.dma = s.dma
    ∧ s.KeepsRegs [Blk.kpr, Blk.mem, Blk.ddr, Blk.log] t ∧ s.KeepsUnitsBut (fun u =>
    { u with sram := {}, ddr := {}, log := {} }) t)

/-- A request for PS1 to PS5 in PS0 with no operation under way is accepted and sets BUSY; any other is BAD_REQ and changes
nothing else; a refusal, and the expiry of HS_LIMIT, end the entry at AP1 with REFUSED or TIMEOUT; the last acceptance
passes the handshake; a DELAY that expires is asked again; the steps of entry run to the target state, and a wake before
the last abort point abandons it. It follows R384, R385, R386, R388, R389 in the parts that these sentences say. -/
def Obligations.PowerEntry : Prop :=
  (∀ (s : State) (q : Requester) (target : Fin 8), s.Serves q Blk.pwr true → (q ≠ .pcie ∨ target ≠ 0) → (target = 0 ∨ 6 ≤
    target.val ∨ s.f Blk.pwr PWR.STAT_STATE ≠ 0 ∨ s.fb Blk.pwr PWR.STAT_BUSY = true) → Gives (.powerRequest q target) s fun
    t => t.f Blk.pwr PWR.STAT_LAST_ENTRY = 6 ∧ t.f Blk.pwr PWR.STAT_STATE = s.f Blk.pwr PWR.STAT_STATE ∧ t.f Blk.pwr
    PWR.STAT_BUSY = s.f Blk.pwr PWR.STAT_BUSY ∧ (t.intStat Blk.pwr).getLsbD PWR.INT_REFUSED = true ∧ t.pwr = s.pwr ∧
    s.KeepsRegs [Blk.pwr] t ∧ s.KeepsBlk Blk.pwr [PWR.STAT] t ∧ s.KeepsUnits t) ∧
  (∀ (s : State) (q : Requester) (target : Fin 8), s.Serves q Blk.pwr true → 1 ≤ target.val → target.val ≤ 5 → s.f Blk.pwr
    PWR.STAT_STATE = 0 → s.fb Blk.pwr PWR.STAT_BUSY = false → s.pwr.seen = 0 → (List.range 4).all (fun p => !s.wakeHeld p) =
    true → Gives (.powerRequest q target) s fun t => t.f Blk.pwr PWR.STAT_BUSY = 1 ∧ t.pwr.target = target.val ∧ t.pwr.doms
    = s.notOn target.val ∧ t.pwr.startAon = s.aonCnt ∧ (t.pwr.step = 1 ∨ t.pwr.step = 2 ∧ t.pwr.asked = []) ∧ t.f Blk.pwr
    PWR.STAT_STATE = 0 ∧ t.domOn = s.domOn ∧ t.tb = s.tb ∧ t.ddr = s.ddr ∧ s.KeepsRegs ([Blk.pwr, Blk.ddr, Blk.dma, Blk.log,
    Blk.sched, Blk.therm, Blk.twin, Blk.bist, Blk.pmap, Blk.fec] ++ Blk.lines ++ Blk.lineEngines ++ Blk.hostEngines ++
    Blk.hosts ++ Blk.ports) t ∧ s.KeepsUnitsBut (fun u =>
    { u with domBusy := 0, line := [], engines := [], sram := {}, sched := {}, twin := {}, ddr := {}, pwr := {}, dma := [], log := {}, bist := {} })
    t) ∧
  (∀ (s : State) (b : Fin 179) (tm : Nat), s.pwr.step = 1 → b.val ∉ s.pwr.waiting → Gives (.handshakeAnswer b tm) s fun t =>
    t.pwr = s.pwr ∧ s.KeepsRegs [] t ∧ s.KeepsUnits t) ∧
  (∀ (s : State) (b : Fin 179) (tm : Nat), b.val = Blk.pcie → s.pwr.step = 1 → s.pwr.target ≠ 0 → b.val ∈ s.pwr.waiting →
    s.linkUp = true → s.d3hot = false → Gives (.handshakeAnswer b tm) s fun t => t.f Blk.pwr PWR.STAT_LAST_ENTRY = 2 ∧ t.f
    Blk.pwr PWR.STAT_REFUSER = Blk.pcie ∧ t.f Blk.pwr PWR.STAT_REASON = 8 ∧ t.f Blk.pwr PWR.STAT_REF_IS_DOM = 0 ∧ t.f
    Blk.pwr PWR.STAT_AP = 1 ∧ t.f Blk.pwr PWR.STAT_BUSY = 0 ∧ t.f Blk.pwr PWR.STAT_STATE = s.f Blk.pwr PWR.STAT_STATE ∧
    (t.intStat Blk.pwr).getLsbD PWR.INT_REFUSED = true ∧ t.pwr.target = 0 ∧ t.pwr.step = 0 ∧ t.domOn = s.domOn ∧ t.tb = s.tb
    ∧ s.KeepsRegs ([Blk.pwr, Blk.cfgv, Blk.mem, Blk.ddr, Blk.dma, Blk.log, Blk.hk, Blk.hdac, Blk.therm, Blk.fog, Blk.twin]
    ++ Blk.lines ++ Blk.hosts ++ Blk.ports) t ∧ s.KeepsUnitsBut (fun u =>
    { u with domBusy := 0, engines := [], sram := {}, fog := {}, hk := [], ddr := {}, pwr := {}, dma := [], tap := {}, log := {} })
    t) ∧
  (∀ (s : State) (b : Fin 179) (tm : Nat), b.val = Blk.pcie → s.pwr.step = 1 → s.pwr.target ≠ 0 → b.val ∈ s.pwr.waiting →
    s.linkUp = false → Gives (.handshakeAnswer b tm) s fun t => b.val ∉ t.pwr.waiting ∧ (s.pwr.waiting = [b.val] →
    s.pwr.delaying = [] → t.pwr.step = 2) ∧ (s.pwr.waiting ≠ [b.val] → s.pwr.waiting.Nodup → t.pwr.step = 1) ∧ t.pwr.target
    = s.pwr.target ∧ t.domOn = s.domOn ∧ s.KeepsRegs [] t ∧ s.KeepsUnitsBut (fun u =>
    { u with domBusy := 0, engines := [], sram := {}, fog := {}, hk := [], ddr := {}, pwr := {}, dma := [], tap := {}, log := {} })
    t) ∧
  (∀ (s : State) (b : Fin 179), s.pwr.step = 1 → b.val ∈ s.pwr.delaying → Gives (.handshakeDelayExpiry b) s fun t => b.val ∉
    t.pwr.delaying ∧ b.val ∈ t.pwr.waiting ∧ t.pwr.step = 1 ∧ t.pwr.target = s.pwr.target ∧ t.domOn = s.domOn ∧ t.reg
    Blk.pwr PWR.STAT = s.reg Blk.pwr PWR.STAT ∧ s.KeepsRegs (Blk.lines ++ Blk.lineEngines ++ Blk.hostEngines) t ∧
    s.KeepsUnitsBut (fun u => { u with engines := [], pwr := {} }) t) ∧
  (∀ (s : State) (b : Fin 179), b.val ∉ s.pwr.delaying → Gives (.handshakeDelayExpiry b) s fun t => t.pwr = s.pwr ∧
    s.KeepsRegs [] t ∧ s.KeepsUnits t) ∧
  (∀ (s : State), s.pwr.step = 1 → s.pwr.target ≠ 0 → Gives .handshakeTimeout s fun t => t.f Blk.pwr PWR.STAT_LAST_ENTRY = 4 ∧
    t.f Blk.pwr PWR.STAT_REASON = 0x0B ∧ t.f Blk.pwr PWR.STAT_AP = 1 ∧ t.f Blk.pwr PWR.STAT_BUSY = 0 ∧ (s.pwr.delaying =
    [Blk.hk] → t.f Blk.pwr PWR.STAT_REFUSER = Blk.hk) ∧ (t.intStat Blk.pwr).getLsbD PWR.INT_REFUSED = true ∧ t.pwr.target =
    0 ∧ t.pwr.step = 0 ∧ t.domOn = s.domOn ∧ s.KeepsRegs [Blk.pwr, Blk.ddr, Blk.dma, Blk.log, Blk.therm] t ∧ s.KeepsUnitsBut
    (fun u => { u with engines := [], sram := {}, ddr := {}, pwr := {}, dma := [], log := {} }) t) ∧
  (∀ (s : State), s.pwr.target = 1 → s.pwr.step = 2 → s.pwr.wake = false → Gives .entryStepDone s fun t => t.f Blk.pwr
    PWR.STAT_STATE = 1 ∧ t.f Blk.pwr PWR.STAT_LAST_ENTRY = 1 ∧ t.f Blk.pwr PWR.STAT_BUSY = 0 ∧ (t.intStat Blk.pwr).getLsbD
    PWR.INT_ENTERED = true ∧ t.pwr.target = 0 ∧ t.pwr.idle = true ∧ t.pwr.clkOff = false ∧ t.domOn = s.domOn ∧ t.tb = s.tb) ∧
  (∀ (s : State), s.pwr.target = 3 → s.pwr.step = 3 → s.pwr.wake = false → Gives .entryStepDone s fun t => t.pwr.step = 4 ∧
    t.pwr.retKpr = s.f Blk.pwr PWR.RET_KPR_BANKS ∧ t.pwr.retCoef = s.f Blk.pwr PWR.RET_COEF_BANKS ∧ t.domOn = s.domOn ∧
    s.KeepsRegs [] t) ∧
  (∀ (s : State), s.pwr.target = 5 → s.pwr.step = 4 → s.pwr.wake = false → Gives .entryStepDone s fun t => t.pwr.step = 5 ∧
    t.f Blk.pcie PCIE.LINK_STAT_DL_ACTIVE = 0 ∧ t.domOn = s.domOn ∧ s.KeepsRegs [Blk.pcie] t) ∧
  (∀ (s : State), s.pwr.target = 3 → s.pwr.step = 5 → s.pwr.wake = false → Gives .entryStepDone s fun t => t.f Blk.pwr
    PWR.STAT_STATE = 3 ∧ t.f Blk.pwr PWR.STAT_LAST_ENTRY = 1 ∧ t.f Blk.pwr PWR.STAT_BUSY = 0 ∧ t.domOn = s.domOn &&&
    ~~~(s.notOn 3) ∧ t.pwr.down = s.notOn 3 &&& s.domOn ∧ t.pwr.a0 = s.aonCnt ∧ (t.intStat Blk.pwr).getLsbD PWR.INT_ENTERED
    = true) ∧
  (∀ (s : State), s.pwr.target = 3 → s.pwr.step = 4 → s.pwr.wake = true → Gives .entryStepDone s fun t => t.f Blk.pwr
    PWR.STAT_LAST_ENTRY = 3 ∧ t.f Blk.pwr PWR.STAT_AP = 3 ∧ t.f Blk.pwr PWR.STAT_BUSY = 0 ∧ t.pwr.target = 0 ∧ t.pwr.wake =
    false ∧ (t.intStat Blk.pwr).getLsbD PWR.INT_ABORTED = true ∧ t.domOn = s.domOn ∧ t.tb = s.tb)

/-- An enabled wake source that the state lists sets its bit and SRC and decides a wake; a disabled one decides none; the
decision rolls an entry back or starts the exit from a state; the last step of exit returns to PS0 with BUSY clear and
EXITED raised. It follows R388, R389, R390, R393, R395 in the parts that these sentences say. -/
def Obligations.WakeAndExit : Prop :=
  (∀ (s : State) (p : Fin 4) (level : Bool), (s.f Blk.pwr PWR.WAKE_EN_EN).testBit p.val = true → 1 ≤ s.wakeState → s.wakeState
    ≤ 5 → s.pwr.wake = false → ((s.reg Blk.aon AON.WAKE_CTL).toNat.testBit (4 * p.val) == level) = true → (s.f Blk.aon
    AON.PIN_STAT_WAKE).testBit p.val ≠ level → Gives (.wakePin p level) s fun t => t.pwr.wake = true ∧ t.f Blk.pwr
    PWR.WAKE_STAT_SRC = p.val + 1 ∧ (t.f Blk.pwr PWR.WAKE_STAT_SEEN).testBit p.val = true ∧ (t.f Blk.aon
    AON.PIN_STAT_WAKE).testBit p.val = level ∧ (t.intStat Blk.pwr).getLsbD PWR.INT_WAKE = true ∧ t.domOn = s.domOn ∧
    s.KeepsRegs [Blk.pwr, Blk.aon] t ∧ s.KeepsBlk Blk.pwr [PWR.WAKE_STAT] t ∧ s.KeepsBlk Blk.aon [AON.PIN_STAT] t ∧
    s.KeepsUnitsBut (fun u => { u with pwr := {} }) t) ∧
  (∀ (s : State) (p : Fin 4) (level : Bool), (((s.reg Blk.aon AON.WAKE_CTL).toNat.testBit (4 * p.val) == level) = false ∨ (s.f
    Blk.pwr PWR.WAKE_EN_EN).testBit p.val = false) → Gives (.wakePin p level) s fun t => t.pwr = s.pwr ∧ (t.f Blk.aon
    AON.PIN_STAT_WAKE).testBit p.val = level ∧ s.KeepsRegs [Blk.aon] t ∧ s.KeepsBlk Blk.aon [AON.PIN_STAT] t ∧ s.KeepsUnits
    t) ∧
  (∀ (s : State), s.Serves .pcie Blk.pwr true → (s.f Blk.pwr PWR.WAKE_EN_EN).testBit 5 = true → (s.wakeState = 1 ∨ s.wakeState
    = 2) → s.pwr.wake = false → Gives .pcieWake s fun t => t.pwr.wake = true ∧ t.f Blk.pwr PWR.WAKE_STAT_SRC = 6 ∧
    (t.intStat Blk.pwr).getLsbD PWR.INT_WAKE = true ∧ s.KeepsRegs [Blk.pwr] t ∧ s.KeepsBlk Blk.pwr [PWR.WAKE_STAT] t ∧
    s.KeepsUnitsBut (fun u =>
    { u with domBusy := 0, line := [], engines := [], sram := {}, sched := {}, twin := {}, ddr := {}, pwr := {}, dma := [], log := {}, bist := {} })
    t) ∧
  (∀ (s : State), s.Serves .pcie Blk.pwr true → 3 ≤ s.wakeState → Gives .pcieWake s fun t => t.pwr = s.pwr ∧ s.KeepsRegs [] t
    ∧ s.KeepsUnits t) ∧
  (∀ (s : State) (c : Nat), s.f Blk.pwr PWR.STAT_STATE = 3 → s.pwr.target = 0 → s.pwr.wakeCmp = some c → c ≤ s.aonCnt → (s.f
    Blk.pwr PWR.WAKE_EN_EN).testBit 7 = true → s.pwr.wake = false → Gives .schedWake s fun t => t.pwr.wake = true ∧ t.f
    Blk.pwr PWR.WAKE_STAT_SRC = 8 ∧ s.KeepsRegs [Blk.pwr] t ∧ s.KeepsBlk Blk.pwr [PWR.WAKE_STAT] t ∧ s.KeepsUnitsBut (fun u
    => { u with pwr := {} }) t) ∧
  (∀ (s : State) (c : Nat), s.f Blk.pwr PWR.STAT_STATE = 3 → s.pwr.wakeCmp = some c → s.aonCnt < c → Gives .schedWake s fun t
    => t.pwr = s.pwr ∧ s.KeepsRegs [] t ∧ s.KeepsUnits t) ∧
  (∀ (s : State), s.pwr.wake = true → s.pwr.target = 0 → s.pwr.exitStep = 0 → s.f Blk.pwr PWR.STAT_STATE = 1 → Gives .wake s
    fun t => t.pwr.exitStep = 6 ∧ t.pwr.wake = false ∧ t.f Blk.pwr PWR.STAT_BUSY = 1 ∧ t.f Blk.pwr PWR.STAT_STATE = 1 ∧
    t.domOn = s.domOn ∧ s.KeepsRegs [Blk.pwr] t ∧ s.KeepsBlk Blk.pwr [PWR.STAT] t ∧ s.KeepsUnitsBut (fun u =>
    { u with line := [], engines := [], sram := {}, laneTsu := [], sched := {}, twin := {}, ddr := {}, pwr := {}, dma := [], log := {} })
    t) ∧
  (∀ (s : State), s.pwr.wake = true → s.pwr.target = 2 → s.pwr.step = 1 → Gives .wake s fun t => t.f Blk.pwr
    PWR.STAT_LAST_ENTRY = 3 ∧ t.f Blk.pwr PWR.STAT_AP = 1 ∧ t.f Blk.pwr PWR.STAT_BUSY = 0 ∧ t.pwr.target = 0 ∧ (t.intStat
    Blk.pwr).getLsbD PWR.INT_ABORTED = true ∧ t.domOn = s.domOn ∧ s.KeepsRegs ([Blk.pwr, Blk.ddr, Blk.dma, Blk.log, Blk.tsu,
    Blk.sched, Blk.therm, Blk.twin, Blk.pmap, Blk.fec] ++ Blk.lines ++ Blk.lineEngines ++ Blk.hostEngines ++ Blk.hosts ++
    Blk.ports) t ∧ s.KeepsUnitsBut (fun u =>
    { u with line := [], engines := [], sram := {}, laneTsu := [], sched := {}, twin := {}, ddr := {}, pwr := {}, dma := [], log := {} })
    t) ∧
  (∀ (s : State), s.pwr.wake = false → Gives .wake s fun t => t.pwr = s.pwr ∧ s.KeepsRegs [] t ∧ s.KeepsUnits t) ∧
  (∀ (s : State) (ddrKept : Bool), s.pwr.exitStep = 6 → s.pwr.down = 0 → Gives (.exitStepDone ddrKept none) s fun t => t.f
    Blk.pwr PWR.STAT_STATE = 0 ∧ t.f Blk.pwr PWR.STAT_BUSY = 0 ∧ t.pwr.exitStep = 0 ∧ t.pwr.idle = false ∧ (t.intStat
    Blk.pwr).getLsbD PWR.INT_EXITED = true ∧ t.domOn = s.domOn ∧ t.tb = s.tb) ∧
  (∀ (s : State) (ddrKept : Bool), s.pwr.exitStep = 2 → s.pwr.from_ ≠ 5 → Gives (.exitStepDone ddrKept none) s fun t =>
    t.domOn = s.domOn ||| s.pwr.down ∧ t.pwr.exitStep = 3 ∧ t.domBusy = s.domBusy ||| s.pwr.down ∧ s.KeepsRegs [] t) ∧
  (∀ (s : State) (ddrKept : Bool), s.pwr.exitStep = 5 → Gives (.exitStepDone ddrKept none) s fun t => t.pwr.exitStep = 6 ∧
    t.pwr.clkOff = false ∧ t.domOn = s.domOn)

/-- DOM_REQ ON is refused with reason 0x0A while the parent is off and with 0x0C for a domain that BIST excludes, and else
starts the power-up; OFF refuses a domain of the traffic floor with reason 9 and else asks the blocks; the completion
changes the domain alone and raises DOM_DONE; a request while one is under way is BAD_REQ. It follows R14, R22, R23,
R399, R402 in the parts that these sentences say. -/
def Obligations.DomainRequests : Prop :=
  (∀ (s : State) (q : Requester) (d : Fin 32), s.Serves q Blk.pwr true → (24 ≤ d.val ∨ s.fb Blk.pwr PWR.STAT_BUSY = true ∨ s.f
    Blk.pwr PWR.STAT_STATE ≠ 0) → Gives (.domOn q d) s fun t => t.f Blk.pwr PWR.STAT_LAST_ENTRY = 6 ∧ (t.intStat
    Blk.pwr).getLsbD PWR.INT_REFUSED = true ∧ s.KeepsRegs [Blk.pwr] t ∧ s.KeepsBlk Blk.pwr [PWR.STAT] t ∧ s.KeepsUnits t) ∧
  (∀ (s : State) (p : Nat) (q : Requester) (d : Fin 32), s.Serves q Blk.pwr true → d.val < 24 → s.fb Blk.pwr PWR.STAT_BUSY =
    false → s.f Blk.pwr PWR.STAT_STATE = 0 → s.bist.run = 0 → domParent d.val = some p → s.domReady p = false → Gives
    (.domOn q d) s fun t => t.f Blk.pwr PWR.STAT_LAST_ENTRY = 2 ∧ t.f Blk.pwr PWR.STAT_REASON = 0x0A ∧ t.f Blk.pwr
    PWR.STAT_REFUSER = p ∧ t.f Blk.pwr PWR.STAT_REF_IS_DOM = 1 ∧ (t.intStat Blk.pwr).getLsbD PWR.INT_REFUSED = true ∧
    t.domOn = s.domOn ∧ t.domBusy = s.domBusy ∧ s.KeepsRegs ([Blk.pwr, Blk.ddr, Blk.dma, Blk.log, Blk.sched, Blk.therm,
    Blk.twin, Blk.pmap, Blk.fec] ++ Blk.lines ++ Blk.lineEngines ++ Blk.hostEngines ++ Blk.hosts ++ Blk.ports) t ∧
    s.KeepsUnitsBut (fun u =>
    { u with domBusy := 0, line := [], engines := [], sram := {}, sched := {}, twin := {}, ddr := {}, pwr := {}, dma := [], log := {}, bist := {} })
    t) ∧
  (∀ (s : State) (q : Requester) (d : Fin 32), s.Serves q Blk.pwr true → d.val < 24 → s.fb Blk.pwr PWR.STAT_BUSY = false → s.f
    Blk.pwr PWR.STAT_STATE = 0 → s.bist.run = 0 → ((domParent d.val).filter fun p => !s.domReady p) = none →
    s.pwr.excluded.getLsbD d.val = true → Gives (.domOn q d) s fun t => t.f Blk.pwr PWR.STAT_LAST_ENTRY = 2 ∧ t.f Blk.pwr
    PWR.STAT_REASON = 0x0C ∧ t.f Blk.pwr PWR.STAT_REFUSER = d.val ∧ t.f Blk.pwr PWR.STAT_REF_IS_DOM = 1 ∧ t.domOn = s.domOn
    ∧ t.domBusy = s.domBusy ∧ s.KeepsRegs ([Blk.pwr, Blk.ddr, Blk.dma, Blk.log, Blk.sched, Blk.therm, Blk.twin, Blk.pmap,
    Blk.fec] ++ Blk.lines ++ Blk.lineEngines ++ Blk.hostEngines ++ Blk.hosts ++ Blk.ports) t ∧ s.KeepsUnitsBut (fun u =>
    { u with domBusy := 0, line := [], engines := [], sram := {}, sched := {}, twin := {}, ddr := {}, pwr := {}, dma := [], log := {}, bist := {} })
    t) ∧
  (∀ (s : State) (q : Requester) (d : Fin 32), s.Serves q Blk.pwr true → d.val < 24 → s.fb Blk.pwr PWR.STAT_BUSY = false → s.f
    Blk.pwr PWR.STAT_STATE = 0 → s.bist.run = 0 → ((domParent d.val).filter fun p => !s.domReady p) = none →
    s.pwr.excluded.getLsbD d.val = false → Gives (.domOn q d) s fun t => t.f Blk.pwr PWR.STAT_BUSY = 1 ∧ t.pwr.dom = some
    (d.val, true) ∧ t.domOn = s.domOn ∧ (s.domOn.getLsbD d.val = false → t.domBusy.getLsbD d.val = true) ∧ s.KeepsRegs
    [Blk.pwr] t ∧ s.KeepsBlk Blk.pwr [PWR.STAT] t ∧ s.KeepsUnitsBut (fun u =>
    { u with domBusy := 0, line := [], engines := [], sram := {}, sched := {}, twin := {}, ddr := {}, pwr := {}, dma := [], log := {}, bist := {} })
    t) ∧
  (∀ (s : State) (q : Requester) (d : Fin 32), s.Serves q Blk.pwr true → d.val ≤ 3 → s.fb Blk.pwr PWR.STAT_BUSY = false → s.f
    Blk.pwr PWR.STAT_STATE = 0 → s.bist.run = 0 → Gives (.domOff q d) s fun t => t.f Blk.pwr PWR.STAT_LAST_ENTRY = 2 ∧ t.f
    Blk.pwr PWR.STAT_REASON = 9 ∧ t.f Blk.pwr PWR.STAT_REFUSER = d.val ∧ t.f Blk.pwr PWR.STAT_REF_IS_DOM = 1 ∧ t.domOn =
    s.domOn ∧ s.KeepsRegs ([Blk.pwr, Blk.ddr, Blk.dma, Blk.log, Blk.sched, Blk.therm, Blk.twin, Blk.pmap, Blk.fec] ++
    Blk.lines ++ Blk.lineEngines ++ Blk.hostEngines ++ Blk.hosts ++ Blk.ports) t ∧ s.KeepsUnitsBut (fun u =>
    { u with domBusy := 0, line := [], engines := [], sram := {}, sched := {}, twin := {}, ddr := {}, pwr := {}, dma := [], log := {}, bist := {} })
    t) ∧
  (∀ (s : State) (q : Requester) (d : Fin 32), s.Serves q Blk.pwr true → 4 ≤ d.val → d.val < 24 → s.fb Blk.pwr PWR.STAT_BUSY =
    false → s.f Blk.pwr PWR.STAT_STATE = 0 → s.bist.run = 0 → (s.domTree d).find? s.domInService = none → Gives (.domOff q
    d) s fun t => t.f Blk.pwr PWR.STAT_BUSY = 1 ∧ t.pwr.dom = some (d.val, false) ∧ t.pwr.doms = domSet (s.domTree d) ∧
    t.domOn = s.domOn ∧ (t.pwr.step = 1 ∨ t.pwr.step = 2 ∧ t.pwr.asked = []) ∧ s.KeepsRegs ([Blk.pwr, Blk.ddr, Blk.dma,
    Blk.log, Blk.sched, Blk.therm, Blk.twin, Blk.pmap, Blk.fec] ++ Blk.lines ++ Blk.lineEngines ++ Blk.hostEngines ++
    Blk.hosts ++ Blk.ports) t ∧ s.KeepsUnitsBut (fun u =>
    { u with domBusy := 0, line := [], engines := [], sram := {}, sched := {}, twin := {}, ddr := {}, pwr := {}, dma := [], log := {}, bist := {} })
    t) ∧
  (∀ (s : State) (d : Nat) (ddrKept : Bool), s.pwr.dom = some (d, false) → s.pwr.step = 2 → d < 24 → Gives (.domDone ddrKept)
    s fun t => t.domOn = s.domOn &&& ~~~(s.pwr.doms &&& s.domOn) ∧ t.pwr.dom = none ∧ t.f Blk.pwr PWR.STAT_BUSY = 0 ∧
    (t.intStat Blk.pwr).getLsbD PWR.INT_DOM_DONE = true) ∧
  (∀ (s : State) (d : Nat) (ddrKept : Bool), s.pwr.dom = some (d, true) → s.pwr.step = 2 → d < 24 → s.domOn.getLsbD d = false
    → Gives (.domDone ddrKept) s fun t => t.domOn = s.domOn ||| domBit d ∧ t.domReady d = (s.domReady d || !s.held) ∧
    t.pwr.dom = none ∧ t.f Blk.pwr PWR.STAT_BUSY = 0 ∧ (t.intStat Blk.pwr).getLsbD PWR.INT_DOM_DONE = true) ∧
  (∀ (s : State) (ddrKept : Bool), s.pwr.dom = none → Gives (.domDone ddrKept) s fun t => t.pwr = s.pwr ∧ s.KeepsRegs [] t ∧
    s.KeepsUnits t)

/-- With EN = 0 a new target is taken at once; with EN = 1 it starts a request, which a good STATUS_WORD acknowledges, a bad
one leaves pending, and a NACK, an alert or the attempt's timeout retries up to three times; after the third retry the
device sets FAULT, raises PWR_FAULT and returns to the previous voltage; enabling the controller reads VOUT_MODE, clears
faults and sends the target. It follows R396, R397, R398 in the parts that these sentences say. -/
def Obligations.VoltageRequests : Prop :=
  (∀ (s : State), s.pwr.target = 0 → s.pwr.exitStep = 0 → s.f Blk.pwr PWR.STAT_STATE < 3 → s.pwr.pmb.sent ≠ some s.avsTarget →
    s.f Blk.pwr PWR.PMB_CFG_EN = 0 → Gives .voltageRequest s fun t => t.f Blk.pwr PWR.AVS_STAT_TARGET = s.avsTarget ∧ t.f
    Blk.pwr PWR.PMB_STAT_BUSY = s.f Blk.pwr PWR.PMB_STAT_BUSY ∧ t.pwr.pmb.sent = some s.avsTarget ∧ t.out = s.out ∧
    s.KeepsRegs [Blk.pwr] t ∧ s.KeepsBlk Blk.pwr [PWR.AVS_STAT] t ∧ s.KeepsUnitsBut (fun u => { u with pwr := {} }) t) ∧
  (∀ (s : State), s.pwr.target = 0 → s.pwr.exitStep = 0 → s.f Blk.pwr PWR.STAT_STATE < 3 → s.pwr.pmb.sent ≠ some s.avsTarget →
    s.f Blk.pwr PWR.PMB_CFG_EN = 1 → s.f Blk.pwr PWR.PMB_STAT_BUSY = 0 → Gives .voltageRequest s fun t => t.f Blk.pwr
    PWR.AVS_STAT_TARGET = s.avsTarget ∧ t.f Blk.pwr PWR.AVS_STAT_CURRENT = s.f Blk.pwr PWR.AVS_STAT_CURRENT ∧ t.f Blk.pwr
    PWR.PMB_STAT_BUSY = 1 ∧ t.f Blk.pwr PWR.PMB_STAT_RETRIES = 0 ∧ t.pwr.pmb.prev = s.f Blk.pwr PWR.AVS_STAT_CURRENT ∧ t.out
    = .pmbus 0x21 (linear16 s.pwr.pmb.vmode s.avsTarget) :: s.out ∧ s.KeepsRegs [Blk.pwr] t ∧ s.KeepsBlk Blk.pwr
    [PWR.AVS_STAT, PWR.PMB_STAT] t ∧ s.KeepsUnitsBut (fun u => { u with pwr := {} }) t) ∧
  (∀ (s : State) (w : BitVec 16), s.f Blk.pwr PWR.PMB_STAT_BUSY = 1 → s.pwr.pmb.off = false → s.pwr.pmb.next = none →
    s.pwr.pmb.kind = 0 → w = 0 → Gives (.pmbusPoll (some w)) s fun t => t.f Blk.pwr PWR.PMB_STAT_BUSY = 0 ∧ t.f Blk.pwr
    PWR.PMB_STAT_LAST = w.toNat ∧ t.f Blk.pwr PWR.AVS_STAT_CURRENT = s.pwr.pmb.mv % 1024 ∧ t.pwr = s.pwr ∧ s.KeepsRegs
    [Blk.pwr] t ∧ s.KeepsBlk Blk.pwr [PWR.AVS_STAT, PWR.PMB_STAT] t ∧ s.KeepsUnitsBut (fun u =>
    { u with sram := {}, pwr := {}, log := {} }) t ∧ s.KeepsRam t) ∧
  (∀ (s : State) (w : BitVec 16), s.f Blk.pwr PWR.PMB_STAT_BUSY = 1 → s.pwr.pmb.off = false → w ≠ 0 → Gives (.pmbusPoll (some
    w)) s fun t => t.f Blk.pwr PWR.PMB_STAT_BUSY = 1 ∧ t.f Blk.pwr PWR.PMB_STAT_LAST = w.toNat ∧ t.f Blk.pwr
    PWR.AVS_STAT_CURRENT = s.f Blk.pwr PWR.AVS_STAT_CURRENT ∧ t.pwr = s.pwr ∧ s.KeepsRegs [Blk.pwr] t ∧ s.KeepsBlk Blk.pwr
    [PWR.PMB_STAT] t ∧ s.KeepsUnitsBut (fun u => { u with sram := {}, pwr := {}, log := {} }) t ∧ s.KeepsRam t) ∧
  (∀ (s : State), s.f Blk.pwr PWR.PMB_STAT_BUSY = 1 → s.f Blk.pwr PWR.PMB_STAT_RETRIES < 3 → s.pwr.pmb.off = false →
    s.pwr.pmb.kind = 0 → Gives .attemptTimeout s fun t => t.f Blk.pwr PWR.PMB_STAT_RETRIES = s.f Blk.pwr
    PWR.PMB_STAT_RETRIES + 1 ∧ t.f Blk.pwr PWR.PMB_STAT_BUSY = 1 ∧ t.out = .pmbus 0x21 (linear16 s.pwr.pmb.vmode
    s.pwr.pmb.mv) :: .pmbus 0x03 0 :: s.out ∧ t.pwr = s.pwr ∧ s.KeepsRegs [Blk.pwr] t ∧ s.KeepsBlk Blk.pwr [PWR.PMB_STAT] t
    ∧ s.KeepsUnitsBut (fun u => { u with sram := {}, pwr := {}, log := {} }) t ∧ s.KeepsRam t) ∧
  (∀ (s : State), s.f Blk.pwr PWR.PMB_STAT_BUSY = 1 → s.f Blk.pwr PWR.PMB_STAT_RETRIES = 3 → s.pwr.pmb.next = none →
    s.pwr.pmb.kind = 0 → Gives .attemptTimeout s fun t => t.f Blk.pwr PWR.PMB_STAT_FAULT = 1 ∧ t.f Blk.pwr PWR.PMB_STAT_BUSY
    = 0 ∧ t.f Blk.pwr PWR.AVS_STAT_TARGET = s.pwr.pmb.prev % 1024 ∧ (t.intStat Blk.pwr).getLsbD PWR.INT_PWR_FAULT = true ∧
    OutMsg.pmbus 0x21 (linear16 s.pwr.pmb.vmode s.pwr.pmb.prev) ∈ t.out ∧ (s.fabOn = true → t.reg Blk.log LOG.SEQ = s.reg
    Blk.log LOG.SEQ + 1) ∧ s.KeepsRegs [Blk.pwr, Blk.log] t ∧ s.KeepsUnitsBut (fun u =>
    { u with sram := {}, pwr := {}, log := {} }) t ∧ s.KeepsRam t) ∧
  (∀ (s : State) (status : BitVec 16), s.f Blk.pwr PWR.PMB_STAT_BUSY = 0 → Gives (.pmbAlert status) s fun t => t.f Blk.pwr
    PWR.PMB_STAT_LAST = status.toNat ∧ (t.intStat Blk.pwr).getLsbD PWR.INT_PMB_ALERT = true ∧ t.pwr = s.pwr ∧ s.KeepsRegs
    [Blk.pwr] t ∧ s.KeepsBlk Blk.pwr [PWR.PMB_STAT] t ∧ s.KeepsUnits t) ∧
  (∀ (s : State) (q : Requester) (vmode : Byte), s.Serves q Blk.pwr true → s.fb Blk.pwr PWR.PMB_CFG_EN = false → s.f Blk.pwr
    PWR.PMB_STAT_BUSY = 0 → s.pwr.target = 0 → s.pwr.exitStep = 0 → s.f Blk.pwr PWR.STAT_STATE < 3 → Gives (.pmbEnable q
    vmode) s fun t => t.f Blk.pwr PWR.PMB_CFG_EN = 1 ∧ t.f Blk.pwr PWR.PMB_STAT_BUSY = 1 ∧ t.f Blk.pwr PWR.AVS_STAT_TARGET =
    s.avsTarget ∧ t.pwr.pmb.vmode = vmode ∧ t.out = .pmbus 0x21 (linear16 vmode s.avsTarget) :: .pmbus 0x03 0 :: .pmbus 0x20
    0 :: s.out ∧ s.KeepsRegs [Blk.pwr] t ∧ s.KeepsBlk Blk.pwr [PWR.PMB_CFG, PWR.AVS_STAT, PWR.PMB_STAT] t ∧ s.KeepsUnitsBut
    (fun u =>
    { u with domBusy := 0, line := [], engines := [], sram := {}, sched := {}, twin := {}, ddr := {}, pwr := {}, dma := [], log := {}, bist := {} })
    t)

/-- START with no domain that can run ends at once with NOT_RUN for each and its reason; START on an unpowered domain whose
parent is up begins the run; a run that ends with a match reports PASS and with a mismatch FAIL and excludes the domain;
STOP and a lapsed precondition end it as INCOMPLETE; a lane test starts on a free lane and reports IN_USE on another,
and its end resets the lane's registers. It follows R425, R426, R427, R430, R431, R432 in the parts that these sentences
say. -/
def Obligations.BistRuns : Prop :=
  (∀ (s : State) (d : Nat) (q : Requester), s.Serves q Blk.bist true → s.fb Blk.bist BIST.STAT_BUSY = false → s.f Blk.bist
    BIST.RUN_MASK_MASK = 2 ^ d → d < 24 → s.bistBars d = none → Gives (.bistStart q true 0) s fun t => t.f Blk.bist
    BIST.STAT_BUSY = 1 ∧ t.f Blk.bist BIST.STAT_KIND = 1 ∧ t.bist.run = BitVec.ofNat 24 (2 ^ d) ∧ t.f Blk.bist
    BIST.STAT_PRECOND = 1 ∧ t.domOn = s.domOn ∧ t.tb = s.tb ∧ s.KeepsRegs ([Blk.pwr, Blk.ddr, Blk.dma, Blk.log, Blk.sched,
    Blk.hk, Blk.filt, Blk.hdac, Blk.therm, Blk.fog, Blk.twin, Blk.bist, Blk.pmap, Blk.fec] ++ Blk.lines ++ Blk.lineEngines
    ++ Blk.hostEngines ++ Blk.hosts ++ Blk.ports) t ∧ s.KeepsUnitsBut (fun u =>
    { u with domBusy := 0, line := [], engines := [], sram := {}, sched := {}, twin := {}, ddr := {}, pwr := {}, dma := [], log := {}, bist := {} })
    t) ∧
  (∀ (s : State) (d : Nat) (q : Requester) (refclk : Bool) (rails : BitVec 7), s.Serves q Blk.bist true → s.fb Blk.bist
    BIST.STAT_BUSY = false → s.f Blk.bist BIST.RUN_MASK_MASK = 2 ^ d → d < 24 → s.domOn.getLsbD d = true → bistTestable d =
    true → refclk = true → rails = 0 → Gives (.bistStart q refclk rails) s fun t => t.f Blk.bist BIST.STAT_BUSY = 0 ∧
    t.bist.run = 0 ∧ t.bistResult d = 0 ∧ BIST.DOM_DETAIL_REASON.get (t.bistDetail d) = 3 ∧ t.f Blk.bist BIST.STAT_OVERALL =
    0 ∧ (t.intStat Blk.bist).getLsbD 4 = true ∧ (t.intStat Blk.bist).getLsbD 7 = true ∧ t.domOn = s.domOn ∧ t.sram = s.sram
    ∧ s.KeepsRegs [Blk.bist] t ∧ s.KeepsUnitsBut (fun u =>
    { u with domBusy := 0, line := [], engines := [], sram := {}, sched := {}, twin := {}, ddr := {}, pwr := {}, dma := [], log := {}, bist := {} })
    t) ∧
  (∀ (s : State) (q : Requester) (refclk : Bool) (rails : BitVec 7), s.Serves q Blk.bist true → s.fb Blk.bist BIST.STAT_BUSY =
    true → Gives (.bistStart q refclk rails) s fun t => t.bist = s.bist ∧ s.KeepsRegs [] t ∧ s.KeepsUnits t) ∧
  (∀ (s : State) (d : Nat), d < 23 → 1 ≤ d → s.bist.run = domBit d → s.bist.selected = domBit d → s.bist.waiting = none →
    Gives (.bistDone []) s fun t => t.f Blk.bist BIST.STAT_BUSY = 0 ∧ t.bist.run = 0 ∧ t.bistResult d = 1 ∧ t.f Blk.bist
    BIST.STAT_OVERALL = 1 ∧ t.pwr.excluded.getLsbD d = false ∧ (t.intStat Blk.bist).getLsbD 4 = true ∧ t.domOn = s.domOn ∧
    t.sram = s.sram ∧ s.KeepsRegs [Blk.bist] t ∧ s.KeepsUnitsBut (fun u =>
    { u with domBusy := 0, line := [], engines := [], sram := {}, sched := {}, twin := {}, ddr := {}, pwr := {}, dma := [], log := {}, bist := {} })
    t) ∧
  (∀ (s : State) (d : Nat) (x : BistDom), x.dom.val = d → x.logic = true → d < 23 → 1 ≤ d → s.bist.run = domBit d →
    s.bist.selected = domBit d → s.bist.waiting = none → Gives (.bistDone [x]) s fun t => t.f Blk.bist BIST.STAT_BUSY = 0 ∧
    t.bist.run = 0 ∧ t.bistResult d = 2 ∧ t.f Blk.bist BIST.STAT_OVERALL = 2 ∧ t.pwr.excluded.getLsbD d = true ∧ (t.intStat
    Blk.bist).getLsbD 4 = true ∧ t.domOn = s.domOn ∧ t.sram = s.sram ∧ s.KeepsRegs [Blk.bist] t ∧ s.KeepsUnitsBut (fun u =>
    { u with domBusy := 0, line := [], engines := [], sram := {}, sched := {}, twin := {}, ddr := {}, pwr := {}, dma := [], log := {}, bist := {} })
    t) ∧
  (∀ (s : State) (d : Nat) (q : Requester), s.Serves q Blk.bist true → d < 23 → 1 ≤ d → s.bist.run = domBit d →
    s.bist.selected = domBit d → s.bist.waiting = none → s.bist.lane = none → Gives (.bistStop q) s fun t => t.f Blk.bist
    BIST.STAT_BUSY = 0 ∧ t.bist.run = 0 ∧ t.bistResult d = 3 ∧ BIST.DOM_DETAIL_REASON.get (t.bistDetail d) = 8 ∧ t.f
    Blk.bist BIST.STAT_OVERALL = 3 ∧ (t.intStat Blk.bist).getLsbD 5 = true ∧ t.domOn = s.domOn ∧ s.KeepsRegs [Blk.bist] t ∧
    s.KeepsUnitsBut (fun u =>
    { u with domBusy := 0, line := [], engines := [], sram := {}, sched := {}, twin := {}, ddr := {}, pwr := {}, dma := [], log := {}, bist := {} })
    t) ∧
  (∀ (s : State) (d : Nat) (refclk : Bool) (rails : BitVec 7), s.domReady Dom.test = true → (refclk = false ∨ rails ≠ 0) → d <
    23 → 1 ≤ d → s.bist.run = domBit d → s.bist.selected = domBit d → s.bist.waiting = none → s.bist.lane = none → Gives
    (.bistPrecondLapse refclk rails) s fun t => t.f Blk.bist BIST.STAT_BUSY = 0 ∧ t.bist.run = 0 ∧ t.bistResult d = 3 ∧
    BIST.DOM_DETAIL_REASON.get (t.bistDetail d) = 9 ∧ t.f Blk.bist BIST.STAT_PRECOND = 0 ∧ t.f Blk.bist BIST.RAIL_STAT_RAIL
    = rails.toNat ∧ t.domOn = s.domOn ∧ s.KeepsRegs [Blk.bist] t ∧ s.KeepsUnitsBut (fun u =>
    { u with domBusy := 0, line := [], engines := [], sram := {}, sched := {}, twin := {}, ddr := {}, pwr := {}, dma := [], log := {}, bist := {} })
    t) ∧
  (∀ (s : State) (q : Requester) (lane : Fin 32), s.Serves q Blk.bist true → s.fb Blk.bist BIST.LANE_STAT_BUSY = false →
    lane.val < 17 → s.blkOn (Blk.llane lane) = true → s.laneTestFree lane = true → Gives (.laneBistStart q lane) s fun t =>
    t.bist.lane = some lane.val ∧ t.f Blk.bist BIST.LANE_STAT_BUSY = 1 ∧ s.KeepsRegs [Blk.bist] t ∧ s.KeepsBlk Blk.bist
    [BIST.LANE_STAT] t ∧ t.sram = s.sram ∧ s.KeepsUnitsBut (fun u => { u with bist := {} }) t) ∧
  (∀ (s : State) (q : Requester) (lane : Fin 32), s.Serves q Blk.bist true → s.fb Blk.bist BIST.LANE_STAT_BUSY = false →
    lane.val < 17 → s.blkOn (Blk.llane lane) = true → s.laneTestFree lane = false → Gives (.laneBistStart q lane) s fun t =>
    t.bist = s.bist ∧ t.reg Blk.bist BIST.LANE_STAT = 0x60 ∧ s.KeepsRegs [Blk.bist] t ∧ s.KeepsBlk Blk.bist [BIST.LANE_STAT]
    t ∧ s.KeepsUnits t) ∧
  (∀ (s : State) (n : Nat) (rx : Bool) (tx : Bool) (slice : Bool) (subs : List (Fin 136)) (segs : List (Fin 132)), n < 17 →
    s.bist.lane = some n → Gives (.laneDone rx tx slice subs segs) s fun t => t.bist.lane = none ∧ t.f Blk.bist
    BIST.LANE_STAT_RESULT = (if rx || tx || slice then 2 else 1) ∧ t.f Blk.bist BIST.LANE_STAT_RX_FAIL = rx.toNat ∧ t.f
    Blk.bist BIST.LANE_STAT_TX_FAIL = tx.toNat ∧ t.f Blk.bist BIST.LANE_STAT_SLICE_FAIL = slice.toNat ∧ t.f Blk.bist
    BIST.LANE_STAT_BUSY = 0 ∧ (t.intStat Blk.bist).getLsbD 6 = true ∧ t.reg (Blk.llane n) LLANE.RX_CTL = resetWord
    (Blk.llane n) LLANE.RX_CTL ∧ t.sram = s.sram ∧ t.domOn = s.domOn ∧ s.KeepsRegs ([Blk.log, Blk.sched, Blk.therm,
    Blk.twin, Blk.bist, Blk.pmap, Blk.fec] ++ Blk.lines ++ Blk.lineEngines ++ Blk.hostEngines ++ Blk.hosts ++ Blk.ports) t ∧
    s.KeepsUnitsBut (fun u => { u with line := [], sram := {}, sched := {}, twin := {}, log := {}, bist := {} }) t ∧
    s.KeepsRam t)

/-- CLR_ALL zeroes every one of the 64 counters and changes nothing else but CTL; GLOBAL_EN sets its bit and leaves every
counter as it was. It follows R435, R436 in the parts that these sentences say. -/
def Obligations.PerformanceCounters : Prop :=
  (∀ (s : State) (n : Nat) (q : Requester), s.Serves q Blk.perf true → n < 64 → Gives (.clrAll q) s fun t => t.reg Blk.perf
    (PERF.PC_LO n) = 0 ∧ t.reg Blk.perf (PERF.PC_HI n) = 0 ∧ t.reg Blk.perf (PERF.PC_CTL n) = s.reg Blk.perf (PERF.PC_CTL n)
    ∧ t.f Blk.perf PERF.CTL_GLOBAL_EN = s.f Blk.perf PERF.CTL_GLOBAL_EN ∧ s.KeepsRegs [] t ∧ s.KeepsUnits t) ∧
  (∀ (s : State) (q : Requester) (on : Bool), s.Serves q Blk.perf true → Gives (.globalEn q on) s fun t => t.f Blk.perf
    PERF.CTL_GLOBAL_EN = on.toNat ∧ s.KeepsBlk Blk.perf [PERF.CTL] t ∧ s.KeepsRegs [] t ∧ s.KeepsUnits t)

/-- Each scalar instruction of a lane engine sets its destination to the value R154 gives, writes nothing where that is s0,
and leaves every other register, the flags, memory and the other engines as they were. It follows R150, R151, R154 in
the parts that these sentences say. -/
def Obligations.EngineScalar : Prop :=
  (∀ (s : State) (e : EngineId) (d : Fin 16) (a : Fin 16) (b : Fin 16), s.Issues e → Gives (.addOp e d a b) s fun t =>
    s.SetsScalar e d (s.scalar e a + s.scalar e b) t) ∧
  (∀ (s : State) (e : EngineId) (d : Fin 16) (a : Fin 16) (b : Fin 16), s.Issues e → Gives (.subOp e d a b) s fun t =>
    s.SetsScalar e d (s.scalar e a - s.scalar e b) t) ∧
  (∀ (s : State) (e : EngineId) (d : Fin 16) (a : Fin 16) (b : Fin 16), s.Issues e → Gives (.andOp e d a b) s fun t =>
    s.SetsScalar e d (s.scalar e a &&& s.scalar e b) t) ∧
  (∀ (s : State) (e : EngineId) (d : Fin 16) (a : Fin 16) (b : Fin 16), s.Issues e → Gives (.orOp e d a b) s fun t =>
    s.SetsScalar e d (s.scalar e a ||| s.scalar e b) t) ∧
  (∀ (s : State) (e : EngineId) (d : Fin 16) (a : Fin 16) (b : Fin 16), s.Issues e → Gives (.xorOp e d a b) s fun t =>
    s.SetsScalar e d (s.scalar e a ^^^ s.scalar e b) t) ∧
  (∀ (s : State) (e : EngineId) (d : Fin 16) (a : Fin 16) (b : Fin 16), s.Issues e → Gives (.sllOp e d a b) s fun t =>
    s.SetsScalar e d (s.scalar e a <<< ((s.scalar e b).toNat % 32)) t) ∧
  (∀ (s : State) (e : EngineId) (d : Fin 16) (a : Fin 16) (b : Fin 16), s.Issues e → Gives (.srlOp e d a b) s fun t =>
    s.SetsScalar e d (s.scalar e a >>> ((s.scalar e b).toNat % 32)) t) ∧
  (∀ (s : State) (e : EngineId) (d : Fin 16) (a : Fin 16) (b : Fin 16), s.Issues e → Gives (.sraOp e d a b) s fun t =>
    s.SetsScalar e d ((s.scalar e a).sshiftRight ((s.scalar e b).toNat % 32)) t) ∧
  (∀ (s : State) (e : EngineId) (d : Fin 16) (a : Fin 16) (b : Fin 16), s.Issues e → Gives (.sltOp e d a b) s fun t =>
    s.SetsScalar e d (if (s.scalar e a).toInt < (s.scalar e b).toInt then 1 else 0) t) ∧
  (∀ (s : State) (e : EngineId) (d : Fin 16) (a : Fin 16) (b : Fin 16), s.Issues e → Gives (.sltuOp e d a b) s fun t =>
    s.SetsScalar e d (if (s.scalar e a).toNat < (s.scalar e b).toNat then 1 else 0) t) ∧
  (∀ (s : State) (e : EngineId) (d : Fin 16) (a : Fin 16) (b : Fin 16), s.Issues e → Gives (.minOp e d a b) s fun t =>
    s.SetsScalar e d (BitVec.ofInt 32 (min (s.scalar e a).toInt (s.scalar e b).toInt)) t) ∧
  (∀ (s : State) (e : EngineId) (d : Fin 16) (a : Fin 16) (b : Fin 16), s.Issues e → Gives (.maxOp e d a b) s fun t =>
    s.SetsScalar e d (BitVec.ofInt 32 (max (s.scalar e a).toInt (s.scalar e b).toInt)) t) ∧
  (∀ (s : State) (e : EngineId) (d : Fin 16) (a : Fin 16) (b : Fin 16), s.Issues e → Gives (.mulOp e d a b) s fun t =>
    s.SetsScalar e d (s.scalar e a * s.scalar e b) t) ∧
  (∀ (s : State) (e : EngineId) (d : Fin 16) (a : Fin 16) (b : Fin 16), s.Issues e → Gives (.mulhOp e d a b) s fun t =>
    s.SetsScalar e d (BitVec.ofInt 32 ((s.scalar e a).toInt * (s.scalar e b).toInt / 2 ^ 32)) t) ∧
  (∀ (s : State) (e : EngineId) (d : Fin 16) (a : Fin 16) (i : BitVec 18), s.Issues e → Gives (.addi e d a i) s fun t =>
    s.SetsScalar e d (s.scalar e a + i.signExtend 32) t) ∧
  (∀ (s : State) (e : EngineId) (d : Fin 16) (a : Fin 16) (i : BitVec 18), s.Issues e → Gives (.andi e d a i) s fun t =>
    s.SetsScalar e d (s.scalar e a &&& i.setWidth 32) t) ∧
  (∀ (s : State) (e : EngineId) (d : Fin 16) (a : Fin 16) (i : BitVec 18), s.Issues e → Gives (.ori e d a i) s fun t =>
    s.SetsScalar e d (s.scalar e a ||| i.setWidth 32) t) ∧
  (∀ (s : State) (e : EngineId) (d : Fin 16) (a : Fin 16) (i : BitVec 18), s.Issues e → Gives (.xori e d a i) s fun t =>
    s.SetsScalar e d (s.scalar e a ^^^ i.setWidth 32) t) ∧
  (∀ (s : State) (e : EngineId) (d : Fin 16) (a : Fin 16) (i : Fin 32), s.Issues e → Gives (.slli e d a i) s fun t =>
    s.SetsScalar e d (s.scalar e a <<< i.val) t) ∧
  (∀ (s : State) (e : EngineId) (d : Fin 16) (a : Fin 16) (i : Fin 32), s.Issues e → Gives (.srli e d a i) s fun t =>
    s.SetsScalar e d (s.scalar e a >>> i.val) t) ∧
  (∀ (s : State) (e : EngineId) (d : Fin 16) (a : Fin 16) (i : Fin 32), s.Issues e → Gives (.srai e d a i) s fun t =>
    s.SetsScalar e d ((s.scalar e a).sshiftRight i.val) t) ∧
  (∀ (s : State) (e : EngineId) (d : Fin 16) (i : BitVec 18), s.Issues e → Gives (.lui e d i) s fun t => s.SetsScalar e d
    (i.setWidth 32 <<< 14) t) ∧
  (∀ (s : State) (e : EngineId) (d : Fin 16) (a : Fin 16) (i : Fin 32), s.Issues e → Gives (.sati e d a i) s fun t =>
    s.SetsScalar e d (BitVec.ofInt 32 (max (-(2 ^ i.val)) (min (2 ^ i.val - 1) (s.scalar e a).toInt))) t) ∧
  (∀ (s : State) (e : EngineId) (d : Fin 16) (a : Fin 16), s.Issues e → Gives (.vred e d a) s fun t => s.SetsScalar e d
    (BitVec.ofInt 32 (((List.range 16).map fun l => vlane (s.vreg e a) l).sum)) t) ∧
  (∀ (s : State) (e : EngineId) (d : Fin 16) (a : Fin 16) (lane : Fin 16), s.Issues e → Gives (.vext e d a lane) s fun t =>
    s.SetsScalar e d (BitVec.ofInt 32 (vlane (s.vreg e a) lane)) t)

/-- Each vector instruction sets every lane of its destination as R154 gives it, rounding to nearest with ties away from
zero and saturating to 16 or 40 bits, and leaves every other register, the flags and memory as they were. It follows
R150, R151, R154 in the parts that these sentences say. -/
def Obligations.EngineVector : Prop :=
  (∀ (s : State) (e : EngineId) (d : Fin 16) (a : Fin 16) (b : Fin 16), s.Issues e → Gives (.vadd e d a b) s fun t =>
    s.SetsVector e d (fun l => max (-32768) (min 32767 (vlane (s.vreg e a) l + vlane (s.vreg e b) l))) t) ∧
  (∀ (s : State) (e : EngineId) (d : Fin 16) (a : Fin 16) (b : Fin 16), s.Issues e → Gives (.vsub e d a b) s fun t =>
    s.SetsVector e d (fun l => max (-32768) (min 32767 (vlane (s.vreg e a) l - vlane (s.vreg e b) l))) t) ∧
  (∀ (s : State) (e : EngineId) (d : Fin 16) (a : Fin 16) (b : Fin 16), s.Issues e → Gives (.vmin e d a b) s fun t =>
    s.SetsVector e d (fun l => min (vlane (s.vreg e a) l) (vlane (s.vreg e b) l)) t) ∧
  (∀ (s : State) (e : EngineId) (d : Fin 16) (a : Fin 16) (b : Fin 16), s.Issues e → Gives (.vmax e d a b) s fun t =>
    s.SetsVector e d (fun l => max (vlane (s.vreg e a) l) (vlane (s.vreg e b) l)) t) ∧
  (∀ (s : State) (e : EngineId) (d : Fin 16) (a : Fin 16) (b : Fin 16), s.Issues e → Gives (.vsgn e d a b) s fun t =>
    s.SetsVector e d (fun l => (vlane (s.vreg e a) l).sign * (vlane (s.vreg e b) l).sign) t) ∧
  (∀ (s : State) (e : EngineId) (d : Fin 16) (a : Fin 16) (b : Fin 16) (sh : BitVec 6), s.Issues e → Gives (.vmul e d a b sh)
    s fun t => s.SetsVector e d (fun l => max (-32768) (min 32767 (roundShift (vlane (s.vreg e a) l * vlane (s.vreg e b) l)
    sh.toNat))) t) ∧
  (∀ (s : State) (e : EngineId) (d : Fin 16) (a : Fin 16) (sh : BitVec 6), s.Issues e → Gives (.vshr e d a sh) s fun t =>
    s.SetsVector e d (fun l => roundShift (vlane (s.vreg e a) l) sh.toNat) t) ∧
  (∀ (s : State) (e : EngineId) (d : Fin 16) (a : Fin 16) (sh : BitVec 6), s.Issues e → Gives (.vshl e d a sh) s fun t =>
    s.SetsVector e d (fun l => max (-32768) (min 32767 (vlane (s.vreg e a) l * 2 ^ sh.toNat))) t) ∧
  (∀ (s : State) (e : EngineId) (d : Fin 16) (a : Fin 16) (sh : BitVec 6), s.Issues e → 1 ≤ sh.toNat → sh.toNat ≤ 16 → Gives
    (.vsat e d a sh) s fun t => s.SetsVector e d (fun l => max (-(2 ^ (sh.toNat - 1))) (min (2 ^ (sh.toNat - 1) - 1) (vlane
    (s.vreg e a) l))) t) ∧
  (∀ (s : State) (e : EngineId) (d : Fin 16) (a : Fin 16) (sh : BitVec 6), s.Issues e → (sh = 0 ∨ 16 < sh.toNat) → Gives
    (.vsat e d a sh) s fun t => t.ef e ENG.LE_STAT_FAULT = 1 ∧ t.vreg e d = s.vreg e d ∧ (t.eng e).run = .halted ∧ t.efb e
    ENG.LE_CTL_RUN = false ∧ s.KeepsRegs [engBlk e, Blk.log, Blk.mem] t ∧ s.KeepsUnitsBut (fun u =>
    { u with engines := [], sram := {}, log := {} }) t ∧ s.KeepsRam t) ∧
  (∀ (s : State) (e : EngineId) (d : Fin 16) (a : Fin 16) (b : Fin 16), s.Issues e → Gives (.vand e d a b) s fun t =>
    s.SetsVector e d (fun l => vlane (s.vreg e a &&& s.vreg e b) l) t) ∧
  (∀ (s : State) (e : EngineId) (d : Fin 16) (a : Fin 16), s.Issues e → Gives (.vmov e d a) s fun t => s.SetsVector e d (fun l
    => vlane (s.vreg e a) l) t) ∧
  (∀ (s : State) (e : EngineId) (d : Fin 16) (a : Fin 16), s.Issues e → Gives (.vbc e d a) s fun t => s.SetsVector e d (fun _
    => ((s.scalar e a).setWidth 16).toInt) t) ∧
  (∀ (s : State) (e : EngineId) (d : Fin 16) (b : Fin 16) (lane : Fin 16), s.Issues e → Gives (.vins e d b lane) s fun t =>
    s.SetsVector e d (fun l => if l = lane.val then ((s.scalar e b).setWidth 16).toInt else vlane (s.vreg e d) l) t) ∧
  (∀ (s : State) (e : EngineId) (a : Fin 16) (b : Fin 16) (n : Fin 2), s.Issues e → Gives (.vmac e a b n 0) s fun t =>
    s.SetsAcc e n (fun l => max (-(2 ^ 39)) (min (2 ^ 39 - 1) (accLane (s.acc e n) l + vlane (s.vreg e a) l * vlane (s.vreg
    e b) l))) t) ∧
  (∀ (s : State) (e : EngineId) (a : Fin 16) (b : Fin 16) (n : Fin 2), s.Issues e → Gives (.vmac e a b n 1) s fun t =>
    s.SetsAcc e n (fun l => max (-(2 ^ 39)) (min (2 ^ 39 - 1) (accLane (s.acc e n) l + vlane (s.vreg e a) l * ((s.scalar e
    b).setWidth 16).toInt))) t) ∧
  (∀ (s : State) (e : EngineId) (n : Fin 2), s.Issues e → Gives (.vclr e n) s fun t => s.SetsAcc e n (fun _ => 0) t) ∧
  (∀ (s : State) (e : EngineId) (d : Fin 16) (n : Fin 2) (clr : Fin 2) (sh : BitVec 6), s.Issues e → Gives (.vrda e d n clr
    sh) s fun t => (∀ l : Nat, l < 16 → vlane (t.vreg e d) l = max (-32768) (min 32767 (roundShift (accLane (s.acc e n) l)
    sh.toNat))) ∧ t.acc e n = (if clr = 1 then 0 else s.acc e n) ∧ t.acc e (1 - n) = s.acc e (1 - n) ∧ s.EngRuns [] e
    (engSeq { s.eng e with v := (t.eng e).v, a0 := (t.eng e).a0, a1 := (t.eng e).a1 }) t ∧ t.sram = s.sram)

/-- CMP and CMPI set Z, N, C and V from the difference; BR jumps when its condition holds and goes on otherwise; JAL links
into s15; JR jumps; LOOP starts the loop, or skips past its end for a count of 0; WAIT takes pending events of its mask,
or waits; HALT clears RUN; a word that spells no instruction faults ILLEGAL, a PC outside the bank PC_RANGE, and the
watchdog WATCHDOG. It follows R150, R152, R153, R154, R155, R169 in the parts that these sentences say. -/
def Obligations.EngineControlFlow : Prop :=
  (∀ (s : State) (e : EngineId) (a : Fin 16) (b : Fin 16), s.Issues e → Gives (.cmp e a b) s fun t => s.EngRuns [] e (engSeq
    { s.eng e with z := decide (s.scalar e a = s.scalar e b), n := (s.scalar e a - s.scalar e b).msb, c := decide ((s.scalar e a).toNat < (s.scalar e b).toNat), vf := decide ((s.scalar e a).toInt - (s.scalar e b).toInt < -(2 ^ 31) ∨ 2 ^ 31 ≤ (s.scalar e a).toInt - (s.scalar e b).toInt) })
    t ∧ t.sram = s.sram) ∧
  (∀ (s : State) (e : EngineId) (a : Fin 16) (i : BitVec 18), s.Issues e → Gives (.cmpi e a i) s fun t => s.EngRuns [] e
    (engSeq
    { s.eng e with z := decide (s.scalar e a = i.signExtend 32), n := (s.scalar e a - i.signExtend 32).msb, c := decide ((s.scalar e a).toNat < (i.signExtend 32).toNat), vf := decide ((s.scalar e a).toInt - (i.signExtend 32).toInt < -(2 ^ 31) ∨ 2 ^ 31 ≤ (s.scalar e a).toInt - (i.signExtend 32).toInt) })
    t ∧ t.sram = s.sram) ∧
  (∀ (s : State) (e : EngineId) (cond : Fin 9) (off : BitVec 18), s.Issues e → condHolds (s.eng e) cond = true → Gives (.br e
    cond off) s fun t => s.EngRuns [] e (engJump (s.eng e) (unsignedOf 11 ((s.eng e).pc + off.toInt))) t ∧ t.sram = s.sram) ∧
  (∀ (s : State) (e : EngineId) (cond : Fin 9) (off : BitVec 18), s.Issues e → condHolds (s.eng e) cond = false → Gives (.br e
    cond off) s fun t => s.EngRuns [] e (engSeq (s.eng e)) t ∧ t.sram = s.sram) ∧
  (∀ (s : State) (e : EngineId) (target : BitVec 11), s.Issues e → Gives (.jal e target) s fun t => (t.eng e).pc =
    target.toNat ∧ t.scalar e 15 = BitVec.ofNat 32 ((s.eng e).pc + 1) ∧ s.EngRuns [] e (engJump
    { s.eng e with s := (t.eng e).s } target.toNat) t ∧ t.sram = s.sram) ∧
  (∀ (s : State) (e : EngineId) (a : Fin 16), s.Issues e → Gives (.jr e a) s fun t => s.EngRuns [] e (engJump (s.eng e)
    ((s.scalar e a).toNat % 2048)) t ∧ t.sram = s.sram) ∧
  (∀ (s : State) (e : EngineId) (a : Fin 16) (last : BitVec 11), s.Issues e → ((s.eng e).loop.any fun l => decide (l.2.1 ≤
    (s.eng e).pc) && decide ((s.eng e).pc ≤ l.2.2)) = false → s.scalar e a ≠ 0 → Gives (.loop e a last) s fun t => s.EngRuns
    [] e (engSeq { s.eng e with loop := some ((s.scalar e a).toNat, (s.eng e).pc + 1, last.toNat) }) t ∧ t.sram = s.sram) ∧
  (∀ (s : State) (e : EngineId) (a : Fin 16) (last : BitVec 11), s.Issues e → ((s.eng e).loop.any fun l => decide (l.2.1 ≤
    (s.eng e).pc) && decide ((s.eng e).pc ≤ l.2.2)) = false → s.scalar e a = 0 → Gives (.loop e a last) s fun t => s.EngRuns
    [] e (engJump (s.eng e) ((last.toNat + 1) % 2048)) t ∧ t.sram = s.sram) ∧
  (∀ (s : State) (e : EngineId) (a : Fin 16) (last : BitVec 11), s.Issues e → ((s.eng e).loop.any fun l => decide (l.2.1 ≤
    (s.eng e).pc) && decide ((s.eng e).pc ≤ l.2.2)) = true → Gives (.loop e a last) s fun t => t.ef e ENG.LE_STAT_FAULT = 1
    ∧ t.ef e ENG.LE_FAULT_PC = (s.eng e).pc ∧ (t.eng e).run = .halted ∧ s.KeepsRegs [engBlk e, Blk.log, Blk.mem] t ∧
    s.KeepsUnitsBut (fun u => { u with engines := [], sram := {}, log := {} }) t ∧ s.KeepsRam t) ∧
  (∀ (s : State) (e : EngineId) (d : Fin 16) (mask : BitVec 8), s.Issues e → (s.engPending e &&& (mask.toNat &&& 0x7F)) ≠ 0 →
    Gives (.wait e d mask) s fun t => s.SetsScalar e d (BitVec.ofNat 32 (s.engPending e &&& (mask.toNat &&& 0x7F))) t) ∧
  (∀ (s : State) (e : EngineId) (d : Fin 16) (mask : BitVec 8), s.Issues e → mask ≠ 0 → (s.engPending e &&& (mask.toNat &&&
    0x7F)) = 0 → Gives (.wait e d mask) s fun t => (t.eng e).run = .waiting (mask.toNat &&& 0x7F) d ∧ t.ef e
    ENG.LE_STAT_WAITING = 1 ∧ t.ef e ENG.LE_STAT_RUNNING = 0 ∧ (t.eng e).s = (s.eng e).s ∧ (t.eng e).v = (s.eng e).v ∧
    s.KeepsRegs [engBlk e] t ∧ t.sram = s.sram ∧ s.KeepsUnitsBut (fun u => { u with engines := [] }) t) ∧
  (∀ (s : State) (e : EngineId), s.Issues e → Gives (.halt e) s fun t => (t.eng e).run = .halted ∧ t.efb e ENG.LE_CTL_RUN =
    false ∧ t.ef e ENG.LE_STAT_HALTED = 1 ∧ (t.eng e).pc = (engSeq (s.eng e)).pc ∧ (t.eng e).s = (s.eng e).s ∧ t.ef e
    ENG.LE_STAT_FAULT = s.ef e ENG.LE_STAT_FAULT ∧ s.KeepsRegs [engBlk e] t ∧ t.sram = s.sram ∧ s.KeepsUnitsBut (fun u =>
    { u with engines := [] }) t) ∧
  (∀ (s : State) (e : EngineId) (w : Word), s.Issues e → ucDecode w.toNat = none → Gives (.illegalInstruction e w) s fun t =>
    t.ef e ENG.LE_STAT_FAULT = 1 ∧ t.ef e ENG.LE_FAULT_PC = (s.eng e).pc ∧ t.ef e ENG.LE_FAULT_DETAIL = w.toNat % 65536 ∧
    t.efb e ENG.LE_CTL_RUN = false ∧ (t.eng e).run = .halted ∧ t.efb e ENG.LE_EVT_FAULT = true ∧ (t.eng e).s = (s.eng e).s ∧
    (t.eng e).v = (s.eng e).v ∧ s.KeepsRegs [engBlk e, Blk.log, Blk.mem] t ∧ s.KeepsUnitsBut (fun u =>
    { u with engines := [], sram := {}, log := {} }) t ∧ s.KeepsRam t) ∧
  (∀ (s : State) (e : EngineId) (w : Word), s.engClock e = true → (s.eng e).run = .running → s.pcOk e = false → ucDecode
    w.toNat = none → Gives (.illegalInstruction e w) s fun t => t.ef e ENG.LE_STAT_FAULT = 4 ∧ t.ef e ENG.LE_FAULT_PC =
    (s.eng e).pc ∧ (t.eng e).run = .halted ∧ (t.eng e).s = (s.eng e).s ∧ s.KeepsRegs [engBlk e, Blk.log, Blk.mem] t ∧
    s.KeepsUnitsBut (fun u => { u with engines := [], sram := {}, log := {} }) t ∧ s.KeepsRam t) ∧
  (∀ (s : State) (e : EngineId), s.engClock e = true → (s.eng e).run ≠ .halted → s.ef e ENG.LE_CTL_WDOG ≠ 0 → Gives
    (.engineWatchdog e) s fun t => t.ef e ENG.LE_STAT_FAULT = 6 ∧ t.ef e ENG.LE_FAULT_DETAIL = 0 ∧ t.efb e ENG.LE_CTL_RUN =
    false ∧ (t.eng e).run = .halted ∧ (t.eng e).s = (s.eng e).s ∧ (t.eng e).v = (s.eng e).v ∧ s.KeepsRegs [engBlk e,
    Blk.log, Blk.mem] t ∧ s.KeepsUnitsBut (fun u => { u with engines := [], sram := {}, log := {} }) t ∧ s.KeepsRam t)

/-- A load takes the word, half-word or 32 bytes at sa + sext(imm) of the data SRAM and leaves memory as it was; a store
writes exactly the bytes of its width there; a misaligned address faults ALIGN and one above 0x7FFF RANGE, with no
effect on registers and memory. It follows R152, R154, R337 in the parts that these sentences say. -/
def Obligations.EngineMemory : Prop :=
  (∀ (s : State) (e : EngineId) (d : Fin 16) (a : Fin 16) (i : BitVec 18), s.Issues e → (s.scalar e a + i.signExtend 32).toNat
    % 4 = 0 → (s.scalar e a + i.signExtend 32).toNat ≤ 0x7FFF → SMap.get false s.sram.poison ((dataBase e + (s.scalar e a +
    i.signExtend 32).toNat / 4 * 4) / 4) = false → (s.sramWordRaw ((dataBase e + (s.scalar e a + i.signExtend 32).toNat / 4
    * 4) / 4)).flagged = false → Gives (.lw e d a i) s fun t => t.scalar e d = (if d = 0 then 0 else BitVec.ofNat 32
    (s.sramWordRaw ((dataBase e + (s.scalar e a + i.signExtend 32).toNat / 4 * 4) / 4)).data) ∧ (∀ x : Nat, x < 16 → x ≠
    d.val → t.scalar e x = s.scalar e x) ∧ s.EngRuns [Blk.mem] e (engSeq { s.eng e with s := (t.eng e).s }) t ∧ t.sram =
    s.sram) ∧
  (∀ (s : State) (e : EngineId) (d : Fin 16) (a : Fin 16) (i : BitVec 18), s.Issues e → (s.scalar e a + i.signExtend 32).toNat
    % 2 = 0 → (s.scalar e a + i.signExtend 32).toNat ≤ 0x7FFF → SMap.get false s.sram.poison ((dataBase e + (s.scalar e a +
    i.signExtend 32).toNat / 4 * 4) / 4) = false → (s.sramWordRaw ((dataBase e + (s.scalar e a + i.signExtend 32).toNat / 4
    * 4) / 4)).flagged = false → Gives (.lh e d a i) s fun t => t.scalar e d = (if d = 0 then 0 else ((BitVec.ofNat 32
    (s.sramWordRaw ((dataBase e + (s.scalar e a + i.signExtend 32).toNat / 4 * 4) / 4)).data >>> (8 * ((s.scalar e a +
    i.signExtend 32).toNat % 4))).setWidth 16).signExtend 32) ∧ (∀ x : Nat, x < 16 → x ≠ d.val → t.scalar e x = s.scalar e
    x) ∧ s.EngRuns [Blk.mem] e (engSeq { s.eng e with s := (t.eng e).s }) t ∧ t.sram = s.sram) ∧
  (∀ (s : State) (e : EngineId) (d : Fin 16) (a : Fin 16) (i : BitVec 18), s.Issues e → (s.scalar e a + i.signExtend 32).toNat
    % 2 = 0 → (s.scalar e a + i.signExtend 32).toNat ≤ 0x7FFF → SMap.get false s.sram.poison ((dataBase e + (s.scalar e a +
    i.signExtend 32).toNat / 4 * 4) / 4) = false → (s.sramWordRaw ((dataBase e + (s.scalar e a + i.signExtend 32).toNat / 4
    * 4) / 4)).flagged = false → Gives (.lhu e d a i) s fun t => t.scalar e d = (if d = 0 then 0 else ((BitVec.ofNat 32
    (s.sramWordRaw ((dataBase e + (s.scalar e a + i.signExtend 32).toNat / 4 * 4) / 4)).data >>> (8 * ((s.scalar e a +
    i.signExtend 32).toNat % 4))).setWidth 16).setWidth 32) ∧ (∀ x : Nat, x < 16 → x ≠ d.val → t.scalar e x = s.scalar e x)
    ∧ s.EngRuns [Blk.mem] e (engSeq { s.eng e with s := (t.eng e).s }) t ∧ t.sram = s.sram) ∧
  (∀ (s : State) (e : EngineId) (d : Fin 16) (a : Fin 16) (i : BitVec 18), s.Issues e → (s.scalar e a + i.signExtend 32).toNat
    % 32 = 0 → (s.scalar e a + i.signExtend 32).toNat ≤ 0x7FFF → (∀ k : Nat, k < 8 → SMap.get false s.sram.poison ((dataBase
    e + (s.scalar e a + i.signExtend 32).toNat) / 4 + k) = false ∧ (s.sramWordRaw ((dataBase e + (s.scalar e a +
    i.signExtend 32).toNat) / 4 + k)).flagged = false) → Gives (.vld e d a i) s fun t => (∀ k : Nat, k < 8 → (t.vreg e
    d).toNat / 2 ^ (32 * k) % 2 ^ 32 = (s.sramWordRaw ((dataBase e + (s.scalar e a + i.signExtend 32).toNat) / 4 + k)).data)
    ∧ (∀ x : Nat, x < 16 → x ≠ d.val → t.vreg e x = s.vreg e x) ∧ s.EngRuns [Blk.mem] e (engSeq
    { s.eng e with v := (t.eng e).v }) t ∧ t.sram = s.sram) ∧
  (∀ (s : State) (e : EngineId) (d : Fin 16) (a : Fin 16) (i : BitVec 18), s.Issues e → (s.scalar e a + i.signExtend 32).toNat
    % 4 = 0 → (s.scalar e a + i.signExtend 32).toNat ≤ 0x7FFF → Gives (.sw e d a i) s fun t => s.SramHas (dataBase e +
    (s.scalar e a + i.signExtend 32).toNat) (Codec.leBytes 4 (s.scalar e d).toNat) t ∧ s.EngRuns [Blk.mem] e (engSeq (s.eng
    e)) t) ∧
  (∀ (s : State) (e : EngineId) (d : Fin 16) (a : Fin 16) (i : BitVec 18), s.Issues e → (s.scalar e a + i.signExtend 32).toNat
    % 2 = 0 → (s.scalar e a + i.signExtend 32).toNat ≤ 0x7FFF → Gives (.sh e d a i) s fun t => s.SramHas (dataBase e +
    (s.scalar e a + i.signExtend 32).toNat) (Codec.leBytes 2 (s.scalar e d).toNat) t ∧ s.EngRuns [Blk.mem] e (engSeq (s.eng
    e)) t) ∧
  (∀ (s : State) (e : EngineId) (d : Fin 16) (a : Fin 16) (i : BitVec 18), s.Issues e → (s.scalar e a + i.signExtend 32).toNat
    % 32 = 0 → (s.scalar e a + i.signExtend 32).toNat ≤ 0x7FFF → Gives (.vst e d a i) s fun t => s.SramHas (dataBase e +
    (s.scalar e a + i.signExtend 32).toNat) (Codec.leBytes 32 (s.vreg e d).toNat) t ∧ s.EngRuns [Blk.mem] e (engSeq (s.eng
    e)) t) ∧
  (∀ (s : State) (e : EngineId) (d : Fin 16) (a : Fin 16) (i : BitVec 18), s.Issues e → (s.scalar e a + i.signExtend 32).toNat
    % 4 ≠ 0 → Gives (.lw e d a i) s fun t => t.ef e ENG.LE_STAT_FAULT = 2 ∧ t.ef e ENG.LE_FAULT_DETAIL = (s.scalar e a +
    i.signExtend 32).toNat % 65536 ∧ (t.eng e).run = .halted ∧ (t.eng e).s = (s.eng e).s ∧ (t.eng e).v = (s.eng e).v ∧
    (t.eng e).pc = (s.eng e).pc ∧ (∀ x : Nat, x < 0x8000 → t.sramSeen (dataBase e + x) = s.sramSeen (dataBase e + x)) ∧
    s.KeepsRegs [engBlk e, Blk.log, Blk.mem] t ∧ s.KeepsUnitsBut (fun u => { u with engines := [], sram := {}, log := {} })
    t ∧ s.KeepsRam t) ∧
  (∀ (s : State) (e : EngineId) (d : Fin 16) (a : Fin 16) (i : BitVec 18), s.Issues e → (s.scalar e a + i.signExtend 32).toNat
    % 2 ≠ 0 → Gives (.lh e d a i) s fun t => t.ef e ENG.LE_STAT_FAULT = 2 ∧ t.ef e ENG.LE_FAULT_DETAIL = (s.scalar e a +
    i.signExtend 32).toNat % 65536 ∧ (t.eng e).run = .halted ∧ (t.eng e).s = (s.eng e).s ∧ (t.eng e).v = (s.eng e).v ∧
    (t.eng e).pc = (s.eng e).pc ∧ (∀ x : Nat, x < 0x8000 → t.sramSeen (dataBase e + x) = s.sramSeen (dataBase e + x)) ∧
    s.KeepsRegs [engBlk e, Blk.log, Blk.mem] t ∧ s.KeepsUnitsBut (fun u => { u with engines := [], sram := {}, log := {} })
    t ∧ s.KeepsRam t) ∧
  (∀ (s : State) (e : EngineId) (d : Fin 16) (a : Fin 16) (i : BitVec 18), s.Issues e → (s.scalar e a + i.signExtend 32).toNat
    % 2 ≠ 0 → Gives (.lhu e d a i) s fun t => t.ef e ENG.LE_STAT_FAULT = 2 ∧ t.ef e ENG.LE_FAULT_DETAIL = (s.scalar e a +
    i.signExtend 32).toNat % 65536 ∧ (t.eng e).run = .halted ∧ (t.eng e).s = (s.eng e).s ∧ (t.eng e).v = (s.eng e).v ∧
    (t.eng e).pc = (s.eng e).pc ∧ (∀ x : Nat, x < 0x8000 → t.sramSeen (dataBase e + x) = s.sramSeen (dataBase e + x)) ∧
    s.KeepsRegs [engBlk e, Blk.log, Blk.mem] t ∧ s.KeepsUnitsBut (fun u => { u with engines := [], sram := {}, log := {} })
    t ∧ s.KeepsRam t) ∧
  (∀ (s : State) (e : EngineId) (d : Fin 16) (a : Fin 16) (i : BitVec 18), s.Issues e → (s.scalar e a + i.signExtend 32).toNat
    % 4 ≠ 0 → Gives (.sw e d a i) s fun t => t.ef e ENG.LE_STAT_FAULT = 2 ∧ t.ef e ENG.LE_FAULT_DETAIL = (s.scalar e a +
    i.signExtend 32).toNat % 65536 ∧ (t.eng e).run = .halted ∧ (t.eng e).s = (s.eng e).s ∧ (t.eng e).v = (s.eng e).v ∧
    (t.eng e).pc = (s.eng e).pc ∧ (∀ x : Nat, x < 0x8000 → t.sramSeen (dataBase e + x) = s.sramSeen (dataBase e + x)) ∧
    s.KeepsRegs [engBlk e, Blk.log, Blk.mem] t ∧ s.KeepsUnitsBut (fun u => { u with engines := [], sram := {}, log := {} })
    t) ∧
  (∀ (s : State) (e : EngineId) (d : Fin 16) (a : Fin 16) (i : BitVec 18), s.Issues e → (s.scalar e a + i.signExtend 32).toNat
    % 2 ≠ 0 → Gives (.sh e d a i) s fun t => t.ef e ENG.LE_STAT_FAULT = 2 ∧ t.ef e ENG.LE_FAULT_DETAIL = (s.scalar e a +
    i.signExtend 32).toNat % 65536 ∧ (t.eng e).run = .halted ∧ (t.eng e).s = (s.eng e).s ∧ (t.eng e).v = (s.eng e).v ∧
    (t.eng e).pc = (s.eng e).pc ∧ (∀ x : Nat, x < 0x8000 → t.sramSeen (dataBase e + x) = s.sramSeen (dataBase e + x)) ∧
    s.KeepsRegs [engBlk e, Blk.log, Blk.mem] t ∧ s.KeepsUnitsBut (fun u => { u with engines := [], sram := {}, log := {} })
    t) ∧
  (∀ (s : State) (e : EngineId) (d : Fin 16) (a : Fin 16) (i : BitVec 18), s.Issues e → (s.scalar e a + i.signExtend 32).toNat
    % 32 ≠ 0 → Gives (.vld e d a i) s fun t => t.ef e ENG.LE_STAT_FAULT = 2 ∧ t.ef e ENG.LE_FAULT_DETAIL = (s.scalar e a +
    i.signExtend 32).toNat % 65536 ∧ (t.eng e).run = .halted ∧ (t.eng e).s = (s.eng e).s ∧ (t.eng e).v = (s.eng e).v ∧
    (t.eng e).pc = (s.eng e).pc ∧ (∀ x : Nat, x < 0x8000 → t.sramSeen (dataBase e + x) = s.sramSeen (dataBase e + x)) ∧
    s.KeepsRegs [engBlk e, Blk.log, Blk.mem] t ∧ s.KeepsUnitsBut (fun u => { u with engines := [], sram := {}, log := {} })
    t ∧ s.KeepsRam t) ∧
  (∀ (s : State) (e : EngineId) (d : Fin 16) (a : Fin 16) (i : BitVec 18), s.Issues e → (s.scalar e a + i.signExtend 32).toNat
    % 32 ≠ 0 → Gives (.vst e d a i) s fun t => t.ef e ENG.LE_STAT_FAULT = 2 ∧ t.ef e ENG.LE_FAULT_DETAIL = (s.scalar e a +
    i.signExtend 32).toNat % 65536 ∧ (t.eng e).run = .halted ∧ (t.eng e).s = (s.eng e).s ∧ (t.eng e).v = (s.eng e).v ∧
    (t.eng e).pc = (s.eng e).pc ∧ (∀ x : Nat, x < 0x8000 → t.sramSeen (dataBase e + x) = s.sramSeen (dataBase e + x)) ∧
    s.KeepsRegs [engBlk e, Blk.log, Blk.mem] t ∧ s.KeepsUnitsBut (fun u => { u with engines := [], sram := {}, log := {} })
    t) ∧
  (∀ (s : State) (e : EngineId) (d : Fin 16) (a : Fin 16) (i : BitVec 18), s.Issues e → (s.scalar e a + i.signExtend 32).toNat
    % 4 = 0 → 0x7FFF < (s.scalar e a + i.signExtend 32).toNat → Gives (.lw e d a i) s fun t => t.ef e ENG.LE_STAT_FAULT = 3
    ∧ t.ef e ENG.LE_FAULT_DETAIL = (s.scalar e a + i.signExtend 32).toNat % 65536 ∧ (t.eng e).run = .halted ∧ (t.eng e).s =
    (s.eng e).s ∧ (t.eng e).v = (s.eng e).v ∧ (t.eng e).pc = (s.eng e).pc ∧ (∀ x : Nat, x < 0x8000 → t.sramSeen (dataBase e
    + x) = s.sramSeen (dataBase e + x)) ∧ s.KeepsRegs [engBlk e, Blk.log, Blk.mem] t ∧ s.KeepsUnitsBut (fun u =>
    { u with engines := [], sram := {}, log := {} }) t ∧ s.KeepsRam t) ∧
  (∀ (s : State) (e : EngineId) (d : Fin 16) (a : Fin 16) (i : BitVec 18), s.Issues e → (s.scalar e a + i.signExtend 32).toNat
    % 4 = 0 → 0x7FFF < (s.scalar e a + i.signExtend 32).toNat → Gives (.sw e d a i) s fun t => t.ef e ENG.LE_STAT_FAULT = 3
    ∧ t.ef e ENG.LE_FAULT_DETAIL = (s.scalar e a + i.signExtend 32).toNat % 65536 ∧ (t.eng e).run = .halted ∧ (t.eng e).s =
    (s.eng e).s ∧ (t.eng e).v = (s.eng e).v ∧ (t.eng e).pc = (s.eng e).pc ∧ (∀ x : Nat, x < 0x8000 → t.sramSeen (dataBase e
    + x) = s.sramSeen (dataBase e + x)) ∧ s.KeepsRegs [engBlk e, Blk.log, Blk.mem] t ∧ s.KeepsUnitsBut (fun u =>
    { u with engines := [], sram := {}, log := {} }) t) ∧
  (∀ (s : State) (e : EngineId) (d : Fin 16) (a : Fin 16) (i : BitVec 18), s.Issues e → (s.scalar e a + i.signExtend 32).toNat
    % 32 = 0 → 0x7FFF < (s.scalar e a + i.signExtend 32).toNat → Gives (.vst e d a i) s fun t => t.ef e ENG.LE_STAT_FAULT =
    3 ∧ t.ef e ENG.LE_FAULT_DETAIL = (s.scalar e a + i.signExtend 32).toNat % 65536 ∧ (t.eng e).run = .halted ∧ (t.eng e).s
    = (s.eng e).s ∧ (t.eng e).v = (s.eng e).v ∧ (t.eng e).pc = (s.eng e).pc ∧ (∀ x : Nat, x < 0x8000 → t.sramSeen (dataBase
    e + x) = s.sramSeen (dataBase e + x)) ∧ s.KeepsRegs [engBlk e, Blk.log, Blk.mem] t ∧ s.KeepsUnitsBut (fun u =>
    { u with engines := [], sram := {}, log := {} }) t)

/-- PRD and VLDP read primitive words, with 0 and P = 1 for a refused one; PWR and VSTP write them, and an address that is
not listed sets P and has no effect; a write of PD_OUT, PHOFS_STEP, GA_STAT, HIST_CTL, TIMER_CMP, SLOT_MAP, TX_SWAP and
RX_SWAP does what R157 to R162 state. It follows R156, R157, R158, R159, R160, R161, R162, R169 in the parts that these
sentences say. -/
def Obligations.EnginePrimitives : Prop :=
  (∀ (s : State) (e : EngineId) (d : Fin 16) (a : Fin 16) (addr : BitVec 16), s.Issues e → (s.scalar e a + BitVec.ofNat 32
    addr.toNat).toNat ≠ 0x810 → Gives (.prd e d a addr) s fun t => t.scalar e d = (if d = 0 then 0 else (s.primPeek e
    (s.scalar e a + BitVec.ofNat 32 addr.toNat).toNat).getD 0) ∧ (∀ x : Nat, x < 16 → x ≠ d.val → t.scalar e x = s.scalar e
    x) ∧ (t.eng e).p = (s.primPeek e (s.scalar e a + BitVec.ofNat 32 addr.toNat).toNat).isNone ∧ s.EngRuns [] e (engSeq
    { s.eng e with s := (t.eng e).s, p := (t.eng e).p }) t ∧ t.sram = s.sram) ∧
  (∀ (s : State) (e : EngineId) (d : Fin 16) (a : Fin 16) (addr : BitVec 16), s.Issues e → 0x1900 ≤ (s.scalar e a +
    BitVec.ofNat 32 addr.toNat).toNat → Gives (.prd e d a addr) s fun t => t.scalar e d = 0 ∧ (t.eng e).p = true ∧ s.EngRuns
    [] e (engSeq { s.eng e with s := (t.eng e).s, p := (t.eng e).p }) t ∧ t.sram = s.sram) ∧
  (∀ (s : State) (e : EngineId) (d : Fin 16) (a : Fin 16) (addr : BitVec 16), s.Issues e → 0x1900 ≤ (s.scalar e a +
    BitVec.ofNat 32 addr.toNat).toNat → Gives (.pwr e d a addr) s fun t => s.EngRuns [] e (engSeq
    { s.eng e with p := true }) t ∧ t.sram = s.sram) ∧
  (∀ (s : State) (e : EngineId) (d : Fin 16) (a : Fin 16) (addr : BitVec 16), s.Issues e → (s.scalar e a + BitVec.ofNat 32
    addr.toNat).toNat = 0x1803 → Gives (.pwr e d a addr) s fun t => s.EngRuns [] e (engSeq
    { s.eng e with rsp0 := s.scalar e d, p := false }) t ∧ t.sram = s.sram) ∧
  (∀ (s : State) (e : EngineId) (d : Fin 16) (a : Fin 16) (addr : BitVec 16), s.Issues e → 0x1000 ≤ (s.scalar e a +
    BitVec.ofNat 32 addr.toNat).toNat → (s.scalar e a + BitVec.ofNat 32 addr.toNat).toNat < 0x1400 → Gives (.vldp e d a
    addr) s fun t => (∀ l : Nat, l < 16 → vlane (t.vreg e d) l = max (-32768) (min 32767 ((s.primPeek e ((s.scalar e a +
    BitVec.ofNat 32 addr.toNat).toNat + l)).getD 0).toInt)) ∧ (t.eng e).p = (List.range 16).any (fun l => (s.primPeek e
    ((s.scalar e a + BitVec.ofNat 32 addr.toNat).toNat + l)).isNone) ∧ s.EngRuns [] e (engSeq
    { s.eng e with v := (t.eng e).v, p := (t.eng e).p }) t ∧ t.sram = s.sram) ∧
  (∀ (s : State) (e : EngineId) (d : Fin 16) (a : Fin 16) (addr : BitVec 16), s.Issues e → 0x1900 ≤ (s.scalar e a +
    BitVec.ofNat 32 addr.toNat).toNat → (s.scalar e a + BitVec.ofNat 32 addr.toNat).toNat < 0x10000 → Gives (.vstp e d a
    addr) s fun t => s.EngRuns [] e (engSeq { s.eng e with p := true }) t ∧ t.sram = s.sram) ∧
  (∀ (s : State) (e : EngineId) (v : Word), s.engClock e = true → e.val < 17 → Gives (.pdOut e v) s fun t => t.prim e =
    { s.prim e with pdOut := some (v.truncate 16) } ∧ (t.eng e).p = false ∧ t.lane e = s.lane e ∧ s.KeepsRegs [] t ∧
    s.KeepsUnitsBut (fun u => { u with engines := [], prims := [] }) t) ∧
  (∀ (s : State) (e : EngineId) (v : Word), s.engClock e = true → e.val < 17 → Gives (.phofsStep e v) s fun t => t.f
    (Blk.llane e) LLANE.CDR_STAT_PHASE = unsignedOf 8 (signed 8 v.toNat + (s.f (Blk.llane e) LLANE.CDR_STAT_PHASE : Int)) ∧
    (t.eng e).p = false ∧ s.KeepsRegs [Blk.llane e] t ∧ s.KeepsBlk (Blk.llane e) [LLANE.CDR_STAT] t ∧ s.KeepsUnitsBut (fun u
    => { u with engines := [] }) t) ∧
  (∀ (s : State) (e : EngineId) (v : Word), s.engClock e = true → e.val < 17 → v.getLsbD 0 = true → Gives (.gaAck e v) s fun t
    => (t.prim e).gaReady = false ∧ (t.prim e).gaOverrun = ((s.prim e).gaOverrun && !v.getLsbD 1) ∧ (t.prim e).gaSeq =
    (s.prim e).gaSeq ∧ (t.eng e).p = false ∧ s.KeepsRegs [] t ∧ s.KeepsUnitsBut (fun u =>
    { u with engines := [], prims := [] }) t) ∧
  (∀ (s : State) (e : EngineId) (v : Word), s.engClock e = true → e.val < 17 → v.toNat % 4 ≠ 3 → Gives (.histStart e v) s fun
    t => (t.prim e).histBusy = true ∧ (t.prim e).histDone = false ∧ (t.prim e).hist = [] ∧ (t.prim e).histSrc = v.toNat % 4
    ∧ (t.eng e).p = false ∧ s.KeepsRegs [] t ∧ s.KeepsUnitsBut (fun u => { u with engines := [], prims := [] }) t) ∧
  (∀ (s : State) (e : EngineId) (v : Word), s.engClock e = true → e.val < 17 → v.toNat % 4 = 3 → Gives (.histStart e v) s fun
    t => t.prim e = s.prim e ∧ (t.eng e).p = true ∧ s.KeepsRegs [] t ∧ s.KeepsUnitsBut (fun u => { u with engines := [] })
    t) ∧
  (∀ (s : State) (e : EngineId) (v : Word), s.engClock e = true → Gives (.timerCmp e v) s fun t => (t.eng e).timerCmp = v ∧
    (t.eng e).timerHit = false ∧ (t.eng e).p = false ∧ s.KeepsRegs [] t ∧ s.KeepsUnitsBut (fun u =>
    { u with engines := [] }) t) ∧
  (∀ (s : State) (e : EngineId), s.engClock e = true → (s.eng e).run = .running → Gives (.timerMatch e) s fun t => (t.eng
    e).timerHit = true ∧ (t.eng e).timer = (s.eng e).timerCmp.toNat ∧ (t.eng e).run = .running ∧ s.KeepsRegs [] t ∧
    s.KeepsUnitsBut (fun u => { u with engines := [] }) t) ∧
  (∀ (s : State) (e : EngineId), s.engClock e = true → (s.eng e).run = .waiting 16 3 → s.engPending e &&& 16 = 0 → (s.eng
    e).timerHit = false → Gives (.timerMatch e) s fun t => (t.eng e).run = .running ∧ t.scalar e 3 = 16 ∧ t.ef e
    ENG.LE_STAT_WAITING = 0 ∧ t.ef e ENG.LE_STAT_RUNNING = 1 ∧ s.KeepsRegs [engBlk e] t ∧ s.KeepsUnitsBut (fun u =>
    { u with engines := [] }) t) ∧
  (∀ (s : State) (e : EngineId) (v : Word), s.engClock e = true → e.val < 17 → (activeSlots (s.f (Blk.llane e)
    LLANE.RX_CTL_RATE) ≤ v.toNat % 128 ∨ 136 ≤ v.toNat / 256 % 256 ∨ s.subUsable e (v.toNat / 256 % 256) = false ∨
    s.subSlotted e (v.toNat / 256 % 256) = true) → Gives (.slotMap e v) s fun t => (t.lane e).slot = (s.lane e).slot ∧
    (t.eng e).p = true ∧ s.KeepsRegs [] t ∧ s.KeepsUnitsBut (fun u => { u with engines := [] }) t) ∧
  (∀ (s : State) (e : EngineId) (v : Word), s.engClock e = true → e.val < 17 → ¬ (activeSlots (s.f (Blk.llane e)
    LLANE.RX_CTL_RATE) ≤ v.toNat % 128 ∨ 136 ≤ v.toNat / 256 % 256 ∨ s.subUsable e (v.toNat / 256 % 256) = false ∨
    s.subSlotted e (v.toNat / 256 % 256) = true) → (s.lane e).eyeSpare = none → (s.lane e).bg = none → Gives (.slotMap e v)
    s fun t => SMap.get? (t.lane e).slot (v.toNat % 128) = some (v.toNat / 256 % 256) ∧ (t.eng e).p = false ∧ s.KeepsRegs []
    t ∧ s.KeepsUnitsBut (fun u => { u with line := [], engines := [] }) t) ∧
  (∀ (s : State) (e : EngineId) (v : Word), s.engClock e = true → e.val < 17 → s.f (Blk.llane e) LLANE.TX_EQ_STAT_IN_USE ≤ 1 →
    Gives (.txSwap e v) s fun t => t.f (Blk.llane e) LLANE.TX_EQ_STAT_IN_USE = 1 - s.f (Blk.llane e) LLANE.TX_EQ_STAT_IN_USE
    ∧ t.f (Blk.llane e) LLANE.TX_EQ_CTL_BANK = 1 - s.f (Blk.llane e) LLANE.TX_EQ_STAT_IN_USE ∧ (t.eng e).p = false ∧
    s.KeepsRegs [Blk.llane e] t ∧ s.KeepsBlk (Blk.llane e) [LLANE.TX_EQ_CTL, LLANE.TX_EQ_STAT] t ∧ s.KeepsUnitsBut (fun u =>
    { u with engines := [] }) t) ∧
  (∀ (s : State) (e : EngineId) (v : Word), s.engClock e = true → e.val < 17 → s.eqPair1 e (s.rxInactive e) (s.f (Blk.llane e)
    LLANE.EQ_CTL_TAPS) = true → s.f (Blk.llane e) LLANE.EQ_STAT_IN_USE ≤ 1 → Gives (.rxSwap e v) s fun t => t.f (Blk.llane
    e) LLANE.EQ_STAT_IN_USE = 1 - s.f (Blk.llane e) LLANE.EQ_STAT_IN_USE ∧ t.f (Blk.llane e) LLANE.EQ_CTL_BANK = 1 - s.f
    (Blk.llane e) LLANE.EQ_STAT_IN_USE ∧ (t.eng e).p = false ∧ s.KeepsRegs [engBlk e, Blk.tsu, Blk.llane e] t ∧
    s.KeepsUnitsBut (fun u => { u with engines := [], laneTsu := [] }) t) ∧
  (∀ (s : State) (e : EngineId) (v : Word), s.engClock e = true → e.val < 17 → s.eqPair1 e (s.rxInactive e) (s.f (Blk.llane e)
    LLANE.EQ_CTL_TAPS) = false → Gives (.rxSwap e v) s fun t => t.f (Blk.llane e) LLANE.EQ_STAT_IN_USE = s.f (Blk.llane e)
    LLANE.EQ_STAT_IN_USE ∧ t.f (Blk.llane e) LLANE.EQ_CTL_BANK = s.f (Blk.llane e) LLANE.EQ_CTL_BANK ∧ t.f (Blk.llane e)
    HDR.BLK_STAT_PAIR_MISMATCH = 1 ∧ t.f (Blk.llane e) HDR.BLK_STAT_PAIR_ID = 1 ∧ (t.eng e).p = true ∧ s.KeepsRegs
    [Blk.llane e] t ∧ s.KeepsUnitsBut (fun u => { u with engines := [] }) t) ∧
  (∀ (s : State) (e : EngineId) (v : Word), s.engClock e = true → 17 ≤ e.val → s.hostState (s.hostSelected e) = 6 → Gives
    (.trnReq e v) s fun t => t.out = .training (s.hostSelected e) (bitsOf v.toNat 0 3) (bitsOf v.toNat 4 6) :: s.out ∧
    (t.eng e).p = false ∧ s.KeepsRegs [] t ∧ s.KeepsUnitsBut (fun u => { u with engines := [] }) t) ∧
  (∀ (s : State) (e : EngineId) (v : Word), s.engClock e = true → 17 ≤ e.val → s.hostState (s.hostSelected e) ≠ 6 → Gives
    (.trnReq e v) s fun t => t.out = s.out ∧ (t.eng e).p = true ∧ s.KeepsRegs [] t ∧ s.KeepsUnitsBut (fun u =>
    { u with engines := [] }) t) ∧
  (∀ (s : State) (e : EngineId) (v : Word), s.engClock e = true → 17 ≤ e.val → s.hostState (s.hostSelected e) = 6 → v.getLsbD
    0 = false → Gives (.trnReady e v) s fun t => t.f (Blk.hlane (s.hostSelected e)) HLANE.TRN_STAT_LOCAL_READY = 0 ∧ (t.eng
    e).p = false ∧ s.KeepsRegs ([engBlk e] ++ Blk.hosts) t ∧ s.KeepsUnitsBut (fun u => { u with engines := [] }) t) ∧
  (∀ (s : State) (e : EngineId) (v : Word), s.engClock e = true → 17 ≤ e.val → s.hostState (s.hostSelected e) ≠ 6 → Gives
    (.trnReady e v) s fun t => t.f (Blk.hlane (s.hostSelected e)) HLANE.TRN_STAT_LOCAL_READY = s.f (Blk.hlane
    (s.hostSelected e)) HLANE.TRN_STAT_LOCAL_READY ∧ (t.eng e).p = true ∧ s.KeepsRegs [] t ∧ s.KeepsUnitsBut (fun u =>
    { u with engines := [] }) t) ∧
  (∀ (s : State) (n : Fin 17) (bins : List (Fin 256 × Nat)), (s.prim n).histBusy = true → Gives (.histDone (.line n) bins) s
    fun t => (t.prim n).histBusy = false ∧ (t.prim n).histDone = true ∧ (t.prim n).gaReady = (s.prim n).gaReady ∧ (bins = []
    → (t.prim n).hist = []) ∧ s.KeepsRegs [] t ∧ s.KeepsUnitsBut (fun u => { u with prims := [] }) t) ∧
  (∀ (s : State) (n : Fin 17) (sums : List (Fin 144 × Int)), (s.prim n).gaEn = true → s.rxRuns n = true → (s.prim n).gaCount +
    (s.prim n).gaSkip < 16 → Gives (.gaWindowEnd (.line n) sums) s fun t => (t.prim n).gaReady = true ∧ (t.prim n).gaSeq =
    ((s.prim n).gaSeq + 1) % 2 ^ 16 ∧ (t.prim n).gaOverrun = ((s.prim n).gaOverrun || (s.prim n).gaReady) ∧ ((s.prim
    n).gaReady = true → t.efb n ENG.LE_EVT_GA_OVERRUN = true) ∧ ((s.prim n).gaReady = false → s.KeepsRegs [] t) ∧
    s.KeepsUnitsBut (fun u => { u with prims := [] }) t) ∧
  (∀ (s : State) (n : Fin 17) (sums : List (Fin 144 × Int)), (s.prim n).gaEn = false → Gives (.gaWindowEnd (.line n) sums) s
    fun t => t.prim n = s.prim n ∧ s.KeepsRegs [] t ∧ s.KeepsUnits t)

/-- A command written while BUSY = 0 sets BUSY and leaves DONE, one written while BUSY = 1 sets OVERRUN; MBX_DONE copies the
responses, the error and the tag, clears BUSY and sets DONE; MBX_NOTE shows its code; PWR_RSP answers the pending
request. It follows R168, R171 in the parts that these sentences say. -/
def Obligations.EngineMailbox : Prop :=
  (∀ (s : State) (q : Requester) (e : EngineId) (v : Word), s.Serves q (engBlk e) true → s.efb e ENG.MBX_STAT_BUSY = false →
    Gives (.mbxCmd q e v) s fun t => t.ef e ENG.MBX_STAT_BUSY = 1 ∧ t.ef e ENG.MBX_STAT_DONE = s.ef e ENG.MBX_STAT_DONE ∧
    t.ef e ENG.MBX_CMD_CMD = v.toNat % 256 ∧ t.ef e ENG.MBX_CMD_TAG = v.toNat / 256 % 256 ∧ s.engPending e &&& 8 = 0 ∧
    t.engPending e &&& 8 = 8 ∧ s.KeepsRegs [engBlk e] t ∧ s.KeepsBlk (engBlk e) [ENG.MBX_CMD (engBase e), ENG.MBX_STAT
    (engBase e)] t ∧ s.KeepsUnits t) ∧
  (∀ (s : State) (q : Requester) (e : EngineId) (v : Word), s.Serves q (engBlk e) true → s.efb e ENG.MBX_STAT_BUSY = true →
    Gives (.mbxCmd q e v) s fun t => t.ef e ENG.MBX_STAT_BUSY = 1 ∧ t.ef e ENG.MBX_STAT_OVERRUN = 1 ∧ t.reg (engBlk e)
    (ENG.MBX_CMD (engBase e)) = s.reg (engBlk e) (ENG.MBX_CMD (engBase e)) ∧ s.KeepsRegs [engBlk e] t ∧ s.KeepsBlk (engBlk
    e) [ENG.MBX_STAT (engBase e)] t ∧ s.KeepsUnits t) ∧
  (∀ (s : State) (e : EngineId) (v : Word), s.engClock e = true → s.efb e ENG.MBX_STAT_BUSY = true → Gives (.mbxDone e v) s
    fun t => t.reg (engBlk e) (ENG.MBX_RSP0 (engBase e)) = (s.eng e).rsp0 ∧ t.reg (engBlk e) (ENG.MBX_RSP1 (engBase e)) =
    (s.eng e).rsp1 ∧ t.ef e ENG.MBX_STAT_ERR = v.toNat % 16 ∧ t.ef e ENG.MBX_STAT_TAG = s.ef e ENG.MBX_CMD_TAG ∧ t.efb e
    ENG.MBX_STAT_BUSY = false ∧ t.ef e ENG.MBX_STAT_DONE = 1 ∧ t.ef e ENG.MBX_STAT_NOTE = s.ef e ENG.MBX_STAT_NOTE ∧ t.efb e
    ENG.LE_EVT_MBX_DONE = true ∧ (t.eng e).p = false ∧ s.KeepsRegs [engBlk e] t ∧ s.KeepsUnitsBut (fun u =>
    { u with engines := [] }) t) ∧
  (∀ (s : State) (e : EngineId) (v : Word), s.engClock e = true → s.efb e ENG.MBX_STAT_BUSY = false → Gives (.mbxDone e v) s
    fun t => (t.eng e).p = false ∧ s.KeepsRegs [] t ∧ s.KeepsUnitsBut (fun u => { u with engines := [] }) t) ∧
  (∀ (s : State) (e : EngineId) (v : Word), s.engClock e = true → Gives (.mbxNote e v) s fun t => t.ef e ENG.MBX_STAT_NOTE =
    v.toNat % 256 ∧ t.efb e ENG.LE_EVT_MBX_NOTE = true ∧ t.efb e ENG.MBX_STAT_BUSY = s.efb e ENG.MBX_STAT_BUSY ∧ (t.eng e).p
    = false ∧ s.KeepsRegs [engBlk e] t ∧ s.KeepsUnitsBut (fun u => { u with engines := [] }) t) ∧
  (∀ (s : State) (e : EngineId) (v : Word), s.engClock e = true → Gives (.pwrRsp e v) s fun t => (t.eng e).pwrAnswer = some
    (v.toNat % 4, v.toNat / 256 % 256) ∧ (t.eng e).pwrPending = false ∧ (t.eng e).p = false ∧ s.KeepsRegs [] t ∧
    s.KeepsUnitsBut (fun u => { u with engines := [] }) t)

/-- RUN from 0 to 1 starts the engine at word 0 with the flags and the loop cleared and the registers kept; STEP at a PC
outside the bank faults; a microcode word is stored and takes VALID, or is refused from a requester that R164 does not
admit; SEAL starts sealing, its end records VALID, LEN and the version; INVALIDATE clears VALID and is refused for the
bank in use; a swap starts the new bank at word 0 and keeps the registers. It follows R153, R164, R165, R167 in the
parts that these sentences say. -/
def Obligations.EngineBanks : Prop :=
  (∀ (s : State) (q : Requester) (e : EngineId), s.Serves q (engBlk e) true → s.staged (engBlk e) = false → s.efb e
    ENG.LE_CTL_RUN = false → s.ef e ENG.LE_CTL_BANK = s.ef e ENG.LE_STAT_BANK_IN_USE → Gives (.engineRun q e) s fun t =>
    (t.eng e).run = .running ∧ (t.eng e).pc = 0 ∧ (t.eng e).loop = none ∧ ((t.eng e).z || (t.eng e).n || (t.eng e).c ||
    (t.eng e).vf || (t.eng e).p) = false ∧ (t.eng e).s = (s.eng e).s ∧ (t.eng e).v = (s.eng e).v ∧ (t.eng e).a0 = (s.eng
    e).a0 ∧ t.efb e ENG.LE_CTL_RUN = true ∧ t.ef e ENG.LE_STAT_RUNNING = 1 ∧ t.ef e ENG.LE_STAT_FAULT = 0 ∧ t.sram = s.sram
    ∧ s.KeepsRegs [engBlk e] t ∧ s.KeepsUnitsBut (fun u =>
    { u with line := [], host := [], engines := [], prims := [], sram := {}, laneTsu := [], sched := {}, twin := {}, log := {} })
    t ∧ s.KeepsRam t) ∧
  (∀ (s : State) (q : Requester) (e : EngineId), s.Serves q (engBlk e) true → s.staged (engBlk e) = false → s.engClock e =
    true → s.efb e ENG.LE_CTL_RUN = false → (s.eng e).run = .halted → s.pcOk e = false → s.ef e ENG.LE_CTL_BANK = s.ef e
    ENG.LE_STAT_BANK_IN_USE → Gives (.engineStep q e) s fun t => t.ef e ENG.LE_STAT_FAULT = 4 ∧ t.ef e ENG.LE_FAULT_PC =
    (s.eng e).pc % 2048 ∧ (t.eng e).run = .halted ∧ (t.eng e).s = (s.eng e).s ∧ (t.eng e).v = (s.eng e).v ∧ s.KeepsRegs
    [engBlk e, Blk.log, Blk.mem] t ∧ s.KeepsUnitsBut (fun u =>
    { u with line := [], host := [], engines := [], prims := [], sram := {}, laneTsu := [], sched := {}, twin := {}, log := {} })
    t ∧ s.KeepsRam t) ∧
  (∀ (s : State) (q : Requester) (e : EngineId) (v : Word), s.Serves q (engBlk e) true → s.ucAllowed q = true → s.bankInUse e
    (s.ef e ENG.UC_ADDR_BANK) = false → s.bankNamed e (s.ef e ENG.UC_ADDR_BANK) = false → Gives (.ucDataWrite q e v) s fun t
    => s.SramHas (ucBase e (s.ef e ENG.UC_ADDR_BANK) + 4 * s.ef e ENG.UC_ADDR_WORD) (Codec.leBytes 4 v.toNat) t ∧
    t.bankValid e (s.ef e ENG.UC_ADDR_BANK) = false ∧ t.ef e ENG.UC_ADDR_WORD = (if s.efb e ENG.UC_ADDR_AUTO_INC then (s.ef
    e ENG.UC_ADDR_WORD + 1) % 2048 else s.ef e ENG.UC_ADDR_WORD) ∧ t.eng e = s.eng e ∧ s.KeepsRegs [engBlk e, Blk.mem] t ∧
    s.KeepsUnitsBut (fun u => { u with sram := {} }) t) ∧
  (∀ (s : State) (q : Requester) (e : EngineId) (v : Word), s.Serves q (engBlk e) true → s.bankInUse e (s.ef e
    ENG.UC_ADDR_BANK) = true → s.ucAllowed q = true → Gives (.ucDataWrite q e v) s fun t => t.efb e ENG.LE_EVT_UC_REFUSED =
    true ∧ t.sram = s.sram ∧ t.eng e = s.eng e ∧ t.bankValid e (s.ef e ENG.UC_ADDR_BANK) = true ∧ s.KeepsRegs [engBlk e] t ∧
    s.KeepsUnitsBut (fun u => { u with sram := {} }) t) ∧
  (∀ (s : State) (q : Requester) (e : EngineId) (v : Word), s.Serves q (engBlk e) true → s.ucAllowed q = false → Gives
    (.ucDataWrite q e v) s fun t => t.efb e ENG.LE_EVT_UC_REFUSED = true ∧ t.sram = s.sram ∧ t.eng e = s.eng e ∧ s.KeepsRegs
    [engBlk e, Blk.dbg] t ∧ s.KeepsUnitsBut (fun u => { u with sram := {} }) t) ∧
  (∀ (s : State) (q : Requester) (e : EngineId) (bank : Fin 2) (len : BitVec 12), s.Serves q (engBlk e) true → s.ucAllowed q =
    true → s.bankInUse e bank = false → s.bankNamed e bank = false → 1 ≤ len.toNat → len.toNat ≤ 2048 → (s.eng e).sealing =
    none → Gives (.ucSeal q e bank len) s fun t => (t.eng e).sealing = some (bank.val, len.toNat) ∧ t.efb e (bankFields
    bank).2.1 = true ∧ t.sram = s.sram ∧ s.KeepsRegs [engBlk e] t ∧ s.KeepsUnitsBut (fun u => { u with engines := [] }) t) ∧
  (∀ (s : State) (q : Requester) (e : EngineId) (bank : Fin 2) (len : BitVec 12), s.Serves q (engBlk e) true → (s.bankInUse e
    bank = true ∨ len = 0 ∨ 2048 < len.toNat) → Gives (.ucSeal q e bank len) s fun t => t.efb e ENG.LE_EVT_UC_REFUSED = true
    ∧ t.eng e = s.eng e ∧ t.sram = s.sram ∧ s.KeepsRegs [engBlk e] t ∧ s.KeepsUnitsBut (fun u => { u with engines := [] })
    t) ∧
  (∀ (s : State) (q : Requester) (e : EngineId) (bank : Fin 2), s.Serves q (engBlk e) true → s.ucAllowed q = true →
    s.bankInUse e bank = false → s.bankNamed e bank = false → Gives (.invalidate q e bank) s fun t => t.bankValid e bank =
    false ∧ t.eng e = s.eng e ∧ t.sram = s.sram ∧ s.KeepsRegs [engBlk e] t ∧ s.KeepsUnitsBut (fun u =>
    { u with engines := [] }) t) ∧
  (∀ (s : State) (q : Requester) (e : EngineId) (bank : Fin 2), s.Serves q (engBlk e) true → s.bankInUse e bank = true → Gives
    (.invalidate q e bank) s fun t => t.efb e ENG.LE_EVT_UC_REFUSED = true ∧ t.bankValid e bank = true ∧ t.eng e = s.eng e ∧
    t.sram = s.sram ∧ s.KeepsRegs [engBlk e] t ∧ s.KeepsUnitsBut (fun u => { u with engines := [] }) t) ∧
  (∀ (s : State) (b : Fin 2) (len : Nat) (k : Nat) (e : EngineId), (s.eng e).sealing = some (b.val, len) → len ≤ 2048 → k < 8
    → Gives (.sealed e) s fun t => t.bankValid e b = true ∧ t.ef e (bankFields b).2.2.1 = len ∧ t.efb e (bankFields b).2.1 =
    false ∧ t.reg (engBlk e) ((bankFields b).2.2.2 (engBase e)) = s.reg (engBlk e) (ENG.UC_VER (engBase e)) ∧ SMap.get false
    t.sram.sealed (ucBase e b / 1024 + k) = true ∧ t.sram.bytes = s.sram.bytes ∧ (t.eng e).sealing = none ∧ t.efb e
    ENG.LE_EVT_SEALED = true ∧ s.KeepsRegs [engBlk e] t ∧ s.KeepsUnitsBut (fun u => { u with engines := [], sram := {} }) t
    ∧ s.KeepsRam t) ∧
  (∀ (s : State) (e : EngineId), (s.eng e).sealing = none → Gives (.sealed e) s fun t => t.eng e = s.eng e ∧ s.KeepsRegs [] t
    ∧ s.KeepsUnits t) ∧
  (∀ (s : State) (b : Nat) (e : EngineId), s.engClock e = true → (s.eng e).swapTo = some b → b < 2 → Gives (.microcodeSwap e)
    s fun t => t.ef e ENG.LE_STAT_BANK_IN_USE = b ∧ (t.eng e).pc = 0 ∧ (t.eng e).loop = none ∧ (t.eng e).swapTo = none ∧
    ((t.eng e).z || (t.eng e).n || (t.eng e).c || (t.eng e).vf || (t.eng e).p) = false ∧ (t.eng e).s = (s.eng e).s ∧ (t.eng
    e).v = (s.eng e).v ∧ ((s.eng e).run = .halted → (t.eng e).run = .halted) ∧ ((s.eng e).run ≠ .halted → (t.eng e).run =
    .running) ∧ t.efb e ENG.LE_EVT_SWAPPED = true ∧ t.sram = s.sram ∧ s.KeepsRegs [engBlk e, Blk.tsu, Blk.llane e] t ∧
    s.KeepsUnitsBut (fun u => { u with engines := [], laneTsu := [] }) t) ∧
  (∀ (s : State) (e : EngineId), (s.eng e).swapTo = none → Gives (.microcodeSwap e) s fun t => t.eng e = s.eng e ∧ s.KeepsRegs
    [] t ∧ s.KeepsUnits t)

/-- A command of the supplied programs that is pending in the mailbox of a running engine is answered with the results and
the error code of R170 or R196; bits that R170 does not list answer BAD_ARG; without its command pending a row changes
nothing. It follows R168, R169, R170, R196 in the parts that these sentences say. -/
def Obligations.SuppliedPrograms : Prop :=
  (∀ (s : State) (n : Fin 17) (words : List (Fin 145 × BitVec 12)) (windows : BitVec 16) (err : Word), s.progHas (n.val) 1 =
    true → s.progArg n 0 = 0 → s.progArg n 1 = 0 → Gives (.train n true words windows err) s fun t => t.efb (n.val)
    ENG.MBX_STAT_BUSY = false ∧ t.ef (n.val) ENG.MBX_STAT_DONE = 1 ∧ t.ef (n.val) ENG.MBX_STAT_ERR = 0 ∧ t.ef (n.val)
    ENG.MBX_STAT_TAG = s.ef (n.val) ENG.MBX_CMD_TAG ∧ t.progState n = 3 ∧ (t.progStat n).getLsbD 4 = true ∧ bitsOf
    (t.progStat n).toNat 16 16 = windows.toNat ∧ t.reg (engBlk (n.val)) (ENG.MBX_RSP0 (engBase (n.val))) = t.progStat n ∧
    t.reg (engBlk (n.val)) (ENG.MBX_RSP1 (engBase (n.val))) = err ∧ t.ef n ENG.MBX_STAT_NOTE = 2 ∧ s.KeepsRegs [engBlk n,
    Blk.llane n, Blk.tsu] t ∧ s.KeepsUnitsBut (fun u => { u with line := [], engines := [], laneTsu := [] }) t) ∧
  (∀ (s : State) (n : Fin 17) (words : List (Fin 145 × BitVec 12)) (windows : BitVec 16) (err : Word), s.progHas (n.val) 1 =
    true → s.progArg n 0 = 0 → s.progArg n 1 = 0 → Gives (.train n false words windows err) s fun t => t.efb (n.val)
    ENG.MBX_STAT_BUSY = false ∧ t.ef (n.val) ENG.MBX_STAT_DONE = 1 ∧ t.ef (n.val) ENG.MBX_STAT_ERR = 5 ∧ t.ef (n.val)
    ENG.MBX_STAT_TAG = s.ef (n.val) ENG.MBX_CMD_TAG ∧ t.progState n = 2 ∧ (t.progStat n).getLsbD 4 = false ∧ t.reg (engBlk
    (n.val)) (ENG.MBX_RSP0 (engBase (n.val))) = t.progStat n ∧ s.KeepsRegs [engBlk n, Blk.llane n, Blk.tsu] t ∧
    s.KeepsUnitsBut (fun u => { u with line := [], engines := [], laneTsu := [] }) t) ∧
  (∀ (s : State) (n : Fin 17) (words : List (Fin 145 × BitVec 12)) (windows : BitVec 16) (err : Word), s.progHas (n.val) 9 =
    true → s.progArg n 0 = 0 → s.progArg n 1 = 0 → Gives (.spareTrain n true words windows err) s fun t => t.efb (n.val)
    ENG.MBX_STAT_BUSY = false ∧ t.ef (n.val) ENG.MBX_STAT_DONE = 1 ∧ t.ef (n.val) ENG.MBX_STAT_ERR = 0 ∧ t.ef (n.val)
    ENG.MBX_STAT_TAG = s.ef (n.val) ENG.MBX_CMD_TAG ∧ t.progState n = 3 ∧ (t.progStat n).getLsbD 4 = true ∧ bitsOf
    (t.progStat n).toNat 16 16 = windows.toNat ∧ t.reg (engBlk (n.val)) (ENG.MBX_RSP0 (engBase (n.val))) = t.progStat n ∧
    t.reg (engBlk (n.val)) (ENG.MBX_RSP1 (engBase (n.val))) = err ∧ t.ef n ENG.MBX_STAT_NOTE = 2 ∧ s.KeepsRegs [engBlk n,
    Blk.llane n, Blk.tsu] t ∧ s.KeepsUnitsBut (fun u => { u with line := [], engines := [], laneTsu := [] }) t) ∧
  (∀ (s : State) (n : Fin 17) (words : List (Fin 145 × BitVec 12)) (windows : BitVec 16) (err : Word), s.progHas (n.val) 9 =
    true → s.progArg n 0 = 0 → s.progArg n 1 = 0 → Gives (.spareTrain n false words windows err) s fun t => t.efb (n.val)
    ENG.MBX_STAT_BUSY = false ∧ t.ef (n.val) ENG.MBX_STAT_DONE = 1 ∧ t.ef (n.val) ENG.MBX_STAT_ERR = 5 ∧ t.ef (n.val)
    ENG.MBX_STAT_TAG = s.ef (n.val) ENG.MBX_CMD_TAG ∧ t.progState n = 2 ∧ (t.progStat n).getLsbD 4 = false ∧ t.reg (engBlk
    (n.val)) (ENG.MBX_RSP0 (engBase (n.val))) = t.progStat n ∧ s.KeepsRegs [engBlk n, Blk.llane n, Blk.tsu] t ∧
    s.KeepsUnitsBut (fun u => { u with line := [], engines := [], laneTsu := [] }) t) ∧
  (∀ (s : State) (n : Fin 17) (converged : Bool) (words : List (Fin 145 × BitVec 12)) (windows : BitVec 16) (err : Word),
    s.progHas (n.val) 1 = true → s.progArg n 0 = 3 → Gives (.train n converged words windows err) s fun t => t.efb (n.val)
    ENG.MBX_STAT_BUSY = false ∧ t.ef (n.val) ENG.MBX_STAT_DONE = 1 ∧ t.ef (n.val) ENG.MBX_STAT_ERR = 2 ∧ t.ef (n.val)
    ENG.MBX_STAT_TAG = s.ef (n.val) ENG.MBX_CMD_TAG ∧ t.progStat n = s.progStat n ∧ s.KeepsRegs [engBlk n, Blk.llane n,
    Blk.tsu] t ∧ s.KeepsUnitsBut (fun u => { u with line := [], engines := [], laneTsu := [] }) t) ∧
  (∀ (s : State) (n : Fin 17), s.progHas (n.val) 2 = true → s.progArg n 0 = 0 → s.progArg n 1 = 0 → Gives (.freeze n) s fun t
    => t.efb (n.val) ENG.MBX_STAT_BUSY = false ∧ t.ef (n.val) ENG.MBX_STAT_DONE = 1 ∧ t.ef (n.val) ENG.MBX_STAT_ERR = 0 ∧
    t.ef (n.val) ENG.MBX_STAT_TAG = s.ef (n.val) ENG.MBX_CMD_TAG ∧ t.progState n = 4 ∧ s.KeepsRegs [engBlk n, Blk.llane n,
    Blk.tsu] t ∧ s.KeepsUnitsBut (fun u => { u with engines := [] }) t) ∧
  (∀ (s : State) (n : Fin 17), s.progHas (n.val) 2 = true → s.progArg n 0 = 1 → Gives (.freeze n) s fun t => t.efb (n.val)
    ENG.MBX_STAT_BUSY = false ∧ t.ef (n.val) ENG.MBX_STAT_DONE = 1 ∧ t.ef (n.val) ENG.MBX_STAT_ERR = 2 ∧ t.ef (n.val)
    ENG.MBX_STAT_TAG = s.ef (n.val) ENG.MBX_CMD_TAG ∧ t.progStat n = s.progStat n ∧ s.KeepsRegs [engBlk n, Blk.llane n,
    Blk.tsu] t ∧ s.KeepsUnitsBut (fun u => { u with engines := [] }) t) ∧
  (∀ (s : State) (n : Fin 17), s.progHas (n.val) 3 = true → s.progArg n 0 = 0 → s.progArg n 1 = 0 → s.progState n = 4 → Gives
    (.resume n) s fun t => t.efb (n.val) ENG.MBX_STAT_BUSY = false ∧ t.ef (n.val) ENG.MBX_STAT_DONE = 1 ∧ t.ef (n.val)
    ENG.MBX_STAT_ERR = 0 ∧ t.ef (n.val) ENG.MBX_STAT_TAG = s.ef (n.val) ENG.MBX_CMD_TAG ∧ t.progState n = 3 ∧ s.KeepsRegs
    [engBlk n, Blk.llane n, Blk.tsu] t ∧ s.KeepsUnitsBut (fun u => { u with engines := [] }) t) ∧
  (∀ (s : State) (n : Fin 17), s.progHas (n.val) 3 = true → s.progArg n 0 = 0 → s.progArg n 1 = 0 → s.progState n ≠ 4 → Gives
    (.resume n) s fun t => t.efb (n.val) ENG.MBX_STAT_BUSY = false ∧ t.ef (n.val) ENG.MBX_STAT_DONE = 1 ∧ t.ef (n.val)
    ENG.MBX_STAT_ERR = 3 ∧ t.ef (n.val) ENG.MBX_STAT_TAG = s.ef (n.val) ENG.MBX_CMD_TAG ∧ t.progStat n = s.progStat n ∧
    s.KeepsRegs [engBlk n, Blk.llane n, Blk.tsu] t ∧ s.KeepsUnitsBut (fun u => { u with engines := [] }) t) ∧
  (∀ (s : State) (n : Fin 17), s.progHas (n.val) 4 = true → s.progArg n 0 < 65536 → s.progArg n 1 = 0 → Gives (.setMu n) s fun
    t => t.efb (n.val) ENG.MBX_STAT_BUSY = false ∧ t.ef (n.val) ENG.MBX_STAT_DONE = 1 ∧ t.ef (n.val) ENG.MBX_STAT_ERR = 0 ∧
    t.ef (n.val) ENG.MBX_STAT_TAG = s.ef (n.val) ENG.MBX_CMD_TAG ∧ (t.eng n).progMu = BitVec.ofNat 32 (s.progArg n 0) ∧
    t.progStat n = s.progStat n ∧ s.KeepsRegs [engBlk n, Blk.llane n, Blk.tsu] t ∧ s.KeepsUnitsBut (fun u =>
    { u with engines := [] }) t) ∧
  (∀ (s : State) (n : Fin 17), s.progHas (n.val) 5 = true → s.progArg n 0 = 0x120034 → s.progArg n 1 = 0 → Gives (.setLoop n)
    s fun t => t.efb (n.val) ENG.MBX_STAT_BUSY = false ∧ t.ef (n.val) ENG.MBX_STAT_DONE = 1 ∧ t.ef (n.val) ENG.MBX_STAT_ERR
    = 0 ∧ t.ef (n.val) ENG.MBX_STAT_TAG = s.ef (n.val) ENG.MBX_CMD_TAG ∧ (t.eng n).progLoop = some 0x120034 ∧ t.progStat n =
    s.progStat n ∧ s.KeepsRegs [engBlk n, Blk.llane n, Blk.tsu] t ∧ s.KeepsUnitsBut (fun u => { u with engines := [] }) t) ∧
  (∀ (s : State) (n : Fin 17) (err : Word), s.progHas (n.val) 6 = true → s.progArg n 0 = 0 → s.progArg n 1 = 0 → Gives
    (.status n err) s fun t => t.efb (n.val) ENG.MBX_STAT_BUSY = false ∧ t.ef (n.val) ENG.MBX_STAT_DONE = 1 ∧ t.ef (n.val)
    ENG.MBX_STAT_ERR = 0 ∧ t.ef (n.val) ENG.MBX_STAT_TAG = s.ef (n.val) ENG.MBX_CMD_TAG ∧ t.reg (engBlk (n.val))
    (ENG.MBX_RSP0 (engBase (n.val))) = s.progStat n ∧ t.reg (engBlk (n.val)) (ENG.MBX_RSP1 (engBase (n.val))) = err ∧
    t.progStat n = s.progStat n ∧ s.KeepsRegs [engBlk n, Blk.llane n, Blk.tsu] t ∧ s.KeepsUnitsBut (fun u =>
    { u with engines := [] }) t) ∧
  (∀ (s : State) (n : Fin 17) (hits : Word) (results : List EyeResult), s.progHas (n.val) 7 = true → LLANE.EYE_CTL_AUTO.get
    (BitVec.ofNat 32 (s.progArg n 0)) = 0 → s.progArg n 1 = 0 → Gives (.eye n hits results) s fun t => t.efb (n.val)
    ENG.MBX_STAT_BUSY = false ∧ t.ef (n.val) ENG.MBX_STAT_DONE = 1 ∧ t.ef (n.val) ENG.MBX_STAT_ERR = 2 ∧ t.ef (n.val)
    ENG.MBX_STAT_TAG = s.ef (n.val) ENG.MBX_CMD_TAG ∧ t.lane n = s.lane n ∧ s.KeepsRegs [engBlk n, Blk.llane n, Blk.tsu] t ∧
    s.KeepsUnitsBut (fun u => { u with line := [], engines := [] }) t) ∧
  (∀ (s : State) (n : Fin 17) (hits : Word) (results : List EyeResult), s.progHas (n.val) 7 = true → LLANE.EYE_CTL_AUTO.get
    (BitVec.ofNat 32 (s.progArg n 0)) = 1 → s.progArg n 1 = 0 → (s.eyeCtl n (LLANE.EYE_CTL_START.put (BitVec.ofNat 32
    (s.progArg n 0)) 1)).fb (Blk.llane n) LLANE.EYE_STAT_BUSY = true → Gives (.eye n hits results) s fun t => t.efb (n.val)
    ENG.MBX_STAT_BUSY = false ∧ t.ef (n.val) ENG.MBX_STAT_DONE = 1 ∧ t.ef (n.val) ENG.MBX_STAT_ERR = 0 ∧ t.ef (n.val)
    ENG.MBX_STAT_TAG = s.ef (n.val) ENG.MBX_CMD_TAG ∧ t.reg (engBlk (n.val)) (ENG.MBX_RSP0 (engBase (n.val))) = t.reg
    (Blk.llane n) (LLANE.EYE_WH 0) ∧ t.reg (engBlk (n.val)) (ENG.MBX_RSP1 (engBase (n.val))) = t.reg (Blk.llane n)
    (LLANE.EYE_WH 1) ∧ s.KeepsRegs [engBlk n, Blk.llane n, Blk.tsu] t ∧ s.KeepsUnitsBut (fun u =>
    { u with line := [], engines := [] }) t) ∧
  (∀ (s : State) (n : Fin 17), s.progHas (n.val) 8 = true → s.progArg n 0 = 0xFF00 → s.progArg n 1 = 0 → Gives (.remap n) s
    fun t => t.efb (n.val) ENG.MBX_STAT_BUSY = false ∧ t.ef (n.val) ENG.MBX_STAT_DONE = 1 ∧ t.ef (n.val) ENG.MBX_STAT_ERR =
    4 ∧ t.ef (n.val) ENG.MBX_STAT_TAG = s.ef (n.val) ENG.MBX_CMD_TAG ∧ t.lane n = s.lane n ∧ s.KeepsRegs [engBlk n,
    Blk.llane n, Blk.tsu] t ∧ s.KeepsUnitsBut (fun u => { u with line := [], engines := [] }) t) ∧
  (∀ (s : State) (n : Fin 17), s.progHas (n.val) 8 = true → s.progArg n 0 = 0x8003 → s.progArg n 1 = 0 → (s.slotMap n 3
    128).isSome = true → Gives (.remap n) s fun t => t.efb (n.val) ENG.MBX_STAT_BUSY = false ∧ t.ef (n.val)
    ENG.MBX_STAT_DONE = 1 ∧ t.ef (n.val) ENG.MBX_STAT_ERR = 0 ∧ t.ef (n.val) ENG.MBX_STAT_TAG = s.ef (n.val) ENG.MBX_CMD_TAG
    ∧ SMap.get? (t.lane n).slot 3 = some 128 ∧ s.KeepsRegs [engBlk n, Blk.llane n, Blk.tsu] t ∧ s.KeepsUnitsBut (fun u =>
    { u with line := [], engines := [] }) t) ∧
  (∀ (s : State) (n : Fin 17), s.progHas (n.val) 15 = true → s.progArg n 0 = 0 → s.progArg n 1 = 0 → Gives (.stop n) s fun t
    => t.efb (n.val) ENG.MBX_STAT_BUSY = false ∧ t.ef (n.val) ENG.MBX_STAT_DONE = 1 ∧ t.ef (n.val) ENG.MBX_STAT_ERR = 0 ∧
    t.ef (n.val) ENG.MBX_STAT_TAG = s.ef (n.val) ENG.MBX_CMD_TAG ∧ t.progState n = 0 ∧ t.lane n = s.lane n ∧ s.KeepsRegs
    [engBlk n, Blk.llane n, Blk.tsu] t ∧ s.KeepsUnitsBut (fun u => { u with engines := [] }) t) ∧
  (∀ (s : State) (m : Nat) (k : Fin 4), s.progHas (17 + k.val) 1 = true → s.progArg (17 + k) 0 = m → m < 65536 → s.progArg (17
    + k) 1 = 0 → Gives (.adapt k) s fun t => t.efb (17 + k.val) ENG.MBX_STAT_BUSY = false ∧ t.ef (17 + k.val)
    ENG.MBX_STAT_DONE = 1 ∧ t.ef (17 + k.val) ENG.MBX_STAT_ERR = 0 ∧ t.ef (17 + k.val) ENG.MBX_STAT_TAG = s.ef (17 + k.val)
    ENG.MBX_CMD_TAG ∧ (t.eng (17 + k)).progAdapt = (s.eng (17 + k)).progAdapt ||| m ∧ (t.eng (17 + k)).progFrozen = maskOut
    (s.eng (17 + k)).progFrozen m ∧ s.KeepsRegs [engBlk (17 + k)] t ∧ s.KeepsUnitsBut (fun u => { u with engines := [] }) t) ∧
  (∀ (s : State) (m : Nat) (k : Fin 4), s.progHas (17 + k.val) 2 = true → s.progArg (17 + k) 0 = m → m < 65536 → s.progArg (17
    + k) 1 = 0 → Gives (.hostFreeze k) s fun t => t.efb (17 + k.val) ENG.MBX_STAT_BUSY = false ∧ t.ef (17 + k.val)
    ENG.MBX_STAT_DONE = 1 ∧ t.ef (17 + k.val) ENG.MBX_STAT_ERR = 0 ∧ t.ef (17 + k.val) ENG.MBX_STAT_TAG = s.ef (17 + k.val)
    ENG.MBX_CMD_TAG ∧ (t.eng (17 + k)).progAdapt = (s.eng (17 + k)).progAdapt ∧ (t.eng (17 + k)).progFrozen = (s.eng (17 +
    k)).progFrozen ||| m ∧ s.KeepsRegs [engBlk (17 + k)] t ∧ s.KeepsUnitsBut (fun u => { u with engines := [] }) t) ∧
  (∀ (s : State) (m : Nat) (k : Fin 4), s.progHas (17 + k.val) 3 = true → s.progArg (17 + k) 0 = m → m < 65536 → s.progArg (17
    + k) 1 = 0 → (s.eng (17 + k)).progFrozen &&& m = m → Gives (.hostResume k) s fun t => t.efb (17 + k.val)
    ENG.MBX_STAT_BUSY = false ∧ t.ef (17 + k.val) ENG.MBX_STAT_DONE = 1 ∧ t.ef (17 + k.val) ENG.MBX_STAT_ERR = 0 ∧ t.ef (17
    + k.val) ENG.MBX_STAT_TAG = s.ef (17 + k.val) ENG.MBX_CMD_TAG ∧ (t.eng (17 + k)).progAdapt = (s.eng (17 + k)).progAdapt
    ∧ (t.eng (17 + k)).progFrozen = maskOut (s.eng (17 + k)).progFrozen m ∧ s.KeepsRegs [engBlk (17 + k)] t ∧
    s.KeepsUnitsBut (fun u => { u with engines := [] }) t) ∧
  (∀ (s : State) (m : Nat) (k : Fin 4), s.progHas (17 + k.val) 3 = true → s.progArg (17 + k) 0 = m → m < 65536 → s.progArg (17
    + k) 1 = 0 → (s.eng (17 + k)).progFrozen &&& m ≠ m → Gives (.hostResume k) s fun t => t.efb (17 + k.val)
    ENG.MBX_STAT_BUSY = false ∧ t.ef (17 + k.val) ENG.MBX_STAT_DONE = 1 ∧ t.ef (17 + k.val) ENG.MBX_STAT_ERR = 3 ∧ t.ef (17
    + k.val) ENG.MBX_STAT_TAG = s.ef (17 + k.val) ENG.MBX_CMD_TAG ∧ (t.eng (17 + k)).progAdapt = (s.eng (17 + k)).progAdapt
    ∧ (t.eng (17 + k)).progFrozen = (s.eng (17 + k)).progFrozen ∧ s.KeepsRegs [engBlk (17 + k)] t ∧ s.KeepsUnitsBut (fun u
    => { u with engines := [] }) t) ∧
  (∀ (s : State) (m : Nat) (k : Fin 4), s.progHas (17 + k.val) 4 = true → s.progArg (17 + k) 0 = m → m < 65536 → s.progArg (17
    + k) 1 < 4096 → Gives (.hostSetMu k) s fun t => t.efb (17 + k.val) ENG.MBX_STAT_BUSY = false ∧ t.ef (17 + k.val)
    ENG.MBX_STAT_DONE = 1 ∧ t.ef (17 + k.val) ENG.MBX_STAT_ERR = 0 ∧ t.ef (17 + k.val) ENG.MBX_STAT_TAG = s.ef (17 + k.val)
    ENG.MBX_CMD_TAG ∧ (t.eng (17 + k)).progMu = BitVec.ofNat 32 (s.progArg (17 + k) 1) ∧ s.KeepsRegs [engBlk (17 + k)] t ∧
    s.KeepsUnitsBut (fun u => { u with engines := [] }) t) ∧
  (∀ (s : State) (m : Nat) (k : Fin 4) (err : Word), s.progHas (17 + k.val) 6 = true → s.progArg (17 + k) 0 = m → m < 65536 →
    s.progArg (17 + k) 1 < 16 → Gives (.hostStatus k err) s fun t => t.efb (17 + k.val) ENG.MBX_STAT_BUSY = false ∧ t.ef (17
    + k.val) ENG.MBX_STAT_DONE = 1 ∧ t.ef (17 + k.val) ENG.MBX_STAT_ERR = 0 ∧ t.ef (17 + k.val) ENG.MBX_STAT_TAG = s.ef (17
    + k.val) ENG.MBX_CMD_TAG ∧ t.reg (engBlk (17 + k.val)) (ENG.MBX_RSP0 (engBase (17 + k.val))) = s.reg (Blk.hlane (16 * k
    + s.progArg (17 + k) 1)) HLANE.HL_STAT ∧ t.reg (engBlk (17 + k.val)) (ENG.MBX_RSP1 (engBase (17 + k.val))) = err ∧
    s.KeepsRegs [engBlk (17 + k)] t ∧ s.KeepsUnitsBut (fun u => { u with engines := [] }) t) ∧
  (∀ (s : State) (m : Nat) (k : Fin 4), s.progHas (17 + k.val) 10 = true → s.progArg (17 + k) 0 = m → m < 65536 → 1 ≤
    s.progArg (17 + k) 1 → s.progArg (17 + k) 1 ≤ 3 → Gives (.setPreset k) s fun t => t.efb (17 + k.val) ENG.MBX_STAT_BUSY =
    false ∧ t.ef (17 + k.val) ENG.MBX_STAT_DONE = 1 ∧ t.ef (17 + k.val) ENG.MBX_STAT_ERR = 0 ∧ t.ef (17 + k.val)
    ENG.MBX_STAT_TAG = s.ef (17 + k.val) ENG.MBX_CMD_TAG ∧ (t.eng (17 + k)).progPreset = s.progArg (17 + k) 1 ∧ s.KeepsRegs
    [engBlk (17 + k)] t ∧ s.KeepsUnitsBut (fun u => { u with engines := [] }) t) ∧
  (∀ (s : State) (m : Nat) (k : Fin 4), s.progHas (17 + k.val) 10 = true → s.progArg (17 + k) 0 = m → m < 65536 → s.progArg
    (17 + k) 1 = 0 → Gives (.setPreset k) s fun t => t.efb (17 + k.val) ENG.MBX_STAT_BUSY = false ∧ t.ef (17 + k.val)
    ENG.MBX_STAT_DONE = 1 ∧ t.ef (17 + k.val) ENG.MBX_STAT_ERR = 2 ∧ t.ef (17 + k.val) ENG.MBX_STAT_TAG = s.ef (17 + k.val)
    ENG.MBX_CMD_TAG ∧ (t.eng (17 + k)).progPreset = (s.eng (17 + k)).progPreset ∧ s.KeepsRegs [engBlk (17 + k)] t ∧
    s.KeepsUnitsBut (fun u => { u with engines := [] }) t) ∧
  (∀ (s : State) (m : Nat) (k : Fin 4), s.progHas (17 + k.val) 15 = true → s.progArg (17 + k) 0 = m → m < 65536 → s.progArg
    (17 + k) 1 = 0 → Gives (.hostStop k) s fun t => t.efb (17 + k.val) ENG.MBX_STAT_BUSY = false ∧ t.ef (17 + k.val)
    ENG.MBX_STAT_DONE = 1 ∧ t.ef (17 + k.val) ENG.MBX_STAT_ERR = 0 ∧ t.ef (17 + k.val) ENG.MBX_STAT_TAG = s.ef (17 + k.val)
    ENG.MBX_CMD_TAG ∧ (t.eng (17 + k)).progAdapt = maskOut (s.eng (17 + k)).progAdapt m ∧ (t.eng (17 + k)).progFrozen =
    maskOut (s.eng (17 + k)).progFrozen m ∧ s.KeepsRegs [engBlk (17 + k)] t ∧ s.KeepsUnitsBut (fun u =>
    { u with engines := [] }) t) ∧
  (∀ (s : State) (k : Fin 4), s.progHas (17 + k.val) 1 = false → Gives (.adapt k) s fun t => s.KeepsRegs [] t ∧ s.KeepsUnits
    t)

/-- HAIL starts hailing from UNPAIRED and clears AUTH_FAIL; RELEASE sends RELEASE and enters RELEASING; a HAIL from an
accepted identity is answered in UNPAIRED with LISTEN; an ANSWER in HAILING derives the keys, sends CONFIRM and pairs; a
CONFIRM with counter 1 pairs; a message that fails its check is counted and changes nothing else; the limits end
HAILING, ANSWERED and ADRIFT; a pairing without messages goes ADRIFT and loses its relations; RELEASE and RELEASE_ACK
end the pairing. It follows R221, R223, R225, R226 in the parts that these sentences say. -/
def Obligations.TwinPairing : Prop :=
  (∀ (s : State) (q : Requester), s.Serves q Blk.twin true → s.twinOn = true → s.pairState = 0 → s.fuse.lifecycle ≠ 3 → Gives
    (.pairHail q) s fun t => t.pairState = 1 ∧ t.f Blk.twin TWIN.PAIR_STAT_ROLE = 0 ∧ t.f Blk.twin TWIN.PAIR_STAT_AUTH_FAIL
    = 0 ∧ t.fog.twinQ = s.fog.twinQ ++ [⟨1, 0, []⟩] ∧ t.twin = s.twin ∧ s.KeepsRegs [Blk.twin, Blk.fog] t ∧ s.KeepsUnitsBut
    (fun u => { u with fog := {}, twin := {} }) t) ∧
  (∀ (s : State) (q : Requester), s.Serves q Blk.twin true → s.pairState ≠ 0 → Gives (.pairHail q) s fun t => t.pairState =
    s.pairState ∧ t.f Blk.twin TWIN.PAIR_STAT_AUTH_FAIL = 0 ∧ t.fog = s.fog ∧ t.twin = s.twin ∧ s.KeepsRegs [Blk.twin] t ∧
    s.KeepsUnitsBut (fun u => { u with fog := {}, twin := {} }) t) ∧
  (∀ (s : State) (q : Requester), s.Serves q Blk.twin true → s.twinOn = true → (s.pairState = 3 ∨ s.pairState = 4) → Gives
    (.pairRelease q) s fun t => t.pairState = 5 ∧ s.SentTwin 0x40 [] t ∧ t.twin.keys = s.twin.keys ∧ s.KeepsRegs [Blk.twin,
    Blk.fog] t ∧ s.KeepsUnitsBut (fun u => { u with fog := {}, twin := {} }) t) ∧
  (∀ (s : State), s.twinOn = true → s.pairState = 1 → Gives .hailTimer s fun t => t.fog.twinQ = s.fog.twinQ ++ [⟨1, 0, []⟩] ∧
    t.pairState = 1 ∧ t.twin = s.twin ∧ s.KeepsRegs [Blk.fog] t ∧ s.KeepsUnitsBut (fun u => { u with fog := {} }) t) ∧
  (∀ (s : State), s.pairState ≠ 1 → Gives .hailTimer s fun t => t.fog = s.fog ∧ s.KeepsRegs [] t ∧ s.KeepsUnits t) ∧
  (∀ (s : State), s.twinOn = true → s.pairState = 1 → Gives .hailLimit s fun t => t.pairState = 0 ∧ t.f Blk.twin
    TWIN.PAIR_STAT_FAIL_REASON = 14 ∧ (t.intStat Blk.twin).getLsbD TWIN.INT_PAIR_FAIL = true ∧ t.twin = s.twin ∧ s.KeepsRegs
    [Blk.twin] t ∧ s.KeepsBlk Blk.twin [TWIN.PAIR_STAT] t ∧ s.KeepsUnits t) ∧
  (∀ (s : State), s.twinOn = true → s.pairState = 2 → Gives .confirmWaitExpiry s fun t => t.pairState = 0 ∧ t.twin.keys =
    false ∧ t.twin.txCnt = 0 ∧ t.twin.rxCnt = 0 ∧ t.twin.rel = [] ∧ t.f Blk.twin TWIN.PAIR_STAT_FAIL_REASON = 14 ∧
    (t.intStat Blk.twin).getLsbD TWIN.INT_PAIR_FAIL = true ∧ s.KeepsRegs [Blk.twin] t ∧ s.KeepsUnitsBut (fun u =>
    { u with twin := {} }) t) ∧
  (∀ (s : State), s.twinOn = true → (s.pairState = 3 ∨ s.pairState = 4) → s.twin.keys = true → Gives .heartbeatTimer s fun t
    => t.fog.twinQ.length = s.fog.twinQ.length + 1 ∧ (t.fog.twinQ.getLast?.map (fun m => (m.typ, m.cnt, m.fields.take 3))) =
    some (0x10, s.twin.txCnt + 1, [s.pairState, (s.reg Blk.cfgv CFGV.ACT_VER).toNat, (s.reg Blk.cfgv CFGV.PREV_VER).toNat])
    ∧ t.twin.txCnt = s.twin.txCnt + 1 ∧ t.pairState = s.pairState ∧ s.KeepsRegs [Blk.twin, Blk.fog] t ∧ s.KeepsBlk Blk.twin
    [TWIN.TX_CNT] t ∧ s.KeepsUnitsBut (fun u => { u with fog := {}, twin := {} }) t) ∧
  (∀ (s : State), s.twinOn = true → s.pairState = 3 → s.spareState = 0 → s.fabOn = true → Gives .adrift s fun t => t.pairState
    = 4 ∧ t.twin.rel = [] ∧ t.twin.keys = s.twin.keys ∧ t.f Blk.twin TWIN.RANGE_STAT_VALID = 0 ∧ (t.intStat
    Blk.twin).getLsbD TWIN.INT_ADRIFT = true ∧ t.reg Blk.log LOG.SEQ = s.reg Blk.log LOG.SEQ + 1 ∧ s.KeepsRegs [Blk.twin,
    Blk.log] t ∧ s.KeepsUnitsBut (fun u => { u with sram := {}, twin := {}, log := {} }) t ∧ s.KeepsRam t) ∧
  (∀ (s : State), s.twinOn = true → s.pairState = 4 → s.f Blk.twin TWIN.HB_CTL_ADRIFT_LIMIT ≠ 0 → Gives .adriftLimit s fun t
    => t.pairState = 0 ∧ t.twin.keys = false ∧ t.twin.rel = [] ∧ (t.intStat Blk.twin).getLsbD TWIN.INT_RELEASED = true ∧
    s.KeepsRegs [Blk.twin] t ∧ s.KeepsUnitsBut (fun u => { u with twin := {} }) t) ∧
  (∀ (s : State) (id : BitVec 128), s.twinOn = true → s.expected id.toNat = true → (s.fuse.lifecycle = 1 ∨ s.fuse.lifecycle =
    2) → s.pairState = 0 → s.fb Blk.twin TWIN.PAIR_CTL_LISTEN = true → Gives (.hail id true) s fun t => t.pairState = 2 ∧
    t.f Blk.twin TWIN.PAIR_STAT_ROLE = 1 ∧ t.peerId = id.toNat ∧ t.twin.keys = true ∧ t.twin.txCnt = 0 ∧ t.twin.rxCnt = 0 ∧
    t.fog.twinQ = s.fog.twinQ ++ [⟨2, 0, []⟩] ∧ s.KeepsRegs [Blk.twin, Blk.fog] t ∧ s.KeepsUnitsBut (fun u =>
    { u with fog := {}, twin := {} }) t) ∧
  (∀ (s : State) (id : BitVec 128) (ok : Bool), s.twinOn = true → (ok = false ∨ s.expected id.toNat = false) → Gives (.hail id
    ok) s fun t => t.pairState = s.pairState ∧ t.twin = s.twin ∧ t.fog = s.fog ∧ t.f Blk.twin TWIN.PAIR_STAT_AUTH_FAIL = min
    65535 (s.f Blk.twin TWIN.PAIR_STAT_AUTH_FAIL + 1) ∧ (t.intStat Blk.twin).getLsbD TWIN.INT_AUTH_FAIL = true ∧ s.KeepsRegs
    [Blk.twin] t ∧ s.KeepsBlk Blk.twin [TWIN.PAIR_STAT] t ∧ s.KeepsUnitsBut (fun u => { u with fog := {}, twin := {} }) t) ∧
  (∀ (s : State) (id : BitVec 128), s.twinOn = true → s.expected id.toNat = true → (s.fuse.lifecycle = 1 ∨ s.fuse.lifecycle =
    2) → s.pairState = 1 → Gives (.answer id true) s fun t => t.pairState = 3 ∧ t.peerId = id.toNat ∧ t.twin.keys = true ∧
    t.twin.rxCnt = 0 ∧ t.twin.txCnt = 1 ∧ t.fog.twinQ = s.fog.twinQ ++ [⟨3, 1, []⟩] ∧ (t.intStat Blk.twin).getLsbD
    TWIN.INT_PAIRED = true ∧ s.KeepsRegs [Blk.twin, Blk.fog] t ∧ s.KeepsUnitsBut (fun u => { u with fog := {}, twin := {} })
    t) ∧
  (∀ (s : State) (id : BitVec 128) (ok : Bool), s.twinOn = true → (ok = false ∨ s.expected id.toNat = false) → Gives (.answer
    id ok) s fun t => t.pairState = s.pairState ∧ t.twin = s.twin ∧ t.f Blk.twin TWIN.PAIR_STAT_AUTH_FAIL = min 65535 (s.f
    Blk.twin TWIN.PAIR_STAT_AUTH_FAIL + 1) ∧ s.KeepsRegs [Blk.twin] t ∧ s.KeepsUnitsBut (fun u =>
    { u with fog := {}, twin := {} }) t) ∧
  (∀ (s : State) (a : MsgAuth), s.twinOn = true → s.pairState = 2 → s.twin.keys = true → a.tagOk = true → s.twin.rxCnt = 0 →
    a.low = 1 → Gives (.confirm a) s fun t => t.pairState = 3 ∧ t.twin.rxCnt = 1 ∧ (t.intStat Blk.twin).getLsbD
    TWIN.INT_PAIRED = true ∧ s.KeepsRegs [Blk.twin] t ∧ s.KeepsBlk Blk.twin [TWIN.PAIR_STAT, TWIN.RX_CNT] t ∧
    s.KeepsUnitsBut (fun u => { u with twin := {} }) t) ∧
  (∀ (s : State) (a : MsgAuth), s.twinOn = true → (s.pairState ≠ 2 ∨ a.tagOk = false) → Gives (.confirm a) s fun t =>
    t.pairState = s.pairState ∧ t.twin = s.twin ∧ t.f Blk.twin TWIN.PAIR_STAT_AUTH_FAIL = min 65535 (s.f Blk.twin
    TWIN.PAIR_STAT_AUTH_FAIL + 1) ∧ s.KeepsRegs [Blk.twin] t ∧ s.KeepsUnitsBut (fun u => { u with twin := {} }) t) ∧
  (∀ (s : State) (a : MsgAuth) (act : Word) (prev : Word) (spareSt : Fin 9) (rsv : BitVec 12), s.Accepts a → s.twin.coordDid =
    none → Gives (.heartbeat a act prev spareSt rsv) s fun t => t.reg Blk.twin TWIN.CFG_TWIN_ACT = act ∧ t.reg Blk.twin
    TWIN.CFG_TWIN_PREV = prev ∧ t.twin.twinRsv = rsv.toNat ∧ t.twin.rxCnt = s.twinCounter a.low.toNat ∧ (act ≠ s.reg
    Blk.twin TWIN.CFG_TWIN_ACT → (t.intStat Blk.twin).getLsbD TWIN.INT_VERSION_CHG = true) ∧ t.pairState = 3 ∧ t.fog = s.fog
    ∧ s.KeepsRegs [Blk.twin] t ∧ s.KeepsBlk Blk.twin [TWIN.CFG_TWIN_ACT, TWIN.CFG_TWIN_PREV, TWIN.RX_CNT] t ∧
    s.KeepsUnitsBut (fun u => { u with fog := {}, twin := {} }) t) ∧
  (∀ (s : State) (a : MsgAuth) (act : Word) (prev : Word) (spareSt : Fin 9) (rsv : BitVec 12), s.twinOn = true → a.tagOk =
    false → Gives (.heartbeat a act prev spareSt rsv) s fun t => t.twin = s.twin ∧ t.pairState = s.pairState ∧ t.f Blk.twin
    TWIN.PAIR_STAT_AUTH_FAIL = min 65535 (s.f Blk.twin TWIN.PAIR_STAT_AUTH_FAIL + 1) ∧ (t.intStat Blk.twin).getLsbD
    TWIN.INT_AUTH_FAIL = true ∧ s.KeepsRegs [Blk.twin] t ∧ s.KeepsBlk Blk.twin [TWIN.PAIR_STAT] t ∧ s.KeepsUnitsBut (fun u
    => { u with fog := {}, twin := {} }) t) ∧
  (∀ (s : State) (a : MsgAuth) (act : Word) (prev : Word) (spareSt : Fin 9) (rsv : BitVec 12), s.twinOn = true → s.twin.keys =
    true → s.fb Blk.twin TWIN.PAIR_STAT_KEYS_LOST = false → s.pairState = 4 → a.tagOk = true → Gives (.heartbeat a act prev
    spareSt rsv) s fun t => t.pairState = 3 ∧ t.twin.rxCnt = s.twinCounter a.low.toNat ∧ (t.intStat Blk.twin).getLsbD
    TWIN.INT_PAIRED = true ∧ s.KeepsRegs ([Blk.fog, Blk.twin] ++ Blk.ports) t ∧ s.KeepsUnitsBut (fun u =>
    { u with fog := {}, twin := {} }) t) ∧
  (∀ (s : State) (a : MsgAuth), s.Accepts a → Gives (.release a) s fun t => t.pairState = 0 ∧ t.twin.keys = false ∧ t.twin.rel
    = [] ∧ t.fog.twinQ = s.fog.twinQ ++ [⟨0x41, s.twin.txCnt + 1, []⟩] ∧ (t.intStat Blk.twin).getLsbD TWIN.INT_RELEASED =
    true ∧ s.KeepsRegs [Blk.twin, Blk.fog] t ∧ s.KeepsUnitsBut (fun u => { u with fog := {}, twin := {} }) t) ∧
  (∀ (s : State) (a : MsgAuth), s.twinOn = true → s.twin.keys = true → s.fb Blk.twin TWIN.PAIR_STAT_KEYS_LOST = false →
    s.pairState = 5 → a.tagOk = true → Gives (.releaseAck a) s fun t => t.pairState = 0 ∧ t.twin.keys = false ∧ (t.intStat
    Blk.twin).getLsbD TWIN.INT_RELEASED = true ∧ s.KeepsRegs [Blk.twin] t ∧ s.KeepsUnitsBut (fun u =>
    { u with fog := {}, twin := {} }) t) ∧
  (∀ (s : State), s.twinOn = true → s.pairState = 5 → s.twin.released = 1 → Gives .releaseResend s fun t => t.pairState = 5 ∧
    t.twin.released = 2 ∧ s.SentTwin 0x40 [] t ∧ s.KeepsRegs [Blk.twin, Blk.fog] t ∧ s.KeepsUnitsBut (fun u =>
    { u with fog := {}, twin := {} }) t) ∧
  (∀ (s : State), s.twinOn = true → s.pairState = 5 → 2 ≤ s.twin.released → Gives .releaseResend s fun t => t.pairState = 0 ∧
    t.twin.keys = false ∧ (t.intStat Blk.twin).getLsbD TWIN.INT_RELEASED = true ∧ s.KeepsRegs [Blk.twin, Blk.fog] t ∧
    s.KeepsUnitsBut (fun u => { u with fog := {}, twin := {} }) t)

/-- RUN of RANGE_CTL sends RANGE while PAIRED, which the twin answers; the echo gives the one-way delay; RUN of POS_CTL
without a valid range measures one first, and with no related port ends at once; a POS message whose entries match no
port sets FAIL; an empty POS_ACK changes nothing; HEALTH_REQ is answered and HEALTH replaces the table. It follows R228,
R229, R231, R243 in the parts that these sentences say. -/
def Obligations.TwinPosition : Prop :=
  (∀ (s : State) (q : Requester), s.Serves q Blk.twin true → s.twinOn = true → s.pairState = 3 → Gives (.rangeRun q) s fun t
    => t.f Blk.twin TWIN.RANGE_STAT_BUSY = 1 ∧ s.SentTwin 0x3A [] t ∧ s.KeepsRegs [Blk.twin, Blk.fog] t ∧ s.KeepsUnitsBut
    (fun u => { u with fog := {}, twin := {} }) t) ∧
  (∀ (s : State) (q : Requester), s.Serves q Blk.twin true → s.pairState ≠ 3 → Gives (.rangeRun q) s fun t => t.fog = s.fog ∧
    t.twin = s.twin ∧ t.f Blk.twin TWIN.RANGE_STAT_BUSY = s.f Blk.twin TWIN.RANGE_STAT_BUSY ∧ s.KeepsRegs [Blk.twin] t ∧
    s.KeepsUnitsBut (fun u => { u with fog := {}, twin := {} }) t) ∧
  (∀ (s : State) (a : MsgAuth), s.Accepts a → Gives (.range a) s fun t => s.SentTwin 0x3B [] t ∧ t.twin.rxCnt = s.twinCounter
    a.low.toNat ∧ s.KeepsRegs [Blk.twin, Blk.fog] t ∧ s.KeepsUnitsBut (fun u => { u with fog := {}, twin := {} }) t) ∧
  (∀ (s : State) (a : MsgAuth) (t1 : BitVec 64) (t2 : BitVec 64) (t3 : BitVec 64) (t4 : BitVec 64), s.Accepts a → s.fb
    Blk.twin TWIN.RANGE_STAT_BUSY = true → s.twin.posWantsRange = false → t2.toNat ≤ t3.toNat → t1.toNat + (t3.toNat -
    t2.toNat) ≤ t4.toNat → Gives (.rangeEcho a t1 t2 t3 t4) s fun t => t.f Blk.twin TWIN.RANGE_NS_NS = min ((t4.toNat -
    t1.toNat - (t3.toNat - t2.toNat)) / 2) (2 ^ 24 - 1) ∧ t.f Blk.twin TWIN.RANGE_STAT_BUSY = 0 ∧ t.f Blk.twin
    TWIN.RANGE_STAT_VALID = 1 ∧ (t.intStat Blk.twin).getLsbD TWIN.INT_RANGE_DONE = true ∧ t.fog = s.fog ∧ s.KeepsRegs
    [Blk.twin] t ∧ s.KeepsUnitsBut (fun u => { u with fog := {}, twin := {} }) t) ∧
  (∀ (s : State) (q : Requester), s.Serves q Blk.twin true → s.twinOn = true → s.pairState = 3 → s.fb Blk.twin
    TWIN.RANGE_STAT_VALID = false → s.fb Blk.twin TWIN.RANGE_STAT_BUSY = false → Gives (.posRun q) s fun t =>
    t.twin.posWantsRange = true ∧ t.f Blk.twin TWIN.POS_STAT_BUSY = 1 ∧ t.f Blk.twin TWIN.RANGE_STAT_BUSY = 1 ∧ t.fog.twinQ
    = s.fog.twinQ ++ [⟨0x3A, s.twin.txCnt + 1, []⟩] ∧ s.KeepsRegs [Blk.twin, Blk.fog] t ∧ s.KeepsUnitsBut (fun u =>
    { u with fog := {}, twin := {} }) t) ∧
  (∀ (s : State) (q : Requester), s.Serves q Blk.twin true → s.twinOn = true → s.pairState = 3 → s.fb Blk.twin
    TWIN.RANGE_STAT_VALID = true → s.posEntries (List.range 64) = [] → Gives (.posRun q) s fun t => t.f Blk.twin
    TWIN.POS_STAT_BUSY = 0 ∧ (t.intStat Blk.twin).getLsbD TWIN.INT_POS_DONE = true ∧ t.fog = s.fog ∧ t.twin.posWait = [] ∧
    s.KeepsRegs [Blk.twin] t ∧ s.KeepsUnitsBut (fun u => { u with fog := {}, twin := {} }) t) ∧
  (∀ (s : State), s.fb Blk.twin TWIN.POS_CTL_AUTO = true → s.twinOn = true → s.pairState = 3 → s.fb Blk.twin
    TWIN.RANGE_STAT_VALID = false → s.fb Blk.twin TWIN.RANGE_STAT_BUSY = false → Gives .posAutoRerun s fun t =>
    t.twin.posWantsRange = true ∧ t.f Blk.twin TWIN.RANGE_STAT_BUSY = 1 ∧ s.KeepsRegs [Blk.twin, Blk.fog] t ∧
    s.KeepsUnitsBut (fun u => { u with fog := {}, twin := {} }) t) ∧
  (∀ (s : State), s.fb Blk.twin TWIN.POS_CTL_AUTO = false → Gives .posAutoRerun s fun t => t.twin = s.twin ∧ s.KeepsRegs [] t
    ∧ s.KeepsUnits t) ∧
  (∀ (s : State) (x : PosEntry) (a : MsgAuth) (l : List PosEntry), s.Accepts a → l = [x] → s.posJudge x = none → s.fb Blk.twin
    TWIN.RANGE_STAT_VALID = true → Gives (.pos a l) s fun t => t.f Blk.twin TWIN.POS_STAT_FAIL = 1 ∧ (t.intStat
    Blk.twin).getLsbD TWIN.INT_POS_FAIL = true ∧ t.twin.rel = s.twin.rel ∧ s.SentTwin 0x12 [] t ∧ s.KeepsRegs [Blk.twin,
    Blk.fog] t ∧ s.KeepsUnitsBut (fun u => { u with fog := {}, twin := {} }) t) ∧
  (∀ (s : State) (x : PosEntry) (q : Nat) (k : Int) (r : Int) (a : MsgAuth) (l : List PosEntry), s.Accepts a → l = [x] → q <
    64 → s.posJudge x = some (q, k, r) → s.fb Blk.twin TWIN.RANGE_STAT_VALID = true → Gives (.pos a l) s fun t => t.relOf q
    true =
    { valid := true, localGen := (s.portPos q true).gen, twinGen := x.gen.toNat, delta := k, twinPort := x.port, resid := r }
    ∧ t.relOf q false = s.relOf q false ∧ s.SentTwin 0x12 [x.port.val, unsignedOf 32 k, unsignedOf 16 r] t ∧ s.KeepsRegs
    [Blk.twin, Blk.fog] t ∧ s.KeepsUnitsBut (fun u => { u with fog := {}, twin := {} }) t) ∧
  (∀ (s : State) (a : MsgAuth) (l : List PosAck), s.Accepts a → s.twin.posWait = [] → Gives (.posAck a l) s fun t =>
    t.twin.rel = s.twin.rel ∧ t.twin.rxCnt = s.twinCounter a.low.toNat ∧ t.fog = s.fog ∧ s.KeepsRegs [Blk.twin] t ∧
    s.KeepsBlk Blk.twin [TWIN.RX_CNT] t ∧ s.KeepsUnitsBut (fun u => { u with fog := {}, twin := {} }) t) ∧
  (∀ (s : State) (q : Nat) (g : Nat) (x : PosAck) (a : MsgAuth) (l : List PosAck), s.Accepts a → s.twin.posWait = [(q, g)] → l
    = [x] → x.port.val = q → (s.portPos q false).valid = true → (s.portPos q false).gen = g → s.twin.posBad = false → Gives
    (.posAck a l) s fun t => (t.relOf q false).valid = true ∧ (t.relOf q false).delta = x.delta.toInt ∧ (t.relOf q
    false).localGen = g ∧ (t.relOf q false).resid = x.resid.toInt ∧ t.relOf q true = s.relOf q true ∧ t.twin.posWait = [] ∧
    t.f Blk.twin TWIN.POS_STAT_BUSY = 0 ∧ (t.intStat Blk.twin).getLsbD TWIN.INT_POS_DONE = true ∧ t.fog = s.fog ∧
    s.KeepsRegs [Blk.twin] t ∧ s.KeepsUnitsBut (fun u => { u with fog := {}, twin := {} }) t) ∧
  (∀ (s : State) (q : Requester), s.Serves q Blk.twin true → s.twinOn = true → s.pairState = 3 → Gives (.healthRequest q) s
    fun t => s.SentTwin 0x38 [] t ∧ s.KeepsRegs [Blk.twin, Blk.fog] t ∧ s.KeepsUnitsBut (fun u =>
    { u with fog := {}, twin := {} }) t) ∧
  (∀ (s : State) (a : MsgAuth), s.Accepts a → Gives (.healthReq a) s fun t => t.twin.txCnt = s.twin.txCnt + 1 ∧
    t.fog.twinQ.length = s.fog.twinQ.length + 1 ∧ t.fog.twinQ.getLast?.map (fun m => (m.typ, m.cnt, m.fields.length)) = some
    (0x39, s.twin.txCnt + 1, 64) ∧ t.log = s.log ∧ s.KeepsRegs [Blk.twin, Blk.fog] t ∧ s.KeepsUnitsBut (fun u =>
    { u with fog := {}, twin := {} }) t) ∧
  (∀ (s : State) (a : MsgAuth) (l : List HealthRec), s.Accepts a → Gives (.health a l) s fun t => (∀ i : Nat, i < 16 →
    SMap.get {} t.twin.health i = ((l[i]?).map fun e =>
    { seq := e.seq, typ := e.typ, time := e.time, digest := e.digest : HealthEntry }).getD {}) ∧ (t.intStat
    Blk.twin).getLsbD TWIN.INT_HEALTH_RX = true ∧ t.fog = s.fog ∧ s.KeepsRegs [Blk.twin] t ∧ s.KeepsBlk Blk.twin
    [TWIN.RX_CNT] t ∧ s.KeepsUnitsBut (fun u => { u with fog := {}, twin := {} }) t)

/-- START proposes to a paired twin with a valid relation and time enough, and ends with its reason otherwise; a PROPOSE is
rejected as BUSY while a transaction is open and as NO_ENTRY without an armed entry; ACCEPT moves the initiator on and
sends GO; REJECT ends the transaction; GO lets the responder commit; ABORT disarms; the cutoff ends a transaction that
has not reached it in time. It follows R232, R233 in the parts that these sentences say. -/
def Obligations.TwinCoordination : Prop :=
  (∀ (s : State) (q : Requester), s.Serves q Blk.twin true → s.twinOn = true → s.coordOpen = false → s.f Blk.twin
    TWIN.COORD_CTL_ACTION ≠ 3 → s.pairState ≠ 3 → Gives (.coordStart q) s fun t => t.f Blk.twin TWIN.COORD_STAT_PHASE = 5 ∧
    t.f Blk.twin TWIN.COORD_STAT_REASON = 1 ∧ t.f Blk.twin TWIN.COORD_STAT_RESPONDER = 0 ∧ (t.intStat Blk.twin).getLsbD
    TWIN.INT_COORD_FAIL = true ∧ t.fog = s.fog ∧ t.twin = s.twin ∧ s.KeepsRegs [Blk.twin] t ∧ s.KeepsUnitsBut (fun u =>
    { u with sram := {}, sched := {}, fog := {}, twin := {}, log := {} }) t ∧ s.KeepsRam t) ∧
  (∀ (s : State) (q : Requester), s.Serves q Blk.twin true → s.twinOn = true → s.coordOpen = false → s.f Blk.twin
    TWIN.COORD_CTL_ACTION = 0 → s.pairState = 3 → (s.relOf (s.f Blk.twin TWIN.COORD_CTL_PORT) false).valid = true →
    (s.portPos (s.f Blk.twin TWIN.COORD_CTL_PORT) false).cw + s.msCodewords (s.f Blk.twin TWIN.COORD_CTL_PORT) (2 * s.f
    Blk.twin TWIN.COORD_TAG_CUTOFF) ≤ (s.reg Blk.twin TWIN.COORD_N_LO).toNat + (s.reg Blk.twin TWIN.COORD_N_HI).toNat * 2 ^
    32 → Gives (.coordStart q) s fun t => t.f Blk.twin TWIN.COORD_STAT_PHASE = 1 ∧ t.f Blk.twin TWIN.COORD_STAT_RESPONDER =
    0 ∧ t.twin.coordTag = s.f Blk.twin TWIN.COORD_TAG_TAG ∧ t.twin.coordSe = s.f Blk.twin TWIN.COORD_CTL_SE ∧ t.twin.txCnt =
    s.twin.txCnt + 1 ∧ t.fog.twinQ.getLast?.map (fun m => (m.typ, m.fields.take 2)) = some (0x20, [s.f Blk.twin
    TWIN.COORD_TAG_TAG, 0]) ∧ s.KeepsRegs [Blk.twin, Blk.fog] t ∧ s.KeepsUnitsBut (fun u =>
    { u with sram := {}, sched := {}, fog := {}, twin := {}, log := {} }) t ∧ s.KeepsRam t) ∧
  (∀ (s : State) (q : Requester), s.Serves q Blk.twin true → s.twinOn = true → s.coordOpen = true → s.spareState = 0 → (s.se
    s.twin.coordSe).en = false → Gives (.coordAbort q) s fun t => t.f Blk.twin TWIN.COORD_STAT_PHASE = 5 ∧ t.f Blk.twin
    TWIN.COORD_STAT_REASON = 4 ∧ s.SentTwin 0x24 [s.twin.coordTag] t ∧ (t.intStat Blk.twin).getLsbD TWIN.INT_COORD_FAIL =
    true ∧ s.KeepsRegs [Blk.twin, Blk.fog] t ∧ s.KeepsUnitsBut (fun u =>
    { u with sram := {}, sched := {}, fog := {}, twin := {}, log := {} }) t ∧ s.KeepsRam t) ∧
  (∀ (s : State) (a : MsgAuth) (tag : BitVec 16) (action : Fin 4) (port : Fin 64) (n : BitVec 64) (ver : Word), s.Accepts a →
    s.coordOpen = true → Gives (.propose a tag action port n ver) s fun t => s.SentTwin 0x22 [tag.toNat, 10] t ∧ t.f
    Blk.twin TWIN.COORD_STAT_PHASE = s.f Blk.twin TWIN.COORD_STAT_PHASE ∧ t.sched = s.sched ∧ s.KeepsRegs [Blk.twin,
    Blk.fog] t ∧ s.KeepsUnitsBut (fun u => { u with sram := {}, sched := {}, fog := {}, twin := {}, log := {} }) t ∧
    s.KeepsRam t) ∧
  (∀ (s : State) (a : MsgAuth) (tag : BitVec 16) (action : Fin 4) (port : Fin 64) (n : BitVec 64) (ver : Word), s.Accepts a →
    s.coordOpen = false → s.seWhere (fun e => e.twin && e.tag == tag.toNat && e.state == 2) = [] → Gives (.propose a tag
    action port n ver) s fun t => s.SentTwin 0x22 [tag.toNat, 5] t ∧ t.f Blk.twin TWIN.COORD_STAT_PHASE = s.f Blk.twin
    TWIN.COORD_STAT_PHASE ∧ t.sched = s.sched ∧ s.KeepsRegs [Blk.twin, Blk.fog] t ∧ s.KeepsUnitsBut (fun u =>
    { u with sram := {}, sched := {}, fog := {}, twin := {}, log := {} }) t ∧ s.KeepsRam t) ∧
  (∀ (s : State) (a : MsgAuth) (tag : BitVec 16) (m : BitVec 64), s.Accepts a → s.f Blk.twin TWIN.COORD_STAT_PHASE = 1 → s.fb
    Blk.twin TWIN.COORD_STAT_RESPONDER = false → tag.toNat = s.twin.coordTag → (s.se s.twin.coordSe).en = false → Gives
    (.accept a tag m) s fun t => t.f Blk.twin TWIN.COORD_STAT_PHASE = 2 ∧ t.twin.txCnt = s.twin.txCnt + 1 ∧ t.fog.twinQ =
    s.fog.twinQ ++ [⟨0x23, s.twin.txCnt + 1, [tag.toNat]⟩] ∧ t.twin.coordTag = s.twin.coordTag ∧ s.KeepsRegs ([Blk.log,
    Blk.sched, Blk.fog, Blk.twin] ++ Blk.ports) t ∧ s.KeepsUnitsBut (fun u =>
    { u with sram := {}, sched := {}, fog := {}, twin := {}, log := {} }) t ∧ s.KeepsRam t) ∧
  (∀ (s : State) (a : MsgAuth) (tag : BitVec 16) (m : BitVec 64), s.Accepts a → (s.f Blk.twin TWIN.COORD_STAT_PHASE ≠ 1 ∨
    tag.toNat ≠ s.twin.coordTag) → Gives (.accept a tag m) s fun t => t.f Blk.twin TWIN.COORD_STAT_PHASE = s.f Blk.twin
    TWIN.COORD_STAT_PHASE ∧ t.fog = s.fog ∧ t.sched = s.sched ∧ s.KeepsRegs [Blk.twin] t ∧ s.KeepsBlk Blk.twin [TWIN.RX_CNT]
    t ∧ s.KeepsUnitsBut (fun u => { u with sram := {}, sched := {}, fog := {}, twin := {}, log := {} }) t ∧ s.KeepsRam t) ∧
  (∀ (s : State) (a : MsgAuth) (tag : BitVec 16) (reason : Fin 16), s.Accepts a → s.f Blk.twin TWIN.COORD_STAT_PHASE = 1 →
    tag.toNat = s.twin.coordTag → (s.se s.twin.coordSe).en = false → s.spareState = 0 → Gives (.reject a tag reason) s fun t
    => t.f Blk.twin TWIN.COORD_STAT_PHASE = 5 ∧ t.f Blk.twin TWIN.COORD_STAT_REASON = reason.val ∧ (t.intStat
    Blk.twin).getLsbD TWIN.INT_COORD_FAIL = true ∧ t.fog = s.fog ∧ s.KeepsRegs [Blk.twin] t ∧ s.KeepsUnitsBut (fun u =>
    { u with sram := {}, sched := {}, fog := {}, twin := {}, log := {} }) t ∧ s.KeepsRam t) ∧
  (∀ (s : State) (a : MsgAuth) (tag : BitVec 16), s.Accepts a → s.f Blk.twin TWIN.COORD_STAT_PHASE = 2 → s.fb Blk.twin
    TWIN.COORD_STAT_RESPONDER = true → Gives (.go a tag) s fun t => t.f Blk.twin TWIN.COORD_STAT_PHASE = (if tag.toNat =
    s.twin.coordTag then 3 else 2) ∧ t.fog = s.fog ∧ t.sched = s.sched ∧ s.KeepsRegs [Blk.twin] t ∧ s.KeepsBlk Blk.twin
    [TWIN.RX_CNT, TWIN.COORD_STAT] t ∧ s.KeepsUnitsBut (fun u => { u with fog := {}, twin := {} }) t) ∧
  (∀ (s : State) (a : MsgAuth) (tag : BitVec 16), s.Accepts a → s.coordOpen = true → tag.toNat = s.twin.coordTag → (s.se
    s.twin.coordSe).en = false → s.spareState = 0 → Gives (.abort a tag) s fun t => t.f Blk.twin TWIN.COORD_STAT_PHASE = 5 ∧
    t.f Blk.twin TWIN.COORD_STAT_REASON = 4 ∧ (t.intStat Blk.twin).getLsbD TWIN.INT_COORD_FAIL = true ∧ t.fog = s.fog ∧
    s.KeepsRegs [Blk.twin] t ∧ s.KeepsUnitsBut (fun u =>
    { u with sram := {}, sched := {}, fog := {}, twin := {}, log := {} }) t ∧ s.KeepsRam t) ∧
  (∀ (s : State), s.f Blk.twin TWIN.COORD_STAT_PHASE = 2 → s.fb Blk.twin TWIN.COORD_STAT_RESPONDER = true → (s.se
    s.twin.coordSe).en = false → s.spareState = 0 → Gives .coordCutoff s fun t => t.f Blk.twin TWIN.COORD_STAT_PHASE = 5 ∧
    t.f Blk.twin TWIN.COORD_STAT_REASON = 14 ∧ t.twin.coordDid = some false ∧ (t.intStat Blk.twin).getLsbD
    TWIN.INT_COORD_FAIL = true ∧ s.KeepsRegs [Blk.twin] t ∧ s.KeepsUnitsBut (fun u =>
    { u with sram := {}, sched := {}, twin := {}, log := {} }) t ∧ s.KeepsRam t) ∧
  (∀ (s : State), s.f Blk.twin TWIN.COORD_STAT_PHASE = 3 → Gives .coordCutoff s fun t => t.twin = s.twin ∧ t.sched = s.sched ∧
    s.KeepsRegs [] t ∧ s.KeepsUnits t)

/-- PREPARE is refused with NOT_PAIRED unless PAIRED, and else starts MIRROR and sends SPARE_REQ; SWITCH and RETURN go on
from READY and SPARED; ABORT returns to IDLE; ASSIGN takes a lane while its ports are disabled; FORCE lifts the skew
window; the responder answers SPARE_REQ; SPARE_RSP and SPARE_STATUS move the initiator; MATCH, its loss and TRAIN_LIMIT
move the operation; emergency sparing acts only where it is enabled. It follows R235, R236, R238, R239, R240, R241, R242
in the parts that these sentences say. -/
def Obligations.LaneSparing : Prop :=
  (∀ (s : State) (q : Requester) (v : Word), s.Serves q Blk.twin true → s.twinOn = true → s.pairState ≠ 3 → Gives (.prepare q
    v) s fun t => t.spareState = s.spareState ∧ t.f Blk.twin TWIN.SPARE_STAT_REASON = 1 ∧ t.fog = s.fog ∧ s.KeepsRegs
    [Blk.twin] t ∧ s.KeepsBlk Blk.twin [TWIN.SPARE_CTL, TWIN.SPARE_STAT] t ∧ s.KeepsUnitsBut (fun u =>
    { u with sram := {}, sched := {}, fog := {}, twin := {}, log := {} }) t ∧ s.KeepsRam t) ∧
  (∀ (s : State) (q : Requester) (v : Word), s.Serves q Blk.twin true → s.twinOn = true → s.spareTests
    (TWIN.SPARE_CTL_LANE.get v) = 0 → Gives (.prepare q v) s fun t => t.spareState = 1 ∧ t.f Blk.twin TWIN.SPARE_STAT_LANE =
    TWIN.SPARE_CTL_LANE.get v ∧ t.f Blk.twin TWIN.SPARE_STAT_REASON = 0 ∧ t.twin.txCnt = s.twin.txCnt + 1 ∧ t.fog.twinQ =
    s.fog.twinQ ++ [⟨0x30, s.twin.txCnt + 1, [TWIN.SPARE_CTL_LANE.get v, 0]⟩] ∧ s.KeepsRegs [Blk.twin, Blk.fog, Blk.llane
    16] t ∧ s.KeepsUnitsBut (fun u => { u with sram := {}, sched := {}, fog := {}, twin := {}, log := {} }) t ∧ s.KeepsRam
    t) ∧
  (∀ (s : State) (q : Requester) (v : Word), s.Serves q Blk.twin true → s.twinOn = true → s.spareState ≠ 3 → s.spareState ≠ 7
    → Gives (.switch q v) s fun t => t.spareState = s.spareState ∧ t.twin = s.twin ∧ t.fog = s.fog ∧ s.KeepsRegs [Blk.twin]
    t ∧ s.KeepsBlk Blk.twin [TWIN.SPARE_CTL] t ∧ s.KeepsUnitsBut (fun u =>
    { u with sram := {}, sched := {}, fog := {}, twin := {}, log := {} }) t ∧ s.KeepsRam t) ∧
  (∀ (s : State) (q : Requester) (v : Word), s.Serves q Blk.twin true → s.twinOn = true → s.spareState = 3 → s.fb Blk.twin
    TWIN.SPARE_STAT_TWIN_READY = true → s.peerId ≤ s.ownId → Gives (.switch q v) s fun t => t.spareState = 4 ∧ (t.intStat
    Blk.twin).getLsbD TWIN.INT_SPARE_CHG = true ∧ t.twin = s.twin ∧ t.fog = s.fog ∧ s.KeepsRegs [Blk.twin] t ∧
    s.KeepsUnitsBut (fun u => { u with sram := {}, sched := {}, fog := {}, twin := {}, log := {} }) t ∧ s.KeepsRam t) ∧
  (∀ (s : State) (q : Requester) (v : Word), s.Serves q Blk.twin true → s.twinOn = true → s.spareState = 5 → s.returnReady
    s.spareLane = false → Gives (.returnOp q v) s fun t => t.spareState = 5 ∧ t.f Blk.twin TWIN.SPARE_STAT_REASON = 11 ∧
    t.fog = s.fog ∧ s.KeepsRegs [Blk.twin] t ∧ s.KeepsUnitsBut (fun u =>
    { u with sram := {}, sched := {}, fog := {}, twin := {}, log := {} }) t ∧ s.KeepsRam t) ∧
  (∀ (s : State) (q : Requester) (v : Word), s.Serves q Blk.twin true → s.twinOn = true → s.spareState = 5 → s.spareLane = 3 →
    s.returnReady 3 = true → Gives (.returnOp q v) s fun t => t.spareState = 6 ∧ t.f Blk.twin TWIN.SPARE_STAT_REASON = 0 ∧
    t.twin.txCnt = s.twin.txCnt + 1 ∧ t.fog.twinQ = s.fog.twinQ ++ [⟨0x30, s.twin.txCnt + 1, [3, 1]⟩] ∧ s.KeepsRegs
    ([Blk.log, Blk.sched, Blk.therm, Blk.fog, Blk.twin, Blk.pmap, Blk.fec] ++ Blk.lines ++ Blk.lineEngines ++
    Blk.hostEngines ++ Blk.hosts ++ Blk.ports) t ∧ s.KeepsUnitsBut (fun u =>
    { u with sram := {}, sched := {}, fog := {}, twin := {}, log := {} }) t ∧ s.KeepsRam t) ∧
  (∀ (s : State) (q : Requester) (v : Word), s.Serves q Blk.twin true → s.twinOn = true → s.spareState = 2 → Gives
    (.spareAbort q v) s fun t => t.spareState = 0 ∧ t.f Blk.twin TWIN.SPARE_STAT_REASON = 4 ∧ t.f Blk.twin
    TWIN.SPARE_STAT_MATCH = 0 ∧ (t.intStat Blk.twin).getLsbD TWIN.INT_SPARE_FAIL = true ∧ t.fog = s.fog ∧ s.KeepsRegs
    ([Blk.log, Blk.sched, Blk.therm, Blk.fog, Blk.twin, Blk.pmap, Blk.fec] ++ Blk.lines ++ Blk.lineEngines ++
    Blk.hostEngines ++ Blk.hosts ++ Blk.ports) t ∧ s.KeepsUnitsBut (fun u =>
    { u with sram := {}, sched := {}, fog := {}, twin := {}, log := {} }) t ∧ s.KeepsRam t) ∧
  (∀ (s : State) (q : Requester) (v : Word), s.Serves q Blk.twin true → s.twinOn = true → (s.spareState ≠ 0 ∨ s.fb Blk.twin
    TWIN.SPARE_STAT_SUBST = true) → Gives (.assign q v) s fun t => t.spareState = s.spareState ∧ t.f Blk.twin
    TWIN.SPARE_STAT_REASON = 13 ∧ t.twin = s.twin ∧ s.KeepsRegs [Blk.twin] t ∧ s.KeepsUnitsBut (fun u =>
    { u with sram := {}, sched := {}, fog := {}, twin := {}, log := {} }) t ∧ s.KeepsRam t) ∧
  (∀ (s : State) (q : Requester) (v : Word), s.Serves q Blk.twin true → s.twinOn = true → s.spareState = 0 → s.fb Blk.twin
    TWIN.SPARE_STAT_SUBST = false → ((List.range 64).any fun p => s.portEnabled p && (s.portLineLanes p).contains
    (TWIN.SPARE_CTL_LANE.get v)) = false → Gives (.assign q v) s fun t => t.spareState = 5 ∧ t.fb Blk.twin
    TWIN.SPARE_STAT_SUBST = true ∧ t.f Blk.twin TWIN.SPARE_STAT_LANE = TWIN.SPARE_CTL_LANE.get v ∧ t.twin.assigned = true ∧
    t.fog = s.fog ∧ s.KeepsRegs ([Blk.log, Blk.sched, Blk.therm, Blk.fog, Blk.twin, Blk.pmap, Blk.fec] ++ Blk.lines ++
    Blk.lineEngines ++ Blk.hostEngines ++ Blk.hosts ++ Blk.ports) t ∧ s.KeepsUnitsBut (fun u =>
    { u with sram := {}, sched := {}, fog := {}, twin := {}, log := {} }) t ∧ s.KeepsRam t) ∧
  (∀ (s : State) (q : Requester) (v : Word), s.Serves q Blk.twin true → s.twinOn = true → s.spareState ≠ 2 → s.spareState ≠ 6
    → Gives (.force q v) s fun t => t.twin = { s.twin with force := true } ∧ t.spareState = s.spareState ∧ t.fog = s.fog ∧
    s.KeepsRegs [Blk.twin] t ∧ s.KeepsBlk Blk.twin [TWIN.SPARE_CTL] t ∧ s.KeepsUnitsBut (fun u =>
    { u with sram := {}, sched := {}, fog := {}, twin := {}, log := {} }) t ∧ s.KeepsRam t) ∧
  (∀ (s : State) (a : MsgAuth) (lane : Fin 16) (ret : Bool), s.Accepts a → ret = true → s.spareState ≠ 5 → Gives (.spareReq a
    lane ret) s fun t => s.SentTwin 0x31 [lane.val, 10] t ∧ t.spareState = s.spareState ∧ s.KeepsRegs [Blk.twin, Blk.fog] t
    ∧ s.KeepsUnitsBut (fun u => { u with fog := {}, twin := {} }) t) ∧
  (∀ (s : State) (a : MsgAuth) (lane : Fin 16) (ret : Bool), s.Accepts a → ret = false → s.spareState = 2 → s.laneRelated lane
    = true → Gives (.spareReq a lane ret) s fun t => s.SentTwin 0x31 [lane.val, 10] t ∧ t.spareState = 2 ∧ s.KeepsRegs
    [Blk.twin, Blk.fog] t ∧ s.KeepsUnitsBut (fun u => { u with fog := {}, twin := {} }) t) ∧
  (∀ (s : State) (a : MsgAuth) (reason : Fin 16), s.Accepts a → reason = 0 → s.spareState = 1 → Gives (.spareRsp a reason) s
    fun t => t.spareState = 2 ∧ (t.intStat Blk.twin).getLsbD TWIN.INT_SPARE_CHG = true ∧ t.fog = s.fog ∧ s.KeepsRegs
    ([Blk.therm, Blk.fog, Blk.twin, Blk.pmap] ++ Blk.lines ++ Blk.lineEngines ++ Blk.hostEngines ++ Blk.ports) t ∧
    s.KeepsUnitsBut (fun u => { u with fog := {}, twin := {} }) t) ∧
  (∀ (s : State) (a : MsgAuth) (reason : Fin 16), s.Accepts a → reason ≠ 0 → s.spareState = 1 → Gives (.spareRsp a reason) s
    fun t => t.spareState = 0 ∧ t.f Blk.twin TWIN.SPARE_STAT_REASON = 4 ∧ t.f Blk.twin TWIN.COORD_STAT_REASON = reason.val ∧
    (t.intStat Blk.twin).getLsbD TWIN.INT_SPARE_FAIL = true ∧ s.KeepsRegs ([Blk.therm, Blk.fog, Blk.twin, Blk.pmap] ++
    Blk.lines ++ Blk.lineEngines ++ Blk.hostEngines ++ Blk.ports) t ∧ s.KeepsUnitsBut (fun u =>
    { u with fog := {}, twin := {} }) t) ∧
  (∀ (s : State) (a : MsgAuth) (x : SpareNote), s.Accepts a → x = .skipped → Gives (.spareStatus a x) s fun t => t.f Blk.twin
    TWIN.SPARE_STAT_TWIN_READY = 0 ∧ t.spareState = s.spareState ∧ t.fog = s.fog ∧ s.KeepsRegs [Blk.twin] t ∧ s.KeepsBlk
    Blk.twin [TWIN.SPARE_STAT, TWIN.RX_CNT] t ∧ s.KeepsUnitsBut (fun u => { u with fog := {}, twin := {} }) t) ∧
  (∀ (s : State) (a : MsgAuth) (x : SpareNote), s.Accepts a → x = .ready → s.spareState = 2 → Gives (.spareStatus a x) s fun t
    => t.f Blk.twin TWIN.SPARE_STAT_TWIN_READY = 1 ∧ t.spareState = 2 ∧ t.fog = s.fog ∧ s.KeepsRegs [Blk.twin] t ∧
    s.KeepsUnitsBut (fun u => { u with fog := {}, twin := {} }) t) ∧
  (∀ (s : State) (a : MsgAuth) (x : SpareNote), s.Accepts a → x = .switched → s.spareState = 8 → s.fb Blk.twin
    TWIN.SPARE_STAT_SUBST = false → Gives (.spareStatus a x) s fun t => t.f Blk.twin TWIN.SPARE_STAT_TWIN_SWITCHED = 1 ∧
    t.spareState = 0 ∧ t.twin.assigned = false ∧ t.fog = s.fog ∧ s.KeepsRegs ([Blk.therm, Blk.fog, Blk.twin] ++ Blk.lines ++
    Blk.lineEngines ++ Blk.hostEngines ++ Blk.ports) t ∧ s.KeepsUnitsBut (fun u => { u with fog := {}, twin := {} }) t) ∧
  (∀ (s : State) (delta : BitVec 24), s.twinOn = true → s.spareState = 3 → Gives (.spareMatch delta) s fun t => t.f Blk.twin
    TWIN.SPARE_STAT_MATCH = 1 ∧ t.f Blk.twin TWIN.SPARE_OFS_DELTA = delta.toNat ∧ t.fb Blk.twin TWIN.SPARE_STAT_IN_WINDOW =
    s.inWindow delta.toInt ∧ t.spareState = 3 ∧ t.twin = s.twin ∧ s.KeepsRegs [Blk.twin] t ∧ s.KeepsBlk Blk.twin
    [TWIN.SPARE_STAT, TWIN.SPARE_OFS] t ∧ s.KeepsUnitsBut (fun u => { u with fog := {}, twin := {} }) t) ∧
  (∀ (s : State) (delta : BitVec 24), s.twinOn = true → s.spareState = 2 → s.inWindow delta.toInt = true → s.fb Blk.twin
    TWIN.SPARE_STAT_TWIN_READY = false → Gives (.spareMatch delta) s fun t => t.f Blk.twin TWIN.SPARE_STAT_MATCH = 1 ∧
    t.spareState = 3 ∧ s.SentTwin 0x32 [s.spareLane, 0] t ∧ (t.intStat Blk.twin).getLsbD TWIN.INT_SPARE_CHG = true ∧
    s.KeepsRegs [Blk.twin, Blk.fog] t ∧ s.KeepsUnitsBut (fun u => { u with fog := {}, twin := {} }) t) ∧
  (∀ (s : State), Gives .spareMismatch s fun t => t.f Blk.twin TWIN.SPARE_STAT_MATCH = 0 ∧ t.spareState = (if s.spareState = 3
    then 2 else s.spareState) ∧ t.twin = s.twin ∧ s.KeepsRegs [Blk.twin] t ∧ s.KeepsBlk Blk.twin [TWIN.SPARE_STAT] t ∧
    s.KeepsUnits t) ∧
  (∀ (s : State), s.twinOn = true → s.spareState = 2 → Gives .spareTrainLimit s fun t => t.spareState = 0 ∧ t.f Blk.twin
    TWIN.SPARE_STAT_REASON = (if s.fb Blk.twin TWIN.SPARE_STAT_MATCH then 8 else 7) ∧ t.twin.txCnt = s.twin.txCnt + 1 ∧
    (t.intStat Blk.twin).getLsbD TWIN.INT_SPARE_FAIL = true ∧ s.KeepsRegs ([Blk.therm, Blk.fog, Blk.twin, Blk.pmap] ++
    Blk.lines ++ Blk.lineEngines ++ Blk.hostEngines) t ∧ s.KeepsUnitsBut (fun u => { u with fog := {}, twin := {} }) t) ∧
  (∀ (s : State) (lane : Fin 16), (s.fb Blk.twin TWIN.EMERG_CTL_EN = false ∨ s.fb Blk.twin TWIN.SPARE_STAT_SUBST = true) →
    Gives (.emergency lane) s fun t => t.twin = s.twin ∧ s.KeepsRegs [] t ∧ s.KeepsUnits t) ∧
  (∀ (s : State) (lane : Fin 16), s.twinOn = true → s.fb Blk.twin TWIN.EMERG_CTL_EN = true → s.fb Blk.twin
    TWIN.SPARE_STAT_SUBST = false → s.fecLocked lane = false → s.fecLocked 16 = false → s.spareState = 0 → s.twin.emerg ≠
    some lane.val → Gives (.emergency lane) s fun t => t.twin.emerg = some lane.val ∧ (t.intStat Blk.twin).getLsbD
    TWIN.INT_EMERGENCY = true ∧ t.fb Blk.twin TWIN.SPARE_STAT_SUBST = false ∧ t.spareState = 0 ∧ s.KeepsRegs ([Blk.log,
    Blk.tsu, Blk.sched, Blk.therm, Blk.fog, Blk.twin, Blk.pmap, Blk.fec] ++ Blk.lines ++ Blk.lineEngines ++ Blk.hostEngines
    ++ Blk.hosts ++ Blk.ports) t ∧ s.KeepsUnitsBut (fun u =>
    { u with sram := {}, laneTsu := [], sched := {}, fog := {}, twin := {}, log := {} }) t ∧ s.KeepsRam t) ∧
  (∀ (s : State) (lane : Fin 16), (s.fb Blk.twin TWIN.EMERG_CTL_ANSWER_EN = false ∨ s.fb Blk.twin TWIN.SPARE_STAT_SUBST =
    true) → Gives (.emergencyIdentified lane) s fun t => t.twin = s.twin ∧ s.KeepsRegs [] t ∧ s.KeepsUnits t) ∧
  (∀ (s : State) (lane : Fin 16), s.twinOn = true → s.fb Blk.twin TWIN.EMERG_CTL_ANSWER_EN = true → s.fb Blk.twin
    TWIN.SPARE_STAT_SUBST = false → s.fecLocked 16 = true → s.fb (Blk.llane 16) LLANE.RX_STAT_SIG_DET = true → Gives
    (.emergencyIdentified lane) s fun t => t.fb Blk.twin TWIN.SPARE_STAT_SUBST = true ∧ t.f Blk.twin TWIN.SPARE_STAT_LANE =
    lane.val ∧ t.spareState = 5 ∧ t.f Blk.twin TWIN.EMERG_STAT_ACTIVE = 1 ∧ t.f Blk.twin TWIN.EMERG_STAT_IDENTIFIED = 1 ∧
    t.f Blk.twin TWIN.EMERG_STAT_LANE = lane.val ∧ s.KeepsRegs ([Blk.log, Blk.tsu, Blk.sched, Blk.therm, Blk.fog, Blk.twin,
    Blk.pmap, Blk.fec] ++ Blk.lines ++ Blk.lineEngines ++ Blk.hostEngines ++ Blk.hosts ++ Blk.ports) t ∧ s.KeepsUnitsBut
    (fun u => { u with sram := {}, laneTsu := [], sched := {}, fog := {}, twin := {}, log := {} }) t ∧ s.KeepsRam t)

/-- A read of an unmapped BAR0 offset returns 0 and changes nothing; a write to one changes no register but GLB's, sets
GLB.STAT.UNMAPPED and leaves the offset in GLB.ACC_ERR_ADDR; and no offset of the MSI-X table, of the pending-bit array
or of the TB1608 window, nor of what follows the array in its window, names a register through an alias. Formalises R37. -/
def Obligations.UnmappedOffsets : Prop :=
  (∀ (s : State) (q : Requester) (a : Nat), bar0Target a = .unmapped → s.dbgAdmits q false = true → s.busRead q a = (0, s)) ∧
  (∀ (s : State) (q : Requester) (addr : BitVec 24) (be : BitVec 4) (v : Word), s.dbgAdmits q true = true → s.domReady Dom.fab
    = true → be = 15 → addr.toNat % 4 = 0 → bar0Target addr.toNat = .unmapped → Gives (.regWrite q addr be v) s fun t => t.f
    Blk.glb GLB.STAT_UNMAPPED = 1 ∧ t.reg Blk.glb GLB.ACC_ERR_ADDR = addr.setWidth 32 ∧ s.KeepsRegs [Blk.glb] t ∧ s.KeepsBlk
    Blk.glb [GLB.STAT, GLB.ACC_ERR_ADDR, HDR.EVT_TIME_LO, HDR.EVT_TIME_HI] t ∧ s.KeepsUnits t) ∧
  (∀ a : Nat, (0xFE0000 ≤ a ∧ a < 0xFE4000) ∨ (0xFF0000 ≤ a ∧ a ≤ 0xFFFFFF) → (∀ b off al, bar0Target a ≠ .reg b off al) ∧
    (0xFE1020 ≤ a → a < 0xFE4000 → bar0Target a = .unmapped))

/-- A BAR2 access is refused on an offset that no region covers and where the table does not permit it: a write of regions 3
and 4 by another requester than the Keeper, and a read below OBSERVE or a write below OPEN of regions 1, 2, 6 and 7. The
refused read returns zeros and the refused write changes nothing; MEM.STAT.DENIED is set, MEM.DENY_ADDR holds the
offset, DENIED is raised, and no bus error is sent; an access to a region whose domain is off is recorded in GLB as R15
says. Formalises R335. -/
def Obligations.DeniedSram : Prop :=
  (∀ (s : State) (q : Requester) (a : Nat) (w : Bool), (sramRegion (a - a % 4) = none → s.bar2Judge q a 1 w = .denied (a - a %
    4)) ∧ (∀ r e d, sramRegion (a - a % 4) = some (r, e) → sramDomain (a - a % 4) = some d → (s.domReady d = false →
    s.bar2Judge q a 1 w = .off (a - a % 4)) ∧ (s.domReady d = true → s.bar2Allows q (a - a % 4) w = false → s.bar2Judge q a
    1 w = .denied (a - a % 4)) ∧ (s.domReady d = true → s.bar2Allows q (a - a % 4) w = true → s.bar2Judge q a 1 w = .ok))) ∧
  (∀ (s : State) (q : Requester) (x : Nat) (w : Bool) (r e : Nat), sramRegion x = some (r, e) → q ≠ .keeper → q ≠ .debug →
    s.bar2Allows q x w = (if r = 0 ∨ r = 5 then true else if r = 3 ∨ r = 4 then !w else if r = 6 then (if w then decide
    (s.dbgLevel = 2) && !(s.bankInUse e (x % 0x10000 / 0x2000)) && !(s.bankNamed e (x % 0x10000 / 0x2000)) else decide
    (s.dbgLevel ≠ 0)) else if w then decide (s.dbgLevel = 2) else decide (s.dbgLevel ≠ 0))) ∧
  (∀ (s : State) (o : Nat) (q : Requester) (bar : Bar) (off : BitVec 34) (len : Nat) (flips : List Flip), bar = .bar2 →
    s.memReach q = true → 0 < len → s.inBar .bar2 off.toNat len = true → s.bar2Judge q off.toNat len false = .denied o →
    flips = [] → Gives (.hostMemRead q bar off len flips) s fun t => OutMsg.memData .bar2 off.toNat (List.replicate len 0) ∈
    t.out ∧ ((s.out.all fun m => match m with | .completerAbort _ _ => false | .poisoned _ _ _ => false | _ => true) = true
    → (t.out.all fun m => match m with | .completerAbort _ _ => false | .poisoned _ _ _ => false | _ => true) = true) ∧ t.f
    Blk.mem MEM.STAT_DENIED = 1 ∧ t.f Blk.mem MEM.DENY_ADDR_OFFSET = o ∧ (t.intStat Blk.mem).getLsbD MEM.INT_DENIED = true ∧
    s.KeepsRegs [Blk.mem] t ∧ s.KeepsBlk Blk.mem [MEM.STAT, MEM.DENY_ADDR, HDR.EVT_TIME_LO, HDR.EVT_TIME_HI] t ∧
    s.KeepsUnits t) ∧
  (∀ (s : State) (o : Nat) (q : Requester) (bar : Bar) (off : BitVec 34) (data : List Byte), bar = .bar2 → s.memReach q = true
    → data ≠ [] → s.inBar .bar2 off.toNat data.length = true → s.bar2Judge q off.toNat data.length true = .denied o → Gives
    (.hostMemWrite q bar off data) s fun t => t.f Blk.mem MEM.STAT_DENIED = 1 ∧ t.f Blk.mem MEM.DENY_ADDR_OFFSET = o ∧
    (t.intStat Blk.mem).getLsbD MEM.INT_DENIED = true ∧ s.KeepsRegs [Blk.mem] t ∧ s.KeepsBlk Blk.mem [MEM.STAT,
    MEM.DENY_ADDR, HDR.EVT_TIME_LO, HDR.EVT_TIME_HI] t ∧ s.KeepsUnits t) ∧
  (∀ (s : State) (o : Nat) (q : Requester) (bar : Bar) (off : BitVec 34) (data : List Byte), bar = .bar2 → s.memReach q = true
    → data ≠ [] → s.inBar .bar2 off.toNat data.length = true → s.bar2Judge q off.toNat data.length true = .off o → Gives
    (.hostMemWrite q bar off data) s fun t => t.f Blk.glb GLB.OFF_ACC_STAT_OFF_ACCESS = 1 ∧ t.f Blk.glb GLB.OFF_ACC_ADDR_BAR
    = 1 ∧ t.f Blk.glb GLB.OFF_ACC_ADDR_OFFSET = o ∧ t.fb Blk.glb GLB.OFF_ACC_STAT_WAS_WRITE = true ∧ s.KeepsRegs [Blk.glb] t
    ∧ s.KeepsUnits t)

/-- When the lockstep cores disagree, the Keeper goes back to the boot ROM, KSTAT.LOCKSTEP is set, LOCKSTEP_CNT counts one
more and LOCKSTEP is raised; no register of another block changes and nothing of the datapath, the lane engines, the
ports, the scheduler or DMA; the restart ends on the fast path. Formalises R413. -/
def Obligations.LockstepRestart : Prop :=
  (∀ (s : State), s.domReady Dom.kpr = true → Gives .lockstep s fun t => t.f Blk.kpr KPR.KSTAT_LOCKSTEP = 1 ∧ t.f Blk.kpr
    KPR.KSTAT_STAGE = 0 ∧ t.f Blk.kpr KPR.KSTAT_LOCKSTEP_CNT = min (2 ^ KPR.KSTAT_LOCKSTEP_CNT.w - 1) (s.f Blk.kpr
    KPR.KSTAT_LOCKSTEP_CNT + 1) ∧ (t.intStat Blk.kpr).getLsbD KPR.INT_LOCKSTEP = true ∧ s.KeepsRegs [Blk.kpr] t ∧
    s.KeepsUnitsBut (fun u => { u with cfgv := {} }) t ∧ t.cfgv.active = s.cfgv.active) ∧
  (∀ (s : State) (us : Word) (fw : Option (List FwImage)), s.domReady Dom.kpr = true → s.f Blk.kpr KPR.KSTAT_STAGE = 0 →
    s.pwr.exitStep = 0 → fw = none → Gives (.keeperRestartDone us fw) s fun t => t.f Blk.kpr KPR.KSTAT_STAGE = 7 ∧ t.f
    Blk.kpr KPR.KSTAT_FAST = 1 ∧ t.fuse = s.fuse)

/-- When EN goes from 1 to 0 the time base stops and holds its value and its frequency word, a pending step is withdrawn
unused, STEP_PEND clears and STEP_USED stays; while the time base does not run (RUNNING = 0) an AON clock edge leaves
the value; when EN goes back to 1 it resumes from the held value, re-seeded (STEP_USED = 0), with COARSE unchanged
(unless the write sets CLR_COARSE). Formalises R278. -/
def Obligations.TimeBaseStops : Prop :=
  (∀ (s : State) (q : Requester) (n : Fin 4) (v : Word), s.Serves q Blk.time true → s.fb Blk.time (TIME.TB_CTL_EN n) = true →
    (TIME.TB_CTL_EN n).get v = 0 → (TIME.TB_CTL_STEP_GO n).get v = 0 → Gives (.tbEnable q n v) s fun t => t.fb Blk.time
    (TIME.TB_CTL_EN n) = false ∧ t.fb Blk.time (TIME.TB_STAT_RUNNING n) = false ∧ t.tb = s.tb ∧ t.reg Blk.time
    (TIME.TB_FREQ_LO n) = s.reg Blk.time (TIME.TB_FREQ_LO n) ∧ t.reg Blk.time (TIME.TB_FREQ_HI n) = s.reg Blk.time
    (TIME.TB_FREQ_HI n) ∧ t.f Blk.time (TIME.TB_STAT_STEP_PEND n) = 0 ∧ SMap.get? t.tbStep n = none ∧ t.f Blk.time
    (TIME.TB_STAT_STEP_USED n) = s.f Blk.time (TIME.TB_STAT_STEP_USED n) ∧ t.f Blk.time (TIME.TB_STAT_COARSE n) = (if
    (TIME.TB_CTL_CLR_COARSE n).get v = 1 then 0 else s.f Blk.time (TIME.TB_STAT_COARSE n)) ∧ s.KeepsRegs [Blk.time, Blk.log,
    Blk.sched] t ∧ s.KeepsUnitsBut (fun u => { u with sram := {}, tbStep := [], sched := {}, log := {} }) t ∧ s.KeepsRam t) ∧
  (∀ (s t : State) (n : Fin 4), s.fb Blk.time (TIME.TB_STAT_RUNNING n) = false → tick s = .next t → t.tbAcc n = s.tbAcc n) ∧
  (∀ (s : State) (q : Requester) (n : Fin 4) (v : Word), s.Serves q Blk.time true → s.fb Blk.time (TIME.TB_CTL_EN n) = false →
    (TIME.TB_CTL_EN n).get v = 1 → (TIME.TB_CTL_STEP_CANCEL n).get v = 0 → (TIME.TB_CTL_STEP_GO n).get v = 0 → Gives
    (.tbEnable q n v) s fun t => t.fb Blk.time (TIME.TB_CTL_EN n) = true ∧ t.fb Blk.time (TIME.TB_STAT_RUNNING n) = true ∧
    t.tb = s.tb ∧ t.f Blk.time (TIME.TB_STAT_STEP_USED n) = 0 ∧ t.f Blk.time (TIME.TB_STAT_COARSE n) = (if
    (TIME.TB_CTL_CLR_COARSE n).get v = 1 then 0 else s.f Blk.time (TIME.TB_STAT_COARSE n)) ∧ s.KeepsRegs [Blk.time] t ∧
    s.KeepsUnitsBut (fun u => { u with sram := {}, tbStep := [], sched := {}, log := {} }) t ∧ s.KeepsRam t)

/-- When STAGE goes from 0 to 1 every shadow of the block takes its active value; while STAGE = 1 a write through the bus of
any register of the block leaves its RWS bits and the words the block uses as they are, and for a port's placement
registers (PORT_CFG, HOST_MAP, LINE_MAP) the RWS bits of the shadow take the written value. Formalises R45. -/
def Obligations.StagedWrites : Prop :=
  (∀ (s : State) (off : Nat) (q : Requester) (b : Fin 179), s.Serves q b true → hasStage (blkType b) = true → s.staged b =
    false → off < 4096 → Gives (.stageOn q b) s fun t => t.staged b = true ∧ t.shadow b off &&& (classBits b off).2.1 =
    s.reg b off &&& (classBits b off).2.1 ∧ t.reg b off &&& (classBits b off).2.1 = s.reg b off &&& (classBits b off).2.1 ∧
    s.KeepsRegs [b] t ∧ s.KeepsUnits t) ∧
  (∀ (s : State) (b : Nat) (off : Nat) (al : Nat) (q : Requester) (addr : BitVec 24) (be : BitVec 4) (v : Word), s.dbgAdmits q
    true = true → be = 15 → addr.toNat % 4 = 0 → bar0Target addr.toNat = .reg b off al → s.reach b = true → s.staged b =
    true → 0x30 ≤ off → Gives (.regWrite q addr be v) s fun t => t.reg b off &&& (classBits b off).2.1 = s.reg b off &&&
    (classBits b off).2.1 ∧ t.usedReg b off &&& (classBits b off).2.1 = s.usedReg b off &&& (classBits b off).2.1 ∧
    s.KeepsRegs ([b, Blk.glb, Blk.time, Blk.pwr, Blk.kpr, Blk.sec, Blk.cfgv, Blk.mem, Blk.ddr, Blk.dma, Blk.log, Blk.tsu,
    Blk.sched, Blk.hk, Blk.filt, Blk.hdac, Blk.therm, Blk.fog, Blk.twin, Blk.pmap, Blk.fec] ++ Blk.lines ++ Blk.lineEngines
    ++ Blk.hostEngines ++ Blk.hosts ++ Blk.ports) t ∧ s.KeepsUnitsBut (fun u =>
    { u with hold := [], msix := [], domBusy := 0, intnCopy := 0, line := [], host := [], engines := [], prims := [], sram := {}, portTsu := [], laneTsu := [], tpi := [], tbStep := [], tpoIssued := [], sched := {}, fog := {}, twin := {}, hk := [], hdac := [], fcoef := [], ddr := {}, therm := {}, pwr := {}, dma := [], tap := {}, log := {}, fuse := {}, flash := {}, dbg := {}, cfgv := {}, bist := {}, portMon := [] })
    t) ∧
  (∀ (s : State) (p : Fin 64) (off : Nat) (q : Requester) (addr : BitVec 24) (be : BitVec 4) (v : Word), s.dbgAdmits q true =
    true → be = 15 → addr.toNat % 4 = 0 → bar0Target addr.toNat = .reg (Blk.port p) off 0 → s.reach (Blk.port p) = true →
    s.staged (Blk.port p) = true → (off = PORT.PORT_CFG ∨ off = PORT.HOST_MAP ∨ off = PORT.LINE_MAP) → Gives (.regWrite q
    addr be v) s fun t => t.shadow (Blk.port p) off &&& (classBits (Blk.port p) off).2.1 = v &&& (classBits (Blk.port p)
    off).2.1 ∧ t.usedReg (Blk.port p) off = s.usedReg (Blk.port p) off ∧ s.KeepsRegs [Blk.port p] t ∧ s.KeepsUnits t)

/-- A whole-word write to a register of GLB from +0x100 on (but INTN_MASK0, whose copy in PD_AON follows it, and
OFF_ACC_STAT, whose count clears with its flag) stores the written, set, cleared or toggled word in the RW bits, as the
alias says; it clears the W1C bits written 1 through the direct window, and only through it; every other bit, register
and unit stays. No counter of GLB is latched in any state that a run reaches, which the premise says. It follows
spec/00_scope.md, spec/02_control_interface.md. -/
def Obligations.GlbRegisters : Prop :=
  (∀ (s : State) (off : Nat) (al : Nat) (q : Requester) (addr : BitVec 24) (be : BitVec 4) (v : Word), s.dbgAdmits q true =
    true → be = 15 → addr.toNat % 4 = 0 → bar0Target addr.toNat = .reg Blk.glb off al → s.reach Blk.glb = true → 0x100 ≤ off
    → off ≠ GLB.INTN_MASK 0 → off ≠ GLB.OFF_ACC_STAT → SMap.get? s.latched (regKey Blk.glb off) = none → Gives (.regWrite q
    addr be v) s fun t => t.reg Blk.glb off &&& (classBits Blk.glb off).1 = (if al = 0 then v else if al = 1 then s.reg
    Blk.glb off ||| v else if al = 2 then s.reg Blk.glb off &&& ~~~v else s.reg Blk.glb off ^^^ v) &&& (classBits Blk.glb
    off).1 ∧ t.reg Blk.glb off &&& ~~~(classBits Blk.glb off).1 = s.reg Blk.glb off &&& ~~~(classBits Blk.glb off).1 &&&
    ~~~(if al = 0 then v &&& (classBits Blk.glb off).2.2.1 else 0) ∧ s.KeepsRegs [Blk.glb] t ∧ s.KeepsBlk Blk.glb [off] t ∧
    s.KeepsUnits t)

/-- A block contributes while its domain is powered and INT_STAT AND INT_EN is not 0; a vector's input is the OR of the
contributions mapped to it; INT_N is asserted exactly while a block enabled in INTN_MASK contributes, and, while PD_FAB
is not up, exactly while PWR, AON or THERM contributes with its bit of the copy set, whatever PCIe and the MSI-X masks
hold. It follows spec/02_control_interface.md. -/
def Obligations.InterruptLine : Prop :=
  (∀ (s : State) (b : Nat), s.contributes b = true ↔ s.domOn.getLsbD (blkDomain b) = true ∧ s.intStat b &&& s.intEnable b ≠ 0) ∧
  (∀ (s : State) (v : Nat), s.vectorInput v = true ↔ ∃ b, s.contributes b = true ∧ s.vectorOf b = v) ∧
  (∀ s : State, s.domReady Dom.fab = true → (s.intN = true ↔ ∃ b, s.contributes b = true ∧ (s.reg Blk.glb (GLB.INTN_MASK (b /
    32))).getLsbD (b % 32) = true)) ∧
  (∀ s : State, s.domReady Dom.fab = false → (s.intN = true ↔ ∃ b, (b = Blk.pwr ∨ b = Blk.aon ∨ b = Blk.therm) ∧ s.contributes
    b = true ∧ s.intnCopy.getLsbD b = true)) ∧
  (∀ (s : State) (m : SMap Word) (x : BitVec 256) (e p : Bool), State.intN
    { s with msix := m, pba := x, msixEn := e, perst := p } = s.intN)

/-- The stored byte's check bits are the sums that the spec lists, and p the sum of the other twelve; a read of the stored
bits gives the byte, a read with any one of the 13 bits wrong gives the byte corrected, and a read with any two bits
wrong is flagged. The places of the check bits in the 13 stored bits are the model's (log entry 115). It follows
spec/14_memory.md. -/
def Obligations.LightCode : Prop :=
  (∀ d : Byte, let w := Codec.eccEncode d.toNat; w < 2 ^ 13 ∧ w % 256 = d.toNat ∧ w.testBit 8 = (d.getLsbD 0 ^^ d.getLsbD 1 ^^
    d.getLsbD 3 ^^ d.getLsbD 4 ^^ d.getLsbD 6) ∧ w.testBit 9 = (d.getLsbD 0 ^^ d.getLsbD 2 ^^ d.getLsbD 3 ^^ d.getLsbD 5 ^^
    d.getLsbD 6) ∧ w.testBit 10 = (d.getLsbD 1 ^^ d.getLsbD 2 ^^ d.getLsbD 3 ^^ d.getLsbD 7) ∧ w.testBit 11 = (d.getLsbD 4
    ^^ d.getLsbD 5 ^^ d.getLsbD 6 ^^ d.getLsbD 7) ∧ w.testBit 12 = ((List.range 12).foldl (fun x i => x ^^ w.testBit i)
    false)) ∧
  (∀ d : Byte, Codec.eccDecode (Codec.eccEncode d.toNat) = .clean d.toNat) ∧
  (∀ (d : Byte) (i : Fin 13), Codec.eccDecode (Codec.eccEncode d.toNat ^^^ 2 ^ i.val) = .corrected d.toNat) ∧
  (∀ (d : Byte) (i j : Fin 13), i ≠ j → Codec.eccDecode (Codec.eccEncode d.toNat ^^^ 2 ^ i.val ^^^ 2 ^ j.val) = .flagged)

/-- An engine in a loop of n passes over the words st to en, at st, is back at st with n - k passes left after k times the
body's length of instructions that do not branch, for every k below n, and after n times it stands after the body with
the loop ended, and nothing but PC and loop has changed; a branch to a word outside the body ends the loop, and one
inside keeps it. It follows spec/06_lane_engines.md. -/
def Obligations.HardwareLoop : Prop :=
  (∀ (g : Engine) (n st en k : Nat), st ≤ en → en < 2048 → k < n → g.loop = some (n, st, en) → g.pc = st → engSeq^[k * (en -
    st + 1)] g = { g with loop := some (n - k, st, en) }) ∧
  (∀ (g : Engine) (n st en : Nat), st ≤ en → en < 2048 → 1 ≤ n → g.loop = some (n, st, en) → g.pc = st → engSeq^[n * (en - st
    + 1)] g = { g with pc := (en + 1) % 2048, loop := none }) ∧
  (∀ (g : Engine) (n st en pc : Nat), g.loop = some (n, st, en) → engJump g pc =
    { g with pc := pc, loop := if st ≤ pc ∧ pc ≤ en then some (n, st, en) else none })

/-- No command changes the queue of waiting commands. Only reset, a step of a power state's entry or exit, and DOM_DONE
power a domain up or down; only reset, PCIE_PERST and LINK_UP move PCIE_PERST_N; only reset and the two DAC_CLR rows
move DAC_CLR_N; only reset, power changes, PCIE_PERST and PCIE_CONFIG_WRITE change D3hot, bus mastering or MSI-X enable;
and only reset, power changes, an applied step and an edge at a time input change the value of a time base. It follows
spec/16_power.md, spec/02_control_interface.md, spec/07_host_lanes.md, spec/11_time.md, spec/19_electrical.md. -/
def Obligations.OnlyTheseCommands : Prop :=
  (∀ (c : Instr) (s t : State), exec c s = .next t → t.pending = s.pending ∧ (c.movesDomains = false → t.domOn = s.domOn) ∧
    (c.movesPerst = false → t.perst = s.perst) ∧ (c.movesDacClr = false → t.clrPin = s.clrPin) ∧ (c.movesFunction = false →
    t.d3hot = s.d3hot ∧ t.busMaster = s.busMaster ∧ t.msixEn = s.msixEn) ∧ (c.movesTime = false → t.tb = s.tb))

/-- From every state whose fuses hold one of the four lifecycle states, at most 63 anti-rollback fuses and a transition in
progress that leads forward, every step gives such a state again, and neither the lifecycle state nor the anti-rollback
counter is taken back. It follows spec/17_trust.md. -/
def Obligations.FusesOnlyForward : Prop :=
  (∀ s t : State, s.fuse.Ok → step s = .next t → t.fuse.Ok ∧ s.fuse.lifecycle ≤ t.fuse.lifecycle ∧ s.fuse.arb ≤ t.fuse.arb)

/-- From every state whose on-chip SRAM and DDR4 contents are in canonical form (rising addresses, no entry that equals what
an unlisted byte holds), every step gives such a state again. It follows spec/14_memory.md. -/
def Obligations.MemoryForm : Prop :=
  (∀ s t : State, Memory.wf s.sram.bytes → Memory.wf s.ddr.bytes → step s = .next t → Memory.wf t.sram.bytes ∧ Memory.wf
    t.ddr.bytes)
end

