-- ==== Sys2Proof/Laws/Map.lean ====
section
/-! SUPPORT. The laws of sparse maps: what a read after a write gives, that a write leaves every other key alone, and that
the canonical form is kept. -/

namespace Sys2Proof.Machine.SMap

variable {α : Type}

theorem get?_set_self (m : SMap α) (k : Nat) (v : α) : get? (set m k v) k = some v := by
  induction m with
  | nil => simp [set, get?]
  | cons e t ih =>
    obtain ⟨a, b⟩ := e
    simp only [set]
    split
    · simp [get?]
    · split
      · simp [get?]
      · rename_i h; simp [get?, h, ih]

theorem get?_set_ne (m : SMap α) {k j : Nat} (h : k ≠ j) (v : α) : get? (set m k v) j = get? m j := by
  induction m with
  | nil => simp [set, get?, h]
  | cons e t ih =>
    obtain ⟨a, b⟩ := e
    simp only [set]
    split
    · simp [get?, h]
    · split
      · rename_i h'; subst h'; simp [get?, h]
      · simp [get?, ih]

theorem get?_filter (p : Nat → Bool) (m : SMap α) (j : Nat) :
    get? (m.filter fun e => p e.1) j = if p j then get? m j else none := by
  induction m with
  | nil => simp [get?]
  | cons e t ih =>
    obtain ⟨a, b⟩ := e
    by_cases ha : a = j
    · subst ha; cases hp : p a <;> simp [List.filter, hp, get?, ih]
    · cases hp : p a <;> simp [List.filter, hp, get?, ih, ha]

theorem get?_erase_self (m : SMap α) (k : Nat) : get? (erase m k) k = none := by
  have := get?_filter (fun x => x != k) m k
  simpa [erase] using this

theorem get?_erase_ne (m : SMap α) {k j : Nat} (h : k ≠ j) : get? (erase m k) j = get? m j := by
  have := get?_filter (fun x => x != k) m j
  simpa [erase, Ne.symm h] using this

@[simp] theorem get?_drop (p : Nat → Bool) (m : SMap α) (j : Nat) :
    get? (drop p m) j = if p j then none else get? m j := by
  have := get?_filter (fun x => !p x) m j
  cases h : p j <;> simp_all [drop]

@[simp] theorem get_set_self (d : α) (m : SMap α) (k : Nat) (v : α) : get d (set m k v) k = v := by
  simp [get, get?_set_self]

theorem get_set_ne (d : α) (m : SMap α) {k j : Nat} (h : k ≠ j) (v : α) : get d (set m k v) j = get d m j := by
  simp [get, get?_set_ne m h]

/-- Reading back what was written, in a map that keeps no entry equal to `d`. -/
@[simp] theorem get_put_self [DecidableEq α] (d : α) (m : SMap α) (k : Nat) (v : α) : get d (put d m k v) k = v := by
  unfold put
  split
  · rename_i h; simp [get, get?_erase_self, h]
  · simp [get, get?_set_self]

/-- A write leaves every other key alone, whatever that key reads as when unlisted. -/
theorem get_put_ne [DecidableEq α] (d e : α) (m : SMap α) {k j : Nat} (h : k ≠ j) (v : α) :
    get e (put d m k v) j = get e m j := by
  unfold put
  split
  · simp [get, get?_erase_ne m h]
  · simp [get, get?_set_ne m h]

@[simp] theorem get_nil (d : α) (k : Nat) : get d [] k = d := rfl

/-! ### The canonical form -/

theorem mem_set {m : SMap α} {k : Nat} {v : α} {e : Nat × α} (h : e ∈ set m k v) : e = (k, v) ∨ e ∈ m := by
  induction m with
  | nil => simpa [set] using h
  | cons x t ih =>
    obtain ⟨a, b⟩ := x
    simp only [set] at h
    split at h
    · simpa using h
    · split at h
      · simp only [List.mem_cons] at h ⊢; tauto
      · simp only [List.mem_cons] at h ⊢
        rcases h with h | h
        · tauto
        · rcases ih h with h | h <;> tauto

theorem sorted_set {m : SMap α} (h : sorted m) (k : Nat) (v : α) : sorted (set m k v) := by
  induction m with
  | nil => simp [set, sorted]
  | cons x t ih =>
    obtain ⟨a, b⟩ := x
    simp only [sorted, List.pairwise_cons] at h ih ⊢
    simp only [set]
    split
    · rename_i hk
      refine List.pairwise_cons.2 ⟨fun e he => ?_, List.pairwise_cons.2 h⟩
      rcases List.mem_cons.1 he with rfl | he
      · exact hk
      · exact lt_trans hk (h.1 e he)
    · split
      · rename_i hk; subst hk
        exact List.pairwise_cons.2 ⟨fun e he => h.1 e he, h.2⟩
      · refine List.pairwise_cons.2 ⟨fun e he => ?_, ih h.2⟩
        rcases mem_set he with rfl | he
        · show a < k; omega
        · exact h.1 e he

theorem sorted_filter {m : SMap α} (h : sorted m) (p : Nat × α → Bool) : sorted (m.filter p) :=
  List.Pairwise.filter p h

theorem wf_erase {d : Nat → α} {m : SMap α} (h : wf d m) (k : Nat) : wf d (erase m k) :=
  ⟨sorted_filter h.1 _, fun e he => h.2 e (List.mem_of_mem_filter he)⟩

theorem wf_drop {d : Nat → α} {m : SMap α} (h : wf d m) (p : Nat → Bool) : wf d (drop p m) :=
  ⟨sorted_filter h.1 _, fun e he => h.2 e (List.mem_of_mem_filter he)⟩

/-- A write that removes an entry equal to the unlisted value keeps the canonical form. -/
theorem wf_put [DecidableEq α] {d : Nat → α} {m : SMap α} (h : wf d m) (k : Nat) (v : α) : wf d (put (d k) m k v) := by
  unfold put
  split
  · exact wf_erase h k
  · rename_i hv
    refine ⟨sorted_set h.1 k v, fun e he => ?_⟩
    rcases mem_set he with rfl | he
    · exact hv
    · exact h.2 e he

theorem wf_nil (d : Nat → α) : wf d [] := ⟨List.Pairwise.nil, by simp⟩

end Sys2Proof.Machine.SMap
end

