-- ==== Sys2Proof/Laws/State.lean ====
section
/-! SUPPORT. What each update of the state leaves alone: one lemma per field per update, each true by unfolding, so that no
later proof unfolds a record update. -/

namespace Sys2Proof.Machine.State

variable (s : State)


/-! ### setReg -/

@[simp] theorem setReg_pending (b off : Nat) (w : Word) : (s.setReg b off w).pending = s.pending := rfl
@[simp] theorem setReg_shadows (b off : Nat) (w : Word) : (s.setReg b off w).shadows = s.shadows := rfl
@[simp] theorem setReg_used (b off : Nat) (w : Word) : (s.setReg b off w).used = s.used := rfl
@[simp] theorem setReg_latched (b off : Nat) (w : Word) : (s.setReg b off w).latched = s.latched := rfl
@[simp] theorem setReg_pairBad (b off : Nat) (w : Word) : (s.setReg b off w).pairBad = s.pairBad := rfl
@[simp] theorem setReg_ints (b off : Nat) (w : Word) : (s.setReg b off w).ints = s.ints := rfl
@[simp] theorem setReg_intEn (b off : Nat) (w : Word) : (s.setReg b off w).intEn = s.intEn := rfl
@[simp] theorem setReg_parBad (b off : Nat) (w : Word) : (s.setReg b off w).parBad = s.parBad := rfl
@[simp] theorem setReg_parSeen (b off : Nat) (w : Word) : (s.setReg b off w).parSeen = s.parSeen := rfl
@[simp] theorem setReg_intnCopy (b off : Nat) (w : Word) : (s.setReg b off w).intnCopy = s.intnCopy := rfl
@[simp] theorem setReg_hold (b off : Nat) (w : Word) : (s.setReg b off w).hold = s.hold := rfl
@[simp] theorem setReg_i2c (b off : Nat) (w : Word) : (s.setReg b off w).i2c = s.i2c := rfl
@[simp] theorem setReg_msix (b off : Nat) (w : Word) : (s.setReg b off w).msix = s.msix := rfl
@[simp] theorem setReg_pba (b off : Nat) (w : Word) : (s.setReg b off w).pba = s.pba := rfl
@[simp] theorem setReg_msixEn (b off : Nat) (w : Word) : (s.setReg b off w).msixEn = s.msixEn := rfl
@[simp] theorem setReg_busMaster (b off : Nat) (w : Word) : (s.setReg b off w).busMaster = s.busMaster := rfl
@[simp] theorem setReg_d3hot (b off : Nat) (w : Word) : (s.setReg b off w).d3hot = s.d3hot := rfl
@[simp] theorem setReg_inReset (b off : Nat) (w : Word) : (s.setReg b off w).inReset = s.inReset := rfl
@[simp] theorem setReg_held (b off : Nat) (w : Word) : (s.setReg b off w).held = s.held := rfl
@[simp] theorem setReg_perst (b off : Nat) (w : Word) : (s.setReg b off w).perst = s.perst := rfl
@[simp] theorem setReg_domOn (b off : Nat) (w : Word) : (s.setReg b off w).domOn = s.domOn := rfl
@[simp] theorem setReg_domBusy (b off : Nat) (w : Word) : (s.setReg b off w).domBusy = s.domBusy := rfl
@[simp] theorem setReg_fuseFloorHk (b off : Nat) (w : Word) : (s.setReg b off w).fuseFloorHk = s.fuseFloorHk := rfl
@[simp] theorem setReg_fuseSub (b off : Nat) (w : Word) : (s.setReg b off w).fuseSub = s.fuseSub := rfl
@[simp] theorem setReg_fuseSeg (b off : Nat) (w : Word) : (s.setReg b off w).fuseSeg = s.fuseSeg := rfl
@[simp] theorem setReg_refAt (b off : Nat) (w : Word) : (s.setReg b off w).refAt = s.refAt := rfl
@[simp] theorem setReg_refBack (b off : Nat) (w : Word) : (s.setReg b off w).refBack = s.refBack := rfl
@[simp] theorem setReg_bar4Gib (b off : Nat) (w : Word) : (s.setReg b off w).bar4Gib = s.bar4Gib := rfl
@[simp] theorem setReg_clrPin (b off : Nat) (w : Word) : (s.setReg b off w).clrPin = s.clrPin := rfl
@[simp] theorem setReg_dpTicks (b off : Nat) (w : Word) : (s.setReg b off w).dpTicks = s.dpTicks := rfl
@[simp] theorem setReg_tb (b off : Nat) (w : Word) : (s.setReg b off w).tb = s.tb := rfl
@[simp] theorem setReg_line (b off : Nat) (w : Word) : (s.setReg b off w).line = s.line := rfl
@[simp] theorem setReg_host (b off : Nat) (w : Word) : (s.setReg b off w).host = s.host := rfl
@[simp] theorem setReg_engines (b off : Nat) (w : Word) : (s.setReg b off w).engines = s.engines := rfl
@[simp] theorem setReg_prims (b off : Nat) (w : Word) : (s.setReg b off w).prims = s.prims := rfl
@[simp] theorem setReg_sram (b off : Nat) (w : Word) : (s.setReg b off w).sram = s.sram := rfl
@[simp] theorem setReg_portTsu (b off : Nat) (w : Word) : (s.setReg b off w).portTsu = s.portTsu := rfl
@[simp] theorem setReg_laneTsu (b off : Nat) (w : Word) : (s.setReg b off w).laneTsu = s.laneTsu := rfl
@[simp] theorem setReg_tpi (b off : Nat) (w : Word) : (s.setReg b off w).tpi = s.tpi := rfl
@[simp] theorem setReg_tbStep (b off : Nat) (w : Word) : (s.setReg b off w).tbStep = s.tbStep := rfl
@[simp] theorem setReg_tpoIssued (b off : Nat) (w : Word) : (s.setReg b off w).tpoIssued = s.tpoIssued := rfl
@[simp] theorem setReg_sched (b off : Nat) (w : Word) : (s.setReg b off w).sched = s.sched := rfl
@[simp] theorem setReg_fog (b off : Nat) (w : Word) : (s.setReg b off w).fog = s.fog := rfl
@[simp] theorem setReg_twin (b off : Nat) (w : Word) : (s.setReg b off w).twin = s.twin := rfl
@[simp] theorem setReg_hk (b off : Nat) (w : Word) : (s.setReg b off w).hk = s.hk := rfl
@[simp] theorem setReg_hdac (b off : Nat) (w : Word) : (s.setReg b off w).hdac = s.hdac := rfl
@[simp] theorem setReg_fcoef (b off : Nat) (w : Word) : (s.setReg b off w).fcoef = s.fcoef := rfl
@[simp] theorem setReg_ddr (b off : Nat) (w : Word) : (s.setReg b off w).ddr = s.ddr := rfl
@[simp] theorem setReg_therm (b off : Nat) (w : Word) : (s.setReg b off w).therm = s.therm := rfl
@[simp] theorem setReg_pwr (b off : Nat) (w : Word) : (s.setReg b off w).pwr = s.pwr := rfl
@[simp] theorem setReg_dma (b off : Nat) (w : Word) : (s.setReg b off w).dma = s.dma := rfl
@[simp] theorem setReg_tap (b off : Nat) (w : Word) : (s.setReg b off w).tap = s.tap := rfl
@[simp] theorem setReg_log (b off : Nat) (w : Word) : (s.setReg b off w).log = s.log := rfl
@[simp] theorem setReg_fuse (b off : Nat) (w : Word) : (s.setReg b off w).fuse = s.fuse := rfl
@[simp] theorem setReg_flash (b off : Nat) (w : Word) : (s.setReg b off w).flash = s.flash := rfl
@[simp] theorem setReg_dbg (b off : Nat) (w : Word) : (s.setReg b off w).dbg = s.dbg := rfl
@[simp] theorem setReg_cfgv (b off : Nat) (w : Word) : (s.setReg b off w).cfgv = s.cfgv := rfl
@[simp] theorem setReg_bist (b off : Nat) (w : Word) : (s.setReg b off w).bist = s.bist := rfl
@[simp] theorem setReg_sweepAt (b off : Nat) (w : Word) : (s.setReg b off w).sweepAt = s.sweepAt := rfl
@[simp] theorem setReg_sweepLap (b off : Nat) (w : Word) : (s.setReg b off w).sweepLap = s.sweepLap := rfl
@[simp] theorem setReg_portMon (b off : Nat) (w : Word) : (s.setReg b off w).portMon = s.portMon := rfl
@[simp] theorem setReg_free (b off : Nat) (w : Word) : (s.setReg b off w).free = s.free := rfl
@[simp] theorem setReg_out (b off : Nat) (w : Word) : (s.setReg b off w).out = s.out := rfl
@[simp] theorem setReg_intStat (b off : Nat) (w : Word) (b2 : Nat) : (s.setReg b off w).intStat b2 = s.intStat b2 := rfl
@[simp] theorem setReg_domReady (b off : Nat) (w : Word) (d : Nat) : (s.setReg b off w).domReady d = s.domReady d := rfl
@[simp] theorem setReg_reach (b off : Nat) (w : Word) (b2 : Nat) : (s.setReg b off w).reach b2 = s.reach b2 := rfl

/-! ### setF -/

@[simp] theorem setF_pending (b : Nat) (g : Fld) (v : Nat) : (s.setF b g v).pending = s.pending := rfl
@[simp] theorem setF_shadows (b : Nat) (g : Fld) (v : Nat) : (s.setF b g v).shadows = s.shadows := rfl
@[simp] theorem setF_used (b : Nat) (g : Fld) (v : Nat) : (s.setF b g v).used = s.used := rfl
@[simp] theorem setF_latched (b : Nat) (g : Fld) (v : Nat) : (s.setF b g v).latched = s.latched := rfl
@[simp] theorem setF_pairBad (b : Nat) (g : Fld) (v : Nat) : (s.setF b g v).pairBad = s.pairBad := rfl
@[simp] theorem setF_ints (b : Nat) (g : Fld) (v : Nat) : (s.setF b g v).ints = s.ints := rfl
@[simp] theorem setF_intEn (b : Nat) (g : Fld) (v : Nat) : (s.setF b g v).intEn = s.intEn := rfl
@[simp] theorem setF_parBad (b : Nat) (g : Fld) (v : Nat) : (s.setF b g v).parBad = s.parBad := rfl
@[simp] theorem setF_parSeen (b : Nat) (g : Fld) (v : Nat) : (s.setF b g v).parSeen = s.parSeen := rfl
@[simp] theorem setF_intnCopy (b : Nat) (g : Fld) (v : Nat) : (s.setF b g v).intnCopy = s.intnCopy := rfl
@[simp] theorem setF_hold (b : Nat) (g : Fld) (v : Nat) : (s.setF b g v).hold = s.hold := rfl
@[simp] theorem setF_i2c (b : Nat) (g : Fld) (v : Nat) : (s.setF b g v).i2c = s.i2c := rfl
@[simp] theorem setF_msix (b : Nat) (g : Fld) (v : Nat) : (s.setF b g v).msix = s.msix := rfl
@[simp] theorem setF_pba (b : Nat) (g : Fld) (v : Nat) : (s.setF b g v).pba = s.pba := rfl
@[simp] theorem setF_msixEn (b : Nat) (g : Fld) (v : Nat) : (s.setF b g v).msixEn = s.msixEn := rfl
@[simp] theorem setF_busMaster (b : Nat) (g : Fld) (v : Nat) : (s.setF b g v).busMaster = s.busMaster := rfl
@[simp] theorem setF_d3hot (b : Nat) (g : Fld) (v : Nat) : (s.setF b g v).d3hot = s.d3hot := rfl
@[simp] theorem setF_inReset (b : Nat) (g : Fld) (v : Nat) : (s.setF b g v).inReset = s.inReset := rfl
@[simp] theorem setF_held (b : Nat) (g : Fld) (v : Nat) : (s.setF b g v).held = s.held := rfl
@[simp] theorem setF_perst (b : Nat) (g : Fld) (v : Nat) : (s.setF b g v).perst = s.perst := rfl
@[simp] theorem setF_domOn (b : Nat) (g : Fld) (v : Nat) : (s.setF b g v).domOn = s.domOn := rfl
@[simp] theorem setF_domBusy (b : Nat) (g : Fld) (v : Nat) : (s.setF b g v).domBusy = s.domBusy := rfl
@[simp] theorem setF_fuseFloorHk (b : Nat) (g : Fld) (v : Nat) : (s.setF b g v).fuseFloorHk = s.fuseFloorHk := rfl
@[simp] theorem setF_fuseSub (b : Nat) (g : Fld) (v : Nat) : (s.setF b g v).fuseSub = s.fuseSub := rfl
@[simp] theorem setF_fuseSeg (b : Nat) (g : Fld) (v : Nat) : (s.setF b g v).fuseSeg = s.fuseSeg := rfl
@[simp] theorem setF_refAt (b : Nat) (g : Fld) (v : Nat) : (s.setF b g v).refAt = s.refAt := rfl
@[simp] theorem setF_refBack (b : Nat) (g : Fld) (v : Nat) : (s.setF b g v).refBack = s.refBack := rfl
@[simp] theorem setF_bar4Gib (b : Nat) (g : Fld) (v : Nat) : (s.setF b g v).bar4Gib = s.bar4Gib := rfl
@[simp] theorem setF_clrPin (b : Nat) (g : Fld) (v : Nat) : (s.setF b g v).clrPin = s.clrPin := rfl
@[simp] theorem setF_dpTicks (b : Nat) (g : Fld) (v : Nat) : (s.setF b g v).dpTicks = s.dpTicks := rfl
@[simp] theorem setF_tb (b : Nat) (g : Fld) (v : Nat) : (s.setF b g v).tb = s.tb := rfl
@[simp] theorem setF_line (b : Nat) (g : Fld) (v : Nat) : (s.setF b g v).line = s.line := rfl
@[simp] theorem setF_host (b : Nat) (g : Fld) (v : Nat) : (s.setF b g v).host = s.host := rfl
@[simp] theorem setF_engines (b : Nat) (g : Fld) (v : Nat) : (s.setF b g v).engines = s.engines := rfl
@[simp] theorem setF_prims (b : Nat) (g : Fld) (v : Nat) : (s.setF b g v).prims = s.prims := rfl
@[simp] theorem setF_sram (b : Nat) (g : Fld) (v : Nat) : (s.setF b g v).sram = s.sram := rfl
@[simp] theorem setF_portTsu (b : Nat) (g : Fld) (v : Nat) : (s.setF b g v).portTsu = s.portTsu := rfl
@[simp] theorem setF_laneTsu (b : Nat) (g : Fld) (v : Nat) : (s.setF b g v).laneTsu = s.laneTsu := rfl
@[simp] theorem setF_tpi (b : Nat) (g : Fld) (v : Nat) : (s.setF b g v).tpi = s.tpi := rfl
@[simp] theorem setF_tbStep (b : Nat) (g : Fld) (v : Nat) : (s.setF b g v).tbStep = s.tbStep := rfl
@[simp] theorem setF_tpoIssued (b : Nat) (g : Fld) (v : Nat) : (s.setF b g v).tpoIssued = s.tpoIssued := rfl
@[simp] theorem setF_sched (b : Nat) (g : Fld) (v : Nat) : (s.setF b g v).sched = s.sched := rfl
@[simp] theorem setF_fog (b : Nat) (g : Fld) (v : Nat) : (s.setF b g v).fog = s.fog := rfl
@[simp] theorem setF_twin (b : Nat) (g : Fld) (v : Nat) : (s.setF b g v).twin = s.twin := rfl
@[simp] theorem setF_hk (b : Nat) (g : Fld) (v : Nat) : (s.setF b g v).hk = s.hk := rfl
@[simp] theorem setF_hdac (b : Nat) (g : Fld) (v : Nat) : (s.setF b g v).hdac = s.hdac := rfl
@[simp] theorem setF_fcoef (b : Nat) (g : Fld) (v : Nat) : (s.setF b g v).fcoef = s.fcoef := rfl
@[simp] theorem setF_ddr (b : Nat) (g : Fld) (v : Nat) : (s.setF b g v).ddr = s.ddr := rfl
@[simp] theorem setF_therm (b : Nat) (g : Fld) (v : Nat) : (s.setF b g v).therm = s.therm := rfl
@[simp] theorem setF_pwr (b : Nat) (g : Fld) (v : Nat) : (s.setF b g v).pwr = s.pwr := rfl
@[simp] theorem setF_dma (b : Nat) (g : Fld) (v : Nat) : (s.setF b g v).dma = s.dma := rfl
@[simp] theorem setF_tap (b : Nat) (g : Fld) (v : Nat) : (s.setF b g v).tap = s.tap := rfl
@[simp] theorem setF_log (b : Nat) (g : Fld) (v : Nat) : (s.setF b g v).log = s.log := rfl
@[simp] theorem setF_fuse (b : Nat) (g : Fld) (v : Nat) : (s.setF b g v).fuse = s.fuse := rfl
@[simp] theorem setF_flash (b : Nat) (g : Fld) (v : Nat) : (s.setF b g v).flash = s.flash := rfl
@[simp] theorem setF_dbg (b : Nat) (g : Fld) (v : Nat) : (s.setF b g v).dbg = s.dbg := rfl
@[simp] theorem setF_cfgv (b : Nat) (g : Fld) (v : Nat) : (s.setF b g v).cfgv = s.cfgv := rfl
@[simp] theorem setF_bist (b : Nat) (g : Fld) (v : Nat) : (s.setF b g v).bist = s.bist := rfl
@[simp] theorem setF_sweepAt (b : Nat) (g : Fld) (v : Nat) : (s.setF b g v).sweepAt = s.sweepAt := rfl
@[simp] theorem setF_sweepLap (b : Nat) (g : Fld) (v : Nat) : (s.setF b g v).sweepLap = s.sweepLap := rfl
@[simp] theorem setF_portMon (b : Nat) (g : Fld) (v : Nat) : (s.setF b g v).portMon = s.portMon := rfl
@[simp] theorem setF_free (b : Nat) (g : Fld) (v : Nat) : (s.setF b g v).free = s.free := rfl
@[simp] theorem setF_out (b : Nat) (g : Fld) (v : Nat) : (s.setF b g v).out = s.out := rfl
@[simp] theorem setF_intStat (b : Nat) (g : Fld) (v : Nat) (b2 : Nat) : (s.setF b g v).intStat b2 = s.intStat b2 := rfl
@[simp] theorem setF_domReady (b : Nat) (g : Fld) (v : Nat) (d : Nat) : (s.setF b g v).domReady d = s.domReady d := rfl
@[simp] theorem setF_reach (b : Nat) (g : Fld) (v : Nat) (b2 : Nat) : (s.setF b g v).reach b2 = s.reach b2 := rfl

/-! ### setB -/

@[simp] theorem setB_pending (b : Nat) (g : Fld) (v : Bool) : (s.setB b g v).pending = s.pending := rfl
@[simp] theorem setB_shadows (b : Nat) (g : Fld) (v : Bool) : (s.setB b g v).shadows = s.shadows := rfl
@[simp] theorem setB_used (b : Nat) (g : Fld) (v : Bool) : (s.setB b g v).used = s.used := rfl
@[simp] theorem setB_latched (b : Nat) (g : Fld) (v : Bool) : (s.setB b g v).latched = s.latched := rfl
@[simp] theorem setB_pairBad (b : Nat) (g : Fld) (v : Bool) : (s.setB b g v).pairBad = s.pairBad := rfl
@[simp] theorem setB_ints (b : Nat) (g : Fld) (v : Bool) : (s.setB b g v).ints = s.ints := rfl
@[simp] theorem setB_intEn (b : Nat) (g : Fld) (v : Bool) : (s.setB b g v).intEn = s.intEn := rfl
@[simp] theorem setB_parBad (b : Nat) (g : Fld) (v : Bool) : (s.setB b g v).parBad = s.parBad := rfl
@[simp] theorem setB_parSeen (b : Nat) (g : Fld) (v : Bool) : (s.setB b g v).parSeen = s.parSeen := rfl
@[simp] theorem setB_intnCopy (b : Nat) (g : Fld) (v : Bool) : (s.setB b g v).intnCopy = s.intnCopy := rfl
@[simp] theorem setB_hold (b : Nat) (g : Fld) (v : Bool) : (s.setB b g v).hold = s.hold := rfl
@[simp] theorem setB_i2c (b : Nat) (g : Fld) (v : Bool) : (s.setB b g v).i2c = s.i2c := rfl
@[simp] theorem setB_msix (b : Nat) (g : Fld) (v : Bool) : (s.setB b g v).msix = s.msix := rfl
@[simp] theorem setB_pba (b : Nat) (g : Fld) (v : Bool) : (s.setB b g v).pba = s.pba := rfl
@[simp] theorem setB_msixEn (b : Nat) (g : Fld) (v : Bool) : (s.setB b g v).msixEn = s.msixEn := rfl
@[simp] theorem setB_busMaster (b : Nat) (g : Fld) (v : Bool) : (s.setB b g v).busMaster = s.busMaster := rfl
@[simp] theorem setB_d3hot (b : Nat) (g : Fld) (v : Bool) : (s.setB b g v).d3hot = s.d3hot := rfl
@[simp] theorem setB_inReset (b : Nat) (g : Fld) (v : Bool) : (s.setB b g v).inReset = s.inReset := rfl
@[simp] theorem setB_held (b : Nat) (g : Fld) (v : Bool) : (s.setB b g v).held = s.held := rfl
@[simp] theorem setB_perst (b : Nat) (g : Fld) (v : Bool) : (s.setB b g v).perst = s.perst := rfl
@[simp] theorem setB_domOn (b : Nat) (g : Fld) (v : Bool) : (s.setB b g v).domOn = s.domOn := rfl
@[simp] theorem setB_domBusy (b : Nat) (g : Fld) (v : Bool) : (s.setB b g v).domBusy = s.domBusy := rfl
@[simp] theorem setB_fuseFloorHk (b : Nat) (g : Fld) (v : Bool) : (s.setB b g v).fuseFloorHk = s.fuseFloorHk := rfl
@[simp] theorem setB_fuseSub (b : Nat) (g : Fld) (v : Bool) : (s.setB b g v).fuseSub = s.fuseSub := rfl
@[simp] theorem setB_fuseSeg (b : Nat) (g : Fld) (v : Bool) : (s.setB b g v).fuseSeg = s.fuseSeg := rfl
@[simp] theorem setB_refAt (b : Nat) (g : Fld) (v : Bool) : (s.setB b g v).refAt = s.refAt := rfl
@[simp] theorem setB_refBack (b : Nat) (g : Fld) (v : Bool) : (s.setB b g v).refBack = s.refBack := rfl
@[simp] theorem setB_bar4Gib (b : Nat) (g : Fld) (v : Bool) : (s.setB b g v).bar4Gib = s.bar4Gib := rfl
@[simp] theorem setB_clrPin (b : Nat) (g : Fld) (v : Bool) : (s.setB b g v).clrPin = s.clrPin := rfl
@[simp] theorem setB_dpTicks (b : Nat) (g : Fld) (v : Bool) : (s.setB b g v).dpTicks = s.dpTicks := rfl
@[simp] theorem setB_tb (b : Nat) (g : Fld) (v : Bool) : (s.setB b g v).tb = s.tb := rfl
@[simp] theorem setB_line (b : Nat) (g : Fld) (v : Bool) : (s.setB b g v).line = s.line := rfl
@[simp] theorem setB_host (b : Nat) (g : Fld) (v : Bool) : (s.setB b g v).host = s.host := rfl
@[simp] theorem setB_engines (b : Nat) (g : Fld) (v : Bool) : (s.setB b g v).engines = s.engines := rfl
@[simp] theorem setB_prims (b : Nat) (g : Fld) (v : Bool) : (s.setB b g v).prims = s.prims := rfl
@[simp] theorem setB_sram (b : Nat) (g : Fld) (v : Bool) : (s.setB b g v).sram = s.sram := rfl
@[simp] theorem setB_portTsu (b : Nat) (g : Fld) (v : Bool) : (s.setB b g v).portTsu = s.portTsu := rfl
@[simp] theorem setB_laneTsu (b : Nat) (g : Fld) (v : Bool) : (s.setB b g v).laneTsu = s.laneTsu := rfl
@[simp] theorem setB_tpi (b : Nat) (g : Fld) (v : Bool) : (s.setB b g v).tpi = s.tpi := rfl
@[simp] theorem setB_tbStep (b : Nat) (g : Fld) (v : Bool) : (s.setB b g v).tbStep = s.tbStep := rfl
@[simp] theorem setB_tpoIssued (b : Nat) (g : Fld) (v : Bool) : (s.setB b g v).tpoIssued = s.tpoIssued := rfl
@[simp] theorem setB_sched (b : Nat) (g : Fld) (v : Bool) : (s.setB b g v).sched = s.sched := rfl
@[simp] theorem setB_fog (b : Nat) (g : Fld) (v : Bool) : (s.setB b g v).fog = s.fog := rfl
@[simp] theorem setB_twin (b : Nat) (g : Fld) (v : Bool) : (s.setB b g v).twin = s.twin := rfl
@[simp] theorem setB_hk (b : Nat) (g : Fld) (v : Bool) : (s.setB b g v).hk = s.hk := rfl
@[simp] theorem setB_hdac (b : Nat) (g : Fld) (v : Bool) : (s.setB b g v).hdac = s.hdac := rfl
@[simp] theorem setB_fcoef (b : Nat) (g : Fld) (v : Bool) : (s.setB b g v).fcoef = s.fcoef := rfl
@[simp] theorem setB_ddr (b : Nat) (g : Fld) (v : Bool) : (s.setB b g v).ddr = s.ddr := rfl
@[simp] theorem setB_therm (b : Nat) (g : Fld) (v : Bool) : (s.setB b g v).therm = s.therm := rfl
@[simp] theorem setB_pwr (b : Nat) (g : Fld) (v : Bool) : (s.setB b g v).pwr = s.pwr := rfl
@[simp] theorem setB_dma (b : Nat) (g : Fld) (v : Bool) : (s.setB b g v).dma = s.dma := rfl
@[simp] theorem setB_tap (b : Nat) (g : Fld) (v : Bool) : (s.setB b g v).tap = s.tap := rfl
@[simp] theorem setB_log (b : Nat) (g : Fld) (v : Bool) : (s.setB b g v).log = s.log := rfl
@[simp] theorem setB_fuse (b : Nat) (g : Fld) (v : Bool) : (s.setB b g v).fuse = s.fuse := rfl
@[simp] theorem setB_flash (b : Nat) (g : Fld) (v : Bool) : (s.setB b g v).flash = s.flash := rfl
@[simp] theorem setB_dbg (b : Nat) (g : Fld) (v : Bool) : (s.setB b g v).dbg = s.dbg := rfl
@[simp] theorem setB_cfgv (b : Nat) (g : Fld) (v : Bool) : (s.setB b g v).cfgv = s.cfgv := rfl
@[simp] theorem setB_bist (b : Nat) (g : Fld) (v : Bool) : (s.setB b g v).bist = s.bist := rfl
@[simp] theorem setB_sweepAt (b : Nat) (g : Fld) (v : Bool) : (s.setB b g v).sweepAt = s.sweepAt := rfl
@[simp] theorem setB_sweepLap (b : Nat) (g : Fld) (v : Bool) : (s.setB b g v).sweepLap = s.sweepLap := rfl
@[simp] theorem setB_portMon (b : Nat) (g : Fld) (v : Bool) : (s.setB b g v).portMon = s.portMon := rfl
@[simp] theorem setB_free (b : Nat) (g : Fld) (v : Bool) : (s.setB b g v).free = s.free := rfl
@[simp] theorem setB_out (b : Nat) (g : Fld) (v : Bool) : (s.setB b g v).out = s.out := rfl
@[simp] theorem setB_intStat (b : Nat) (g : Fld) (v : Bool) (b2 : Nat) : (s.setB b g v).intStat b2 = s.intStat b2 := rfl
@[simp] theorem setB_domReady (b : Nat) (g : Fld) (v : Bool) (d : Nat) : (s.setB b g v).domReady d = s.domReady d := rfl
@[simp] theorem setB_reach (b : Nat) (g : Fld) (v : Bool) (b2 : Nat) : (s.setB b g v).reach b2 = s.reach b2 := rfl

/-! ### setIntStat -/

@[simp] theorem setIntStat_pending (b : Nat) (w : Word) : (s.setIntStat b w).pending = s.pending := rfl
@[simp] theorem setIntStat_regs (b : Nat) (w : Word) : (s.setIntStat b w).regs = s.regs := rfl
@[simp] theorem setIntStat_shadows (b : Nat) (w : Word) : (s.setIntStat b w).shadows = s.shadows := rfl
@[simp] theorem setIntStat_used (b : Nat) (w : Word) : (s.setIntStat b w).used = s.used := rfl
@[simp] theorem setIntStat_latched (b : Nat) (w : Word) : (s.setIntStat b w).latched = s.latched := rfl
@[simp] theorem setIntStat_pairBad (b : Nat) (w : Word) : (s.setIntStat b w).pairBad = s.pairBad := rfl
@[simp] theorem setIntStat_intEn (b : Nat) (w : Word) : (s.setIntStat b w).intEn = s.intEn := rfl
@[simp] theorem setIntStat_parBad (b : Nat) (w : Word) : (s.setIntStat b w).parBad = s.parBad := rfl
@[simp] theorem setIntStat_parSeen (b : Nat) (w : Word) : (s.setIntStat b w).parSeen = s.parSeen := rfl
@[simp] theorem setIntStat_intnCopy (b : Nat) (w : Word) : (s.setIntStat b w).intnCopy = s.intnCopy := rfl
@[simp] theorem setIntStat_hold (b : Nat) (w : Word) : (s.setIntStat b w).hold = s.hold := rfl
@[simp] theorem setIntStat_i2c (b : Nat) (w : Word) : (s.setIntStat b w).i2c = s.i2c := rfl
@[simp] theorem setIntStat_msix (b : Nat) (w : Word) : (s.setIntStat b w).msix = s.msix := rfl
@[simp] theorem setIntStat_pba (b : Nat) (w : Word) : (s.setIntStat b w).pba = s.pba := rfl
@[simp] theorem setIntStat_msixEn (b : Nat) (w : Word) : (s.setIntStat b w).msixEn = s.msixEn := rfl
@[simp] theorem setIntStat_busMaster (b : Nat) (w : Word) : (s.setIntStat b w).busMaster = s.busMaster := rfl
@[simp] theorem setIntStat_d3hot (b : Nat) (w : Word) : (s.setIntStat b w).d3hot = s.d3hot := rfl
@[simp] theorem setIntStat_inReset (b : Nat) (w : Word) : (s.setIntStat b w).inReset = s.inReset := rfl
@[simp] theorem setIntStat_held (b : Nat) (w : Word) : (s.setIntStat b w).held = s.held := rfl
@[simp] theorem setIntStat_perst (b : Nat) (w : Word) : (s.setIntStat b w).perst = s.perst := rfl
@[simp] theorem setIntStat_domOn (b : Nat) (w : Word) : (s.setIntStat b w).domOn = s.domOn := rfl
@[simp] theorem setIntStat_domBusy (b : Nat) (w : Word) : (s.setIntStat b w).domBusy = s.domBusy := rfl
@[simp] theorem setIntStat_fuseFloorHk (b : Nat) (w : Word) : (s.setIntStat b w).fuseFloorHk = s.fuseFloorHk := rfl
@[simp] theorem setIntStat_fuseSub (b : Nat) (w : Word) : (s.setIntStat b w).fuseSub = s.fuseSub := rfl
@[simp] theorem setIntStat_fuseSeg (b : Nat) (w : Word) : (s.setIntStat b w).fuseSeg = s.fuseSeg := rfl
@[simp] theorem setIntStat_refAt (b : Nat) (w : Word) : (s.setIntStat b w).refAt = s.refAt := rfl
@[simp] theorem setIntStat_refBack (b : Nat) (w : Word) : (s.setIntStat b w).refBack = s.refBack := rfl
@[simp] theorem setIntStat_bar4Gib (b : Nat) (w : Word) : (s.setIntStat b w).bar4Gib = s.bar4Gib := rfl
@[simp] theorem setIntStat_clrPin (b : Nat) (w : Word) : (s.setIntStat b w).clrPin = s.clrPin := rfl
@[simp] theorem setIntStat_dpTicks (b : Nat) (w : Word) : (s.setIntStat b w).dpTicks = s.dpTicks := rfl
@[simp] theorem setIntStat_tb (b : Nat) (w : Word) : (s.setIntStat b w).tb = s.tb := rfl
@[simp] theorem setIntStat_line (b : Nat) (w : Word) : (s.setIntStat b w).line = s.line := rfl
@[simp] theorem setIntStat_host (b : Nat) (w : Word) : (s.setIntStat b w).host = s.host := rfl
@[simp] theorem setIntStat_engines (b : Nat) (w : Word) : (s.setIntStat b w).engines = s.engines := rfl
@[simp] theorem setIntStat_prims (b : Nat) (w : Word) : (s.setIntStat b w).prims = s.prims := rfl
@[simp] theorem setIntStat_sram (b : Nat) (w : Word) : (s.setIntStat b w).sram = s.sram := rfl
@[simp] theorem setIntStat_portTsu (b : Nat) (w : Word) : (s.setIntStat b w).portTsu = s.portTsu := rfl
@[simp] theorem setIntStat_laneTsu (b : Nat) (w : Word) : (s.setIntStat b w).laneTsu = s.laneTsu := rfl
@[simp] theorem setIntStat_tpi (b : Nat) (w : Word) : (s.setIntStat b w).tpi = s.tpi := rfl
@[simp] theorem setIntStat_tbStep (b : Nat) (w : Word) : (s.setIntStat b w).tbStep = s.tbStep := rfl
@[simp] theorem setIntStat_tpoIssued (b : Nat) (w : Word) : (s.setIntStat b w).tpoIssued = s.tpoIssued := rfl
@[simp] theorem setIntStat_sched (b : Nat) (w : Word) : (s.setIntStat b w).sched = s.sched := rfl
@[simp] theorem setIntStat_fog (b : Nat) (w : Word) : (s.setIntStat b w).fog = s.fog := rfl
@[simp] theorem setIntStat_twin (b : Nat) (w : Word) : (s.setIntStat b w).twin = s.twin := rfl
@[simp] theorem setIntStat_hk (b : Nat) (w : Word) : (s.setIntStat b w).hk = s.hk := rfl
@[simp] theorem setIntStat_hdac (b : Nat) (w : Word) : (s.setIntStat b w).hdac = s.hdac := rfl
@[simp] theorem setIntStat_fcoef (b : Nat) (w : Word) : (s.setIntStat b w).fcoef = s.fcoef := rfl
@[simp] theorem setIntStat_ddr (b : Nat) (w : Word) : (s.setIntStat b w).ddr = s.ddr := rfl
@[simp] theorem setIntStat_therm (b : Nat) (w : Word) : (s.setIntStat b w).therm = s.therm := rfl
@[simp] theorem setIntStat_pwr (b : Nat) (w : Word) : (s.setIntStat b w).pwr = s.pwr := rfl
@[simp] theorem setIntStat_dma (b : Nat) (w : Word) : (s.setIntStat b w).dma = s.dma := rfl
@[simp] theorem setIntStat_tap (b : Nat) (w : Word) : (s.setIntStat b w).tap = s.tap := rfl
@[simp] theorem setIntStat_log (b : Nat) (w : Word) : (s.setIntStat b w).log = s.log := rfl
@[simp] theorem setIntStat_fuse (b : Nat) (w : Word) : (s.setIntStat b w).fuse = s.fuse := rfl
@[simp] theorem setIntStat_flash (b : Nat) (w : Word) : (s.setIntStat b w).flash = s.flash := rfl
@[simp] theorem setIntStat_dbg (b : Nat) (w : Word) : (s.setIntStat b w).dbg = s.dbg := rfl
@[simp] theorem setIntStat_cfgv (b : Nat) (w : Word) : (s.setIntStat b w).cfgv = s.cfgv := rfl
@[simp] theorem setIntStat_bist (b : Nat) (w : Word) : (s.setIntStat b w).bist = s.bist := rfl
@[simp] theorem setIntStat_sweepAt (b : Nat) (w : Word) : (s.setIntStat b w).sweepAt = s.sweepAt := rfl
@[simp] theorem setIntStat_sweepLap (b : Nat) (w : Word) : (s.setIntStat b w).sweepLap = s.sweepLap := rfl
@[simp] theorem setIntStat_portMon (b : Nat) (w : Word) : (s.setIntStat b w).portMon = s.portMon := rfl
@[simp] theorem setIntStat_free (b : Nat) (w : Word) : (s.setIntStat b w).free = s.free := rfl
@[simp] theorem setIntStat_out (b : Nat) (w : Word) : (s.setIntStat b w).out = s.out := rfl
@[simp] theorem setIntStat_reg (b : Nat) (w : Word) (b2 off2 : Nat) : (s.setIntStat b w).reg b2 off2 = s.reg b2 off2 := rfl
@[simp] theorem setIntStat_f (b : Nat) (w : Word) (b2 : Nat) (fl : Fld) : (s.setIntStat b w).f b2 fl = s.f b2 fl := rfl
@[simp] theorem setIntStat_fb (b : Nat) (w : Word) (b2 : Nat) (fl : Fld) : (s.setIntStat b w).fb b2 fl = s.fb b2 fl := rfl
@[simp] theorem setIntStat_domReady (b : Nat) (w : Word) (d : Nat) : (s.setIntStat b w).domReady d = s.domReady d := rfl
@[simp] theorem setIntStat_reach (b : Nat) (w : Word) (b2 : Nat) : (s.setIntStat b w).reach b2 = s.reach b2 := rfl

/-! ### setTb -/

@[simp] theorem setTb_pending (n v : Nat) : (s.setTb n v).pending = s.pending := rfl
@[simp] theorem setTb_regs (n v : Nat) : (s.setTb n v).regs = s.regs := rfl
@[simp] theorem setTb_shadows (n v : Nat) : (s.setTb n v).shadows = s.shadows := rfl
@[simp] theorem setTb_used (n v : Nat) : (s.setTb n v).used = s.used := rfl
@[simp] theorem setTb_latched (n v : Nat) : (s.setTb n v).latched = s.latched := rfl
@[simp] theorem setTb_pairBad (n v : Nat) : (s.setTb n v).pairBad = s.pairBad := rfl
@[simp] theorem setTb_ints (n v : Nat) : (s.setTb n v).ints = s.ints := rfl
@[simp] theorem setTb_intEn (n v : Nat) : (s.setTb n v).intEn = s.intEn := rfl
@[simp] theorem setTb_parBad (n v : Nat) : (s.setTb n v).parBad = s.parBad := rfl
@[simp] theorem setTb_parSeen (n v : Nat) : (s.setTb n v).parSeen = s.parSeen := rfl
@[simp] theorem setTb_intnCopy (n v : Nat) : (s.setTb n v).intnCopy = s.intnCopy := rfl
@[simp] theorem setTb_hold (n v : Nat) : (s.setTb n v).hold = s.hold := rfl
@[simp] theorem setTb_i2c (n v : Nat) : (s.setTb n v).i2c = s.i2c := rfl
@[simp] theorem setTb_msix (n v : Nat) : (s.setTb n v).msix = s.msix := rfl
@[simp] theorem setTb_pba (n v : Nat) : (s.setTb n v).pba = s.pba := rfl
@[simp] theorem setTb_msixEn (n v : Nat) : (s.setTb n v).msixEn = s.msixEn := rfl
@[simp] theorem setTb_busMaster (n v : Nat) : (s.setTb n v).busMaster = s.busMaster := rfl
@[simp] theorem setTb_d3hot (n v : Nat) : (s.setTb n v).d3hot = s.d3hot := rfl
@[simp] theorem setTb_inReset (n v : Nat) : (s.setTb n v).inReset = s.inReset := rfl
@[simp] theorem setTb_held (n v : Nat) : (s.setTb n v).held = s.held := rfl
@[simp] theorem setTb_perst (n v : Nat) : (s.setTb n v).perst = s.perst := rfl
@[simp] theorem setTb_domOn (n v : Nat) : (s.setTb n v).domOn = s.domOn := rfl
@[simp] theorem setTb_domBusy (n v : Nat) : (s.setTb n v).domBusy = s.domBusy := rfl
@[simp] theorem setTb_fuseFloorHk (n v : Nat) : (s.setTb n v).fuseFloorHk = s.fuseFloorHk := rfl
@[simp] theorem setTb_fuseSub (n v : Nat) : (s.setTb n v).fuseSub = s.fuseSub := rfl
@[simp] theorem setTb_fuseSeg (n v : Nat) : (s.setTb n v).fuseSeg = s.fuseSeg := rfl
@[simp] theorem setTb_refAt (n v : Nat) : (s.setTb n v).refAt = s.refAt := rfl
@[simp] theorem setTb_refBack (n v : Nat) : (s.setTb n v).refBack = s.refBack := rfl
@[simp] theorem setTb_bar4Gib (n v : Nat) : (s.setTb n v).bar4Gib = s.bar4Gib := rfl
@[simp] theorem setTb_clrPin (n v : Nat) : (s.setTb n v).clrPin = s.clrPin := rfl
@[simp] theorem setTb_dpTicks (n v : Nat) : (s.setTb n v).dpTicks = s.dpTicks := rfl
@[simp] theorem setTb_line (n v : Nat) : (s.setTb n v).line = s.line := rfl
@[simp] theorem setTb_host (n v : Nat) : (s.setTb n v).host = s.host := rfl
@[simp] theorem setTb_engines (n v : Nat) : (s.setTb n v).engines = s.engines := rfl
@[simp] theorem setTb_prims (n v : Nat) : (s.setTb n v).prims = s.prims := rfl
@[simp] theorem setTb_sram (n v : Nat) : (s.setTb n v).sram = s.sram := rfl
@[simp] theorem setTb_portTsu (n v : Nat) : (s.setTb n v).portTsu = s.portTsu := rfl
@[simp] theorem setTb_laneTsu (n v : Nat) : (s.setTb n v).laneTsu = s.laneTsu := rfl
@[simp] theorem setTb_tpi (n v : Nat) : (s.setTb n v).tpi = s.tpi := rfl
@[simp] theorem setTb_tbStep (n v : Nat) : (s.setTb n v).tbStep = s.tbStep := rfl
@[simp] theorem setTb_tpoIssued (n v : Nat) : (s.setTb n v).tpoIssued = s.tpoIssued := rfl
@[simp] theorem setTb_sched (n v : Nat) : (s.setTb n v).sched = s.sched := rfl
@[simp] theorem setTb_fog (n v : Nat) : (s.setTb n v).fog = s.fog := rfl
@[simp] theorem setTb_twin (n v : Nat) : (s.setTb n v).twin = s.twin := rfl
@[simp] theorem setTb_hk (n v : Nat) : (s.setTb n v).hk = s.hk := rfl
@[simp] theorem setTb_hdac (n v : Nat) : (s.setTb n v).hdac = s.hdac := rfl
@[simp] theorem setTb_fcoef (n v : Nat) : (s.setTb n v).fcoef = s.fcoef := rfl
@[simp] theorem setTb_ddr (n v : Nat) : (s.setTb n v).ddr = s.ddr := rfl
@[simp] theorem setTb_therm (n v : Nat) : (s.setTb n v).therm = s.therm := rfl
@[simp] theorem setTb_pwr (n v : Nat) : (s.setTb n v).pwr = s.pwr := rfl
@[simp] theorem setTb_dma (n v : Nat) : (s.setTb n v).dma = s.dma := rfl
@[simp] theorem setTb_tap (n v : Nat) : (s.setTb n v).tap = s.tap := rfl
@[simp] theorem setTb_log (n v : Nat) : (s.setTb n v).log = s.log := rfl
@[simp] theorem setTb_fuse (n v : Nat) : (s.setTb n v).fuse = s.fuse := rfl
@[simp] theorem setTb_flash (n v : Nat) : (s.setTb n v).flash = s.flash := rfl
@[simp] theorem setTb_dbg (n v : Nat) : (s.setTb n v).dbg = s.dbg := rfl
@[simp] theorem setTb_cfgv (n v : Nat) : (s.setTb n v).cfgv = s.cfgv := rfl
@[simp] theorem setTb_bist (n v : Nat) : (s.setTb n v).bist = s.bist := rfl
@[simp] theorem setTb_sweepAt (n v : Nat) : (s.setTb n v).sweepAt = s.sweepAt := rfl
@[simp] theorem setTb_sweepLap (n v : Nat) : (s.setTb n v).sweepLap = s.sweepLap := rfl
@[simp] theorem setTb_portMon (n v : Nat) : (s.setTb n v).portMon = s.portMon := rfl
@[simp] theorem setTb_free (n v : Nat) : (s.setTb n v).free = s.free := rfl
@[simp] theorem setTb_out (n v : Nat) : (s.setTb n v).out = s.out := rfl
@[simp] theorem setTb_intStat (n v : Nat) (b2 : Nat) : (s.setTb n v).intStat b2 = s.intStat b2 := rfl
@[simp] theorem setTb_reg (n v : Nat) (b2 off2 : Nat) : (s.setTb n v).reg b2 off2 = s.reg b2 off2 := rfl
@[simp] theorem setTb_f (n v : Nat) (b2 : Nat) (fl : Fld) : (s.setTb n v).f b2 fl = s.f b2 fl := rfl
@[simp] theorem setTb_fb (n v : Nat) (b2 : Nat) (fl : Fld) : (s.setTb n v).fb b2 fl = s.fb b2 fl := rfl
@[simp] theorem setTb_domReady (n v : Nat) (d : Nat) : (s.setTb n v).domReady d = s.domReady d := rfl
@[simp] theorem setTb_reach (n v : Nat) (b2 : Nat) : (s.setTb n v).reach b2 = s.reach b2 := rfl

/-! ### send -/

@[simp] theorem send_pending (m : OutMsg) : (s.send m).pending = s.pending := rfl
@[simp] theorem send_regs (m : OutMsg) : (s.send m).regs = s.regs := rfl
@[simp] theorem send_shadows (m : OutMsg) : (s.send m).shadows = s.shadows := rfl
@[simp] theorem send_used (m : OutMsg) : (s.send m).used = s.used := rfl
@[simp] theorem send_latched (m : OutMsg) : (s.send m).latched = s.latched := rfl
@[simp] theorem send_pairBad (m : OutMsg) : (s.send m).pairBad = s.pairBad := rfl
@[simp] theorem send_ints (m : OutMsg) : (s.send m).ints = s.ints := rfl
@[simp] theorem send_intEn (m : OutMsg) : (s.send m).intEn = s.intEn := rfl
@[simp] theorem send_parBad (m : OutMsg) : (s.send m).parBad = s.parBad := rfl
@[simp] theorem send_parSeen (m : OutMsg) : (s.send m).parSeen = s.parSeen := rfl
@[simp] theorem send_intnCopy (m : OutMsg) : (s.send m).intnCopy = s.intnCopy := rfl
@[simp] theorem send_hold (m : OutMsg) : (s.send m).hold = s.hold := rfl
@[simp] theorem send_i2c (m : OutMsg) : (s.send m).i2c = s.i2c := rfl
@[simp] theorem send_msix (m : OutMsg) : (s.send m).msix = s.msix := rfl
@[simp] theorem send_pba (m : OutMsg) : (s.send m).pba = s.pba := rfl
@[simp] theorem send_msixEn (m : OutMsg) : (s.send m).msixEn = s.msixEn := rfl
@[simp] theorem send_busMaster (m : OutMsg) : (s.send m).busMaster = s.busMaster := rfl
@[simp] theorem send_d3hot (m : OutMsg) : (s.send m).d3hot = s.d3hot := rfl
@[simp] theorem send_inReset (m : OutMsg) : (s.send m).inReset = s.inReset := rfl
@[simp] theorem send_held (m : OutMsg) : (s.send m).held = s.held := rfl
@[simp] theorem send_perst (m : OutMsg) : (s.send m).perst = s.perst := rfl
@[simp] theorem send_domOn (m : OutMsg) : (s.send m).domOn = s.domOn := rfl
@[simp] theorem send_domBusy (m : OutMsg) : (s.send m).domBusy = s.domBusy := rfl
@[simp] theorem send_fuseFloorHk (m : OutMsg) : (s.send m).fuseFloorHk = s.fuseFloorHk := rfl
@[simp] theorem send_fuseSub (m : OutMsg) : (s.send m).fuseSub = s.fuseSub := rfl
@[simp] theorem send_fuseSeg (m : OutMsg) : (s.send m).fuseSeg = s.fuseSeg := rfl
@[simp] theorem send_refAt (m : OutMsg) : (s.send m).refAt = s.refAt := rfl
@[simp] theorem send_refBack (m : OutMsg) : (s.send m).refBack = s.refBack := rfl
@[simp] theorem send_bar4Gib (m : OutMsg) : (s.send m).bar4Gib = s.bar4Gib := rfl
@[simp] theorem send_clrPin (m : OutMsg) : (s.send m).clrPin = s.clrPin := rfl
@[simp] theorem send_dpTicks (m : OutMsg) : (s.send m).dpTicks = s.dpTicks := rfl
@[simp] theorem send_tb (m : OutMsg) : (s.send m).tb = s.tb := rfl
@[simp] theorem send_line (m : OutMsg) : (s.send m).line = s.line := rfl
@[simp] theorem send_host (m : OutMsg) : (s.send m).host = s.host := rfl
@[simp] theorem send_engines (m : OutMsg) : (s.send m).engines = s.engines := rfl
@[simp] theorem send_prims (m : OutMsg) : (s.send m).prims = s.prims := rfl
@[simp] theorem send_sram (m : OutMsg) : (s.send m).sram = s.sram := rfl
@[simp] theorem send_portTsu (m : OutMsg) : (s.send m).portTsu = s.portTsu := rfl
@[simp] theorem send_laneTsu (m : OutMsg) : (s.send m).laneTsu = s.laneTsu := rfl
@[simp] theorem send_tpi (m : OutMsg) : (s.send m).tpi = s.tpi := rfl
@[simp] theorem send_tbStep (m : OutMsg) : (s.send m).tbStep = s.tbStep := rfl
@[simp] theorem send_tpoIssued (m : OutMsg) : (s.send m).tpoIssued = s.tpoIssued := rfl
@[simp] theorem send_sched (m : OutMsg) : (s.send m).sched = s.sched := rfl
@[simp] theorem send_fog (m : OutMsg) : (s.send m).fog = s.fog := rfl
@[simp] theorem send_twin (m : OutMsg) : (s.send m).twin = s.twin := rfl
@[simp] theorem send_hk (m : OutMsg) : (s.send m).hk = s.hk := rfl
@[simp] theorem send_hdac (m : OutMsg) : (s.send m).hdac = s.hdac := rfl
@[simp] theorem send_fcoef (m : OutMsg) : (s.send m).fcoef = s.fcoef := rfl
@[simp] theorem send_ddr (m : OutMsg) : (s.send m).ddr = s.ddr := rfl
@[simp] theorem send_therm (m : OutMsg) : (s.send m).therm = s.therm := rfl
@[simp] theorem send_pwr (m : OutMsg) : (s.send m).pwr = s.pwr := rfl
@[simp] theorem send_dma (m : OutMsg) : (s.send m).dma = s.dma := rfl
@[simp] theorem send_tap (m : OutMsg) : (s.send m).tap = s.tap := rfl
@[simp] theorem send_log (m : OutMsg) : (s.send m).log = s.log := rfl
@[simp] theorem send_fuse (m : OutMsg) : (s.send m).fuse = s.fuse := rfl
@[simp] theorem send_flash (m : OutMsg) : (s.send m).flash = s.flash := rfl
@[simp] theorem send_dbg (m : OutMsg) : (s.send m).dbg = s.dbg := rfl
@[simp] theorem send_cfgv (m : OutMsg) : (s.send m).cfgv = s.cfgv := rfl
@[simp] theorem send_bist (m : OutMsg) : (s.send m).bist = s.bist := rfl
@[simp] theorem send_sweepAt (m : OutMsg) : (s.send m).sweepAt = s.sweepAt := rfl
@[simp] theorem send_sweepLap (m : OutMsg) : (s.send m).sweepLap = s.sweepLap := rfl
@[simp] theorem send_portMon (m : OutMsg) : (s.send m).portMon = s.portMon := rfl
@[simp] theorem send_free (m : OutMsg) : (s.send m).free = s.free := rfl
@[simp] theorem send_intStat (m : OutMsg) (b2 : Nat) : (s.send m).intStat b2 = s.intStat b2 := rfl
@[simp] theorem send_reg (m : OutMsg) (b2 off2 : Nat) : (s.send m).reg b2 off2 = s.reg b2 off2 := rfl
@[simp] theorem send_f (m : OutMsg) (b2 : Nat) (fl : Fld) : (s.send m).f b2 fl = s.f b2 fl := rfl
@[simp] theorem send_fb (m : OutMsg) (b2 : Nat) (fl : Fld) : (s.send m).fb b2 fl = s.fb b2 fl := rfl
@[simp] theorem send_domReady (m : OutMsg) (d : Nat) : (s.send m).domReady d = s.domReady d := rfl
@[simp] theorem send_reach (m : OutMsg) (b2 : Nat) : (s.send m).reach b2 = s.reach b2 := rfl

/-! ### setLane -/

@[simp] theorem setLane_pending (n : Nat) (l : LineLane) : (s.setLane n l).pending = s.pending := rfl
@[simp] theorem setLane_regs (n : Nat) (l : LineLane) : (s.setLane n l).regs = s.regs := rfl
@[simp] theorem setLane_shadows (n : Nat) (l : LineLane) : (s.setLane n l).shadows = s.shadows := rfl
@[simp] theorem setLane_used (n : Nat) (l : LineLane) : (s.setLane n l).used = s.used := rfl
@[simp] theorem setLane_latched (n : Nat) (l : LineLane) : (s.setLane n l).latched = s.latched := rfl
@[simp] theorem setLane_pairBad (n : Nat) (l : LineLane) : (s.setLane n l).pairBad = s.pairBad := rfl
@[simp] theorem setLane_ints (n : Nat) (l : LineLane) : (s.setLane n l).ints = s.ints := rfl
@[simp] theorem setLane_intEn (n : Nat) (l : LineLane) : (s.setLane n l).intEn = s.intEn := rfl
@[simp] theorem setLane_parBad (n : Nat) (l : LineLane) : (s.setLane n l).parBad = s.parBad := rfl
@[simp] theorem setLane_parSeen (n : Nat) (l : LineLane) : (s.setLane n l).parSeen = s.parSeen := rfl
@[simp] theorem setLane_intnCopy (n : Nat) (l : LineLane) : (s.setLane n l).intnCopy = s.intnCopy := rfl
@[simp] theorem setLane_hold (n : Nat) (l : LineLane) : (s.setLane n l).hold = s.hold := rfl
@[simp] theorem setLane_i2c (n : Nat) (l : LineLane) : (s.setLane n l).i2c = s.i2c := rfl
@[simp] theorem setLane_msix (n : Nat) (l : LineLane) : (s.setLane n l).msix = s.msix := rfl
@[simp] theorem setLane_pba (n : Nat) (l : LineLane) : (s.setLane n l).pba = s.pba := rfl
@[simp] theorem setLane_msixEn (n : Nat) (l : LineLane) : (s.setLane n l).msixEn = s.msixEn := rfl
@[simp] theorem setLane_busMaster (n : Nat) (l : LineLane) : (s.setLane n l).busMaster = s.busMaster := rfl
@[simp] theorem setLane_d3hot (n : Nat) (l : LineLane) : (s.setLane n l).d3hot = s.d3hot := rfl
@[simp] theorem setLane_inReset (n : Nat) (l : LineLane) : (s.setLane n l).inReset = s.inReset := rfl
@[simp] theorem setLane_held (n : Nat) (l : LineLane) : (s.setLane n l).held = s.held := rfl
@[simp] theorem setLane_perst (n : Nat) (l : LineLane) : (s.setLane n l).perst = s.perst := rfl
@[simp] theorem setLane_domOn (n : Nat) (l : LineLane) : (s.setLane n l).domOn = s.domOn := rfl
@[simp] theorem setLane_domBusy (n : Nat) (l : LineLane) : (s.setLane n l).domBusy = s.domBusy := rfl
@[simp] theorem setLane_fuseFloorHk (n : Nat) (l : LineLane) : (s.setLane n l).fuseFloorHk = s.fuseFloorHk := rfl
@[simp] theorem setLane_fuseSub (n : Nat) (l : LineLane) : (s.setLane n l).fuseSub = s.fuseSub := rfl
@[simp] theorem setLane_fuseSeg (n : Nat) (l : LineLane) : (s.setLane n l).fuseSeg = s.fuseSeg := rfl
@[simp] theorem setLane_refAt (n : Nat) (l : LineLane) : (s.setLane n l).refAt = s.refAt := rfl
@[simp] theorem setLane_refBack (n : Nat) (l : LineLane) : (s.setLane n l).refBack = s.refBack := rfl
@[simp] theorem setLane_bar4Gib (n : Nat) (l : LineLane) : (s.setLane n l).bar4Gib = s.bar4Gib := rfl
@[simp] theorem setLane_clrPin (n : Nat) (l : LineLane) : (s.setLane n l).clrPin = s.clrPin := rfl
@[simp] theorem setLane_dpTicks (n : Nat) (l : LineLane) : (s.setLane n l).dpTicks = s.dpTicks := rfl
@[simp] theorem setLane_tb (n : Nat) (l : LineLane) : (s.setLane n l).tb = s.tb := rfl
@[simp] theorem setLane_host (n : Nat) (l : LineLane) : (s.setLane n l).host = s.host := rfl
@[simp] theorem setLane_engines (n : Nat) (l : LineLane) : (s.setLane n l).engines = s.engines := rfl
@[simp] theorem setLane_prims (n : Nat) (l : LineLane) : (s.setLane n l).prims = s.prims := rfl
@[simp] theorem setLane_sram (n : Nat) (l : LineLane) : (s.setLane n l).sram = s.sram := rfl
@[simp] theorem setLane_portTsu (n : Nat) (l : LineLane) : (s.setLane n l).portTsu = s.portTsu := rfl
@[simp] theorem setLane_laneTsu (n : Nat) (l : LineLane) : (s.setLane n l).laneTsu = s.laneTsu := rfl
@[simp] theorem setLane_tpi (n : Nat) (l : LineLane) : (s.setLane n l).tpi = s.tpi := rfl
@[simp] theorem setLane_tbStep (n : Nat) (l : LineLane) : (s.setLane n l).tbStep = s.tbStep := rfl
@[simp] theorem setLane_tpoIssued (n : Nat) (l : LineLane) : (s.setLane n l).tpoIssued = s.tpoIssued := rfl
@[simp] theorem setLane_sched (n : Nat) (l : LineLane) : (s.setLane n l).sched = s.sched := rfl
@[simp] theorem setLane_fog (n : Nat) (l : LineLane) : (s.setLane n l).fog = s.fog := rfl
@[simp] theorem setLane_twin (n : Nat) (l : LineLane) : (s.setLane n l).twin = s.twin := rfl
@[simp] theorem setLane_hk (n : Nat) (l : LineLane) : (s.setLane n l).hk = s.hk := rfl
@[simp] theorem setLane_hdac (n : Nat) (l : LineLane) : (s.setLane n l).hdac = s.hdac := rfl
@[simp] theorem setLane_fcoef (n : Nat) (l : LineLane) : (s.setLane n l).fcoef = s.fcoef := rfl
@[simp] theorem setLane_ddr (n : Nat) (l : LineLane) : (s.setLane n l).ddr = s.ddr := rfl
@[simp] theorem setLane_therm (n : Nat) (l : LineLane) : (s.setLane n l).therm = s.therm := rfl
@[simp] theorem setLane_pwr (n : Nat) (l : LineLane) : (s.setLane n l).pwr = s.pwr := rfl
@[simp] theorem setLane_dma (n : Nat) (l : LineLane) : (s.setLane n l).dma = s.dma := rfl
@[simp] theorem setLane_tap (n : Nat) (l : LineLane) : (s.setLane n l).tap = s.tap := rfl
@[simp] theorem setLane_log (n : Nat) (l : LineLane) : (s.setLane n l).log = s.log := rfl
@[simp] theorem setLane_fuse (n : Nat) (l : LineLane) : (s.setLane n l).fuse = s.fuse := rfl
@[simp] theorem setLane_flash (n : Nat) (l : LineLane) : (s.setLane n l).flash = s.flash := rfl
@[simp] theorem setLane_dbg (n : Nat) (l : LineLane) : (s.setLane n l).dbg = s.dbg := rfl
@[simp] theorem setLane_cfgv (n : Nat) (l : LineLane) : (s.setLane n l).cfgv = s.cfgv := rfl
@[simp] theorem setLane_bist (n : Nat) (l : LineLane) : (s.setLane n l).bist = s.bist := rfl
@[simp] theorem setLane_sweepAt (n : Nat) (l : LineLane) : (s.setLane n l).sweepAt = s.sweepAt := rfl
@[simp] theorem setLane_sweepLap (n : Nat) (l : LineLane) : (s.setLane n l).sweepLap = s.sweepLap := rfl
@[simp] theorem setLane_portMon (n : Nat) (l : LineLane) : (s.setLane n l).portMon = s.portMon := rfl
@[simp] theorem setLane_free (n : Nat) (l : LineLane) : (s.setLane n l).free = s.free := rfl
@[simp] theorem setLane_out (n : Nat) (l : LineLane) : (s.setLane n l).out = s.out := rfl
@[simp] theorem setLane_intStat (n : Nat) (l : LineLane) (b2 : Nat) : (s.setLane n l).intStat b2 = s.intStat b2 := rfl
@[simp] theorem setLane_reg (n : Nat) (l : LineLane) (b2 off2 : Nat) : (s.setLane n l).reg b2 off2 = s.reg b2 off2 := rfl
@[simp] theorem setLane_f (n : Nat) (l : LineLane) (b2 : Nat) (fl : Fld) : (s.setLane n l).f b2 fl = s.f b2 fl := rfl
@[simp] theorem setLane_fb (n : Nat) (l : LineLane) (b2 : Nat) (fl : Fld) : (s.setLane n l).fb b2 fl = s.fb b2 fl := rfl
@[simp] theorem setLane_domReady (n : Nat) (l : LineLane) (d : Nat) : (s.setLane n l).domReady d = s.domReady d := rfl
@[simp] theorem setLane_reach (n : Nat) (l : LineLane) (b2 : Nat) : (s.setLane n l).reach b2 = s.reach b2 := rfl

/-! ### setHlane -/

@[simp] theorem setHlane_pending (m : Nat) (h : HostLane) : (s.setHlane m h).pending = s.pending := rfl
@[simp] theorem setHlane_regs (m : Nat) (h : HostLane) : (s.setHlane m h).regs = s.regs := rfl
@[simp] theorem setHlane_shadows (m : Nat) (h : HostLane) : (s.setHlane m h).shadows = s.shadows := rfl
@[simp] theorem setHlane_used (m : Nat) (h : HostLane) : (s.setHlane m h).used = s.used := rfl
@[simp] theorem setHlane_latched (m : Nat) (h : HostLane) : (s.setHlane m h).latched = s.latched := rfl
@[simp] theorem setHlane_pairBad (m : Nat) (h : HostLane) : (s.setHlane m h).pairBad = s.pairBad := rfl
@[simp] theorem setHlane_ints (m : Nat) (h : HostLane) : (s.setHlane m h).ints = s.ints := rfl
@[simp] theorem setHlane_intEn (m : Nat) (h : HostLane) : (s.setHlane m h).intEn = s.intEn := rfl
@[simp] theorem setHlane_parBad (m : Nat) (h : HostLane) : (s.setHlane m h).parBad = s.parBad := rfl
@[simp] theorem setHlane_parSeen (m : Nat) (h : HostLane) : (s.setHlane m h).parSeen = s.parSeen := rfl
@[simp] theorem setHlane_intnCopy (m : Nat) (h : HostLane) : (s.setHlane m h).intnCopy = s.intnCopy := rfl
@[simp] theorem setHlane_hold (m : Nat) (h : HostLane) : (s.setHlane m h).hold = s.hold := rfl
@[simp] theorem setHlane_i2c (m : Nat) (h : HostLane) : (s.setHlane m h).i2c = s.i2c := rfl
@[simp] theorem setHlane_msix (m : Nat) (h : HostLane) : (s.setHlane m h).msix = s.msix := rfl
@[simp] theorem setHlane_pba (m : Nat) (h : HostLane) : (s.setHlane m h).pba = s.pba := rfl
@[simp] theorem setHlane_msixEn (m : Nat) (h : HostLane) : (s.setHlane m h).msixEn = s.msixEn := rfl
@[simp] theorem setHlane_busMaster (m : Nat) (h : HostLane) : (s.setHlane m h).busMaster = s.busMaster := rfl
@[simp] theorem setHlane_d3hot (m : Nat) (h : HostLane) : (s.setHlane m h).d3hot = s.d3hot := rfl
@[simp] theorem setHlane_inReset (m : Nat) (h : HostLane) : (s.setHlane m h).inReset = s.inReset := rfl
@[simp] theorem setHlane_held (m : Nat) (h : HostLane) : (s.setHlane m h).held = s.held := rfl
@[simp] theorem setHlane_perst (m : Nat) (h : HostLane) : (s.setHlane m h).perst = s.perst := rfl
@[simp] theorem setHlane_domOn (m : Nat) (h : HostLane) : (s.setHlane m h).domOn = s.domOn := rfl
@[simp] theorem setHlane_domBusy (m : Nat) (h : HostLane) : (s.setHlane m h).domBusy = s.domBusy := rfl
@[simp] theorem setHlane_fuseFloorHk (m : Nat) (h : HostLane) : (s.setHlane m h).fuseFloorHk = s.fuseFloorHk := rfl
@[simp] theorem setHlane_fuseSub (m : Nat) (h : HostLane) : (s.setHlane m h).fuseSub = s.fuseSub := rfl
@[simp] theorem setHlane_fuseSeg (m : Nat) (h : HostLane) : (s.setHlane m h).fuseSeg = s.fuseSeg := rfl
@[simp] theorem setHlane_refAt (m : Nat) (h : HostLane) : (s.setHlane m h).refAt = s.refAt := rfl
@[simp] theorem setHlane_refBack (m : Nat) (h : HostLane) : (s.setHlane m h).refBack = s.refBack := rfl
@[simp] theorem setHlane_bar4Gib (m : Nat) (h : HostLane) : (s.setHlane m h).bar4Gib = s.bar4Gib := rfl
@[simp] theorem setHlane_clrPin (m : Nat) (h : HostLane) : (s.setHlane m h).clrPin = s.clrPin := rfl
@[simp] theorem setHlane_dpTicks (m : Nat) (h : HostLane) : (s.setHlane m h).dpTicks = s.dpTicks := rfl
@[simp] theorem setHlane_tb (m : Nat) (h : HostLane) : (s.setHlane m h).tb = s.tb := rfl
@[simp] theorem setHlane_line (m : Nat) (h : HostLane) : (s.setHlane m h).line = s.line := rfl
@[simp] theorem setHlane_engines (m : Nat) (h : HostLane) : (s.setHlane m h).engines = s.engines := rfl
@[simp] theorem setHlane_prims (m : Nat) (h : HostLane) : (s.setHlane m h).prims = s.prims := rfl
@[simp] theorem setHlane_sram (m : Nat) (h : HostLane) : (s.setHlane m h).sram = s.sram := rfl
@[simp] theorem setHlane_portTsu (m : Nat) (h : HostLane) : (s.setHlane m h).portTsu = s.portTsu := rfl
@[simp] theorem setHlane_laneTsu (m : Nat) (h : HostLane) : (s.setHlane m h).laneTsu = s.laneTsu := rfl
@[simp] theorem setHlane_tpi (m : Nat) (h : HostLane) : (s.setHlane m h).tpi = s.tpi := rfl
@[simp] theorem setHlane_tbStep (m : Nat) (h : HostLane) : (s.setHlane m h).tbStep = s.tbStep := rfl
@[simp] theorem setHlane_tpoIssued (m : Nat) (h : HostLane) : (s.setHlane m h).tpoIssued = s.tpoIssued := rfl
@[simp] theorem setHlane_sched (m : Nat) (h : HostLane) : (s.setHlane m h).sched = s.sched := rfl
@[simp] theorem setHlane_fog (m : Nat) (h : HostLane) : (s.setHlane m h).fog = s.fog := rfl
@[simp] theorem setHlane_twin (m : Nat) (h : HostLane) : (s.setHlane m h).twin = s.twin := rfl
@[simp] theorem setHlane_hk (m : Nat) (h : HostLane) : (s.setHlane m h).hk = s.hk := rfl
@[simp] theorem setHlane_hdac (m : Nat) (h : HostLane) : (s.setHlane m h).hdac = s.hdac := rfl
@[simp] theorem setHlane_fcoef (m : Nat) (h : HostLane) : (s.setHlane m h).fcoef = s.fcoef := rfl
@[simp] theorem setHlane_ddr (m : Nat) (h : HostLane) : (s.setHlane m h).ddr = s.ddr := rfl
@[simp] theorem setHlane_therm (m : Nat) (h : HostLane) : (s.setHlane m h).therm = s.therm := rfl
@[simp] theorem setHlane_pwr (m : Nat) (h : HostLane) : (s.setHlane m h).pwr = s.pwr := rfl
@[simp] theorem setHlane_dma (m : Nat) (h : HostLane) : (s.setHlane m h).dma = s.dma := rfl
@[simp] theorem setHlane_tap (m : Nat) (h : HostLane) : (s.setHlane m h).tap = s.tap := rfl
@[simp] theorem setHlane_log (m : Nat) (h : HostLane) : (s.setHlane m h).log = s.log := rfl
@[simp] theorem setHlane_fuse (m : Nat) (h : HostLane) : (s.setHlane m h).fuse = s.fuse := rfl
@[simp] theorem setHlane_flash (m : Nat) (h : HostLane) : (s.setHlane m h).flash = s.flash := rfl
@[simp] theorem setHlane_dbg (m : Nat) (h : HostLane) : (s.setHlane m h).dbg = s.dbg := rfl
@[simp] theorem setHlane_cfgv (m : Nat) (h : HostLane) : (s.setHlane m h).cfgv = s.cfgv := rfl
@[simp] theorem setHlane_bist (m : Nat) (h : HostLane) : (s.setHlane m h).bist = s.bist := rfl
@[simp] theorem setHlane_sweepAt (m : Nat) (h : HostLane) : (s.setHlane m h).sweepAt = s.sweepAt := rfl
@[simp] theorem setHlane_sweepLap (m : Nat) (h : HostLane) : (s.setHlane m h).sweepLap = s.sweepLap := rfl
@[simp] theorem setHlane_portMon (m : Nat) (h : HostLane) : (s.setHlane m h).portMon = s.portMon := rfl
@[simp] theorem setHlane_free (m : Nat) (h : HostLane) : (s.setHlane m h).free = s.free := rfl
@[simp] theorem setHlane_out (m : Nat) (h : HostLane) : (s.setHlane m h).out = s.out := rfl
@[simp] theorem setHlane_intStat (m : Nat) (h : HostLane) (b2 : Nat) : (s.setHlane m h).intStat b2 = s.intStat b2 := rfl
@[simp] theorem setHlane_reg (m : Nat) (h : HostLane) (b2 off2 : Nat) : (s.setHlane m h).reg b2 off2 = s.reg b2 off2 := rfl
@[simp] theorem setHlane_f (m : Nat) (h : HostLane) (b2 : Nat) (fl : Fld) : (s.setHlane m h).f b2 fl = s.f b2 fl := rfl
@[simp] theorem setHlane_fb (m : Nat) (h : HostLane) (b2 : Nat) (fl : Fld) : (s.setHlane m h).fb b2 fl = s.fb b2 fl := rfl
@[simp] theorem setHlane_domReady (m : Nat) (h : HostLane) (d : Nat) : (s.setHlane m h).domReady d = s.domReady d := rfl
@[simp] theorem setHlane_reach (m : Nat) (h : HostLane) (b2 : Nat) : (s.setHlane m h).reach b2 = s.reach b2 := rfl

/-! ### setEng -/

@[simp] theorem setEng_pending (e : Nat) (g : Engine) : (s.setEng e g).pending = s.pending := rfl
@[simp] theorem setEng_regs (e : Nat) (g : Engine) : (s.setEng e g).regs = s.regs := rfl
@[simp] theorem setEng_shadows (e : Nat) (g : Engine) : (s.setEng e g).shadows = s.shadows := rfl
@[simp] theorem setEng_used (e : Nat) (g : Engine) : (s.setEng e g).used = s.used := rfl
@[simp] theorem setEng_latched (e : Nat) (g : Engine) : (s.setEng e g).latched = s.latched := rfl
@[simp] theorem setEng_pairBad (e : Nat) (g : Engine) : (s.setEng e g).pairBad = s.pairBad := rfl
@[simp] theorem setEng_ints (e : Nat) (g : Engine) : (s.setEng e g).ints = s.ints := rfl
@[simp] theorem setEng_intEn (e : Nat) (g : Engine) : (s.setEng e g).intEn = s.intEn := rfl
@[simp] theorem setEng_parBad (e : Nat) (g : Engine) : (s.setEng e g).parBad = s.parBad := rfl
@[simp] theorem setEng_parSeen (e : Nat) (g : Engine) : (s.setEng e g).parSeen = s.parSeen := rfl
@[simp] theorem setEng_intnCopy (e : Nat) (g : Engine) : (s.setEng e g).intnCopy = s.intnCopy := rfl
@[simp] theorem setEng_hold (e : Nat) (g : Engine) : (s.setEng e g).hold = s.hold := rfl
@[simp] theorem setEng_i2c (e : Nat) (g : Engine) : (s.setEng e g).i2c = s.i2c := rfl
@[simp] theorem setEng_msix (e : Nat) (g : Engine) : (s.setEng e g).msix = s.msix := rfl
@[simp] theorem setEng_pba (e : Nat) (g : Engine) : (s.setEng e g).pba = s.pba := rfl
@[simp] theorem setEng_msixEn (e : Nat) (g : Engine) : (s.setEng e g).msixEn = s.msixEn := rfl
@[simp] theorem setEng_busMaster (e : Nat) (g : Engine) : (s.setEng e g).busMaster = s.busMaster := rfl
@[simp] theorem setEng_d3hot (e : Nat) (g : Engine) : (s.setEng e g).d3hot = s.d3hot := rfl
@[simp] theorem setEng_inReset (e : Nat) (g : Engine) : (s.setEng e g).inReset = s.inReset := rfl
@[simp] theorem setEng_held (e : Nat) (g : Engine) : (s.setEng e g).held = s.held := rfl
@[simp] theorem setEng_perst (e : Nat) (g : Engine) : (s.setEng e g).perst = s.perst := rfl
@[simp] theorem setEng_domOn (e : Nat) (g : Engine) : (s.setEng e g).domOn = s.domOn := rfl
@[simp] theorem setEng_domBusy (e : Nat) (g : Engine) : (s.setEng e g).domBusy = s.domBusy := rfl
@[simp] theorem setEng_fuseFloorHk (e : Nat) (g : Engine) : (s.setEng e g).fuseFloorHk = s.fuseFloorHk := rfl
@[simp] theorem setEng_fuseSub (e : Nat) (g : Engine) : (s.setEng e g).fuseSub = s.fuseSub := rfl
@[simp] theorem setEng_fuseSeg (e : Nat) (g : Engine) : (s.setEng e g).fuseSeg = s.fuseSeg := rfl
@[simp] theorem setEng_refAt (e : Nat) (g : Engine) : (s.setEng e g).refAt = s.refAt := rfl
@[simp] theorem setEng_refBack (e : Nat) (g : Engine) : (s.setEng e g).refBack = s.refBack := rfl
@[simp] theorem setEng_bar4Gib (e : Nat) (g : Engine) : (s.setEng e g).bar4Gib = s.bar4Gib := rfl
@[simp] theorem setEng_clrPin (e : Nat) (g : Engine) : (s.setEng e g).clrPin = s.clrPin := rfl
@[simp] theorem setEng_dpTicks (e : Nat) (g : Engine) : (s.setEng e g).dpTicks = s.dpTicks := rfl
@[simp] theorem setEng_tb (e : Nat) (g : Engine) : (s.setEng e g).tb = s.tb := rfl
@[simp] theorem setEng_line (e : Nat) (g : Engine) : (s.setEng e g).line = s.line := rfl
@[simp] theorem setEng_host (e : Nat) (g : Engine) : (s.setEng e g).host = s.host := rfl
@[simp] theorem setEng_prims (e : Nat) (g : Engine) : (s.setEng e g).prims = s.prims := rfl
@[simp] theorem setEng_sram (e : Nat) (g : Engine) : (s.setEng e g).sram = s.sram := rfl
@[simp] theorem setEng_portTsu (e : Nat) (g : Engine) : (s.setEng e g).portTsu = s.portTsu := rfl
@[simp] theorem setEng_laneTsu (e : Nat) (g : Engine) : (s.setEng e g).laneTsu = s.laneTsu := rfl
@[simp] theorem setEng_tpi (e : Nat) (g : Engine) : (s.setEng e g).tpi = s.tpi := rfl
@[simp] theorem setEng_tbStep (e : Nat) (g : Engine) : (s.setEng e g).tbStep = s.tbStep := rfl
@[simp] theorem setEng_tpoIssued (e : Nat) (g : Engine) : (s.setEng e g).tpoIssued = s.tpoIssued := rfl
@[simp] theorem setEng_sched (e : Nat) (g : Engine) : (s.setEng e g).sched = s.sched := rfl
@[simp] theorem setEng_fog (e : Nat) (g : Engine) : (s.setEng e g).fog = s.fog := rfl
@[simp] theorem setEng_twin (e : Nat) (g : Engine) : (s.setEng e g).twin = s.twin := rfl
@[simp] theorem setEng_hk (e : Nat) (g : Engine) : (s.setEng e g).hk = s.hk := rfl
@[simp] theorem setEng_hdac (e : Nat) (g : Engine) : (s.setEng e g).hdac = s.hdac := rfl
@[simp] theorem setEng_fcoef (e : Nat) (g : Engine) : (s.setEng e g).fcoef = s.fcoef := rfl
@[simp] theorem setEng_ddr (e : Nat) (g : Engine) : (s.setEng e g).ddr = s.ddr := rfl
@[simp] theorem setEng_therm (e : Nat) (g : Engine) : (s.setEng e g).therm = s.therm := rfl
@[simp] theorem setEng_pwr (e : Nat) (g : Engine) : (s.setEng e g).pwr = s.pwr := rfl
@[simp] theorem setEng_dma (e : Nat) (g : Engine) : (s.setEng e g).dma = s.dma := rfl
@[simp] theorem setEng_tap (e : Nat) (g : Engine) : (s.setEng e g).tap = s.tap := rfl
@[simp] theorem setEng_log (e : Nat) (g : Engine) : (s.setEng e g).log = s.log := rfl
@[simp] theorem setEng_fuse (e : Nat) (g : Engine) : (s.setEng e g).fuse = s.fuse := rfl
@[simp] theorem setEng_flash (e : Nat) (g : Engine) : (s.setEng e g).flash = s.flash := rfl
@[simp] theorem setEng_dbg (e : Nat) (g : Engine) : (s.setEng e g).dbg = s.dbg := rfl
@[simp] theorem setEng_cfgv (e : Nat) (g : Engine) : (s.setEng e g).cfgv = s.cfgv := rfl
@[simp] theorem setEng_bist (e : Nat) (g : Engine) : (s.setEng e g).bist = s.bist := rfl
@[simp] theorem setEng_sweepAt (e : Nat) (g : Engine) : (s.setEng e g).sweepAt = s.sweepAt := rfl
@[simp] theorem setEng_sweepLap (e : Nat) (g : Engine) : (s.setEng e g).sweepLap = s.sweepLap := rfl
@[simp] theorem setEng_portMon (e : Nat) (g : Engine) : (s.setEng e g).portMon = s.portMon := rfl
@[simp] theorem setEng_free (e : Nat) (g : Engine) : (s.setEng e g).free = s.free := rfl
@[simp] theorem setEng_out (e : Nat) (g : Engine) : (s.setEng e g).out = s.out := rfl
@[simp] theorem setEng_intStat (e : Nat) (g : Engine) (b2 : Nat) : (s.setEng e g).intStat b2 = s.intStat b2 := rfl
@[simp] theorem setEng_reg (e : Nat) (g : Engine) (b2 off2 : Nat) : (s.setEng e g).reg b2 off2 = s.reg b2 off2 := rfl
@[simp] theorem setEng_f (e : Nat) (g : Engine) (b2 : Nat) (fl : Fld) : (s.setEng e g).f b2 fl = s.f b2 fl := rfl
@[simp] theorem setEng_fb (e : Nat) (g : Engine) (b2 : Nat) (fl : Fld) : (s.setEng e g).fb b2 fl = s.fb b2 fl := rfl
@[simp] theorem setEng_domReady (e : Nat) (g : Engine) (d : Nat) : (s.setEng e g).domReady d = s.domReady d := rfl
@[simp] theorem setEng_reach (e : Nat) (g : Engine) (b2 : Nat) : (s.setEng e g).reach b2 = s.reach b2 := rfl

/-! ### setPrim -/

@[simp] theorem setPrim_pending (k : Nat) (p : Prims) : (s.setPrim k p).pending = s.pending := rfl
@[simp] theorem setPrim_regs (k : Nat) (p : Prims) : (s.setPrim k p).regs = s.regs := rfl
@[simp] theorem setPrim_shadows (k : Nat) (p : Prims) : (s.setPrim k p).shadows = s.shadows := rfl
@[simp] theorem setPrim_used (k : Nat) (p : Prims) : (s.setPrim k p).used = s.used := rfl
@[simp] theorem setPrim_latched (k : Nat) (p : Prims) : (s.setPrim k p).latched = s.latched := rfl
@[simp] theorem setPrim_pairBad (k : Nat) (p : Prims) : (s.setPrim k p).pairBad = s.pairBad := rfl
@[simp] theorem setPrim_ints (k : Nat) (p : Prims) : (s.setPrim k p).ints = s.ints := rfl
@[simp] theorem setPrim_intEn (k : Nat) (p : Prims) : (s.setPrim k p).intEn = s.intEn := rfl
@[simp] theorem setPrim_parBad (k : Nat) (p : Prims) : (s.setPrim k p).parBad = s.parBad := rfl
@[simp] theorem setPrim_parSeen (k : Nat) (p : Prims) : (s.setPrim k p).parSeen = s.parSeen := rfl
@[simp] theorem setPrim_intnCopy (k : Nat) (p : Prims) : (s.setPrim k p).intnCopy = s.intnCopy := rfl
@[simp] theorem setPrim_hold (k : Nat) (p : Prims) : (s.setPrim k p).hold = s.hold := rfl
@[simp] theorem setPrim_i2c (k : Nat) (p : Prims) : (s.setPrim k p).i2c = s.i2c := rfl
@[simp] theorem setPrim_msix (k : Nat) (p : Prims) : (s.setPrim k p).msix = s.msix := rfl
@[simp] theorem setPrim_pba (k : Nat) (p : Prims) : (s.setPrim k p).pba = s.pba := rfl
@[simp] theorem setPrim_msixEn (k : Nat) (p : Prims) : (s.setPrim k p).msixEn = s.msixEn := rfl
@[simp] theorem setPrim_busMaster (k : Nat) (p : Prims) : (s.setPrim k p).busMaster = s.busMaster := rfl
@[simp] theorem setPrim_d3hot (k : Nat) (p : Prims) : (s.setPrim k p).d3hot = s.d3hot := rfl
@[simp] theorem setPrim_inReset (k : Nat) (p : Prims) : (s.setPrim k p).inReset = s.inReset := rfl
@[simp] theorem setPrim_held (k : Nat) (p : Prims) : (s.setPrim k p).held = s.held := rfl
@[simp] theorem setPrim_perst (k : Nat) (p : Prims) : (s.setPrim k p).perst = s.perst := rfl
@[simp] theorem setPrim_domOn (k : Nat) (p : Prims) : (s.setPrim k p).domOn = s.domOn := rfl
@[simp] theorem setPrim_domBusy (k : Nat) (p : Prims) : (s.setPrim k p).domBusy = s.domBusy := rfl
@[simp] theorem setPrim_fuseFloorHk (k : Nat) (p : Prims) : (s.setPrim k p).fuseFloorHk = s.fuseFloorHk := rfl
@[simp] theorem setPrim_fuseSub (k : Nat) (p : Prims) : (s.setPrim k p).fuseSub = s.fuseSub := rfl
@[simp] theorem setPrim_fuseSeg (k : Nat) (p : Prims) : (s.setPrim k p).fuseSeg = s.fuseSeg := rfl
@[simp] theorem setPrim_refAt (k : Nat) (p : Prims) : (s.setPrim k p).refAt = s.refAt := rfl
@[simp] theorem setPrim_refBack (k : Nat) (p : Prims) : (s.setPrim k p).refBack = s.refBack := rfl
@[simp] theorem setPrim_bar4Gib (k : Nat) (p : Prims) : (s.setPrim k p).bar4Gib = s.bar4Gib := rfl
@[simp] theorem setPrim_clrPin (k : Nat) (p : Prims) : (s.setPrim k p).clrPin = s.clrPin := rfl
@[simp] theorem setPrim_dpTicks (k : Nat) (p : Prims) : (s.setPrim k p).dpTicks = s.dpTicks := rfl
@[simp] theorem setPrim_tb (k : Nat) (p : Prims) : (s.setPrim k p).tb = s.tb := rfl
@[simp] theorem setPrim_line (k : Nat) (p : Prims) : (s.setPrim k p).line = s.line := rfl
@[simp] theorem setPrim_host (k : Nat) (p : Prims) : (s.setPrim k p).host = s.host := rfl
@[simp] theorem setPrim_engines (k : Nat) (p : Prims) : (s.setPrim k p).engines = s.engines := rfl
@[simp] theorem setPrim_sram (k : Nat) (p : Prims) : (s.setPrim k p).sram = s.sram := rfl
@[simp] theorem setPrim_portTsu (k : Nat) (p : Prims) : (s.setPrim k p).portTsu = s.portTsu := rfl
@[simp] theorem setPrim_laneTsu (k : Nat) (p : Prims) : (s.setPrim k p).laneTsu = s.laneTsu := rfl
@[simp] theorem setPrim_tpi (k : Nat) (p : Prims) : (s.setPrim k p).tpi = s.tpi := rfl
@[simp] theorem setPrim_tbStep (k : Nat) (p : Prims) : (s.setPrim k p).tbStep = s.tbStep := rfl
@[simp] theorem setPrim_tpoIssued (k : Nat) (p : Prims) : (s.setPrim k p).tpoIssued = s.tpoIssued := rfl
@[simp] theorem setPrim_sched (k : Nat) (p : Prims) : (s.setPrim k p).sched = s.sched := rfl
@[simp] theorem setPrim_fog (k : Nat) (p : Prims) : (s.setPrim k p).fog = s.fog := rfl
@[simp] theorem setPrim_twin (k : Nat) (p : Prims) : (s.setPrim k p).twin = s.twin := rfl
@[simp] theorem setPrim_hk (k : Nat) (p : Prims) : (s.setPrim k p).hk = s.hk := rfl
@[simp] theorem setPrim_hdac (k : Nat) (p : Prims) : (s.setPrim k p).hdac = s.hdac := rfl
@[simp] theorem setPrim_fcoef (k : Nat) (p : Prims) : (s.setPrim k p).fcoef = s.fcoef := rfl
@[simp] theorem setPrim_ddr (k : Nat) (p : Prims) : (s.setPrim k p).ddr = s.ddr := rfl
@[simp] theorem setPrim_therm (k : Nat) (p : Prims) : (s.setPrim k p).therm = s.therm := rfl
@[simp] theorem setPrim_pwr (k : Nat) (p : Prims) : (s.setPrim k p).pwr = s.pwr := rfl
@[simp] theorem setPrim_dma (k : Nat) (p : Prims) : (s.setPrim k p).dma = s.dma := rfl
@[simp] theorem setPrim_tap (k : Nat) (p : Prims) : (s.setPrim k p).tap = s.tap := rfl
@[simp] theorem setPrim_log (k : Nat) (p : Prims) : (s.setPrim k p).log = s.log := rfl
@[simp] theorem setPrim_fuse (k : Nat) (p : Prims) : (s.setPrim k p).fuse = s.fuse := rfl
@[simp] theorem setPrim_flash (k : Nat) (p : Prims) : (s.setPrim k p).flash = s.flash := rfl
@[simp] theorem setPrim_dbg (k : Nat) (p : Prims) : (s.setPrim k p).dbg = s.dbg := rfl
@[simp] theorem setPrim_cfgv (k : Nat) (p : Prims) : (s.setPrim k p).cfgv = s.cfgv := rfl
@[simp] theorem setPrim_bist (k : Nat) (p : Prims) : (s.setPrim k p).bist = s.bist := rfl
@[simp] theorem setPrim_sweepAt (k : Nat) (p : Prims) : (s.setPrim k p).sweepAt = s.sweepAt := rfl
@[simp] theorem setPrim_sweepLap (k : Nat) (p : Prims) : (s.setPrim k p).sweepLap = s.sweepLap := rfl
@[simp] theorem setPrim_portMon (k : Nat) (p : Prims) : (s.setPrim k p).portMon = s.portMon := rfl
@[simp] theorem setPrim_free (k : Nat) (p : Prims) : (s.setPrim k p).free = s.free := rfl
@[simp] theorem setPrim_out (k : Nat) (p : Prims) : (s.setPrim k p).out = s.out := rfl
@[simp] theorem setPrim_intStat (k : Nat) (p : Prims) (b2 : Nat) : (s.setPrim k p).intStat b2 = s.intStat b2 := rfl
@[simp] theorem setPrim_reg (k : Nat) (p : Prims) (b2 off2 : Nat) : (s.setPrim k p).reg b2 off2 = s.reg b2 off2 := rfl
@[simp] theorem setPrim_f (k : Nat) (p : Prims) (b2 : Nat) (fl : Fld) : (s.setPrim k p).f b2 fl = s.f b2 fl := rfl
@[simp] theorem setPrim_fb (k : Nat) (p : Prims) (b2 : Nat) (fl : Fld) : (s.setPrim k p).fb b2 fl = s.fb b2 fl := rfl
@[simp] theorem setPrim_domReady (k : Nat) (p : Prims) (d : Nat) : (s.setPrim k p).domReady d = s.domReady d := rfl
@[simp] theorem setPrim_reach (k : Nat) (p : Prims) (b2 : Nat) : (s.setPrim k p).reach b2 = s.reach b2 := rfl

/-! ### setLtsu -/

@[simp] theorem setLtsu_pending (n : Nat) (u : LaneTsu) : (s.setLtsu n u).pending = s.pending := rfl
@[simp] theorem setLtsu_regs (n : Nat) (u : LaneTsu) : (s.setLtsu n u).regs = s.regs := rfl
@[simp] theorem setLtsu_shadows (n : Nat) (u : LaneTsu) : (s.setLtsu n u).shadows = s.shadows := rfl
@[simp] theorem setLtsu_used (n : Nat) (u : LaneTsu) : (s.setLtsu n u).used = s.used := rfl
@[simp] theorem setLtsu_latched (n : Nat) (u : LaneTsu) : (s.setLtsu n u).latched = s.latched := rfl
@[simp] theorem setLtsu_pairBad (n : Nat) (u : LaneTsu) : (s.setLtsu n u).pairBad = s.pairBad := rfl
@[simp] theorem setLtsu_ints (n : Nat) (u : LaneTsu) : (s.setLtsu n u).ints = s.ints := rfl
@[simp] theorem setLtsu_intEn (n : Nat) (u : LaneTsu) : (s.setLtsu n u).intEn = s.intEn := rfl
@[simp] theorem setLtsu_parBad (n : Nat) (u : LaneTsu) : (s.setLtsu n u).parBad = s.parBad := rfl
@[simp] theorem setLtsu_parSeen (n : Nat) (u : LaneTsu) : (s.setLtsu n u).parSeen = s.parSeen := rfl
@[simp] theorem setLtsu_intnCopy (n : Nat) (u : LaneTsu) : (s.setLtsu n u).intnCopy = s.intnCopy := rfl
@[simp] theorem setLtsu_hold (n : Nat) (u : LaneTsu) : (s.setLtsu n u).hold = s.hold := rfl
@[simp] theorem setLtsu_i2c (n : Nat) (u : LaneTsu) : (s.setLtsu n u).i2c = s.i2c := rfl
@[simp] theorem setLtsu_msix (n : Nat) (u : LaneTsu) : (s.setLtsu n u).msix = s.msix := rfl
@[simp] theorem setLtsu_pba (n : Nat) (u : LaneTsu) : (s.setLtsu n u).pba = s.pba := rfl
@[simp] theorem setLtsu_msixEn (n : Nat) (u : LaneTsu) : (s.setLtsu n u).msixEn = s.msixEn := rfl
@[simp] theorem setLtsu_busMaster (n : Nat) (u : LaneTsu) : (s.setLtsu n u).busMaster = s.busMaster := rfl
@[simp] theorem setLtsu_d3hot (n : Nat) (u : LaneTsu) : (s.setLtsu n u).d3hot = s.d3hot := rfl
@[simp] theorem setLtsu_inReset (n : Nat) (u : LaneTsu) : (s.setLtsu n u).inReset = s.inReset := rfl
@[simp] theorem setLtsu_held (n : Nat) (u : LaneTsu) : (s.setLtsu n u).held = s.held := rfl
@[simp] theorem setLtsu_perst (n : Nat) (u : LaneTsu) : (s.setLtsu n u).perst = s.perst := rfl
@[simp] theorem setLtsu_domOn (n : Nat) (u : LaneTsu) : (s.setLtsu n u).domOn = s.domOn := rfl
@[simp] theorem setLtsu_domBusy (n : Nat) (u : LaneTsu) : (s.setLtsu n u).domBusy = s.domBusy := rfl
@[simp] theorem setLtsu_fuseFloorHk (n : Nat) (u : LaneTsu) : (s.setLtsu n u).fuseFloorHk = s.fuseFloorHk := rfl
@[simp] theorem setLtsu_fuseSub (n : Nat) (u : LaneTsu) : (s.setLtsu n u).fuseSub = s.fuseSub := rfl
@[simp] theorem setLtsu_fuseSeg (n : Nat) (u : LaneTsu) : (s.setLtsu n u).fuseSeg = s.fuseSeg := rfl
@[simp] theorem setLtsu_refAt (n : Nat) (u : LaneTsu) : (s.setLtsu n u).refAt = s.refAt := rfl
@[simp] theorem setLtsu_refBack (n : Nat) (u : LaneTsu) : (s.setLtsu n u).refBack = s.refBack := rfl
@[simp] theorem setLtsu_bar4Gib (n : Nat) (u : LaneTsu) : (s.setLtsu n u).bar4Gib = s.bar4Gib := rfl
@[simp] theorem setLtsu_clrPin (n : Nat) (u : LaneTsu) : (s.setLtsu n u).clrPin = s.clrPin := rfl
@[simp] theorem setLtsu_dpTicks (n : Nat) (u : LaneTsu) : (s.setLtsu n u).dpTicks = s.dpTicks := rfl
@[simp] theorem setLtsu_tb (n : Nat) (u : LaneTsu) : (s.setLtsu n u).tb = s.tb := rfl
@[simp] theorem setLtsu_line (n : Nat) (u : LaneTsu) : (s.setLtsu n u).line = s.line := rfl
@[simp] theorem setLtsu_host (n : Nat) (u : LaneTsu) : (s.setLtsu n u).host = s.host := rfl
@[simp] theorem setLtsu_engines (n : Nat) (u : LaneTsu) : (s.setLtsu n u).engines = s.engines := rfl
@[simp] theorem setLtsu_prims (n : Nat) (u : LaneTsu) : (s.setLtsu n u).prims = s.prims := rfl
@[simp] theorem setLtsu_sram (n : Nat) (u : LaneTsu) : (s.setLtsu n u).sram = s.sram := rfl
@[simp] theorem setLtsu_portTsu (n : Nat) (u : LaneTsu) : (s.setLtsu n u).portTsu = s.portTsu := rfl
@[simp] theorem setLtsu_tpi (n : Nat) (u : LaneTsu) : (s.setLtsu n u).tpi = s.tpi := rfl
@[simp] theorem setLtsu_tbStep (n : Nat) (u : LaneTsu) : (s.setLtsu n u).tbStep = s.tbStep := rfl
@[simp] theorem setLtsu_tpoIssued (n : Nat) (u : LaneTsu) : (s.setLtsu n u).tpoIssued = s.tpoIssued := rfl
@[simp] theorem setLtsu_sched (n : Nat) (u : LaneTsu) : (s.setLtsu n u).sched = s.sched := rfl
@[simp] theorem setLtsu_fog (n : Nat) (u : LaneTsu) : (s.setLtsu n u).fog = s.fog := rfl
@[simp] theorem setLtsu_twin (n : Nat) (u : LaneTsu) : (s.setLtsu n u).twin = s.twin := rfl
@[simp] theorem setLtsu_hk (n : Nat) (u : LaneTsu) : (s.setLtsu n u).hk = s.hk := rfl
@[simp] theorem setLtsu_hdac (n : Nat) (u : LaneTsu) : (s.setLtsu n u).hdac = s.hdac := rfl
@[simp] theorem setLtsu_fcoef (n : Nat) (u : LaneTsu) : (s.setLtsu n u).fcoef = s.fcoef := rfl
@[simp] theorem setLtsu_ddr (n : Nat) (u : LaneTsu) : (s.setLtsu n u).ddr = s.ddr := rfl
@[simp] theorem setLtsu_therm (n : Nat) (u : LaneTsu) : (s.setLtsu n u).therm = s.therm := rfl
@[simp] theorem setLtsu_pwr (n : Nat) (u : LaneTsu) : (s.setLtsu n u).pwr = s.pwr := rfl
@[simp] theorem setLtsu_dma (n : Nat) (u : LaneTsu) : (s.setLtsu n u).dma = s.dma := rfl
@[simp] theorem setLtsu_tap (n : Nat) (u : LaneTsu) : (s.setLtsu n u).tap = s.tap := rfl
@[simp] theorem setLtsu_log (n : Nat) (u : LaneTsu) : (s.setLtsu n u).log = s.log := rfl
@[simp] theorem setLtsu_fuse (n : Nat) (u : LaneTsu) : (s.setLtsu n u).fuse = s.fuse := rfl
@[simp] theorem setLtsu_flash (n : Nat) (u : LaneTsu) : (s.setLtsu n u).flash = s.flash := rfl
@[simp] theorem setLtsu_dbg (n : Nat) (u : LaneTsu) : (s.setLtsu n u).dbg = s.dbg := rfl
@[simp] theorem setLtsu_cfgv (n : Nat) (u : LaneTsu) : (s.setLtsu n u).cfgv = s.cfgv := rfl
@[simp] theorem setLtsu_bist (n : Nat) (u : LaneTsu) : (s.setLtsu n u).bist = s.bist := rfl
@[simp] theorem setLtsu_sweepAt (n : Nat) (u : LaneTsu) : (s.setLtsu n u).sweepAt = s.sweepAt := rfl
@[simp] theorem setLtsu_sweepLap (n : Nat) (u : LaneTsu) : (s.setLtsu n u).sweepLap = s.sweepLap := rfl
@[simp] theorem setLtsu_portMon (n : Nat) (u : LaneTsu) : (s.setLtsu n u).portMon = s.portMon := rfl
@[simp] theorem setLtsu_free (n : Nat) (u : LaneTsu) : (s.setLtsu n u).free = s.free := rfl
@[simp] theorem setLtsu_out (n : Nat) (u : LaneTsu) : (s.setLtsu n u).out = s.out := rfl
@[simp] theorem setLtsu_intStat (n : Nat) (u : LaneTsu) (b2 : Nat) : (s.setLtsu n u).intStat b2 = s.intStat b2 := rfl
@[simp] theorem setLtsu_reg (n : Nat) (u : LaneTsu) (b2 off2 : Nat) : (s.setLtsu n u).reg b2 off2 = s.reg b2 off2 := rfl
@[simp] theorem setLtsu_f (n : Nat) (u : LaneTsu) (b2 : Nat) (fl : Fld) : (s.setLtsu n u).f b2 fl = s.f b2 fl := rfl
@[simp] theorem setLtsu_fb (n : Nat) (u : LaneTsu) (b2 : Nat) (fl : Fld) : (s.setLtsu n u).fb b2 fl = s.fb b2 fl := rfl
@[simp] theorem setLtsu_domReady (n : Nat) (u : LaneTsu) (d : Nat) : (s.setLtsu n u).domReady d = s.domReady d := rfl
@[simp] theorem setLtsu_reach (n : Nat) (u : LaneTsu) (b2 : Nat) : (s.setLtsu n u).reach b2 = s.reach b2 := rfl

/-! ### setSram -/

@[simp] theorem setSram_pending (m : Sram) : (s.setSram m).pending = s.pending := rfl
@[simp] theorem setSram_regs (m : Sram) : (s.setSram m).regs = s.regs := rfl
@[simp] theorem setSram_shadows (m : Sram) : (s.setSram m).shadows = s.shadows := rfl
@[simp] theorem setSram_used (m : Sram) : (s.setSram m).used = s.used := rfl
@[simp] theorem setSram_latched (m : Sram) : (s.setSram m).latched = s.latched := rfl
@[simp] theorem setSram_pairBad (m : Sram) : (s.setSram m).pairBad = s.pairBad := rfl
@[simp] theorem setSram_ints (m : Sram) : (s.setSram m).ints = s.ints := rfl
@[simp] theorem setSram_intEn (m : Sram) : (s.setSram m).intEn = s.intEn := rfl
@[simp] theorem setSram_parBad (m : Sram) : (s.setSram m).parBad = s.parBad := rfl
@[simp] theorem setSram_parSeen (m : Sram) : (s.setSram m).parSeen = s.parSeen := rfl
@[simp] theorem setSram_intnCopy (m : Sram) : (s.setSram m).intnCopy = s.intnCopy := rfl
@[simp] theorem setSram_hold (m : Sram) : (s.setSram m).hold = s.hold := rfl
@[simp] theorem setSram_i2c (m : Sram) : (s.setSram m).i2c = s.i2c := rfl
@[simp] theorem setSram_msix (m : Sram) : (s.setSram m).msix = s.msix := rfl
@[simp] theorem setSram_pba (m : Sram) : (s.setSram m).pba = s.pba := rfl
@[simp] theorem setSram_msixEn (m : Sram) : (s.setSram m).msixEn = s.msixEn := rfl
@[simp] theorem setSram_busMaster (m : Sram) : (s.setSram m).busMaster = s.busMaster := rfl
@[simp] theorem setSram_d3hot (m : Sram) : (s.setSram m).d3hot = s.d3hot := rfl
@[simp] theorem setSram_inReset (m : Sram) : (s.setSram m).inReset = s.inReset := rfl
@[simp] theorem setSram_held (m : Sram) : (s.setSram m).held = s.held := rfl
@[simp] theorem setSram_perst (m : Sram) : (s.setSram m).perst = s.perst := rfl
@[simp] theorem setSram_domOn (m : Sram) : (s.setSram m).domOn = s.domOn := rfl
@[simp] theorem setSram_domBusy (m : Sram) : (s.setSram m).domBusy = s.domBusy := rfl
@[simp] theorem setSram_fuseFloorHk (m : Sram) : (s.setSram m).fuseFloorHk = s.fuseFloorHk := rfl
@[simp] theorem setSram_fuseSub (m : Sram) : (s.setSram m).fuseSub = s.fuseSub := rfl
@[simp] theorem setSram_fuseSeg (m : Sram) : (s.setSram m).fuseSeg = s.fuseSeg := rfl
@[simp] theorem setSram_refAt (m : Sram) : (s.setSram m).refAt = s.refAt := rfl
@[simp] theorem setSram_refBack (m : Sram) : (s.setSram m).refBack = s.refBack := rfl
@[simp] theorem setSram_bar4Gib (m : Sram) : (s.setSram m).bar4Gib = s.bar4Gib := rfl
@[simp] theorem setSram_clrPin (m : Sram) : (s.setSram m).clrPin = s.clrPin := rfl
@[simp] theorem setSram_dpTicks (m : Sram) : (s.setSram m).dpTicks = s.dpTicks := rfl
@[simp] theorem setSram_tb (m : Sram) : (s.setSram m).tb = s.tb := rfl
@[simp] theorem setSram_line (m : Sram) : (s.setSram m).line = s.line := rfl
@[simp] theorem setSram_host (m : Sram) : (s.setSram m).host = s.host := rfl
@[simp] theorem setSram_engines (m : Sram) : (s.setSram m).engines = s.engines := rfl
@[simp] theorem setSram_prims (m : Sram) : (s.setSram m).prims = s.prims := rfl
@[simp] theorem setSram_portTsu (m : Sram) : (s.setSram m).portTsu = s.portTsu := rfl
@[simp] theorem setSram_laneTsu (m : Sram) : (s.setSram m).laneTsu = s.laneTsu := rfl
@[simp] theorem setSram_tpi (m : Sram) : (s.setSram m).tpi = s.tpi := rfl
@[simp] theorem setSram_tbStep (m : Sram) : (s.setSram m).tbStep = s.tbStep := rfl
@[simp] theorem setSram_tpoIssued (m : Sram) : (s.setSram m).tpoIssued = s.tpoIssued := rfl
@[simp] theorem setSram_sched (m : Sram) : (s.setSram m).sched = s.sched := rfl
@[simp] theorem setSram_fog (m : Sram) : (s.setSram m).fog = s.fog := rfl
@[simp] theorem setSram_twin (m : Sram) : (s.setSram m).twin = s.twin := rfl
@[simp] theorem setSram_hk (m : Sram) : (s.setSram m).hk = s.hk := rfl
@[simp] theorem setSram_hdac (m : Sram) : (s.setSram m).hdac = s.hdac := rfl
@[simp] theorem setSram_fcoef (m : Sram) : (s.setSram m).fcoef = s.fcoef := rfl
@[simp] theorem setSram_ddr (m : Sram) : (s.setSram m).ddr = s.ddr := rfl
@[simp] theorem setSram_therm (m : Sram) : (s.setSram m).therm = s.therm := rfl
@[simp] theorem setSram_pwr (m : Sram) : (s.setSram m).pwr = s.pwr := rfl
@[simp] theorem setSram_dma (m : Sram) : (s.setSram m).dma = s.dma := rfl
@[simp] theorem setSram_tap (m : Sram) : (s.setSram m).tap = s.tap := rfl
@[simp] theorem setSram_log (m : Sram) : (s.setSram m).log = s.log := rfl
@[simp] theorem setSram_fuse (m : Sram) : (s.setSram m).fuse = s.fuse := rfl
@[simp] theorem setSram_flash (m : Sram) : (s.setSram m).flash = s.flash := rfl
@[simp] theorem setSram_dbg (m : Sram) : (s.setSram m).dbg = s.dbg := rfl
@[simp] theorem setSram_cfgv (m : Sram) : (s.setSram m).cfgv = s.cfgv := rfl
@[simp] theorem setSram_bist (m : Sram) : (s.setSram m).bist = s.bist := rfl
@[simp] theorem setSram_sweepAt (m : Sram) : (s.setSram m).sweepAt = s.sweepAt := rfl
@[simp] theorem setSram_sweepLap (m : Sram) : (s.setSram m).sweepLap = s.sweepLap := rfl
@[simp] theorem setSram_portMon (m : Sram) : (s.setSram m).portMon = s.portMon := rfl
@[simp] theorem setSram_free (m : Sram) : (s.setSram m).free = s.free := rfl
@[simp] theorem setSram_out (m : Sram) : (s.setSram m).out = s.out := rfl
@[simp] theorem setSram_intStat (m : Sram) (b2 : Nat) : (s.setSram m).intStat b2 = s.intStat b2 := rfl
@[simp] theorem setSram_reg (m : Sram) (b2 off2 : Nat) : (s.setSram m).reg b2 off2 = s.reg b2 off2 := rfl
@[simp] theorem setSram_f (m : Sram) (b2 : Nat) (fl : Fld) : (s.setSram m).f b2 fl = s.f b2 fl := rfl
@[simp] theorem setSram_fb (m : Sram) (b2 : Nat) (fl : Fld) : (s.setSram m).fb b2 fl = s.fb b2 fl := rfl
@[simp] theorem setSram_domReady (m : Sram) (d : Nat) : (s.setSram m).domReady d = s.domReady d := rfl
@[simp] theorem setSram_reach (m : Sram) (b2 : Nat) : (s.setSram m).reach b2 = s.reach b2 := rfl

/-! ### parityNew -/

@[simp] theorem parityNew_pending (k : Nat) : (s.parityNew k).pending = s.pending := rfl
@[simp] theorem parityNew_regs (k : Nat) : (s.parityNew k).regs = s.regs := rfl
@[simp] theorem parityNew_shadows (k : Nat) : (s.parityNew k).shadows = s.shadows := rfl
@[simp] theorem parityNew_used (k : Nat) : (s.parityNew k).used = s.used := rfl
@[simp] theorem parityNew_latched (k : Nat) : (s.parityNew k).latched = s.latched := rfl
@[simp] theorem parityNew_pairBad (k : Nat) : (s.parityNew k).pairBad = s.pairBad := rfl
@[simp] theorem parityNew_ints (k : Nat) : (s.parityNew k).ints = s.ints := rfl
@[simp] theorem parityNew_intEn (k : Nat) : (s.parityNew k).intEn = s.intEn := rfl
@[simp] theorem parityNew_intnCopy (k : Nat) : (s.parityNew k).intnCopy = s.intnCopy := rfl
@[simp] theorem parityNew_hold (k : Nat) : (s.parityNew k).hold = s.hold := rfl
@[simp] theorem parityNew_i2c (k : Nat) : (s.parityNew k).i2c = s.i2c := rfl
@[simp] theorem parityNew_msix (k : Nat) : (s.parityNew k).msix = s.msix := rfl
@[simp] theorem parityNew_pba (k : Nat) : (s.parityNew k).pba = s.pba := rfl
@[simp] theorem parityNew_msixEn (k : Nat) : (s.parityNew k).msixEn = s.msixEn := rfl
@[simp] theorem parityNew_busMaster (k : Nat) : (s.parityNew k).busMaster = s.busMaster := rfl
@[simp] theorem parityNew_d3hot (k : Nat) : (s.parityNew k).d3hot = s.d3hot := rfl
@[simp] theorem parityNew_inReset (k : Nat) : (s.parityNew k).inReset = s.inReset := rfl
@[simp] theorem parityNew_held (k : Nat) : (s.parityNew k).held = s.held := rfl
@[simp] theorem parityNew_perst (k : Nat) : (s.parityNew k).perst = s.perst := rfl
@[simp] theorem parityNew_domOn (k : Nat) : (s.parityNew k).domOn = s.domOn := rfl
@[simp] theorem parityNew_domBusy (k : Nat) : (s.parityNew k).domBusy = s.domBusy := rfl
@[simp] theorem parityNew_fuseFloorHk (k : Nat) : (s.parityNew k).fuseFloorHk = s.fuseFloorHk := rfl
@[simp] theorem parityNew_fuseSub (k : Nat) : (s.parityNew k).fuseSub = s.fuseSub := rfl
@[simp] theorem parityNew_fuseSeg (k : Nat) : (s.parityNew k).fuseSeg = s.fuseSeg := rfl
@[simp] theorem parityNew_refAt (k : Nat) : (s.parityNew k).refAt = s.refAt := rfl
@[simp] theorem parityNew_refBack (k : Nat) : (s.parityNew k).refBack = s.refBack := rfl
@[simp] theorem parityNew_bar4Gib (k : Nat) : (s.parityNew k).bar4Gib = s.bar4Gib := rfl
@[simp] theorem parityNew_clrPin (k : Nat) : (s.parityNew k).clrPin = s.clrPin := rfl
@[simp] theorem parityNew_dpTicks (k : Nat) : (s.parityNew k).dpTicks = s.dpTicks := rfl
@[simp] theorem parityNew_tb (k : Nat) : (s.parityNew k).tb = s.tb := rfl
@[simp] theorem parityNew_line (k : Nat) : (s.parityNew k).line = s.line := rfl
@[simp] theorem parityNew_host (k : Nat) : (s.parityNew k).host = s.host := rfl
@[simp] theorem parityNew_engines (k : Nat) : (s.parityNew k).engines = s.engines := rfl
@[simp] theorem parityNew_prims (k : Nat) : (s.parityNew k).prims = s.prims := rfl
@[simp] theorem parityNew_sram (k : Nat) : (s.parityNew k).sram = s.sram := rfl
@[simp] theorem parityNew_portTsu (k : Nat) : (s.parityNew k).portTsu = s.portTsu := rfl
@[simp] theorem parityNew_laneTsu (k : Nat) : (s.parityNew k).laneTsu = s.laneTsu := rfl
@[simp] theorem parityNew_tpi (k : Nat) : (s.parityNew k).tpi = s.tpi := rfl
@[simp] theorem parityNew_tbStep (k : Nat) : (s.parityNew k).tbStep = s.tbStep := rfl
@[simp] theorem parityNew_tpoIssued (k : Nat) : (s.parityNew k).tpoIssued = s.tpoIssued := rfl
@[simp] theorem parityNew_sched (k : Nat) : (s.parityNew k).sched = s.sched := rfl
@[simp] theorem parityNew_fog (k : Nat) : (s.parityNew k).fog = s.fog := rfl
@[simp] theorem parityNew_twin (k : Nat) : (s.parityNew k).twin = s.twin := rfl
@[simp] theorem parityNew_hk (k : Nat) : (s.parityNew k).hk = s.hk := rfl
@[simp] theorem parityNew_hdac (k : Nat) : (s.parityNew k).hdac = s.hdac := rfl
@[simp] theorem parityNew_fcoef (k : Nat) : (s.parityNew k).fcoef = s.fcoef := rfl
@[simp] theorem parityNew_ddr (k : Nat) : (s.parityNew k).ddr = s.ddr := rfl
@[simp] theorem parityNew_therm (k : Nat) : (s.parityNew k).therm = s.therm := rfl
@[simp] theorem parityNew_pwr (k : Nat) : (s.parityNew k).pwr = s.pwr := rfl
@[simp] theorem parityNew_dma (k : Nat) : (s.parityNew k).dma = s.dma := rfl
@[simp] theorem parityNew_tap (k : Nat) : (s.parityNew k).tap = s.tap := rfl
@[simp] theorem parityNew_log (k : Nat) : (s.parityNew k).log = s.log := rfl
@[simp] theorem parityNew_fuse (k : Nat) : (s.parityNew k).fuse = s.fuse := rfl
@[simp] theorem parityNew_flash (k : Nat) : (s.parityNew k).flash = s.flash := rfl
@[simp] theorem parityNew_dbg (k : Nat) : (s.parityNew k).dbg = s.dbg := rfl
@[simp] theorem parityNew_cfgv (k : Nat) : (s.parityNew k).cfgv = s.cfgv := rfl
@[simp] theorem parityNew_bist (k : Nat) : (s.parityNew k).bist = s.bist := rfl
@[simp] theorem parityNew_sweepAt (k : Nat) : (s.parityNew k).sweepAt = s.sweepAt := rfl
@[simp] theorem parityNew_sweepLap (k : Nat) : (s.parityNew k).sweepLap = s.sweepLap := rfl
@[simp] theorem parityNew_portMon (k : Nat) : (s.parityNew k).portMon = s.portMon := rfl
@[simp] theorem parityNew_free (k : Nat) : (s.parityNew k).free = s.free := rfl
@[simp] theorem parityNew_out (k : Nat) : (s.parityNew k).out = s.out := rfl
@[simp] theorem parityNew_intStat (k : Nat) (b2 : Nat) : (s.parityNew k).intStat b2 = s.intStat b2 := rfl
@[simp] theorem parityNew_reg (k : Nat) (b2 off2 : Nat) : (s.parityNew k).reg b2 off2 = s.reg b2 off2 := rfl
@[simp] theorem parityNew_f (k : Nat) (b2 : Nat) (fl : Fld) : (s.parityNew k).f b2 fl = s.f b2 fl := rfl
@[simp] theorem parityNew_fb (k : Nat) (b2 : Nat) (fl : Fld) : (s.parityNew k).fb b2 fl = s.fb b2 fl := rfl
@[simp] theorem parityNew_domReady (k : Nat) (d : Nat) : (s.parityNew k).domReady d = s.domReady d := rfl
@[simp] theorem parityNew_reach (k : Nat) (b2 : Nat) : (s.parityNew k).reach b2 = s.reach b2 := rfl

end Sys2Proof.Machine.State
end

