-- ==== Sys2Proof/Laws/Regs.lean ====
section
/-! SUPPORT. The laws of registers and fields: a read after a write of the same register or field gives what was written,
and every other register and field reads as before. -/

namespace Sys2Proof.Machine

/-! ### Fields of a word -/

/-- The field lies inside its 32-bit register. -/
abbrev Fld.fits (g : Fld) : Prop := g.lo + g.w ≤ 32

/-- Two fields share no bit of a register. -/
abbrev Fld.apart (g h : Fld) : Prop := g.off ≠ h.off ∨ g.lo + g.w ≤ h.lo ∨ h.lo + h.w ≤ g.lo

theorem Fld.getLsbD_mask (g : Fld) (i : Nat) :
    g.mask.getLsbD i = (decide (i < 32) && (decide (g.lo ≤ i) && decide (i < g.lo + g.w))) := by
  unfold Fld.mask
  rw [BitVec.getLsbD_ofNat, Nat.testBit_shiftLeft, Nat.testBit_two_pow_sub_one]
  by_cases h1 : g.lo ≤ i <;> by_cases h2 : i < g.lo + g.w <;> simp [h1, h2] <;> omega

theorem Fld.getLsbD_put (g : Fld) (w : Word) (v i : Nat) :
    (g.put w v).getLsbD i =
      (decide (i < 32) && if g.lo ≤ i ∧ i < g.lo + g.w then v.testBit (i - g.lo) else w.getLsbD i) := by
  unfold Fld.put
  rw [BitVec.getLsbD_or, BitVec.getLsbD_and, BitVec.getLsbD_not, BitVec.getLsbD_ofNat, Nat.testBit_shiftLeft,
    Nat.testBit_mod_two_pow, Fld.getLsbD_mask]
  by_cases h0 : i < 32 <;> by_cases h1 : g.lo ≤ i <;> by_cases h2 : i < g.lo + g.w <;> simp [h0, h1, h2] <;> omega

theorem Fld.testBit_get (g : Fld) (w : Word) (i : Nat) :
    (g.get w).testBit i = (decide (i < g.w) && w.getLsbD (g.lo + i)) := by
  unfold Fld.get bitsOf
  rw [Nat.testBit_mod_two_pow, Nat.testBit_shiftRight, BitVec.testBit_toNat]

theorem Fld.get_lt (g : Fld) (w : Word) : g.get w < 2 ^ g.w := Nat.mod_lt _ (Nat.two_pow_pos _)

/-- A field reads the low bits of what was put into it. -/
theorem Fld.get_put_self (g : Fld) (hg : g.fits) (w : Word) (v : Nat) : g.get (g.put w v) = v % 2 ^ g.w := by
  unfold Fld.fits at hg
  apply Nat.eq_of_testBit_eq
  intro i
  rw [Fld.testBit_get, Fld.getLsbD_put, Nat.testBit_mod_two_pow]
  by_cases h : i < g.w
  · have h1 : g.lo + i < 32 := by omega
    have h2 : g.lo + i < g.lo + g.w := by omega
    simp [h, h1]
  · simp [h]

/-- A field that shares no bit with the one written reads as before. -/
theorem Fld.get_put_apart {g h : Fld} (ha : g.lo + g.w ≤ h.lo ∨ h.lo + h.w ≤ g.lo) (w : Word) (v : Nat) :
    h.get (g.put w v) = h.get w := by
  apply Nat.eq_of_testBit_eq
  intro i
  rw [Fld.testBit_get, Fld.testBit_get, Fld.getLsbD_put]
  by_cases h1 : i < h.w
  · have h2 : ¬ (g.lo ≤ h.lo + i ∧ h.lo + i < g.lo + g.w) := by omega
    simp only [h1, h2, decide_true, Bool.true_and, if_false]
    by_cases h3 : h.lo + i < 32
    · simp [h3]
    · simp only [h3, decide_false, Bool.false_and]
      rw [BitVec.getLsbD_of_ge _ _ (by omega)]
  · simp [h1]

namespace State

variable (s : State)

/-! ### Registers -/

@[simp] theorem reg_setReg_self (b off : Nat) (w : Word) : (s.setReg b off w).reg b off = w :=
  SMap.get_put_self _ _ _ _

theorem reg_setReg_ne {b off b2 off2 : Nat} (h : regKey b off ≠ regKey b2 off2) (w : Word) :
    (s.setReg b off w).reg b2 off2 = s.reg b2 off2 :=
  SMap.get_put_ne _ _ _ h _

/-- Registers of different blocks have different keys. -/
theorem regKey_blk {b off b2 off2 : Nat} (h : b ≠ b2) (ho : off < 4096) (ho2 : off2 < 4096) :
    regKey b off ≠ regKey b2 off2 := by
  unfold regKey; omega

/-- Registers at different offsets of one block have different keys. -/
theorem regKey_off {b off off2 : Nat} (h : off ≠ off2) : regKey b off ≠ regKey b off2 := by
  unfold regKey; omega

theorem reg_setReg_blk {b off b2 off2 : Nat} (h : b ≠ b2) (ho : off < 4096) (ho2 : off2 < 4096) (w : Word) :
    (s.setReg b off w).reg b2 off2 = s.reg b2 off2 :=
  s.reg_setReg_ne (regKey_blk h ho ho2) w

theorem reg_setReg_off {b off off2 : Nat} (h : off ≠ off2) (w : Word) : (s.setReg b off w).reg b off2 = s.reg b off2 :=
  s.reg_setReg_ne (regKey_off h) w

/-! ### Fields -/

@[simp] theorem reg_setF_self (b : Nat) (g : Fld) (v : Nat) : (s.setF b g v).reg b g.off = g.put (s.reg b g.off) v :=
  reg_setReg_self ..

theorem reg_setF_blk {b b2 off2 : Nat} {g : Fld} (h : b ≠ b2) (ho : g.off < 4096) (ho2 : off2 < 4096) (v : Nat) :
    (s.setF b g v).reg b2 off2 = s.reg b2 off2 :=
  s.reg_setReg_blk h ho ho2 _

theorem reg_setF_off {b off2 : Nat} {g : Fld} (h : g.off ≠ off2) (v : Nat) : (s.setF b g v).reg b off2 = s.reg b off2 :=
  s.reg_setReg_off h _

/-- A field just written reads the value's low bits. -/
theorem f_setF_self (b : Nat) (g : Fld) (hg : g.fits) (v : Nat) : (s.setF b g v).f b g = v % 2 ^ g.w := by
  unfold State.f; rw [reg_setF_self, Fld.get_put_self g hg]

/-- A field of another block reads as before. -/
theorem f_setF_blk {b b2 : Nat} {g h : Fld} (hb : b ≠ b2) (ho : g.off < 4096) (ho2 : h.off < 4096) (v : Nat) :
    (s.setF b g v).f b2 h = s.f b2 h := by
  unfold State.f; rw [reg_setF_blk s hb ho ho2]

/-- A field that shares no bit with the one written reads as before. -/
theorem f_setF_apart {b : Nat} {g h : Fld} (ha : g.apart h) (v : Nat) : (s.setF b g v).f b h = s.f b h := by
  unfold State.f
  by_cases ho : g.off = h.off
  · rw [← ho, reg_setF_self]
    rcases ha with ha | ha
    · exact absurd ho ha
    · exact Fld.get_put_apart ha _ _
  · rw [reg_setF_off s ho]

theorem fb_setF_self (b : Nat) (g : Fld) (hg : g.fits) (v : Nat) : (s.setF b g v).fb b g = (v % 2 ^ g.w != 0) := by
  unfold State.fb; rw [f_setF_self s b g hg]

theorem fb_setF_blk {b b2 : Nat} {g h : Fld} (hb : b ≠ b2) (ho : g.off < 4096) (ho2 : h.off < 4096) (v : Nat) :
    (s.setF b g v).fb b2 h = s.fb b2 h := by
  unfold State.fb; rw [f_setF_blk s hb ho ho2]

theorem fb_setF_apart {b : Nat} {g h : Fld} (ha : g.apart h) (v : Nat) : (s.setF b g v).fb b h = s.fb b h := by
  unfold State.fb; rw [f_setF_apart s ha]

theorem f_lt (b : Nat) (g : Fld) : s.f b g < 2 ^ g.w := Fld.get_lt g _

/-- Setting a field to what it holds changes nothing of its register. -/
theorem setB_eq (b : Nat) (g : Fld) (v : Bool) : s.setB b g v = s.setF b g v.toNat := rfl

/-! ### Interrupt status -/

@[simp] theorem intStat_setIntStat_self (b : Nat) (w : Word) : (s.setIntStat b w).intStat b = w :=
  SMap.get_put_self _ _ _ _

theorem intStat_setIntStat_ne {b b2 : Nat} (h : b ≠ b2) (w : Word) : (s.setIntStat b w).intStat b2 = s.intStat b2 :=
  SMap.get_put_ne _ _ _ h _

/-! ### Records of units -/

@[simp] theorem lane_setLane_self (n : Nat) (l : LineLane) : (s.setLane n l).lane n = l := SMap.get_put_self _ _ _ _
theorem lane_setLane_ne {n m : Nat} (h : n ≠ m) (l : LineLane) : (s.setLane n l).lane m = s.lane m :=
  SMap.get_put_ne _ _ _ h _
@[simp] theorem hlane_setHlane_self (n : Nat) (l : HostLane) : (s.setHlane n l).hlane n = l := SMap.get_put_self _ _ _ _
theorem hlane_setHlane_ne {n m : Nat} (h : n ≠ m) (l : HostLane) : (s.setHlane n l).hlane m = s.hlane m :=
  SMap.get_put_ne _ _ _ h _
@[simp] theorem eng_setEng_self (n : Nat) (l : Engine) : (s.setEng n l).eng n = l := SMap.get_put_self _ _ _ _
theorem eng_setEng_ne {n m : Nat} (h : n ≠ m) (l : Engine) : (s.setEng n l).eng m = s.eng m :=
  SMap.get_put_ne _ _ _ h _
@[simp] theorem prim_setPrim_self (n : Nat) (l : Prims) : (s.setPrim n l).prim n = l := SMap.get_put_self _ _ _ _
theorem prim_setPrim_ne {n m : Nat} (h : n ≠ m) (l : Prims) : (s.setPrim n l).prim m = s.prim m :=
  SMap.get_put_ne _ _ _ h _
@[simp] theorem ltsu_setLtsu_self (n : Nat) (l : LaneTsu) : (s.setLtsu n l).ltsu n = l := SMap.get_put_self _ _ _ _
theorem ltsu_setLtsu_ne {n m : Nat} (h : n ≠ m) (l : LaneTsu) : (s.setLtsu n l).ltsu m = s.ltsu m :=
  SMap.get_put_ne _ _ _ h _

end State
end Sys2Proof.Machine
end

