-- ==== Sys2Proof/Laws/Frames.lean ====
section
/-! SUPPORT. What the shared operations over registers can do: raising an interrupt source, setting a flag, counting a
performance event, sending the MSI-X messages of a command, and the records of accesses. Each first lemma says all that the
operation can change; the others are its fields, and the registers that read as before. -/

namespace Sys2Proof.Machine
namespace State

/-- A fold keeps what each of its passes keeps. -/
theorem foldl_keeps {α β : Type} (p : State → β) (g : State → α → State) (l : List α)
    (h : ∀ s x, x ∈ l → p (g s x) = p s) (s : State) : p (l.foldl g s) = p s := by
  induction l generalizing s with
  | nil => rfl
  | cons a t ih =>
    rw [List.foldl_cons, ih (fun s x hx => h s x (List.mem_cons_of_mem _ hx)), h s a (List.mem_cons_self ..)]

/-! ### What each can change -/

/-- The state without its registers, interrupt bits, pending-bit array and sent messages: what the operations of this file
leave alone. -/
def rest (s : State) : State := { s with regs := [], ints := [], pba := 0, out := [] }

/-- What does not read the blanked fields is the same in states that agree on the rest. -/
theorem of_rest {α : Type} (p : State → α) (hp : ∀ s, p s.rest = p s) {s t : State} (h : s.rest = t.rest) : p s = p t := by
  rw [← hp s, h, hp t]

@[simp] theorem setReg_rest (s : State) (b off : Nat) (w : Word) : (s.setReg b off w).rest = s.rest := rfl
@[simp] theorem setF_rest (s : State) (b : Nat) (g : Fld) (v : Nat) : (s.setF b g v).rest = s.rest := rfl
@[simp] theorem setB_rest (s : State) (b : Nat) (g : Fld) (v : Bool) : (s.setB b g v).rest = s.rest := rfl
@[simp] theorem setIntStat_rest (s : State) (b : Nat) (w : Word) : (s.setIntStat b w).rest = s.rest := rfl
@[simp] theorem send_rest (s : State) (m : OutMsg) : (s.send m).rest = s.rest := rfl

@[simp] theorem stampEvt_rest (s : State) (b : Nat) : (s.stampEvt b).rest = s.rest := by
  unfold stampEvt; split <;> rfl

@[simp] theorem raiseMask_rest (s : State) (b : Nat) (m : Word) : (s.raiseMask b m).rest = s.rest := by
  unfold raiseMask; split
  · rfl
  · rw [stampEvt_rest, setIntStat_rest]

@[simp] theorem raise_rest (s : State) (b i : Nat) : (s.raise b i).rest = s.rest := raiseMask_rest s b _

@[simp] theorem flag_rest (s : State) (b : Nat) (g : Fld) (i : Nat) : (s.flag b g i).rest = s.rest := by
  unfold flag; rw [raise_rest, setF_rest]

@[simp] theorem perf_rest (s : State) (c k n : Nat) : (s.perf c k n).rest = s.rest := by
  unfold perf; split
  · rfl
  · refine foldl_keeps rest _ _ (fun s i _ => ?_) s
    dsimp only
    split
    · split
      · rw [raise_rest, setReg_rest, setReg_rest, setReg_rest]
      · rw [setReg_rest, setReg_rest]
    · rfl

@[simp] theorem tlp_rest (s : State) (d n : Nat) : (s.tlp d n).rest = s.rest := perf_rest s 11 d n

@[simp] theorem sendVector_rest (s : State) (v : Nat) : (s.sendVector v).rest = s.rest := by
  unfold sendVector; split
  · rfl
  · split
    · rfl
    · rw [tlp_rest, send_rest]

@[simp] theorem sendEdges_rest (old s : State) : (sendEdges old s).rest = s.rest :=
  foldl_keeps rest _ _ (fun s v _ => sendVector_rest s v) s

@[simp] theorem countSat_rest (s : State) (b : Nat) (g : Fld) (n : Nat) : (s.countSat b g n).rest = s.rest := rfl

@[simp] theorem offRecord_rest (s : State) (bar : Bar) (off : Nat) (w : Bool) : (s.offRecord bar off w).rest = s.rest := by
  unfold offRecord; split
  · rfl
  · dsimp only; rw [flag_rest, countSat_rest, setB_rest, setF_rest, setF_rest]

@[simp] theorem dbgDenied_rest (s : State) : s.dbgDenied.rest = s.rest := by
  unfold dbgDenied; split
  · rw [flag_rest]
  · rfl

/-! ### Registers that read as before -/

theorem reg_stampEvt_blk (s : State) {b b2 off : Nat} (h : b ≠ b2) (ho : off < 4096) :
    (s.stampEvt b).reg b2 off = s.reg b2 off := by
  unfold stampEvt; split
  · rw [reg_setReg_blk _ h (by decide) ho, reg_setReg_blk _ h (by decide) ho]
  · rfl

theorem reg_stampEvt_off (s : State) {b off : Nat} (h1 : HDR.EVT_TIME_LO ≠ off) (h2 : HDR.EVT_TIME_HI ≠ off) :
    (s.stampEvt b).reg b off = s.reg b off := by
  unfold stampEvt; split
  · rw [reg_setReg_off _ h2, reg_setReg_off _ h1]
  · rfl

theorem reg_raiseMask_blk (s : State) {b b2 off : Nat} (h : b ≠ b2) (ho : off < 4096) (m : Word) :
    (s.raiseMask b m).reg b2 off = s.reg b2 off := by
  unfold raiseMask; split
  · rfl
  · rw [reg_stampEvt_blk _ h ho]; rfl

theorem reg_raiseMask_off (s : State) {b off : Nat} (h1 : HDR.EVT_TIME_LO ≠ off) (h2 : HDR.EVT_TIME_HI ≠ off) (m : Word) :
    (s.raiseMask b m).reg b off = s.reg b off := by
  unfold raiseMask; split
  · rfl
  · rw [reg_stampEvt_off _ h1 h2]; rfl

/-- A register other than the block's EVT_TIME pair reads as before. -/
theorem reg_raise_off (s : State) {b b2 off i : Nat} (h1 : HDR.EVT_TIME_LO ≠ off) (h2 : HDR.EVT_TIME_HI ≠ off)
    (ho : off < 4096) : (s.raise b i).reg b2 off = s.reg b2 off := by
  by_cases h : b = b2
  · subst h; exact reg_raiseMask_off s h1 h2 _
  · exact reg_raiseMask_blk s h ho _

theorem reg_raise_blk (s : State) {b b2 off i : Nat} (h : b ≠ b2) (ho : off < 4096) :
    (s.raise b i).reg b2 off = s.reg b2 off := reg_raiseMask_blk s h ho _

/-- A field outside the EVT_TIME pair reads as before. -/
theorem f_raise (s : State) {b b2 i : Nat} {g : Fld} (h1 : HDR.EVT_TIME_LO ≠ g.off) (h2 : HDR.EVT_TIME_HI ≠ g.off)
    (ho : g.off < 4096) : (s.raise b i).f b2 g = s.f b2 g := by
  unfold State.f; rw [reg_raise_off s h1 h2 ho]

theorem fb_raise (s : State) {b b2 i : Nat} {g : Fld} (h1 : HDR.EVT_TIME_LO ≠ g.off) (h2 : HDR.EVT_TIME_HI ≠ g.off)
    (ho : g.off < 4096) : (s.raise b i).fb b2 g = s.fb b2 g := by
  unfold State.fb; rw [f_raise s h1 h2 ho]

/-- A flag reads 1 once set. -/
theorem f_flag_self (s : State) {b i : Nat} {g : Fld} (h1 : HDR.EVT_TIME_LO ≠ g.off) (h2 : HDR.EVT_TIME_HI ≠ g.off)
    (ho : g.off < 4096) (hg : g.fits) (hw : 0 < g.w) : (s.flag b g i).f b g = 1 := by
  unfold flag
  rw [f_raise _ h1 h2 ho, f_setF_self _ _ _ hg]
  exact Nat.mod_eq_of_lt (Nat.one_lt_two_pow (by omega))

theorem f_flag_blk (s : State) {b b2 i : Nat} {g h : Fld} (hb : b ≠ b2) (hg : g.off < 4096) (ho : h.off < 4096) :
    (s.flag b g i).f b2 h = s.f b2 h := by
  unfold flag State.f
  rw [reg_raise_blk _ hb ho, reg_setF_blk _ hb hg ho]

theorem f_flag_apart (s : State) {b i : Nat} {g h : Fld} (ha : g.apart h) (h1 : HDR.EVT_TIME_LO ≠ h.off)
    (h2 : HDR.EVT_TIME_HI ≠ h.off) (ho : h.off < 4096) : (s.flag b g i).f b h = s.f b h := by
  unfold flag
  rw [f_raise _ h1 h2 ho, f_setF_apart _ ha]

theorem intStat_stampEvt (s : State) (b b2 : Nat) : (s.stampEvt b).intStat b2 = s.intStat b2 := by
  unfold stampEvt; split <;> rfl

/-- An event sets its INT_STAT bit and keeps the others (R53). -/
theorem intStat_raiseMask_self (s : State) (b : Nat) (m : Word) : (s.raiseMask b m).intStat b = s.intStat b ||| m := by
  unfold raiseMask; split
  · rename_i h; exact h.symm
  · rw [intStat_stampEvt]; exact intStat_setIntStat_self s b _

theorem intStat_raiseMask_ne (s : State) {b b2 : Nat} (h : b ≠ b2) (m : Word) :
    (s.raiseMask b m).intStat b2 = s.intStat b2 := by
  unfold raiseMask; split
  · rfl
  · rw [intStat_stampEvt]; exact intStat_setIntStat_ne s h _

theorem intStat_raise_self (s : State) (b i : Nat) : (s.raise b i).intStat b = s.intStat b ||| BitVec.twoPow 32 i :=
  intStat_raiseMask_self s b _

theorem intStat_raise_ne (s : State) {b b2 i : Nat} (h : b ≠ b2) : (s.raise b i).intStat b2 = s.intStat b2 :=
  intStat_raiseMask_ne s h _

theorem intStat_flag_self (s : State) (b : Nat) (g : Fld) (i : Nat) :
    (s.flag b g i).intStat b = s.intStat b ||| BitVec.twoPow 32 i := by
  unfold flag; rw [intStat_raise_self]; rfl

theorem intStat_flag_ne (s : State) {b b2 i : Nat} (h : b ≠ b2) (g : Fld) : (s.flag b g i).intStat b2 = s.intStat b2 := by
  unfold flag; rw [intStat_raise_ne _ h]; rfl

/-- Counting a performance event changes no register outside the PERF block. -/
theorem reg_perf (s : State) {b2 off : Nat} (h : Blk.perf ≠ b2) (ho : off < 4096) (c k n : Nat) :
    (s.perf c k n).reg b2 off = s.reg b2 off := by
  unfold perf; split
  · rfl
  · refine foldl_keeps (fun t => t.reg b2 off) _ _ (fun s i hi => ?_) s
    have hi := List.mem_range.1 hi
    have hlo : PERF.PC_LO i < 4096 := by unfold PERF.PC_LO; omega
    have hhi : PERF.PC_HI i < 4096 := by unfold PERF.PC_HI; omega
    have hw : PERF.WRAP (i / 32) < 4096 := by unfold PERF.WRAP; omega
    dsimp only
    split
    · split
      · rw [reg_raise_blk _ h ho, reg_setReg_blk _ h hw ho, reg_setReg_blk _ h hhi ho, reg_setReg_blk _ h hlo ho]
      · rw [reg_setReg_blk _ h hhi ho, reg_setReg_blk _ h hlo ho]
    · rfl

theorem intStat_perf (s : State) {b2 : Nat} (h : Blk.perf ≠ b2) (c k n : Nat) :
    (s.perf c k n).intStat b2 = s.intStat b2 := by
  unfold perf; split
  · rfl
  · refine foldl_keeps (fun t => t.intStat b2) _ _ (fun s i _ => ?_) s
    dsimp only
    split
    · split
      · rw [intStat_raise_ne _ h, setReg_intStat, setReg_intStat, setReg_intStat]
      · rw [setReg_intStat, setReg_intStat]
    · rfl

theorem reg_tlp (s : State) {b2 off : Nat} (h : Blk.perf ≠ b2) (ho : off < 4096) (d n : Nat) :
    (s.tlp d n).reg b2 off = s.reg b2 off := reg_perf s h ho 11 d n

theorem f_tlp (s : State) {b2 : Nat} {g : Fld} (h : Blk.perf ≠ b2) (ho : g.off < 4096) (d n : Nat) :
    (s.tlp d n).f b2 g = s.f b2 g := by unfold State.f; rw [reg_tlp s h ho]

theorem intStat_tlp (s : State) {b2 : Nat} (h : Blk.perf ≠ b2) (d n : Nat) : (s.tlp d n).intStat b2 = s.intStat b2 :=
  intStat_perf s h 11 d n

theorem reg_sendVector (s : State) {b2 off : Nat} (h : Blk.perf ≠ b2) (ho : off < 4096) (v : Nat) :
    (s.sendVector v).reg b2 off = s.reg b2 off := by
  unfold sendVector; split
  · rfl
  · split
    · rfl
    · rw [reg_tlp _ h ho]; rfl

theorem intStat_sendVector (s : State) {b2 : Nat} (h : Blk.perf ≠ b2) (v : Nat) :
    (s.sendVector v).intStat b2 = s.intStat b2 := by
  unfold sendVector; split
  · rfl
  · split
    · rfl
    · rw [intStat_tlp _ h]; rfl

/-- Sending the messages of a command changes no register outside the PERF block. -/
theorem reg_sendEdges (old s : State) {b2 off : Nat} (h : Blk.perf ≠ b2) (ho : off < 4096) :
    (sendEdges old s).reg b2 off = s.reg b2 off :=
  foldl_keeps (fun t => t.reg b2 off) _ _ (fun s v _ => reg_sendVector s h ho v) s

theorem f_sendEdges (old s : State) {b2 : Nat} {g : Fld} (h : Blk.perf ≠ b2) (ho : g.off < 4096) :
    (sendEdges old s).f b2 g = s.f b2 g := by unfold State.f; rw [reg_sendEdges old s h ho]

theorem intStat_sendEdges (old s : State) {b2 : Nat} (h : Blk.perf ≠ b2) : (sendEdges old s).intStat b2 = s.intStat b2 :=
  foldl_keeps (fun t => t.intStat b2) _ _ (fun s v _ => intStat_sendVector s h v) s



/-! ### raise: the fields that stay -/

@[simp] theorem raise_pending (s : State) (b i : Nat) : (s.raise b i).pending = s.pending := of_rest State.pending (fun _ => rfl) (raise_rest s b i)
@[simp] theorem raise_shadows (s : State) (b i : Nat) : (s.raise b i).shadows = s.shadows := of_rest State.shadows (fun _ => rfl) (raise_rest s b i)
@[simp] theorem raise_used (s : State) (b i : Nat) : (s.raise b i).used = s.used := of_rest State.used (fun _ => rfl) (raise_rest s b i)
@[simp] theorem raise_latched (s : State) (b i : Nat) : (s.raise b i).latched = s.latched := of_rest State.latched (fun _ => rfl) (raise_rest s b i)
@[simp] theorem raise_pairBad (s : State) (b i : Nat) : (s.raise b i).pairBad = s.pairBad := of_rest State.pairBad (fun _ => rfl) (raise_rest s b i)
@[simp] theorem raise_intEn (s : State) (b i : Nat) : (s.raise b i).intEn = s.intEn := of_rest State.intEn (fun _ => rfl) (raise_rest s b i)
@[simp] theorem raise_parBad (s : State) (b i : Nat) : (s.raise b i).parBad = s.parBad := of_rest State.parBad (fun _ => rfl) (raise_rest s b i)
@[simp] theorem raise_parSeen (s : State) (b i : Nat) : (s.raise b i).parSeen = s.parSeen := of_rest State.parSeen (fun _ => rfl) (raise_rest s b i)
@[simp] theorem raise_intnCopy (s : State) (b i : Nat) : (s.raise b i).intnCopy = s.intnCopy := of_rest State.intnCopy (fun _ => rfl) (raise_rest s b i)
@[simp] theorem raise_hold (s : State) (b i : Nat) : (s.raise b i).hold = s.hold := of_rest State.hold (fun _ => rfl) (raise_rest s b i)
@[simp] theorem raise_i2c (s : State) (b i : Nat) : (s.raise b i).i2c = s.i2c := of_rest State.i2c (fun _ => rfl) (raise_rest s b i)
@[simp] theorem raise_msix (s : State) (b i : Nat) : (s.raise b i).msix = s.msix := of_rest State.msix (fun _ => rfl) (raise_rest s b i)
@[simp] theorem raise_msixEn (s : State) (b i : Nat) : (s.raise b i).msixEn = s.msixEn := of_rest State.msixEn (fun _ => rfl) (raise_rest s b i)
@[simp] theorem raise_busMaster (s : State) (b i : Nat) : (s.raise b i).busMaster = s.busMaster := of_rest State.busMaster (fun _ => rfl) (raise_rest s b i)
@[simp] theorem raise_d3hot (s : State) (b i : Nat) : (s.raise b i).d3hot = s.d3hot := of_rest State.d3hot (fun _ => rfl) (raise_rest s b i)
@[simp] theorem raise_inReset (s : State) (b i : Nat) : (s.raise b i).inReset = s.inReset := of_rest State.inReset (fun _ => rfl) (raise_rest s b i)
@[simp] theorem raise_held (s : State) (b i : Nat) : (s.raise b i).held = s.held := of_rest State.held (fun _ => rfl) (raise_rest s b i)
@[simp] theorem raise_perst (s : State) (b i : Nat) : (s.raise b i).perst = s.perst := of_rest State.perst (fun _ => rfl) (raise_rest s b i)
@[simp] theorem raise_domOn (s : State) (b i : Nat) : (s.raise b i).domOn = s.domOn := of_rest State.domOn (fun _ => rfl) (raise_rest s b i)
@[simp] theorem raise_domBusy (s : State) (b i : Nat) : (s.raise b i).domBusy = s.domBusy := of_rest State.domBusy (fun _ => rfl) (raise_rest s b i)
@[simp] theorem raise_fuseFloorHk (s : State) (b i : Nat) : (s.raise b i).fuseFloorHk = s.fuseFloorHk := of_rest State.fuseFloorHk (fun _ => rfl) (raise_rest s b i)
@[simp] theorem raise_fuseSub (s : State) (b i : Nat) : (s.raise b i).fuseSub = s.fuseSub := of_rest State.fuseSub (fun _ => rfl) (raise_rest s b i)
@[simp] theorem raise_fuseSeg (s : State) (b i : Nat) : (s.raise b i).fuseSeg = s.fuseSeg := of_rest State.fuseSeg (fun _ => rfl) (raise_rest s b i)
@[simp] theorem raise_refAt (s : State) (b i : Nat) : (s.raise b i).refAt = s.refAt := of_rest State.refAt (fun _ => rfl) (raise_rest s b i)
@[simp] theorem raise_refBack (s : State) (b i : Nat) : (s.raise b i).refBack = s.refBack := of_rest State.refBack (fun _ => rfl) (raise_rest s b i)
@[simp] theorem raise_bar4Gib (s : State) (b i : Nat) : (s.raise b i).bar4Gib = s.bar4Gib := of_rest State.bar4Gib (fun _ => rfl) (raise_rest s b i)
@[simp] theorem raise_clrPin (s : State) (b i : Nat) : (s.raise b i).clrPin = s.clrPin := of_rest State.clrPin (fun _ => rfl) (raise_rest s b i)
@[simp] theorem raise_dpTicks (s : State) (b i : Nat) : (s.raise b i).dpTicks = s.dpTicks := of_rest State.dpTicks (fun _ => rfl) (raise_rest s b i)
@[simp] theorem raise_tb (s : State) (b i : Nat) : (s.raise b i).tb = s.tb := of_rest State.tb (fun _ => rfl) (raise_rest s b i)
@[simp] theorem raise_line (s : State) (b i : Nat) : (s.raise b i).line = s.line := of_rest State.line (fun _ => rfl) (raise_rest s b i)
@[simp] theorem raise_host (s : State) (b i : Nat) : (s.raise b i).host = s.host := of_rest State.host (fun _ => rfl) (raise_rest s b i)
@[simp] theorem raise_engines (s : State) (b i : Nat) : (s.raise b i).engines = s.engines := of_rest State.engines (fun _ => rfl) (raise_rest s b i)
@[simp] theorem raise_prims (s : State) (b i : Nat) : (s.raise b i).prims = s.prims := of_rest State.prims (fun _ => rfl) (raise_rest s b i)
@[simp] theorem raise_sram (s : State) (b i : Nat) : (s.raise b i).sram = s.sram := of_rest State.sram (fun _ => rfl) (raise_rest s b i)
@[simp] theorem raise_portTsu (s : State) (b i : Nat) : (s.raise b i).portTsu = s.portTsu := of_rest State.portTsu (fun _ => rfl) (raise_rest s b i)
@[simp] theorem raise_laneTsu (s : State) (b i : Nat) : (s.raise b i).laneTsu = s.laneTsu := of_rest State.laneTsu (fun _ => rfl) (raise_rest s b i)
@[simp] theorem raise_tpi (s : State) (b i : Nat) : (s.raise b i).tpi = s.tpi := of_rest State.tpi (fun _ => rfl) (raise_rest s b i)
@[simp] theorem raise_tbStep (s : State) (b i : Nat) : (s.raise b i).tbStep = s.tbStep := of_rest State.tbStep (fun _ => rfl) (raise_rest s b i)
@[simp] theorem raise_tpoIssued (s : State) (b i : Nat) : (s.raise b i).tpoIssued = s.tpoIssued := of_rest State.tpoIssued (fun _ => rfl) (raise_rest s b i)
@[simp] theorem raise_sched (s : State) (b i : Nat) : (s.raise b i).sched = s.sched := of_rest State.sched (fun _ => rfl) (raise_rest s b i)
@[simp] theorem raise_fog (s : State) (b i : Nat) : (s.raise b i).fog = s.fog := of_rest State.fog (fun _ => rfl) (raise_rest s b i)
@[simp] theorem raise_twin (s : State) (b i : Nat) : (s.raise b i).twin = s.twin := of_rest State.twin (fun _ => rfl) (raise_rest s b i)
@[simp] theorem raise_hk (s : State) (b i : Nat) : (s.raise b i).hk = s.hk := of_rest State.hk (fun _ => rfl) (raise_rest s b i)
@[simp] theorem raise_hdac (s : State) (b i : Nat) : (s.raise b i).hdac = s.hdac := of_rest State.hdac (fun _ => rfl) (raise_rest s b i)
@[simp] theorem raise_fcoef (s : State) (b i : Nat) : (s.raise b i).fcoef = s.fcoef := of_rest State.fcoef (fun _ => rfl) (raise_rest s b i)
@[simp] theorem raise_ddr (s : State) (b i : Nat) : (s.raise b i).ddr = s.ddr := of_rest State.ddr (fun _ => rfl) (raise_rest s b i)
@[simp] theorem raise_therm (s : State) (b i : Nat) : (s.raise b i).therm = s.therm := of_rest State.therm (fun _ => rfl) (raise_rest s b i)
@[simp] theorem raise_pwr (s : State) (b i : Nat) : (s.raise b i).pwr = s.pwr := of_rest State.pwr (fun _ => rfl) (raise_rest s b i)
@[simp] theorem raise_dma (s : State) (b i : Nat) : (s.raise b i).dma = s.dma := of_rest State.dma (fun _ => rfl) (raise_rest s b i)
@[simp] theorem raise_tap (s : State) (b i : Nat) : (s.raise b i).tap = s.tap := of_rest State.tap (fun _ => rfl) (raise_rest s b i)
@[simp] theorem raise_log (s : State) (b i : Nat) : (s.raise b i).log = s.log := of_rest State.log (fun _ => rfl) (raise_rest s b i)
@[simp] theorem raise_fuse (s : State) (b i : Nat) : (s.raise b i).fuse = s.fuse := of_rest State.fuse (fun _ => rfl) (raise_rest s b i)
@[simp] theorem raise_flash (s : State) (b i : Nat) : (s.raise b i).flash = s.flash := of_rest State.flash (fun _ => rfl) (raise_rest s b i)
@[simp] theorem raise_dbg (s : State) (b i : Nat) : (s.raise b i).dbg = s.dbg := of_rest State.dbg (fun _ => rfl) (raise_rest s b i)
@[simp] theorem raise_cfgv (s : State) (b i : Nat) : (s.raise b i).cfgv = s.cfgv := of_rest State.cfgv (fun _ => rfl) (raise_rest s b i)
@[simp] theorem raise_bist (s : State) (b i : Nat) : (s.raise b i).bist = s.bist := of_rest State.bist (fun _ => rfl) (raise_rest s b i)
@[simp] theorem raise_sweepAt (s : State) (b i : Nat) : (s.raise b i).sweepAt = s.sweepAt := of_rest State.sweepAt (fun _ => rfl) (raise_rest s b i)
@[simp] theorem raise_sweepLap (s : State) (b i : Nat) : (s.raise b i).sweepLap = s.sweepLap := of_rest State.sweepLap (fun _ => rfl) (raise_rest s b i)
@[simp] theorem raise_portMon (s : State) (b i : Nat) : (s.raise b i).portMon = s.portMon := of_rest State.portMon (fun _ => rfl) (raise_rest s b i)
@[simp] theorem raise_free (s : State) (b i : Nat) : (s.raise b i).free = s.free := of_rest State.free (fun _ => rfl) (raise_rest s b i)
@[simp] theorem raise_domReady (s : State) (b i : Nat) (d : Nat) : (s.raise b i).domReady d = s.domReady d := of_rest (domReady · d) (fun _ => rfl) (raise_rest s b i)
@[simp] theorem raise_reach (s : State) (b i : Nat) (b2 : Nat) : (s.raise b i).reach b2 = s.reach b2 := of_rest (reach · b2) (fun _ => rfl) (raise_rest s b i)

/-! ### flag: the fields that stay -/

@[simp] theorem flag_pending (s : State) (b : Nat) (g : Fld) (i : Nat) : (s.flag b g i).pending = s.pending := of_rest State.pending (fun _ => rfl) (flag_rest s b g i)
@[simp] theorem flag_shadows (s : State) (b : Nat) (g : Fld) (i : Nat) : (s.flag b g i).shadows = s.shadows := of_rest State.shadows (fun _ => rfl) (flag_rest s b g i)
@[simp] theorem flag_used (s : State) (b : Nat) (g : Fld) (i : Nat) : (s.flag b g i).used = s.used := of_rest State.used (fun _ => rfl) (flag_rest s b g i)
@[simp] theorem flag_latched (s : State) (b : Nat) (g : Fld) (i : Nat) : (s.flag b g i).latched = s.latched := of_rest State.latched (fun _ => rfl) (flag_rest s b g i)
@[simp] theorem flag_pairBad (s : State) (b : Nat) (g : Fld) (i : Nat) : (s.flag b g i).pairBad = s.pairBad := of_rest State.pairBad (fun _ => rfl) (flag_rest s b g i)
@[simp] theorem flag_intEn (s : State) (b : Nat) (g : Fld) (i : Nat) : (s.flag b g i).intEn = s.intEn := of_rest State.intEn (fun _ => rfl) (flag_rest s b g i)
@[simp] theorem flag_parBad (s : State) (b : Nat) (g : Fld) (i : Nat) : (s.flag b g i).parBad = s.parBad := of_rest State.parBad (fun _ => rfl) (flag_rest s b g i)
@[simp] theorem flag_parSeen (s : State) (b : Nat) (g : Fld) (i : Nat) : (s.flag b g i).parSeen = s.parSeen := of_rest State.parSeen (fun _ => rfl) (flag_rest s b g i)
@[simp] theorem flag_intnCopy (s : State) (b : Nat) (g : Fld) (i : Nat) : (s.flag b g i).intnCopy = s.intnCopy := of_rest State.intnCopy (fun _ => rfl) (flag_rest s b g i)
@[simp] theorem flag_hold (s : State) (b : Nat) (g : Fld) (i : Nat) : (s.flag b g i).hold = s.hold := of_rest State.hold (fun _ => rfl) (flag_rest s b g i)
@[simp] theorem flag_i2c (s : State) (b : Nat) (g : Fld) (i : Nat) : (s.flag b g i).i2c = s.i2c := of_rest State.i2c (fun _ => rfl) (flag_rest s b g i)
@[simp] theorem flag_msix (s : State) (b : Nat) (g : Fld) (i : Nat) : (s.flag b g i).msix = s.msix := of_rest State.msix (fun _ => rfl) (flag_rest s b g i)
@[simp] theorem flag_msixEn (s : State) (b : Nat) (g : Fld) (i : Nat) : (s.flag b g i).msixEn = s.msixEn := of_rest State.msixEn (fun _ => rfl) (flag_rest s b g i)
@[simp] theorem flag_busMaster (s : State) (b : Nat) (g : Fld) (i : Nat) : (s.flag b g i).busMaster = s.busMaster := of_rest State.busMaster (fun _ => rfl) (flag_rest s b g i)
@[simp] theorem flag_d3hot (s : State) (b : Nat) (g : Fld) (i : Nat) : (s.flag b g i).d3hot = s.d3hot := of_rest State.d3hot (fun _ => rfl) (flag_rest s b g i)
@[simp] theorem flag_inReset (s : State) (b : Nat) (g : Fld) (i : Nat) : (s.flag b g i).inReset = s.inReset := of_rest State.inReset (fun _ => rfl) (flag_rest s b g i)
@[simp] theorem flag_held (s : State) (b : Nat) (g : Fld) (i : Nat) : (s.flag b g i).held = s.held := of_rest State.held (fun _ => rfl) (flag_rest s b g i)
@[simp] theorem flag_perst (s : State) (b : Nat) (g : Fld) (i : Nat) : (s.flag b g i).perst = s.perst := of_rest State.perst (fun _ => rfl) (flag_rest s b g i)
@[simp] theorem flag_domOn (s : State) (b : Nat) (g : Fld) (i : Nat) : (s.flag b g i).domOn = s.domOn := of_rest State.domOn (fun _ => rfl) (flag_rest s b g i)
@[simp] theorem flag_domBusy (s : State) (b : Nat) (g : Fld) (i : Nat) : (s.flag b g i).domBusy = s.domBusy := of_rest State.domBusy (fun _ => rfl) (flag_rest s b g i)
@[simp] theorem flag_fuseFloorHk (s : State) (b : Nat) (g : Fld) (i : Nat) : (s.flag b g i).fuseFloorHk = s.fuseFloorHk := of_rest State.fuseFloorHk (fun _ => rfl) (flag_rest s b g i)
@[simp] theorem flag_fuseSub (s : State) (b : Nat) (g : Fld) (i : Nat) : (s.flag b g i).fuseSub = s.fuseSub := of_rest State.fuseSub (fun _ => rfl) (flag_rest s b g i)
@[simp] theorem flag_fuseSeg (s : State) (b : Nat) (g : Fld) (i : Nat) : (s.flag b g i).fuseSeg = s.fuseSeg := of_rest State.fuseSeg (fun _ => rfl) (flag_rest s b g i)
@[simp] theorem flag_refAt (s : State) (b : Nat) (g : Fld) (i : Nat) : (s.flag b g i).refAt = s.refAt := of_rest State.refAt (fun _ => rfl) (flag_rest s b g i)
@[simp] theorem flag_refBack (s : State) (b : Nat) (g : Fld) (i : Nat) : (s.flag b g i).refBack = s.refBack := of_rest State.refBack (fun _ => rfl) (flag_rest s b g i)
@[simp] theorem flag_bar4Gib (s : State) (b : Nat) (g : Fld) (i : Nat) : (s.flag b g i).bar4Gib = s.bar4Gib := of_rest State.bar4Gib (fun _ => rfl) (flag_rest s b g i)
@[simp] theorem flag_clrPin (s : State) (b : Nat) (g : Fld) (i : Nat) : (s.flag b g i).clrPin = s.clrPin := of_rest State.clrPin (fun _ => rfl) (flag_rest s b g i)
@[simp] theorem flag_dpTicks (s : State) (b : Nat) (g : Fld) (i : Nat) : (s.flag b g i).dpTicks = s.dpTicks := of_rest State.dpTicks (fun _ => rfl) (flag_rest s b g i)
@[simp] theorem flag_tb (s : State) (b : Nat) (g : Fld) (i : Nat) : (s.flag b g i).tb = s.tb := of_rest State.tb (fun _ => rfl) (flag_rest s b g i)
@[simp] theorem flag_line (s : State) (b : Nat) (g : Fld) (i : Nat) : (s.flag b g i).line = s.line := of_rest State.line (fun _ => rfl) (flag_rest s b g i)
@[simp] theorem flag_host (s : State) (b : Nat) (g : Fld) (i : Nat) : (s.flag b g i).host = s.host := of_rest State.host (fun _ => rfl) (flag_rest s b g i)
@[simp] theorem flag_engines (s : State) (b : Nat) (g : Fld) (i : Nat) : (s.flag b g i).engines = s.engines := of_rest State.engines (fun _ => rfl) (flag_rest s b g i)
@[simp] theorem flag_prims (s : State) (b : Nat) (g : Fld) (i : Nat) : (s.flag b g i).prims = s.prims := of_rest State.prims (fun _ => rfl) (flag_rest s b g i)
@[simp] theorem flag_sram (s : State) (b : Nat) (g : Fld) (i : Nat) : (s.flag b g i).sram = s.sram := of_rest State.sram (fun _ => rfl) (flag_rest s b g i)
@[simp] theorem flag_portTsu (s : State) (b : Nat) (g : Fld) (i : Nat) : (s.flag b g i).portTsu = s.portTsu := of_rest State.portTsu (fun _ => rfl) (flag_rest s b g i)
@[simp] theorem flag_laneTsu (s : State) (b : Nat) (g : Fld) (i : Nat) : (s.flag b g i).laneTsu = s.laneTsu := of_rest State.laneTsu (fun _ => rfl) (flag_rest s b g i)
@[simp] theorem flag_tpi (s : State) (b : Nat) (g : Fld) (i : Nat) : (s.flag b g i).tpi = s.tpi := of_rest State.tpi (fun _ => rfl) (flag_rest s b g i)
@[simp] theorem flag_tbStep (s : State) (b : Nat) (g : Fld) (i : Nat) : (s.flag b g i).tbStep = s.tbStep := of_rest State.tbStep (fun _ => rfl) (flag_rest s b g i)
@[simp] theorem flag_tpoIssued (s : State) (b : Nat) (g : Fld) (i : Nat) : (s.flag b g i).tpoIssued = s.tpoIssued := of_rest State.tpoIssued (fun _ => rfl) (flag_rest s b g i)
@[simp] theorem flag_sched (s : State) (b : Nat) (g : Fld) (i : Nat) : (s.flag b g i).sched = s.sched := of_rest State.sched (fun _ => rfl) (flag_rest s b g i)
@[simp] theorem flag_fog (s : State) (b : Nat) (g : Fld) (i : Nat) : (s.flag b g i).fog = s.fog := of_rest State.fog (fun _ => rfl) (flag_rest s b g i)
@[simp] theorem flag_twin (s : State) (b : Nat) (g : Fld) (i : Nat) : (s.flag b g i).twin = s.twin := of_rest State.twin (fun _ => rfl) (flag_rest s b g i)
@[simp] theorem flag_hk (s : State) (b : Nat) (g : Fld) (i : Nat) : (s.flag b g i).hk = s.hk := of_rest State.hk (fun _ => rfl) (flag_rest s b g i)
@[simp] theorem flag_hdac (s : State) (b : Nat) (g : Fld) (i : Nat) : (s.flag b g i).hdac = s.hdac := of_rest State.hdac (fun _ => rfl) (flag_rest s b g i)
@[simp] theorem flag_fcoef (s : State) (b : Nat) (g : Fld) (i : Nat) : (s.flag b g i).fcoef = s.fcoef := of_rest State.fcoef (fun _ => rfl) (flag_rest s b g i)
@[simp] theorem flag_ddr (s : State) (b : Nat) (g : Fld) (i : Nat) : (s.flag b g i).ddr = s.ddr := of_rest State.ddr (fun _ => rfl) (flag_rest s b g i)
@[simp] theorem flag_therm (s : State) (b : Nat) (g : Fld) (i : Nat) : (s.flag b g i).therm = s.therm := of_rest State.therm (fun _ => rfl) (flag_rest s b g i)
@[simp] theorem flag_pwr (s : State) (b : Nat) (g : Fld) (i : Nat) : (s.flag b g i).pwr = s.pwr := of_rest State.pwr (fun _ => rfl) (flag_rest s b g i)
@[simp] theorem flag_dma (s : State) (b : Nat) (g : Fld) (i : Nat) : (s.flag b g i).dma = s.dma := of_rest State.dma (fun _ => rfl) (flag_rest s b g i)
@[simp] theorem flag_tap (s : State) (b : Nat) (g : Fld) (i : Nat) : (s.flag b g i).tap = s.tap := of_rest State.tap (fun _ => rfl) (flag_rest s b g i)
@[simp] theorem flag_log (s : State) (b : Nat) (g : Fld) (i : Nat) : (s.flag b g i).log = s.log := of_rest State.log (fun _ => rfl) (flag_rest s b g i)
@[simp] theorem flag_fuse (s : State) (b : Nat) (g : Fld) (i : Nat) : (s.flag b g i).fuse = s.fuse := of_rest State.fuse (fun _ => rfl) (flag_rest s b g i)
@[simp] theorem flag_flash (s : State) (b : Nat) (g : Fld) (i : Nat) : (s.flag b g i).flash = s.flash := of_rest State.flash (fun _ => rfl) (flag_rest s b g i)
@[simp] theorem flag_dbg (s : State) (b : Nat) (g : Fld) (i : Nat) : (s.flag b g i).dbg = s.dbg := of_rest State.dbg (fun _ => rfl) (flag_rest s b g i)
@[simp] theorem flag_cfgv (s : State) (b : Nat) (g : Fld) (i : Nat) : (s.flag b g i).cfgv = s.cfgv := of_rest State.cfgv (fun _ => rfl) (flag_rest s b g i)
@[simp] theorem flag_bist (s : State) (b : Nat) (g : Fld) (i : Nat) : (s.flag b g i).bist = s.bist := of_rest State.bist (fun _ => rfl) (flag_rest s b g i)
@[simp] theorem flag_sweepAt (s : State) (b : Nat) (g : Fld) (i : Nat) : (s.flag b g i).sweepAt = s.sweepAt := of_rest State.sweepAt (fun _ => rfl) (flag_rest s b g i)
@[simp] theorem flag_sweepLap (s : State) (b : Nat) (g : Fld) (i : Nat) : (s.flag b g i).sweepLap = s.sweepLap := of_rest State.sweepLap (fun _ => rfl) (flag_rest s b g i)
@[simp] theorem flag_portMon (s : State) (b : Nat) (g : Fld) (i : Nat) : (s.flag b g i).portMon = s.portMon := of_rest State.portMon (fun _ => rfl) (flag_rest s b g i)
@[simp] theorem flag_free (s : State) (b : Nat) (g : Fld) (i : Nat) : (s.flag b g i).free = s.free := of_rest State.free (fun _ => rfl) (flag_rest s b g i)
@[simp] theorem flag_domReady (s : State) (b : Nat) (g : Fld) (i : Nat) (d : Nat) : (s.flag b g i).domReady d = s.domReady d := of_rest (domReady · d) (fun _ => rfl) (flag_rest s b g i)
@[simp] theorem flag_reach (s : State) (b : Nat) (g : Fld) (i : Nat) (b2 : Nat) : (s.flag b g i).reach b2 = s.reach b2 := of_rest (reach · b2) (fun _ => rfl) (flag_rest s b g i)

/-! ### perf: the fields that stay -/

@[simp] theorem perf_pending (s : State) (c k n : Nat) : (s.perf c k n).pending = s.pending := of_rest State.pending (fun _ => rfl) (perf_rest s c k n)
@[simp] theorem perf_shadows (s : State) (c k n : Nat) : (s.perf c k n).shadows = s.shadows := of_rest State.shadows (fun _ => rfl) (perf_rest s c k n)
@[simp] theorem perf_used (s : State) (c k n : Nat) : (s.perf c k n).used = s.used := of_rest State.used (fun _ => rfl) (perf_rest s c k n)
@[simp] theorem perf_latched (s : State) (c k n : Nat) : (s.perf c k n).latched = s.latched := of_rest State.latched (fun _ => rfl) (perf_rest s c k n)
@[simp] theorem perf_pairBad (s : State) (c k n : Nat) : (s.perf c k n).pairBad = s.pairBad := of_rest State.pairBad (fun _ => rfl) (perf_rest s c k n)
@[simp] theorem perf_intEn (s : State) (c k n : Nat) : (s.perf c k n).intEn = s.intEn := of_rest State.intEn (fun _ => rfl) (perf_rest s c k n)
@[simp] theorem perf_parBad (s : State) (c k n : Nat) : (s.perf c k n).parBad = s.parBad := of_rest State.parBad (fun _ => rfl) (perf_rest s c k n)
@[simp] theorem perf_parSeen (s : State) (c k n : Nat) : (s.perf c k n).parSeen = s.parSeen := of_rest State.parSeen (fun _ => rfl) (perf_rest s c k n)
@[simp] theorem perf_intnCopy (s : State) (c k n : Nat) : (s.perf c k n).intnCopy = s.intnCopy := of_rest State.intnCopy (fun _ => rfl) (perf_rest s c k n)
@[simp] theorem perf_hold (s : State) (c k n : Nat) : (s.perf c k n).hold = s.hold := of_rest State.hold (fun _ => rfl) (perf_rest s c k n)
@[simp] theorem perf_i2c (s : State) (c k n : Nat) : (s.perf c k n).i2c = s.i2c := of_rest State.i2c (fun _ => rfl) (perf_rest s c k n)
@[simp] theorem perf_msix (s : State) (c k n : Nat) : (s.perf c k n).msix = s.msix := of_rest State.msix (fun _ => rfl) (perf_rest s c k n)
@[simp] theorem perf_msixEn (s : State) (c k n : Nat) : (s.perf c k n).msixEn = s.msixEn := of_rest State.msixEn (fun _ => rfl) (perf_rest s c k n)
@[simp] theorem perf_busMaster (s : State) (c k n : Nat) : (s.perf c k n).busMaster = s.busMaster := of_rest State.busMaster (fun _ => rfl) (perf_rest s c k n)
@[simp] theorem perf_d3hot (s : State) (c k n : Nat) : (s.perf c k n).d3hot = s.d3hot := of_rest State.d3hot (fun _ => rfl) (perf_rest s c k n)
@[simp] theorem perf_inReset (s : State) (c k n : Nat) : (s.perf c k n).inReset = s.inReset := of_rest State.inReset (fun _ => rfl) (perf_rest s c k n)
@[simp] theorem perf_held (s : State) (c k n : Nat) : (s.perf c k n).held = s.held := of_rest State.held (fun _ => rfl) (perf_rest s c k n)
@[simp] theorem perf_perst (s : State) (c k n : Nat) : (s.perf c k n).perst = s.perst := of_rest State.perst (fun _ => rfl) (perf_rest s c k n)
@[simp] theorem perf_domOn (s : State) (c k n : Nat) : (s.perf c k n).domOn = s.domOn := of_rest State.domOn (fun _ => rfl) (perf_rest s c k n)
@[simp] theorem perf_domBusy (s : State) (c k n : Nat) : (s.perf c k n).domBusy = s.domBusy := of_rest State.domBusy (fun _ => rfl) (perf_rest s c k n)
@[simp] theorem perf_fuseFloorHk (s : State) (c k n : Nat) : (s.perf c k n).fuseFloorHk = s.fuseFloorHk := of_rest State.fuseFloorHk (fun _ => rfl) (perf_rest s c k n)
@[simp] theorem perf_fuseSub (s : State) (c k n : Nat) : (s.perf c k n).fuseSub = s.fuseSub := of_rest State.fuseSub (fun _ => rfl) (perf_rest s c k n)
@[simp] theorem perf_fuseSeg (s : State) (c k n : Nat) : (s.perf c k n).fuseSeg = s.fuseSeg := of_rest State.fuseSeg (fun _ => rfl) (perf_rest s c k n)
@[simp] theorem perf_refAt (s : State) (c k n : Nat) : (s.perf c k n).refAt = s.refAt := of_rest State.refAt (fun _ => rfl) (perf_rest s c k n)
@[simp] theorem perf_refBack (s : State) (c k n : Nat) : (s.perf c k n).refBack = s.refBack := of_rest State.refBack (fun _ => rfl) (perf_rest s c k n)
@[simp] theorem perf_bar4Gib (s : State) (c k n : Nat) : (s.perf c k n).bar4Gib = s.bar4Gib := of_rest State.bar4Gib (fun _ => rfl) (perf_rest s c k n)
@[simp] theorem perf_clrPin (s : State) (c k n : Nat) : (s.perf c k n).clrPin = s.clrPin := of_rest State.clrPin (fun _ => rfl) (perf_rest s c k n)
@[simp] theorem perf_dpTicks (s : State) (c k n : Nat) : (s.perf c k n).dpTicks = s.dpTicks := of_rest State.dpTicks (fun _ => rfl) (perf_rest s c k n)
@[simp] theorem perf_tb (s : State) (c k n : Nat) : (s.perf c k n).tb = s.tb := of_rest State.tb (fun _ => rfl) (perf_rest s c k n)
@[simp] theorem perf_line (s : State) (c k n : Nat) : (s.perf c k n).line = s.line := of_rest State.line (fun _ => rfl) (perf_rest s c k n)
@[simp] theorem perf_host (s : State) (c k n : Nat) : (s.perf c k n).host = s.host := of_rest State.host (fun _ => rfl) (perf_rest s c k n)
@[simp] theorem perf_engines (s : State) (c k n : Nat) : (s.perf c k n).engines = s.engines := of_rest State.engines (fun _ => rfl) (perf_rest s c k n)
@[simp] theorem perf_prims (s : State) (c k n : Nat) : (s.perf c k n).prims = s.prims := of_rest State.prims (fun _ => rfl) (perf_rest s c k n)
@[simp] theorem perf_sram (s : State) (c k n : Nat) : (s.perf c k n).sram = s.sram := of_rest State.sram (fun _ => rfl) (perf_rest s c k n)
@[simp] theorem perf_portTsu (s : State) (c k n : Nat) : (s.perf c k n).portTsu = s.portTsu := of_rest State.portTsu (fun _ => rfl) (perf_rest s c k n)
@[simp] theorem perf_laneTsu (s : State) (c k n : Nat) : (s.perf c k n).laneTsu = s.laneTsu := of_rest State.laneTsu (fun _ => rfl) (perf_rest s c k n)
@[simp] theorem perf_tpi (s : State) (c k n : Nat) : (s.perf c k n).tpi = s.tpi := of_rest State.tpi (fun _ => rfl) (perf_rest s c k n)
@[simp] theorem perf_tbStep (s : State) (c k n : Nat) : (s.perf c k n).tbStep = s.tbStep := of_rest State.tbStep (fun _ => rfl) (perf_rest s c k n)
@[simp] theorem perf_tpoIssued (s : State) (c k n : Nat) : (s.perf c k n).tpoIssued = s.tpoIssued := of_rest State.tpoIssued (fun _ => rfl) (perf_rest s c k n)
@[simp] theorem perf_sched (s : State) (c k n : Nat) : (s.perf c k n).sched = s.sched := of_rest State.sched (fun _ => rfl) (perf_rest s c k n)
@[simp] theorem perf_fog (s : State) (c k n : Nat) : (s.perf c k n).fog = s.fog := of_rest State.fog (fun _ => rfl) (perf_rest s c k n)
@[simp] theorem perf_twin (s : State) (c k n : Nat) : (s.perf c k n).twin = s.twin := of_rest State.twin (fun _ => rfl) (perf_rest s c k n)
@[simp] theorem perf_hk (s : State) (c k n : Nat) : (s.perf c k n).hk = s.hk := of_rest State.hk (fun _ => rfl) (perf_rest s c k n)
@[simp] theorem perf_hdac (s : State) (c k n : Nat) : (s.perf c k n).hdac = s.hdac := of_rest State.hdac (fun _ => rfl) (perf_rest s c k n)
@[simp] theorem perf_fcoef (s : State) (c k n : Nat) : (s.perf c k n).fcoef = s.fcoef := of_rest State.fcoef (fun _ => rfl) (perf_rest s c k n)
@[simp] theorem perf_ddr (s : State) (c k n : Nat) : (s.perf c k n).ddr = s.ddr := of_rest State.ddr (fun _ => rfl) (perf_rest s c k n)
@[simp] theorem perf_therm (s : State) (c k n : Nat) : (s.perf c k n).therm = s.therm := of_rest State.therm (fun _ => rfl) (perf_rest s c k n)
@[simp] theorem perf_pwr (s : State) (c k n : Nat) : (s.perf c k n).pwr = s.pwr := of_rest State.pwr (fun _ => rfl) (perf_rest s c k n)
@[simp] theorem perf_dma (s : State) (c k n : Nat) : (s.perf c k n).dma = s.dma := of_rest State.dma (fun _ => rfl) (perf_rest s c k n)
@[simp] theorem perf_tap (s : State) (c k n : Nat) : (s.perf c k n).tap = s.tap := of_rest State.tap (fun _ => rfl) (perf_rest s c k n)
@[simp] theorem perf_log (s : State) (c k n : Nat) : (s.perf c k n).log = s.log := of_rest State.log (fun _ => rfl) (perf_rest s c k n)
@[simp] theorem perf_fuse (s : State) (c k n : Nat) : (s.perf c k n).fuse = s.fuse := of_rest State.fuse (fun _ => rfl) (perf_rest s c k n)
@[simp] theorem perf_flash (s : State) (c k n : Nat) : (s.perf c k n).flash = s.flash := of_rest State.flash (fun _ => rfl) (perf_rest s c k n)
@[simp] theorem perf_dbg (s : State) (c k n : Nat) : (s.perf c k n).dbg = s.dbg := of_rest State.dbg (fun _ => rfl) (perf_rest s c k n)
@[simp] theorem perf_cfgv (s : State) (c k n : Nat) : (s.perf c k n).cfgv = s.cfgv := of_rest State.cfgv (fun _ => rfl) (perf_rest s c k n)
@[simp] theorem perf_bist (s : State) (c k n : Nat) : (s.perf c k n).bist = s.bist := of_rest State.bist (fun _ => rfl) (perf_rest s c k n)
@[simp] theorem perf_sweepAt (s : State) (c k n : Nat) : (s.perf c k n).sweepAt = s.sweepAt := of_rest State.sweepAt (fun _ => rfl) (perf_rest s c k n)
@[simp] theorem perf_sweepLap (s : State) (c k n : Nat) : (s.perf c k n).sweepLap = s.sweepLap := of_rest State.sweepLap (fun _ => rfl) (perf_rest s c k n)
@[simp] theorem perf_portMon (s : State) (c k n : Nat) : (s.perf c k n).portMon = s.portMon := of_rest State.portMon (fun _ => rfl) (perf_rest s c k n)
@[simp] theorem perf_free (s : State) (c k n : Nat) : (s.perf c k n).free = s.free := of_rest State.free (fun _ => rfl) (perf_rest s c k n)
@[simp] theorem perf_domReady (s : State) (c k n : Nat) (d : Nat) : (s.perf c k n).domReady d = s.domReady d := of_rest (domReady · d) (fun _ => rfl) (perf_rest s c k n)
@[simp] theorem perf_reach (s : State) (c k n : Nat) (b2 : Nat) : (s.perf c k n).reach b2 = s.reach b2 := of_rest (reach · b2) (fun _ => rfl) (perf_rest s c k n)

/-! ### tlp: the fields that stay -/

@[simp] theorem tlp_pending (s : State) (d n : Nat) : (s.tlp d n).pending = s.pending := of_rest State.pending (fun _ => rfl) (tlp_rest s d n)
@[simp] theorem tlp_shadows (s : State) (d n : Nat) : (s.tlp d n).shadows = s.shadows := of_rest State.shadows (fun _ => rfl) (tlp_rest s d n)
@[simp] theorem tlp_used (s : State) (d n : Nat) : (s.tlp d n).used = s.used := of_rest State.used (fun _ => rfl) (tlp_rest s d n)
@[simp] theorem tlp_latched (s : State) (d n : Nat) : (s.tlp d n).latched = s.latched := of_rest State.latched (fun _ => rfl) (tlp_rest s d n)
@[simp] theorem tlp_pairBad (s : State) (d n : Nat) : (s.tlp d n).pairBad = s.pairBad := of_rest State.pairBad (fun _ => rfl) (tlp_rest s d n)
@[simp] theorem tlp_intEn (s : State) (d n : Nat) : (s.tlp d n).intEn = s.intEn := of_rest State.intEn (fun _ => rfl) (tlp_rest s d n)
@[simp] theorem tlp_parBad (s : State) (d n : Nat) : (s.tlp d n).parBad = s.parBad := of_rest State.parBad (fun _ => rfl) (tlp_rest s d n)
@[simp] theorem tlp_parSeen (s : State) (d n : Nat) : (s.tlp d n).parSeen = s.parSeen := of_rest State.parSeen (fun _ => rfl) (tlp_rest s d n)
@[simp] theorem tlp_intnCopy (s : State) (d n : Nat) : (s.tlp d n).intnCopy = s.intnCopy := of_rest State.intnCopy (fun _ => rfl) (tlp_rest s d n)
@[simp] theorem tlp_hold (s : State) (d n : Nat) : (s.tlp d n).hold = s.hold := of_rest State.hold (fun _ => rfl) (tlp_rest s d n)
@[simp] theorem tlp_i2c (s : State) (d n : Nat) : (s.tlp d n).i2c = s.i2c := of_rest State.i2c (fun _ => rfl) (tlp_rest s d n)
@[simp] theorem tlp_msix (s : State) (d n : Nat) : (s.tlp d n).msix = s.msix := of_rest State.msix (fun _ => rfl) (tlp_rest s d n)
@[simp] theorem tlp_msixEn (s : State) (d n : Nat) : (s.tlp d n).msixEn = s.msixEn := of_rest State.msixEn (fun _ => rfl) (tlp_rest s d n)
@[simp] theorem tlp_busMaster (s : State) (d n : Nat) : (s.tlp d n).busMaster = s.busMaster := of_rest State.busMaster (fun _ => rfl) (tlp_rest s d n)
@[simp] theorem tlp_d3hot (s : State) (d n : Nat) : (s.tlp d n).d3hot = s.d3hot := of_rest State.d3hot (fun _ => rfl) (tlp_rest s d n)
@[simp] theorem tlp_inReset (s : State) (d n : Nat) : (s.tlp d n).inReset = s.inReset := of_rest State.inReset (fun _ => rfl) (tlp_rest s d n)
@[simp] theorem tlp_held (s : State) (d n : Nat) : (s.tlp d n).held = s.held := of_rest State.held (fun _ => rfl) (tlp_rest s d n)
@[simp] theorem tlp_perst (s : State) (d n : Nat) : (s.tlp d n).perst = s.perst := of_rest State.perst (fun _ => rfl) (tlp_rest s d n)
@[simp] theorem tlp_domOn (s : State) (d n : Nat) : (s.tlp d n).domOn = s.domOn := of_rest State.domOn (fun _ => rfl) (tlp_rest s d n)
@[simp] theorem tlp_domBusy (s : State) (d n : Nat) : (s.tlp d n).domBusy = s.domBusy := of_rest State.domBusy (fun _ => rfl) (tlp_rest s d n)
@[simp] theorem tlp_fuseFloorHk (s : State) (d n : Nat) : (s.tlp d n).fuseFloorHk = s.fuseFloorHk := of_rest State.fuseFloorHk (fun _ => rfl) (tlp_rest s d n)
@[simp] theorem tlp_fuseSub (s : State) (d n : Nat) : (s.tlp d n).fuseSub = s.fuseSub := of_rest State.fuseSub (fun _ => rfl) (tlp_rest s d n)
@[simp] theorem tlp_fuseSeg (s : State) (d n : Nat) : (s.tlp d n).fuseSeg = s.fuseSeg := of_rest State.fuseSeg (fun _ => rfl) (tlp_rest s d n)
@[simp] theorem tlp_refAt (s : State) (d n : Nat) : (s.tlp d n).refAt = s.refAt := of_rest State.refAt (fun _ => rfl) (tlp_rest s d n)
@[simp] theorem tlp_refBack (s : State) (d n : Nat) : (s.tlp d n).refBack = s.refBack := of_rest State.refBack (fun _ => rfl) (tlp_rest s d n)
@[simp] theorem tlp_bar4Gib (s : State) (d n : Nat) : (s.tlp d n).bar4Gib = s.bar4Gib := of_rest State.bar4Gib (fun _ => rfl) (tlp_rest s d n)
@[simp] theorem tlp_clrPin (s : State) (d n : Nat) : (s.tlp d n).clrPin = s.clrPin := of_rest State.clrPin (fun _ => rfl) (tlp_rest s d n)
@[simp] theorem tlp_dpTicks (s : State) (d n : Nat) : (s.tlp d n).dpTicks = s.dpTicks := of_rest State.dpTicks (fun _ => rfl) (tlp_rest s d n)
@[simp] theorem tlp_tb (s : State) (d n : Nat) : (s.tlp d n).tb = s.tb := of_rest State.tb (fun _ => rfl) (tlp_rest s d n)
@[simp] theorem tlp_line (s : State) (d n : Nat) : (s.tlp d n).line = s.line := of_rest State.line (fun _ => rfl) (tlp_rest s d n)
@[simp] theorem tlp_host (s : State) (d n : Nat) : (s.tlp d n).host = s.host := of_rest State.host (fun _ => rfl) (tlp_rest s d n)
@[simp] theorem tlp_engines (s : State) (d n : Nat) : (s.tlp d n).engines = s.engines := of_rest State.engines (fun _ => rfl) (tlp_rest s d n)
@[simp] theorem tlp_prims (s : State) (d n : Nat) : (s.tlp d n).prims = s.prims := of_rest State.prims (fun _ => rfl) (tlp_rest s d n)
@[simp] theorem tlp_sram (s : State) (d n : Nat) : (s.tlp d n).sram = s.sram := of_rest State.sram (fun _ => rfl) (tlp_rest s d n)
@[simp] theorem tlp_portTsu (s : State) (d n : Nat) : (s.tlp d n).portTsu = s.portTsu := of_rest State.portTsu (fun _ => rfl) (tlp_rest s d n)
@[simp] theorem tlp_laneTsu (s : State) (d n : Nat) : (s.tlp d n).laneTsu = s.laneTsu := of_rest State.laneTsu (fun _ => rfl) (tlp_rest s d n)
@[simp] theorem tlp_tpi (s : State) (d n : Nat) : (s.tlp d n).tpi = s.tpi := of_rest State.tpi (fun _ => rfl) (tlp_rest s d n)
@[simp] theorem tlp_tbStep (s : State) (d n : Nat) : (s.tlp d n).tbStep = s.tbStep := of_rest State.tbStep (fun _ => rfl) (tlp_rest s d n)
@[simp] theorem tlp_tpoIssued (s : State) (d n : Nat) : (s.tlp d n).tpoIssued = s.tpoIssued := of_rest State.tpoIssued (fun _ => rfl) (tlp_rest s d n)
@[simp] theorem tlp_sched (s : State) (d n : Nat) : (s.tlp d n).sched = s.sched := of_rest State.sched (fun _ => rfl) (tlp_rest s d n)
@[simp] theorem tlp_fog (s : State) (d n : Nat) : (s.tlp d n).fog = s.fog := of_rest State.fog (fun _ => rfl) (tlp_rest s d n)
@[simp] theorem tlp_twin (s : State) (d n : Nat) : (s.tlp d n).twin = s.twin := of_rest State.twin (fun _ => rfl) (tlp_rest s d n)
@[simp] theorem tlp_hk (s : State) (d n : Nat) : (s.tlp d n).hk = s.hk := of_rest State.hk (fun _ => rfl) (tlp_rest s d n)
@[simp] theorem tlp_hdac (s : State) (d n : Nat) : (s.tlp d n).hdac = s.hdac := of_rest State.hdac (fun _ => rfl) (tlp_rest s d n)
@[simp] theorem tlp_fcoef (s : State) (d n : Nat) : (s.tlp d n).fcoef = s.fcoef := of_rest State.fcoef (fun _ => rfl) (tlp_rest s d n)
@[simp] theorem tlp_ddr (s : State) (d n : Nat) : (s.tlp d n).ddr = s.ddr := of_rest State.ddr (fun _ => rfl) (tlp_rest s d n)
@[simp] theorem tlp_therm (s : State) (d n : Nat) : (s.tlp d n).therm = s.therm := of_rest State.therm (fun _ => rfl) (tlp_rest s d n)
@[simp] theorem tlp_pwr (s : State) (d n : Nat) : (s.tlp d n).pwr = s.pwr := of_rest State.pwr (fun _ => rfl) (tlp_rest s d n)
@[simp] theorem tlp_dma (s : State) (d n : Nat) : (s.tlp d n).dma = s.dma := of_rest State.dma (fun _ => rfl) (tlp_rest s d n)
@[simp] theorem tlp_tap (s : State) (d n : Nat) : (s.tlp d n).tap = s.tap := of_rest State.tap (fun _ => rfl) (tlp_rest s d n)
@[simp] theorem tlp_log (s : State) (d n : Nat) : (s.tlp d n).log = s.log := of_rest State.log (fun _ => rfl) (tlp_rest s d n)
@[simp] theorem tlp_fuse (s : State) (d n : Nat) : (s.tlp d n).fuse = s.fuse := of_rest State.fuse (fun _ => rfl) (tlp_rest s d n)
@[simp] theorem tlp_flash (s : State) (d n : Nat) : (s.tlp d n).flash = s.flash := of_rest State.flash (fun _ => rfl) (tlp_rest s d n)
@[simp] theorem tlp_dbg (s : State) (d n : Nat) : (s.tlp d n).dbg = s.dbg := of_rest State.dbg (fun _ => rfl) (tlp_rest s d n)
@[simp] theorem tlp_cfgv (s : State) (d n : Nat) : (s.tlp d n).cfgv = s.cfgv := of_rest State.cfgv (fun _ => rfl) (tlp_rest s d n)
@[simp] theorem tlp_bist (s : State) (d n : Nat) : (s.tlp d n).bist = s.bist := of_rest State.bist (fun _ => rfl) (tlp_rest s d n)
@[simp] theorem tlp_sweepAt (s : State) (d n : Nat) : (s.tlp d n).sweepAt = s.sweepAt := of_rest State.sweepAt (fun _ => rfl) (tlp_rest s d n)
@[simp] theorem tlp_sweepLap (s : State) (d n : Nat) : (s.tlp d n).sweepLap = s.sweepLap := of_rest State.sweepLap (fun _ => rfl) (tlp_rest s d n)
@[simp] theorem tlp_portMon (s : State) (d n : Nat) : (s.tlp d n).portMon = s.portMon := of_rest State.portMon (fun _ => rfl) (tlp_rest s d n)
@[simp] theorem tlp_free (s : State) (d n : Nat) : (s.tlp d n).free = s.free := of_rest State.free (fun _ => rfl) (tlp_rest s d n)
@[simp] theorem tlp_domReady (s : State) (d n : Nat) (d : Nat) : (s.tlp d n).domReady d = s.domReady d := of_rest (domReady · d) (fun _ => rfl) (tlp_rest s d n)
@[simp] theorem tlp_reach (s : State) (d n : Nat) (b2 : Nat) : (s.tlp d n).reach b2 = s.reach b2 := of_rest (reach · b2) (fun _ => rfl) (tlp_rest s d n)

/-! ### offRecord: the fields that stay -/

@[simp] theorem offRecord_pending (s : State) (bar : Bar) (off : Nat) (w : Bool) : (s.offRecord bar off w).pending = s.pending := of_rest State.pending (fun _ => rfl) (offRecord_rest s bar off w)
@[simp] theorem offRecord_shadows (s : State) (bar : Bar) (off : Nat) (w : Bool) : (s.offRecord bar off w).shadows = s.shadows := of_rest State.shadows (fun _ => rfl) (offRecord_rest s bar off w)
@[simp] theorem offRecord_used (s : State) (bar : Bar) (off : Nat) (w : Bool) : (s.offRecord bar off w).used = s.used := of_rest State.used (fun _ => rfl) (offRecord_rest s bar off w)
@[simp] theorem offRecord_latched (s : State) (bar : Bar) (off : Nat) (w : Bool) : (s.offRecord bar off w).latched = s.latched := of_rest State.latched (fun _ => rfl) (offRecord_rest s bar off w)
@[simp] theorem offRecord_pairBad (s : State) (bar : Bar) (off : Nat) (w : Bool) : (s.offRecord bar off w).pairBad = s.pairBad := of_rest State.pairBad (fun _ => rfl) (offRecord_rest s bar off w)
@[simp] theorem offRecord_intEn (s : State) (bar : Bar) (off : Nat) (w : Bool) : (s.offRecord bar off w).intEn = s.intEn := of_rest State.intEn (fun _ => rfl) (offRecord_rest s bar off w)
@[simp] theorem offRecord_parBad (s : State) (bar : Bar) (off : Nat) (w : Bool) : (s.offRecord bar off w).parBad = s.parBad := of_rest State.parBad (fun _ => rfl) (offRecord_rest s bar off w)
@[simp] theorem offRecord_parSeen (s : State) (bar : Bar) (off : Nat) (w : Bool) : (s.offRecord bar off w).parSeen = s.parSeen := of_rest State.parSeen (fun _ => rfl) (offRecord_rest s bar off w)
@[simp] theorem offRecord_intnCopy (s : State) (bar : Bar) (off : Nat) (w : Bool) : (s.offRecord bar off w).intnCopy = s.intnCopy := of_rest State.intnCopy (fun _ => rfl) (offRecord_rest s bar off w)
@[simp] theorem offRecord_hold (s : State) (bar : Bar) (off : Nat) (w : Bool) : (s.offRecord bar off w).hold = s.hold := of_rest State.hold (fun _ => rfl) (offRecord_rest s bar off w)
@[simp] theorem offRecord_i2c (s : State) (bar : Bar) (off : Nat) (w : Bool) : (s.offRecord bar off w).i2c = s.i2c := of_rest State.i2c (fun _ => rfl) (offRecord_rest s bar off w)
@[simp] theorem offRecord_msix (s : State) (bar : Bar) (off : Nat) (w : Bool) : (s.offRecord bar off w).msix = s.msix := of_rest State.msix (fun _ => rfl) (offRecord_rest s bar off w)
@[simp] theorem offRecord_msixEn (s : State) (bar : Bar) (off : Nat) (w : Bool) : (s.offRecord bar off w).msixEn = s.msixEn := of_rest State.msixEn (fun _ => rfl) (offRecord_rest s bar off w)
@[simp] theorem offRecord_busMaster (s : State) (bar : Bar) (off : Nat) (w : Bool) : (s.offRecord bar off w).busMaster = s.busMaster := of_rest State.busMaster (fun _ => rfl) (offRecord_rest s bar off w)
@[simp] theorem offRecord_d3hot (s : State) (bar : Bar) (off : Nat) (w : Bool) : (s.offRecord bar off w).d3hot = s.d3hot := of_rest State.d3hot (fun _ => rfl) (offRecord_rest s bar off w)
@[simp] theorem offRecord_inReset (s : State) (bar : Bar) (off : Nat) (w : Bool) : (s.offRecord bar off w).inReset = s.inReset := of_rest State.inReset (fun _ => rfl) (offRecord_rest s bar off w)
@[simp] theorem offRecord_held (s : State) (bar : Bar) (off : Nat) (w : Bool) : (s.offRecord bar off w).held = s.held := of_rest State.held (fun _ => rfl) (offRecord_rest s bar off w)
@[simp] theorem offRecord_perst (s : State) (bar : Bar) (off : Nat) (w : Bool) : (s.offRecord bar off w).perst = s.perst := of_rest State.perst (fun _ => rfl) (offRecord_rest s bar off w)
@[simp] theorem offRecord_domOn (s : State) (bar : Bar) (off : Nat) (w : Bool) : (s.offRecord bar off w).domOn = s.domOn := of_rest State.domOn (fun _ => rfl) (offRecord_rest s bar off w)
@[simp] theorem offRecord_domBusy (s : State) (bar : Bar) (off : Nat) (w : Bool) : (s.offRecord bar off w).domBusy = s.domBusy := of_rest State.domBusy (fun _ => rfl) (offRecord_rest s bar off w)
@[simp] theorem offRecord_fuseFloorHk (s : State) (bar : Bar) (off : Nat) (w : Bool) : (s.offRecord bar off w).fuseFloorHk = s.fuseFloorHk := of_rest State.fuseFloorHk (fun _ => rfl) (offRecord_rest s bar off w)
@[simp] theorem offRecord_fuseSub (s : State) (bar : Bar) (off : Nat) (w : Bool) : (s.offRecord bar off w).fuseSub = s.fuseSub := of_rest State.fuseSub (fun _ => rfl) (offRecord_rest s bar off w)
@[simp] theorem offRecord_fuseSeg (s : State) (bar : Bar) (off : Nat) (w : Bool) : (s.offRecord bar off w).fuseSeg = s.fuseSeg := of_rest State.fuseSeg (fun _ => rfl) (offRecord_rest s bar off w)
@[simp] theorem offRecord_refAt (s : State) (bar : Bar) (off : Nat) (w : Bool) : (s.offRecord bar off w).refAt = s.refAt := of_rest State.refAt (fun _ => rfl) (offRecord_rest s bar off w)
@[simp] theorem offRecord_refBack (s : State) (bar : Bar) (off : Nat) (w : Bool) : (s.offRecord bar off w).refBack = s.refBack := of_rest State.refBack (fun _ => rfl) (offRecord_rest s bar off w)
@[simp] theorem offRecord_bar4Gib (s : State) (bar : Bar) (off : Nat) (w : Bool) : (s.offRecord bar off w).bar4Gib = s.bar4Gib := of_rest State.bar4Gib (fun _ => rfl) (offRecord_rest s bar off w)
@[simp] theorem offRecord_clrPin (s : State) (bar : Bar) (off : Nat) (w : Bool) : (s.offRecord bar off w).clrPin = s.clrPin := of_rest State.clrPin (fun _ => rfl) (offRecord_rest s bar off w)
@[simp] theorem offRecord_dpTicks (s : State) (bar : Bar) (off : Nat) (w : Bool) : (s.offRecord bar off w).dpTicks = s.dpTicks := of_rest State.dpTicks (fun _ => rfl) (offRecord_rest s bar off w)
@[simp] theorem offRecord_tb (s : State) (bar : Bar) (off : Nat) (w : Bool) : (s.offRecord bar off w).tb = s.tb := of_rest State.tb (fun _ => rfl) (offRecord_rest s bar off w)
@[simp] theorem offRecord_line (s : State) (bar : Bar) (off : Nat) (w : Bool) : (s.offRecord bar off w).line = s.line := of_rest State.line (fun _ => rfl) (offRecord_rest s bar off w)
@[simp] theorem offRecord_host (s : State) (bar : Bar) (off : Nat) (w : Bool) : (s.offRecord bar off w).host = s.host := of_rest State.host (fun _ => rfl) (offRecord_rest s bar off w)
@[simp] theorem offRecord_engines (s : State) (bar : Bar) (off : Nat) (w : Bool) : (s.offRecord bar off w).engines = s.engines := of_rest State.engines (fun _ => rfl) (offRecord_rest s bar off w)
@[simp] theorem offRecord_prims (s : State) (bar : Bar) (off : Nat) (w : Bool) : (s.offRecord bar off w).prims = s.prims := of_rest State.prims (fun _ => rfl) (offRecord_rest s bar off w)
@[simp] theorem offRecord_sram (s : State) (bar : Bar) (off : Nat) (w : Bool) : (s.offRecord bar off w).sram = s.sram := of_rest State.sram (fun _ => rfl) (offRecord_rest s bar off w)
@[simp] theorem offRecord_portTsu (s : State) (bar : Bar) (off : Nat) (w : Bool) : (s.offRecord bar off w).portTsu = s.portTsu := of_rest State.portTsu (fun _ => rfl) (offRecord_rest s bar off w)
@[simp] theorem offRecord_laneTsu (s : State) (bar : Bar) (off : Nat) (w : Bool) : (s.offRecord bar off w).laneTsu = s.laneTsu := of_rest State.laneTsu (fun _ => rfl) (offRecord_rest s bar off w)
@[simp] theorem offRecord_tpi (s : State) (bar : Bar) (off : Nat) (w : Bool) : (s.offRecord bar off w).tpi = s.tpi := of_rest State.tpi (fun _ => rfl) (offRecord_rest s bar off w)
@[simp] theorem offRecord_tbStep (s : State) (bar : Bar) (off : Nat) (w : Bool) : (s.offRecord bar off w).tbStep = s.tbStep := of_rest State.tbStep (fun _ => rfl) (offRecord_rest s bar off w)
@[simp] theorem offRecord_tpoIssued (s : State) (bar : Bar) (off : Nat) (w : Bool) : (s.offRecord bar off w).tpoIssued = s.tpoIssued := of_rest State.tpoIssued (fun _ => rfl) (offRecord_rest s bar off w)
@[simp] theorem offRecord_sched (s : State) (bar : Bar) (off : Nat) (w : Bool) : (s.offRecord bar off w).sched = s.sched := of_rest State.sched (fun _ => rfl) (offRecord_rest s bar off w)
@[simp] theorem offRecord_fog (s : State) (bar : Bar) (off : Nat) (w : Bool) : (s.offRecord bar off w).fog = s.fog := of_rest State.fog (fun _ => rfl) (offRecord_rest s bar off w)
@[simp] theorem offRecord_twin (s : State) (bar : Bar) (off : Nat) (w : Bool) : (s.offRecord bar off w).twin = s.twin := of_rest State.twin (fun _ => rfl) (offRecord_rest s bar off w)
@[simp] theorem offRecord_hk (s : State) (bar : Bar) (off : Nat) (w : Bool) : (s.offRecord bar off w).hk = s.hk := of_rest State.hk (fun _ => rfl) (offRecord_rest s bar off w)
@[simp] theorem offRecord_hdac (s : State) (bar : Bar) (off : Nat) (w : Bool) : (s.offRecord bar off w).hdac = s.hdac := of_rest State.hdac (fun _ => rfl) (offRecord_rest s bar off w)
@[simp] theorem offRecord_fcoef (s : State) (bar : Bar) (off : Nat) (w : Bool) : (s.offRecord bar off w).fcoef = s.fcoef := of_rest State.fcoef (fun _ => rfl) (offRecord_rest s bar off w)
@[simp] theorem offRecord_ddr (s : State) (bar : Bar) (off : Nat) (w : Bool) : (s.offRecord bar off w).ddr = s.ddr := of_rest State.ddr (fun _ => rfl) (offRecord_rest s bar off w)
@[simp] theorem offRecord_therm (s : State) (bar : Bar) (off : Nat) (w : Bool) : (s.offRecord bar off w).therm = s.therm := of_rest State.therm (fun _ => rfl) (offRecord_rest s bar off w)
@[simp] theorem offRecord_pwr (s : State) (bar : Bar) (off : Nat) (w : Bool) : (s.offRecord bar off w).pwr = s.pwr := of_rest State.pwr (fun _ => rfl) (offRecord_rest s bar off w)
@[simp] theorem offRecord_dma (s : State) (bar : Bar) (off : Nat) (w : Bool) : (s.offRecord bar off w).dma = s.dma := of_rest State.dma (fun _ => rfl) (offRecord_rest s bar off w)
@[simp] theorem offRecord_tap (s : State) (bar : Bar) (off : Nat) (w : Bool) : (s.offRecord bar off w).tap = s.tap := of_rest State.tap (fun _ => rfl) (offRecord_rest s bar off w)
@[simp] theorem offRecord_log (s : State) (bar : Bar) (off : Nat) (w : Bool) : (s.offRecord bar off w).log = s.log := of_rest State.log (fun _ => rfl) (offRecord_rest s bar off w)
@[simp] theorem offRecord_fuse (s : State) (bar : Bar) (off : Nat) (w : Bool) : (s.offRecord bar off w).fuse = s.fuse := of_rest State.fuse (fun _ => rfl) (offRecord_rest s bar off w)
@[simp] theorem offRecord_flash (s : State) (bar : Bar) (off : Nat) (w : Bool) : (s.offRecord bar off w).flash = s.flash := of_rest State.flash (fun _ => rfl) (offRecord_rest s bar off w)
@[simp] theorem offRecord_dbg (s : State) (bar : Bar) (off : Nat) (w : Bool) : (s.offRecord bar off w).dbg = s.dbg := of_rest State.dbg (fun _ => rfl) (offRecord_rest s bar off w)
@[simp] theorem offRecord_cfgv (s : State) (bar : Bar) (off : Nat) (w : Bool) : (s.offRecord bar off w).cfgv = s.cfgv := of_rest State.cfgv (fun _ => rfl) (offRecord_rest s bar off w)
@[simp] theorem offRecord_bist (s : State) (bar : Bar) (off : Nat) (w : Bool) : (s.offRecord bar off w).bist = s.bist := of_rest State.bist (fun _ => rfl) (offRecord_rest s bar off w)
@[simp] theorem offRecord_sweepAt (s : State) (bar : Bar) (off : Nat) (w : Bool) : (s.offRecord bar off w).sweepAt = s.sweepAt := of_rest State.sweepAt (fun _ => rfl) (offRecord_rest s bar off w)
@[simp] theorem offRecord_sweepLap (s : State) (bar : Bar) (off : Nat) (w : Bool) : (s.offRecord bar off w).sweepLap = s.sweepLap := of_rest State.sweepLap (fun _ => rfl) (offRecord_rest s bar off w)
@[simp] theorem offRecord_portMon (s : State) (bar : Bar) (off : Nat) (w : Bool) : (s.offRecord bar off w).portMon = s.portMon := of_rest State.portMon (fun _ => rfl) (offRecord_rest s bar off w)
@[simp] theorem offRecord_free (s : State) (bar : Bar) (off : Nat) (w : Bool) : (s.offRecord bar off w).free = s.free := of_rest State.free (fun _ => rfl) (offRecord_rest s bar off w)
@[simp] theorem offRecord_domReady (s : State) (bar : Bar) (off : Nat) (w : Bool) (d : Nat) : (s.offRecord bar off w).domReady d = s.domReady d := of_rest (domReady · d) (fun _ => rfl) (offRecord_rest s bar off w)
@[simp] theorem offRecord_reach (s : State) (bar : Bar) (off : Nat) (w : Bool) (b2 : Nat) : (s.offRecord bar off w).reach b2 = s.reach b2 := of_rest (reach · b2) (fun _ => rfl) (offRecord_rest s bar off w)

/-! ### dbgDenied: the fields that stay -/

@[simp] theorem dbgDenied_pending (s : State) : (s.dbgDenied).pending = s.pending := of_rest State.pending (fun _ => rfl) (dbgDenied_rest s)
@[simp] theorem dbgDenied_shadows (s : State) : (s.dbgDenied).shadows = s.shadows := of_rest State.shadows (fun _ => rfl) (dbgDenied_rest s)
@[simp] theorem dbgDenied_used (s : State) : (s.dbgDenied).used = s.used := of_rest State.used (fun _ => rfl) (dbgDenied_rest s)
@[simp] theorem dbgDenied_latched (s : State) : (s.dbgDenied).latched = s.latched := of_rest State.latched (fun _ => rfl) (dbgDenied_rest s)
@[simp] theorem dbgDenied_pairBad (s : State) : (s.dbgDenied).pairBad = s.pairBad := of_rest State.pairBad (fun _ => rfl) (dbgDenied_rest s)
@[simp] theorem dbgDenied_intEn (s : State) : (s.dbgDenied).intEn = s.intEn := of_rest State.intEn (fun _ => rfl) (dbgDenied_rest s)
@[simp] theorem dbgDenied_parBad (s : State) : (s.dbgDenied).parBad = s.parBad := of_rest State.parBad (fun _ => rfl) (dbgDenied_rest s)
@[simp] theorem dbgDenied_parSeen (s : State) : (s.dbgDenied).parSeen = s.parSeen := of_rest State.parSeen (fun _ => rfl) (dbgDenied_rest s)
@[simp] theorem dbgDenied_intnCopy (s : State) : (s.dbgDenied).intnCopy = s.intnCopy := of_rest State.intnCopy (fun _ => rfl) (dbgDenied_rest s)
@[simp] theorem dbgDenied_hold (s : State) : (s.dbgDenied).hold = s.hold := of_rest State.hold (fun _ => rfl) (dbgDenied_rest s)
@[simp] theorem dbgDenied_i2c (s : State) : (s.dbgDenied).i2c = s.i2c := of_rest State.i2c (fun _ => rfl) (dbgDenied_rest s)
@[simp] theorem dbgDenied_msix (s : State) : (s.dbgDenied).msix = s.msix := of_rest State.msix (fun _ => rfl) (dbgDenied_rest s)
@[simp] theorem dbgDenied_msixEn (s : State) : (s.dbgDenied).msixEn = s.msixEn := of_rest State.msixEn (fun _ => rfl) (dbgDenied_rest s)
@[simp] theorem dbgDenied_busMaster (s : State) : (s.dbgDenied).busMaster = s.busMaster := of_rest State.busMaster (fun _ => rfl) (dbgDenied_rest s)
@[simp] theorem dbgDenied_d3hot (s : State) : (s.dbgDenied).d3hot = s.d3hot := of_rest State.d3hot (fun _ => rfl) (dbgDenied_rest s)
@[simp] theorem dbgDenied_inReset (s : State) : (s.dbgDenied).inReset = s.inReset := of_rest State.inReset (fun _ => rfl) (dbgDenied_rest s)
@[simp] theorem dbgDenied_held (s : State) : (s.dbgDenied).held = s.held := of_rest State.held (fun _ => rfl) (dbgDenied_rest s)
@[simp] theorem dbgDenied_perst (s : State) : (s.dbgDenied).perst = s.perst := of_rest State.perst (fun _ => rfl) (dbgDenied_rest s)
@[simp] theorem dbgDenied_domOn (s : State) : (s.dbgDenied).domOn = s.domOn := of_rest State.domOn (fun _ => rfl) (dbgDenied_rest s)
@[simp] theorem dbgDenied_domBusy (s : State) : (s.dbgDenied).domBusy = s.domBusy := of_rest State.domBusy (fun _ => rfl) (dbgDenied_rest s)
@[simp] theorem dbgDenied_fuseFloorHk (s : State) : (s.dbgDenied).fuseFloorHk = s.fuseFloorHk := of_rest State.fuseFloorHk (fun _ => rfl) (dbgDenied_rest s)
@[simp] theorem dbgDenied_fuseSub (s : State) : (s.dbgDenied).fuseSub = s.fuseSub := of_rest State.fuseSub (fun _ => rfl) (dbgDenied_rest s)
@[simp] theorem dbgDenied_fuseSeg (s : State) : (s.dbgDenied).fuseSeg = s.fuseSeg := of_rest State.fuseSeg (fun _ => rfl) (dbgDenied_rest s)
@[simp] theorem dbgDenied_refAt (s : State) : (s.dbgDenied).refAt = s.refAt := of_rest State.refAt (fun _ => rfl) (dbgDenied_rest s)
@[simp] theorem dbgDenied_refBack (s : State) : (s.dbgDenied).refBack = s.refBack := of_rest State.refBack (fun _ => rfl) (dbgDenied_rest s)
@[simp] theorem dbgDenied_bar4Gib (s : State) : (s.dbgDenied).bar4Gib = s.bar4Gib := of_rest State.bar4Gib (fun _ => rfl) (dbgDenied_rest s)
@[simp] theorem dbgDenied_clrPin (s : State) : (s.dbgDenied).clrPin = s.clrPin := of_rest State.clrPin (fun _ => rfl) (dbgDenied_rest s)
@[simp] theorem dbgDenied_dpTicks (s : State) : (s.dbgDenied).dpTicks = s.dpTicks := of_rest State.dpTicks (fun _ => rfl) (dbgDenied_rest s)
@[simp] theorem dbgDenied_tb (s : State) : (s.dbgDenied).tb = s.tb := of_rest State.tb (fun _ => rfl) (dbgDenied_rest s)
@[simp] theorem dbgDenied_line (s : State) : (s.dbgDenied).line = s.line := of_rest State.line (fun _ => rfl) (dbgDenied_rest s)
@[simp] theorem dbgDenied_host (s : State) : (s.dbgDenied).host = s.host := of_rest State.host (fun _ => rfl) (dbgDenied_rest s)
@[simp] theorem dbgDenied_engines (s : State) : (s.dbgDenied).engines = s.engines := of_rest State.engines (fun _ => rfl) (dbgDenied_rest s)
@[simp] theorem dbgDenied_prims (s : State) : (s.dbgDenied).prims = s.prims := of_rest State.prims (fun _ => rfl) (dbgDenied_rest s)
@[simp] theorem dbgDenied_sram (s : State) : (s.dbgDenied).sram = s.sram := of_rest State.sram (fun _ => rfl) (dbgDenied_rest s)
@[simp] theorem dbgDenied_portTsu (s : State) : (s.dbgDenied).portTsu = s.portTsu := of_rest State.portTsu (fun _ => rfl) (dbgDenied_rest s)
@[simp] theorem dbgDenied_laneTsu (s : State) : (s.dbgDenied).laneTsu = s.laneTsu := of_rest State.laneTsu (fun _ => rfl) (dbgDenied_rest s)
@[simp] theorem dbgDenied_tpi (s : State) : (s.dbgDenied).tpi = s.tpi := of_rest State.tpi (fun _ => rfl) (dbgDenied_rest s)
@[simp] theorem dbgDenied_tbStep (s : State) : (s.dbgDenied).tbStep = s.tbStep := of_rest State.tbStep (fun _ => rfl) (dbgDenied_rest s)
@[simp] theorem dbgDenied_tpoIssued (s : State) : (s.dbgDenied).tpoIssued = s.tpoIssued := of_rest State.tpoIssued (fun _ => rfl) (dbgDenied_rest s)
@[simp] theorem dbgDenied_sched (s : State) : (s.dbgDenied).sched = s.sched := of_rest State.sched (fun _ => rfl) (dbgDenied_rest s)
@[simp] theorem dbgDenied_fog (s : State) : (s.dbgDenied).fog = s.fog := of_rest State.fog (fun _ => rfl) (dbgDenied_rest s)
@[simp] theorem dbgDenied_twin (s : State) : (s.dbgDenied).twin = s.twin := of_rest State.twin (fun _ => rfl) (dbgDenied_rest s)
@[simp] theorem dbgDenied_hk (s : State) : (s.dbgDenied).hk = s.hk := of_rest State.hk (fun _ => rfl) (dbgDenied_rest s)
@[simp] theorem dbgDenied_hdac (s : State) : (s.dbgDenied).hdac = s.hdac := of_rest State.hdac (fun _ => rfl) (dbgDenied_rest s)
@[simp] theorem dbgDenied_fcoef (s : State) : (s.dbgDenied).fcoef = s.fcoef := of_rest State.fcoef (fun _ => rfl) (dbgDenied_rest s)
@[simp] theorem dbgDenied_ddr (s : State) : (s.dbgDenied).ddr = s.ddr := of_rest State.ddr (fun _ => rfl) (dbgDenied_rest s)
@[simp] theorem dbgDenied_therm (s : State) : (s.dbgDenied).therm = s.therm := of_rest State.therm (fun _ => rfl) (dbgDenied_rest s)
@[simp] theorem dbgDenied_pwr (s : State) : (s.dbgDenied).pwr = s.pwr := of_rest State.pwr (fun _ => rfl) (dbgDenied_rest s)
@[simp] theorem dbgDenied_dma (s : State) : (s.dbgDenied).dma = s.dma := of_rest State.dma (fun _ => rfl) (dbgDenied_rest s)
@[simp] theorem dbgDenied_tap (s : State) : (s.dbgDenied).tap = s.tap := of_rest State.tap (fun _ => rfl) (dbgDenied_rest s)
@[simp] theorem dbgDenied_log (s : State) : (s.dbgDenied).log = s.log := of_rest State.log (fun _ => rfl) (dbgDenied_rest s)
@[simp] theorem dbgDenied_fuse (s : State) : (s.dbgDenied).fuse = s.fuse := of_rest State.fuse (fun _ => rfl) (dbgDenied_rest s)
@[simp] theorem dbgDenied_flash (s : State) : (s.dbgDenied).flash = s.flash := of_rest State.flash (fun _ => rfl) (dbgDenied_rest s)
@[simp] theorem dbgDenied_dbg (s : State) : (s.dbgDenied).dbg = s.dbg := of_rest State.dbg (fun _ => rfl) (dbgDenied_rest s)
@[simp] theorem dbgDenied_cfgv (s : State) : (s.dbgDenied).cfgv = s.cfgv := of_rest State.cfgv (fun _ => rfl) (dbgDenied_rest s)
@[simp] theorem dbgDenied_bist (s : State) : (s.dbgDenied).bist = s.bist := of_rest State.bist (fun _ => rfl) (dbgDenied_rest s)
@[simp] theorem dbgDenied_sweepAt (s : State) : (s.dbgDenied).sweepAt = s.sweepAt := of_rest State.sweepAt (fun _ => rfl) (dbgDenied_rest s)
@[simp] theorem dbgDenied_sweepLap (s : State) : (s.dbgDenied).sweepLap = s.sweepLap := of_rest State.sweepLap (fun _ => rfl) (dbgDenied_rest s)
@[simp] theorem dbgDenied_portMon (s : State) : (s.dbgDenied).portMon = s.portMon := of_rest State.portMon (fun _ => rfl) (dbgDenied_rest s)
@[simp] theorem dbgDenied_free (s : State) : (s.dbgDenied).free = s.free := of_rest State.free (fun _ => rfl) (dbgDenied_rest s)
@[simp] theorem dbgDenied_domReady (s : State) (d : Nat) : (s.dbgDenied).domReady d = s.domReady d := of_rest (domReady · d) (fun _ => rfl) (dbgDenied_rest s)
@[simp] theorem dbgDenied_reach (s : State) (b2 : Nat) : (s.dbgDenied).reach b2 = s.reach b2 := of_rest (reach · b2) (fun _ => rfl) (dbgDenied_rest s)

/-! ### sendEdges: the fields that stay -/

@[simp] theorem sendEdges_pending (old s : State) : (sendEdges old s).pending = s.pending := of_rest State.pending (fun _ => rfl) (sendEdges_rest old s)
@[simp] theorem sendEdges_shadows (old s : State) : (sendEdges old s).shadows = s.shadows := of_rest State.shadows (fun _ => rfl) (sendEdges_rest old s)
@[simp] theorem sendEdges_used (old s : State) : (sendEdges old s).used = s.used := of_rest State.used (fun _ => rfl) (sendEdges_rest old s)
@[simp] theorem sendEdges_latched (old s : State) : (sendEdges old s).latched = s.latched := of_rest State.latched (fun _ => rfl) (sendEdges_rest old s)
@[simp] theorem sendEdges_pairBad (old s : State) : (sendEdges old s).pairBad = s.pairBad := of_rest State.pairBad (fun _ => rfl) (sendEdges_rest old s)
@[simp] theorem sendEdges_intEn (old s : State) : (sendEdges old s).intEn = s.intEn := of_rest State.intEn (fun _ => rfl) (sendEdges_rest old s)
@[simp] theorem sendEdges_parBad (old s : State) : (sendEdges old s).parBad = s.parBad := of_rest State.parBad (fun _ => rfl) (sendEdges_rest old s)
@[simp] theorem sendEdges_parSeen (old s : State) : (sendEdges old s).parSeen = s.parSeen := of_rest State.parSeen (fun _ => rfl) (sendEdges_rest old s)
@[simp] theorem sendEdges_intnCopy (old s : State) : (sendEdges old s).intnCopy = s.intnCopy := of_rest State.intnCopy (fun _ => rfl) (sendEdges_rest old s)
@[simp] theorem sendEdges_hold (old s : State) : (sendEdges old s).hold = s.hold := of_rest State.hold (fun _ => rfl) (sendEdges_rest old s)
@[simp] theorem sendEdges_i2c (old s : State) : (sendEdges old s).i2c = s.i2c := of_rest State.i2c (fun _ => rfl) (sendEdges_rest old s)
@[simp] theorem sendEdges_msix (old s : State) : (sendEdges old s).msix = s.msix := of_rest State.msix (fun _ => rfl) (sendEdges_rest old s)
@[simp] theorem sendEdges_msixEn (old s : State) : (sendEdges old s).msixEn = s.msixEn := of_rest State.msixEn (fun _ => rfl) (sendEdges_rest old s)
@[simp] theorem sendEdges_busMaster (old s : State) : (sendEdges old s).busMaster = s.busMaster := of_rest State.busMaster (fun _ => rfl) (sendEdges_rest old s)
@[simp] theorem sendEdges_d3hot (old s : State) : (sendEdges old s).d3hot = s.d3hot := of_rest State.d3hot (fun _ => rfl) (sendEdges_rest old s)
@[simp] theorem sendEdges_inReset (old s : State) : (sendEdges old s).inReset = s.inReset := of_rest State.inReset (fun _ => rfl) (sendEdges_rest old s)
@[simp] theorem sendEdges_held (old s : State) : (sendEdges old s).held = s.held := of_rest State.held (fun _ => rfl) (sendEdges_rest old s)
@[simp] theorem sendEdges_perst (old s : State) : (sendEdges old s).perst = s.perst := of_rest State.perst (fun _ => rfl) (sendEdges_rest old s)
@[simp] theorem sendEdges_domOn (old s : State) : (sendEdges old s).domOn = s.domOn := of_rest State.domOn (fun _ => rfl) (sendEdges_rest old s)
@[simp] theorem sendEdges_domBusy (old s : State) : (sendEdges old s).domBusy = s.domBusy := of_rest State.domBusy (fun _ => rfl) (sendEdges_rest old s)
@[simp] theorem sendEdges_fuseFloorHk (old s : State) : (sendEdges old s).fuseFloorHk = s.fuseFloorHk := of_rest State.fuseFloorHk (fun _ => rfl) (sendEdges_rest old s)
@[simp] theorem sendEdges_fuseSub (old s : State) : (sendEdges old s).fuseSub = s.fuseSub := of_rest State.fuseSub (fun _ => rfl) (sendEdges_rest old s)
@[simp] theorem sendEdges_fuseSeg (old s : State) : (sendEdges old s).fuseSeg = s.fuseSeg := of_rest State.fuseSeg (fun _ => rfl) (sendEdges_rest old s)
@[simp] theorem sendEdges_refAt (old s : State) : (sendEdges old s).refAt = s.refAt := of_rest State.refAt (fun _ => rfl) (sendEdges_rest old s)
@[simp] theorem sendEdges_refBack (old s : State) : (sendEdges old s).refBack = s.refBack := of_rest State.refBack (fun _ => rfl) (sendEdges_rest old s)
@[simp] theorem sendEdges_bar4Gib (old s : State) : (sendEdges old s).bar4Gib = s.bar4Gib := of_rest State.bar4Gib (fun _ => rfl) (sendEdges_rest old s)
@[simp] theorem sendEdges_clrPin (old s : State) : (sendEdges old s).clrPin = s.clrPin := of_rest State.clrPin (fun _ => rfl) (sendEdges_rest old s)
@[simp] theorem sendEdges_dpTicks (old s : State) : (sendEdges old s).dpTicks = s.dpTicks := of_rest State.dpTicks (fun _ => rfl) (sendEdges_rest old s)
@[simp] theorem sendEdges_tb (old s : State) : (sendEdges old s).tb = s.tb := of_rest State.tb (fun _ => rfl) (sendEdges_rest old s)
@[simp] theorem sendEdges_line (old s : State) : (sendEdges old s).line = s.line := of_rest State.line (fun _ => rfl) (sendEdges_rest old s)
@[simp] theorem sendEdges_host (old s : State) : (sendEdges old s).host = s.host := of_rest State.host (fun _ => rfl) (sendEdges_rest old s)
@[simp] theorem sendEdges_engines (old s : State) : (sendEdges old s).engines = s.engines := of_rest State.engines (fun _ => rfl) (sendEdges_rest old s)
@[simp] theorem sendEdges_prims (old s : State) : (sendEdges old s).prims = s.prims := of_rest State.prims (fun _ => rfl) (sendEdges_rest old s)
@[simp] theorem sendEdges_sram (old s : State) : (sendEdges old s).sram = s.sram := of_rest State.sram (fun _ => rfl) (sendEdges_rest old s)
@[simp] theorem sendEdges_portTsu (old s : State) : (sendEdges old s).portTsu = s.portTsu := of_rest State.portTsu (fun _ => rfl) (sendEdges_rest old s)
@[simp] theorem sendEdges_laneTsu (old s : State) : (sendEdges old s).laneTsu = s.laneTsu := of_rest State.laneTsu (fun _ => rfl) (sendEdges_rest old s)
@[simp] theorem sendEdges_tpi (old s : State) : (sendEdges old s).tpi = s.tpi := of_rest State.tpi (fun _ => rfl) (sendEdges_rest old s)
@[simp] theorem sendEdges_tbStep (old s : State) : (sendEdges old s).tbStep = s.tbStep := of_rest State.tbStep (fun _ => rfl) (sendEdges_rest old s)
@[simp] theorem sendEdges_tpoIssued (old s : State) : (sendEdges old s).tpoIssued = s.tpoIssued := of_rest State.tpoIssued (fun _ => rfl) (sendEdges_rest old s)
@[simp] theorem sendEdges_sched (old s : State) : (sendEdges old s).sched = s.sched := of_rest State.sched (fun _ => rfl) (sendEdges_rest old s)
@[simp] theorem sendEdges_fog (old s : State) : (sendEdges old s).fog = s.fog := of_rest State.fog (fun _ => rfl) (sendEdges_rest old s)
@[simp] theorem sendEdges_twin (old s : State) : (sendEdges old s).twin = s.twin := of_rest State.twin (fun _ => rfl) (sendEdges_rest old s)
@[simp] theorem sendEdges_hk (old s : State) : (sendEdges old s).hk = s.hk := of_rest State.hk (fun _ => rfl) (sendEdges_rest old s)
@[simp] theorem sendEdges_hdac (old s : State) : (sendEdges old s).hdac = s.hdac := of_rest State.hdac (fun _ => rfl) (sendEdges_rest old s)
@[simp] theorem sendEdges_fcoef (old s : State) : (sendEdges old s).fcoef = s.fcoef := of_rest State.fcoef (fun _ => rfl) (sendEdges_rest old s)
@[simp] theorem sendEdges_ddr (old s : State) : (sendEdges old s).ddr = s.ddr := of_rest State.ddr (fun _ => rfl) (sendEdges_rest old s)
@[simp] theorem sendEdges_therm (old s : State) : (sendEdges old s).therm = s.therm := of_rest State.therm (fun _ => rfl) (sendEdges_rest old s)
@[simp] theorem sendEdges_pwr (old s : State) : (sendEdges old s).pwr = s.pwr := of_rest State.pwr (fun _ => rfl) (sendEdges_rest old s)
@[simp] theorem sendEdges_dma (old s : State) : (sendEdges old s).dma = s.dma := of_rest State.dma (fun _ => rfl) (sendEdges_rest old s)
@[simp] theorem sendEdges_tap (old s : State) : (sendEdges old s).tap = s.tap := of_rest State.tap (fun _ => rfl) (sendEdges_rest old s)
@[simp] theorem sendEdges_log (old s : State) : (sendEdges old s).log = s.log := of_rest State.log (fun _ => rfl) (sendEdges_rest old s)
@[simp] theorem sendEdges_fuse (old s : State) : (sendEdges old s).fuse = s.fuse := of_rest State.fuse (fun _ => rfl) (sendEdges_rest old s)
@[simp] theorem sendEdges_flash (old s : State) : (sendEdges old s).flash = s.flash := of_rest State.flash (fun _ => rfl) (sendEdges_rest old s)
@[simp] theorem sendEdges_dbg (old s : State) : (sendEdges old s).dbg = s.dbg := of_rest State.dbg (fun _ => rfl) (sendEdges_rest old s)
@[simp] theorem sendEdges_cfgv (old s : State) : (sendEdges old s).cfgv = s.cfgv := of_rest State.cfgv (fun _ => rfl) (sendEdges_rest old s)
@[simp] theorem sendEdges_bist (old s : State) : (sendEdges old s).bist = s.bist := of_rest State.bist (fun _ => rfl) (sendEdges_rest old s)
@[simp] theorem sendEdges_sweepAt (old s : State) : (sendEdges old s).sweepAt = s.sweepAt := of_rest State.sweepAt (fun _ => rfl) (sendEdges_rest old s)
@[simp] theorem sendEdges_sweepLap (old s : State) : (sendEdges old s).sweepLap = s.sweepLap := of_rest State.sweepLap (fun _ => rfl) (sendEdges_rest old s)
@[simp] theorem sendEdges_portMon (old s : State) : (sendEdges old s).portMon = s.portMon := of_rest State.portMon (fun _ => rfl) (sendEdges_rest old s)
@[simp] theorem sendEdges_free (old s : State) : (sendEdges old s).free = s.free := of_rest State.free (fun _ => rfl) (sendEdges_rest old s)

end State
end Sys2Proof.Machine
end

