-- ==== Sys2Proof/Laws/Still.lean ====
section
/-! SUPPORT. What every operation of the model leaves alone: one lemma per operation, in the order in which they call each
other. A proof that no register access, no event of a unit and no engine changes the queue, the pins, the power domains or
the fuses cites these and unfolds nothing. -/

namespace Sys2Proof.Machine
namespace State

/-- The fields that no register access and no event of a unit changes: the queue, the pins, the power domains, the fuses and
their marks, the clocks and time bases, the configuration bits of the PCIe function, the I2C window and the sweep
position. -/
def still (s : State) : State :=
  { ({} : State) with
    pending := s.pending
    inReset := s.inReset
    held := s.held
    perst := s.perst
    clrPin := s.clrPin
    domOn := s.domOn
    fuseFloorHk := s.fuseFloorHk
    fuseSub := s.fuseSub
    fuseSeg := s.fuseSeg
    refAt := s.refAt
    refBack := s.refBack
    bar4Gib := s.bar4Gib
    dpTicks := s.dpTicks
    tb := s.tb
    msixEn := s.msixEn
    busMaster := s.busMaster
    d3hot := s.d3hot
    i2c := s.i2c
    sweepAt := s.sweepAt
    sweepLap := s.sweepLap
    fuse := s.fuse }

/-- The same fields without the fuses' contents, for the operations that program fuses. -/
def unfused (s : State) : State := { s with fuse := {} }

/-- What reads only fields that stay is the same in states that agree on them. -/
theorem of_still {α : Type} (p : State → α) (hp : ∀ s, p s.still = p s) {s t : State} (h : s.still = t.still) : p s = p t := by
  rw [← hp s, h, hp t]

/-- The same without the fuses. -/
theorem of_unfused {α : Type} (p : State → α) (hp : ∀ s, p s.still.unfused = p s) {s t : State}
    (h : s.still.unfused = t.still.unfused) : p s = p t := by
  rw [← hp s, h, hp t]

theorem still_mk (A : State) (x1 x2 x3 x4 x5 x6 x7 x8 x9 x10 x11 x13 x14 x22 x32 x33 x34 x35 x36 x37 x38 x39 x40 x41 x42 x43 x44 x45 x46 x47 x48 x49 x50 x51 x52 x53 x55 x56 x57 x58 x61 x62 x63) :
    still (State.mk (A.pending) x1 x2 x3 x4 x5 x6 x7 x8 x9 x10 x11 (A.i2c) x13 x14 (A.msixEn) (A.busMaster) (A.d3hot) (A.inReset) (A.held) (A.perst) (A.domOn) x22 (A.fuseFloorHk) (A.fuseSub) (A.fuseSeg) (A.refAt) (A.refBack) (A.bar4Gib) (A.clrPin) (A.dpTicks) (A.tb) x32 x33 x34 x35 x36 x37 x38 x39 x40 x41 x42 x43 x44 x45 x46 x47 x48 x49 x50 x51 x52 x53 (A.fuse) x55 x56 x57 x58 (A.sweepAt) (A.sweepLap) x61 x62 x63) = still A := by
  simp only [still]

theorem unfused_mk (A : State) (x1 x2 x3 x4 x5 x6 x7 x8 x9 x10 x11 x13 x14 x22 x32 x33 x34 x35 x36 x37 x38 x39 x40 x41 x42 x43 x44 x45 x46 x47 x48 x49 x50 x51 x52 x53 x54 x55 x56 x57 x58 x61 x62 x63) :
    (still (State.mk (A.pending) x1 x2 x3 x4 x5 x6 x7 x8 x9 x10 x11 (A.i2c) x13 x14 (A.msixEn) (A.busMaster) (A.d3hot) (A.inReset) (A.held) (A.perst) (A.domOn) x22 (A.fuseFloorHk) (A.fuseSub) (A.fuseSeg) (A.refAt) (A.refBack) (A.bar4Gib) (A.clrPin) (A.dpTicks) (A.tb) x32 x33 x34 x35 x36 x37 x38 x39 x40 x41 x42 x43 x44 x45 x46 x47 x48 x49 x50 x51 x52 x53 x54 x55 x56 x57 x58 (A.sweepAt) (A.sweepLap) x61 x62 x63)).unfused = (still A).unfused := by
  simp only [still, unfused]

theorem still_ite (c : Prop) [Decidable c] (a b : State) : still (if c then a else b) = if c then still a else still b :=
  apply_ite still c a b

theorem unfused_ite (c : Prop) [Decidable c] (a b : State) :
    unfused (if c then a else b) = if c then unfused a else unfused b :=
  apply_ite unfused c a b

theorem still_dite (c : Prop) [Decidable c] (a : c → State) (b : ¬c → State) :
    still (if h : c then a h else b h) = if h : c then still (a h) else still (b h) := by
  split <;> rfl

theorem ite_eq_of {α : Type} {c : Prop} [Decidable c] {a b x : α} (h1 : a = x) (h2 : b = x) : (if c then a else b) = x := by
  split
  · exact h1
  · exact h2

theorem still_foldl {α : Type} (g : State → α → State) (h : ∀ s x, still (g s x) = still s) (l : List α) (s : State) :
    still (l.foldl g s) = still s :=
  foldl_keeps still g l (fun s x _ => h s x) s

theorem unfused_foldl {α : Type} (g : State → α → State) (h : ∀ s x, (still (g s x)).unfused = (still s).unfused)
    (l : List α) (s : State) : (still (l.foldl g s)).unfused = (still s).unfused :=
  foldl_keeps (fun s => (still s).unfused) g l (fun s x _ => h s x) s

theorem still_foldl_snd {α β : Type} (g : β × State → α → β × State) (h : ∀ r x, still (g r x).2 = still r.2) (l : List α)
    (r : β × State) : still (l.foldl g r).2 = still r.2 := by
  induction l generalizing r with
  | nil => rfl
  | cons a t ih => rw [List.foldl_cons, ih, h]

theorem still_foldl_fst {α β : Type} (g : State × β → α → State × β) (h : ∀ r x, still (g r x).1 = still r.1) (l : List α)
    (r : State × β) : still (l.foldl g r).1 = still r.1 := by
  induction l generalizing r with
  | nil => rfl
  | cons a t ih => rw [List.foldl_cons, ih, h]

theorem unfused_foldl_snd {α β : Type} (g : β × State → α → β × State)
    (h : ∀ r x, (still (g r x).2).unfused = (still r.2).unfused) (l : List α) (r : β × State) :
    (still (l.foldl g r).2).unfused = (still r.2).unfused := by
  induction l generalizing r with
  | nil => rfl
  | cons a t ih => rw [List.foldl_cons, ih, h]

theorem still_foldl_snd2 {α β γ : Type} (g : β × γ × State → α → β × γ × State)
    (h : ∀ r x, still (g r x).2.2 = still r.2.2) (l : List α) (r : β × γ × State) :
    still (l.foldl g r).2.2 = still r.2.2 := by
  induction l generalizing r with
  | nil => rfl
  | cons a t ih => rw [List.foldl_cons, ih, h]

theorem foldl_fix {α β γ : Type} (p : β → γ) (g : β → α → β) (l : List α) (h : ∀ b a, p (g b a) = p b) (b : β) :
    p (l.foldl g b) = p b := by
  induction l generalizing b with
  | nil => rfl
  | cons a t ih => rw [List.foldl_cons, ih, h]

theorem ite_fold {c : Prop} [Decidable c] {a b : State} {x : State} (h1 : a.still.unfused = x)
    (h2 : b.still.unfused = x) : (if c then a else b).still.unfused = x := by
  split
  · exact h1
  · exact h2

theorem setReg_still (a0 a1 a2 a3) :
    (State.setReg a0 a1 a2 a3).still = a0.still := by
  unfold State.setReg
  simp only [↓still_mk]

theorem stampEvt_still (a0 a1) :
    (State.stampEvt a0 a1).still = a0.still := by
  unfold State.stampEvt
  simp only [↓setReg_still, ↓still_mk, ↓still_ite, ite_self]

theorem setIntStat_still (a0 a1 a2) :
    (State.setIntStat a0 a1 a2).still = a0.still := by
  unfold State.setIntStat
  simp only [↓still_mk]

theorem raiseMask_still (a0 a1 a2) :
    (State.raiseMask a0 a1 a2).still = a0.still := by
  unfold State.raiseMask
  simp only [↓stampEvt_still, ↓setIntStat_still, ↓still_mk, ↓still_ite, ite_self]

theorem raise_still (a0 a1 a2) :
    (State.raise a0 a1 a2).still = a0.still := by
  unfold State.raise
  simp only [↓raiseMask_still]

theorem setF_still (a0 a1 a2 a3) :
    (State.setF a0 a1 a2 a3).still = a0.still := by
  unfold State.setF
  simp only [↓setReg_still]

theorem flag_still (a0 a1 a2 a3) :
    (State.flag a0 a1 a2 a3).still = a0.still := by
  unfold State.flag
  simp only [↓raise_still, ↓setF_still]

theorem accErr_still (a0 a1 a2 a3 a4) :
    (State.accErr a0 a1 a2 a3 a4).still = a0.still := by
  unfold State.accErr
  simp only [↓flag_still, ↓setReg_still, ↓setF_still, ↓still_mk, ↓still_ite, ite_self]

theorem setB_still (a0 a1 a2 a3) :
    (State.setB a0 a1 a2 a3).still = a0.still := by
  unfold State.setB
  simp only [↓setF_still]

theorem countSat_still (a0 a1 a2 a3) :
    (State.countSat a0 a1 a2 a3).still = a0.still := by
  unfold State.countSat
  simp only [↓setF_still]

theorem offRecord_still (a0 a1 a2 a3) :
    (State.offRecord a0 a1 a2 a3).still = a0.still := by
  unfold State.offRecord
  simp only [↓setF_still, ↓setB_still, ↓countSat_still, ↓flag_still, ↓still_mk, ↓still_ite, ite_self]

theorem access_still (a0 a1 a2 a3 a4) (ha4 : ∀ s, (a4 s).still = s.still) :
    (State.access a0 a1 a2 a3 a4).still = a0.still := by
  unfold State.access
  simp only [↓ha4, ↓offRecord_still, ↓still_mk, ↓still_ite, ite_self]

theorem access_unfused (a0 a1 a2 a3 a4) (ha4 : ∀ s, (a4 s).still.unfused = s.still.unfused) :
    (State.access a0 a1 a2 a3 a4).still.unfused = a0.still.unfused := by
  unfold State.access
  simp only [↓ha4, ↓offRecord_still, ↓unfused_mk, ↓still_mk, ↓still_ite, ↓unfused_ite, ite_self]

theorem perf_still (a0 a1 a2 a3) :
    (State.perf a0 a1 a2 a3).still = a0.still := by
  unfold State.perf
  repeat' (first
    | (simp only [↓setReg_still, ↓raise_still, ↓still_mk, ↓still_ite, ite_self, ↓still_dite, dite_eq_ite, ↓apply_ite
        Prod.snd, ↓apply_ite Prod.fst, ↓still_foldl]; done)
    | (with_reducible refine (still_foldl _ (fun s x => ?_) _ _).trans ?_)
    | (with_reducible refine (still_foldl_snd _ (fun r x => ?_) _ _).trans ?_)
    | (with_reducible refine (still_foldl_fst _ (fun r x => ?_) _ _).trans ?_)
    | (with_reducible refine (still_foldl_snd2 _ (fun r x => ?_) _ _).trans ?_)
    | (simp only [↓setReg_still, ↓raise_still, ↓still_mk, ↓still_ite, ite_self, ↓still_dite, dite_eq_ite, ↓apply_ite
        Prod.snd, ↓apply_ite Prod.fst, ↓still_foldl])
    | (with_reducible refine ite_eq_of ?_ ?_)
    | split)

theorem tlp_still (a0 a1 a2) :
    (State.tlp a0 a1 a2).still = a0.still := by
  unfold State.tlp
  simp only [↓perf_still]

theorem heard_still (a0 a1) :
    (State.heard a0 a1).still = a0.still := by
  unfold State.heard
  simp only [↓tlp_still, ↓still_mk, ↓still_ite, ite_self]

theorem dbgDenied_still (a0) :
    (State.dbgDenied a0).still = a0.still := by
  unfold State.dbgDenied
  simp only [↓flag_still, ↓still_mk, ↓still_ite, ite_self]

theorem accessBy_still (a0 a1 a2 a3 a4 a5) (ha5 : ∀ s, (a5 s).still = s.still) :
    (State.accessBy a0 a1 a2 a3 a4 a5).still = a0.still := by
  unfold State.accessBy
  repeat' (first
    | (simp only [↓ha5, ↓heard_still, ↓access_still, ↓dbgDenied_still, ↓still_mk, ↓still_ite, ite_self, ↓still_dite,
        dite_eq_ite, ↓apply_ite Prod.snd, ↓apply_ite Prod.fst, ↓still_foldl]; done)
    | (with_reducible refine (still_foldl _ (fun s x => ?_) _ _).trans ?_)
    | (with_reducible refine (still_foldl_snd _ (fun r x => ?_) _ _).trans ?_)
    | (with_reducible refine (still_foldl_fst _ (fun r x => ?_) _ _).trans ?_)
    | (with_reducible refine (still_foldl_snd2 _ (fun r x => ?_) _ _).trans ?_)
    | (simp only [↓ha5, ↓heard_still, ↓access_still, ↓dbgDenied_still, ↓still_mk, ↓still_ite, ite_self, ↓still_dite,
        dite_eq_ite, ↓apply_ite Prod.snd, ↓apply_ite Prod.fst, ↓still_foldl])
    | (with_reducible refine (access_still _ _ _ _ _ (fun s => ?_)).trans ?_)
    | (with_reducible refine ite_eq_of ?_ ?_)
    | split)

theorem accessBy_unfused (s : State) (q : Requester) (b off : Nat) (w : Bool) (k : State → State)
    (h : ∀ s, (k s).still.unfused = s.still.unfused) : (s.accessBy q b off w k).still.unfused = s.still.unfused := by
  unfold accessBy
  refine ite_fold ((access_unfused _ _ _ _ _ h).trans ?_) ?_
  · rw [heard_still]
  · rw [dbgDenied_still, heard_still]

theorem setLtsu_still (a0 a1 a2) :
    (State.setLtsu a0 a1 a2).still = a0.still := by
  unfold State.setLtsu
  simp only [↓still_mk]

theorem laneEvent_still (a0 a1 a2) :
    (State.laneEvent a0 a1 a2).still = a0.still := by
  unfold State.laneEvent
  simp only [↓raise_still, ↓setReg_still, ↓setLtsu_still, ↓still_mk, ↓still_ite, ite_self]

theorem rxBankUse_still (a0 a1 a2) :
    (State.rxBankUse a0 a1 a2).still = a0.still := by
  unfold State.rxBankUse
  simp only [↓laneEvent_still, ↓setF_still, ↓still_mk, ↓still_ite, ite_self]

theorem squelch_still (a0 a1) :
    (State.squelch a0 a1).still = a0.still := by
  unfold State.squelch
  simp only [↓setB_still, ↓setF_still, ↓raise_still, ↓still_mk, ↓still_ite, ite_self]

theorem pdApply_still (a0 a1) :
    (State.pdApply a0 a1).still = a0.still := by
  unfold State.pdApply
  simp only [↓setB_still, ↓setF_still, ↓raise_still, ↓still_mk, ↓still_ite, ite_self]

theorem setEng_still (a0 a1 a2) :
    (State.setEng a0 a1 a2).still = a0.still := by
  unfold State.setEng
  simp only [↓still_mk]

theorem modEng_still (a0 a1 a2) :
    (State.modEng a0 a1 a2).still = a0.still := by
  unfold State.modEng
  simp only [↓setEng_still]

theorem bankChanged_still (a0 a1) :
    (State.bankChanged a0 a1).still = a0.still := by
  unfold State.bankChanged
  simp only [↓modEng_still, ↓still_mk, ↓still_ite, ite_self]

theorem send_still (a0 a1) :
    (State.send a0 a1).still = a0.still := by
  unfold State.send
  simp only [↓still_mk]

theorem tpoDrive_still (a0 a1 a2) :
    (State.tpoDrive a0 a1 a2).still = a0.still := by
  unfold State.tpoDrive
  simp only [↓send_still, ↓setB_still, ↓still_mk, ↓still_ite, ite_self]

theorem tpoApply_still (a0 a1) :
    (State.tpoApply a0 a1).still = a0.still := by
  unfold State.tpoApply
  simp only [↓tpoDrive_still, ↓still_mk]

theorem hkShowGdly_still (a0 a1) :
    (State.hkShowGdly a0 a1).still = a0.still := by
  unfold State.hkShowGdly
  simp only [↓setReg_still]

theorem setHkc_still (a0 a1 a2) :
    (State.setHkc a0 a1 a2).still = a0.still := by
  unfold State.setHkc
  simp only [↓still_mk]

theorem hkStartVisit_still (a0 a1 a2) :
    (State.hkStartVisit a0 a1 a2).still = a0.still := by
  unfold State.hkStartVisit
  simp only [↓setF_still, ↓hkShowGdly_still, ↓setHkc_still]

theorem hkRestart_still (a0 a1) :
    (State.hkRestart a0 a1).still = a0.still := by
  unfold State.hkRestart
  simp only [↓hkStartVisit_still, ↓setHkc_still, ↓still_mk, ↓still_ite, ite_self]

theorem hkSlotChanged_still (a0 a1 a2 a3) :
    (State.hkSlotChanged a0 a1 a2 a3).still = a0.still := by
  unfold State.hkSlotChanged
  simp only [↓hkRestart_still, ↓still_mk, ↓still_ite, ite_self]

theorem filtChanged_still (a0 a1) :
    (State.filtChanged a0 a1).still = a0.still := by
  unfold State.filtChanged
  simp only [↓setHkc_still, ↓hkShowGdly_still, ↓still_mk, ↓still_ite, ite_self]

theorem setStream_still (a0 a1 a2) :
    (State.setStream a0 a1 a2).still = a0.still := by
  unfold State.setStream
  simp only [↓still_mk]

theorem hdacOut_still (a0 a1 a2) :
    (State.hdacOut a0 a1 a2).still = a0.still := by
  unfold State.hdacOut
  simp only [↓send_still, ↓setF_still, ↓still_mk, ↓still_ite, ite_self]

theorem hdacChange_still (a0 a1) :
    (State.hdacChange a0 a1).still = a0.still := by
  unfold State.hdacChange
  simp only [↓hdacOut_still, ↓setF_still]

theorem hdacCtlChanged_still (a0 a1 a2) :
    (State.hdacCtlChanged a0 a1 a2).still = a0.still := by
  unfold State.hdacCtlChanged
  simp only [↓setStream_still, ↓hdacChange_still, ↓still_mk, ↓still_ite, ite_self]

theorem setLane_still (a0 a1 a2) :
    (State.setLane a0 a1 a2).still = a0.still := by
  unfold State.setLane
  simp only [↓still_mk]

theorem modLane_still (a0 a1 a2) :
    (State.modLane a0 a1 a2).still = a0.still := by
  unfold State.modLane
  simp only [↓setLane_still]

theorem logRefill_still (a0) :
    (State.logRefill a0).still = a0.still := by
  unfold State.logRefill
  simp only [↓still_mk]

theorem satReg_still (a0 a1 a2 a3) :
    (State.satReg a0 a1 a2 a3).still = a0.still := by
  unfold State.satReg
  simp only [↓setReg_still]

theorem count32_still (a0 a1 a2 a3) :
    (State.count32 a0 a1 a2 a3).1.still = a0.still := by
  unfold State.count32
  simp only [↓setReg_still]

theorem setSram_still (a0 a1) :
    (State.setSram a0 a1).still = a0.still := by
  unfold State.setSram
  simp only [↓still_mk]

theorem sramPoke_still (a0 a1 a2) :
    (State.sramPoke a0 a1 a2).still = a0.still := by
  unfold State.sramPoke
  simp only [↓setSram_still]

theorem logNewPage_still (s t : State) (a : Bool) (n : Nat) (h : s.logNewPage a n = some t) : t.still = s.still := by
  unfold logNewPage at h
  split at h
  · cases h; simp only [↓still_mk]
  · split at h
    · cases h
    · cases h; simp only [↓still_ite, ↓raise_still, ↓setF_still, ↓still_mk, ↓satReg_still, ite_self]

theorem logPlace_still (s : State) (a : Bool) (n : Nat) (l : List Byte) : (s.logPlace a n l).still = s.still := by
  unfold logPlace
  dsimp only
  split
  · simp only [↓still_ite, ↓satReg_still, ite_self]
  · rename_i t h
    have ht : t.still = s.still := by
      split at h
      · cases h; rfl
      · exact logNewPage_still s t a n h
    split
    · exact ht
    · simp only [↓still_mk, ↓sramPoke_still, ht]

theorem logRecord_still (a0 a1) :
    (State.logRecord a0 a1).still = a0.still := by
  unfold State.logRecord
  simp only [↓logRefill_still, ↓satReg_still, ↓perf_still, ↓raise_still, ↓count32_still, ↓flag_still, ↓logPlace_still,
      ↓still_mk, ↓still_ite, ite_self]

theorem countFlag32_still (a0 a1 a2 a3 a4 a5) :
    (State.countFlag32 a0 a1 a2 a3 a4 a5).still = a0.still := by
  unfold State.countFlag32
  simp only [↓count32_still, ↓flag_still, ↓still_mk, ↓still_ite, ite_self]

theorem count48_still (a0 a1 a2 a3 a4) :
    (State.count48 a0 a1 a2 a3 a4).1.still = a0.still := by
  unfold State.count48
  simp only [↓setReg_still]

theorem countFlag48_still (a0 a1 a2 a3 a4 a5 a6) :
    (State.countFlag48 a0 a1 a2 a3 a4 a5 a6).still = a0.still := by
  unfold State.countFlag48
  simp only [↓count48_still, ↓flag_still, ↓still_mk, ↓still_ite, ite_self]

theorem portAdd_still (a0 a1 a2 a3 a4 a5 a6) :
    (State.portAdd a0 a1 a2 a3 a4 a5 a6).still = a0.still := by
  unfold State.portAdd
  repeat' (first
    | (simp only [↓countFlag48_still, ↓countFlag32_still, ↓still_mk, ↓still_ite, ite_self, ↓still_dite, dite_eq_ite,
        ↓apply_ite Prod.snd, ↓apply_ite Prod.fst, ↓still_foldl]; done)
    | (with_reducible refine (still_foldl _ (fun s x => ?_) _ _).trans ?_)
    | (with_reducible refine (still_foldl_snd _ (fun r x => ?_) _ _).trans ?_)
    | (with_reducible refine (still_foldl_fst _ (fun r x => ?_) _ _).trans ?_)
    | (with_reducible refine (still_foldl_snd2 _ (fun r x => ?_) _ _).trans ?_)
    | (simp only [↓countFlag48_still, ↓countFlag32_still, ↓still_mk, ↓still_ite, ite_self, ↓still_dite, dite_eq_ite,
        ↓apply_ite Prod.snd, ↓apply_ite Prod.fst, ↓still_foldl])
    | (with_reducible refine ite_eq_of ?_ ?_)
    | split)

theorem lineEras_still (a0 a1 a2) :
    (State.lineEras a0 a1 a2).still = a0.still := by
  unfold State.lineEras
  simp only [↓portAdd_still]

theorem chargeEras_still (a0 a1 a2) :
    (State.chargeEras a0 a1 a2).still = a0.still := by
  unfold State.chargeEras
  repeat' (first
    | (simp only [↓lineEras_still, ↓still_mk, ↓still_ite, ite_self, ↓still_dite, dite_eq_ite, ↓apply_ite Prod.snd,
        ↓apply_ite Prod.fst, ↓still_foldl]; done)
    | (with_reducible refine (still_foldl _ (fun s x => ?_) _ _).trans ?_)
    | (with_reducible refine (still_foldl_snd _ (fun r x => ?_) _ _).trans ?_)
    | (with_reducible refine (still_foldl_fst _ (fun r x => ?_) _ _).trans ?_)
    | (with_reducible refine (still_foldl_snd2 _ (fun r x => ?_) _ _).trans ?_)
    | (simp only [↓lineEras_still, ↓still_mk, ↓still_ite, ite_self, ↓still_dite, dite_eq_ite, ↓apply_ite Prod.snd,
        ↓apply_ite Prod.fst, ↓still_foldl])
    | (with_reducible refine ite_eq_of ?_ ?_)
    | split)

theorem residueEvent_still (a0 a1 a2 a3 a4 a5) :
    (State.residueEvent a0 a1 a2 a3 a4 a5).still = a0.still := by
  unfold State.residueEvent
  simp only [↓countFlag32_still, ↓countFlag48_still, ↓modLane_still, ↓chargeEras_still, ↓perf_still, ↓raise_still,
      ↓laneEvent_still, ↓logRecord_still, ↓still_mk, ↓still_ite, ite_self]

theorem ffeEvent_still (a0 a1 a2) :
    (State.ffeEvent a0 a1 a2).still = a0.still := by
  unfold State.ffeEvent
  simp only [↓residueEvent_still]

theorem mlseEvent_still (a0 a1 a2) :
    (State.mlseEvent a0 a1 a2).still = a0.still := by
  unfold State.mlseEvent
  simp only [↓residueEvent_still]

theorem injRun_still (a0 a1) :
    (State.injRun a0 a1).still = a0.still := by
  unfold State.injRun
  simp only [↓ffeEvent_still, ↓modLane_still, ↓mlseEvent_still, ↓still_mk, ↓still_ite, ite_self]

theorem applied_still (a0 a1 a2 a3) :
    (State.applied a0 a1 a2 a3).still = a1.still := by
  unfold State.applied
  split <;> simp only [↓rxBankUse_still, ↓setF_still, ↓injRun_still, ↓squelch_still, ↓pdApply_still, ↓bankChanged_still,
      ↓tpoApply_still, ↓hkSlotChanged_still, ↓filtChanged_still, ↓hdacCtlChanged_still, ↓still_mk, ↓still_ite,
      ite_self]

theorem portPeriod_still (a0 a1) :
    (State.portPeriod a0 a1).still = a0.still := by
  unfold State.portPeriod
  simp only [↓setF_still]

theorem setSe_still (a0 a1 a2) :
    (State.setSe a0 a1 a2).still = a0.still := by
  unfold State.setSe
  simp only [↓still_mk]

theorem seOff_still (a0 a1) :
    (State.seOff a0 a1).still = a0.still := by
  unfold State.seOff
  simp only [↓setSe_still]

theorem seAdvance_still (a0 a1 a2) :
    (State.seAdvance a0 a1 a2).still = a0.still := by
  unfold State.seAdvance
  simp only [↓seOff_still, ↓setSe_still, ↓still_mk, ↓still_ite, ite_self]

theorem histPush_still (a0 a1) :
    (State.histPush a0 a1).still = a0.still := by
  unfold State.histPush
  simp only [↓setReg_still, ↓flag_still, ↓still_mk, ↓still_ite, ite_self]

theorem seRecord_still (a0 a1 a2) :
    (State.seRecord a0 a1 a2).still = a0.still := by
  unfold State.seRecord
  simp only [↓setSe_still, ↓histPush_still, ↓logRecord_still, ↓raise_still, ↓still_mk, ↓still_ite, ite_self]

theorem blkReport_still (a0 a1 a2) :
    (State.blkReport a0 a1 a2).still = a0.still := by
  unfold State.blkReport
  simp only [↓raise_still, ↓setF_still]

theorem reportArmed_still (a0 a1 a2) :
    (State.reportArmed a0 a1 a2).still = a0.still := by
  unfold State.reportArmed
  repeat' (first
    | (simp only [↓blkReport_still, ↓still_mk, ↓still_ite, ite_self, ↓still_dite, dite_eq_ite, ↓apply_ite Prod.snd,
        ↓apply_ite Prod.fst, ↓still_foldl]; done)
    | (with_reducible refine (still_foldl _ (fun s x => ?_) _ _).trans ?_)
    | (with_reducible refine (still_foldl_snd _ (fun r x => ?_) _ _).trans ?_)
    | (with_reducible refine (still_foldl_fst _ (fun r x => ?_) _ _).trans ?_)
    | (with_reducible refine (still_foldl_snd2 _ (fun r x => ?_) _ _).trans ?_)
    | (simp only [↓blkReport_still, ↓still_mk, ↓still_ite, ite_self, ↓still_dite, dite_eq_ite, ↓apply_ite Prod.snd,
        ↓apply_ite Prod.fst, ↓still_foldl])
    | (with_reducible refine ite_eq_of ?_ ?_)
    | split)

theorem seSkip_still (a0 a1 a2) :
    (State.seSkip a0 a1 a2).still = a0.still := by
  unfold State.seSkip
  simp only [↓seAdvance_still, ↓seRecord_still, ↓reportArmed_still]

theorem sePassed_still (a0 a1 a2) :
    (State.sePassed a0 a1 a2).still = a0.still := by
  unfold State.sePassed
  simp only [↓seSkip_still, ↓setSe_still, ↓still_mk, ↓still_ite, ite_self]

theorem seAllPassed_still (a0 a1 a2) :
    (State.seAllPassed a0 a1 a2).still = a0.still := by
  unfold State.seAllPassed
  repeat' (first
    | (simp only [↓sePassed_still, ↓still_mk, ↓still_ite, ite_self, ↓still_dite, dite_eq_ite, ↓apply_ite Prod.snd,
        ↓apply_ite Prod.fst, ↓still_foldl]; done)
    | (with_reducible refine (still_foldl _ (fun s x => ?_) _ _).trans ?_)
    | (with_reducible refine (still_foldl_snd _ (fun r x => ?_) _ _).trans ?_)
    | (with_reducible refine (still_foldl_fst _ (fun r x => ?_) _ _).trans ?_)
    | (with_reducible refine (still_foldl_snd2 _ (fun r x => ?_) _ _).trans ?_)
    | (simp only [↓sePassed_still, ↓still_mk, ↓still_ite, ite_self, ↓still_dite, dite_eq_ite, ↓apply_ite Prod.snd,
        ↓apply_ite Prod.fst, ↓still_foldl])
    | (with_reducible refine ite_eq_of ?_ ?_)
    | split)

theorem relEnded_still (a0 a1 a2) :
    (State.relEnded a0 a1 a2).still = a0.still := by
  unfold State.relEnded
  simp only [↓still_mk]

theorem genEnded_still (a0 a1 a2) :
    (State.genEnded a0 a1 a2).still = a0.still := by
  unfold State.genEnded
  simp only [↓seAllPassed_still, ↓relEnded_still]

theorem portLeave_still (a0 a1 a2 a3 a4) :
    (State.portLeave a0 a1 a2 a3 a4).still = a0.still := by
  unfold State.portLeave
  simp only [↓setF_still, ↓raise_still, ↓genEnded_still, ↓still_mk, ↓still_ite, ite_self]

theorem portEval_still (a0 a1 a2) :
    (State.portEval a0 a1 a2).still = a0.still := by
  unfold State.portEval
  simp only [↓setF_still, ↓portLeave_still, ↓still_mk, ↓still_ite, ite_self]

theorem pairsCheck_still (a0 a1 a2) :
    (State.pairsCheck a0 a1 a2).still = a0.still := by
  unfold State.pairsCheck
  repeat' (first
    | (simp only [↓setF_still, ↓raise_still, ↓still_mk, ↓still_ite, ite_self, ↓still_dite, dite_eq_ite, ↓apply_ite
        Prod.snd, ↓apply_ite Prod.fst, ↓still_foldl]; done)
    | (with_reducible refine (still_foldl _ (fun s x => ?_) _ _).trans ?_)
    | (with_reducible refine (still_foldl_snd _ (fun r x => ?_) _ _).trans ?_)
    | (with_reducible refine (still_foldl_fst _ (fun r x => ?_) _ _).trans ?_)
    | (with_reducible refine (still_foldl_snd2 _ (fun r x => ?_) _ _).trans ?_)
    | (simp only [↓setF_still, ↓raise_still, ↓still_mk, ↓still_ite, ite_self, ↓still_dite, dite_eq_ite, ↓apply_ite
        Prod.snd, ↓apply_ite Prod.fst, ↓still_foldl])
    | (with_reducible refine ite_eq_of ?_ ?_)
    | split)

theorem portCheck_still (a0 a1 a2) :
    (State.portCheck a0 a1 a2).still = a0.still := by
  unfold State.portCheck
  simp only [↓pairsCheck_still]

theorem portEval2_still (a0 a1) :
    (State.portEval2 a0 a1).still = a0.still := by
  unfold State.portEval2
  simp only [↓portEval_still, ↓portCheck_still]

theorem portRebuild_still (a0 a1) :
    (State.portRebuild a0 a1).still = a0.still := by
  unfold State.portRebuild
  simp only [↓portPeriod_still, ↓portLeave_still, ↓portEval2_still, ↓still_mk, ↓still_ite, ite_self]

theorem portsEval_still (a0) :
    (State.portsEval a0).still = a0.still := by
  unfold State.portsEval
  repeat' (first
    | (simp only [↓portEval2_still, ↓still_mk, ↓still_ite, ite_self, ↓still_dite, dite_eq_ite, ↓apply_ite Prod.snd,
        ↓apply_ite Prod.fst, ↓still_foldl]; done)
    | (with_reducible refine (still_foldl _ (fun s x => ?_) _ _).trans ?_)
    | (with_reducible refine (still_foldl_snd _ (fun r x => ?_) _ _).trans ?_)
    | (with_reducible refine (still_foldl_fst _ (fun r x => ?_) _ _).trans ?_)
    | (with_reducible refine (still_foldl_snd2 _ (fun r x => ?_) _ _).trans ?_)
    | (simp only [↓portEval2_still, ↓still_mk, ↓still_ite, ite_self, ↓still_dite, dite_eq_ite, ↓apply_ite Prod.snd,
        ↓apply_ite Prod.fst, ↓still_foldl])
    | (with_reducible refine ite_eq_of ?_ ?_)
    | split)

theorem activeChanged_still (a0 a1 a2) :
    (State.activeChanged a0 a1 a2).still = a1.still := by
  unfold State.activeChanged
  repeat' (first
    | (simp only [↓applied_still, ↓portRebuild_still, ↓portsEval_still, ↓still_mk, ↓still_ite, ite_self, ↓still_dite,
        dite_eq_ite, ↓apply_ite Prod.snd, ↓apply_ite Prod.fst, ↓still_foldl]; done)
    | (with_reducible refine (still_foldl _ (fun s x => ?_) _ _).trans ?_)
    | (with_reducible refine (still_foldl_snd _ (fun r x => ?_) _ _).trans ?_)
    | (with_reducible refine (still_foldl_fst _ (fun r x => ?_) _ _).trans ?_)
    | (with_reducible refine (still_foldl_snd2 _ (fun r x => ?_) _ _).trans ?_)
    | (simp only [↓applied_still, ↓portRebuild_still, ↓portsEval_still, ↓still_mk, ↓still_ite, ite_self, ↓still_dite,
        dite_eq_ite, ↓apply_ite Prod.snd, ↓apply_ite Prod.fst, ↓still_foldl])
    | (with_reducible refine ite_eq_of ?_ ?_)
    | split)

theorem parityNew_still (a0 a1) :
    (State.parityNew a0 a1).still = a0.still := by
  unfold State.parityNew
  simp only [↓still_mk]

theorem writeReg_still (a0 a1 a2 a3) :
    (State.writeReg a0 a1 a2 a3).still = a0.still := by
  unfold State.writeReg
  simp only [↓parityNew_still, ↓setReg_still, ↓still_mk, ↓still_ite, ite_self]

theorem choose_still {α : Type} (a1 : State) (a2 : List α) : ((a1.choose a2).2).still = a1.still := by
  unfold State.choose
  simp only [↓still_mk]

theorem bgStart_still (a0 a1) :
    (State.bgStart a0 a1).still = a0.still := by
  unfold State.bgStart
  simp only [↓choose_still, ↓setB_still, ↓modLane_still, ↓still_mk, ↓still_ite, ite_self]

theorem adcCtl_still (a0 a1 a2) :
    (State.adcCtl a0 a1 a2).still = a0.still := by
  unfold State.adcCtl
  simp only [↓writeReg_still, ↓bgStart_still, ↓setF_still, ↓modLane_still, ↓still_mk, ↓still_ite, ite_self]

theorem addCycles_still (a0 a1 a2) :
    (State.addCycles a0 a1 a2).still = a0.still := by
  unfold State.addCycles
  simp only [↓modEng_still]

theorem setPair_still (a0 a1) :
    (State.setPair a0 a1).still = a0.still := by
  unfold State.setPair
  simp only [↓setF_still]

theorem modTwin_still (a0 a1) :
    (State.modTwin a0 a1).still = a0.still := by
  unfold State.modTwin
  simp only [↓still_mk]

theorem twinForget_still (a0) :
    (State.twinForget a0).still = a0.still := by
  unfold State.twinForget
  simp only [↓setF_still, ↓modTwin_still]

theorem setRxCnt_still (a0 a1) :
    (State.setRxCnt a0 a1).still = a0.still := by
  unfold State.setRxCnt
  simp only [↓setReg_still, ↓modTwin_still]

theorem twinErase_still (a0) :
    (State.twinErase a0).still = a0.still := by
  unfold State.twinErase
  simp only [↓twinForget_still, ↓setF_still, ↓setRxCnt_still, ↓setReg_still, ↓modTwin_still]

theorem twinReleased_still (a0) :
    (State.twinReleased a0).still = a0.still := by
  unfold State.twinReleased
  simp only [↓raise_still, ↓setPair_still, ↓twinErase_still]

theorem adriftLimit_still (a0) :
    (State.adriftLimit a0).still = a0.still := by
  unfold State.adriftLimit
  simp only [↓twinReleased_still, ↓still_mk, ↓still_ite, ite_self]

theorem wakeUp_still (a0 a1) :
    (State.wakeUp a0 a1).still = a0.still := by
  unfold State.wakeUp
  simp only [↓setF_still, ↓raise_still, ↓still_mk, ↓still_ite, ite_self]

theorem wakeHeldPins_still (a0) :
    (State.wakeHeldPins a0).still = a0.still := by
  unfold State.wakeHeldPins
  split
  · rfl
  · exact still_foldl _ (fun s x => wakeUp_still s x) _ _

theorem alarmEval_still (a0 a1) :
    (State.alarmEval a0 a1).still = a0.still := by
  unfold State.alarmEval
  simp only [↓wakeUp_still, ↓raise_still, ↓still_mk, ↓still_ite, ite_self]

theorem forceDir_still (a0 a1 a2) :
    (State.forceDir a0 a1 a2).still = a0.still := by
  unfold State.forceDir
  simp only [↓portEval_still, ↓portLeave_still]

theorem alignCtl_still (a0 a1 a2) :
    (State.alignCtl a0 a1 a2).still = a0.still := by
  unfold State.alignCtl
  simp only [↓forceDir_still, ↓still_mk, ↓still_ite, ite_self]

theorem eyeAbort_still (a0 a1) :
    (State.eyeAbort a0 a1).still = a0.still := by
  unfold State.eyeAbort
  simp only [↓raise_still, ↓modLane_still, ↓setF_still, ↓still_mk, ↓still_ite, ite_self]

theorem sigChange_still (a0 a1) :
    (State.sigChange a0 a1).still = a0.still := by
  unfold State.sigChange
  simp only [↓setEng_still]

theorem hostHoldover_still (a0 a1) :
    (State.hostHoldover a0 a1).still = a0.still := by
  unfold State.hostHoldover
  simp only [↓setB_still]

theorem holdover_still (a0 a1) :
    (State.holdover a0 a1).still = a0.still := by
  unfold State.holdover
  simp only [↓setB_still, ↓raise_still, ↓still_mk, ↓still_ite, ite_self]

theorem holdoverAll_still (a0) :
    (State.holdoverAll a0).still = a0.still := by
  unfold State.holdoverAll
  repeat' (first
    | (simp only [↓hostHoldover_still, ↓holdover_still, ↓still_mk, ↓still_ite, ite_self, ↓still_dite, dite_eq_ite,
        ↓apply_ite Prod.snd, ↓apply_ite Prod.fst, ↓still_foldl]; done)
    | (with_reducible refine (still_foldl _ (fun s x => ?_) _ _).trans ?_)
    | (with_reducible refine (still_foldl_snd _ (fun r x => ?_) _ _).trans ?_)
    | (with_reducible refine (still_foldl_fst _ (fun r x => ?_) _ _).trans ?_)
    | (with_reducible refine (still_foldl_snd2 _ (fun r x => ?_) _ _).trans ?_)
    | (simp only [↓hostHoldover_still, ↓holdover_still, ↓still_mk, ↓still_ite, ite_self, ↓still_dite, dite_eq_ite,
        ↓apply_ite Prod.snd, ↓apply_ite Prod.fst, ↓still_foldl])
    | (with_reducible refine ite_eq_of ?_ ?_)
    | split)

theorem innerHunt_still (a0 a1 a2) :
    (State.innerHunt a0 a1 a2).still = a0.still := by
  unfold State.innerHunt
  simp only [↓portsEval_still, ↓setF_still, ↓modLane_still]

theorem muxUnlock_still (a0 a1) :
    (State.muxUnlock a0 a1).still = a0.still := by
  unfold State.muxUnlock
  split <;> simp only [↓portsEval_still, ↓raise_still, ↓setF_still, ↓still_mk, ↓still_ite, ite_self]

theorem innerIdle_still (a0 a1) :
    (State.innerIdle a0 a1).still = a0.still := by
  unfold State.innerIdle
  simp only [↓muxUnlock_still, ↓setF_still, ↓modLane_still, ↓still_mk, ↓still_ite, ite_self]

theorem lpcDrop_still (a0 a1) :
    (State.lpcDrop a0 a1).still = a0.still := by
  unfold State.lpcDrop
  simp only [↓setF_still, ↓modLane_still, ↓muxUnlock_still, ↓still_mk, ↓still_ite, ite_self]

theorem codecRefresh_still (a0 a1) :
    (State.codecRefresh a0 a1).still = a0.still := by
  unfold State.codecRefresh
  simp only [↓setB_still, ↓innerHunt_still, ↓innerIdle_still, ↓lpcDrop_still, ↓still_mk, ↓still_ite, ite_self]

theorem rxStop_still (a0 a1) :
    (State.rxStop a0 a1).still = a0.still := by
  unfold State.rxStop
  simp only [↓setF_still, ↓eyeAbort_still, ↓modLane_still, ↓sigChange_still, ↓holdoverAll_still, ↓codecRefresh_still,
      ↓still_mk, ↓still_ite, ite_self]

theorem rxEnOff_still (a0 a1) :
    (State.rxEnOff a0 a1).still = a0.still := by
  unfold State.rxEnOff
  simp only [↓rxStop_still, ↓setF_still, ↓still_mk, ↓still_ite, ite_self]

theorem txEnOff_still (a0 a1) :
    (State.txEnOff a0 a1).still = a0.still := by
  unfold State.txEnOff
  simp only [↓squelch_still, ↓setF_still, ↓modLane_still, ↓still_mk, ↓still_ite, ite_self]

theorem lineSlices_still (a0 a1) :
    (State.lineSlices a0 a1).still = a0.still := by
  unfold State.lineSlices
  repeat' (first
    | (simp only [↓portsEval_still, ↓setF_still, ↓rxEnOff_still, ↓txEnOff_still, ↓still_mk, ↓still_ite, ite_self,
        ↓still_dite, dite_eq_ite, ↓apply_ite Prod.snd, ↓apply_ite Prod.fst, ↓still_foldl]; done)
    | (with_reducible refine (still_foldl _ (fun s x => ?_) _ _).trans ?_)
    | (with_reducible refine (still_foldl_snd _ (fun r x => ?_) _ _).trans ?_)
    | (with_reducible refine (still_foldl_fst _ (fun r x => ?_) _ _).trans ?_)
    | (with_reducible refine (still_foldl_snd2 _ (fun r x => ?_) _ _).trans ?_)
    | (simp only [↓portsEval_still, ↓setF_still, ↓rxEnOff_still, ↓txEnOff_still, ↓still_mk, ↓still_ite, ite_self,
        ↓still_dite, dite_eq_ite, ↓apply_ite Prod.snd, ↓apply_ite Prod.fst, ↓still_foldl])
    | (with_reducible refine ite_eq_of ?_ ?_)
    | split)

theorem rxQuiet_still (a0 a1) :
    (State.rxQuiet a0 a1).still = a0.still := by
  unfold State.rxQuiet
  simp only [↓setF_still, ↓eyeAbort_still, ↓modLane_still, ↓holdoverAll_still, ↓sigChange_still, ↓still_mk,
      ↓still_ite, ite_self]

theorem squelchAll_still (a0) :
    (State.squelchAll a0).still = a0.still := by
  unfold State.squelchAll
  repeat' (first
    | (simp only [↓squelch_still, ↓still_mk, ↓still_ite, ite_self, ↓still_dite, dite_eq_ite, ↓apply_ite Prod.snd,
        ↓apply_ite Prod.fst, ↓still_foldl]; done)
    | (with_reducible refine (still_foldl _ (fun s x => ?_) _ _).trans ?_)
    | (with_reducible refine (still_foldl_snd _ (fun r x => ?_) _ _).trans ?_)
    | (with_reducible refine (still_foldl_fst _ (fun r x => ?_) _ _).trans ?_)
    | (with_reducible refine (still_foldl_snd2 _ (fun r x => ?_) _ _).trans ?_)
    | (simp only [↓squelch_still, ↓still_mk, ↓still_ite, ite_self, ↓still_dite, dite_eq_ite, ↓apply_ite Prod.snd,
        ↓apply_ite Prod.fst, ↓still_foldl])
    | (with_reducible refine ite_eq_of ?_ ?_)
    | split)

theorem hostSigChange_still (a0 a1) :
    (State.hostSigChange a0 a1).still = a0.still := by
  unfold State.hostSigChange
  simp only [↓sigChange_still]

theorem hostQuiet_still (a0 a1) :
    (State.hostQuiet a0 a1).still = a0.still := by
  unfold State.hostQuiet
  simp only [↓setF_still, ↓hostSigChange_still, ↓holdoverAll_still, ↓still_mk, ↓still_ite, ite_self]

theorem pllStop_still (a0 a1) :
    (State.pllStop a0 a1).still = a0.still := by
  unfold State.pllStop
  repeat' (first
    | (simp only [↓setF_still, ↓rxQuiet_still, ↓portsEval_still, ↓squelchAll_still, ↓hostQuiet_still, ↓still_mk,
        ↓still_ite, ite_self, ↓still_dite, dite_eq_ite, ↓apply_ite Prod.snd, ↓apply_ite Prod.fst, ↓still_foldl]; done)
    | (with_reducible refine (still_foldl _ (fun s x => ?_) _ _).trans ?_)
    | (with_reducible refine (still_foldl_snd _ (fun r x => ?_) _ _).trans ?_)
    | (with_reducible refine (still_foldl_fst _ (fun r x => ?_) _ _).trans ?_)
    | (with_reducible refine (still_foldl_snd2 _ (fun r x => ?_) _ _).trans ?_)
    | (simp only [↓setF_still, ↓rxQuiet_still, ↓portsEval_still, ↓squelchAll_still, ↓hostQuiet_still, ↓still_mk,
        ↓still_ite, ite_self, ↓still_dite, dite_eq_ite, ↓apply_ite Prod.snd, ↓apply_ite Prod.fst, ↓still_foldl])
    | (with_reducible refine ite_eq_of ?_ ?_)
    | split)

theorem analogDown_still (a0 a1) :
    (State.analogDown a0 a1).still = a0.still := by
  unfold State.analogDown
  repeat' (first
    | (simp only [↓lineSlices_still, ↓pllStop_still, ↓still_mk, ↓still_ite, ite_self, ↓still_dite, dite_eq_ite,
        ↓apply_ite Prod.snd, ↓apply_ite Prod.fst, ↓still_foldl]; done)
    | (with_reducible refine (still_foldl _ (fun s x => ?_) _ _).trans ?_)
    | (with_reducible refine (still_foldl_snd _ (fun r x => ?_) _ _).trans ?_)
    | (with_reducible refine (still_foldl_fst _ (fun r x => ?_) _ _).trans ?_)
    | (with_reducible refine (still_foldl_snd2 _ (fun r x => ?_) _ _).trans ?_)
    | (simp only [↓lineSlices_still, ↓pllStop_still, ↓still_mk, ↓still_ite, ite_self, ↓still_dite, dite_eq_ite,
        ↓apply_ite Prod.snd, ↓apply_ite Prod.fst, ↓still_foldl])
    | (with_reducible refine ite_eq_of ?_ ?_)
    | split)

theorem anchClr_still (a0) :
    (State.anchClr a0).still = a0.still := by
  unfold State.anchClr
  simp only [↓setF_still, ↓setReg_still]

theorem anchFull_still (a0) :
    (State.anchFull a0).still = a0.still := by
  unfold State.anchFull
  simp only [↓flag_still, ↓still_mk, ↓still_ite, ite_self]

theorem draw_still (a0 a1) :
    (State.draw a0 a1).2.still = a0.still := by
  unfold State.draw
  simp only [↓still_mk]

theorem anyImage_still (a0) :
    (State.anyImage a0).2.still = a0.still := by
  unfold State.anyImage
  simp only [↓draw_still]

theorem setPhase_still (a0 a1) :
    (State.setPhase a0 a1).still = a0.still := by
  unfold State.setPhase
  simp only [↓setF_still]

theorem modCfgv_still (a0 a1) :
    (State.modCfgv a0 a1).still = a0.still := by
  unfold State.modCfgv
  simp only [↓still_mk]

theorem cfgSwap_still (a0 a1 a2) :
    (State.cfgSwap a0 a1 a2).still = a0.still := by
  unfold State.cfgSwap
  simp only [↓setReg_still, ↓setF_still, ↓modCfgv_still]

theorem holdWord_still (a0 a1 a2 a3 a4 a5 a6) :
    (State.holdWord a0 a1 a2 a3 a4 a5 a6).still = a0.still := by
  unfold State.holdWord
  simp only [↓still_mk]

theorem clearBlk_still (a0 a1) :
    (State.clearBlk a0 a1).still = a0.still := by
  unfold State.clearBlk
  simp only [↓still_mk]

theorem setEf_still (a0 a1 a2 a3) :
    (State.setEf a0 a1 a2 a3).still = a0.still := by
  unfold State.setEf
  simp only [↓setF_still]

theorem setRun_still (a0 a1 a2) :
    (State.setRun a0 a1 a2).still = a0.still := by
  unfold State.setRun
  simp only [↓modEng_still, ↓setEf_still]

theorem engsReset_still (a0 a1) :
    (State.engsReset a0 a1).still = a0.still := by
  unfold State.engsReset
  repeat' (first
    | (simp only [↓setRun_still, ↓still_mk, ↓still_ite, ite_self, ↓still_dite, dite_eq_ite, ↓apply_ite Prod.snd,
        ↓apply_ite Prod.fst, ↓still_foldl]; done)
    | (with_reducible refine (still_foldl _ (fun s x => ?_) _ _).trans ?_)
    | (with_reducible refine (still_foldl_snd _ (fun r x => ?_) _ _).trans ?_)
    | (with_reducible refine (still_foldl_fst _ (fun r x => ?_) _ _).trans ?_)
    | (with_reducible refine (still_foldl_snd2 _ (fun r x => ?_) _ _).trans ?_)
    | (simp only [↓setRun_still, ↓still_mk, ↓still_ite, ite_self, ↓still_dite, dite_eq_ite, ↓apply_ite Prod.snd,
        ↓apply_ite Prod.fst, ↓still_foldl])
    | (with_reducible refine ite_eq_of ?_ ?_)
    | split)

theorem clrFallLane_still (a0 a1) :
    (State.clrFallLane a0 a1).still = a0.still := by
  unfold State.clrFallLane
  simp only [↓flag_still, ↓modLane_still, ↓still_mk, ↓still_ite, ite_self]

theorem txCtl_still (a0 a1 a2) :
    (State.txCtl a0 a1 a2).still = a0.still := by
  unfold State.txCtl
  simp only [↓writeReg_still, ↓flag_still, ↓setF_still, ↓modLane_still, ↓clrFallLane_still, ↓squelch_still,
      ↓holdover_still, ↓still_mk, ↓still_ite, ite_self]

theorem rxCtl_still (a0 a1 a2) :
    (State.rxCtl a0 a1 a2).still = a0.still := by
  unfold State.rxCtl
  simp only [↓writeReg_still, ↓flag_still, ↓codecRefresh_still, ↓setF_still, ↓rxStop_still, ↓portsEval_still,
      ↓still_mk, ↓still_ite, ite_self]

theorem pllCtl_still (a0 a1 a2) :
    (State.pllCtl a0 a1 a2).still = a0.still := by
  unfold State.pllCtl
  simp only [↓writeReg_still, ↓pllStop_still, ↓still_mk, ↓still_ite, ite_self]

theorem linePwr_still (a0 a1 a2) :
    (State.linePwr a0 a1 a2).still = a0.still := by
  unfold State.linePwr
  simp only [↓lineSlices_still, ↓writeReg_still]

theorem setHlane_still (a0 a1 a2) :
    (State.setHlane a0 a1 a2).still = a0.still := by
  unfold State.setHlane
  simp only [↓still_mk]

theorem modHlane_still (a0 a1 a2) :
    (State.modHlane a0 a1 a2).still = a0.still := by
  unfold State.modHlane
  simp only [↓setHlane_still]

theorem setHostState_still (a0 a1 a2) :
    (State.setHostState a0 a1 a2).still = a0.still := by
  unfold State.setHostState
  simp only [↓setB_still, ↓setF_still, ↓portsEval_still, ↓hostHoldover_still, ↓still_mk, ↓still_ite, ite_self]

theorem hostDisable_still (a0 a1) :
    (State.hostDisable a0 a1).still = a0.still := by
  unfold State.hostDisable
  simp only [↓setF_still, ↓modHlane_still, ↓setB_still, ↓hostQuiet_still, ↓setHostState_still]

theorem hostLanePwr_still (a0 a1 a2) :
    (State.hostLanePwr a0 a1 a2).still = a0.still := by
  unfold State.hostLanePwr
  repeat' (first
    | (simp only [↓writeReg_still, ↓hostDisable_still, ↓setF_still, ↓still_mk, ↓still_ite, ite_self, ↓still_dite,
        dite_eq_ite, ↓apply_ite Prod.snd, ↓apply_ite Prod.fst, ↓still_foldl]; done)
    | (with_reducible refine (still_foldl _ (fun s x => ?_) _ _).trans ?_)
    | (with_reducible refine (still_foldl_snd _ (fun r x => ?_) _ _).trans ?_)
    | (with_reducible refine (still_foldl_fst _ (fun r x => ?_) _ _).trans ?_)
    | (with_reducible refine (still_foldl_snd2 _ (fun r x => ?_) _ _).trans ?_)
    | (simp only [↓writeReg_still, ↓hostDisable_still, ↓setF_still, ↓still_mk, ↓still_ite, ite_self, ↓still_dite,
        dite_eq_ite, ↓apply_ite Prod.snd, ↓apply_ite Prod.fst, ↓still_foldl])
    | (with_reducible refine ite_eq_of ?_ ?_)
    | split)

theorem hostRefused_still (a0 a1) :
    (State.hostRefused a0 a1).still = a0.still := by
  unfold State.hostRefused
  simp only [↓flag_still]

theorem seqUp_still (a0 a1) :
    (State.seqUp a0 a1).still = a0.still := by
  unfold State.seqUp
  simp only [↓setF_still]

theorem setSel_still (a0 a1 a2) :
    (State.setSel a0 a1 a2).still = a0.still := by
  unfold State.setSel
  simp only [↓seqUp_still, ↓setF_still, ↓still_mk, ↓still_ite, ite_self]

theorem hostToLock_still (a0 a1) :
    (State.hostToLock a0 a1).still = a0.still := by
  unfold State.hostToLock
  simp only [↓setF_still, ↓modHlane_still, ↓setHostState_still, ↓setSel_still, ↓still_mk, ↓still_ite, ite_self]

theorem hostEnable_still (a0 a1) :
    (State.hostEnable a0 a1).still = a0.still := by
  unfold State.hostEnable
  simp only [↓setF_still, ↓setReg_still, ↓hostToLock_still, ↓seqUp_still]

theorem hlCtl_still (a0 a1 a2) :
    (State.hlCtl a0 a1 a2).still = a0.still := by
  unfold State.hlCtl
  simp only [↓writeReg_still, ↓hostRefused_still, ↓hostEnable_still, ↓hostDisable_still, ↓still_mk, ↓still_ite,
      ite_self]

theorem tbStopped_still (a0 a1) :
    (State.tbStopped a0 a1).still = a0.still := by
  unfold State.tbStopped
  simp only [↓seAllPassed_still]

theorem disarm_still (a0 a1) :
    (State.disarm a0 a1).still = a0.still := by
  unfold State.disarm
  simp only [↓blkReport_still, ↓still_mk, ↓still_ite, ite_self]

theorem seDisarm_still (a0 a1) :
    (State.seDisarm a0 a1).still = a0.still := by
  unfold State.seDisarm
  repeat' (first
    | (simp only [↓seOff_still, ↓seRecord_still, ↓disarm_still, ↓still_mk, ↓still_ite, ite_self, ↓still_dite,
        dite_eq_ite, ↓apply_ite Prod.snd, ↓apply_ite Prod.fst, ↓still_foldl]; done)
    | (with_reducible refine (still_foldl _ (fun s x => ?_) _ _).trans ?_)
    | (with_reducible refine (still_foldl_snd _ (fun r x => ?_) _ _).trans ?_)
    | (with_reducible refine (still_foldl_fst _ (fun r x => ?_) _ _).trans ?_)
    | (with_reducible refine (still_foldl_snd2 _ (fun r x => ?_) _ _).trans ?_)
    | (simp only [↓seOff_still, ↓seRecord_still, ↓disarm_still, ↓still_mk, ↓still_ite, ite_self, ↓still_dite,
        dite_eq_ite, ↓apply_ite Prod.snd, ↓apply_ite Prod.fst, ↓still_foldl])
    | (with_reducible refine ite_eq_of ?_ ?_)
    | split)

theorem thermDeliver_still (a0) :
    (State.thermDeliver a0).still = a0.still := by
  unfold State.thermDeliver
  repeat' (first
    | (simp only [↓setF_still, ↓setEf_still, ↓still_mk, ↓still_ite, ite_self, ↓still_dite, dite_eq_ite, ↓apply_ite
        Prod.snd, ↓apply_ite Prod.fst, ↓still_foldl]; done)
    | (with_reducible refine (still_foldl _ (fun s x => ?_) _ _).trans ?_)
    | (with_reducible refine (still_foldl_snd _ (fun r x => ?_) _ _).trans ?_)
    | (with_reducible refine (still_foldl_fst _ (fun r x => ?_) _ _).trans ?_)
    | (with_reducible refine (still_foldl_snd2 _ (fun r x => ?_) _ _).trans ?_)
    | (simp only [↓setF_still, ↓setEf_still, ↓still_mk, ↓still_ite, ite_self, ↓still_dite, dite_eq_ite, ↓apply_ite
        Prod.snd, ↓apply_ite Prod.fst, ↓still_foldl])
    | (with_reducible refine ite_eq_of ?_ ?_)
    | split)

theorem throttle_still (a0 a1 a2) :
    (State.throttle a0 a1 a2).still = a0.still := by
  unfold State.throttle
  simp only [↓setF_still, ↓thermDeliver_still, ↓raise_still, ↓still_mk, ↓still_ite, ite_self]

theorem thermSoft_still (a0) :
    (State.thermSoft a0).still = a0.still := by
  unfold State.thermSoft
  simp only [↓throttle_still, ↓still_mk]

theorem setFogBusy_still (a0 a1 a2) :
    (State.setFogBusy a0 a1 a2).still = a0.still := by
  unfold State.setFogBusy
  simp only [↓setF_still]

theorem fogEnd_still (a0) :
    (State.fogEnd a0).still = a0.still := by
  unfold State.fogEnd
  split <;> simp only [↓setF_still, ↓setFogBusy_still, ↓still_mk, ↓still_ite, ite_self]

theorem fogSearch_still (a0) :
    (State.fogSearch a0).still = a0.still := by
  unfold State.fogSearch
  simp only [↓setF_still]

theorem fogCount_still (a0 a1) :
    (State.fogCount a0 a1).still = a0.still := by
  unfold State.fogCount
  simp only [↓count32_still, ↓raise_still, ↓setF_still, ↓still_mk, ↓still_ite, ite_self]

theorem fogAbort_still (a0) :
    (State.fogAbort a0).still = a0.still := by
  unfold State.fogAbort
  split <;> simp only [↓setF_still, ↓fogEnd_still, ↓fogSearch_still, ↓fogCount_still, ↓still_mk, ↓still_ite, ite_self]

theorem modDdr_still (a0 a1) :
    (State.modDdr a0 a1).still = a0.still := by
  unfold State.modDdr
  simp only [↓still_mk]

theorem logFree_still (a0) :
    (State.logFree a0).still = a0.still := by
  unfold State.logFree
  simp only [↓satReg_still, ↓still_mk, ↓still_ite, ite_self]

theorem modPwr_still (a0 a1) :
    (State.modPwr a0 a1).still = a0.still := by
  unfold State.modPwr
  simp only [↓still_mk]

theorem modDma_still (a0 a1 a2) :
    (State.modDma a0 a1 a2).still = a0.still := by
  unfold State.modDma
  simp only [↓still_mk]

theorem dmaPwrAbandon_still (a0) :
    (State.dmaPwrAbandon a0).still = a0.still := by
  unfold State.dmaPwrAbandon
  repeat' (first
    | (simp only [↓modDma_still, ↓still_mk, ↓still_ite, ite_self, ↓still_dite, dite_eq_ite, ↓apply_ite Prod.snd,
        ↓apply_ite Prod.fst, ↓still_foldl]; done)
    | (with_reducible refine (still_foldl _ (fun s x => ?_) _ _).trans ?_)
    | (with_reducible refine (still_foldl_snd _ (fun r x => ?_) _ _).trans ?_)
    | (with_reducible refine (still_foldl_fst _ (fun r x => ?_) _ _).trans ?_)
    | (with_reducible refine (still_foldl_snd2 _ (fun r x => ?_) _ _).trans ?_)
    | (simp only [↓modDma_still, ↓still_mk, ↓still_ite, ite_self, ↓still_dite, dite_eq_ite, ↓apply_ite Prod.snd,
        ↓apply_ite Prod.fst, ↓still_foldl])
    | (with_reducible refine ite_eq_of ?_ ?_)
    | split)

theorem dmaGoto_still (a0 a1 a2) :
    (State.dmaGoto a0 a1 a2).still = a0.still := by
  unfold State.dmaGoto
  simp only [↓setF_still]

theorem dmaGo_still (a0 a1) :
    (State.dmaGo a0 a1).still = a0.still := by
  unfold State.dmaGo
  simp only [↓dmaGoto_still]

theorem ddrForget_still (a0 a1) :
    (State.ddrForget a0 a1).still = a0.still := by
  unfold State.ddrForget
  simp only [↓modDdr_still]

theorem ddrResume_still (a0 a1) :
    (State.ddrResume a0 a1).still = a0.still := by
  unfold State.ddrResume
  simp only [↓send_still, ↓setF_still, ↓ddrForget_still, ↓raise_still, ↓logRecord_still, ↓still_mk, ↓still_ite,
      ite_self]

theorem hsUndo_still (a0) :
    (State.hsUndo a0).still = a0.still := by
  unfold State.hsUndo
  repeat' (first
    | (simp only [↓modEng_still, ↓dmaPwrAbandon_still, ↓dmaGo_still, ↓ddrResume_still, ↓modPwr_still, ↓still_mk,
        ↓still_ite, ite_self, ↓still_dite, dite_eq_ite, ↓apply_ite Prod.snd, ↓apply_ite Prod.fst, ↓still_foldl]; done)
    | (with_reducible refine (still_foldl _ (fun s x => ?_) _ _).trans ?_)
    | (with_reducible refine (still_foldl_snd _ (fun r x => ?_) _ _).trans ?_)
    | (with_reducible refine (still_foldl_fst _ (fun r x => ?_) _ _).trans ?_)
    | (with_reducible refine (still_foldl_snd2 _ (fun r x => ?_) _ _).trans ?_)
    | (simp only [↓modEng_still, ↓dmaPwrAbandon_still, ↓dmaGo_still, ↓ddrResume_still, ↓modPwr_still, ↓still_mk,
        ↓still_ite, ite_self, ↓still_dite, dite_eq_ite, ↓apply_ite Prod.snd, ↓apply_ite Prod.fst, ↓still_foldl])
    | (with_reducible refine ite_eq_of ?_ ?_)
    | split)

theorem keeperRestart_still (a0) :
    (State.keeperRestart a0).still = a0.still := by
  unfold State.keeperRestart
  simp only [↓setF_still, ↓still_mk, ↓still_ite, ite_self]

theorem softEnd_still (a0 a1) :
    (State.softEnd a0 a1).still = a0.still := by
  unfold State.softEnd
  repeat' (first
    | (simp only [↓engsReset_still, ↓innerIdle_still, ↓txCtl_still, ↓rxCtl_still, ↓pllCtl_still, ↓linePwr_still,
        ↓hostLanePwr_still, ↓hlCtl_still, ↓portRebuild_still, ↓setF_still, ↓lpcDrop_still, ↓tpoDrive_still,
        ↓tbStopped_still, ↓seDisarm_still, ↓thermSoft_still, ↓fogAbort_still, ↓modDdr_still, ↓logFree_still,
        ↓modPwr_still, ↓hsUndo_still, ↓keeperRestart_still, ↓still_mk, ↓still_ite, ite_self, ↓still_dite, dite_eq_ite,
        ↓apply_ite Prod.snd, ↓apply_ite Prod.fst, ↓still_foldl]; done)
    | (with_reducible refine (still_foldl _ (fun s x => ?_) _ _).trans ?_)
    | (with_reducible refine (still_foldl_snd _ (fun r x => ?_) _ _).trans ?_)
    | (with_reducible refine (still_foldl_fst _ (fun r x => ?_) _ _).trans ?_)
    | (with_reducible refine (still_foldl_snd2 _ (fun r x => ?_) _ _).trans ?_)
    | (simp only [↓engsReset_still, ↓innerIdle_still, ↓txCtl_still, ↓rxCtl_still, ↓pllCtl_still, ↓linePwr_still,
        ↓hostLanePwr_still, ↓hlCtl_still, ↓portRebuild_still, ↓setF_still, ↓lpcDrop_still, ↓tpoDrive_still,
        ↓tbStopped_still, ↓seDisarm_still, ↓thermSoft_still, ↓fogAbort_still, ↓modDdr_still, ↓logFree_still,
        ↓modPwr_still, ↓hsUndo_still, ↓keeperRestart_still, ↓still_mk, ↓still_ite, ite_self, ↓still_dite, dite_eq_ite,
        ↓apply_ite Prod.snd, ↓apply_ite Prod.fst, ↓still_foldl])
    | (with_reducible refine ite_eq_of ?_ ?_)
    | split)

theorem pwrBad_still (a0) :
    (State.pwrBad a0).still = a0.still := by
  unfold State.pwrBad
  simp only [↓raise_still, ↓setF_still]

theorem modPmb_still (a0 a1) :
    (State.modPmb a0 a1).still = a0.still := by
  unfold State.modPmb
  simp only [↓modPwr_still]

theorem pmbSend_still (a0) :
    (State.pmbSend a0).still = a0.still := by
  unfold State.pmbSend
  simp only [↓send_still, ↓still_mk, ↓still_ite, ite_self]

theorem voltBegin_still (a0 a1 a2 a3) :
    (State.voltBegin a0 a1 a2 a3).2.still = a0.still := by
  unfold State.voltBegin
  repeat' (first
    | (simp only [↓setF_still, ↓modPmb_still, ↓pmbSend_still, ↓still_mk, ↓still_ite, ite_self, ↓still_dite,
        dite_eq_ite, ↓apply_ite Prod.snd, ↓apply_ite Prod.fst, ↓still_foldl]; done)
    | (with_reducible refine (still_foldl _ (fun s x => ?_) _ _).trans ?_)
    | (with_reducible refine (still_foldl_snd _ (fun r x => ?_) _ _).trans ?_)
    | (with_reducible refine (still_foldl_fst _ (fun r x => ?_) _ _).trans ?_)
    | (with_reducible refine (still_foldl_snd2 _ (fun r x => ?_) _ _).trans ?_)
    | (simp only [↓setF_still, ↓modPmb_still, ↓pmbSend_still, ↓still_mk, ↓still_ite, ite_self, ↓still_dite,
        dite_eq_ite, ↓apply_ite Prod.snd, ↓apply_ite Prod.fst, ↓still_foldl])
    | (with_reducible refine ite_eq_of ?_ ?_)
    | split)

theorem avsUpdate_still (a0) :
    (State.avsUpdate a0).still = a0.still := by
  unfold State.avsUpdate
  simp only [↓voltBegin_still, ↓still_mk, ↓still_ite, ite_self]

theorem pwrIdle_still (a0) :
    (State.pwrIdle a0).still = a0.still := by
  unfold State.pwrIdle
  simp only [↓avsUpdate_still, ↓setF_still]

theorem pwrRefuse_still (a0 a1 a2 a3 a4) :
    (State.pwrRefuse a0 a1 a2 a3 a4).still = a0.still := by
  unfold State.pwrRefuse
  simp only [↓setF_still, ↓setB_still, ↓pwrIdle_still, ↓raise_still, ↓hsUndo_still, ↓still_mk, ↓still_ite, ite_self]

theorem domRefuse_still (a0 a1 a2) :
    (State.domRefuse a0 a1 a2).still = a0.still := by
  unfold State.domRefuse
  simp only [↓pwrRefuse_still]

theorem domUpReq_still (a0 a1) :
    (State.domUpReq a0 a1).still = a0.still := by
  unfold State.domUpReq
  split <;> simp only [↓domRefuse_still, ↓setF_still, ↓still_mk, ↓still_ite, ite_self]

theorem bistEnd_still (a0) :
    (State.bistEnd a0).still = a0.still := by
  unfold State.bistEnd
  simp only [↓setB_still, ↓setF_still, ↓setReg_still, ↓raise_still, ↓still_mk, ↓still_ite, ite_self]

theorem setBist_still (a0 a1 a2 a3) :
    (State.setBist a0 a1 a2 a3).still = a0.still := by
  unfold State.setBist
  simp only [↓still_mk]

theorem bistCutDom_still (a0 a1 a2) :
    (State.bistCutDom a0 a1 a2).still = a0.still := by
  unfold State.bistCutDom
  simp only [↓choose_still, ↓draw_still, ↓setBist_still]

theorem laneTestEnd_still (a0 a1 a2 a3) :
    (State.laneTestEnd a0 a1 a2 a3).still = a0.still := by
  unfold State.laneTestEnd
  simp only [↓setLane_still, ↓raise_still, ↓setF_still, ↓portsEval_still, ↓holdoverAll_still, ↓squelch_still,
      ↓codecRefresh_still, ↓still_mk]

theorem laneTestCut_still (a0 a1) :
    (State.laneTestCut a0 a1).still = a0.still := by
  unfold State.laneTestCut
  split <;> simp only [↓laneTestEnd_still, ↓setF_still, ↓still_mk, ↓still_ite, ite_self]

theorem bistCut_still (a0 a1) :
    (State.bistCut a0 a1).still = a0.still := by
  unfold State.bistCut
  repeat' (first
    | (simp only [↓bistEnd_still, ↓bistCutDom_still, ↓laneTestCut_still, ↓still_mk, ↓still_ite, ite_self, ↓still_dite,
        dite_eq_ite, ↓apply_ite Prod.snd, ↓apply_ite Prod.fst, ↓still_foldl]; done)
    | (with_reducible refine (still_foldl _ (fun s x => ?_) _ _).trans ?_)
    | (with_reducible refine (still_foldl_snd _ (fun r x => ?_) _ _).trans ?_)
    | (with_reducible refine (still_foldl_fst _ (fun r x => ?_) _ _).trans ?_)
    | (with_reducible refine (still_foldl_snd2 _ (fun r x => ?_) _ _).trans ?_)
    | (simp only [↓bistEnd_still, ↓bistCutDom_still, ↓laneTestCut_still, ↓still_mk, ↓still_ite, ite_self, ↓still_dite,
        dite_eq_ite, ↓apply_ite Prod.snd, ↓apply_ite Prod.fst, ↓still_foldl])
    | (with_reducible refine ite_eq_of ?_ ?_)
    | split)

theorem hsPass_still (a0) :
    (State.hsPass a0).still = a0.still := by
  unfold State.hsPass
  simp only [↓modPwr_still, ↓still_mk, ↓still_ite, ite_self]

theorem setScalar_still (a0 a1 a2 a3) :
    (State.setScalar a0 a1 a2 a3).still = a0.still := by
  unfold State.setScalar
  simp only [↓modEng_still, ↓still_mk, ↓still_ite, ite_self]

theorem engWake_still (a0 a1) :
    (State.engWake a0 a1).still = a0.still := by
  unfold State.engWake
  split <;> simp only [↓setRun_still, ↓setScalar_still, ↓still_mk, ↓still_ite, ite_self]

theorem hsAsk_still (a0 a1) :
    (State.hsAsk a0 a1).still = a0.still := by
  unfold State.hsAsk
  repeat' (first
    | (simp only [↓modEng_still, ↓engWake_still, ↓still_mk, ↓still_ite, ite_self, ↓still_dite, dite_eq_ite, ↓apply_ite
        Prod.snd, ↓apply_ite Prod.fst, ↓still_foldl]; done)
    | (with_reducible refine (still_foldl _ (fun s x => ?_) _ _).trans ?_)
    | (with_reducible refine (still_foldl_snd _ (fun r x => ?_) _ _).trans ?_)
    | (with_reducible refine (still_foldl_fst _ (fun r x => ?_) _ _).trans ?_)
    | (with_reducible refine (still_foldl_snd2 _ (fun r x => ?_) _ _).trans ?_)
    | (simp only [↓modEng_still, ↓engWake_still, ↓still_mk, ↓still_ite, ite_self, ↓still_dite, dite_eq_ite, ↓apply_ite
        Prod.snd, ↓apply_ite Prod.fst, ↓still_foldl])
    | (with_reducible refine ite_eq_of ?_ ?_)
    | split)

theorem hsStart_still (a0 a1) :
    (State.hsStart a0 a1).still = a0.still := by
  unfold State.hsStart
  repeat' (first
    | (simp only [↓bistCut_still, ↓modPwr_still, ↓hsPass_still, ↓hsAsk_still, ↓still_mk, ↓still_ite, ite_self,
        ↓still_dite, dite_eq_ite, ↓apply_ite Prod.snd, ↓apply_ite Prod.fst, ↓still_foldl]; done)
    | (with_reducible refine (still_foldl _ (fun s x => ?_) _ _).trans ?_)
    | (with_reducible refine (still_foldl_snd _ (fun r x => ?_) _ _).trans ?_)
    | (with_reducible refine (still_foldl_fst _ (fun r x => ?_) _ _).trans ?_)
    | (with_reducible refine (still_foldl_snd2 _ (fun r x => ?_) _ _).trans ?_)
    | (simp only [↓bistCut_still, ↓modPwr_still, ↓hsPass_still, ↓hsAsk_still, ↓still_mk, ↓still_ite, ite_self,
        ↓still_dite, dite_eq_ite, ↓apply_ite Prod.snd, ↓apply_ite Prod.fst, ↓still_foldl])
    | (with_reducible refine ite_eq_of ?_ ?_)
    | split)

theorem domDownReq_still (a0 a1) :
    (State.domDownReq a0 a1).still = a0.still := by
  unfold State.domDownReq
  repeat' (first
    | (simp only [↓domRefuse_still, ↓setF_still, ↓hsStart_still, ↓modPwr_still, ↓still_mk, ↓still_ite, ite_self,
        ↓still_dite, dite_eq_ite, ↓apply_ite Prod.snd, ↓apply_ite Prod.fst, ↓still_foldl]; done)
    | (with_reducible refine (still_foldl _ (fun s x => ?_) _ _).trans ?_)
    | (with_reducible refine (still_foldl_snd _ (fun r x => ?_) _ _).trans ?_)
    | (with_reducible refine (still_foldl_fst _ (fun r x => ?_) _ _).trans ?_)
    | (with_reducible refine (still_foldl_snd2 _ (fun r x => ?_) _ _).trans ?_)
    | (simp only [↓domRefuse_still, ↓setF_still, ↓hsStart_still, ↓modPwr_still, ↓still_mk, ↓still_ite, ite_self,
        ↓still_dite, dite_eq_ite, ↓apply_ite Prod.snd, ↓apply_ite Prod.fst, ↓still_foldl])
    | (with_reducible refine ite_eq_of ?_ ?_)
    | split)

theorem domReq_still (a0 a1) :
    (State.domReq a0 a1).still = a0.still := by
  unfold State.domReq
  simp only [↓pwrBad_still, ↓setF_still, ↓domUpReq_still, ↓domDownReq_still, ↓still_mk, ↓still_ite, ite_self]

theorem bistResume_still (a0) :
    (State.bistResume a0).still = a0.still := by
  unfold State.bistResume
  split <;> simp only [↓domReq_still, ↓setF_still, ↓still_mk, ↓still_ite, ite_self]

theorem softBegin_still (a0 a1 a2) :
    (State.softBegin a0 a1 a2).still = a1.still := by
  unfold State.softBegin
  repeat' (first
    | (simp only [↓portsEval_still, ↓holdoverAll_still, ↓squelch_still, ↓codecRefresh_still, ↓portRebuild_still,
        ↓hdacOut_still, ↓filtChanged_still, ↓setF_still, ↓bistResume_still, ↓still_mk, ↓still_ite, ite_self,
        ↓still_dite, dite_eq_ite, ↓apply_ite Prod.snd, ↓apply_ite Prod.fst, ↓still_foldl]; done)
    | (with_reducible refine (still_foldl _ (fun s x => ?_) _ _).trans ?_)
    | (with_reducible refine (still_foldl_snd _ (fun r x => ?_) _ _).trans ?_)
    | (with_reducible refine (still_foldl_fst _ (fun r x => ?_) _ _).trans ?_)
    | (with_reducible refine (still_foldl_snd2 _ (fun r x => ?_) _ _).trans ?_)
    | (simp only [↓portsEval_still, ↓holdoverAll_still, ↓squelch_still, ↓codecRefresh_still, ↓portRebuild_still,
        ↓hdacOut_still, ↓filtChanged_still, ↓setF_still, ↓bistResume_still, ↓still_mk, ↓still_ite, ite_self,
        ↓still_dite, dite_eq_ite, ↓apply_ite Prod.snd, ↓apply_ite Prod.fst, ↓still_foldl])
    | (with_reducible refine ite_eq_of ?_ ?_)
    | split)

theorem softReset_still (a0 a1) :
    (State.softReset a0 a1).still = a0.still := by
  unfold State.softReset
  repeat' (first
    | (simp only [↓clearBlk_still, ↓softEnd_still, ↓setF_still, ↓softBegin_still, ↓still_mk, ↓still_ite, ite_self,
        ↓still_dite, dite_eq_ite, ↓apply_ite Prod.snd, ↓apply_ite Prod.fst, ↓still_foldl]; done)
    | (with_reducible refine (still_foldl _ (fun s x => ?_) _ _).trans ?_)
    | (with_reducible refine (still_foldl_snd _ (fun r x => ?_) _ _).trans ?_)
    | (with_reducible refine (still_foldl_fst _ (fun r x => ?_) _ _).trans ?_)
    | (with_reducible refine (still_foldl_snd2 _ (fun r x => ?_) _ _).trans ?_)
    | (simp only [↓clearBlk_still, ↓softEnd_still, ↓setF_still, ↓softBegin_still, ↓still_mk, ↓still_ite, ite_self,
        ↓still_dite, dite_eq_ite, ↓apply_ite Prod.snd, ↓apply_ite Prod.fst, ↓still_foldl])
    | (with_reducible refine ite_eq_of ?_ ?_)
    | split)

theorem loadShadows_still (a0 a1) :
    (State.loadShadows a0 a1).still = a0.still := by
  unfold State.loadShadows
  repeat' (first
    | (simp only [↓parityNew_still, ↓still_mk, ↓still_ite, ite_self, ↓still_dite, dite_eq_ite, ↓apply_ite Prod.snd,
        ↓apply_ite Prod.fst, ↓still_foldl]; done)
    | (with_reducible refine (still_foldl _ (fun s x => ?_) _ _).trans ?_)
    | (with_reducible refine (still_foldl_snd _ (fun r x => ?_) _ _).trans ?_)
    | (with_reducible refine (still_foldl_fst _ (fun r x => ?_) _ _).trans ?_)
    | (with_reducible refine (still_foldl_snd2 _ (fun r x => ?_) _ _).trans ?_)
    | (simp only [↓parityNew_still, ↓still_mk, ↓still_ite, ite_self, ↓still_dite, dite_eq_ite, ↓apply_ite Prod.snd,
        ↓apply_ite Prod.fst, ↓still_foldl])
    | (with_reducible refine ite_eq_of ?_ ?_)
    | split)

theorem dropShadows_still (a0 a1) :
    (State.dropShadows a0 a1).still = a0.still := by
  unfold State.dropShadows
  simp only [↓still_mk]

theorem setCand_still (a0 a1) :
    (State.setCand a0 a1).still = a0.still := by
  unfold State.setCand
  simp only [↓setB_still, ↓still_mk]

theorem thermEnable_still (a0 a1) :
    (State.thermEnable a0 a1).still = a0.still := by
  unfold State.thermEnable
  simp only [↓throttle_still, ↓setCand_still, ↓still_mk, ↓still_ite, ite_self]

theorem blkCtl_still (a0 a1 a2) :
    (State.blkCtl a0 a1 a2).still = a0.still := by
  unfold State.blkCtl
  repeat' (first
    | (simp only [↓softReset_still, ↓writeReg_still, ↓loadShadows_still, ↓dropShadows_still, ↓disarm_still,
        ↓portRebuild_still, ↓thermEnable_still, ↓still_mk, ↓still_ite, ite_self, ↓still_dite, dite_eq_ite, ↓apply_ite
        Prod.snd, ↓apply_ite Prod.fst, ↓still_foldl]; done)
    | (with_reducible refine (still_foldl _ (fun s x => ?_) _ _).trans ?_)
    | (with_reducible refine (still_foldl_snd _ (fun r x => ?_) _ _).trans ?_)
    | (with_reducible refine (still_foldl_fst _ (fun r x => ?_) _ _).trans ?_)
    | (with_reducible refine (still_foldl_snd2 _ (fun r x => ?_) _ _).trans ?_)
    | (simp only [↓softReset_still, ↓writeReg_still, ↓loadShadows_still, ↓dropShadows_still, ↓disarm_still,
        ↓portRebuild_still, ↓thermEnable_still, ↓still_mk, ↓still_ite, ite_self, ↓still_dite, dite_eq_ite, ↓apply_ite
        Prod.snd, ↓apply_ite Prod.fst, ↓still_foldl])
    | (with_reducible refine ite_eq_of ?_ ?_)
    | split)

theorem engIrq_still (a0 a1) :
    (State.engIrq a0 a1).still = a0.still := by
  unfold State.engIrq
  simp only [↓raise_still, ↓still_mk, ↓still_ite, ite_self]

theorem sendVector_still (a0 a1) :
    (State.sendVector a0 a1).still = a0.still := by
  unfold State.sendVector
  simp only [↓tlp_still, ↓send_still, ↓still_mk, ↓still_ite, ite_self]

theorem intClear_still (a0 a1 a2) :
    (State.intClear a0 a1 a2).still = a0.still := by
  unfold State.intClear
  repeat' (first
    | (simp only [↓setIntStat_still, ↓engIrq_still, ↓sendVector_still, ↓still_mk, ↓still_ite, ite_self, ↓still_dite,
        dite_eq_ite, ↓apply_ite Prod.snd, ↓apply_ite Prod.fst, ↓still_foldl]; done)
    | (with_reducible refine (still_foldl _ (fun s x => ?_) _ _).trans ?_)
    | (with_reducible refine (still_foldl_snd _ (fun r x => ?_) _ _).trans ?_)
    | (with_reducible refine (still_foldl_fst _ (fun r x => ?_) _ _).trans ?_)
    | (with_reducible refine (still_foldl_snd2 _ (fun r x => ?_) _ _).trans ?_)
    | (simp only [↓setIntStat_still, ↓engIrq_still, ↓sendVector_still, ↓still_mk, ↓still_ite, ite_self, ↓still_dite,
        dite_eq_ite, ↓apply_ite Prod.snd, ↓apply_ite Prod.fst, ↓still_foldl])
    | (with_reducible refine ite_eq_of ?_ ?_)
    | split)

theorem discard_still (a0 a1) :
    (State.discard a0 a1).still = a0.still := by
  unfold State.discard
  simp only [↓disarm_still, ↓loadShadows_still, ↓still_mk, ↓still_ite, ite_self]

theorem commitCheck_still (a0 a1 a2) :
    (State.commitCheck a0 a1 a2).2.still = a0.still := by
  unfold State.commitCheck
  repeat' (first
    | (simp only [↓choose_still, ↓still_mk, ↓still_ite, ite_self, ↓still_dite, dite_eq_ite, ↓apply_ite Prod.snd,
        ↓apply_ite Prod.fst, ↓still_foldl]; done)
    | (with_reducible refine (still_foldl _ (fun s x => ?_) _ _).trans ?_)
    | (with_reducible refine (still_foldl_snd _ (fun r x => ?_) _ _).trans ?_)
    | (with_reducible refine (still_foldl_fst _ (fun r x => ?_) _ _).trans ?_)
    | (with_reducible refine (still_foldl_snd2 _ (fun r x => ?_) _ _).trans ?_)
    | (simp only [↓choose_still, ↓still_mk, ↓still_ite, ite_self, ↓still_dite, dite_eq_ite, ↓apply_ite Prod.snd,
        ↓apply_ite Prod.fst, ↓still_foldl])
    | (with_reducible refine ite_eq_of ?_ ?_)
    | split)

theorem commitRefused_still (a0 a1 a2 a3) :
    (State.commitRefused a0 a1 a2 a3).still = a0.still := by
  unfold State.commitRefused
  simp only [↓blkReport_still, ↓raise_still, ↓setF_still, ↓still_mk, ↓still_ite, ite_self]

theorem copyShadows_still (a0 a1) :
    (State.copyShadows a0 a1).still = a0.still := by
  unfold State.copyShadows
  repeat' (first
    | (simp only [↓parityNew_still, ↓setReg_still, ↓still_mk, ↓still_ite, ite_self, ↓still_dite, dite_eq_ite,
        ↓apply_ite Prod.snd, ↓apply_ite Prod.fst, ↓still_foldl]; done)
    | (with_reducible refine (still_foldl _ (fun s x => ?_) _ _).trans ?_)
    | (with_reducible refine (still_foldl_snd _ (fun r x => ?_) _ _).trans ?_)
    | (with_reducible refine (still_foldl_fst _ (fun r x => ?_) _ _).trans ?_)
    | (with_reducible refine (still_foldl_snd2 _ (fun r x => ?_) _ _).trans ?_)
    | (simp only [↓parityNew_still, ↓setReg_still, ↓still_mk, ↓still_ite, ite_self, ↓still_dite, dite_eq_ite,
        ↓apply_ite Prod.snd, ↓apply_ite Prod.fst, ↓still_foldl])
    | (with_reducible refine ite_eq_of ?_ ?_)
    | split)

theorem recheck_still (a0 a1 a2) :
    (State.recheck a0 a1 a2).still = a1.still := by
  unfold State.recheck
  simp only [↓pairsCheck_still, ↓still_mk, ↓still_ite, ite_self]

theorem commitNow_still (a0 a1) :
    (State.commitNow a0 a1).still = a0.still := by
  unfold State.commitNow
  repeat' (first
    | (simp only [↓commitCheck_still, ↓commitRefused_still, ↓copyShadows_still, ↓blkReport_still,
        ↓activeChanged_still, ↓recheck_still, ↓still_mk, ↓still_ite, ite_self, ↓still_dite, dite_eq_ite, ↓apply_ite
        Prod.snd, ↓apply_ite Prod.fst, ↓still_foldl]; done)
    | (with_reducible refine (still_foldl _ (fun s x => ?_) _ _).trans ?_)
    | (with_reducible refine (still_foldl_snd _ (fun r x => ?_) _ _).trans ?_)
    | (with_reducible refine (still_foldl_fst _ (fun r x => ?_) _ _).trans ?_)
    | (with_reducible refine (still_foldl_snd2 _ (fun r x => ?_) _ _).trans ?_)
    | (simp only [↓commitCheck_still, ↓commitRefused_still, ↓copyShadows_still, ↓blkReport_still,
        ↓activeChanged_still, ↓recheck_still, ↓still_mk, ↓still_ite, ite_self, ↓still_dite, dite_eq_ite, ↓apply_ite
        Prod.snd, ↓apply_ite Prod.fst, ↓still_foldl])
    | (with_reducible refine ite_eq_of ?_ ?_)
    | split)

theorem arm_still (a0 a1) :
    (State.arm a0 a1).still = a0.still := by
  unfold State.arm
  simp only [↓setF_still]

theorem stageCtl_still (a0 a1 a2) :
    (State.stageCtl a0 a1 a2).still = a0.still := by
  unfold State.stageCtl
  simp only [↓discard_still, ↓commitNow_still, ↓disarm_still, ↓parityNew_still, ↓setF_still, ↓arm_still, ↓still_mk,
      ↓still_ite, ite_self]

theorem headerWrite_still (a0 a1 a2 a3) :
    (State.headerWrite a0 a1 a2 a3).still = a0.still := by
  unfold State.headerWrite
  simp only [↓blkCtl_still, ↓intClear_still, ↓parityNew_still, ↓raiseMask_still, ↓setF_still, ↓stageCtl_still,
      ↓writeReg_still, ↓still_mk, ↓still_ite, ite_self]

theorem engEvt_still (a0 a1 a2) :
    (State.engEvt a0 a1 a2).still = a0.still := by
  unfold State.engEvt
  simp only [↓engIrq_still, ↓setEf_still]

theorem ucRefused_still (a0 a1) :
    (State.ucRefused a0 a1).still = a0.still := by
  unfold State.ucRefused
  simp only [↓engEvt_still]

theorem engStart_still (a0 a1) :
    (State.engStart a0 a1).still = a0.still := by
  unfold State.engStart
  simp only [↓modEng_still, ↓setRun_still, ↓setEf_still]

theorem engFault_still (a0 a1 a2 a3) :
    (State.engFault a0 a1 a2 a3).still = a0.still := by
  unfold State.engFault
  simp only [↓setEf_still, ↓setRun_still, ↓engEvt_still, ↓logRecord_still]

theorem goldNote_still (a0 a1) :
    (State.goldNote a0 a1).still = a0.still := by
  unfold State.goldNote
  split <;> simp only [↓setF_still, ↓setSram_still, ↓still_mk, ↓still_ite, ite_self]

theorem memCount_still (a0 a1 a2 a3) :
    (State.memCount a0 a1 a2 a3).still = a0.still := by
  unfold State.memCount
  simp only [↓count32_still, ↓raise_still, ↓setF_still, ↓still_mk, ↓still_ite, ite_self]

theorem sramUe_still (a0 a1 a2) :
    (State.sramUe a0 a1 a2).still = a0.still := by
  unfold State.sramUe
  simp only [↓setSram_still, ↓goldNote_still, ↓memCount_still, ↓setReg_still, ↓setB_still, ↓setF_still,
      ↓logRecord_still, ↓raise_still]

theorem pageRepair_still (a0 a1) :
    (State.pageRepair a0 a1).still = a0.still := by
  unfold State.pageRepair
  simp only [↓setSram_still]

theorem sramRead_still (a0 a1 a2) :
    (State.sramRead a0 a1 a2).2.still = a0.still := by
  unfold State.sramRead
  repeat' (first
    | (simp only [↓sramUe_still, ↓memCount_still, ↓pageRepair_still, ↓perf_still, ↓still_mk, ↓still_ite, ite_self,
        ↓still_dite, dite_eq_ite, ↓apply_ite Prod.snd, ↓apply_ite Prod.fst, ↓still_foldl]; done)
    | (with_reducible refine (still_foldl _ (fun s x => ?_) _ _).trans ?_)
    | (with_reducible refine (still_foldl_snd _ (fun r x => ?_) _ _).trans ?_)
    | (with_reducible refine (still_foldl_fst _ (fun r x => ?_) _ _).trans ?_)
    | (with_reducible refine (still_foldl_snd2 _ (fun r x => ?_) _ _).trans ?_)
    | (simp only [↓sramUe_still, ↓memCount_still, ↓pageRepair_still, ↓perf_still, ↓still_mk, ↓still_ite, ite_self,
        ↓still_dite, dite_eq_ite, ↓apply_ite Prod.snd, ↓apply_ite Prod.fst, ↓still_foldl])
    | (with_reducible refine ite_eq_of ?_ ?_)
    | split)

theorem setFlags_still (a0 a1 a2 a3) :
    (State.setFlags a0 a1 a2 a3).still = a0.still := by
  unfold State.setFlags
  simp only [↓modEng_still]

theorem dataWords_still (s : State) (e a k : Nat) : (s.dataWords e a k).1.still = s.still := by
  induction k generalizing s a with
  | zero => rfl
  | succ k ih =>
    unfold dataWords
    dsimp only
    split
    · exact sramRead_still ..
    · exact (ih _ _).trans (sramRead_still ..)

theorem doLoad_still (s : State) (e : Nat) (op : LoadOp) (d a i : Nat) : (s.doLoad e op d a i).1.still = s.still := by
  unfold doLoad
  dsimp only
  have hw := dataWords_still s e ((s.scalar e a + sext18 i).toNat / 4 * 4) 1
  split
  · rfl
  · split
    · rename_i h; rw [h] at hw; simp only [↓modEng_still, ↓setScalar_still, hw]
    · rename_i h; rw [h] at hw; exact hw

theorem sramWrite_still (a0 a1 a2) :
    (State.sramWrite a0 a1 a2).still = a0.still := by
  unfold State.sramWrite
  repeat' (first
    | (simp only [↓raise_still, ↓memCount_still, ↓setSram_still, ↓sramPoke_still, ↓still_mk, ↓still_ite, ite_self,
        ↓still_dite, dite_eq_ite, ↓apply_ite Prod.snd, ↓apply_ite Prod.fst, ↓still_foldl]; done)
    | (with_reducible refine (still_foldl _ (fun s x => ?_) _ _).trans ?_)
    | (with_reducible refine (still_foldl_snd _ (fun r x => ?_) _ _).trans ?_)
    | (with_reducible refine (still_foldl_fst _ (fun r x => ?_) _ _).trans ?_)
    | (with_reducible refine (still_foldl_snd2 _ (fun r x => ?_) _ _).trans ?_)
    | (simp only [↓raise_still, ↓memCount_still, ↓setSram_still, ↓sramPoke_still, ↓still_mk, ↓still_ite, ite_self,
        ↓still_dite, dite_eq_ite, ↓apply_ite Prod.snd, ↓apply_ite Prod.fst, ↓still_foldl])
    | (with_reducible refine ite_eq_of ?_ ?_)
    | split)

theorem doStore_still (a0 a1 a2 a3 a4 a5) :
    (State.doStore a0 a1 a2 a3 a4 a5).1.still = a0.still := by
  unfold State.doStore
  repeat' (first
    | (simp only [↓sramWrite_still, ↓still_mk, ↓still_ite, ite_self, ↓still_dite, dite_eq_ite, ↓apply_ite Prod.snd,
        ↓apply_ite Prod.fst, ↓still_foldl]; done)
    | (with_reducible refine (still_foldl _ (fun s x => ?_) _ _).trans ?_)
    | (with_reducible refine (still_foldl_snd _ (fun r x => ?_) _ _).trans ?_)
    | (with_reducible refine (still_foldl_fst _ (fun r x => ?_) _ _).trans ?_)
    | (with_reducible refine (still_foldl_snd2 _ (fun r x => ?_) _ _).trans ?_)
    | (simp only [↓sramWrite_still, ↓still_mk, ↓still_ite, ite_self, ↓still_dite, dite_eq_ite, ↓apply_ite Prod.snd,
        ↓apply_ite Prod.fst, ↓still_foldl])
    | (with_reducible refine ite_eq_of ?_ ?_)
    | split)

theorem doLoop_still (a0 a1 a2 a3 a4) :
    (State.doLoop a0 a1 a2 a3 a4).1.still = a0.still := by
  unfold State.doLoop
  repeat' (first
    | (simp only [↓modEng_still, ↓still_mk, ↓still_ite, ite_self, ↓still_dite, dite_eq_ite, ↓apply_ite Prod.snd,
        ↓apply_ite Prod.fst, ↓still_foldl]; done)
    | (with_reducible refine (still_foldl _ (fun s x => ?_) _ _).trans ?_)
    | (with_reducible refine (still_foldl_snd _ (fun r x => ?_) _ _).trans ?_)
    | (with_reducible refine (still_foldl_fst _ (fun r x => ?_) _ _).trans ?_)
    | (with_reducible refine (still_foldl_snd2 _ (fun r x => ?_) _ _).trans ?_)
    | (simp only [↓modEng_still, ↓still_mk, ↓still_ite, ite_self, ↓still_dite, dite_eq_ite, ↓apply_ite Prod.snd,
        ↓apply_ite Prod.fst, ↓still_foldl])
    | (with_reducible refine ite_eq_of ?_ ?_)
    | split)

theorem primRead_still (a0 a1 a2) :
    (State.primRead a0 a1 a2).2.still = a0.still := by
  unfold State.primRead
  simp only [↓modEng_still, ↓still_mk, ↓still_ite, ite_self]

theorem setP_still (a0 a1 a2) :
    (State.setP a0 a1 a2).still = a0.still := by
  unfold State.setP
  simp only [↓modEng_still]

theorem doPrd_still (a0 a1 a2 a3 a4) :
    (State.doPrd a0 a1 a2 a3 a4).1.still = a0.still := by
  unfold State.doPrd
  simp only [↓primRead_still, ↓setP_still, ↓setScalar_still]

theorem setRxWord_still (a0 a1 a2 a3 a4) :
    (State.setRxWord a0 a1 a2 a3 a4).still = a0.still := by
  unfold State.setRxWord
  simp only [↓modLane_still, ↓setF_still, ↓still_mk, ↓still_ite, ite_self]

theorem setTxWord_still (a0 a1 a2 a3 a4) :
    (State.setTxWord a0 a1 a2 a3 a4).still = a0.still := by
  unfold State.setTxWord
  simp only [↓modLane_still]

theorem putShadow_still (a0 a1 a2 a3) :
    (State.putShadow a0 a1 a2 a3).still = a0.still := by
  unfold State.putShadow
  simp only [↓still_mk]

theorem txSwap_still (a0 a1) :
    (State.txSwap a0 a1).still = a0.still := by
  unfold State.txSwap
  simp only [↓setF_still, ↓putShadow_still, ↓still_mk, ↓still_ite, ite_self]

theorem phofsStep_still (a0 a1 a2) :
    (State.phofsStep a0 a1 a2).still = a0.still := by
  unfold State.phofsStep
  simp only [↓setF_still]

theorem eyeCtl_still (a0 a1 a2) :
    (State.eyeCtl a0 a1 a2).still = a0.still := by
  unfold State.eyeCtl
  simp only [↓writeReg_still, ↓modLane_still, ↓setB_still, ↓setF_still, ↓setReg_still, ↓still_mk, ↓still_ite,
      ite_self]

theorem setPrim_still (a0 a1 a2) :
    (State.setPrim a0 a1 a2).still = a0.still := by
  unfold State.setPrim
  simp only [↓still_mk]

theorem gaAck_still (a0 a1 a2) :
    (State.gaAck a0 a1 a2).still = a0.still := by
  unfold State.gaAck
  simp only [↓setPrim_still]

theorem setHostWord_still (a0 a1 a2 a3 a4) :
    (State.setHostWord a0 a1 a2 a3 a4).still = a0.still := by
  unfold State.setHostWord
  simp only [↓modHlane_still]

theorem hostSwap_still (a0 a1) :
    (State.hostSwap a0 a1).still = a0.still := by
  unfold State.hostSwap
  simp only [↓setF_still, ↓putShadow_still, ↓still_mk, ↓still_ite, ite_self]

theorem hostToUp_still (a0 a1) :
    (State.hostToUp a0 a1).still = a0.still := by
  unfold State.hostToUp
  simp only [↓modHlane_still, ↓raise_still, ↓setHostState_still, ↓still_mk, ↓still_ite, ite_self]

theorem trainEval_still (a0 a1) :
    (State.trainEval a0 a1).still = a0.still := by
  unfold State.trainEval
  simp only [↓hostToUp_still, ↓still_mk, ↓still_ite, ite_self]

theorem mbxDone_still (a0 a1 a2) :
    (State.mbxDone a0 a1 a2).still = a0.still := by
  unfold State.mbxDone
  simp only [↓setReg_still, ↓setEf_still, ↓engEvt_still, ↓still_mk, ↓still_ite, ite_self]

theorem mbxNote_still (a0 a1 a2) :
    (State.mbxNote a0 a1 a2).still = a0.still := by
  unfold State.mbxNote
  simp only [↓engEvt_still, ↓setEf_still]

theorem pwrRsp_still (a0 a1 a2) :
    (State.pwrRsp a0 a1 a2).still = a0.still := by
  unfold State.pwrRsp
  simp only [↓modEng_still]

theorem pairMismatch_still (a0 a1 a2) :
    (State.pairMismatch a0 a1 a2).still = a0.still := by
  unfold State.pairMismatch
  simp only [↓setF_still, ↓raise_still, ↓still_mk, ↓still_ite, ite_self]

theorem gaCtl_still (s t : State) (k : Nat) (v : Word) (h : s.gaCtl k v = some t) : t.still = s.still := by
  unfold gaCtl at h; dsimp only at h; split at h
  · cases h
  · cases h; exact setPrim_still ..

theorem histCtl_still (s t : State) (k : Nat) (v : Word) (h : s.histCtl k v = some t) : t.still = s.still := by
  unfold histCtl at h; dsimp only at h; split at h
  · cases h
  · cases h; exact setPrim_still ..

theorem statWrite_still (s t : State) (k a : Nat) (v : Word) (h : s.statWrite k a v = some t) : t.still = s.still := by
  unfold statWrite at h
  split at h
  · exact gaCtl_still s t k v h
  · split at h
    · cases h; exact gaAck_still ..
    · split at h
      · exact histCtl_still s t k v h
      · split at h
        · cases h; exact setPrim_still ..
        · cases h

theorem rxSwap_still (s t : State) (n : Nat) (h : s.rxSwap n = some t) : t.still = s.still := by
  unfold rxSwap at h; dsimp only at h; split at h
  · cases h
  · cases h; simp only [↓rxBankUse_still, ↓still_ite, ↓putShadow_still, ↓setF_still, ite_self]

theorem slotMap_still (s t : State) (n a b : Nat) (h : s.slotMap n a b = some t) : t.still = s.still := by
  unfold slotMap at h; dsimp only at h; split at h
  · cases h
  · cases h; exact modLane_still ..

theorem lineWrite_still (s t : State) (n a : Nat) (v : Word) (h : s.lineWrite n a v = some t) : t.still = s.still := by
  unfold lineWrite at h
  dsimp only at h
  split at h
  · split at h
    · cases h
    · cases h; exact setRxWord_still ..
  · split at h
    · split at h
      · cases h
      · cases h; exact setTxWord_still ..
    · split at h
      · split at h
        · cases h
        · cases h; exact setTxWord_still ..
      · split at h
        · exact rxSwap_still s t n h
        · split at h
          · cases h; exact txSwap_still ..
          · split at h
            · cases h; exact setReg_still ..
            · split at h
              · cases h; exact phofsStep_still ..
              · split at h
                · exact slotMap_still s t n _ _ h
                · split at h
                  · cases h; exact eyeCtl_still ..
                  · split at h
                    · cases h; exact writeReg_still ..
                    · exact statWrite_still s t n a v h

theorem trnReq_still (s t : State) (m : Nat) (v : Word) (h : s.trnReq m v = some t) : t.still = s.still := by
  unfold trnReq at h; split at h
  · cases h
  · cases h; exact send_still ..

theorem trnReady_still (s t : State) (m : Nat) (v : Word) (h : s.trnReady m v = some t) : t.still = s.still := by
  unfold trnReady at h; split at h
  · cases h
  · cases h; simp only [↓trainEval_still, ↓setB_still]

theorem hostWrite_still (s t : State) (m a : Nat) (v : Word) (h : s.hostWrite m a v = some t) : t.still = s.still := by
  unfold hostWrite at h
  dsimp only at h
  split at h
  · split at h
    · cases h
    · cases h; exact setHostWord_still ..
  · split at h
    · cases h; exact hostSwap_still ..
    · split at h
      · cases h; exact setReg_still ..
      · split at h
        · exact trnReq_still s t m v h
        · split at h
          · exact trnReady_still s t m v h
          · exact statWrite_still s t _ a v h

theorem primWrite_still (s t : State) (e a : Nat) (v : Word) (h : s.primWrite e a v = some t) : t.still = s.still := by
  unfold primWrite at h
  split at h
  · split at h
    · exact lineWrite_still s t e a v h
    · exact hostWrite_still s t _ a v h
  · split at h <;> first
      | cases h; done
      | (cases h; first
          | exact modEng_still ..
          | exact mbxDone_still ..
          | exact mbxNote_still ..
          | exact setReg_still ..
          | exact pwrRsp_still ..)
      | (split at h <;> cases h; exact modEng_still ..)

theorem primStore_still (s : State) (e a : Nat) (v : Word) : (s.primStore e a v).still = s.still := by
  unfold primStore
  split
  · rename_i t h; rw [setP_still, primWrite_still s t e a v h]
  · simp only [↓setP_still, ↓still_ite, ↓pairMismatch_still, ite_self]

theorem setVreg_still (a0 a1 a2 a3) :
    (State.setVreg a0 a1 a2 a3).still = a0.still := by
  unfold State.setVreg
  simp only [↓modEng_still]

theorem doVldp_still (a0 a1 a2 a3 a4) :
    (State.doVldp a0 a1 a2 a3 a4).1.still = a0.still := by
  unfold State.doVldp
  simp only [↓modEng_still, ↓setP_still, ↓setVreg_still, ↓still_mk, ↓still_ite, ite_self]

theorem doVstp_still (a0 a1 a2 a3 a4) :
    (State.doVstp a0 a1 a2 a3 a4).1.still = a0.still := by
  unfold State.doVstp
  repeat' (first
    | (simp only [↓primStore_still, ↓setP_still, ↓still_mk, ↓still_ite, ite_self, ↓still_dite, dite_eq_ite, ↓apply_ite
        Prod.snd, ↓apply_ite Prod.fst, ↓still_foldl]; done)
    | (with_reducible refine (still_foldl _ (fun s x => ?_) _ _).trans ?_)
    | (with_reducible refine (still_foldl_snd _ (fun r x => ?_) _ _).trans ?_)
    | (with_reducible refine (still_foldl_fst _ (fun r x => ?_) _ _).trans ?_)
    | (with_reducible refine (still_foldl_snd2 _ (fun r x => ?_) _ _).trans ?_)
    | (simp only [↓primStore_still, ↓setP_still, ↓still_mk, ↓still_ite, ite_self, ↓still_dite, dite_eq_ite, ↓apply_ite
        Prod.snd, ↓apply_ite Prod.fst, ↓still_foldl])
    | (with_reducible refine ite_eq_of ?_ ?_)
    | split)

theorem setAcc_still (a0 a1 a2 a3) :
    (State.setAcc a0 a1 a2 a3).still = a0.still := by
  unfold State.setAcc
  simp only [↓modEng_still]

theorem doVmac_still (a0 a1 a2 a3 a4 a5) :
    (State.doVmac a0 a1 a2 a3 a4 a5).1.still = a0.still := by
  unfold State.doVmac
  simp only [↓setAcc_still]

theorem doVrda_still (a0 a1 a2 a3 a4 a5) :
    (State.doVrda a0 a1 a2 a3 a4 a5).1.still = a0.still := by
  unfold State.doVrda
  simp only [↓setVreg_still, ↓setAcc_still, ↓still_mk, ↓still_ite, ite_self]

theorem doVld_still (s : State) (e d a i : Nat) : (s.doVld e d a i).1.still = s.still := by
  unfold doVld
  dsimp only
  have hw := dataWords_still s e (s.scalar e a + sext18 i).toNat 8
  split
  · rfl
  · split
    · rename_i h; rw [h] at hw; simp only [↓modEng_still, ↓setVreg_still, hw]
    · rename_i h; rw [h] at hw; exact hw

theorem doVst_still (a0 a1 a2 a3 a4) :
    (State.doVst a0 a1 a2 a3 a4).1.still = a0.still := by
  unfold State.doVst
  repeat' (first
    | (simp only [↓sramWrite_still, ↓still_mk, ↓still_ite, ite_self, ↓still_dite, dite_eq_ite, ↓apply_ite Prod.snd,
        ↓apply_ite Prod.fst, ↓still_foldl]; done)
    | (with_reducible refine (still_foldl _ (fun s x => ?_) _ _).trans ?_)
    | (with_reducible refine (still_foldl_snd _ (fun r x => ?_) _ _).trans ?_)
    | (with_reducible refine (still_foldl_fst _ (fun r x => ?_) _ _).trans ?_)
    | (with_reducible refine (still_foldl_snd2 _ (fun r x => ?_) _ _).trans ?_)
    | (simp only [↓sramWrite_still, ↓still_mk, ↓still_ite, ite_self, ↓still_dite, dite_eq_ite, ↓apply_ite Prod.snd,
        ↓apply_ite Prod.fst, ↓still_foldl])
    | (with_reducible refine ite_eq_of ?_ ?_)
    | split)

theorem engExec_still (a0 a1 a2 a3) :
    (State.engExec a0 a1 a2 a3).1.still = a0.still := by
  unfold State.engExec
  repeat' (first
    | (simp only [↓setScalar_still, ↓setFlags_still, ↓doLoad_still, ↓doStore_still, ↓doLoop_still, ↓doPrd_still,
        ↓primStore_still, ↓doVldp_still, ↓doVstp_still, ↓setVreg_still, ↓doVmac_still, ↓doVrda_still, ↓setAcc_still,
        ↓doVld_still, ↓doVst_still, ↓still_mk, ↓still_ite, ite_self, ↓still_dite, dite_eq_ite, ↓apply_ite Prod.snd,
        ↓apply_ite Prod.fst, ↓still_foldl]; done)
    | (with_reducible refine (still_foldl _ (fun s x => ?_) _ _).trans ?_)
    | (with_reducible refine (still_foldl_snd _ (fun r x => ?_) _ _).trans ?_)
    | (with_reducible refine (still_foldl_fst _ (fun r x => ?_) _ _).trans ?_)
    | (with_reducible refine (still_foldl_snd2 _ (fun r x => ?_) _ _).trans ?_)
    | (simp only [↓setScalar_still, ↓setFlags_still, ↓doLoad_still, ↓doStore_still, ↓doLoop_still, ↓doPrd_still,
        ↓primStore_still, ↓doVldp_still, ↓doVstp_still, ↓setVreg_still, ↓doVmac_still, ↓doVrda_still, ↓setAcc_still,
        ↓doVld_still, ↓doVst_still, ↓still_mk, ↓still_ite, ite_self, ↓still_dite, dite_eq_ite, ↓apply_ite Prod.snd,
        ↓apply_ite Prod.fst, ↓still_foldl])
    | (with_reducible refine ite_eq_of ?_ ?_)
    | split)

theorem engOne_still (a0 a1 a2 a3) :
    (State.engOne a0 a1 a2 a3).still = a0.still := by
  unfold State.engOne
  repeat' (first
    | (simp only [↓modEng_still, ↓engExec_still, ↓perf_still, ↓engFault_still, ↓setRun_still, ↓setEf_still,
        ↓addCycles_still, ↓still_mk, ↓still_ite, ite_self, ↓still_dite, dite_eq_ite, ↓apply_ite Prod.snd, ↓apply_ite
        Prod.fst, ↓still_foldl]; done)
    | (with_reducible refine (still_foldl _ (fun s x => ?_) _ _).trans ?_)
    | (with_reducible refine (still_foldl_snd _ (fun r x => ?_) _ _).trans ?_)
    | (with_reducible refine (still_foldl_fst _ (fun r x => ?_) _ _).trans ?_)
    | (with_reducible refine (still_foldl_snd2 _ (fun r x => ?_) _ _).trans ?_)
    | (simp only [↓modEng_still, ↓engExec_still, ↓perf_still, ↓engFault_still, ↓setRun_still, ↓setEf_still,
        ↓addCycles_still, ↓still_mk, ↓still_ite, ite_self, ↓still_dite, dite_eq_ite, ↓apply_ite Prod.snd, ↓apply_ite
        Prod.fst, ↓still_foldl])
    | (with_reducible refine ite_eq_of ?_ ?_)
    | split)

theorem engStep_still (a0 a1) :
    (State.engStep a0 a1).still = a0.still := by
  unfold State.engStep
  repeat' (first
    | (simp only [↓engFault_still, ↓sramRead_still, ↓engOne_still, ↓still_mk, ↓still_ite, ite_self, ↓still_dite,
        dite_eq_ite, ↓apply_ite Prod.snd, ↓apply_ite Prod.fst, ↓still_foldl]; done)
    | (with_reducible refine (still_foldl _ (fun s x => ?_) _ _).trans ?_)
    | (with_reducible refine (still_foldl_snd _ (fun r x => ?_) _ _).trans ?_)
    | (with_reducible refine (still_foldl_fst _ (fun r x => ?_) _ _).trans ?_)
    | (with_reducible refine (still_foldl_snd2 _ (fun r x => ?_) _ _).trans ?_)
    | (simp only [↓engFault_still, ↓sramRead_still, ↓engOne_still, ↓still_mk, ↓still_ite, ite_self, ↓still_dite,
        dite_eq_ite, ↓apply_ite Prod.snd, ↓apply_ite Prod.fst, ↓still_foldl])
    | (with_reducible refine ite_eq_of ?_ ?_)
    | split)

theorem leCtl_still (a0 a1 a2) :
    (State.leCtl a0 a1 a2).still = a0.still := by
  unfold State.leCtl
  simp only [↓writeReg_still, ↓ucRefused_still, ↓bankChanged_still, ↓engStart_still, ↓setRun_still, ↓engStep_still,
      ↓still_mk, ↓still_ite, ite_self]

theorem leEvtWrite_still (a0 a1 a2 a3) :
    (State.leEvtWrite a0 a1 a2 a3).still = a0.still := by
  unfold State.leEvtWrite
  simp only [↓engIrq_still, ↓writeReg_still]

theorem ucDataWrite_still (a0 a1 a2 a3) :
    (State.ucDataWrite a0 a1 a2 a3).still = a0.still := by
  unfold State.ucDataWrite
  simp only [↓ucRefused_still, ↓dbgDenied_still, ↓sramWrite_still, ↓setEf_still, ↓still_mk, ↓still_ite, ite_self]

theorem ucSeal_still (a0 a1 a2 a3) :
    (State.ucSeal a0 a1 a2 a3).still = a0.still := by
  unfold State.ucSeal
  simp only [↓ucRefused_still, ↓setEf_still, ↓modEng_still, ↓still_mk, ↓still_ite, ite_self]

theorem mbxCmd_still (a0 a1 a2) :
    (State.mbxCmd a0 a1 a2).still = a0.still := by
  unfold State.mbxCmd
  simp only [↓setEf_still, ↓writeReg_still, ↓still_mk, ↓still_ite, ite_self]

theorem mbxArg_still (a0 a1 a2 a3) :
    (State.mbxArg a0 a1 a2 a3).still = a0.still := by
  unfold State.mbxArg
  simp only [↓setEf_still, ↓writeReg_still, ↓still_mk, ↓still_ite, ite_self]

theorem engWrite_still (a0 a1 a2 a3 a4) :
    (State.engWrite a0 a1 a2 a3 a4).still = a0.still := by
  unfold State.engWrite
  simp only [↓leCtl_still, ↓leEvtWrite_still, ↓ucDataWrite_still, ↓ucSeal_still, ↓mbxCmd_still, ↓mbxArg_still,
      ↓writeReg_still, ↓still_mk, ↓still_ite, ite_self]

theorem glbWrite_still (a0 a1 a2) :
    (State.glbWrite a0 a1 a2).still = a0.still := by
  unfold State.glbWrite
  simp only [↓writeReg_still, ↓setF_still, ↓still_mk, ↓still_ite, ite_self]

theorem pwrAborted_still (a0 a1) :
    (State.pwrAborted a0 a1).still = a0.still := by
  unfold State.pwrAborted
  simp only [↓setF_still, ↓pwrIdle_still, ↓raise_still, ↓modPwr_still, ↓hsUndo_still]

theorem pwrRequest_still (a0 a1) :
    (State.pwrRequest a0 a1).still = a0.still := by
  unfold State.pwrRequest
  repeat' (first
    | (simp only [↓pwrBad_still, ↓bistCut_still, ↓setF_still, ↓modPwr_still, ↓hsStart_still, ↓pwrAborted_still,
        ↓wakeUp_still, ↓still_mk, ↓still_ite, ite_self, ↓still_dite, dite_eq_ite, ↓apply_ite Prod.snd, ↓apply_ite
        Prod.fst, ↓still_foldl]; done)
    | (with_reducible refine (still_foldl _ (fun s x => ?_) _ _).trans ?_)
    | (with_reducible refine (still_foldl_snd _ (fun r x => ?_) _ _).trans ?_)
    | (with_reducible refine (still_foldl_fst _ (fun r x => ?_) _ _).trans ?_)
    | (with_reducible refine (still_foldl_snd2 _ (fun r x => ?_) _ _).trans ?_)
    | (simp only [↓pwrBad_still, ↓bistCut_still, ↓setF_still, ↓modPwr_still, ↓hsStart_still, ↓pwrAborted_still,
        ↓wakeUp_still, ↓still_mk, ↓still_ite, ite_self, ↓still_dite, dite_eq_ite, ↓apply_ite Prod.snd, ↓apply_ite
        Prod.fst, ↓still_foldl])
    | (with_reducible refine ite_eq_of ?_ ?_)
    | split)

theorem pwrReq_still (a0 a1 a2) :
    (State.pwrReq a0 a1 a2).still = a0.still := by
  unfold State.pwrReq
  simp only [↓wakeUp_still, ↓pwrRequest_still, ↓still_mk, ↓still_ite, ite_self]

theorem pmbStart_still (a0 a1) :
    (State.pmbStart a0 a1).still = a0.still := by
  unfold State.pmbStart
  simp only [↓send_still, ↓modPmb_still, ↓avsUpdate_still]

theorem pwrReached_still (a0 a1) :
    (State.pwrReached a0 a1).still = a0.still := by
  unfold State.pwrReached
  simp only [↓setF_still, ↓setReg_still, ↓modPwr_still, ↓pwrIdle_still, ↓raise_still]

theorem voltEnd_still (a0 a1) :
    (State.voltEnd a0 a1).still = a0.still := by
  unfold State.voltEnd
  repeat' (first
    | (simp only [↓setF_still, ↓modPmb_still, ↓pwrReached_still, ↓modPwr_still, ↓voltBegin_still, ↓still_mk,
        ↓still_ite, ite_self, ↓still_dite, dite_eq_ite, ↓apply_ite Prod.snd, ↓apply_ite Prod.fst, ↓still_foldl]; done)
    | (with_reducible refine (still_foldl _ (fun s x => ?_) _ _).trans ?_)
    | (with_reducible refine (still_foldl_snd _ (fun r x => ?_) _ _).trans ?_)
    | (with_reducible refine (still_foldl_fst _ (fun r x => ?_) _ _).trans ?_)
    | (with_reducible refine (still_foldl_snd2 _ (fun r x => ?_) _ _).trans ?_)
    | (simp only [↓setF_still, ↓modPmb_still, ↓pwrReached_still, ↓modPwr_still, ↓voltBegin_still, ↓still_mk,
        ↓still_ite, ite_self, ↓still_dite, dite_eq_ite, ↓apply_ite Prod.snd, ↓apply_ite Prod.fst, ↓still_foldl])
    | (with_reducible refine ite_eq_of ?_ ?_)
    | split)

theorem pmbCfg_still (a0 a1 a2) :
    (State.pmbCfg a0 a1 a2).still = a0.still := by
  unfold State.pmbCfg
  simp only [↓writeReg_still, ↓pmbStart_still, ↓setF_still, ↓voltEnd_still, ↓still_mk, ↓still_ite, ite_self]

theorem pwrWriteReg_still (a0 a1 a2 a3 a4) :
    (State.pwrWriteReg a0 a1 a2 a3 a4).still = a0.still := by
  unfold State.pwrWriteReg
  simp only [↓pwrReq_still, ↓domReq_still, ↓pmbCfg_still, ↓avsUpdate_still, ↓writeReg_still, ↓wakeHeldPins_still, ↓still_mk,
      ↓still_ite, ite_self]

theorem firmwareRun_still (a0 a1) :
    (State.firmwareRun a0 a1).still = a0.still := by
  unfold State.firmwareRun
  simp only [↓setF_still, ↓setReg_still, ↓still_mk, ↓still_ite, ite_self]

theorem keeperLoad_still (a0 a1) :
    (State.keeperLoad a0 a1).still = a0.still := by
  unfold State.keeperLoad
  simp only [↓firmwareRun_still, ↓still_mk, ↓still_ite, ite_self]

theorem kctl_still (a0 a1 a2 a3) :
    (State.kctl a0 a1 a2 a3).still = a0.still := by
  unfold State.kctl
  simp only [↓parityNew_still, ↓setB_still, ↓perf_still, ↓keeperRestart_still, ↓keeperLoad_still, ↓still_mk,
      ↓still_ite, ite_self]

theorem arbCtl_unfused (a0 a1 a2) :
    (State.arbCtl a0 a1 a2).still.unfused = a0.still.unfused := by
  unfold State.arbCtl
  simp only [↓raise_still, ↓setF_still, ↓unfused_mk, ↓still_mk, ↓still_ite, ↓unfused_ite, ite_self]

theorem kprWrite_unfused (a0 a1 a2 a3 a4) :
    (State.kprWrite a0 a1 a2 a3 a4).still.unfused = a0.still.unfused := by
  unfold State.kprWrite
  simp only [↓kctl_still, ↓arbCtl_unfused, ↓writeReg_still, ↓unfused_mk, ↓still_mk, ↓still_ite, ↓unfused_ite,
      ite_self]

theorem fuseStart_unfused (a0 a1) :
    (State.fuseStart a0 a1).still.unfused = a0.still.unfused := by
  unfold State.fuseStart
  simp only [↓setF_still, ↓unfused_mk, ↓still_mk]

theorem lcCtl_unfused (a0 a1 a2) :
    (State.lcCtl a0 a1 a2).still.unfused = a0.still.unfused := by
  unfold State.lcCtl
  simp only [↓fuseStart_unfused, ↓setF_still, ↓unfused_mk, ↓still_mk, ↓still_ite, ↓unfused_ite, ite_self]

theorem secWrite_unfused (a0 a1 a2 a3) :
    (State.secWrite a0 a1 a2 a3).still.unfused = a0.still.unfused := by
  unfold State.secWrite
  simp only [↓lcCtl_unfused, ↓parityNew_still, ↓setReg_still, ↓writeReg_still, ↓unfused_mk, ↓still_mk, ↓still_ite,
      ↓unfused_ite, ite_self]

theorem dbgResult_still (a0 a1) :
    (State.dbgResult a0 a1).still = a0.still := by
  unfold State.dbgResult
  simp only [↓setReg_still, ↓raise_still, ↓still_mk, ↓still_ite, ite_self]

theorem dbgGrant_still (a0 a1 a2) :
    (State.dbgGrant a0 a1 a2).still = a0.still := by
  unfold State.dbgGrant
  simp only [↓setF_still, ↓raise_still, ↓dbgResult_still, ↓still_mk]

theorem dbgRequest_still (a0 a1) :
    (State.dbgRequest a0 a1).still = a0.still := by
  unfold State.dbgRequest
  simp only [↓dbgGrant_still, ↓dbgResult_still, ↓still_mk, ↓still_ite, ite_self]

theorem dbgSubmit_still (a0) :
    (State.dbgSubmit a0).still = a0.still := by
  unfold State.dbgSubmit
  simp only [↓dbgResult_still, ↓setF_still, ↓still_mk, ↓still_ite, ite_self]

theorem chalNew_still (a0) :
    (State.chalNew a0).still = a0.still := by
  unfold State.chalNew
  repeat' (first
    | (simp only [↓draw_still, ↓setReg_still, ↓still_mk, ↓still_ite, ite_self, ↓still_dite, dite_eq_ite, ↓apply_ite
        Prod.snd, ↓apply_ite Prod.fst, ↓still_foldl]; done)
    | (with_reducible refine (still_foldl _ (fun s x => ?_) _ _).trans ?_)
    | (with_reducible refine (still_foldl_snd _ (fun r x => ?_) _ _).trans ?_)
    | (with_reducible refine (still_foldl_fst _ (fun r x => ?_) _ _).trans ?_)
    | (with_reducible refine (still_foldl_snd2 _ (fun r x => ?_) _ _).trans ?_)
    | (simp only [↓draw_still, ↓setReg_still, ↓still_mk, ↓still_ite, ite_self, ↓still_dite, dite_eq_ite, ↓apply_ite
        Prod.snd, ↓apply_ite Prod.fst, ↓still_foldl])
    | (with_reducible refine ite_eq_of ?_ ?_)
    | split)

theorem dbgClose_still (a0 a1) :
    (State.dbgClose a0 a1).still = a0.still := by
  unfold State.dbgClose
  simp only [↓setF_still, ↓raise_still, ↓still_mk, ↓still_ite, ite_self]

theorem dbgCtl_still (a0 a1) :
    (State.dbgCtl a0 a1).still = a0.still := by
  unfold State.dbgCtl
  simp only [↓dbgRequest_still, ↓dbgSubmit_still, ↓chalNew_still, ↓dbgClose_still, ↓still_mk, ↓still_ite, ite_self]

theorem dbgWrite_still (a0 a1 a2) :
    (State.dbgWrite a0 a1 a2).still = a0.still := by
  unfold State.dbgWrite
  simp only [↓dbgCtl_still, ↓setReg_still, ↓writeReg_still, ↓still_mk, ↓still_ite, ite_self]

theorem cfgResult_still (a0 a1) :
    (State.cfgResult a0 a1).still = a0.still := by
  unfold State.cfgResult
  simp only [↓setF_still]

theorem cfgApply_still (a0 a1) :
    (State.cfgApply a0 a1).still = a0.still := by
  unfold State.cfgApply
  simp only [↓cfgResult_still, ↓modCfgv_still, ↓setPhase_still, ↓still_mk, ↓still_ite, ite_self]

theorem cfgTimerOff_still (a0) :
    (State.cfgTimerOff a0).still = a0.still := by
  unfold State.cfgTimerOff
  simp only [↓modCfgv_still, ↓setF_still]

theorem cfgConfirm_still (a0 a1) :
    (State.cfgConfirm a0 a1).still = a0.still := by
  unfold State.cfgConfirm
  simp only [↓setPhase_still, ↓cfgTimerOff_still, ↓raise_still, ↓cfgResult_still, ↓still_mk, ↓still_ite, ite_self]

theorem rollbackMissing_still (a0) :
    (State.rollbackMissing a0).still = a0.still := by
  unfold State.rollbackMissing
  simp only [↓raise_still, ↓setF_still, ↓cfgResult_still, ↓setPhase_still, ↓cfgTimerOff_still]

theorem rollbackStart_still (a0) :
    (State.rollbackStart a0).still = a0.still := by
  unfold State.rollbackStart
  simp only [↓rollbackMissing_still, ↓modCfgv_still, ↓setPhase_still, ↓cfgTimerOff_still, ↓still_mk, ↓still_ite,
      ite_self]

theorem cfgRollback_still (a0 a1) :
    (State.cfgRollback a0 a1).still = a0.still := by
  unfold State.cfgRollback
  simp only [↓rollbackStart_still, ↓cfgResult_still, ↓still_mk, ↓still_ite, ite_self]

theorem cfgvWrite_still (a0 a1 a2) :
    (State.cfgvWrite a0 a1 a2).still = a0.still := by
  unfold State.cfgvWrite
  simp only [↓cfgApply_still, ↓cfgConfirm_still, ↓cfgRollback_still, ↓writeReg_still, ↓still_mk, ↓still_ite, ite_self]

theorem memRefused_still (a0) :
    (State.memRefused a0).still = a0.still := by
  unfold State.memRefused
  simp only [↓setF_still]

theorem memSeal_still (a0 a1 a2) :
    (State.memSeal a0 a1 a2).still = a0.still := by
  unfold State.memSeal
  simp only [↓memRefused_still, ↓setSram_still, ↓setF_still, ↓still_mk, ↓still_ite, ite_self]

theorem goldShow_still (a0) :
    (State.goldShow a0).still = a0.still := by
  unfold State.goldShow
  simp only [↓setB_still]

theorem sramForget_still (a0 a1) :
    (State.sramForget a0 a1).still = a0.still := by
  unfold State.sramForget
  simp only [↓setSram_still]

theorem memInval_still (a0 a1) :
    (State.memInval a0 a1).still = a0.still := by
  unfold State.memInval
  simp only [↓logFree_still, ↓setF_still, ↓goldShow_still, ↓sramForget_still, ↓still_mk, ↓still_ite, ite_self]

theorem memRepair_still (a0 a1) :
    (State.memRepair a0 a1).still = a0.still := by
  unfold State.memRepair
  simp only [↓writeReg_still, ↓memRefused_still, ↓setSram_still, ↓still_mk, ↓still_ite, ite_self]

theorem memWriteReg_still (a0 a1 a2 a3) :
    (State.memWriteReg a0 a1 a2 a3).still = a0.still := by
  unfold State.memWriteReg
  simp only [↓memSeal_still, ↓memInval_still, ↓memRepair_still, ↓writeReg_still, ↓still_mk, ↓still_ite, ite_self]

theorem ddrCfg_still (a0 a1) :
    (State.ddrCfg a0 a1).still = a0.still := by
  unfold State.ddrCfg
  simp only [↓writeReg_still, ↓setF_still, ↓modDdr_still, ↓still_mk, ↓still_ite, ite_self]

theorem ddrSealPage_still (a0 a1) :
    (State.ddrSealPage a0 a1).still = a0.still := by
  unfold State.ddrSealPage
  simp only [↓modDdr_still]

theorem ddrSeal_still (a0 a1) :
    (State.ddrSeal a0 a1).still = a0.still := by
  unfold State.ddrSeal
  simp only [↓ddrSealPage_still, ↓setReg_still, ↓still_mk, ↓still_ite, ite_self]

theorem ddrPv_still (a0 a1) :
    (State.ddrPv a0 a1).still = a0.still := by
  unfold State.ddrPv
  simp only [↓setF_still, ↓ddrForget_still, ↓still_mk, ↓still_ite, ite_self]

theorem ddrWriteReg_still (a0 a1 a2) :
    (State.ddrWriteReg a0 a1 a2).still = a0.still := by
  unfold State.ddrWriteReg
  simp only [↓ddrCfg_still, ↓ddrSeal_still, ↓ddrPv_still, ↓writeReg_still, ↓setReg_still, ↓still_mk, ↓still_ite,
      ite_self]

theorem dmaRefused_still (a0) :
    (State.dmaRefused a0).still = a0.still := by
  unfold State.dmaRefused
  simp only [↓flag_still]

theorem tapLost_still (a0 a1) :
    (State.tapLost a0 a1).still = a0.still := by
  unfold State.tapLost
  simp only [↓satReg_still, ↓still_mk]

theorem tapFill_still (a0) :
    (State.tapFill a0).still = a0.still := by
  unfold State.tapFill
  simp only [↓setF_still]

theorem tapClose_still (a0) :
    (State.tapClose a0).still = a0.still := by
  unfold State.tapClose
  split <;> simp only [↓countFlag32_still, ↓perf_still, ↓flag_still, ↓tapLost_still, ↓sramWrite_still, ↓tapFill_still,
      ↓still_mk, ↓still_ite, ite_self]

theorem tapDue_still (a0) :
    (State.tapDue a0).still = a0.still := by
  unfold State.tapDue
  split <;> simp only [↓tapClose_still, ↓still_mk, ↓still_ite, ite_self]

theorem tapCtl_still (a0 a1) :
    (State.tapCtl a0 a1).still = a0.still := by
  unfold State.tapCtl
  simp only [↓dmaRefused_still, ↓writeReg_still, ↓tapClose_still, ↓tapDue_still, ↓setB_still, ↓still_mk, ↓still_ite,
      ite_self]

theorem tapPlace_still (a0 a1 a2) :
    (State.tapPlace a0 a1 a2).still = a0.still := by
  unfold State.tapPlace
  simp only [↓writeReg_still, ↓tapFill_still, ↓still_mk]

theorem dmaStop_still (a0 a1) :
    (State.dmaStop a0 a1).still = a0.still := by
  unfold State.dmaStop
  simp only [↓dmaGoto_still, ↓modDma_still, ↓still_mk, ↓still_ite, ite_self]

theorem dmaBoundary_still (a0 a1 a2 a3) :
    (State.dmaBoundary a0 a1 a2 a3).still = a0.still := by
  unfold State.dmaBoundary
  simp only [↓modDma_still, ↓dmaGoto_still, ↓dmaGo_still, ↓still_mk, ↓still_ite, ite_self]

theorem dmaComplete_still (a0 a1 a2 a3 a4 a5) :
    (State.dmaComplete a0 a1 a2 a3 a4 a5).still = a0.still := by
  unfold State.dmaComplete
  simp only [↓sramWrite_still, ↓tlp_still, ↓send_still, ↓setReg_still, ↓setF_still, ↓raise_still, ↓dmaBoundary_still,
      ↓still_mk, ↓still_ite, ite_self]

theorem dmaAbort_still (a0 a1) :
    (State.dmaAbort a0 a1).still = a0.still := by
  unfold State.dmaAbort
  split <;> simp only [↓dmaStop_still, ↓dmaComplete_still, ↓still_mk, ↓still_ite, ite_self]

theorem dmaCtl_still (a0 a1 a2) :
    (State.dmaCtl a0 a1 a2).still = a0.still := by
  unfold State.dmaCtl
  simp only [↓writeReg_still, ↓dmaRefused_still, ↓dmaGo_still, ↓dmaStop_still, ↓dmaAbort_still, ↓still_mk, ↓still_ite,
      ite_self]

theorem dmaTail_still (a0 a1 a2) :
    (State.dmaTail a0 a1 a2).still = a0.still := by
  unfold State.dmaTail
  simp only [↓writeReg_still, ↓dmaGo_still, ↓still_mk, ↓still_ite, ite_self]

theorem dmaRing_still (a0 a1 a2 a3) :
    (State.dmaRing a0 a1 a2 a3).still = a0.still := by
  unfold State.dmaRing
  simp only [↓dmaRefused_still, ↓writeReg_still, ↓setReg_still, ↓still_mk, ↓still_ite, ite_self]

theorem dmaWriteReg_still (a0 a1 a2) :
    (State.dmaWriteReg a0 a1 a2).still = a0.still := by
  unfold State.dmaWriteReg
  simp only [↓tapCtl_still, ↓tapPlace_still, ↓writeReg_still, ↓dmaCtl_still, ↓dmaTail_still, ↓dmaRing_still,
      ↓still_mk, ↓still_ite, ite_self]

theorem logRefused_still (a0) :
    (State.logRefused a0).still = a0.still := by
  unfold State.logRefused
  simp only [↓flag_still]

theorem logCtl_still (a0 a1) :
    (State.logCtl a0 a1).still = a0.still := by
  unfold State.logCtl
  simp only [↓anchClr_still, ↓logRefused_still, ↓setB_still, ↓still_mk, ↓still_ite, ite_self]

theorem logRegion_still (a0 a1 a2) :
    (State.logRegion a0 a1 a2).still = a0.still := by
  unfold State.logRegion
  simp only [↓logRefused_still, ↓writeReg_still, ↓still_mk, ↓still_ite, ite_self]

theorem hrec_still (a0 a1) :
    (State.hrec a0 a1).still = a0.still := by
  unfold State.hrec
  simp only [↓logRefused_still, ↓logRecord_still, ↓still_mk, ↓still_ite, ite_self]

theorem logWriteReg_still (a0 a1 a2) :
    (State.logWriteReg a0 a1 a2).still = a0.still := by
  unfold State.logWriteReg
  simp only [↓logCtl_still, ↓logRegion_still, ↓hrec_still, ↓writeReg_still, ↓still_mk, ↓still_ite, ite_self]

theorem pcieWrite_still (a0 a1 a2) :
    (State.pcieWrite a0 a1 a2).still = a0.still := by
  unfold State.pcieWrite
  simp only [↓writeReg_still, ↓setF_still, ↓still_mk, ↓still_ite, ite_self]

theorem timeSnap_still (a0) :
    (State.timeSnap a0).still = a0.still := by
  unfold State.timeSnap
  repeat' (first
    | (simp only [↓setReg_still, ↓setF_still, ↓still_mk, ↓still_ite, ite_self, ↓still_dite, dite_eq_ite, ↓apply_ite
        Prod.snd, ↓apply_ite Prod.fst, ↓still_foldl]; done)
    | (with_reducible refine (still_foldl _ (fun s x => ?_) _ _).trans ?_)
    | (with_reducible refine (still_foldl_snd _ (fun r x => ?_) _ _).trans ?_)
    | (with_reducible refine (still_foldl_fst _ (fun r x => ?_) _ _).trans ?_)
    | (with_reducible refine (still_foldl_snd2 _ (fun r x => ?_) _ _).trans ?_)
    | (simp only [↓setReg_still, ↓setF_still, ↓still_mk, ↓still_ite, ite_self, ↓still_dite, dite_eq_ite, ↓apply_ite
        Prod.snd, ↓apply_ite Prod.fst, ↓still_foldl])
    | (with_reducible refine ite_eq_of ?_ ?_)
    | split)

theorem tpiPop_still (a0 a1) :
    (State.tpiPop a0 a1).still = a0.still := by
  unfold State.tpiPop
  simp only [↓setF_still, ↓still_mk]

theorem stepCancel_still (a0 a1) :
    (State.stepCancel a0 a1).still = a0.still := by
  unfold State.stepCancel
  simp only [↓setF_still, ↓still_mk]

theorem tbSeed_still (a0 a1) :
    (State.tbSeed a0 a1).still = a0.still := by
  unfold State.tbSeed
  simp only [↓setF_still]

theorem stepRefuse_still (a0 a1) :
    (State.stepRefuse a0 a1).still = a0.still := by
  unfold State.stepRefuse
  simp only [↓flag_still]

theorem stepGo_still (a0 a1) :
    (State.stepGo a0 a1).still = a0.still := by
  unfold State.stepGo
  simp only [↓stepRefuse_still, ↓setF_still, ↓still_mk, ↓still_ite, ite_self]

theorem tbCtl_still (a0 a1 a2) :
    (State.tbCtl a0 a1 a2).still = a0.still := by
  unfold State.tbCtl
  simp only [↓writeReg_still, ↓tbStopped_still, ↓setF_still, ↓stepCancel_still, ↓tbSeed_still, ↓setReg_still,
      ↓stepGo_still, ↓still_mk, ↓still_ite, ite_self]

theorem timeWrite_still (a0 a1 a2) :
    (State.timeWrite a0 a1 a2).still = a0.still := by
  unfold State.timeWrite
  simp only [↓timeSnap_still, ↓tpiPop_still, ↓tbCtl_still, ↓writeReg_still, ↓still_mk, ↓still_ite, ite_self]

theorem setPtsu_still (a0 a1 a2) :
    (State.setPtsu a0 a1 a2).still = a0.still := by
  unfold State.setPtsu
  simp only [↓still_mk]

theorem ptPop_still (a0 a1) :
    (State.ptPop a0 a1).still = a0.still := by
  unfold State.ptPop
  simp only [↓setPtsu_still, ↓still_mk, ↓still_ite, ite_self]

theorem ltPop_still (a0) :
    (State.ltPop a0).still = a0.still := by
  unfold State.ltPop
  simp only [↓setLtsu_still, ↓still_mk, ↓still_ite, ite_self]

theorem tsuWrite_still (a0 a1 a2) :
    (State.tsuWrite a0 a1 a2).still = a0.still := by
  unfold State.tsuWrite
  repeat' (first
    | (simp only [↓setPtsu_still, ↓ptPop_still, ↓setLtsu_still, ↓ltPop_still, ↓writeReg_still, ↓still_mk, ↓still_ite,
        ite_self, ↓still_dite, dite_eq_ite, ↓apply_ite Prod.snd, ↓apply_ite Prod.fst, ↓still_foldl]; done)
    | (with_reducible refine (still_foldl _ (fun s x => ?_) _ _).trans ?_)
    | (with_reducible refine (still_foldl_snd _ (fun r x => ?_) _ _).trans ?_)
    | (with_reducible refine (still_foldl_fst _ (fun r x => ?_) _ _).trans ?_)
    | (with_reducible refine (still_foldl_snd2 _ (fun r x => ?_) _ _).trans ?_)
    | (simp only [↓setPtsu_still, ↓ptPop_still, ↓setLtsu_still, ↓ltPop_still, ↓writeReg_still, ↓still_mk, ↓still_ite,
        ite_self, ↓still_dite, dite_eq_ite, ↓apply_ite Prod.snd, ↓apply_ite Prod.fst, ↓still_foldl])
    | (with_reducible refine ite_eq_of ?_ ?_)
    | split)

theorem seEval_still (a0 a1) :
    (State.seEval a0 a1).still = a0.still := by
  unfold State.seEval
  simp only [↓setSe_still, ↓sePassed_still, ↓still_mk, ↓still_ite, ite_self]

theorem seEnable_still (a0 a1) :
    (State.seEnable a0 a1).still = a0.still := by
  unfold State.seEnable
  simp only [↓seOff_still, ↓raise_still, ↓seRecord_still, ↓setSe_still, ↓seEval_still, ↓still_mk, ↓still_ite,
      ite_self]

theorem seWrite_still (a0 a1 a2 a3) :
    (State.seWrite a0 a1 a2 a3).still = a0.still := by
  unfold State.seWrite
  simp only [↓seDisarm_still, ↓setSe_still, ↓seEnable_still, ↓still_mk, ↓still_ite, ite_self]

theorem histPop_still (a0) :
    (State.histPop a0).still = a0.still := by
  unfold State.histPop
  simp only [↓still_mk]

theorem schedWrite_still (a0 a1 a2) :
    (State.schedWrite a0 a1 a2).still = a0.still := by
  unfold State.schedWrite
  simp only [↓seWrite_still, ↓histPop_still, ↓writeReg_still, ↓still_mk, ↓still_ite, ite_self]

theorem hkRefused_still (a0) :
    (State.hkRefused a0).still = a0.still := by
  unfold State.hkRefused
  simp only [↓flag_still]

theorem hkCalAbort_still (a0 a1) :
    (State.hkCalAbort a0 a1).still = a0.still := by
  unfold State.hkCalAbort
  simp only [↓hkRestart_still, ↓setF_still, ↓still_mk, ↓still_ite, ite_self]

theorem hkRefCtl_still (a0 a1) :
    (State.hkRefCtl a0 a1).still = a0.still := by
  unfold State.hkRefCtl
  repeat' (first
    | (simp only [↓hkRefused_still, ↓hkCalAbort_still, ↓setF_still, ↓writeReg_still, ↓still_mk, ↓still_ite, ite_self,
        ↓still_dite, dite_eq_ite, ↓apply_ite Prod.snd, ↓apply_ite Prod.fst, ↓still_foldl]; done)
    | (with_reducible refine (still_foldl _ (fun s x => ?_) _ _).trans ?_)
    | (with_reducible refine (still_foldl_snd _ (fun r x => ?_) _ _).trans ?_)
    | (with_reducible refine (still_foldl_fst _ (fun r x => ?_) _ _).trans ?_)
    | (with_reducible refine (still_foldl_snd2 _ (fun r x => ?_) _ _).trans ?_)
    | (simp only [↓hkRefused_still, ↓hkCalAbort_still, ↓setF_still, ↓writeReg_still, ↓still_mk, ↓still_ite, ite_self,
        ↓still_dite, dite_eq_ite, ↓apply_ite Prod.snd, ↓apply_ite Prod.fst, ↓still_foldl])
    | (with_reducible refine ite_eq_of ?_ ?_)
    | split)

theorem hkStop_still (a0 a1) :
    (State.hkStop a0 a1).still = a0.still := by
  unfold State.hkStop
  simp only [↓setHkc_still, ↓setF_still]

theorem hkStopCmd_still (a0 a1) :
    (State.hkStopCmd a0 a1).still = a0.still := by
  unfold State.hkStopCmd
  simp only [↓hkStop_still, ↓raise_still, ↓still_mk, ↓still_ite, ite_self]

theorem hkTrigger_still (a0 a1) :
    (State.hkTrigger a0 a1).still = a0.still := by
  unfold State.hkTrigger
  simp only [↓setF_still, ↓hkStartVisit_still, ↓still_mk, ↓still_ite, ite_self]

theorem hkCtl_still (a0 a1 a2) :
    (State.hkCtl a0 a1 a2).still = a0.still := by
  unfold State.hkCtl
  simp only [↓writeReg_still, ↓hkStop_still, ↓hkStopCmd_still, ↓hkTrigger_still, ↓still_mk, ↓still_ite, ite_self]

theorem hkCalCtl_still (a0 a1 a2) :
    (State.hkCalCtl a0 a1 a2).still = a0.still := by
  unfold State.hkCalCtl
  simp only [↓writeReg_still, ↓hkRefused_still, ↓setF_still, ↓still_mk, ↓still_ite, ite_self]

theorem hkFactAt_still (a0 a1 a2 a3) :
    (State.hkFactAt a0 a1 a2 a3).still = a0.still := by
  unfold State.hkFactAt
  simp only [↓setHkc_still]

theorem hkFact_still (a0 a1 a2) :
    (State.hkFact a0 a1 a2).still = a0.still := by
  unfold State.hkFact
  simp only [↓hkFactAt_still]

theorem hkPop_still (a0 a1) :
    (State.hkPop a0 a1).still = a0.still := by
  unfold State.hkPop
  simp only [↓setF_still, ↓setHkc_still]

theorem hkSeq_still (a0 a1 a2 a3) :
    (State.hkSeq a0 a1 a2 a3).still = a0.still := by
  unfold State.hkSeq
  simp only [↓hkRefused_still, ↓writeReg_still, ↓still_mk, ↓still_ite, ite_self]

theorem hkWrite_still (a0 a1 a2) :
    (State.hkWrite a0 a1 a2).still = a0.still := by
  unfold State.hkWrite
  simp only [↓hkRefCtl_still, ↓hkCtl_still, ↓hkCalCtl_still, ↓hkFact_still, ↓hkPop_still, ↓hkSeq_still,
      ↓writeReg_still, ↓still_mk, ↓still_ite, ite_self]

theorem filtRefused_still (a0) :
    (State.filtRefused a0).still = a0.still := by
  unfold State.filtRefused
  simp only [↓flag_still]

theorem idxAdvance_still (a0 a1 a2 a3) :
    (State.idxAdvance a0 a1 a2 a3).still = a0.still := by
  unfold State.idxAdvance
  simp only [↓setF_still, ↓still_mk, ↓still_ite, ite_self]

theorem fcoefAdvance_still (a0) :
    (State.fcoefAdvance a0).still = a0.still := by
  unfold State.fcoefAdvance
  simp only [↓idxAdvance_still]

theorem fcoefWrite_still (a0 a1) :
    (State.fcoefWrite a0 a1).still = a0.still := by
  unfold State.fcoefWrite
  simp only [↓filtRefused_still, ↓fcoefAdvance_still, ↓still_mk, ↓still_ite, ite_self]

theorem flenWrite_still (a0 a1 a2) :
    (State.flenWrite a0 a1 a2).still = a0.still := by
  unfold State.flenWrite
  simp only [↓writeReg_still, ↓filtRefused_still, ↓still_mk, ↓still_ite, ite_self]

theorem filtWrite_still (a0 a1 a2) :
    (State.filtWrite a0 a1 a2).still = a0.still := by
  unfold State.filtWrite
  simp only [↓fcoefWrite_still, ↓flenWrite_still, ↓writeReg_still, ↓still_mk, ↓still_ite, ite_self]

theorem hdacTick_still (a0 a1) :
    (State.hdacTick a0 a1).still = a0.still := by
  unfold State.hdacTick
  simp only [↓hdacOut_still, ↓draw_still, ↓still_mk, ↓still_ite, ite_self]

theorem hdacLoad_still (a0 a1) :
    (State.hdacLoad a0 a1).still = a0.still := by
  unfold State.hdacLoad
  simp only [↓setF_still, ↓hdacTick_still, ↓hdacOut_still, ↓still_mk, ↓still_ite, ite_self]

theorem hdacStrobe_still (a0 a1) :
    (State.hdacStrobe a0 a1).still = a0.still := by
  unfold State.hdacStrobe
  repeat' (first
    | (simp only [↓hdacLoad_still, ↓still_mk, ↓still_ite, ite_self, ↓still_dite, dite_eq_ite, ↓apply_ite Prod.snd,
        ↓apply_ite Prod.fst, ↓still_foldl]; done)
    | (with_reducible refine (still_foldl _ (fun s x => ?_) _ _).trans ?_)
    | (with_reducible refine (still_foldl_snd _ (fun r x => ?_) _ _).trans ?_)
    | (with_reducible refine (still_foldl_fst _ (fun r x => ?_) _ _).trans ?_)
    | (with_reducible refine (still_foldl_snd2 _ (fun r x => ?_) _ _).trans ?_)
    | (simp only [↓hdacLoad_still, ↓still_mk, ↓still_ite, ite_self, ↓still_dite, dite_eq_ite, ↓apply_ite Prod.snd,
        ↓apply_ite Prod.fst, ↓still_foldl])
    | (with_reducible refine ite_eq_of ?_ ?_)
    | split)

theorem hdacRefused_still (a0) :
    (State.hdacRefused a0).still = a0.still := by
  unfold State.hdacRefused
  simp only [↓flag_still]

theorem hdacClear_still (a0 a1) :
    (State.hdacClear a0 a1).still = a0.still := by
  unfold State.hdacClear
  simp only [↓hdacOut_still, ↓setStream_still, ↓setF_still, ↓still_mk, ↓still_ite, ite_self]

theorem hdacResume_still (a0 a1) :
    (State.hdacResume a0 a1).still = a0.still := by
  unfold State.hdacResume
  simp only [↓hdacLoad_still, ↓setStream_still, ↓still_mk, ↓still_ite, ite_self]

theorem hdacCtl_still (a0 a1 a2) :
    (State.hdacCtl a0 a1 a2).still = a0.still := by
  unfold State.hdacCtl
  simp only [↓hdacRefused_still, ↓hdacClear_still, ↓hdacCtlChanged_still, ↓writeReg_still, ↓hdacResume_still,
      ↓still_mk, ↓still_ite, ite_self]

theorem hdacCodeWrite_still (a0 a1 a2) :
    (State.hdacCodeWrite a0 a1 a2).still = a0.still := by
  unfold State.hdacCodeWrite
  repeat' (first
    | (simp only [↓writeReg_still, ↓hdacLoad_still, ↓hdacTick_still, ↓still_mk, ↓still_ite, ite_self, ↓still_dite,
        dite_eq_ite, ↓apply_ite Prod.snd, ↓apply_ite Prod.fst, ↓still_foldl]; done)
    | (with_reducible refine (still_foldl _ (fun s x => ?_) _ _).trans ?_)
    | (with_reducible refine (still_foldl_snd _ (fun r x => ?_) _ _).trans ?_)
    | (with_reducible refine (still_foldl_fst _ (fun r x => ?_) _ _).trans ?_)
    | (with_reducible refine (still_foldl_snd2 _ (fun r x => ?_) _ _).trans ?_)
    | (simp only [↓writeReg_still, ↓hdacLoad_still, ↓hdacTick_still, ↓still_mk, ↓still_ite, ite_self, ↓still_dite,
        dite_eq_ite, ↓apply_ite Prod.snd, ↓apply_ite Prod.fst, ↓still_foldl])
    | (with_reducible refine ite_eq_of ?_ ?_)
    | split)

theorem hdacWrite_still (a0 a1 a2) :
    (State.hdacWrite a0 a1 a2).still = a0.still := by
  unfold State.hdacWrite
  simp only [↓hdacStrobe_still, ↓hdacCtl_still, ↓hdacCodeWrite_still, ↓hdacClear_still, ↓writeReg_still, ↓still_mk,
      ↓still_ite, ite_self]

theorem measStart_still (a0) :
    (State.measStart a0).still = a0.still := by
  unfold State.measStart
  simp only [↓flag_still, ↓setF_still, ↓still_mk, ↓still_ite, ite_self]

theorem measCtl_still (a0 a1) :
    (State.measCtl a0 a1).still = a0.still := by
  unfold State.measCtl
  simp only [↓writeReg_still, ↓measStart_still, ↓still_mk, ↓still_ite, ite_self]

theorem pdBand_still (a0 a1 a2) :
    (State.pdBand a0 a1 a2).still = a0.still := by
  unfold State.pdBand
  simp only [↓pdApply_still, ↓setF_still, ↓still_mk, ↓still_ite, ite_self]

theorem setBand_still (a0 a1) :
    (State.setBand a0 a1).still = a0.still := by
  unfold State.setBand
  repeat' (first
    | (simp only [↓raise_still, ↓setF_still, ↓avsUpdate_still, ↓pdBand_still, ↓still_mk, ↓still_ite, ite_self,
        ↓still_dite, dite_eq_ite, ↓apply_ite Prod.snd, ↓apply_ite Prod.fst, ↓still_foldl]; done)
    | (with_reducible refine (still_foldl _ (fun s x => ?_) _ _).trans ?_)
    | (with_reducible refine (still_foldl_snd _ (fun r x => ?_) _ _).trans ?_)
    | (with_reducible refine (still_foldl_fst _ (fun r x => ?_) _ _).trans ?_)
    | (with_reducible refine (still_foldl_snd2 _ (fun r x => ?_) _ _).trans ?_)
    | (simp only [↓raise_still, ↓setF_still, ↓avsUpdate_still, ↓pdBand_still, ↓still_mk, ↓still_ite, ite_self,
        ↓still_dite, dite_eq_ite, ↓apply_ite Prod.snd, ↓apply_ite Prod.fst, ↓still_foldl])
    | (with_reducible refine ite_eq_of ?_ ?_)
    | split)

theorem bandCtl_still (a0 a1) :
    (State.bandCtl a0 a1).still = a0.still := by
  unfold State.bandCtl
  simp only [↓writeReg_still, ↓setBand_still, ↓still_mk, ↓still_ite, ite_self]

theorem faultShow_still (a0) :
    (State.faultShow a0).still = a0.still := by
  unfold State.faultShow
  simp only [↓setB_still]

theorem edgeWrite_still (a0 a1 a2) :
    (State.edgeWrite a0 a1 a2).still = a0.still := by
  unfold State.edgeWrite
  simp only [↓writeReg_still, ↓flag_still, ↓still_mk, ↓still_ite, ite_self]

theorem thermWrite_still (a0 a1 a2) :
    (State.thermWrite a0 a1 a2).still = a0.still := by
  unfold State.thermWrite
  simp only [↓measCtl_still, ↓bandCtl_still, ↓faultShow_still, ↓writeReg_still, ↓edgeWrite_still, ↓still_mk,
      ↓still_ite, ite_self]

theorem fogCtl_still (a0 a1) :
    (State.fogCtl a0 a1).still = a0.still := by
  unfold State.fogCtl
  simp only [↓writeReg_still, ↓fogSearch_still, ↓setF_still, ↓still_mk, ↓still_ite, ite_self]

theorem fogRefused_still (a0) :
    (State.fogRefused a0).still = a0.still := by
  unfold State.fogRefused
  simp only [↓flag_still]

theorem fogQueue_still (a0 a1) :
    (State.fogQueue a0 a1).still = a0.still := by
  unfold State.fogQueue
  simp only [↓fogRefused_still, ↓setFogBusy_still, ↓still_mk, ↓still_ite, ite_self]

theorem fogTxbWrite_still (a0 a1) :
    (State.fogTxbWrite a0 a1).still = a0.still := by
  unfold State.fogTxbWrite
  simp only [↓idxAdvance_still, ↓still_mk, ↓still_ite, ite_self]

theorem fogPop_still (a0) :
    (State.fogPop a0).still = a0.still := by
  unfold State.fogPop
  simp only [↓setF_still, ↓still_mk]

theorem hkClaim_still (a0 a1 a2) :
    (State.hkClaim a0 a1 a2).still = a0.still := by
  unfold State.hkClaim
  simp only [↓setF_still, ↓hkStop_still, ↓hkCalAbort_still, ↓still_mk, ↓still_ite, ite_self]

theorem fogHkRx_still (a0 a1) :
    (State.fogHkRx a0 a1).still = a0.still := by
  unfold State.fogHkRx
  simp only [↓writeReg_still, ↓hkClaim_still, ↓still_mk, ↓still_ite, ite_self]

theorem fogHdacTx_still (a0 a1) :
    (State.fogHdacTx a0 a1).still = a0.still := by
  unfold State.fogHdacTx
  simp only [↓writeReg_still, ↓fogRefused_still, ↓setF_still, ↓still_mk, ↓still_ite, ite_self]

theorem counterLatch_still (a0 a1) :
    (State.counterLatch a0 a1).still = a0.still := by
  unfold State.counterLatch
  simp only [↓still_mk]

theorem counterUnlatch_still (a0 a1) :
    (State.counterUnlatch a0 a1).still = a0.still := by
  unfold State.counterUnlatch
  simp only [↓still_mk]

theorem counterZero_still (a0 a1) :
    (State.counterZero a0 a1).still = a0.still := by
  unfold State.counterZero
  repeat' (first
    | (simp only [↓setReg_still, ↓still_mk, ↓still_ite, ite_self, ↓still_dite, dite_eq_ite, ↓apply_ite Prod.snd,
        ↓apply_ite Prod.fst, ↓still_foldl]; done)
    | (with_reducible refine (still_foldl _ (fun s x => ?_) _ _).trans ?_)
    | (with_reducible refine (still_foldl_snd _ (fun r x => ?_) _ _).trans ?_)
    | (with_reducible refine (still_foldl_fst _ (fun r x => ?_) _ _).trans ?_)
    | (with_reducible refine (still_foldl_snd2 _ (fun r x => ?_) _ _).trans ?_)
    | (simp only [↓setReg_still, ↓still_mk, ↓still_ite, ite_self, ↓still_dite, dite_eq_ite, ↓apply_ite Prod.snd,
        ↓apply_ite Prod.fst, ↓still_foldl])
    | (with_reducible refine ite_eq_of ?_ ?_)
    | split)

theorem counterCtlWrite_still (a0 a1 a2) :
    (State.counterCtlWrite a0 a1 a2).still = a0.still := by
  unfold State.counterCtlWrite
  split <;> simp only [↓writeReg_still, ↓setF_still, ↓counterLatch_still, ↓counterUnlatch_still, ↓counterZero_still,
      ↓still_mk, ↓still_ite, ite_self]

theorem fogWrite_still (a0 a1 a2) :
    (State.fogWrite a0 a1 a2).still = a0.still := by
  unfold State.fogWrite
  simp only [↓fogCtl_still, ↓fogQueue_still, ↓fogTxbWrite_still, ↓fogPop_still, ↓fogHkRx_still, ↓fogHdacTx_still,
      ↓counterCtlWrite_still, ↓writeReg_still, ↓still_mk, ↓still_ite, ite_self]

theorem pairFail_still (a0 a1) :
    (State.pairFail a0 a1).still = a0.still := by
  unfold State.pairFail
  simp only [↓raise_still, ↓setF_still, ↓setPair_still]

theorem fogTwin_still (a0 a1) :
    (State.fogTwin a0 a1).still = a0.still := by
  unfold State.fogTwin
  simp only [↓setFogBusy_still, ↓still_mk]

theorem twinPlain_still (a0 a1 a2) :
    (State.twinPlain a0 a1 a2).still = a0.still := by
  unfold State.twinPlain
  simp only [↓fogTwin_still]

theorem pairHail_still (a0) :
    (State.pairHail a0).still = a0.still := by
  unfold State.pairHail
  simp only [↓setF_still, ↓pairFail_still, ↓twinPlain_still, ↓setPair_still, ↓still_mk, ↓still_ite, ite_self]

theorem twinSend_still (a0 a1 a2) :
    (State.twinSend a0 a1 a2).still = a0.still := by
  unfold State.twinSend
  simp only [↓fogTwin_still, ↓setReg_still, ↓modTwin_still]

theorem pairRelease_still (a0) :
    (State.pairRelease a0).still = a0.still := by
  unfold State.pairRelease
  simp only [↓twinSend_still, ↓modTwin_still, ↓setPair_still, ↓still_mk, ↓still_ite, ite_self]

theorem pairCtl_still (a0 a1) :
    (State.pairCtl a0 a1).still = a0.still := by
  unfold State.pairCtl
  simp only [↓writeReg_still, ↓pairHail_still, ↓pairRelease_still, ↓still_mk, ↓still_ite, ite_self]

theorem rangeRun_still (a0) :
    (State.rangeRun a0).still = a0.still := by
  unfold State.rangeRun
  simp only [↓twinSend_still, ↓setF_still, ↓still_mk, ↓still_ite, ite_self]

theorem posMessages_still (s : State) (n : Nat) (l : List (Nat × Pos)) : (s.posMessages n l).still = s.still := by
  induction n generalizing s l with
  | zero => cases l <;> rfl
  | succ n ih =>
    cases l with
    | nil => rfl
    | cons a t => unfold posMessages; exact (ih _ _).trans (twinSend_still ..)

theorem posStart_still (a0 a1) :
    (State.posStart a0 a1).still = a0.still := by
  unfold State.posStart
  simp only [↓setF_still, ↓modTwin_still, ↓rangeRun_still, ↓raise_still, ↓posMessages_still, ↓still_mk, ↓still_ite,
      ite_self]

theorem posAll_still (a0) :
    (State.posAll a0).still = a0.still := by
  unfold State.posAll
  simp only [↓posStart_still]

theorem posCtl_still (a0 a1) :
    (State.posCtl a0 a1).still = a0.still := by
  unfold State.posCtl
  simp only [↓writeReg_still, ↓posAll_still, ↓still_mk, ↓still_ite, ite_self]

theorem coordEnd_still (a0 a1 a2) :
    (State.coordEnd a0 a1 a2).still = a0.still := by
  unfold State.coordEnd
  simp only [↓raise_still, ↓setF_still]

theorem coordPropose_still (a0 a1 a2 a3) :
    (State.coordPropose a0 a1 a2 a3).still = a0.still := by
  unfold State.coordPropose
  simp only [↓setF_still, ↓coordEnd_still, ↓modTwin_still, ↓twinSend_still, ↓still_mk, ↓still_ite, ite_self]

theorem coordStart_still (a0) :
    (State.coordStart a0).still = a0.still := by
  unfold State.coordStart
  simp only [↓coordPropose_still]

theorem setSpare_still (a0 a1) :
    (State.setSpare a0 a1).still = a0.still := by
  unfold State.setSpare
  simp only [↓raise_still, ↓setF_still, ↓still_mk, ↓still_ite, ite_self]

theorem spareBack_still (a0) :
    (State.spareBack a0).still = a0.still := by
  unfold State.spareBack
  simp only [↓setSpare_still, ↓still_mk, ↓still_ite, ite_self]

theorem seTwinSkip_still (a0 a1) :
    (State.seTwinSkip a0 a1).still = a0.still := by
  unfold State.seTwinSkip
  simp only [↓seOff_still, ↓seRecord_still, ↓reportArmed_still, ↓still_mk, ↓still_ite, ite_self]

theorem coordDrop_still (a0 a1) :
    (State.coordDrop a0 a1).still = a0.still := by
  unfold State.coordDrop
  simp only [↓spareBack_still, ↓coordEnd_still, ↓seTwinSkip_still]

theorem coordAbort_still (a0) :
    (State.coordAbort a0).still = a0.still := by
  unfold State.coordAbort
  simp only [↓coordDrop_still, ↓twinSend_still, ↓still_mk, ↓still_ite, ite_self]

theorem coordCtl_still (a0 a1) :
    (State.coordCtl a0 a1).still = a0.still := by
  unfold State.coordCtl
  simp only [↓writeReg_still, ↓coordStart_still, ↓coordAbort_still, ↓still_mk, ↓still_ite, ite_self]

theorem txMirror_still (a0 a1 a2) :
    (State.txMirror a0 a1 a2).still = a0.still := by
  unfold State.txMirror
  simp only [↓flag_still, ↓squelch_still, ↓writeReg_still, ↓still_mk, ↓still_ite, ite_self]

theorem mirrorOn_still (a0 a1) :
    (State.mirrorOn a0 a1).still = a0.still := by
  unfold State.mirrorOn
  simp only [↓txMirror_still]

theorem spareWhy_still (a0 a1) :
    (State.spareWhy a0 a1).still = a0.still := by
  unfold State.spareWhy
  simp only [↓setF_still]

theorem spareNew_still (a0 a1) :
    (State.spareNew a0 a1).still = a0.still := by
  unfold State.spareNew
  simp only [↓setF_still, ↓spareWhy_still, ↓modTwin_still]

theorem sparePrepare_still (a0 a1) :
    (State.sparePrepare a0 a1).still = a0.still := by
  unfold State.sparePrepare
  split <;> simp only [↓twinSend_still, ↓mirrorOn_still, ↓setSpare_still, ↓spareNew_still, ↓spareWhy_still, ↓still_mk,
      ↓still_ite, ite_self]

theorem spareGo_still (a0 a1) :
    (State.spareGo a0 a1).still = a0.still := by
  unfold State.spareGo
  simp only [↓setSpare_still, ↓coordPropose_still, ↓still_mk, ↓still_ite, ite_self]

theorem spareTrainOn_still (a0 a1 a2) :
    (State.spareTrainOn a0 a1 a2).still = a0.still := by
  unfold State.spareTrainOn
  simp only [↓mbxCmd_still, ↓mbxArg_still]

theorem returnStart_still (a0) :
    (State.returnStart a0).still = a0.still := by
  unfold State.returnStart
  simp only [↓setSpare_still, ↓spareNew_still, ↓txMirror_still, ↓spareTrainOn_still, ↓still_mk, ↓still_ite, ite_self]

theorem spareReturn_still (a0) :
    (State.spareReturn a0).still = a0.still := by
  unfold State.spareReturn
  simp only [↓spareWhy_still, ↓twinSend_still, ↓returnStart_still, ↓still_mk, ↓still_ite, ite_self]

theorem mirrorOff_still (a0) :
    (State.mirrorOff a0).still = a0.still := by
  unfold State.mirrorOff
  simp only [↓txMirror_still]

theorem setProgStat_still (a0 a1 a2) :
    (State.setProgStat a0 a1 a2).still = a0.still := by
  unfold State.setProgStat
  simp only [↓setReg_still]

theorem progEnter_still (a0 a1 a2) :
    (State.progEnter a0 a1 a2).still = a0.still := by
  unfold State.progEnter
  repeat' (first
    | (simp only [↓setProgStat_still, ↓setReg_still, ↓still_mk, ↓still_ite, ite_self, ↓still_dite, dite_eq_ite,
        ↓apply_ite Prod.snd, ↓apply_ite Prod.fst, ↓still_foldl]; done)
    | (with_reducible refine (still_foldl _ (fun s x => ?_) _ _).trans ?_)
    | (with_reducible refine (still_foldl_snd _ (fun r x => ?_) _ _).trans ?_)
    | (with_reducible refine (still_foldl_fst _ (fun r x => ?_) _ _).trans ?_)
    | (with_reducible refine (still_foldl_snd2 _ (fun r x => ?_) _ _).trans ?_)
    | (simp only [↓setProgStat_still, ↓setReg_still, ↓still_mk, ↓still_ite, ite_self, ↓still_dite, dite_eq_ite,
        ↓apply_ite Prod.snd, ↓apply_ite Prod.fst, ↓still_foldl])
    | (with_reducible refine ite_eq_of ?_ ?_)
    | split)

theorem spareTrainOff_still (a0 a1) :
    (State.spareTrainOff a0 a1).still = a0.still := by
  unfold State.spareTrainOff
  simp only [↓choose_still, ↓mbxDone_still, ↓progEnter_still, ↓still_mk, ↓still_ite, ite_self]

theorem spareIdle_still (a0 a1) :
    (State.spareIdle a0 a1).still = a0.still := by
  unfold State.spareIdle
  simp only [↓raise_still, ↓spareWhy_still, ↓setSpare_still, ↓modTwin_still, ↓setF_still, ↓mirrorOff_still,
      ↓spareTrainOff_still, ↓still_mk, ↓still_ite, ite_self]

theorem spareAssign_still (a0 a1) :
    (State.spareAssign a0 a1).still = a0.still := by
  unfold State.spareAssign
  simp only [↓spareWhy_still, ↓portsEval_still, ↓setSpare_still, ↓setF_still, ↓modTwin_still, ↓spareNew_still,
      ↓still_mk, ↓still_ite, ite_self]

theorem spareEval_still (a0) :
    (State.spareEval a0).still = a0.still := by
  unfold State.spareEval
  simp only [↓spareGo_still, ↓twinSend_still, ↓setSpare_still, ↓still_mk, ↓still_ite, ite_self]

theorem spareCtl_still (a0 a1) :
    (State.spareCtl a0 a1).still = a0.still := by
  unfold State.spareCtl
  split <;> simp only [↓writeReg_still, ↓sparePrepare_still, ↓spareGo_still, ↓spareReturn_still, ↓spareIdle_still,
      ↓spareAssign_still, ↓spareEval_still, ↓modTwin_still, ↓still_mk, ↓still_ite, ite_self]

theorem rangeCtl_still (a0 a1) :
    (State.rangeCtl a0 a1).still = a0.still := by
  unfold State.rangeCtl
  simp only [↓writeReg_still, ↓rangeRun_still, ↓still_mk, ↓still_ite, ite_self]

theorem healthCtl_still (a0 a1) :
    (State.healthCtl a0 a1).still = a0.still := by
  unfold State.healthCtl
  simp only [↓writeReg_still, ↓twinSend_still, ↓still_mk, ↓still_ite, ite_self]

theorem twinWrite_still (a0 a1 a2) :
    (State.twinWrite a0 a1 a2).still = a0.still := by
  unfold State.twinWrite
  simp only [↓pairCtl_still, ↓posCtl_still, ↓coordCtl_still, ↓spareCtl_still, ↓rangeCtl_still, ↓healthCtl_still,
      ↓writeReg_still, ↓still_mk, ↓still_ite, ite_self]

theorem perfCtl_still (a0 a1) :
    (State.perfCtl a0 a1).still = a0.still := by
  unfold State.perfCtl
  repeat' (first
    | (simp only [↓writeReg_still, ↓setReg_still, ↓still_mk, ↓still_ite, ite_self, ↓still_dite, dite_eq_ite,
        ↓apply_ite Prod.snd, ↓apply_ite Prod.fst, ↓still_foldl]; done)
    | (with_reducible refine (still_foldl _ (fun s x => ?_) _ _).trans ?_)
    | (with_reducible refine (still_foldl_snd _ (fun r x => ?_) _ _).trans ?_)
    | (with_reducible refine (still_foldl_fst _ (fun r x => ?_) _ _).trans ?_)
    | (with_reducible refine (still_foldl_snd2 _ (fun r x => ?_) _ _).trans ?_)
    | (simp only [↓writeReg_still, ↓setReg_still, ↓still_mk, ↓still_ite, ite_self, ↓still_dite, dite_eq_ite,
        ↓apply_ite Prod.snd, ↓apply_ite Prod.fst, ↓still_foldl])
    | (with_reducible refine ite_eq_of ?_ ?_)
    | split)

theorem bistPrecond_still (a0 a1 a2) :
    (State.bistPrecond a0 a1 a2).2.still = a0.still := by
  unfold State.bistPrecond
  repeat' (first
    | (simp only [↓setF_still, ↓setB_still, ↓choose_still, ↓still_mk, ↓still_ite, ite_self, ↓still_dite, dite_eq_ite,
        ↓apply_ite Prod.snd, ↓apply_ite Prod.fst, ↓still_foldl]; done)
    | (with_reducible refine (still_foldl _ (fun s x => ?_) _ _).trans ?_)
    | (with_reducible refine (still_foldl_snd _ (fun r x => ?_) _ _).trans ?_)
    | (with_reducible refine (still_foldl_fst _ (fun r x => ?_) _ _).trans ?_)
    | (with_reducible refine (still_foldl_snd2 _ (fun r x => ?_) _ _).trans ?_)
    | (simp only [↓setF_still, ↓setB_still, ↓choose_still, ↓still_mk, ↓still_ite, ite_self, ↓still_dite, dite_eq_ite,
        ↓apply_ite Prod.snd, ↓apply_ite Prod.fst, ↓still_foldl])
    | (with_reducible refine ite_eq_of ?_ ?_)
    | split)

theorem bistWipe_still (a0 a1) :
    (State.bistWipe a0 a1).still = a0.still := by
  unfold State.bistWipe
  repeat' (first
    | (simp only [↓sramForget_still, ↓clearBlk_still, ↓still_mk, ↓still_ite, ite_self, ↓still_dite, dite_eq_ite,
        ↓apply_ite Prod.snd, ↓apply_ite Prod.fst, ↓still_foldl]; done)
    | (with_reducible refine (still_foldl _ (fun s x => ?_) _ _).trans ?_)
    | (with_reducible refine (still_foldl_snd _ (fun r x => ?_) _ _).trans ?_)
    | (with_reducible refine (still_foldl_fst _ (fun r x => ?_) _ _).trans ?_)
    | (with_reducible refine (still_foldl_snd2 _ (fun r x => ?_) _ _).trans ?_)
    | (simp only [↓sramForget_still, ↓clearBlk_still, ↓still_mk, ↓still_ite, ite_self, ↓still_dite, dite_eq_ite,
        ↓apply_ite Prod.snd, ↓apply_ite Prod.fst, ↓still_foldl])
    | (with_reducible refine ite_eq_of ?_ ?_)
    | split)

theorem bistStart_still (a0 a1 a2) :
    (State.bistStart a0 a1 a2).still = a0.still := by
  unfold State.bistStart
  repeat' (first
    | (simp only [↓setF_still, ↓bistPrecond_still, ↓setBist_still, ↓bistWipe_still, ↓bistEnd_still, ↓still_mk,
        ↓still_ite, ite_self, ↓still_dite, dite_eq_ite, ↓apply_ite Prod.snd, ↓apply_ite Prod.fst, ↓still_foldl]; done)
    | (with_reducible refine (still_foldl _ (fun s x => ?_) _ _).trans ?_)
    | (with_reducible refine (still_foldl_snd _ (fun r x => ?_) _ _).trans ?_)
    | (with_reducible refine (still_foldl_fst _ (fun r x => ?_) _ _).trans ?_)
    | (with_reducible refine (still_foldl_snd2 _ (fun r x => ?_) _ _).trans ?_)
    | (simp only [↓setF_still, ↓bistPrecond_still, ↓setBist_still, ↓bistWipe_still, ↓bistEnd_still, ↓still_mk,
        ↓still_ite, ite_self, ↓still_dite, dite_eq_ite, ↓apply_ite Prod.snd, ↓apply_ite Prod.fst, ↓still_foldl])
    | (with_reducible refine ite_eq_of ?_ ?_)
    | split)

theorem bistCtl_still (a0 a1 a2 a3) :
    (State.bistCtl a0 a1 a2 a3).still = a0.still := by
  unfold State.bistCtl
  simp only [↓bistResume_still, ↓bistCut_still, ↓bistStart_still, ↓still_mk, ↓still_ite, ite_self]

theorem laneTest_still (a0 a1) :
    (State.laneTest a0 a1).still = a0.still := by
  unfold State.laneTest
  simp only [↓setReg_still, ↓setF_still, ↓still_mk, ↓still_ite, ite_self]

theorem fecLaneCtl_still (a0 a1 a2) :
    (State.fecLaneCtl a0 a1 a2).still = a0.still := by
  unfold State.fecLaneCtl
  simp only [↓flag_still, ↓portsEval_still, ↓codecRefresh_still, ↓writeReg_still, ↓still_mk, ↓still_ite, ite_self]

theorem fecWrite_still (a0 a1 a2) :
    (State.fecWrite a0 a1 a2).still = a0.still := by
  unfold State.fecWrite
  repeat' (first
    | (simp only [↓fecLaneCtl_still, ↓counterCtlWrite_still, ↓writeReg_still, ↓still_mk, ↓still_ite, ite_self,
        ↓still_dite, dite_eq_ite, ↓apply_ite Prod.snd, ↓apply_ite Prod.fst, ↓still_foldl]; done)
    | (with_reducible refine (still_foldl _ (fun s x => ?_) _ _).trans ?_)
    | (with_reducible refine (still_foldl_snd _ (fun r x => ?_) _ _).trans ?_)
    | (with_reducible refine (still_foldl_fst _ (fun r x => ?_) _ _).trans ?_)
    | (with_reducible refine (still_foldl_snd2 _ (fun r x => ?_) _ _).trans ?_)
    | (simp only [↓fecLaneCtl_still, ↓counterCtlWrite_still, ↓writeReg_still, ↓still_mk, ↓still_ite, ite_self,
        ↓still_dite, dite_eq_ite, ↓apply_ite Prod.snd, ↓apply_ite Prod.fst, ↓still_foldl])
    | (with_reducible refine ite_eq_of ?_ ?_)
    | split)

theorem coefAdvance_still (a0 a1) :
    (State.coefAdvance a0 a1).still = a0.still := by
  unfold State.coefAdvance
  simp only [↓setF_still, ↓still_mk, ↓still_ite, ite_self]

theorem coefWrite_still (a0 a1 a2) :
    (State.coefWrite a0 a1 a2).still = a0.still := by
  unfold State.coefWrite
  simp only [↓flag_still, ↓setRxWord_still, ↓coefAdvance_still, ↓still_mk, ↓still_ite, ite_self]

theorem resCtl_still (a0 a1 a2) :
    (State.resCtl a0 a1 a2).still = a0.still := by
  unfold State.resCtl
  simp only [↓writeReg_still, ↓injRun_still, ↓modLane_still]

theorem innerCtl_still (a0 a1 a2) :
    (State.innerCtl a0 a1 a2).still = a0.still := by
  unfold State.innerCtl
  simp only [↓writeReg_still, ↓innerHunt_still, ↓still_mk, ↓still_ite, ite_self]

theorem txStat_still (a0 a1 a2) :
    (State.txStat a0 a1 a2).still = a0.still := by
  unfold State.txStat
  simp only [↓writeReg_still, ↓modLane_still, ↓squelch_still, ↓still_mk, ↓still_ite, ite_self]

theorem txCoefAdvance_still (a0 a1) :
    (State.txCoefAdvance a0 a1).still = a0.still := by
  unfold State.txCoefAdvance
  simp only [↓setF_still, ↓still_mk, ↓still_ite, ite_self]

theorem txCoefWrite_still (a0 a1 a2) :
    (State.txCoefWrite a0 a1 a2).still = a0.still := by
  unfold State.txCoefWrite
  simp only [↓flag_still, ↓setTxWord_still, ↓txCoefAdvance_still, ↓still_mk, ↓still_ite, ite_self]

theorem txPdWrite_still (a0 a1 a2 a3) :
    (State.txPdWrite a0 a1 a2 a3).still = a0.still := by
  unfold State.txPdWrite
  simp only [↓pdApply_still, ↓writeReg_still]

theorem dacStart_still (a0 a1) :
    (State.dacStart a0 a1).still = a0.still := by
  unfold State.dacStart
  split <;> simp only [↓setF_still, ↓modLane_still, ↓still_mk, ↓still_ite, ite_self]

theorem txDacCtl_still (a0 a1 a2) :
    (State.txDacCtl a0 a1 a2).still = a0.still := by
  unfold State.txDacCtl
  simp only [↓writeReg_still, ↓dacStart_still, ↓setF_still, ↓modLane_still, ↓still_mk, ↓still_ite, ite_self]

theorem txTsrc_still (a0 a1 a2) :
    (State.txTsrc a0 a1 a2).still = a0.still := by
  unfold State.txTsrc
  simp only [↓holdover_still, ↓writeReg_still]

theorem llaneWrite_still (a0 a1 a2 a3) :
    (State.llaneWrite a0 a1 a2 a3).still = a0.still := by
  unfold State.llaneWrite
  repeat' (first
    | (simp only [↓rxCtl_still, ↓adcCtl_still, ↓coefWrite_still, ↓resCtl_still, ↓counterCtlWrite_still, ↓eyeCtl_still,
        ↓innerCtl_still, ↓txCtl_still, ↓txStat_still, ↓txCoefWrite_still, ↓txPdWrite_still, ↓txDacCtl_still,
        ↓txTsrc_still, ↓txMirror_still, ↓pllCtl_still, ↓writeReg_still, ↓still_mk, ↓still_ite, ite_self, ↓still_dite,
        dite_eq_ite, ↓apply_ite Prod.snd, ↓apply_ite Prod.fst, ↓still_foldl]; done)
    | (with_reducible refine (still_foldl _ (fun s x => ?_) _ _).trans ?_)
    | (with_reducible refine (still_foldl_snd _ (fun r x => ?_) _ _).trans ?_)
    | (with_reducible refine (still_foldl_fst _ (fun r x => ?_) _ _).trans ?_)
    | (with_reducible refine (still_foldl_snd2 _ (fun r x => ?_) _ _).trans ?_)
    | (simp only [↓rxCtl_still, ↓adcCtl_still, ↓coefWrite_still, ↓resCtl_still, ↓counterCtlWrite_still, ↓eyeCtl_still,
        ↓innerCtl_still, ↓txCtl_still, ↓txStat_still, ↓txCoefWrite_still, ↓txPdWrite_still, ↓txDacCtl_still,
        ↓txTsrc_still, ↓txMirror_still, ↓pllCtl_still, ↓writeReg_still, ↓still_mk, ↓still_ite, ite_self, ↓still_dite,
        dite_eq_ite, ↓apply_ite Prod.snd, ↓apply_ite Prod.fst, ↓still_foldl])
    | (with_reducible refine ite_eq_of ?_ ?_)
    | split)

theorem clusterWrite_still (a0 a1 a2 a3) :
    (State.clusterWrite a0 a1 a2 a3).still = a0.still := by
  unfold State.clusterWrite
  split <;> simp only [↓pllCtl_still, ↓linePwr_still, ↓writeReg_still, ↓hostLanePwr_still, ↓still_mk, ↓still_ite,
      ite_self]

theorem hostRestart_still (a0 a1) :
    (State.hostRestart a0 a1).still = a0.still := by
  unfold State.hostRestart
  simp only [↓hostToLock_still, ↓setF_still, ↓seqUp_still, ↓still_mk, ↓still_ite, ite_self]

theorem negCtl_still (a0 a1 a2) :
    (State.negCtl a0 a1 a2).still = a0.still := by
  unfold State.negCtl
  simp only [↓writeReg_still, ↓seqUp_still, ↓setHostState_still, ↓hostRestart_still, ↓still_mk, ↓still_ite, ite_self]

theorem hcoefAdvance_still (a0 a1) :
    (State.hcoefAdvance a0 a1).still = a0.still := by
  unfold State.hcoefAdvance
  simp only [↓setF_still, ↓still_mk, ↓still_ite, ite_self]

theorem hcoefWrite_still (a0 a1 a2) :
    (State.hcoefWrite a0 a1 a2).still = a0.still := by
  unfold State.hcoefWrite
  simp only [↓hostRefused_still, ↓setHostWord_still, ↓hcoefAdvance_still, ↓still_mk, ↓still_ite, ite_self]

theorem hlaneWrite_still (a0 a1 a2 a3) :
    (State.hlaneWrite a0 a1 a2 a3).still = a0.still := by
  unfold State.hlaneWrite
  repeat' (first
    | (simp only [↓hlCtl_still, ↓negCtl_still, ↓hcoefWrite_still, ↓counterCtlWrite_still, ↓writeReg_still, ↓still_mk,
        ↓still_ite, ite_self, ↓still_dite, dite_eq_ite, ↓apply_ite Prod.snd, ↓apply_ite Prod.fst, ↓still_foldl]; done)
    | (with_reducible refine (still_foldl _ (fun s x => ?_) _ _).trans ?_)
    | (with_reducible refine (still_foldl_snd _ (fun r x => ?_) _ _).trans ?_)
    | (with_reducible refine (still_foldl_fst _ (fun r x => ?_) _ _).trans ?_)
    | (with_reducible refine (still_foldl_snd2 _ (fun r x => ?_) _ _).trans ?_)
    | (simp only [↓hlCtl_still, ↓negCtl_still, ↓hcoefWrite_still, ↓counterCtlWrite_still, ↓writeReg_still, ↓still_mk,
        ↓still_ite, ite_self, ↓still_dite, dite_eq_ite, ↓apply_ite Prod.snd, ↓apply_ite Prod.fst, ↓still_foldl])
    | (with_reducible refine ite_eq_of ?_ ?_)
    | split)

theorem portWrite_still (a0 a1 a2 a3) :
    (State.portWrite a0 a1 a2 a3).still = a0.still := by
  unfold State.portWrite
  repeat' (first
    | (simp only [↓alignCtl_still, ↓counterCtlWrite_still, ↓writeReg_still, ↓still_mk, ↓still_ite, ite_self,
        ↓still_dite, dite_eq_ite, ↓apply_ite Prod.snd, ↓apply_ite Prod.fst, ↓still_foldl]; done)
    | (with_reducible refine (still_foldl _ (fun s x => ?_) _ _).trans ?_)
    | (with_reducible refine (still_foldl_snd _ (fun r x => ?_) _ _).trans ?_)
    | (with_reducible refine (still_foldl_fst _ (fun r x => ?_) _ _).trans ?_)
    | (with_reducible refine (still_foldl_snd2 _ (fun r x => ?_) _ _).trans ?_)
    | (simp only [↓alignCtl_still, ↓counterCtlWrite_still, ↓writeReg_still, ↓still_mk, ↓still_ite, ite_self,
        ↓still_dite, dite_eq_ite, ↓apply_ite Prod.snd, ↓apply_ite Prod.fst, ↓still_foldl])
    | (with_reducible refine ite_eq_of ?_ ?_)
    | split)

theorem writeOwn_unfused (a0 a1 a2 a3 a4) :
    (State.writeOwn a0 a1 a2 a3 a4).still.unfused = a0.still.unfused := by
  unfold State.writeOwn
  repeat' (first
    | (simp only [↓engWrite_still, ↓glbWrite_still, ↓draw_still, ↓pwrWriteReg_still, ↓anyImage_still,
        ↓kprWrite_unfused, ↓secWrite_unfused, ↓dbgWrite_still, ↓cfgvWrite_still, ↓memWriteReg_still,
        ↓ddrWriteReg_still, ↓dmaWriteReg_still, ↓logWriteReg_still, ↓pcieWrite_still, ↓timeWrite_still,
        ↓tsuWrite_still, ↓schedWrite_still, ↓hkWrite_still, ↓filtWrite_still, ↓hdacWrite_still, ↓thermWrite_still,
        ↓fogWrite_still, ↓twinWrite_still, ↓perfCtl_still, ↓writeReg_still, ↓bistCtl_still, ↓laneTest_still,
        ↓fecWrite_still, ↓llaneWrite_still, ↓clusterWrite_still, ↓hlaneWrite_still, ↓portWrite_still, ↓wakeHeldPins_still,
        ↓unfused_mk,
        ↓still_mk, ↓still_ite, ↓unfused_ite, ite_self, ↓still_dite, dite_eq_ite, ↓apply_ite Prod.snd, ↓apply_ite
        Prod.fst, ↓still_foldl]; done)
    | (with_reducible refine (still_foldl _ (fun s x => ?_) _ _).trans ?_)
    | (with_reducible refine (still_foldl_snd _ (fun r x => ?_) _ _).trans ?_)
    | (with_reducible refine (still_foldl_fst _ (fun r x => ?_) _ _).trans ?_)
    | (with_reducible refine (still_foldl_snd2 _ (fun r x => ?_) _ _).trans ?_)
    | (with_reducible refine (unfused_foldl _ (fun s x => ?_) _ _).trans ?_)
    | (with_reducible refine (unfused_foldl_snd _ (fun s x => ?_) _ _).trans ?_)
    | (simp only [↓engWrite_still, ↓glbWrite_still, ↓draw_still, ↓pwrWriteReg_still, ↓anyImage_still,
        ↓kprWrite_unfused, ↓secWrite_unfused, ↓dbgWrite_still, ↓cfgvWrite_still, ↓memWriteReg_still,
        ↓ddrWriteReg_still, ↓dmaWriteReg_still, ↓logWriteReg_still, ↓pcieWrite_still, ↓timeWrite_still,
        ↓tsuWrite_still, ↓schedWrite_still, ↓hkWrite_still, ↓filtWrite_still, ↓hdacWrite_still, ↓thermWrite_still,
        ↓fogWrite_still, ↓twinWrite_still, ↓perfCtl_still, ↓writeReg_still, ↓bistCtl_still, ↓laneTest_still,
        ↓fecWrite_still, ↓llaneWrite_still, ↓clusterWrite_still, ↓hlaneWrite_still, ↓portWrite_still, ↓wakeHeldPins_still,
        ↓unfused_mk,
        ↓still_mk, ↓still_ite, ↓unfused_ite, ite_self, ↓still_dite, dite_eq_ite, ↓apply_ite Prod.snd, ↓apply_ite
        Prod.fst, ↓still_foldl])
    | (with_reducible refine ite_eq_of ?_ ?_)
    | split)

theorem writeDirect_unfused (a0 a1 a2 a3 a4) :
    (State.writeDirect a0 a1 a2 a3 a4).still.unfused = a0.still.unfused := by
  unfold State.writeDirect
  simp only [↓headerWrite_still, ↓writeOwn_unfused, ↓recheck_still, ↓activeChanged_still, ↓unfused_mk, ↓still_mk,
      ↓still_ite, ↓unfused_ite, ite_self]

theorem kprRead_still (a0 a1 a2) :
    (State.kprRead a0 a1 a2).2.still = a0.still := by
  unfold State.kprRead
  repeat' (first
    | (simp only [↓draw_still, ↓dbgDenied_still, ↓still_mk, ↓still_ite, ite_self, ↓still_dite, dite_eq_ite, ↓apply_ite
        Prod.snd, ↓apply_ite Prod.fst, ↓still_foldl]; done)
    | (with_reducible refine (still_foldl _ (fun s x => ?_) _ _).trans ?_)
    | (with_reducible refine (still_foldl_snd _ (fun r x => ?_) _ _).trans ?_)
    | (with_reducible refine (still_foldl_fst _ (fun r x => ?_) _ _).trans ?_)
    | (with_reducible refine (still_foldl_snd2 _ (fun r x => ?_) _ _).trans ?_)
    | (simp only [↓draw_still, ↓dbgDenied_still, ↓still_mk, ↓still_ite, ite_self, ↓still_dite, dite_eq_ite, ↓apply_ite
        Prod.snd, ↓apply_ite Prod.fst, ↓still_foldl])
    | (with_reducible refine ite_eq_of ?_ ?_)
    | split)

theorem dbgRead_still (a0 a1) :
    (State.dbgRead a0 a1).2.still = a0.still := by
  unfold State.dbgRead
  repeat' (first
    | (simp only [↓setReg_still, ↓still_mk, ↓still_ite, ite_self, ↓still_dite, dite_eq_ite, ↓apply_ite Prod.snd,
        ↓apply_ite Prod.fst, ↓still_foldl]; done)
    | (with_reducible refine (still_foldl _ (fun s x => ?_) _ _).trans ?_)
    | (with_reducible refine (still_foldl_snd _ (fun r x => ?_) _ _).trans ?_)
    | (with_reducible refine (still_foldl_fst _ (fun r x => ?_) _ _).trans ?_)
    | (with_reducible refine (still_foldl_snd2 _ (fun r x => ?_) _ _).trans ?_)
    | (simp only [↓setReg_still, ↓still_mk, ↓still_ite, ite_self, ↓still_dite, dite_eq_ite, ↓apply_ite Prod.snd,
        ↓apply_ite Prod.fst, ↓still_foldl])
    | (with_reducible refine ite_eq_of ?_ ?_)
    | split)

theorem fogRead_still (a0 a1) :
    (State.fogRead a0 a1).2.still = a0.still := by
  unfold State.fogRead
  repeat' (first
    | (simp only [↓idxAdvance_still, ↓still_mk, ↓still_ite, ite_self, ↓still_dite, dite_eq_ite, ↓apply_ite Prod.snd,
        ↓apply_ite Prod.fst, ↓still_foldl]; done)
    | (with_reducible refine (still_foldl _ (fun s x => ?_) _ _).trans ?_)
    | (with_reducible refine (still_foldl_snd _ (fun r x => ?_) _ _).trans ?_)
    | (with_reducible refine (still_foldl_fst _ (fun r x => ?_) _ _).trans ?_)
    | (with_reducible refine (still_foldl_snd2 _ (fun r x => ?_) _ _).trans ?_)
    | (simp only [↓idxAdvance_still, ↓still_mk, ↓still_ite, ite_self, ↓still_dite, dite_eq_ite, ↓apply_ite Prod.snd,
        ↓apply_ite Prod.fst, ↓still_foldl])
    | (with_reducible refine ite_eq_of ?_ ?_)
    | split)

theorem llaneRead_still (a0 a1 a2) :
    (State.llaneRead a0 a1 a2).2.still = a0.still := by
  unfold State.llaneRead
  repeat' (first
    | (simp only [↓coefAdvance_still, ↓txCoefAdvance_still, ↓still_mk, ↓still_ite, ite_self, ↓still_dite, dite_eq_ite,
        ↓apply_ite Prod.snd, ↓apply_ite Prod.fst, ↓still_foldl]; done)
    | (with_reducible refine (still_foldl _ (fun s x => ?_) _ _).trans ?_)
    | (with_reducible refine (still_foldl_snd _ (fun r x => ?_) _ _).trans ?_)
    | (with_reducible refine (still_foldl_fst _ (fun r x => ?_) _ _).trans ?_)
    | (with_reducible refine (still_foldl_snd2 _ (fun r x => ?_) _ _).trans ?_)
    | (simp only [↓coefAdvance_still, ↓txCoefAdvance_still, ↓still_mk, ↓still_ite, ite_self, ↓still_dite, dite_eq_ite,
        ↓apply_ite Prod.snd, ↓apply_ite Prod.fst, ↓still_foldl])
    | (with_reducible refine ite_eq_of ?_ ?_)
    | split)

theorem readOwn_still (a0 a1 a2 a3) :
    (State.readOwn a0 a1 a2 a3).2.still = a0.still := by
  unfold State.readOwn
  repeat' (first
    | (simp only [↓kprRead_still, ↓dbgRead_still, ↓fcoefAdvance_still, ↓fogRead_still, ↓llaneRead_still,
        ↓hcoefAdvance_still, ↓still_mk, ↓still_ite, ite_self, ↓still_dite, dite_eq_ite, ↓apply_ite Prod.snd,
        ↓apply_ite Prod.fst, ↓still_foldl]; done)
    | (with_reducible refine (still_foldl _ (fun s x => ?_) _ _).trans ?_)
    | (with_reducible refine (still_foldl_snd _ (fun r x => ?_) _ _).trans ?_)
    | (with_reducible refine (still_foldl_fst _ (fun r x => ?_) _ _).trans ?_)
    | (with_reducible refine (still_foldl_snd2 _ (fun r x => ?_) _ _).trans ?_)
    | (simp only [↓kprRead_still, ↓dbgRead_still, ↓fcoefAdvance_still, ↓fogRead_still, ↓llaneRead_still,
        ↓hcoefAdvance_still, ↓still_mk, ↓still_ite, ite_self, ↓still_dite, dite_eq_ite, ↓apply_ite Prod.snd,
        ↓apply_ite Prod.fst, ↓still_foldl])
    | (with_reducible refine ite_eq_of ?_ ?_)
    | split)

theorem writeAlias_unfused (s : State) (q : Requester) (b off al : Nat) (v : Word) :
    (s.writeAlias q b off al v).still.unfused = s.still.unfused := by
  unfold writeAlias; exact writeDirect_unfused ..

theorem tbRate_still (a0 a1 a2) :
    (State.tbRate a0 a1 a2).still = a0.still := by
  unfold State.tbRate
  simp only [↓setReg_still, ↓flag_still, ↓still_mk, ↓still_ite, ite_self]

theorem writeWide_unfused (s : State) (q : Requester) (b top al : Nat) (v : Word) :
    (s.writeWide q b top al v).still.unfused = s.still.unfused := by
  unfold writeWide
  dsimp only
  refine ite_fold ?_ ?_
  · simp only [↓parityNew_still, ↓tbRate_still, ↓still_mk]
  · refine (writeAlias_unfused ..).trans ((unfused_foldl _ (fun s x => writeAlias_unfused ..) _ _).trans ?_)
    simp only [↓still_mk]

theorem writeWord_unfused (a0 a1 a2 a3 a4 a5) :
    (State.writeWord a0 a1 a2 a3 a4 a5).still.unfused = a0.still.unfused := by
  unfold State.writeWord
  split <;> simp only [↓holdWord_still, ↓writeAlias_unfused, ↓writeWide_unfused, ↓unfused_mk, ↓still_mk, ↓still_ite,
      ↓unfused_ite, ite_self]

theorem writeRw_unfused (a0 a1) :
    (State.writeRw a0 a1).still.unfused = a0.still.unfused := by
  unfold State.writeRw
  repeat' (first
    | (simp only [↓offRecord_still, ↓writeWord_unfused, ↓readOwn_still, ↓unfused_mk, ↓still_mk, ↓still_ite,
        ↓unfused_ite, ite_self, ↓still_dite, dite_eq_ite, ↓apply_ite Prod.snd, ↓apply_ite Prod.fst, ↓still_foldl];
        done)
    | (with_reducible refine (still_foldl _ (fun s x => ?_) _ _).trans ?_)
    | (with_reducible refine (still_foldl_snd _ (fun r x => ?_) _ _).trans ?_)
    | (with_reducible refine (still_foldl_fst _ (fun r x => ?_) _ _).trans ?_)
    | (with_reducible refine (still_foldl_snd2 _ (fun r x => ?_) _ _).trans ?_)
    | (with_reducible refine (unfused_foldl _ (fun s x => ?_) _ _).trans ?_)
    | (with_reducible refine (unfused_foldl_snd _ (fun s x => ?_) _ _).trans ?_)
    | (simp only [↓offRecord_still, ↓writeWord_unfused, ↓readOwn_still, ↓unfused_mk, ↓still_mk, ↓still_ite,
        ↓unfused_ite, ite_self, ↓still_dite, dite_eq_ite, ↓apply_ite Prod.snd, ↓apply_ite Prod.fst, ↓still_foldl])
    | (with_reducible refine ite_eq_of ?_ ?_)
    | split)

theorem applyDone_unfused (a0 a1) :
    (State.applyDone a0 a1).still.unfused = a0.still.unfused := by
  unfold State.applyDone
  simp only [↓setPhase_still, ↓cfgSwap_still, ↓writeRw_unfused, ↓raise_still, ↓setF_still, ↓modCfgv_still,
      ↓unfused_mk, ↓still_mk]

theorem applyHdac_still (a0 a1) :
    (State.applyHdac a0 a1).still = a0.still := by
  unfold State.applyHdac
  repeat' (first
    | (simp only [↓setF_still, ↓hdacOut_still, ↓still_mk, ↓still_ite, ite_self, ↓still_dite, dite_eq_ite, ↓apply_ite
        Prod.snd, ↓apply_ite Prod.fst, ↓still_foldl]; done)
    | (with_reducible refine (still_foldl _ (fun s x => ?_) _ _).trans ?_)
    | (with_reducible refine (still_foldl_snd _ (fun r x => ?_) _ _).trans ?_)
    | (with_reducible refine (still_foldl_fst _ (fun r x => ?_) _ _).trans ?_)
    | (with_reducible refine (still_foldl_snd2 _ (fun r x => ?_) _ _).trans ?_)
    | (simp only [↓setF_still, ↓hdacOut_still, ↓still_mk, ↓still_ite, ite_self, ↓still_dite, dite_eq_ite, ↓apply_ite
        Prod.snd, ↓apply_ite Prod.fst, ↓still_foldl])
    | (with_reducible refine ite_eq_of ?_ ?_)
    | split)

theorem applyHkcal_still (a0 a1) :
    (State.applyHkcal a0 a1).still = a0.still := by
  unfold State.applyHkcal
  repeat' (first
    | (simp only [↓hkFactAt_still, ↓still_mk, ↓still_ite, ite_self, ↓still_dite, dite_eq_ite, ↓apply_ite Prod.snd,
        ↓apply_ite Prod.fst, ↓still_foldl]; done)
    | (with_reducible refine (still_foldl _ (fun s x => ?_) _ _).trans ?_)
    | (with_reducible refine (still_foldl_snd _ (fun r x => ?_) _ _).trans ?_)
    | (with_reducible refine (still_foldl_fst _ (fun r x => ?_) _ _).trans ?_)
    | (with_reducible refine (still_foldl_snd2 _ (fun r x => ?_) _ _).trans ?_)
    | (simp only [↓hkFactAt_still, ↓still_mk, ↓still_ite, ite_self, ↓still_dite, dite_eq_ite, ↓apply_ite Prod.snd,
        ↓apply_ite Prod.fst, ↓still_foldl])
    | (with_reducible refine ite_eq_of ?_ ?_)
    | split)

theorem applyRepairs_unfused (a0 a1 a2) :
    (State.applyRepairs a0 a1 a2).still.unfused = a0.still.unfused := by
  unfold State.applyRepairs
  repeat' (first
    | (simp only [↓writeDirect_unfused, ↓unfused_mk, ↓still_mk, ↓still_ite, ↓unfused_ite, ite_self, ↓still_dite,
        dite_eq_ite, ↓apply_ite Prod.snd, ↓apply_ite Prod.fst, ↓still_foldl]; done)
    | (with_reducible refine (still_foldl _ (fun s x => ?_) _ _).trans ?_)
    | (with_reducible refine (still_foldl_snd _ (fun r x => ?_) _ _).trans ?_)
    | (with_reducible refine (still_foldl_fst _ (fun r x => ?_) _ _).trans ?_)
    | (with_reducible refine (still_foldl_snd2 _ (fun r x => ?_) _ _).trans ?_)
    | (with_reducible refine (unfused_foldl _ (fun s x => ?_) _ _).trans ?_)
    | (with_reducible refine (unfused_foldl_snd _ (fun s x => ?_) _ _).trans ?_)
    | (simp only [↓writeDirect_unfused, ↓unfused_mk, ↓still_mk, ↓still_ite, ↓unfused_ite, ite_self, ↓still_dite,
        dite_eq_ite, ↓apply_ite Prod.snd, ↓apply_ite Prod.fst, ↓still_foldl])
    | (with_reducible refine ite_eq_of ?_ ?_)
    | split)

theorem applySeeds_still (a0 a1 a2) :
    (State.applySeeds a0 a1 a2).still = a0.still := by
  unfold State.applySeeds
  simp only [↓sramPoke_still, ↓still_mk, ↓still_ite, ite_self]

theorem attemptFail_still (a0) :
    (State.attemptFail a0).still = a0.still := by
  unfold State.attemptFail
  simp only [↓pmbSend_still, ↓send_still, ↓setF_still, ↓flag_still, ↓logRecord_still, ↓voltEnd_still, ↓still_mk,
      ↓still_ite, ite_self]

theorem authFail_still (a0) :
    (State.authFail a0).still = a0.still := by
  unfold State.authFail
  simp only [↓raise_still, ↓countSat_still]

theorem bandEval_still (a0 a1) :
    (State.bandEval a0 a1).still = a0.still := by
  unfold State.bandEval
  simp only [↓setCand_still, ↓setBand_still, ↓still_mk, ↓still_ite, ite_self]

theorem bar2Microcode_still (a0 a1) :
    (State.bar2Microcode a0 a1).still = a0.still := by
  unfold State.bar2Microcode
  split <;> simp only [↓setEf_still, ↓still_mk, ↓still_ite, ite_self]

theorem memDenied_still (a0 a1) :
    (State.memDenied a0 a1).still = a0.still := by
  unfold State.memDenied
  simp only [↓flag_still, ↓setF_still]

theorem bar2Words_still (a0 a1 a2 a3) :
    (State.bar2Words a0 a1 a2 a3).2.2.still = a0.still := by
  unfold State.bar2Words
  repeat' (first
    | (simp only [↓draw_still, ↓sramRead_still, ↓still_mk, ↓still_ite, ite_self, ↓still_dite, dite_eq_ite, ↓apply_ite
        Prod.snd, ↓apply_ite Prod.fst, ↓still_foldl]; done)
    | (with_reducible refine (still_foldl _ (fun s x => ?_) _ _).trans ?_)
    | (with_reducible refine (still_foldl_snd _ (fun r x => ?_) _ _).trans ?_)
    | (with_reducible refine (still_foldl_fst _ (fun r x => ?_) _ _).trans ?_)
    | (with_reducible refine (still_foldl_snd2 _ (fun r x => ?_) _ _).trans ?_)
    | (simp only [↓draw_still, ↓sramRead_still, ↓still_mk, ↓still_ite, ite_self, ↓still_dite, dite_eq_ite, ↓apply_ite
        Prod.snd, ↓apply_ite Prod.fst, ↓still_foldl])
    | (with_reducible refine ite_eq_of ?_ ?_)
    | split)

theorem ueAnswer_still (a0 a1 a2 a3 a4) :
    (State.ueAnswer a0 a1 a2 a3 a4).still = a0.still := by
  unfold State.ueAnswer
  split <;> simp only [↓setF_still, ↓countSat_still, ↓setReg_still, ↓send_still, ↓tlp_still, ↓still_mk, ↓still_ite,
      ite_self]

theorem bar2Read_still (a0 a1 a2 a3) :
    (State.bar2Read a0 a1 a2 a3).still = a0.still := by
  unfold State.bar2Read
  split <;> simp only [↓send_still, ↓memDenied_still, ↓offRecord_still, ↓bar2Words_still, ↓ueAnswer_still, ↓still_mk,
      ↓still_ite, ite_self]

theorem bar2Write_still (a0 a1 a2 a3) :
    (State.bar2Write a0 a1 a2 a3).still = a0.still := by
  unfold State.bar2Write
  repeat' (first
    | (simp only [↓memDenied_still, ↓offRecord_still, ↓sramPoke_still, ↓sramWrite_still, ↓bar2Microcode_still,
        ↓still_mk, ↓still_ite, ite_self, ↓still_dite, dite_eq_ite, ↓apply_ite Prod.snd, ↓apply_ite Prod.fst,
        ↓still_foldl]; done)
    | (with_reducible refine (still_foldl _ (fun s x => ?_) _ _).trans ?_)
    | (with_reducible refine (still_foldl_snd _ (fun r x => ?_) _ _).trans ?_)
    | (with_reducible refine (still_foldl_fst _ (fun r x => ?_) _ _).trans ?_)
    | (with_reducible refine (still_foldl_snd2 _ (fun r x => ?_) _ _).trans ?_)
    | (simp only [↓memDenied_still, ↓offRecord_still, ↓sramPoke_still, ↓sramWrite_still, ↓bar2Microcode_still,
        ↓still_mk, ↓still_ite, ite_self, ↓still_dite, dite_eq_ite, ↓apply_ite Prod.snd, ↓apply_ite Prod.fst,
        ↓still_foldl])
    | (with_reducible refine ite_eq_of ?_ ?_)
    | split)

theorem ddrDenied_still (a0 a1) :
    (State.ddrDenied a0 a1).still = a0.still := by
  unfold State.ddrDenied
  simp only [↓flag_still, ↓setF_still, ↓setReg_still]

theorem ddrCount_still (a0 a1 a2 a3) :
    (State.ddrCount a0 a1 a2 a3).still = a0.still := by
  unfold State.ddrCount
  simp only [↓count32_still, ↓raise_still, ↓setF_still, ↓still_mk, ↓still_ite, ite_self]

theorem ddrUe_still (a0 a1 a2) :
    (State.ddrUe a0 a1 a2).still = a0.still := by
  unfold State.ddrUe
  simp only [↓modDdr_still, ↓ddrCount_still, ↓setF_still, ↓setReg_still, ↓logRecord_still, ↓raise_still]

theorem ddrRepair_still (a0 a1) :
    (State.ddrRepair a0 a1).still = a0.still := by
  unfold State.ddrRepair
  simp only [↓raise_still, ↓perf_still, ↓ddrCount_still, ↓modDdr_still]

theorem ddrReadGranule_still (a0 a1 a2) :
    (State.ddrReadGranule a0 a1 a2).2.still = a0.still := by
  unfold State.ddrReadGranule
  repeat' (first
    | (simp only [↓perf_still, ↓ddrUe_still, ↓ddrCount_still, ↓ddrRepair_still, ↓still_mk, ↓still_ite, ite_self,
        ↓still_dite, dite_eq_ite, ↓apply_ite Prod.snd, ↓apply_ite Prod.fst, ↓still_foldl]; done)
    | (with_reducible refine (still_foldl _ (fun s x => ?_) _ _).trans ?_)
    | (with_reducible refine (still_foldl_snd _ (fun r x => ?_) _ _).trans ?_)
    | (with_reducible refine (still_foldl_fst _ (fun r x => ?_) _ _).trans ?_)
    | (with_reducible refine (still_foldl_snd2 _ (fun r x => ?_) _ _).trans ?_)
    | (simp only [↓perf_still, ↓ddrUe_still, ↓ddrCount_still, ↓ddrRepair_still, ↓still_mk, ↓still_ite, ite_self,
        ↓still_dite, dite_eq_ite, ↓apply_ite Prod.snd, ↓apply_ite Prod.fst, ↓still_foldl])
    | (with_reducible refine ite_eq_of ?_ ?_)
    | split)

theorem ddrRead_still (a0 a1 a2 a3) :
    (State.ddrRead a0 a1 a2 a3).2.2.still = a0.still := by
  unfold State.ddrRead
  repeat' (first
    | (simp only [↓ddrReadGranule_still, ↓still_mk, ↓still_ite, ite_self, ↓still_dite, dite_eq_ite, ↓apply_ite
        Prod.snd, ↓apply_ite Prod.fst, ↓still_foldl]; done)
    | (with_reducible refine (still_foldl _ (fun s x => ?_) _ _).trans ?_)
    | (with_reducible refine (still_foldl_snd _ (fun r x => ?_) _ _).trans ?_)
    | (with_reducible refine (still_foldl_fst _ (fun r x => ?_) _ _).trans ?_)
    | (with_reducible refine (still_foldl_snd2 _ (fun r x => ?_) _ _).trans ?_)
    | (simp only [↓ddrReadGranule_still, ↓still_mk, ↓still_ite, ite_self, ↓still_dite, dite_eq_ite, ↓apply_ite
        Prod.snd, ↓apply_ite Prod.fst, ↓still_foldl])
    | (with_reducible refine ite_eq_of ?_ ?_)
    | split)

theorem bar4Read_still (a0 a1 a2 a3) :
    (State.bar4Read a0 a1 a2 a3).still = a0.still := by
  unfold State.bar4Read
  split <;> simp only [↓send_still, ↓ddrDenied_still, ↓offRecord_still, ↓ddrRead_still, ↓ueAnswer_still, ↓still_mk,
      ↓still_ite, ite_self]

theorem ddrTouch_still (a0 a1) :
    (State.ddrTouch a0 a1).still = a0.still := by
  unfold State.ddrTouch
  simp only [↓modDdr_still, ↓ddrForget_still, ↓still_mk, ↓still_ite, ite_self]

theorem ddrUnseal_still (a0 a1) :
    (State.ddrUnseal a0 a1).still = a0.still := by
  unfold State.ddrUnseal
  simp only [↓raise_still, ↓ddrCount_still, ↓modDdr_still, ↓still_mk, ↓still_ite, ite_self]

theorem ddrWrite_still (a0 a1 a2 a3) :
    (State.ddrWrite a0 a1 a2 a3).still = a0.still := by
  unfold State.ddrWrite
  repeat' (first
    | (simp only [↓perf_still, ↓ddrTouch_still, ↓ddrUnseal_still, ↓modDdr_still, ↓ddrSealPage_still, ↓still_mk,
        ↓still_ite, ite_self, ↓still_dite, dite_eq_ite, ↓apply_ite Prod.snd, ↓apply_ite Prod.fst, ↓still_foldl]; done)
    | (with_reducible refine (still_foldl _ (fun s x => ?_) _ _).trans ?_)
    | (with_reducible refine (still_foldl_snd _ (fun r x => ?_) _ _).trans ?_)
    | (with_reducible refine (still_foldl_fst _ (fun r x => ?_) _ _).trans ?_)
    | (with_reducible refine (still_foldl_snd2 _ (fun r x => ?_) _ _).trans ?_)
    | (simp only [↓perf_still, ↓ddrTouch_still, ↓ddrUnseal_still, ↓modDdr_still, ↓ddrSealPage_still, ↓still_mk,
        ↓still_ite, ite_self, ↓still_dite, dite_eq_ite, ↓apply_ite Prod.snd, ↓apply_ite Prod.fst, ↓still_foldl])
    | (with_reducible refine ite_eq_of ?_ ?_)
    | split)

theorem bar4Write_still (a0 a1 a2) :
    (State.bar4Write a0 a1 a2).still = a0.still := by
  unfold State.bar4Write
  split <;> simp only [↓ddrDenied_still, ↓offRecord_still, ↓ddrWrite_still, ↓still_mk, ↓still_ite, ite_self]

theorem bgEnd_still (a0 a1 a2 a3 a4) :
    (State.bgEnd a0 a1 a2 a3 a4).still = a0.still := by
  unfold State.bgEnd
  repeat' (first
    | (simp only [↓modLane_still, ↓raise_still, ↓setReg_still, ↓bgStart_still, ↓still_mk, ↓still_ite, ite_self,
        ↓still_dite, dite_eq_ite, ↓apply_ite Prod.snd, ↓apply_ite Prod.fst, ↓still_foldl]; done)
    | (with_reducible refine (still_foldl _ (fun s x => ?_) _ _).trans ?_)
    | (with_reducible refine (still_foldl_snd _ (fun r x => ?_) _ _).trans ?_)
    | (with_reducible refine (still_foldl_fst _ (fun r x => ?_) _ _).trans ?_)
    | (with_reducible refine (still_foldl_snd2 _ (fun r x => ?_) _ _).trans ?_)
    | (simp only [↓modLane_still, ↓raise_still, ↓setReg_still, ↓bgStart_still, ↓still_mk, ↓still_ite, ite_self,
        ↓still_dite, dite_eq_ite, ↓apply_ite Prod.snd, ↓apply_ite Prod.fst, ↓still_foldl])
    | (with_reducible refine ite_eq_of ?_ ?_)
    | split)

theorem bistComplete_still (a0 a1 a2) :
    (State.bistComplete a0 a1 a2).still = a0.still := by
  unfold State.bistComplete
  split <;> simp only [↓draw_still, ↓setBist_still, ↓still_mk, ↓still_ite, ite_self]

theorem bistDone_still (a0 a1) :
    (State.bistDone a0 a1).still = a0.still := by
  unfold State.bistDone
  repeat' (first
    | (simp only [↓bistEnd_still, ↓bistComplete_still, ↓still_mk, ↓still_ite, ite_self, ↓still_dite, dite_eq_ite,
        ↓apply_ite Prod.snd, ↓apply_ite Prod.fst, ↓still_foldl]; done)
    | (with_reducible refine (still_foldl _ (fun s x => ?_) _ _).trans ?_)
    | (with_reducible refine (still_foldl_snd _ (fun r x => ?_) _ _).trans ?_)
    | (with_reducible refine (still_foldl_fst _ (fun r x => ?_) _ _).trans ?_)
    | (with_reducible refine (still_foldl_snd2 _ (fun r x => ?_) _ _).trans ?_)
    | (simp only [↓bistEnd_still, ↓bistComplete_still, ↓still_mk, ↓still_ite, ite_self, ↓still_dite, dite_eq_ite,
        ↓apply_ite Prod.snd, ↓apply_ite Prod.fst, ↓still_foldl])
    | (with_reducible refine ite_eq_of ?_ ?_)
    | split)

theorem bistLapse_still (a0 a1 a2) :
    (State.bistLapse a0 a1 a2).still = a0.still := by
  unfold State.bistLapse
  simp only [↓bistPrecond_still, ↓bistCut_still, ↓still_mk, ↓still_ite, ite_self]

theorem bistParents_still (a0 a1) :
    (State.bistParents a0 a1).still = a0.still := by
  unfold State.bistParents
  repeat' (first
    | (simp only [↓bistEnd_still, ↓bistCutDom_still, ↓laneTestCut_still, ↓still_mk, ↓still_ite, ite_self, ↓still_dite,
        dite_eq_ite, ↓apply_ite Prod.snd, ↓apply_ite Prod.fst, ↓still_foldl]; done)
    | (with_reducible refine (still_foldl _ (fun s x => ?_) _ _).trans ?_)
    | (with_reducible refine (still_foldl_snd _ (fun r x => ?_) _ _).trans ?_)
    | (with_reducible refine (still_foldl_fst _ (fun r x => ?_) _ _).trans ?_)
    | (with_reducible refine (still_foldl_snd2 _ (fun r x => ?_) _ _).trans ?_)
    | (simp only [↓bistEnd_still, ↓bistCutDom_still, ↓laneTestCut_still, ↓still_mk, ↓still_ite, ite_self, ↓still_dite,
        dite_eq_ite, ↓apply_ite Prod.snd, ↓apply_ite Prod.fst, ↓still_foldl])
    | (with_reducible refine ite_eq_of ?_ ?_)
    | split)

theorem hostToTrain_still (a0 a1) :
    (State.hostToTrain a0 a1).still = a0.still := by
  unfold State.hostToTrain
  simp only [↓modHlane_still, ↓setHostState_still, ↓setF_still, ↓still_mk, ↓still_ite, ite_self]

theorem bypassEval_still (a0 a1) :
    (State.bypassEval a0 a1).still = a0.still := by
  unfold State.bypassEval
  simp only [↓hostToTrain_still, ↓hostToUp_still, ↓still_mk, ↓still_ite, ite_self]

theorem blockLock_still (a0 a1) :
    (State.blockLock a0 a1).still = a0.still := by
  unfold State.blockLock
  simp only [↓setF_still, ↓setHostState_still, ↓modHlane_still, ↓portsEval_still, ↓bypassEval_still, ↓still_mk,
      ↓still_ite, ite_self]

theorem blockLockLost_still (a0 a1) :
    (State.blockLockLost a0 a1).still = a0.still := by
  unfold State.blockLockLost
  simp only [↓setF_still]

theorem bootBundle_still (a0 a1) :
    (State.bootBundle a0 a1).still = a0.still := by
  unfold State.bootBundle
  split <;> simp only [↓setF_still, ↓setReg_still, ↓still_mk, ↓still_ite, ite_self]

theorem bootConfig_still (a0 a1) :
    (State.bootConfig a0 a1).still = a0.still := by
  unfold State.bootConfig
  repeat' (first
    | (simp only [↓setF_still, ↓setReg_still, ↓still_mk, ↓still_ite, ite_self, ↓still_dite, dite_eq_ite, ↓apply_ite
        Prod.snd, ↓apply_ite Prod.fst, ↓still_foldl]; done)
    | (with_reducible refine (still_foldl _ (fun s x => ?_) _ _).trans ?_)
    | (with_reducible refine (still_foldl_snd _ (fun r x => ?_) _ _).trans ?_)
    | (with_reducible refine (still_foldl_fst _ (fun r x => ?_) _ _).trans ?_)
    | (with_reducible refine (still_foldl_snd2 _ (fun r x => ?_) _ _).trans ?_)
    | (simp only [↓setF_still, ↓setReg_still, ↓still_mk, ↓still_ite, ite_self, ↓still_dite, dite_eq_ite, ↓apply_ite
        Prod.snd, ↓apply_ite Prod.fst, ↓still_foldl])
    | (with_reducible refine ite_eq_of ?_ ?_)
    | split)

theorem pendSend_still (a0 a1) :
    (State.pendSend a0 a1).still = a0.still := by
  unfold State.pendSend
  simp only [↓sendVector_still, ↓still_mk, ↓still_ite, ite_self]

theorem msixWrite_still (a0 a1 a2 a3) :
    (State.msixWrite a0 a1 a2 a3).still = a0.still := by
  unfold State.msixWrite
  simp only [↓pendSend_still, ↓still_mk]

theorem dmaAliasCtl_still (a0 a1 a2) :
    (State.dmaAliasCtl a0 a1 a2).still = a0.still := by
  unfold State.dmaAliasCtl
  simp only [↓dmaCtl_still]

theorem busWrite_unfused (a0 a1 a2 a3 a4) :
    (State.busWrite a0 a1 a2 a3 a4).still.unfused = a0.still.unfused := by
  unfold State.busWrite
  repeat' (first
    | (simp only [↓tlp_still, ↓dbgDenied_still, ↓accErr_still, ↓writeWord_unfused, ↓offRecord_still, ↓msixWrite_still,
        ↓dmaAliasCtl_still, ↓unfused_mk, ↓still_mk, ↓still_ite, ↓unfused_ite, ite_self, ↓still_dite, dite_eq_ite,
        ↓apply_ite Prod.snd, ↓apply_ite Prod.fst, ↓still_foldl]; done)
    | (with_reducible refine (still_foldl _ (fun s x => ?_) _ _).trans ?_)
    | (with_reducible refine (still_foldl_snd _ (fun r x => ?_) _ _).trans ?_)
    | (with_reducible refine (still_foldl_fst _ (fun r x => ?_) _ _).trans ?_)
    | (with_reducible refine (still_foldl_snd2 _ (fun r x => ?_) _ _).trans ?_)
    | (with_reducible refine (unfused_foldl _ (fun s x => ?_) _ _).trans ?_)
    | (with_reducible refine (unfused_foldl_snd _ (fun s x => ?_) _ _).trans ?_)
    | (simp only [↓tlp_still, ↓dbgDenied_still, ↓accErr_still, ↓writeWord_unfused, ↓offRecord_still, ↓msixWrite_still,
        ↓dmaAliasCtl_still, ↓unfused_mk, ↓still_mk, ↓still_ite, ↓unfused_ite, ite_self, ↓still_dite, dite_eq_ite,
        ↓apply_ite Prod.snd, ↓apply_ite Prod.fst, ↓still_foldl])
    | (with_reducible refine ite_eq_of ?_ ?_)
    | split)

theorem bootRecord_unfused (a0 a1) :
    (State.bootRecord a0 a1).still.unfused = a0.still.unfused := by
  unfold State.bootRecord
  repeat' (first
    | (simp only [↓busWrite_unfused, ↓applySeeds_still, ↓logCtl_still, ↓setReg_still, ↓unfused_mk, ↓still_mk,
        ↓still_ite, ↓unfused_ite, ite_self, ↓still_dite, dite_eq_ite, ↓apply_ite Prod.snd, ↓apply_ite Prod.fst,
        ↓still_foldl]; done)
    | (with_reducible refine (still_foldl _ (fun s x => ?_) _ _).trans ?_)
    | (with_reducible refine (still_foldl_snd _ (fun r x => ?_) _ _).trans ?_)
    | (with_reducible refine (still_foldl_fst _ (fun r x => ?_) _ _).trans ?_)
    | (with_reducible refine (still_foldl_snd2 _ (fun r x => ?_) _ _).trans ?_)
    | (with_reducible refine (unfused_foldl _ (fun s x => ?_) _ _).trans ?_)
    | (with_reducible refine (unfused_foldl_snd _ (fun s x => ?_) _ _).trans ?_)
    | (simp only [↓busWrite_unfused, ↓applySeeds_still, ↓logCtl_still, ↓setReg_still, ↓unfused_mk, ↓still_mk,
        ↓still_ite, ↓unfused_ite, ite_self, ↓still_dite, dite_eq_ite, ↓apply_ite Prod.snd, ↓apply_ite Prod.fst,
        ↓still_foldl])
    | (with_reducible refine ite_eq_of ?_ ?_)
    | split)

theorem buildPositions_still (a0 a1) :
    (State.buildPositions a0 a1).still = a0.still := by
  unfold State.buildPositions
  simp only [↓setB_still, ↓modLane_still]

theorem buildSlots_still (a0 a1) :
    (State.buildSlots a0 a1).still = a0.still := by
  unfold State.buildSlots
  simp only [↓setB_still, ↓modLane_still]

theorem readReg_still (a0 a1 a2 a3) :
    (State.readReg a0 a1 a2 a3).2.still = a0.still := by
  unfold State.readReg
  repeat' (first
    | (simp only [↓readOwn_still, ↓still_mk, ↓still_ite, ite_self, ↓still_dite, dite_eq_ite, ↓apply_ite Prod.snd,
        ↓apply_ite Prod.fst, ↓still_foldl]; done)
    | (with_reducible refine (still_foldl _ (fun s x => ?_) _ _).trans ?_)
    | (with_reducible refine (still_foldl_snd _ (fun r x => ?_) _ _).trans ?_)
    | (with_reducible refine (still_foldl_fst _ (fun r x => ?_) _ _).trans ?_)
    | (with_reducible refine (still_foldl_snd2 _ (fun r x => ?_) _ _).trans ?_)
    | (simp only [↓readOwn_still, ↓still_mk, ↓still_ite, ite_self, ↓still_dite, dite_eq_ite, ↓apply_ite Prod.snd,
        ↓apply_ite Prod.fst, ↓still_foldl])
    | (with_reducible refine ite_eq_of ?_ ?_)
    | split)

theorem busRead_still (a0 a1 a2) :
    (State.busRead a0 a1 a2).2.still = a0.still := by
  unfold State.busRead
  repeat' (first
    | (simp only [↓dbgDenied_still, ↓readReg_still, ↓offRecord_still, ↓still_mk, ↓still_ite, ite_self, ↓still_dite,
        dite_eq_ite, ↓apply_ite Prod.snd, ↓apply_ite Prod.fst, ↓still_foldl]; done)
    | (with_reducible refine (still_foldl _ (fun s x => ?_) _ _).trans ?_)
    | (with_reducible refine (still_foldl_snd _ (fun r x => ?_) _ _).trans ?_)
    | (with_reducible refine (still_foldl_fst _ (fun r x => ?_) _ _).trans ?_)
    | (with_reducible refine (still_foldl_snd2 _ (fun r x => ?_) _ _).trans ?_)
    | (simp only [↓dbgDenied_still, ↓readReg_still, ↓offRecord_still, ↓still_mk, ↓still_ite, ite_self, ↓still_dite,
        dite_eq_ite, ↓apply_ite Prod.snd, ↓apply_ite Prod.fst, ↓still_foldl])
    | (with_reducible refine ite_eq_of ?_ ?_)
    | split)

theorem cdrGain_still (a0 a1 a2) :
    (State.cdrGain a0 a1 a2).still = a0.still := by
  unfold State.cdrGain
  simp only [↓holdoverAll_still, ↓sigChange_still, ↓setReg_still, ↓setF_still, ↓still_mk, ↓still_ite, ite_self]

theorem cdrLost_still (a0 a1) :
    (State.cdrLost a0 a1).still = a0.still := by
  unfold State.cdrLost
  simp only [↓holdoverAll_still, ↓raise_still, ↓laneEvent_still, ↓sigChange_still, ↓setF_still, ↓still_mk, ↓still_ite,
      ite_self]

theorem cfgFail_still (a0 a1 a2) :
    (State.cfgFail a0 a1 a2).still = a0.still := by
  unfold State.cfgFail
  simp only [↓raise_still, ↓setF_still, ↓cfgResult_still, ↓setPhase_still, ↓cfgTimerOff_still]

theorem cfgCommitFail_still (a0) :
    (State.cfgCommitFail a0).still = a0.still := by
  unfold State.cfgCommitFail
  repeat' (first
    | (simp only [↓discard_still, ↓modCfgv_still, ↓cfgFail_still, ↓still_mk, ↓still_ite, ite_self, ↓still_dite,
        dite_eq_ite, ↓apply_ite Prod.snd, ↓apply_ite Prod.fst, ↓still_foldl]; done)
    | (with_reducible refine (still_foldl _ (fun s x => ?_) _ _).trans ?_)
    | (with_reducible refine (still_foldl_snd _ (fun r x => ?_) _ _).trans ?_)
    | (with_reducible refine (still_foldl_fst _ (fun r x => ?_) _ _).trans ?_)
    | (with_reducible refine (still_foldl_snd2 _ (fun r x => ?_) _ _).trans ?_)
    | (simp only [↓discard_still, ↓modCfgv_still, ↓cfgFail_still, ↓still_mk, ↓still_ite, ite_self, ↓still_dite,
        dite_eq_ite, ↓apply_ite Prod.snd, ↓apply_ite Prod.fst, ↓still_foldl])
    | (with_reducible refine ite_eq_of ?_ ?_)
    | split)

theorem rollbackDone_unfused (a0 a1) :
    (State.rollbackDone a0 a1).still.unfused = a0.still.unfused := by
  unfold State.rollbackDone
  simp only [↓setPhase_still, ↓cfgTimerOff_still, ↓cfgSwap_still, ↓writeRw_unfused, ↓raise_still, ↓modCfgv_still,
      ↓unfused_mk, ↓still_mk]

theorem rbEnable_still (a0) :
    (State.rbEnable a0).still = a0.still := by
  unfold State.rbEnable
  simp only [↓seWrite_still]

theorem rbProgram_still (a0 a1) :
    (State.rbProgram a0 a1).still = a0.still := by
  unfold State.rbProgram
  repeat' (first
    | (simp only [↓seWrite_still, ↓still_mk, ↓still_ite, ite_self, ↓still_dite, dite_eq_ite, ↓apply_ite Prod.snd,
        ↓apply_ite Prod.fst, ↓still_foldl]; done)
    | (with_reducible refine (still_foldl _ (fun s x => ?_) _ _).trans ?_)
    | (with_reducible refine (still_foldl_snd _ (fun r x => ?_) _ _).trans ?_)
    | (with_reducible refine (still_foldl_fst _ (fun r x => ?_) _ _).trans ?_)
    | (with_reducible refine (still_foldl_snd2 _ (fun r x => ?_) _ _).trans ?_)
    | (simp only [↓seWrite_still, ↓still_mk, ↓still_ite, ite_self, ↓still_dite, dite_eq_ite, ↓apply_ite Prod.snd,
        ↓apply_ite Prod.fst, ↓still_foldl])
    | (with_reducible refine ite_eq_of ?_ ?_)
    | split)

theorem rbCoord_still (a0 a1) :
    (State.rbCoord a0 a1).still = a0.still := by
  unfold State.rbCoord
  simp only [↓setReg_still, ↓coordPropose_still]

theorem rbArm_still (a0 a1 a2 a3) (ha3 : ∀ s, (a3 s).still = s.still) :
    (State.rbArm a0 a1 a2 a3).still = a0.still := by
  unfold State.rbArm
  repeat' (first
    | (simp only [↓ha3, ↓commitNow_still, ↓rbEnable_still, ↓rbProgram_still, ↓rbCoord_still, ↓still_mk, ↓still_ite,
        ite_self, ↓still_dite, dite_eq_ite, ↓apply_ite Prod.snd, ↓apply_ite Prod.fst, ↓still_foldl]; done)
    | (with_reducible refine (still_foldl _ (fun s x => ?_) _ _).trans ?_)
    | (with_reducible refine (still_foldl_snd _ (fun r x => ?_) _ _).trans ?_)
    | (with_reducible refine (still_foldl_fst _ (fun r x => ?_) _ _).trans ?_)
    | (with_reducible refine (still_foldl_snd2 _ (fun r x => ?_) _ _).trans ?_)
    | (simp only [↓ha3, ↓commitNow_still, ↓rbEnable_still, ↓rbProgram_still, ↓rbCoord_still, ↓still_mk, ↓still_ite,
        ite_self, ↓still_dite, dite_eq_ite, ↓apply_ite Prod.snd, ↓apply_ite Prod.fst, ↓still_foldl])
    | (with_reducible refine ite_eq_of ?_ ?_)
    | split)

theorem rbArm_unfused (a0 a1 a2 a3) (ha3 : ∀ s, (a3 s).still.unfused = s.still.unfused) :
    (State.rbArm a0 a1 a2 a3).still.unfused = a0.still.unfused := by
  unfold State.rbArm
  repeat' (first
    | (simp only [↓ha3, ↓commitNow_still, ↓rbEnable_still, ↓rbProgram_still, ↓rbCoord_still, ↓unfused_mk, ↓still_mk,
        ↓still_ite, ↓unfused_ite, ite_self, ↓still_dite, dite_eq_ite, ↓apply_ite Prod.snd, ↓apply_ite Prod.fst,
        ↓still_foldl]; done)
    | (with_reducible refine (still_foldl _ (fun s x => ?_) _ _).trans ?_)
    | (with_reducible refine (still_foldl_snd _ (fun r x => ?_) _ _).trans ?_)
    | (with_reducible refine (still_foldl_fst _ (fun r x => ?_) _ _).trans ?_)
    | (with_reducible refine (still_foldl_snd2 _ (fun r x => ?_) _ _).trans ?_)
    | (with_reducible refine (unfused_foldl _ (fun s x => ?_) _ _).trans ?_)
    | (with_reducible refine (unfused_foldl_snd _ (fun s x => ?_) _ _).trans ?_)
    | (simp only [↓ha3, ↓commitNow_still, ↓rbEnable_still, ↓rbProgram_still, ↓rbCoord_still, ↓unfused_mk, ↓still_mk,
        ↓still_ite, ↓unfused_ite, ite_self, ↓still_dite, dite_eq_ite, ↓apply_ite Prod.snd, ↓apply_ite Prod.fst,
        ↓still_foldl])
    | (with_reducible refine ite_eq_of ?_ ?_)
    | split)

theorem cfgvEval_unfused (s : State) : s.cfgvEval.still.unfused = s.still.unfused := by
  unfold cfgvEval
  split
  · rfl
  · split
    · rfl
    · dsimp only
      refine ite_fold ?_ (ite_fold ?_ (ite_fold rfl ?_))
      · refine ite_fold ?_ ?_
        · first | exact applyDone_unfused .. | exact congrArg unfused (applyDone_still ..)
        · first | exact rollbackDone_unfused .. | exact congrArg unfused (rollbackDone_still ..)
      · refine (rbArm_unfused _ _ _ _ (fun t => unfused_foldl _ (fun s b => ?_) _ _)).trans ?_
        · first | exact stageCtl_unfused .. | exact congrArg unfused (stageCtl_still ..)
        · rw [modCfgv_still]
      · first | exact cfgCommitFail_unfused .. | exact congrArg unfused (cfgCommitFail_still ..)

theorem lineCorr_still (a0 a1 a2) :
    (State.lineCorr a0 a1 a2).still = a0.still := by
  unfold State.lineCorr
  simp only [↓portAdd_still]

theorem chargeInner_still (a0 a1 a2 a3) :
    (State.chargeInner a0 a1 a2 a3).still = a0.still := by
  unfold State.chargeInner
  repeat' (first
    | (simp only [↓lineCorr_still, ↓still_mk, ↓still_ite, ite_self, ↓still_dite, dite_eq_ite, ↓apply_ite Prod.snd,
        ↓apply_ite Prod.fst, ↓still_foldl]; done)
    | (with_reducible refine (still_foldl _ (fun s x => ?_) _ _).trans ?_)
    | (with_reducible refine (still_foldl_snd _ (fun r x => ?_) _ _).trans ?_)
    | (with_reducible refine (still_foldl_fst _ (fun r x => ?_) _ _).trans ?_)
    | (with_reducible refine (still_foldl_snd2 _ (fun r x => ?_) _ _).trans ?_)
    | (simp only [↓lineCorr_still, ↓still_mk, ↓still_ite, ite_self, ↓still_dite, dite_eq_ite, ↓apply_ite Prod.snd,
        ↓apply_ite Prod.fst, ↓still_foldl])
    | (with_reducible refine ite_eq_of ?_ ?_)
    | split)

theorem commitEntry_still (a0 a1 a2) :
    (State.commitEntry a0 a1 a2).1.still = a0.still := by
  unfold State.commitEntry
  repeat' (first
    | (simp only [↓commitCheck_still, ↓commitRefused_still, ↓blkReport_still, ↓copyShadows_still, ↓recheck_still,
        ↓activeChanged_still, ↓still_mk, ↓still_ite, ite_self, ↓still_dite, dite_eq_ite, ↓apply_ite Prod.snd,
        ↓apply_ite Prod.fst, ↓still_foldl]; done)
    | (with_reducible refine (still_foldl _ (fun s x => ?_) _ _).trans ?_)
    | (with_reducible refine (still_foldl_snd _ (fun r x => ?_) _ _).trans ?_)
    | (with_reducible refine (still_foldl_fst _ (fun r x => ?_) _ _).trans ?_)
    | (with_reducible refine (still_foldl_snd2 _ (fun r x => ?_) _ _).trans ?_)
    | (simp only [↓commitCheck_still, ↓commitRefused_still, ↓blkReport_still, ↓copyShadows_still, ↓recheck_still,
        ↓activeChanged_still, ↓still_mk, ↓still_ite, ite_self, ↓still_dite, dite_eq_ite, ↓apply_ite Prod.snd,
        ↓apply_ite Prod.fst, ↓still_foldl])
    | (with_reducible refine ite_eq_of ?_ ?_)
    | split)

theorem confirmTimeout_still (a0) :
    (State.confirmTimeout a0).still = a0.still := by
  unfold State.confirmTimeout
  simp only [↓rollbackStart_still, ↓still_mk, ↓still_ite, ite_self]

theorem confirmWait_still (a0) :
    (State.confirmWait a0).still = a0.still := by
  unfold State.confirmWait
  simp only [↓pairFail_still, ↓twinErase_still, ↓still_mk, ↓still_ite, ite_self]

theorem coordCutoff_still (a0) :
    (State.coordCutoff a0).still = a0.still := by
  unfold State.coordCutoff
  simp only [↓coordDrop_still, ↓modTwin_still, ↓still_mk, ↓still_ite, ite_self]

theorem coordFired_still (a0 a1 a2) :
    (State.coordFired a0 a1 a2).still = a0.still := by
  unfold State.coordFired
  simp only [↓modTwin_still, ↓raise_still, ↓setF_still, ↓coordEnd_still, ↓still_mk, ↓still_ite, ite_self]

theorem kprDown_still (a0 a1) :
    (State.kprDown a0 a1).still = a0.still := by
  unfold State.kprDown
  simp only [↓sramForget_still, ↓still_mk, ↓still_ite, ite_self]

theorem fabDown_still (a0 a1) :
    (State.fabDown a0 a1).still = a0.still := by
  unfold State.fabDown
  simp only [↓logFree_still, ↓sramForget_still, ↓goldShow_still, ↓still_mk]

theorem coresDown_still (a0 a1 a2) :
    (State.coresDown a0 a1 a2).still = a0.still := by
  unfold State.coresDown
  simp only [↓kprDown_still, ↓fabDown_still, ↓still_mk, ↓still_ite, ite_self]

theorem critEval_still (a0 a1) :
    (State.critEval a0 a1).still = a0.still := by
  unfold State.critEval
  simp only [↓setF_still, ↓raise_still, ↓squelchAll_still, ↓logRecord_still, ↓portsEval_still, ↓still_mk, ↓still_ite,
      ite_self]

theorem dacQual_still (a0 a1 a2 a3 a4) :
    (State.dacQual a0 a1 a2 a3 a4).still = a0.still := by
  unfold State.dacQual
  simp only [↓setReg_still]

theorem dacBgEnd_still (a0 a1 a2 a3 a4) :
    (State.dacBgEnd a0 a1 a2 a3 a4).still = a0.still := by
  unfold State.dacBgEnd
  split <;> simp only [↓dacStart_still, ↓modLane_still, ↓raise_still, ↓dacQual_still, ↓still_mk, ↓still_ite, ite_self]

theorem dacCalDone_still (a0 a1 a2 a3 a4) :
    (State.dacCalDone a0 a1 a2 a3 a4).still = a0.still := by
  unfold State.dacCalDone
  repeat' (first
    | (simp only [↓modLane_still, ↓dacQual_still, ↓setF_still, ↓buildPositions_still, ↓dacStart_still, ↓squelch_still,
        ↓still_mk, ↓still_ite, ite_self, ↓still_dite, dite_eq_ite, ↓apply_ite Prod.snd, ↓apply_ite Prod.fst,
        ↓still_foldl]; done)
    | (with_reducible refine (still_foldl _ (fun s x => ?_) _ _).trans ?_)
    | (with_reducible refine (still_foldl_snd _ (fun r x => ?_) _ _).trans ?_)
    | (with_reducible refine (still_foldl_fst _ (fun r x => ?_) _ _).trans ?_)
    | (with_reducible refine (still_foldl_snd2 _ (fun r x => ?_) _ _).trans ?_)
    | (simp only [↓modLane_still, ↓dacQual_still, ↓setF_still, ↓buildPositions_still, ↓dacStart_still, ↓squelch_still,
        ↓still_mk, ↓still_ite, ite_self, ↓still_dite, dite_eq_ite, ↓apply_ite Prod.snd, ↓apply_ite Prod.fst,
        ↓still_foldl])
    | (with_reducible refine ite_eq_of ?_ ?_)
    | split)

theorem ddrPvDone_still (a0) :
    (State.ddrPvDone a0).still = a0.still := by
  unfold State.ddrPvDone
  simp only [↓setF_still, ↓still_mk, ↓still_ite, ite_self]

theorem ddrRecentre_still (a0) :
    (State.ddrRecentre a0).still = a0.still := by
  unfold State.ddrRecentre
  simp only [↓send_still, ↓still_mk, ↓still_ite, ite_self]

theorem ddrRefresh_still (a0) :
    (State.ddrRefresh a0).still = a0.still := by
  unfold State.ddrRefresh
  simp only [↓setF_still, ↓perf_still, ↓send_still, ↓still_mk, ↓still_ite, ite_self]

theorem ddrScrubTo_still (a0 a1 a2) :
    (State.ddrScrubTo a0 a1 a2).still = a0.still := by
  unfold State.ddrScrubTo
  simp only [↓modDdr_still, ↓setF_still, ↓still_mk, ↓still_ite, ite_self]

theorem ddrUpset_still (a0 a1) :
    (State.ddrUpset a0 a1).still = a0.still := by
  unfold State.ddrUpset
  repeat' (first
    | (simp only [↓modDdr_still, ↓still_mk, ↓still_ite, ite_self, ↓still_dite, dite_eq_ite, ↓apply_ite Prod.snd,
        ↓apply_ite Prod.fst, ↓still_foldl]; done)
    | (with_reducible refine (still_foldl _ (fun s x => ?_) _ _).trans ?_)
    | (with_reducible refine (still_foldl_snd _ (fun r x => ?_) _ _).trans ?_)
    | (with_reducible refine (still_foldl_fst _ (fun r x => ?_) _ _).trans ?_)
    | (with_reducible refine (still_foldl_snd2 _ (fun r x => ?_) _ _).trans ?_)
    | (simp only [↓modDdr_still, ↓still_mk, ↓still_ite, ite_self, ↓still_dite, dite_eq_ite, ↓apply_ite Prod.snd,
        ↓apply_ite Prod.fst, ↓still_foldl])
    | (with_reducible refine ite_eq_of ?_ ?_)
    | split)

theorem ddrScrub_still (a0 a1) :
    (State.ddrScrub a0 a1).still = a0.still := by
  unfold State.ddrScrub
  repeat' (first
    | (simp only [↓ddrScrubTo_still, ↓ddrUpset_still, ↓ddrReadGranule_still, ↓still_mk, ↓still_ite, ite_self,
        ↓still_dite, dite_eq_ite, ↓apply_ite Prod.snd, ↓apply_ite Prod.fst, ↓still_foldl]; done)
    | (with_reducible refine (still_foldl _ (fun s x => ?_) _ _).trans ?_)
    | (with_reducible refine (still_foldl_snd _ (fun r x => ?_) _ _).trans ?_)
    | (with_reducible refine (still_foldl_fst _ (fun r x => ?_) _ _).trans ?_)
    | (with_reducible refine (still_foldl_snd2 _ (fun r x => ?_) _ _).trans ?_)
    | (simp only [↓ddrScrubTo_still, ↓ddrUpset_still, ↓ddrReadGranule_still, ↓still_mk, ↓still_ite, ite_self,
        ↓still_dite, dite_eq_ite, ↓apply_ite Prod.snd, ↓apply_ite Prod.fst, ↓still_foldl])
    | (with_reducible refine ite_eq_of ?_ ?_)
    | split)

theorem ddrSleep_still (a0) :
    (State.ddrSleep a0).still = a0.still := by
  unfold State.ddrSleep
  simp only [↓send_still, ↓setF_still, ↓still_mk, ↓still_ite, ite_self]

theorem ddrTrained_still (a0 a1) :
    (State.ddrTrained a0 a1).still = a0.still := by
  unfold State.ddrTrained
  simp only [↓modDdr_still, ↓setF_still, ↓raise_still, ↓still_mk, ↓still_ite, ite_self]

theorem deriveKey_still (a0) :
    (State.deriveKey a0).still = a0.still := by
  unfold State.deriveKey
  repeat' (first
    | (simp only [↓setReg_still, ↓still_mk, ↓still_ite, ite_self, ↓still_dite, dite_eq_ite, ↓apply_ite Prod.snd,
        ↓apply_ite Prod.fst, ↓still_foldl]; done)
    | (with_reducible refine (still_foldl _ (fun s x => ?_) _ _).trans ?_)
    | (with_reducible refine (still_foldl_snd _ (fun r x => ?_) _ _).trans ?_)
    | (with_reducible refine (still_foldl_fst _ (fun r x => ?_) _ _).trans ?_)
    | (with_reducible refine (still_foldl_snd2 _ (fun r x => ?_) _ _).trans ?_)
    | (simp only [↓setReg_still, ↓still_mk, ↓still_ite, ite_self, ↓still_dite, dite_eq_ite, ↓apply_ite Prod.snd,
        ↓apply_ite Prod.fst, ↓still_foldl])
    | (with_reducible refine ite_eq_of ?_ ?_)
    | split)

theorem deriveKeys_still (a0) :
    (State.deriveKeys a0).still = a0.still := by
  unfold State.deriveKeys
  simp only [↓setRxCnt_still, ↓setReg_still, ↓modTwin_still]

theorem setPos_still (a0 a1 a2 a3) :
    (State.setPos a0 a1 a2 a3).still = a0.still := by
  unfold State.setPos
  simp only [↓setReg_still]

theorem deskewDone_still (a0 a1 a2) :
    (State.deskewDone a0 a1 a2).still = a0.still := by
  unfold State.deskewDone
  simp only [↓setF_still, ↓setPos_still, ↓raise_still, ↓flag_still, ↓still_mk, ↓still_ite, ite_self]

theorem dmaBytes_still (a0 a1 a2) :
    (State.dmaBytes a0 a1 a2).still = a0.still := by
  unfold State.dmaBytes
  simp only [↓perf_still, ↓countFlag48_still]

theorem dmaDdrOk_still (a0 a1 a2) :
    (State.dmaDdrOk a0 a1 a2).2.still = a0.still := by
  unfold State.dmaDdrOk
  split <;> simp only [↓offRecord_still, ↓still_mk, ↓still_ite, ite_self]

theorem dmaSramOk_still (a0 a1 a2) :
    (State.dmaSramOk a0 a1 a2).2.still = a0.still := by
  unfold State.dmaSramOk
  repeat' (first
    | (simp only [↓offRecord_still, ↓still_mk, ↓still_ite, ite_self, ↓still_dite, dite_eq_ite, ↓apply_ite Prod.snd,
        ↓apply_ite Prod.fst, ↓still_foldl]; done)
    | (with_reducible refine (still_foldl _ (fun s x => ?_) _ _).trans ?_)
    | (with_reducible refine (still_foldl_snd _ (fun r x => ?_) _ _).trans ?_)
    | (with_reducible refine (still_foldl_fst _ (fun r x => ?_) _ _).trans ?_)
    | (with_reducible refine (still_foldl_snd2 _ (fun r x => ?_) _ _).trans ?_)
    | (simp only [↓offRecord_still, ↓still_mk, ↓still_ite, ite_self, ↓still_dite, dite_eq_ite, ↓apply_ite Prod.snd,
        ↓apply_ite Prod.fst, ↓still_foldl])
    | (with_reducible refine ite_eq_of ?_ ?_)
    | split)

theorem dmaRoom_still (a0 a1 a2 a3) :
    (State.dmaRoom a0 a1 a2 a3).2.still = a0.still := by
  unfold State.dmaRoom
  repeat' (first
    | (simp only [↓dmaSramOk_still, ↓dmaDdrOk_still, ↓still_mk, ↓still_ite, ite_self, ↓still_dite, dite_eq_ite,
        ↓apply_ite Prod.snd, ↓apply_ite Prod.fst, ↓still_foldl]; done)
    | (with_reducible refine (still_foldl _ (fun s x => ?_) _ _).trans ?_)
    | (with_reducible refine (still_foldl_snd _ (fun r x => ?_) _ _).trans ?_)
    | (with_reducible refine (still_foldl_fst _ (fun r x => ?_) _ _).trans ?_)
    | (with_reducible refine (still_foldl_snd2 _ (fun r x => ?_) _ _).trans ?_)
    | (simp only [↓dmaSramOk_still, ↓dmaDdrOk_still, ↓still_mk, ↓still_ite, ite_self, ↓still_dite, dite_eq_ite,
        ↓apply_ite Prod.snd, ↓apply_ite Prod.fst, ↓still_foldl])
    | (with_reducible refine ite_eq_of ?_ ?_)
    | split)

theorem tlps_still (a0 a1) :
    (State.tlps a0 a1).still = a0.still := by
  unfold State.tlps
  simp only [↓draw_still, ↓tlp_still]

theorem dmaPut_still (a0 a1 a2 a3 a4) :
    (State.dmaPut a0 a1 a2 a3 a4).still = a0.still := by
  unfold State.dmaPut
  repeat' (first
    | (simp only [↓tlps_still, ↓send_still, ↓bar2Microcode_still, ↓sramWrite_still, ↓ddrWrite_still, ↓still_mk,
        ↓still_ite, ite_self, ↓still_dite, dite_eq_ite, ↓apply_ite Prod.snd, ↓apply_ite Prod.fst, ↓still_foldl]; done)
    | (with_reducible refine (still_foldl _ (fun s x => ?_) _ _).trans ?_)
    | (with_reducible refine (still_foldl_snd _ (fun r x => ?_) _ _).trans ?_)
    | (with_reducible refine (still_foldl_fst _ (fun r x => ?_) _ _).trans ?_)
    | (with_reducible refine (still_foldl_snd2 _ (fun r x => ?_) _ _).trans ?_)
    | (simp only [↓tlps_still, ↓send_still, ↓bar2Microcode_still, ↓sramWrite_still, ↓ddrWrite_still, ↓still_mk,
        ↓still_ite, ite_self, ↓still_dite, dite_eq_ite, ↓apply_ite Prod.snd, ↓apply_ite Prod.fst, ↓still_foldl])
    | (with_reducible refine ite_eq_of ?_ ?_)
    | split)

theorem dmaReadSram_still (s : State) (a n : Nat) (host : Bool) : (s.dmaReadSram a n host).st.still = s.still := by
  unfold dmaReadSram
  refine foldl_fix (fun m : DmaMove => m.st.still) _ _ (fun m w => ?_) _
  dsimp only
  have hok : (if host = true then m.st.dmaSramOk w false else (true, m.st)).2.still = m.st.still := by
    split
    · exact dmaSramOk_still ..
    · rfl
  generalize (if host = true then m.st.dmaSramOk w false else (true, m.st)) = ok at hok ⊢
  split
  · rfl
  · split
    · exact hok
    · split
      · exact (sramRead_still ..).trans hok
      · exact (sramRead_still ..).trans hok

theorem dmaReadDdr_still (s : State) (a n : Nat) : (s.dmaReadDdr a n).st.still = s.still := by
  unfold dmaReadDdr
  refine foldl_fix (fun m : DmaMove => m.st.still) _ _ (fun m w => ?_) _
  dsimp only
  split
  · rfl
  · split
    · exact dmaDdrOk_still ..
    · split
      · exact (ddrRead_still ..).trans (dmaDdrOk_still ..)
      · exact (ddrRead_still ..).trans (dmaDdrOk_still ..)

theorem dmaReadHost_still (s : State) (n : Nat) (host : List Byte) : (s.dmaReadHost n host).st.still = s.still := by
  unfold dmaReadHost
  split
  · rfl
  · split
    · rfl
    · simp only [↓tlps_still]

theorem dmaReadTap_still (s : State) (c n : Nat) : (s.dmaReadTap c n).st.still = s.still := by
  unfold dmaReadTap
  split
  · rfl
  · show (tapFill _).still = _
    rw [tapFill_still]
    refine foldl_fix (fun r : Bool × DmaMove => r.2.st.still) _ _ (fun r b => ?_) _
    dsimp only
    split
    · rfl
    · dsimp only
      split
      · rw [still_mk]; exact dmaReadSram_still ..
      · exact dmaReadSram_still ..

theorem dmaRead_still (s : State) (c sp a n : Nat) (host : List Byte) : (s.dmaRead c sp a n host).st.still = s.still := by
  unfold dmaRead
  split
  · exact dmaReadHost_still ..
  · exact dmaReadSram_still ..
  · exact dmaReadDdr_still ..
  · exact dmaReadTap_still ..

theorem dmaStep_still (s : State) (c n : Nat) (host : List Byte) : (s.dmaStep c n host).2.still = s.still := by
  unfold dmaStep
  split
  · rfl
  · simp only [↓dmaBytes_still, ↓modDma_still, ↓dmaPut_still, ↓dmaRead_still, ↓dmaRoom_still]

theorem dmaDone_still (a0 a1 a2 a3) :
    (State.dmaDone a0 a1 a2 a3).still = a0.still := by
  unfold State.dmaDone
  split <;> simp only [↓dmaStep_still, ↓dmaComplete_still, ↓still_mk, ↓still_ite, ite_self]

theorem dmaLate_still (a0 a1 a2) :
    (State.dmaLate a0 a1 a2).still = a0.still := by
  unfold State.dmaLate
  simp only [↓setReg_still, ↓setF_still, ↓stampEvt_still, ↓raise_still, ↓logRecord_still, ↓dmaGoto_still,
      ↓modDma_still, ↓still_mk, ↓still_ite, ite_self]

theorem dmaPwrAsk_still (a0 a1) :
    (State.dmaPwrAsk a0 a1).2.still = a0.still := by
  unfold State.dmaPwrAsk
  repeat' (first
    | (simp only [↓tapClose_still, ↓tapDue_still, ↓modDma_still, ↓dmaAbort_still, ↓still_mk, ↓still_ite, ite_self,
        ↓still_dite, dite_eq_ite, ↓apply_ite Prod.snd, ↓apply_ite Prod.fst, ↓still_foldl]; done)
    | (with_reducible refine (still_foldl _ (fun s x => ?_) _ _).trans ?_)
    | (with_reducible refine (still_foldl_snd _ (fun r x => ?_) _ _).trans ?_)
    | (with_reducible refine (still_foldl_fst _ (fun r x => ?_) _ _).trans ?_)
    | (with_reducible refine (still_foldl_snd2 _ (fun r x => ?_) _ _).trans ?_)
    | (simp only [↓tapClose_still, ↓tapDue_still, ↓modDma_still, ↓dmaAbort_still, ↓still_mk, ↓still_ite, ite_self,
        ↓still_dite, dite_eq_ite, ↓apply_ite Prod.snd, ↓apply_ite Prod.fst, ↓still_foldl])
    | (with_reducible refine ite_eq_of ?_ ?_)
    | split)

theorem dmaStart_still (s : State) (c : Nat) (host : List Byte) : (s.dmaStart c host).still = s.still := by
  unfold dmaStart
  split
  · rfl
  dsimp only
  have hm : (if s.dmaf (DMA.CH_CTL_RING_SPACE c) = 1 then s.dmaReadSram (s.dmaDescAddr c) 32 false
      else s.dmaReadHost 32 host).st.still = s.still := by
    split
    · exact dmaReadSram_still ..
    · exact dmaReadHost_still ..
  generalize (if s.dmaf (DMA.CH_CTL_RING_SPACE c) = 1 then s.dmaReadSram (s.dmaDescAddr c) 32 false
      else s.dmaReadHost 32 host) = m at hm ⊢
  simp only [↓still_ite, ↓dmaComplete_still, ↓modDma_still, hm, ite_self]

theorem dmaWindow_still (a0 a1) :
    (State.dmaWindow a0 a1).still = a0.still := by
  unfold State.dmaWindow
  repeat' (first
    | (simp only [↓dmaStep_still, ↓dmaComplete_still, ↓setF_still, ↓still_mk, ↓still_ite, ite_self, ↓still_dite,
        dite_eq_ite, ↓apply_ite Prod.snd, ↓apply_ite Prod.fst, ↓still_foldl]; done)
    | (with_reducible refine (still_foldl _ (fun s x => ?_) _ _).trans ?_)
    | (with_reducible refine (still_foldl_snd _ (fun r x => ?_) _ _).trans ?_)
    | (with_reducible refine (still_foldl_fst _ (fun r x => ?_) _ _).trans ?_)
    | (with_reducible refine (still_foldl_snd2 _ (fun r x => ?_) _ _).trans ?_)
    | (simp only [↓dmaStep_still, ↓dmaComplete_still, ↓setF_still, ↓still_mk, ↓still_ite, ite_self, ↓still_dite,
        dite_eq_ite, ↓apply_ite Prod.snd, ↓apply_ite Prod.fst, ↓still_foldl])
    | (with_reducible refine ite_eq_of ?_ ?_)
    | split)

theorem domRepairs_unfused (a0 a1) :
    (State.domRepairs a0 a1).still.unfused = a0.still.unfused := by
  unfold State.domRepairs
  repeat' (first
    | (simp only [↓applyRepairs_unfused, ↓unfused_mk, ↓still_mk, ↓still_ite, ↓unfused_ite, ite_self, ↓still_dite,
        dite_eq_ite, ↓apply_ite Prod.snd, ↓apply_ite Prod.fst, ↓still_foldl]; done)
    | (with_reducible refine (still_foldl _ (fun s x => ?_) _ _).trans ?_)
    | (with_reducible refine (still_foldl_snd _ (fun r x => ?_) _ _).trans ?_)
    | (with_reducible refine (still_foldl_fst _ (fun r x => ?_) _ _).trans ?_)
    | (with_reducible refine (still_foldl_snd2 _ (fun r x => ?_) _ _).trans ?_)
    | (with_reducible refine (unfused_foldl _ (fun s x => ?_) _ _).trans ?_)
    | (with_reducible refine (unfused_foldl_snd _ (fun s x => ?_) _ _).trans ?_)
    | (simp only [↓applyRepairs_unfused, ↓unfused_mk, ↓still_mk, ↓still_ite, ↓unfused_ite, ite_self, ↓still_dite,
        dite_eq_ite, ↓apply_ite Prod.snd, ↓apply_ite Prod.fst, ↓still_foldl])
    | (with_reducible refine ite_eq_of ?_ ?_)
    | split)

theorem drainStart_still (a0) :
    (State.drainStart a0).still = a0.still := by
  unfold State.drainStart
  simp only [↓setReg_still, ↓logCtl_still, ↓still_mk, ↓still_ite, ite_self]

theorem spareMoved_still (a0 a1) :
    (State.spareMoved a0 a1).still = a0.still := by
  unfold State.spareMoved
  simp only [↓portsEval_still, ↓laneEvent_still]

theorem emergSwitch_still (a0 a1) :
    (State.emergSwitch a0 a1).still = a0.still := by
  unfold State.emergSwitch
  simp only [↓setSpare_still, ↓setF_still, ↓spareMoved_still, ↓modTwin_still, ↓twinSend_still, ↓still_mk, ↓still_ite,
      ite_self]

theorem emergIdentified_still (a0 a1) :
    (State.emergIdentified a0 a1).still = a0.still := by
  unfold State.emergIdentified
  simp only [↓setF_still, ↓emergSwitch_still, ↓mirrorOn_still, ↓still_mk, ↓still_ite, ite_self]

theorem emergency_still (a0 a1) :
    (State.emergency a0 a1).still = a0.still := by
  unfold State.emergency
  simp only [↓spareIdle_still, ↓raise_still, ↓spareTrainOn_still, ↓mirrorOn_still, ↓modTwin_still, ↓emergSwitch_still,
      ↓still_mk, ↓still_ite, ite_self]

theorem engDown_still (a0 a1 a2) :
    (State.engDown a0 a1 a2).still = a0.still := by
  unfold State.engDown
  simp only [↓sramForget_still, ↓setEf_still, ↓still_mk, ↓still_ite, ite_self]

theorem engIllegal_still (a0 a1 a2) :
    (State.engIllegal a0 a1 a2).still = a0.still := by
  unfold State.engIllegal
  simp only [↓engWake_still, ↓engFault_still, ↓still_mk, ↓still_ite, ite_self]

theorem engIssue_still (a0 a1 a2) :
    (State.engIssue a0 a1 a2).still = a0.still := by
  unfold State.engIssue
  simp only [↓engWake_still, ↓engFault_still, ↓engOne_still, ↓still_mk, ↓still_ite, ite_self]

theorem engPass_still (a0 a1 a2) :
    (State.engPass a0 a1 a2).still = a0.still := by
  unfold State.engPass
  repeat' (first
    | (simp only [↓perf_still, ↓modEng_still, ↓engWake_still, ↓still_mk, ↓still_ite, ite_self, ↓still_dite,
        dite_eq_ite, ↓apply_ite Prod.snd, ↓apply_ite Prod.fst, ↓still_foldl]; done)
    | (with_reducible refine (still_foldl _ (fun s x => ?_) _ _).trans ?_)
    | (with_reducible refine (still_foldl_snd _ (fun r x => ?_) _ _).trans ?_)
    | (with_reducible refine (still_foldl_fst _ (fun r x => ?_) _ _).trans ?_)
    | (with_reducible refine (still_foldl_snd2 _ (fun r x => ?_) _ _).trans ?_)
    | (simp only [↓perf_still, ↓modEng_still, ↓engWake_still, ↓still_mk, ↓still_ite, ite_self, ↓still_dite,
        dite_eq_ite, ↓apply_ite Prod.snd, ↓apply_ite Prod.fst, ↓still_foldl])
    | (with_reducible refine ite_eq_of ?_ ?_)
    | split)

theorem engRestore_still (a0 a1) :
    (State.engRestore a0 a1).still = a0.still := by
  unfold State.engRestore
  simp only [↓engStart_still, ↓still_mk, ↓still_ite, ite_self]

theorem engWatchdog_still (a0 a1) :
    (State.engWatchdog a0 a1).still = a0.still := by
  unfold State.engWatchdog
  simp only [↓engFault_still, ↓still_mk, ↓still_ite, ite_self]

theorem exitBegin_still (a0) :
    (State.exitBegin a0).still = a0.still := by
  unfold State.exitBegin
  simp only [↓setF_still, ↓modPwr_still, ↓voltBegin_still, ↓still_mk, ↓still_ite, ite_self]

theorem pwrUnquiet_still (a0) :
    (State.pwrUnquiet a0).still = a0.still := by
  unfold State.pwrUnquiet
  repeat' (first
    | (simp only [↓modPwr_still, ↓setF_still, ↓portsEval_still, ↓squelchAll_still, ↓still_mk, ↓still_ite, ite_self,
        ↓still_dite, dite_eq_ite, ↓apply_ite Prod.snd, ↓apply_ite Prod.fst, ↓still_foldl]; done)
    | (with_reducible refine (still_foldl _ (fun s x => ?_) _ _).trans ?_)
    | (with_reducible refine (still_foldl_snd _ (fun r x => ?_) _ _).trans ?_)
    | (with_reducible refine (still_foldl_fst _ (fun r x => ?_) _ _).trans ?_)
    | (with_reducible refine (still_foldl_snd2 _ (fun r x => ?_) _ _).trans ?_)
    | (simp only [↓modPwr_still, ↓setF_still, ↓portsEval_still, ↓squelchAll_still, ↓still_mk, ↓still_ite, ite_self,
        ↓still_dite, dite_eq_ite, ↓apply_ite Prod.snd, ↓apply_ite Prod.fst, ↓still_foldl])
    | (with_reducible refine ite_eq_of ?_ ?_)
    | split)

theorem schedResume_still (a0) :
    (State.schedResume a0).still = a0.still := by
  unfold State.schedResume
  repeat' (first
    | (simp only [↓sePassed_still, ↓setSe_still, ↓still_mk, ↓still_ite, ite_self, ↓still_dite, dite_eq_ite, ↓apply_ite
        Prod.snd, ↓apply_ite Prod.fst, ↓still_foldl]; done)
    | (with_reducible refine (still_foldl _ (fun s x => ?_) _ _).trans ?_)
    | (with_reducible refine (still_foldl_snd _ (fun r x => ?_) _ _).trans ?_)
    | (with_reducible refine (still_foldl_fst _ (fun r x => ?_) _ _).trans ?_)
    | (with_reducible refine (still_foldl_snd2 _ (fun r x => ?_) _ _).trans ?_)
    | (simp only [↓sePassed_still, ↓setSe_still, ↓still_mk, ↓still_ite, ite_self, ↓still_dite, dite_eq_ite, ↓apply_ite
        Prod.snd, ↓apply_ite Prod.fst, ↓still_foldl])
    | (with_reducible refine ite_eq_of ?_ ?_)
    | split)

theorem exitEnd_still (a0) :
    (State.exitEnd a0).still = a0.still := by
  unfold State.exitEnd
  repeat' (first
    | (simp only [↓setF_still, ↓modPwr_still, ↓pwrUnquiet_still, ↓dmaGo_still, ↓setReg_still, ↓schedResume_still,
        ↓pwrIdle_still, ↓raise_still, ↓still_mk, ↓still_ite, ite_self, ↓still_dite, dite_eq_ite, ↓apply_ite Prod.snd,
        ↓apply_ite Prod.fst, ↓still_foldl]; done)
    | (with_reducible refine (still_foldl _ (fun s x => ?_) _ _).trans ?_)
    | (with_reducible refine (still_foldl_snd _ (fun r x => ?_) _ _).trans ?_)
    | (with_reducible refine (still_foldl_fst _ (fun r x => ?_) _ _).trans ?_)
    | (with_reducible refine (still_foldl_snd2 _ (fun r x => ?_) _ _).trans ?_)
    | (simp only [↓setF_still, ↓modPwr_still, ↓pwrUnquiet_still, ↓dmaGo_still, ↓setReg_still, ↓schedResume_still,
        ↓pwrIdle_still, ↓raise_still, ↓still_mk, ↓still_ite, ite_self, ↓still_dite, dite_eq_ite, ↓apply_ite Prod.snd,
        ↓apply_ite Prod.fst, ↓still_foldl])
    | (with_reducible refine ite_eq_of ?_ ?_)
    | split)

theorem eyeDone_still (a0 a1 a2 a3) :
    (State.eyeDone a0 a1 a2 a3).still = a0.still := by
  unfold State.eyeDone
  repeat' (first
    | (simp only [↓setReg_still, ↓raise_still, ↓modLane_still, ↓setF_still, ↓still_mk, ↓still_ite, ite_self,
        ↓still_dite, dite_eq_ite, ↓apply_ite Prod.snd, ↓apply_ite Prod.fst, ↓still_foldl]; done)
    | (with_reducible refine (still_foldl _ (fun s x => ?_) _ _).trans ?_)
    | (with_reducible refine (still_foldl_snd _ (fun r x => ?_) _ _).trans ?_)
    | (with_reducible refine (still_foldl_fst _ (fun r x => ?_) _ _).trans ?_)
    | (with_reducible refine (still_foldl_snd2 _ (fun r x => ?_) _ _).trans ?_)
    | (simp only [↓setReg_still, ↓raise_still, ↓modLane_still, ↓setF_still, ↓still_mk, ↓still_ite, ite_self,
        ↓still_dite, dite_eq_ite, ↓apply_ite Prod.snd, ↓apply_ite Prod.fst, ↓still_foldl])
    | (with_reducible refine ite_eq_of ?_ ?_)
    | split)

theorem fastExit_still (a0 a1) :
    (State.fastExit a0 a1).still = a0.still := by
  unfold State.fastExit
  simp only [↓portsEval_still, ↓setHostState_still, ↓setF_still, ↓modHlane_still, ↓still_mk, ↓still_ite, ite_self]

theorem setTrims_still (a0 a1 a2) :
    (State.setTrims a0 a1 a2).still = a0.still := by
  unfold State.setTrims
  repeat' (first
    | (simp only [↓modLane_still, ↓still_mk, ↓still_ite, ite_self, ↓still_dite, dite_eq_ite, ↓apply_ite Prod.snd,
        ↓apply_ite Prod.fst, ↓still_foldl]; done)
    | (with_reducible refine (still_foldl _ (fun s x => ?_) _ _).trans ?_)
    | (with_reducible refine (still_foldl_snd _ (fun r x => ?_) _ _).trans ?_)
    | (with_reducible refine (still_foldl_fst _ (fun r x => ?_) _ _).trans ?_)
    | (with_reducible refine (still_foldl_snd2 _ (fun r x => ?_) _ _).trans ?_)
    | (simp only [↓modLane_still, ↓still_mk, ↓still_ite, ite_self, ↓still_dite, dite_eq_ite, ↓apply_ite Prod.snd,
        ↓apply_ite Prod.fst, ↓still_foldl])
    | (with_reducible refine ite_eq_of ?_ ?_)
    | split)

theorem fgCalDone_still (a0 a1 a2 a3 a4) :
    (State.fgCalDone a0 a1 a2 a3 a4).still = a0.still := by
  unfold State.fgCalDone
  simp only [↓buildSlots_still, ↓setTrims_still, ↓setReg_still, ↓setF_still, ↓still_mk, ↓still_ite, ite_self]

theorem firmwareBoot_still (a0 a1) :
    (State.firmwareBoot a0 a1).still = a0.still := by
  unfold State.firmwareBoot
  repeat' (first
    | (simp only [↓raise_still, ↓setF_still, ↓firmwareRun_still, ↓still_mk, ↓still_ite, ite_self, ↓still_dite,
        dite_eq_ite, ↓apply_ite Prod.snd, ↓apply_ite Prod.fst, ↓still_foldl]; done)
    | (with_reducible refine (still_foldl _ (fun s x => ?_) _ _).trans ?_)
    | (with_reducible refine (still_foldl_snd _ (fun r x => ?_) _ _).trans ?_)
    | (with_reducible refine (still_foldl_fst _ (fun r x => ?_) _ _).trans ?_)
    | (with_reducible refine (still_foldl_snd2 _ (fun r x => ?_) _ _).trans ?_)
    | (simp only [↓raise_still, ↓setF_still, ↓firmwareRun_still, ↓still_mk, ↓still_ite, ite_self, ↓still_dite,
        dite_eq_ite, ↓apply_ite Prod.snd, ↓apply_ite Prod.fst, ↓still_foldl])
    | (with_reducible refine ite_eq_of ?_ ?_)
    | split)

theorem fogDown_still (a0) :
    (State.fogDown a0).still = a0.still := by
  unfold State.fogDown
  simp only [↓still_mk]

theorem fogDuty_still (a0 a1) :
    (State.fogDuty a0 a1).still = a0.still := by
  unfold State.fogDuty
  simp only [↓setF_still, ↓fogSearch_still, ↓still_mk, ↓still_ite, ite_self]

theorem fogHeader_still (a0 a1 a2 a3) :
    (State.fogHeader a0 a1 a2 a3).still = a0.still := by
  unfold State.fogHeader
  simp only [↓setF_still, ↓fogSearch_still, ↓raise_still, ↓fogCount_still, ↓still_mk, ↓still_ite, ite_self]

theorem fogMarker_still (a0 a1) :
    (State.fogMarker a0 a1).still = a0.still := by
  unfold State.fogMarker
  simp only [↓setF_still, ↓fogSearch_still, ↓fogCount_still, ↓still_mk, ↓still_ite, ite_self]

theorem fogNew_still (a0 a1 a2) :
    (State.fogNew a0 a1 a2).still = a0.still := by
  unfold State.fogNew
  simp only [↓setF_still, ↓still_mk]

theorem fogPayload_still (a0 a1 a2 a3 a4 a5) :
    (State.fogPayload a0 a1 a2 a3 a4 a5).still = a0.still := by
  unfold State.fogPayload
  simp only [↓setF_still, ↓fogSearch_still, ↓raise_still, ↓fogCount_still, ↓perf_still, ↓wakeUp_still, ↓flag_still,
      ↓still_mk, ↓still_ite, ite_self]

theorem fogPreEnd_still (a0) :
    (State.fogPreEnd a0).still = a0.still := by
  unfold State.fogPreEnd
  simp only [↓setF_still, ↓still_mk, ↓still_ite, ite_self]

theorem fogPreamble_still (a0 a1 a2) :
    (State.fogPreamble a0 a1 a2).still = a0.still := by
  unfold State.fogPreamble
  simp only [↓fogNew_still, ↓raise_still, ↓fogCount_still, ↓still_mk, ↓still_ite, ite_self]

theorem fogStart_still (a0) :
    (State.fogStart a0).still = a0.still := by
  unfold State.fogStart
  repeat' (first
    | (simp only [↓setF_still, ↓send_still, ↓still_mk, ↓still_ite, ite_self, ↓still_dite, dite_eq_ite, ↓apply_ite
        Prod.snd, ↓apply_ite Prod.fst, ↓still_foldl]; done)
    | (with_reducible refine (still_foldl _ (fun s x => ?_) _ _).trans ?_)
    | (with_reducible refine (still_foldl_snd _ (fun r x => ?_) _ _).trans ?_)
    | (with_reducible refine (still_foldl_fst _ (fun r x => ?_) _ _).trans ?_)
    | (with_reducible refine (still_foldl_snd2 _ (fun r x => ?_) _ _).trans ?_)
    | (simp only [↓setF_still, ↓send_still, ↓still_mk, ↓still_ite, ite_self, ↓still_dite, dite_eq_ite, ↓apply_ite
        Prod.snd, ↓apply_ite Prod.fst, ↓still_foldl])
    | (with_reducible refine ite_eq_of ?_ ?_)
    | split)

theorem fogSlot_still (a0) :
    (State.fogSlot a0).still = a0.still := by
  unfold State.fogSlot
  simp only [↓fogStart_still, ↓still_mk, ↓still_ite, ite_self]

theorem fogTrackLost_still (a0) :
    (State.fogTrackLost a0).still = a0.still := by
  unfold State.fogTrackLost
  simp only [↓fogSearch_still, ↓raise_still, ↓fogCount_still, ↓still_mk, ↓still_ite, ite_self]

theorem fogTxDone_still (a0 a1) :
    (State.fogTxDone a0 a1).still = a0.still := by
  unfold State.fogTxDone
  split <;> simp only [↓setReg_still, ↓perf_still, ↓fogCount_still, ↓fogEnd_still, ↓raise_still, ↓setF_still,
      ↓still_mk, ↓still_ite, ite_self]

theorem fogTxStart_still (a0) :
    (State.fogTxStart a0).still = a0.still := by
  unfold State.fogTxStart
  simp only [↓fogStart_still, ↓still_mk, ↓still_ite, ite_self]

theorem fogUp_still (a0 a1) :
    (State.fogUp a0 a1).still = a0.still := by
  unfold State.fogUp
  repeat' (first
    | (simp only [↓setReg_still, ↓setB_still, ↓setPair_still, ↓twinForget_still, ↓modTwin_still, ↓still_mk,
        ↓still_ite, ite_self, ↓still_dite, dite_eq_ite, ↓apply_ite Prod.snd, ↓apply_ite Prod.fst, ↓still_foldl]; done)
    | (with_reducible refine (still_foldl _ (fun s x => ?_) _ _).trans ?_)
    | (with_reducible refine (still_foldl_snd _ (fun r x => ?_) _ _).trans ?_)
    | (with_reducible refine (still_foldl_fst _ (fun r x => ?_) _ _).trans ?_)
    | (with_reducible refine (still_foldl_snd2 _ (fun r x => ?_) _ _).trans ?_)
    | (simp only [↓setReg_still, ↓setB_still, ↓setPair_still, ↓twinForget_still, ↓modTwin_still, ↓still_mk,
        ↓still_ite, ite_self, ↓still_dite, dite_eq_ite, ↓apply_ite Prod.snd, ↓apply_ite Prod.fst, ↓still_foldl])
    | (with_reducible refine ite_eq_of ?_ ?_)
    | split)

theorem stampAt_still (a0 a1 a2) :
    (State.stampAt a0 a1 a2).2.still = a0.still := by
  unfold State.stampAt
  repeat' (first
    | (simp only [↓draw_still, ↓still_mk, ↓still_ite, ite_self, ↓still_dite, dite_eq_ite, ↓apply_ite Prod.snd,
        ↓apply_ite Prod.fst, ↓still_foldl]; done)
    | (with_reducible refine (still_foldl _ (fun s x => ?_) _ _).trans ?_)
    | (with_reducible refine (still_foldl_snd _ (fun r x => ?_) _ _).trans ?_)
    | (with_reducible refine (still_foldl_fst _ (fun r x => ?_) _ _).trans ?_)
    | (with_reducible refine (still_foldl_snd2 _ (fun r x => ?_) _ _).trans ?_)
    | (simp only [↓draw_still, ↓still_mk, ↓still_ite, ite_self, ↓still_dite, dite_eq_ite, ↓apply_ite Prod.snd,
        ↓apply_ite Prod.fst, ↓still_foldl])
    | (with_reducible refine ite_eq_of ?_ ?_)
    | split)

theorem ptsuPush_still (a0 a1 a2 a3) :
    (State.ptsuPush a0 a1 a2 a3).still = a0.still := by
  unfold State.ptsuPush
  simp only [↓raise_still, ↓setReg_still, ↓setPtsu_still, ↓still_mk, ↓still_ite, ite_self]

theorem ptsuStamp_still (a0 a1 a2 a3 a4 a5 a6) :
    (State.ptsuStamp a0 a1 a2 a3 a4 a5 a6).still = a0.still := by
  unfold State.ptsuStamp
  split <;> simp only [↓stampAt_still, ↓setPtsu_still, ↓ptsuPush_still, ↓still_mk, ↓still_ite, ite_self]

theorem frameStamp_still (a0 a1 a2 a3 a4 a5 a6) :
    (State.frameStamp a0 a1 a2 a3 a4 a5 a6).still = a0.still := by
  unfold State.frameStamp
  simp only [↓ptsuStamp_still, ↓still_mk, ↓still_ite, ite_self]

theorem freewheelEnd_still (a0 a1 a2) :
    (State.freewheelEnd a0 a1 a2).still = a0.still := by
  unfold State.freewheelEnd
  simp only [↓setF_still, ↓still_mk, ↓still_ite, ite_self]

theorem gaWindowEnd_still (a0 a1 a2 a3 a4) :
    (State.gaWindowEnd a0 a1 a2 a3 a4).still = a0.still := by
  unfold State.gaWindowEnd
  simp only [↓setPrim_still, ↓perf_still, ↓engEvt_still, ↓still_mk, ↓still_ite, ite_self]

theorem goldFire_still (a0 a1) :
    (State.goldFire a0 a1).still = a0.still := by
  unfold State.goldFire
  simp only [↓setSram_still, ↓still_mk, ↓still_ite, ite_self]

theorem goldRestart_still (a0 a1) :
    (State.goldRestart a0 a1).still = a0.still := by
  unfold State.goldRestart
  simp only [↓engStart_still, ↓setEf_still, ↓still_mk, ↓still_ite, ite_self]

theorem goldReload_still (a0 a1) :
    (State.goldReload a0 a1).still = a0.still := by
  unfold State.goldReload
  repeat' (first
    | (simp only [↓goldShow_still, ↓setSram_still, ↓flag_still, ↓sramPoke_still, ↓raise_still, ↓goldRestart_still,
        ↓still_mk, ↓still_ite, ite_self, ↓still_dite, dite_eq_ite, ↓apply_ite Prod.snd, ↓apply_ite Prod.fst,
        ↓still_foldl]; done)
    | (with_reducible refine (still_foldl _ (fun s x => ?_) _ _).trans ?_)
    | (with_reducible refine (still_foldl_snd _ (fun r x => ?_) _ _).trans ?_)
    | (with_reducible refine (still_foldl_fst _ (fun r x => ?_) _ _).trans ?_)
    | (with_reducible refine (still_foldl_snd2 _ (fun r x => ?_) _ _).trans ?_)
    | (simp only [↓goldShow_still, ↓setSram_still, ↓flag_still, ↓sramPoke_still, ↓raise_still, ↓goldRestart_still,
        ↓still_mk, ↓still_ite, ite_self, ↓still_dite, dite_eq_ite, ↓apply_ite Prod.snd, ↓apply_ite Prod.fst,
        ↓still_foldl])
    | (with_reducible refine ite_eq_of ?_ ?_)
    | split)

theorem hailLimit_still (a0) :
    (State.hailLimit a0).still = a0.still := by
  unfold State.hailLimit
  simp only [↓pairFail_still, ↓still_mk, ↓still_ite, ite_self]

theorem hailTimer_still (a0) :
    (State.hailTimer a0).still = a0.still := by
  unfold State.hailTimer
  simp only [↓twinPlain_still, ↓still_mk, ↓still_ite, ite_self]

theorem hdacChangeDone_still (a0 a1) :
    (State.hdacChangeDone a0 a1).still = a0.still := by
  unfold State.hdacChangeDone
  simp only [↓raise_still, ↓setF_still, ↓hdacOut_still, ↓hdacTick_still, ↓still_mk, ↓still_ite, ite_self]

theorem hdacCompliance_still (a0 a1 a2) :
    (State.hdacCompliance a0 a1 a2).still = a0.still := by
  unfold State.hdacCompliance
  simp only [↓flag_still, ↓setF_still, ↓still_mk, ↓still_ite, ite_self]

theorem hdacFall_still (a0) :
    (State.hdacFall a0).still = a0.still := by
  unfold State.hdacFall
  repeat' (first
    | (simp only [↓flag_still, ↓setF_still, ↓hdacClear_still, ↓still_mk, ↓still_ite, ite_self, ↓still_dite,
        dite_eq_ite, ↓apply_ite Prod.snd, ↓apply_ite Prod.fst, ↓still_foldl]; done)
    | (with_reducible refine (still_foldl _ (fun s x => ?_) _ _).trans ?_)
    | (with_reducible refine (still_foldl_snd _ (fun r x => ?_) _ _).trans ?_)
    | (with_reducible refine (still_foldl_fst _ (fun r x => ?_) _ _).trans ?_)
    | (with_reducible refine (still_foldl_snd2 _ (fun r x => ?_) _ _).trans ?_)
    | (simp only [↓flag_still, ↓setF_still, ↓hdacClear_still, ↓still_mk, ↓still_ite, ite_self, ↓still_dite,
        dite_eq_ite, ↓apply_ite Prod.snd, ↓apply_ite Prod.fst, ↓still_foldl])
    | (with_reducible refine ite_eq_of ?_ ?_)
    | split)

theorem hdacRise_still (a0) :
    (State.hdacRise a0).still = a0.still := by
  unfold State.hdacRise
  simp only [↓setF_still, ↓still_mk, ↓still_ite, ite_self]

theorem hdacShort_still (a0 a1 a2) :
    (State.hdacShort a0 a1 a2).still = a0.still := by
  unfold State.hdacShort
  simp only [↓flag_still, ↓setF_still, ↓still_mk, ↓still_ite, ite_self]

theorem heartbeatTimer_still (a0) :
    (State.heartbeatTimer a0).still = a0.still := by
  unfold State.heartbeatTimer
  simp only [↓twinSend_still, ↓still_mk, ↓still_ite, ite_self]

theorem histEnd_still (a0 a1 a2) :
    (State.histEnd a0 a1 a2).still = a0.still := by
  unfold State.histEnd
  simp only [↓setPrim_still, ↓still_mk, ↓still_ite, ite_self]

theorem hkAbandon_still (a0) :
    (State.hkAbandon a0).still = a0.still := by
  unfold State.hkAbandon
  repeat' (first
    | (simp only [↓hkStop_still, ↓still_mk, ↓still_ite, ite_self, ↓still_dite, dite_eq_ite, ↓apply_ite Prod.snd,
        ↓apply_ite Prod.fst, ↓still_foldl]; done)
    | (with_reducible refine (still_foldl _ (fun s x => ?_) _ _).trans ?_)
    | (with_reducible refine (still_foldl_snd _ (fun r x => ?_) _ _).trans ?_)
    | (with_reducible refine (still_foldl_fst _ (fun r x => ?_) _ _).trans ?_)
    | (with_reducible refine (still_foldl_snd2 _ (fun r x => ?_) _ _).trans ?_)
    | (simp only [↓hkStop_still, ↓still_mk, ↓still_ite, ite_self, ↓still_dite, dite_eq_ite, ↓apply_ite Prod.snd,
        ↓apply_ite Prod.fst, ↓still_foldl])
    | (with_reducible refine ite_eq_of ?_ ?_)
    | split)

theorem hkCalDone_still (a0 a1 a2) :
    (State.hkCalDone a0 a1 a2).still = a0.still := by
  unfold State.hkCalDone
  simp only [↓raise_still, ↓hkRestart_still, ↓setF_still, ↓setHkc_still, ↓still_mk, ↓still_ite, ite_self]

theorem hkCompare_still (a0 a1 a2 a3 a4) :
    (State.hkCompare a0 a1 a2 a3 a4).still = a0.still := by
  unfold State.hkCompare
  simp only [↓flag_still, ↓still_mk, ↓still_ite, ite_self]

theorem hkFire_still (a0 a1) :
    (State.hkFire a0 a1).still = a0.still := by
  unfold State.hkFire
  repeat' (first
    | (simp only [↓hkTrigger_still, ↓still_mk, ↓still_ite, ite_self, ↓still_dite, dite_eq_ite, ↓apply_ite Prod.snd,
        ↓apply_ite Prod.fst, ↓still_foldl]; done)
    | (with_reducible refine (still_foldl _ (fun s x => ?_) _ _).trans ?_)
    | (with_reducible refine (still_foldl_snd _ (fun r x => ?_) _ _).trans ?_)
    | (with_reducible refine (still_foldl_fst _ (fun r x => ?_) _ _).trans ?_)
    | (with_reducible refine (still_foldl_snd2 _ (fun r x => ?_) _ _).trans ?_)
    | (simp only [↓hkTrigger_still, ↓still_mk, ↓still_ite, ite_self, ↓still_dite, dite_eq_ite, ↓apply_ite Prod.snd,
        ↓apply_ite Prod.fst, ↓still_foldl])
    | (with_reducible refine ite_eq_of ?_ ?_)
    | split)

theorem hkPassEnd_still (a0 a1) :
    (State.hkPassEnd a0 a1).still = a0.still := by
  unfold State.hkPassEnd
  simp only [↓hkStartVisit_still, ↓raise_still, ↓hkStop_still, ↓still_mk, ↓still_ite, ite_self]

theorem hkPowerUp_still (a0) :
    (State.hkPowerUp a0).still = a0.still := by
  unfold State.hkPowerUp
  repeat' (first
    | (simp only [↓hdacOut_still, ↓hdacFall_still, ↓still_mk, ↓still_ite, ite_self, ↓still_dite, dite_eq_ite,
        ↓apply_ite Prod.snd, ↓apply_ite Prod.fst, ↓still_foldl]; done)
    | (with_reducible refine (still_foldl _ (fun s x => ?_) _ _).trans ?_)
    | (with_reducible refine (still_foldl_snd _ (fun r x => ?_) _ _).trans ?_)
    | (with_reducible refine (still_foldl_fst _ (fun r x => ?_) _ _).trans ?_)
    | (with_reducible refine (still_foldl_snd2 _ (fun r x => ?_) _ _).trans ?_)
    | (simp only [↓hdacOut_still, ↓hdacFall_still, ↓still_mk, ↓still_ite, ite_self, ↓still_dite, dite_eq_ite,
        ↓apply_ite Prod.snd, ↓apply_ite Prod.fst, ↓still_foldl])
    | (with_reducible refine ite_eq_of ?_ ?_)
    | split)

theorem hkPush_still (a0 a1 a2) :
    (State.hkPush a0 a1 a2).still = a0.still := by
  unfold State.hkPush
  simp only [↓flag_still, ↓setReg_still, ↓setF_still, ↓setHkc_still, ↓raise_still, ↓still_mk, ↓still_ite, ite_self]

theorem hkRecords_still (a0) :
    (State.hkRecords a0).still = a0.still := by
  unfold State.hkRecords
  repeat' (first
    | (simp only [↓applyHdac_still, ↓applyHkcal_still, ↓still_mk, ↓still_ite, ite_self, ↓still_dite, dite_eq_ite,
        ↓apply_ite Prod.snd, ↓apply_ite Prod.fst, ↓still_foldl]; done)
    | (with_reducible refine (still_foldl _ (fun s x => ?_) _ _).trans ?_)
    | (with_reducible refine (still_foldl_snd _ (fun r x => ?_) _ _).trans ?_)
    | (with_reducible refine (still_foldl_fst _ (fun r x => ?_) _ _).trans ?_)
    | (with_reducible refine (still_foldl_snd2 _ (fun r x => ?_) _ _).trans ?_)
    | (simp only [↓applyHdac_still, ↓applyHkcal_still, ↓still_mk, ↓still_ite, ite_self, ↓still_dite, dite_eq_ite,
        ↓apply_ite Prod.snd, ↓apply_ite Prod.fst, ↓still_foldl])
    | (with_reducible refine ite_eq_of ?_ ?_)
    | split)

theorem hkRefSettled_still (a0) :
    (State.hkRefSettled a0).still = a0.still := by
  unfold State.hkRefSettled
  simp only [↓flag_still, ↓still_mk, ↓still_ite, ite_self]

theorem hkResult_still (a0 a1 a2) :
    (State.hkResult a0 a1 a2).still = a0.still := by
  unfold State.hkResult
  repeat' (first
    | (simp only [↓stampAt_still, ↓setHkc_still, ↓hkCompare_still, ↓hkPush_still, ↓hkStartVisit_still,
        ↓hkPassEnd_still, ↓still_mk, ↓still_ite, ite_self, ↓still_dite, dite_eq_ite, ↓apply_ite Prod.snd, ↓apply_ite
        Prod.fst, ↓still_foldl]; done)
    | (with_reducible refine (still_foldl _ (fun s x => ?_) _ _).trans ?_)
    | (with_reducible refine (still_foldl_snd _ (fun r x => ?_) _ _).trans ?_)
    | (with_reducible refine (still_foldl_fst _ (fun r x => ?_) _ _).trans ?_)
    | (with_reducible refine (still_foldl_snd2 _ (fun r x => ?_) _ _).trans ?_)
    | (simp only [↓stampAt_still, ↓setHkc_still, ↓hkCompare_still, ↓hkPush_still, ↓hkStartVisit_still,
        ↓hkPassEnd_still, ↓still_mk, ↓still_ite, ite_self, ↓still_dite, dite_eq_ite, ↓apply_ite Prod.snd, ↓apply_ite
        Prod.fst, ↓still_foldl])
    | (with_reducible refine ite_eq_of ?_ ?_)
    | split)

theorem progAnswer_still (a0 a1 a2 a3 a4) :
    (State.progAnswer a0 a1 a2 a3 a4).still = a0.still := by
  unfold State.progAnswer
  simp only [↓mbxDone_still, ↓modEng_still]

theorem progRun_still (a0 a1 a2 a3 a4 a5) (ha5 : ∀ s, (a5 s).still = s.still) :
    (State.progRun a0 a1 a2 a3 a4 a5).still = a0.still := by
  unfold State.progRun
  simp only [↓ha5, ↓progAnswer_still, ↓still_mk, ↓still_ite, ite_self]

theorem progRun_unfused (a0 a1 a2 a3 a4 a5) (ha5 : ∀ s, (a5 s).still.unfused = s.still.unfused) :
    (State.progRun a0 a1 a2 a3 a4 a5).still.unfused = a0.still.unfused := by
  unfold State.progRun
  simp only [↓ha5, ↓progAnswer_still, ↓unfused_mk, ↓still_mk, ↓still_ite, ↓unfused_ite, ite_self]

theorem hostSets_still (a0 a1 a2 a3) :
    (State.hostSets a0 a1 a2 a3).still = a0.still := by
  unfold State.hostSets
  simp only [↓modEng_still, ↓setProgStat_still]

theorem hostAdapt_still (a0 a1) :
    (State.hostAdapt a0 a1).still = a0.still := by
  unfold State.hostAdapt
  repeat' (first
    | (simp only [↓progRun_still, ↓progAnswer_still, ↓hostSets_still, ↓still_mk, ↓still_ite, ite_self, ↓still_dite,
        dite_eq_ite, ↓apply_ite Prod.snd, ↓apply_ite Prod.fst, ↓still_foldl]; done)
    | (with_reducible refine (still_foldl _ (fun s x => ?_) _ _).trans ?_)
    | (with_reducible refine (still_foldl_snd _ (fun r x => ?_) _ _).trans ?_)
    | (with_reducible refine (still_foldl_fst _ (fun r x => ?_) _ _).trans ?_)
    | (with_reducible refine (still_foldl_snd2 _ (fun r x => ?_) _ _).trans ?_)
    | (simp only [↓progRun_still, ↓progAnswer_still, ↓hostSets_still, ↓still_mk, ↓still_ite, ite_self, ↓still_dite,
        dite_eq_ite, ↓apply_ite Prod.snd, ↓apply_ite Prod.fst, ↓still_foldl])
    | (with_reducible refine (progRun_still _ _ _ _ _ _ (fun s => ?_)).trans ?_)
    | (with_reducible refine ite_eq_of ?_ ?_)
    | split)

theorem hostCalDone_still (a0 a1) :
    (State.hostCalDone a0 a1).still = a0.still := by
  unfold State.hostCalDone
  simp only [↓setF_still]

theorem hostCdrGain_still (a0 a1 a2) :
    (State.hostCdrGain a0 a1 a2).still = a0.still := by
  unfold State.hostCdrGain
  simp only [↓bypassEval_still, ↓holdoverAll_still, ↓hostSigChange_still, ↓setReg_still, ↓setF_still, ↓still_mk,
      ↓still_ite, ite_self]

theorem hostCdrLost_still (a0 a1) :
    (State.hostCdrLost a0 a1).still = a0.still := by
  unfold State.hostCdrLost
  simp only [↓hostSigChange_still, ↓setF_still, ↓holdoverAll_still, ↓raise_still, ↓still_mk, ↓still_ite, ite_self]

theorem hostDown_still (a0 a1 a2) :
    (State.hostDown a0 a1 a2).still = a0.still := by
  unfold State.hostDown
  repeat' (first
    | (simp only [↓engDown_still, ↓still_mk, ↓still_ite, ite_self, ↓still_dite, dite_eq_ite, ↓apply_ite Prod.snd,
        ↓apply_ite Prod.fst, ↓still_foldl]; done)
    | (with_reducible refine (still_foldl _ (fun s x => ?_) _ _).trans ?_)
    | (with_reducible refine (still_foldl_snd _ (fun r x => ?_) _ _).trans ?_)
    | (with_reducible refine (still_foldl_fst _ (fun r x => ?_) _ _).trans ?_)
    | (with_reducible refine (still_foldl_snd2 _ (fun r x => ?_) _ _).trans ?_)
    | (simp only [↓engDown_still, ↓still_mk, ↓still_ite, ite_self, ↓still_dite, dite_eq_ite, ↓apply_ite Prod.snd,
        ↓apply_ite Prod.fst, ↓still_foldl])
    | (with_reducible refine ite_eq_of ?_ ?_)
    | split)

theorem hostFollow_still (a0 a1 a2) :
    (State.hostFollow a0 a1 a2).still = a0.still := by
  unfold State.hostFollow
  simp only [↓setReg_still, ↓modHlane_still]

theorem hostFreeze_still (a0 a1) :
    (State.hostFreeze a0 a1).still = a0.still := by
  unfold State.hostFreeze
  repeat' (first
    | (simp only [↓progRun_still, ↓progAnswer_still, ↓hostSets_still, ↓still_mk, ↓still_ite, ite_self, ↓still_dite,
        dite_eq_ite, ↓apply_ite Prod.snd, ↓apply_ite Prod.fst, ↓still_foldl]; done)
    | (with_reducible refine (still_foldl _ (fun s x => ?_) _ _).trans ?_)
    | (with_reducible refine (still_foldl_snd _ (fun r x => ?_) _ _).trans ?_)
    | (with_reducible refine (still_foldl_fst _ (fun r x => ?_) _ _).trans ?_)
    | (with_reducible refine (still_foldl_snd2 _ (fun r x => ?_) _ _).trans ?_)
    | (simp only [↓progRun_still, ↓progAnswer_still, ↓hostSets_still, ↓still_mk, ↓still_ite, ite_self, ↓still_dite,
        dite_eq_ite, ↓apply_ite Prod.snd, ↓apply_ite Prod.fst, ↓still_foldl])
    | (with_reducible refine (progRun_still _ _ _ _ _ _ (fun s => ?_)).trans ?_)
    | (with_reducible refine ite_eq_of ?_ ?_)
    | split)

theorem hostResolve_still (a0 a1) :
    (State.hostResolve a0 a1).still = a0.still := by
  unfold State.hostResolve
  split <;> simp only [↓setHostState_still, ↓setSel_still, ↓raise_still, ↓still_mk, ↓still_ite, ite_self]

theorem hostNegotiate_still (a0 a1) :
    (State.hostNegotiate a0 a1).still = a0.still := by
  unfold State.hostNegotiate
  repeat' (first
    | (simp only [↓hostResolve_still, ↓setSel_still, ↓setHostState_still, ↓modHlane_still, ↓still_mk, ↓still_ite,
        ite_self, ↓still_dite, dite_eq_ite, ↓apply_ite Prod.snd, ↓apply_ite Prod.fst, ↓still_foldl]; done)
    | (with_reducible refine (still_foldl _ (fun s x => ?_) _ _).trans ?_)
    | (with_reducible refine (still_foldl_snd _ (fun r x => ?_) _ _).trans ?_)
    | (with_reducible refine (still_foldl_fst _ (fun r x => ?_) _ _).trans ?_)
    | (with_reducible refine (still_foldl_snd2 _ (fun r x => ?_) _ _).trans ?_)
    | (simp only [↓hostResolve_still, ↓setSel_still, ↓setHostState_still, ↓modHlane_still, ↓still_mk, ↓still_ite,
        ite_self, ↓still_dite, dite_eq_ite, ↓apply_ite Prod.snd, ↓apply_ite Prod.fst, ↓still_foldl])
    | (with_reducible refine ite_eq_of ?_ ?_)
    | split)

theorem hostOorClear_still (a0 a1) :
    (State.hostOorClear a0 a1).still = a0.still := by
  unfold State.hostOorClear
  simp only [↓setF_still]

theorem hostOorSet_still (a0 a1) :
    (State.hostOorSet a0 a1).still = a0.still := by
  unfold State.hostOorSet
  simp only [↓flag_still, ↓holdoverAll_still, ↓hostSigChange_still, ↓setF_still, ↓still_mk, ↓still_ite, ite_self]

theorem hostPreset_still (a0 a1) :
    (State.hostPreset a0 a1).still = a0.still := by
  unfold State.hostPreset
  repeat' (first
    | (simp only [↓progRun_still, ↓progAnswer_still, ↓modEng_still, ↓still_mk, ↓still_ite, ite_self, ↓still_dite,
        dite_eq_ite, ↓apply_ite Prod.snd, ↓apply_ite Prod.fst, ↓still_foldl]; done)
    | (with_reducible refine (still_foldl _ (fun s x => ?_) _ _).trans ?_)
    | (with_reducible refine (still_foldl_snd _ (fun r x => ?_) _ _).trans ?_)
    | (with_reducible refine (still_foldl_fst _ (fun r x => ?_) _ _).trans ?_)
    | (with_reducible refine (still_foldl_snd2 _ (fun r x => ?_) _ _).trans ?_)
    | (simp only [↓progRun_still, ↓progAnswer_still, ↓modEng_still, ↓still_mk, ↓still_ite, ite_self, ↓still_dite,
        dite_eq_ite, ↓apply_ite Prod.snd, ↓apply_ite Prod.fst, ↓still_foldl])
    | (with_reducible refine (progRun_still _ _ _ _ _ _ (fun s => ?_)).trans ?_)
    | (with_reducible refine ite_eq_of ?_ ?_)
    | split)

theorem sramUpset_still (a0 a1) :
    (State.sramUpset a0 a1).still = a0.still := by
  unfold State.sramUpset
  repeat' (first
    | (simp only [↓setSram_still, ↓still_mk, ↓still_ite, ite_self, ↓still_dite, dite_eq_ite, ↓apply_ite Prod.snd,
        ↓apply_ite Prod.fst, ↓still_foldl]; done)
    | (with_reducible refine (still_foldl _ (fun s x => ?_) _ _).trans ?_)
    | (with_reducible refine (still_foldl_snd _ (fun r x => ?_) _ _).trans ?_)
    | (with_reducible refine (still_foldl_fst _ (fun r x => ?_) _ _).trans ?_)
    | (with_reducible refine (still_foldl_snd2 _ (fun r x => ?_) _ _).trans ?_)
    | (simp only [↓setSram_still, ↓still_mk, ↓still_ite, ite_self, ↓still_dite, dite_eq_ite, ↓apply_ite Prod.snd,
        ↓apply_ite Prod.fst, ↓still_foldl])
    | (with_reducible refine ite_eq_of ?_ ?_)
    | split)

theorem unsupportedRequest_still (a0) :
    (State.unsupportedRequest a0).still = a0.still := by
  unfold State.unsupportedRequest
  simp only [↓setF_still, ↓tlp_still, ↓send_still, ↓countSat_still, ↓still_mk, ↓still_ite, ite_self]

theorem memRead_still (a0 a1 a2 a3 a4) :
    (State.memRead a0 a1 a2 a3 a4).still = a0.still := by
  unfold State.memRead
  repeat' (first
    | (simp only [↓tlps_still, ↓tlp_still, ↓busRead_still, ↓send_still, ↓bar2Read_still, ↓bar4Read_still, ↓still_mk,
        ↓still_ite, ite_self, ↓still_dite, dite_eq_ite, ↓apply_ite Prod.snd, ↓apply_ite Prod.fst, ↓still_foldl]; done)
    | (with_reducible refine (still_foldl _ (fun s x => ?_) _ _).trans ?_)
    | (with_reducible refine (still_foldl_snd _ (fun r x => ?_) _ _).trans ?_)
    | (with_reducible refine (still_foldl_fst _ (fun r x => ?_) _ _).trans ?_)
    | (with_reducible refine (still_foldl_snd2 _ (fun r x => ?_) _ _).trans ?_)
    | (simp only [↓tlps_still, ↓tlp_still, ↓busRead_still, ↓send_still, ↓bar2Read_still, ↓bar4Read_still, ↓still_mk,
        ↓still_ite, ite_self, ↓still_dite, dite_eq_ite, ↓apply_ite Prod.snd, ↓apply_ite Prod.fst, ↓still_foldl])
    | (with_reducible refine ite_eq_of ?_ ?_)
    | split)

theorem hostRead_still (a0 a1 a2 a3 a4 a5) :
    (State.hostRead a0 a1 a2 a3 a4 a5).still = a0.still := by
  unfold State.hostRead
  split <;> simp only [↓sramUpset_still, ↓ddrUpset_still, ↓unsupportedRequest_still, ↓memRead_still, ↓still_mk,
      ↓still_ite, ite_self]

theorem hostResume_still (a0 a1) :
    (State.hostResume a0 a1).still = a0.still := by
  unfold State.hostResume
  repeat' (first
    | (simp only [↓progRun_still, ↓progAnswer_still, ↓hostSets_still, ↓still_mk, ↓still_ite, ite_self, ↓still_dite,
        dite_eq_ite, ↓apply_ite Prod.snd, ↓apply_ite Prod.fst, ↓still_foldl]; done)
    | (with_reducible refine (still_foldl _ (fun s x => ?_) _ _).trans ?_)
    | (with_reducible refine (still_foldl_snd _ (fun r x => ?_) _ _).trans ?_)
    | (with_reducible refine (still_foldl_fst _ (fun r x => ?_) _ _).trans ?_)
    | (with_reducible refine (still_foldl_snd2 _ (fun r x => ?_) _ _).trans ?_)
    | (simp only [↓progRun_still, ↓progAnswer_still, ↓hostSets_still, ↓still_mk, ↓still_ite, ite_self, ↓still_dite,
        dite_eq_ite, ↓apply_ite Prod.snd, ↓apply_ite Prod.fst, ↓still_foldl])
    | (with_reducible refine (progRun_still _ _ _ _ _ _ (fun s => ?_)).trans ?_)
    | (with_reducible refine ite_eq_of ?_ ?_)
    | split)

theorem hostSetMu_still (a0 a1) :
    (State.hostSetMu a0 a1).still = a0.still := by
  unfold State.hostSetMu
  repeat' (first
    | (simp only [↓progRun_still, ↓progAnswer_still, ↓modEng_still, ↓still_mk, ↓still_ite, ite_self, ↓still_dite,
        dite_eq_ite, ↓apply_ite Prod.snd, ↓apply_ite Prod.fst, ↓still_foldl]; done)
    | (with_reducible refine (still_foldl _ (fun s x => ?_) _ _).trans ?_)
    | (with_reducible refine (still_foldl_snd _ (fun r x => ?_) _ _).trans ?_)
    | (with_reducible refine (still_foldl_fst _ (fun r x => ?_) _ _).trans ?_)
    | (with_reducible refine (still_foldl_snd2 _ (fun r x => ?_) _ _).trans ?_)
    | (simp only [↓progRun_still, ↓progAnswer_still, ↓modEng_still, ↓still_mk, ↓still_ite, ite_self, ↓still_dite,
        dite_eq_ite, ↓apply_ite Prod.snd, ↓apply_ite Prod.fst, ↓still_foldl])
    | (with_reducible refine (progRun_still _ _ _ _ _ _ (fun s => ?_)).trans ?_)
    | (with_reducible refine ite_eq_of ?_ ?_)
    | split)

theorem hostSigFall_still (a0 a1) :
    (State.hostSigFall a0 a1).still = a0.still := by
  unfold State.hostSigFall
  simp only [↓hostSigChange_still, ↓setF_still, ↓hostCdrLost_still, ↓raise_still, ↓still_mk, ↓still_ite, ite_self]

theorem hostSigRise_still (a0 a1) :
    (State.hostSigRise a0 a1).still = a0.still := by
  unfold State.hostSigRise
  simp only [↓hostSigChange_still, ↓setF_still, ↓still_mk, ↓still_ite, ite_self]

theorem hostStatus_still (a0 a1 a2) :
    (State.hostStatus a0 a1 a2).still = a0.still := by
  unfold State.hostStatus
  repeat' (first
    | (simp only [↓progRun_still, ↓progAnswer_still, ↓still_mk, ↓still_ite, ite_self, ↓still_dite, dite_eq_ite,
        ↓apply_ite Prod.snd, ↓apply_ite Prod.fst, ↓still_foldl]; done)
    | (with_reducible refine (still_foldl _ (fun s x => ?_) _ _).trans ?_)
    | (with_reducible refine (still_foldl_snd _ (fun r x => ?_) _ _).trans ?_)
    | (with_reducible refine (still_foldl_fst _ (fun r x => ?_) _ _).trans ?_)
    | (with_reducible refine (still_foldl_snd2 _ (fun r x => ?_) _ _).trans ?_)
    | (simp only [↓progRun_still, ↓progAnswer_still, ↓still_mk, ↓still_ite, ite_self, ↓still_dite, dite_eq_ite,
        ↓apply_ite Prod.snd, ↓apply_ite Prod.fst, ↓still_foldl])
    | (with_reducible refine (progRun_still _ _ _ _ _ _ (fun s => ?_)).trans ?_)
    | (with_reducible refine ite_eq_of ?_ ?_)
    | split)

theorem hostStop_still (a0 a1) :
    (State.hostStop a0 a1).still = a0.still := by
  unfold State.hostStop
  repeat' (first
    | (simp only [↓progRun_still, ↓progAnswer_still, ↓hostSets_still, ↓still_mk, ↓still_ite, ite_self, ↓still_dite,
        dite_eq_ite, ↓apply_ite Prod.snd, ↓apply_ite Prod.fst, ↓still_foldl]; done)
    | (with_reducible refine (still_foldl _ (fun s x => ?_) _ _).trans ?_)
    | (with_reducible refine (still_foldl_snd _ (fun r x => ?_) _ _).trans ?_)
    | (with_reducible refine (still_foldl_fst _ (fun r x => ?_) _ _).trans ?_)
    | (with_reducible refine (still_foldl_snd2 _ (fun r x => ?_) _ _).trans ?_)
    | (simp only [↓progRun_still, ↓progAnswer_still, ↓hostSets_still, ↓still_mk, ↓still_ite, ite_self, ↓still_dite,
        dite_eq_ite, ↓apply_ite Prod.snd, ↓apply_ite Prod.fst, ↓still_foldl])
    | (with_reducible refine (progRun_still _ _ _ _ _ _ (fun s => ?_)).trans ?_)
    | (with_reducible refine ite_eq_of ?_ ?_)
    | split)

theorem memWrite_unfused (a0 a1 a2 a3 a4) :
    (State.memWrite a0 a1 a2 a3 a4).still.unfused = a0.still.unfused := by
  unfold State.memWrite
  repeat' (first
    | (simp only [↓busWrite_unfused, ↓bar2Write_still, ↓tlps_still, ↓bar4Write_still, ↓unfused_mk, ↓still_mk,
        ↓still_ite, ↓unfused_ite, ite_self, ↓still_dite, dite_eq_ite, ↓apply_ite Prod.snd, ↓apply_ite Prod.fst,
        ↓still_foldl]; done)
    | (with_reducible refine (still_foldl _ (fun s x => ?_) _ _).trans ?_)
    | (with_reducible refine (still_foldl_snd _ (fun r x => ?_) _ _).trans ?_)
    | (with_reducible refine (still_foldl_fst _ (fun r x => ?_) _ _).trans ?_)
    | (with_reducible refine (still_foldl_snd2 _ (fun r x => ?_) _ _).trans ?_)
    | (with_reducible refine (unfused_foldl _ (fun s x => ?_) _ _).trans ?_)
    | (with_reducible refine (unfused_foldl_snd _ (fun s x => ?_) _ _).trans ?_)
    | (simp only [↓busWrite_unfused, ↓bar2Write_still, ↓tlps_still, ↓bar4Write_still, ↓unfused_mk, ↓still_mk,
        ↓still_ite, ↓unfused_ite, ite_self, ↓still_dite, dite_eq_ite, ↓apply_ite Prod.snd, ↓apply_ite Prod.fst,
        ↓still_foldl])
    | (with_reducible refine ite_eq_of ?_ ?_)
    | split)

theorem hostWriteMem_unfused (a0 a1 a2 a3 a4) :
    (State.hostWriteMem a0 a1 a2 a3 a4).still.unfused = a0.still.unfused := by
  unfold State.hostWriteMem
  simp only [↓unsupportedRequest_still, ↓memWrite_unfused, ↓unfused_mk, ↓still_mk, ↓still_ite, ↓unfused_ite, ite_self]

theorem hsAnswer_still (a0 a1 a2) :
    (State.hsAnswer a0 a1 a2).2.still = a0.still := by
  unfold State.hsAnswer
  repeat' (first
    | (simp only [↓fogAbort_still, ↓hkAbandon_still, ↓ddrSleep_still, ↓dmaPwrAsk_still, ↓still_mk, ↓still_ite,
        ite_self, ↓still_dite, dite_eq_ite, ↓apply_ite Prod.snd, ↓apply_ite Prod.fst, ↓still_foldl]; done)
    | (with_reducible refine (still_foldl _ (fun s x => ?_) _ _).trans ?_)
    | (with_reducible refine (still_foldl_snd _ (fun r x => ?_) _ _).trans ?_)
    | (with_reducible refine (still_foldl_fst _ (fun r x => ?_) _ _).trans ?_)
    | (with_reducible refine (still_foldl_snd2 _ (fun r x => ?_) _ _).trans ?_)
    | (simp only [↓fogAbort_still, ↓hkAbandon_still, ↓ddrSleep_still, ↓dmaPwrAsk_still, ↓still_mk, ↓still_ite,
        ite_self, ↓still_dite, dite_eq_ite, ↓apply_ite Prod.snd, ↓apply_ite Prod.fst, ↓still_foldl])
    | (with_reducible refine ite_eq_of ?_ ?_)
    | split)

theorem hsExpire_still (a0 a1) :
    (State.hsExpire a0 a1).still = a0.still := by
  unfold State.hsExpire
  simp only [↓hsAsk_still, ↓modPwr_still, ↓still_mk, ↓still_ite, ite_self]

theorem hsRefLost_still (a0) :
    (State.hsRefLost a0).still = a0.still := by
  unfold State.hsRefLost
  simp only [↓pwrRefuse_still, ↓still_mk, ↓still_ite, ite_self]

theorem hsReply_still (a0 a1 a2) :
    (State.hsReply a0 a1 a2).still = a0.still := by
  unfold State.hsReply
  repeat' (first
    | (simp only [↓hsAnswer_still, ↓modPwr_still, ↓hsPass_still, ↓pwrRefuse_still, ↓still_mk, ↓still_ite, ite_self,
        ↓still_dite, dite_eq_ite, ↓apply_ite Prod.snd, ↓apply_ite Prod.fst, ↓still_foldl]; done)
    | (with_reducible refine (still_foldl _ (fun s x => ?_) _ _).trans ?_)
    | (with_reducible refine (still_foldl_snd _ (fun r x => ?_) _ _).trans ?_)
    | (with_reducible refine (still_foldl_fst _ (fun r x => ?_) _ _).trans ?_)
    | (with_reducible refine (still_foldl_snd2 _ (fun r x => ?_) _ _).trans ?_)
    | (simp only [↓hsAnswer_still, ↓modPwr_still, ↓hsPass_still, ↓pwrRefuse_still, ↓still_mk, ↓still_ite, ite_self,
        ↓still_dite, dite_eq_ite, ↓apply_ite Prod.snd, ↓apply_ite Prod.fst, ↓still_foldl])
    | (with_reducible refine ite_eq_of ?_ ?_)
    | split)

theorem hsTimeout_still (a0) :
    (State.hsTimeout a0).still = a0.still := by
  unfold State.hsTimeout
  simp only [↓choose_still, ↓pwrRefuse_still, ↓still_mk, ↓still_ite, ite_self]

theorem lineFail_still (a0 a1 a2) :
    (State.lineFail a0 a1 a2).still = a0.still := by
  unfold State.lineFail
  simp only [↓portAdd_still]

theorem innerFailed_still (a0 a1) :
    (State.innerFailed a0 a1).still = a0.still := by
  unfold State.innerFailed
  repeat' (first
    | (simp only [↓countFlag32_still, ↓lineFail_still, ↓perf_still, ↓raise_still, ↓laneEvent_still, ↓logRecord_still,
        ↓modLane_still, ↓still_mk, ↓still_ite, ite_self, ↓still_dite, dite_eq_ite, ↓apply_ite Prod.snd, ↓apply_ite
        Prod.fst, ↓still_foldl]; done)
    | (with_reducible refine (still_foldl _ (fun s x => ?_) _ _).trans ?_)
    | (with_reducible refine (still_foldl_snd _ (fun r x => ?_) _ _).trans ?_)
    | (with_reducible refine (still_foldl_fst _ (fun r x => ?_) _ _).trans ?_)
    | (with_reducible refine (still_foldl_snd2 _ (fun r x => ?_) _ _).trans ?_)
    | (simp only [↓countFlag32_still, ↓lineFail_still, ↓perf_still, ↓raise_still, ↓laneEvent_still, ↓logRecord_still,
        ↓modLane_still, ↓still_mk, ↓still_ite, ite_self, ↓still_dite, dite_eq_ite, ↓apply_ite Prod.snd, ↓apply_ite
        Prod.fst, ↓still_foldl])
    | (with_reducible refine ite_eq_of ?_ ?_)
    | split)

theorem innerCodeword_still (a0 a1 a2 a3) :
    (State.innerCodeword a0 a1 a2 a3).still = a0.still := by
  unfold State.innerCodeword
  repeat' (first
    | (simp only [↓countFlag48_still, ↓chargeInner_still, ↓innerFailed_still, ↓still_mk, ↓still_ite, ite_self,
        ↓still_dite, dite_eq_ite, ↓apply_ite Prod.snd, ↓apply_ite Prod.fst, ↓still_foldl]; done)
    | (with_reducible refine (still_foldl _ (fun s x => ?_) _ _).trans ?_)
    | (with_reducible refine (still_foldl_snd _ (fun r x => ?_) _ _).trans ?_)
    | (with_reducible refine (still_foldl_fst _ (fun r x => ?_) _ _).trans ?_)
    | (with_reducible refine (still_foldl_snd2 _ (fun r x => ?_) _ _).trans ?_)
    | (simp only [↓countFlag48_still, ↓chargeInner_still, ↓innerFailed_still, ↓still_mk, ↓still_ite, ite_self,
        ↓still_dite, dite_eq_ite, ↓apply_ite Prod.snd, ↓apply_ite Prod.fst, ↓still_foldl])
    | (with_reducible refine ite_eq_of ?_ ?_)
    | split)

theorem innerWindowEnd_still (a0 a1 a2) :
    (State.innerWindowEnd a0 a1 a2).still = a0.still := by
  unfold State.innerWindowEnd
  repeat' (first
    | (simp only [↓setF_still, ↓portsEval_still, ↓modLane_still, ↓flag_still, ↓innerHunt_still, ↓still_mk, ↓still_ite,
        ite_self, ↓still_dite, dite_eq_ite, ↓apply_ite Prod.snd, ↓apply_ite Prod.fst, ↓still_foldl]; done)
    | (with_reducible refine (still_foldl _ (fun s x => ?_) _ _).trans ?_)
    | (with_reducible refine (still_foldl_snd _ (fun r x => ?_) _ _).trans ?_)
    | (with_reducible refine (still_foldl_fst _ (fun r x => ?_) _ _).trans ?_)
    | (with_reducible refine (still_foldl_snd2 _ (fun r x => ?_) _ _).trans ?_)
    | (simp only [↓setF_still, ↓portsEval_still, ↓modLane_still, ↓flag_still, ↓innerHunt_still, ↓still_mk, ↓still_ite,
        ite_self, ↓still_dite, dite_eq_ite, ↓apply_ite Prod.snd, ↓apply_ite Prod.fst, ↓still_foldl])
    | (with_reducible refine ite_eq_of ?_ ?_)
    | split)

theorem iterChg_still (a0 a1) :
    (State.iterChg a0 a1).still = a0.still := by
  unfold State.iterChg
  simp only [↓raise_still, ↓setF_still, ↓still_mk, ↓still_ite, ite_self]

theorem keeperRestarted_still (a0 a1 a2) :
    (State.keeperRestarted a0 a1 a2).still = a0.still := by
  unfold State.keeperRestarted
  repeat' (first
    | (simp only [↓setB_still, ↓setReg_still, ↓setF_still, ↓firmwareBoot_still, ↓deriveKey_still, ↓discard_still,
        ↓modCfgv_still, ↓cfgFail_still, ↓still_mk, ↓still_ite, ite_self, ↓still_dite, dite_eq_ite, ↓apply_ite
        Prod.snd, ↓apply_ite Prod.fst, ↓still_foldl]; done)
    | (with_reducible refine (still_foldl _ (fun s x => ?_) _ _).trans ?_)
    | (with_reducible refine (still_foldl_snd _ (fun r x => ?_) _ _).trans ?_)
    | (with_reducible refine (still_foldl_fst _ (fun r x => ?_) _ _).trans ?_)
    | (with_reducible refine (still_foldl_snd2 _ (fun r x => ?_) _ _).trans ?_)
    | (simp only [↓setB_still, ↓setReg_still, ↓setF_still, ↓firmwareBoot_still, ↓deriveKey_still, ↓discard_still,
        ↓modCfgv_still, ↓cfgFail_still, ↓still_mk, ↓still_ite, ite_self, ↓still_dite, dite_eq_ite, ↓apply_ite
        Prod.snd, ↓apply_ite Prod.fst, ↓still_foldl])
    | (with_reducible refine ite_eq_of ?_ ?_)
    | split)

theorem keeperWrite_unfused (a0 a1 a2 a3) :
    (State.keeperWrite a0 a1 a2 a3).still.unfused = a0.still.unfused := by
  unfold State.keeperWrite
  simp only [↓busWrite_unfused]

theorem keeperRestore_unfused (a0 a1 a2) :
    (State.keeperRestore a0 a1 a2).still.unfused = a0.still.unfused := by
  unfold State.keeperRestore
  repeat' (first
    | (simp only [↓domRepairs_unfused, ↓hkRecords_still, ↓keeperWrite_unfused, ↓unfused_mk, ↓still_mk, ↓still_ite,
        ↓unfused_ite, ite_self, ↓still_dite, dite_eq_ite, ↓apply_ite Prod.snd, ↓apply_ite Prod.fst, ↓still_foldl];
        done)
    | (with_reducible refine (still_foldl _ (fun s x => ?_) _ _).trans ?_)
    | (with_reducible refine (still_foldl_snd _ (fun r x => ?_) _ _).trans ?_)
    | (with_reducible refine (still_foldl_fst _ (fun r x => ?_) _ _).trans ?_)
    | (with_reducible refine (still_foldl_snd2 _ (fun r x => ?_) _ _).trans ?_)
    | (with_reducible refine (unfused_foldl _ (fun s x => ?_) _ _).trans ?_)
    | (with_reducible refine (unfused_foldl_snd _ (fun s x => ?_) _ _).trans ?_)
    | (simp only [↓domRepairs_unfused, ↓hkRecords_still, ↓keeperWrite_unfused, ↓unfused_mk, ↓still_mk, ↓still_ite,
        ↓unfused_ite, ite_self, ↓still_dite, dite_eq_ite, ↓apply_ite Prod.snd, ↓apply_ite Prod.fst, ↓still_foldl])
    | (with_reducible refine ite_eq_of ?_ ?_)
    | split)

theorem keeperBack_unfused (a0 a1 a2) :
    (State.keeperBack a0 a1 a2).still.unfused = a0.still.unfused := by
  unfold State.keeperBack
  simp only [↓keeperRestarted_still, ↓keeperRestore_unfused, ↓unfused_mk, ↓still_mk, ↓still_ite, ↓unfused_ite,
      ite_self]

theorem laneGaEnd_still (a0 a1 a2) :
    (State.laneGaEnd a0 a1 a2).still = a0.still := by
  unfold State.laneGaEnd
  split <;> simp only [↓gaWindowEnd_still, ↓still_mk, ↓still_ite, ite_self]

theorem laneHistEnd_still (a0 a1 a2) :
    (State.laneHistEnd a0 a1 a2).still = a0.still := by
  unfold State.laneHistEnd
  split <;> simp only [↓histEnd_still, ↓still_mk, ↓still_ite, ite_self]

theorem laneTestDone_still (a0 a1 a2 a3 a4 a5) :
    (State.laneTestDone a0 a1 a2 a3 a4 a5).still = a0.still := by
  unfold State.laneTestDone
  split <;> simp only [↓setF_still, ↓setB_still, ↓laneTestEnd_still, ↓still_mk, ↓still_ite, ite_self]

theorem lcChanged_unfused (a0 a1) :
    (State.lcChanged a0 a1).still.unfused = a0.still.unfused := by
  unfold State.lcChanged
  repeat' (first
    | (simp only [↓setF_still, ↓flag_still, ↓setReg_still, ↓dbgClose_still, ↓raise_still, ↓unfused_mk, ↓still_mk,
        ↓still_ite, ↓unfused_ite, ite_self, ↓still_dite, dite_eq_ite, ↓apply_ite Prod.snd, ↓apply_ite Prod.fst,
        ↓still_foldl]; done)
    | (with_reducible refine (still_foldl _ (fun s x => ?_) _ _).trans ?_)
    | (with_reducible refine (still_foldl_snd _ (fun r x => ?_) _ _).trans ?_)
    | (with_reducible refine (still_foldl_fst _ (fun r x => ?_) _ _).trans ?_)
    | (with_reducible refine (still_foldl_snd2 _ (fun r x => ?_) _ _).trans ?_)
    | (with_reducible refine (unfused_foldl _ (fun s x => ?_) _ _).trans ?_)
    | (with_reducible refine (unfused_foldl_snd _ (fun s x => ?_) _ _).trans ?_)
    | (simp only [↓setF_still, ↓flag_still, ↓setReg_still, ↓dbgClose_still, ↓raise_still, ↓unfused_mk, ↓still_mk,
        ↓still_ite, ↓unfused_ite, ite_self, ↓still_dite, dite_eq_ite, ↓apply_ite Prod.snd, ↓apply_ite Prod.fst,
        ↓still_foldl])
    | (with_reducible refine ite_eq_of ?_ ?_)
    | split)

theorem lineDown_still (a0 a1 a2) :
    (State.lineDown a0 a1 a2).still = a0.still := by
  unfold State.lineDown
  simp only [↓engDown_still, ↓still_mk, ↓still_ite, ite_self]

theorem lineEye_still (a0 a1 a2 a3) :
    (State.lineEye a0 a1 a2 a3).still = a0.still := by
  unfold State.lineEye
  repeat' (first
    | (simp only [↓progRun_still, ↓progAnswer_still, ↓eyeCtl_still, ↓eyeDone_still, ↓still_mk, ↓still_ite, ite_self,
        ↓still_dite, dite_eq_ite, ↓apply_ite Prod.snd, ↓apply_ite Prod.fst, ↓still_foldl]; done)
    | (with_reducible refine (still_foldl _ (fun s x => ?_) _ _).trans ?_)
    | (with_reducible refine (still_foldl_snd _ (fun r x => ?_) _ _).trans ?_)
    | (with_reducible refine (still_foldl_fst _ (fun r x => ?_) _ _).trans ?_)
    | (with_reducible refine (still_foldl_snd2 _ (fun r x => ?_) _ _).trans ?_)
    | (simp only [↓progRun_still, ↓progAnswer_still, ↓eyeCtl_still, ↓eyeDone_still, ↓still_mk, ↓still_ite, ite_self,
        ↓still_dite, dite_eq_ite, ↓apply_ite Prod.snd, ↓apply_ite Prod.fst, ↓still_foldl])
    | (with_reducible refine (progRun_still _ _ _ _ _ _ (fun s => ?_)).trans ?_)
    | (with_reducible refine ite_eq_of ?_ ?_)
    | split)

theorem lineFreeze_still (a0 a1) :
    (State.lineFreeze a0 a1).still = a0.still := by
  unfold State.lineFreeze
  repeat' (first
    | (simp only [↓progRun_still, ↓progAnswer_still, ↓progEnter_still, ↓still_mk, ↓still_ite, ite_self, ↓still_dite,
        dite_eq_ite, ↓apply_ite Prod.snd, ↓apply_ite Prod.fst, ↓still_foldl]; done)
    | (with_reducible refine (still_foldl _ (fun s x => ?_) _ _).trans ?_)
    | (with_reducible refine (still_foldl_snd _ (fun r x => ?_) _ _).trans ?_)
    | (with_reducible refine (still_foldl_fst _ (fun r x => ?_) _ _).trans ?_)
    | (with_reducible refine (still_foldl_snd2 _ (fun r x => ?_) _ _).trans ?_)
    | (simp only [↓progRun_still, ↓progAnswer_still, ↓progEnter_still, ↓still_mk, ↓still_ite, ite_self, ↓still_dite,
        dite_eq_ite, ↓apply_ite Prod.snd, ↓apply_ite Prod.fst, ↓still_foldl])
    | (with_reducible refine (progRun_still _ _ _ _ _ _ (fun s => ?_)).trans ?_)
    | (with_reducible refine ite_eq_of ?_ ?_)
    | split)

theorem lineRemap_still (s : State) (n : Nat) : (s.lineRemap n).still = s.still := by
  unfold lineRemap
  refine progRun_still _ _ _ _ _ _ (fun s => ?_)
  split
  · rename_i t h; rw [progAnswer_still, slotMap_still s t n _ _ h]
  · exact progAnswer_still ..

theorem lineResume_still (a0 a1) :
    (State.lineResume a0 a1).still = a0.still := by
  unfold State.lineResume
  repeat' (first
    | (simp only [↓progRun_still, ↓progAnswer_still, ↓mbxNote_still, ↓progEnter_still, ↓still_mk, ↓still_ite,
        ite_self, ↓still_dite, dite_eq_ite, ↓apply_ite Prod.snd, ↓apply_ite Prod.fst, ↓still_foldl]; done)
    | (with_reducible refine (still_foldl _ (fun s x => ?_) _ _).trans ?_)
    | (with_reducible refine (still_foldl_snd _ (fun r x => ?_) _ _).trans ?_)
    | (with_reducible refine (still_foldl_fst _ (fun r x => ?_) _ _).trans ?_)
    | (with_reducible refine (still_foldl_snd2 _ (fun r x => ?_) _ _).trans ?_)
    | (simp only [↓progRun_still, ↓progAnswer_still, ↓mbxNote_still, ↓progEnter_still, ↓still_mk, ↓still_ite,
        ite_self, ↓still_dite, dite_eq_ite, ↓apply_ite Prod.snd, ↓apply_ite Prod.fst, ↓still_foldl])
    | (with_reducible refine (progRun_still _ _ _ _ _ _ (fun s => ?_)).trans ?_)
    | (with_reducible refine ite_eq_of ?_ ?_)
    | split)

theorem lineSetLoop_still (a0 a1) :
    (State.lineSetLoop a0 a1).still = a0.still := by
  unfold State.lineSetLoop
  repeat' (first
    | (simp only [↓progRun_still, ↓progAnswer_still, ↓modEng_still, ↓still_mk, ↓still_ite, ite_self, ↓still_dite,
        dite_eq_ite, ↓apply_ite Prod.snd, ↓apply_ite Prod.fst, ↓still_foldl]; done)
    | (with_reducible refine (still_foldl _ (fun s x => ?_) _ _).trans ?_)
    | (with_reducible refine (still_foldl_snd _ (fun r x => ?_) _ _).trans ?_)
    | (with_reducible refine (still_foldl_fst _ (fun r x => ?_) _ _).trans ?_)
    | (with_reducible refine (still_foldl_snd2 _ (fun r x => ?_) _ _).trans ?_)
    | (simp only [↓progRun_still, ↓progAnswer_still, ↓modEng_still, ↓still_mk, ↓still_ite, ite_self, ↓still_dite,
        dite_eq_ite, ↓apply_ite Prod.snd, ↓apply_ite Prod.fst, ↓still_foldl])
    | (with_reducible refine (progRun_still _ _ _ _ _ _ (fun s => ?_)).trans ?_)
    | (with_reducible refine ite_eq_of ?_ ?_)
    | split)

theorem lineSetMu_still (a0 a1) :
    (State.lineSetMu a0 a1).still = a0.still := by
  unfold State.lineSetMu
  repeat' (first
    | (simp only [↓progRun_still, ↓progAnswer_still, ↓modEng_still, ↓still_mk, ↓still_ite, ite_self, ↓still_dite,
        dite_eq_ite, ↓apply_ite Prod.snd, ↓apply_ite Prod.fst, ↓still_foldl]; done)
    | (with_reducible refine (still_foldl _ (fun s x => ?_) _ _).trans ?_)
    | (with_reducible refine (still_foldl_snd _ (fun r x => ?_) _ _).trans ?_)
    | (with_reducible refine (still_foldl_fst _ (fun r x => ?_) _ _).trans ?_)
    | (with_reducible refine (still_foldl_snd2 _ (fun r x => ?_) _ _).trans ?_)
    | (simp only [↓progRun_still, ↓progAnswer_still, ↓modEng_still, ↓still_mk, ↓still_ite, ite_self, ↓still_dite,
        dite_eq_ite, ↓apply_ite Prod.snd, ↓apply_ite Prod.fst, ↓still_foldl])
    | (with_reducible refine (progRun_still _ _ _ _ _ _ (fun s => ?_)).trans ?_)
    | (with_reducible refine ite_eq_of ?_ ?_)
    | split)

theorem progBank_still (s : State) (n : Nat) (words : List (Fin 145 × BitVec 12)) : (s.progBank n words).still = s.still := by
  unfold progBank
  dsimp only
  generalize ht : List.foldl _ (List.foldl _ s _) words = t
  have h : t.still = s.still := by
    rw [← ht]
    refine (still_foldl _ (fun s w => setRxWord_still ..) _ _).trans (still_foldl _ (fun s w => setRxWord_still ..) _ _)
  cases hr : t.rxSwap n with
  | none => exact h
  | some u => exact (rxSwap_still t u n hr).trans h

theorem progTrain_still (a0 a1 a2 a3 a4 a5) :
    (State.progTrain a0 a1 a2 a3 a4 a5).still = a0.still := by
  unfold State.progTrain
  simp only [↓progBank_still, ↓progEnter_still, ↓setProgStat_still, ↓mbxNote_still, ↓progAnswer_still, ↓still_mk,
      ↓still_ite, ite_self]

theorem lineSpareTrain_still (a0 a1 a2 a3 a4 a5) :
    (State.lineSpareTrain a0 a1 a2 a3 a4 a5).still = a0.still := by
  unfold State.lineSpareTrain
  repeat' (first
    | (simp only [↓progRun_still, ↓progTrain_still, ↓still_mk, ↓still_ite, ite_self, ↓still_dite, dite_eq_ite,
        ↓apply_ite Prod.snd, ↓apply_ite Prod.fst, ↓still_foldl]; done)
    | (with_reducible refine (still_foldl _ (fun s x => ?_) _ _).trans ?_)
    | (with_reducible refine (still_foldl_snd _ (fun r x => ?_) _ _).trans ?_)
    | (with_reducible refine (still_foldl_fst _ (fun r x => ?_) _ _).trans ?_)
    | (with_reducible refine (still_foldl_snd2 _ (fun r x => ?_) _ _).trans ?_)
    | (simp only [↓progRun_still, ↓progTrain_still, ↓still_mk, ↓still_ite, ite_self, ↓still_dite, dite_eq_ite,
        ↓apply_ite Prod.snd, ↓apply_ite Prod.fst, ↓still_foldl])
    | (with_reducible refine (progRun_still _ _ _ _ _ _ (fun s => ?_)).trans ?_)
    | (with_reducible refine ite_eq_of ?_ ?_)
    | split)

theorem lineStatus_still (a0 a1 a2) :
    (State.lineStatus a0 a1 a2).still = a0.still := by
  unfold State.lineStatus
  repeat' (first
    | (simp only [↓progRun_still, ↓progAnswer_still, ↓still_mk, ↓still_ite, ite_self, ↓still_dite, dite_eq_ite,
        ↓apply_ite Prod.snd, ↓apply_ite Prod.fst, ↓still_foldl]; done)
    | (with_reducible refine (still_foldl _ (fun s x => ?_) _ _).trans ?_)
    | (with_reducible refine (still_foldl_snd _ (fun r x => ?_) _ _).trans ?_)
    | (with_reducible refine (still_foldl_fst _ (fun r x => ?_) _ _).trans ?_)
    | (with_reducible refine (still_foldl_snd2 _ (fun r x => ?_) _ _).trans ?_)
    | (simp only [↓progRun_still, ↓progAnswer_still, ↓still_mk, ↓still_ite, ite_self, ↓still_dite, dite_eq_ite,
        ↓apply_ite Prod.snd, ↓apply_ite Prod.fst, ↓still_foldl])
    | (with_reducible refine (progRun_still _ _ _ _ _ _ (fun s => ?_)).trans ?_)
    | (with_reducible refine ite_eq_of ?_ ?_)
    | split)

theorem lineStop_still (a0 a1) :
    (State.lineStop a0 a1).still = a0.still := by
  unfold State.lineStop
  repeat' (first
    | (simp only [↓progRun_still, ↓progAnswer_still, ↓progEnter_still, ↓still_mk, ↓still_ite, ite_self, ↓still_dite,
        dite_eq_ite, ↓apply_ite Prod.snd, ↓apply_ite Prod.fst, ↓still_foldl]; done)
    | (with_reducible refine (still_foldl _ (fun s x => ?_) _ _).trans ?_)
    | (with_reducible refine (still_foldl_snd _ (fun r x => ?_) _ _).trans ?_)
    | (with_reducible refine (still_foldl_fst _ (fun r x => ?_) _ _).trans ?_)
    | (with_reducible refine (still_foldl_snd2 _ (fun r x => ?_) _ _).trans ?_)
    | (simp only [↓progRun_still, ↓progAnswer_still, ↓progEnter_still, ↓still_mk, ↓still_ite, ite_self, ↓still_dite,
        dite_eq_ite, ↓apply_ite Prod.snd, ↓apply_ite Prod.fst, ↓still_foldl])
    | (with_reducible refine (progRun_still _ _ _ _ _ _ (fun s => ?_)).trans ?_)
    | (with_reducible refine ite_eq_of ?_ ?_)
    | split)

theorem lineTrain_still (a0 a1 a2 a3 a4 a5) :
    (State.lineTrain a0 a1 a2 a3 a4 a5).still = a0.still := by
  unfold State.lineTrain
  repeat' (first
    | (simp only [↓progRun_still, ↓progAnswer_still, ↓progTrain_still, ↓still_mk, ↓still_ite, ite_self, ↓still_dite,
        dite_eq_ite, ↓apply_ite Prod.snd, ↓apply_ite Prod.fst, ↓still_foldl]; done)
    | (with_reducible refine (still_foldl _ (fun s x => ?_) _ _).trans ?_)
    | (with_reducible refine (still_foldl_snd _ (fun r x => ?_) _ _).trans ?_)
    | (with_reducible refine (still_foldl_fst _ (fun r x => ?_) _ _).trans ?_)
    | (with_reducible refine (still_foldl_snd2 _ (fun r x => ?_) _ _).trans ?_)
    | (simp only [↓progRun_still, ↓progAnswer_still, ↓progTrain_still, ↓still_mk, ↓still_ite, ite_self, ↓still_dite,
        dite_eq_ite, ↓apply_ite Prod.snd, ↓apply_ite Prod.fst, ↓still_foldl])
    | (with_reducible refine (progRun_still _ _ _ _ _ _ (fun s => ?_)).trans ?_)
    | (with_reducible refine ite_eq_of ?_ ?_)
    | split)

theorem linkDownEvent_still (a0) :
    (State.linkDownEvent a0).still = a0.still := by
  unfold State.linkDownEvent
  simp only [↓setF_still, ↓still_mk, ↓still_ite, ite_self]

theorem linkDownTimeout_still (a0 a1) :
    (State.linkDownTimeout a0 a1).still = a0.still := by
  unfold State.linkDownTimeout
  simp only [↓raise_still, ↓setF_still, ↓hostToLock_still, ↓still_mk, ↓still_ite, ite_self]

theorem lockstep_still (a0) :
    (State.lockstep a0).still = a0.still := by
  unfold State.lockstep
  simp only [↓keeperRestart_still, ↓countSat_still, ↓flag_still, ↓still_mk, ↓still_ite, ite_self]

theorem logPageRead_still (a0 a1) :
    (State.logPageRead a0 a1).2.2.still = a0.still := by
  unfold State.logPageRead
  repeat' (first
    | (simp only [↓sramRead_still, ↓still_mk, ↓still_ite, ite_self, ↓still_dite, dite_eq_ite, ↓apply_ite Prod.snd,
        ↓apply_ite Prod.fst, ↓still_foldl]; done)
    | (with_reducible refine (still_foldl _ (fun s x => ?_) _ _).trans ?_)
    | (with_reducible refine (still_foldl_snd _ (fun r x => ?_) _ _).trans ?_)
    | (with_reducible refine (still_foldl_fst _ (fun r x => ?_) _ _).trans ?_)
    | (with_reducible refine (still_foldl_snd2 _ (fun r x => ?_) _ _).trans ?_)
    | (simp only [↓sramRead_still, ↓still_mk, ↓still_ite, ite_self, ↓still_dite, dite_eq_ite, ↓apply_ite Prod.snd,
        ↓apply_ite Prod.fst, ↓still_foldl])
    | (with_reducible refine ite_eq_of ?_ ?_)
    | split)

theorem logMove_still (a0 a1 a2) :
    (State.logMove a0 a1 a2).still = a0.still := by
  unfold State.logMove
  repeat' (first
    | (simp only [↓logPageRead_still, ↓ddrWrite_still, ↓modDdr_still, ↓flag_still, ↓still_mk, ↓still_ite, ite_self,
        ↓still_dite, dite_eq_ite, ↓apply_ite Prod.snd, ↓apply_ite Prod.fst, ↓still_foldl]; done)
    | (with_reducible refine (still_foldl _ (fun s x => ?_) _ _).trans ?_)
    | (with_reducible refine (still_foldl_snd _ (fun r x => ?_) _ _).trans ?_)
    | (with_reducible refine (still_foldl_fst _ (fun r x => ?_) _ _).trans ?_)
    | (with_reducible refine (still_foldl_snd2 _ (fun r x => ?_) _ _).trans ?_)
    | (simp only [↓logPageRead_still, ↓ddrWrite_still, ↓modDdr_still, ↓flag_still, ↓still_mk, ↓still_ite, ite_self,
        ↓still_dite, dite_eq_ite, ↓apply_ite Prod.snd, ↓apply_ite Prod.fst, ↓still_foldl])
    | (with_reducible refine ite_eq_of ?_ ?_)
    | split)

theorem logDrainAnch_still (a0 a1) :
    (State.logDrainAnch a0 a1).still = a0.still := by
  unfold State.logDrainAnch
  simp only [↓logMove_still, ↓anchFull_still, ↓setReg_still]

theorem logDrainRing_still (a0 a1) :
    (State.logDrainRing a0 a1).still = a0.still := by
  unfold State.logDrainRing
  simp only [↓logMove_still, ↓setReg_still, ↓flag_still, ↓still_mk, ↓still_ite, ite_self]

theorem logDrain_still (a0) :
    (State.logDrain a0).still = a0.still := by
  unfold State.logDrain
  repeat' (first
    | (simp only [↓anchFull_still, ↓logDrainAnch_still, ↓logDrainRing_still, ↓still_mk, ↓still_ite, ite_self,
        ↓still_dite, dite_eq_ite, ↓apply_ite Prod.snd, ↓apply_ite Prod.fst, ↓still_foldl]; done)
    | (with_reducible refine (still_foldl _ (fun s x => ?_) _ _).trans ?_)
    | (with_reducible refine (still_foldl_snd _ (fun r x => ?_) _ _).trans ?_)
    | (with_reducible refine (still_foldl_fst _ (fun r x => ?_) _ _).trans ?_)
    | (with_reducible refine (still_foldl_snd2 _ (fun r x => ?_) _ _).trans ?_)
    | (simp only [↓anchFull_still, ↓logDrainAnch_still, ↓logDrainRing_still, ↓still_mk, ↓still_ite, ite_self,
        ↓still_dite, dite_eq_ite, ↓apply_ite Prod.snd, ↓apply_ite Prod.fst, ↓still_foldl])
    | (with_reducible refine ite_eq_of ?_ ?_)
    | split)

theorem snapRec_still (a0 a1 a2 a3 a4) :
    (State.snapRec a0 a1 a2 a3 a4).still = a0.still := by
  unfold State.snapRec
  simp only [↓logRecord_still]

theorem logSnap_still (a0 a1 a2) :
    (State.logSnap a0 a1 a2).still = a0.still := by
  unfold State.logSnap
  repeat' (first
    | (simp only [↓snapRec_still, ↓still_mk, ↓still_ite, ite_self, ↓still_dite, dite_eq_ite, ↓apply_ite Prod.snd,
        ↓apply_ite Prod.fst, ↓still_foldl]; done)
    | (with_reducible refine (still_foldl _ (fun s x => ?_) _ _).trans ?_)
    | (with_reducible refine (still_foldl_snd _ (fun r x => ?_) _ _).trans ?_)
    | (with_reducible refine (still_foldl_fst _ (fun r x => ?_) _ _).trans ?_)
    | (with_reducible refine (still_foldl_snd2 _ (fun r x => ?_) _ _).trans ?_)
    | (simp only [↓snapRec_still, ↓still_mk, ↓still_ite, ite_self, ↓still_dite, dite_eq_ite, ↓apply_ite Prod.snd,
        ↓apply_ite Prod.fst, ↓still_foldl])
    | (with_reducible refine ite_eq_of ?_ ?_)
    | split)

theorem lpcWrap_still (s : State) (n : Nat) (g : Fld) (r : State × Bool) : (s.lpcWrap n g r).still = r.1.still := by
  unfold lpcWrap
  simp only [↓still_ite, ↓raise_still, ↓setF_still, ite_self]

theorem lpcMark_still (a0 a1 a2 a3 a4) :
    (State.lpcMark a0 a1 a2 a3 a4).still = a0.still := by
  unfold State.lpcMark
  repeat' (first
    | (simp only [↓raise_still, ↓setF_still, ↓lpcWrap_still, ↓count32_still, ↓lineFail_still, ↓perf_still,
        ↓laneEvent_still, ↓logRecord_still, ↓modLane_still, ↓still_mk, ↓still_ite, ite_self, ↓still_dite, dite_eq_ite,
        ↓apply_ite Prod.snd, ↓apply_ite Prod.fst, ↓still_foldl]; done)
    | (with_reducible refine (still_foldl _ (fun s x => ?_) _ _).trans ?_)
    | (with_reducible refine (still_foldl_snd _ (fun r x => ?_) _ _).trans ?_)
    | (with_reducible refine (still_foldl_fst _ (fun r x => ?_) _ _).trans ?_)
    | (with_reducible refine (still_foldl_snd2 _ (fun r x => ?_) _ _).trans ?_)
    | (simp only [↓raise_still, ↓setF_still, ↓lpcWrap_still, ↓count32_still, ↓lineFail_still, ↓perf_still,
        ↓laneEvent_still, ↓logRecord_still, ↓modLane_still, ↓still_mk, ↓still_ite, ite_self, ↓still_dite, dite_eq_ite,
        ↓apply_ite Prod.snd, ↓apply_ite Prod.fst, ↓still_foldl])
    | (with_reducible refine ite_eq_of ?_ ?_)
    | split)

theorem lpcBlockEnd_still (a0 a1 a2) :
    (State.lpcBlockEnd a0 a1 a2).still = a0.still := by
  unfold State.lpcBlockEnd
  repeat' (first
    | (simp only [↓lpcMark_still, ↓lpcWrap_still, ↓count48_still, ↓count32_still, ↓lineCorr_still, ↓still_mk,
        ↓still_ite, ite_self, ↓still_dite, dite_eq_ite, ↓apply_ite Prod.snd, ↓apply_ite Prod.fst, ↓still_foldl]; done)
    | (with_reducible refine (still_foldl _ (fun s x => ?_) _ _).trans ?_)
    | (with_reducible refine (still_foldl_snd _ (fun r x => ?_) _ _).trans ?_)
    | (with_reducible refine (still_foldl_fst _ (fun r x => ?_) _ _).trans ?_)
    | (with_reducible refine (still_foldl_snd2 _ (fun r x => ?_) _ _).trans ?_)
    | (simp only [↓lpcMark_still, ↓lpcWrap_still, ↓count48_still, ↓count32_still, ↓lineCorr_still, ↓still_mk,
        ↓still_ite, ite_self, ↓still_dite, dite_eq_ite, ↓apply_ite Prod.snd, ↓apply_ite Prod.fst, ↓still_foldl])
    | (with_reducible refine ite_eq_of ?_ ?_)
    | split)

theorem muxLock_still (a0 a1) :
    (State.muxLock a0 a1).still = a0.still := by
  unfold State.muxLock
  split <;> simp only [↓portsEval_still, ↓setF_still, ↓still_mk, ↓still_ite, ite_self]

theorem lpcLocked_still (a0 a1) :
    (State.lpcLocked a0 a1).still = a0.still := by
  unfold State.lpcLocked
  simp only [↓muxLock_still, ↓setF_still, ↓modLane_still]

theorem lpcPeriod_still (a0 a1 a2) :
    (State.lpcPeriod a0 a1 a2).still = a0.still := by
  unfold State.lpcPeriod
  repeat' (first
    | (simp only [↓setF_still, ↓modLane_still, ↓lpcLocked_still, ↓raise_still, ↓lpcDrop_still, ↓still_mk, ↓still_ite,
        ite_self, ↓still_dite, dite_eq_ite, ↓apply_ite Prod.snd, ↓apply_ite Prod.fst, ↓still_foldl]; done)
    | (with_reducible refine (still_foldl _ (fun s x => ?_) _ _).trans ?_)
    | (with_reducible refine (still_foldl_snd _ (fun r x => ?_) _ _).trans ?_)
    | (with_reducible refine (still_foldl_fst _ (fun r x => ?_) _ _).trans ?_)
    | (with_reducible refine (still_foldl_snd2 _ (fun r x => ?_) _ _).trans ?_)
    | (simp only [↓setF_still, ↓modLane_still, ↓lpcLocked_still, ↓raise_still, ↓lpcDrop_still, ↓still_mk, ↓still_ite,
        ite_self, ↓still_dite, dite_eq_ite, ↓apply_ite Prod.snd, ↓apply_ite Prod.fst, ↓still_foldl])
    | (with_reducible refine ite_eq_of ?_ ?_)
    | split)

theorem markerLock_still (a0 a1 a2 a3) :
    (State.markerLock a0 a1 a2 a3).still = a0.still := by
  unfold State.markerLock
  simp only [↓setF_still, ↓still_mk, ↓still_ite, ite_self]

theorem markerLoss_still (a0 a1 a2) :
    (State.markerLoss a0 a1 a2).still = a0.still := by
  unfold State.markerLoss
  simp only [↓portLeave_still, ↓still_mk, ↓still_ite, ite_self]

theorem measDone_still (a0 a1) :
    (State.measDone a0 a1).still = a0.still := by
  unfold State.measDone
  repeat' (first
    | (simp only [↓setF_still, ↓raise_still, ↓faultShow_still, ↓bandEval_still, ↓alarmEval_still, ↓throttle_still,
        ↓critEval_still, ↓still_mk, ↓still_ite, ite_self, ↓still_dite, dite_eq_ite, ↓apply_ite Prod.snd, ↓apply_ite
        Prod.fst, ↓still_foldl]; done)
    | (with_reducible refine (still_foldl _ (fun s x => ?_) _ _).trans ?_)
    | (with_reducible refine (still_foldl_snd _ (fun r x => ?_) _ _).trans ?_)
    | (with_reducible refine (still_foldl_fst _ (fun r x => ?_) _ _).trans ?_)
    | (with_reducible refine (still_foldl_snd2 _ (fun r x => ?_) _ _).trans ?_)
    | (simp only [↓setF_still, ↓raise_still, ↓faultShow_still, ↓bandEval_still, ↓alarmEval_still, ↓throttle_still,
        ↓critEval_still, ↓still_mk, ↓still_ite, ite_self, ↓still_dite, dite_eq_ite, ↓apply_ite Prod.snd, ↓apply_ite
        Prod.fst, ↓still_foldl])
    | (with_reducible refine ite_eq_of ?_ ?_)
    | split)

theorem measTimer_still (a0) :
    (State.measTimer a0).still = a0.still := by
  unfold State.measTimer
  simp only [↓measStart_still, ↓still_mk, ↓still_ite, ite_self]

theorem memInvalDone_still (a0) :
    (State.memInvalDone a0).still = a0.still := by
  unfold State.memInvalDone
  simp only [↓setF_still]

theorem memSealDone_still (a0) :
    (State.memSealDone a0).still = a0.still := by
  unfold State.memSealDone
  simp only [↓setSram_still, ↓setF_still, ↓still_mk, ↓still_ite, ite_self]

theorem monFlag_still (a0 a1 a2 a3 a4) :
    (State.monFlag a0 a1 a2 a3 a4).still = a0.still := by
  unfold State.monFlag
  simp only [↓setB_still, ↓raise_still, ↓still_mk, ↓still_ite, ite_self]

theorem setMon_still (a0 a1 a2 a3) :
    (State.setMon a0 a1 a2 a3).still = a0.still := by
  unfold State.setMon
  simp only [↓still_mk]

theorem monWindowEnd_still (a0 a1 a2) :
    (State.monWindowEnd a0 a1 a2).still = a0.still := by
  unfold State.monWindowEnd
  simp only [↓setMon_still, ↓monFlag_still]

theorem negTimerLimit_still (a0 a1) :
    (State.negTimerLimit a0 a1).still = a0.still := by
  unfold State.negTimerLimit
  simp only [↓raise_still, ↓countSat_still, ↓hostToLock_still, ↓seqUp_still, ↓still_mk, ↓still_ite, ite_self]

theorem offAccess_unfused (a0 a1 a2 a3 a4) :
    (State.offAccess a0 a1 a2 a3 a4).still.unfused = a0.still.unfused := by
  unfold State.offAccess
  split <;> simp only [↓busWrite_unfused, ↓busRead_still, ↓send_still, ↓memWrite_unfused, ↓memRead_still, ↓unfused_mk,
      ↓still_mk, ↓still_ite, ↓unfused_ite, ite_self]

theorem onI2c_still (a0 a1) (ha1 : ∀ s, (a1 s).still = s.still) :
    (State.onI2c a0 a1).still = a0.still := by
  unfold State.onI2c
  simp only [↓ha1, ↓still_mk, ↓still_ite, ite_self]

theorem onI2c_unfused (a0 a1) (ha1 : ∀ s, (a1 s).still.unfused = s.still.unfused) :
    (State.onI2c a0 a1).still.unfused = a0.still.unfused := by
  unfold State.onI2c
  simp only [↓ha1, ↓unfused_mk, ↓still_mk, ↓still_ite, ↓unfused_ite, ite_self]

theorem oorClear_still (a0 a1) :
    (State.oorClear a0 a1).still = a0.still := by
  unfold State.oorClear
  simp only [↓setF_still]

theorem oorSet_still (a0 a1) :
    (State.oorSet a0 a1).still = a0.still := by
  unfold State.oorSet
  simp only [↓flag_still, ↓holdoverAll_still, ↓sigChange_still, ↓setF_still, ↓still_mk, ↓still_ite, ite_self]

theorem pageRx_still (a0 a1 a2) :
    (State.pageRx a0 a1 a2).still = a0.still := by
  unfold State.pageRx
  simp only [↓countSat_still, ↓modHlane_still, ↓setF_still, ↓setReg_still, ↓raise_still, ↓setHostState_still,
      ↓hostNegotiate_still, ↓still_mk, ↓still_ite, ite_self]

theorem pageTx_still (a0 a1) :
    (State.pageTx a0 a1).still = a0.still := by
  unfold State.pageTx
  simp only [↓send_still, ↓hostNegotiate_still, ↓setHostState_still, ↓setF_still, ↓modHlane_still, ↓still_mk,
      ↓still_ite, ite_self]

theorem pagesDown_still (a0 a1 a2) :
    (State.pagesDown a0 a1 a2).still = a0.still := by
  unfold State.pagesDown
  repeat' (first
    | (simp only [↓clearBlk_still, ↓still_mk, ↓still_ite, ite_self, ↓still_dite, dite_eq_ite, ↓apply_ite Prod.snd,
        ↓apply_ite Prod.fst, ↓still_foldl]; done)
    | (with_reducible refine (still_foldl _ (fun s x => ?_) _ _).trans ?_)
    | (with_reducible refine (still_foldl_snd _ (fun r x => ?_) _ _).trans ?_)
    | (with_reducible refine (still_foldl_fst _ (fun r x => ?_) _ _).trans ?_)
    | (with_reducible refine (still_foldl_snd2 _ (fun r x => ?_) _ _).trans ?_)
    | (simp only [↓clearBlk_still, ↓still_mk, ↓still_ite, ite_self, ↓still_dite, dite_eq_ite, ↓apply_ite Prod.snd,
        ↓apply_ite Prod.fst, ↓still_foldl])
    | (with_reducible refine ite_eq_of ?_ ?_)
    | split)

theorem parityReport_still (a0 a1 a2 a3) :
    (State.parityReport a0 a1 a2 a3).still = a0.still := by
  unfold State.parityReport
  simp only [↓setB_still, ↓setF_still, ↓countSat_still, ↓logRecord_still, ↓raise_still, ↓still_mk]

theorem parityRestore_still (a0 a1 a2) :
    (State.parityRestore a0 a1 a2).still = a0.still := by
  unfold State.parityRestore
  repeat' (first
    | (simp only [↓setReg_still, ↓parityNew_still, ↓activeChanged_still, ↓recheck_still, ↓raise_still, ↓satReg_still,
        ↓still_mk, ↓still_ite, ite_self, ↓still_dite, dite_eq_ite, ↓apply_ite Prod.snd, ↓apply_ite Prod.fst,
        ↓still_foldl]; done)
    | (with_reducible refine (still_foldl _ (fun s x => ?_) _ _).trans ?_)
    | (with_reducible refine (still_foldl_snd _ (fun r x => ?_) _ _).trans ?_)
    | (with_reducible refine (still_foldl_fst _ (fun r x => ?_) _ _).trans ?_)
    | (with_reducible refine (still_foldl_snd2 _ (fun r x => ?_) _ _).trans ?_)
    | (simp only [↓setReg_still, ↓parityNew_still, ↓activeChanged_still, ↓recheck_still, ↓raise_still, ↓satReg_still,
        ↓still_mk, ↓still_ite, ite_self, ↓still_dite, dite_eq_ite, ↓apply_ite Prod.snd, ↓apply_ite Prod.fst,
        ↓still_foldl])
    | (with_reducible refine ite_eq_of ?_ ?_)
    | split)

theorem perfPass_still (a0 a1) :
    (State.perfPass a0 a1).still = a0.still := by
  unfold State.perfPass
  simp only [↓perf_still, ↓draw_still, ↓still_mk, ↓still_ite, ite_self]

theorem pllLock_still (a0 a1 a2) :
    (State.pllLock a0 a1 a2).still = a0.still := by
  unfold State.pllLock
  repeat' (first
    | (simp only [↓setF_still, ↓injRun_still, ↓bgStart_still, ↓portsEval_still, ↓squelchAll_still, ↓still_mk,
        ↓still_ite, ite_self, ↓still_dite, dite_eq_ite, ↓apply_ite Prod.snd, ↓apply_ite Prod.fst, ↓still_foldl]; done)
    | (with_reducible refine (still_foldl _ (fun s x => ?_) _ _).trans ?_)
    | (with_reducible refine (still_foldl_snd _ (fun r x => ?_) _ _).trans ?_)
    | (with_reducible refine (still_foldl_fst _ (fun r x => ?_) _ _).trans ?_)
    | (with_reducible refine (still_foldl_snd2 _ (fun r x => ?_) _ _).trans ?_)
    | (simp only [↓setF_still, ↓injRun_still, ↓bgStart_still, ↓portsEval_still, ↓squelchAll_still, ↓still_mk,
        ↓still_ite, ite_self, ↓still_dite, dite_eq_ite, ↓apply_ite Prod.snd, ↓apply_ite Prod.fst, ↓still_foldl])
    | (with_reducible refine ite_eq_of ?_ ?_)
    | split)

theorem pllLost_still (a0 a1) :
    (State.pllLost a0 a1).still = a0.still := by
  unfold State.pllLost
  repeat' (first
    | (simp only [↓setF_still, ↓raise_still, ↓modLane_still, ↓cdrLost_still, ↓portsEval_still, ↓squelchAll_still,
        ↓hostCdrLost_still, ↓still_mk, ↓still_ite, ite_self, ↓still_dite, dite_eq_ite, ↓apply_ite Prod.snd, ↓apply_ite
        Prod.fst, ↓still_foldl]; done)
    | (with_reducible refine (still_foldl _ (fun s x => ?_) _ _).trans ?_)
    | (with_reducible refine (still_foldl_snd _ (fun r x => ?_) _ _).trans ?_)
    | (with_reducible refine (still_foldl_fst _ (fun r x => ?_) _ _).trans ?_)
    | (with_reducible refine (still_foldl_snd2 _ (fun r x => ?_) _ _).trans ?_)
    | (simp only [↓setF_still, ↓raise_still, ↓modLane_still, ↓cdrLost_still, ↓portsEval_still, ↓squelchAll_still,
        ↓hostCdrLost_still, ↓still_mk, ↓still_ite, ite_self, ↓still_dite, dite_eq_ite, ↓apply_ite Prod.snd, ↓apply_ite
        Prod.fst, ↓still_foldl])
    | (with_reducible refine ite_eq_of ?_ ?_)
    | split)

theorem pmbAlert_still (a0 a1) :
    (State.pmbAlert a0 a1).still = a0.still := by
  unfold State.pmbAlert
  simp only [↓raise_still, ↓setF_still, ↓attemptFail_still]

theorem pmbPoll_still (a0 a1) :
    (State.pmbPoll a0 a1).still = a0.still := by
  unfold State.pmbPoll
  repeat' (first
    | (simp only [↓attemptFail_still, ↓setF_still, ↓voltEnd_still, ↓still_mk, ↓still_ite, ite_self, ↓still_dite,
        dite_eq_ite, ↓apply_ite Prod.snd, ↓apply_ite Prod.fst, ↓still_foldl]; done)
    | (with_reducible refine (still_foldl _ (fun s x => ?_) _ _).trans ?_)
    | (with_reducible refine (still_foldl_snd _ (fun r x => ?_) _ _).trans ?_)
    | (with_reducible refine (still_foldl_fst _ (fun r x => ?_) _ _).trans ?_)
    | (with_reducible refine (still_foldl_snd2 _ (fun r x => ?_) _ _).trans ?_)
    | (simp only [↓attemptFail_still, ↓setF_still, ↓voltEnd_still, ↓still_mk, ↓still_ite, ite_self, ↓still_dite,
        dite_eq_ite, ↓apply_ite Prod.snd, ↓apply_ite Prod.fst, ↓still_foldl])
    | (with_reducible refine ite_eq_of ?_ ?_)
    | split)

theorem porBist_still (a0 a1 a2) :
    (State.porBist a0 a1 a2).still = a0.still := by
  unfold State.porBist
  repeat' (first
    | (simp only [↓setF_still, ↓setReg_still, ↓modPwr_still, ↓bistPrecond_still, ↓bistEnd_still, ↓setBist_still,
        ↓bistComplete_still, ↓still_mk, ↓still_ite, ite_self, ↓still_dite, dite_eq_ite, ↓apply_ite Prod.snd,
        ↓apply_ite Prod.fst, ↓still_foldl]; done)
    | (with_reducible refine (still_foldl _ (fun s x => ?_) _ _).trans ?_)
    | (with_reducible refine (still_foldl_snd _ (fun r x => ?_) _ _).trans ?_)
    | (with_reducible refine (still_foldl_fst _ (fun r x => ?_) _ _).trans ?_)
    | (with_reducible refine (still_foldl_snd2 _ (fun r x => ?_) _ _).trans ?_)
    | (simp only [↓setF_still, ↓setReg_still, ↓modPwr_still, ↓bistPrecond_still, ↓bistEnd_still, ↓setBist_still,
        ↓bistComplete_still, ↓still_mk, ↓still_ite, ite_self, ↓still_dite, dite_eq_ite, ↓apply_ite Prod.snd,
        ↓apply_ite Prod.fst, ↓still_foldl])
    | (with_reducible refine ite_eq_of ?_ ?_)
    | split)

theorem portsFreewheel_still (a0) :
    (State.portsFreewheel a0).still = a0.still := by
  unfold State.portsFreewheel
  repeat' (first
    | (simp only [↓setF_still, ↓still_mk, ↓still_ite, ite_self, ↓still_dite, dite_eq_ite, ↓apply_ite Prod.snd,
        ↓apply_ite Prod.fst, ↓still_foldl]; done)
    | (with_reducible refine (still_foldl _ (fun s x => ?_) _ _).trans ?_)
    | (with_reducible refine (still_foldl_snd _ (fun r x => ?_) _ _).trans ?_)
    | (with_reducible refine (still_foldl_fst _ (fun r x => ?_) _ _).trans ?_)
    | (with_reducible refine (still_foldl_snd2 _ (fun r x => ?_) _ _).trans ?_)
    | (simp only [↓setF_still, ↓still_mk, ↓still_ite, ite_self, ↓still_dite, dite_eq_ite, ↓apply_ite Prod.snd,
        ↓apply_ite Prod.fst, ↓still_foldl])
    | (with_reducible refine ite_eq_of ?_ ?_)
    | split)

theorem posAuto_still (a0) :
    (State.posAuto a0).still = a0.still := by
  unfold State.posAuto
  simp only [↓posStart_still, ↓still_mk, ↓still_ite, ite_self]

theorem posFail_still (a0) :
    (State.posFail a0).still = a0.still := by
  unfold State.posFail
  simp only [↓flag_still, ↓modTwin_still]

theorem primEvent_still (a0 a1 a2 a3) :
    (State.primEvent a0 a1 a2 a3).still = a0.still := by
  unfold State.primEvent
  simp only [↓primStore_still, ↓still_mk, ↓still_ite, ite_self]

theorem pwrClocks_still (a0) :
    (State.pwrClocks a0).still = a0.still := by
  unfold State.pwrClocks
  repeat' (first
    | (simp only [↓modPwr_still, ↓pllLock_still, ↓codecRefresh_still, ↓still_mk, ↓still_ite, ite_self, ↓still_dite,
        dite_eq_ite, ↓apply_ite Prod.snd, ↓apply_ite Prod.fst, ↓still_foldl]; done)
    | (with_reducible refine (still_foldl _ (fun s x => ?_) _ _).trans ?_)
    | (with_reducible refine (still_foldl_snd _ (fun r x => ?_) _ _).trans ?_)
    | (with_reducible refine (still_foldl_fst _ (fun r x => ?_) _ _).trans ?_)
    | (with_reducible refine (still_foldl_snd2 _ (fun r x => ?_) _ _).trans ?_)
    | (simp only [↓modPwr_still, ↓pllLock_still, ↓codecRefresh_still, ↓still_mk, ↓still_ite, ite_self, ↓still_dite,
        dite_eq_ite, ↓apply_ite Prod.snd, ↓apply_ite Prod.fst, ↓still_foldl])
    | (with_reducible refine ite_eq_of ?_ ?_)
    | split)

theorem pwrLatch_still (a0) :
    (State.pwrLatch a0).still = a0.still := by
  unfold State.pwrLatch
  simp only [↓modPwr_still, ↓setB_still, ↓still_mk, ↓still_ite, ite_self]

theorem pwrQuiet_still (a0 a1) :
    (State.pwrQuiet a0 a1).still = a0.still := by
  unfold State.pwrQuiet
  repeat' (first
    | (simp only [↓portsFreewheel_still, ↓modPwr_still, ↓setF_still, ↓modHlane_still, ↓codecRefresh_still,
        ↓pllStop_still, ↓portsEval_still, ↓squelchAll_still, ↓still_mk, ↓still_ite, ite_self, ↓still_dite,
        dite_eq_ite, ↓apply_ite Prod.snd, ↓apply_ite Prod.fst, ↓still_foldl]; done)
    | (with_reducible refine (still_foldl _ (fun s x => ?_) _ _).trans ?_)
    | (with_reducible refine (still_foldl_snd _ (fun r x => ?_) _ _).trans ?_)
    | (with_reducible refine (still_foldl_fst _ (fun r x => ?_) _ _).trans ?_)
    | (with_reducible refine (still_foldl_snd2 _ (fun r x => ?_) _ _).trans ?_)
    | (simp only [↓portsFreewheel_still, ↓modPwr_still, ↓setF_still, ↓modHlane_still, ↓codecRefresh_still,
        ↓pllStop_still, ↓portsEval_still, ↓squelchAll_still, ↓still_mk, ↓still_ite, ite_self, ↓still_dite,
        dite_eq_ite, ↓apply_ite Prod.snd, ↓apply_ite Prod.fst, ↓still_foldl])
    | (with_reducible refine ite_eq_of ?_ ?_)
    | split)

theorem pwrRestore_still (a0 a1) :
    (State.pwrRestore a0 a1).still = a0.still := by
  unfold State.pwrRestore
  repeat' (first
    | (simp only [↓ddrResume_still, ↓fogUp_still, ↓hkPowerUp_still, ↓setF_still, ↓engRestore_still, ↓still_mk,
        ↓still_ite, ite_self, ↓still_dite, dite_eq_ite, ↓apply_ite Prod.snd, ↓apply_ite Prod.fst, ↓still_foldl]; done)
    | (with_reducible refine (still_foldl _ (fun s x => ?_) _ _).trans ?_)
    | (with_reducible refine (still_foldl_snd _ (fun r x => ?_) _ _).trans ?_)
    | (with_reducible refine (still_foldl_fst _ (fun r x => ?_) _ _).trans ?_)
    | (with_reducible refine (still_foldl_snd2 _ (fun r x => ?_) _ _).trans ?_)
    | (simp only [↓ddrResume_still, ↓fogUp_still, ↓hkPowerUp_still, ↓setF_still, ↓engRestore_still, ↓still_mk,
        ↓still_ite, ite_self, ↓still_dite, dite_eq_ite, ↓apply_ite Prod.snd, ↓apply_ite Prod.fst, ↓still_foldl])
    | (with_reducible refine ite_eq_of ?_ ?_)
    | split)

theorem pwrRollback_still (a0) :
    (State.pwrRollback a0).still = a0.still := by
  unfold State.pwrRollback
  simp only [↓pwrUnquiet_still, ↓pwrClocks_still, ↓pwrAborted_still, ↓still_mk, ↓still_ite, ite_self]

theorem regUpset_still (a0 a1 a2 a3 a4) :
    (State.regUpset a0 a1 a2 a3 a4).still = a0.still := by
  unfold State.regUpset
  simp only [↓setReg_still, ↓activeChanged_still, ↓recheck_still, ↓still_mk, ↓still_ite, ite_self]

theorem releaseResend_still (a0) :
    (State.releaseResend a0).still = a0.still := by
  unfold State.releaseResend
  simp only [↓twinReleased_still, ↓twinSend_still, ↓modTwin_still, ↓still_mk, ↓still_ite, ite_self]

theorem rsMonitored_still (a0 a1 a2 a3 a4) :
    (State.rsMonitored a0 a1 a2 a3 a4).still = a0.still := by
  unfold State.rsMonitored
  repeat' (first
    | (simp only [↓portAdd_still, ↓perf_still, ↓setMon_still, ↓setPos_still, ↓still_mk, ↓still_ite, ite_self,
        ↓still_dite, dite_eq_ite, ↓apply_ite Prod.snd, ↓apply_ite Prod.fst, ↓still_foldl]; done)
    | (with_reducible refine (still_foldl _ (fun s x => ?_) _ _).trans ?_)
    | (with_reducible refine (still_foldl_snd _ (fun r x => ?_) _ _).trans ?_)
    | (with_reducible refine (still_foldl_fst _ (fun r x => ?_) _ _).trans ?_)
    | (with_reducible refine (still_foldl_snd2 _ (fun r x => ?_) _ _).trans ?_)
    | (simp only [↓portAdd_still, ↓perf_still, ↓setMon_still, ↓setPos_still, ↓still_mk, ↓still_ite, ite_self,
        ↓still_dite, dite_eq_ite, ↓apply_ite Prod.snd, ↓apply_ite Prod.fst, ↓still_foldl])
    | (with_reducible refine ite_eq_of ?_ ?_)
    | split)

theorem tapAdmits_still (a0) :
    (State.tapAdmits a0).2.still = a0.still := by
  unfold State.tapAdmits
  repeat' (first
    | (simp only [↓still_mk, ↓still_ite, ite_self, ↓still_dite, dite_eq_ite, ↓apply_ite Prod.snd, ↓apply_ite Prod.fst,
        ↓still_foldl]; done)
    | (with_reducible refine (still_foldl _ (fun s x => ?_) _ _).trans ?_)
    | (with_reducible refine (still_foldl_snd _ (fun r x => ?_) _ _).trans ?_)
    | (with_reducible refine (still_foldl_fst _ (fun r x => ?_) _ _).trans ?_)
    | (with_reducible refine (still_foldl_snd2 _ (fun r x => ?_) _ _).trans ?_)
    | (simp only [↓still_mk, ↓still_ite, ite_self, ↓still_dite, dite_eq_ite, ↓apply_ite Prod.snd, ↓apply_ite Prod.fst,
        ↓still_foldl])
    | (with_reducible refine ite_eq_of ?_ ?_)
    | split)

theorem tapWord_still (a0 a1 a2 a3 a4 a5) :
    (State.tapWord a0 a1 a2 a3 a4 a5).still = a0.still := by
  unfold State.tapWord
  repeat' (first
    | (simp only [↓tapDue_still, ↓tapAdmits_still, ↓tapLost_still, ↓still_mk, ↓still_ite, ite_self, ↓still_dite,
        dite_eq_ite, ↓apply_ite Prod.snd, ↓apply_ite Prod.fst, ↓still_foldl]; done)
    | (with_reducible refine (still_foldl _ (fun s x => ?_) _ _).trans ?_)
    | (with_reducible refine (still_foldl_snd _ (fun r x => ?_) _ _).trans ?_)
    | (with_reducible refine (still_foldl_fst _ (fun r x => ?_) _ _).trans ?_)
    | (with_reducible refine (still_foldl_snd2 _ (fun r x => ?_) _ _).trans ?_)
    | (simp only [↓tapDue_still, ↓tapAdmits_still, ↓tapLost_still, ↓still_mk, ↓still_ite, ite_self, ↓still_dite,
        dite_eq_ite, ↓apply_ite Prod.snd, ↓apply_ite Prod.fst, ↓still_foldl])
    | (with_reducible refine ite_eq_of ?_ ?_)
    | split)

theorem rsCodeword_still (a0 a1 a2 a3 a4 a5) :
    (State.rsCodeword a0 a1 a2 a3 a4 a5).still = a0.still := by
  unfold State.rsCodeword
  simp only [↓rsMonitored_still, ↓tapWord_still, ↓still_mk, ↓still_ite, ite_self]

theorem rxAbort_still (a0 a1) :
    (State.rxAbort a0 a1).still = a0.still := by
  unfold State.rxAbort
  simp only [↓coordDrop_still, ↓still_mk, ↓still_ite, ite_self]

theorem seSupply_still (a0 a1 a2 a3 a4 a5) :
    (State.seSupply a0 a1 a2 a3 a4 a5).still = a0.still := by
  unfold State.seSupply
  simp only [↓seEval_still, ↓setSe_still]

theorem rxAccept_still (a0 a1 a2) :
    (State.rxAccept a0 a1 a2).still = a0.still := by
  unfold State.rxAccept
  simp only [↓setF_still, ↓seSupply_still, ↓twinSend_still, ↓still_mk, ↓still_ite, ite_self]

theorem setPeer_still (a0 a1) :
    (State.setPeer a0 a1).still = a0.still := by
  unfold State.setPeer
  repeat' (first
    | (simp only [↓setReg_still, ↓still_mk, ↓still_ite, ite_self, ↓still_dite, dite_eq_ite, ↓apply_ite Prod.snd,
        ↓apply_ite Prod.fst, ↓still_foldl]; done)
    | (with_reducible refine (still_foldl _ (fun s x => ?_) _ _).trans ?_)
    | (with_reducible refine (still_foldl_snd _ (fun r x => ?_) _ _).trans ?_)
    | (with_reducible refine (still_foldl_fst _ (fun r x => ?_) _ _).trans ?_)
    | (with_reducible refine (still_foldl_snd2 _ (fun r x => ?_) _ _).trans ?_)
    | (simp only [↓setReg_still, ↓still_mk, ↓still_ite, ite_self, ↓still_dite, dite_eq_ite, ↓apply_ite Prod.snd,
        ↓apply_ite Prod.fst, ↓still_foldl])
    | (with_reducible refine ite_eq_of ?_ ?_)
    | split)

theorem rxAnswer_still (a0 a1 a2) :
    (State.rxAnswer a0 a1 a2).still = a0.still := by
  unfold State.rxAnswer
  simp only [↓authFail_still, ↓raise_still, ↓twinSend_still, ↓deriveKeys_still, ↓setF_still, ↓setPeer_still,
      ↓setPair_still, ↓still_mk, ↓still_ite, ite_self]

theorem rxConfirm_still (a0 a1) :
    (State.rxConfirm a0 a1).still = a0.still := by
  unfold State.rxConfirm
  simp only [↓authFail_still, ↓raise_still, ↓setPair_still, ↓setRxCnt_still, ↓still_mk, ↓still_ite, ite_self]

theorem rxGo_still (a0 a1) :
    (State.rxGo a0 a1).still = a0.still := by
  unfold State.rxGo
  simp only [↓setF_still, ↓still_mk, ↓still_ite, ite_self]

theorem twinAnswered_still (a0 a1) :
    (State.twinAnswered a0 a1).still = a0.still := by
  unfold State.twinAnswered
  simp only [↓deriveKeys_still, ↓twinPlain_still, ↓twinForget_still, ↓setPeer_still, ↓setF_still, ↓setPair_still]

theorem rxHail_still (a0 a1 a2) :
    (State.rxHail a0 a1 a2).still = a0.still := by
  unfold State.rxHail
  repeat' (first
    | (simp only [↓authFail_still, ↓twinAnswered_still, ↓still_mk, ↓still_ite, ite_self, ↓still_dite, dite_eq_ite,
        ↓apply_ite Prod.snd, ↓apply_ite Prod.fst, ↓still_foldl]; done)
    | (with_reducible refine (still_foldl _ (fun s x => ?_) _ _).trans ?_)
    | (with_reducible refine (still_foldl_snd _ (fun r x => ?_) _ _).trans ?_)
    | (with_reducible refine (still_foldl_fst _ (fun r x => ?_) _ _).trans ?_)
    | (with_reducible refine (still_foldl_snd2 _ (fun r x => ?_) _ _).trans ?_)
    | (simp only [↓authFail_still, ↓twinAnswered_still, ↓still_mk, ↓still_ite, ite_self, ↓still_dite, dite_eq_ite,
        ↓apply_ite Prod.snd, ↓apply_ite Prod.fst, ↓still_foldl])
    | (with_reducible refine ite_eq_of ?_ ?_)
    | split)

theorem rxHealth_still (a0 a1) :
    (State.rxHealth a0 a1).still = a0.still := by
  unfold State.rxHealth
  simp only [↓raise_still, ↓modTwin_still]

theorem rxHealthReq_still (a0) :
    (State.rxHealthReq a0).still = a0.still := by
  unfold State.rxHealthReq
  simp only [↓twinSend_still]

theorem rxHeartbeat_still (a0 a1 a2 a3 a4) :
    (State.rxHeartbeat a0 a1 a2 a3 a4).still = a0.still := by
  unfold State.rxHeartbeat
  repeat' (first
    | (simp only [↓setReg_still, ↓raise_still, ↓modTwin_still, ↓coordEnd_still, ↓still_mk, ↓still_ite, ite_self,
        ↓still_dite, dite_eq_ite, ↓apply_ite Prod.snd, ↓apply_ite Prod.fst, ↓still_foldl]; done)
    | (with_reducible refine (still_foldl _ (fun s x => ?_) _ _).trans ?_)
    | (with_reducible refine (still_foldl_snd _ (fun r x => ?_) _ _).trans ?_)
    | (with_reducible refine (still_foldl_fst _ (fun r x => ?_) _ _).trans ?_)
    | (with_reducible refine (still_foldl_snd2 _ (fun r x => ?_) _ _).trans ?_)
    | (simp only [↓setReg_still, ↓raise_still, ↓modTwin_still, ↓coordEnd_still, ↓still_mk, ↓still_ite, ite_self,
        ↓still_dite, dite_eq_ite, ↓apply_ite Prod.snd, ↓apply_ite Prod.fst, ↓still_foldl])
    | (with_reducible refine ite_eq_of ?_ ?_)
    | split)

theorem rxIdleClear_still (a0 a1) :
    (State.rxIdleClear a0 a1).still = a0.still := by
  unfold State.rxIdleClear
  simp only [↓setF_still]

theorem rxIdleSet_still (a0 a1) :
    (State.rxIdleSet a0 a1).still = a0.still := by
  unfold State.rxIdleSet
  simp only [↓setF_still, ↓still_mk, ↓still_ite, ite_self]

theorem rxPos_still (a0 a1) :
    (State.rxPos a0 a1).still = a0.still := by
  unfold State.rxPos
  repeat' (first
    | (simp only [↓rangeRun_still, ↓posFail_still, ↓modTwin_still, ↓twinSend_still, ↓still_mk, ↓still_ite, ite_self,
        ↓still_dite, dite_eq_ite, ↓apply_ite Prod.snd, ↓apply_ite Prod.fst, ↓still_foldl]; done)
    | (with_reducible refine (still_foldl _ (fun s x => ?_) _ _).trans ?_)
    | (with_reducible refine (still_foldl_snd _ (fun r x => ?_) _ _).trans ?_)
    | (with_reducible refine (still_foldl_fst _ (fun r x => ?_) _ _).trans ?_)
    | (with_reducible refine (still_foldl_snd2 _ (fun r x => ?_) _ _).trans ?_)
    | (simp only [↓rangeRun_still, ↓posFail_still, ↓modTwin_still, ↓twinSend_still, ↓still_mk, ↓still_ite, ite_self,
        ↓still_dite, dite_eq_ite, ↓apply_ite Prod.snd, ↓apply_ite Prod.fst, ↓still_foldl])
    | (with_reducible refine ite_eq_of ?_ ?_)
    | split)

theorem rxPosAck_still (a0 a1) :
    (State.rxPosAck a0 a1).still = a0.still := by
  unfold State.rxPosAck
  repeat' (first
    | (simp only [↓draw_still, ↓modTwin_still, ↓posFail_still, ↓setF_still, ↓raise_still, ↓still_mk, ↓still_ite,
        ite_self, ↓still_dite, dite_eq_ite, ↓apply_ite Prod.snd, ↓apply_ite Prod.fst, ↓still_foldl]; done)
    | (with_reducible refine (still_foldl _ (fun s x => ?_) _ _).trans ?_)
    | (with_reducible refine (still_foldl_snd _ (fun r x => ?_) _ _).trans ?_)
    | (with_reducible refine (still_foldl_fst _ (fun r x => ?_) _ _).trans ?_)
    | (with_reducible refine (still_foldl_snd2 _ (fun r x => ?_) _ _).trans ?_)
    | (simp only [↓draw_still, ↓modTwin_still, ↓posFail_still, ↓setF_still, ↓raise_still, ↓still_mk, ↓still_ite,
        ite_self, ↓still_dite, dite_eq_ite, ↓apply_ite Prod.snd, ↓apply_ite Prod.fst, ↓still_foldl])
    | (with_reducible refine ite_eq_of ?_ ?_)
    | split)

theorem rxPropose_still (a0 a1 a2 a3 a4 a5 a6) :
    (State.rxPropose a0 a1 a2 a3 a4 a5 a6).still = a0.still := by
  unfold State.rxPropose
  repeat' (first
    | (simp only [↓twinSend_still, ↓modTwin_still, ↓setF_still, ↓seSupply_still, ↓setSpare_still, ↓still_mk,
        ↓still_ite, ite_self, ↓still_dite, dite_eq_ite, ↓apply_ite Prod.snd, ↓apply_ite Prod.fst, ↓still_foldl]; done)
    | (with_reducible refine (still_foldl _ (fun s x => ?_) _ _).trans ?_)
    | (with_reducible refine (still_foldl_snd _ (fun r x => ?_) _ _).trans ?_)
    | (with_reducible refine (still_foldl_fst _ (fun r x => ?_) _ _).trans ?_)
    | (with_reducible refine (still_foldl_snd2 _ (fun r x => ?_) _ _).trans ?_)
    | (simp only [↓twinSend_still, ↓modTwin_still, ↓setF_still, ↓seSupply_still, ↓setSpare_still, ↓still_mk,
        ↓still_ite, ite_self, ↓still_dite, dite_eq_ite, ↓apply_ite Prod.snd, ↓apply_ite Prod.fst, ↓still_foldl])
    | (with_reducible refine ite_eq_of ?_ ?_)
    | split)

theorem rxRange_still (a0) :
    (State.rxRange a0).still = a0.still := by
  unfold State.rxRange
  simp only [↓twinSend_still]

theorem rxRangeEcho_still (a0 a1 a2 a3 a4) :
    (State.rxRangeEcho a0 a1 a2 a3 a4).still = a0.still := by
  unfold State.rxRangeEcho
  simp only [↓draw_still, ↓setF_still, ↓raise_still, ↓posAll_still, ↓still_mk, ↓still_ite, ite_self]

theorem rxReject_still (a0 a1 a2) :
    (State.rxReject a0 a1 a2).still = a0.still := by
  unfold State.rxReject
  simp only [↓coordDrop_still, ↓still_mk, ↓still_ite, ite_self]

theorem rxRelease_still (a0) :
    (State.rxRelease a0).still = a0.still := by
  unfold State.rxRelease
  simp only [↓twinReleased_still, ↓twinSend_still, ↓still_mk, ↓still_ite, ite_self]

theorem rxReleaseAck_still (a0) :
    (State.rxReleaseAck a0).still = a0.still := by
  unfold State.rxReleaseAck
  simp only [↓twinReleased_still, ↓still_mk, ↓still_ite, ite_self]

theorem rxSpareReq_still (a0 a1 a2) :
    (State.rxSpareReq a0 a1 a2).still = a0.still := by
  unfold State.rxSpareReq
  repeat' (first
    | (simp only [↓twinSend_still, ↓returnStart_still, ↓spareTrainOn_still, ↓mirrorOn_still, ↓setSpare_still,
        ↓spareNew_still, ↓spareWhy_still, ↓still_mk, ↓still_ite, ite_self, ↓still_dite, dite_eq_ite, ↓apply_ite
        Prod.snd, ↓apply_ite Prod.fst, ↓still_foldl]; done)
    | (with_reducible refine (still_foldl _ (fun s x => ?_) _ _).trans ?_)
    | (with_reducible refine (still_foldl_snd _ (fun r x => ?_) _ _).trans ?_)
    | (with_reducible refine (still_foldl_fst _ (fun r x => ?_) _ _).trans ?_)
    | (with_reducible refine (still_foldl_snd2 _ (fun r x => ?_) _ _).trans ?_)
    | (simp only [↓twinSend_still, ↓returnStart_still, ↓spareTrainOn_still, ↓mirrorOn_still, ↓setSpare_still,
        ↓spareNew_still, ↓spareWhy_still, ↓still_mk, ↓still_ite, ite_self, ↓still_dite, dite_eq_ite, ↓apply_ite
        Prod.snd, ↓apply_ite Prod.fst, ↓still_foldl])
    | (with_reducible refine ite_eq_of ?_ ?_)
    | split)

theorem rxSpareRsp_still (a0 a1) :
    (State.rxSpareRsp a0 a1).still = a0.still := by
  unfold State.rxSpareRsp
  simp only [↓spareTrainOn_still, ↓setSpare_still, ↓setF_still, ↓spareIdle_still, ↓still_mk, ↓still_ite, ite_self]

theorem rxSpareStatus_still (a0 a1) :
    (State.rxSpareStatus a0 a1).still = a0.still := by
  unfold State.rxSpareStatus
  split <;> simp only [↓spareGo_still, ↓setF_still, ↓setSpare_still, ↓modTwin_still, ↓mirrorOff_still, ↓still_mk,
      ↓still_ite, ite_self]

theorem schedWake_still (a0) :
    (State.schedWake a0).still = a0.still := by
  unfold State.schedWake
  simp only [↓wakeUp_still, ↓still_mk, ↓still_ite, ite_self]

theorem scrubPage_still (a0 a1) :
    (State.scrubPage a0 a1).still = a0.still := by
  unfold State.scrubPage
  simp only [↓perf_still, ↓memCount_still, ↓pageRepair_still, ↓still_mk, ↓still_ite, ite_self]

theorem scrubReport_still (a0 a1 a2 a3) :
    (State.scrubReport a0 a1 a2 a3).still = a0.still := by
  unfold State.scrubReport
  simp only [↓setSram_still, ↓setF_still, ↓still_mk, ↓still_ite, ite_self]

theorem sramWriteBack_still (a0 a1) :
    (State.sramWriteBack a0 a1).still = a0.still := by
  unfold State.sramWriteBack
  simp only [↓setSram_still]

theorem scrubWord_still (a0 a1) :
    (State.scrubWord a0 a1).still = a0.still := by
  unfold State.scrubWord
  simp only [↓sramWriteBack_still, ↓sramRead_still, ↓still_mk, ↓still_ite, ite_self]

theorem spareSwitch_still (a0) :
    (State.spareSwitch a0).still = a0.still := by
  unfold State.spareSwitch
  simp only [↓spareMoved_still, ↓twinSend_still, ↓setSpare_still, ↓setF_still, ↓modTwin_still, ↓mirrorOff_still,
      ↓still_mk, ↓still_ite, ite_self]

theorem seAct_still (a0 a1 a2) :
    (State.seAct a0 a1 a2).1.still = a0.still := by
  unfold State.seAct
  repeat' (first
    | (simp only [↓commitEntry_still, ↓ptsuStamp_still, ↓spareSwitch_still, ↓hkFire_still, ↓measStart_still,
        ↓hdacStrobe_still, ↓fogSlot_still, ↓pwrRequest_still, ↓logSnap_still, ↓stepRefuse_still, ↓stepGo_still,
        ↓still_mk, ↓still_ite, ite_self, ↓still_dite, dite_eq_ite, ↓apply_ite Prod.snd, ↓apply_ite Prod.fst,
        ↓still_foldl]; done)
    | (with_reducible refine (still_foldl _ (fun s x => ?_) _ _).trans ?_)
    | (with_reducible refine (still_foldl_snd _ (fun r x => ?_) _ _).trans ?_)
    | (with_reducible refine (still_foldl_fst _ (fun r x => ?_) _ _).trans ?_)
    | (with_reducible refine (still_foldl_snd2 _ (fun r x => ?_) _ _).trans ?_)
    | (simp only [↓commitEntry_still, ↓ptsuStamp_still, ↓spareSwitch_still, ↓hkFire_still, ↓measStart_still,
        ↓hdacStrobe_still, ↓fogSlot_still, ↓pwrRequest_still, ↓logSnap_still, ↓stepRefuse_still, ↓stepGo_still,
        ↓still_mk, ↓still_ite, ite_self, ↓still_dite, dite_eq_ite, ↓apply_ite Prod.snd, ↓apply_ite Prod.fst,
        ↓still_foldl])
    | (with_reducible refine ite_eq_of ?_ ?_)
    | split)

theorem seFire_still (a0 a1 a2) :
    (State.seFire a0 a1 a2).still = a0.still := by
  unfold State.seFire
  simp only [↓seAct_still, ↓goldFire_still, ↓perf_still, ↓seRecord_still, ↓coordFired_still, ↓seAdvance_still,
      ↓still_mk, ↓still_ite, ite_self]

theorem seCycle_still (a0 a1) :
    (State.seCycle a0 a1).still = a0.still := by
  unfold State.seCycle
  repeat' (first
    | (simp only [↓setSe_still, ↓seFire_still, ↓still_mk, ↓still_ite, ite_self, ↓still_dite, dite_eq_ite, ↓apply_ite
        Prod.snd, ↓apply_ite Prod.fst, ↓still_foldl]; done)
    | (with_reducible refine (still_foldl _ (fun s x => ?_) _ _).trans ?_)
    | (with_reducible refine (still_foldl_snd _ (fun r x => ?_) _ _).trans ?_)
    | (with_reducible refine (still_foldl_fst _ (fun r x => ?_) _ _).trans ?_)
    | (with_reducible refine (still_foldl_snd2 _ (fun r x => ?_) _ _).trans ?_)
    | (simp only [↓setSe_still, ↓seFire_still, ↓still_mk, ↓still_ite, ite_self, ↓still_dite, dite_eq_ite, ↓apply_ite
        Prod.snd, ↓apply_ite Prod.fst, ↓still_foldl])
    | (with_reducible refine ite_eq_of ?_ ?_)
    | split)

theorem sendEdges_still (a0 a1) :
    (State.sendEdges a0 a1).still = a1.still := by
  unfold State.sendEdges
  repeat' (first
    | (simp only [↓sendVector_still, ↓still_mk, ↓still_ite, ite_self, ↓still_dite, dite_eq_ite, ↓apply_ite Prod.snd,
        ↓apply_ite Prod.fst, ↓still_foldl]; done)
    | (with_reducible refine (still_foldl _ (fun s x => ?_) _ _).trans ?_)
    | (with_reducible refine (still_foldl_snd _ (fun r x => ?_) _ _).trans ?_)
    | (with_reducible refine (still_foldl_fst _ (fun r x => ?_) _ _).trans ?_)
    | (with_reducible refine (still_foldl_snd2 _ (fun r x => ?_) _ _).trans ?_)
    | (simp only [↓sendVector_still, ↓still_mk, ↓still_ite, ite_self, ↓still_dite, dite_eq_ite, ↓apply_ite Prod.snd,
        ↓apply_ite Prod.fst, ↓still_foldl])
    | (with_reducible refine ite_eq_of ?_ ?_)
    | split)

theorem sent_still (a0 a1) :
    (State.sent a0 a1).still = a1.still := by
  unfold State.sent
  simp only [↓sendEdges_still]

theorem setAonCnt_still (a0 a1) :
    (State.setAonCnt a0 a1).still = a0.still := by
  unfold State.setAonCnt
  simp only [↓setReg_still]

theorem setHostTaps_still (a0 a1 a2) :
    (State.setHostTaps a0 a1 a2).still = a0.still := by
  unfold State.setHostTaps
  simp only [↓setF_still, ↓setReg_still]

theorem sigFall_still (a0 a1) :
    (State.sigFall a0 a1).still = a0.still := by
  unfold State.sigFall
  simp only [↓raise_still, ↓laneEvent_still, ↓sigChange_still, ↓setF_still, ↓eyeAbort_still, ↓modLane_still,
      ↓cdrLost_still, ↓still_mk, ↓still_ite, ite_self]

theorem sigRise_still (a0 a1) :
    (State.sigRise a0 a1).still = a0.still := by
  unfold State.sigRise
  simp only [↓injRun_still, ↓bgStart_still, ↓sigChange_still, ↓setF_still, ↓still_mk, ↓still_ite, ite_self]

theorem slicesReady_still (a0 a1) :
    (State.slicesReady a0 a1).still = a0.still := by
  unfold State.slicesReady
  split <;> simp only [↓setF_still, ↓still_mk, ↓still_ite, ite_self]

theorem slip_still (a0 a1) :
    (State.slip a0 a1).still = a0.still := by
  unfold State.slip
  simp only [↓flag_still, ↓portAdd_still, ↓still_mk, ↓still_ite, ite_self]

theorem spareLimit_still (a0) :
    (State.spareLimit a0).still = a0.still := by
  unfold State.spareLimit
  simp only [↓spareIdle_still, ↓twinSend_still, ↓still_mk, ↓still_ite, ite_self]

theorem spareMatch_still (a0 a1) :
    (State.spareMatch a0 a1).still = a0.still := by
  unfold State.spareMatch
  simp only [↓setF_still, ↓spareEval_still, ↓setB_still, ↓still_mk, ↓still_ite, ite_self]

theorem spareMismatch_still (a0) :
    (State.spareMismatch a0).still = a0.still := by
  unfold State.spareMismatch
  simp only [↓setF_still, ↓setSpare_still, ↓still_mk, ↓still_ite, ite_self]

theorem sramScrub_still (a0 a1) :
    (State.sramScrub a0 a1).still = a0.still := by
  unfold State.sramScrub
  repeat' (first
    | (simp only [↓sramUpset_still, ↓scrubWord_still, ↓scrubPage_still, ↓scrubReport_still, ↓still_mk, ↓still_ite,
        ite_self, ↓still_dite, dite_eq_ite, ↓apply_ite Prod.snd, ↓apply_ite Prod.fst, ↓still_foldl]; done)
    | (with_reducible refine (still_foldl _ (fun s x => ?_) _ _).trans ?_)
    | (with_reducible refine (still_foldl_snd _ (fun r x => ?_) _ _).trans ?_)
    | (with_reducible refine (still_foldl_fst _ (fun r x => ?_) _ _).trans ?_)
    | (with_reducible refine (still_foldl_snd2 _ (fun r x => ?_) _ _).trans ?_)
    | (simp only [↓sramUpset_still, ↓scrubWord_still, ↓scrubPage_still, ↓scrubReport_still, ↓still_mk, ↓still_ite,
        ite_self, ↓still_dite, dite_eq_ite, ↓apply_ite Prod.snd, ↓apply_ite Prod.fst, ↓still_foldl])
    | (with_reducible refine ite_eq_of ?_ ?_)
    | split)

theorem stageOn_still (a0 a1) :
    (State.stageOn a0 a1).still = a0.still := by
  unfold State.stageOn
  simp only [↓loadShadows_still, ↓setF_still]

theorem stageWord_still (a0 a1 a2 a3) :
    (State.stageWord a0 a1 a2 a3).still = a0.still := by
  unfold State.stageWord
  simp only [↓parityNew_still, ↓still_mk, ↓still_ite, ite_self]

theorem stageImage_unfused (a0 a1 a2) :
    (State.stageImage a0 a1 a2).still.unfused = a0.still.unfused := by
  unfold State.stageImage
  repeat' (first
    | (simp only [↓offRecord_still, ↓stageOn_still, ↓stageWord_still, ↓setF_still, ↓writeDirect_unfused,
        ↓applyHkcal_still, ↓applySeeds_still, ↓stageCtl_still, ↓modCfgv_still, ↓unfused_mk, ↓still_mk, ↓still_ite,
        ↓unfused_ite, ite_self, ↓still_dite, dite_eq_ite, ↓apply_ite Prod.snd, ↓apply_ite Prod.fst, ↓still_foldl];
        done)
    | (with_reducible refine (still_foldl _ (fun s x => ?_) _ _).trans ?_)
    | (with_reducible refine (still_foldl_snd _ (fun r x => ?_) _ _).trans ?_)
    | (with_reducible refine (still_foldl_fst _ (fun r x => ?_) _ _).trans ?_)
    | (with_reducible refine (still_foldl_snd2 _ (fun r x => ?_) _ _).trans ?_)
    | (with_reducible refine (unfused_foldl _ (fun s x => ?_) _ _).trans ?_)
    | (with_reducible refine (unfused_foldl_snd _ (fun s x => ?_) _ _).trans ?_)
    | (simp only [↓offRecord_still, ↓stageOn_still, ↓stageWord_still, ↓setF_still, ↓writeDirect_unfused,
        ↓applyHkcal_still, ↓applySeeds_still, ↓stageCtl_still, ↓modCfgv_still, ↓unfused_mk, ↓still_mk, ↓still_ite,
        ↓unfused_ite, ite_self, ↓still_dite, dite_eq_ite, ↓apply_ite Prod.snd, ↓apply_ite Prod.fst, ↓still_foldl])
    | (with_reducible refine ite_eq_of ?_ ?_)
    | split)

theorem stageOff_still (a0 a1) :
    (State.stageOff a0 a1).still = a0.still := by
  unfold State.stageOff
  simp only [↓dropShadows_still, ↓disarm_still, ↓setF_still]

theorem stagingDone_unfused (s : State) : s.stagingDone.still.unfused = s.still.unfused := by
  unfold stagingDone
  split
  · rfl
  · split
    · rfl
    · dsimp only
      refine ite_fold ?_ (ite_fold ?_ rfl)
      · simp only [↓setPhase_still, ↓stageImage_unfused]
      · refine (rbArm_unfused _ _ _ _ (fun t => stageImage_unfused ..)).trans ?_
        rw [modCfgv_still]

theorem switchElapsed_still (a0 a1) :
    (State.switchElapsed a0 a1).still = a0.still := by
  unfold State.switchElapsed
  simp only [↓setF_still, ↓hostToTrain_still, ↓hostToUp_still, ↓still_mk, ↓still_ite, ite_self]

theorem tableLost_still (a0) :
    (State.tableLost a0).still = a0.still := by
  unfold State.tableLost
  repeat' (first
    | (simp only [↓disarm_still, ↓still_mk, ↓still_ite, ite_self, ↓still_dite, dite_eq_ite, ↓apply_ite Prod.snd,
        ↓apply_ite Prod.fst, ↓still_foldl]; done)
    | (with_reducible refine (still_foldl _ (fun s x => ?_) _ _).trans ?_)
    | (with_reducible refine (still_foldl_snd _ (fun r x => ?_) _ _).trans ?_)
    | (with_reducible refine (still_foldl_fst _ (fun r x => ?_) _ _).trans ?_)
    | (with_reducible refine (still_foldl_snd2 _ (fun r x => ?_) _ _).trans ?_)
    | (simp only [↓disarm_still, ↓still_mk, ↓still_ite, ite_self, ↓still_dite, dite_eq_ite, ↓apply_ite Prod.snd,
        ↓apply_ite Prod.fst, ↓still_foldl])
    | (with_reducible refine ite_eq_of ?_ ?_)
    | split)

theorem tableLostShow_still (a0) :
    (State.tableLostShow a0).still = a0.still := by
  unfold State.tableLostShow
  simp only [↓flag_still]

theorem tbJumped_still (a0 a1 a2) :
    (State.tbJumped a0 a1 a2).still = a0.still := by
  unfold State.tbJumped
  simp only [↓seAllPassed_still]

theorem tpoJumped_still (a0 a1 a2) :
    (State.tpoJumped a0 a1 a2).still = a0.still := by
  unfold State.tpoJumped
  repeat' (first
    | (simp only [↓flag_still, ↓tpoDrive_still, ↓still_mk, ↓still_ite, ite_self, ↓still_dite, dite_eq_ite, ↓apply_ite
        Prod.snd, ↓apply_ite Prod.fst, ↓still_foldl]; done)
    | (with_reducible refine (still_foldl _ (fun s x => ?_) _ _).trans ?_)
    | (with_reducible refine (still_foldl_snd _ (fun r x => ?_) _ _).trans ?_)
    | (with_reducible refine (still_foldl_fst _ (fun r x => ?_) _ _).trans ?_)
    | (with_reducible refine (still_foldl_snd2 _ (fun r x => ?_) _ _).trans ?_)
    | (simp only [↓flag_still, ↓tpoDrive_still, ↓still_mk, ↓still_ite, ite_self, ↓still_dite, dite_eq_ite, ↓apply_ite
        Prod.snd, ↓apply_ite Prod.fst, ↓still_foldl])
    | (with_reducible refine ite_eq_of ?_ ?_)
    | split)

theorem tbMoved_still (a0 a1 a2) :
    (State.tbMoved a0 a1 a2).still = a0.still := by
  unfold State.tbMoved
  simp only [↓tpoJumped_still, ↓tbJumped_still]

theorem timerMatch_still (a0 a1) :
    (State.timerMatch a0 a1).still = a0.still := by
  unfold State.timerMatch
  simp only [↓engWake_still, ↓modEng_still, ↓still_mk, ↓still_ite, ite_self]

theorem tokenJudge_unfused (a0 a1 a2 a3) :
    (State.tokenJudge a0 a1 a2 a3).still.unfused = a0.still.unfused := by
  unfold State.tokenJudge
  repeat' (first
    | (simp only [↓choose_still, ↓dbgResult_still, ↓fuseStart_unfused, ↓dbgGrant_still, ↓unfused_mk, ↓still_mk,
        ↓still_ite, ↓unfused_ite, ite_self, ↓still_dite, dite_eq_ite, ↓apply_ite Prod.snd, ↓apply_ite Prod.fst,
        ↓still_foldl]; done)
    | (with_reducible refine (still_foldl _ (fun s x => ?_) _ _).trans ?_)
    | (with_reducible refine (still_foldl_snd _ (fun r x => ?_) _ _).trans ?_)
    | (with_reducible refine (still_foldl_fst _ (fun r x => ?_) _ _).trans ?_)
    | (with_reducible refine (still_foldl_snd2 _ (fun r x => ?_) _ _).trans ?_)
    | (with_reducible refine (unfused_foldl _ (fun s x => ?_) _ _).trans ?_)
    | (with_reducible refine (unfused_foldl_snd _ (fun s x => ?_) _ _).trans ?_)
    | (simp only [↓choose_still, ↓dbgResult_still, ↓fuseStart_unfused, ↓dbgGrant_still, ↓unfused_mk, ↓still_mk,
        ↓still_ite, ↓unfused_ite, ite_self, ↓still_dite, dite_eq_ite, ↓apply_ite Prod.snd, ↓apply_ite Prod.fst,
        ↓still_foldl])
    | (with_reducible refine ite_eq_of ?_ ?_)
    | split)

theorem tokenDone_unfused (a0 a1) :
    (State.tokenDone a0 a1).still.unfused = a0.still.unfused := by
  unfold State.tokenDone
  split <;> simp only [↓tokenJudge_unfused, ↓setF_still, ↓unfused_mk, ↓still_mk, ↓still_ite, ↓unfused_ite, ite_self]

theorem tpoEdge_still (a0 a1) :
    (State.tpoEdge a0 a1).still = a0.still := by
  unfold State.tpoEdge
  simp only [↓flag_still, ↓tpoDrive_still, ↓still_mk, ↓still_ite, ite_self]

theorem trainFrame_still (a0 a1 a2 a3 a4 a5) :
    (State.trainFrame a0 a1 a2 a3 a4 a5).still = a0.still := by
  unfold State.trainFrame
  simp only [↓send_still, ↓countSat_still, ↓setHostTaps_still, ↓trainEval_still, ↓setB_still, ↓still_mk, ↓still_ite,
      ite_self]

theorem trainLimit_still (a0 a1) :
    (State.trainLimit a0 a1).still = a0.still := by
  unfold State.trainLimit
  simp only [↓setF_still, ↓hostToLock_still, ↓raise_still, ↓countSat_still, ↓still_mk, ↓still_ite, ite_self]

theorem twinAdrift_still (a0) :
    (State.twinAdrift a0).still = a0.still := by
  unfold State.twinAdrift
  simp only [↓twinForget_still, ↓setPair_still, ↓logRecord_still, ↓raise_still, ↓spareIdle_still, ↓still_mk,
      ↓still_ite, ite_self]

theorem twinRx_still (a0 a1 a2) (ha2 : ∀ s, (a2 s).still = s.still) :
    (State.twinRx a0 a1 a2).still = a0.still := by
  unfold State.twinRx
  simp only [↓ha2, ↓setRxCnt_still, ↓posAll_still, ↓raise_still, ↓setPair_still, ↓authFail_still, ↓still_mk,
      ↓still_ite, ite_self]

theorem twinRx_unfused (a0 a1 a2) (ha2 : ∀ s, (a2 s).still.unfused = s.still.unfused) :
    (State.twinRx a0 a1 a2).still.unfused = a0.still.unfused := by
  unfold State.twinRx
  simp only [↓ha2, ↓setRxCnt_still, ↓posAll_still, ↓raise_still, ↓setPair_still, ↓authFail_still, ↓unfused_mk,
      ↓still_mk, ↓still_ite, ↓unfused_ite, ite_self]

theorem txFollow_still (a0 a1 a2) :
    (State.txFollow a0 a1 a2).still = a0.still := by
  unfold State.txFollow
  simp only [↓setReg_still, ↓modLane_still, ↓still_mk, ↓still_ite, ite_self]

theorem ucSealed_still (a0 a1) :
    (State.ucSealed a0 a1).still = a0.still := by
  unfold State.ucSealed
  split <;> simp only [↓setSram_still, ↓setEf_still, ↓setReg_still, ↓engEvt_still, ↓modEng_still, ↓still_mk,
      ↓still_ite, ite_self]

theorem ucSwap_still (a0 a1) :
    (State.ucSwap a0 a1).still = a0.still := by
  unfold State.ucSwap
  repeat' (first
    | (simp only [↓modEng_still, ↓setRun_still, ↓setEf_still, ↓laneEvent_still, ↓engEvt_still, ↓still_mk, ↓still_ite,
        ite_self, ↓still_dite, dite_eq_ite, ↓apply_ite Prod.snd, ↓apply_ite Prod.fst, ↓still_foldl]; done)
    | (with_reducible refine (still_foldl _ (fun s x => ?_) _ _).trans ?_)
    | (with_reducible refine (still_foldl_snd _ (fun r x => ?_) _ _).trans ?_)
    | (with_reducible refine (still_foldl_fst _ (fun r x => ?_) _ _).trans ?_)
    | (with_reducible refine (still_foldl_snd2 _ (fun r x => ?_) _ _).trans ?_)
    | (simp only [↓modEng_still, ↓setRun_still, ↓setEf_still, ↓laneEvent_still, ↓engEvt_still, ↓still_mk, ↓still_ite,
        ite_self, ↓still_dite, dite_eq_ite, ↓apply_ite Prod.snd, ↓apply_ite Prod.fst, ↓still_foldl])
    | (with_reducible refine ite_eq_of ?_ ?_)
    | split)

theorem ucSwapNow_still (a0 a1) :
    (State.ucSwapNow a0 a1).still = a0.still := by
  unfold State.ucSwapNow
  simp only [↓ucSwap_still, ↓still_mk, ↓still_ite, ite_self]

theorem unlockExpiry_still (a0) :
    (State.unlockExpiry a0).still = a0.still := by
  unfold State.unlockExpiry
  simp only [↓dbgClose_still, ↓still_mk, ↓still_ite, ite_self]

theorem unmask_still (a0 a1) :
    (State.unmask a0 a1).still = a0.still := by
  unfold State.unmask
  simp only [↓msixWrite_still, ↓still_mk, ↓still_ite, ite_self]

theorem verifyingDone_still (a0 a1 a2) :
    (State.verifyingDone a0 a1 a2).still = a0.still := by
  unfold State.verifyingDone
  simp only [↓modCfgv_still, ↓setPhase_still, ↓cfgResult_still, ↓cfgFail_still, ↓rollbackMissing_still, ↓still_mk,
      ↓still_ite, ite_self]

theorem wakeAct_still (a0) :
    (State.wakeAct a0).still = a0.still := by
  unfold State.wakeAct
  simp only [↓pwrRollback_still, ↓exitBegin_still, ↓still_mk, ↓still_ite, ite_self]

theorem wakePin_still (a0 a1 a2) :
    (State.wakePin a0 a1 a2).still = a0.still := by
  unfold State.wakePin
  simp only [↓setF_still, ↓wakeUp_still, ↓still_mk, ↓still_ite, ite_self]

theorem wheelTurn_still (a0 a1 a2 a3) :
    (State.wheelTurn a0 a1 a2 a3).still = a0.still := by
  unfold State.wheelTurn
  simp only [↓setPos_still, ↓still_mk, ↓still_ite, ite_self]

theorem xtalFail_still (a0) :
    (State.xtalFail a0).still = a0.still := by
  unfold State.xtalFail
  simp only [↓flag_still, ↓setF_still, ↓still_mk, ↓still_ite, ite_self]

theorem xtalResume_still (a0) :
    (State.xtalResume a0).still = a0.still := by
  unfold State.xtalResume
  simp only [↓setF_still, ↓still_mk, ↓still_ite, ite_self]

end State
end Sys2Proof.Machine
end

