-- ==== Sys2Proof/Laws/Access.lean ====
section
/-! SUPPORT. An access that is served is what its register does; the messages of a command change nothing but PERF, the pending-bit
array and what the device has sent; and how frames compose. -/

namespace Sys2Proof.Machine
namespace State

/-! ### The request itself -/

@[simp] theorem heard_rest (s : State) (q : Requester) : (s.heard q).rest = s.rest := by
  unfold heard; split
  · exact tlp_rest s 0 1
  · rfl

theorem reg_heard (s : State) (q : Requester) {b off : Nat} (h : Blk.perf ≠ b) (ho : off < 4096) :
    (s.heard q).reg b off = s.reg b off := by
  unfold heard; split
  · exact reg_tlp s h ho 0 1
  · rfl

theorem f_heard (s : State) (q : Requester) {b : Nat} {g : Fld} (h : Blk.perf ≠ b) (ho : g.off < 4096) :
    (s.heard q).f b g = s.f b g := by unfold State.f; rw [reg_heard s q h ho]

theorem fb_heard (s : State) (q : Requester) {b : Nat} {g : Fld} (h : Blk.perf ≠ b) (ho : g.off < 4096) :
    (s.heard q).fb b g = s.fb b g := by unfold State.fb; rw [f_heard s q h ho]

theorem intStat_heard (s : State) (q : Requester) {b : Nat} (h : Blk.perf ≠ b) : (s.heard q).intStat b = s.intStat b := by
  unfold heard; split
  · exact intStat_tlp s h 0 1
  · rfl

@[simp] theorem heard_reach (s : State) (q : Requester) (b : Nat) : (s.heard q).reach b = s.reach b :=
  of_rest (reach · b) (fun _ => rfl) (heard_rest s q)

@[simp] theorem heard_dbgAdmits (s : State) (q r : Requester) (w : Bool) : (s.heard q).dbgAdmits r w = s.dbgAdmits r w := by
  unfold dbgAdmits dbgLevel; rw [f_heard s q (by decide) (by decide)]

/-- A served access is what its register does. -/
theorem accessBy_serves {s : State} {q : Requester} {b : Nat} {write : Bool} (h : s.Serves q b write) (off : Nat)
    (k : State → State) : s.accessBy q b off write k = k (s.heard q) := by
  unfold accessBy access
  simp only [heard_dbgAdmits, h.1, heard_reach, h.2, if_true]

/-! ### The messages of a command -/

@[simp] theorem sent_rest (old s : State) : (sent old s).rest = s.rest := by unfold sent; rw [sendEdges_rest, sendEdges_rest]

theorem reg_sent (old s : State) {b off : Nat} (h : Blk.perf ≠ b) (ho : off < 4096) : (sent old s).reg b off = s.reg b off := by
  unfold sent; rw [reg_sendEdges _ _ h ho, reg_sendEdges _ _ h ho]

theorem f_sent (old s : State) {b : Nat} {g : Fld} (h : Blk.perf ≠ b) (ho : g.off < 4096) : (sent old s).f b g = s.f b g := by
  unfold State.f; rw [reg_sent old s h ho]

theorem fb_sent (old s : State) {b : Nat} {g : Fld} (h : Blk.perf ≠ b) (ho : g.off < 4096) : (sent old s).fb b g = s.fb b g := by
  unfold State.fb; rw [f_sent old s h ho]

theorem intStat_sent (old s : State) {b : Nat} (h : Blk.perf ≠ b) : (sent old s).intStat b = s.intStat b := by
  unfold sent; rw [intStat_sendEdges _ _ h, intStat_sendEdges _ _ h]

/-- What a command leaves but for its messages, it leaves. -/
theorem of_sent {α : Type} (p : State → α) (hp : ∀ s, p s.rest = p s) (old s : State) : p (sent old s) = p s :=
  of_rest p hp (sent_rest old s)

theorem of_heard {α : Type} (p : State → α) (hp : ∀ s, p s.rest = p s) (s : State) (q : Requester) : p (s.heard q) = p s :=
  of_rest p hp (heard_rest s q)

/-! ### What has been sent stays sent -/

theorem out_stampEvt (s : State) (b : Nat) : (s.stampEvt b).out = s.out := by
  unfold stampEvt
  split
  · simp only [setReg_out]
  · rfl

theorem out_raise (s : State) (b i : Nat) : (s.raise b i).out = s.out := by
  unfold raise raiseMask
  split
  · rfl
  · rw [out_stampEvt, setIntStat_out]

theorem out_perf (s : State) (c k n : Nat) : (s.perf c k n).out = s.out := by
  unfold perf; split
  · rfl
  · refine foldl_keeps (fun t => t.out) _ _ (fun s i _ => ?_) s
    dsimp only
    split
    · split
      · rw [out_raise, setReg_out, setReg_out, setReg_out]
      · rw [setReg_out, setReg_out]
    · rfl

theorem mem_out_sendVector {m : OutMsg} (s : State) (v : Nat) (h : m ∈ s.out) : m ∈ (s.sendVector v).out := by
  unfold sendVector; split
  · exact h
  · split
    · exact h
    · show m ∈ (State.tlp _ 1 1).out
      unfold tlp; rw [out_perf]; exact List.mem_cons_of_mem _ h

theorem mem_out_sent {m : OutMsg} {old s : State} (h : m ∈ s.out) : m ∈ (sent old s).out := by
  have hf : ∀ (l : List Nat) (s : State), m ∈ s.out → m ∈ (l.foldl sendVector s).out := by
    intro l
    induction l with
    | nil => exact fun _ h => h
    | cons a t ih => exact fun s h => ih _ (mem_out_sendVector s a h)
  exact hf _ _ (hf _ _ h)

theorem out_heard (s : State) (q : Requester) : (s.heard q).out = s.out := by
  unfold heard tlp; split
  · exact out_perf ..
  · rfl

/-! ### Frames -/

/-- Units stay where the rest stays. -/
theorem keepsUnits_of_rest {s t : State} (h : t.rest = s.rest) : KeepsUnits s t := of_rest units (fun _ => rfl) h

theorem keepsUnits_refl (s : State) : KeepsUnits s s := rfl

theorem keepsUnits_trans {s t u : State} (h1 : KeepsUnits s t) (h2 : KeepsUnits t u) : KeepsUnits s u := h2.trans h1

theorem keepsUnits_heard (s : State) (q : Requester) : KeepsUnits s (s.heard q) := keepsUnits_of_rest (heard_rest s q)

theorem keepsUnits_sent (old s : State) : KeepsUnits s (sent old s) := keepsUnits_of_rest (sent_rest old s)

theorem keepsRegs_refl (bs : List Nat) (s : State) : KeepsRegs bs s s := ⟨fun _ _ _ _ _ => rfl, fun _ _ _ => rfl⟩

theorem keepsRegs_trans {bs : List Nat} {s t u : State} (h1 : KeepsRegs bs s t) (h2 : KeepsRegs bs t u) : KeepsRegs bs s u :=
  ⟨fun b o hb hp ho => (h2.reg b o hb hp ho).trans (h1.reg b o hb hp ho),
    fun b hb hp => (h2.ints b hb hp).trans (h1.ints b hb hp)⟩

theorem keepsRegs_heard (bs : List Nat) (s : State) (q : Requester) : KeepsRegs bs s (s.heard q) :=
  ⟨fun _ _ _ hp ho => reg_heard s q (Ne.symm hp) ho, fun _ _ hp => intStat_heard s q (Ne.symm hp)⟩

theorem keepsRegs_sent (bs : List Nat) (old s : State) : KeepsRegs bs s (sent old s) :=
  ⟨fun _ _ _ hp ho => reg_sent old s (Ne.symm hp) ho, fun _ _ hp => intStat_sent old s (Ne.symm hp)⟩

theorem keepsRegs_setReg {bs : List Nat} (s : State) {b off : Nat} (h : b ∈ bs) (ho : off < 4096) (w : Word) :
    KeepsRegs bs s (s.setReg b off w) :=
  ⟨fun b2 _ hb _ ho2 => reg_setReg_blk s (fun e => hb (by rwa [← e])) ho ho2 w, fun _ _ _ => rfl⟩

theorem keepsRegs_setF {bs : List Nat} (s : State) {b : Nat} {g : Fld} (h : b ∈ bs) (ho : g.off < 4096) (v : Nat) :
    KeepsRegs bs s (s.setF b g v) := keepsRegs_setReg s h ho _

theorem keepsRegs_setB {bs : List Nat} (s : State) {b : Nat} {g : Fld} (h : b ∈ bs) (ho : g.off < 4096) (v : Bool) :
    KeepsRegs bs s (s.setB b g v) := keepsRegs_setReg s h ho _

theorem keepsRegs_raiseMask {bs : List Nat} (s : State) {b : Nat} (h : b ∈ bs) (m : Word) :
    KeepsRegs bs s (s.raiseMask b m) :=
  ⟨fun _ _ hb _ ho => reg_raiseMask_blk s (fun e => hb (by rwa [← e])) ho m, fun _ hb _ => intStat_raiseMask_ne s (fun e => hb (by rwa [← e])) m⟩

theorem keepsRegs_raise {bs : List Nat} (s : State) {b : Nat} (h : b ∈ bs) (i : Nat) : KeepsRegs bs s (s.raise b i) :=
  keepsRegs_raiseMask s h _

theorem keepsRegs_flag {bs : List Nat} (s : State) {b : Nat} {g : Fld} (h : b ∈ bs) (ho : g.off < 4096) (i : Nat) :
    KeepsRegs bs s (s.flag b g i) := keepsRegs_trans (keepsRegs_setF s h ho 1) (keepsRegs_raise _ h i)

theorem keepsRegs_ite {bs : List Nat} {c : Prop} [Decidable c] {s a b : State} (ha : KeepsRegs bs s a) (hb : KeepsRegs bs s b) :
    KeepsRegs bs s (if c then a else b) := by split <;> assumption

theorem keepsRegs_of_eq {bs : List Nat} {s t : State} (h1 : t.regs = s.regs) (h2 : t.ints = s.ints) : KeepsRegs bs s t :=
  ⟨fun _ _ _ _ _ => by unfold State.reg; rw [h1], fun _ _ _ => by unfold State.intStat; rw [h2]⟩

/-- A command completes when its operation has the wanted property once its messages are sent. -/
theorem gives_of {c : Instr} {s u : State} {p : State → Prop} (h : exec c s = finish s u) (hp : p (sent s u)) : Gives c s p :=
  ⟨_, h, hp⟩

end State
end Sys2Proof.Machine
end

