-- ==== Sys2Proof/Laws/Core.lean ====
section
/-! SUPPORT. The operations that move the pins, the domains or the clocks leave the queue of waiting commands, the fuses and
their marks alone, as every other operation does (Laws/Still.lean). -/

namespace Sys2Proof.Machine
namespace State

/-- The queue of waiting commands, the fuses and their marks: what even the operations that move the pins, the domains and the
clocks leave alone. -/
def core (s : State) : State :=
  { ({} : State) with
    pending := s.pending, fuse := s.fuse, fuseFloorHk := s.fuseFloorHk, fuseSub := s.fuseSub, fuseSeg := s.fuseSeg }

/-- A record update that leaves the core alone. -/
theorem core_mk (A : State) (x1 x2 x3 x4 x5 x6 x7 x8 x9 x10 x11 x12 x13 x14 x15 x16 x17 x18 x19 x20 x21 x22 x26 x27 x28 x29 x30 x31 x32 x33 x34 x35 x36 x37 x38 x39 x40 x41 x42 x43 x44 x45 x46 x47 x48 x49 x50 x51 x52 x53 x55 x56 x57 x58 x59 x60 x61 x62 x63) :
    (still (State.mk (A.pending) x1 x2 x3 x4 x5 x6 x7 x8 x9 x10 x11 x12 x13 x14 x15 x16 x17 x18 x19 x20 x21 x22 (A.fuseFloorHk) (A.fuseSub) (A.fuseSeg) x26 x27 x28 x29 x30 x31 x32 x33 x34 x35 x36 x37 x38 x39 x40 x41 x42 x43 x44 x45 x46 x47 x48 x49 x50 x51 x52 x53 (A.fuse) x55 x56 x57 x58 x59 x60 x61 x62 x63)).core =
      (still A).core := by
  simp only [still, core]

theorem core_unfused_mk (A : State) (x1 x2 x3 x4 x5 x6 x7 x8 x9 x10 x11 x12 x13 x14 x15 x16 x17 x18 x19 x20 x21 x22 x26 x27 x28 x29 x30 x31 x32 x33 x34 x35 x36 x37 x38 x39 x40 x41 x42 x43 x44 x45 x46 x47 x48 x49 x50 x51 x52 x53 x54 x55 x56 x57 x58 x59 x60 x61 x62 x63) :
    (still (State.mk (A.pending) x1 x2 x3 x4 x5 x6 x7 x8 x9 x10 x11 x12 x13 x14 x15 x16 x17 x18 x19 x20 x21 x22 (A.fuseFloorHk) (A.fuseSub) (A.fuseSeg) x26 x27 x28 x29 x30 x31 x32 x33 x34 x35 x36 x37 x38 x39 x40 x41 x42 x43 x44 x45 x46 x47 x48 x49 x50 x51 x52 x53 x54 x55 x56 x57 x58 x59 x60 x61 x62 x63)).core.unfused =
      (still A).core.unfused := by
  simp only [still, core, unfused]

/-- An operation that leaves all but the fuses' contents alone leaves the rest of the core alone. -/
theorem core_of_unfused {s t : State} (h : s.still.unfused = t.still.unfused) :
    s.still.core.unfused = t.still.core.unfused :=
  of_unfused (fun s => s.still.core.unfused) (fun _ => rfl) h

theorem core_ite (c : Prop) [Decidable c] (a b : State) : core (if c then a else b) = if c then core a else core b :=
  apply_ite core c a b

theorem core_foldl {α : Type} (g : State → α → State) (h : ∀ s x, (g s x).still.core = s.still.core) (l : List α)
    (s : State) : (l.foldl g s).still.core = s.still.core :=
  foldl_keeps (fun s => s.still.core) g l (fun s x _ => h s x) s

theorem core_unfused_foldl {α : Type} (g : State → α → State)
    (h : ∀ s x, (g s x).still.core.unfused = s.still.core.unfused) (l : List α)
    (s : State) : (l.foldl g s).still.core.unfused = s.still.core.unfused :=
  foldl_keeps (fun s => s.still.core.unfused) g l (fun s x _ => h s x) s

theorem setTb_core (a0 a1 a2) :
    (State.setTb a0 a1 a2).still.core = a0.still.core := by
  unfold State.setTb
  simp only [↓core_mk, ↓still_mk, ↓still_ite, ↓core_ite, ite_self]

theorem stepApply_core (a0 a1) :
    (State.stepApply a0 a1).still.core = a0.still.core := by
  unfold State.stepApply
  repeat' (first
    | (simp only [↓stepCancel_still, ↓stepRefuse_still, ↓setF_still, ↓setTb_core, ↓setReg_still, ↓tbMoved_still,
        ↓raise_still, ↓core_mk, ↓still_mk, ↓still_ite, ↓core_ite, ite_self, ↓apply_ite Prod.snd, ↓apply_ite Prod.fst,
        ↓still_foldl, ↓core_foldl]; done)
    | (with_reducible refine (core_foldl _ (fun s x => ?_) _ _).trans ?_)
    | (simp only [↓stepCancel_still, ↓stepRefuse_still, ↓setF_still, ↓setTb_core, ↓setReg_still, ↓tbMoved_still,
        ↓raise_still, ↓core_mk, ↓still_mk, ↓still_ite, ↓core_ite, ite_self, ↓apply_ite Prod.snd, ↓apply_ite Prod.fst,
        ↓still_foldl, ↓core_foldl])
    | (with_reducible refine ite_eq_of ?_ ?_)
    | split)

theorem stepTick_core (a0 a1) :
    (State.stepTick a0 a1).still.core = a0.still.core := by
  unfold State.stepTick
  repeat' (first
    | (simp only [↓stepApply_core, ↓core_mk, ↓still_mk, ↓still_ite, ↓core_ite, ite_self, ↓apply_ite Prod.snd,
        ↓apply_ite Prod.fst, ↓still_foldl, ↓core_foldl]; done)
    | (with_reducible refine (core_foldl _ (fun s x => ?_) _ _).trans ?_)
    | (simp only [↓stepApply_core, ↓core_mk, ↓still_mk, ↓still_ite, ↓core_ite, ite_self, ↓apply_ite Prod.snd,
        ↓apply_ite Prod.fst, ↓still_foldl, ↓core_foldl])
    | (with_reducible refine ite_eq_of ?_ ?_)
    | split)

theorem tbAdvance_core (a0 a1) :
    (State.tbAdvance a0 a1).still.core = a0.still.core := by
  unfold State.tbAdvance
  simp only [↓stepTick_core, ↓setTb_core, ↓core_mk, ↓still_mk, ↓still_ite, ↓core_ite, ite_self]

theorem aonEdge_core_unfused (a0) :
    (State.aonEdge a0).still.core.unfused = a0.still.core.unfused := by
  unfold State.aonEdge
  repeat' (first
    | (simp only [↓setAonCnt_still, ↓tbAdvance_core, ↓txFollow_still, ↓hostFollow_still, ↓wheelTurn_still,
        ↓engPass_still, ↓setPrim_still, ↓hdacTick_still, ↓modCfgv_still, ↓core_of_unfused (cfgvEval_unfused _),
        ↓perfPass_still, ↓core_mk, ↓core_unfused_mk, ↓unfused_ite, ↓still_mk, ↓still_ite, ↓core_ite, ite_self,
        ↓apply_ite Prod.snd, ↓apply_ite Prod.fst, ↓still_foldl, ↓core_foldl, ↓core_unfused_foldl]; done)
    | (with_reducible refine (core_foldl _ (fun s x => ?_) _ _).trans ?_)
    | (with_reducible refine (core_unfused_foldl _ (fun s x => ?_) _ _).trans ?_)
    | (simp only [↓setAonCnt_still, ↓tbAdvance_core, ↓txFollow_still, ↓hostFollow_still, ↓wheelTurn_still,
        ↓engPass_still, ↓setPrim_still, ↓hdacTick_still, ↓modCfgv_still, ↓core_of_unfused (cfgvEval_unfused _),
        ↓perfPass_still, ↓core_mk, ↓core_unfused_mk, ↓unfused_ite, ↓still_mk, ↓still_ite, ↓core_ite, ite_self,
        ↓apply_ite Prod.snd, ↓apply_ite Prod.fst, ↓still_foldl, ↓core_foldl, ↓core_unfused_foldl])
    | (with_reducible refine ite_eq_of ?_ ?_)
    | split)

theorem pcieDown_core (a0 a1) :
    (State.pcieDown a0 a1).still.core = a0.still.core := by
  unfold State.pcieDown
  simp only [↓setF_still, ↓core_mk, ↓still_mk, ↓still_ite, ↓core_ite, ite_self]

theorem timeDown_core (a0 a1) :
    (State.timeDown a0 a1).still.core = a0.still.core := by
  unfold State.timeDown
  repeat' (first
    | (simp only [↓setF_still, ↓tableLost_still, ↓core_mk, ↓still_mk, ↓still_ite, ↓core_ite, ite_self, ↓apply_ite
        Prod.snd, ↓apply_ite Prod.fst, ↓still_foldl, ↓core_foldl]; done)
    | (with_reducible refine (core_foldl _ (fun s x => ?_) _ _).trans ?_)
    | (simp only [↓setF_still, ↓tableLost_still, ↓core_mk, ↓still_mk, ↓still_ite, ↓core_ite, ite_self, ↓apply_ite
        Prod.snd, ↓apply_ite Prod.fst, ↓still_foldl, ↓core_foldl])
    | (with_reducible refine ite_eq_of ?_ ?_)
    | split)

theorem unitsDown_core (a0 a1 a2) :
    (State.unitsDown a0 a1 a2).still.core = a0.still.core := by
  unfold State.unitsDown
  repeat' (first
    | (simp only [↓pcieDown_core, ↓fogDown_still, ↓lineDown_still, ↓hostDown_still, ↓timeDown_core, ↓core_mk,
        ↓still_mk, ↓still_ite, ↓core_ite, ite_self, ↓apply_ite Prod.snd, ↓apply_ite Prod.fst, ↓still_foldl,
        ↓core_foldl]; done)
    | (with_reducible refine (core_foldl _ (fun s x => ?_) _ _).trans ?_)
    | (simp only [↓pcieDown_core, ↓fogDown_still, ↓lineDown_still, ↓hostDown_still, ↓timeDown_core, ↓core_mk,
        ↓still_mk, ↓still_ite, ↓core_ite, ite_self, ↓apply_ite Prod.snd, ↓apply_ite Prod.fst, ↓still_foldl,
        ↓core_foldl])
    | (with_reducible refine ite_eq_of ?_ ?_)
    | split)

theorem domainsDown_core (a0 a1 a2) :
    (State.domainsDown a0 a1 a2).still.core = a0.still.core := by
  unfold State.domainsDown
  simp only [↓bistParents_still, ↓pagesDown_still, ↓coresDown_still, ↓unitsDown_core, ↓setF_still, ↓portsEval_still,
      ↓squelchAll_still, ↓analogDown_still, ↓core_mk, ↓still_mk, ↓still_ite, ↓core_ite, ite_self]

theorem bistHold_core (a0) :
    (State.bistHold a0).still.core = a0.still.core := by
  unfold State.bistHold
  simp only [↓setF_still, ↓domainsDown_core, ↓core_mk, ↓still_mk, ↓still_ite, ↓core_ite, ite_self]

theorem domainUp_core (a0 a1 a2) :
    (State.domainUp a0 a1 a2).still.core = a0.still.core := by
  unfold State.domainUp
  simp only [↓squelchAll_still, ↓hkPowerUp_still, ↓fogUp_still, ↓tableLostShow_still, ↓modPwr_still, ↓ddrResume_still,
      ↓portsEval_still, ↓core_mk, ↓still_mk, ↓still_ite, ↓core_ite, ite_self]

theorem bootDomain_core_unfused (a0 a1) :
    (State.bootDomain a0 a1).still.core.unfused = a0.still.core.unfused := by
  unfold State.bootDomain
  simp only [↓core_of_unfused (domRepairs_unfused _ _), ↓domainUp_core, ↓hkRecords_still, ↓core_mk, ↓core_unfused_mk,
      ↓unfused_ite, ↓still_mk, ↓still_ite, ↓core_ite, ite_self]

theorem bootDomains_core_unfused (a0 a1) :
    (State.bootDomains a0 a1).still.core.unfused = a0.still.core.unfused := by
  unfold State.bootDomains
  repeat' (first
    | (simp only [↓bootDomain_core_unfused, ↓core_mk, ↓core_unfused_mk, ↓unfused_ite, ↓still_mk, ↓still_ite,
        ↓core_ite, ite_self, ↓apply_ite Prod.snd, ↓apply_ite Prod.fst, ↓still_foldl, ↓core_foldl,
        ↓core_unfused_foldl]; done)
    | (with_reducible refine (core_foldl _ (fun s x => ?_) _ _).trans ?_)
    | (with_reducible refine (core_unfused_foldl _ (fun s x => ?_) _ _).trans ?_)
    | (simp only [↓bootDomain_core_unfused, ↓core_mk, ↓core_unfused_mk, ↓unfused_ite, ↓still_mk, ↓still_ite,
        ↓core_ite, ite_self, ↓apply_ite Prod.snd, ↓apply_ite Prod.fst, ↓still_foldl, ↓core_foldl,
        ↓core_unfused_foldl])
    | (with_reducible refine ite_eq_of ?_ ?_)
    | split)

theorem bootApply_core_unfused (a0) :
    (State.bootApply a0).still.core.unfused = a0.still.core.unfused := by
  unfold State.bootApply
  repeat' (first
    | (simp only [↓core_of_unfused (domRepairs_unfused _ _), ↓core_of_unfused (keeperWrite_unfused _ _ _ _),
        ↓bootDomains_core_unfused, ↓setReg_still, ↓core_of_unfused (bootRecord_unfused _ _), ↓drainStart_still,
        ↓core_mk, ↓core_unfused_mk, ↓unfused_ite, ↓still_mk, ↓still_ite, ↓core_ite, ite_self, ↓apply_ite Prod.snd,
        ↓apply_ite Prod.fst, ↓still_foldl, ↓core_foldl, ↓core_unfused_foldl]; done)
    | (with_reducible refine (core_foldl _ (fun s x => ?_) _ _).trans ?_)
    | (with_reducible refine (core_unfused_foldl _ (fun s x => ?_) _ _).trans ?_)
    | (simp only [↓core_of_unfused (domRepairs_unfused _ _), ↓core_of_unfused (keeperWrite_unfused _ _ _ _),
        ↓bootDomains_core_unfused, ↓setReg_still, ↓core_of_unfused (bootRecord_unfused _ _), ↓drainStart_still,
        ↓core_mk, ↓core_unfused_mk, ↓unfused_ite, ↓still_mk, ↓still_ite, ↓core_ite, ite_self, ↓apply_ite Prod.snd,
        ↓apply_ite Prod.fst, ↓still_foldl, ↓core_foldl, ↓core_unfused_foldl])
    | (with_reducible refine ite_eq_of ?_ ?_)
    | split)

theorem boot_core_unfused (a0 a1 a2) :
    (State.boot a0 a1 a2).still.core.unfused = a0.still.core.unfused := by
  unfold State.boot
  simp only [↓setF_still, ↓firmwareBoot_still, ↓setReg_still, ↓bootBundle_still, ↓bootConfig_still, ↓porBist_still,
      ↓bistHold_core, ↓domainsDown_core, ↓setB_still, ↓core_of_unfused (keeperWrite_unfused _ _ _ _),
      ↓deriveKey_still, ↓pmbStart_still, ↓bootApply_core_unfused, ↓core_mk, ↓core_unfused_mk, ↓unfused_ite, ↓still_mk,
      ↓still_ite, ↓core_ite, ite_self]

theorem clrFall_core (a0) :
    (State.clrFall a0).still.core = a0.still.core := by
  unfold State.clrFall
  repeat' (first
    | (simp only [↓hdacFall_still, ↓squelchAll_still, ↓clrFallLane_still, ↓core_mk, ↓still_mk, ↓still_ite, ↓core_ite,
        ite_self, ↓apply_ite Prod.snd, ↓apply_ite Prod.fst, ↓still_foldl, ↓core_foldl]; done)
    | (with_reducible refine (core_foldl _ (fun s x => ?_) _ _).trans ?_)
    | (simp only [↓hdacFall_still, ↓squelchAll_still, ↓clrFallLane_still, ↓core_mk, ↓still_mk, ↓still_ite, ↓core_ite,
        ite_self, ↓apply_ite Prod.snd, ↓apply_ite Prod.fst, ↓still_foldl, ↓core_foldl])
    | (with_reducible refine ite_eq_of ?_ ?_)
    | split)

theorem clrRise_core (a0) :
    (State.clrRise a0).still.core = a0.still.core := by
  unfold State.clrRise
  simp only [↓hdacRise_still, ↓squelchAll_still, ↓core_mk, ↓still_mk, ↓still_ite, ↓core_ite, ite_self]

theorem configWrite_core (a0 a1 a2 a3) :
    (State.configWrite a0 a1 a2 a3).still.core = a0.still.core := by
  unfold State.configWrite
  simp only [↓core_mk, ↓still_mk, ↓still_ite, ↓core_ite, ite_self]

theorem timeRestore_core (a0 a1) :
    (State.timeRestore a0 a1).still.core = a0.still.core := by
  unfold State.timeRestore
  repeat' (first
    | (simp only [↓tableLostShow_still, ↓setReg_still, ↓setTb_core, ↓setF_still, ↓tbSeed_still, ↓tbMoved_still,
        ↓flag_still, ↓modPwr_still, ↓core_mk, ↓still_mk, ↓still_ite, ↓core_ite, ite_self, ↓apply_ite Prod.snd,
        ↓apply_ite Prod.fst, ↓still_foldl, ↓core_foldl]; done)
    | (with_reducible refine (core_foldl _ (fun s x => ?_) _ _).trans ?_)
    | (simp only [↓tableLostShow_still, ↓setReg_still, ↓setTb_core, ↓setF_still, ↓tbSeed_still, ↓tbMoved_still,
        ↓flag_still, ↓modPwr_still, ↓core_mk, ↓still_mk, ↓still_ite, ↓core_ite, ite_self, ↓apply_ite Prod.snd,
        ↓apply_ite Prod.fst, ↓still_foldl, ↓core_foldl])
    | (with_reducible refine ite_eq_of ?_ ?_)
    | split)

theorem darkExit_core_unfused (a0 a1) :
    (State.darkExit a0 a1).still.core.unfused = a0.still.core.unfused := by
  unfold State.darkExit
  simp only [↓boot_core_unfused, ↓timeRestore_core, ↓modPwr_still, ↓exitEnd_still, ↓core_mk, ↓core_unfused_mk,
      ↓unfused_ite, ↓still_mk, ↓still_ite, ↓core_ite, ite_self]

theorem domDone_core (a0 a1) :
    (State.domDone a0 a1).still.core = a0.still.core := by
  unfold State.domDone
  repeat' (first
    | (simp only [↓domainsDown_core, ↓domainUp_core, ↓modPwr_still, ↓pwrIdle_still, ↓raise_still, ↓core_mk, ↓still_mk,
        ↓still_ite, ↓core_ite, ite_self, ↓apply_ite Prod.snd, ↓apply_ite Prod.fst, ↓still_foldl, ↓core_foldl]; done)
    | (with_reducible refine (core_foldl _ (fun s x => ?_) _ _).trans ?_)
    | (simp only [↓domainsDown_core, ↓domainUp_core, ↓modPwr_still, ↓pwrIdle_still, ↓raise_still, ↓core_mk, ↓still_mk,
        ↓still_ite, ↓core_ite, ite_self, ↓apply_ite Prod.snd, ↓apply_ite Prod.fst, ↓still_foldl, ↓core_foldl])
    | (with_reducible refine ite_eq_of ?_ ?_)
    | split)

theorem domRequestDone_core_unfused (a0 a1) :
    (State.domRequestDone a0 a1).still.core.unfused = a0.still.core.unfused := by
  unfold State.domRequestDone
  repeat' (first
    | (simp only [↓domDone_core, ↓core_of_unfused (domRepairs_unfused _ _), ↓hkRecords_still, ↓core_mk,
        ↓core_unfused_mk, ↓unfused_ite, ↓still_mk, ↓still_ite, ↓core_ite, ite_self, ↓apply_ite Prod.snd, ↓apply_ite
        Prod.fst, ↓still_foldl, ↓core_foldl, ↓core_unfused_foldl]; done)
    | (with_reducible refine (core_foldl _ (fun s x => ?_) _ _).trans ?_)
    | (with_reducible refine (core_unfused_foldl _ (fun s x => ?_) _ _).trans ?_)
    | (simp only [↓domDone_core, ↓core_of_unfused (domRepairs_unfused _ _), ↓hkRecords_still, ↓core_mk,
        ↓core_unfused_mk, ↓unfused_ite, ↓still_mk, ↓still_ite, ↓core_ite, ite_self, ↓apply_ite Prod.snd, ↓apply_ite
        Prod.fst, ↓still_foldl, ↓core_foldl, ↓core_unfused_foldl])
    | (with_reducible refine ite_eq_of ?_ ?_)
    | split)

theorem pwrOpen_core (a0) :
    (State.pwrOpen a0).still.core = a0.still.core := by
  unfold State.pwrOpen
  simp only [↓modPwr_still, ↓domainsDown_core, ↓core_mk, ↓still_mk, ↓still_ite, ↓core_ite, ite_self]

theorem entryStep_core (a0) :
    (State.entryStep a0).still.core = a0.still.core := by
  unfold State.entryStep
  repeat' (first
    | (simp only [↓modPwr_still, ↓pwrQuiet_still, ↓pwrReached_still, ↓setF_still, ↓pwrOpen_core, ↓pwrLatch_still,
        ↓voltBegin_still, ↓core_mk, ↓still_mk, ↓still_ite, ↓core_ite, ite_self, ↓apply_ite Prod.snd, ↓apply_ite
        Prod.fst, ↓still_foldl, ↓core_foldl]; done)
    | (with_reducible refine (core_foldl _ (fun s x => ?_) _ _).trans ?_)
    | (simp only [↓modPwr_still, ↓pwrQuiet_still, ↓pwrReached_still, ↓setF_still, ↓pwrOpen_core, ↓pwrLatch_still,
        ↓voltBegin_still, ↓core_mk, ↓still_mk, ↓still_ite, ↓core_ite, ite_self, ↓apply_ite Prod.snd, ↓apply_ite
        Prod.fst, ↓still_foldl, ↓core_foldl])
    | (with_reducible refine ite_eq_of ?_ ?_)
    | split)

theorem entryNext_core (a0) :
    (State.entryNext a0).still.core = a0.still.core := by
  unfold State.entryNext
  simp only [↓wakeAct_still, ↓entryStep_core, ↓core_mk, ↓still_mk, ↓still_ite, ↓core_ite, ite_self]

theorem exitStep_core (a0 a1) :
    (State.exitStep a0 a1).still.core = a0.still.core := by
  unfold State.exitStep
  repeat' (first
    | (simp only [↓modPwr_still, ↓timeRestore_core, ↓pwrRestore_still, ↓pwrClocks_still, ↓exitEnd_still, ↓core_mk,
        ↓still_mk, ↓still_ite, ↓core_ite, ite_self, ↓apply_ite Prod.snd, ↓apply_ite Prod.fst, ↓still_foldl,
        ↓core_foldl]; done)
    | (with_reducible refine (core_foldl _ (fun s x => ?_) _ _).trans ?_)
    | (simp only [↓modPwr_still, ↓timeRestore_core, ↓pwrRestore_still, ↓pwrClocks_still, ↓exitEnd_still, ↓core_mk,
        ↓still_mk, ↓still_ite, ↓core_ite, ite_self, ↓apply_ite Prod.snd, ↓apply_ite Prod.fst, ↓still_foldl,
        ↓core_foldl])
    | (with_reducible refine ite_eq_of ?_ ?_)
    | split)

theorem exitStepDone_core_unfused (a0 a1 a2) :
    (State.exitStepDone a0 a1 a2).still.core.unfused = a0.still.core.unfused := by
  unfold State.exitStepDone
  repeat' (first
    | (simp only [↓darkExit_core_unfused, ↓exitStep_core, ↓core_of_unfused (keeperRestore_unfused _ _ _), ↓core_mk,
        ↓core_unfused_mk, ↓unfused_ite, ↓still_mk, ↓still_ite, ↓core_ite, ite_self, ↓apply_ite Prod.snd, ↓apply_ite
        Prod.fst, ↓still_foldl, ↓core_foldl, ↓core_unfused_foldl]; done)
    | (with_reducible refine (core_foldl _ (fun s x => ?_) _ _).trans ?_)
    | (with_reducible refine (core_unfused_foldl _ (fun s x => ?_) _ _).trans ?_)
    | (simp only [↓darkExit_core_unfused, ↓exitStep_core, ↓core_of_unfused (keeperRestore_unfused _ _ _), ↓core_mk,
        ↓core_unfused_mk, ↓unfused_ite, ↓still_mk, ↓still_ite, ↓core_ite, ite_self, ↓apply_ite Prod.snd, ↓apply_ite
        Prod.fst, ↓still_foldl, ↓core_foldl, ↓core_unfused_foldl])
    | (with_reducible refine ite_eq_of ?_ ?_)
    | split)

theorem modI2c_core (a0 a1) :
    (State.modI2c a0 a1).still.core = a0.still.core := by
  unfold State.modI2c
  simp only [↓core_mk, ↓still_mk, ↓still_ite, ↓core_ite, ite_self]

theorem i2cBump_core (a0 a1) :
    (State.i2cBump a0 a1).still.core = a0.still.core := by
  unfold State.i2cBump
  simp only [↓modI2c_core, ↓core_mk, ↓still_mk, ↓still_ite, ↓core_ite, ite_self]

theorem i2cDone_core_unfused (a0) :
    (State.i2cDone a0).still.core.unfused = a0.still.core.unfused := by
  unfold State.i2cDone
  simp only [↓busRead_still, ↓modI2c_core, ↓core_of_unfused (busWrite_unfused _ _ _ _ _), ↓i2cBump_core, ↓core_mk,
      ↓core_unfused_mk, ↓unfused_ite, ↓still_mk, ↓still_ite, ↓core_ite, ite_self]

theorem i2cRead_core (a0 a1) :
    (State.i2cRead a0 a1).still.core = a0.still.core := by
  unfold State.i2cRead
  simp only [↓send_still, ↓modI2c_core, ↓core_mk, ↓still_mk, ↓still_ite, ↓core_ite, ite_self]

theorem i2cStart_core (a0 a1) :
    (State.i2cStart a0 a1).still.core = a0.still.core := by
  unfold State.i2cStart
  simp only [↓modI2c_core, ↓i2cBump_core, ↓core_mk, ↓still_mk, ↓still_ite, ↓core_ite, ite_self]

theorem i2cByte_core (r : State × Option Nat) (x : Byte) : (i2cByte r x).1.still.core = r.1.still.core := by
  unfold i2cByte; exact modI2c_core ..

theorem i2cWrite_core (s : State) (l : List Byte) : (s.i2cWrite l).still.core = s.still.core := by
  unfold i2cWrite
  split
  · rfl
  · dsimp only
    have h : ∀ (t : List Byte) (r : State × Option Nat), (t.foldl i2cByte r).1.still.core = r.1.still.core := fun t r =>
      foldl_fix (fun r : State × Option Nat => r.1.still.core) _ t i2cByte_core r
    split
    · exact (i2cStart_core ..).trans ((h ..).trans (modI2c_core ..))
    · exact (h ..).trans (modI2c_core ..)

theorem linkUpEvent_core (a0 a1 a2 a3 a4) :
    (State.linkUpEvent a0 a1 a2 a3 a4).still.core = a0.still.core := by
  unfold State.linkUpEvent
  repeat' (first
    | (simp only [↓setF_still, ↓setB_still, ↓pendSend_still, ↓core_mk, ↓still_mk, ↓still_ite, ↓core_ite, ite_self,
        ↓apply_ite Prod.snd, ↓apply_ite Prod.fst, ↓still_foldl, ↓core_foldl]; done)
    | (with_reducible refine (core_foldl _ (fun s x => ?_) _ _).trans ?_)
    | (simp only [↓setF_still, ↓setB_still, ↓pendSend_still, ↓core_mk, ↓still_mk, ↓still_ite, ↓core_ite, ite_self,
        ↓apply_ite Prod.snd, ↓apply_ite Prod.fst, ↓still_foldl, ↓core_foldl])
    | (with_reducible refine ite_eq_of ?_ ?_)
    | split)

theorem sweepTo_core (a0 a1 a2) :
    (State.sweepTo a0 a1 a2).still.core = a0.still.core := by
  unfold State.sweepTo
  simp only [↓setF_still, ↓core_mk, ↓still_mk, ↓still_ite, ↓core_ite, ite_self]

theorem paritySweep_core (a0 a1 a2 a3 a4) :
    (State.paritySweep a0 a1 a2 a3 a4).still.core = a0.still.core := by
  unfold State.paritySweep
  simp only [↓sweepTo_core, ↓regUpset_still, ↓parityReport_still, ↓core_mk, ↓still_mk, ↓still_ite, ↓core_ite,
      ite_self]

theorem pcieReset_core (a0) :
    (State.pcieReset a0).still.core = a0.still.core := by
  unfold State.pcieReset
  simp only [↓setF_still, ↓core_mk, ↓still_mk, ↓still_ite, ↓core_ite, ite_self]

theorem resetState_core_unfused (a0) :
    (State.resetState a0).still.core.unfused = a0.still.core.unfused := by
  unfold State.resetState
  simp only [↓draw_still, ↓setReg_still, ↓setF_still, ↓core_mk, ↓core_unfused_mk, ↓unfused_ite, ↓still_mk, ↓still_ite,
      ↓core_ite, ite_self]

theorem porstLow_core_unfused (a0) :
    (State.porstLow a0).still.core.unfused = a0.still.core.unfused := by
  unfold State.porstLow
  simp only [↓resetState_core_unfused, ↓core_mk, ↓core_unfused_mk, ↓unfused_ite, ↓still_mk, ↓still_ite, ↓core_ite,
      ite_self]

theorem powerOn_core_unfused (a0 a1) :
    (State.powerOn a0 a1).still.core.unfused = a0.still.core.unfused := by
  unfold State.powerOn
  simp only [↓boot_core_unfused, ↓resetState_core_unfused, ↓core_mk, ↓core_unfused_mk, ↓unfused_ite, ↓still_mk,
      ↓still_ite, ↓core_ite, ite_self]

theorem refLoss_core (a0 a1) :
    (State.refLoss a0 a1).still.core = a0.still.core := by
  unfold State.refLoss
  repeat' (first
    | (simp only [↓flag_still, ↓setF_still, ↓hsRefLost_still, ↓portsEval_still, ↓holdoverAll_still, ↓squelchAll_still,
        ↓core_mk, ↓still_mk, ↓still_ite, ↓core_ite, ite_self, ↓apply_ite Prod.snd, ↓apply_ite Prod.fst, ↓still_foldl,
        ↓core_foldl]; done)
    | (with_reducible refine (core_foldl _ (fun s x => ?_) _ _).trans ?_)
    | (simp only [↓flag_still, ↓setF_still, ↓hsRefLost_still, ↓portsEval_still, ↓holdoverAll_still, ↓squelchAll_still,
        ↓core_mk, ↓still_mk, ↓still_ite, ↓core_ite, ite_self, ↓apply_ite Prod.snd, ↓apply_ite Prod.fst, ↓still_foldl,
        ↓core_foldl])
    | (with_reducible refine ite_eq_of ?_ ?_)
    | split)

theorem refRelock_core (a0) :
    (State.refRelock a0).still.core = a0.still.core := by
  unfold State.refRelock
  repeat' (first
    | (simp only [↓setF_still, ↓tbSeed_still, ↓setReg_still, ↓portsEval_still, ↓squelchAll_still, ↓core_mk, ↓still_mk,
        ↓still_ite, ↓core_ite, ite_self, ↓apply_ite Prod.snd, ↓apply_ite Prod.fst, ↓still_foldl, ↓core_foldl]; done)
    | (with_reducible refine (core_foldl _ (fun s x => ?_) _ _).trans ?_)
    | (simp only [↓setF_still, ↓tbSeed_still, ↓setReg_still, ↓portsEval_still, ↓squelchAll_still, ↓core_mk, ↓still_mk,
        ↓still_ite, ↓core_ite, ite_self, ↓apply_ite Prod.snd, ↓apply_ite Prod.fst, ↓still_foldl, ↓core_foldl])
    | (with_reducible refine ite_eq_of ?_ ?_)
    | split)

theorem refReturn_core (a0 a1) :
    (State.refReturn a0 a1).still.core = a0.still.core := by
  unfold State.refReturn
  simp only [↓setF_still, ↓raise_still, ↓core_mk, ↓still_mk, ↓still_ite, ↓core_ite, ite_self]

theorem tpiEdge_core (a0 a1 a2) :
    (State.tpiEdge a0 a1 a2).still.core = a0.still.core := by
  unfold State.tpiEdge
  repeat' (first
    | (simp only [↓stepApply_core, ↓flag_still, ↓stampAt_still, ↓raise_still, ↓setF_still, ↓core_mk, ↓still_mk,
        ↓still_ite, ↓core_ite, ite_self, ↓apply_ite Prod.snd, ↓apply_ite Prod.fst, ↓still_foldl, ↓core_foldl]; done)
    | (with_reducible refine (core_foldl _ (fun s x => ?_) _ _).trans ?_)
    | (simp only [↓stepApply_core, ↓flag_still, ↓stampAt_still, ↓raise_still, ↓setF_still, ↓core_mk, ↓still_mk,
        ↓still_ite, ↓core_ite, ite_self, ↓apply_ite Prod.snd, ↓apply_ite Prod.fst, ↓still_foldl, ↓core_foldl])
    | (with_reducible refine ite_eq_of ?_ ?_)
    | split)

end State
end Sys2Proof.Machine
end

