-- ==== Sys2Proof/Laws/Fuses.lean ====
section
/-! SUPPORT. The fuses only move forward (R403, R409): one lemma per operation that may begin, end or follow a fuse transition. A
proof over commands and steps cites these, and `fwd_still` or `fwd_core` for every other operation. -/

namespace Sys2Proof.Machine

/-! ### The fuses move forward only (R403, R409) -/

namespace Fuses

theorem fwd_refl (f : Fuses) : f.Fwd f := ⟨id, fun _ => le_refl _, le_refl _⟩

theorem fwd_of_eq {f g : Fuses} (h : g = f) : f.Fwd g := h ▸ fwd_refl f

theorem fwd_trans {f g h : Fuses} (h1 : f.Fwd g) (h2 : g.Fwd h) : f.Fwd h :=
  ⟨fun hf => h2.ok (h1.ok hf), fun hf => (h1.lifecycle_le hf).trans (h2.lifecycle_le (h1.ok hf)),
    h1.arb_le.trans h2.arb_le⟩

end Fuses

namespace State

/-- An operation that leaves all but registers and unit state alone leaves the fuses as they are. -/
theorem fwd_still {s t : State} (h : t.still = s.still) : s.fuse.Fwd t.fuse :=
  Fuses.fwd_of_eq (of_still State.fuse (fun _ => rfl) h)

theorem fwd_core {s t : State} (h : t.still.core = s.still.core) : s.fuse.Fwd t.fuse :=
  Fuses.fwd_of_eq (show t.still.core.fuse = s.still.core.fuse from congrArg State.fuse h)

theorem fwd_ite {c : Prop} [Decidable c] {f : Fuses} {a b : State} (ha : f.Fwd a.fuse) (hb : f.Fwd b.fuse) :
    f.Fwd (if c then a else b).fuse := by
  split
  · exact ha
  · exact hb

theorem fwd_foldl {α : Type} (g : State → α → State) (h : ∀ (s : State) x, s.fuse.Fwd (g s x).fuse) (l : List α)
    (s : State) : s.fuse.Fwd (l.foldl g s).fuse := by
  induction l generalizing s with
  | nil => exact Fuses.fwd_refl _
  | cons a t ih => exact Fuses.fwd_trans (h s a) (ih _)

theorem fuseStart_fwd (s : State) (t : Nat) (h : s.fuse.lifecycle < t ∧ t ≤ 3) : s.fuse.Fwd (s.fuseStart t).fuse :=
  ⟨fun hf => ⟨hf.lifecycle_le, hf.arb_le, fun u hu => by
    have hu : some t = some u := hu
    cases hu
    exact h⟩, fun _ => le_refl _, le_refl _⟩

theorem lcCtl_fwd (s : State) (q : Requester) (v : Word) : s.fuse.Fwd (s.lcCtl q v).fuse := by
  unfold lcCtl
  dsimp only
  split
  · rename_i h; exact fuseStart_fwd s 1 (by omega)
  · split
    · rename_i h; exact fuseStart_fwd s 2 (by omega)
    · exact fwd_still (setF_still ..)

theorem secWrite_fwd (s : State) (q : Requester) (off : Nat) (v : Word) : s.fuse.Fwd (s.secWrite q off v).fuse := by
  unfold secWrite
  refine fwd_ite (lcCtl_fwd ..) (fwd_ite (fwd_ite ?_ (Fuses.fwd_refl _)) (fwd_still (writeReg_still ..)))
  exact fwd_still ((parityNew_still ..).trans (setReg_still ..))

theorem arbCtl_fwd (s : State) (q : Requester) (v : Word) : s.fuse.Fwd (s.arbCtl q v).fuse := by
  unfold arbCtl
  dsimp only
  split
  · rename_i h
    refine Fuses.fwd_trans ?_ (fwd_still (raise_still ..))
    have hsvn : s.f Blk.kpr KPR.FW_SVN_SVN < 64 := s.f_lt Blk.kpr KPR.FW_SVN_SVN
    exact ⟨fun hf => ⟨hf.lifecycle_le, show v.toNat % 256 ≤ 63 by omega, hf.target_forward⟩, fun _ => le_refl _,
      show s.fuse.arb ≤ v.toNat % 256 by omega⟩
  · exact fwd_still (setF_still ..)

theorem kprWrite_fwd (s : State) (q : Requester) (off : Nat) (v : Word) (x : FwImage) :
    s.fuse.Fwd (s.kprWrite q off v x).fuse := by
  unfold kprWrite
  exact fwd_ite (fwd_still (kctl_still ..)) (fwd_ite (arbCtl_fwd s q v) (fwd_still (writeReg_still ..)))

/-- A transition ends, with or without success. -/
theorem fuses_ended {f g : Fuses} (hl : g.lifecycle = f.lifecycle ∨ f.target = some g.lifecycle) (ha : g.arb = f.arb)
    (ht : g.target = none) : f.Fwd g := by
  refine ⟨fun hf => ⟨?_, ha ▸ hf.arb_le, fun u hu => ?_⟩, fun hf => ?_, ha ▸ le_refl _⟩
  · rcases hl with hl | hl
    · exact hl ▸ hf.lifecycle_le
    · exact (hf.target_forward _ hl).2
  · rw [ht] at hu; cases hu
  · rcases hl with hl | hl
    · exact hl ▸ le_refl _
    · exact (hf.target_forward _ hl).1.le

theorem lcChanged_fwd (s : State) (ok : Bool) : s.fuse.Fwd (s.lcChanged ok).fuse := by
  unfold lcChanged
  split
  · exact Fuses.fwd_refl _
  · rename_i t ht
    have h0 : ∀ u : State, u.fuse = { s.fuse with target := none } → s.fuse.Fwd u.fuse := fun u hu =>
      fuses_ended (by rw [hu]; exact .inl rfl) (by rw [hu]) (by rw [hu])
    have h1 : ∀ u : State, u.fuse = s.fusesAfter t → s.fuse.Fwd u.fuse := fun u hu =>
      fuses_ended (by rw [hu]; exact .inr ht) (by rw [hu]; rfl) (by rw [hu]; rfl)
    dsimp only
    refine fwd_ite ?_ ?_
    · refine fwd_ite (Fuses.fwd_trans ?_ (fwd_still (flag_still ..))) ?_
      · exact h0 _ (by split <;> rfl)
      · exact h0 _ (by split <;> rfl)
    · have hb : ∀ u : State, (if s.blkOn Blk.sec = true then u.raise Blk.sec SEC.INT_LC_CHANGED else u).still = u.still := by
        intro u; split
        · exact raise_still ..
        · rfl
      refine Fuses.fwd_trans ?_ (fwd_still (hb _))
      refine Fuses.fwd_trans ?_ (fwd_still (dbgClose_still ..))
      refine fwd_ite ?_ (h1 _ rfl)
      refine Fuses.fwd_trans (h1 _ ?_) (fwd_still (still_foldl _ (fun s x => setReg_still ..) _ _))
      rfl

/-- A choice among no alternatives is the only one that gives none. -/
theorem choose_none {α : Type} {s : State} {l : List α} (h : (s.choose l).1 = none) : l = [] := by
  cases l with
  | nil => rfl
  | cons a t =>
    have hlt : Config.freeChoice s.free % (a :: t).length < (a :: t).length := Nat.mod_lt _ (by simp)
    have h : (a :: t)[Config.freeChoice s.free % (a :: t).length]? = none := h
    rw [List.getElem?_eq_getElem hlt] at h
    cases h

/-- A token for RETURNED that has no fault meets a lifecycle it may leave (R403, R416). -/
theorem tokenFaults_nil {s : State} {tok : SMap Word} {nonce ok : Bool} (h : s.tokenFaults tok nonce ok = [])
    (hact : tokWord tok 1 / 2 ^ 24 = 1) : s.fuse.lifecycle < 3 := by
  unfold tokenFaults at h
  dsimp only at h
  have h5 := (List.append_eq_nil_iff.1 h).2
  split at h5
  · rename_i hc
    simp [hact] at hc
    omega
  · cases h5

theorem tokenJudge_fwd (s : State) (tok : SMap Word) (nonce ok : Bool) : s.fuse.Fwd (s.tokenJudge tok nonce ok).fuse := by
  unfold tokenJudge
  dsimp only
  have hc : (s.choose (s.tokenFaults tok nonce ok)).2.still = s.still := choose_still ..
  have hf : (s.choose (s.tokenFaults tok nonce ok)).2.fuse = s.fuse := rfl
  split
  · exact fwd_still ((dbgResult_still ..).trans hc)
  · rename_i hnone
    split
    rotate_left
    · exact fwd_still ((dbgGrant_still ..).trans hc)
    rename_i hact
    refine Fuses.fwd_trans ?_ (fwd_still (dbgResult_still ..))
    refine fwd_ite (fwd_still hc) ?_
    refine Fuses.fwd_trans (fwd_still hc) (fuseStart_fwd _ 3 ⟨?_, le_refl _⟩)
    rw [hf]
    exact tokenFaults_nil (choose_none hnone) hact

theorem tokenDone_fwd (s : State) (ok : Bool) : s.fuse.Fwd (s.tokenDone ok).fuse := by
  unfold tokenDone
  split
  · exact Fuses.fwd_refl _
  · refine Fuses.fwd_trans (fwd_still ?_) (tokenJudge_fwd _ _ _ _)
    simp only [↓still_mk, ↓setF_still]

theorem writeOwn_fwd (s : State) (q : Requester) (b off : Nat) (v : Word) : s.fuse.Fwd (s.writeOwn q b off v).fuse := by
  unfold writeOwn
  dsimp only
  split
  · exact fwd_still (engWrite_still ..)
  · split
    case h_3 => exact fwd_ite (Fuses.fwd_trans (fwd_still (anyImage_still ..)) (kprWrite_fwd _ _ _ _ _)) (kprWrite_fwd _ _ _ _ _)
    case h_4 => exact secWrite_fwd _ _ _ _
    all_goals refine fwd_still ?_
    all_goals first
      | with_reducible exact writeReg_still ..
      | with_reducible exact engWrite_still ..
      | with_reducible exact glbWrite_still ..
      | with_reducible exact pwrWriteReg_still ..
      | with_reducible exact dbgWrite_still ..
      | with_reducible exact cfgvWrite_still ..
      | with_reducible exact memWriteReg_still ..
      | with_reducible exact ddrWriteReg_still ..
      | with_reducible exact dmaWriteReg_still ..
      | with_reducible exact logWriteReg_still ..
      | with_reducible exact pcieWrite_still ..
      | with_reducible exact timeWrite_still ..
      | with_reducible exact tsuWrite_still ..
      | with_reducible exact schedWrite_still ..
      | with_reducible exact hkWrite_still ..
      | with_reducible exact filtWrite_still ..
      | with_reducible exact hdacWrite_still ..
      | with_reducible exact thermWrite_still ..
      | with_reducible exact fogWrite_still ..
      | with_reducible exact twinWrite_still ..
      | with_reducible exact perfCtl_still ..
      | with_reducible exact writeReg_still ..
      | with_reducible exact bistCtl_still ..
      | with_reducible exact laneTest_still ..
      | with_reducible exact fecWrite_still ..
      | with_reducible exact llaneWrite_still ..
      | with_reducible exact clusterWrite_still ..
      | with_reducible exact hlaneWrite_still ..
      | with_reducible exact portWrite_still ..
      | simp only [↓still_ite, ↓pwrWriteReg_still, ↓bistCtl_still, ↓laneTest_still, ↓perfCtl_still, ↓writeReg_still,
          ↓wakeHeldPins_still, ↓draw_still, ite_self]


theorem fwd_ite_self {c : Prop} [Decidable c] {a b : State} (h : b.fuse.Fwd a.fuse) :
    b.fuse.Fwd (if c then a else b).fuse := fwd_ite h (Fuses.fwd_refl _)

theorem fwd_ite_self' {c : Prop} [Decidable c] {a b : State} (h : b.fuse.Fwd a.fuse) :
    b.fuse.Fwd (if c then b else a).fuse := fwd_ite (Fuses.fwd_refl _) h

theorem writeDirect_fwd (s : State) (q : Requester) (b off : Nat) (v : Word) :
    s.fuse.Fwd (s.writeDirect q b off v).fuse := by
  unfold writeDirect
  refine fwd_ite (fwd_still (headerWrite_still ..)) ?_
  refine Fuses.fwd_trans (writeOwn_fwd s q b off v) (fwd_still ?_)
  simp only [↓still_ite, ↓activeChanged_still, ↓recheck_still, ite_self]

theorem writeAlias_fwd (s : State) (q : Requester) (b off al : Nat) (v : Word) :
    s.fuse.Fwd (s.writeAlias q b off al v).fuse := writeDirect_fwd ..

theorem writeWide_fwd (s : State) (q : Requester) (b top al : Nat) (v : Word) :
    s.fuse.Fwd (s.writeWide q b top al v).fuse := by
  unfold writeWide
  dsimp only
  have h0 : s.fuse.Fwd ({ s with hold := SMap.erase s.hold (reqCode q) } : State).fuse := Fuses.fwd_refl _
  refine fwd_ite ?_ ?_
  · refine Fuses.fwd_trans h0 (fwd_still ?_)
    simp only [↓parityNew_still, ↓tbRate_still]
  · refine Fuses.fwd_trans ?_ (writeAlias_fwd ..)
    exact Fuses.fwd_trans h0 (fwd_foldl _ (fun s x => writeAlias_fwd ..) _ _)

theorem writeWord_fwd (s : State) (q : Requester) (b off al : Nat) (v : Word) :
    s.fuse.Fwd (s.writeWord q b off al v).fuse := by
  unfold writeWord
  split
  · exact fwd_still (holdWord_still ..)
  · exact fwd_ite (writeAlias_fwd ..) (writeWide_fwd ..)

theorem writeRw_fwd (s : State) (x : CfgImage) : s.fuse.Fwd (s.writeRw x).fuse := by
  unfold writeRw
  refine fwd_foldl _ (fun s w => ?_) _ _
  exact fwd_ite (Fuses.fwd_refl _) (fwd_ite (fwd_still (offRecord_still ..)) (writeWord_fwd ..))

theorem applyRepairs_fwd (s : State) (l : List (Word × Word)) (p : Nat → Bool) :
    s.fuse.Fwd (s.applyRepairs l p).fuse := by
  unfold applyRepairs
  exact fwd_foldl _ (fun s x => Fuses.fwd_trans (writeDirect_fwd ..) (writeDirect_fwd ..)) _ _

theorem applyDone_fwd (s : State) (x : CfgImage) : s.fuse.Fwd (s.applyDone x).fuse := by
  unfold applyDone
  refine Fuses.fwd_trans (writeRw_fwd s x) (fwd_still ?_)
  simp only [↓raise_still, ↓setF_still, ↓modCfgv_still, ↓setPhase_still, ↓cfgSwap_still, ↓still_mk]

theorem rollbackDone_fwd (s : State) (x : CfgImage) : s.fuse.Fwd (s.rollbackDone x).fuse := by
  unfold rollbackDone
  refine Fuses.fwd_trans (writeRw_fwd s x) (fwd_still ?_)
  simp only [↓raise_still, ↓cfgTimerOff_still, ↓modCfgv_still, ↓setPhase_still, ↓cfgSwap_still, ↓still_mk]

theorem busWrite_fwd (s : State) (q : Requester) (a be : Nat) (v : Word) : s.fuse.Fwd (s.busWrite q a be v).fuse := by
  unfold busWrite
  dsimp only
  have h0 : s.fuse.Fwd (if q = .pcie then s.tlp 0 1 else s).fuse := fwd_ite_self (fwd_still (tlp_still ..))
  generalize (if q = .pcie then s.tlp 0 1 else s) = s at h0 ⊢
  refine Fuses.fwd_trans h0 ?_
  refine fwd_ite (fwd_still (dbgDenied_still ..)) (fwd_ite (fwd_still (accErr_still ..)) ?_)
  split
  · exact fwd_ite (writeWord_fwd ..) (fwd_still (offRecord_still ..))
  · exact fwd_ite (fwd_still (msixWrite_still ..)) (fwd_still (offRecord_still ..))
  · exact fwd_ite (Fuses.fwd_refl _) (fwd_still (offRecord_still ..))
  · exact fwd_ite (fwd_still (offRecord_still ..)) (fwd_ite (fwd_still (dmaAliasCtl_still ..)) (writeWord_fwd ..))
  · exact fwd_still (accErr_still ..)

theorem keeperWrite_fwd (s : State) (b off : Nat) (v : Word) : s.fuse.Fwd (s.keeperWrite b off v).fuse :=
  busWrite_fwd ..

theorem bootRecord_fwd (s : State) (r : CfgRecord) : s.fuse.Fwd (s.bootRecord r).fuse := by
  unfold bootRecord
  split
  · exact fwd_foldl _ (fun s w => busWrite_fwd ..) _ _
  · exact fwd_still (applySeeds_still ..)
  · exact fwd_still (by simp only [↓logCtl_still, ↓setReg_still])
  · exact Fuses.fwd_refl _

theorem stageImage_fwd (s : State) (x : CfgImage) (se : Nat) : s.fuse.Fwd (s.stageImage x se).fuse := by
  unfold stageImage
  dsimp only
  refine Fuses.fwd_trans ?_ (fwd_still (modCfgv_still ..))
  refine Fuses.fwd_trans ?_ (fwd_still (still_foldl _ (fun s b => stageCtl_still ..) _ _))
  refine Fuses.fwd_trans ?_ (fwd_still (still_foldl _ (fun s r => ?_) _ _))
  rotate_left
  · split
    · exact applyHkcal_still ..
    · exact applySeeds_still ..
    · rfl
  have h0 : s.fuse.Fwd (((imgRegs x).filter fun w =>
      ((imgBlocks x).filter fun b =>
        (((imgBlocks x).filter fun b => !s.reach b).foldl
          (fun s b => s.offRecord .bar0 (blkBase b + HDR.BLK_CTL) true) s).reach b && hasStage (blkType b)).contains
        w.1).foldl (fun s w => s.stageWord w.1 w.2.1 w.2.2)
      (((imgBlocks x).filter fun b =>
        (((imgBlocks x).filter fun b => !s.reach b).foldl
          (fun s b => s.offRecord .bar0 (blkBase b + HDR.BLK_CTL) true) s).reach b && hasStage (blkType b)).foldl
        (fun s b => if s.staged b then s else s.stageOn b)
        (((imgBlocks x).filter fun b => !s.reach b).foldl
          (fun s b => s.offRecord .bar0 (blkBase b + HDR.BLK_CTL) true) s))).fuse := by
    refine Fuses.fwd_trans ?_ (fwd_still (still_foldl _ (fun s w => stageWord_still ..) _ _))
    refine Fuses.fwd_trans ?_ (fwd_still (still_foldl _ (fun s w => ?_) _ _))
    · exact fwd_still (still_foldl _ (fun s w => offRecord_still ..) _ _)
    · simp only [↓still_ite, ↓stageOn_still, ite_self]
  refine Fuses.fwd_trans h0 (fwd_ite_self (fwd_foldl _ (fun s w => ?_) _ _))
  refine Fuses.fwd_trans (fwd_still ?_) (writeDirect_fwd ..)
  simp only [↓setF_still, ↓stageWord_still]

theorem rbArm_fwd (s : State) (x : CfgImage) (twin : Bool) (arm : State → State)
    (h : ∀ s : State, s.fuse.Fwd (arm s).fuse) : s.fuse.Fwd (s.rbArm x twin arm).fuse := by
  unfold rbArm
  dsimp only
  refine fwd_ite ?_ ?_
  · exact Fuses.fwd_trans (h s) (fwd_still (still_foldl _ (fun s b => commitNow_still ..) _ _))
  · have h1 := Fuses.fwd_trans (Fuses.fwd_trans (fwd_still (rbProgram_still s twin)) (h _))
      (fwd_still (rbEnable_still (arm (s.rbProgram twin))))
    exact fwd_ite (Fuses.fwd_trans h1 (fwd_still (rbCoord_still ..))) h1

theorem stagingDone_fwd (s : State) : s.fuse.Fwd s.stagingDone.fuse := by
  unfold stagingDone
  refine fwd_ite (Fuses.fwd_refl _) ?_
  split
  · exact Fuses.fwd_refl _
  · dsimp only
    refine fwd_ite (Fuses.fwd_trans (stageImage_fwd ..) (fwd_still (setPhase_still ..))) (fwd_ite ?_ (Fuses.fwd_refl _))
    exact Fuses.fwd_trans (fwd_still (modCfgv_still ..)) (rbArm_fwd _ _ _ _ (fun s => stageImage_fwd ..))

theorem cfgvEval_fwd (s : State) : s.fuse.Fwd s.cfgvEval.fuse := by
  unfold cfgvEval
  refine fwd_ite (Fuses.fwd_refl _) ?_
  split
  · exact Fuses.fwd_refl _
  · dsimp only
    refine fwd_ite (fwd_ite (applyDone_fwd ..) (rollbackDone_fwd ..)) (fwd_ite ?_ (fwd_ite (Fuses.fwd_refl _) ?_))
    · refine Fuses.fwd_trans (fwd_still (modCfgv_still ..)) (rbArm_fwd _ _ _ _ (fun s => ?_))
      exact fwd_still (still_foldl _ (fun s b => stageCtl_still ..) _ _)
    · exact fwd_still (cfgCommitFail_still ..)

theorem domRepairs_fwd (s : State) (d : Nat) : s.fuse.Fwd (s.domRepairs d).fuse := by
  unfold domRepairs
  split
  · exact Fuses.fwd_refl _
  · refine fwd_foldl _ (fun s r => ?_) _ _
    split
    · exact applyRepairs_fwd ..
    · exact Fuses.fwd_refl _

theorem memWrite_fwd (s : State) (q : Requester) (bar : Bar) (a : Nat) (data : List Byte) :
    s.fuse.Fwd (s.memWrite q bar a data).fuse := by
  unfold memWrite
  refine fwd_ite (Fuses.fwd_refl _) ?_
  split
  · exact fwd_foldl _ (fun s w => busWrite_fwd ..) _ _
  · refine fwd_still ?_
    simp only [↓bar2Write_still, ↓still_ite, ↓tlps_still, ite_self]
  · refine fwd_still ?_
    simp only [↓bar4Write_still, ↓still_ite, ↓tlps_still, ite_self]

theorem hostWriteMem_fwd (s : State) (q : Requester) (bar : Bar) (off : Nat) (data : List Byte) :
    s.fuse.Fwd (s.hostWriteMem q bar off data).fuse :=
  fwd_ite (fwd_still (unsupportedRequest_still ..)) (memWrite_fwd ..)

theorem offAccess_fwd (s : State) (q : Requester) (bar : Bar) (off : Nat) (write : Bool) :
    s.fuse.Fwd (s.offAccess q bar off write).fuse := by
  unfold offAccess
  dsimp only
  refine fwd_ite (Fuses.fwd_refl _) ?_
  split
  · refine fwd_ite (busWrite_fwd ..) (fwd_still ?_)
    simp only [↓send_still, ↓busRead_still]
  · exact fwd_ite (memWrite_fwd ..) (fwd_still (memRead_still ..))

theorem bootDomain_fwd (s : State) (d : Nat) : s.fuse.Fwd (s.bootDomain d).fuse := by
  unfold bootDomain
  dsimp only
  refine fwd_ite (Fuses.fwd_refl _) ?_
  have h : s.fuse.Fwd ((s.domainUp d false).domRepairs d).fuse :=
    Fuses.fwd_trans (fwd_core (domainUp_core ..)) (domRepairs_fwd ..)
  exact fwd_ite (Fuses.fwd_trans h (fwd_still (hkRecords_still ..))) h

theorem bootDomains_fwd (s : State) (m : BitVec 24) : s.fuse.Fwd (s.bootDomains m).fuse := by
  unfold bootDomains
  exact Fuses.fwd_trans (fwd_foldl _ (fun s d => bootDomain_fwd ..) _ _) (fwd_foldl _ (fun s d => bootDomain_fwd ..) _ _)

theorem bootApply_fwd (s : State) : s.fuse.Fwd s.bootApply.fuse := by
  unfold bootApply
  dsimp only
  refine Fuses.fwd_trans ?_ (fwd_ite_self (fwd_still (drainStart_still ..)))
  refine Fuses.fwd_trans ?_ (fwd_foldl _ (fun s r => bootRecord_fwd ..) _ _)
  refine Fuses.fwd_trans ?_ (fwd_foldl _ (fun s r => ?_) _ _)
  rotate_left
  · split
    · rename_i m kpr coef
      refine Fuses.fwd_trans (bootDomains_fwd s (m.setWidth 24)) (fwd_still ?_)
      simp only [↓setReg_still]
    · exact Fuses.fwd_refl _
  refine Fuses.fwd_trans ?_ (fwd_foldl _ (fun s r => ?_) _ _)
  rotate_left
  · split
    · exact Fuses.fwd_trans (bootDomains_fwd ..) (keeperWrite_fwd ..)
    · exact Fuses.fwd_refl _
  exact fwd_foldl _ (fun s d => domRepairs_fwd ..) _ _

theorem boot_fwd (s : State) (x : BootInput) (cause : Nat) : s.fuse.Fwd (s.boot x cause).fuse := by
  unfold boot
  extract_lets s1 flash s2 s3 stage s4 s5 bad s6 s7 s8 s9 s10
  have h5 : s.fuse.Fwd s5.fuse := by
    refine fwd_core ?_
    simp only [s5, s4, s3, s2, s1, ↓core_mk, ↓porBist_still, ↓setF_still, ↓bootBundle_still, ↓bootConfig_still, ↓firmwareBoot_still,
      ↓setReg_still, ↓still_mk]
  have h6 : s5.fuse.Fwd s6.fuse := fwd_ite_self' (fwd_core (domainsDown_core ..))
  have h7 : s6.fuse.Fwd s7.fuse := Fuses.fwd_refl _
  have h8 : s7.fuse.Fwd s8.fuse := by
    refine fwd_still ?_
    simp only [s8, ↓setF_still, ↓setB_still, ↓setReg_still]
  have h9 : s8.fuse.Fwd s9.fuse := Fuses.fwd_trans (fwd_still (deriveKey_still ..)) (keeperWrite_fwd ..)
  have h10 : s9.fuse.Fwd s10.fuse := fwd_ite_self (fwd_still (pmbStart_still ..))
  refine fwd_ite (Fuses.fwd_trans h5 (fwd_core (bistHold_core ..))) ?_
  refine Fuses.fwd_trans h5 (Fuses.fwd_trans h6 (Fuses.fwd_trans h7 (Fuses.fwd_trans h8 (Fuses.fwd_trans h9
    (Fuses.fwd_trans h10 (bootApply_fwd s10))))))

theorem darkExit_fwd (s : State) (x : BootInput) : s.fuse.Fwd (s.darkExit x).fuse := by
  unfold darkExit
  extract_lets p s1 s2 s3 s4
  have h1 : s.fuse.Fwd s1.fuse := Fuses.fwd_refl _
  have h2 : s1.fuse.Fwd s2.fuse := boot_fwd ..
  have h3 : s2.fuse.Fwd s3.fuse := fwd_ite (fwd_core (timeRestore_core ..)) (fwd_still (modPwr_still ..))
  have h4 : s3.fuse.Fwd s4.fuse := fwd_ite_self' (fwd_still (exitEnd_still ..))
  exact Fuses.fwd_trans h1 (Fuses.fwd_trans h2 (Fuses.fwd_trans h3 (Fuses.fwd_trans h4 (fwd_still (modPwr_still ..)))))

theorem keeperRestore_fwd (s : State) (down : BitVec 24) (r : Retain) : s.fuse.Fwd (s.keeperRestore down r).fuse := by
  unfold keeperRestore
  extract_lets s1 s2
  have h1 : s.fuse.Fwd s1.fuse := fwd_foldl _ (fun s d => domRepairs_fwd ..) _ _
  have h2 : s1.fuse.Fwd s2.fuse := fwd_ite_self (fwd_still (hkRecords_still ..))
  refine Fuses.fwd_trans h1 (Fuses.fwd_trans h2 ?_)
  split
  · exact Fuses.fwd_refl _
  · exact fwd_foldl _ (fun s d => keeperWrite_fwd ..) _ _

theorem exitStepDone_fwd (s : State) (k : Bool) (x : Option BootInput) : s.fuse.Fwd (s.exitStepDone k x).fuse := by
  unfold exitStepDone
  extract_lets restarting t
  refine fwd_ite ?_ (fwd_ite (Fuses.fwd_refl _) ?_)
  · split
    · exact darkExit_fwd ..
    · exact Fuses.fwd_refl _
  · have h : s.fuse.Fwd t.fuse := fwd_core (exitStep_core ..)
    exact Fuses.fwd_trans h (fwd_ite_self (keeperRestore_fwd ..))

theorem keeperBack_fwd (s : State) (us : Word) (fw : Option (List FwImage)) : s.fuse.Fwd (s.keeperBack us fw).fuse := by
  unfold keeperBack
  extract_lets t
  have h : s.fuse.Fwd t.fuse := fwd_still (keeperRestarted_still ..)
  exact Fuses.fwd_trans h (fwd_ite_self (keeperRestore_fwd ..))

theorem domRequestDone_fwd (s : State) (k : Bool) : s.fuse.Fwd (s.domRequestDone k).fuse := by
  unfold domRequestDone
  extract_lets t
  have h : s.fuse.Fwd t.fuse := fwd_core (domDone_core ..)
  refine Fuses.fwd_trans h ?_
  split
  · rename_i d _
    refine fwd_ite_self ?_
    exact Fuses.fwd_trans (domRepairs_fwd t d) (fwd_ite_self (fwd_still (hkRecords_still ..)))
  · exact Fuses.fwd_refl _

theorem i2cDone_fwd (s : State) : s.fuse.Fwd s.i2cDone.fuse := by
  unfold i2cDone
  extract_lets c a aon off r s1
  refine fwd_ite (Fuses.fwd_refl _) (fwd_ite (Fuses.fwd_refl _) ?_)
  have h1 : s.fuse.Fwd s1.fuse := by
    refine fwd_ite ?_ ?_
    · exact Fuses.fwd_trans (fwd_still (busRead_still ..)) (fwd_core (modI2c_core ..))
    · exact Fuses.fwd_trans (busWrite_fwd ..) (fwd_core (modI2c_core ..))
  refine Fuses.fwd_trans h1 (Fuses.fwd_trans ?_ (fwd_core (i2cBump_core ..)))
  exact fwd_core (modI2c_core ..)

/-- At a reset a transition being programmed ends at its old or its new value. -/
theorem resetState_fwd (s : State) : s.fuse.Fwd s.resetState.fuse := by
  unfold resetState
  extract_lets d y fuse x r r2
  have h : s.fuse.Fwd r.fuse := by
    show s.fuse.Fwd fuse
    dsimp only [fuse]
    split
    · exact Fuses.fwd_refl _
    · rename_i t ht
      split
      · exact fuses_ended (.inr ht) rfl rfl
      · exact fuses_ended (.inl rfl) rfl rfl
  have h2 : r.fuse.Fwd r2.fuse := fwd_still (setReg_still ..)
  exact Fuses.fwd_trans h (Fuses.fwd_trans h2 (fwd_ite_self' (fwd_still (setF_still ..))))

theorem porstLow_fwd (s : State) : s.fuse.Fwd s.porstLow.fuse := resetState_fwd s

theorem powerOn_fwd (s : State) (x : BootInput) : s.fuse.Fwd (s.powerOn x).fuse := by
  unfold powerOn
  refine Fuses.fwd_trans (resetState_fwd s) (Fuses.fwd_trans ?_ (boot_fwd ..))
  exact Fuses.fwd_refl _

theorem aonEdge_fwd (s : State) : s.fuse.Fwd s.aonEdge.fuse := by
  unfold aonEdge
  extract_lets a d s1 s2 k s3 s4 s5 s6 s7 s8 s9 s10
  have h1 : s.fuse.Fwd s1.fuse := fwd_still (setAonCnt_still ..)
  have h2 : s1.fuse.Fwd s2.fuse := fwd_ite_self' (Fuses.fwd_refl _)
  have h3 : s2.fuse.Fwd s3.fuse := fwd_foldl _ (fun s n => fwd_core (tbAdvance_core ..)) _ _
  have h4 : s3.fuse.Fwd s4.fuse := fwd_foldl _ (fun s n => fwd_still (txFollow_still ..)) _ _
  have h5 : s4.fuse.Fwd s5.fuse := fwd_ite_self' (fwd_foldl _ (fun s n => fwd_still (hostFollow_still ..)) _ _)
  have h6 : s5.fuse.Fwd s6.fuse := fwd_foldl _ (fun s n => Fuses.fwd_trans (fwd_still (wheelTurn_still ..))
    (fwd_still (wheelTurn_still ..))) _ _
  have h7 : s6.fuse.Fwd s7.fuse := fwd_foldl _ (fun s n => fwd_still (engPass_still ..)) _ _
  have h8 : s7.fuse.Fwd s8.fuse := fwd_foldl _ (fun s n => fwd_still (setPrim_still ..)) _ _
  have h9 : s8.fuse.Fwd s9.fuse := fwd_ite_self (fwd_foldl _ (fun s n => fwd_still (hdacTick_still ..)) _ _)
  have h10 : s9.fuse.Fwd s10.fuse := fwd_ite_self (fwd_still (modCfgv_still ..))
  exact Fuses.fwd_trans h1 (Fuses.fwd_trans h2 (Fuses.fwd_trans h3 (Fuses.fwd_trans h4 (Fuses.fwd_trans h5
    (Fuses.fwd_trans h6 (Fuses.fwd_trans h7 (Fuses.fwd_trans h8 (Fuses.fwd_trans h9 (Fuses.fwd_trans h10
    (Fuses.fwd_trans (fwd_still (perfPass_still ..)) (cfgvEval_fwd _)))))))))))

/-- A register access of requester `q`. -/
theorem access_fwd (s : State) (b off : Nat) (write : Bool) (k : State → State)
    (h : ∀ s : State, s.fuse.Fwd (k s).fuse) : s.fuse.Fwd (s.access b off write k).fuse :=
  fwd_ite (h s) (fwd_still (offRecord_still ..))

theorem accessBy_fwd (s : State) (q : Requester) (b off : Nat) (write : Bool) (k : State → State)
    (h : ∀ s : State, s.fuse.Fwd (k s).fuse) : s.fuse.Fwd (s.accessBy q b off write k).fuse := by
  unfold accessBy
  refine Fuses.fwd_trans (fwd_still (heard_still s q)) ?_
  exact fwd_ite (access_fwd _ _ _ _ _ h) (fwd_still (dbgDenied_still ..))

theorem onI2c_fwd (s : State) (k : State → State) (h : ∀ s : State, s.fuse.Fwd (k s).fuse) :
    s.fuse.Fwd (s.onI2c k).fuse := fwd_ite_self (h s)

theorem finish_fwd {old s t : State} (h : finish old s = .next t) (hs : old.fuse.Fwd s.fuse) : old.fuse.Fwd t.fuse := by
  unfold finish at h
  cases h
  exact Fuses.fwd_trans hs (fwd_still (sent_still ..))

/-- An edge of the AON clock moves the fuses forward only. -/
theorem tick_fwd {s t : State} (h : tick s = .next t) : s.fuse.Fwd t.fuse := by
  unfold tick at h
  split at h
  · cases h; exact Fuses.fwd_refl _
  · exact finish_fwd h (aonEdge_fwd s)


theorem twinRx_fwd (s : State) (a : MsgAuth) (k : State → State) (h : ∀ s : State, s.fuse.Fwd (k s).fuse) :
    s.fuse.Fwd (s.twinRx a k).fuse := by
  unfold twinRx
  dsimp only
  refine fwd_ite (Fuses.fwd_refl _) (fwd_ite ?_ (fwd_still (authFail_still ..)))
  refine Fuses.fwd_trans (fwd_still ?_) (h _)
  simp only [↓still_ite, ↓posAll_still, ↓raise_still, ↓setPair_still, ↓setRxCnt_still, ite_self]

end State
end Sys2Proof.Machine
end

