-- ==== Sys2Proof/Laws/Memory.lean ====
section
/-! SUPPORT. Every operation over the on-chip SRAM and the DDR4 contents keeps their canonical form. -/

namespace Sys2Proof.Machine
namespace State

/-- Both memories are in canonical form. -/
abbrev RamOk (s : State) : Prop := Memory.wf s.sram.bytes ∧ Memory.wf s.ddr.bytes

theorem ramOk_reset : State.reset.RamOk := ⟨SMap.wf_nil _, SMap.wf_nil _⟩

/-- What leaves registers, messages and interrupt bits aside changes nothing else keeps the form. -/
theorem ramOk_rest {s t : State} (h : t.rest = s.rest) (hs : s.RamOk) : t.RamOk :=
  ⟨(of_rest (fun x => x.sram.bytes) (fun _ => rfl) h).symm ▸ hs.1, (of_rest (fun x => x.ddr.bytes) (fun _ => rfl) h).symm ▸ hs.2⟩

theorem ramOk_setSram {s : State} {m : Sram} (hs : s.RamOk) (hm : Memory.wf m.bytes) : (s.setSram m).RamOk := ⟨hm, hs.2⟩

theorem ramOk_modDdr {s : State} {g : DdrState → DdrState} (hs : s.RamOk) (hg : Memory.wf (g s.ddr).bytes) :
    (s.modDdr g).RamOk := ⟨hs.1, hg⟩

theorem ramOk_ite {c : Prop} [Decidable c] {a b : State} (ha : a.RamOk) (hb : b.RamOk) : (if c then a else b).RamOk := by
  split
  · exact ha
  · exact hb

theorem ramOk_foldl {α : Type} {g : State → α → State} (h : ∀ (s : State) x, s.RamOk → (g s x).RamOk) :
    ∀ (l : List α) {s : State}, s.RamOk → (l.foldl g s).RamOk
  | [], _, hs => hs
  | a :: t, _, hs => ramOk_foldl h t (h _ a hs)

/-- A fold keeps a property that each pass keeps. -/
theorem foldl_prop {α β : Type} {p : β → Prop} {g : β → α → β} (h : ∀ s x, p s → p (g s x)) :
    ∀ (l : List α) {s : β}, p s → p (l.foldl g s)
  | [], _, hs => hs
  | a :: t, _, hs => foldl_prop h t (h _ a hs)

theorem ramOk_sramPoke {s : State} (a : Nat) (data : List Byte) (hs : s.RamOk) : (s.sramPoke a data).RamOk := by
  unfold sramPoke
  refine ramOk_setSram hs ?_
  refine foldl_prop (p := fun m : Sram => Memory.wf m.bytes) (fun m x hm => ?_) data.zipIdx hs.1
  dsimp only
  refine SMap.wf_put (d := fun _ => (0 : Byte)) ?_ _ _
  split
  · exact hm
  · exact SMap.wf_drop (d := fun _ => (0 : Byte)) (m := m.bytes) hm fun k => k / 4 == (a + x.2) / 4

theorem ramOk_sramForget {s : State} (p : Nat → Bool) (hs : s.RamOk) : (s.sramForget p).RamOk :=
  ramOk_setSram hs (SMap.wf_drop hs.1 p)

theorem ramOk_sramUpset {s : State} (l : List Flip) (hs : s.RamOk) : (s.sramUpset l).RamOk := by
  unfold sramUpset
  refine ramOk_foldl (fun s x hs => ?_) l hs
  split
  · exact ramOk_setSram hs hs.1
  · exact hs

theorem ramOk_sramWriteBack {s : State} (w : Nat) (hs : s.RamOk) : (s.sramWriteBack w).RamOk := ramOk_setSram hs hs.1

theorem memCount_rest (s : State) (o i n : Nat) : (s.memCount o i n).rest = s.rest := by
  unfold memCount
  dsimp only
  split
  · rw [raise_rest, setF_rest]; rfl
  · rfl

theorem ramOk_sramWrite {s : State} (a : Nat) (data : List Byte) (hs : s.RamOk) : (s.sramWrite a data).RamOk := by
  unfold sramWrite
  dsimp only
  refine ramOk_ite hs (ramOk_sramPoke _ _ (ramOk_foldl (fun s pg hs => ramOk_ite ?_ hs) _ hs))
  exact ramOk_rest ((raise_rest ..).trans (memCount_rest ..)) (ramOk_setSram hs hs.1)

/-- What writes neither memory's bytes keeps the form. -/
theorem ramOk_of_eq {s t : State} (h1 : t.sram.bytes = s.sram.bytes) (h2 : t.ddr.bytes = s.ddr.bytes) (hs : s.RamOk) : t.RamOk :=
  ⟨h1.symm ▸ hs.1, h2.symm ▸ hs.2⟩

theorem count32_rest (s : State) (b off n : Nat) : (s.count32 b off n).1.rest = s.rest := rfl

theorem ramOk_logNewPage {s t : State} {anch : Bool} {seq : Nat} (h : s.logNewPage anch seq = some t) (hs : s.RamOk) :
    t.RamOk := by
  unfold logNewPage at h
  split at h
  · cases h; exact hs
  · split at h
    · cases h
    · dsimp only at h
      cases h
      refine ramOk_ite (ramOk_rest (raise_rest ..) ?_) ?_ <;>
        exact ramOk_rest (setF_rest ..) (ramOk_of_eq (s := s.satReg ..) rfl rfl (ramOk_rest (setReg_rest ..) hs))

theorem ramOk_logPlace {s : State} (anch : Bool) (seq : Nat) (bytes : List Byte) (hs : s.RamOk) :
    (s.logPlace anch seq bytes).RamOk := by
  unfold logPlace
  dsimp only
  split
  · exact ramOk_ite (ramOk_rest (setReg_rest ..) hs) hs
  · rename_i t ht
    have h1 : t.RamOk := by
      split at ht
      · cases ht; exact hs
      · exact ramOk_logNewPage ht hs
    split
    · exact h1
    · rename_i p _
      have h2 := ramOk_sramPoke (0x2C00000 + 1024 * p.page + 64 * p.count) bytes h1
      refine ⟨?_, h2.2⟩
      dsimp only
      split
      · exact h2.1
      · exact h2.1

theorem ramOk_log {s : State} (l : LogState) (hs : s.RamOk) : State.RamOk { s with log := l } := ⟨hs.1, hs.2⟩

theorem ramOk_logRefill {s : State} (hs : s.RamOk) : s.logRefill.RamOk := by
  unfold logRefill
  exact ramOk_log _ hs

theorem satReg_rest (s : State) (b off n : Nat) : (s.satReg b off n).rest = s.rest := by
  unfold satReg
  exact setReg_rest ..

theorem ramOk_logRecord {s : State} (r : LogRec) (hs : s.RamOk) : (s.logRecord r).RamOk := by
  unfold logRecord
  split
  · exact hs
  · extract_lets s1 lim first a1 la a2 a3 lb b1 seq c b2 bytes anchored lc b3
    have h1 : s1.RamOk := ramOk_logRefill hs
    clear_value s1 lim
    have ha1 : a1.RamOk := ramOk_rest (satReg_rest s1 _ _ _) h1
    clear_value a1
    have ha2 : a2.RamOk := ramOk_log _ ha1
    clear_value la a2
    have ha3 : a3.RamOk := ramOk_rest (perf_rest a2 14 1 1) ha2
    have hb1 : b1.RamOk := ramOk_ite (ramOk_log _ h1) h1
    clear_value a3 lb b1
    have hc : c.1.RamOk := ramOk_rest (count32_rest b1 _ _ _) hb1
    clear_value c
    have hb2 : b2.RamOk := ramOk_ite (ramOk_rest (flag_rest c.1 _ _ _) hc) hc
    clear_value b2
    have hb3 : b3.RamOk := ramOk_log _ hb2
    clear_value lc b3
    exact ramOk_ite (ramOk_ite (ramOk_rest (raise_rest a3 _ _) ha3) ha3)
      (ramOk_rest (perf_rest _ 14 0 1) (ramOk_logPlace _ _ _ hb3))

theorem ramOk_goldNote {s : State} (pg : Nat) (hs : s.RamOk) : (s.goldNote pg).RamOk := by
  unfold goldNote
  split
  · exact ramOk_ite (ramOk_rest (setF_rest ..) (ramOk_setSram hs hs.1)) hs
  · exact hs

theorem ramOk_sramUe {s : State} (w src : Nat) (hs : s.RamOk) : (s.sramUe w src).RamOk := by
  unfold sramUe
  extract_lets sealed bad m s1 s2 s3 s4 s5 s6
  have h1 : s1.RamOk := ramOk_setSram hs hs.1
  have h2 : s2.RamOk := ramOk_goldNote _ h1
  have h3 : s3.RamOk := ramOk_rest (memCount_rest ..) h2
  have h4 : s4.RamOk := ramOk_rest (setReg_rest ..) h3
  have h5 : s5.RamOk := ramOk_rest ((setB_rest ..).trans ((setF_rest ..).trans (setF_rest ..))) h4
  exact ramOk_rest (raise_rest ..) (ramOk_logRecord _ h5)

theorem ramOk_sramRead {s : State} (w src : Nat) (hs : s.RamOk) : (s.sramRead w src).2.RamOk := by
  unfold sramRead
  dsimp only
  split
  · exact ramOk_sramUe _ _ hs
  · split
    · split
      · exact ramOk_rest ((perf_rest ..).trans (memCount_rest ..)) (ramOk_setSram hs hs.1)
      · exact ramOk_sramUe _ _ hs
    · split
      · exact hs
      · exact ramOk_rest ((perf_rest ..).trans (memCount_rest ..)) hs

theorem ramOk_ddrForget {s : State} (p : Nat → Bool) (hs : s.RamOk) : (s.ddrForget p).RamOk :=
  ramOk_modDdr hs (SMap.wf_drop (d := fun _ => (0 : Byte)) (m := s.ddr.bytes) hs.2 fun a => p (a / 4096))

theorem ramOk_ddrTouch {s : State} (p : Nat) (hs : s.RamOk) : (s.ddrTouch p).RamOk :=
  ramOk_ite hs (ramOk_modDdr (ramOk_ddrForget (· == p) hs) (ramOk_ddrForget (· == p) hs).2)

theorem ddrCount_rest (s : State) (o i n : Nat) : (s.ddrCount o i n).rest = s.rest := by
  unfold ddrCount
  dsimp only
  split
  · rw [raise_rest, setF_rest]; rfl
  · rfl

theorem ramOk_ddrUnseal {s : State} (p : Nat) (hs : s.RamOk) : (s.ddrUnseal p).RamOk := by
  unfold ddrUnseal
  exact ramOk_ite (ramOk_rest ((raise_rest ..).trans (ddrCount_rest ..)) (ramOk_modDdr hs hs.2)) hs

theorem ramOk_ddrSealPage {s : State} (p : Nat) (hs : s.RamOk) : (s.ddrSealPage p).RamOk := ramOk_modDdr hs hs.2

theorem ramOk_ddrWrite {s : State} (a : Nat) (data : List Byte) (final : Bool) (hs : s.RamOk) :
    (s.ddrWrite a data final).RamOk := by
  unfold ddrWrite
  dsimp only
  refine ramOk_ite hs (ramOk_foldl (fun s p hs => ramOk_ite (ramOk_ddrSealPage _ hs) hs) _ ?_)
  have h : ∀ (l : List Nat) (f : Nat → Bool), (l.foldl (fun (s : State) p => if f p then s.ddrTouch p else (s.ddrTouch p).ddrUnseal p)
      (s.perf 12 6 (granules a data.length).length)).RamOk := fun l f =>
    ramOk_foldl (fun s p hs => ramOk_ite (ramOk_ddrTouch p hs) (ramOk_ddrUnseal p (ramOk_ddrTouch p hs))) l
      (ramOk_rest (perf_rest ..) hs)
  refine ramOk_modDdr (h _ _) ?_
  exact foldl_prop (p := fun m : SMap Byte × SMap (BitVec 9) => Memory.wf m.1)
    (fun m x hm => SMap.wf_put (d := fun _ => (0 : Byte)) hm _ _) data.zipIdx (h _ _).2

end State
end Sys2Proof.Machine
end

