-- ==== Sys2Proof/WellFormed.lean ====
section
/-! DEFINITION. Well-formed commands: what an operand type does not say of the lists and lengths a command brings. -/

namespace Sys2Proof

/-- Upsets name at least one of the bits of a byte. -/
def flipsWf (l : List Flip) : Bool := l.all fun x => decide (x.mask ≠ 0) && decide (x.addr < 2 ^ 34)

/-- A record of the lengths that R408 gives. -/
def CfgRecord.wf : CfgRecord → Bool
  | .hdac words => words.length == 32
  | .hkcal words => words.length == 16
  | .regs off words => decide (off.toNat + 4 * words.length ≤ 2 ^ 24)
  | .ddr _ _ | .repair _ | .seeds _ _ | .power _ _ _ | .bist _ | .log _ _ _ _ _ => true

/-- Every record has its length. -/
def CfgImage.wf (x : CfgImage) : Bool := x.records.all CfgRecord.wf

/-- At most two entries of firmware and of bundles (R410, R411), and each slot at most once. -/
def BootInput.wf (x : BootInput) : Bool :=
  decide (x.firmware.length ≤ 2) && decide (x.bundles.length ≤ 2) && decide (x.slots.map (·.slot)).Nodup
    && x.slots.all fun y => y.image.wf

/-- The command's operands are as the spec has them. -/
def Instr.wf : Instr → Bool
  | .powerOnReset x => x.wf
  | .hostMemRead _ _ _ len flips => decide (0 < len) && decide (len ≤ 4096) && flipsWf flips
  | .hostMemWrite _ _ _ data => decide (0 < data.length) && decide (data.length ≤ 4096)
  | .i2cWrite bytes => !bytes.isEmpty
  | .i2cRead count => decide (0 < count)
  | .fgCalDone _ cal _ _ => decide (cal.map (·.sub)).Nodup && cal.all fun x => decide (x.sub < 136)
  | .dacCalDone _ cal _ _ => decide (cal.map (·.seg)).Nodup && cal.all fun x => decide (x.seg < 132)
  | .innerCodewordDecoded _ _ rel _ => rel.length == 136
  | .lpcBlockEnd _ rows => decide (rows.map (·.row)).Nodup
  | .rsCodewordMonitored _ _ _ _ codeword => codeword.length == 680
  | .histDone _ bins => decide (bins.map (·.1)).Nodup
  | .gaWindowEnd _ sums => decide (sums.map (·.1)).Nodup
  | .train _ _ words _ _ | .spareTrain _ _ words _ _ => decide (words.map (·.1)).Nodup
  | .pos _ l => decide (l.length ≤ 8)
  | .posAck _ l => decide (l.length ≤ 8)
  | .calDone _ cal => cal.length == 4
  | .measurementDone l => l.length == 24
  | .sramScrub flips | .ddrScrub flips => flipsWf flips
  | .goldenReload flash => flash.all fun x => x.length == 1024
  | .entryFire ks => decide ks.Nodup
  | .verifyingDone _ x => x.wf
  | .bistDone l => decide (l.map (·.dom)).Nodup
  | .laneDone _ _ _ subs segs => decide subs.Nodup && decide segs.Nodup
  | .exitStepDone _ x => x.all BootInput.wf
  | .keeperRestartDone _ fw => fw.all fun l => decide (l.length ≤ 2)
  | .pciePerst | .linkUp .. | .linkDown | .regWrite .. | .holdingWrite .. | .offAccess .. | .unsupportedRequest
  | .i2cCmdRead | .i2cCmdWrite | .i2cCmdReadInc | .i2cCmdWriteInc | .i2cAccessDone | .i2cAddressMatch | .softReset ..
  | .stageOn .. | .stageOff .. | .intForce .. | .intStatClear .. | .msixUnmask .. | .commitNow .. | .discard ..
  | .arm .. | .disarm .. | .paritySweep .. | .parityRestore .. | .refclkLoss .. | .refclkReturn .. | .refPllRelock
  | .xtalFail | .pllEnable .. | .pllLock .. | .pllLockLost .. | .lanePwrWrite .. | .slicePwrRdy .. | .rxCtlWrite ..
  | .sigDetRise .. | .sigDetFall .. | .cdrLockGain .. | .cdrLockLoss .. | .freqOorSet .. | .freqOorClear ..
  | .bgcalStepEnd .. | .coefDataWrite .. | .coefDataRead .. | .ffeResidueMismatch .. | .mlseResidueMismatch ..
  | .injFfe .. | .injMlse .. | .counterClr .. | .counterSnap .. | .counterLive .. | .eyeStart .. | .eyeDone ..
  | .txCtlWrite .. | .dacBgcalStepEnd .. | .txCoefDataWrite .. | .txCoefDataRead .. | .txPdCtlWrite .. | .dacClrFall
  | .dacClrRise | .clrSeenClear .. | .fecModeWrite .. | .innerWindowEnd .. | .forceHunt .. | .lpcBlockPeriod ..
  | .iterChg .. | .addOp .. | .subOp .. | .andOp .. | .orOp .. | .xorOp .. | .sllOp .. | .srlOp .. | .sraOp ..
  | .sltOp .. | .sltuOp .. | .minOp .. | .maxOp .. | .mulOp .. | .mulhOp .. | .cmp .. | .addi .. | .andi .. | .ori ..
  | .xori .. | .slli .. | .srli .. | .srai .. | .lui .. | .cmpi .. | .sati .. | .lw .. | .lh .. | .lhu .. | .sw ..
  | .sh .. | .br .. | .jal .. | .jr .. | .loop .. | .wait .. | .halt .. | .prd .. | .pwr .. | .vldp .. | .vstp ..
  | .vadd .. | .vsub .. | .vmul .. | .vmin .. | .vmax .. | .vsgn .. | .vshr .. | .vshl .. | .vsat .. | .vand ..
  | .vmov .. | .vmac .. | .vrda .. | .vclr .. | .vred .. | .vbc .. | .vext .. | .vins .. | .vld .. | .vst ..
  | .illegalInstruction .. | .engineWatchdog .. | .rxSwap .. | .txSwap .. | .pdOut .. | .phofsStep .. | .slotMap ..
  | .gaAck .. | .histStart .. | .timerCmp .. | .timerMatch .. | .mbxDone .. | .mbxNote .. | .pwrRsp .. | .trnReq ..
  | .trnReady .. | .engineRun .. | .engineStep .. | .ucDataWrite .. | .ucSeal .. | .invalidate .. | .sealed ..
  | .microcodeSwap .. | .mbxCmd .. | .freeze .. | .resume .. | .setMu .. | .setLoop .. | .status .. | .eye ..
  | .remap .. | .stop .. | .adapt .. | .hostFreeze .. | .hostResume .. | .hostSetMu .. | .hostStatus ..
  | .setPreset .. | .hostStop .. | .hlCtlWrite .. | .hlCalDone .. | .blockLock .. | .capabilityPageRx ..
  | .capabilityPageTx .. | .switchElapsed .. | .trainingFrameRx .. | .trainLimit .. | .negTimerLimit ..
  | .linkDownTimeout .. | .restart .. | .rxIdleSet .. | .rxIdleClear .. | .fastExitMarker .. | .hcoefDataWrite ..
  | .muxLock .. | .muxLockLost .. | .markerLock .. | .deskewDone .. | .markerLoss .. | .lanesNotReady ..
  | .forceTx .. | .forceRx .. | .slip .. | .monWindowEnd .. | .pairHail .. | .pairRelease .. | .hailTimer
  | .hailLimit | .confirmWaitExpiry | .heartbeatTimer | .adrift | .adriftLimit | .hail .. | .answer .. | .confirm ..
  | .heartbeat .. | .posRun .. | .posAutoRerun | .rangeRun .. | .range .. | .rangeEcho .. | .coordStart ..
  | .coordAbort .. | .propose .. | .accept .. | .reject .. | .go .. | .abort .. | .coordCutoff | .prepare ..
  | .switch .. | .returnOp .. | .spareAbort .. | .assign .. | .force .. | .spareReq .. | .spareRsp ..
  | .spareStatus .. | .spareMatch .. | .spareMismatch | .spareTrainLimit | .emergency .. | .emergencyIdentified ..
  | .healthRequest .. | .healthReq .. | .health .. | .release .. | .releaseAck .. | .releaseResend | .txQctlGo ..
  | .packetTxStart | .txDone .. | .fogRxEnable .. | .preambleDetection .. | .preambleEnd | .frameMarker ..
  | .headerDecoded .. | .payloadEnd .. | .trackLost | .rxPop .. | .dutyListen .. | .freqWrite .. | .stepSet ..
  | .stepAdd .. | .stepSetTpi .. | .stepApplied .. | .stepCancel .. | .clrCoarse .. | .tbEnable .. | .snap ..
  | .evtTbWrite .. | .frameStamp .. | .ptPop .. | .ltPop .. | .tpoEdge .. | .tpiEdge .. | .tpiPop .. | .seWrite ..
  | .histPop .. | .schedWake | .refCtlWrite .. | .refSettled | .seqStart .. | .seqStop .. | .hkResult ..
  | .hkCalStart .. | .hkRxWrite .. | .fcoefDataWrite .. | .hkPop .. | .chCodeWrite .. | .strobe .. | .streamResume ..
  | .modeChange .. | .changeDone .. | .shortCircuit .. | .compliance .. | .meas .. | .measTimer | .forceBand ..
  | .invalCtl .. | .invalDone | .sealCtl .. | .sealDone | .repApply .. | .ddrInit .. | .ddrTrained ..
  | .ddrSealCtl .. | .pvCtl .. | .ddrRefresh | .phyRecentre | .chTailWrite .. | .ringWrite .. | .descriptorStart ..
  | .descriptorComplete .. | .lateWriteErr .. | .dmaRun .. | .dmaStop .. | .dmaAbort .. | .shareWindow ..
  | .tapBlockClose | .tapCtlWrite .. | .aliasCtlWrite .. | .logDrain | .drainWrite .. | .anchClrWrite .. | .hrec ..
  | .powerRequest .. | .pcieWake | .handshakeAnswer .. | .handshakeDelayExpiry .. | .handshakeTimeout | .wakePin ..
  | .wake | .domOn .. | .domOff .. | .voltageRequest | .pmbusPoll .. | .attemptTimeout | .pmbAlert .. | .pmbEnable ..
  | .provision .. | .field .. | .lcChanged .. | .arbCtl .. | .keeperLoad .. | .keeperRestart .. | .keeperHalt ..
  | .keeperStep .. | .lockstep | .chalNew .. | .request .. | .submit .. | .tokenCheckDone .. | .lock ..
  | .unlockExpiry | .apply .. | .stagingDone | .versionConfirm .. | .confirmTimeout | .rollback .. | .bistStart ..
  | .bistStop .. | .bistPrecondLapse .. | .laneBistStart .. | .clrAll .. | .globalEn .. | .porstNLow
  | .pcieConfigWrite .. | .blockLockLost .. | .shortCircuitEnd .. | .complianceEnd .. | .entryStepDone | .domDone ..
  | .pvDone | .xtalResume => true

end Sys2Proof
end

