-- ==== Sys2Proof/Tests/Slice0.lean ====
section
/-! SUPPORT. Tests: ill-formed commands are refused, worked examples of the spec, and for each statement with premises a state
and operands that meet all of them. -/

set_option maxRecDepth 8192

open Sys2Proof Sys2Proof.Machine Sys2Proof.Machine.State

/-- Reset with every domain powered. -/
def Sys2Proof.Machine.State.on : State := { State.reset with domOn := 0xFFFFFF }

/-- Engine `e` ready to issue an instruction: its clock runs, and the bank in use holds 2,048 words. -/
def Sys2Proof.Machine.State.engUp (s : State) (e : Nat) : State :=
  let s := s.modPwr fun p => { p with clkOff := false }
  let s := if e < 17 then s.setB (pllRegs (linePll e)).blk (pllRegs (linePll e)).lock true
    else s.setB Blk.clk CLK.STAT_REF_PLL_LOCK true
  let s := ((s.setEf e ENG.LE_STAT_BANK_IN_USE 0).setEf e ENG.UC_BANK0_VALID 1).setEf e ENG.UC_BANK0_LEN 2048
  s.modEng e fun g => { g with run := .running, pc := 3, s := [(1, 0x100), (2, 7)] }

/-- The pairing is in state `st` with its keys held. -/
def Sys2Proof.Machine.State.twUp (s : State) (st : Nat) : State :=
  ((s.setF Blk.twin TWIN.PAIR_STAT_STATE st).setF Blk.twin TWIN.PAIR_STAT_KEYS_LOST 0).modTwin fun t => { t with keys := true }

/-! ### Ill-formed commands are refused -/

/-- A boot input with nothing in flash. -/
def bootNone : BootInput := ⟨0, none, [], [], [], 0, true, 0x7F, [], false, 0, 0⟩

theorem test_illformed_boot : Instr.wf (.powerOnReset { bootNone with firmware := [⟨1, 0, 0⟩, ⟨1, 0, 0⟩, ⟨1, 0, 0⟩] }) = false ∧
    Instr.wf (.powerOnReset { bootNone with bundles := [⟨1, 0, 0⟩, ⟨1, 0, 0⟩, ⟨1, 0, 0⟩] }) = false ∧
    Instr.wf (.powerOnReset { bootNone with slots := [⟨2, 1, ⟨0, false, []⟩⟩, ⟨2, 1, ⟨0, false, []⟩⟩] }) = false ∧
    Instr.wf (.powerOnReset { bootNone with slots := [⟨2, 1, ⟨0, false, [.hdac []]⟩⟩] }) = false ∧
    Instr.wf (.exitStepDone true (some { bootNone with firmware := [⟨1, 0, 0⟩, ⟨1, 0, 0⟩, ⟨1, 0, 0⟩] })) = false ∧
    Instr.wf (.keeperRestartDone 0 (some [⟨1, 0, 0⟩, ⟨1, 0, 0⟩, ⟨1, 0, 0⟩])) = false := by decide

theorem test_illformed_image : Instr.wf (.verifyingDone 1 ⟨0, false, [.hdac [0]]⟩) = false ∧
    Instr.wf (.verifyingDone 1 ⟨0, false, [.hkcal [0]]⟩) = false ∧
    Instr.wf (.verifyingDone 1 ⟨0, false, [.regs 0xFFFFFC [0, 0]]⟩) = false := by decide

theorem test_illformed_memory : Instr.wf (.hostMemRead .pcie .bar2 0 0 []) = false ∧
    Instr.wf (.hostMemRead .pcie .bar2 0 4097 []) = false ∧ Instr.wf (.hostMemRead .pcie .bar2 0 4 [⟨0, 0⟩]) = false ∧
    Instr.wf (.hostMemRead .pcie .bar2 0 4 [⟨2 ^ 34, 1⟩]) = false ∧ Instr.wf (.hostMemWrite .pcie .bar4 0 []) = false ∧
    Instr.wf (.sramScrub [⟨0, 0⟩]) = false ∧ Instr.wf (.ddrScrub [⟨0, 0⟩]) = false ∧
    Instr.wf (.goldenReload (some [0])) = false := by decide

theorem test_illformed_long_write : Instr.wf (.hostMemWrite .pcie .bar2 0 (List.replicate 4097 0)) = false := by
  have h : decide ((List.replicate 4097 (0 : Byte)).length ≤ 4096) = false := by rw [List.length_replicate]; decide
  show (decide (0 < (List.replicate 4097 (0 : Byte)).length) && decide ((List.replicate 4097 (0 : Byte)).length ≤ 4096)) = false
  rw [h, Bool.and_false]

theorem test_illformed_i2c : Instr.wf (.i2cWrite []) = false ∧ Instr.wf (.i2cRead 0) = false := by decide

theorem test_illformed_calibration : Instr.wf (.fgCalDone 0 [⟨136, 0, 0, 0, true⟩] 0 0) = false ∧
    Instr.wf (.fgCalDone 0 [⟨1, 0, 0, 0, true⟩, ⟨1, 0, 0, 0, true⟩] 0 0) = false ∧
    Instr.wf (.dacCalDone 0 [⟨132, 0, true⟩] 0 0) = false ∧
    Instr.wf (.dacCalDone 0 [⟨1, 0, true⟩, ⟨1, 0, true⟩] 0 0) = false ∧ Instr.wf (.calDone 0 []) = false := by decide

theorem test_illformed_codewords : Instr.wf (.innerCodewordDecoded 0 0 [] 0) = false ∧
    Instr.wf (.lpcBlockEnd 0 [⟨1, 0, false, 0⟩, ⟨1, 0, false, 0⟩]) = false ∧
    Instr.wf (.rsCodewordMonitored 0 true 0 .clean []) = false := by decide

theorem test_illformed_windows : Instr.wf (.histDone (.line 0) [(1, 0), (1, 0)]) = false ∧
    Instr.wf (.gaWindowEnd (.line 0) [(1, 0), (1, 0)]) = false ∧
    Instr.wf (.train 0 true [(1, 0), (1, 0)] 0 0) = false ∧ Instr.wf (.spareTrain 0 true [(1, 0), (1, 0)] 0 0) = false := by
  decide

theorem test_illformed_lists : Instr.wf (.pos ⟨1, true⟩ (List.replicate 9 ⟨0, 0, 0, 0⟩)) = false ∧
    Instr.wf (.posAck ⟨1, true⟩ (List.replicate 9 ⟨0, 0, 0⟩)) = false ∧ Instr.wf (.measurementDone []) = false ∧
    Instr.wf (.entryFire [1, 1]) = false ∧ Instr.wf (.bistDone [⟨1, true, true, 0⟩, ⟨1, true, true, 0⟩]) = false ∧
    Instr.wf (.laneDone true true true [1, 1] []) = false ∧ Instr.wf (.laneDone true true true [] [1, 1]) = false := by decide

theorem test_wellformed : Instr.wf .linkDown = true ∧ Instr.wf (.hostMemRead .pcie .bar2 0 4 [⟨0, 1⟩]) = true ∧
    Instr.wf (.powerOnReset bootNone) = true := by decide

/-! ### Worked examples and printed values of the spec -/

/-- 02: PORT7 has interrupt index 122 and its window at 0x21_C000; its map byte lies in the word at GLB + 0x378. -/
theorem test_map_port7 : Blk.port 7 = 122 ∧ bar0Target 0x21C000 = .reg 122 0 0 ∧ GLB.MSIX_MAP (122 / 4) = 0x378 ∧ 122 % 4 = 2 := by
  decide

/-- 03, 06, 07: the pages of LLANE5, LCLU1, HLANE16 and HCLU1, and the control set of LE5 at 0x0C_4280. -/
theorem test_map_lanes : bar0Target 0x94000 = .reg (Blk.llane 5) 0 0 ∧ bar0Target 0xC4280 = .reg (engBlk 5) (engBase 5) 0 ∧
    bar0Target 0x140000 = .reg (Blk.hlane 16) 0 0 ∧ bar0Target 0xD4000 = .reg (Blk.hclu 1) 0 0 ∧
    bar0Target 0x64194 = .reg Blk.fec (FEC.LANE_CTL 5) 0 := by decide

/-- 02: the aliases of a window, the MSI-X table, the pending-bit array and an offset that nothing covers (R36 to R38). -/
theorem test_map_aliases : bar0Target 0x21D010 = .reg 122 0x10 1 ∧ bar0Target 0x21F010 = .reg 122 0x10 3 ∧
    bar0Target 0xFE0014 = .msix 1 1 ∧ bar0Target 0xFE1004 = .pba 1 ∧ bar0Target 0xFFF000 = .unmapped := by decide

/-- 01: LL5 needs PD_LCD1 (9), HL16 PD_HC1 (18) and a port PD_PMAP (21). -/
theorem test_domains : blkDomain (Blk.llane 5) = 9 ∧ blkDomain (Blk.hlane 16) = 18 ∧ blkDomain (Blk.port 5) = 21 := by decide

/-- 14: bank 1 of engine 5 lies at 0x02F5_2000, and the golden copy of its page 3 at 0x0241_6C00. -/
theorem test_golden_page : ucBase 5 1 = 0x2F52000 ∧ 1024 * goldPageOf (0x2F52C00 / 1024) = 0x2416C00 := by decide

/-- 06: UC_SEAL = 0x0600_0011 is SEAL of bank 1 with LEN 1,536. -/
theorem test_uc_seal_word : (ENG.UC_SEAL_SEAL 0x280).get 0x06000011 = 1 ∧ (ENG.UC_SEAL_BANK 0x280).get 0x06000011 = 1 ∧
    (ENG.UC_SEAL_LEN 0x280).get 0x06000011 = 1536 := by decide

/-- 09: SPARE_CTL = 0x01F4_0115 is PREPARE of lane 5 with AUTO_SWITCH and a limit of 500. -/
theorem test_spare_ctl_word : TWIN.SPARE_CTL_LANE.get 0x01F40115 = 5 ∧ TWIN.SPARE_CTL_OP.get 0x01F40115 = 1 ∧
    TWIN.SPARE_CTL_AUTO_SWITCH.get 0x01F40115 = 1 ∧ TWIN.SPARE_CTL_TRAIN_LIMIT.get 0x01F40115 = 500 := by decide

/-- 17: CFGV.CTL = 0x0004_2B03 is AUTO_RESTORE, COORD_EN, RB_SE 43 and REF_PORT 4. -/
theorem test_cfgv_ctl_word : CFGV.CTL_AUTO_RESTORE.get 0x00042B03 = 1 ∧ CFGV.CTL_COORD_EN.get 0x00042B03 = 1 ∧
    CFGV.CTL_RB_SE.get 0x00042B03 = 43 ∧ CFGV.CTL_REF_PORT.get 0x00042B03 = 4 := by decide

/-- 07: HL16's page at reset with TRAIN and FASTX carries 0x3F in bits [23:16]. -/
theorem test_host_page : (State.reset.hostPage 16).toNat / 2 ^ 16 % 256 = 0x3F ∧ (State.reset.hostPage 16).toNat % 4096 = 0xD4B := by
  decide

/-- 15: CRC-32C of the digits 1 to 9 is 0xE306_9283, the published check value of that code. -/
theorem test_crc32c : Codec.crc32c [0x31, 0x32, 0x33, 0x34, 0x35, 0x36, 0x37, 0x38, 0x39] = 0xE3069283 := by decide

/-- 14 R336: the check bits of 0x01 are c0 and c1, and p makes the 13 bits even. -/
theorem test_light_code : Codec.eccEncode 0x01 = 0x1301 ∧ Codec.eccDecode 0x1301 = .clean 1 ∧ Codec.eccDecode 0x1300 = .corrected 1 ∧
    Codec.eccDecode 0x1303 = .corrected 1 ∧ Codec.eccDecode 0x1302 = .flagged := by decide

/-- 01, 13: printed Reset values: BLK_ID of GLB has version 0xA0, DOM_PWR is 0x80001F, BT0 is -20 °C. -/
theorem test_reset_words : (resetWord Blk.glb 0).toNat % 256 = 0xA0 ∧ resetWord Blk.glb 0x180 = 0x80001F ∧
    resetWord Blk.therm (THERM.BT 0) = 0xF60 := by decide

/-- A step on an empty queue at reset counts one AON edge; a waiting command runs first. -/
theorem test_step_front : (match step { State.reset with pending := [.linkDown] } with | .next t => t.pending | _ => [.linkDown]) = [] := by
  decide

/-! ### Premises of the clauses that are not about one command -/

theorem test_premises_IdleClock_0 : ∃ s : State, s.pending = [] ∧ (s.inReset = true ∨ s.fb Blk.aon AON.XTAL_STAT_OK = false) :=
  ⟨{ State.reset with inReset := true }, rfl, .inl rfl⟩

theorem test_premises_IdleClock_1 : ∃ s : State, s.pending = [] ∧ s.inReset = false ∧ s.fb Blk.aon AON.XTAL_STAT_OK = true :=
  ⟨State.reset, by decide⟩

theorem test_premises_UnmappedOffsets_0 : ∃ (s : State) (q : Requester) (a : Nat), bar0Target a = .unmapped ∧ s.dbgAdmits q false = true :=
  ⟨State.reset, .pcie, 0xFF0800, by decide⟩

theorem test_premises_UnmappedOffsets_2 : ∃ a : Nat, ((0xFE0000 ≤ a ∧ a < 0xFE4000) ∨ (0xFF0000 ≤ a ∧ a ≤ 0xFFFFFF)) ∧
    0xFE1020 ≤ a ∧ a < 0xFE4000 := ⟨0xFE3FFF, by decide⟩

theorem test_premises_DeniedSram_0 : ∃ (s : State) (q : Requester) (a : Nat) (w : Bool), sramRegion (a - a % 4) = some (6, 5) ∧
    sramDomain (a - a % 4) = some 9 ∧ s.domReady 9 = true ∧ s.bar2Allows q (a - a % 4) w = false :=
  ⟨State.on, .pcie, 0x2F52000, true, by decide⟩

theorem test_premises_DeniedSram_0_off : ∃ (s : State) (a : Nat), sramRegion (a - a % 4) = some (6, 5) ∧
    sramDomain (a - a % 4) = some 9 ∧ s.domReady 9 = false := ⟨State.reset, 0x2F52000, by decide⟩

theorem test_premises_DeniedSram_0_open : ∃ (s : State) (q : Requester) (a : Nat) (w : Bool),
    sramRegion (a - a % 4) = some (0, 0) ∧ sramDomain (a - a % 4) = some 2 ∧ s.domReady 2 = true ∧
    s.bar2Allows q (a - a % 4) w = true := ⟨State.on, .pcie, 0, true, by decide⟩

theorem test_premises_DeniedSram_0_none : ∃ a : Nat, sramRegion (a - a % 4) = none := ⟨0x2400000 - 4 + 0xB04004, by decide⟩

theorem test_premises_DeniedSram_1 : ∃ (q : Requester) (x r e : Nat), sramRegion x = some (r, e) ∧ q ≠ .keeper ∧ q ≠ .debug :=
  ⟨.pcie, 0x2F52000, 6, 5, by decide⟩

theorem test_premises_TimeBaseStops_1 : ∃ (s t : State) (n : Fin 4), s.fb Blk.time (TIME.TB_STAT_RUNNING n) = false ∧ tick s = .next t :=
  ⟨State.reset, _, 1, by decide, rfl⟩

theorem test_premises_FusesOnlyForward_0 : ∃ s t : State, s.fuse.Ok ∧ step s = .next t :=
  ⟨State.reset, _, ⟨by decide, by decide, by decide⟩, rfl⟩

theorem test_premises_MemoryForm_0 : ∃ s t : State, Memory.wf s.sram.bytes ∧ Memory.wf s.ddr.bytes ∧ step s = .next t :=
  ⟨State.reset, _, by decide, by decide, rfl⟩

theorem test_premises_OnlyTheseCommands_0 : ∃ (c : Instr) (s t : State), exec c s = .next t ∧ c.movesDomains = false ∧
    c.movesPerst = false ∧ c.movesDacClr = false ∧ c.movesFunction = false ∧ c.movesTime = false :=
  ⟨.linkDown, State.reset, _, rfl, by decide⟩

theorem test_premises_InterruptLine_2 : ∃ s : State, s.domReady Dom.fab = true := ⟨State.reset, by decide⟩

theorem test_premises_InterruptLine_3 : ∃ s : State, s.domReady Dom.fab = false := ⟨{ State.reset with domOn := 1 }, by decide⟩

theorem test_premises_LightCode_3 : ∃ i j : Fin 13, i ≠ j := ⟨0, 12, by decide⟩

theorem test_premises_HardwareLoop_0 : ∃ (g : Engine) (n st en k : Nat), st ≤ en ∧ en < 2048 ∧ k < n ∧ g.loop = some (n, st, en) ∧ g.pc = st :=
  ⟨{ loop := some (3, 4, 2047), pc := 4 }, 3, 4, 2047, 2, by decide⟩

theorem test_premises_HardwareLoop_1 : ∃ (g : Engine) (n st en : Nat), st ≤ en ∧ en < 2048 ∧ 1 ≤ n ∧ g.loop = some (n, st, en) ∧ g.pc = st :=
  ⟨{ loop := some (1, 4, 4), pc := 4 }, 1, 4, 4, by decide⟩

theorem test_premises_HardwareLoop_2 : ∃ (g : Engine) (n st en : Nat), g.loop = some (n, st, en) :=
  ⟨{ loop := some (2, 1, 5) }, 2, 1, 5, rfl⟩

/-! ### The premises of the statements can be met -/

theorem test_premises_PcieFunctionEvents_1 :
    ∃ (s : State), s.domReady Dom.pcie = true ∧ s.held = false :=
  ⟨State.on, by decide⟩

theorem test_premises_PcieFunctionEvents_2 :
    ∃ (s : State), s.domReady Dom.pcie = true :=
  ⟨State.on, by decide⟩

theorem test_premises_PcieFunctionEvents_3 :
    ∃ (s : State), s.domReady Dom.pcie = true ∧ s.held = false :=
  ⟨State.on, by decide⟩

theorem test_premises_PcieFunctionEvents_4 :
    ∃ (s : State), s.domReady Dom.pcie = true ∧ s.held = false :=
  ⟨State.on, by decide⟩

theorem test_premises_PcieFunctionEvents_5 :
    ∃ (s : State), s.domReady Dom.pcie = true ∧ s.held = false :=
  ⟨State.on, by decide⟩

theorem test_premises_PcieFunctionEvents_6 :
    ∃ (s : State) (v : Fin 256), s.domReady Dom.pcie = true ∧ s.held = false ∧ s.msixEn = true ∧ s.linkUp = true ∧ s.pba.getLsbD
    v = true ∧ s.vectorInput v = true :=
  ⟨(let v : Fin 256 := 1; let s : State := State.on; { (((s.setF Blk.pcie PCIE.LINK_STAT_DL_ACTIVE 1).setIntStat Blk.mem 1).setReg Blk.glb (GLB.MSIX_MAP 2) (BitVec.ofNat 32 v.val)) with msixEn := true, pba := s.pba ||| BitVec.twoPow 256 v.val, intEn := SMap.put 0 s.intEn Blk.mem 1 }),
    1, by decide⟩

theorem test_premises_BusWrites_0 :
    ∃ (s : State) (b : Nat) (al : Nat) (q : Requester) (addr : BitVec 24) (be : BitVec 4), s.dbgAdmits q true = true ∧ be = 15 ∧
    addr.toNat % 4 = 0 ∧ bar0Target addr.toNat = .reg b HDR.INT_EN al ∧ s.reach b = true :=
  ⟨State.on, (let b : Nat := 1; b % 179), (let al : Nat := 1; al % 4), .pcie,
    (let b : Nat := 1; let al : Nat := 1; let b : Nat := b % 179; let al : Nat := al % 4; BitVec.ofNat 24 (blkBase b + 4096 * al + 0x14)),
    15, by decide⟩

theorem test_premises_BusWrites_1 :
    ∃ (s : State) (q : Requester) (addr : BitVec 24) (be : BitVec 4), s.dbgAdmits q true = true ∧ s.domReady Dom.fab = true ∧ be
    = 15 ∧ addr.toNat % 4 = 0 ∧ bar0Target addr.toNat = .unmapped :=
  ⟨State.on, .pcie, (let addr : BitVec 24 := 1; BitVec.ofNat 24 (0xFF0800 + 4 * (addr.toNat % 200))), 15, by decide⟩

theorem test_premises_BusWrites_2 :
    ∃ (s : State) (q : Requester) (addr : BitVec 24) (be : BitVec 4), s.dbgAdmits q true = true ∧ s.domReady Dom.fab = true ∧
    (be ≠ 15 ∨ addr.toNat % 4 ≠ 0) :=
  ⟨State.on, .pcie, 1, 3, by decide⟩

theorem test_premises_BusWrites_3 :
    ∃ (s : State) (b : Nat) (off : Nat) (al : Nat) (top : Nat) (q : Requester) (addr : BitVec 24), s.dbgAdmits q true = true ∧
    addr.toNat % 4 = 0 ∧ bar0Target addr.toNat = .reg b off al ∧ s.reach b = true ∧ wideTop b off = some top :=
  ⟨State.on, Blk.twin, (let off : Nat := 1; TWIN.EXPECT_ID (off % 3)), (let al : Nat := 1; al % 4), TWIN.EXPECT_ID 3,
    .pcie,
    (let off : Nat := 1; let al : Nat := 1; let b : Nat := Blk.twin; let al : Nat := al % 4; let off : Nat := TWIN.EXPECT_ID (off % 3); BitVec.ofNat 24 (blkBase b + 4096 * al + off)),
    by decide⟩

theorem test_premises_BusWrites_4 :
    ∃ (s : State) (i : Fin 3) (lo : Word) (q : Requester) (addr : BitVec 24), s.dbgAdmits q true = true ∧ bar0Target addr.toNat
    = .reg Blk.twin (TWIN.EXPECT_ID 3) 0 ∧ addr.toNat % 4 = 0 ∧ s.reach Blk.twin = true ∧ SMap.get? s.hold (reqCode q) =
    some ⟨regKey Blk.twin (TWIN.EXPECT_ID 3), [(regKey Blk.twin (TWIN.EXPECT_ID i), ⟨0, lo⟩)]⟩ :=
  ⟨(let i : Fin 3 := 1; let lo : Word := 1; let q : Requester := .pcie; let s : State := State.on; { s with hold := SMap.set s.hold (reqCode q) ⟨regKey Blk.twin (TWIN.EXPECT_ID 3), [(regKey Blk.twin (TWIN.EXPECT_ID i), ⟨0, lo⟩)]⟩ }),
    1, 1, .pcie, BitVec.ofNat 24 (blkBase Blk.twin + TWIN.EXPECT_ID 3), by decide⟩

theorem test_premises_BusWrites_5 :
    ∃ (s : State) (b : Nat) (o : Nat) (al : Nat) (q : Requester) (bar : Bar) (off : BitVec 34) (w : Bool), bar = .bar0 ∧
    s.dbgAdmits q w = true ∧ s.domReady Dom.fab = true ∧ off.toNat % 4 = 0 ∧ bar0Target off.toNat = .reg b o al ∧ s.reach b
    = false :=
  ⟨(let s : State := State.on; { s with domOn := 0x80001F }), (let b : Nat := 1; Blk.port (b % 64)),
    (let o : Nat := 1; 4 * (o % 1024)), (let al : Nat := 1; al % 4), .pcie, .bar0,
    (let b : Nat := 1; let o : Nat := 1; let al : Nat := 1; let b : Nat := Blk.port (b % 64); let al : Nat := al % 4; let o : Nat := 4 * (o % 1024); BitVec.ofNat 34 (blkBase b + 4096 * al + o)),
    true, by decide⟩

theorem test_premises_BusWrites_6 :
    ∃ (s : State) (q : Requester) (bar : Bar) (off : BitVec 34) (len : Nat) (flips : List Flip), bar = .bar4 ∧ flips = [] ∧
    s.memReach q = true ∧ 0 < len ∧ s.inBar .bar4 off.toNat len = true ∧ s.bar4Judge off.toNat len = .ok ∧ s.ddr.flips = []
    ∧ s.ddr.poison = [] :=
  ⟨(let flips : List Flip := []; let s : State := State.on; let u := (s.setF Blk.ddr DDR.CFG_SIZE_GIB 4).setF Blk.ddr DDR.STAT_TRAINED 1; let u := u.setF Blk.ddr DDR.STAT_SELF_REFRESH 0; { u with domOn := 0xFFFFFF, domBusy := 0, held := false, bar4Gib := 4, ddr := { u.ddr with flips := [], poison := [], pv := [(0, true)], bytes := [(3, 7), (9, 255)] } }),
    (let q : Requester := .pcie; if q = .i2c then .pcie else q), .bar4, (let off : BitVec 34 := 1; off &&& 0x3FF),
    (let len : Nat := 1; len % 200 + 1), [], by decide⟩

theorem test_premises_BusWrites_7 :
    ∃ (s : State) (q : Requester) (bar : Bar) (off : BitVec 34) (data : List Byte), bar = .bar4 ∧ s.memReach q = true ∧ data ≠
    [] ∧ s.inBar .bar4 off.toNat data.length = true ∧ s.bar4Judge off.toNat data.length = .ok :=
  ⟨(let s : State := State.on; let u := (s.setF Blk.ddr DDR.CFG_SIZE_GIB 4).setF Blk.ddr DDR.STAT_TRAINED 1; let u := u.setF Blk.ddr DDR.STAT_SELF_REFRESH 0; { u with domOn := 0xFFFFFF, domBusy := 0, held := false, bar4Gib := 4, ddr := { u.ddr with pv := [(0, true)], bytes := [(3, 7), (9, 255)] } }),
    (let q : Requester := .pcie; if q = .i2c then .pcie else q), .bar4, (let off : BitVec 34 := 1; off &&& 0x3FF), [1, 2],
    by decide⟩

theorem test_premises_I2cTarget_0 :
    ∃ (s : State), s.domReady Dom.aon = true :=
  ⟨State.on, by decide⟩

theorem test_premises_I2cTarget_1 :
    ∃ (s : State) (first : Byte), s.domReady Dom.aon = true ∧ s.i2c.busy = false ∧ first.toNat % 16 < 4 :=
  ⟨(let s : State := State.on; { s with i2c := { s.i2c with busy := false } }), 2, by decide⟩

theorem test_premises_I2cTarget_2 :
    ∃ (s : State), s.domReady Dom.aon = true :=
  ⟨State.on, by decide⟩

theorem test_premises_I2cTarget_3 :
    ∃ (s : State), s.domReady Dom.aon = true ∧ s.i2c.busy = false ∧ s.i2c.addr.toNat < 2 ^ 24 :=
  ⟨(let s : State := State.on; { s with i2c := { s.i2c with busy := false, addr := s.i2c.addr &&& 0xFFFFFF } }),
    by decide⟩

theorem test_premises_I2cTarget_4 :
    ∃ (s : State), s.domReady Dom.aon = true ∧ s.i2c.busy = false ∧ s.i2c.addr.toNat < 2 ^ 24 :=
  ⟨(let s : State := State.on; { s with i2c := { s.i2c with busy := false, addr := s.i2c.addr &&& 0xFFFFFF } }),
    by decide⟩

theorem test_premises_I2cTarget_5 :
    ∃ (s : State), s.domReady Dom.aon = true ∧ s.i2c.busy = false ∧ s.i2c.addr.toNat < 2 ^ 24 :=
  ⟨(let s : State := State.on; { s with i2c := { s.i2c with busy := false, addr := s.i2c.addr &&& 0xFFFFFF } }),
    by decide⟩

theorem test_premises_I2cTarget_6 :
    ∃ (s : State), s.domReady Dom.aon = true ∧ s.i2c.busy = false ∧ s.i2c.addr.toNat < 2 ^ 24 :=
  ⟨(let s : State := State.on; { s with i2c := { s.i2c with busy := false, addr := s.i2c.addr &&& 0xFFFFFF } }),
    by decide⟩

theorem test_premises_I2cTarget_7 :
    ∃ (s : State), s.domReady Dom.aon = true ∧ s.i2c.busy = true ∧ s.f Blk.pwr PWR.STAT_STATE < 3 :=
  ⟨(let s : State := State.on; { (s.setF Blk.pwr PWR.STAT_STATE 0) with i2c := { s.i2c with busy := true, addr := s.i2c.addr &&& 0xFFFFFF, cmd := if s.i2c.cmd.getLsbD 0 then 5 else if s.i2c.cmd.getLsbD 1 then 6 else if s.i2c.cmd.getLsbD 2 then 1 else 2 } }),
    by decide⟩

theorem test_premises_I2cTarget_8 :
    ∃ (s : State) (b : Nat), s.domReady Dom.aon = true ∧ s.i2c.busy = true ∧ s.i2c.cmd = 1 ∧ s.f Blk.pwr PWR.STAT_STATE < 3 ∧
    bar0Target (s.i2c.addr.toNat - s.i2c.addr.toNat % 4) = .reg b HDR.INT_EN 0 ∧ s.reach b = true :=
  ⟨(let b : Nat := (let b : Nat := 1; b % 179); let s : State := State.on; { (s.setF Blk.pwr PWR.STAT_STATE 0) with i2c := { s.i2c with busy := true, addr := BitVec.ofNat 32 (blkBase b + 0x14), cmd := 1 } }),
    (let b : Nat := 1; b % 179), by decide⟩

theorem test_premises_I2cTarget_9 :
    ∃ (s : State), s.domReady Dom.aon = true ∧ (s.f Blk.pwr PWR.WAKE_EN_EN).testBit 4 = true ∧ 1 ≤ s.wakeState ∧ s.wakeState ≤ 5 :=
  ⟨(let s : State := State.on; let u := s.setF Blk.pwr PWR.WAKE_EN_EN (s.f Blk.pwr PWR.WAKE_EN_EN ||| 16); { u with pwr := { u.pwr with target := 3 } }),
    by decide⟩

theorem test_premises_PageHeaderCommands_0 :
    ∃ (s : State) (q : Requester) (b : Fin 179), s.Serves q b true :=
  ⟨(let b : Fin 179 := 1; let s : State := State.on; { s with domOn := s.domOn ||| BitVec.twoPow 24 (blkDomain b) }),
    .pcie, 1, by decide⟩

theorem test_premises_PageHeaderCommands_1 :
    ∃ (s : State) (off : Nat) (q : Requester) (b : Fin 179), s.Serves q b true ∧ hasStage (blkType b) = true ∧ s.staged b =
    false ∧ off ∈ rwsOffs b :=
  ⟨(let q : Requester := .pcie; let b : Fin 179 := (let q : Requester := .pcie; let b : Fin 179 := 1; if hasStage (blkType b) then b else (if q = .pcie then 26 else 115)); let s : State := State.on; s.setF b HDR.BLK_CTL_STAGE 0),
    (let off : Nat := 1; let q : Requester := .pcie; let b : Fin 179 := 1; let b : Fin 179 := if hasStage (blkType b) then b else (if q = .pcie then 26 else 115); (rwsOffs b).getD (off % (max 1 (rwsOffs b).length)) 0),
    .pcie,
    (let q : Requester := .pcie; let b : Fin 179 := 1; if hasStage (blkType b) then b else (if q = .pcie then 26 else 115)),
    by decide⟩

theorem test_premises_PageHeaderCommands_2 :
    ∃ (s : State) (off : Nat) (q : Requester) (b : Fin 179), s.Serves q b true ∧ hasStage (blkType b) = true ∧ s.staged b = true
    ∧ off < 4096 :=
  ⟨(let q : Requester := .pcie; let b : Fin 179 := (let q : Requester := .pcie; let b : Fin 179 := 1; if hasStage (blkType b) then b else (if q = .pcie then 26 else 115)); let s : State := State.on; s.setF b HDR.BLK_CTL_STAGE 1),
    1, .pcie,
    (let q : Requester := .pcie; let b : Fin 179 := 1; if hasStage (blkType b) then b else (if q = .pcie then 26 else 115)),
    by decide⟩

theorem test_premises_PageHeaderCommands_3 :
    ∃ (s : State) (q : Requester) (b : Fin 179), s.Serves q b true :=
  ⟨State.on, .pcie, 1, by decide⟩

theorem test_premises_PageHeaderCommands_4 :
    ∃ (s : State) (q : Requester) (b : Fin 179), s.Serves q b true ∧ Machine.blkEngines b = [] ∧ b.val ≠ Blk.perf :=
  ⟨State.on, .pcie, 10, by decide⟩

theorem test_premises_PageHeaderCommands_5 :
    ∃ (s : State) (q : Requester) (b : Fin 179), s.Serves q b true ∧ b.val ≠ Blk.perf :=
  ⟨State.on, .pcie, 1, by decide⟩

theorem test_premises_PageHeaderCommands_6 :
    ∃ (s : State) (q : Requester) (b : Fin 179), s.Serves q b true ∧ hasStage (blkType b) = true ∧ s.staged b = true ∧
    s.pairsBad b (s.shadow b) s.portView = [] ∧ s.shadowFault b = false :=
  ⟨(let q : Requester := .pcie; let b : Fin 179 := (let q : Requester := .pcie; let b : Fin 179 := 1; if hasStage (blkType b) then b else (if q = .pcie then 26 else 115)); let s : State := State.on; (s.setF b HDR.BLK_CTL_STAGE 0).stageOn b),
    .pcie,
    (let q : Requester := .pcie; let b : Fin 179 := 1; if hasStage (blkType b) then b else (if q = .pcie then 26 else 115)),
    by decide⟩

theorem test_premises_PageHeaderCommands_7 :
    ∃ (s : State) (q : Requester) (b : Fin 179), s.Serves q b true ∧ hasStage (blkType b) = true ∧ s.staged b = true :=
  ⟨(let q : Requester := .pcie; let b : Fin 179 := (let q : Requester := .pcie; let b : Fin 179 := 1; if hasStage (blkType b) then b else (if q = .pcie then 26 else 115)); let s : State := State.on; s.setF b HDR.BLK_CTL_STAGE 1),
    .pcie,
    (let q : Requester := .pcie; let b : Fin 179 := 1; if hasStage (blkType b) then b else (if q = .pcie then 26 else 115)),
    by decide⟩

theorem test_premises_PageHeaderCommands_8 :
    ∃ (s : State) (q : Requester) (b : Fin 179), s.Serves q b true ∧ hasStage (blkType b) = true ∧ s.staged b = true ∧ s.armed b
    = false :=
  ⟨(let q : Requester := .pcie; let b : Fin 179 := (let q : Requester := .pcie; let b : Fin 179 := 1; if hasStage (blkType b) then b else (if q = .pcie then 26 else 115)); let s : State := State.on; (s.setF b HDR.BLK_CTL_STAGE 1).setF b HDR.STAGE_STAT_ARMED 0),
    .pcie,
    (let q : Requester := .pcie; let b : Fin 179 := 1; if hasStage (blkType b) then b else (if q = .pcie then 26 else 115)),
    by decide⟩

theorem test_premises_PageHeaderCommands_9 :
    ∃ (s : State) (q : Requester) (b : Fin 179), s.Serves q b true ∧ s.armed b = true :=
  ⟨(let b : Fin 179 := 1; let s : State := State.on; s.setF b HDR.STAGE_STAT_ARMED 1), .pcie, 1, by decide⟩

theorem test_premises_PageHeaderCommands_10 :
    ∃ (s : State) (k : Fin 256) (q : Requester) (b : Fin 179), s.Serves q b true ∧ hasStage (blkType b) = true ∧ s.staged b =
    true ∧ s.armed b = true ∧ s.f b HDR.STAGE_CTL_COMMIT_SE ≠ k.val :=
  ⟨(let q : Requester := .pcie; let b : Fin 179 := (let q : Requester := .pcie; let b : Fin 179 := 1; if hasStage (blkType b) then b else (if q = .pcie then 26 else 115)); let s : State := State.on; (s.setF b HDR.BLK_CTL_STAGE 1).setF b HDR.STAGE_STAT_ARMED 1),
    1, .pcie,
    (let q : Requester := .pcie; let b : Fin 179 := 1; if hasStage (blkType b) then b else (if q = .pcie then 26 else 115)),
    by decide⟩

theorem test_premises_ParityAndClocks_0 :
    ∃ (s : State) (b : Fin 179) (word : Fin 1024) (shadow : Bool), s.fabOn = true ∧ s.f Blk.glb GLB.PSWEEP_CTL_EN = 1 ∧ s.blkOn
    b = true ∧ shadow = false ∧ protectedBits b (4 * word.val) ≠ 0 :=
  ⟨(let s : State := State.on; (s.setF Blk.glb GLB.PSWEEP_CTL_EN 1)), 0, 100, false, by decide⟩

theorem test_premises_ParityAndClocks_1 :
    ∃ (s : State) (b : Fin 179) (word : Fin 1024) (shadow : Bool) (upset : BitVec 33), s.fabOn = true ∧ s.f Blk.glb
    GLB.PSWEEP_CTL_EN = 1 ∧ s.blkOn b = true ∧ shadow = false ∧ upset = 0 ∧ protectedBits b (4 * word.val) ≠ 0 ∧ regKey b (4
    * word.val) ∈ s.parBad ∧ regKey b (4 * word.val) ∉ s.parSeen :=
  ⟨(let b : Fin 179 := 0; let word : Fin 1024 := 100; let s : State := State.on; { (s.setF Blk.glb GLB.PSWEEP_CTL_EN 1) with parBad := [regKey b (4 * word.val)], parSeen := [] }),
    0, 100, false, 0, by decide⟩

theorem test_premises_ParityAndClocks_2 :
    ∃ (s : State) (x : CfgImage) (w : Word) (b : Fin 179) (word : Fin 1024), s.domReady Dom.kpr = true ∧ s.blkOn b = true ∧ s.fb
    Blk.cfgv CFGV.CTL_AUTO_RESTORE = true ∧ s.cfgv.active = some x ∧ imgValues x = [(b.val, 4 * word.val, w)] ∧ regKey b (4
    * word.val) ∈ s.parBad ∧ regKey b (4 * word.val) ∈ s.parSeen :=
  ⟨(let x : CfgImage := (let w : Word := 1; let b : Fin 179 := 1; let word : Fin 1024 := 1; ⟨1, false, [.regs (BitVec.ofNat 24 (blkBase b + 4 * word.val)) [w]]⟩); let b : Fin 179 := 1; let word : Fin 1024 := 1; let s : State := State.on; { (s.setF Blk.cfgv CFGV.CTL_AUTO_RESTORE 1) with cfgv := { s.cfgv with active := some x }, parBad := [regKey b (4 * word.val)], parSeen := [regKey b (4 * word.val)] }),
    (let w : Word := 1; let b : Fin 179 := 1; let word : Fin 1024 := 1; ⟨1, false, [.regs (BitVec.ofNat 24 (blkBase b + 4 * word.val)) [w]]⟩),
    1, 1, 1, by decide⟩

theorem test_premises_ParityAndClocks_3 :
    ∃ (s : State) (x : CfgImage) (w : Word) (b : Fin 179) (word : Fin 1024), s.domReady Dom.kpr = true ∧ s.blkOn b = true ∧ s.fb
    Blk.cfgv CFGV.CTL_AUTO_RESTORE = true ∧ s.cfgv.active = some x ∧ imgValues x = [(b.val, 4 * word.val, w)] ∧ b.val =
    Blk.glb ∧ 4 * word.val = GLB.MSIX_MAP 0 ∧ regKey b (4 * word.val) ∈ s.parBad ∧ regKey b (4 * word.val) ∈ s.parSeen :=
  ⟨(let x : CfgImage := (let w : Word := 1; let b : Fin 179 := 0; let word : Fin 1024 := 192; ⟨1, false, [.regs (BitVec.ofNat 24 (blkBase b + 4 * word.val)) [w]]⟩); let b : Fin 179 := 0; let word : Fin 1024 := 192; let s : State := State.on; { (s.setF Blk.cfgv CFGV.CTL_AUTO_RESTORE 1) with cfgv := { s.cfgv with active := some x }, parBad := [regKey b (4 * word.val)], parSeen := [regKey b (4 * word.val)] }),
    (let w : Word := 1; let b : Fin 179 := 0; let word : Fin 1024 := 192; ⟨1, false, [.regs (BitVec.ofNat 24 (blkBase b + 4 * word.val)) [w]]⟩),
    1, 0, 192, by decide⟩

theorem test_premises_ParityAndClocks_4 :
    ∃ (s : State), s.blkOn Blk.clk = true ∧ s.fb Blk.clk CLK.STAT_ON_AON = false :=
  ⟨(let s : State := State.on; s.setF Blk.clk CLK.STAT_ON_AON 0), by decide⟩

theorem test_premises_ParityAndClocks_5 :
    ∃ (s : State) (ppm : BitVec 16), s.blkOn Blk.clk = true ∧ s.fb Blk.clk CLK.STAT_ON_AON = true ∧ s.refBack = false ∧
    ppm.toInt.natAbs ≤ 1000 :=
  ⟨(let s : State := State.on; { s.setF Blk.clk CLK.STAT_ON_AON 1 with refBack := false }),
    (let ppm : BitVec 16 := 1; BitVec.ofInt 16 (ppm.toInt % 1001)), by decide⟩

theorem test_premises_ParityAndClocks_6 :
    ∃ (s : State), s.blkOn Blk.clk = true ∧ s.fb Blk.clk CLK.STAT_ON_AON = true ∧ s.refBack = true :=
  ⟨(let s : State := State.on; { s.setF Blk.clk CLK.STAT_ON_AON 1 with refBack := true }), by decide⟩

theorem test_premises_ParityAndClocks_7 :
    ∃ (s : State), s.blkOn Blk.aon = true ∧ s.fb Blk.aon AON.XTAL_STAT_OK = true :=
  ⟨(let s : State := State.on; s.setF Blk.aon AON.XTAL_STAT_OK 1), by decide⟩

theorem test_premises_ParityAndClocks_8 :
    ∃ (s : State), s.blkOn Blk.aon = true :=
  ⟨State.on, by decide⟩

theorem test_premises_LifecycleAndKeeper_0 :
    ∃ (s : State) (q : Requester), s.Serves q Blk.sec true ∧ s.fuse.target = none ∧ s.fuse.lifecycle = 0 ∧ q ≠ .debug ∧
    s.hashSet = true :=
  ⟨(let s : State := State.on; { s.setReg Blk.sec (SEC.ROOT_HASH 3) 1 with fuse := {} }), .pcie, by decide⟩

theorem test_premises_LifecycleAndKeeper_1 :
    ∃ (s : State) (q : Requester), s.Serves q Blk.sec true ∧ s.fuse.target = none ∧ s.fuse.lifecycle = 1 ∧ (q = .keeper ∨ ((q =
    .pcie ∨ q = .i2c) ∧ s.dbgLevel = 2)) :=
  ⟨(let s : State := State.on; { s.setF Blk.dbg DBG.STAT_LEVEL 2 with fuse := { s.fuse with target := none, lifecycle := 1 } }),
    .pcie, by decide⟩

theorem test_premises_LifecycleAndKeeper_2 :
    ∃ (s : State) (u : Nat), s.fuse.target = some u ∧ s.blkOn Blk.sec = true :=
  ⟨(let u : Nat := (let u : Nat := 1; u % 3 + 1); let s : State := State.on; { s with fuse := { s.fuse with target := some u } }),
    (let u : Nat := 1; u % 3 + 1), by decide⟩

theorem test_premises_LifecycleAndKeeper_3 :
    ∃ (s : State) (u : Nat), s.fuse.target = some u ∧ s.blkOn Blk.sec = true :=
  ⟨(let u : Nat := 1; let s : State := State.on; { s with fuse := { s.fuse with target := some u } }), 1, by decide⟩

theorem test_premises_LifecycleAndKeeper_4 :
    ∃ (s : State) (q : Requester) (v : Word), s.Serves q Blk.kpr true ∧ q ≠ .debug ∧ v.toNat / 256 = 0xA70000 ∧ s.fuse.arb <
    v.toNat % 256 ∧ v.toNat % 256 ≤ s.f Blk.kpr KPR.FW_SVN_SVN :=
  ⟨(let s : State := State.on; { s.setF Blk.kpr KPR.FW_SVN_SVN 63 with fuse := { s.fuse with arb := 2 } }), .pcie,
    (let v : Word := 1; BitVec.ofNat 32 (0xA7000003 + v.toNat % 60)), by decide⟩

theorem test_premises_LifecycleAndKeeper_5 :
    ∃ (s : State) (q : Requester) (v : Word), s.Serves q Blk.kpr true ∧ (v.toNat / 256 ≠ 0xA70000 ∨ v.toNat % 256 ≤ s.fuse.arb ∨
    s.f Blk.kpr KPR.FW_SVN_SVN < v.toNat % 256) :=
  ⟨State.on, .pcie, 1, by decide⟩

theorem test_premises_LifecycleAndKeeper_6 :
    ∃ (s : State) (q : Requester) (x : FwImage), s.Serves q Blk.kpr true ∧ s.f Blk.kpr KPR.KSTAT_STAGE = 8 ∧ s.f Blk.kpr
    KPR.KCTL_RESTART = 0 ∧ (x.result.val = 0 ∨ x.result.val = 7) :=
  ⟨(let s : State := State.on; (s.setF Blk.kpr KPR.KSTAT_STAGE 8).setF Blk.kpr KPR.KCTL_RESTART 0), .pcie, ⟨0, 5, 3⟩,
    by decide⟩

theorem test_premises_LifecycleAndKeeper_7 :
    ∃ (s : State) (q : Requester) (x : FwImage), s.Serves q Blk.kpr true ∧ s.f Blk.kpr KPR.KSTAT_STAGE = 8 ∧ s.f Blk.kpr
    KPR.KCTL_RESTART = 0 ∧ (x.result.val ≠ 0 ∧ x.result.val ≠ 7) :=
  ⟨(let s : State := State.on; (s.setF Blk.kpr KPR.KSTAT_STAGE 8).setF Blk.kpr KPR.KCTL_RESTART 0), .pcie, ⟨3, 5, 3⟩,
    by decide⟩

theorem test_premises_LifecycleAndKeeper_8 :
    ∃ (s : State) (q : Requester), s.Serves q Blk.kpr true :=
  ⟨State.on, .pcie, by decide⟩

theorem test_premises_LifecycleAndKeeper_9 :
    ∃ (s : State) (q : Requester), s.Serves q Blk.kpr true ∧ (q = .keeper ∨ s.dbgLevel = 2) ∧ s.f Blk.kpr KPR.KCTL_RESTART = 0 ∧
    s.f Blk.kpr KPR.KCTL_LOAD = 0 :=
  ⟨(let s : State := State.on; ((s.setF Blk.dbg DBG.STAT_LEVEL 2).setF Blk.kpr KPR.KCTL_RESTART 0).setF Blk.kpr KPR.KCTL_LOAD 0),
    .pcie, by decide⟩

theorem test_premises_LifecycleAndKeeper_10 :
    ∃ (s : State) (q : Requester), s.Serves q Blk.kpr true ∧ (q = .keeper ∨ s.dbgLevel = 2) ∧ s.fb Blk.kpr KPR.KCTL_HALT = true :=
  ⟨(let s : State := State.on; (s.setF Blk.dbg DBG.STAT_LEVEL 2).setF Blk.kpr KPR.KCTL_HALT 1), .pcie, by decide⟩

theorem test_premises_LifecycleAndKeeper_11 :
    ∃ (s : State), s.domReady Dom.kpr = true :=
  ⟨State.on, by decide⟩

theorem test_premises_LifecycleAndKeeper_12 :
    ∃ (s : State) (fw : Option (List FwImage)), s.domReady Dom.kpr = true ∧ s.f Blk.kpr KPR.KSTAT_STAGE = 0 ∧ s.pwr.exitStep = 0
    ∧ fw = none :=
  ⟨(let s : State := State.on; { s.setF Blk.kpr KPR.KSTAT_STAGE 0 with pwr := { s.pwr with exitStep := 0 } }), none,
    by decide⟩

theorem test_premises_DebugUnlock_0 :
    ∃ (s : State) (q : Requester), s.Serves q Blk.dbg true ∧ s.f Blk.dbg DBG.CTL_REQUEST = 0 ∧ s.f Blk.dbg DBG.CTL_SUBMIT = 0 ∧
    s.f Blk.dbg DBG.CTL_LOCK = 0 :=
  ⟨(let s : State := State.on; s.setReg Blk.dbg DBG.CTL 0), .pcie, by decide⟩

theorem test_premises_DebugUnlock_1 :
    ∃ (s : State) (q : Requester) (level : Fin 4), s.Serves q Blk.dbg true ∧ ((level = 1 ∧ s.fuse.lifecycle ≠ 2) ∨ (level = 2 ∧
    (s.fuse.lifecycle = 0 ∨ s.fuse.lifecycle = 3))) :=
  ⟨(let s : State := State.on; { s with fuse := { s.fuse with lifecycle := s.fuse.lifecycle % 2 } }), .pcie, 1, by decide⟩

theorem test_premises_DebugUnlock_2 :
    ∃ (s : State) (q : Requester) (level : Fin 4), s.Serves q Blk.dbg true ∧ (level = 1 ∨ level = 2) ∧ s.fuse.lifecycle = 2 :=
  ⟨(let s : State := State.on; { s with fuse := { s.fuse with lifecycle := 2 } }), .pcie, 1, by decide⟩

theorem test_premises_DebugUnlock_3 :
    ∃ (s : State) (q : Requester), s.Serves q Blk.dbg true ∧ s.f Blk.dbg DBG.CTL_REQUEST = 0 ∧ s.f Blk.dbg DBG.CTL_CHAL_NEW = 0
    ∧ s.f Blk.dbg DBG.CTL_LOCK = 0 ∧ s.f Blk.dbg DBG.STAT_BUSY = 0 :=
  ⟨(let s : State := State.on; (s.setReg Blk.dbg DBG.CTL 0).setF Blk.dbg DBG.STAT_BUSY 0), .pcie, by decide⟩

theorem test_premises_DebugUnlock_4 :
    ∃ (s : State) (tok : SMap Word) (nonce : Bool) (sigOk : Bool), s.dbg.check = some (tok, nonce) ∧ s.tokenFaults tok nonce
    sigOk = [] ∧ tokWord tok 1 / 2 ^ 24 = 0 :=
  ⟨(let tok : SMap Word := [(0, 0x54444254), (1, 0x000F0101)]; let nonce : Bool := true; let s : State := State.on; { s with dbg := { s.dbg with check := some (tok, nonce) }, fuse := {} }),
    [(0, 0x54444254), (1, 0x000F0101)], true, true, by decide⟩

theorem test_premises_DebugUnlock_5 :
    ∃ (s : State) (tok : SMap Word) (nonce : Bool) (sigOk : Bool), s.dbg.check = some (tok, nonce) ∧ s.tokenFaults tok nonce
    sigOk = [] ∧ tokWord tok 1 / 2 ^ 24 = 1 ∧ s.fuse.target = none :=
  ⟨(let tok : SMap Word := [(0, 0x54444254), (1, 0x010F0101)]; let nonce : Bool := true; let s : State := State.on; { s with dbg := { s.dbg with check := some (tok, nonce) }, fuse := { lifecycle := 2 } }),
    [(0, 0x54444254), (1, 0x010F0101)], true, true, by decide⟩

theorem test_premises_DebugUnlock_6 :
    ∃ (s : State) (tok : SMap Word) (nonce : Bool) (code : Nat) (sigOk : Bool), s.dbg.check = some (tok, nonce) ∧ s.tokenFaults
    tok nonce sigOk = [code] :=
  ⟨(let tok : SMap Word := [(0, 0x54444254), (1, 0x000F0101)]; let nonce : Bool := true; let s : State := State.on; { s with dbg := { s.dbg with check := some (tok, nonce) }, fuse := {} }),
    [(0, 0x54444254), (1, 0x000F0101)], true, 2, false, by decide⟩

theorem test_premises_DebugUnlock_7 :
    ∃ (s : State) (q : Requester), s.Serves q Blk.dbg true ∧ s.f Blk.dbg DBG.CTL_REQUEST = 0 ∧ s.f Blk.dbg DBG.CTL_SUBMIT = 0 ∧
    s.f Blk.dbg DBG.CTL_CHAL_NEW = 0 ∧ s.dbgLevel ≠ 0 :=
  ⟨(let s : State := State.on; (s.setReg Blk.dbg DBG.CTL 0).setF Blk.dbg DBG.STAT_LEVEL 2), .pcie, by decide⟩

theorem test_premises_DebugUnlock_8 :
    ∃ (s : State) (n : Nat), s.dbg.until_ = some n ∧ s.dbgLevel ≠ 0 :=
  ⟨(let n : Nat := 1; let s : State := State.on; { s.setF Blk.dbg DBG.STAT_LEVEL 1 with dbg := { s.dbg with until_ := some n } }),
    1, by decide⟩

theorem test_premises_ConfigurationVersions_0 :
    ∃ (s : State) (q : Requester), s.Serves q Blk.cfgv true ∧ s.cfgPhase = 0 :=
  ⟨(let s : State := State.on; s.setF Blk.cfgv CFGV.STAT_PHASE 0), .pcie, by decide⟩

theorem test_premises_ConfigurationVersions_1 :
    ∃ (s : State) (q : Requester), s.Serves q Blk.cfgv true ∧ s.cfgPhase ≠ 0 :=
  ⟨(let s : State := State.on; s.setF Blk.cfgv CFGV.STAT_PHASE 3), .pcie, by decide⟩

theorem test_premises_ConfigurationVersions_2 :
    ∃ (s : State) (result : Fin 8), s.kprRuns = true ∧ s.cfgPhase = 1 ∧ (result.val = 0 ∨ result.val = 7) :=
  ⟨(let s : State := State.on; ((s.setF Blk.cfgv CFGV.STAT_PHASE 1).setF Blk.kpr KPR.KSTAT_STAGE 7).setF Blk.kpr KPR.KCTL_HALT 0),
    0, by decide⟩

theorem test_premises_ConfigurationVersions_3 :
    ∃ (s : State) (result : Fin 8), s.kprRuns = true ∧ s.cfgPhase = 1 ∧ (result.val ≠ 0 ∧ result.val ≠ 7) :=
  ⟨(let s : State := State.on; ((s.setF Blk.cfgv CFGV.STAT_PHASE 1).setF Blk.kpr KPR.KSTAT_STAGE 7).setF Blk.kpr KPR.KCTL_HALT 0),
    2, by decide⟩

theorem test_premises_ConfigurationVersions_4 :
    ∃ (s : State) (x : CfgImage), s.kprRuns = true ∧ s.cfgPhase = 2 ∧ s.cfgv.img = some x :=
  ⟨(let x : CfgImage := ⟨1, false, []⟩; let s : State := State.on; { ((s.setF Blk.cfgv CFGV.STAT_PHASE 2).setF Blk.kpr KPR.KSTAT_STAGE 7).setF Blk.kpr KPR.KCTL_HALT 0 with cfgv := { s.cfgv with img := some x } }),
    ⟨1, false, []⟩, by decide⟩

theorem test_premises_ConfigurationVersions_5 :
    ∃ (s : State) (q : Requester) (v : Word), s.Serves q Blk.cfgv true ∧ s.cfgPhase = 4 ∧ v = s.reg Blk.cfgv CFGV.ACT_VER :=
  ⟨(let v : Word := 1; let s : State := State.on; (s.setF Blk.cfgv CFGV.STAT_PHASE 4).setReg Blk.cfgv CFGV.ACT_VER v),
    .pcie, 1, by decide⟩

theorem test_premises_ConfigurationVersions_6 :
    ∃ (s : State) (q : Requester) (v : Word), s.Serves q Blk.cfgv true ∧ (s.cfgPhase ≠ 4 ∨ v ≠ s.reg Blk.cfgv CFGV.ACT_VER) :=
  ⟨State.on, .pcie, 1, by decide⟩

theorem test_premises_ConfigurationVersions_7 :
    ∃ (s : State), s.domReady Dom.kpr = true ∧ s.cfgPhase = 4 ∧ s.fb Blk.cfgv CFGV.STAT_TIMER_RUN = true ∧ s.f Blk.cfgv
    CFGV.SLOTS_PREV ≠ 255 :=
  ⟨(let s : State := State.on; ((s.setF Blk.cfgv CFGV.STAT_PHASE 4).setF Blk.cfgv CFGV.STAT_TIMER_RUN 1).setF Blk.cfgv CFGV.SLOTS_PREV 3),
    by decide⟩

theorem test_premises_ConfigurationVersions_8 :
    ∃ (s : State) (q : Requester), s.Serves q Blk.cfgv true ∧ (s.cfgPhase = 0 ∨ s.cfgPhase = 4) ∧ s.f Blk.cfgv CFGV.SLOTS_PREV ≠
    255 :=
  ⟨(let s : State := State.on; (s.setF Blk.cfgv CFGV.STAT_PHASE 4).setF Blk.cfgv CFGV.SLOTS_PREV 3), .pcie, by decide⟩

theorem test_premises_ConfigurationVersions_9 :
    ∃ (s : State) (q : Requester), s.Serves q Blk.cfgv true ∧ (s.cfgPhase = 0 ∨ s.cfgPhase = 4) ∧ s.f Blk.cfgv CFGV.SLOTS_PREV =
    255 :=
  ⟨(let s : State := State.on; (s.setF Blk.cfgv CFGV.STAT_PHASE 4).setF Blk.cfgv CFGV.SLOTS_PREV 255), .pcie, by decide⟩

theorem test_premises_TimeBaseRates_0 :
    ∃ (s : State) (q : Requester) (w : BitVec 64), s.Serves q Blk.time true ∧ freqOk w.toNat = true :=
  ⟨State.on, .pcie, 225179981368524, by decide⟩

theorem test_premises_TimeBaseRates_1 :
    ∃ (s : State) (q : Requester) (w : BitVec 64), s.Serves q Blk.time true ∧ freqOk w.toNat = false :=
  ⟨State.on, .pcie, 1, by decide⟩

theorem test_premises_TimeBaseRates_2 :
    ∃ (s : State) (q : Requester) (n : Fin 4), s.Serves q Blk.time true ∧ s.stepBars n = false :=
  ⟨(let n : Fin 4 := 1; let s : State := State.on; { (s.setF Blk.time (TIME.TB_STAT_STEP_USED n) 0).setF Blk.time (TIME.TB_STAT_RUNNING n) 1 with tbStep := [] }),
    .pcie, 1, by decide⟩

theorem test_premises_TimeBaseRates_3 :
    ∃ (s : State) (q : Requester) (n : Fin 4), s.Serves q Blk.time true ∧ s.stepBars n = true :=
  ⟨State.on, .pcie, 1, by decide⟩

theorem test_premises_TimeBaseRates_4 :
    ∃ (s : State) (q : Requester) (n : Fin 4), s.Serves q Blk.time true ∧ s.stepBars n = false :=
  ⟨(let n : Fin 4 := 1; let s : State := State.on; { (s.setF Blk.time (TIME.TB_STAT_STEP_USED n) 0).setF Blk.time (TIME.TB_STAT_RUNNING n) 1 with tbStep := [] }),
    .pcie, 1, by decide⟩

theorem test_premises_TimeBaseRates_5 :
    ∃ (s : State) (q : Requester) (n : Fin 4), s.Serves q Blk.time true ∧ s.stepBars n = false :=
  ⟨(let n : Fin 4 := 1; let s : State := State.on; { (s.setF Blk.time (TIME.TB_STAT_STEP_USED n) 0).setF Blk.time (TIME.TB_STAT_RUNNING n) 1 with tbStep := [] }),
    .pcie, 1, by decide⟩

theorem test_premises_TimeBaseRates_6 :
    ∃ (s : State) (mode : Nat) (v : Int) (n : Fin 4), SMap.get? s.tbStep n = some (mode, v) ∧ mode ≤ 1 ∧ s.tbRuns n = true ∧ 0 ≤
    (if mode = 1 then (s.tbAcc n : Int) else 0) + v * nsUnit ∧ (if mode = 1 then (s.tbAcc n : Int) else 0) + v * nsUnit <
    (tbLimit * nsUnit : Nat) :=
  ⟨(let mode : Nat := 1; let v : Int := 1000; let n : Fin 4 := 1; let s : State := State.on; { s.setF Blk.time (TIME.TB_STAT_RUNNING n) 1 with tbStep := SMap.set s.tbStep n (mode, v) }),
    1, 1000, 1, by decide⟩

theorem test_premises_TimeBaseRates_7 :
    ∃ (s : State) (mode : Nat) (v : Int) (n : Fin 4), SMap.get? s.tbStep n = some (mode, v) ∧ mode ≤ 1 ∧ s.tbRuns n = true ∧
    ((if mode = 1 then (s.tbAcc n : Int) else 0) + v * nsUnit < 0 ∨ ((tbLimit * nsUnit : Nat) : Int) ≤ (if mode = 1 then
    (s.tbAcc n : Int) else 0) + v * nsUnit) :=
  ⟨(let mode : Nat := 1; let v : Int := -1000; let n : Fin 4 := 1; let s : State := State.on; { s.setF Blk.time (TIME.TB_STAT_RUNNING n) 1 with tbStep := SMap.set s.tbStep n (mode, v) }),
    1, -1000, 1, by decide⟩

theorem test_premises_TimeBaseRates_8 :
    ∃ (s : State) (q : Requester), s.Serves q Blk.time true :=
  ⟨State.on, .pcie, by decide⟩

theorem test_premises_TimeBaseRates_9 :
    ∃ (s : State) (q : Requester), s.Serves q Blk.time true :=
  ⟨State.on, .pcie, by decide⟩

theorem test_premises_TimeBaseRates_10 :
    ∃ (s : State) (q : Requester) (n : Fin 4) (v : Word), s.Serves q Blk.time true ∧ s.fb Blk.time (TIME.TB_CTL_EN n) = false ∧
    (TIME.TB_CTL_EN n).get v = 1 ∧ (TIME.TB_CTL_STEP_CANCEL n).get v = 0 ∧ (TIME.TB_CTL_STEP_GO n).get v = 0 :=
  ⟨(let n : Fin 4 := 1; let s : State := State.on; s.setF Blk.time (TIME.TB_CTL_EN n) 0), .pcie, 1,
    (let n : Fin 4 := 1; let v : Word := 1; (TIME.TB_CTL_EN n).put ((TIME.TB_CTL_STEP_CANCEL n).put ((TIME.TB_CTL_STEP_GO n).put v 0) 0) 1),
    by decide⟩

theorem test_premises_TimeBaseRates_11 :
    ∃ (s : State) (q : Requester) (n : Fin 4) (v : Word), s.Serves q Blk.time true ∧ s.fb Blk.time (TIME.TB_CTL_EN n) = true ∧
    (TIME.TB_CTL_EN n).get v = 0 ∧ (TIME.TB_CTL_STEP_GO n).get v = 0 :=
  ⟨(let n : Fin 4 := 1; let s : State := State.on; s.setF Blk.time (TIME.TB_CTL_EN n) 1), .pcie, 1,
    (let n : Fin 4 := 1; let v : Word := 1; (TIME.TB_CTL_EN n).put ((TIME.TB_CTL_STEP_GO n).put v 0) 0), by decide⟩

theorem test_premises_TimeBaseRates_12 :
    ∃ (s : State) (q : Requester), s.Serves q Blk.time true :=
  ⟨State.on, .pcie, by decide⟩

theorem test_premises_TimeBaseRates_13 :
    ∃ (s : State) (q : Requester), s.Serves q Blk.time true :=
  ⟨State.on, .pcie, by decide⟩

theorem test_premises_StampsAndPulses_0 :
    ∃ (s : State) (n : Nat) (p : Fin 64) (i : Fin 4) (bytes : BitVec 64), s.timeOn = true ∧ s.blkOn (Blk.port p) = true ∧
    s.portEnabled p = true ∧ TSU.PT_CTL_TX_EN.get (s.ptsu p).ctl = 1 ∧ TSU.PT_CTL_TX_KIND.get (s.ptsu p).ctl ≠ 1 ∧ (bytes
    ^^^ (s.ptsu p).fltVal) &&& (s.ptsu p).fltMask = 0 ∧ s.physLane p i false = some n ∧ (s.ptsu p).tx.length < 16 :=
  ⟨(let p : Fin 64 := 1; let s : State := State.on; (((s.setReg (Blk.port p) PORT.LINE_MAP 0x03020100).setF (Blk.port p) HDR.BLK_CTL_ENABLE 1).setF (Blk.port p) PORT.PORT_CFG_TYPE 4).setPtsu p { s.ptsu p with ctl := TSU.PT_CTL_TX_EN.put (TSU.PT_CTL_TX_KIND.put (s.ptsu p).ctl 0) 1, fltMask := 0 }),
    1, 1, 1, 1, by decide⟩

theorem test_premises_StampsAndPulses_1 :
    ∃ (s : State) (n : Nat) (p : Fin 64) (i : Fin 4) (bytes : BitVec 64), s.timeOn = true ∧ s.blkOn (Blk.port p) = true ∧
    s.portEnabled p = true ∧ TSU.PT_CTL_RX_EN.get (s.ptsu p).ctl = 1 ∧ TSU.PT_CTL_RX_KIND.get (s.ptsu p).ctl ≠ 1 ∧ (bytes
    ^^^ (s.ptsu p).fltVal) &&& (s.ptsu p).fltMask = 0 ∧ s.physLane p i true = some n ∧ 16 ≤ (s.ptsu p).rx.length :=
  ⟨(let p : Fin 64 := 1; let s : State := State.on; (((s.setReg (Blk.port p) PORT.LINE_MAP 0x03020100).setF (Blk.port p) HDR.BLK_CTL_ENABLE 1).setF (Blk.port p) PORT.PORT_CFG_TYPE 4).setPtsu p { s.ptsu p with ctl := TSU.PT_CTL_RX_EN.put (TSU.PT_CTL_RX_KIND.put (s.ptsu p).ctl 0) 1, fltMask := 0, rx := List.replicate 16 ⟨1, 1, 1, {}, 0, false, 0⟩ }),
    1, 1, 1, 1, by decide⟩

theorem test_premises_StampsAndPulses_2 :
    ∃ (s : State) (p : Fin 64), (s.portEnabled p = false ∨ s.timeOn = false) :=
  ⟨State.on, 1, by decide⟩

theorem test_premises_StampsAndPulses_3 :
    ∃ (s : State) (p : Fin 64) (q : Requester), s.Serves q Blk.tsu true ∧ s.tsuSel = p.val :=
  ⟨(let p : Fin 64 := 1; let s : State := State.on; (s.setF Blk.tsu TSU.TSU_SEL_UNIT p).setPtsu p { s.ptsu p with tx := List.replicate 5 ⟨1, 1, 1, {}, 0, false, 0⟩ }),
    1, .pcie, by decide⟩

theorem test_premises_StampsAndPulses_4 :
    ∃ (s : State) (n : Fin 17) (q : Requester), s.Serves q Blk.tsu true ∧ s.tsuSel = 64 + n.val :=
  ⟨(let n : Fin 17 := 1; let s : State := State.on; (s.setF Blk.tsu TSU.TSU_SEL_UNIT (64 + n)).setLtsu n { s.ltsu n with fifo := List.replicate 3 ⟨1, 1, false, 2, {}⟩ }),
    1, .pcie, by decide⟩

theorem test_premises_StampsAndPulses_5 :
    ∃ (s : State) (k : Fin 4), s.timeOn = true ∧ s.uf Blk.time (TIME.TPO_CTL_MODE k) = 1 ∧ s.fb Blk.time (TIME.TPO_STAT_ACTIVE
    k) = false ∧ SMap.get false s.tpoIssued k = false ∧ s.tpoReached k = true :=
  ⟨(let k : Fin 4 := 1; let s : State := State.on; { ((((s.setF Blk.time (TIME.TPO_CTL_MODE k) 1).setF Blk.time (TIME.TPO_STAT_ACTIVE k) 0).setReg Blk.time (TIME.TPO_START_S_LO k) 0).setReg Blk.time (TIME.TPO_START_NS k) 0).setReg Blk.time (TIME.TPO_START_S_HI k) 0 with tpoIssued := [], used := [], tb := [(0, 2^70), (1, 2^70), (2, 2^70), (3, 2^70)] }),
    1, by decide⟩

theorem test_premises_StampsAndPulses_6 :
    ∃ (s : State) (k : Fin 4), s.timeOn = true ∧ s.uf Blk.time (TIME.TPO_CTL_MODE k) = 1 ∧ s.fb Blk.time (TIME.TPO_STAT_ACTIVE
    k) = true :=
  ⟨(let k : Fin 4 := 1; let s : State := State.on; { (s.setF Blk.time (TIME.TPO_CTL_MODE k) 1).setF Blk.time (TIME.TPO_STAT_ACTIVE k) 1 with used := [] }),
    1, by decide⟩

theorem test_premises_StampsAndPulses_7 :
    ∃ (s : State) (k : Fin 4), s.timeOn = true ∧ s.uf Blk.time (TIME.TPO_CTL_MODE k) = 2 ∧ s.fb Blk.time (TIME.TPO_STAT_ACTIVE
    k) = true :=
  ⟨(let k : Fin 4 := 1; let s : State := State.on; { (s.setF Blk.time (TIME.TPO_CTL_MODE k) 2).setF Blk.time (TIME.TPO_STAT_ACTIVE k) 1 with used := [] }),
    1, by decide⟩

theorem test_premises_StampsAndPulses_8 :
    ∃ (s : State) (j : Fin 2) (falling : Bool), s.timeOn = true ∧ s.fb Blk.time (TIME.TPI_CTL_EDGE j) = falling ∧ s.tbStep = []
    ∧ s.fb Blk.time (TIME.TPI_CTL_EN j) = true ∧ (SMap.get [] s.tpi j).length < 4 :=
  ⟨(let j : Fin 2 := 1; let s : State := State.on; { s.setF Blk.time (TIME.TPI_CTL_EN j) 1 with tbStep := [] }), 1,
    false, by decide⟩

theorem test_premises_StampsAndPulses_9 :
    ∃ (s : State) (j : Fin 2) (falling : Bool), s.timeOn = true ∧ s.fb Blk.time (TIME.TPI_CTL_EDGE j) = falling ∧ s.tbStep = []
    ∧ s.fb Blk.time (TIME.TPI_CTL_EN j) = true ∧ (SMap.get [] s.tpi j).length = 4 :=
  ⟨(let j : Fin 2 := 1; let s : State := State.on; { s.setF Blk.time (TIME.TPI_CTL_EN j) 1 with tbStep := [], tpi := [(j, List.replicate 4 ⟨1, 2, 3⟩)] }),
    1, false, by decide⟩

theorem test_premises_StampsAndPulses_10 :
    ∃ (s : State) (q : Requester) (j : Fin 2), s.Serves q Blk.time true ∧ (SMap.get [] s.tpi j).length ≤ 4 :=
  ⟨(let j : Fin 2 := 1; let s : State := State.on; { s with tpi := [(j, List.replicate 3 ⟨1, 2, 3⟩)] }), .pcie, 1,
    by decide⟩

theorem test_premises_SchedulerTable_0 :
    ∃ (s : State) (q : Requester) (w : Fin 7), s.Serves q Blk.sched true ∧ w.val ≠ 0 :=
  ⟨State.on, .pcie, 1, by decide⟩

theorem test_premises_SchedulerTable_1 :
    ∃ (s : State) (q : Requester) (w : Fin 7) (v : Word), s.Serves q Blk.sched true ∧ w.val = 0 ∧ SCHED.SE_W0_EN.get v = 1 ∧
    ({ s.se s.seIdx with w0 := v } : SchedEntry).refused = true :=
  ⟨State.on, .pcie, 0, (let v : Word := 1; SCHED.SE_W0_ACTION.put (SCHED.SE_W0_EN.put v 1) 12), by decide⟩

theorem test_premises_SchedulerTable_2 :
    ∃ (s : State) (q : Requester) (w : Fin 7) (v : Word), s.Serves q Blk.sched true ∧ w.val = 0 ∧ SCHED.SE_W0_EN.get v = 1 ∧
    (s.se s.seIdx).en = false ∧ (s.se s.seIdx).twin = false ∧ ({ s.se s.seIdx with w0 := v } : SchedEntry).refused = false ∧
    s.seLate { s.se s.seIdx with w0 := v } = false :=
  ⟨(let s : State := State.on; (((s.setSe s.seIdx { w3 := 0xFFFFFFF }).setF Blk.time (TIME.TB_CTL_EN 0) 1).setTb 0 5)),
    .pcie, 0, (let v : Word := 1; SCHED.SE_W0_TRIG.put (SCHED.SE_W0_ACTION.put (SCHED.SE_W0_EN.put v 1) 4) 1), by decide⟩

theorem test_premises_SchedulerTable_3 :
    ∃ (s : State) (q : Requester), s.Serves q Blk.sched true :=
  ⟨(let s : State := State.on; { s with sched := { s.sched with hist := [⟨1, 1, 0, {}, false, 3, 4⟩, ⟨2, 1, 0, {}, false, 5, 6⟩] } }),
    .pcie, by decide⟩

theorem test_premises_SchedulerTable_4 :
    ∃ (s : State) (k : Fin 256), (s.se k).en = true ∧ (s.se k).state = 1 ∧ (s.se k).action = 0 ∧ (s.se k).twin = false ∧
    s.sram.gold = [] ∧ ((s.se k).passed = true ∨ s.seReached (s.se k) = true) ∧ s.f Blk.pwr PWR.STAT_STATE < 2 ∧
    SCHED.SE_W0_LOG.get (s.se k).w0 = 0 ∧ s.sched.hist.length < 32 :=
  ⟨(let k : Fin 256 := 1; let s : State := State.on; { s.setSe k { w0 := SCHED.SE_W0_LOG.put (SCHED.SE_W0_TRIG.put (SCHED.SE_W0_EN.put (SCHED.SE_W0_ACTION.put (s.se k).w0 0) 1) 1) 0, w5 := BitVec.ofNat 32 ((s.se k).w5.toNat % 7), state := 1, passed := (s.se k).w2.getLsbD 3 } with sram := { s.sram with gold := [] } }),
    1, by decide⟩

theorem test_premises_SchedulerTable_5 :
    ∃ (s : State) (k : Fin 256), (s.se k).en = true ∧ (s.se k).state = 1 ∧ ((s.se k).passed = true ∨ s.seReached (s.se k) =
    true) ∧ 2 ≤ s.f Blk.pwr PWR.STAT_STATE :=
  ⟨(let k : Fin 256 := 1; let s : State := State.on; (s.setF Blk.pwr PWR.STAT_STATE 3).setSe k { w0 := SCHED.SE_W0_TRIG.put (SCHED.SE_W0_EN.put (s.se k).w0 1) 1, state := 1, passed := true }),
    1, by decide⟩

theorem test_premises_SchedulerTable_6 :
    ∃ (s : State) (k : Fin 256), ((s.se k).en = false ∨ (s.se k).passed = false ∧ s.seReached (s.se k) = false) :=
  ⟨State.on, 1, by decide⟩

theorem test_premises_PortAlignment_0 :
    ∃ (s : State) (l : Nat) (n : Fin 17), s.logicalLane n = some l ∧ s.fecLocked n = true :=
  ⟨(let n : Fin 17 := 1; let s : State := State.on; (s.setF (Blk.llane n) LLANE.INNER_STAT_LOCK 1).setF Blk.fec (FEC.LPC_STAT_LOCK n) 1),
    1, 1, by decide⟩

theorem test_premises_PortAlignment_1 :
    ∃ (s : State) (l : Nat) (n : Fin 17), s.logicalLane n = some l ∧ (s.f Blk.pmap PMAP.MUX_LOCK_LOCK).testBit l = true :=
  ⟨(let s : State := State.on; s.setF Blk.pmap PMAP.MUX_LOCK_LOCK 65535), 1, 1, by decide⟩

theorem test_premises_PortAlignment_2 :
    ∃ (s : State) (p : Fin 64) (hostBound : Bool), s.dirState p hostBound = 1 :=
  ⟨(let p : Fin 64 := 1; let hostBound : Bool := true; let s : State := State.on; s.setF (Blk.port p) (dirStateF hostBound) 1),
    1, true, by decide⟩

theorem test_premises_PortAlignment_3 :
    ∃ (s : State) (p : Fin 64) (hostBound : Bool), s.dirState p hostBound = 2 ∧ (if hostBound = true then s.f (Blk.port p)
    PORT.SKEW_LINE ≤ s.f Blk.pmap PMAP.DESKEW_CAP_LINE_NS else s.f (Blk.port p) PORT.SKEW_HOST ≤ 100 * s.f Blk.pmap
    PMAP.DESKEW_CAP_HOST_NS) :=
  ⟨(let p : Fin 64 := 1; let hostBound : Bool := true; let s : State := State.on; (s.setReg (Blk.port p) PORT.SKEW 0).setF (Blk.port p) (dirStateF hostBound) 2),
    1, true, by decide⟩

theorem test_premises_PortAlignment_4 :
    ∃ (s : State) (p : Fin 64) (hostBound : Bool), s.dirState p hostBound = 2 ∧ (if hostBound = true then s.f Blk.pmap
    PMAP.DESKEW_CAP_LINE_NS < s.f (Blk.port p) PORT.SKEW_LINE else 100 * s.f Blk.pmap PMAP.DESKEW_CAP_HOST_NS < s.f
    (Blk.port p) PORT.SKEW_HOST) :=
  ⟨(let p : Fin 64 := 1; let hostBound : Bool := true; let s : State := State.on; (s.setReg (Blk.port p) PORT.SKEW 0xFFFFFFFF).setF (Blk.port p) (dirStateF hostBound) 2),
    1, true, by decide⟩

theorem test_premises_PortAlignment_5 :
    ∃ (s : State) (p : Fin 64) (hostBound : Bool), s.dirAligned p hostBound = true :=
  ⟨(let p : Fin 64 := 1; let hostBound : Bool := true; let s : State := State.on; s.setF (Blk.port p) (dirStateF hostBound) 3),
    1, true, by decide⟩

theorem test_premises_PortAlignment_6 :
    ∃ (s : State) (p : Fin 64) (hostBound : Bool), s.portMayRun p hostBound = false ∧ s.dirState p hostBound = 3 :=
  ⟨(let p : Fin 64 := 1; let hostBound : Bool := true; let s : State := State.on; (s.setF (Blk.port p) (dirStateF hostBound) 3).setF (Blk.port p) PORT.PORT_CFG_TYPE 0),
    1, true, by decide⟩

theorem test_premises_PortAlignment_7 :
    ∃ (s : State) (q : Requester) (p : Fin 64), s.Serves q (Blk.port p) true ∧ s.portMayRun p false = true :=
  ⟨(let p : Fin 64 := 2; let s : State := State.on; { ((((((((((s.setReg (Blk.port p) PORT.LINE_MAP 0).setReg (Blk.port p) PORT.HOST_MAP 0).setReg (Blk.port p) PORT.PORT_CFG 0).setF (Blk.port p) PORT.PORT_CFG_TYPE 1).setF (Blk.port p) PORT.PORT_CFG_SLOTS 1).setF (Blk.port p) PORT.PORT_CFG_HRATE 3).setF (Blk.port p) HDR.BLK_CTL_ENABLE 1).setF Blk.fec (FEC.LANE_CTL_MODE 0) 0).setF (Blk.llane 0) LLANE.RX_CTL_RATE 0).setReg (Blk.hlane 0) HLANE.HL_STAT (HLANE.HL_STAT_RATE.put (HLANE.HL_STAT_UP.put 0 1) 3)).setReg (Blk.hclu 0) HCLU.TX_LMAP0 0x76543210 with used := [], host := [], domBusy := 0, pwr := { s.pwr with clkOff := false } }),
    .pcie, 2, by decide⟩

theorem test_premises_PortAlignment_8 :
    ∃ (s : State) (q : Requester) (p : Fin 64), s.Serves q (Blk.port p) true ∧ s.portMayRun p true = false :=
  ⟨(let p : Fin 64 := 1; let s : State := State.on; s.setF (Blk.port p) PORT.PORT_CFG_TYPE 0), .pcie, 1, by decide⟩

theorem test_premises_PortAlignment_9 :
    ∃ (s : State) (p : Fin 64), s.dirAligned p false = true :=
  ⟨(let p : Fin 64 := 1; let s : State := State.on; s.setF (Blk.port p) (dirStateF false) (if p.val % 2 = 0 then 3 else 4)),
    1, by decide⟩

theorem test_premises_LineCodes_0 :
    ∃ (s : State) (q : Requester) (n : Fin 17) (v : Word), s.Serves q Blk.fec true ∧ (FEC.LANE_CTL_MODE n).get v ≠ s.f Blk.fec
    (FEC.LANE_CTL_MODE n) ∧ (s.fb (Blk.llane n) LLANE.RX_CTL_RX_EN = true ∨ s.fb (Blk.llane n) LLANE.TX_CTL_TX_EN = true) :=
  ⟨(let n : Fin 17 := 1; let s : State := State.on; s.setF (Blk.llane n) LLANE.RX_CTL_RX_EN 1), .pcie, 1, 1, by decide⟩

theorem test_premises_LineCodes_1 :
    ∃ (s : State) (q : Requester) (n : Fin 17), s.Serves q Blk.fec true ∧ s.fb (Blk.llane n) LLANE.RX_CTL_RX_EN = false ∧ s.fb
    (Blk.llane n) LLANE.TX_CTL_TX_EN = false ∧ s.staged Blk.fec = false :=
  ⟨(let n : Fin 17 := 1; let s : State := State.on; ((s.setF (Blk.llane n) LLANE.RX_CTL_RX_EN 0).setF (Blk.llane n) LLANE.TX_CTL_TX_EN 0).setF Blk.fec HDR.BLK_CTL_STAGE 0),
    .pcie, 1, by decide⟩

theorem test_premises_LineCodes_2 :
    ∃ (s : State) (n : Fin 17) (zsyn : Fin 257), (s.lane n).inner = .hunt ∧ 32 ≤ zsyn.val :=
  ⟨(let n : Fin 17 := 1; let s : State := State.on; s.modLane n fun l => { l with inner := .hunt }), 1, 40, by decide⟩

theorem test_premises_LineCodes_3 :
    ∃ (s : State) (n : Fin 17) (zsyn : Fin 257), (s.lane n).inner = .hunt ∧ zsyn.val < 32 :=
  ⟨(let n : Fin 17 := 1; let s : State := State.on; s.modLane n fun l => { l with inner := .hunt }), 1, 3, by decide⟩

theorem test_premises_LineCodes_4 :
    ∃ (s : State) (n : Fin 17) (zsyn : Fin 257), (s.lane n).inner = .locked ∧ zsyn.val < 32 ∧ (s.lane n).innerFails < 3 :=
  ⟨(let n : Fin 17 := 1; let s : State := State.on; s.modLane n fun l => { l with inner := .locked, innerFails := 2 }),
    1, 3, by decide⟩

theorem test_premises_LineCodes_5 :
    ∃ (s : State) (n : Fin 17) (zsyn : Fin 257), (s.lane n).inner = .locked ∧ zsyn.val < 32 ∧ 3 ≤ (s.lane n).innerFails :=
  ⟨(let n : Fin 17 := 1; let s : State := State.on; s.modLane n fun l => { l with inner := .locked, innerFails := 3 }),
    1, 3, by decide⟩

theorem test_premises_LineCodes_6 :
    ∃ (s : State) (q : Requester) (n : Fin 17), s.Serves q (Blk.llane n) true ∧ (s.lane n).inner ≠ .idle :=
  ⟨(let n : Fin 17 := 1; let s : State := State.on; s.modLane n fun l => { l with inner := .locked, innerFails := 3 }),
    .pcie, 1, by decide⟩

theorem test_premises_LineCodes_7 :
    ∃ (s : State) (n : Fin 17) (hard : BitVec 136) (rel : List (Fin 17)), (s.lane n).inner = .locked ∧ Codec.chase ((List.range
    136).map hard.getLsbD) (rel.map (·.val)) = .clean :=
  ⟨(let n : Fin 17 := 1; let s : State := State.on; s.modLane n fun l => { l with inner := .locked }), 1, 0, [],
    by decide⟩

theorem test_premises_LineCodes_8 :
    ∃ (s : State) (ps : List Nat) (n : Fin 17) (hard : BitVec 136) (rel : List (Fin 17)), (s.lane n).inner = .locked ∧
    Codec.chase ((List.range 136).map hard.getLsbD) (rel.map (·.val)) = .corrected ps :=
  ⟨(let n : Fin 17 := 1; let s : State := State.on; s.modLane n fun l => { l with inner := .locked }), [0], 1, 1, [],
    by decide⟩

theorem test_premises_LineCodes_9 :
    ∃ (s : State) (n : Fin 17), s.fb Blk.fec (FEC.LPC_STAT_ACTIVE n) = true ∧ s.clocksStopped = false ∧ (s.lane n).lpc = .hunt :=
  ⟨(let n : Fin 17 := 1; let s : State := State.on; { (s.modLane n fun l => { l with lpc := .hunt }).setF Blk.fec (FEC.LPC_STAT_ACTIVE n) 1 with pwr := { s.pwr with clkOff := false } }),
    1, by decide⟩

theorem test_premises_LineCodes_10 :
    ∃ (s : State) (k : Nat) (n : Fin 17) (score : Fin 290), s.fb Blk.fec (FEC.LPC_STAT_ACTIVE n) = true ∧ s.clocksStopped =
    false ∧ (s.lane n).lpc = .verify k ∧ k ≤ 1 ∧ 250 ≤ score.val :=
  ⟨(let n : Fin 17 := 1; let s : State := State.on; { (s.modLane n fun l => { l with lpc := .verify 1 }).setF Blk.fec (FEC.LPC_STAT_ACTIVE n) 1 with pwr := { s.pwr with clkOff := false } }),
    1, 1, 260, by decide⟩

theorem test_premises_LineCodes_11 :
    ∃ (s : State) (n : Fin 17) (score : Fin 290), s.fb Blk.fec (FEC.LPC_STAT_ACTIVE n) = true ∧ s.clocksStopped = false ∧
    (s.lane n).lpc = .locked ∧ score.val < 200 ∧ 7 ≤ (s.lane n).lpcLow :=
  ⟨(let n : Fin 17 := 1; let s : State := State.on; { (s.modLane n fun l => { l with lpc := .locked, lpcLow := 7 }).setF Blk.fec (FEC.LPC_STAT_ACTIVE n) 1 with pwr := { s.pwr with clkOff := false } }),
    1, 3, by decide⟩

theorem test_premises_LineCodes_12 :
    ∃ (s : State) (n : Fin 17), s.fb Blk.fec (FEC.LPC_STAT_ACTIVE n) = true ∧ s.clocksStopped = false ∧ s.fb Blk.fec
    (FEC.LPC_STAT_LOCK n) = true :=
  ⟨(let n : Fin 17 := 1; let s : State := State.on; { (s.setF Blk.fec (FEC.LPC_STAT_ACTIVE n) 1).setF Blk.fec (FEC.LPC_STAT_LOCK n) 1 with pwr := { s.pwr with clkOff := false } }),
    1, by decide⟩

theorem test_premises_LineCodes_13 :
    ∃ (s : State) (n : Fin 17), s.fb Blk.fec (FEC.LPC_STAT_ACTIVE n) = true ∧ s.clocksStopped = false ∧ s.fb Blk.fec
    (FEC.LPC_STAT_LOCK n) = false :=
  ⟨(let n : Fin 17 := 1; let s : State := State.on; { (s.setF Blk.fec (FEC.LPC_STAT_ACTIVE n) 1).setF Blk.fec (FEC.LPC_STAT_LOCK n) 0 with pwr := { s.pwr with clkOff := false } }),
    1, by decide⟩

theorem test_premises_LineCodes_14 :
    ∃ (s : State) (n : Fin 17), s.fb Blk.fec (FEC.LPC_STAT_ACTIVE n) = true ∧ s.f Blk.fec (FEC.LPC_STAT_ITER n) ≠ s.lpcIter n :=
  ⟨(let n : Fin 17 := 1; let s : State := State.on; (s.setF Blk.fec (FEC.LPC_STAT_ACTIVE n) 1).setF Blk.fec (FEC.LPC_STAT_ITER n) 9),
    1, by decide⟩

theorem test_premises_LaneSignals_0 :
    ∃ (s : State) (q : Requester) (p : PllId) (v : Word), s.Serves q (pllRegs p).blk true ∧ (pllRegs p).en.get v = 0 ∧
    s.pllLocked p = true :=
  ⟨(let p : PllId := .line 1; let s : State := State.on; s.setF (pllRegs p).blk (pllRegs p).lock 1), .pcie, .line 1, 0,
    by decide⟩

theorem test_premises_LaneSignals_1 :
    ∃ (s : State) (p : PllId), s.blkOn (pllRegs p).blk = true ∧ s.fb (pllRegs p).blk (pllRegs p).en = true ∧ s.clocksStopped =
    false ∧ s.pllLocked p = false :=
  ⟨(let p : PllId := .hostB 1; let s : State := State.on; { (s.setF (pllRegs p).blk (pllRegs p).en 1).setF (pllRegs p).blk (pllRegs p).lock 0 with pwr := { s.pwr with clkOff := false } }),
    .hostB 1, by decide⟩

theorem test_premises_LaneSignals_2 :
    ∃ (s : State) (p : PllId), s.blkOn (pllRegs p).blk = true ∧ s.pllLocked p = true :=
  ⟨(let p : PllId := .spare; let s : State := State.on; s.setF (pllRegs p).blk (pllRegs p).lock 1), .spare, by decide⟩

theorem test_premises_LaneSignals_3 :
    ∃ (s : State) (c : Fin 4) (q : Requester), s.Serves q (Blk.lclu c) true :=
  ⟨(let s : State := State.on; { s with domOn := 0xFFFFFF, domBusy := 0 }), 1, .pcie, by decide⟩

theorem test_premises_LaneSignals_4 :
    ∃ (s : State) (n : Fin 17), s.blkOn (Blk.llane n) = true ∧ s.rxPowered n = true :=
  ⟨(let n : Fin 17 := 1; let s : State := State.on; s.setReg (Blk.lclu (n / 4)) LCLU.LANE_PWR (if n.val < 16 then 0xFFFFFFFF else 0)),
    1, by decide⟩

theorem test_premises_LaneSignals_5 :
    ∃ (s : State) (m : Fin 64), s.hostPowered m = true :=
  ⟨(let m : Fin 64 := 1; let s : State := State.on; s.setReg (Blk.hclu (m / 16)) HCLU.LANE_PWR 0xFFFFFFFF), 1, by decide⟩

theorem test_premises_LaneSignals_6 :
    ∃ (s : State) (n : Fin 17), s.rxRuns n = true ∧ s.pllLocked (linePll n) = true ∧ s.fb (Blk.llane n) LLANE.RX_STAT_CAL_RUN =
    false ∧ s.fb (Blk.llane n) LLANE.RX_STAT_SIG_DET = false :=
  ⟨(let n : Fin 17 := 1; let s : State := State.on; { ((((s.setReg (Blk.lclu (n / 4)) LCLU.LANE_PWR (if n.val < 16 then 0xFFFFFFFF else 0)).setF (Blk.llane n) LLANE.RX_CTL_RX_EN 1).setReg (Blk.llane n) LLANE.RX_STAT 0).setF (pllRegs (linePll n)).blk (pllRegs (linePll n)).lock 1) with pwr := { s.pwr with clkOff := false } }),
    1, by decide⟩

theorem test_premises_LaneSignals_7 :
    ∃ (s : State) (m : Fin 64), s.hostRuns m = true ∧ s.fb (Blk.hlane m) HLANE.HL_STAT_CAL_RUN = false ∧ s.fb (Blk.hlane m)
    HLANE.HL_STAT_SIG_DET = false :=
  ⟨(let m : Fin 64 := 1; let s : State := State.on; { ((((s.setReg (Blk.hclu (m / 16)) HCLU.LANE_PWR 0xFFFFFFFF).setF (Blk.hlane m) HLANE.HL_CTL_EN 1).setReg (Blk.hlane m) HLANE.HL_STAT (HLANE.HL_STAT_RATE.put 0 1)).setF (pllRegs (hostPll m 1)).blk (pllRegs (hostPll m 1)).lock 1) with pwr := { s.pwr with clkOff := false } }),
    1, by decide⟩

theorem test_premises_LaneSignals_8 :
    ∃ (s : State) (n : Fin 17), s.fb (Blk.llane n) LLANE.RX_STAT_SIG_DET = true :=
  ⟨(let n : Fin 17 := 1; let s : State := State.on; s.setF (Blk.llane n) LLANE.RX_STAT_SIG_DET 1), 1, by decide⟩

theorem test_premises_LaneSignals_9 :
    ∃ (s : State) (m : Fin 64), s.fb (Blk.hlane m) HLANE.HL_STAT_SIG_DET = true :=
  ⟨(let m : Fin 64 := 1; let s : State := State.on; s.setF (Blk.hlane m) HLANE.HL_STAT_SIG_DET 1), 1, by decide⟩

theorem test_premises_LaneSignals_10 :
    ∃ (s : State) (n : Fin 17), s.rxRuns n = true ∧ s.pllLocked (linePll n) = true ∧ s.fb (Blk.llane n) LLANE.RX_STAT_SIG_DET =
    true ∧ s.fb (Blk.llane n) LLANE.RX_STAT_FREQ_OOR = false ∧ s.fb (Blk.llane n) LLANE.RX_STAT_CDR_LOCK = false :=
  ⟨(let n : Fin 17 := 1; let s : State := State.on; { (((((s.setReg (Blk.lclu (n / 4)) LCLU.LANE_PWR (if n.val < 16 then 0xFFFFFFFF else 0)).setF (Blk.llane n) LLANE.RX_CTL_RX_EN 1).setReg (Blk.llane n) LLANE.RX_STAT 0).setF (Blk.llane n) LLANE.RX_STAT_SIG_DET 1).setF (pllRegs (linePll n)).blk (pllRegs (linePll n)).lock 1) with pwr := { s.pwr with clkOff := false } }),
    1, by decide⟩

theorem test_premises_LaneSignals_11 :
    ∃ (s : State) (m : Fin 64), s.hostRuns m = true ∧ s.fb (Blk.hlane m) HLANE.HL_STAT_SIG_DET = true ∧ s.fb (Blk.hlane m)
    HLANE.HL_STAT_FREQ_OOR = false ∧ s.fb (Blk.hlane m) HLANE.HL_STAT_CDR_LOCK = false :=
  ⟨(let m : Fin 64 := 1; let s : State := State.on; { ((((s.setReg (Blk.hclu (m / 16)) HCLU.LANE_PWR 0xFFFFFFFF).setF (Blk.hlane m) HLANE.HL_CTL_EN 1).setReg (Blk.hlane m) HLANE.HL_STAT (HLANE.HL_STAT_SIG_DET.put (HLANE.HL_STAT_RATE.put 0 1) 1)).setF (pllRegs (hostPll m 1)).blk (pllRegs (hostPll m 1)).lock 1) with pwr := { s.pwr with clkOff := false } }),
    1, by decide⟩

theorem test_premises_LaneSignals_12 :
    ∃ (s : State) (n : Fin 17), s.fb (Blk.llane n) LLANE.RX_STAT_CDR_LOCK = true :=
  ⟨(let n : Fin 17 := 1; let s : State := State.on; s.setF (Blk.llane n) LLANE.RX_STAT_CDR_LOCK 1), 1, by decide⟩

theorem test_premises_LaneSignals_13 :
    ∃ (s : State) (m : Fin 64), s.fb (Blk.hlane m) HLANE.HL_STAT_CDR_LOCK = true ∧ s.fb (Blk.hlane m) HLANE.HL_STAT_RX_IDLE =
    false :=
  ⟨(let m : Fin 64 := 1; let s : State := State.on; (s.setF (Blk.hlane m) HLANE.HL_STAT_CDR_LOCK 1).setF (Blk.hlane m) HLANE.HL_STAT_RX_IDLE 0),
    1, by decide⟩

theorem test_premises_LaneSignals_14 :
    ∃ (s : State) (n : Fin 17), s.rxRuns n = true ∧ s.fb (Blk.llane n) LLANE.RX_STAT_FREQ_OOR = false :=
  ⟨(let n : Fin 17 := 1; let s : State := State.on; { ((((s.setReg (Blk.lclu (n / 4)) LCLU.LANE_PWR (if n.val < 16 then 0xFFFFFFFF else 0)).setF (Blk.llane n) LLANE.RX_CTL_RX_EN 1).setF (Blk.llane n) LLANE.RX_STAT_FREQ_OOR 0)) with pwr := { s.pwr with clkOff := false } }),
    1, by decide⟩

theorem test_premises_LaneSignals_15 :
    ∃ (s : State) (m : Fin 64), s.hostRuns m = true ∧ s.fb (Blk.hlane m) HLANE.HL_STAT_FREQ_OOR = false :=
  ⟨(let m : Fin 64 := 1; let s : State := State.on; { ((((s.setReg (Blk.hclu (m / 16)) HCLU.LANE_PWR 0xFFFFFFFF).setF (Blk.hlane m) HLANE.HL_CTL_EN 1).setReg (Blk.hlane m) HLANE.HL_STAT (HLANE.HL_STAT_RATE.put 0 1)).setF (pllRegs (hostPll m 1)).blk (pllRegs (hostPll m 1)).lock 1) with pwr := { s.pwr with clkOff := false } }),
    1, by decide⟩

theorem test_premises_LineReceiver_0 :
    ∃ (s : State) (q : Requester) (n : Fin 17) (v : Word), s.Serves q (Blk.llane n) true ∧ s.fb (Blk.llane n) LLANE.RX_CTL_RX_EN
    = false ∧ LLANE.RX_CTL_RX_EN.get v = 1 ∧ s.rxPowered n = true ∧ s.bist.lane ≠ some n.val ∧ LLANE.RX_CTL_RATE.get v ≠ 3 :=
  ⟨(let n : Fin 17 := 1; let s : State := State.on; { (s.setReg (Blk.lclu (n / 4)) LCLU.LANE_PWR (if n.val < 16 then 0xFFFFFFFF else 0)).setF (Blk.llane n) LLANE.RX_CTL_RX_EN 0 with bist := {} }),
    .pcie, 1, LLANE.RX_CTL_RX_EN.put 0 1, by decide⟩

theorem test_premises_LineReceiver_1 :
    ∃ (s : State) (q : Requester) (n : Fin 17) (v : Word), s.Serves q (Blk.llane n) true ∧ s.fb (Blk.llane n) LLANE.RX_CTL_RX_EN
    = true ∧ LLANE.RX_CTL_RX_EN.get v = 1 ∧ LLANE.RX_CTL_RATE.get v ≠ s.f (Blk.llane n) LLANE.RX_CTL_RATE :=
  ⟨(let n : Fin 17 := 1; let s : State := State.on; s.setF (Blk.llane n) LLANE.RX_CTL_RX_EN 1), .pcie, 1,
    LLANE.RX_CTL_RATE.put (LLANE.RX_CTL_RX_EN.put 0 1) 1, by decide⟩

theorem test_premises_LineReceiver_2 :
    ∃ (s : State) (n : Fin 17), s.fb (Blk.llane n) LLANE.RX_STAT_CAL_RUN = true :=
  ⟨(let n : Fin 17 := 1; let s : State := State.on; s.setF (Blk.llane n) LLANE.RX_STAT_CAL_RUN 1), 1, by decide⟩

theorem test_premises_LineReceiver_3 :
    ∃ (s : State) (slot : Nat) (spare : Nat) (n : Fin 17), (s.lane n).bg = some (slot, some spare) :=
  ⟨(let slot : Nat := 1; let spare : Nat := 130; let n : Fin 17 := 1; let s : State := State.on; s.modLane n fun l => { l with bg := some (slot, some spare) }),
    1, 130, 1, by decide⟩

theorem test_premises_LineReceiver_4 :
    ∃ (s : State) (q : Requester) (n : Fin 17), s.Serves q (Blk.llane n) true ∧ s.f (Blk.llane n) LLANE.COEF_IDX_BANK ≠ s.f
    (Blk.llane n) LLANE.EQ_STAT_IN_USE ∧ s.f (Blk.llane n) LLANE.COEF_IDX_INDEX ≤ 145 :=
  ⟨(let n : Fin 17 := 1; let v : Word := 1; let s : State := State.on; (s.setF (Blk.llane n) LLANE.COEF_IDX_BANK (1 - s.f (Blk.llane n) LLANE.EQ_STAT_IN_USE)).setF (Blk.llane n) LLANE.COEF_IDX_INDEX (v.toNat % 146)),
    .pcie, 1, by decide⟩

theorem test_premises_LineReceiver_5 :
    ∃ (s : State) (q : Requester) (n : Fin 17), s.Serves q (Blk.llane n) true ∧ (s.f (Blk.llane n) LLANE.COEF_IDX_BANK = s.f
    (Blk.llane n) LLANE.EQ_STAT_IN_USE ∨ 145 < s.f (Blk.llane n) LLANE.COEF_IDX_INDEX) :=
  ⟨State.on, .pcie, 1, by decide⟩

theorem test_premises_LineReceiver_6 :
    ∃ (s : State) (q : Requester) (n : Fin 17), s.Serves q (Blk.llane n) false :=
  ⟨State.on, .pcie, 1, by decide⟩

theorem test_premises_LineReceiver_7 :
    ∃ (s : State) (n : Fin 17), s.ffeChecks n = true :=
  ⟨(let n : Fin 17 := 1; let s : State := State.on; { (((s.setReg (Blk.lclu (n / 4)) LCLU.LANE_PWR (if n.val < 16 then 0xFFFFFFFF else 0)).setF (Blk.llane n) LLANE.RX_CTL_RX_EN 1).setF (Blk.llane n) LLANE.RX_STAT_SIG_DET 1).setF (pllRegs (linePll n)).blk (pllRegs (linePll n)).lock 1 with pwr := { s.pwr with clkOff := false } }),
    1, by decide⟩

theorem test_premises_LineReceiver_8 :
    ∃ (s : State) (n : Fin 17) (group : Fin 16), s.mlseChecks n = true ∧ 16 * group.val < s.cycleSymbols n :=
  ⟨(let n : Fin 17 := 1; let s : State := State.on; { ((((s.setReg (Blk.lclu (n / 4)) LCLU.LANE_PWR (if n.val < 16 then 0xFFFFFFFF else 0)).setF (Blk.llane n) LLANE.RX_CTL_RX_EN 1).setF (Blk.llane n) LLANE.RX_STAT_SIG_DET 1).setF (Blk.llane n) LLANE.DET_CTL_MLSE_MODE 1).setF (pllRegs (linePll n)).blk (pllRegs (linePll n)).lock 1 with pwr := { s.pwr with clkOff := false } }),
    1, 1, by decide⟩

theorem test_premises_LineReceiver_9 :
    ∃ (s : State) (q : Requester) (n : Fin 17), s.Serves q (Blk.llane n) true ∧ s.ffeChecks n = false :=
  ⟨(let n : Fin 17 := 1; let s : State := State.on; s.setF (Blk.llane n) LLANE.RX_CTL_RX_EN 0), .pcie, 1, by decide⟩

theorem test_premises_LineReceiver_10 :
    ∃ (s : State) (q : Requester) (n : Fin 17), s.Serves q (Blk.llane n) true ∧ s.ffeChecks n = false :=
  ⟨(let n : Fin 17 := 1; let s : State := State.on; s.setF (Blk.llane n) LLANE.RX_CTL_RX_EN 0), .pcie, 1, by decide⟩

theorem test_premises_LineReceiver_11 :
    ∃ (s : State) (off : Nat) (q : Requester) (g : CounterGroup), s.Serves q (counterRegs g).1 true ∧ off ∈ (counterRegs g).2 :=
  ⟨State.on, LLANE.SYM_CNT_LO, .pcie, .inner 1, by decide⟩

theorem test_premises_LineReceiver_12 :
    ∃ (s : State) (snap : Fld) (live : Fld) (off : Nat) (q : Requester) (g : CounterGroup), s.Serves q (counterRegs g).1 true ∧
    counterSnapLive g = some (snap, live) ∧ off ∈ (counterRegs g).2 :=
  ⟨State.on, PORT.CNT_CTL_SNAP, PORT.CNT_CTL_LIVE, PORT.TX_CW_LO, .pcie, .port 2, by decide⟩

theorem test_premises_LineReceiver_13 :
    ∃ (s : State) (snap : Fld) (live : Fld) (off : Nat) (q : Requester) (g : CounterGroup), s.Serves q (counterRegs g).1 true ∧
    counterSnapLive g = some (snap, live) ∧ off ∈ (counterRegs g).2 :=
  ⟨State.on, PORT.CNT_CTL_SNAP, PORT.CNT_CTL_LIVE, PORT.TX_CW_LO, .pcie, .port 2, by decide⟩

theorem test_premises_LineReceiver_14 :
    ∃ (s : State) (q : Requester) (n : Fin 17), s.Serves q (Blk.llane n) true :=
  ⟨State.on, .pcie, 1, by decide⟩

theorem test_premises_LineReceiver_15 :
    ∃ (s : State) (n : Fin 17), s.fb (Blk.llane n) LLANE.EYE_STAT_BUSY = true ∧ s.fb (Blk.llane n) LLANE.EYE_STAT_NO_SPARE =
    false :=
  ⟨(let n : Fin 17 := 1; let s : State := State.on; (s.setF (Blk.llane n) LLANE.EYE_STAT_BUSY 1).setF (Blk.llane n) LLANE.EYE_STAT_NO_SPARE 0),
    1, by decide⟩

theorem test_premises_LineTransmitter_0 :
    ∃ (s : State) (q : Requester) (n : Fin 17) (v : Word), s.Serves q (Blk.llane n) true ∧ s.fb (Blk.llane n) LLANE.TX_CTL_TX_EN
    = false ∧ LLANE.TX_CTL_TX_EN.get v = 1 ∧ s.txPowered n = true ∧ s.bist.lane ≠ some n.val ∧ LLANE.TX_CTL_RATE.get v ≠ 3 :=
  ⟨(let n : Fin 17 := 1; let s : State := State.on; { (s.setReg (Blk.lclu (n / 4)) LCLU.LANE_PWR (if n.val < 16 then 0xFFFFFFFF else 0)).setF (Blk.llane n) LLANE.TX_CTL_TX_EN 0 with bist := {} }),
    .pcie, 1, LLANE.TX_CTL_TX_EN.put 0 1, by decide⟩

theorem test_premises_LineTransmitter_1 :
    ∃ (s : State) (q : Requester) (n : Fin 17) (v : Word), s.Serves q (Blk.llane n) true ∧ s.fb (Blk.llane n) LLANE.TX_CTL_TX_EN
    = false ∧ LLANE.TX_CTL_TX_EN.get v = 1 ∧ s.txPowered n = false :=
  ⟨(let n : Fin 17 := 1; let s : State := State.on; (s.setReg (Blk.lclu (n / 4)) LCLU.LANE_PWR 0).setF (Blk.llane n) LLANE.TX_CTL_TX_EN 0),
    .pcie, 1, LLANE.TX_CTL_TX_EN.put 0 1, by decide⟩

theorem test_premises_LineTransmitter_2 :
    ∃ (s : State) (n : Fin 17), s.fb (Blk.llane n) LLANE.TX_STAT_CAL_RUN = true :=
  ⟨(let n : Fin 17 := 1; let s : State := State.on; s.setF (Blk.llane n) LLANE.TX_STAT_CAL_RUN 1), 1, by decide⟩

theorem test_premises_LineTransmitter_3 :
    ∃ (s : State) (pos : Nat) (seg : Nat) (n : Fin 17), (s.lane n).dacBg = some (pos, seg) :=
  ⟨(let pos : Nat := 1; let seg : Nat := 1; let n : Fin 17 := 1; let s : State := State.on; s.modLane n fun l => { l with dacBg := some (pos, seg) }),
    1, 1, 1, by decide⟩

theorem test_premises_LineTransmitter_4 :
    ∃ (s : State) (q : Requester) (n : Fin 17), s.Serves q (Blk.llane n) true ∧ txIndexOk (s.f (Blk.llane n)
    LLANE.TX_COEF_IDX_INDEX) = true ∧ s.txInUse n (s.f (Blk.llane n) LLANE.TX_COEF_IDX_BANK) (s.f (Blk.llane n)
    LLANE.TX_COEF_IDX_INDEX) = false ∧ 9 ≤ s.f (Blk.llane n) LLANE.TX_COEF_IDX_INDEX :=
  ⟨(let n : Fin 17 := 1; let v : Word := 1; let s : State := State.on; ((s.setF (Blk.llane n) LLANE.TX_COEF_IDX_INDEX (64 + v.toNat % 64)).setF (Blk.llane n) LLANE.TX_PD_STAT_SET 2)),
    .pcie, 1, by decide⟩

theorem test_premises_LineTransmitter_5 :
    ∃ (s : State) (q : Requester) (n : Fin 17), s.Serves q (Blk.llane n) true ∧ s.txInUse n (s.f (Blk.llane n)
    LLANE.TX_COEF_IDX_BANK) (s.f (Blk.llane n) LLANE.TX_COEF_IDX_INDEX) = true :=
  ⟨(let n : Fin 17 := 1; let v : Word := 1; let s : State := State.on; ((s.setF (Blk.llane n) LLANE.TX_COEF_IDX_INDEX (64 + v.toNat % 64)).setF (Blk.llane n) LLANE.TX_PD_STAT_SET 0)),
    .pcie, 1, by decide⟩

theorem test_premises_LineTransmitter_6 :
    ∃ (s : State) (q : Requester) (n : Fin 17), s.Serves q (Blk.llane n) false :=
  ⟨State.on, .pcie, 1, by decide⟩

theorem test_premises_LineTransmitter_7 :
    ∃ (s : State) (q : Requester) (n : Fin 17) (map : Bool) (v : Word), s.Serves q (Blk.llane n) true ∧ s.staged (Blk.llane n) =
    false ∧ map = false ∧ LLANE.TX_PD_CTL_FOLLOW.get v = 0 :=
  ⟨(let n : Fin 17 := 1; let s : State := State.on; s.setF (Blk.llane n) HDR.BLK_CTL_STAGE 0), .pcie, 1, false,
    LLANE.TX_PD_CTL_SET.put 0 2, by decide⟩

theorem test_premises_LineTransmitter_8 :
    ∃ (s : State) (q : Requester) (n : Fin 17), s.Serves q (Blk.llane n) true ∧ s.clrLow = false :=
  ⟨(let s : State := State.on; { s with clrPin := true }), .pcie, 1, by decide⟩

theorem test_premises_HostNegotiation_0 :
    ∃ (s : State) (q : Requester) (m : Fin 64) (v : Word), s.Serves q (Blk.hlane m) true ∧ s.fb (Blk.hlane m) HLANE.HL_CTL_EN =
    false ∧ HLANE.HL_CTL_EN.get v = 1 ∧ s.hostPowered m = true ∧ rateBad m (HLANE.HL_CTL_FORCE_RATE.get v) = false :=
  ⟨(let m : Fin 64 := 1; let s : State := State.on; (s.setReg (Blk.hclu (m / 16)) HCLU.LANE_PWR 0xFFFFFFFF).setF (Blk.hlane m) HLANE.HL_CTL_EN 0),
    .pcie, 1, (let v : Word := 1; HLANE.HL_CTL_EN.put (HLANE.HL_CTL_FORCE_RATE.put v (v.toNat % 4)) 1), by decide⟩

theorem test_premises_HostNegotiation_1 :
    ∃ (s : State) (q : Requester) (m : Fin 64) (v : Word), s.Serves q (Blk.hlane m) true ∧ s.fb (Blk.hlane m) HLANE.HL_CTL_EN =
    true ∧ HLANE.HL_CTL_EN.get v = 1 ∧ HLANE.HL_CTL_FORCE_RATE.get v ≠ s.f (Blk.hlane m) HLANE.HL_CTL_FORCE_RATE :=
  ⟨(let m : Fin 64 := 1; let s : State := State.on; s.setF (Blk.hlane m) HLANE.HL_CTL_EN 1), .pcie, 1,
    HLANE.HL_CTL_FORCE_RATE.put (HLANE.HL_CTL_EN.put 0 1) 3, by decide⟩

theorem test_premises_HostNegotiation_2 :
    ∃ (s : State) (q : Requester) (m : Fin 64) (v : Word), s.Serves q (Blk.hlane m) true ∧ s.fb (Blk.hlane m) HLANE.HL_CTL_EN =
    true ∧ HLANE.HL_CTL_EN.get v = 0 :=
  ⟨(let m : Fin 64 := 1; let s : State := State.on; s.setF (Blk.hlane m) HLANE.HL_CTL_EN 1), .pcie, 1, 0, by decide⟩

theorem test_premises_HostNegotiation_4 :
    ∃ (s : State) (m : Fin 64), s.hostRuns m = true ∧ s.f (Blk.hlane m) HLANE.HL_STAT_RATE = 1 ∧ s.fb (Blk.hlane m)
    HLANE.HL_STAT_CAL_RUN = false ∧ s.hostState m = 1 ∧ s.fb (Blk.hlane m) HLANE.HL_CTL_NEG_BYPASS = false :=
  ⟨(let m : Fin 64 := 1; let s : State := State.on; { ((((s.setReg (Blk.hclu (m / 16)) HCLU.LANE_PWR 0xFFFFFFFF).setReg (Blk.hlane m) HLANE.HL_CTL (HLANE.HL_CTL_EN.put 0 1)).setReg (Blk.hlane m) HLANE.HL_STAT (HLANE.HL_STAT_STATE.put (HLANE.HL_STAT_RATE.put 0 1) 1)).setF (pllRegs (hostPll m 1)).blk (pllRegs (hostPll m 1)).lock 1) with pwr := { s.pwr with clkOff := false } }),
    1, by decide⟩

theorem test_premises_HostNegotiation_5 :
    ∃ (s : State) (m : Fin 64) (page : BitVec 64), s.hostRuns m = true ∧ s.fb (Blk.hlane m) HLANE.HL_STAT_BLOCK_LOCK = true ∧ 1
    ≤ s.hostState m ∧ s.hostState m ≤ 4 ∧ s.fb (Blk.hlane m) HLANE.HL_CTL_NEG_BYPASS = false ∧ bitsOf page.toNat 0 8 = 0x4B
    ∧ bitsOf page.toNat 8 4 = 0xD ∧ pageCrc page.toNat ≠ bitsOf page.toNat 48 8 :=
  ⟨(let m : Fin 64 := 1; let s : State := State.on; { ((((s.setReg (Blk.hclu (m / 16)) HCLU.LANE_PWR 0xFFFFFFFF).setReg (Blk.hlane m) HLANE.HL_CTL (HLANE.HL_CTL_EN.put 0 1)).setReg (Blk.hlane m) HLANE.HL_STAT (HLANE.HL_STAT_BLOCK_LOCK.put (HLANE.HL_STAT_STATE.put (HLANE.HL_STAT_RATE.put 0 1) 2) 1)).setF (pllRegs (hostPll m 1)).blk (pllRegs (hostPll m 1)).lock 1) with pwr := { s.pwr with clkOff := false } }),
    1, 0xD4B, by decide⟩

theorem test_premises_HostNegotiation_6 :
    ∃ (s : State) (m : Fin 64), s.hostRuns m = true ∧ s.fb (Blk.hlane m) HLANE.HL_STAT_CAL_RUN = false ∧ s.fb (Blk.hlane m)
    HLANE.HL_CTL_NEG_BYPASS = false ∧ s.hostState m = 4 :=
  ⟨(let m : Fin 64 := 1; let s : State := State.on; { ((((s.setReg (Blk.hclu (m / 16)) HCLU.LANE_PWR 0xFFFFFFFF).setReg (Blk.hlane m) HLANE.HL_CTL (HLANE.HL_CTL_EN.put 0 1)).setReg (Blk.hlane m) HLANE.HL_STAT (HLANE.HL_STAT_BLOCK_LOCK.put (HLANE.HL_STAT_STATE.put (HLANE.HL_STAT_RATE.put 0 1) 4) 1)).setF (pllRegs (hostPll m 1)).blk (pllRegs (hostPll m 1)).lock 1).modHlane m fun h => { h with cntdn := m.val % 3 } with pwr := { s.pwr with clkOff := false } }),
    1, by decide⟩

theorem test_premises_HostNegotiation_7 :
    ∃ (s : State) (m : Fin 64), s.hostState m = 5 :=
  ⟨(let m : Fin 64 := 1; let s : State := State.on; s.setF (Blk.hlane m) HLANE.HL_STAT_STATE 5), 1, by decide⟩

theorem test_premises_HostNegotiation_8 :
    ∃ (s : State) (m : Fin 64) (op : Fin 3) (preset : Fin 4), s.hostState m = 6 ∧ op.val = 0 ∧ preset.val = 0 :=
  ⟨(let m : Fin 64 := 1; let s : State := State.on; s.setF (Blk.hlane m) HLANE.HL_STAT_STATE 6), 1, 0, 0, by decide⟩

theorem test_premises_HostNegotiation_9 :
    ∃ (s : State) (m : Fin 64), s.hostState m = 6 :=
  ⟨(let m : Fin 64 := 1; let s : State := State.on; s.setF (Blk.hlane m) HLANE.HL_STAT_STATE 6), 1, by decide⟩

theorem test_premises_HostNegotiation_10 :
    ∃ (s : State) (m : Fin 64), (s.hlane m).timer = true ∧ 1 ≤ s.hostState m ∧ s.hostState m ≤ 4 ∧ s.f (Blk.hlane m)
    HLANE.NEG_TIMER_LIMIT ≠ 0 :=
  ⟨(let m : Fin 64 := 1; let s : State := State.on; (s.setF (Blk.hlane m) HLANE.HL_STAT_STATE 3).modHlane m fun h => { h with timer := true }),
    1, by decide⟩

theorem test_premises_HostNegotiation_11 :
    ∃ (s : State) (m : Fin 64), s.hostState m = 7 ∧ s.fb (Blk.hlane m) HLANE.HL_STAT_CDR_LOCK = false :=
  ⟨(let m : Fin 64 := 1; let s : State := State.on; (s.setF (Blk.hlane m) HLANE.HL_STAT_STATE 7).setF (Blk.hlane m) HLANE.HL_STAT_CDR_LOCK 0),
    1, by decide⟩

theorem test_premises_HostNegotiation_12 :
    ∃ (s : State) (q : Requester) (m : Fin 64), s.Serves q (Blk.hlane m) true ∧ s.fb (Blk.hlane m) HLANE.HL_CTL_EN = true :=
  ⟨(let m : Fin 64 := 1; let s : State := State.on; s.setF (Blk.hlane m) HLANE.HL_CTL_EN 1), .pcie, 1, by decide⟩

theorem test_premises_HostNegotiation_13 :
    ∃ (s : State) (m : Fin 64), s.hostRuns m = true :=
  ⟨(let m : Fin 64 := 1; let s : State := State.on; { ((((s.setReg (Blk.hclu (m / 16)) HCLU.LANE_PWR 0xFFFFFFFF).setReg (Blk.hlane m) HLANE.HL_CTL (HLANE.HL_CTL_EN.put 0 1)).setReg (Blk.hlane m) HLANE.HL_STAT (HLANE.HL_STAT_STATE.put (HLANE.HL_STAT_RATE.put 0 1) 1)).setF (pllRegs (hostPll m 1)).blk (pllRegs (hostPll m 1)).lock 1) with pwr := { s.pwr with clkOff := false } }),
    1, by decide⟩

theorem test_premises_HostNegotiation_15 :
    ∃ (s : State) (m : Fin 64), (s.hlane m).asleep = true ∧ s.pwr.idle = false :=
  ⟨(let m : Fin 64 := 1; let s : State := State.on; { s.modHlane m fun h => { h with asleep := true } with pwr := { s.pwr with idle := false } }),
    1, by decide⟩

theorem test_premises_HostNegotiation_16 :
    ∃ (s : State) (q : Requester) (m : Fin 64), s.Serves q (Blk.hlane m) true ∧ s.f (Blk.hlane m) HLANE.HCOEF_IDX_BANK ≠ s.f
    (Blk.hlane m) HLANE.EQ_STAT_IN_USE ∧ s.f (Blk.hlane m) HLANE.HCOEF_IDX_INDEX < 16 :=
  ⟨(let m : Fin 64 := 1; let v : Word := 1; let s : State := State.on; (s.setF (Blk.hlane m) HLANE.HCOEF_IDX_BANK (1 - s.f (Blk.hlane m) HLANE.EQ_STAT_IN_USE)).setF (Blk.hlane m) HLANE.HCOEF_IDX_INDEX (v.toNat % 15)),
    .pcie, 1, by decide⟩

theorem test_premises_HostNegotiation_17 :
    ∃ (s : State) (q : Requester) (m : Fin 64), s.Serves q (Blk.hlane m) true ∧ s.f (Blk.hlane m) HLANE.HCOEF_IDX_BANK = s.f
    (Blk.hlane m) HLANE.EQ_STAT_IN_USE :=
  ⟨(let m : Fin 64 := 1; let s : State := State.on; s.setF (Blk.hlane m) HLANE.HCOEF_IDX_BANK (s.f (Blk.hlane m) HLANE.EQ_STAT_IN_USE)),
    .pcie, 1, by decide⟩

theorem test_premises_HousekeepingCores_0 :
    ∃ (s : State) (q : Requester) (v : Word), s.Serves q Blk.hk true ∧ HK.REF_CTL_SEL.get v ≠ 3 :=
  ⟨State.on, .pcie, (let v : Word := 1; HK.REF_CTL_SEL.put v (v.toNat % 3)), by decide⟩

theorem test_premises_HousekeepingCores_1 :
    ∃ (s : State), s.hkOn = true ∧ s.fb Blk.hk HK.STAT_REF_SETTLED = false :=
  ⟨(let s : State := State.on; s.setF Blk.hk HK.STAT_REF_SETTLED 0), by decide⟩

theorem test_premises_HousekeepingCores_2 :
    ∃ (s : State) (q : Requester) (c : Fin 4), s.Serves q Blk.hk true ∧ s.fb Blk.hk (HK.HKC_STAT_CLAIMED c) = false ∧ s.fb
    Blk.hk (HK.HKC_STAT_RUNNING c) = false ∧ s.hf (HK.HKC_CTL_MODE c) ≠ 0 ∧ s.hsHolds Blk.hk = false :=
  ⟨(let c : Fin 4 := 1; let s : State := State.on; { ((s.setF Blk.hk (HK.HKC_STAT_CLAIMED c) 0).setF Blk.hk (HK.HKC_STAT_RUNNING c) 0).setF Blk.hk (HK.HKC_CTL_MODE c) 1 with pwr := { s.pwr with asked := [] } }),
    .pcie, 1, by decide⟩

theorem test_premises_HousekeepingCores_3 :
    ∃ (s : State) (q : Requester) (c : Fin 4), s.Serves q Blk.hk true ∧ s.fb Blk.hk (HK.HKC_STAT_RUNNING c) = true ∧ s.hf
    (HK.HKC_CTL_MODE c) ≠ 0 :=
  ⟨(let c : Fin 4 := 1; let s : State := State.on; (s.setF Blk.hk (HK.HKC_STAT_RUNNING c) 1).setF Blk.hk (HK.HKC_CTL_MODE c) 2),
    .pcie, 1, by decide⟩

theorem test_premises_HousekeepingCores_4 :
    ∃ (s : State) (q : Requester) (c : Fin 4), s.Serves q Blk.hk true ∧ s.fb Blk.hk (HK.HKC_STAT_RUNNING c) = true ∧ s.hf
    (HK.HKC_CTL_MODE c) = 1 :=
  ⟨(let c : Fin 4 := 1; let s : State := State.on; (s.setF Blk.hk (HK.HKC_STAT_RUNNING c) 1).setF Blk.hk (HK.HKC_CTL_MODE c) 1),
    .pcie, 1, by decide⟩

theorem test_premises_HousekeepingCores_5 :
    ∃ (s : State) (c : Fin 4), s.hkOn = true ∧ s.fb Blk.hk (HK.HKC_STAT_RUNNING c) = true ∧ s.fb Blk.hk (HK.HKC_STAT_CAL_RUN c)
    = false ∧ s.fb Blk.hk (HK.HKC_STAT_CLAIMED c) = false ∧ s.fb Blk.hk (HK.HKC_CTL_DELIVER_ALL c) = true ∧ (s.hkc
    c).fifo.length < 64 :=
  ⟨(let c : Fin 4 := 1; let s : State := State.on; (((s.setF Blk.hk (HK.HKC_STAT_RUNNING c) 1).setF Blk.hk (HK.HKC_STAT_CAL_RUN c) 0).setF Blk.hk (HK.HKC_STAT_CLAIMED c) 0).setF Blk.hk (HK.HKC_CTL_DELIVER_ALL c) 1),
    1, by decide⟩

theorem test_premises_HousekeepingCores_6 :
    ∃ (s : State) (c : Fin 4), s.fb Blk.hk (HK.HKC_STAT_RUNNING c) = false :=
  ⟨(let c : Fin 4 := 1; let s : State := State.on; s.setF Blk.hk (HK.HKC_STAT_RUNNING c) 0), 1, by decide⟩

theorem test_premises_HousekeepingCores_7 :
    ∃ (s : State) (q : Requester) (c : Fin 4), s.Serves q Blk.hk true ∧ s.fb Blk.hk HK.STAT_REF_SETTLED = true ∧ s.fb Blk.hk
    (HK.HKC_STAT_CLAIMED c) = false :=
  ⟨(let c : Fin 4 := 1; let s : State := State.on; (s.setF Blk.hk HK.STAT_REF_SETTLED 1).setF Blk.hk (HK.HKC_STAT_CLAIMED c) 0),
    .pcie, 1, by decide⟩

theorem test_premises_HousekeepingCores_8 :
    ∃ (s : State) (q : Requester), s.Serves q Blk.hk true ∧ s.fb Blk.hk HK.STAT_REF_SETTLED = false :=
  ⟨(let s : State := State.on; s.setF Blk.hk HK.STAT_REF_SETTLED 0), .pcie, by decide⟩

theorem test_premises_HousekeepingCores_9 :
    ∃ (s : State) (c : Fin 4), s.hkOn = true ∧ s.fb Blk.hk (HK.HKC_STAT_CAL_RUN c) = true :=
  ⟨(let c : Fin 4 := 1; let s : State := State.on; s.setF Blk.hk (HK.HKC_STAT_CAL_RUN c) 1), 1, by decide⟩

theorem test_premises_HousekeepingCores_10 :
    ∃ (s : State) (q : Requester) (v : Word), s.Serves q Blk.fog true ∧ s.hkOn = true ∧ s.fb Blk.fog FOG.HK_RX_EN = false ∧
    FOG.HK_RX_EN.get v = 1 :=
  ⟨(let s : State := State.on; s.setF Blk.fog FOG.HK_RX_EN 0), .pcie, FOG.HK_RX_EN.put 0 1, by decide⟩

theorem test_premises_HousekeepingCores_11 :
    ∃ (s : State) (q : Requester), s.Serves q Blk.filt true ∧ s.fcoefSel.2.1 ≠ s.uf Blk.filt (FILT.FILT_CFG_BANK s.fcoefSel.1) :=
  ⟨(let s : State := State.on; s.setF Blk.filt FILT.FCOEF_IDX_BANK (1 - s.uf Blk.filt (FILT.FILT_CFG_BANK s.fcoefSel.1))),
    .pcie, by decide⟩

theorem test_premises_HousekeepingCores_12 :
    ∃ (s : State) (q : Requester), s.Serves q Blk.filt true ∧ s.fcoefSel.2.1 = s.uf Blk.filt (FILT.FILT_CFG_BANK s.fcoefSel.1) :=
  ⟨State.on, .pcie, by decide⟩

theorem test_premises_HousekeepingCores_13 :
    ∃ (s : State) (q : Requester) (c : Fin 4), s.Serves q Blk.hk true ∧ (s.hkc c).fifo.length ≤ 64 :=
  ⟨(let c : Fin 4 := 1; let s : State := State.on; s.setHkc c { s.hkc c with fifo := [⟨1, 2, 3, 4⟩, ⟨5, 6, 7, 8⟩] }),
    .pcie, 1, by decide⟩

theorem test_premises_HdacChannels_0 :
    ∃ (s : State) (q : Requester) (n : Fin 32), s.Serves q Blk.hdac true ∧ s.staged Blk.hdac = false ∧ s.df (HDAC.CH_CTL_UPD n)
    = 0 ∧ s.fb Blk.hdac (HDAC.CH_STAT_CHANGING n) = false ∧ s.hdacHeld n = false ∧ s.hdacStreams n = false :=
  ⟨(let n : Fin 32 := 1; let s : State := State.on; { ((s.setF Blk.hdac (HDAC.CH_CTL_UPD n) 0).setF Blk.hdac (HDAC.CH_STAT_CHANGING n) 0).setF Blk.hdac HDR.BLK_CTL_STAGE 0 with clrPin := true, hdac := [] }),
    .pcie, 1, by decide⟩

theorem test_premises_HdacChannels_1 :
    ∃ (s : State) (q : Requester) (n : Fin 32), s.Serves q Blk.hdac true ∧ s.staged Blk.hdac = false ∧ s.df (HDAC.CH_CTL_UPD n)
    = 1 :=
  ⟨(let n : Fin 32 := 1; let s : State := State.on; (s.setF Blk.hdac (HDAC.CH_CTL_UPD n) 1).setF Blk.hdac HDR.BLK_CTL_STAGE 0),
    .pcie, 1, by decide⟩

theorem test_premises_HdacChannels_2 :
    ∃ (s : State) (n : Fin 32) (q : Requester) (groups : BitVec 16), s.Serves q Blk.hdac true ∧ s.df (HDAC.CH_CTL_UPD n) = 1 ∧
    groups.getLsbD (s.df (HDAC.CH_CTL_GROUP n)) = true ∧ s.fb Blk.hdac (HDAC.CH_STAT_CHANGING n) = false ∧ s.hdacHeld n =
    false ∧ s.hdacStreams n = false :=
  ⟨(let n : Fin 32 := 1; let s : State := State.on; { (s.setF Blk.hdac (HDAC.CH_CTL_UPD n) 1).setF Blk.hdac (HDAC.CH_STAT_CHANGING n) 0 with clrPin := true, hdac := [] }),
    1, .pcie, 0xFFFF, by decide⟩

theorem test_premises_HdacChannels_3 :
    ∃ (s : State) (q : Requester) (n : Fin 32), s.Serves q Blk.hdac true ∧ s.df (HDAC.CH_CTL_UPD n) = 2 ∧ s.hdacHeld n = false :=
  ⟨(let n : Fin 32 := 1; let s : State := State.on; { s.setF Blk.hdac (HDAC.CH_CTL_UPD n) 2 with clrPin := true }),
    .pcie, 1, by decide⟩

theorem test_premises_HdacChannels_4 :
    ∃ (s : State) (q : Requester) (n : Fin 32) (mode : Fin 4), s.Serves q Blk.hdac true ∧ s.staged Blk.hdac = false ∧ s.df
    (HDAC.CH_CTL_UPD n) ≠ 3 ∧ s.df (HDAC.CH_CTL_MODE n) ≠ mode.val :=
  ⟨(let n : Fin 32 := 1; let mode : Fin 4 := 1; let s : State := State.on; ((s.setF Blk.hdac HDR.BLK_CTL_STAGE 0).setF Blk.hdac (HDAC.CH_CTL_UPD n) (n % 3)).setF Blk.hdac (HDAC.CH_CTL_MODE n) (3 - mode)),
    .pcie, 1, 1, by decide⟩

theorem test_premises_HdacChannels_5 :
    ∃ (s : State) (n : Fin 32), s.hkOn = true ∧ s.fb Blk.hdac (HDAC.CH_STAT_CHANGING n) = true ∧ s.hdacHeld n = false ∧ s.fb
    Blk.hdac (HDAC.CH_STAT_CLEARED n) = false ∧ s.hdacStreams n = false :=
  ⟨(let n : Fin 32 := 1; let s : State := State.on; { (s.setF Blk.hdac (HDAC.CH_STAT_CHANGING n) 1).setF Blk.hdac (HDAC.CH_STAT_CLEARED n) 0 with clrPin := true, hdac := [] }),
    1, by decide⟩

theorem test_premises_HdacChannels_6 :
    ∃ (s : State) (n : Fin 32), s.hkOn = true ∧ s.df (HDAC.CH_CTL_MODE n) < 2 :=
  ⟨(let n : Fin 32 := 1; let s : State := State.on; s.setF Blk.hdac (HDAC.CH_CTL_MODE n) 1), 1, by decide⟩

theorem test_premises_HdacChannels_7 :
    ∃ (s : State) (n : Fin 32), s.hkOn = true ∧ 2 ≤ s.df (HDAC.CH_CTL_MODE n) :=
  ⟨(let n : Fin 32 := 1; let s : State := State.on; s.setF Blk.hdac (HDAC.CH_CTL_MODE n) 2), 1, by decide⟩

theorem test_premises_HdacChannels_8 :
    ∃ (s : State) (n : Fin 32), s.hkOn = true ∧ s.df (HDAC.CH_CTL_MODE n) < 2 :=
  ⟨(let n : Fin 32 := 1; let s : State := State.on; s.setF Blk.hdac (HDAC.CH_CTL_MODE n) 1), 1, by decide⟩

theorem test_premises_HdacChannels_9 :
    ∃ (s : State) (n : Fin 32), s.hkOn = true ∧ 2 ≤ s.df (HDAC.CH_CTL_MODE n) :=
  ⟨(let n : Fin 32 := 1; let s : State := State.on; s.setF Blk.hdac (HDAC.CH_CTL_MODE n) 3), 1, by decide⟩

theorem test_premises_HdacChannels_10 :
    ∃ (s : State) (n : Fin 32), s.clrPin = true ∧ s.hkOn = true ∧ s.fb Blk.hdac (HDAC.CH_CTL_CLR_EN n) = true :=
  ⟨(let n : Fin 32 := 1; let s : State := State.on; { s.setF Blk.hdac (HDAC.CH_CTL_CLR_EN n) 1 with clrPin := true }), 1,
    by decide⟩

theorem test_premises_HdacChannels_11 :
    ∃ (s : State), s.hkOn = true :=
  ⟨(let s : State := State.on; { s with clrPin := false }), by decide⟩

theorem test_premises_ThermalMeasurement_0 :
    ∃ (s : State) (q : Requester), s.Serves q Blk.therm true ∧ s.fb Blk.therm THERM.STAT_BUSY = false :=
  ⟨(let s : State := State.on; s.setF Blk.therm THERM.STAT_BUSY 0), .pcie, by decide⟩

theorem test_premises_ThermalMeasurement_1 :
    ∃ (s : State) (q : Requester), s.Serves q Blk.therm true ∧ s.fb Blk.therm THERM.STAT_BUSY = true :=
  ⟨(let s : State := State.on; s.setF Blk.therm THERM.STAT_BUSY 1), .pcie, by decide⟩

theorem test_premises_ThermalMeasurement_2 :
    ∃ (s : State), (s.thf THERM.MEAS_CTL_PERIOD_US ≠ 0 ∨ 3 ≤ s.f Blk.pwr PWR.STAT_STATE ∨ s.critical = true) ∧ s.fb Blk.therm
    THERM.STAT_BUSY = false :=
  ⟨(let s : State := State.on; (s.setF Blk.therm THERM.STAT_BUSY 0).setF Blk.therm THERM.MEAS_CTL_PERIOD_US 50),
    by decide⟩

theorem test_premises_ThermalMeasurement_3 :
    ∃ (s : State), s.thf THERM.MEAS_CTL_PERIOD_US = 0 ∧ s.f Blk.pwr PWR.STAT_STATE < 3 ∧ s.critical = false :=
  ⟨(let s : State := State.on; ((s.setF Blk.therm THERM.STAT_CRIT 0).setF Blk.therm THERM.MEAS_CTL_PERIOD_US 0).setF Blk.pwr PWR.STAT_STATE 1),
    by decide⟩

theorem test_premises_ThermalMeasurement_4 :
    ∃ (s : State), s.fb Blk.therm THERM.STAT_BUSY = true :=
  ⟨(let s : State := State.on; s.setF Blk.therm THERM.STAT_BUSY 1), by decide⟩

theorem test_premises_ThermalMeasurement_5 :
    ∃ (s : State) (q : Requester) (v : Word), s.Serves q Blk.therm true ∧ THERM.BAND_CTL_FORCE_EN.get v = 1 :=
  ⟨State.on, .pcie, THERM.BAND_CTL_FORCE_EN.put 0 1, by decide⟩

theorem test_premises_FoghornPackets_0 :
    ∃ (s : State) (q : Requester) (buf : Fin 4) (len : BitVec 10), s.Serves q Blk.fog true ∧ buf.val ≠ 0 ∧ s.fogBusy buf = false
    ∧ len ≠ 0 :=
  ⟨(let s : State := State.on; s.setF Blk.fog FOG.TX_QSTAT_BUSY 0), .pcie,
    (let buf : Fin 4 := 1; if buf = 0 then 2 else buf), 1, by decide⟩

theorem test_premises_FoghornPackets_1 :
    ∃ (s : State) (q : Requester) (buf : Fin 4) (len : BitVec 10), s.Serves q Blk.fog true ∧ (buf.val = 0 ∨ s.fogBusy buf = true
    ∨ len = 0) :=
  ⟨State.on, .pcie, 1, 0, by decide⟩

theorem test_premises_FoghornPackets_2 :
    ∃ (s : State) (b : Nat), s.fb Blk.fog FOG.FOG_CTL_SLOTTED = false ∧ s.fogTxRuns = true ∧ s.fog.sending = none ∧ s.hsHolds
    Blk.fog = false ∧ (List.range 4).find? s.fogBusy = some b :=
  ⟨(let s : State := State.on; { (((s.setF Blk.fog FOG.FOG_CTL_SLOTTED 0).setF Blk.fog FOG.FOG_CTL_TX_EN 1).setF Blk.fog FOG.TX_QSTAT_BUSY 12).setF Blk.pwr PWR.STAT_STATE 0 with fog := { s.fog with sending := none }, pwr := { s.pwr with asked := [] } }),
    2, by decide⟩

theorem test_premises_FoghornPackets_3 :
    ∃ (s : State) (b : Nat), s.fog.sending = some b ∧ b ≠ 0 ∧ b < 4 :=
  ⟨(let b : Nat := 2; let s : State := State.on; { s with fog := { s.fog with sending := some b } }), 2, by decide⟩

theorem test_premises_FoghornPackets_4 :
    ∃ (s : State) (q : Requester) (v : Word), s.Serves q Blk.fog true ∧ s.fb Blk.fog FOG.FOG_CTL_RX_EN = false ∧
    FOG.FOG_CTL_RX_EN.get v = 1 :=
  ⟨(let s : State := State.on; s.setF Blk.fog FOG.FOG_CTL_RX_EN 0), .pcie, FOG.FOG_CTL_RX_EN.put 0 1, by decide⟩

theorem test_premises_FoghornPackets_5 :
    ∃ (s : State) (q : Requester) (v : Word), s.Serves q Blk.fog true ∧ s.fb Blk.fog FOG.FOG_CTL_RX_EN = true ∧
    FOG.FOG_CTL_RX_EN.get v = 0 :=
  ⟨(let s : State := State.on; s.setF Blk.fog FOG.FOG_CTL_RX_EN 1), .pcie, 0, by decide⟩

theorem test_premises_FoghornPackets_6 :
    ∃ (s : State), s.fogOn = true ∧ s.fogRx = 1 :=
  ⟨(let s : State := State.on; s.setF Blk.fog FOG.FOG_STAT_RX_STATE 1), by decide⟩

theorem test_premises_FoghornPackets_7 :
    ∃ (s : State) (power : BitVec 16), s.fogOn = true ∧ s.fogRx = 5 ∧ power.toInt < s.fog.power.toInt + 4 * (s.f Blk.fog
    FOG.DET_CTL_CAPTURE_MARGIN : Int) :=
  ⟨(let power : BitVec 16 := 1; let s : State := State.on; { s.setF Blk.fog FOG.FOG_STAT_RX_STATE 5 with fog := { s.fog with power := power } }),
    1, by decide⟩

theorem test_premises_FoghornPackets_8 :
    ∃ (s : State), s.fogOn = true ∧ s.fogRx = 2 :=
  ⟨(let s : State := State.on; s.setF Blk.fog FOG.FOG_STAT_RX_STATE 2), by decide⟩

theorem test_premises_FoghornPackets_9 :
    ∃ (s : State), s.fogOn = true ∧ s.fogRx = 3 :=
  ⟨(let s : State := State.on; s.setF Blk.fog FOG.FOG_STAT_RX_STATE 3), by decide⟩

theorem test_premises_FoghornPackets_10 :
    ∃ (s : State) (info : BitVec 32) (crc : BitVec 16), s.fogOn = true ∧ s.fogRx = 4 ∧ Fog.crc16 (Fog.lowFirst 32 info.toNat) =
    crc.toNat ∧ Fog.headerOk info.toNat = true :=
  ⟨(let s : State := State.on; s.setF Blk.fog FOG.FOG_STAT_RX_STATE 4), 0x50000,
    BitVec.ofNat 16 (Fog.crc16 (Fog.lowFirst 32 0x50000)), by decide⟩

theorem test_premises_FoghornPackets_11 :
    ∃ (s : State) (info : BitVec 32) (crc : BitVec 16), s.fogOn = true ∧ s.fogRx = 4 ∧ Fog.crc16 (Fog.lowFirst 32 info.toNat) ≠
    crc.toNat :=
  ⟨(let s : State := State.on; s.setF Blk.fog FOG.FOG_STAT_RX_STATE 4), 1, 1, by decide⟩

theorem test_premises_FoghornPackets_12 :
    ∃ (s : State) (data : List Byte) (crc : BitVec 32), s.fogOn = true ∧ s.fogRx = 5 ∧ data.length = bitsOf s.fog.hdr 16 10 ∧
    0x80 ≤ ((data.head?).getD 0).toNat ∧ Codec.crc32c data = crc ∧ s.fog.ring.length < 8 :=
  ⟨(let data : List Byte := [0x90, 1]; let s : State := State.on; { s.setF Blk.fog FOG.FOG_STAT_RX_STATE 5 with fog := { s.fog with hdr := 65536 * data.length + 77 } }),
    [0x90, 1], Codec.crc32c [0x90, 1], by decide⟩

theorem test_premises_FoghornPackets_13 :
    ∃ (s : State) (data : List Byte) (crc : BitVec 32), s.fogOn = true ∧ s.fogRx = 5 ∧ data.length = bitsOf s.fog.hdr 16 10 ∧
    Codec.crc32c data ≠ crc :=
  ⟨(let data : List Byte := []; let s : State := State.on; { s.setF Blk.fog FOG.FOG_STAT_RX_STATE 5 with fog := { s.fog with hdr := 65536 * data.length + 77 } }),
    [], 1, by decide⟩

theorem test_premises_FoghornPackets_14 :
    ∃ (s : State), s.fogOn = true ∧ 2 ≤ s.fogRx :=
  ⟨(let s : State := State.on; s.setF Blk.fog FOG.FOG_STAT_RX_STATE 4), by decide⟩

theorem test_premises_FoghornPackets_15 :
    ∃ (s : State) (q : Requester), s.Serves q Blk.fog true ∧ s.fog.ring.length ≤ 8 :=
  ⟨(let s : State := State.on; { s with fog := { s.fog with ring := List.replicate 3 ⟨1, 2, 0, 1, 2, 3, 4, 5, 6, 7, [1, 2]⟩ } }),
    .pcie, by decide⟩

theorem test_premises_FoghornPackets_16 :
    ∃ (s : State), s.fogOn = true ∧ s.fb Blk.fog FOG.FOG_CTL_RX_EN = true ∧ s.f Blk.pwr PWR.STAT_STATE = 4 ∧ s.fogRx ≤ 1 :=
  ⟨(let s : State := State.on; ((s.setF Blk.fog FOG.FOG_CTL_RX_EN 1).setF Blk.pwr PWR.STAT_STATE 4).setF Blk.fog FOG.FOG_STAT_RX_STATE 1),
    by decide⟩

theorem test_premises_SramUpkeep_0 :
    ∃ (s : State) (q : Requester) (v : Word), s.Serves q Blk.mem true ∧ MEM.INVAL_CTL_GO.get v = 1 ∧ MEM.INVAL_CTL_REGION.get v
    ≠ 3 :=
  ⟨(let s : State := State.on; { s with sram := { s.sram with bytes := [(5, 7), (0x2400001, 9)], valid := [(1, true), (0x900000, true)] } }),
    .pcie, MEM.INVAL_CTL_GO.put 0 1, by decide⟩

theorem test_premises_SramUpkeep_2 :
    ∃ (s : State) (q : Requester) (v : Word), s.Serves q Blk.mem true ∧ (q = .keeper ∨ s.dbgLevel = 2) ∧ MEM.SEAL_CTL_PAGE.get v
    + max 1 (MEM.SEAL_CTL_COUNT.get v) ≤ 8192 :=
  ⟨(let s : State := State.on; s.setF Blk.dbg DBG.STAT_LEVEL 2), .pcie,
    (let v : Word := 1; MEM.SEAL_CTL_COUNT.put (MEM.SEAL_CTL_PAGE.put v (v.toNat % 1000)) (v.toNat % 9)), by decide⟩

theorem test_premises_SramUpkeep_3 :
    ∃ (s : State) (q : Requester), s.Serves q Blk.mem true ∧ q ≠ .keeper ∧ s.dbgLevel ≠ 2 :=
  ⟨(let s : State := State.on; s.setF Blk.dbg DBG.STAT_LEVEL 1), .pcie, by decide⟩

theorem test_premises_SramUpkeep_4 :
    ∃ (s : State) (g : Nat), s.fb Blk.mem MEM.SEAL_STAT_BUSY = true ∧ g ∈ s.sram.sealJob :=
  ⟨(let g : Nat := 1; let s : State := State.on; (s.setF Blk.mem MEM.SEAL_STAT_BUSY 1).setSram { s.sram with sealJob := [3, g, 9] }),
    1, by decide⟩

theorem test_premises_SramUpkeep_5 :
    ∃ (s : State) (q : Requester) (v : Word), s.Serves q Blk.mem true ∧ (sramRegion (65536 * s.f Blk.mem
    MEM.REP_IDX_MACRO)).isSome = true ∧ s.macroEmpty (s.f Blk.mem MEM.REP_IDX_MACRO) = true ∧ MEM.REP_DATA_COL.get v = 0 ∧
    (s.repUsed (s.f Blk.mem MEM.REP_IDX_MACRO)).1 < 2 :=
  ⟨(let s : State := State.on; (s.setF Blk.mem MEM.REP_IDX_MACRO 3).setSram { s.sram with valid := [], rep := [] }),
    .pcie, (let v : Word := 1; MEM.REP_DATA_COL.put v 0), by decide⟩

theorem test_premises_SramUpkeep_6 :
    ∃ (s : State) (q : Requester), s.Serves q Blk.mem true ∧ s.macroEmpty (s.f Blk.mem MEM.REP_IDX_MACRO) = false :=
  ⟨(let s : State := State.on; (s.setF Blk.mem MEM.REP_IDX_MACRO 3).setSram { s.sram with valid := [(3 * 16384, true)], rep := [] }),
    .pcie, by decide⟩

theorem test_premises_SramUpkeep_7 :
    ∃ (s : State), s.fabOn = true ∧ s.fb Blk.mem MEM.SCRUB_CTL_EN = true ∧ s.f Blk.pwr PWR.STAT_STATE < 2 ∧ s.sram.scrubSeg = 0
    ∧ s.sram.scrubLine + 1 < 0x100000 :=
  ⟨(let flips : List Flip := []; let s : State := State.on; { (s.setF Blk.mem MEM.SCRUB_CTL_EN 1).setF Blk.pwr PWR.STAT_STATE 0 with sram := { s.sram with scrubSeg := 0, scrubLine := 5, bytes := [(165, 3), (200, 4)], valid := [(41, true), (50, true)], flips := [(165, 1), (166, 0x13)] } }),
    by decide⟩

theorem test_premises_SramUpkeep_8 :
    ∃ (s : State), (s.fb Blk.mem MEM.SCRUB_CTL_EN = false ∨ 2 ≤ s.f Blk.pwr PWR.STAT_STATE) :=
  ⟨(let s : State := State.on; s.setF Blk.mem MEM.SCRUB_CTL_EN 0), by decide⟩

theorem test_premises_SramUpkeep_9 :
    ∃ (s : State) (g : Nat) (rest : List Nat), s.sram.gold = g :: rest ∧ inRegion 2 (1024 * g) = true ∧ s.fabOn = true ∧ s.fb
    Blk.mem MEM.GOLD_CTL_SE_EN = false :=
  ⟨(let g : Nat := 0x9003; let rest : List Nat := []; let s : State := State.on; { s.setF Blk.mem MEM.GOLD_CTL_SE_EN 0 with sram := { s.sram with gold := g :: rest } }),
    0x9003, [], by decide⟩

theorem test_premises_SramUpkeep_10 :
    ∃ (s : State) (g : Nat) (rest : List Nat), s.sram.gold = g :: rest ∧ inRegion 2 (1024 * g) = true ∧ s.fabOn = true ∧ s.fb
    Blk.mem MEM.GOLD_CTL_SE_EN = false :=
  ⟨(let g : Nat := 0x9003; let rest : List Nat := []; let s : State := State.on; { s.setF Blk.mem MEM.GOLD_CTL_SE_EN 0 with sram := { s.sram with gold := g :: rest, bytes := [(7, 1), (1024 * g + 4, 2)] } }),
    0x9003, [], by decide⟩

theorem test_premises_DdrUpkeep_0 :
    ∃ (s : State) (q : Requester), s.Serves q Blk.ddr true ∧ s.fb Blk.ddr DDR.STAT_TRAINED = false :=
  ⟨(let s : State := State.on; s.setF Blk.ddr DDR.STAT_TRAINED 0), .pcie, by decide⟩

theorem test_premises_DdrUpkeep_1 :
    ∃ (s : State), s.domReady Dom.ddr = true ∧ s.ddr.training = true ∧ s.ddrf DDR.CFG_SIZE_GIB ≠ 0 :=
  ⟨(let s : State := State.on; { s.setF Blk.ddr DDR.CFG_SIZE_GIB 8 with ddr := { s.ddr with training := true } }),
    by decide⟩

theorem test_premises_DdrUpkeep_2 :
    ∃ (s : State) (q : Requester) (v : Word), s.Serves q Blk.ddr true ∧ s.ddrServes = true ∧ s.ddrSealable
    (DDR.SEAL_CTL_PAGE.get v) = true ∧ 4096 * DDR.SEAL_CTL_PAGE.get v < s.ddrData :=
  ⟨(let s : State := State.on; { (((((s.setF Blk.ddr DDR.STAT_TRAINED 1).setF Blk.ddr DDR.STAT_SELF_REFRESH 0).setF Blk.ddr DDR.CFG_SIZE_GIB 4).setF Blk.ddr (DDR.RGN_BASE_BASE 0) 0).setF Blk.ddr (DDR.RGN_SIZE_SIZE 0) 0x10000).setF Blk.ddr (DDR.RGN_SIZE_SEAL 0) 1 with used := [] }),
    .pcie, (let v : Word := 1; DDR.SEAL_CTL_PAGE.put v (v.toNat % 0x10000)), by decide⟩

theorem test_premises_DdrUpkeep_3 :
    ∃ (s : State) (q : Requester), s.Serves q Blk.ddr true ∧ s.ddrServes = false :=
  ⟨(let s : State := State.on; s.setF Blk.ddr DDR.STAT_TRAINED 0), .pcie, by decide⟩

theorem test_premises_DdrUpkeep_4 :
    ∃ (s : State) (q : Requester) (v : Word), s.Serves q Blk.ddr true ∧ DDR.PV_CTL_GO.get v = 1 :=
  ⟨(let s : State := State.on; { s with ddr := { s.ddr with bytes := [(5, 7), (4100, 9)], pv := [(0, true), (1, true)] } }),
    .pcie, DDR.PV_CTL_GO.put 0 1, by decide⟩

theorem test_premises_DdrUpkeep_5 :
    ∃ (s : State), s.domReady Dom.ddr = true :=
  ⟨State.on, by decide⟩

theorem test_premises_DdrUpkeep_6 :
    ∃ (s : State), s.ddrServes = true :=
  ⟨(let s : State := State.on; (s.setF Blk.ddr DDR.STAT_TRAINED 1).setF Blk.ddr DDR.STAT_SELF_REFRESH 0), by decide⟩

theorem test_premises_DdrUpkeep_7 :
    ∃ (s : State), s.ddrServes = true :=
  ⟨(let s : State := State.on; (s.setF Blk.ddr DDR.STAT_TRAINED 1).setF Blk.ddr DDR.STAT_SELF_REFRESH 0), by decide⟩

theorem test_premises_DdrUpkeep_8 :
    ∃ (s : State) (p : Nat), s.ddrServes = true ∧ s.fb Blk.ddr DDR.SCRUB_CTL_EN = true ∧ s.f Blk.pwr PWR.STAT_STATE < 2 ∧
    s.ddrPages.find? (fun x => decide (s.ddr.scrubPage ≤ x)) = some p :=
  ⟨(let flips : List Flip := []; let s : State := State.on; { (((s.setF Blk.ddr DDR.STAT_TRAINED 1).setF Blk.ddr DDR.STAT_SELF_REFRESH 0).setF Blk.ddr DDR.SCRUB_CTL_EN 1).setF Blk.pwr PWR.STAT_STATE 0 with ddr := { s.ddr with pv := [(1, true), (3, true)], scrubPage := 1, scrubBurst := 4, flips := [(4096 + 260, 1), (3 * 4096 + 5, 2)] } }),
    1, by decide⟩

theorem test_premises_DmaChannels_0 :
    ∃ (s : State) (q : Requester) (c : Fin 16), s.Serves q Blk.dma true ∧ (s.dmaState c ≠ 0 ∨ s.dmaf (DMA.CH_CTL_RUN c) = 0) :=
  ⟨(let c : Fin 16 := 1; let s : State := State.on; s.setReg Blk.dma (DMA.CH_TAIL c) 4), .pcie, 1, by decide⟩

theorem test_premises_DmaChannels_1 :
    ∃ (s : State) (q : Requester) (c : Fin 16), s.Serves q Blk.dma true ∧ s.dmaState c = 0 ∧ s.dmaf (DMA.CH_CTL_RUN c) = 1 :=
  ⟨(let c : Fin 16 := 1; let s : State := State.on; (((s.setReg Blk.dma (DMA.CH_TAIL c) 4).setF Blk.dma (DMA.CH_STAT_STATE c) 0).setF Blk.dma (DMA.CH_CTL_RUN c) 1).setReg Blk.dma (DMA.CH_HEAD c) 3),
    .pcie, 1, by decide⟩

theorem test_premises_DmaChannels_2 :
    ∃ (s : State) (q : Requester) (c : Fin 16), s.Serves q Blk.dma true ∧ s.dmaBusy c = true :=
  ⟨(let c : Fin 16 := 1; let s : State := State.on; s.setF Blk.dma (DMA.CH_STAT_STATE c) 2), .pcie, 1, by decide⟩

theorem test_premises_DmaChannels_3 :
    ∃ (s : State) (q : Requester) (c : Fin 16), s.Serves q Blk.dma true ∧ s.dmaBusy c = false :=
  ⟨(let c : Fin 16 := 1; let s : State := State.on; s.setF Blk.dma (DMA.CH_STAT_STATE c) 3), .pcie, 1, by decide⟩

theorem test_premises_DmaChannels_4 :
    ∃ (s : State) (q : Requester) (c : Fin 16), s.Serves q Blk.dma true ∧ s.dmaBusy c = false :=
  ⟨(let c : Fin 16 := 1; let s : State := State.on; s.setF Blk.dma (DMA.CH_STAT_STATE c) 4), .pcie, 1, by decide⟩

theorem test_premises_DmaChannels_5 :
    ∃ (s : State) (c : Fin 16) (desc : List Byte), s.fabOn = true ∧ s.dmaState c = 1 ∧ (s.dmaCh c).cur = none ∧ (s.dmaCh
    c).pwrStop = false ∧ s.dmaEmpty c = false ∧ s.dmaf (DMA.CH_CTL_RING_SPACE c) = 0 ∧ s.hostReach = true ∧ s.pwr.asked = []
    ∧ 32 ≤ desc.length ∧ Codec.ofBytes ((desc.drop 16).take 4) % 2 ^ 24 ≠ 0 ∧ Codec.ofBytes ((desc.drop 20).take 4) = 4 :=
  ⟨(let c : Fin 16 := 1; let s : State := State.on; { ((((((s.setF Blk.dma (DMA.CH_STAT_STATE c) 1).setReg Blk.dma (DMA.CH_TAIL c) 2).setReg Blk.dma (DMA.CH_HEAD c) 1).setF Blk.dma (DMA.CH_CTL_RING_SPACE c) 0).setF Blk.pcie PCIE.LINK_STAT_DL_ACTIVE 1).modPwr fun p => { p with asked := [] }) with dma := [], busMaster := true }),
    1, [1, 0, 0, 0, 0, 0, 0, 0, 1, 2, 3, 4, 0, 0, 0, 0, 7, 1, 0, 0, 4, 0, 0, 0] ++ List.replicate 8 (0 : Byte), by decide⟩

theorem test_premises_DmaChannels_6 :
    ∃ (s : State) (c : Fin 16) (desc : List Byte), s.fabOn = true ∧ s.dmaState c = 1 ∧ (s.dmaCh c).cur = none ∧ (s.dmaCh
    c).pwrStop = false ∧ s.dmaEmpty c = false ∧ s.dmaf (DMA.CH_CTL_RING_SPACE c) = 0 ∧ s.hostReach = true ∧ s.pwr.asked = []
    ∧ 32 ≤ desc.length ∧ Codec.ofBytes ((desc.drop 16).take 4) % 2 ^ 24 = 0 :=
  ⟨(let c : Fin 16 := 1; let s : State := State.on; { ((((((s.setF Blk.dma (DMA.CH_STAT_STATE c) 1).setReg Blk.dma (DMA.CH_TAIL c) 2).setReg Blk.dma (DMA.CH_HEAD c) 1).setF Blk.dma (DMA.CH_CTL_RING_SPACE c) 0).setF Blk.pcie PCIE.LINK_STAT_DL_ACTIVE 1).modPwr fun p => { p with asked := [] }) with dma := [], busMaster := true }),
    1, List.replicate 32 (0 : Byte), by decide⟩

theorem test_premises_DmaChannels_7 :
    ∃ (s : State) (d : DmaDesc) (c : Fin 16) (source : List Byte), s.fabOn = true ∧ s.dmaBusy c = true ∧ (s.dmaCh c).cur = some
    d ∧ (s.dmaCh c).moved = 0 ∧ dmaSrcSpace d = 0 ∧ dmaDstSpace d = 0 ∧ d.len ≤ source.length ∧ s.hostReach = true ∧ s.dmaf
    (DMA.CH_CTL_RING_SPACE c) = 0 :=
  ⟨(let d : DmaDesc := ⟨64, 128, 2, 256⟩; let c : Fin 16 := 1; let s : State := State.on; { (((s.setF Blk.dma (DMA.CH_STAT_STATE c) 2).setF Blk.dma (DMA.CH_CTL_RING_SPACE c) 0).setF Blk.pcie PCIE.LINK_STAT_DL_ACTIVE 1) with dma := [(c.val, { cur := some d, stop := true })], busMaster := true }),
    ⟨64, 128, 2, 256⟩, 1, [1, 2], by decide⟩

theorem test_premises_DmaChannels_8 :
    ∃ (s : State) (c : Fin 16), s.fabOn = true ∧ s.dmaf (DMA.CH_CTL_ACK_MODE c) = 0 :=
  ⟨(let c : Fin 16 := 1; let s : State := State.on; s.setF Blk.dma (DMA.CH_CTL_ACK_MODE c) 0), 1, by decide⟩

theorem test_premises_DmaChannels_9 :
    ∃ (s : State) (c : Fin 16), s.dmaf (DMA.CH_CTL_ACK_MODE c) = 1 :=
  ⟨(let c : Fin 16 := 1; let s : State := State.on; s.setF Blk.dma (DMA.CH_CTL_ACK_MODE c) 1), 1, by decide⟩

theorem test_premises_DmaChannels_10 :
    ∃ (s : State) (q : Requester) (c : Fin 16), s.Serves q Blk.dma true ∧ s.dmaf (DMA.CH_CTL_RUN c) = 0 ∧ s.dmaBusy c = false :=
  ⟨(let c : Fin 16 := 1; let s : State := State.on; ((s.setF Blk.dma (DMA.CH_CTL_RUN c) 0).setF Blk.dma (DMA.CH_STAT_STATE c) 4).setReg Blk.dma (DMA.CH_TAIL c) 2),
    .pcie, 1, by decide⟩

theorem test_premises_DmaChannels_11 :
    ∃ (s : State) (q : Requester) (c : Fin 16), s.Serves q Blk.dma true ∧ (s.dmaCh c).cur.isSome = true :=
  ⟨(let c : Fin 16 := 1; let s : State := State.on; { s with dma := [(c.val, { cur := some ⟨1, 2, 3, 4⟩ })] }), .pcie, 1,
    by decide⟩

theorem test_premises_DmaChannels_12 :
    ∃ (s : State) (q : Requester) (c : Fin 16), s.Serves q Blk.dma true ∧ (s.dmaCh c).cur = none ∧ s.dmaState c ≤ 1 :=
  ⟨(let c : Fin 16 := 1; let s : State := State.on; { s.setF Blk.dma (DMA.CH_STAT_STATE c) 1 with dma := [] }), .pcie, 1,
    by decide⟩

theorem test_premises_DmaChannels_13 :
    ∃ (s : State) (d : DmaDesc) (q : Requester) (c : Fin 16), s.Serves q Blk.dma true ∧ (s.dmaCh c).cur = some d ∧ (s.dmaCh
    c).pwrStop = false ∧ s.dmaf (DMA.CH_CTL_RING_SPACE c) = 0 ∧ s.hostReach = true :=
  ⟨(let d : DmaDesc := ⟨64, 128, 9, 256⟩; let c : Fin 16 := 1; let s : State := State.on; { ((s.setF Blk.dma (DMA.CH_CTL_RING_SPACE c) 0).setF Blk.pcie PCIE.LINK_STAT_DL_ACTIVE 1) with dma := [(c.val, { cur := some d, moved := 3 })], busMaster := true }),
    ⟨64, 128, 9, 256⟩, .pcie, 1, by decide⟩

theorem test_premises_DmaChannels_14 :
    ∃ (s : State) (q : Requester) (c : Fin 16), s.Serves q Blk.dma true ∧ (s.dmaCh c).cur = none ∧ s.dmaState c ≤ 1 :=
  ⟨(let c : Fin 16 := 1; let s : State := State.on; { s.setF Blk.dma (DMA.CH_STAT_STATE c) 1 with dma := [] }), .pcie, 1,
    by decide⟩

theorem test_premises_DmaChannels_15 :
    ∃ (s : State) (q : Requester) (c : Fin 8) (v : Word), s.Serves q Blk.dma true ∧ s.dmaBusy c = false ∧ (DMA.CH_CTL_STOP
    c).get v = 0 ∧ (DMA.CH_CTL_ABORT c).get v = 0 ∧ (s.dmaf (DMA.CH_CTL_RUN c) = 1 ∨ (DMA.CH_CTL_RUN c).get v = 0) :=
  ⟨(let c : Fin 8 := 1; let s : State := State.on; (s.setF Blk.dma (DMA.CH_STAT_STATE c) 3).setF Blk.dma (DMA.CH_CTL_RUN c) 1),
    .pcie, 1, 0x1409, by decide⟩

theorem test_premises_DmaChannels_16 :
    ∃ (s : State), s.fabOn = true :=
  ⟨State.on, by decide⟩

theorem test_premises_PayloadTap_0 :
    ∃ (s : State) (p : Fin 64) (hostBound : Bool), s.dirAligned p hostBound = false :=
  ⟨(let p : Fin 64 := 1; let hostBound : Bool := true; let s : State := State.on; s.setF (Blk.port p) (if hostBound then PORT.ALIGN_STAT_RX_STATE else PORT.ALIGN_STAT_TX_STATE) 0),
    1, true, by decide⟩

theorem test_premises_PayloadTap_1 :
    ∃ (s : State) (p : Fin 64), s.dirAligned p true = true ∧ s.fb Blk.dma DMA.TAP_STAT_ACTIVE = false :=
  ⟨(let p : Fin 64 := 1; let s : State := State.on; (s.setF (Blk.port p) PORT.ALIGN_STAT_RX_STATE 3).setF Blk.dma DMA.TAP_STAT_ACTIVE 0),
    1, by decide⟩

theorem test_premises_PayloadTap_2 :
    ∃ (s : State) (b : TapBlock), s.fabOn = true ∧ s.tap.block = some b ∧ (s.tapAdrift b = true ∨ tapFull b = true) :=
  ⟨(let b : TapBlock := ⟨1, true, true, false, {}, false, 0, 0, [], []⟩; let s : State := State.on; { s with tap := { s.tap with block := some b } }),
    ⟨1, true, true, false, {}, false, 0, 0, [], []⟩, by decide⟩

theorem test_premises_PayloadTap_3 :
    ∃ (s : State), s.tap.block = none :=
  ⟨(let s : State := State.on; { s with tap := { s.tap with block := none } }), by decide⟩

theorem test_premises_PayloadTap_4 :
    ∃ (s : State) (q : Requester) (v : Word), s.Serves q Blk.dma true ∧ (s.uf (Blk.port (DMA.TAP_CTL_PORT.get v))
    PORT.PORT_CFG_TYPE = 5 ∨ (DMA.TAP_CTL_EN.get v = 1 ∧ 8 ≤ DMA.TAP_CTL_CH.get v)) :=
  ⟨State.on, .pcie, 0x8001, by decide⟩

theorem test_premises_PayloadTap_5 :
    ∃ (s : State) (q : Requester) (v : Word), s.Serves q Blk.dma true ∧ s.uf (Blk.port (DMA.TAP_CTL_PORT.get v))
    PORT.PORT_CFG_TYPE ≠ 5 ∧ DMA.TAP_CTL_EN.get v = 1 ∧ DMA.TAP_CTL_CH.get v < 8 ∧ s.tap.block = none :=
  ⟨(let s : State := State.on; { s with tap := { s.tap with block := none }, used := [] }), .pcie, 1, by decide⟩

theorem test_premises_LogbookRegions_0 :
    ∃ (s : State) (q : Requester) (on : Bool), s.Serves q Blk.log true ∧ (on = false ∨ s.logRegionsOk (s.logn LOG.RING_BASE)
    (s.logn LOG.RING_SIZE) (s.logn LOG.ANCH_BASE) (s.logn LOG.ANCH_SIZE) = true) :=
  ⟨(let s : State := State.on; ((s.setReg Blk.log LOG.RING_SIZE 1).setReg Blk.log LOG.ANCH_SIZE 0).setReg Blk.log LOG.RING_BASE 0),
    .pcie, false, by decide⟩

theorem test_premises_LogbookRegions_1 :
    ∃ (s : State) (q : Requester), s.Serves q Blk.log true ∧ s.logRegionsOk (s.logn LOG.RING_BASE) (s.logn LOG.RING_SIZE)
    (s.logn LOG.ANCH_BASE) (s.logn LOG.ANCH_SIZE) = false :=
  ⟨(let s : State := State.on; s.setReg Blk.log LOG.RING_SIZE 0xFFFFFFFF), .pcie, by decide⟩

theorem test_premises_LogbookRegions_2 :
    ∃ (s : State) (q : Requester), s.Serves q Blk.log true ∧ s.fb Blk.log LOG.LOG_CTL_DRAIN = false :=
  ⟨(let s : State := State.on; (s.setReg Blk.log LOG.ANCH_WR 77).setF Blk.log LOG.LOG_CTL_DRAIN 0), .pcie, by decide⟩

theorem test_premises_LogbookRegions_3 :
    ∃ (s : State) (q : Requester) (typ : BitVec 16), s.Serves q Blk.log true ∧ s.domReady Dom.fab = true ∧ 0x8000 ≤ typ.toNat :=
  ⟨State.on, .pcie, 0x8001, by decide⟩

theorem test_premises_LogbookRegions_4 :
    ∃ (s : State) (q : Requester) (typ : BitVec 16), s.Serves q Blk.log true ∧ typ.toNat < 0x8000 :=
  ⟨State.on, .pcie, (let typ : BitVec 16 := 1; typ % 0x8000), by decide⟩

theorem test_premises_LogbookRegions_5 :
    ∃ (s : State), (s.fb Blk.log LOG.LOG_CTL_DRAIN = false ∨ s.kprRuns = false) :=
  ⟨(let s : State := State.on; s.setF Blk.log LOG.LOG_CTL_DRAIN 0), by decide⟩

theorem test_premises_LogbookRegions_6 :
    ∃ (s : State) (p : LogPage), s.fabOn = true ∧ s.kprRuns = true ∧ s.ddrServes = true ∧ s.fb Blk.log LOG.LOG_CTL_DRAIN = true
    ∧ 4 ≤ (s.logSealed false).length ∧ 0 < s.logn LOG.RING_SIZE ∧ (s.logSealed true).length < 4 ∧ s.log.pages.find? (fun x
    => x.sealed && !x.anch) = some p :=
  ⟨(let s : State := State.on; { (((((((s.setF Blk.log LOG.LOG_CTL_DRAIN 1).setReg Blk.log LOG.RING_SIZE 8).setReg Blk.log LOG.RING_BASE 0).setF Blk.ddr DDR.STAT_TRAINED 1).setF Blk.ddr DDR.STAT_SELF_REFRESH 0).setF Blk.ddr DDR.CFG_SIZE_GIB 4).setF Blk.kpr KPR.KSTAT_STAGE 7).setF Blk.kpr KPR.KCTL_HALT 0 with log := { s.log with pages := [⟨3, false, 16, 0, true⟩, ⟨5, false, 16, 16, true⟩, ⟨6, false, 16, 32, true⟩, ⟨9, false, 16, 48, true⟩] }, sram := { s.sram with bytes := [(0x2C00C00, 5)] } }),
    ⟨3, false, 16, 0, true⟩, by decide⟩

theorem test_premises_PowerEntry_0 :
    ∃ (s : State) (q : Requester) (target : Fin 8), s.Serves q Blk.pwr true ∧ (q ≠ .pcie ∨ target ≠ 0) ∧ (target = 0 ∨ 6 ≤
    target.val ∨ s.f Blk.pwr PWR.STAT_STATE ≠ 0 ∨ s.fb Blk.pwr PWR.STAT_BUSY = true) :=
  ⟨(let s : State := State.on; s.setF Blk.pwr PWR.STAT_BUSY 1), .pcie, 1, by decide⟩

theorem test_premises_PowerEntry_1 :
    ∃ (s : State) (q : Requester) (target : Fin 8), s.Serves q Blk.pwr true ∧ 1 ≤ target.val ∧ target.val ≤ 5 ∧ s.f Blk.pwr
    PWR.STAT_STATE = 0 ∧ s.fb Blk.pwr PWR.STAT_BUSY = false ∧ s.pwr.seen = 0 ∧ (List.range 4).all (fun p => !s.wakeHeld p) =
    true :=
  ⟨(let s : State := State.on; (((s.setReg Blk.aon AON.WAKE_CTL 0).setF Blk.pwr PWR.STAT_BUSY 0).setF Blk.pwr PWR.STAT_STATE 0).modPwr fun p => { p with seen := 0 }),
    .pcie, 4, by decide⟩

theorem test_premises_PowerEntry_2 :
    ∃ (s : State) (b : Fin 179), s.pwr.step = 1 ∧ b.val ∉ s.pwr.waiting :=
  ⟨(let b : Fin 179 := 1; let s : State := State.on; s.modPwr fun p => { p with step := 1, waiting := p.waiting.filter (· != b.val) }),
    1, by decide⟩

theorem test_premises_PowerEntry_3 :
    ∃ (s : State) (b : Fin 179), b.val = Blk.pcie ∧ s.pwr.step = 1 ∧ s.pwr.target ≠ 0 ∧ b.val ∈ s.pwr.waiting ∧ s.linkUp = true
    ∧ s.d3hot = false :=
  ⟨(let b : Fin 179 := ⟨Blk.pcie, by decide⟩; let s : State := State.on; { (((s.setF Blk.pcie PCIE.LINK_STAT_DL_ACTIVE 1).modPwr fun p => { p with step := 1, target := 3, waiting := [b.val] })) with d3hot := false }),
    ⟨Blk.pcie, by decide⟩, by decide⟩

theorem test_premises_PowerEntry_4 :
    ∃ (s : State) (b : Fin 179), b.val = Blk.pcie ∧ s.pwr.step = 1 ∧ s.pwr.target ≠ 0 ∧ b.val ∈ s.pwr.waiting ∧ s.linkUp = false :=
  ⟨(let b : Fin 179 := ⟨Blk.pcie, by decide⟩; let s : State := State.on; (s.setF Blk.pcie PCIE.LINK_STAT_DL_ACTIVE 0).modPwr fun p => { p with step := 1, target := 3, waiting := [b.val], delaying := [] }),
    ⟨Blk.pcie, by decide⟩, by decide⟩

theorem test_premises_PowerEntry_5 :
    ∃ (s : State) (b : Fin 179), s.pwr.step = 1 ∧ b.val ∈ s.pwr.delaying :=
  ⟨(let b : Fin 179 := 1; let s : State := State.on; s.modPwr fun p => { p with step := 1, delaying := [b.val, 9] }), 1,
    by decide⟩

theorem test_premises_PowerEntry_6 :
    ∃ (s : State) (b : Fin 179), b.val ∉ s.pwr.delaying :=
  ⟨(let s : State := State.on; s.modPwr fun p => { p with step := 1, delaying := [] }), 1, by decide⟩

theorem test_premises_PowerEntry_7 :
    ∃ (s : State), s.pwr.step = 1 ∧ s.pwr.target ≠ 0 :=
  ⟨(let s : State := State.on; s.modPwr fun p => { p with step := 1, target := 2, delaying := [Blk.hk], waiting := [] }),
    by decide⟩

theorem test_premises_PowerEntry_8 :
    ∃ (s : State), s.pwr.target = 1 ∧ s.pwr.step = 2 ∧ s.pwr.wake = false :=
  ⟨(let s : State := State.on; s.modPwr fun p => { p with target := 1, step := 2, wake := false }), by decide⟩

theorem test_premises_PowerEntry_9 :
    ∃ (s : State), s.pwr.target = 3 ∧ s.pwr.step = 3 ∧ s.pwr.wake = false :=
  ⟨(let s : State := State.on; s.modPwr fun p => { p with target := 3, step := 3, wake := false }), by decide⟩

theorem test_premises_PowerEntry_10 :
    ∃ (s : State), s.pwr.target = 5 ∧ s.pwr.step = 4 ∧ s.pwr.wake = false :=
  ⟨(let s : State := State.on; s.modPwr fun p => { p with target := 5, step := 4, wake := false }), by decide⟩

theorem test_premises_PowerEntry_11 :
    ∃ (s : State), s.pwr.target = 3 ∧ s.pwr.step = 5 ∧ s.pwr.wake = false :=
  ⟨(let s : State := State.on; s.modPwr fun p => { p with target := 3, step := 5, wake := false }), by decide⟩

theorem test_premises_PowerEntry_12 :
    ∃ (s : State), s.pwr.target = 3 ∧ s.pwr.step = 4 ∧ s.pwr.wake = true :=
  ⟨(let s : State := State.on; s.modPwr fun p => { p with target := 3, step := 4, wake := true }), by decide⟩

theorem test_premises_WakeAndExit_0 :
    ∃ (s : State) (p : Fin 4) (level : Bool), (s.f Blk.pwr PWR.WAKE_EN_EN).testBit p.val = true ∧ 1 ≤ s.wakeState ∧ s.wakeState
    ≤ 5 ∧ s.pwr.wake = false ∧ ((s.reg Blk.aon AON.WAKE_CTL).toNat.testBit (4 * p.val) == level) = true ∧ (s.f Blk.aon
    AON.PIN_STAT_WAKE).testBit p.val ≠ level :=
  ⟨(let p : Fin 4 := 1; let level : Bool := true; let s : State := State.on; (((((s.setF Blk.pwr PWR.WAKE_EN_EN 0x1FF).setF Blk.pwr PWR.STAT_STATE 3).setReg Blk.aon AON.WAKE_CTL (if level then 0x1111 else 0)).setF Blk.aon AON.PIN_STAT_WAKE (if level then 0 else 15))).modPwr fun p => { p with target := 0, wake := false }),
    1, true, by decide⟩

theorem test_premises_WakeAndExit_1 :
    ∃ (s : State) (p : Fin 4) (level : Bool), (((s.reg Blk.aon AON.WAKE_CTL).toNat.testBit (4 * p.val) == level) = false ∨ (s.f
    Blk.pwr PWR.WAKE_EN_EN).testBit p.val = false) :=
  ⟨(let s : State := State.on; s.setF Blk.pwr PWR.WAKE_EN_EN 0), 1, true, by decide⟩

theorem test_premises_WakeAndExit_2 :
    ∃ (s : State), s.Serves .pcie Blk.pwr true ∧ (s.f Blk.pwr PWR.WAKE_EN_EN).testBit 5 = true ∧ (s.wakeState = 1 ∨ s.wakeState
    = 2) ∧ s.pwr.wake = false :=
  ⟨(let s : State := State.on; ((s.setF Blk.pwr PWR.WAKE_EN_EN 0x1FF).setF Blk.pwr PWR.STAT_STATE 2).modPwr fun p => { p with target := 0, wake := false }),
    by decide⟩

theorem test_premises_WakeAndExit_3 :
    ∃ (s : State), s.Serves .pcie Blk.pwr true ∧ 3 ≤ s.wakeState :=
  ⟨(let s : State := State.on; (s.setF Blk.pwr PWR.STAT_STATE 4).modPwr fun p => { p with target := 0 }), by decide⟩

theorem test_premises_WakeAndExit_4 :
    ∃ (s : State) (c : Nat), s.f Blk.pwr PWR.STAT_STATE = 3 ∧ s.pwr.target = 0 ∧ s.pwr.wakeCmp = some c ∧ c ≤ s.aonCnt ∧ (s.f
    Blk.pwr PWR.WAKE_EN_EN).testBit 7 = true ∧ s.pwr.wake = false :=
  ⟨(let c : Nat := 0; let s : State := State.on; ((s.setF Blk.pwr PWR.WAKE_EN_EN 0x1FF).setF Blk.pwr PWR.STAT_STATE 3).modPwr fun p => { p with target := 0, wake := false, wakeCmp := some c }),
    0, by decide⟩

theorem test_premises_WakeAndExit_5 :
    ∃ (s : State) (c : Nat), s.f Blk.pwr PWR.STAT_STATE = 3 ∧ s.pwr.wakeCmp = some c ∧ s.aonCnt < c :=
  ⟨(let c : Nat := 100; let s : State := State.on; (s.setF Blk.pwr PWR.STAT_STATE 3).modPwr fun p => { p with wakeCmp := some c }),
    100, by decide⟩

theorem test_premises_WakeAndExit_6 :
    ∃ (s : State), s.pwr.wake = true ∧ s.pwr.target = 0 ∧ s.pwr.exitStep = 0 ∧ s.f Blk.pwr PWR.STAT_STATE = 1 :=
  ⟨(let s : State := State.on; (s.setF Blk.pwr PWR.STAT_STATE 1).modPwr fun p => { p with target := 0, wake := true, exitStep := 0 }),
    by decide⟩

theorem test_premises_WakeAndExit_7 :
    ∃ (s : State), s.pwr.wake = true ∧ s.pwr.target = 2 ∧ s.pwr.step = 1 :=
  ⟨(let s : State := State.on; s.modPwr fun p => { p with target := 2, wake := true, step := 1 }), by decide⟩

theorem test_premises_WakeAndExit_8 :
    ∃ (s : State), s.pwr.wake = false :=
  ⟨(let s : State := State.on; s.modPwr fun p => { p with wake := false }), by decide⟩

theorem test_premises_WakeAndExit_9 :
    ∃ (s : State), s.pwr.exitStep = 6 ∧ s.pwr.down = 0 :=
  ⟨(let s : State := State.on; s.modPwr fun p => { p with exitStep := 6, down := 0 }), by decide⟩

theorem test_premises_WakeAndExit_10 :
    ∃ (s : State), s.pwr.exitStep = 2 ∧ s.pwr.from_ ≠ 5 :=
  ⟨(let s : State := State.on; s.modPwr fun p => { p with exitStep := 2, from_ := 4 }), by decide⟩

theorem test_premises_WakeAndExit_11 :
    ∃ (s : State), s.pwr.exitStep = 5 :=
  ⟨(let s : State := State.on; s.modPwr fun p => { p with exitStep := 5 }), by decide⟩

theorem test_premises_DomainRequests_0 :
    ∃ (s : State) (q : Requester) (d : Fin 32), s.Serves q Blk.pwr true ∧ (24 ≤ d.val ∨ s.fb Blk.pwr PWR.STAT_BUSY = true ∨ s.f
    Blk.pwr PWR.STAT_STATE ≠ 0) :=
  ⟨(let s : State := State.on; s.setF Blk.pwr PWR.STAT_BUSY 1), .pcie, 1, by decide⟩

theorem test_premises_DomainRequests_1 :
    ∃ (s : State) (p : Nat) (q : Requester) (d : Fin 32), s.Serves q Blk.pwr true ∧ d.val < 24 ∧ s.fb Blk.pwr PWR.STAT_BUSY =
    false ∧ s.f Blk.pwr PWR.STAT_STATE = 0 ∧ s.bist.run = 0 ∧ domParent d.val = some p ∧ s.domReady p = false :=
  ⟨(let s : State := State.on; { (s.setF Blk.pwr PWR.STAT_BUSY 0).setF Blk.pwr PWR.STAT_STATE 0 with bist := { s.bist with run := 0 }, domOn := 0x60000F }),
    8, .pcie, 12, by decide⟩

theorem test_premises_DomainRequests_2 :
    ∃ (s : State) (q : Requester) (d : Fin 32), s.Serves q Blk.pwr true ∧ d.val < 24 ∧ s.fb Blk.pwr PWR.STAT_BUSY = false ∧ s.f
    Blk.pwr PWR.STAT_STATE = 0 ∧ s.bist.run = 0 ∧ ((domParent d.val).filter fun p => !s.domReady p) = none ∧
    s.pwr.excluded.getLsbD d.val = true :=
  ⟨(let s : State := State.on; { ((s.setF Blk.pwr PWR.STAT_BUSY 0).setF Blk.pwr PWR.STAT_STATE 0).modPwr fun p => { p with excluded := 0xFFFFFF } with bist := { s.bist with run := 0 } }),
    .pcie, 6, by decide⟩

theorem test_premises_DomainRequests_3 :
    ∃ (s : State) (q : Requester) (d : Fin 32), s.Serves q Blk.pwr true ∧ d.val < 24 ∧ s.fb Blk.pwr PWR.STAT_BUSY = false ∧ s.f
    Blk.pwr PWR.STAT_STATE = 0 ∧ s.bist.run = 0 ∧ ((domParent d.val).filter fun p => !s.domReady p) = none ∧
    s.pwr.excluded.getLsbD d.val = false :=
  ⟨(let s : State := State.on; { ((s.setF Blk.pwr PWR.STAT_BUSY 0).setF Blk.pwr PWR.STAT_STATE 0).modPwr fun p => { p with excluded := 0 } with bist := { s.bist with run := 0 } }),
    .pcie, 6, by decide⟩

theorem test_premises_DomainRequests_4 :
    ∃ (s : State) (q : Requester) (d : Fin 32), s.Serves q Blk.pwr true ∧ d.val ≤ 3 ∧ s.fb Blk.pwr PWR.STAT_BUSY = false ∧ s.f
    Blk.pwr PWR.STAT_STATE = 0 ∧ s.bist.run = 0 :=
  ⟨(let s : State := State.on; { (s.setF Blk.pwr PWR.STAT_BUSY 0).setF Blk.pwr PWR.STAT_STATE 0 with bist := { s.bist with run := 0 } }),
    .pcie, (let d : Fin 32 := 1; d % 4), by decide⟩

theorem test_premises_DomainRequests_5 :
    ∃ (s : State) (q : Requester) (d : Fin 32), s.Serves q Blk.pwr true ∧ 4 ≤ d.val ∧ d.val < 24 ∧ s.fb Blk.pwr PWR.STAT_BUSY =
    false ∧ s.f Blk.pwr PWR.STAT_STATE = 0 ∧ s.bist.run = 0 ∧ (s.domTree d).find? s.domInService = none :=
  ⟨(let s : State := State.on; { (s.setF Blk.pwr PWR.STAT_BUSY 0).setF Blk.pwr PWR.STAT_STATE 0 with bist := { s.bist with run := 0 } }),
    .pcie, 5, by decide⟩

theorem test_premises_DomainRequests_6 :
    ∃ (s : State) (d : Nat), s.pwr.dom = some (d, false) ∧ s.pwr.step = 2 ∧ d < 24 :=
  ⟨(let d : Nat := 5; let s : State := State.on; s.modPwr fun p => { p with dom := some (d, false), step := 2, doms := domBit d }),
    5, by decide⟩

theorem test_premises_DomainRequests_7 :
    ∃ (s : State) (d : Nat), s.pwr.dom = some (d, true) ∧ s.pwr.step = 2 ∧ d < 24 ∧ s.domOn.getLsbD d = false :=
  ⟨(let d : Nat := 5; let s : State := State.on; { s with domOn := 0x00000F, pwr := { s.pwr with dom := some (d, true), step := 2, doms := domBit d } }),
    5, by decide⟩

theorem test_premises_DomainRequests_8 :
    ∃ (s : State), s.pwr.dom = none :=
  ⟨(let s : State := State.on; s.modPwr fun p => { p with dom := none }), by decide⟩

theorem test_premises_VoltageRequests_0 :
    ∃ (s : State), s.pwr.target = 0 ∧ s.pwr.exitStep = 0 ∧ s.f Blk.pwr PWR.STAT_STATE < 3 ∧ s.pwr.pmb.sent ≠ some s.avsTarget ∧
    s.f Blk.pwr PWR.PMB_CFG_EN = 0 :=
  ⟨(let s : State := State.on; ((s.setF Blk.pwr PWR.STAT_STATE 0).setF Blk.pwr PWR.PMB_CFG_EN 0).modPwr fun p => { p with target := 0, exitStep := 0, pmb := { p.pmb with sent := none } }),
    by decide⟩

theorem test_premises_VoltageRequests_1 :
    ∃ (s : State), s.pwr.target = 0 ∧ s.pwr.exitStep = 0 ∧ s.f Blk.pwr PWR.STAT_STATE < 3 ∧ s.pwr.pmb.sent ≠ some s.avsTarget ∧
    s.f Blk.pwr PWR.PMB_CFG_EN = 1 ∧ s.f Blk.pwr PWR.PMB_STAT_BUSY = 0 :=
  ⟨(let s : State := State.on; (((s.setF Blk.pwr PWR.STAT_STATE 0).setF Blk.pwr PWR.PMB_CFG_EN 1).setF Blk.pwr PWR.PMB_STAT_BUSY 0).modPwr fun p => { p with target := 0, exitStep := 0, pmb := { p.pmb with sent := none } }),
    by decide⟩

theorem test_premises_VoltageRequests_2 :
    ∃ (s : State) (w : BitVec 16), s.f Blk.pwr PWR.PMB_STAT_BUSY = 1 ∧ s.pwr.pmb.off = false ∧ s.pwr.pmb.next = none ∧
    s.pwr.pmb.kind = 0 ∧ w = 0 :=
  ⟨(let s : State := State.on; (s.setF Blk.pwr PWR.PMB_STAT_BUSY 1).modPmb fun p => { p with off := false, next := none, kind := 0, mv := 700 }),
    0, by decide⟩

theorem test_premises_VoltageRequests_3 :
    ∃ (s : State) (w : BitVec 16), s.f Blk.pwr PWR.PMB_STAT_BUSY = 1 ∧ s.pwr.pmb.off = false ∧ w ≠ 0 :=
  ⟨(let s : State := State.on; (s.setF Blk.pwr PWR.PMB_STAT_BUSY 1).modPmb fun p => { p with off := false }), 2,
    by decide⟩

theorem test_premises_VoltageRequests_4 :
    ∃ (s : State), s.f Blk.pwr PWR.PMB_STAT_BUSY = 1 ∧ s.f Blk.pwr PWR.PMB_STAT_RETRIES < 3 ∧ s.pwr.pmb.off = false ∧
    s.pwr.pmb.kind = 0 :=
  ⟨(let s : State := State.on; ((s.setF Blk.pwr PWR.PMB_STAT_BUSY 1).setF Blk.pwr PWR.PMB_STAT_RETRIES 2).modPmb fun p => { p with off := false, kind := 0 }),
    by decide⟩

theorem test_premises_VoltageRequests_5 :
    ∃ (s : State), s.f Blk.pwr PWR.PMB_STAT_BUSY = 1 ∧ s.f Blk.pwr PWR.PMB_STAT_RETRIES = 3 ∧ s.pwr.pmb.next = none ∧
    s.pwr.pmb.kind = 0 :=
  ⟨(let s : State := State.on; ((s.setF Blk.pwr PWR.PMB_STAT_BUSY 1).setF Blk.pwr PWR.PMB_STAT_RETRIES 3).modPmb fun p => { p with next := none, kind := 0, prev := 690 }),
    by decide⟩

theorem test_premises_VoltageRequests_6 :
    ∃ (s : State), s.f Blk.pwr PWR.PMB_STAT_BUSY = 0 :=
  ⟨(let s : State := State.on; s.setF Blk.pwr PWR.PMB_STAT_BUSY 0), by decide⟩

theorem test_premises_VoltageRequests_7 :
    ∃ (s : State) (q : Requester), s.Serves q Blk.pwr true ∧ s.fb Blk.pwr PWR.PMB_CFG_EN = false ∧ s.f Blk.pwr PWR.PMB_STAT_BUSY
    = 0 ∧ s.pwr.target = 0 ∧ s.pwr.exitStep = 0 ∧ s.f Blk.pwr PWR.STAT_STATE < 3 :=
  ⟨(let s : State := State.on; ((((s.setF Blk.pwr PWR.PMB_CFG_EN 0).setF Blk.pwr PWR.PMB_STAT_BUSY 0).setF Blk.pwr PWR.STAT_STATE 1).modPwr fun p => { p with target := 0, exitStep := 0 })),
    .pcie, by decide⟩

theorem test_premises_BistRuns_0 :
    ∃ (s : State) (d : Nat) (q : Requester), s.Serves q Blk.bist true ∧ s.fb Blk.bist BIST.STAT_BUSY = false ∧ s.f Blk.bist
    BIST.RUN_MASK_MASK = 2 ^ d ∧ d < 24 ∧ s.bistBars d = none :=
  ⟨(let d : Nat := 6; let s : State := State.on; { ((s.setF Blk.bist BIST.STAT_BUSY 0).setF Blk.bist BIST.RUN_MASK_MASK (2 ^ d)) with domOn := 0x80000F, domBusy := 0 }),
    6, .pcie, by decide⟩

theorem test_premises_BistRuns_1 :
    ∃ (s : State) (d : Nat) (q : Requester) (refclk : Bool) (rails : BitVec 7), s.Serves q Blk.bist true ∧ s.fb Blk.bist
    BIST.STAT_BUSY = false ∧ s.f Blk.bist BIST.RUN_MASK_MASK = 2 ^ d ∧ d < 24 ∧ s.domOn.getLsbD d = true ∧ bistTestable d =
    true ∧ refclk = true ∧ rails = 0 :=
  ⟨(let d : Nat := 6; let s : State := State.on; { ((s.setF Blk.bist BIST.STAT_BUSY 0).setF Blk.bist BIST.RUN_MASK_MASK (2 ^ d)) with domOn := 0xFFFFFF }),
    6, .pcie, true, 0, by decide⟩

theorem test_premises_BistRuns_2 :
    ∃ (s : State) (q : Requester), s.Serves q Blk.bist true ∧ s.fb Blk.bist BIST.STAT_BUSY = true :=
  ⟨(let s : State := State.on; s.setF Blk.bist BIST.STAT_BUSY 1), .pcie, by decide⟩

theorem test_premises_BistRuns_3 :
    ∃ (s : State) (d : Nat), d < 23 ∧ 1 ≤ d ∧ s.bist.run = domBit d ∧ s.bist.selected = domBit d ∧ s.bist.waiting = none :=
  ⟨(let d : Nat := 6; let s : State := State.on; { s with bist := { s.bist with run := domBit d, selected := domBit d, waiting := none } }),
    6, by decide⟩

theorem test_premises_BistRuns_4 :
    ∃ (s : State) (d : Nat) (x : BistDom), x.dom.val = d ∧ x.logic = true ∧ d < 23 ∧ 1 ≤ d ∧ s.bist.run = domBit d ∧
    s.bist.selected = domBit d ∧ s.bist.waiting = none :=
  ⟨(let d : Nat := 6; let s : State := State.on; { s with bist := { s.bist with run := domBit d, selected := domBit d, waiting := none } }),
    6, ⟨6, true, false, 7⟩, by decide⟩

theorem test_premises_BistRuns_5 :
    ∃ (s : State) (d : Nat) (q : Requester), s.Serves q Blk.bist true ∧ d < 23 ∧ 1 ≤ d ∧ s.bist.run = domBit d ∧ s.bist.selected
    = domBit d ∧ s.bist.waiting = none ∧ s.bist.lane = none :=
  ⟨(let d : Nat := 6; let s : State := State.on; { s with bist := { s.bist with run := domBit d, selected := domBit d, waiting := none, lane := none } }),
    6, .pcie, by decide⟩

theorem test_premises_BistRuns_6 :
    ∃ (s : State) (d : Nat) (refclk : Bool) (rails : BitVec 7), s.domReady Dom.test = true ∧ (refclk = false ∨ rails ≠ 0) ∧ d <
    23 ∧ 1 ≤ d ∧ s.bist.run = domBit d ∧ s.bist.selected = domBit d ∧ s.bist.waiting = none ∧ s.bist.lane = none :=
  ⟨(let d : Nat := 6; let s : State := State.on; { s with bist := { s.bist with run := domBit d, selected := domBit d, waiting := none, lane := none } }),
    6, false, 1, by decide⟩

theorem test_premises_BistRuns_7 :
    ∃ (s : State) (q : Requester) (lane : Fin 32), s.Serves q Blk.bist true ∧ s.fb Blk.bist BIST.LANE_STAT_BUSY = false ∧
    lane.val < 17 ∧ s.blkOn (Blk.llane lane) = true ∧ s.laneTestFree lane = true :=
  ⟨(let lane : Fin 32 := 1; let s : State := State.on; ((s.setF Blk.bist BIST.LANE_STAT_BUSY 0).setF (Blk.llane lane) LLANE.RX_CTL_RX_EN 0).setF (Blk.llane lane) LLANE.TX_CTL_TX_EN 0),
    .pcie, 1, by decide⟩

theorem test_premises_BistRuns_8 :
    ∃ (s : State) (q : Requester) (lane : Fin 32), s.Serves q Blk.bist true ∧ s.fb Blk.bist BIST.LANE_STAT_BUSY = false ∧
    lane.val < 17 ∧ s.blkOn (Blk.llane lane) = true ∧ s.laneTestFree lane = false :=
  ⟨(let lane : Fin 32 := 1; let s : State := State.on; (s.setF Blk.bist BIST.LANE_STAT_BUSY 0).setF (Blk.llane lane) LLANE.RX_CTL_RX_EN 1),
    .pcie, 1, by decide⟩

theorem test_premises_BistRuns_9 :
    ∃ (s : State) (n : Nat), n < 17 ∧ s.bist.lane = some n :=
  ⟨(let n : Nat := (let n : Nat := 1; n % 17); let s : State := State.on; { s with bist := { s.bist with lane := some n } }),
    (let n : Nat := 1; n % 17), by decide⟩

theorem test_premises_PerformanceCounters_0 :
    ∃ (s : State) (n : Nat) (q : Requester), s.Serves q Blk.perf true ∧ n < 64 :=
  ⟨State.on, (let n : Nat := 1; n % 64), .pcie, by decide⟩

theorem test_premises_PerformanceCounters_1 :
    ∃ (s : State) (q : Requester), s.Serves q Blk.perf true :=
  ⟨State.on, .pcie, by decide⟩

theorem test_premises_EngineScalar_0 :
    ∃ (s : State) (e : EngineId), s.Issues e :=
  ⟨(let e : EngineId := 1; let s : State := State.on; s.engUp e), 1, by decide⟩

theorem test_premises_EngineScalar_1 :
    ∃ (s : State) (e : EngineId), s.Issues e :=
  ⟨(let e : EngineId := 1; let s : State := State.on; s.engUp e), 1, by decide⟩

theorem test_premises_EngineScalar_2 :
    ∃ (s : State) (e : EngineId), s.Issues e :=
  ⟨(let e : EngineId := 1; let s : State := State.on; s.engUp e), 1, by decide⟩

theorem test_premises_EngineScalar_3 :
    ∃ (s : State) (e : EngineId), s.Issues e :=
  ⟨(let e : EngineId := 1; let s : State := State.on; s.engUp e), 1, by decide⟩

theorem test_premises_EngineScalar_4 :
    ∃ (s : State) (e : EngineId), s.Issues e :=
  ⟨(let e : EngineId := 1; let s : State := State.on; s.engUp e), 1, by decide⟩

theorem test_premises_EngineScalar_5 :
    ∃ (s : State) (e : EngineId), s.Issues e :=
  ⟨(let e : EngineId := 1; let s : State := State.on; s.engUp e), 1, by decide⟩

theorem test_premises_EngineScalar_6 :
    ∃ (s : State) (e : EngineId), s.Issues e :=
  ⟨(let e : EngineId := 1; let s : State := State.on; s.engUp e), 1, by decide⟩

theorem test_premises_EngineScalar_7 :
    ∃ (s : State) (e : EngineId), s.Issues e :=
  ⟨(let e : EngineId := 1; let s : State := State.on; s.engUp e), 1, by decide⟩

theorem test_premises_EngineScalar_8 :
    ∃ (s : State) (e : EngineId), s.Issues e :=
  ⟨(let e : EngineId := 1; let s : State := State.on; s.engUp e), 1, by decide⟩

theorem test_premises_EngineScalar_9 :
    ∃ (s : State) (e : EngineId), s.Issues e :=
  ⟨(let e : EngineId := 1; let s : State := State.on; s.engUp e), 1, by decide⟩

theorem test_premises_EngineScalar_10 :
    ∃ (s : State) (e : EngineId), s.Issues e :=
  ⟨(let e : EngineId := 1; let s : State := State.on; s.engUp e), 1, by decide⟩

theorem test_premises_EngineScalar_11 :
    ∃ (s : State) (e : EngineId), s.Issues e :=
  ⟨(let e : EngineId := 1; let s : State := State.on; s.engUp e), 1, by decide⟩

theorem test_premises_EngineScalar_12 :
    ∃ (s : State) (e : EngineId), s.Issues e :=
  ⟨(let e : EngineId := 1; let s : State := State.on; s.engUp e), 1, by decide⟩

theorem test_premises_EngineScalar_13 :
    ∃ (s : State) (e : EngineId), s.Issues e :=
  ⟨(let e : EngineId := 1; let s : State := State.on; s.engUp e), 1, by decide⟩

theorem test_premises_EngineScalar_14 :
    ∃ (s : State) (e : EngineId), s.Issues e :=
  ⟨(let e : EngineId := 1; let s : State := State.on; s.engUp e), 1, by decide⟩

theorem test_premises_EngineScalar_15 :
    ∃ (s : State) (e : EngineId), s.Issues e :=
  ⟨(let e : EngineId := 1; let s : State := State.on; s.engUp e), 1, by decide⟩

theorem test_premises_EngineScalar_16 :
    ∃ (s : State) (e : EngineId), s.Issues e :=
  ⟨(let e : EngineId := 1; let s : State := State.on; s.engUp e), 1, by decide⟩

theorem test_premises_EngineScalar_17 :
    ∃ (s : State) (e : EngineId), s.Issues e :=
  ⟨(let e : EngineId := 1; let s : State := State.on; s.engUp e), 1, by decide⟩

theorem test_premises_EngineScalar_18 :
    ∃ (s : State) (e : EngineId), s.Issues e :=
  ⟨(let e : EngineId := 1; let s : State := State.on; s.engUp e), 1, by decide⟩

theorem test_premises_EngineScalar_19 :
    ∃ (s : State) (e : EngineId), s.Issues e :=
  ⟨(let e : EngineId := 1; let s : State := State.on; s.engUp e), 1, by decide⟩

theorem test_premises_EngineScalar_20 :
    ∃ (s : State) (e : EngineId), s.Issues e :=
  ⟨(let e : EngineId := 1; let s : State := State.on; s.engUp e), 1, by decide⟩

theorem test_premises_EngineScalar_21 :
    ∃ (s : State) (e : EngineId), s.Issues e :=
  ⟨(let e : EngineId := 1; let s : State := State.on; s.engUp e), 1, by decide⟩

theorem test_premises_EngineScalar_22 :
    ∃ (s : State) (e : EngineId), s.Issues e :=
  ⟨(let e : EngineId := 1; let s : State := State.on; s.engUp e), 1, by decide⟩

theorem test_premises_EngineScalar_23 :
    ∃ (s : State) (e : EngineId), s.Issues e :=
  ⟨(let e : EngineId := 1; let s : State := State.on; s.engUp e), 1, by decide⟩

theorem test_premises_EngineScalar_24 :
    ∃ (s : State) (e : EngineId), s.Issues e :=
  ⟨(let e : EngineId := 1; let s : State := State.on; s.engUp e), 1, by decide⟩

theorem test_premises_EngineVector_0 :
    ∃ (s : State) (e : EngineId), s.Issues e :=
  ⟨(let e : EngineId := 1; let s : State := State.on; s.engUp e), 1, by decide⟩

theorem test_premises_EngineVector_1 :
    ∃ (s : State) (e : EngineId), s.Issues e :=
  ⟨(let e : EngineId := 1; let s : State := State.on; s.engUp e), 1, by decide⟩

theorem test_premises_EngineVector_2 :
    ∃ (s : State) (e : EngineId), s.Issues e :=
  ⟨(let e : EngineId := 1; let s : State := State.on; s.engUp e), 1, by decide⟩

theorem test_premises_EngineVector_3 :
    ∃ (s : State) (e : EngineId), s.Issues e :=
  ⟨(let e : EngineId := 1; let s : State := State.on; s.engUp e), 1, by decide⟩

theorem test_premises_EngineVector_4 :
    ∃ (s : State) (e : EngineId), s.Issues e :=
  ⟨(let e : EngineId := 1; let s : State := State.on; s.engUp e), 1, by decide⟩

theorem test_premises_EngineVector_5 :
    ∃ (s : State) (e : EngineId), s.Issues e :=
  ⟨(let e : EngineId := 1; let s : State := State.on; s.engUp e), 1, by decide⟩

theorem test_premises_EngineVector_6 :
    ∃ (s : State) (e : EngineId), s.Issues e :=
  ⟨(let e : EngineId := 1; let s : State := State.on; s.engUp e), 1, by decide⟩

theorem test_premises_EngineVector_7 :
    ∃ (s : State) (e : EngineId), s.Issues e :=
  ⟨(let e : EngineId := 1; let s : State := State.on; s.engUp e), 1, by decide⟩

theorem test_premises_EngineVector_8 :
    ∃ (s : State) (e : EngineId) (sh : BitVec 6), s.Issues e ∧ 1 ≤ sh.toNat ∧ sh.toNat ≤ 16 :=
  ⟨(let e : EngineId := 1; let s : State := State.on; s.engUp e), 1, 3, by decide⟩

theorem test_premises_EngineVector_9 :
    ∃ (s : State) (e : EngineId) (sh : BitVec 6), s.Issues e ∧ (sh = 0 ∨ 16 < sh.toNat) :=
  ⟨(let e : EngineId := 1; let s : State := State.on; s.engUp e), 1, 0, by decide⟩

theorem test_premises_EngineVector_10 :
    ∃ (s : State) (e : EngineId), s.Issues e :=
  ⟨(let e : EngineId := 1; let s : State := State.on; s.engUp e), 1, by decide⟩

theorem test_premises_EngineVector_11 :
    ∃ (s : State) (e : EngineId), s.Issues e :=
  ⟨(let e : EngineId := 1; let s : State := State.on; s.engUp e), 1, by decide⟩

theorem test_premises_EngineVector_12 :
    ∃ (s : State) (e : EngineId), s.Issues e :=
  ⟨(let e : EngineId := 1; let s : State := State.on; s.engUp e), 1, by decide⟩

theorem test_premises_EngineVector_13 :
    ∃ (s : State) (e : EngineId), s.Issues e :=
  ⟨(let e : EngineId := 1; let s : State := State.on; s.engUp e), 1, by decide⟩

theorem test_premises_EngineVector_14 :
    ∃ (s : State) (e : EngineId), s.Issues e :=
  ⟨(let e : EngineId := 1; let s : State := State.on; s.engUp e), 1, by decide⟩

theorem test_premises_EngineVector_15 :
    ∃ (s : State) (e : EngineId), s.Issues e :=
  ⟨(let e : EngineId := 1; let s : State := State.on; s.engUp e), 1, by decide⟩

theorem test_premises_EngineVector_16 :
    ∃ (s : State) (e : EngineId), s.Issues e :=
  ⟨(let e : EngineId := 1; let s : State := State.on; s.engUp e), 1, by decide⟩

theorem test_premises_EngineVector_17 :
    ∃ (s : State) (e : EngineId), s.Issues e :=
  ⟨(let e : EngineId := 1; let s : State := State.on; s.engUp e), 1, by decide⟩

theorem test_premises_EngineControlFlow_0 :
    ∃ (s : State) (e : EngineId), s.Issues e :=
  ⟨(let e : EngineId := 1; let s : State := State.on; s.engUp e), 1, by decide⟩

theorem test_premises_EngineControlFlow_1 :
    ∃ (s : State) (e : EngineId), s.Issues e :=
  ⟨(let e : EngineId := 1; let s : State := State.on; s.engUp e), 1, by decide⟩

theorem test_premises_EngineControlFlow_2 :
    ∃ (s : State) (e : EngineId) (cond : Fin 9), s.Issues e ∧ condHolds (s.eng e) cond = true :=
  ⟨(let e : EngineId := 1; let s : State := State.on; s.engUp e), 1, 0, by decide⟩

theorem test_premises_EngineControlFlow_3 :
    ∃ (s : State) (e : EngineId) (cond : Fin 9), s.Issues e ∧ condHolds (s.eng e) cond = false :=
  ⟨(let e : EngineId := 1; let s : State := State.on; s.engUp e), 1, 1, by decide⟩

theorem test_premises_EngineControlFlow_4 :
    ∃ (s : State) (e : EngineId), s.Issues e :=
  ⟨(let e : EngineId := 1; let s : State := State.on; s.engUp e), 1, by decide⟩

theorem test_premises_EngineControlFlow_5 :
    ∃ (s : State) (e : EngineId), s.Issues e :=
  ⟨(let e : EngineId := 1; let s : State := State.on; s.engUp e), 1, by decide⟩

theorem test_premises_EngineControlFlow_6 :
    ∃ (s : State) (e : EngineId) (a : Fin 16), s.Issues e ∧ ((s.eng e).loop.any fun l => decide (l.2.1 ≤ (s.eng e).pc) && decide
    ((s.eng e).pc ≤ l.2.2)) = false ∧ s.scalar e a ≠ 0 :=
  ⟨(let e : EngineId := 1; let a : Fin 16 := 1; let s : State := State.on; ((s.engUp e).modEng e fun g => { g with loop := none }).setScalar e a 5),
    1, 1, by decide⟩

theorem test_premises_EngineControlFlow_7 :
    ∃ (s : State) (e : EngineId) (a : Fin 16), s.Issues e ∧ ((s.eng e).loop.any fun l => decide (l.2.1 ≤ (s.eng e).pc) && decide
    ((s.eng e).pc ≤ l.2.2)) = false ∧ s.scalar e a = 0 :=
  ⟨(let e : EngineId := 1; let a : Fin 16 := 1; let s : State := State.on; ((s.engUp e).modEng e fun g => { g with loop := none }).setScalar e a 0),
    1, 1, by decide⟩

theorem test_premises_EngineControlFlow_8 :
    ∃ (s : State) (e : EngineId), s.Issues e ∧ ((s.eng e).loop.any fun l => decide (l.2.1 ≤ (s.eng e).pc) && decide ((s.eng
    e).pc ≤ l.2.2)) = true :=
  ⟨(let e : EngineId := 1; let s : State := State.on; (s.engUp e).modEng e fun g => { g with loop := some (2, 1, 2000), pc := 7 }),
    1, by decide⟩

theorem test_premises_EngineControlFlow_9 :
    ∃ (s : State) (e : EngineId) (mask : BitVec 8), s.Issues e ∧ (s.engPending e &&& (mask.toNat &&& 0x7F)) ≠ 0 :=
  ⟨(let e : EngineId := 1; let s : State := State.on; (s.engUp e).modEng e fun g => { g with timerHit := true }), 1, 16,
    by decide⟩

theorem test_premises_EngineControlFlow_10 :
    ∃ (s : State) (e : EngineId) (mask : BitVec 8), s.Issues e ∧ mask ≠ 0 ∧ (s.engPending e &&& (mask.toNat &&& 0x7F)) = 0 :=
  ⟨(let e : EngineId := 1; let s : State := State.on; (s.engUp e).modEng e fun g => { g with timerHit := false }), 1, 16,
    by decide⟩

theorem test_premises_EngineControlFlow_11 :
    ∃ (s : State) (e : EngineId), s.Issues e :=
  ⟨(let e : EngineId := 1; let s : State := State.on; s.engUp e), 1, by decide⟩

theorem test_premises_EngineControlFlow_12 :
    ∃ (s : State) (e : EngineId) (w : Word), s.Issues e ∧ ucDecode w.toNat = none :=
  ⟨(let e : EngineId := 1; let s : State := State.on; s.engUp e), 1, 0xFFFFFFFF, by decide⟩

theorem test_premises_EngineControlFlow_13 :
    ∃ (s : State) (e : EngineId) (w : Word), s.engClock e = true ∧ (s.eng e).run = .running ∧ s.pcOk e = false ∧ ucDecode
    w.toNat = none :=
  ⟨(let e : EngineId := 1; let s : State := State.on; (s.engUp e).setEf e ENG.UC_BANK0_LEN 0), 1, 0xFFFFFFFF, by decide⟩

theorem test_premises_EngineControlFlow_14 :
    ∃ (s : State) (e : EngineId), s.engClock e = true ∧ (s.eng e).run ≠ .halted ∧ s.ef e ENG.LE_CTL_WDOG ≠ 0 :=
  ⟨(let e : EngineId := 1; let s : State := State.on; (s.engUp e).setEf e ENG.LE_CTL_WDOG 9), 1, by decide⟩

theorem test_premises_EngineMemory_0 :
    ∃ (s : State) (e : EngineId) (a : Fin 16) (i : BitVec 18), s.Issues e ∧ (s.scalar e a + i.signExtend 32).toNat % 4 = 0 ∧
    (s.scalar e a + i.signExtend 32).toNat ≤ 0x7FFF ∧ SMap.get false s.sram.poison ((dataBase e + (s.scalar e a +
    i.signExtend 32).toNat / 4 * 4) / 4) = false ∧ (s.sramWordRaw ((dataBase e + (s.scalar e a + i.signExtend 32).toNat / 4
    * 4) / 4)).flagged = false :=
  ⟨(let e : EngineId := 1; let a : Fin 16 := 1; let s : State := State.on; ((s.engUp e).setScalar e a 0x104).setSram { s.sram with poison := [], flips := [], bytes := [(dataBase e + 0x105, 7), (dataBase e + 0x106, 0x91)], valid := [((dataBase e + 0x104) / 4, true), ((dataBase e + 0x108) / 4, true)] }),
    1, 1, 0, by decide⟩

theorem test_premises_EngineMemory_1 :
    ∃ (s : State) (e : EngineId) (a : Fin 16) (i : BitVec 18), s.Issues e ∧ (s.scalar e a + i.signExtend 32).toNat % 2 = 0 ∧
    (s.scalar e a + i.signExtend 32).toNat ≤ 0x7FFF ∧ SMap.get false s.sram.poison ((dataBase e + (s.scalar e a +
    i.signExtend 32).toNat / 4 * 4) / 4) = false ∧ (s.sramWordRaw ((dataBase e + (s.scalar e a + i.signExtend 32).toNat / 4
    * 4) / 4)).flagged = false :=
  ⟨(let e : EngineId := 1; let a : Fin 16 := 1; let s : State := State.on; ((s.engUp e).setScalar e a 0x106).setSram { s.sram with poison := [], flips := [], bytes := [(dataBase e + 0x105, 7), (dataBase e + 0x106, 0x91)], valid := [((dataBase e + 0x104) / 4, true), ((dataBase e + 0x108) / 4, true)] }),
    1, 1, 0, by decide⟩

theorem test_premises_EngineMemory_2 :
    ∃ (s : State) (e : EngineId) (a : Fin 16) (i : BitVec 18), s.Issues e ∧ (s.scalar e a + i.signExtend 32).toNat % 2 = 0 ∧
    (s.scalar e a + i.signExtend 32).toNat ≤ 0x7FFF ∧ SMap.get false s.sram.poison ((dataBase e + (s.scalar e a +
    i.signExtend 32).toNat / 4 * 4) / 4) = false ∧ (s.sramWordRaw ((dataBase e + (s.scalar e a + i.signExtend 32).toNat / 4
    * 4) / 4)).flagged = false :=
  ⟨(let e : EngineId := 1; let a : Fin 16 := 1; let s : State := State.on; ((s.engUp e).setScalar e a 0x106).setSram { s.sram with poison := [], flips := [], bytes := [(dataBase e + 0x105, 7), (dataBase e + 0x106, 0x91)], valid := [((dataBase e + 0x104) / 4, true), ((dataBase e + 0x108) / 4, true)] }),
    1, 1, 0, by decide⟩

theorem test_premises_EngineMemory_3 :
    ∃ (s : State) (e : EngineId) (a : Fin 16) (i : BitVec 18), s.Issues e ∧ (s.scalar e a + i.signExtend 32).toNat % 32 = 0 ∧
    (s.scalar e a + i.signExtend 32).toNat ≤ 0x7FFF ∧ (∀ k : Nat, k < 8 → SMap.get false s.sram.poison ((dataBase e +
    (s.scalar e a + i.signExtend 32).toNat) / 4 + k) = false ∧ (s.sramWordRaw ((dataBase e + (s.scalar e a + i.signExtend
    32).toNat) / 4 + k)).flagged = false) :=
  ⟨(let e : EngineId := 1; let a : Fin 16 := 1; let s : State := State.on; ((s.engUp e).setScalar e a 0x100).setSram { s.sram with poison := [], flips := [], bytes := [(dataBase e + 0x105, 7), (dataBase e + 0x106, 0x91)], valid := [((dataBase e + 0x104) / 4, true), ((dataBase e + 0x108) / 4, true)] }),
    1, 1, 0, by decide⟩

theorem test_premises_EngineMemory_4 :
    ∃ (s : State) (e : EngineId) (a : Fin 16) (i : BitVec 18), s.Issues e ∧ (s.scalar e a + i.signExtend 32).toNat % 4 = 0 ∧
    (s.scalar e a + i.signExtend 32).toNat ≤ 0x7FFF :=
  ⟨(let e : EngineId := 1; let a : Fin 16 := 1; let s : State := State.on; ((s.engUp e).setScalar e a 0x104).setSram { s.sram with poison := [], flips := [], bytes := [(dataBase e + 0x105, 7), (dataBase e + 0x106, 0x91)], valid := [((dataBase e + 0x104) / 4, true), ((dataBase e + 0x108) / 4, true)] }),
    1, 1, 0, by decide⟩

theorem test_premises_EngineMemory_5 :
    ∃ (s : State) (e : EngineId) (a : Fin 16) (i : BitVec 18), s.Issues e ∧ (s.scalar e a + i.signExtend 32).toNat % 2 = 0 ∧
    (s.scalar e a + i.signExtend 32).toNat ≤ 0x7FFF :=
  ⟨(let e : EngineId := 1; let a : Fin 16 := 1; let s : State := State.on; ((s.engUp e).setScalar e a 0x106).setSram { s.sram with poison := [], flips := [], bytes := [(dataBase e + 0x105, 7), (dataBase e + 0x106, 0x91)], valid := [((dataBase e + 0x104) / 4, true), ((dataBase e + 0x108) / 4, true)] }),
    1, 1, 0, by decide⟩

theorem test_premises_EngineMemory_6 :
    ∃ (s : State) (e : EngineId) (a : Fin 16) (i : BitVec 18), s.Issues e ∧ (s.scalar e a + i.signExtend 32).toNat % 32 = 0 ∧
    (s.scalar e a + i.signExtend 32).toNat ≤ 0x7FFF :=
  ⟨(let e : EngineId := 1; let a : Fin 16 := 1; let s : State := State.on; ((s.engUp e).setScalar e a 0x100).setSram { s.sram with poison := [], flips := [], bytes := [(dataBase e + 0x105, 7), (dataBase e + 0x106, 0x91)], valid := [((dataBase e + 0x104) / 4, true), ((dataBase e + 0x108) / 4, true)] }),
    1, 1, 0, by decide⟩

theorem test_premises_EngineMemory_7 :
    ∃ (s : State) (e : EngineId) (a : Fin 16) (i : BitVec 18), s.Issues e ∧ (s.scalar e a + i.signExtend 32).toNat % 4 ≠ 0 :=
  ⟨(let e : EngineId := 1; let a : Fin 16 := 1; let s : State := State.on; (s.engUp e).setScalar e a 0x101), 1, 1, 0,
    by decide⟩

theorem test_premises_EngineMemory_8 :
    ∃ (s : State) (e : EngineId) (a : Fin 16) (i : BitVec 18), s.Issues e ∧ (s.scalar e a + i.signExtend 32).toNat % 2 ≠ 0 :=
  ⟨(let e : EngineId := 1; let a : Fin 16 := 1; let s : State := State.on; (s.engUp e).setScalar e a 0x101), 1, 1, 0,
    by decide⟩

theorem test_premises_EngineMemory_9 :
    ∃ (s : State) (e : EngineId) (a : Fin 16) (i : BitVec 18), s.Issues e ∧ (s.scalar e a + i.signExtend 32).toNat % 2 ≠ 0 :=
  ⟨(let e : EngineId := 1; let a : Fin 16 := 1; let s : State := State.on; (s.engUp e).setScalar e a 0x101), 1, 1, 0,
    by decide⟩

theorem test_premises_EngineMemory_10 :
    ∃ (s : State) (e : EngineId) (a : Fin 16) (i : BitVec 18), s.Issues e ∧ (s.scalar e a + i.signExtend 32).toNat % 4 ≠ 0 :=
  ⟨(let e : EngineId := 1; let a : Fin 16 := 1; let s : State := State.on; (s.engUp e).setScalar e a 0x101), 1, 1, 0,
    by decide⟩

theorem test_premises_EngineMemory_11 :
    ∃ (s : State) (e : EngineId) (a : Fin 16) (i : BitVec 18), s.Issues e ∧ (s.scalar e a + i.signExtend 32).toNat % 2 ≠ 0 :=
  ⟨(let e : EngineId := 1; let a : Fin 16 := 1; let s : State := State.on; (s.engUp e).setScalar e a 0x101), 1, 1, 0,
    by decide⟩

theorem test_premises_EngineMemory_12 :
    ∃ (s : State) (e : EngineId) (a : Fin 16) (i : BitVec 18), s.Issues e ∧ (s.scalar e a + i.signExtend 32).toNat % 32 ≠ 0 :=
  ⟨(let e : EngineId := 1; let a : Fin 16 := 1; let s : State := State.on; (s.engUp e).setScalar e a 0x101), 1, 1, 0,
    by decide⟩

theorem test_premises_EngineMemory_13 :
    ∃ (s : State) (e : EngineId) (a : Fin 16) (i : BitVec 18), s.Issues e ∧ (s.scalar e a + i.signExtend 32).toNat % 32 ≠ 0 :=
  ⟨(let e : EngineId := 1; let a : Fin 16 := 1; let s : State := State.on; (s.engUp e).setScalar e a 0x101), 1, 1, 0,
    by decide⟩

theorem test_premises_EngineMemory_14 :
    ∃ (s : State) (e : EngineId) (a : Fin 16) (i : BitVec 18), s.Issues e ∧ (s.scalar e a + i.signExtend 32).toNat % 4 = 0 ∧
    0x7FFF < (s.scalar e a + i.signExtend 32).toNat :=
  ⟨(let e : EngineId := 1; let a : Fin 16 := 1; let s : State := State.on; (s.engUp e).setScalar e a 0x8000), 1, 1, 0,
    by decide⟩

theorem test_premises_EngineMemory_15 :
    ∃ (s : State) (e : EngineId) (a : Fin 16) (i : BitVec 18), s.Issues e ∧ (s.scalar e a + i.signExtend 32).toNat % 4 = 0 ∧
    0x7FFF < (s.scalar e a + i.signExtend 32).toNat :=
  ⟨(let e : EngineId := 1; let a : Fin 16 := 1; let s : State := State.on; (s.engUp e).setScalar e a 0x8000), 1, 1, 0,
    by decide⟩

theorem test_premises_EngineMemory_16 :
    ∃ (s : State) (e : EngineId) (a : Fin 16) (i : BitVec 18), s.Issues e ∧ (s.scalar e a + i.signExtend 32).toNat % 32 = 0 ∧
    0x7FFF < (s.scalar e a + i.signExtend 32).toNat :=
  ⟨(let e : EngineId := 1; let a : Fin 16 := 1; let s : State := State.on; (s.engUp e).setScalar e a 0x8000), 1, 1, 0,
    by decide⟩

theorem test_premises_EnginePrimitives_0 :
    ∃ (s : State) (e : EngineId) (a : Fin 16) (addr : BitVec 16), s.Issues e ∧ (s.scalar e a + BitVec.ofNat 32 addr.toNat).toNat
    ≠ 0x810 :=
  ⟨(let e : EngineId := 1; let a : Fin 16 := 1; let s : State := State.on; (s.engUp e).setScalar e a 0), 1, 1,
    (let addr : BitVec 16 := 1; [addr, 0x802, 0x1820, 0x900].getD (addr.toNat % 4) 0), by decide⟩

theorem test_premises_EnginePrimitives_1 :
    ∃ (s : State) (e : EngineId) (a : Fin 16) (addr : BitVec 16), s.Issues e ∧ 0x1900 ≤ (s.scalar e a + BitVec.ofNat 32
    addr.toNat).toNat :=
  ⟨(let e : EngineId := 1; let a : Fin 16 := 1; let s : State := State.on; (s.engUp e).setScalar e a 0x1900), 1, 1, 0,
    by decide⟩

theorem test_premises_EnginePrimitives_2 :
    ∃ (s : State) (e : EngineId) (a : Fin 16) (addr : BitVec 16), s.Issues e ∧ 0x1900 ≤ (s.scalar e a + BitVec.ofNat 32
    addr.toNat).toNat :=
  ⟨(let e : EngineId := 1; let a : Fin 16 := 1; let s : State := State.on; (s.engUp e).setScalar e a 0x1900), 1, 1, 0,
    by decide⟩

theorem test_premises_EnginePrimitives_3 :
    ∃ (s : State) (e : EngineId) (a : Fin 16) (addr : BitVec 16), s.Issues e ∧ (s.scalar e a + BitVec.ofNat 32 addr.toNat).toNat
    = 0x1803 :=
  ⟨(let e : EngineId := 1; let a : Fin 16 := 1; let s : State := State.on; (s.engUp e).setScalar e a 0x1800), 1, 1, 3,
    by decide⟩

theorem test_premises_EnginePrimitives_4 :
    ∃ (s : State) (e : EngineId) (a : Fin 16) (addr : BitVec 16), s.Issues e ∧ 0x1000 ≤ (s.scalar e a + BitVec.ofNat 32
    addr.toNat).toNat ∧ (s.scalar e a + BitVec.ofNat 32 addr.toNat).toNat < 0x1400 :=
  ⟨(let e : EngineId := 1; let a : Fin 16 := 1; let s : State := State.on; ((s.engUp e).setScalar e a 0x1000).setPrim e { s.prim e with ga := [(0, 5000000), (1, -70000000), (3, 12)], gaShift := 4 }),
    1, 1, 0, by decide⟩

theorem test_premises_EnginePrimitives_5 :
    ∃ (s : State) (e : EngineId) (a : Fin 16) (addr : BitVec 16), s.Issues e ∧ 0x1900 ≤ (s.scalar e a + BitVec.ofNat 32
    addr.toNat).toNat ∧ (s.scalar e a + BitVec.ofNat 32 addr.toNat).toNat < 0x10000 :=
  ⟨(let e : EngineId := 1; let a : Fin 16 := 1; let s : State := State.on; (s.engUp e).setScalar e a 0x1900), 1, 1, 0,
    by decide⟩

theorem test_premises_EnginePrimitives_6 :
    ∃ (s : State) (e : EngineId), s.engClock e = true ∧ e.val < 17 :=
  ⟨(let e : EngineId := (let e : EngineId := 1; e % 17); let s : State := State.on; s.engUp e),
    (let e : EngineId := 1; e % 17), by decide⟩

theorem test_premises_EnginePrimitives_7 :
    ∃ (s : State) (e : EngineId), s.engClock e = true ∧ e.val < 17 :=
  ⟨(let e : EngineId := (let e : EngineId := 1; e % 17); let s : State := State.on; s.engUp e),
    (let e : EngineId := 1; e % 17), by decide⟩

theorem test_premises_EnginePrimitives_8 :
    ∃ (s : State) (e : EngineId) (v : Word), s.engClock e = true ∧ e.val < 17 ∧ v.getLsbD 0 = true :=
  ⟨(let e : EngineId := (let e : EngineId := 1; e % 17); let s : State := State.on; (s.engUp e).setPrim e { s.prim e with gaReady := true, gaOverrun := true }),
    (let e : EngineId := 1; e % 17), 1, by decide⟩

theorem test_premises_EnginePrimitives_9 :
    ∃ (s : State) (e : EngineId) (v : Word), s.engClock e = true ∧ e.val < 17 ∧ v.toNat % 4 ≠ 3 :=
  ⟨(let e : EngineId := (let e : EngineId := 1; e % 17); let s : State := State.on; s.engUp e),
    (let e : EngineId := 1; e % 17), 0, by decide⟩

theorem test_premises_EnginePrimitives_10 :
    ∃ (s : State) (e : EngineId) (v : Word), s.engClock e = true ∧ e.val < 17 ∧ v.toNat % 4 = 3 :=
  ⟨(let e : EngineId := (let e : EngineId := 1; e % 17); let s : State := State.on; s.engUp e),
    (let e : EngineId := 1; e % 17), 3, by decide⟩

theorem test_premises_EnginePrimitives_11 :
    ∃ (s : State) (e : EngineId), s.engClock e = true :=
  ⟨(let e : EngineId := 1; let s : State := State.on; (s.engUp e).modEng e fun g => { g with timerHit := true }), 1,
    by decide⟩

theorem test_premises_EnginePrimitives_12 :
    ∃ (s : State) (e : EngineId), s.engClock e = true ∧ (s.eng e).run = .running :=
  ⟨(let e : EngineId := 1; let s : State := State.on; s.engUp e), 1, by decide⟩

theorem test_premises_EnginePrimitives_13 :
    ∃ (s : State) (e : EngineId), s.engClock e = true ∧ (s.eng e).run = .waiting 16 3 ∧ s.engPending e &&& 16 = 0 ∧ (s.eng
    e).timerHit = false :=
  ⟨(let e : EngineId := 1; let s : State := State.on; (s.engUp e).modEng e fun g => { g with timerHit := false, run := .waiting 16 3 }),
    1, by decide⟩

theorem test_premises_EnginePrimitives_14 :
    ∃ (s : State) (e : EngineId) (v : Word), s.engClock e = true ∧ e.val < 17 ∧ (activeSlots (s.f (Blk.llane e)
    LLANE.RX_CTL_RATE) ≤ v.toNat % 128 ∨ 136 ≤ v.toNat / 256 % 256 ∨ s.subUsable e (v.toNat / 256 % 256) = false ∨
    s.subSlotted e (v.toNat / 256 % 256) = true) :=
  ⟨(let e : EngineId := (let e : EngineId := 1; e % 17); let s : State := State.on; s.engUp e),
    (let e : EngineId := 1; e % 17), 0xFF00, by decide⟩

theorem test_premises_EnginePrimitives_15 :
    ∃ (s : State) (e : EngineId) (v : Word), s.engClock e = true ∧ e.val < 17 ∧ ¬ (activeSlots (s.f (Blk.llane e)
    LLANE.RX_CTL_RATE) ≤ v.toNat % 128 ∨ 136 ≤ v.toNat / 256 % 256 ∨ s.subUsable e (v.toNat / 256 % 256) = false ∨
    s.subSlotted e (v.toNat / 256 % 256) = true) ∧ (s.lane e).eyeSpare = none ∧ (s.lane e).bg = none :=
  ⟨(let e : EngineId := (let e : EngineId := 1; e % 17); let s : State := State.on; ((s.engUp e).setF (Blk.llane e) LLANE.RX_CTL_RATE 0).setLane e { slot := [(3, 9)], sub := [(128, { usable := true })] }),
    (let e : EngineId := 1; e % 17), 0x8003, by decide⟩

theorem test_premises_EnginePrimitives_16 :
    ∃ (s : State) (e : EngineId), s.engClock e = true ∧ e.val < 17 ∧ s.f (Blk.llane e) LLANE.TX_EQ_STAT_IN_USE ≤ 1 :=
  ⟨(let e : EngineId := (let e : EngineId := 1; e % 17); let s : State := State.on; (s.engUp e).setF (Blk.llane e) LLANE.TX_EQ_STAT_IN_USE 1),
    (let e : EngineId := 1; e % 17), by decide⟩

theorem test_premises_EnginePrimitives_17 :
    ∃ (s : State) (e : EngineId), s.engClock e = true ∧ e.val < 17 ∧ s.eqPair1 e (s.rxInactive e) (s.f (Blk.llane e)
    LLANE.EQ_CTL_TAPS) = true ∧ s.f (Blk.llane e) LLANE.EQ_STAT_IN_USE ≤ 1 :=
  ⟨(let e : EngineId := (let e : EngineId := 1; e % 17); let s : State := State.on; ((s.engUp e).setF (Blk.llane e) LLANE.EQ_STAT_IN_USE 0).setF (Blk.llane e) LLANE.EQ_CTL_TAPS (s.rxWord e 1 145)),
    (let e : EngineId := 1; e % 17), by decide⟩

theorem test_premises_EnginePrimitives_18 :
    ∃ (s : State) (e : EngineId), s.engClock e = true ∧ e.val < 17 ∧ s.eqPair1 e (s.rxInactive e) (s.f (Blk.llane e)
    LLANE.EQ_CTL_TAPS) = false :=
  ⟨(let e : EngineId := (let e : EngineId := 1; e % 17); let s : State := State.on; (s.engUp e).setF (Blk.llane e) LLANE.EQ_CTL_TAPS 17),
    (let e : EngineId := 1; e % 17), by decide⟩

theorem test_premises_EnginePrimitives_19 :
    ∃ (s : State) (e : EngineId), s.engClock e = true ∧ 17 ≤ e.val ∧ s.hostState (s.hostSelected e) = 6 :=
  ⟨(let e : EngineId := 18; let s : State := State.on; ((s.engUp e).modEng e fun g => { g with laneSel := 5 }).setF (Blk.hlane (16 * (e - 17) + 5)) HLANE.HL_STAT_STATE 6),
    18, by decide⟩

theorem test_premises_EnginePrimitives_20 :
    ∃ (s : State) (e : EngineId), s.engClock e = true ∧ 17 ≤ e.val ∧ s.hostState (s.hostSelected e) ≠ 6 :=
  ⟨(let e : EngineId := 18; let s : State := State.on; ((s.engUp e).modEng e fun g => { g with laneSel := 5 }).setF (Blk.hlane (16 * (e - 17) + 5)) HLANE.HL_STAT_STATE 3),
    18, by decide⟩

theorem test_premises_EnginePrimitives_21 :
    ∃ (s : State) (e : EngineId) (v : Word), s.engClock e = true ∧ 17 ≤ e.val ∧ s.hostState (s.hostSelected e) = 6 ∧ v.getLsbD 0
    = false :=
  ⟨(let e : EngineId := 18; let s : State := State.on; ((s.engUp e).modEng e fun g => { g with laneSel := 5 }).setF (Blk.hlane (16 * (e - 17) + 5)) HLANE.HL_STAT_STATE 6),
    18, 0, by decide⟩

theorem test_premises_EnginePrimitives_22 :
    ∃ (s : State) (e : EngineId), s.engClock e = true ∧ 17 ≤ e.val ∧ s.hostState (s.hostSelected e) ≠ 6 :=
  ⟨(let e : EngineId := 18; let s : State := State.on; ((s.engUp e).modEng e fun g => { g with laneSel := 5 }).setF (Blk.hlane (16 * (e - 17) + 5)) HLANE.HL_STAT_STATE 3),
    18, by decide⟩

theorem test_premises_EnginePrimitives_23 :
    ∃ (s : State) (n : Fin 17), (s.prim n).histBusy = true :=
  ⟨(let n : Fin 17 := 1; let s : State := State.on; s.setPrim n { s.prim n with histBusy := true }), 1, by decide⟩

theorem test_premises_EnginePrimitives_24 :
    ∃ (s : State) (n : Fin 17), (s.prim n).gaEn = true ∧ s.rxRuns n = true ∧ (s.prim n).gaCount + (s.prim n).gaSkip < 16 :=
  ⟨(let n : Fin 17 := 1; let s : State := State.on; (((((s.engUp n).setF (Blk.llane n) LLANE.RX_CTL_RX_EN 1).setF (if n = 16 then Blk.llane 16 else Blk.lclu (n / 4)) LCLU.LANE_PWR_RX_PWR 15).setF (Blk.llane n) LLANE.RX_CTL_RX_EN 1)).setPrim n { s.prim n with gaEn := true, gaCount := 2, gaSkip := 3 }),
    1, by decide⟩

theorem test_premises_EnginePrimitives_25 :
    ∃ (s : State) (n : Fin 17), (s.prim n).gaEn = false :=
  ⟨(let n : Fin 17 := 1; let s : State := State.on; s.setPrim n { s.prim n with gaEn := false }), 1, by decide⟩

theorem test_premises_EngineMailbox_0 :
    ∃ (s : State) (q : Requester) (e : EngineId), s.Serves q (engBlk e) true ∧ s.efb e ENG.MBX_STAT_BUSY = false :=
  ⟨(let e : EngineId := 1; let s : State := State.on; (s.engUp e).setEf e ENG.MBX_STAT_BUSY 0), .pcie, 1, by decide⟩

theorem test_premises_EngineMailbox_1 :
    ∃ (s : State) (q : Requester) (e : EngineId), s.Serves q (engBlk e) true ∧ s.efb e ENG.MBX_STAT_BUSY = true :=
  ⟨(let e : EngineId := 1; let s : State := State.on; (s.engUp e).setEf e ENG.MBX_STAT_BUSY 1), .pcie, 1, by decide⟩

theorem test_premises_EngineMailbox_2 :
    ∃ (s : State) (e : EngineId), s.engClock e = true ∧ s.efb e ENG.MBX_STAT_BUSY = true :=
  ⟨(let e : EngineId := 1; let s : State := State.on; (s.engUp e).setEf e ENG.MBX_STAT_BUSY 1), 1, by decide⟩

theorem test_premises_EngineMailbox_3 :
    ∃ (s : State) (e : EngineId), s.engClock e = true ∧ s.efb e ENG.MBX_STAT_BUSY = false :=
  ⟨(let e : EngineId := 1; let s : State := State.on; (s.engUp e).setEf e ENG.MBX_STAT_BUSY 0), 1, by decide⟩

theorem test_premises_EngineMailbox_4 :
    ∃ (s : State) (e : EngineId), s.engClock e = true :=
  ⟨(let e : EngineId := 1; let s : State := State.on; s.engUp e), 1, by decide⟩

theorem test_premises_EngineMailbox_5 :
    ∃ (s : State) (e : EngineId), s.engClock e = true :=
  ⟨(let e : EngineId := 1; let s : State := State.on; s.engUp e), 1, by decide⟩

theorem test_premises_EngineBanks_0 :
    ∃ (s : State) (q : Requester) (e : EngineId), s.Serves q (engBlk e) true ∧ s.staged (engBlk e) = false ∧ s.efb e
    ENG.LE_CTL_RUN = false ∧ s.ef e ENG.LE_CTL_BANK = s.ef e ENG.LE_STAT_BANK_IN_USE :=
  ⟨(let e : EngineId := 1; let s : State := State.on; ((((s.engUp e).setEf e ENG.LE_CTL_RUN 0).setEf e ENG.LE_CTL_BANK 0).setF (engBlk e) HDR.BLK_CTL_STAGE 0).setRun e .halted),
    .pcie, 1, by decide⟩

theorem test_premises_EngineBanks_1 :
    ∃ (s : State) (q : Requester) (e : EngineId), s.Serves q (engBlk e) true ∧ s.staged (engBlk e) = false ∧ s.engClock e = true
    ∧ s.efb e ENG.LE_CTL_RUN = false ∧ (s.eng e).run = .halted ∧ s.pcOk e = false ∧ s.ef e ENG.LE_CTL_BANK = s.ef e
    ENG.LE_STAT_BANK_IN_USE :=
  ⟨(let e : EngineId := 1; let s : State := State.on; (((((s.engUp e).setEf e ENG.LE_CTL_RUN 0).setEf e ENG.LE_CTL_BANK 0).setF (engBlk e) HDR.BLK_CTL_STAGE 0).setRun e .halted).setEf e ENG.UC_BANK0_LEN 0),
    .pcie, 1, by decide⟩

theorem test_premises_EngineBanks_2 :
    ∃ (s : State) (q : Requester) (e : EngineId), s.Serves q (engBlk e) true ∧ s.ucAllowed q = true ∧ s.bankInUse e (s.ef e
    ENG.UC_ADDR_BANK) = false ∧ s.bankNamed e (s.ef e ENG.UC_ADDR_BANK) = false :=
  ⟨(let e : EngineId := 1; let s : State := State.on; (((s.engUp e).setEf e ENG.UC_ADDR_BANK 1).setF (engBlk e) HDR.BLK_CTL_STAGE 0).setF Blk.dbg DBG.STAT_LEVEL 2),
    .keeper, 1, by decide⟩

theorem test_premises_EngineBanks_3 :
    ∃ (s : State) (q : Requester) (e : EngineId), s.Serves q (engBlk e) true ∧ s.bankInUse e (s.ef e ENG.UC_ADDR_BANK) = true ∧
    s.ucAllowed q = true :=
  ⟨(let e : EngineId := 1; let s : State := State.on; ((s.engUp e).setEf e ENG.UC_ADDR_BANK 0).setF Blk.dbg DBG.STAT_LEVEL 2),
    .keeper, 1, by decide⟩

theorem test_premises_EngineBanks_4 :
    ∃ (s : State) (q : Requester) (e : EngineId), s.Serves q (engBlk e) true ∧ s.ucAllowed q = false :=
  ⟨(let e : EngineId := 1; let s : State := State.on; ((s.engUp e).setEf e ENG.UC_ADDR_BANK 1).setF Blk.dbg DBG.STAT_LEVEL 1),
    .pcie, 1, by decide⟩

theorem test_premises_EngineBanks_5 :
    ∃ (s : State) (q : Requester) (e : EngineId) (bank : Fin 2) (len : BitVec 12), s.Serves q (engBlk e) true ∧ s.ucAllowed q =
    true ∧ s.bankInUse e bank = false ∧ s.bankNamed e bank = false ∧ 1 ≤ len.toNat ∧ len.toNat ≤ 2048 ∧ (s.eng e).sealing =
    none :=
  ⟨(let e : EngineId := 1; let s : State := State.on; (((s.engUp e).setF (engBlk e) HDR.BLK_CTL_STAGE 0).setF Blk.dbg DBG.STAT_LEVEL 2).modEng e fun g => { g with sealing := none }),
    .keeper, 1, 1, 4, by decide⟩

theorem test_premises_EngineBanks_6 :
    ∃ (s : State) (q : Requester) (e : EngineId) (bank : Fin 2) (len : BitVec 12), s.Serves q (engBlk e) true ∧ (s.bankInUse e
    bank = true ∨ len = 0 ∨ 2048 < len.toNat) :=
  ⟨(let e : EngineId := 1; let s : State := State.on; s.engUp e), .pcie, 1, 1, 0, by decide⟩

theorem test_premises_EngineBanks_7 :
    ∃ (s : State) (q : Requester) (e : EngineId) (bank : Fin 2), s.Serves q (engBlk e) true ∧ s.ucAllowed q = true ∧ s.bankInUse
    e bank = false ∧ s.bankNamed e bank = false :=
  ⟨(let e : EngineId := 1; let s : State := State.on; ((s.engUp e).setF (engBlk e) HDR.BLK_CTL_STAGE 0).setF Blk.dbg DBG.STAT_LEVEL 2),
    .keeper, 1, 1, by decide⟩

theorem test_premises_EngineBanks_8 :
    ∃ (s : State) (q : Requester) (e : EngineId) (bank : Fin 2), s.Serves q (engBlk e) true ∧ s.bankInUse e bank = true :=
  ⟨(let e : EngineId := 1; let s : State := State.on; s.engUp e), .pcie, 1, 0, by decide⟩

theorem test_premises_EngineBanks_9 :
    ∃ (s : State) (b : Fin 2) (len : Nat) (k : Nat) (e : EngineId), (s.eng e).sealing = some (b.val, len) ∧ len ≤ 2048 ∧ k < 8 :=
  ⟨(let b : Fin 2 := 1; let len : Nat := (let len : Nat := 1; len % 2048); let e : EngineId := 1; let s : State := State.on; (s.engUp e).modEng e fun g => { g with sealing := some (b.val, len) }),
    1, (let len : Nat := 1; len % 2048), (let k : Nat := 1; k % 8), 1, by decide⟩

theorem test_premises_EngineBanks_10 :
    ∃ (s : State) (e : EngineId), (s.eng e).sealing = none :=
  ⟨(let e : EngineId := 1; let s : State := State.on; (s.engUp e).modEng e fun g => { g with sealing := none }), 1,
    by decide⟩

theorem test_premises_EngineBanks_11 :
    ∃ (s : State) (b : Nat) (e : EngineId), s.engClock e = true ∧ (s.eng e).swapTo = some b ∧ b < 2 :=
  ⟨(let b : Nat := (let b : Nat := 1; b % 2); let e : EngineId := 1; let s : State := State.on; (s.engUp e).modEng e fun g => { g with swapTo := some b, run := if g.pc % 2 = 0 then .waiting 16 3 else .running }),
    (let b : Nat := 1; b % 2), 1, by decide⟩

theorem test_premises_EngineBanks_12 :
    ∃ (s : State) (e : EngineId), (s.eng e).swapTo = none :=
  ⟨(let e : EngineId := 1; let s : State := State.on; (s.engUp e).modEng e fun g => { g with swapTo := none }), 1,
    by decide⟩

theorem test_premises_SuppliedPrograms_0 :
    ∃ (s : State) (n : Fin 17), s.progHas (n.val) 1 = true ∧ s.progArg n 0 = 0 ∧ s.progArg n 1 = 0 :=
  ⟨(let n : Fin 17 := 1; let s : State := State.on; ((((s.engUp (n.val)).setEf (n.val) ENG.MBX_STAT_BUSY 1).setEf (n.val) ENG.MBX_CMD_CMD 1).setReg (engBlk (n.val)) (ENG.MBX_ARG0 (engBase (n.val))) 0).setReg (engBlk (n.val)) (ENG.MBX_ARG1 (engBase (n.val))) 0),
    1, by decide⟩

theorem test_premises_SuppliedPrograms_1 :
    ∃ (s : State) (n : Fin 17), s.progHas (n.val) 1 = true ∧ s.progArg n 0 = 0 ∧ s.progArg n 1 = 0 :=
  ⟨(let n : Fin 17 := 1; let s : State := State.on; ((((s.engUp (n.val)).setEf (n.val) ENG.MBX_STAT_BUSY 1).setEf (n.val) ENG.MBX_CMD_CMD 1).setReg (engBlk (n.val)) (ENG.MBX_ARG0 (engBase (n.val))) 0).setReg (engBlk (n.val)) (ENG.MBX_ARG1 (engBase (n.val))) 0),
    1, by decide⟩

theorem test_premises_SuppliedPrograms_2 :
    ∃ (s : State) (n : Fin 17), s.progHas (n.val) 9 = true ∧ s.progArg n 0 = 0 ∧ s.progArg n 1 = 0 :=
  ⟨(let n : Fin 17 := 1; let s : State := State.on; ((((s.engUp (n.val)).setEf (n.val) ENG.MBX_STAT_BUSY 1).setEf (n.val) ENG.MBX_CMD_CMD 9).setReg (engBlk (n.val)) (ENG.MBX_ARG0 (engBase (n.val))) 0).setReg (engBlk (n.val)) (ENG.MBX_ARG1 (engBase (n.val))) 0),
    1, by decide⟩

theorem test_premises_SuppliedPrograms_3 :
    ∃ (s : State) (n : Fin 17), s.progHas (n.val) 9 = true ∧ s.progArg n 0 = 0 ∧ s.progArg n 1 = 0 :=
  ⟨(let n : Fin 17 := 1; let s : State := State.on; ((((s.engUp (n.val)).setEf (n.val) ENG.MBX_STAT_BUSY 1).setEf (n.val) ENG.MBX_CMD_CMD 9).setReg (engBlk (n.val)) (ENG.MBX_ARG0 (engBase (n.val))) 0).setReg (engBlk (n.val)) (ENG.MBX_ARG1 (engBase (n.val))) 0),
    1, by decide⟩

theorem test_premises_SuppliedPrograms_4 :
    ∃ (s : State) (n : Fin 17), s.progHas (n.val) 1 = true ∧ s.progArg n 0 = 3 :=
  ⟨(let n : Fin 17 := 1; let s : State := State.on; ((((s.engUp (n.val)).setEf (n.val) ENG.MBX_STAT_BUSY 1).setEf (n.val) ENG.MBX_CMD_CMD 1).setReg (engBlk (n.val)) (ENG.MBX_ARG0 (engBase (n.val))) 3).setReg (engBlk (n.val)) (ENG.MBX_ARG1 (engBase (n.val))) 0),
    1, by decide⟩

theorem test_premises_SuppliedPrograms_5 :
    ∃ (s : State) (n : Fin 17), s.progHas (n.val) 2 = true ∧ s.progArg n 0 = 0 ∧ s.progArg n 1 = 0 :=
  ⟨(let n : Fin 17 := 1; let s : State := State.on; ((((s.engUp (n.val)).setEf (n.val) ENG.MBX_STAT_BUSY 1).setEf (n.val) ENG.MBX_CMD_CMD 2).setReg (engBlk (n.val)) (ENG.MBX_ARG0 (engBase (n.val))) 0).setReg (engBlk (n.val)) (ENG.MBX_ARG1 (engBase (n.val))) 0),
    1, by decide⟩

theorem test_premises_SuppliedPrograms_6 :
    ∃ (s : State) (n : Fin 17), s.progHas (n.val) 2 = true ∧ s.progArg n 0 = 1 :=
  ⟨(let n : Fin 17 := 1; let s : State := State.on; ((((s.engUp (n.val)).setEf (n.val) ENG.MBX_STAT_BUSY 1).setEf (n.val) ENG.MBX_CMD_CMD 2).setReg (engBlk (n.val)) (ENG.MBX_ARG0 (engBase (n.val))) 1).setReg (engBlk (n.val)) (ENG.MBX_ARG1 (engBase (n.val))) 0),
    1, by decide⟩

theorem test_premises_SuppliedPrograms_7 :
    ∃ (s : State) (n : Fin 17), s.progHas (n.val) 3 = true ∧ s.progArg n 0 = 0 ∧ s.progArg n 1 = 0 ∧ s.progState n = 4 :=
  ⟨(let n : Fin 17 := 1; let s : State := State.on; (((((s.engUp (n.val)).setEf (n.val) ENG.MBX_STAT_BUSY 1).setEf (n.val) ENG.MBX_CMD_CMD 3).setReg (engBlk (n.val)) (ENG.MBX_ARG0 (engBase (n.val))) 0).setReg (engBlk (n.val)) (ENG.MBX_ARG1 (engBase (n.val))) 0).setProgStat n 4),
    1, by decide⟩

theorem test_premises_SuppliedPrograms_8 :
    ∃ (s : State) (n : Fin 17), s.progHas (n.val) 3 = true ∧ s.progArg n 0 = 0 ∧ s.progArg n 1 = 0 ∧ s.progState n ≠ 4 :=
  ⟨(let n : Fin 17 := 1; let s : State := State.on; (((((s.engUp (n.val)).setEf (n.val) ENG.MBX_STAT_BUSY 1).setEf (n.val) ENG.MBX_CMD_CMD 3).setReg (engBlk (n.val)) (ENG.MBX_ARG0 (engBase (n.val))) 0).setReg (engBlk (n.val)) (ENG.MBX_ARG1 (engBase (n.val))) 0).setProgStat n 3),
    1, by decide⟩

theorem test_premises_SuppliedPrograms_9 :
    ∃ (s : State) (n : Fin 17), s.progHas (n.val) 4 = true ∧ s.progArg n 0 < 65536 ∧ s.progArg n 1 = 0 :=
  ⟨(let n : Fin 17 := 1; let s : State := State.on; ((((s.engUp (n.val)).setEf (n.val) ENG.MBX_STAT_BUSY 1).setEf (n.val) ENG.MBX_CMD_CMD 4).setReg (engBlk (n.val)) (ENG.MBX_ARG0 (engBase (n.val))) (BitVec.ofNat 32 (s.aonCnt % 65536))).setReg (engBlk (n.val)) (ENG.MBX_ARG1 (engBase (n.val))) 0),
    1, by decide⟩

theorem test_premises_SuppliedPrograms_10 :
    ∃ (s : State) (n : Fin 17), s.progHas (n.val) 5 = true ∧ s.progArg n 0 = 0x120034 ∧ s.progArg n 1 = 0 :=
  ⟨(let n : Fin 17 := 1; let s : State := State.on; ((((s.engUp (n.val)).setEf (n.val) ENG.MBX_STAT_BUSY 1).setEf (n.val) ENG.MBX_CMD_CMD 5).setReg (engBlk (n.val)) (ENG.MBX_ARG0 (engBase (n.val))) 0x120034).setReg (engBlk (n.val)) (ENG.MBX_ARG1 (engBase (n.val))) 0),
    1, by decide⟩

theorem test_premises_SuppliedPrograms_11 :
    ∃ (s : State) (n : Fin 17), s.progHas (n.val) 6 = true ∧ s.progArg n 0 = 0 ∧ s.progArg n 1 = 0 :=
  ⟨(let n : Fin 17 := 1; let s : State := State.on; (((((s.engUp (n.val)).setEf (n.val) ENG.MBX_STAT_BUSY 1).setEf (n.val) ENG.MBX_CMD_CMD 6).setReg (engBlk (n.val)) (ENG.MBX_ARG0 (engBase (n.val))) 0).setReg (engBlk (n.val)) (ENG.MBX_ARG1 (engBase (n.val))) 0).setProgStat n 0x123),
    1, by decide⟩

theorem test_premises_SuppliedPrograms_12 :
    ∃ (s : State) (n : Fin 17), s.progHas (n.val) 7 = true ∧ LLANE.EYE_CTL_AUTO.get (BitVec.ofNat 32 (s.progArg n 0)) = 0 ∧
    s.progArg n 1 = 0 :=
  ⟨(let n : Fin 17 := 1; let s : State := State.on; ((((s.engUp (n.val)).setEf (n.val) ENG.MBX_STAT_BUSY 1).setEf (n.val) ENG.MBX_CMD_CMD 7).setReg (engBlk (n.val)) (ENG.MBX_ARG0 (engBase (n.val))) 0).setReg (engBlk (n.val)) (ENG.MBX_ARG1 (engBase (n.val))) 0),
    1, by decide⟩

theorem test_premises_SuppliedPrograms_13 :
    ∃ (s : State) (n : Fin 17), s.progHas (n.val) 7 = true ∧ LLANE.EYE_CTL_AUTO.get (BitVec.ofNat 32 (s.progArg n 0)) = 1 ∧
    s.progArg n 1 = 0 ∧ (s.eyeCtl n (LLANE.EYE_CTL_START.put (BitVec.ofNat 32 (s.progArg n 0)) 1)).fb (Blk.llane n)
    LLANE.EYE_STAT_BUSY = true :=
  ⟨(let n : Fin 17 := 1; let s : State := State.on; ((((((s.engUp (n.val)).setEf (n.val) ENG.MBX_STAT_BUSY 1).setEf (n.val) ENG.MBX_CMD_CMD 7).setReg (engBlk (n.val)) (ENG.MBX_ARG0 (engBase (n.val))) (LLANE.EYE_CTL_AUTO.put 0 1)).setReg (engBlk (n.val)) (ENG.MBX_ARG1 (engBase (n.val))) 0).setF (Blk.llane n) LLANE.EYE_STAT_BUSY 1)),
    1, by decide⟩

theorem test_premises_SuppliedPrograms_14 :
    ∃ (s : State) (n : Fin 17), s.progHas (n.val) 8 = true ∧ s.progArg n 0 = 0xFF00 ∧ s.progArg n 1 = 0 :=
  ⟨(let n : Fin 17 := 1; let s : State := State.on; ((((s.engUp (n.val)).setEf (n.val) ENG.MBX_STAT_BUSY 1).setEf (n.val) ENG.MBX_CMD_CMD 8).setReg (engBlk (n.val)) (ENG.MBX_ARG0 (engBase (n.val))) 0xFF00).setReg (engBlk (n.val)) (ENG.MBX_ARG1 (engBase (n.val))) 0),
    1, by decide⟩

theorem test_premises_SuppliedPrograms_15 :
    ∃ (s : State) (n : Fin 17), s.progHas (n.val) 8 = true ∧ s.progArg n 0 = 0x8003 ∧ s.progArg n 1 = 0 ∧ (s.slotMap n 3
    128).isSome = true :=
  ⟨(let n : Fin 17 := 1; let s : State := State.on; ((((((s.engUp (n.val)).setEf (n.val) ENG.MBX_STAT_BUSY 1).setEf (n.val) ENG.MBX_CMD_CMD 8).setReg (engBlk (n.val)) (ENG.MBX_ARG0 (engBase (n.val))) 0x8003).setReg (engBlk (n.val)) (ENG.MBX_ARG1 (engBase (n.val))) 0).setF (Blk.llane n) LLANE.RX_CTL_RATE 0).setLane n { slot := [(3, 9)], sub := [(128, { usable := true })] }),
    1, by decide⟩

theorem test_premises_SuppliedPrograms_16 :
    ∃ (s : State) (n : Fin 17), s.progHas (n.val) 15 = true ∧ s.progArg n 0 = 0 ∧ s.progArg n 1 = 0 :=
  ⟨(let n : Fin 17 := 1; let s : State := State.on; ((((s.engUp (n.val)).setEf (n.val) ENG.MBX_STAT_BUSY 1).setEf (n.val) ENG.MBX_CMD_CMD 15).setReg (engBlk (n.val)) (ENG.MBX_ARG0 (engBase (n.val))) 0).setReg (engBlk (n.val)) (ENG.MBX_ARG1 (engBase (n.val))) 0),
    1, by decide⟩

theorem test_premises_SuppliedPrograms_17 :
    ∃ (s : State) (m : Nat) (k : Fin 4), s.progHas (17 + k.val) 1 = true ∧ s.progArg (17 + k) 0 = m ∧ m < 65536 ∧ s.progArg (17
    + k) 1 = 0 :=
  ⟨(let m : Nat := 5; let k : Fin 4 := 1; let s : State := State.on; (((((s.engUp (17 + k.val)).setEf (17 + k.val) ENG.MBX_STAT_BUSY 1).setEf (17 + k.val) ENG.MBX_CMD_CMD 1).setReg (engBlk (17 + k.val)) (ENG.MBX_ARG0 (engBase (17 + k.val))) (BitVec.ofNat 32 m)).setReg (engBlk (17 + k.val)) (ENG.MBX_ARG1 (engBase (17 + k.val))) 0).modEng (17 + k) fun g => { g with progAdapt := 0x70F, progFrozen := 0x1FF }),
    5, 1, by decide⟩

theorem test_premises_SuppliedPrograms_18 :
    ∃ (s : State) (m : Nat) (k : Fin 4), s.progHas (17 + k.val) 2 = true ∧ s.progArg (17 + k) 0 = m ∧ m < 65536 ∧ s.progArg (17
    + k) 1 = 0 :=
  ⟨(let m : Nat := 5; let k : Fin 4 := 1; let s : State := State.on; (((((s.engUp (17 + k.val)).setEf (17 + k.val) ENG.MBX_STAT_BUSY 1).setEf (17 + k.val) ENG.MBX_CMD_CMD 2).setReg (engBlk (17 + k.val)) (ENG.MBX_ARG0 (engBase (17 + k.val))) (BitVec.ofNat 32 m)).setReg (engBlk (17 + k.val)) (ENG.MBX_ARG1 (engBase (17 + k.val))) 0).modEng (17 + k) fun g => { g with progAdapt := 0x70F, progFrozen := 0x1FF }),
    5, 1, by decide⟩

theorem test_premises_SuppliedPrograms_19 :
    ∃ (s : State) (m : Nat) (k : Fin 4), s.progHas (17 + k.val) 3 = true ∧ s.progArg (17 + k) 0 = m ∧ m < 65536 ∧ s.progArg (17
    + k) 1 = 0 ∧ (s.eng (17 + k)).progFrozen &&& m = m :=
  ⟨(let m : Nat := 5; let k : Fin 4 := 1; let s : State := State.on; (((((s.engUp (17 + k.val)).setEf (17 + k.val) ENG.MBX_STAT_BUSY 1).setEf (17 + k.val) ENG.MBX_CMD_CMD 3).setReg (engBlk (17 + k.val)) (ENG.MBX_ARG0 (engBase (17 + k.val))) (BitVec.ofNat 32 m)).setReg (engBlk (17 + k.val)) (ENG.MBX_ARG1 (engBase (17 + k.val))) 0).modEng (17 + k) fun g => { g with progAdapt := 0x70F, progFrozen := 0x1FF }),
    5, 1, by decide⟩

theorem test_premises_SuppliedPrograms_20 :
    ∃ (s : State) (m : Nat) (k : Fin 4), s.progHas (17 + k.val) 3 = true ∧ s.progArg (17 + k) 0 = m ∧ m < 65536 ∧ s.progArg (17
    + k) 1 = 0 ∧ (s.eng (17 + k)).progFrozen &&& m ≠ m :=
  ⟨(let m : Nat := 1024; let k : Fin 4 := 1; let s : State := State.on; (((((s.engUp (17 + k.val)).setEf (17 + k.val) ENG.MBX_STAT_BUSY 1).setEf (17 + k.val) ENG.MBX_CMD_CMD 3).setReg (engBlk (17 + k.val)) (ENG.MBX_ARG0 (engBase (17 + k.val))) (BitVec.ofNat 32 m)).setReg (engBlk (17 + k.val)) (ENG.MBX_ARG1 (engBase (17 + k.val))) 0).modEng (17 + k) fun g => { g with progAdapt := 0x70F, progFrozen := 0x1FF }),
    1024, 1, by decide⟩

theorem test_premises_SuppliedPrograms_21 :
    ∃ (s : State) (m : Nat) (k : Fin 4), s.progHas (17 + k.val) 4 = true ∧ s.progArg (17 + k) 0 = m ∧ m < 65536 ∧ s.progArg (17
    + k) 1 < 4096 :=
  ⟨(let m : Nat := 5; let k : Fin 4 := 1; let s : State := State.on; (((((s.engUp (17 + k.val)).setEf (17 + k.val) ENG.MBX_STAT_BUSY 1).setEf (17 + k.val) ENG.MBX_CMD_CMD 4).setReg (engBlk (17 + k.val)) (ENG.MBX_ARG0 (engBase (17 + k.val))) (BitVec.ofNat 32 m)).setReg (engBlk (17 + k.val)) (ENG.MBX_ARG1 (engBase (17 + k.val))) 0x321).modEng (17 + k) fun g => { g with progAdapt := 0x70F, progFrozen := 0x1FF }),
    5, 1, by decide⟩

theorem test_premises_SuppliedPrograms_22 :
    ∃ (s : State) (m : Nat) (k : Fin 4), s.progHas (17 + k.val) 6 = true ∧ s.progArg (17 + k) 0 = m ∧ m < 65536 ∧ s.progArg (17
    + k) 1 < 16 :=
  ⟨(let m : Nat := 5; let k : Fin 4 := 1; let s : State := State.on; (((((s.engUp (17 + k.val)).setEf (17 + k.val) ENG.MBX_STAT_BUSY 1).setEf (17 + k.val) ENG.MBX_CMD_CMD 6).setReg (engBlk (17 + k.val)) (ENG.MBX_ARG0 (engBase (17 + k.val))) (BitVec.ofNat 32 m)).setReg (engBlk (17 + k.val)) (ENG.MBX_ARG1 (engBase (17 + k.val))) 7).modEng (17 + k) fun g => { g with progAdapt := 0x70F, progFrozen := 0x1FF }),
    5, 1, by decide⟩

theorem test_premises_SuppliedPrograms_23 :
    ∃ (s : State) (m : Nat) (k : Fin 4), s.progHas (17 + k.val) 10 = true ∧ s.progArg (17 + k) 0 = m ∧ m < 65536 ∧ 1 ≤ s.progArg
    (17 + k) 1 ∧ s.progArg (17 + k) 1 ≤ 3 :=
  ⟨(let m : Nat := 5; let k : Fin 4 := 1; let s : State := State.on; (((((s.engUp (17 + k.val)).setEf (17 + k.val) ENG.MBX_STAT_BUSY 1).setEf (17 + k.val) ENG.MBX_CMD_CMD 10).setReg (engBlk (17 + k.val)) (ENG.MBX_ARG0 (engBase (17 + k.val))) (BitVec.ofNat 32 m)).setReg (engBlk (17 + k.val)) (ENG.MBX_ARG1 (engBase (17 + k.val))) 2).modEng (17 + k) fun g => { g with progAdapt := 0x70F, progFrozen := 0x1FF }),
    5, 1, by decide⟩

theorem test_premises_SuppliedPrograms_24 :
    ∃ (s : State) (m : Nat) (k : Fin 4), s.progHas (17 + k.val) 10 = true ∧ s.progArg (17 + k) 0 = m ∧ m < 65536 ∧ s.progArg (17
    + k) 1 = 0 :=
  ⟨(let m : Nat := 5; let k : Fin 4 := 1; let s : State := State.on; (((((s.engUp (17 + k.val)).setEf (17 + k.val) ENG.MBX_STAT_BUSY 1).setEf (17 + k.val) ENG.MBX_CMD_CMD 10).setReg (engBlk (17 + k.val)) (ENG.MBX_ARG0 (engBase (17 + k.val))) (BitVec.ofNat 32 m)).setReg (engBlk (17 + k.val)) (ENG.MBX_ARG1 (engBase (17 + k.val))) 0).modEng (17 + k) fun g => { g with progAdapt := 0x70F, progFrozen := 0x1FF }),
    5, 1, by decide⟩

theorem test_premises_SuppliedPrograms_25 :
    ∃ (s : State) (m : Nat) (k : Fin 4), s.progHas (17 + k.val) 15 = true ∧ s.progArg (17 + k) 0 = m ∧ m < 65536 ∧ s.progArg (17
    + k) 1 = 0 :=
  ⟨(let m : Nat := 5; let k : Fin 4 := 1; let s : State := State.on; (((((s.engUp (17 + k.val)).setEf (17 + k.val) ENG.MBX_STAT_BUSY 1).setEf (17 + k.val) ENG.MBX_CMD_CMD 15).setReg (engBlk (17 + k.val)) (ENG.MBX_ARG0 (engBase (17 + k.val))) (BitVec.ofNat 32 m)).setReg (engBlk (17 + k.val)) (ENG.MBX_ARG1 (engBase (17 + k.val))) 0).modEng (17 + k) fun g => { g with progAdapt := 0x70F, progFrozen := 0x1FF }),
    5, 1, by decide⟩

theorem test_premises_SuppliedPrograms_26 :
    ∃ (s : State) (k : Fin 4), s.progHas (17 + k.val) 1 = false :=
  ⟨(let k : Fin 4 := 1; let s : State := State.on; s.setEf (17 + k.val) ENG.MBX_STAT_BUSY 0), 1, by decide⟩

theorem test_premises_TwinPairing_0 :
    ∃ (s : State) (q : Requester), s.Serves q Blk.twin true ∧ s.twinOn = true ∧ s.pairState = 0 ∧ s.fuse.lifecycle ≠ 3 :=
  ⟨(let s : State := State.on; { s.twUp 0 with fuse := { s.fuse with lifecycle := 1 } }), .pcie, by decide⟩

theorem test_premises_TwinPairing_1 :
    ∃ (s : State) (q : Requester), s.Serves q Blk.twin true ∧ s.pairState ≠ 0 :=
  ⟨(let s : State := State.on; s.twUp 3), .pcie, by decide⟩

theorem test_premises_TwinPairing_2 :
    ∃ (s : State) (q : Requester), s.Serves q Blk.twin true ∧ s.twinOn = true ∧ (s.pairState = 3 ∨ s.pairState = 4) :=
  ⟨(let s : State := State.on; s.twUp 4), .pcie, by decide⟩

theorem test_premises_TwinPairing_3 :
    ∃ (s : State), s.twinOn = true ∧ s.pairState = 1 :=
  ⟨(let s : State := State.on; s.twUp 1), by decide⟩

theorem test_premises_TwinPairing_4 :
    ∃ (s : State), s.pairState ≠ 1 :=
  ⟨(let s : State := State.on; s.twUp 2), by decide⟩

theorem test_premises_TwinPairing_5 :
    ∃ (s : State), s.twinOn = true ∧ s.pairState = 1 :=
  ⟨(let s : State := State.on; s.twUp 1), by decide⟩

theorem test_premises_TwinPairing_6 :
    ∃ (s : State), s.twinOn = true ∧ s.pairState = 2 :=
  ⟨(let s : State := State.on; s.twUp 2), by decide⟩

theorem test_premises_TwinPairing_7 :
    ∃ (s : State), s.twinOn = true ∧ (s.pairState = 3 ∨ s.pairState = 4) ∧ s.twin.keys = true :=
  ⟨(let s : State := State.on; s.twUp 3), by decide⟩

theorem test_premises_TwinPairing_8 :
    ∃ (s : State), s.twinOn = true ∧ s.pairState = 3 ∧ s.spareState = 0 ∧ s.fabOn = true :=
  ⟨(let s : State := State.on; (s.twUp 3).setF Blk.twin TWIN.SPARE_STAT_STATE 0), by decide⟩

theorem test_premises_TwinPairing_9 :
    ∃ (s : State), s.twinOn = true ∧ s.pairState = 4 ∧ s.f Blk.twin TWIN.HB_CTL_ADRIFT_LIMIT ≠ 0 :=
  ⟨(let s : State := State.on; (s.twUp 4).setF Blk.twin TWIN.HB_CTL_ADRIFT_LIMIT 7), by decide⟩

theorem test_premises_TwinPairing_10 :
    ∃ (s : State) (id : BitVec 128), s.twinOn = true ∧ s.expected id.toNat = true ∧ (s.fuse.lifecycle = 1 ∨ s.fuse.lifecycle =
    2) ∧ s.pairState = 0 ∧ s.fb Blk.twin TWIN.PAIR_CTL_LISTEN = true :=
  ⟨(let s : State := State.on; { ((s.twUp 0).setF Blk.twin TWIN.PAIR_CTL_LISTEN 1).setF Blk.twin TWIN.PAIR_CTL_EXPECT_EN 0 with fuse := { s.fuse with lifecycle := 1 } }),
    1, by decide⟩

theorem test_premises_TwinPairing_11 :
    ∃ (s : State) (id : BitVec 128) (ok : Bool), s.twinOn = true ∧ (ok = false ∨ s.expected id.toNat = false) :=
  ⟨(let s : State := State.on; s.twUp 1), 1, false, by decide⟩

theorem test_premises_TwinPairing_12 :
    ∃ (s : State) (id : BitVec 128), s.twinOn = true ∧ s.expected id.toNat = true ∧ (s.fuse.lifecycle = 1 ∨ s.fuse.lifecycle =
    2) ∧ s.pairState = 1 :=
  ⟨(let s : State := State.on; { (s.twUp 1).setF Blk.twin TWIN.PAIR_CTL_EXPECT_EN 0 with fuse := { s.fuse with lifecycle := 2 } }),
    1, by decide⟩

theorem test_premises_TwinPairing_13 :
    ∃ (s : State) (id : BitVec 128) (ok : Bool), s.twinOn = true ∧ (ok = false ∨ s.expected id.toNat = false) :=
  ⟨(let s : State := State.on; s.twUp 1), 1, false, by decide⟩

theorem test_premises_TwinPairing_14 :
    ∃ (s : State) (a : MsgAuth), s.twinOn = true ∧ s.pairState = 2 ∧ s.twin.keys = true ∧ a.tagOk = true ∧ s.twin.rxCnt = 0 ∧
    a.low = 1 :=
  ⟨(let s : State := State.on; (s.twUp 2).modTwin fun t => { t with rxCnt := 0 }), ⟨1, true⟩, by decide⟩

theorem test_premises_TwinPairing_15 :
    ∃ (s : State) (a : MsgAuth), s.twinOn = true ∧ (s.pairState ≠ 2 ∨ a.tagOk = false) :=
  ⟨(let s : State := State.on; s.twUp 3), ⟨1, true⟩, by decide⟩

theorem test_premises_TwinPairing_16 :
    ∃ (s : State) (a : MsgAuth), s.Accepts a ∧ s.twin.coordDid = none :=
  ⟨(let s : State := State.on; (s.twUp 3).modTwin fun t => { t with coordDid := none }),
    (let a : MsgAuth := ⟨1, true⟩; { a with tagOk := true }), by decide⟩

theorem test_premises_TwinPairing_17 :
    ∃ (s : State) (a : MsgAuth), s.twinOn = true ∧ a.tagOk = false :=
  ⟨(let s : State := State.on; s.twUp 3), ⟨1, false⟩, by decide⟩

theorem test_premises_TwinPairing_18 :
    ∃ (s : State) (a : MsgAuth), s.twinOn = true ∧ s.twin.keys = true ∧ s.fb Blk.twin TWIN.PAIR_STAT_KEYS_LOST = false ∧
    s.pairState = 4 ∧ a.tagOk = true :=
  ⟨(let s : State := State.on; s.twUp 4), (let a : MsgAuth := ⟨1, true⟩; { a with tagOk := true }), by decide⟩

theorem test_premises_TwinPairing_19 :
    ∃ (s : State) (a : MsgAuth), s.Accepts a :=
  ⟨(let s : State := State.on; s.twUp 3), (let a : MsgAuth := ⟨1, true⟩; { a with tagOk := true }), by decide⟩

theorem test_premises_TwinPairing_20 :
    ∃ (s : State) (a : MsgAuth), s.twinOn = true ∧ s.twin.keys = true ∧ s.fb Blk.twin TWIN.PAIR_STAT_KEYS_LOST = false ∧
    s.pairState = 5 ∧ a.tagOk = true :=
  ⟨(let s : State := State.on; s.twUp 5), (let a : MsgAuth := ⟨1, true⟩; { a with tagOk := true }), by decide⟩

theorem test_premises_TwinPairing_21 :
    ∃ (s : State), s.twinOn = true ∧ s.pairState = 5 ∧ s.twin.released = 1 :=
  ⟨(let s : State := State.on; (s.twUp 5).modTwin fun t => { t with released := 1 }), by decide⟩

theorem test_premises_TwinPairing_22 :
    ∃ (s : State), s.twinOn = true ∧ s.pairState = 5 ∧ 2 ≤ s.twin.released :=
  ⟨(let s : State := State.on; (s.twUp 5).modTwin fun t => { t with released := 2 }), by decide⟩

theorem test_premises_TwinPosition_0 :
    ∃ (s : State) (q : Requester), s.Serves q Blk.twin true ∧ s.twinOn = true ∧ s.pairState = 3 :=
  ⟨(let s : State := State.on; s.twUp 3), .pcie, by decide⟩

theorem test_premises_TwinPosition_1 :
    ∃ (s : State) (q : Requester), s.Serves q Blk.twin true ∧ s.pairState ≠ 3 :=
  ⟨(let s : State := State.on; s.twUp 4), .pcie, by decide⟩

theorem test_premises_TwinPosition_2 :
    ∃ (s : State) (a : MsgAuth), s.Accepts a :=
  ⟨(let s : State := State.on; s.twUp 3), (let a : MsgAuth := ⟨1, true⟩; { a with tagOk := true }), by decide⟩

theorem test_premises_TwinPosition_3 :
    ∃ (s : State) (a : MsgAuth) (t1 : BitVec 64) (t2 : BitVec 64) (t3 : BitVec 64) (t4 : BitVec 64), s.Accepts a ∧ s.fb Blk.twin
    TWIN.RANGE_STAT_BUSY = true ∧ s.twin.posWantsRange = false ∧ t2.toNat ≤ t3.toNat ∧ t1.toNat + (t3.toNat - t2.toNat) ≤
    t4.toNat :=
  ⟨(let s : State := State.on; ((s.twUp 3).setF Blk.twin TWIN.RANGE_STAT_BUSY 1).modTwin fun t => { t with posWantsRange := false }),
    (let a : MsgAuth := ⟨1, true⟩; { a with tagOk := true }), (let t1 : BitVec 64 := 1; t1 % 1000),
    (let t2 : BitVec 64 := 1; t2 % 1000), (let t2 : BitVec 64 := 1; let t2 : BitVec 64 := t2 % 1000; t2 + 50),
    (let t1 : BitVec 64 := 1; let t1 : BitVec 64 := t1 % 1000; t1 + 1000), by decide⟩

theorem test_premises_TwinPosition_4 :
    ∃ (s : State) (q : Requester), s.Serves q Blk.twin true ∧ s.twinOn = true ∧ s.pairState = 3 ∧ s.fb Blk.twin
    TWIN.RANGE_STAT_VALID = false ∧ s.fb Blk.twin TWIN.RANGE_STAT_BUSY = false :=
  ⟨(let s : State := State.on; ((s.twUp 3).setF Blk.twin TWIN.RANGE_STAT_VALID 0).setF Blk.twin TWIN.RANGE_STAT_BUSY 0),
    .pcie, by decide⟩

theorem test_premises_TwinPosition_5 :
    ∃ (s : State) (q : Requester), s.Serves q Blk.twin true ∧ s.twinOn = true ∧ s.pairState = 3 ∧ s.fb Blk.twin
    TWIN.RANGE_STAT_VALID = true ∧ s.posEntries (List.range 64) = [] :=
  ⟨(let s : State := State.on; (s.twUp 3).setF Blk.twin TWIN.RANGE_STAT_VALID 1), .pcie, by decide⟩

theorem test_premises_TwinPosition_6 :
    ∃ (s : State), s.fb Blk.twin TWIN.POS_CTL_AUTO = true ∧ s.twinOn = true ∧ s.pairState = 3 ∧ s.fb Blk.twin
    TWIN.RANGE_STAT_VALID = false ∧ s.fb Blk.twin TWIN.RANGE_STAT_BUSY = false :=
  ⟨(let s : State := State.on; (((s.twUp 3).setF Blk.twin TWIN.RANGE_STAT_VALID 0).setF Blk.twin TWIN.RANGE_STAT_BUSY 0).setF Blk.twin TWIN.POS_CTL_AUTO 1),
    by decide⟩

theorem test_premises_TwinPosition_7 :
    ∃ (s : State), s.fb Blk.twin TWIN.POS_CTL_AUTO = false :=
  ⟨(let s : State := State.on; s.setF Blk.twin TWIN.POS_CTL_AUTO 0), by decide⟩

theorem test_premises_TwinPosition_8 :
    ∃ (s : State) (x : PosEntry) (a : MsgAuth) (l : List PosEntry), s.Accepts a ∧ l = [x] ∧ s.posJudge x = none ∧ s.fb Blk.twin
    TWIN.RANGE_STAT_VALID = true :=
  ⟨(let s : State := State.on; (s.twUp 3).setF Blk.twin TWIN.RANGE_STAT_VALID 1), ⟨1, 1, 1, 1⟩,
    (let a : MsgAuth := ⟨1, true⟩; { a with tagOk := true }), [⟨1, 1, 1, 1⟩], by decide⟩

theorem test_premises_TwinPosition_9 :
    ∃ (s : State) (x : PosEntry) (q : Nat) (k : Int) (r : Int) (a : MsgAuth) (l : List PosEntry), s.Accepts a ∧ l = [x] ∧ q < 64
    ∧ s.posJudge x = some (q, k, r) ∧ s.fb Blk.twin TWIN.RANGE_STAT_VALID = true :=
  ⟨(let x : PosEntry := ⟨1, 1, 5, 1000⟩; let q : Nat := 0; let s : State := State.on; (((((s.twUp 3).setF Blk.twin TWIN.RANGE_STAT_VALID 1).setF Blk.twin (TWIN.PEER_EN q) 1).setF Blk.twin (TWIN.PEER_TWIN_PORT q) x.port).setF (Blk.port q) PORT.AM_PERIOD_P x.period).setF (Blk.port q) PORT.ALIGN_STAT_RX_VALID 1),
    ⟨1, 1, 5, 1000⟩, 0, 0, -5, (let a : MsgAuth := ⟨1, true⟩; { a with tagOk := true }), [⟨1, 1, 5, 1000⟩], by decide⟩

theorem test_premises_TwinPosition_10 :
    ∃ (s : State) (a : MsgAuth), s.Accepts a ∧ s.twin.posWait = [] :=
  ⟨(let s : State := State.on; (s.twUp 3).modTwin fun t => { t with posWait := [] }),
    (let a : MsgAuth := ⟨1, true⟩; { a with tagOk := true }), by decide⟩

theorem test_premises_TwinPosition_11 :
    ∃ (s : State) (q : Nat) (g : Nat) (x : PosAck) (a : MsgAuth) (l : List PosAck), s.Accepts a ∧ s.twin.posWait = [(q, g)] ∧ l
    = [x] ∧ x.port.val = q ∧ (s.portPos q false).valid = true ∧ (s.portPos q false).gen = g ∧ s.twin.posBad = false :=
  ⟨(let q : Nat := 1; let g : Nat := 0; let s : State := State.on; ((s.twUp 3).setF (Blk.port q) PORT.ALIGN_STAT_TX_VALID 1).modTwin fun t => { t with posWait := [(q, g)], posBad := false }),
    1, 0, ⟨1, 3, 4⟩, (let a : MsgAuth := ⟨1, true⟩; { a with tagOk := true }), [⟨1, 3, 4⟩], by decide⟩

theorem test_premises_TwinPosition_12 :
    ∃ (s : State) (q : Requester), s.Serves q Blk.twin true ∧ s.twinOn = true ∧ s.pairState = 3 :=
  ⟨(let s : State := State.on; s.twUp 3), .pcie, by decide⟩

theorem test_premises_TwinPosition_13 :
    ∃ (s : State) (a : MsgAuth), s.Accepts a :=
  ⟨(let s : State := State.on; s.twUp 3), (let a : MsgAuth := ⟨1, true⟩; { a with tagOk := true }), by decide⟩

theorem test_premises_TwinPosition_14 :
    ∃ (s : State) (a : MsgAuth), s.Accepts a :=
  ⟨(let s : State := State.on; s.twUp 3), (let a : MsgAuth := ⟨1, true⟩; { a with tagOk := true }), by decide⟩

theorem test_premises_TwinCoordination_0 :
    ∃ (s : State) (q : Requester), s.Serves q Blk.twin true ∧ s.twinOn = true ∧ s.coordOpen = false ∧ s.f Blk.twin
    TWIN.COORD_CTL_ACTION ≠ 3 ∧ s.pairState ≠ 3 :=
  ⟨(let s : State := State.on; ((s.twUp 4).setF Blk.twin TWIN.COORD_STAT_PHASE 0).setF Blk.twin TWIN.COORD_CTL_ACTION 1),
    .pcie, by decide⟩

theorem test_premises_TwinCoordination_1 :
    ∃ (s : State) (q : Requester), s.Serves q Blk.twin true ∧ s.twinOn = true ∧ s.coordOpen = false ∧ s.f Blk.twin
    TWIN.COORD_CTL_ACTION = 0 ∧ s.pairState = 3 ∧ (s.relOf (s.f Blk.twin TWIN.COORD_CTL_PORT) false).valid = true ∧
    (s.portPos (s.f Blk.twin TWIN.COORD_CTL_PORT) false).cw + s.msCodewords (s.f Blk.twin TWIN.COORD_CTL_PORT) (2 * s.f
    Blk.twin TWIN.COORD_TAG_CUTOFF) ≤ (s.reg Blk.twin TWIN.COORD_N_LO).toNat + (s.reg Blk.twin TWIN.COORD_N_HI).toNat * 2 ^
    32 :=
  ⟨(let s : State := State.on; (((((s.twUp 3).setF Blk.twin TWIN.COORD_STAT_PHASE 0).setF Blk.twin TWIN.COORD_CTL_ACTION 0).setF Blk.twin TWIN.COORD_CTL_PORT 2).setReg Blk.twin TWIN.COORD_N_HI 0xFFFFFFFF).modTwin fun t => { t with rel := [(4, { valid := true })] }),
    .pcie, by decide⟩

theorem test_premises_TwinCoordination_2 :
    ∃ (s : State) (q : Requester), s.Serves q Blk.twin true ∧ s.twinOn = true ∧ s.coordOpen = true ∧ s.spareState = 0 ∧ (s.se
    s.twin.coordSe).en = false :=
  ⟨(let s : State := State.on; { ((s.twUp 3).setF Blk.twin TWIN.COORD_STAT_PHASE 2).setF Blk.twin TWIN.SPARE_STAT_STATE 0 with sched := { s.sched with entries := [] } }),
    .pcie, by decide⟩

theorem test_premises_TwinCoordination_3 :
    ∃ (s : State) (a : MsgAuth), s.Accepts a ∧ s.coordOpen = true :=
  ⟨(let s : State := State.on; (s.twUp 3).setF Blk.twin TWIN.COORD_STAT_PHASE 2),
    (let a : MsgAuth := ⟨1, true⟩; { a with tagOk := true }), by decide⟩

theorem test_premises_TwinCoordination_4 :
    ∃ (s : State) (a : MsgAuth) (tag : BitVec 16), s.Accepts a ∧ s.coordOpen = false ∧ s.seWhere (fun e => e.twin && e.tag ==
    tag.toNat && e.state == 2) = [] :=
  ⟨(let s : State := State.on; { (s.twUp 3).setF Blk.twin TWIN.COORD_STAT_PHASE 5 with sched := { s.sched with entries := [] } }),
    (let a : MsgAuth := ⟨1, true⟩; { a with tagOk := true }), 1, by decide⟩

theorem test_premises_TwinCoordination_5 :
    ∃ (s : State) (a : MsgAuth) (tag : BitVec 16), s.Accepts a ∧ s.f Blk.twin TWIN.COORD_STAT_PHASE = 1 ∧ s.fb Blk.twin
    TWIN.COORD_STAT_RESPONDER = false ∧ tag.toNat = s.twin.coordTag ∧ (s.se s.twin.coordSe).en = false :=
  ⟨(let tag : BitVec 16 := 1; let s : State := State.on; { (((s.twUp 3).setF Blk.twin TWIN.COORD_STAT_PHASE 1).setF Blk.twin TWIN.COORD_STAT_RESPONDER 0).modTwin fun t => { t with coordTag := tag.toNat } with sched := { s.sched with entries := [] } }),
    (let a : MsgAuth := ⟨1, true⟩; { a with tagOk := true }), 1, by decide⟩

theorem test_premises_TwinCoordination_6 :
    ∃ (s : State) (a : MsgAuth) (tag : BitVec 16), s.Accepts a ∧ (s.f Blk.twin TWIN.COORD_STAT_PHASE ≠ 1 ∨ tag.toNat ≠
    s.twin.coordTag) :=
  ⟨(let s : State := State.on; (s.twUp 3).setF Blk.twin TWIN.COORD_STAT_PHASE 3),
    (let a : MsgAuth := ⟨1, true⟩; { a with tagOk := true }), 1, by decide⟩

theorem test_premises_TwinCoordination_7 :
    ∃ (s : State) (a : MsgAuth) (tag : BitVec 16), s.Accepts a ∧ s.f Blk.twin TWIN.COORD_STAT_PHASE = 1 ∧ tag.toNat =
    s.twin.coordTag ∧ (s.se s.twin.coordSe).en = false ∧ s.spareState = 0 :=
  ⟨(let tag : BitVec 16 := 1; let s : State := State.on; { (((s.twUp 3).setF Blk.twin TWIN.COORD_STAT_PHASE 1).setF Blk.twin TWIN.SPARE_STAT_STATE 0).modTwin fun t => { t with coordTag := tag.toNat } with sched := { s.sched with entries := [] } }),
    (let a : MsgAuth := ⟨1, true⟩; { a with tagOk := true }), 1, by decide⟩

theorem test_premises_TwinCoordination_8 :
    ∃ (s : State) (a : MsgAuth), s.Accepts a ∧ s.f Blk.twin TWIN.COORD_STAT_PHASE = 2 ∧ s.fb Blk.twin TWIN.COORD_STAT_RESPONDER
    = true :=
  ⟨(let tag : BitVec 16 := 1; let s : State := State.on; (((s.twUp 3).setF Blk.twin TWIN.COORD_STAT_PHASE 2).setF Blk.twin TWIN.COORD_STAT_RESPONDER 1).modTwin fun t => { t with coordTag := tag.toNat }),
    (let a : MsgAuth := ⟨1, true⟩; { a with tagOk := true }), by decide⟩

theorem test_premises_TwinCoordination_9 :
    ∃ (s : State) (a : MsgAuth) (tag : BitVec 16), s.Accepts a ∧ s.coordOpen = true ∧ tag.toNat = s.twin.coordTag ∧ (s.se
    s.twin.coordSe).en = false ∧ s.spareState = 0 :=
  ⟨(let tag : BitVec 16 := 1; let s : State := State.on; { (((s.twUp 3).setF Blk.twin TWIN.COORD_STAT_PHASE 3).setF Blk.twin TWIN.SPARE_STAT_STATE 0).modTwin fun t => { t with coordTag := tag.toNat } with sched := { s.sched with entries := [] } }),
    (let a : MsgAuth := ⟨1, true⟩; { a with tagOk := true }), 1, by decide⟩

theorem test_premises_TwinCoordination_10 :
    ∃ (s : State), s.f Blk.twin TWIN.COORD_STAT_PHASE = 2 ∧ s.fb Blk.twin TWIN.COORD_STAT_RESPONDER = true ∧ (s.se
    s.twin.coordSe).en = false ∧ s.spareState = 0 :=
  ⟨(let s : State := State.on; { (((s.twUp 3).setF Blk.twin TWIN.COORD_STAT_PHASE 2).setF Blk.twin TWIN.COORD_STAT_RESPONDER 1).setF Blk.twin TWIN.SPARE_STAT_STATE 0 with sched := { s.sched with entries := [] } }),
    by decide⟩

theorem test_premises_TwinCoordination_11 :
    ∃ (s : State), s.f Blk.twin TWIN.COORD_STAT_PHASE = 3 :=
  ⟨(let s : State := State.on; (s.twUp 3).setF Blk.twin TWIN.COORD_STAT_PHASE 3), by decide⟩

theorem test_premises_LaneSparing_0 :
    ∃ (s : State) (q : Requester), s.Serves q Blk.twin true ∧ s.twinOn = true ∧ s.pairState ≠ 3 :=
  ⟨(let s : State := State.on; s.twUp 4), .pcie, by decide⟩

theorem test_premises_LaneSparing_1 :
    ∃ (s : State) (q : Requester) (v : Word), s.Serves q Blk.twin true ∧ s.twinOn = true ∧ s.spareTests (TWIN.SPARE_CTL_LANE.get
    v) = 0 :=
  ⟨(let v : Word := 1; let s : State := State.on; (((((((((s.engUp 16).twUp 3).setF Blk.twin TWIN.SPARE_STAT_STATE 0).setF Blk.twin TWIN.SPARE_STAT_SUBST 0).setF (Blk.llane 16) LLANE.TX_CTL_TX_EN 1).setF (Blk.llane 16) LLANE.RX_CTL_RX_EN 1).setReg (Blk.llane 16) LLANE.RX_CTL (((s.reg (Blk.llane (TWIN.SPARE_CTL_LANE.get v)) LLANE.RX_CTL) &&& 0xFFFFFFFE) ||| 1)).setReg (Blk.llane 16) LLANE.TX_CTL ((((s.reg (Blk.llane (TWIN.SPARE_CTL_LANE.get v)) LLANE.TX_CTL)) &&& 0xFFFFFFFE) ||| 1)).setReg (Blk.port 0) 0 0).modTwin fun t => { t with rel := (List.range 128).map fun i => (i, { valid := true }) }),
    .pcie, 1, by decide⟩

theorem test_premises_LaneSparing_2 :
    ∃ (s : State) (q : Requester), s.Serves q Blk.twin true ∧ s.twinOn = true ∧ s.spareState ≠ 3 ∧ s.spareState ≠ 7 :=
  ⟨(let s : State := State.on; (s.twUp 3).setF Blk.twin TWIN.SPARE_STAT_STATE 2), .pcie, by decide⟩

theorem test_premises_LaneSparing_3 :
    ∃ (s : State) (q : Requester), s.Serves q Blk.twin true ∧ s.twinOn = true ∧ s.spareState = 3 ∧ s.fb Blk.twin
    TWIN.SPARE_STAT_TWIN_READY = true ∧ s.peerId ≤ s.ownId :=
  ⟨(let s : State := State.on; ((((((s.twUp 3).setF Blk.twin TWIN.SPARE_STAT_STATE 3).setF Blk.twin TWIN.SPARE_STAT_TWIN_READY 1).setReg Blk.twin (TWIN.PEER_ID 0) 0).setReg Blk.twin (TWIN.PEER_ID 1) 0).setReg Blk.twin (TWIN.PEER_ID 2) 0).setReg Blk.twin (TWIN.PEER_ID 3) 0),
    .pcie, by decide⟩

theorem test_premises_LaneSparing_4 :
    ∃ (s : State) (q : Requester), s.Serves q Blk.twin true ∧ s.twinOn = true ∧ s.spareState = 5 ∧ s.returnReady s.spareLane =
    false :=
  ⟨(let s : State := State.on; ((s.twUp 3).setF Blk.twin TWIN.SPARE_STAT_STATE 5).setF (Blk.llane s.spareLane) LLANE.RX_CTL_RX_EN 0),
    .pcie, by decide⟩

theorem test_premises_LaneSparing_5 :
    ∃ (s : State) (q : Requester), s.Serves q Blk.twin true ∧ s.twinOn = true ∧ s.spareState = 5 ∧ s.spareLane = 3 ∧
    s.returnReady 3 = true :=
  ⟨(let s : State := State.on; (((((s.engUp 3).twUp 3).setF Blk.twin TWIN.SPARE_STAT_STATE 5).setF Blk.twin TWIN.SPARE_STAT_LANE 3).setF (Blk.llane 3) LLANE.RX_CTL_RX_EN 1).setF (Blk.llane 3) LLANE.TX_CTL_TX_EN 1),
    .pcie, by decide⟩

theorem test_premises_LaneSparing_6 :
    ∃ (s : State) (q : Requester), s.Serves q Blk.twin true ∧ s.twinOn = true ∧ s.spareState = 2 :=
  ⟨(let s : State := State.on; (s.twUp 3).setF Blk.twin TWIN.SPARE_STAT_STATE 2), .pcie, by decide⟩

theorem test_premises_LaneSparing_7 :
    ∃ (s : State) (q : Requester), s.Serves q Blk.twin true ∧ s.twinOn = true ∧ (s.spareState ≠ 0 ∨ s.fb Blk.twin
    TWIN.SPARE_STAT_SUBST = true) :=
  ⟨(let s : State := State.on; (s.twUp 3).setF Blk.twin TWIN.SPARE_STAT_SUBST 1), .pcie, by decide⟩

theorem test_premises_LaneSparing_8 :
    ∃ (s : State) (q : Requester) (v : Word), s.Serves q Blk.twin true ∧ s.twinOn = true ∧ s.spareState = 0 ∧ s.fb Blk.twin
    TWIN.SPARE_STAT_SUBST = false ∧ ((List.range 64).any fun p => s.portEnabled p && (s.portLineLanes p).contains
    (TWIN.SPARE_CTL_LANE.get v)) = false :=
  ⟨(let s : State := State.on; ((s.twUp 3).setF Blk.twin TWIN.SPARE_STAT_SUBST 0).setF Blk.twin TWIN.SPARE_STAT_STATE 0),
    .pcie, 1, by decide⟩

theorem test_premises_LaneSparing_9 :
    ∃ (s : State) (q : Requester), s.Serves q Blk.twin true ∧ s.twinOn = true ∧ s.spareState ≠ 2 ∧ s.spareState ≠ 6 :=
  ⟨(let s : State := State.on; (s.twUp 3).setF Blk.twin TWIN.SPARE_STAT_STATE 3), .pcie, by decide⟩

theorem test_premises_LaneSparing_10 :
    ∃ (s : State) (a : MsgAuth) (ret : Bool), s.Accepts a ∧ ret = true ∧ s.spareState ≠ 5 :=
  ⟨(let s : State := State.on; (s.twUp 3).setF Blk.twin TWIN.SPARE_STAT_STATE 2),
    (let a : MsgAuth := ⟨1, true⟩; { a with tagOk := true }), true, by decide⟩

theorem test_premises_LaneSparing_11 :
    ∃ (s : State) (a : MsgAuth) (lane : Fin 16) (ret : Bool), s.Accepts a ∧ ret = false ∧ s.spareState = 2 ∧ s.laneRelated lane
    = true :=
  ⟨(let s : State := State.on; ((s.twUp 3).setF Blk.twin TWIN.SPARE_STAT_STATE 2).modTwin fun t => { t with rel := (List.range 128).map fun i => (i, { valid := true }) }),
    (let a : MsgAuth := ⟨1, true⟩; { a with tagOk := true }), 1, false, by decide⟩

theorem test_premises_LaneSparing_12 :
    ∃ (s : State) (a : MsgAuth) (reason : Fin 16), s.Accepts a ∧ reason = 0 ∧ s.spareState = 1 :=
  ⟨(let s : State := State.on; (s.twUp 3).setF Blk.twin TWIN.SPARE_STAT_STATE 1),
    (let a : MsgAuth := ⟨1, true⟩; { a with tagOk := true }), 0, by decide⟩

theorem test_premises_LaneSparing_13 :
    ∃ (s : State) (a : MsgAuth) (reason : Fin 16), s.Accepts a ∧ reason ≠ 0 ∧ s.spareState = 1 :=
  ⟨(let s : State := State.on; (s.twUp 3).setF Blk.twin TWIN.SPARE_STAT_STATE 1),
    (let a : MsgAuth := ⟨1, true⟩; { a with tagOk := true }),
    (let reason : Fin 16 := 1; if reason = 0 then 6 else reason), by decide⟩

theorem test_premises_LaneSparing_14 :
    ∃ (s : State) (a : MsgAuth) (x : SpareNote), s.Accepts a ∧ x = .skipped :=
  ⟨(let s : State := State.on; (s.twUp 3).setF Blk.twin TWIN.SPARE_STAT_TWIN_READY 1),
    (let a : MsgAuth := ⟨1, true⟩; { a with tagOk := true }), .skipped, by decide⟩

theorem test_premises_LaneSparing_15 :
    ∃ (s : State) (a : MsgAuth) (x : SpareNote), s.Accepts a ∧ x = .ready ∧ s.spareState = 2 :=
  ⟨(let s : State := State.on; (s.twUp 3).setF Blk.twin TWIN.SPARE_STAT_STATE 2),
    (let a : MsgAuth := ⟨1, true⟩; { a with tagOk := true }), .ready, by decide⟩

theorem test_premises_LaneSparing_16 :
    ∃ (s : State) (a : MsgAuth) (x : SpareNote), s.Accepts a ∧ x = .switched ∧ s.spareState = 8 ∧ s.fb Blk.twin
    TWIN.SPARE_STAT_SUBST = false :=
  ⟨(let s : State := State.on; ((s.twUp 3).setF Blk.twin TWIN.SPARE_STAT_STATE 8).setF Blk.twin TWIN.SPARE_STAT_SUBST 0),
    (let a : MsgAuth := ⟨1, true⟩; { a with tagOk := true }), .switched, by decide⟩

theorem test_premises_LaneSparing_17 :
    ∃ (s : State), s.twinOn = true ∧ s.spareState = 3 :=
  ⟨(let s : State := State.on; (s.twUp 3).setF Blk.twin TWIN.SPARE_STAT_STATE 3), by decide⟩

theorem test_premises_LaneSparing_18 :
    ∃ (s : State) (delta : BitVec 24), s.twinOn = true ∧ s.spareState = 2 ∧ s.inWindow delta.toInt = true ∧ s.fb Blk.twin
    TWIN.SPARE_STAT_TWIN_READY = false :=
  ⟨(let s : State := State.on; ((((s.twUp 3).setF Blk.twin TWIN.SPARE_STAT_STATE 2).setF Blk.twin TWIN.SPARE_STAT_TWIN_READY 0).setF Blk.twin TWIN.SPARE_RSV_RSV 100)),
    0, by decide⟩

theorem test_premises_LaneSparing_20 :
    ∃ (s : State), s.twinOn = true ∧ s.spareState = 2 :=
  ⟨(let s : State := State.on; (s.twUp 3).setF Blk.twin TWIN.SPARE_STAT_STATE 2), by decide⟩

theorem test_premises_LaneSparing_21 :
    ∃ (s : State), (s.fb Blk.twin TWIN.EMERG_CTL_EN = false ∨ s.fb Blk.twin TWIN.SPARE_STAT_SUBST = true) :=
  ⟨(let s : State := State.on; s.setF Blk.twin TWIN.EMERG_CTL_EN 0), by decide⟩

theorem test_premises_LaneSparing_22 :
    ∃ (s : State) (lane : Fin 16), s.twinOn = true ∧ s.fb Blk.twin TWIN.EMERG_CTL_EN = true ∧ s.fb Blk.twin
    TWIN.SPARE_STAT_SUBST = false ∧ s.fecLocked lane = false ∧ s.fecLocked 16 = false ∧ s.spareState = 0 ∧ s.twin.emerg ≠
    some lane.val :=
  ⟨(let s : State := State.on; ((((s.twUp 3).setF Blk.twin TWIN.EMERG_CTL_EN 1).setF Blk.twin TWIN.SPARE_STAT_SUBST 0).setF Blk.twin TWIN.SPARE_STAT_STATE 0).modTwin fun t => { t with emerg := none }),
    1, by decide⟩

theorem test_premises_LaneSparing_23 :
    ∃ (s : State), (s.fb Blk.twin TWIN.EMERG_CTL_ANSWER_EN = false ∨ s.fb Blk.twin TWIN.SPARE_STAT_SUBST = true) :=
  ⟨(let s : State := State.on; s.setF Blk.twin TWIN.EMERG_CTL_ANSWER_EN 0), by decide⟩

theorem test_premises_LaneSparing_24 :
    ∃ (s : State), s.twinOn = true ∧ s.fb Blk.twin TWIN.EMERG_CTL_ANSWER_EN = true ∧ s.fb Blk.twin TWIN.SPARE_STAT_SUBST = false
    ∧ s.fecLocked 16 = true ∧ s.fb (Blk.llane 16) LLANE.RX_STAT_SIG_DET = true :=
  ⟨(let s : State := State.on; ((((((s.twUp 4).setF Blk.twin TWIN.EMERG_CTL_ANSWER_EN 1).setF Blk.twin TWIN.SPARE_STAT_SUBST 0).setF (Blk.llane 16) LLANE.RX_STAT_SIG_DET 1).setF (Blk.llane 16) LLANE.INNER_STAT_LOCK 1).setF (Blk.llane 16) LLANE.RX_CTL_RX_EN 1).setF Blk.fec (FEC.LPC_STAT_LOCK 16) 1),
    by decide⟩

theorem test_premises_UnmappedOffsets_1 :
    ∃ (s : State) (q : Requester) (addr : BitVec 24) (be : BitVec 4), s.dbgAdmits q true = true ∧ s.domReady Dom.fab = true ∧ be
    = 15 ∧ addr.toNat % 4 = 0 ∧ bar0Target addr.toNat = .unmapped :=
  ⟨State.on, .pcie, (let addr : BitVec 24 := 1; BitVec.ofNat 24 (0xFF0800 + 4 * (addr.toNat % 200))), 15, by decide⟩

theorem test_premises_DeniedSram_2 :
    ∃ (s : State) (o : Nat) (q : Requester) (bar : Bar) (off : BitVec 34) (len : Nat) (flips : List Flip), bar = .bar2 ∧
    s.memReach q = true ∧ 0 < len ∧ s.inBar .bar2 off.toNat len = true ∧ s.bar2Judge q off.toNat len false = .denied o ∧
    flips = [] :=
  ⟨(let s : State := State.on; { s with domOn := 0xFFFFFF, domBusy := 0, held := false }), 0x2F04000, .pcie, .bar2,
    0x2F04000, 4, [], by decide⟩

theorem test_premises_DeniedSram_3 :
    ∃ (s : State) (o : Nat) (q : Requester) (bar : Bar) (off : BitVec 34) (data : List Byte), bar = .bar2 ∧ s.memReach q = true
    ∧ data ≠ [] ∧ s.inBar .bar2 off.toNat data.length = true ∧ s.bar2Judge q off.toNat data.length true = .denied o :=
  ⟨(let s : State := State.on; { s with domOn := 0xFFFFFF, domBusy := 0, held := false }), 0x2C00004, .pcie, .bar2,
    0x2C00005, [1], by decide⟩

theorem test_premises_DeniedSram_4 :
    ∃ (s : State) (o : Nat) (q : Requester) (bar : Bar) (off : BitVec 34) (data : List Byte), bar = .bar2 ∧ s.memReach q = true
    ∧ data ≠ [] ∧ s.inBar .bar2 off.toNat data.length = true ∧ s.bar2Judge q off.toNat data.length true = .off o :=
  ⟨(let s : State := State.on; { s with domOn := 0x1F, domBusy := 0, held := false }), 0x2F08004, .keeper, .bar2,
    0x2F08005, [1], by decide⟩

theorem test_premises_LockstepRestart_0 :
    ∃ (s : State), s.domReady Dom.kpr = true :=
  ⟨State.on, by decide⟩

theorem test_premises_LockstepRestart_1 :
    ∃ (s : State) (fw : Option (List FwImage)), s.domReady Dom.kpr = true ∧ s.f Blk.kpr KPR.KSTAT_STAGE = 0 ∧ s.pwr.exitStep = 0
    ∧ fw = none :=
  ⟨(let s : State := State.on; { s.setF Blk.kpr KPR.KSTAT_STAGE 0 with pwr := { s.pwr with exitStep := 0 } }), none,
    by decide⟩

theorem test_premises_TimeBaseStops_0 :
    ∃ (s : State) (q : Requester) (n : Fin 4) (v : Word), s.Serves q Blk.time true ∧ s.fb Blk.time (TIME.TB_CTL_EN n) = true ∧
    (TIME.TB_CTL_EN n).get v = 0 ∧ (TIME.TB_CTL_STEP_GO n).get v = 0 :=
  ⟨(let n : Fin 4 := 1; let s : State := State.on; s.setF Blk.time (TIME.TB_CTL_EN n) 1), .pcie, 1,
    (let n : Fin 4 := 1; let v : Word := 1; (TIME.TB_CTL_EN n).put ((TIME.TB_CTL_STEP_GO n).put v 0) 0), by decide⟩

theorem test_premises_TimeBaseStops_2 :
    ∃ (s : State) (q : Requester) (n : Fin 4) (v : Word), s.Serves q Blk.time true ∧ s.fb Blk.time (TIME.TB_CTL_EN n) = false ∧
    (TIME.TB_CTL_EN n).get v = 1 ∧ (TIME.TB_CTL_STEP_CANCEL n).get v = 0 ∧ (TIME.TB_CTL_STEP_GO n).get v = 0 :=
  ⟨(let n : Fin 4 := 1; let s : State := State.on; s.setF Blk.time (TIME.TB_CTL_EN n) 0), .pcie, 1,
    (let n : Fin 4 := 1; let v : Word := 1; (TIME.TB_CTL_EN n).put ((TIME.TB_CTL_STEP_CANCEL n).put ((TIME.TB_CTL_STEP_GO n).put v 0) 0) 1),
    by decide⟩

theorem test_premises_StagedWrites_0 :
    ∃ (s : State) (off : Nat) (q : Requester) (b : Fin 179), s.Serves q b true ∧ hasStage (blkType b) = true ∧ s.staged b =
    false ∧ off < 4096 :=
  ⟨(let q : Requester := .pcie; let b : Fin 179 := (let q : Requester := .pcie; let b : Fin 179 := 1; if hasStage (blkType b) then b else (if q = .pcie then 26 else 115)); let s : State := State.on; s.setF b HDR.BLK_CTL_STAGE 0),
    (let off : Nat := 1; let q : Requester := .pcie; let b : Fin 179 := 1; let b : Fin 179 := if hasStage (blkType b) then b else (if q = .pcie then 26 else 115); (rwsOffs b).getD (off % (max 1 (rwsOffs b).length)) 0),
    .pcie,
    (let q : Requester := .pcie; let b : Fin 179 := 1; if hasStage (blkType b) then b else (if q = .pcie then 26 else 115)),
    by decide⟩

theorem test_premises_StagedWrites_1 :
    ∃ (s : State) (b : Nat) (off : Nat) (al : Nat) (q : Requester) (addr : BitVec 24) (be : BitVec 4), s.dbgAdmits q true = true
    ∧ be = 15 ∧ addr.toNat % 4 = 0 ∧ bar0Target addr.toNat = .reg b off al ∧ s.reach b = true ∧ s.staged b = true ∧ 0x30 ≤
    off :=
  ⟨(let b : Nat := 115; let s : State := State.on; (s.setF b HDR.BLK_CTL_STAGE 1)), 115, 0x100, 0, .pcie, 0x200100, 15,
    by decide⟩

theorem test_premises_StagedWrites_2 :
    ∃ (s : State) (p : Fin 64) (off : Nat) (q : Requester) (addr : BitVec 24) (be : BitVec 4), s.dbgAdmits q true = true ∧ be =
    15 ∧ addr.toNat % 4 = 0 ∧ bar0Target addr.toNat = .reg (Blk.port p) off 0 ∧ s.reach (Blk.port p) = true ∧ s.staged
    (Blk.port p) = true ∧ (off = PORT.PORT_CFG ∨ off = PORT.HOST_MAP ∨ off = PORT.LINE_MAP) :=
  ⟨(let p : Fin 64 := 0; let s : State := State.on; (s.setF (Blk.port p) HDR.BLK_CTL_STAGE 1)), 0, 0x100, .pcie,
    0x200100, 15, by decide⟩

theorem test_premises_GlbRegisters_0 :
    ∃ (s : State) (off : Nat) (al : Nat) (q : Requester) (addr : BitVec 24) (be : BitVec 4), s.dbgAdmits q true = true ∧ be = 15
    ∧ addr.toNat % 4 = 0 ∧ bar0Target addr.toNat = .reg Blk.glb off al ∧ s.reach Blk.glb = true ∧ 0x100 ≤ off ∧ off ≠
    GLB.INTN_MASK 0 ∧ off ≠ GLB.OFF_ACC_STAT ∧ SMap.get? s.latched (regKey Blk.glb off) = none :=
  ⟨(let s : State := State.on; { s with latched := [] }), 0x300, 0, .pcie, 0x300, 15, by decide⟩
end

section
/-! The offsets of BAR0 that no row of the map covers (R37): where the map ends, and what a refused write records. -/

namespace Sys2Proof.Machine

/-- The block windows end at window 191 (R36). -/
theorem blkOfWindow_eq_none {w : Nat} (h : 192 ≤ w) : blkOfWindow w = none := by
  unfold blkOfWindow
  repeat rw [if_neg (by omega)]

/-- Above the last block window no offset names a register, through an alias or directly (R36, R38). -/
theorem bar0Target_ne_reg {a : Nat} (h : 0x300000 ≤ a) (b off al : Nat) : bar0Target a ≠ .reg b off al := by
  unfold bar0Target
  simp only [blkOfWindow_eq_none (show 192 ≤ (a - a % 4) / 0x4000 by omega)]
  split
  · simp
  · split
    · simp
    · split
      · split <;> simp
      · simp

/-- Nothing follows the pending-bit array in its window (R36, R37). -/
theorem bar0Target_after_pba {a : Nat} (h : 0xFE1020 ≤ a) (h' : a < 0xFE4000) : bar0Target a = .unmapped := by
  unfold bar0Target
  simp only [blkOfWindow_eq_none (show 192 ≤ (a - a % 4) / 0x4000 by omega)]
  rw [if_neg (by omega), if_neg (by omega), if_neg (by omega)]

namespace State

@[simp] theorem heard_domReady (s : State) (q : Requester) (d : Nat) : (s.heard q).domReady d = s.domReady d :=
  of_heard (domReady · d) (fun _ => rfl) s q

/-- A read of an unmapped offset that the debug level admits answers 0 and does nothing else (R37). -/
theorem busRead_unmapped {s : State} {q : Requester} {a : Nat} (hd : s.dbgAdmits q false = true)
    (hu : bar0Target a = .unmapped) : s.busRead q a = (0, s) := by
  unfold busRead
  simp [hd, hu]

/-- A whole-word write of an unmapped offset that the debug level admits is only recorded (R37). -/
theorem busWrite_unmapped {s : State} {q : Requester} {a : Nat} (hd : s.dbgAdmits q true = true) (ha : a % 4 = 0)
    (hu : bar0Target a = .unmapped) (v : Word) :
    s.busWrite q a 15 v = (s.heard q).accErr q a GLB.STAT_UNMAPPED GLB.INT_UNMAPPED := by
  have hd' : (s.heard q).dbgAdmits q true = true := by rw [heard_dbgAdmits, hd]
  have hheard : (if q = .pcie then s.tlp 0 1 else s) = s.heard q := rfl
  unfold busWrite
  simp only [hheard]
  simp [hd', ha, hu]

/-! ### accErr: the record of a write that BAR0 does not take -/

section
variable {s : State} (hf : s.domReady Dom.fab = true) (q : Requester) (a i : Nat) (g : Fld)
include hf

/-- While PD_FAB is up the requester, the offset and the flag are recorded, and the source is raised. -/
theorem accErr_of_fab : s.accErr q a g i =
    ((s.setF Blk.glb GLB.STAT_SRC (reqCode q)).setReg Blk.glb GLB.ACC_ERR_ADDR (BitVec.ofNat 32 (a % 2 ^ 24))).flag Blk.glb g
      i := by
  unfold accErr; simp [hf]

theorem accErr_rest : (s.accErr q a g i).rest = s.rest := by
  rw [accErr_of_fab hf, flag_rest, setReg_rest, setF_rest]

variable {g} (hg : g.off = GLB.STAT)
include hg

theorem f_accErr_self (hfit : g.fits) (hw : 0 < g.w) : (s.accErr q a g i).f Blk.glb g = 1 := by
  rw [accErr_of_fab hf]
  exact f_flag_self _ (by rw [hg]; decide) (by rw [hg]; decide) (by rw [hg]; decide) hfit hw

/-- Of the offset the 24 bits of BAR0 are kept. -/
theorem reg_accErr_addr : (s.accErr q a g i).reg Blk.glb GLB.ACC_ERR_ADDR = BitVec.ofNat 32 (a % 2 ^ 24) := by
  rw [accErr_of_fab hf, flag, reg_raise_off _ (by decide) (by decide) (by decide), reg_setF_off _ (by rw [hg]; decide),
    reg_setReg_self]

theorem keepsRegs_accErr : s.KeepsRegs [Blk.glb] (s.accErr q a g i) := by
  rw [accErr_of_fab hf]
  have hglb : Blk.glb ∈ [Blk.glb] := List.mem_singleton_self _
  exact keepsRegs_trans (keepsRegs_setF s hglb (by decide) _)
    (keepsRegs_trans (keepsRegs_setReg _ hglb (by decide) _) (keepsRegs_flag _ hglb (by rw [hg]; decide) i))

/-- Of GLB only STAT, ACC_ERR_ADDR and the event time can change. -/
theorem keepsBlk_accErr :
    s.KeepsBlk Blk.glb [GLB.STAT, GLB.ACC_ERR_ADDR, HDR.EVT_TIME_LO, HDR.EVT_TIME_HI] (s.accErr q a g i) := by
  intro off hoff ho
  simp only [List.mem_cons, List.not_mem_nil, or_false, not_or] at hoff
  obtain ⟨hstat, haddr, hlo, hhi⟩ := hoff
  rw [accErr_of_fab hf, flag, reg_raise_off _ (Ne.symm hlo) (Ne.symm hhi) ho, reg_setF_off _ (by rw [hg]; exact Ne.symm hstat),
    reg_setReg_off _ (Ne.symm haddr), reg_setF_off _ (Ne.symm hstat)]

end

end State
end Sys2Proof.Machine

open Sys2Proof Sys2Proof.Machine Sys2Proof.Machine.State

/-- A BAR0 write by any requester of an unmapped offset, messages included (R37). -/
theorem Sys2Proof.Machine.State.regWrite_unmapped {s : State} {q : Requester} {addr : BitVec 24} (v : Word)
    (hd : s.dbgAdmits q true = true) (hf : s.domReady Dom.fab = true) (ha : addr.toNat % 4 = 0)
    (hu : bar0Target addr.toNat = .unmapped) : Gives (.regWrite q addr 15 v) s fun t => t.f Blk.glb GLB.STAT_UNMAPPED = 1 ∧
      t.reg Blk.glb GLB.ACC_ERR_ADDR = addr.setWidth 32 ∧ s.KeepsRegs [Blk.glb] t ∧
      s.KeepsBlk Blk.glb [GLB.STAT, GLB.ACC_ERR_ADDR, HDR.EVT_TIME_LO, HDR.EVT_TIME_HI] t ∧ s.KeepsUnits t := by
  have hh : (s.heard q).domReady Dom.fab = true := by rw [heard_domReady, hf]
  have hperf : Blk.perf ≠ Blk.glb := by decide
  refine gives_of (congrArg (finish s) (busWrite_unmapped hd ha hu v)) ⟨?_, ?_, ?_, ?_, ?_⟩
  · rw [f_sent _ _ hperf (by decide)]
    exact f_accErr_self hh _ _ _ rfl (by decide) (by decide)
  · rw [reg_sent _ _ hperf (by decide), reg_accErr_addr hh _ _ _ rfl, Nat.mod_eq_of_lt addr.isLt, BitVec.ofNat_toNat]
  · exact keepsRegs_trans (keepsRegs_heard _ s q)
      (keepsRegs_trans (keepsRegs_accErr hh _ _ _ rfl) (keepsRegs_sent _ _ _))
  · intro off hoff ho
    rw [reg_sent _ _ hperf ho, keepsBlk_accErr hh _ _ _ rfl off hoff ho, reg_heard _ _ hperf ho]
  · exact keepsUnits_trans (keepsUnits_heard s q)
      (keepsUnits_trans (keepsUnits_of_rest (accErr_rest hh _ _ _ _)) (keepsUnits_sent _ _))

/-- Settles O49: an unmapped read answers 0, an unmapped write is only recorded in GLB, and the windows of the MSI-X table, of
the pending-bit array and of the TB1608 registers lie above every block window. -/
theorem unmappedOffsets : Obligations.UnmappedOffsets := by
  unfold Obligations.UnmappedOffsets
  refine ⟨fun s q a hu hd => busRead_unmapped hd hu, ?_, ?_⟩
  · rintro s q addr be v hd hf rfl ha hu
    exact regWrite_unmapped v hd hf ha hu
  · intro a ha
    exact ⟨fun b off al => bar0Target_ne_reg (by omega) b off al, bar0Target_after_pba⟩
end

section
/-! A write while STAGE = 1 can change the words a block uses. A port checks its pairs again after every write of its
page (R50), and pair 2 of R217 also depends on the codec of the line lane, whose change checks enabled ports only. -/

namespace Sys2Proof.Machine

/-- The state to which the commands of `l` lead, one after the other; none where one of them stops. -/
def State.follow (s : State) : List Instr → Option State
  | [] => some s
  | c :: l => match exec c s with
    | .next t => t.follow l
    | _ => none

/-- The messages of a command do not change the words in use. -/
theorem State.usedReg_sent (old s : State) {b off : Nat} (h : Blk.perf ≠ b) (ho : off < 4096) :
    (sent old s).usedReg b off = s.usedReg b off := by
  have hused : (sent old s).used = s.used := of_sent State.used (fun _ => rfl) old s
  unfold usedReg
  rw [hused, reg_sent old s h ho]

/-- A run from reset after which the disabled PORT0 is staged, its pair 2 is consistent again, and it still uses the
PORT_CFG from before the pair was inconsistent. PD_PMAP is powered up; LPC0 terminates, which rules out the slot set that
PORT_CFG then asks for (R200), so the port keeps its last consistent word 0; LPC0 no longer terminates; STAGE goes to 1.
Writing PORT_CFG once more, with the word it holds, has the pair checked and that word used. -/
theorem staged_write_changes_used_word : (State.reset.follow [.regWrite .pcie 0x4108 15 0x115, .domDone false,
      .regWrite .pcie 0x64180 15 0xA02801, .regWrite .pcie 0x200100 15 0x111, .regWrite .pcie 0x64180 15 0xA02800,
      .stageOn .pcie 115]).map (fun s => (s.reach (Blk.port 0), s.staged (Blk.port 0),
        s.usedReg (Blk.port 0) PORT.PORT_CFG, (s.busWrite .pcie 0x200100 15 0x111).usedReg (Blk.port 0) PORT.PORT_CFG)) =
    some (true, true, 0, 0x111) := by decide +kernel

end Sys2Proof.Machine

open Sys2Proof Sys2Proof.Machine

/-- Refutes O53, in a state that a run from reset reaches: a write of PORT_CFG while STAGE = 1 has the pairs checked, and a pair
that has become consistent since the last check comes into use, so the words the port uses change. The RWS bits of the active
word stay 0x111 throughout; what fails is the clause on the words in use, in the second part and likewise in the third. -/
theorem not_stagedWrites : ¬ Obligations.StagedWrites := by
  unfold Obligations.StagedWrites
  rintro ⟨-, hwrite, -⟩
  obtain ⟨s, -, hs⟩ := Option.map_eq_some_iff.1 staged_write_changes_used_word
  obtain ⟨hreach, hstaged, hold, hnew⟩ : _ ∧ _ ∧ _ ∧ _ := by simpa only [Prod.mk.injEq] using hs
  obtain ⟨t, hexec, -, hused, -⟩ := hwrite s (Blk.port 0) PORT.PORT_CFG 0 .pcie 0x200100 15 0x111 rfl rfl rfl rfl hreach
    hstaged (by decide)
  have ht : State.sent s (s.busWrite .pcie 0x200100 15 0x111) = t := Host.Outcome.next.inj hexec
  rw [← ht, State.usedReg_sent _ _ (by decide) (by decide), hold, hnew] at hused
  exact absurd hused (by decide)
end

section
/-! The stop of a time base reaches blocks outside TIME, LOG and SCHED: the triggers on it have passed (R290 case 5), and an
entry that skips reports SKIPPED to every block armed on it (R48). -/

namespace Sys2Proof.Machine

/-- A command that answers a next state leads there. -/
theorem State.follow_singleton {c : Instr} {s t : State} (h : exec c s = .next t) : s.follow [c] = some t := by
  simp [follow, h]

/-- A run from reset after which TB0 is enabled and FEC is armed on an entry that skips: PD_PMAP and PD_TIME are powered up, FEC
is staged and arms on entry 0, and entry 0 is enabled to commit when TB0 reaches one second, or to skip (LATE_ATTR = 1) if that
trigger has passed. Disabling TB0 then disarms FEC with the report SKIPPED (LAST = 6). -/
theorem tbEnable_skips_armed_fec : (State.reset.follow [.regWrite .pcie 0x4108 15 0x115, .domDone false,
      .regWrite .pcie 0x4108 15 0x116, .domDone false, .stageOn .pcie 25, .arm .pcie 25 0, .seWrite .pcie 3 1,
      .seWrite .pcie 0 0x107]).map (fun s => (s.reach Blk.time, s.fb Blk.time (TIME.TB_CTL_EN 0),
        s.reg Blk.fec HDR.STAGE_STAT, (s.follow [.tbEnable .pcie 0 0]).map fun t => t.reg Blk.fec HDR.STAGE_STAT)) =
    some (true, true, HDR.STAGE_STAT_ARMED.put 0 1, some (HDR.STAGE_STAT_LAST.put 0 6)) := by decide +kernel

end Sys2Proof.Machine

open Sys2Proof Sys2Proof.Machine

/-- Refutes O52, in a state that a run from reset reaches: the frame of the first part lets only TIME, LOG and SCHED (and PERF)
change, but a disabled time base has its triggers pass (R290 case 5), so the skipping entry disarms FEC, and FEC's STAGE_STAT
goes from ARMED to SKIPPED (R48). -/
theorem not_timeBaseStops : ¬ Obligations.TimeBaseStops := by
  unfold Obligations.TimeBaseStops
  rintro ⟨hstop, -, -⟩
  obtain ⟨s, -, hs⟩ := Option.map_eq_some_iff.1 tbEnable_skips_armed_fec
  obtain ⟨hreach, hen, harmed, hskipped⟩ : _ ∧ _ ∧ _ ∧ _ := by simpa only [Prod.mk.injEq] using hs
  obtain ⟨t, hexec, -, -, -, -, -, -, -, -, -, hregs, -, -⟩ := hstop s .pcie 0 0 ⟨rfl, hreach⟩ hen (by decide) (by decide)
  rw [State.follow_singleton hexec, Option.map_some, hregs.reg _ _ (by decide) (by decide) (by decide), harmed] at hskipped
  exact absurd hskipped (by decide)
end

section
/-! The BAR2 accesses that the region table does not permit (R335): how an access is judged, what a denied access records in MEM,
and what an access of an unpowered region records in GLB (R15). -/

namespace Sys2Proof.Machine

/-! ### The control sets of the engines -/

/-- The control set of an engine does not lie in PERF. -/
theorem perf_ne_engBlk (e : Nat) : Blk.perf ≠ engBlk e := by
  unfold engBlk Blk.perf Blk.lclu Blk.llane Blk.hclu
  split
  · omega
  · split <;> omega

theorem engBase_le (e : Nat) : engBase e ≤ 0x380 := by unfold engBase; split <;> omega

namespace State

/-! ### What happens around an access: PERF counts, messages are sent -/

/-- From `s` to `t` nothing has changed but PERF, the pending-bit array, the counter of free values and what the device has
sent. -/
structure OnlyCounts (s t : State) : Prop where
  regs : s.KeepsRegs [] t
  rest : { t.rest with free := 0 } = { s.rest with free := 0 }

section OnlyCounts
variable {s t : State}

theorem onlyCounts_refl (s : State) : OnlyCounts s s := ⟨keepsRegs_refl [] s, rfl⟩

theorem onlyCounts_trans {u : State} (h1 : OnlyCounts s t) (h2 : OnlyCounts t u) : OnlyCounts s u :=
  ⟨keepsRegs_trans h1.regs h2.regs, h2.rest.trans h1.rest⟩

theorem onlyCounts_tlp (s : State) (d n : Nat) : OnlyCounts s (s.tlp d n) :=
  ⟨⟨fun _ _ _ hp ho => reg_tlp s (Ne.symm hp) ho d n, fun _ _ hp => intStat_tlp s (Ne.symm hp) d n⟩, by rw [tlp_rest]⟩

/-- A transfer of an unstated number of TLPs draws that number first. -/
theorem onlyCounts_tlps (s : State) (d : Nat) : OnlyCounts s (s.tlps d) :=
  onlyCounts_trans (t := (s.draw 8).2) ⟨keepsRegs_of_eq rfl rfl, rfl⟩ (onlyCounts_tlp _ d _)

theorem onlyCounts_send (s : State) (m : OutMsg) : OnlyCounts s (s.send m) := ⟨keepsRegs_of_eq rfl rfl, rfl⟩

theorem onlyCounts_sent (old s : State) : OnlyCounts s (sent old s) := ⟨keepsRegs_sent [] old s, by rw [sent_rest]⟩

/-- What reads neither registers nor the counter of free values is the same afterwards. -/
theorem OnlyCounts.eq_of {α : Type} (h : OnlyCounts s t) (p : State → α) (hp : ∀ s, p { s.rest with free := 0 } = p s) :
    p t = p s := by
  rw [← hp s, ← hp t, h.rest]

theorem OnlyCounts.domReady (h : OnlyCounts s t) (d : Nat) : t.domReady d = s.domReady d :=
  h.eq_of (State.domReady · d) fun _ => rfl

theorem OnlyCounts.shadows (h : OnlyCounts s t) : t.shadows = s.shadows := h.eq_of State.shadows fun _ => rfl

theorem OnlyCounts.keepsUnits (h : OnlyCounts s t) : KeepsUnits s t := h.eq_of State.units fun _ => rfl

theorem OnlyCounts.keepsRegs (h : OnlyCounts s t) (bs : List Nat) : KeepsRegs bs s t :=
  ⟨fun b o _ hp ho => h.regs.reg b o List.not_mem_nil hp ho, fun b _ hp => h.regs.ints b List.not_mem_nil hp⟩

theorem OnlyCounts.reg (h : OnlyCounts s t) {b off : Nat} (hb : Blk.perf ≠ b) (ho : off < 4096) : t.reg b off = s.reg b off :=
  h.regs.reg b off List.not_mem_nil (Ne.symm hb) ho

theorem OnlyCounts.f (h : OnlyCounts s t) {b : Nat} {g : Fld} (hb : Blk.perf ≠ b) (ho : g.off < 4096) :
    t.f b g = s.f b g := by unfold State.f; rw [h.reg hb ho]

theorem OnlyCounts.fb (h : OnlyCounts s t) {b : Nat} {g : Fld} (hb : Blk.perf ≠ b) (ho : g.off < 4096) :
    t.fb b g = s.fb b g := by unfold State.fb; rw [h.f hb ho]

theorem OnlyCounts.intStat (h : OnlyCounts s t) {b : Nat} (hb : Blk.perf ≠ b) : t.intStat b = s.intStat b :=
  h.regs.ints b List.not_mem_nil (Ne.symm hb)

/-! ### The judgement does not depend on what PERF counts -/

theorem OnlyCounts.bankInUse (h : OnlyCounts s t) (e b : Nat) : t.bankInUse e b = s.bankInUse e b := by
  have hbase := engBase_le e
  have hstat : t.ef e ENG.LE_STAT_BANK_IN_USE = s.ef e ENG.LE_STAT_BANK_IN_USE :=
    h.f (perf_ne_engBlk e) (by simp only [ENG.LE_STAT_BANK_IN_USE]; omega)
  have hvalid : t.ef e (bankFields b).1 = s.ef e (bankFields b).1 := by
    refine h.f (perf_ne_engBlk e) ?_
    unfold bankFields
    split <;> simp only [ENG.UC_BANK0_VALID, ENG.UC_BANK1_VALID] <;> omega
  unfold State.bankInUse bankValid efb
  rw [hstat, hvalid]

theorem OnlyCounts.bankNamed (h : OnlyCounts s t) (e b : Nat) : t.bankNamed e b = s.bankNamed e b := by
  have hbase := engBase_le e
  have hstaged : t.staged (engBlk e) = s.staged (engBlk e) := h.fb (perf_ne_engBlk e) (by decide)
  have hshadow : t.shadow (engBlk e) (ENG.LE_CTL (engBase e)) = s.shadow (engBlk e) (ENG.LE_CTL (engBase e)) := by
    unfold shadow
    rw [h.shadows, h.reg (perf_ne_engBlk e) (by unfold ENG.LE_CTL; omega)]
  unfold State.bankNamed
  rw [hstaged, hshadow]

theorem OnlyCounts.bar2Allows (h : OnlyCounts s t) (q : Requester) (off : Nat) (w : Bool) :
    t.bar2Allows q off w = s.bar2Allows q off w := by
  have hlvl : t.f Blk.dbg DBG.STAT_LEVEL = s.f Blk.dbg DBG.STAT_LEVEL := h.f (by decide) (by decide)
  unfold State.bar2Allows
  simp only [hlvl, h.bankInUse, h.bankNamed]

theorem OnlyCounts.bar2Judge (h : OnlyCounts s t) (q : Requester) (a n : Nat) (w : Bool) :
    t.bar2Judge q a n w = s.bar2Judge q a n w := by
  unfold State.bar2Judge
  simp only [h.domReady, h.bar2Allows]

end OnlyCounts

/-! ### The words of an access -/

/-- A word of an access starts before the access ends. -/
theorem four_mul_lt_of_mem_wordsOf {a n x : Nat} (h : x ∈ wordsOf a n) : 4 * x < a + n := by
  unfold wordsOf at h
  split at h
  · simp at h
  · obtain ⟨i, hi, rfl⟩ := List.mem_map.1 h
    have := List.mem_range.1 hi
    omega

theorem wordsOf_one (a : Nat) : wordsOf a 1 = [a / 4] := by simp [wordsOf]

/-! ### How an access is judged -/

section
variable (s : State) (q : Requester) (w : Bool)

/-- What bars the access of the word at BAR2 offset `o`, if anything does. -/
def bars (o : Nat) : Option Judged :=
  match sramDomain o with
  | none => some (.denied o)
  | some d => if !s.domReady d then some (.off o) else if s.bar2Allows q o w then none else some (.denied o)

theorem bar2Judge_eq (a n : Nat) :
    s.bar2Judge q a n w = ((wordsOf a n).findSome? fun x => s.bars q w (4 * x)).getD .ok := rfl

theorem bar2Judge_one (a : Nat) : s.bar2Judge q a 1 w = (s.bars q w (a - a % 4)).getD .ok := by
  have hword : 4 * (a / 4) = a - a % 4 := by omega
  rw [bar2Judge_eq, wordsOf_one, List.findSome?_singleton, hword]

/-- What bars a word bars it at its own offset. -/
theorem eq_of_bars {o : Nat} {j : Judged} (h : s.bars q w o = some j) : j = .denied o ∨ j = .off o := by
  unfold bars at h
  split at h
  · exact .inl (Option.some.inj h).symm
  · split at h
    · exact .inr (Option.some.inj h).symm
    · split at h
      · cases h
      · exact .inl (Option.some.inj h).symm

/-- An access is barred, if it is, at an offset before its end. -/
theorem lt_of_bar2Judge {a n o : Nat} (h : s.bar2Judge q a n w = .denied o ∨ s.bar2Judge q a n w = .off o) : o < a + n := by
  rw [bar2Judge_eq] at h
  cases hfind : (wordsOf a n).findSome? fun x => s.bars q w (4 * x) with
  | none => simp [hfind] at h
  | some j =>
    obtain ⟨x, hx, hbars⟩ := List.exists_of_findSome?_eq_some hfind
    have hlt := four_mul_lt_of_mem_wordsOf hx
    rw [hfind, Option.getD_some] at h
    rcases eq_of_bars s q w hbars with rfl | rfl <;> simp at h <;> omega

theorem bars_of_region_none {o : Nat} (h : sramRegion o = none) : s.bars q w o = some (.denied o) := by
  simp [bars, sramDomain, h]

theorem bars_of_domain {o d : Nat} (h : sramDomain o = some d) :
    s.bars q w o = if !s.domReady d then some (.off o) else if s.bar2Allows q o w then none else some (.denied o) := by
  simp only [bars, h]

/-- What the region table and the debug level permit to a requester that is neither the Keeper nor the debug port (R334, R414). -/
theorem bar2Allows_of_region {x r e : Nat} (hx : sramRegion x = some (r, e)) (hk : q ≠ .keeper) (hd : q ≠ .debug) :
    s.bar2Allows q x w =
      if r = 0 ∨ r = 5 then true
      else if r = 3 ∨ r = 4 then !w
      else if r = 6 then
        if w then decide (s.dbgLevel = 2) && !s.bankInUse e (x % 0x10000 / 0x2000) && !s.bankNamed e (x % 0x10000 / 0x2000)
        else decide (s.dbgLevel ≠ 0)
      else if w then decide (s.dbgLevel = 2) else decide (s.dbgLevel ≠ 0) := by
  have hport : (q != .debug) = true := by simpa using hd
  have hread : (s.dbgLevel != 0) = decide (s.dbgLevel ≠ 0) := by simp [bne, beq_eq_decide]
  have hwrite : (s.dbgLevel == 2) = decide (s.dbgLevel = 2) := beq_eq_decide ..
  have hlvl : s.f Blk.dbg DBG.STAT_LEVEL = s.dbgLevel := rfl
  unfold bar2Allows
  simp only [hk, if_false, hx, hlvl, hport, Bool.true_or, Bool.true_and, hread, hwrite]
  split
  case h_1 | h_2 | h_3 | h_4 => simp
  case h_5 => cases w <;> simp [Bool.and_assoc]
  case h_6 h0 h5 h3 h4 h6 => rw [if_neg (not_or.2 ⟨h0, h5⟩), if_neg (not_or.2 ⟨h3, h4⟩), if_neg h6]

end

/-! ### What reaches the SRAM -/

/-- The state in which a request to host memory space is judged: a PCIe request has counted its TLPs (R437). -/
def requested (s : State) (q : Requester) (w : Bool) : State :=
  if q = .pcie then (if w then s.tlps 0 else (s.tlp 0 1).tlps 1) else s

theorem onlyCounts_requested (s : State) (q : Requester) (w : Bool) : OnlyCounts s (s.requested q w) := by
  unfold requested
  split
  · split
    · exact onlyCounts_tlps s 0
    · exact onlyCounts_trans (onlyCounts_tlp s 0 1) (onlyCounts_tlps _ 1)
  · exact onlyCounts_refl s

theorem out_requested (s : State) (q : Requester) (w : Bool) : (s.requested q w).out = s.out := by
  have htlp : ∀ (s : State) d n, (s.tlp d n).out = s.out := fun s d n => out_perf s 11 d n
  have htlps : ∀ (s : State) d, (s.tlps d).out = s.out := fun s d => htlp (s.draw 8).2 d _
  unfold requested
  split
  · split
    · exact htlps s 0
    · rw [htlps, htlp]
  · rfl

section
variable {s : State} {q : Requester} {a : Nat} (hreach : s.memReach q = true)
include hreach

theorem fab_of_memReach : s.domReady Dom.fab = true := by
  unfold memReach at hreach
  simp only [Bool.and_eq_true] at hreach
  exact hreach.1.2

/-- A read inside BAR2 without upsets is a BAR2 read. -/
theorem hostRead_bar2 {n : Nat} (hn : 0 < n) (hin : s.inBar .bar2 a n = true) :
    s.hostRead q .bar2 a n [] = (s.requested q false).bar2Read q a n := by
  have hupset : s.sramUpset [] = s := rfl
  simp [hostRead, memRead, requested, hupset, hin, hreach, Nat.ne_of_gt hn]

theorem hostWriteMem_bar2 {data : List Byte} (hdata : data ≠ []) (hin : s.inBar .bar2 a data.length = true) :
    s.hostWriteMem q .bar2 a data = (s.requested q true).bar2Write q a data := by
  simp [hostWriteMem, memWrite, requested, hin, hreach, hdata]

end

section
variable {s : State} {q : Requester} {a o : Nat}

theorem bar2Read_denied {n : Nat} (h : s.bar2Judge q a n false = .denied o) :
    s.bar2Read q a n = (s.memDenied o).send (.memData .bar2 a (List.replicate n 0)) := by simp only [bar2Read, h]

theorem bar2Write_denied {data : List Byte} (h : s.bar2Judge q a data.length true = .denied o) :
    s.bar2Write q a data = s.memDenied o := by simp only [bar2Write, h]

theorem bar2Write_off {data : List Byte} (h : s.bar2Judge q a data.length true = .off o) :
    s.bar2Write q a data = s.offRecord .bar2 o true := by simp only [bar2Write, h]

end

/-! ### memDenied: the record of a denied access -/

section
variable (s : State) (o : Nat)

@[simp] theorem memDenied_rest : (s.memDenied o).rest = s.rest := by rw [memDenied, flag_rest, setF_rest]

theorem out_memDenied : (s.memDenied o).out = s.out := by rw [memDenied, flag, out_raise, setF_out, setF_out]

theorem f_memDenied_flag : (s.memDenied o).f Blk.mem MEM.STAT_DENIED = 1 :=
  f_flag_self _ (by decide) (by decide) (by decide) (by decide) (by decide)

/-- Of the offset the 26 bits of BAR2 are kept. -/
theorem f_memDenied_offset : (s.memDenied o).f Blk.mem MEM.DENY_ADDR_OFFSET = o % 2 ^ 26 := by
  rw [memDenied, f_flag_apart _ (by decide) (by decide) (by decide) (by decide), f_setF_self _ _ _ (by decide)]
  rfl

theorem intStat_memDenied : ((s.memDenied o).intStat Blk.mem).getLsbD MEM.INT_DENIED = true := by
  rw [memDenied, intStat_flag_self, BitVec.getLsbD_or, BitVec.getLsbD_twoPow]
  simp [MEM.INT_DENIED]

theorem keepsRegs_memDenied : s.KeepsRegs [Blk.mem] (s.memDenied o) :=
  have hmem : Blk.mem ∈ [Blk.mem] := List.mem_singleton_self _
  keepsRegs_trans (keepsRegs_setF s hmem (by decide) o) (keepsRegs_flag _ hmem (by decide) _)

/-- Of MEM only STAT, DENY_ADDR and the event time can change. -/
theorem keepsBlk_memDenied : s.KeepsBlk Blk.mem [MEM.STAT, MEM.DENY_ADDR, HDR.EVT_TIME_LO, HDR.EVT_TIME_HI] (s.memDenied o) := by
  intro off hoff ho
  simp only [List.mem_cons, List.not_mem_nil, or_false, not_or] at hoff
  obtain ⟨hstat, haddr, hlo, hhi⟩ := hoff
  rw [memDenied, flag, reg_raise_off _ (Ne.symm hlo) (Ne.symm hhi) ho, reg_setF_off _ (Ne.symm hstat),
    reg_setF_off _ (Ne.symm haddr)]

end

/-- MEM has recorded a denied access at offset `o`, and no register of another block and no unit has changed (R335). -/
abbrev RecordsDenial (o : Nat) (s t : State) : Prop :=
  t.f Blk.mem MEM.STAT_DENIED = 1 ∧ t.f Blk.mem MEM.DENY_ADDR_OFFSET = o ∧ (t.intStat Blk.mem).getLsbD MEM.INT_DENIED = true ∧
    s.KeepsRegs [Blk.mem] t ∧ s.KeepsBlk Blk.mem [MEM.STAT, MEM.DENY_ADDR, HDR.EVT_TIME_LO, HDR.EVT_TIME_HI] t ∧ s.KeepsUnits t

/-- A denied access records itself, whatever is counted and sent before and after. -/
theorem recordsDenial_of_memDenied {s u t : State} {o : Nat} (hu : OnlyCounts s u) (ht : OnlyCounts (u.memDenied o) t)
    (ho : o < 2 ^ 26) : RecordsDenial o s t := by
  have hperf : Blk.perf ≠ Blk.mem := by decide
  refine ⟨?_, ?_, ?_, ?_, ?_, ?_⟩
  · rw [ht.f hperf (by decide), f_memDenied_flag]
  · rw [ht.f hperf (by decide), f_memDenied_offset, Nat.mod_eq_of_lt ho]
  · rw [ht.intStat hperf, intStat_memDenied]
  · exact keepsRegs_trans (hu.keepsRegs _) (keepsRegs_trans (keepsRegs_memDenied u o) (ht.keepsRegs _))
  · intro off hoff hlt
    rw [ht.reg hperf hlt, keepsBlk_memDenied u o off hoff hlt, hu.reg hperf hlt]
  · exact keepsUnits_trans hu.keepsUnits (keepsUnits_trans (keepsUnits_of_rest (memDenied_rest u o)) ht.keepsUnits)

/-! ### offRecord: the record of an access of an unpowered region -/

section
variable {s : State} (hf : s.domReady Dom.fab = true) (bar : Bar) (o : Nat) (w : Bool)
include hf

/-- While PD_FAB is up the BAR, the offset and the direction are recorded, the access counts, and OFF_ACCESS is raised. -/
theorem offRecord_of_fab : s.offRecord bar o w =
    ((((s.setF Blk.glb GLB.OFF_ACC_ADDR_BAR (barCode bar)).setF Blk.glb GLB.OFF_ACC_ADDR_OFFSET
      (if bar = .bar4 then o / 16 else o)).setB Blk.glb GLB.OFF_ACC_STAT_WAS_WRITE w).countSat Blk.glb
      GLB.OFF_ACC_STAT_COUNT 1).flag Blk.glb GLB.OFF_ACC_STAT_OFF_ACCESS GLB.INT_OFF_ACCESS := by
  unfold offRecord; simp [hf]

theorem f_offRecord_flag : (s.offRecord bar o w).f Blk.glb GLB.OFF_ACC_STAT_OFF_ACCESS = 1 := by
  rw [offRecord_of_fab hf]
  exact f_flag_self _ (by decide) (by decide) (by decide) (by decide) (by decide)

theorem fb_offRecord_write : (s.offRecord bar o w).fb Blk.glb GLB.OFF_ACC_STAT_WAS_WRITE = w := by
  unfold State.fb
  rw [offRecord_of_fab hf, f_flag_apart _ (by decide) (by decide) (by decide) (by decide), countSat,
    f_setF_apart _ (by decide), setB_eq, f_setF_self _ _ _ (by decide)]
  cases w <;> rfl

theorem f_offRecord_bar : (s.offRecord bar o w).f Blk.glb GLB.OFF_ACC_ADDR_BAR = barCode bar := by
  rw [offRecord_of_fab hf, f_flag_apart _ (by decide) (by decide) (by decide) (by decide), countSat,
    f_setF_apart _ (by decide), setB_eq, f_setF_apart _ (by decide), f_setF_apart _ (by decide),
    f_setF_self _ _ _ (by decide)]
  cases bar <;> rfl

/-- Of the offset 30 bits are kept. -/
theorem f_offRecord_offset :
    (s.offRecord bar o w).f Blk.glb GLB.OFF_ACC_ADDR_OFFSET = (if bar = .bar4 then o / 16 else o) % 2 ^ 30 := by
  rw [offRecord_of_fab hf, f_flag_apart _ (by decide) (by decide) (by decide) (by decide), countSat,
    f_setF_apart _ (by decide), setB_eq, f_setF_apart _ (by decide), f_setF_self _ _ _ (by decide)]
  rfl

theorem keepsRegs_offRecord : s.KeepsRegs [Blk.glb] (s.offRecord bar o w) := by
  rw [offRecord_of_fab hf]
  have hglb : Blk.glb ∈ [Blk.glb] := List.mem_singleton_self _
  exact keepsRegs_trans (keepsRegs_setF s hglb (by decide) _) (keepsRegs_trans (keepsRegs_setF _ hglb (by decide) _)
    (keepsRegs_trans (keepsRegs_setB _ hglb (by decide) w) (keepsRegs_trans (keepsRegs_setF _ hglb (by decide) _)
      (keepsRegs_flag _ hglb (by decide) _))))

end

/-! ### The messages of a command are MSI-X messages -/

section
variable {p : OutMsg → Bool} (hp : ∀ v lo hi d, p (.msix v lo hi d) = true)
include hp

/-- What all sent messages have in common, and an MSI-X message too, stays so when a vector sends. -/
theorem all_out_sendVector {s : State} (h : s.out.all p = true) (v : Nat) : (s.sendVector v).out.all p = true := by
  unfold sendVector
  split
  · exact h
  · split
    · exact h
    · rw [tlp, out_perf]
      simp [send, hp, h]

theorem all_out_sent {old s : State} (h : s.out.all p = true) : (sent old s).out.all p = true := by
  have hedges : ∀ {old s : State}, s.out.all p = true → (sendEdges old s).out.all p = true := fun h =>
    foldl_prop (p := fun s : State => s.out.all p = true) (fun _ v hs => all_out_sendVector hp hs v) _ h
  exact hedges (hedges h)

end

/-! ### The refused accesses -/

section
variable {s : State} {q : Requester} {o : Nat} {off : BitVec 34} (hreach : s.memReach q = true)
include hreach

/-- A read that is denied answers zeros, sends otherwise only MSI-X messages, and is recorded in MEM (R335). -/
theorem hostMemRead_denied {n : Nat} (hn : 0 < n) (hin : s.inBar .bar2 off.toNat n = true)
    (hj : s.bar2Judge q off.toNat n false = .denied o) : Gives (.hostMemRead q .bar2 off n []) s fun t =>
      OutMsg.memData .bar2 off.toNat (List.replicate n 0) ∈ t.out ∧
      (∀ p : OutMsg → Bool, (∀ v lo hi d, p (.msix v lo hi d) = true) → (∀ b a l, p (.memData b a l) = true) →
        s.out.all p = true → t.out.all p = true) ∧ RecordsDenial o s t := by
  have hcount := onlyCounts_requested s q false
  have ho : o < 2 ^ 26 :=
    Nat.lt_of_lt_of_le (lt_of_bar2Judge s q false (.inl hj)) (of_decide_eq_true hin)
  have hrun : s.hostRead q .bar2 off.toNat n [] =
      ((s.requested q false).memDenied o).send (.memData .bar2 off.toNat (List.replicate n 0)) := by
    rw [hostRead_bar2 hreach hn hin, bar2Read_denied (by rw [hcount.bar2Judge, hj])]
  refine gives_of (congrArg (finish s) hrun) ⟨mem_out_sent List.mem_cons_self, fun p hmsix hdata hall => ?_, ?_⟩
  · refine all_out_sent hmsix ?_
    simp only [send, out_memDenied, out_requested, List.all_cons, hdata, hall, Bool.and_self]
  · exact recordsDenial_of_memDenied hcount (onlyCounts_trans (onlyCounts_send _ _) (onlyCounts_sent _ _)) ho

variable {data : List Byte} (hdata : data ≠ []) (hin : s.inBar .bar2 off.toNat data.length = true)
include hdata hin

/-- A write that is denied changes nothing but the record in MEM (R335). -/
theorem hostMemWrite_denied (hj : s.bar2Judge q off.toNat data.length true = .denied o) :
    Gives (.hostMemWrite q .bar2 off data) s fun t => RecordsDenial o s t := by
  have hcount := onlyCounts_requested s q true
  have ho : o < 2 ^ 26 :=
    Nat.lt_of_lt_of_le (lt_of_bar2Judge s q true (.inl hj)) (of_decide_eq_true hin)
  have hrun : s.hostWriteMem q .bar2 off.toNat data = (s.requested q true).memDenied o := by
    rw [hostWriteMem_bar2 hreach hdata hin, bar2Write_denied (by rw [hcount.bar2Judge, hj])]
  exact gives_of (congrArg (finish s) hrun) (recordsDenial_of_memDenied hcount (onlyCounts_sent _ _) ho)

/-- A write to a region whose domain is off changes nothing but the record in GLB (R15). -/
theorem hostMemWrite_off (hj : s.bar2Judge q off.toNat data.length true = .off o) :
    Gives (.hostMemWrite q .bar2 off data) s fun t => t.f Blk.glb GLB.OFF_ACC_STAT_OFF_ACCESS = 1 ∧
      t.f Blk.glb GLB.OFF_ACC_ADDR_BAR = 1 ∧ t.f Blk.glb GLB.OFF_ACC_ADDR_OFFSET = o ∧
      t.fb Blk.glb GLB.OFF_ACC_STAT_WAS_WRITE = true ∧ s.KeepsRegs [Blk.glb] t ∧ s.KeepsUnits t := by
  have hcount := onlyCounts_requested s q true
  have hfab : (s.requested q true).domReady Dom.fab = true := by rw [hcount.domReady, fab_of_memReach hreach]
  have ho : o < 2 ^ 30 :=
    Nat.lt_of_lt_of_le (lt_of_bar2Judge s q true (.inr hj)) (Nat.le_trans (of_decide_eq_true hin) (by decide))
  have hrun : s.hostWriteMem q .bar2 off.toNat data = (s.requested q true).offRecord .bar2 o true := by
    rw [hostWriteMem_bar2 hreach hdata hin, bar2Write_off (by rw [hcount.bar2Judge, hj])]
  have hsent := onlyCounts_sent s ((s.requested q true).offRecord .bar2 o true)
  have hperf : Blk.perf ≠ Blk.glb := by decide
  refine gives_of (congrArg (finish s) hrun) ⟨?_, ?_, ?_, ?_, ?_, ?_⟩
  · rw [hsent.f hperf (by decide), f_offRecord_flag hfab]
  · rw [hsent.f hperf (by decide), f_offRecord_bar hfab]; rfl
  · rw [hsent.f hperf (by decide), f_offRecord_offset hfab, if_neg (by decide), Nat.mod_eq_of_lt ho]
  · rw [hsent.fb hperf (by decide), fb_offRecord_write hfab]
  · exact keepsRegs_trans (hcount.keepsRegs _) (keepsRegs_trans (keepsRegs_offRecord hfab .bar2 o true) (hsent.keepsRegs _))
  · exact keepsUnits_trans hcount.keepsUnits (keepsUnits_trans (keepsUnits_of_rest (offRecord_rest ..)) hsent.keepsUnits)

end

end State
end Sys2Proof.Machine

open Sys2Proof Sys2Proof.Machine Sys2Proof.Machine.State

/-- Settles O50: each word of an access is judged by its region, its domain and what the table permits; a denied access is
recorded in MEM and a read of it answers zeros, and a write to a region whose domain is off is recorded in GLB. -/
theorem deniedSram : Obligations.DeniedSram := by
  unfold Obligations.DeniedSram
  refine ⟨fun s q a w => ⟨fun hr => ?_, fun r e d _ hd => ⟨fun hoff => ?_, fun hon hno => ?_, fun hon hyes => ?_⟩⟩,
    fun s q x w r e hx hk hp => bar2Allows_of_region s q w hx hk hp, ?_, ?_, ?_⟩
  · rw [bar2Judge_one, bars_of_region_none s q w hr]; rfl
  · rw [bar2Judge_one, bars_of_domain s q w hd, hoff]; rfl
  · rw [bar2Judge_one, bars_of_domain s q w hd, hon, hno]; rfl
  · rw [bar2Judge_one, bars_of_domain s q w hd, hon, hyes]; rfl
  · rintro s o q bar off n flips rfl hreach hn hin hj rfl
    obtain ⟨t, hexec, hzeros, hkinds, hrec⟩ := hostMemRead_denied hreach hn hin hj
    exact ⟨t, hexec, hzeros, hkinds _ (fun _ _ _ _ => rfl) (fun _ _ _ => rfl), hrec⟩
  · rintro s o q bar off data rfl hreach hdata hin hj
    exact hostMemWrite_denied hreach hdata hin hj
  · rintro s o q bar off data rfl hreach hdata hin hj
    exact hostMemWrite_off hreach hdata hin hj
end

section
/-! The Keeper's restart through its boot ROM: what going back to the ROM changes (R392), what a disagreement of the lockstep
cores adds (R413), and what the fast path leaves in KPR (R412). -/

namespace Sys2Proof.Machine
namespace State

/-! ### Frames with blanked units compose -/

section
variable {g : State → State} {s t u : State}

theorem keepsUnitsBut_of_keepsUnits (h : KeepsUnits s t) : KeepsUnitsBut g s t := congrArg g h

theorem keepsUnitsBut_trans (h1 : KeepsUnitsBut g s t) (h2 : KeepsUnitsBut g t u) : KeepsUnitsBut g s u := h2.trans h1

end

/-! ### Registers outside the block headers -/

/-- A write at another offset of any block leaves a register. -/
theorem reg_setF_ne_off (s : State) {b b2 off : Nat} {g : Fld} (h : g.off ≠ off) (hg : g.off < 4096) (ho : off < 4096)
    (v : Nat) : (s.setF b g v).reg b2 off = s.reg b2 off :=
  s.reg_setReg_ne (by unfold regKey; omega) _

section
variable (s : State) {b2 off : Nat} (b : Nat) (h : 0x30 ≤ off) (ho : off < 4096)
include h ho

/-- A report on a commit changes only the header of its block (R47 to R49). -/
theorem reg_blkReport (last : Nat) : (s.blkReport b last).reg b2 off = s.reg b2 off := by
  obtain ⟨hstat, hctl, hlo, hhi⟩ :
      HDR.STAGE_STAT ≠ off ∧ HDR.STAGE_CTL ≠ off ∧ HDR.EVT_TIME_LO ≠ off ∧ HDR.EVT_TIME_HI ≠ off := by
    simp only [HDR.STAGE_STAT, HDR.STAGE_CTL, HDR.EVT_TIME_LO, HDR.EVT_TIME_HI]; omega
  rw [blkReport, reg_raise_off _ hlo hhi ho, reg_setF_ne_off _ hctl (by decide) ho, reg_setF_ne_off _ hstat (by decide) ho,
    reg_setF_ne_off _ hstat (by decide) ho]

theorem reg_disarm : (s.disarm b).reg b2 off = s.reg b2 off := by
  unfold disarm
  split
  · exact reg_blkReport s b h ho 7
  · rfl

/-- Loading shadows changes no active word, so a DISCARD changes at most the header. -/
theorem reg_discard : (s.discard b).reg b2 off = s.reg b2 off := by
  have hload : (s.loadShadows b).reg b2 off = s.reg b2 off := by
    unfold loadShadows
    refine foldl_keeps (fun t => t.reg b2 off) _ _ (fun t o _ => ?_) s
    rfl
  rw [discard, reg_disarm _ b h ho]
  split
  · exact hload
  · rfl

end

/-- The end of an apply or a rollback without success is recorded in CFGV alone. -/
theorem keepsRegs_cfgFail (s : State) (result int : Nat) : s.KeepsRegs [Blk.cfgv] (s.cfgFail result int) := by
  have hcfgv : Blk.cfgv ∈ [Blk.cfgv] := List.mem_singleton_self _
  have htimer : s.KeepsRegs [Blk.cfgv] s.cfgTimerOff :=
    keepsRegs_trans (keepsRegs_setF s hcfgv (by decide) 0) (keepsRegs_of_eq rfl rfl)
  exact keepsRegs_trans htimer (keepsRegs_trans (keepsRegs_setF _ hcfgv (by decide) 0)
    (keepsRegs_trans (keepsRegs_setF _ hcfgv (by decide) result)
      (keepsRegs_trans (keepsRegs_setF _ hcfgv (by decide) 1) (keepsRegs_raise _ hcfgv int))))

/-- The derived key appears in SEC alone (R404). -/
theorem reg_deriveKey (s : State) {b off : Nat} (hb : Blk.sec ≠ b) (ho : off < 4096) :
    s.deriveKey.reg b off = s.reg b off := by
  unfold deriveKey
  split
  · rfl
  · refine foldl_keeps (fun t => t.reg b off) _ _ (fun t i hi => reg_setReg_blk t hb ?_ ho _) s
    have hi := List.mem_range.1 hi
    simp only [SEC.DEV_PUB]; omega

/-! ### keeperRestart: back to the boot ROM -/

/-- Besides STAGE a restart notes only whether it interrupts a staging (R423). -/
theorem keeperRestart_eq (s : State) : ∃ broken,
    s.keeperRestart = (s.modCfgv fun c => { c with broken := broken }).setF Blk.kpr KPR.KSTAT_STAGE 0 := by
  unfold keeperRestart
  dsimp only
  split
  · exact ⟨true, rfl⟩
  · exact ⟨s.cfgv.broken, rfl⟩

section
variable (s : State)

theorem f_keeperRestart_stage : s.keeperRestart.f Blk.kpr KPR.KSTAT_STAGE = 0 := by
  obtain ⟨broken, h⟩ := s.keeperRestart_eq
  rw [h, f_setF_self _ _ _ (by decide)]
  rfl

theorem f_keeperRestart_apart {g : Fld} (hg : KPR.KSTAT_STAGE.apart g) : s.keeperRestart.f Blk.kpr g = s.f Blk.kpr g := by
  obtain ⟨broken, h⟩ := s.keeperRestart_eq
  rw [h, f_setF_apart _ hg]
  rfl

theorem intStat_keeperRestart (b : Nat) : s.keeperRestart.intStat b = s.intStat b := by
  obtain ⟨broken, h⟩ := s.keeperRestart_eq
  rw [h]
  rfl

theorem keepsRegs_keeperRestart : s.KeepsRegs [Blk.kpr] s.keeperRestart := by
  obtain ⟨broken, h⟩ := s.keeperRestart_eq
  rw [h]
  exact keepsRegs_trans (t := s.modCfgv _) (keepsRegs_of_eq rfl rfl)
    (keepsRegs_setF _ (List.mem_singleton_self _) (by decide) 0)

theorem keepsUnitsBut_keeperRestart : s.KeepsUnitsBut (fun u => { u with cfgv := {} }) s.keeperRestart := by
  obtain ⟨broken, h⟩ := s.keeperRestart_eq
  rw [h]
  rfl

theorem cfgv_active_keeperRestart : s.keeperRestart.cfgv.active = s.cfgv.active := by
  obtain ⟨broken, h⟩ := s.keeperRestart_eq
  rw [h]
  rfl

end

/-! ### lockstep: the disagreement is recorded, and the Keeper restarts -/

/-- The record of a disagreement in KPR (R413). -/
def lockstepRecord (s : State) : State :=
  (s.flag Blk.kpr KPR.KSTAT_LOCKSTEP KPR.INT_LOCKSTEP).countSat Blk.kpr KPR.KSTAT_LOCKSTEP_CNT 1

/-- While PD_KPR is up the disagreement is recorded before the restart. -/
theorem lockstep_of_ready {s : State} (h : s.domReady Dom.kpr = true) : s.lockstep = s.lockstepRecord.keeperRestart := by
  unfold lockstep lockstepRecord
  simp [h]

section
variable (s : State)

theorem lockstepRecord_rest : s.lockstepRecord.rest = s.rest := by rw [lockstepRecord, countSat_rest, flag_rest]

theorem f_lockstepRecord_flag : s.lockstepRecord.f Blk.kpr KPR.KSTAT_LOCKSTEP = 1 := by
  rw [lockstepRecord, countSat, f_setF_apart _ (by decide)]
  exact f_flag_self _ (by decide) (by decide) (by decide) (by decide) (by decide)

/-- LOCKSTEP_CNT counts one more and saturates. -/
theorem f_lockstepRecord_cnt : s.lockstepRecord.f Blk.kpr KPR.KSTAT_LOCKSTEP_CNT =
    min (2 ^ KPR.KSTAT_LOCKSTEP_CNT.w - 1) (s.f Blk.kpr KPR.KSTAT_LOCKSTEP_CNT + 1) := by
  have hfits : min (2 ^ KPR.KSTAT_LOCKSTEP_CNT.w - 1) (s.f Blk.kpr KPR.KSTAT_LOCKSTEP_CNT + 1) < 2 ^ KPR.KSTAT_LOCKSTEP_CNT.w :=
    Nat.lt_of_le_of_lt (Nat.min_le_left _ _) (by decide)
  rw [lockstepRecord, countSat, f_setF_self _ _ _ (by decide), f_flag_apart _ (by decide) (by decide) (by decide) (by decide),
    Nat.mod_eq_of_lt hfits]

theorem intStat_lockstepRecord : (s.lockstepRecord.intStat Blk.kpr).getLsbD KPR.INT_LOCKSTEP = true := by
  have hraised : s.lockstepRecord.intStat Blk.kpr = s.intStat Blk.kpr ||| BitVec.twoPow 32 KPR.INT_LOCKSTEP :=
    intStat_raise_self _ _ _
  rw [hraised, BitVec.getLsbD_or, BitVec.getLsbD_twoPow]
  simp [KPR.INT_LOCKSTEP]

theorem keepsRegs_lockstepRecord : s.KeepsRegs [Blk.kpr] s.lockstepRecord :=
  have hkpr : Blk.kpr ∈ [Blk.kpr] := List.mem_singleton_self _
  keepsRegs_trans (keepsRegs_flag s hkpr (by decide) _) (keepsRegs_setF _ hkpr (by decide) _)

end

/-! ### keeperRestarted: the boot ROM ends on the fast path -/

/-- What the fast path writes: no firmware is verified again, and the firmware runs (R412). -/
def fastRestart (s : State) (us : Word) : State :=
  ((s.setReg Blk.kpr KPR.BOOT_US us).setB Blk.kpr KPR.KSTAT_FAST true).setF Blk.kpr KPR.KSTAT_STAGE 7

section
variable {s : State} (us : Word)

theorem f_fastRestart_stage : (s.fastRestart us).f Blk.kpr KPR.KSTAT_STAGE = 7 := by
  rw [fastRestart, f_setF_self _ _ _ (by decide)]
  rfl

theorem f_fastRestart_fast : (s.fastRestart us).f Blk.kpr KPR.KSTAT_FAST = 1 := by
  rw [fastRestart, f_setF_apart _ (by decide), setB_eq, f_setF_self _ _ _ (by decide)]
  rfl

/-- When the digests agree, the registers of KPR outside its header hold what the fast path writes; the derived key goes to SEC,
and a staging that the restart interrupted is given up in CFGV and in the headers of the staged blocks (R423). -/
theorem reg_keeperRestarted_fast (hon : s.domReady Dom.kpr = true) (hrom : s.f Blk.kpr KPR.KSTAT_STAGE = 0) {off : Nat}
    (h : 0x30 ≤ off) (ho : off < 4096) : (s.keeperRestarted us none).reg Blk.kpr off = (s.fastRestart us).reg Blk.kpr off := by
  have hkey : (s.fastRestart us).deriveKey.reg Blk.kpr off = (s.fastRestart us).reg Blk.kpr off :=
    reg_deriveKey _ (by decide) ho
  have hgiveUp : ∀ (t : State) (l : List Nat), (l.foldl discard t).reg Blk.kpr off = t.reg Blk.kpr off := fun t l =>
    foldl_keeps (fun t => t.reg Blk.kpr off) _ l (fun t b _ => reg_discard t b h ho) t
  unfold keeperRestarted
  rw [if_neg (by simp [hon, hrom])]
  extract_lets _ _ booted _ _ abandoned
  change booted.reg Blk.kpr off = _ at hkey
  split
  · calc (abandoned.cfgFail 12 _).reg Blk.kpr off = abandoned.reg Blk.kpr off :=
          (keepsRegs_cfgFail abandoned _ _).reg _ _ (by decide) (by decide) ho
      _ = booted.reg Blk.kpr off := hgiveUp booted _
      _ = (s.fastRestart us).reg Blk.kpr off := hkey
  · exact hkey

theorem f_keeperRestarted_fast (hon : s.domReady Dom.kpr = true) (hrom : s.f Blk.kpr KPR.KSTAT_STAGE = 0) {g : Fld}
    (h : 0x30 ≤ g.off) (ho : g.off < 4096) : (s.keeperRestarted us none).f Blk.kpr g = (s.fastRestart us).f Blk.kpr g := by
  unfold State.f
  rw [reg_keeperRestarted_fast us hon hrom h ho]

theorem fuse_keeperRestarted (fw : Option (List FwImage)) : (s.keeperRestarted us fw).fuse = s.fuse :=
  of_still State.fuse (fun _ => rfl) (keeperRestarted_still s us fw)

/-- Outside the steps of an exit nothing follows the restart. -/
theorem keeperBack_of_no_exit (hexit : s.pwr.exitStep = 0) (fw : Option (List FwImage)) :
    s.keeperBack us fw = s.keeperRestarted us fw := by
  unfold keeperBack
  simp [hexit]

end

end State
end Sys2Proof.Machine

open Sys2Proof Sys2Proof.Machine Sys2Proof.Machine.State

/-- Settles O51: LOCKSTEP records the disagreement in KPR and takes the Keeper back to its boot ROM, and the restart that ends
on the fast path leaves it running its firmware. -/
theorem lockstepRestart : Obligations.LockstepRestart := by
  unfold Obligations.LockstepRestart
  have hperf : Blk.perf ≠ Blk.kpr := by decide
  refine ⟨fun s hon => ?_, ?_⟩
  · refine gives_of (congrArg (finish s) (lockstep_of_ready hon)) ⟨?_, ?_, ?_, ?_, ?_, ?_, ?_⟩
    · rw [f_sent _ _ hperf (by decide), f_keeperRestart_apart _ (by decide), f_lockstepRecord_flag]
    · rw [f_sent _ _ hperf (by decide), f_keeperRestart_stage]
    · rw [f_sent _ _ hperf (by decide), f_keeperRestart_apart _ (by decide), f_lockstepRecord_cnt]
    · rw [intStat_sent _ _ hperf, intStat_keeperRestart, intStat_lockstepRecord]
    · exact keepsRegs_trans (keepsRegs_lockstepRecord s)
        (keepsRegs_trans (keepsRegs_keeperRestart _) (keepsRegs_sent _ _ _))
    · exact keepsUnitsBut_trans (keepsUnitsBut_of_keepsUnits (keepsUnits_of_rest (lockstepRecord_rest s)))
        (keepsUnitsBut_trans (keepsUnitsBut_keeperRestart _) (keepsUnitsBut_of_keepsUnits (keepsUnits_sent _ _)))
    · rw [of_sent (fun t => t.cfgv.active) (fun _ => rfl), cfgv_active_keeperRestart]
      exact of_rest (fun t => t.cfgv.active) (fun _ => rfl) (lockstepRecord_rest s)
  · rintro s us fw hon hrom hexit rfl
    refine gives_of (congrArg (finish s) (keeperBack_of_no_exit us hexit none)) ⟨?_, ?_, ?_⟩
    · rw [f_sent _ _ hperf (by decide), f_keeperRestarted_fast us hon hrom (by decide) (by decide), f_fastRestart_stage]
    · rw [f_sent _ _ hperf (by decide), f_keeperRestarted_fast us hon hrom (by decide) (by decide), f_fastRestart_fast]
    · rw [of_sent State.fuse (fun _ => rfl), fuse_keeperRestarted]
end

section
namespace Sys2Proof

/-- The rows whose operation leaves all that `still` keeps alone: every row but reset, the power changes, the rows that program or
pass through to the fuses, and those that move a pin, the I2C window, the sweep position or a clock. -/
def Instr.calm : Instr → Bool
  | .powerOnReset _ | .porstNLow | .entryStepDone | .exitStepDone _ _ | .domDone _ | .pciePerst | .linkUp _ _ _ _
  | .pcieConfigWrite _ _ _ | .dacClrFall | .dacClrRise | .stepApplied _ | .tpiEdge _ _ | .refclkLoss _ | .refclkReturn _
  | .refPllRelock | .paritySweep _ _ _ _ | .i2cWrite _ | .i2cRead _ | .i2cCmdRead | .i2cCmdWrite | .i2cCmdReadInc
  | .i2cCmdWriteInc | .i2cAccessDone | .regWrite _ _ _ _ | .holdingWrite _ _ _ | .offAccess _ _ _ _ | .hostMemWrite _ _ _ _
  | .provision _ | .field _ | .lcChanged _ | .arbCtl _ _ | .tokenCheckDone _ | .stagingDone | .keeperRestartDone _ _ => false
  | _ => true

namespace Machine
namespace State

theorem still_if {c : Prop} [Decidable c] {a s : State} (h : a.still = s.still) : (if c then a else s).still = s.still :=
  (still_ite ..).trans (ite_eq_of h rfl)

theorem accessBy_still_of {s : State} {q : Requester} {b off : Nat} {w : Bool} {k : State → State}
    (h : ∀ s, (k s).still = s.still) : (s.accessBy q b off w k).still = s.still := accessBy_still _ _ _ _ _ _ h

theorem twinRx_still_of {s : State} {a : MsgAuth} {k : State → State} (h : ∀ s, (k s).still = s.still) :
    (s.twinRx a k).still = s.still := twinRx_still _ _ _ h

/-- A calm row sends the messages of an operation that leaves all that `still` keeps alone. -/
theorem exec_calm {c : Instr} (hc : c.calm = true) (s : State) : ∃ u, exec c s = finish s u ∧ u.still = s.still := by
  cases c
  case powerOnReset | pciePerst | linkUp | regWrite | holdingWrite | offAccess | hostMemWrite | i2cWrite | i2cRead |
    i2cCmdRead | i2cCmdWrite | i2cCmdReadInc | i2cCmdWriteInc | i2cAccessDone | paritySweep | refclkLoss | refclkReturn |
    refPllRelock | dacClrFall | dacClrRise | stepApplied | tpiEdge | provision | field | lcChanged | arbCtl | tokenCheckDone |
    stagingDone | porstNLow | pcieConfigWrite | entryStepDone | exitStepDone | domDone | keeperRestartDone => cases hc
  case linkDown => exact ⟨_, rfl, linkDownEvent_still ..⟩
  case hostMemRead => exact ⟨_, rfl, hostRead_still ..⟩
  case unsupportedRequest => exact ⟨_, rfl, unsupportedRequest_still ..⟩
  case i2cAddressMatch => exact ⟨_, rfl, onI2c_still _ _ fun _ => wakeUp_still ..⟩
  case softReset | stageOn | stageOff => exact ⟨_, rfl, accessBy_still_of fun _ => blkCtl_still ..⟩
  case intForce => exact ⟨_, rfl, accessBy_still_of fun _ => headerWrite_still ..⟩
  case intStatClear => exact ⟨_, rfl, accessBy_still_of fun _ => intClear_still ..⟩
  case msixUnmask => exact ⟨_, rfl, unmask_still ..⟩
  case commitNow | discard | arm | disarm => exact ⟨_, rfl, accessBy_still_of fun _ => stageCtl_still ..⟩
  case parityRestore => exact ⟨_, rfl, parityRestore_still ..⟩
  case xtalFail => exact ⟨_, rfl, xtalFail_still ..⟩
  case pllEnable => exact ⟨_, rfl, accessBy_still_of fun _ => pllCtl_still ..⟩
  case pllLock => exact ⟨_, rfl, pllLock_still ..⟩
  case pllLockLost => exact ⟨_, rfl, pllLost_still ..⟩
  case lanePwrWrite _ c _ => cases c with
    | line c => exact ⟨_, rfl, accessBy_still_of fun _ => linePwr_still ..⟩
    | host k => exact ⟨_, rfl, accessBy_still_of fun _ => hostLanePwr_still ..⟩
  case slicePwrRdy => exact ⟨_, rfl, slicesReady_still ..⟩
  case rxCtlWrite => exact ⟨_, rfl, accessBy_still_of fun _ => rxCtl_still ..⟩
  case fgCalDone => exact ⟨_, rfl, fgCalDone_still ..⟩
  case sigDetRise => exact ⟨_, rfl, by split <;> [exact sigRise_still ..; exact hostSigRise_still ..]⟩
  case sigDetFall => exact ⟨_, rfl, by split <;> [exact sigFall_still ..; exact hostSigFall_still ..]⟩
  case cdrLockGain => exact ⟨_, rfl, by split <;> [exact cdrGain_still ..; exact hostCdrGain_still ..]⟩
  case cdrLockLoss => exact ⟨_, rfl, by split <;> [exact cdrLost_still ..; exact hostCdrLost_still ..]⟩
  case freqOorSet => exact ⟨_, rfl, by split <;> [exact oorSet_still ..; exact hostOorSet_still ..]⟩
  case freqOorClear => exact ⟨_, rfl, by split <;> [exact oorClear_still ..; exact hostOorClear_still ..]⟩
  case bgcalStepEnd => exact ⟨_, rfl, bgEnd_still ..⟩
  case coefDataWrite => exact ⟨_, rfl, accessBy_still_of fun _ => coefWrite_still ..⟩
  case coefDataRead => exact ⟨_, rfl, accessBy_still_of fun _ => (coefAdvance_still ..).trans (send_still ..)⟩
  case ffeResidueMismatch => exact ⟨_, rfl, still_if (ffeEvent_still ..)⟩
  case mlseResidueMismatch => exact ⟨_, rfl, still_if (mlseEvent_still ..)⟩
  case injFfe | injMlse => exact ⟨_, rfl, accessBy_still_of fun _ => resCtl_still ..⟩
  case counterClr => exact ⟨_, rfl, accessBy_still_of fun _ => counterCtlWrite_still ..⟩
  case counterSnap | counterLive => exact ⟨_, rfl, accessBy_still_of fun s => by split <;> [exact counterCtlWrite_still ..;
    rfl]⟩
  case eyeStart => exact ⟨_, rfl, accessBy_still_of fun _ => eyeCtl_still ..⟩
  case eyeDone => exact ⟨_, rfl, eyeDone_still ..⟩
  case txCtlWrite => exact ⟨_, rfl, accessBy_still_of fun _ => txCtl_still ..⟩
  case dacCalDone => exact ⟨_, rfl, dacCalDone_still ..⟩
  case dacBgcalStepEnd => exact ⟨_, rfl, dacBgEnd_still ..⟩
  case txCoefDataWrite => exact ⟨_, rfl, accessBy_still_of fun _ => txCoefWrite_still ..⟩
  case txCoefDataRead => exact ⟨_, rfl, accessBy_still_of fun _ => (txCoefAdvance_still ..).trans (send_still ..)⟩
  case txPdCtlWrite => exact ⟨_, rfl, accessBy_still_of fun _ => txPdWrite_still ..⟩
  case clrSeenClear => exact ⟨_, rfl, accessBy_still_of fun _ => txStat_still ..⟩
  case fecModeWrite => exact ⟨_, rfl, accessBy_still_of fun _ => fecLaneCtl_still ..⟩
  case innerWindowEnd => exact ⟨_, rfl, innerWindowEnd_still ..⟩
  case forceHunt => exact ⟨_, rfl, accessBy_still_of fun _ => innerCtl_still ..⟩
  case innerCodewordDecoded => exact ⟨_, rfl, innerCodeword_still ..⟩
  case lpcBlockPeriod => exact ⟨_, rfl, lpcPeriod_still ..⟩
  case lpcBlockEnd => exact ⟨_, rfl, lpcBlockEnd_still ..⟩
  case iterChg => exact ⟨_, rfl, iterChg_still ..⟩
  case rsCodewordMonitored => exact ⟨_, rfl, rsCodeword_still ..⟩
  case addOp | subOp | andOp | orOp | xorOp | sllOp | srlOp | sraOp | sltOp | sltuOp | minOp | maxOp | mulOp | mulhOp | cmp |
    addi | andi | ori | xori | slli | srli | srai | lui | cmpi | sati | lw | lh | lhu | sw | sh | br | jal | jr | loop | wait
    | halt | prd | pwr | vldp | vstp | vadd | vsub | vmul | vmin | vmax | vsgn | vshr | vshl | vsat | vand | vmov | vmac |
    vrda | vclr | vred | vbc | vext | vins | vld | vst => exact ⟨_, rfl, engIssue_still ..⟩
  case illegalInstruction => exact ⟨_, rfl, engIllegal_still ..⟩
  case engineWatchdog => exact ⟨_, rfl, engWatchdog_still ..⟩
  case rxSwap | txSwap | pdOut | phofsStep | slotMap | gaAck | histStart | timerCmp | mbxDone | mbxNote | pwrRsp | trnReq |
    trnReady => exact ⟨_, rfl, primEvent_still ..⟩
  case histDone => exact ⟨_, rfl, laneHistEnd_still ..⟩
  case gaWindowEnd => exact ⟨_, rfl, laneGaEnd_still ..⟩
  case timerMatch => exact ⟨_, rfl, timerMatch_still ..⟩
  case engineRun | engineStep => exact ⟨_, rfl, accessBy_still_of fun _ => leCtl_still ..⟩
  case ucDataWrite => exact ⟨_, rfl, accessBy_still_of fun _ => ucDataWrite_still ..⟩
  case ucSeal | invalidate => exact ⟨_, rfl, accessBy_still_of fun _ => ucSeal_still ..⟩
  case sealed => exact ⟨_, rfl, ucSealed_still ..⟩
  case microcodeSwap => exact ⟨_, rfl, ucSwapNow_still ..⟩
  case mbxCmd => exact ⟨_, rfl, accessBy_still_of fun _ => mbxCmd_still ..⟩
  case train => exact ⟨_, rfl, lineTrain_still ..⟩
  case freeze => exact ⟨_, rfl, lineFreeze_still ..⟩
  case resume => exact ⟨_, rfl, lineResume_still ..⟩
  case setMu => exact ⟨_, rfl, lineSetMu_still ..⟩
  case setLoop => exact ⟨_, rfl, lineSetLoop_still ..⟩
  case status => exact ⟨_, rfl, lineStatus_still ..⟩
  case eye => exact ⟨_, rfl, lineEye_still ..⟩
  case remap => exact ⟨_, rfl, lineRemap_still ..⟩
  case spareTrain => exact ⟨_, rfl, lineSpareTrain_still ..⟩
  case stop => exact ⟨_, rfl, lineStop_still ..⟩
  case adapt => exact ⟨_, rfl, hostAdapt_still ..⟩
  case hostFreeze => exact ⟨_, rfl, hostFreeze_still ..⟩
  case hostResume => exact ⟨_, rfl, hostResume_still ..⟩
  case hostSetMu => exact ⟨_, rfl, hostSetMu_still ..⟩
  case hostStatus => exact ⟨_, rfl, hostStatus_still ..⟩
  case setPreset => exact ⟨_, rfl, hostPreset_still ..⟩
  case hostStop => exact ⟨_, rfl, hostStop_still ..⟩
  case hlCtlWrite => exact ⟨_, rfl, accessBy_still_of fun _ => hlCtl_still ..⟩
  case hlCalDone => exact ⟨_, rfl, hostCalDone_still ..⟩
  case blockLock => exact ⟨_, rfl, blockLock_still ..⟩
  case capabilityPageRx => exact ⟨_, rfl, pageRx_still ..⟩
  case capabilityPageTx => exact ⟨_, rfl, pageTx_still ..⟩
  case switchElapsed => exact ⟨_, rfl, switchElapsed_still ..⟩
  case trainingFrameRx => exact ⟨_, rfl, trainFrame_still ..⟩
  case trainLimit => exact ⟨_, rfl, trainLimit_still ..⟩
  case negTimerLimit => exact ⟨_, rfl, negTimerLimit_still ..⟩
  case linkDownTimeout => exact ⟨_, rfl, linkDownTimeout_still ..⟩
  case restart => exact ⟨_, rfl, accessBy_still_of fun _ => negCtl_still ..⟩
  case rxIdleSet => exact ⟨_, rfl, rxIdleSet_still ..⟩
  case rxIdleClear => exact ⟨_, rfl, rxIdleClear_still ..⟩
  case fastExitMarker => exact ⟨_, rfl, fastExit_still ..⟩
  case hcoefDataWrite => exact ⟨_, rfl, accessBy_still_of fun _ => hcoefWrite_still ..⟩
  case muxLock => exact ⟨_, rfl, muxLock_still ..⟩
  case muxLockLost => exact ⟨_, rfl, muxUnlock_still ..⟩
  case markerLock => exact ⟨_, rfl, (markerLock_still ..).trans (freewheelEnd_still ..)⟩
  case deskewDone => exact ⟨_, rfl, deskewDone_still ..⟩
  case markerLoss => exact ⟨_, rfl, markerLoss_still ..⟩
  case lanesNotReady => exact ⟨_, rfl, portEval_still ..⟩
  case forceTx | forceRx => exact ⟨_, rfl, accessBy_still_of fun _ => alignCtl_still ..⟩
  case slip => exact ⟨_, rfl, slip_still ..⟩
  case monWindowEnd => exact ⟨_, rfl, monWindowEnd_still ..⟩
  case pairHail | pairRelease => exact ⟨_, rfl, accessBy_still_of fun _ => pairCtl_still ..⟩
  case hailTimer => exact ⟨_, rfl, hailTimer_still ..⟩
  case hailLimit => exact ⟨_, rfl, hailLimit_still ..⟩
  case confirmWaitExpiry => exact ⟨_, rfl, confirmWait_still ..⟩
  case heartbeatTimer => exact ⟨_, rfl, heartbeatTimer_still ..⟩
  case adrift => exact ⟨_, rfl, twinAdrift_still ..⟩
  case adriftLimit => exact ⟨_, rfl, adriftLimit_still ..⟩
  case hail => exact ⟨_, rfl, rxHail_still ..⟩
  case answer => exact ⟨_, rfl, rxAnswer_still ..⟩
  case confirm => exact ⟨_, rfl, rxConfirm_still ..⟩
  case heartbeat => exact ⟨_, rfl, twinRx_still_of fun _ => rxHeartbeat_still ..⟩
  case pos => exact ⟨_, rfl, twinRx_still_of fun _ => rxPos_still ..⟩
  case posAck => exact ⟨_, rfl, twinRx_still_of fun _ => rxPosAck_still ..⟩
  case posRun => exact ⟨_, rfl, accessBy_still_of fun _ => posCtl_still ..⟩
  case posAutoRerun => exact ⟨_, rfl, posAuto_still ..⟩
  case rangeRun => exact ⟨_, rfl, accessBy_still_of fun _ => rangeCtl_still ..⟩
  case range => exact ⟨_, rfl, twinRx_still_of rxRange_still⟩
  case rangeEcho => exact ⟨_, rfl, twinRx_still_of fun _ => rxRangeEcho_still ..⟩
  case coordStart | coordAbort => exact ⟨_, rfl, accessBy_still_of fun _ => coordCtl_still ..⟩
  case propose => exact ⟨_, rfl, twinRx_still_of fun _ => rxPropose_still ..⟩
  case accept => exact ⟨_, rfl, twinRx_still_of fun _ => rxAccept_still ..⟩
  case reject => exact ⟨_, rfl, twinRx_still_of fun _ => rxReject_still ..⟩
  case go => exact ⟨_, rfl, twinRx_still_of fun _ => rxGo_still ..⟩
  case abort => exact ⟨_, rfl, twinRx_still_of fun _ => rxAbort_still ..⟩
  case coordCutoff => exact ⟨_, rfl, coordCutoff_still ..⟩
  case prepare | switch | returnOp | spareAbort | assign | force => exact ⟨_, rfl, accessBy_still_of fun _ => spareCtl_still
    ..⟩
  case spareReq => exact ⟨_, rfl, twinRx_still_of fun _ => rxSpareReq_still ..⟩
  case spareRsp => exact ⟨_, rfl, twinRx_still_of fun _ => rxSpareRsp_still ..⟩
  case spareStatus => exact ⟨_, rfl, twinRx_still_of fun _ => rxSpareStatus_still ..⟩
  case spareMatch => exact ⟨_, rfl, spareMatch_still ..⟩
  case spareMismatch => exact ⟨_, rfl, spareMismatch_still ..⟩
  case spareTrainLimit => exact ⟨_, rfl, spareLimit_still ..⟩
  case emergency => exact ⟨_, rfl, emergency_still ..⟩
  case emergencyIdentified => exact ⟨_, rfl, emergIdentified_still ..⟩
  case healthRequest => exact ⟨_, rfl, accessBy_still_of fun _ => healthCtl_still ..⟩
  case healthReq => exact ⟨_, rfl, twinRx_still_of rxHealthReq_still⟩
  case health => exact ⟨_, rfl, twinRx_still_of fun _ => rxHealth_still ..⟩
  case release => exact ⟨_, rfl, twinRx_still_of rxRelease_still⟩
  case releaseAck => exact ⟨_, rfl, twinRx_still_of rxReleaseAck_still⟩
  case releaseResend => exact ⟨_, rfl, releaseResend_still ..⟩
  case txQctlGo => exact ⟨_, rfl, accessBy_still_of fun _ => fogQueue_still ..⟩
  case packetTxStart => exact ⟨_, rfl, fogTxStart_still ..⟩
  case txDone => exact ⟨_, rfl, fogTxDone_still ..⟩
  case fogRxEnable => exact ⟨_, rfl, accessBy_still_of fun _ => fogCtl_still ..⟩
  case preambleDetection => exact ⟨_, rfl, fogPreamble_still ..⟩
  case preambleEnd => exact ⟨_, rfl, fogPreEnd_still ..⟩
  case frameMarker => exact ⟨_, rfl, fogMarker_still ..⟩
  case headerDecoded => exact ⟨_, rfl, fogHeader_still ..⟩
  case payloadEnd => exact ⟨_, rfl, fogPayload_still ..⟩
  case trackLost => exact ⟨_, rfl, fogTrackLost_still ..⟩
  case rxPop => exact ⟨_, rfl, accessBy_still_of fun _ => fogPop_still ..⟩
  case dutyListen => exact ⟨_, rfl, fogDuty_still ..⟩
  case freqWrite => exact ⟨_, rfl, accessBy_still_of fun _ => tbRate_still ..⟩
  case stepSet | stepAdd | stepSetTpi | stepCancel | clrCoarse | tbEnable => exact ⟨_, rfl, accessBy_still_of fun _ =>
    tbCtl_still ..⟩
  case snap | evtTbWrite | tpiPop => exact ⟨_, rfl, accessBy_still_of fun _ => timeWrite_still ..⟩
  case frameStamp => exact ⟨_, rfl, frameStamp_still ..⟩
  case ptPop | ltPop => exact ⟨_, rfl, accessBy_still_of fun _ => tsuWrite_still ..⟩
  case tpoEdge => exact ⟨_, rfl, tpoEdge_still ..⟩
  case seWrite | histPop => exact ⟨_, rfl, accessBy_still_of fun _ => schedWrite_still ..⟩
  case entryFire => exact ⟨_, rfl, seCycle_still ..⟩
  case schedWake => exact ⟨_, rfl, schedWake_still ..⟩
  case refCtlWrite | hkPop => exact ⟨_, rfl, accessBy_still_of fun _ => hkWrite_still ..⟩
  case refSettled => exact ⟨_, rfl, hkRefSettled_still ..⟩
  case seqStart | seqStop => exact ⟨_, rfl, accessBy_still_of fun _ => hkCtl_still ..⟩
  case hkResult => exact ⟨_, rfl, hkResult_still ..⟩
  case hkCalStart => exact ⟨_, rfl, accessBy_still_of fun _ => hkCalCtl_still ..⟩
  case calDone => exact ⟨_, rfl, hkCalDone_still ..⟩
  case hkRxWrite => exact ⟨_, rfl, accessBy_still_of fun _ => fogHkRx_still ..⟩
  case fcoefDataWrite => exact ⟨_, rfl, accessBy_still_of fun _ => filtWrite_still ..⟩
  case chCodeWrite | strobe => exact ⟨_, rfl, accessBy_still_of fun _ => hdacWrite_still ..⟩
  case streamResume | modeChange => exact ⟨_, rfl, accessBy_still_of fun _ => hdacCtl_still ..⟩
  case changeDone => exact ⟨_, rfl, hdacChangeDone_still ..⟩
  case shortCircuit | shortCircuitEnd => exact ⟨_, rfl, hdacShort_still ..⟩
  case compliance | complianceEnd => exact ⟨_, rfl, hdacCompliance_still ..⟩
  case meas => exact ⟨_, rfl, accessBy_still_of fun _ => measCtl_still ..⟩
  case measTimer => exact ⟨_, rfl, measTimer_still ..⟩
  case measurementDone => exact ⟨_, rfl, measDone_still ..⟩
  case forceBand => exact ⟨_, rfl, accessBy_still_of fun _ => bandCtl_still ..⟩
  case invalCtl | sealCtl | repApply => exact ⟨_, rfl, accessBy_still_of fun _ => memWriteReg_still ..⟩
  case invalDone => exact ⟨_, rfl, memInvalDone_still ..⟩
  case sealDone => exact ⟨_, rfl, memSealDone_still ..⟩
  case ddrInit | ddrSealCtl | pvCtl => exact ⟨_, rfl, accessBy_still_of fun _ => ddrWriteReg_still ..⟩
  case ddrTrained => exact ⟨_, rfl, ddrTrained_still ..⟩
  case ddrRefresh => exact ⟨_, rfl, ddrRefresh_still ..⟩
  case phyRecentre => exact ⟨_, rfl, ddrRecentre_still ..⟩
  case sramScrub => exact ⟨_, rfl, sramScrub_still ..⟩
  case ddrScrub => exact ⟨_, rfl, ddrScrub_still ..⟩
  case goldenReload => exact ⟨_, rfl, goldReload_still ..⟩
  case chTailWrite | ringWrite | dmaRun | dmaStop | dmaAbort | tapCtlWrite => exact ⟨_, rfl, accessBy_still_of fun _ =>
    dmaWriteReg_still ..⟩
  case descriptorStart => exact ⟨_, rfl, still_if (dmaStart_still ..)⟩
  case descriptorComplete => exact ⟨_, rfl, still_if (dmaDone_still ..)⟩
  case lateWriteErr => exact ⟨_, rfl, still_if (dmaLate_still ..)⟩
  case shareWindow => exact ⟨_, rfl, dmaWindow_still ..⟩
  case tapBlockClose => exact ⟨_, rfl, still_if (tapDue_still ..)⟩
  case aliasCtlWrite => exact ⟨_, rfl, accessBy_still_of fun _ => dmaAliasCtl_still ..⟩
  case logDrain => exact ⟨_, rfl, logDrain_still ..⟩
  case drainWrite | anchClrWrite | hrec => exact ⟨_, rfl, accessBy_still_of fun _ => logWriteReg_still ..⟩
  case powerRequest | pcieWake | domOn | domOff | pmbEnable => exact ⟨_, rfl, accessBy_still_of fun _ => pwrWriteReg_still ..⟩
  case handshakeAnswer => exact ⟨_, rfl, hsReply_still ..⟩
  case handshakeDelayExpiry => exact ⟨_, rfl, hsExpire_still ..⟩
  case handshakeTimeout => exact ⟨_, rfl, hsTimeout_still ..⟩
  case wakePin => exact ⟨_, rfl, wakePin_still ..⟩
  case wake => exact ⟨_, rfl, wakeAct_still ..⟩
  case voltageRequest => exact ⟨_, rfl, avsUpdate_still ..⟩
  case pmbusPoll => exact ⟨_, rfl, pmbPoll_still ..⟩
  case attemptTimeout => exact ⟨_, rfl, attemptFail_still ..⟩
  case pmbAlert => exact ⟨_, rfl, pmbAlert_still ..⟩
  case keeperLoad | keeperRestart | keeperHalt | keeperStep => exact ⟨_, rfl, accessBy_still_of fun _ => kctl_still ..⟩
  case lockstep => exact ⟨_, rfl, lockstep_still ..⟩
  case chalNew | request | submit | lock => exact ⟨_, rfl, accessBy_still_of fun _ => dbgCtl_still ..⟩
  case unlockExpiry => exact ⟨_, rfl, unlockExpiry_still ..⟩
  case apply | versionConfirm | rollback => exact ⟨_, rfl, accessBy_still_of fun _ => cfgvWrite_still ..⟩
  case verifyingDone => exact ⟨_, rfl, verifyingDone_still ..⟩
  case confirmTimeout => exact ⟨_, rfl, confirmTimeout_still ..⟩
  case bistStart | bistStop => exact ⟨_, rfl, accessBy_still_of fun _ => bistCtl_still ..⟩
  case bistPrecondLapse => exact ⟨_, rfl, (bistResume_still ..).trans (bistLapse_still ..)⟩
  case bistDone => exact ⟨_, rfl, (bistResume_still ..).trans (bistDone_still ..)⟩
  case laneBistStart => exact ⟨_, rfl, accessBy_still_of fun _ => laneTest_still ..⟩
  case laneDone => exact ⟨_, rfl, laneTestDone_still ..⟩
  case clrAll | globalEn => exact ⟨_, rfl, accessBy_still_of fun _ => perfCtl_still ..⟩
  case blockLockLost => exact ⟨_, rfl, blockLockLost_still ..⟩
  case pvDone => exact ⟨_, rfl, ddrPvDone_still ..⟩
  case xtalResume => exact ⟨_, rfl, xtalResume_still ..⟩

end State
end Machine
end Sys2Proof
end

section
namespace Sys2Proof.Machine
namespace State

/-! ### What the rows may move, watched together -/

/-- The queue, the domains, the pins, the configuration bits of the PCIe function and the time bases. -/
def watched (s : State) : State :=
  { ({} : State) with
    pending := s.pending, domOn := s.domOn, perst := s.perst, clrPin := s.clrPin, msixEn := s.msixEn, busMaster := s.busMaster,
    d3hot := s.d3hot, tb := s.tb }

theorem watched_still {s t : State} (h : t.still = s.still) : t.watched = s.watched := of_still watched (fun _ => rfl) h

theorem watched_unfused {s t : State} (h : t.still.unfused = s.still.unfused) : t.watched = s.watched :=
  of_unfused watched (fun _ => rfl) h

theorem watched_rest {s t : State} (h : t.rest = s.rest) : t.watched = s.watched := of_rest watched (fun _ => rfl) h

theorem watched_foldl {α : Type} {g : State → α → State} (h : ∀ s x, (g s x).watched = s.watched) (l : List α) (s : State) :
    (l.foldl g s).watched = s.watched := foldl_keeps watched g l (fun s x _ => h s x) s

theorem watched_if {c : Prop} [Decidable c] {a s : State} (h : a.watched = s.watched) :
    (if c then a else s).watched = s.watched := by
  split
  · exact h
  · rfl

theorem watched_if_not {c : Prop} [Decidable c] {a s : State} (h : a.watched = s.watched) :
    (if c then s else a).watched = s.watched := by
  split
  · rfl
  · exact h

/-! ### The I2C window, the sweep position and the reference clock -/

theorem modI2c_watched (s : State) (g : I2cTarget → I2cTarget) : (s.modI2c g).watched = s.watched := rfl

theorem i2cBump_watched (s : State) (c : Nat) : (s.i2cBump c).watched = s.watched := watched_if rfl

theorem i2cStart_watched (s : State) (c : Nat) : (s.i2cStart c).watched = s.watched := by
  unfold i2cStart
  split
  · rfl
  · split
    · rfl
    · dsimp only
      split
      · exact i2cBump_watched ..
      · rfl

theorem i2cByte_watched (r : State × Option Nat) (x : Byte) : (i2cByte r x).1.watched = r.1.watched := rfl

theorem i2cWrite_watched (s : State) (l : List Byte) : (s.i2cWrite l).watched = s.watched := by
  have hbytes : ∀ (l : List Byte) (r : State × Option Nat), (l.foldl i2cByte r).1.watched = r.1.watched := fun l r =>
    foldl_fix (fun r : State × Option Nat => r.1.watched) _ l i2cByte_watched r
  unfold i2cWrite
  split
  · rfl
  · extract_lets r
    split
    · exact (i2cStart_watched ..).trans (hbytes ..)
    · exact hbytes ..

theorem i2cDone_watched (s : State) : s.i2cDone.watched = s.watched := by
  unfold i2cDone
  extract_lets c a aon off r s1
  have haccess : s1.watched = s.watched := by
    dsimp only [s1]
    split
    · exact (modI2c_watched ..).trans (watched_still (busRead_still ..))
    · exact (modI2c_watched ..).trans (watched_unfused (busWrite_unfused ..))
  split
  · rfl
  · split
    · rfl
    · exact (i2cBump_watched ..).trans haccess

theorem sweepTo_watched (s : State) (b off : Nat) : (s.sweepTo b off).watched = s.watched := by
  unfold sweepTo
  extract_lets pos us s1 s2 s3
  have hlap : s2.watched = s.watched := watched_if_not rfl
  exact hlap

theorem paritySweep_watched (s : State) (b off : Nat) (shadow : Bool) (m : BitVec 33) :
    (s.paritySweep b off shadow m).watched = s.watched := by
  unfold paritySweep
  extract_lets prot s1 key
  have hswept : s1.watched = s.watched := (sweepTo_watched ..).trans (watched_still (regUpset_still ..))
  split
  · rfl
  · split
    · exact (watched_still (parityReport_still ..)).trans hswept
    · exact hswept

theorem refLoss_watched (s : State) (ppm : BitVec 16) : (s.refLoss ppm).watched = s.watched := by
  unfold refLoss
  extract_lets s1 s2 s3 s4 s5
  have h1 : s1.watched = s.watched := watched_still ((flag_still ..).trans (setF_still ..))
  have h3 : s3.watched = s1.watched := rfl
  have h4 : s4.watched = s3.watched :=
    watched_if (s := s3) (watched_foldl (fun _ _ => watched_if (watched_still (setF_still ..))) _ s3)
  have h5 : s5.watched = s4.watched := watched_foldl (fun _ _ => watched_if (watched_still (setF_still ..))) _ s4
  split
  · rfl
  · refine .trans (watched_still ?_) (h5.trans (h4.trans (h3.trans h1)))
    rw [hsRefLost_still, portsEval_still, holdoverAll_still, squelchAll_still]

theorem refReturn_watched (s : State) (ppm : BitVec 16) : (s.refReturn ppm).watched = s.watched := by
  unfold refReturn
  split
  · rfl
  · split
    · rfl
    · refine .trans (watched_still (raise_still ..)) ?_
      rfl

theorem refRelock_watched (s : State) : s.refRelock.watched = s.watched := by
  unfold refRelock
  extract_lets edges tol unc s1 s2 s3
  have h2 : s2.watched = s.watched := rfl
  have h3 : s3.watched = s2.watched := watched_if (s := s2)
    (watched_foldl (fun _ _ => watched_if (watched_still ((tbSeed_still ..).trans (setReg_still ..)))) _ s2)
  split
  · rfl
  · exact (watched_still ((portsEval_still ..).trans (squelchAll_still ..))).trans (h3.trans h2)

/-! ### The pins of the function and of the analog outputs -/

theorem pendSend_watched (s : State) (v : Nat) : (s.pendSend v).watched = s.watched := watched_still (pendSend_still ..)

/-- What is watched without PCIE_PERST_N. -/
def perstFree (s : State) : State := { s.watched with perst := false }

/-- What is watched without DAC_CLR_N. -/
def clrFree (s : State) : State := { s.watched with clrPin := false }

/-- What is watched without the configuration bits of the PCIe function. -/
def functionFree (s : State) : State := { s.watched with msixEn := false, busMaster := false, d3hot := false }

theorem linkUpEvent_perstFree (s : State) (speed width : Nat) (flit reversed : Bool) :
    (s.linkUpEvent speed width flit reversed).perstFree = s.perstFree := by
  unfold linkUpEvent
  extract_lets s1 s2 s3 s4
  have h4 : s4.perstFree = s.perstFree := rfl
  split
  · rfl
  · refine .trans ?_ h4
    split
    · exact foldl_keeps perstFree _ _ (fun t v _ => of_still perstFree (fun _ => rfl) (pendSend_still t v)) s4
    · rfl

/-- PCIE_PERST moves the pin and what it resets of the function. -/
theorem pcieReset_watched (s : State) : s.pcieReset.watched =
    { s.watched with perst := true, msixEn := false, busMaster := false, d3hot := false } := by
  unfold pcieReset
  extract_lets s1
  exact watched_if (s := s1) rfl

theorem configWrite_functionFree (s : State) (d b m : Bool) : (s.configWrite d b m).functionFree = s.functionFree := by
  unfold configWrite
  split <;> rfl

theorem clrFall_clrFree (s : State) : s.clrFall.clrFree = s.clrFree := by
  unfold clrFall
  extract_lets s1
  have h1 : s1.clrFree = s.clrFree := rfl
  have hlanes : ((List.range 17).foldl clrFallLane s1).clrFree = s1.clrFree :=
    foldl_keeps clrFree _ _ (fun t n _ => of_still clrFree (fun _ => rfl) (clrFallLane_still t n)) s1
  split
  · rfl
  · split
    · exact (of_still clrFree (fun _ => rfl) ((hdacFall_still ..).trans (squelchAll_still ..))).trans (hlanes.trans h1)
    · exact h1

theorem clrRise_clrFree (s : State) : s.clrRise.clrFree = s.clrFree :=
  of_still (t := { s with clrPin := true }) clrFree (fun _ => rfl) ((hdacRise_still ..).trans (squelchAll_still ..))

/-! ### The value of a time base -/

/-- What is watched without the time bases. -/
def untimed (s : State) : State := { s.watched with tb := [] }

theorem untimed_still {s t : State} (h : t.still = s.still) : t.untimed = s.untimed := of_still untimed (fun _ => rfl) h

theorem stepApply_untimed (s : State) (n : Nat) : (s.stepApply n).untimed = s.untimed := by
  unfold stepApply
  split
  · rfl
  · extract_lets s1 old sum s2 s3
    have h1 : s1.untimed = s.untimed := untimed_still (stepCancel_still ..)
    split
    · exact (untimed_still (stepRefuse_still ..)).trans h1
    · exact (untimed_still ((tbMoved_still ..).trans (raise_still ..))).trans h1

theorem stepTick_untimed (s : State) (n : Nat) : (s.stepTick n).untimed = s.untimed := by
  unfold stepTick
  split
  · split
    · exact stepApply_untimed ..
    · rfl
  · rfl

theorem tpiEdge_untimed (s : State) (j : Nat) (falling : Bool) : (s.tpiEdge j falling).untimed = s.untimed := by
  unfold tpiEdge
  extract_lets s1 q x s2 c
  have h1 : s1.untimed = s.untimed := by
    refine foldl_keeps untimed _ _ (fun s n _ => ?_) s
    split
    · split
      · exact stepApply_untimed ..
      · rfl
    · rfl
  have h2 : s2.untimed = s1.untimed := untimed_still (stampAt_still ..)
  split
  · rfl
  · split
    · exact h1
    · split
      · exact (untimed_still (flag_still ..)).trans h1
      · refine .trans (untimed_still (raise_still ..)) (.trans ?_ (h2.trans h1))
        rfl

/-! ### Power changes leave PCIE_PERST_N and DAC_CLR_N alone -/

/-- The queue and the two pins. -/
def pins (s : State) : State := { ({} : State) with pending := s.pending, perst := s.perst, clrPin := s.clrPin }

theorem pins_still {s t : State} (h : t.still = s.still) : t.pins = s.pins := of_still pins (fun _ => rfl) h

theorem pins_unfused {s t : State} (h : t.still.unfused = s.still.unfused) : t.pins = s.pins :=
  of_unfused pins (fun _ => rfl) h

theorem pins_foldl {α : Type} {g : State → α → State} (h : ∀ s x, (g s x).pins = s.pins) (l : List α) (s : State) :
    (l.foldl g s).pins = s.pins := foldl_keeps pins g l (fun s x _ => h s x) s

theorem pins_if {c : Prop} [Decidable c] {a s : State} (h : a.pins = s.pins) : (if c then a else s).pins = s.pins := by
  split
  · exact h
  · rfl

theorem pins_if_not {c : Prop} [Decidable c] {a s : State} (h : a.pins = s.pins) : (if c then s else a).pins = s.pins := by
  split
  · rfl
  · exact h

theorem pins_ite {c : Prop} [Decidable c] {a b : State} {x : State} (ha : a.pins = x) (hb : b.pins = x) :
    (if c then a else b).pins = x := by
  split
  · exact ha
  · exact hb

theorem setTb_pins (s : State) (n v : Nat) : (s.setTb n v).pins = s.pins := rfl

theorem timeRestore_pins (s : State) (kept : Bool) : (s.timeRestore kept).pins = s.pins := by
  unfold timeRestore
  extract_lets a1 s1 s2 unc s3 s4
  have h1 : s1.pins = s.pins := pins_if_not (pins_still (tableLostShow_still ..))
  have h3 : s3.pins = s2.pins := by
    refine pins_foldl (fun t x => ?_) _ s2
    extract_lets n t1 t2 t3 t4
    have h1 : t1.pins = t.pins := pins_still ((setReg_still ..).trans (setReg_still ..))
    have h2 : t2.pins = t1.pins := setTb_pins ..
    have h3 : t3.pins = t2.pins := pins_still ((setF_still ..).trans ((setF_still ..).trans (setF_still ..)))
    have h4 : t4.pins = t3.pins := pins_still ((tbSeed_still ..).trans (setReg_still ..))
    exact pins_ite ((setTb_pins ..).trans h1)
      ((pins_still ((tbMoved_still ..).trans (flag_still ..))).trans (h4.trans (h3.trans (h2.trans h1))))
  exact (pins_still (setF_still ..)).trans (h3.trans h1)

theorem pcieDown_pins (s : State) (keep : Bool) : (s.pcieDown keep).pins = s.pins := by
  unfold pcieDown
  exact pins_ite rfl rfl

theorem forgetTime_pins (t : State) : { t with tb := [], portTsu := [], laneTsu := [], tpoIssued := [] }.pins = t.pins := rfl

theorem forgetStamps_pins (t : State) (p : SMap PortTsu) (l : SMap LaneTsu) :
    { t with portTsu := p, laneTsu := l }.pins = t.pins := rfl

theorem forgetHist_pins (t : State) : { t with tpi := [], tbStep := [], sched := { t.sched with hist := [] } }.pins =
    t.pins := rfl

theorem timeDown_pins (s : State) (keep : Bool) : (s.timeDown keep).pins = s.pins := by
  unfold timeDown
  extract_lets sched s1 s2 s3 s4
  have h1 : s1.pins = s.pins := forgetHist_pins s
  have h2 : s2.pins = s1.pins := pins_foldl (fun _ _ => pins_still (setF_still ..)) _ s1
  have h3 : s3.pins = s2.pins := pins_foldl (fun _ _ => pins_still (setF_still ..)) _ s2
  have h4 : s4.pins = s1.pins := pins_still (tableLost_still s1)
  split
  · exact (forgetStamps_pins s3 _ _).trans (h3.trans (h2.trans h1))
  · exact (forgetTime_pins s4).trans (h4.trans h1)

theorem unitsDown_pins (s : State) (d : BitVec 24) (r : Retain) : (s.unitsDown d r).pins = s.pins := by
  unfold unitsDown
  extract_lets has k s1 s2 s3 s4 s5 s6 tap s7
  have h1 : s1.pins = s.pins := pins_if rfl
  have h2 : s2.pins = s1.pins := pins_if (pcieDown_pins ..)
  have h3 : s3.pins = s2.pins := pins_if (pins_still (fogDown_still ..))
  have h4 : s4.pins = s3.pins :=
    pins_foldl (fun _ _ => pins_if (pins_foldl (fun _ _ => pins_still (lineDown_still ..)) _ _)) _ s3
  have h5 : s5.pins = s4.pins := pins_if (pins_still (lineDown_still ..))
  have h6 : s6.pins = s5.pins := pins_foldl (fun _ _ => pins_if (pins_still (hostDown_still ..))) _ s5
  have h7 : s7.pins = s6.pins := pins_if rfl
  exact (pins_if (timeDown_pins ..)).trans
    (h7.trans (h6.trans (h5.trans (h4.trans (h3.trans (h2.trans h1))))))

theorem domainsDown_pins (s : State) (d : BitVec 24) (r : Retain) : (s.domainsDown d r).pins = s.pins := by
  unfold domainsDown
  extract_lets d s1 unlocked s2 s3 ddr pwr s4
  have h1 : s1.pins = s.pins := pins_still (bistParents_still ..)
  have h2 : s2.pins = s1.pins := (pins_still ((pagesDown_still ..).trans (coresDown_still ..))).trans (unitsDown_pins ..)
  have h3 : s3.pins = s2.pins := pins_if (pins_still (setF_still ..))
  have h4 : s4.pins = s3.pins := rfl
  exact (pins_still ((portsEval_still ..).trans ((squelchAll_still ..).trans (analogDown_still ..)))).trans
    (h4.trans (h3.trans (h2.trans h1)))

theorem bistHold_pins (s : State) : s.bistHold.pins = s.pins := by
  unfold bistHold
  extract_lets s1 s2
  have h1 : s1.pins = s.pins := pins_still (setF_still ..)
  have h2 : s2.pins = s1.pins := domainsDown_pins ..
  clear_value s2
  exact h2.trans h1

theorem domainUp_pins (s : State) (d : Nat) (ddrKept : Bool) : (s.domainUp d ddrKept).pins = s.pins := by
  unfold domainUp
  extract_lets s1
  have h1 : s1.pins = s.pins := rfl
  refine .trans (pins_still ?_) h1
  split
  · exact (squelchAll_still ..).trans (hkPowerUp_still ..)
  · split
    · exact fogUp_still ..
    · split
      · exact (tableLostShow_still ..).trans (modPwr_still ..)
      · split
        · exact (still_ite ..).trans (ite_eq_of rfl (ddrResume_still ..))
        · exact (portsEval_still ..).trans (squelchAll_still ..)

theorem bootDomain_pins (s : State) (d : Nat) : (s.bootDomain d).pins = s.pins := by
  unfold bootDomain
  extract_lets parent s1
  have h1 : s1.pins = s.pins := (pins_unfused (domRepairs_unfused ..)).trans (domainUp_pins ..)
  exact pins_if_not ((pins_if (pins_still (hkRecords_still ..))).trans h1)

theorem bootDomains_pins (s : State) (m : BitVec 24) : (s.bootDomains m).pins = s.pins :=
  (pins_foldl bootDomain_pins _ _).trans (pins_foldl bootDomain_pins _ s)

theorem bootApply_pins (s : State) : s.bootApply.pins = s.pins := by
  unfold bootApply
  extract_lets l s1 s2 s3 s4 hasLog hasDdr
  have h1 : s1.pins = s.pins := pins_foldl (fun _ _ => pins_unfused (domRepairs_unfused ..)) _ s
  have h2 : s2.pins = s1.pins := by
    refine pins_foldl (fun t r => ?_) _ s1
    split
    · exact (pins_unfused (keeperWrite_unfused ..)).trans (bootDomains_pins ..)
    · rfl
  have h3 : s3.pins = s2.pins := by
    refine pins_foldl (fun t r => ?_) _ s2
    split
    · exact bootDomains_pins ..
    · rfl
  have h4 : s4.pins = s3.pins := pins_foldl (fun _ _ => pins_unfused (bootRecord_unfused ..)) _ s3
  exact (pins_if (pins_still (drainStart_still ..))).trans (h4.trans (h3.trans (h2.trans h1)))

theorem boot_pins (s : State) (x : BootInput) (cause : Nat) : (s.boot x cause).pins = s.pins := by
  unfold boot
  extract_lets s1 flash s2 s3 stage s4 s5 bad s6 s7 s8 s9 s10
  have h2 : s2.pins = s.pins := rfl
  have h3 : s3.pins = s2.pins := pins_still ((firmwareBoot_still ..).trans (setReg_still ..))
  have h5 : s5.pins = s3.pins :=
    (pins_still (porBist_still ..)).trans (pins_still ((setF_still ..).trans ((bootBundle_still ..).trans (bootConfig_still ..))))
  have h6 : s6.pins = s5.pins := pins_if_not (domainsDown_pins ..)
  have h7 : s7.pins = s6.pins := rfl
  have h8 : s8.pins = s6.pins := (pins_still ((setF_still ..).trans ((setB_still ..).trans (setReg_still ..)))).trans h7
  have h9 : s9.pins = s8.pins := (pins_unfused (keeperWrite_unfused ..)).trans (pins_still (deriveKey_still ..))
  have h10 : s10.pins = s9.pins := pins_if (pins_still (pmbStart_still ..))
  split
  · exact (bistHold_pins ..).trans (h5.trans (h3.trans h2))
  · exact (bootApply_pins ..).trans (h10.trans (h9.trans (h8.trans (h6.trans (h5.trans (h3.trans h2))))))

theorem darkExit_pins (s : State) (x : BootInput) : (s.darkExit x).pins = s.pins := by
  unfold darkExit
  extract_lets pwr s1 s2 s3 s4
  have h1 : s1.pins = s.pins := rfl
  have h2 : s2.pins = s1.pins := boot_pins s1 x 1
  have h3 : s3.pins = s2.pins := pins_ite (timeRestore_pins ..) (pins_still (modPwr_still ..))
  have h4 : s4.pins = s3.pins := pins_if_not (pins_still (exitEnd_still ..))
  exact (pins_still (modPwr_still ..)).trans (h4.trans (h3.trans (h2.trans h1)))

theorem domDone_pins (s : State) (ddrKept : Bool) : (s.domDone ddrKept).pins = s.pins := by
  unfold domDone
  split
  · rfl
  · extract_lets s1 s2
    have h1 : s1.pins = s.pins := pins_ite (domainsDown_pins ..) (pins_if_not (domainUp_pins ..))
    refine pins_if_not (.trans (pins_still ?_) h1)
    rw [pwrIdle_still, raise_still, modPwr_still]

theorem domRequestDone_pins (s : State) (ddrKept : Bool) : (s.domRequestDone ddrKept).pins = s.pins := by
  unfold domRequestDone
  extract_lets t
  have ht : t.pins = s.pins := domDone_pins ..
  split
  · extract_lets t1
    have h1 : t1.pins = t.pins := pins_unfused (domRepairs_unfused ..)
    exact pins_ite ((pins_if (pins_still (hkRecords_still ..))).trans (h1.trans ht)) ht
  · exact ht

theorem pwrOpen_pins (s : State) : s.pwrOpen.pins = s.pins :=
  (domainsDown_pins ..).trans (pins_still (modPwr_still ..))

theorem entryStep_pins (s : State) : s.entryStep.pins = s.pins := by
  unfold entryStep
  extract_lets target s1 s2 v
  refine pins_if_not ?_
  split
  · have h1 : s1.pins = s.pins := pins_still ((modPwr_still ..).trans (pwrQuiet_still ..))
    exact (pins_if (pins_still (pwrReached_still ..))).trans h1
  · exact pins_still (modPwr_still ..)
  · exact pins_still ((modPwr_still ..).trans (setF_still ..))
  · have h2 : s2.pins = s.pins :=
      (pins_still (modPwr_still ..)).trans ((pwrOpen_pins ..).trans (pins_still (pwrLatch_still ..)))
    have hv : v.2.pins = s2.pins := by
      dsimp only [v]
      split <;> exact pins_still (voltBegin_still ..)
    refine .trans (pins_ite (pins_still (pwrReached_still ..)) (.trans ?_ hv)) h2
    exact pins_ite (pins_still (pwrReached_still ..)) (pins_still (modPwr_still ..))
  · rfl

theorem entryNext_pins (s : State) : s.entryNext.pins = s.pins := by
  unfold entryNext
  exact pins_ite (pins_still (wakeAct_still ..)) (entryStep_pins ..)

theorem exitStep_pins (s : State) (ddrKept : Bool) : (s.exitStep ddrKept).pins = s.pins := by
  unfold exitStep
  extract_lets step s1
  split
  · rfl
  · exact (pins_still (modPwr_still ..)).trans ((pins_if (timeRestore_pins ..)).trans rfl)
  · exact pins_still ((modPwr_still ..).trans (pwrRestore_still ..))
  · exact pins_still ((modPwr_still ..).trans (pwrClocks_still ..))
  · exact pins_still (exitEnd_still ..)
  · rfl

theorem exitStepDone_pins (s : State) (ddrKept : Bool) (x : Option BootInput) :
    (s.exitStepDone ddrKept x).pins = s.pins := by
  unfold exitStepDone
  extract_lets restarting t
  have ht : t.pins = s.pins := exitStep_pins ..
  refine pins_ite ?_ (pins_if_not ?_)
  · split
    · exact darkExit_pins ..
    · rfl
  · exact (pins_if (pins_unfused (keeperRestore_unfused ..))).trans ht

/-! ### What a command moves, read off what is watched -/

/-- Command `c` leads from `s` to a state in which only what its row may move has moved. -/
def OnlyMoves (c : Instr) (s t : State) : Prop :=
  t.pending = s.pending ∧ (c.movesDomains = false → t.domOn = s.domOn) ∧ (c.movesPerst = false → t.perst = s.perst) ∧
  (c.movesDacClr = false → t.clrPin = s.clrPin) ∧
  (c.movesFunction = false → t.d3hot = s.d3hot ∧ t.busMaster = s.busMaster ∧ t.msixEn = s.msixEn) ∧
  (c.movesTime = false → t.tb = s.tb)

variable {c : Instr} {s t : State}

theorem onlyMoves_of_watched (h : t.watched = s.watched) : OnlyMoves c s t :=
    ⟨(congrArg State.pending h :), fun _ => (congrArg State.domOn h :), fun _ => (congrArg State.perst h :), fun _ => (congrArg
    State.clrPin h :),
        fun _ => ⟨(congrArg State.d3hot h :), (congrArg State.busMaster h :), (congrArg State.msixEn h :)⟩, fun _ => (congrArg
    State.tb h :)⟩

theorem onlyMoves_of_untimed (h : t.untimed = s.untimed) (hc : c.movesTime = true) : OnlyMoves c s t :=
    ⟨(congrArg State.pending h :), fun _ => (congrArg State.domOn h :), fun _ => (congrArg State.perst h :), fun _ => (congrArg
    State.clrPin h :),
        fun _ => ⟨(congrArg State.d3hot h :), (congrArg State.busMaster h :), (congrArg State.msixEn h :)⟩, fun hn => absurd
    (hc.symm.trans hn) (by decide)⟩

theorem onlyMoves_of_perstFree (h : t.perstFree = s.perstFree) (hc : c.movesPerst = true) : OnlyMoves c s t :=
    ⟨(congrArg State.pending h :), fun _ => (congrArg State.domOn h :), fun hn => absurd (hc.symm.trans hn) (by decide), fun _
    => (congrArg State.clrPin h :),
        fun _ => ⟨(congrArg State.d3hot h :), (congrArg State.busMaster h :), (congrArg State.msixEn h :)⟩, fun _ => (congrArg
    State.tb h :)⟩

theorem onlyMoves_of_clrFree (h : t.clrFree = s.clrFree) (hc : c.movesDacClr = true) : OnlyMoves c s t :=
    ⟨(congrArg State.pending h :), fun _ => (congrArg State.domOn h :), fun _ => (congrArg State.perst h :), fun hn => absurd
    (hc.symm.trans hn) (by decide),
        fun _ => ⟨(congrArg State.d3hot h :), (congrArg State.busMaster h :), (congrArg State.msixEn h :)⟩, fun _ => (congrArg
    State.tb h :)⟩

theorem onlyMoves_of_functionFree (h : t.functionFree = s.functionFree) (hc : c.movesFunction = true) : OnlyMoves c s t :=
    ⟨(congrArg State.pending h :), fun _ => (congrArg State.domOn h :), fun _ => (congrArg State.perst h :), fun _ => (congrArg
    State.clrPin h :),
    fun hn => absurd (hc.symm.trans hn) (by decide), fun _ => (congrArg State.tb h :)⟩

/-- A power change may move domains, and with them the function and the time bases. -/
theorem onlyMoves_of_pins (h : t.pins = s.pins) (hd : c.movesDomains = true) (hf : c.movesFunction = true)
    (ht : c.movesTime = true) : OnlyMoves c s t :=
  ⟨(congrArg State.pending h :), fun hn => absurd (hd.symm.trans hn) (by decide), fun _ => (congrArg State.perst h :),
    fun _ => (congrArg State.clrPin h :), fun hn => absurd (hf.symm.trans hn) (by decide),
    fun hn => absurd (ht.symm.trans hn) (by decide)⟩

/-- PCIE_PERST may move the pin and the function. -/
theorem onlyMoves_pcieReset (hp : c.movesPerst = true) (hf : c.movesFunction = true) : OnlyMoves c s s.pcieReset :=
  have h := pcieReset_watched s
  ⟨(congrArg State.pending h :), fun _ => (congrArg State.domOn h :), fun hn => absurd (hp.symm.trans hn) (by decide),
    fun _ => (congrArg State.clrPin h :), fun hn => absurd (hf.symm.trans hn) (by decide), fun _ => (congrArg State.tb h :)⟩

/-- A reset may move everything but the queue. -/
theorem onlyMoves_of_core (h : t.still.core.unfused = s.still.core.unfused) (hd : c.movesDomains = true)
    (hp : c.movesPerst = true) (hr : c.movesDacClr = true) (hf : c.movesFunction = true) (ht : c.movesTime = true) :
    OnlyMoves c s t :=
    ⟨(congrArg State.pending h :), fun hn => absurd (hd.symm.trans hn) (by decide), fun hn => absurd (hp.symm.trans hn) (by
    decide),
    fun hn => absurd (hr.symm.trans hn) (by decide), fun hn => absurd (hf.symm.trans hn) (by decide),
    fun hn => absurd (ht.symm.trans hn) (by decide)⟩

/-- What a command moves is read off what is watched. -/
theorem onlyMoves_watched : OnlyMoves c s t.watched ↔ OnlyMoves c s t := by
  unfold OnlyMoves
  exact Iff.rfl

/-- The messages of a command move nothing. -/
theorem onlyMoves_sent {old u : State} (h : OnlyMoves c s u) : OnlyMoves c s (sent old u) := by
  have hw : (sent old u).watched = u.watched := watched_rest (sent_rest ..)
  rw [← onlyMoves_watched, hw, onlyMoves_watched]
  exact h

/-- Every row moves only what it may move. -/
theorem exec_onlyMoves (c : Instr) (s : State) : ∃ u, exec c s = finish s u ∧ OnlyMoves c s u := by
  by_cases hc : c.calm = true
  · obtain ⟨u, hexec, hstill⟩ := exec_calm hc s
    exact ⟨u, hexec, onlyMoves_of_watched (watched_still hstill)⟩
  cases c
  case powerOnReset => exact ⟨_, rfl, onlyMoves_of_core (powerOn_core_unfused ..) rfl rfl rfl rfl rfl⟩
  case porstNLow => exact ⟨_, rfl, onlyMoves_of_core (porstLow_core_unfused ..) rfl rfl rfl rfl rfl⟩
  case entryStepDone => exact ⟨_, rfl, onlyMoves_of_pins (entryNext_pins ..) rfl rfl rfl⟩
  case exitStepDone => exact ⟨_, rfl, onlyMoves_of_pins (exitStepDone_pins ..) rfl rfl rfl⟩
  case domDone => exact ⟨_, rfl, onlyMoves_of_pins (domRequestDone_pins ..) rfl rfl rfl⟩
  case pciePerst => exact ⟨_, rfl, onlyMoves_pcieReset rfl rfl⟩
  case linkUp => exact ⟨_, rfl, onlyMoves_of_perstFree (linkUpEvent_perstFree ..) rfl⟩
  case pcieConfigWrite => exact ⟨_, rfl, onlyMoves_of_functionFree (configWrite_functionFree ..) rfl⟩
  case dacClrFall => exact ⟨_, rfl, onlyMoves_of_clrFree (clrFall_clrFree ..) rfl⟩
  case dacClrRise => exact ⟨_, rfl, onlyMoves_of_clrFree (clrRise_clrFree ..) rfl⟩
  case stepApplied => exact ⟨_, rfl, onlyMoves_of_untimed (stepTick_untimed ..) rfl⟩
  case tpiEdge => exact ⟨_, rfl, onlyMoves_of_untimed (tpiEdge_untimed ..) rfl⟩
  case refclkLoss => exact ⟨_, rfl, onlyMoves_of_watched (refLoss_watched ..)⟩
  case refclkReturn => exact ⟨_, rfl, onlyMoves_of_watched (refReturn_watched ..)⟩
  case refPllRelock => exact ⟨_, rfl, onlyMoves_of_watched (refRelock_watched ..)⟩
  case paritySweep => exact ⟨_, rfl, onlyMoves_of_watched (paritySweep_watched ..)⟩
  case i2cWrite => exact ⟨_, rfl, onlyMoves_of_watched (watched_if (i2cWrite_watched ..))⟩
  case i2cRead => exact ⟨_, rfl, onlyMoves_of_watched (watched_if (a := s.i2cRead _) rfl)⟩
  case i2cCmdRead | i2cCmdWrite | i2cCmdReadInc | i2cCmdWriteInc =>
    exact ⟨_, rfl, onlyMoves_of_watched (watched_if (i2cStart_watched ..))⟩
  case i2cAccessDone => exact ⟨_, rfl, onlyMoves_of_watched (watched_if (i2cDone_watched ..))⟩
  case regWrite | holdingWrite => exact ⟨_, rfl, onlyMoves_of_watched (watched_unfused (busWrite_unfused ..))⟩
  case offAccess => exact ⟨_, rfl, onlyMoves_of_watched (watched_unfused (offAccess_unfused ..))⟩
  case hostMemWrite => exact ⟨_, rfl, onlyMoves_of_watched (watched_unfused (hostWriteMem_unfused ..))⟩
  case provision | field =>
    exact ⟨_, rfl, onlyMoves_of_watched (watched_unfused (accessBy_unfused _ _ _ _ _ _ fun _ => lcCtl_unfused ..))⟩
  case lcChanged => exact ⟨_, rfl, onlyMoves_of_watched (watched_unfused (lcChanged_unfused ..))⟩
  case arbCtl =>
    exact ⟨_, rfl, onlyMoves_of_watched (watched_unfused (accessBy_unfused _ _ _ _ _ _ fun _ => arbCtl_unfused ..))⟩
  case tokenCheckDone => exact ⟨_, rfl, onlyMoves_of_watched (watched_unfused (tokenDone_unfused ..))⟩
  case stagingDone => exact ⟨_, rfl, onlyMoves_of_watched (watched_unfused (stagingDone_unfused ..))⟩
  case keeperRestartDone => exact ⟨_, rfl, onlyMoves_of_watched (watched_unfused (keeperBack_unfused ..))⟩
  all_goals exact absurd rfl hc

end State

end Sys2Proof.Machine

open Sys2Proof Sys2Proof.Machine Sys2Proof.Machine.State

/-- Settles O58: all but 34 rows leave everything that `still` keeps alone, and each of those moves only what it may move. -/
theorem onlyTheseCommands : Obligations.OnlyTheseCommands := by
  unfold Obligations.OnlyTheseCommands
  intro c s t h
  obtain ⟨u, hexec, hmoves⟩ := exec_onlyMoves c s
  have ht : sent s u = t := Host.Outcome.next.inj (hexec.symm.trans h)
  exact ht ▸ onlyMoves_sent hmoves
end

section
namespace Sys2Proof.Machine
namespace State

/-- Every command moves the fuses forward only (R403, R409). -/
theorem exec_fwd (c : Instr) (s : State) : ∃ u, exec c s = finish s u ∧ s.fuse.Fwd u.fuse := by
  by_cases hc : c.calm = true
  · obtain ⟨u, hexec, hstill⟩ := exec_calm hc s
    exact ⟨u, hexec, fwd_still hstill⟩
  cases c
  case powerOnReset => exact ⟨_, rfl, powerOn_fwd ..⟩
  case porstNLow => exact ⟨_, rfl, porstLow_fwd ..⟩
  case entryStepDone => exact ⟨_, rfl, fwd_core (entryNext_core ..)⟩
  case exitStepDone => exact ⟨_, rfl, exitStepDone_fwd ..⟩
  case domDone => exact ⟨_, rfl, domRequestDone_fwd ..⟩
  case pciePerst => exact ⟨_, rfl, fwd_core (pcieReset_core ..)⟩
  case linkUp => exact ⟨_, rfl, fwd_core (linkUpEvent_core ..)⟩
  case pcieConfigWrite => exact ⟨_, rfl, fwd_core (configWrite_core ..)⟩
  case dacClrFall => exact ⟨_, rfl, fwd_core (clrFall_core ..)⟩
  case dacClrRise => exact ⟨_, rfl, fwd_core (clrRise_core ..)⟩
  case stepApplied => exact ⟨_, rfl, fwd_core (stepTick_core ..)⟩
  case tpiEdge => exact ⟨_, rfl, fwd_core (tpiEdge_core ..)⟩
  case refclkLoss => exact ⟨_, rfl, fwd_core (refLoss_core ..)⟩
  case refclkReturn => exact ⟨_, rfl, fwd_core (refReturn_core ..)⟩
  case refPllRelock => exact ⟨_, rfl, fwd_core (refRelock_core ..)⟩
  case paritySweep => exact ⟨_, rfl, fwd_core (paritySweep_core ..)⟩
  case i2cWrite => exact ⟨_, rfl, onI2c_fwd _ _ fun _ => fwd_core (i2cWrite_core ..)⟩
  case i2cRead => exact ⟨_, rfl, onI2c_fwd _ _ fun _ => fwd_core (i2cRead_core ..)⟩
  case i2cCmdRead | i2cCmdWrite | i2cCmdReadInc | i2cCmdWriteInc =>
    exact ⟨_, rfl, onI2c_fwd _ _ fun _ => fwd_core (i2cStart_core ..)⟩
  case i2cAccessDone => exact ⟨_, rfl, onI2c_fwd _ _ fun _ => i2cDone_fwd ..⟩
  case regWrite | holdingWrite => exact ⟨_, rfl, busWrite_fwd ..⟩
  case offAccess => exact ⟨_, rfl, offAccess_fwd ..⟩
  case hostMemWrite => exact ⟨_, rfl, hostWriteMem_fwd ..⟩
  case provision | field => exact ⟨_, rfl, accessBy_fwd _ _ _ _ _ _ fun _ => lcCtl_fwd ..⟩
  case lcChanged => exact ⟨_, rfl, lcChanged_fwd ..⟩
  case arbCtl => exact ⟨_, rfl, accessBy_fwd _ _ _ _ _ _ fun _ => arbCtl_fwd ..⟩
  case tokenCheckDone => exact ⟨_, rfl, tokenDone_fwd ..⟩
  case stagingDone => exact ⟨_, rfl, stagingDone_fwd ..⟩
  case keeperRestartDone => exact ⟨_, rfl, keeperBack_fwd ..⟩
  all_goals exact absurd rfl hc

/-- A step, a command's or an idle one, moves the fuses forward only. -/
theorem step_fwd {s t : State} (h : step s = .next t) : s.fuse.Fwd t.fuse := by
  unfold step at h
  split at h
  · exact tick_fwd h
  · next c rest _ =>
    obtain ⟨u, hexec, hfwd⟩ := exec_fwd c { s with pending := rest }
    exact finish_fwd (hexec.symm.trans h) hfwd

end State
end Sys2Proof.Machine

open Sys2Proof Sys2Proof.Machine Sys2Proof.Machine.State

/-- Settles O59: each operation that programs fuses moves them forward, and every other one leaves them as they are. -/
theorem fusesOnlyForward : Obligations.FusesOnlyForward := by
  unfold Obligations.FusesOnlyForward
  intro s t hok h
  obtain ⟨hok', hlifecycle, harb⟩ := step_fwd h
  exact ⟨hok' hok, hlifecycle hok, harb⟩

/-- Settles O1: a step of a state whose queue begins with a command is that command on the rest of the queue. -/
theorem queueFront : Obligations.QueueFront := by
  unfold Obligations.QueueFront
  intro c s
  unfold step
  rfl

/-- Settles O4: every row runs its operation and goes on, and so does an AON clock edge. -/
theorem everyCommandCompletes : Obligations.EveryCommandCompletes := by
  unfold Obligations.EveryCommandCompletes
  have hexec : ∀ (c : Instr) (s : State), Completes (exec c s) := fun c s => by
    obtain ⟨u, hu, -⟩ := exec_onlyMoves c s
    exact ⟨_, hu⟩
  refine ⟨hexec, fun s => ?_⟩
  unfold State.Live step
  split
  · unfold tick
    split <;> exact ⟨_, rfl⟩
  · exact hexec ..
end

section
/-! The write that sets GLOBAL_EN is itself a received message, and a counter may count received messages (R435, R437). -/

namespace Sys2Proof.Machine

/-- A run from reset after which counter 0 counts the messages that arrive over PCIe and stands at 0: writing GLOBAL_EN once
more, over PCIe, counts that write. -/
theorem globalEn_counts_its_own_write : (State.reset.follow [.regWrite .pcie 0x58200 15 0x102C0, .globalEn .pcie true]).map
      (fun s => (decide (s.Serves .pcie Blk.perf true), s.reg Blk.perf (PERF.PC_LO 0),
        (s.follow [.globalEn .pcie true]).map fun t => t.reg Blk.perf (PERF.PC_LO 0))) = some (true, 0, some 1) := by
  decide +kernel

end Sys2Proof.Machine

open Sys2Proof Sys2Proof.Machine

/-- Refutes O36, in a state that a run from reset reaches: while GLOBAL_EN = 1 and a counter counts the messages received over
PCIe, a write of GLOBAL_EN that comes over PCIe is counted, so a register of PERF other than CTL changes. -/
theorem not_performanceCounters : ¬ Obligations.PerformanceCounters := by
  unfold Obligations.PerformanceCounters
  rintro ⟨-, hglobal⟩
  obtain ⟨s, -, hs⟩ := Option.map_eq_some_iff.1 globalEn_counts_its_own_write
  obtain ⟨hserves, hold, hnew⟩ : _ ∧ _ ∧ _ := by simpa only [Prod.mk.injEq] using hs
  obtain ⟨t, hexec, -, hkeeps, -, -⟩ := hglobal s .pcie true (of_decide_eq_true hserves)
  rw [State.follow_singleton hexec, Option.map_some, hkeeps _ (by decide) (by decide), hold] at hnew
  exact absurd hnew (by decide)
end

section
/-! The light code of R336 is linear: how 13 stored bits with errors decode depends on the errors alone, but for the byte. -/

namespace Sys2Proof

/-- The bits of a number are those of its half and its last bit. -/
theorem popCount_xor_mod_two (n : Nat) : ∀ a b : Nat, popCount n (a ^^^ b) % 2 = (popCount n a + popCount n b) % 2 := by
  induction n with
  | zero => exact fun _ _ => rfl
  | succ n ih =>
    intro a b
    have hlow : (a ^^^ b) % 2 = (a % 2 + b % 2) % 2 := by
      have := Nat.xor_mod_two_eq (m := a) (n := b)
      omega
    have hhigh : (a ^^^ b) / 2 = a / 2 ^^^ b / 2 := Nat.xor_div_two
    simp only [popCount, hlow, hhigh]
    have := ih (a / 2) (b / 2)
    omega

namespace Machine.Codec

theorem parityOf_lt (w n : Nat) : parityOf w n < 2 := Nat.mod_lt _ (by decide)

theorem parityOf_xor (a b n : Nat) : parityOf (a ^^^ b) n = parityOf a n ^^^ parityOf b n := by
  have hbits : ∀ x < 2, ∀ y < 2, (x + y) % 2 = x ^^^ y := by decide
  rw [← hbits _ (parityOf_lt a n) _ (parityOf_lt b n)]
  unfold parityOf
  rw [popCount_xor_mod_two]
  omega

/-- The sum of two numbers by their last bits and their halves. -/
theorem xor_bit : ∀ a < 2, ∀ b < 2, ∀ x < 8, ∀ y < 8, (a ^^^ b) + 2 * (x ^^^ y) = (a + 2 * x) ^^^ (b + 2 * y) := by decide

/-- The check bits of a sum are the sum of the check bits. -/
theorem checkBits_xor (a b : Nat) : checkBits (a ^^^ b) = checkBits a ^^^ checkBits b := by
  have hform : ∀ p q r t : Nat, p + 2 * q + 4 * r + 8 * t = p + 2 * (q + 2 * (r + 2 * t)) := by omega
  have hlt := parityOf_lt
  unfold checkBits
  simp only [Nat.and_xor_distrib_right, parityOf_xor, hform]
  rw [xor_bit _ (hlt ..) _ (hlt ..) _ (by have := hlt (a &&& 0xF0) 8; omega) _ (by have := hlt (b &&& 0xF0) 8; omega)]
  rw [xor_bit _ (hlt ..) _ (hlt ..)]
  rw [xor_bit _ (hlt ..) _ (hlt ..)]
  all_goals have := hlt; grind

/-- What a read gives when the byte behind the code is changed by `d`. -/
def EccRead.shift (d : Nat) : EccRead → EccRead
  | .clean x => .clean (d ^^^ x)
  | .corrected x => .corrected (d ^^^ x)
  | .flagged => .flagged

/-- A stored byte has even parity and its own check bits. -/
theorem eccEncode_wf (d : Byte) : eccEncode d.toNat % 256 = d.toNat ∧ eccEncode d.toNat / 256 % 16 = checkBits d.toNat ∧
    parityOf (eccEncode d.toNat) 13 = 0 := by
  revert d
  decide

/-- Errors `e` in the stored bits decode as they do in those of byte 0. -/
theorem eccDecode_eccEncode_xor (d : Byte) (e : Nat) :
    eccDecode (eccEncode d.toNat ^^^ e) = (eccDecode e).shift d.toNat := by
  obtain ⟨hdata, hcheck, hparity⟩ := eccEncode_wf d
  have hlow : (eccEncode d.toNat ^^^ e) % 256 = d.toNat ^^^ e % 256 := by
    rw [show 256 = 2 ^ 8 from rfl, Nat.xor_mod_two_pow, show 2 ^ 8 = 256 from rfl, hdata]
  have hmid : (eccEncode d.toNat ^^^ e) / 256 % 16 = checkBits d.toNat ^^^ e / 256 % 16 := by
    rw [← hcheck, show 256 = 2 ^ 8 from rfl, show 16 = 2 ^ 4 from rfl, Nat.xor_div_two_pow, Nat.xor_mod_two_pow]
  have hsyn : checkBits d.toNat ^^^ e / 256 % 16 ^^^ (checkBits d.toNat ^^^ checkBits (e % 256)) =
      e / 256 % 16 ^^^ checkBits (e % 256) := by
    rw [Nat.xor_assoc, Nat.xor_left_comm (e / 256 % 16), ← Nat.xor_assoc, Nat.xor_self, Nat.zero_xor]
  unfold eccDecode
  simp only [hlow, hmid, checkBits_xor, parityOf_xor, hparity, Nat.zero_xor, hsyn]
  split
  · split <;> rfl
  · split
    · simp only [EccRead.shift, Nat.xor_assoc]
    · split <;> rfl

end Machine.Codec
end Sys2Proof

open Sys2Proof Sys2Proof.Machine Sys2Proof.Machine.Codec

/-- Settles O56: the check bits of each of the 256 bytes are the sums listed, and a read with errors is decided on the errors
alone (`eccDecode_eccEncode_xor`): none, each of the 13, each two of them. -/
theorem lightCode : Obligations.LightCode := by
  unfold Obligations.LightCode
  have hnone : eccDecode 0 = .clean 0 := by decide
  have hone : ∀ i : Fin 13, eccDecode (2 ^ i.val) = .corrected 0 := by decide
  have htwo : ∀ i j : Fin 13, i ≠ j → eccDecode (2 ^ i.val ^^^ 2 ^ j.val) = .flagged := by decide
  refine ⟨by decide, fun d => ?_, fun d i => ?_, fun d i j hij => ?_⟩
  · rw [← Nat.xor_zero (eccEncode d.toNat), eccDecode_eccEncode_xor, hnone, EccRead.shift, Nat.xor_zero]
  · rw [eccDecode_eccEncode_xor, hone, EccRead.shift, Nat.xor_zero]
  · rw [Nat.xor_assoc, eccDecode_eccEncode_xor, htwo i j hij, EccRead.shift]
end

section
/-! The hardware loop (R153): what one instruction does to PC and loop, and the passes by induction. -/

namespace Sys2Proof.Machine.State

/-- Inside the body an instruction goes on to the next word. -/
theorem engSeq_inside {g : Engine} {n st en : Nat} (hl : g.loop = some (n, st, en)) (hpc : g.pc < en) (hen : en < 2048) :
    engSeq g = { g with pc := g.pc + 1 } := by
  unfold engSeq
  simp only [hl, if_neg (Nat.ne_of_lt hpc), Nat.mod_eq_of_lt (show g.pc + 1 < 2048 by omega)]

/-- At the body's end a pass is taken off, or the loop ends. -/
theorem engSeq_end {g : Engine} {n st en : Nat} (hl : g.loop = some (n, st, en)) (hpc : g.pc = en) :
    engSeq g = if 1 < n then { g with pc := st, loop := some (n - 1, st, en) }
      else { g with pc := (g.pc + 1) % 2048, loop := none } := by
  unfold engSeq
  simp only [hl, hpc, if_true]

/-- `i` instructions from the body's start stand `i` words further. -/
theorem engSeq_iterate_inside {g : Engine} {n st en : Nat} (hl : g.loop = some (n, st, en)) (hpc : g.pc = st) (hen : en < 2048) :
    ∀ i, st + i ≤ en → engSeq^[i] g = { g with pc := st + i }
  | 0, _ => by subst hpc; rfl
  | i + 1, hi => by
    rw [Function.iterate_succ_apply', engSeq_iterate_inside hl hpc hen i (by omega)]
    exact engSeq_inside (g := { g with pc := st + i }) hl (by dsimp only; omega) hen

/-- One pass of the body. -/
theorem engSeq_iterate_pass {g : Engine} {n st en : Nat} (hse : st ≤ en) (hl : g.loop = some (n, st, en)) (hpc : g.pc = st)
    (hen : en < 2048) : engSeq^[en - st + 1] g = if 1 < n then { g with loop := some (n - 1, st, en) }
      else { g with pc := (en + 1) % 2048, loop := none } := by
  rw [Function.iterate_succ_apply', engSeq_iterate_inside hl hpc hen (en - st) (by omega),
    engSeq_end (g := { g with pc := st + (en - st) }) hl (by dsimp only; omega)]
  rw [show st + (en - st) = en by omega, ← hpc]

/-- The loop with `k` passes taken off. -/
theorem engSeq_iterate_passes {g : Engine} {n st en : Nat} (hse : st ≤ en) (hl : g.loop = some (n, st, en)) (hpc : g.pc = st)
    (hen : en < 2048) : ∀ k, k < n → engSeq^[k * (en - st + 1)] g = { g with loop := some (n - k, st, en) }
  | 0, _ => by rw [Nat.zero_mul, Nat.sub_zero, ← hl]; rfl
  | k + 1, hk => by
    rw [Nat.succ_mul, Nat.add_comm, Function.iterate_add_apply, engSeq_iterate_passes hse hl hpc hen k (by omega),
      engSeq_iterate_pass (g := { g with loop := some (n - k, st, en) }) hse rfl hpc hen, if_pos (by omega)]
    rfl

end Sys2Proof.Machine.State

open Sys2Proof Sys2Proof.Machine Sys2Proof.Machine.State

/-- Settles O57, by induction on the passes. -/
theorem hardwareLoop : Obligations.HardwareLoop := by
  unfold Obligations.HardwareLoop
  refine ⟨fun g n st en k hse hen hk hl hpc => engSeq_iterate_passes hse hl hpc hen k hk, ?_, ?_⟩
  · intro g n st en hse hen hn hl hpc
    obtain ⟨k, rfl⟩ : ∃ k, n = k + 1 := ⟨n - 1, by omega⟩
    rw [Nat.succ_mul, Nat.add_comm, Function.iterate_add_apply, engSeq_iterate_passes hse hl hpc hen k (by omega),
      engSeq_iterate_pass (g := { g with loop := some (k + 1 - k, st, en) }) hse rfl hpc hen, if_neg (by omega)]
  · intro g n st en pc hl
    unfold engJump
    simp only [hl]
end

section
/-! INT_N and the vectors' inputs (R55, R56): the list of blocks whose interrupts are looked at holds every contributor. -/

namespace Sys2Proof.Machine

/-- An unlisted key reads the default. -/
theorem SMap.get_of_not_mem {α : Type} (d : α) : ∀ {m : SMap α} {k : Nat}, k ∉ m.map (·.1) → SMap.get d m k = d
  | [], _, _ => rfl
  | e :: m, k, h => by
    rw [List.map_cons, List.mem_cons, not_or] at h
    have ih : SMap.get d m k = d := SMap.get_of_not_mem d h.2
    simpa only [SMap.get, SMap.get?, if_neg (Ne.symm h.1)] using ih

namespace State

theorem contributes_iff (s : State) (b : Nat) : s.contributes b = true ↔
    s.domOn.getLsbD (blkDomain b) = true ∧ s.intStat b &&& s.intEnable b ≠ 0 := by
  unfold contributes
  rw [Bool.and_eq_true, bne_iff_ne]

/-- A block that contributes has an INT_STAT bit set, so it is listed. -/
theorem mem_contributors (s : State) (b : Nat) : b ∈ s.contributors ↔ s.contributes b = true := by
  unfold contributors
  rw [List.mem_filter, and_iff_right_iff_imp]
  intro h
  obtain ⟨-, hne⟩ := (contributes_iff s b).1 h
  by_contra hnot
  refine hne ?_
  have hstat : s.intStat b = 0 := SMap.get_of_not_mem 0 hnot
  rw [hstat]
  exact BitVec.zero_and

theorem any_contributors (s : State) (p : Nat → Bool) : s.contributors.any p = true ↔ ∃ b, s.contributes b = true ∧ p b = true := by
  simp only [List.any_eq_true, mem_contributors]

end State
end Sys2Proof.Machine

open Sys2Proof Sys2Proof.Machine Sys2Proof.Machine.State

/-- Settles O55: each part is the definition read over the contributors. -/
theorem interruptLine : Obligations.InterruptLine := by
  unfold Obligations.InterruptLine
  refine ⟨contributes_iff, fun s v => ?_, fun s hf => ?_, fun s hf => ?_, fun s m x e p => rfl⟩
  · unfold vectorInput
    simp only [any_contributors, beq_iff_eq]
  · unfold intN
    simp only [any_contributors, hf, if_true]
  · unfold intN
    simp only [any_contributors, hf, Bool.false_eq_true, if_false, Bool.and_eq_true, decide_eq_true_eq]
    exact ⟨fun ⟨b, hc, hb, hm⟩ => ⟨b, hb, hc, hm⟩, fun ⟨b, hb, hc, hm⟩ => ⟨b, hc, hb, hm⟩⟩
end

section
/-! The state after reset. -/

open Sys2Proof Sys2Proof.Machine Sys2Proof.Machine.State

/-- Settles O2: nothing is listed after reset, so every register reads the word of the tables; the printed words and the
powered domains are evaluated. -/
theorem resetState : Obligations.ResetState := by
  unfold Obligations.ResetState
  refine ⟨fun b off => rfl, by decide, fun b => ⟨rfl, rfl⟩, fun d => ?_, rfl, rfl, rfl, ?_, ramOk_reset⟩
  · by_cases hd : d < 24
    · have hall : ∀ d < 24, State.reset.domOn.getLsbD d =
          decide (d ∈ [Dom.aon, Dom.clk, Dom.fab, Dom.kpr, Dom.pcie, Dom.test]) := by decide
      exact hall d hd
    · have hlisted : ∀ x ∈ [Dom.aon, Dom.clk, Dom.fab, Dom.kpr, Dom.pcie, Dom.test], x < 24 := by decide
      rw [BitVec.getLsbD_of_ge _ _ (by omega), eq_comm, decide_eq_false_iff_not]
      exact fun h => hd (hlisted d h)
  · exact ⟨by decide, by decide, fun t h => by cases h⟩
end

section
/-! Frames as equations: the registers and interrupt bits outside some blocks, and the registers of a block outside some
offsets, are values of the state, so the frame of a command is computed by rewriting along its operations. -/

namespace Sys2Proof.Machine
namespace State

/-- The registers and interrupt bits of the blocks outside `bs` and PERF. -/
def outside (bs : List Nat) (s : State) : (Nat → Nat → Word) × (Nat → Word) :=
  (fun b off => if b ∈ bs ∨ b = Blk.perf ∨ 4096 ≤ off then 0 else s.reg b off,
   fun b => if b ∈ bs ∨ b = Blk.perf then 0 else s.intStat b)

/-- The registers of block `b` at the offsets outside `l`. -/
def others (b : Nat) (l : List Nat) (s : State) : Nat → Word := fun off => if off ∈ l ∨ 4096 ≤ off then 0 else s.reg b off

theorem keepsRegs_iff {bs : List Nat} {s t : State} : KeepsRegs bs s t ↔ t.outside bs = s.outside bs := by
  constructor
  · intro h
    refine Prod.ext (funext fun b => funext fun off => ?_) (funext fun b => ?_)
    · by_cases hc : b ∈ bs ∨ b = Blk.perf ∨ 4096 ≤ off
      · simp only [outside, if_pos hc]
      · simp only [outside, if_neg hc]
        rw [not_or, not_or] at hc
        exact h.reg b off hc.1 hc.2.1 (by omega)
    · by_cases hc : b ∈ bs ∨ b = Blk.perf
      · simp only [outside, if_pos hc]
      · simp only [outside, if_neg hc]
        rw [not_or] at hc
        exact h.ints b hc.1 hc.2
  · intro h
    refine ⟨fun b off hb hp ho => ?_, fun b hb hp => ?_⟩
    · have hc : ¬ (b ∈ bs ∨ b = Blk.perf ∨ 4096 ≤ off) := by rw [not_or, not_or]; exact ⟨hb, hp, by omega⟩
      have := congrFun (congrFun (congrArg Prod.fst h) b) off
      simpa only [outside, if_neg hc] using this
    · have hc : ¬ (b ∈ bs ∨ b = Blk.perf) := not_or.2 ⟨hb, hp⟩
      have := congrFun (congrArg Prod.snd h) b
      simpa only [outside, if_neg hc] using this

theorem keepsBlk_iff {b : Nat} {l : List Nat} {s t : State} : KeepsBlk b l s t ↔ t.others b l = s.others b l := by
  constructor
  · intro h
    refine funext fun off => ?_
    by_cases hc : off ∈ l ∨ 4096 ≤ off
    · simp only [others, if_pos hc]
    · simp only [others, if_neg hc]
      rw [not_or] at hc
      exact h off hc.1 (by omega)
  · intro h off hl ho
    have hc : ¬ (off ∈ l ∨ 4096 ≤ off) := not_or.2 ⟨hl, by omega⟩
    have := congrFun h off
    simpa only [others, if_neg hc] using this

theorem outside_of_keepsRegs {bs : List Nat} {s t : State} (h : KeepsRegs bs s t) : t.outside bs = s.outside bs :=
  keepsRegs_iff.1 h

variable {bs : List Nat} {b : Nat} (s : State)

/-! ### Outside the blocks -/

theorem outside_of_eq {s t : State} (h1 : t.regs = s.regs) (h2 : t.ints = s.ints) : t.outside bs = s.outside bs :=
  outside_of_keepsRegs (keepsRegs_of_eq h1 h2)

theorem outside_setReg {off : Nat} (h : b ∈ bs) (ho : off < 4096) (w : Word) : (s.setReg b off w).outside bs = s.outside bs :=
  outside_of_keepsRegs (keepsRegs_setReg s h ho w)

theorem outside_setF {g : Fld} (h : b ∈ bs) (ho : g.off < 4096) (v : Nat) : (s.setF b g v).outside bs = s.outside bs :=
  outside_setReg s h ho _

theorem outside_setB {g : Fld} (h : b ∈ bs) (ho : g.off < 4096) (v : Bool) : (s.setB b g v).outside bs = s.outside bs :=
  outside_setReg s h ho _

theorem outside_countSat {g : Fld} (h : b ∈ bs) (ho : g.off < 4096) (n : Nat) : (s.countSat b g n).outside bs = s.outside bs :=
  outside_setReg s h ho _

theorem outside_satReg {off : Nat} (h : b ∈ bs) (ho : off < 4096) (n : Nat) : (s.satReg b off n).outside bs = s.outside bs :=
  outside_setReg s h ho _

theorem outside_setIntStat (h : b ∈ bs) (w : Word) : (s.setIntStat b w).outside bs = s.outside bs :=
  outside_of_keepsRegs ⟨fun _ _ _ _ _ => rfl, fun _ hb _ => intStat_setIntStat_ne s (ne_of_mem_of_not_mem h hb) w⟩

theorem outside_raiseMask (h : b ∈ bs) (m : Word) : (s.raiseMask b m).outside bs = s.outside bs :=
  outside_of_keepsRegs (keepsRegs_raiseMask s h m)

theorem outside_raise (h : b ∈ bs) (i : Nat) : (s.raise b i).outside bs = s.outside bs :=
  outside_of_keepsRegs (keepsRegs_raise s h i)

theorem outside_flag {g : Fld} (h : b ∈ bs) (ho : g.off < 4096) (i : Nat) : (s.flag b g i).outside bs = s.outside bs :=
  outside_of_keepsRegs (keepsRegs_flag s h ho i)

theorem outside_perf (c k n : Nat) : (s.perf c k n).outside bs = s.outside bs :=
  outside_of_keepsRegs ⟨fun _ _ _ hp ho => reg_perf s (Ne.symm hp) ho c k n, fun _ _ hp => intStat_perf s (Ne.symm hp) c k n⟩

theorem outside_tlp (d n : Nat) : (s.tlp d n).outside bs = s.outside bs := outside_perf s 11 d n

theorem outside_sendVector (v : Nat) : (s.sendVector v).outside bs = s.outside bs :=
  outside_of_keepsRegs ⟨fun _ _ _ hp ho => reg_sendVector s (Ne.symm hp) ho v, fun _ _ hp => intStat_sendVector s (Ne.symm hp) v⟩

theorem outside_sent (old : State) : (sent old s).outside bs = s.outside bs := outside_of_keepsRegs (keepsRegs_sent bs old s)

theorem outside_heard (q : Requester) : (s.heard q).outside bs = s.outside bs := outside_of_keepsRegs (keepsRegs_heard bs s q)

theorem outside_send (m : OutMsg) : (s.send m).outside bs = s.outside bs := outside_of_eq rfl rfl

theorem outside_parityNew (k : Nat) : (s.parityNew k).outside bs = s.outside bs := outside_of_eq rfl rfl

theorem outside_writeReg {off : Nat} (h : b ∈ bs) (ho : off < 4096) (v : Word) : (s.writeReg b off v).outside bs = s.outside bs := by
  unfold writeReg
  dsimp only
  split
  · exact (outside_of_eq rfl rfl).trans (outside_setReg s h ho _)
  · exact (outside_of_eq rfl rfl).trans (outside_setReg s h ho _)

theorem outside_ite {c : Prop} [Decidable c] (x y : State) : (if c then x else y).outside bs = if c then x.outside bs else y.outside bs :=
  apply_ite _ _ _ _

theorem outside_foldl {α : Type} {g : State → α → State} (h : ∀ (s : State) x, (g s x).outside bs = s.outside bs) (l : List α) :
    (l.foldl g s).outside bs = s.outside bs := foldl_keeps _ _ _ (fun s x _ => h s x) s

/-! ### Inside a block -/

theorem others_of_eq {l : List Nat} {s t : State} (h1 : t.regs = s.regs) : t.others b l = s.others b l := by
  unfold others State.reg; rw [h1]

theorem others_setReg {off : Nat} {l : List Nat} (h : off ∈ l) (w : Word) :
    (s.setReg b off w).others b l = s.others b l :=
  keepsBlk_iff.1 fun _ hl _ => reg_setReg_off s (ne_of_mem_of_not_mem h hl) w

theorem others_setReg_blk {b2 off : Nat} {l : List Nat} (h : b2 ≠ b) (ho : off < 4096) (w : Word) :
    (s.setReg b2 off w).others b l = s.others b l :=
  keepsBlk_iff.1 fun _ _ ho2 => reg_setReg_blk s h ho ho2 w

theorem others_setF {g : Fld} {l : List Nat} (h : g.off ∈ l) (v : Nat) : (s.setF b g v).others b l = s.others b l :=
  others_setReg s h _

theorem others_setF_blk {b2 : Nat} {g : Fld} {l : List Nat} (h : b2 ≠ b) (ho : g.off < 4096) (v : Nat) :
    (s.setF b2 g v).others b l = s.others b l := others_setReg_blk s h ho _

theorem others_setB {g : Fld} {l : List Nat} (h : g.off ∈ l) (v : Bool) : (s.setB b g v).others b l = s.others b l :=
  others_setReg s h _

theorem others_raiseMask {l : List Nat} (h1 : HDR.EVT_TIME_LO ∈ l) (h2 : HDR.EVT_TIME_HI ∈ l) (m : Word) :
    (s.raiseMask b m).others b l = s.others b l :=
  keepsBlk_iff.1 fun _ hl _ => reg_raiseMask_off s (ne_of_mem_of_not_mem h1 hl) (ne_of_mem_of_not_mem h2 hl) m

theorem others_raise {l : List Nat} (h1 : HDR.EVT_TIME_LO ∈ l) (h2 : HDR.EVT_TIME_HI ∈ l) (i : Nat) :
    (s.raise b i).others b l = s.others b l := others_raiseMask s h1 h2 _

theorem others_raise_blk {b2 i : Nat} {l : List Nat} (h : b2 ≠ b) : (s.raise b2 i).others b l = s.others b l :=
  keepsBlk_iff.1 fun _ _ ho => reg_raise_blk s h ho

theorem others_flag {g : Fld} {l : List Nat} (h : g.off ∈ l) (h1 : HDR.EVT_TIME_LO ∈ l) (h2 : HDR.EVT_TIME_HI ∈ l) (i : Nat) :
    (s.flag b g i).others b l = s.others b l := (others_raise _ h1 h2 i).trans (others_setF s h 1)

theorem others_perf {l : List Nat} (h : Blk.perf ≠ b) (c k n : Nat) : (s.perf c k n).others b l = s.others b l :=
  keepsBlk_iff.1 fun _ _ ho => reg_perf s h ho c k n

theorem others_heard {l : List Nat} (h : Blk.perf ≠ b) (q : Requester) : (s.heard q).others b l = s.others b l :=
  keepsBlk_iff.1 fun _ _ ho => reg_heard s q h ho

theorem others_sent {l : List Nat} (h : Blk.perf ≠ b) (old : State) : (sent old s).others b l = s.others b l :=
  keepsBlk_iff.1 fun _ _ ho => reg_sent old s h ho

theorem others_send {l : List Nat} (m : OutMsg) : (s.send m).others b l = s.others b l := others_of_eq rfl

theorem others_parityNew {l : List Nat} (k : Nat) : (s.parityNew k).others b l = s.others b l := others_of_eq rfl

theorem others_writeReg {off : Nat} {l : List Nat} (h : off ∈ l) (v : Word) : (s.writeReg b off v).others b l = s.others b l := by
  unfold writeReg
  dsimp only
  split
  · exact (others_of_eq rfl).trans (others_setReg s h _)
  · exact (others_of_eq rfl).trans (others_setReg s h _)

/-! ### The units -/

/-- Units stay where the rest stays. -/
theorem units_of_rest {s t : State} (h : t.rest = s.rest) : t.units = s.units := of_rest units (fun _ => rfl) h

@[simp] theorem setReg_units (b off : Nat) (w : Word) : (s.setReg b off w).units = s.units := rfl
@[simp] theorem setF_units (b : Nat) (g : Fld) (v : Nat) : (s.setF b g v).units = s.units := rfl
@[simp] theorem setB_units (b : Nat) (g : Fld) (v : Bool) : (s.setB b g v).units = s.units := rfl
@[simp] theorem countSat_units (b : Nat) (g : Fld) (n : Nat) : (s.countSat b g n).units = s.units := rfl
@[simp] theorem satReg_units (b off n : Nat) : (s.satReg b off n).units = s.units := rfl
@[simp] theorem setIntStat_units (b : Nat) (w : Word) : (s.setIntStat b w).units = s.units := rfl
@[simp] theorem send_units (m : OutMsg) : (s.send m).units = s.units := rfl
@[simp] theorem parityNew_units (k : Nat) : (s.parityNew k).units = s.units := rfl
@[simp] theorem raiseMask_units (b : Nat) (m : Word) : (s.raiseMask b m).units = s.units := units_of_rest (raiseMask_rest ..)
@[simp] theorem raise_units (b i : Nat) : (s.raise b i).units = s.units := units_of_rest (raise_rest ..)
@[simp] theorem flag_units (b : Nat) (g : Fld) (i : Nat) : (s.flag b g i).units = s.units := units_of_rest (flag_rest ..)
@[simp] theorem perf_units (c k n : Nat) : (s.perf c k n).units = s.units := units_of_rest (perf_rest ..)
@[simp] theorem tlp_units (d n : Nat) : (s.tlp d n).units = s.units := units_of_rest (tlp_rest ..)
@[simp] theorem sent_units (old : State) : (sent old s).units = s.units := units_of_rest (sent_rest ..)
@[simp] theorem heard_units (q : Requester) : (s.heard q).units = s.units := units_of_rest (heard_rest ..)
@[simp] theorem writeReg_units (b off : Nat) (v : Word) : (s.writeReg b off v).units = s.units := by
  unfold writeReg; dsimp only; split <;> rfl

@[simp] theorem reg_send (m : OutMsg) (b off : Nat) : (s.send m).reg b off = s.reg b off := rfl
@[simp] theorem f_send (m : OutMsg) (b : Nat) (g : Fld) : (s.send m).f b g = s.f b g := rfl
@[simp] theorem fb_send (m : OutMsg) (b : Nat) (g : Fld) : (s.send m).fb b g = s.fb b g := rfl

theorem mem_out_send (m : OutMsg) : m ∈ (s.send m).out := List.mem_cons_self ..

theorem out_tlp (d n : Nat) : (s.tlp d n).out = s.out := out_perf s 11 d n

/-- What does not read the blanked fields is the same in states with the same units. -/
theorem of_units {α : Type} (p : State → α) (hp : ∀ s, p s.units = p s) {s t : State} (h : s.units = t.units) : p s = p t := by
  rw [← hp s, h, hp t]

end State
end Sys2Proof.Machine
end

section
/-! Writes of a served register through the host's map: which of its bits a write moves (R37, R38). -/

namespace Sys2Proof.Machine
namespace State

variable {s : State} {q : Requester}

/-- A whole-word write that a served register takes. -/
theorem busWrite_reg {a b off al : Nat} (hd : s.dbgAdmits q true = true) (ha : a % 4 = 0) (ht : bar0Target a = .reg b off al)
    (hr : s.reach b = true) (v : Word) : s.busWrite q a 15 v = (s.heard q).writeWord q b off al v := by
  unfold busWrite
  rw [← heard]
  simp only [heard_dbgAdmits, hd, ha, ht, heard_reach, hr, Bool.not_true, Bool.false_eq_true, if_false, if_true, ne_eq,
    not_true_eq_false, or_self]

/-- A register of a block that has no wide registers is written as the address says: set, cleared, toggled or stored. -/
theorem writeWord_narrow {b off : Nat} (h : ∀ o, wideLow b o = []) (s : State) (q : Requester) (al : Nat) (v : Word) :
    s.writeWord q b off al v = s.writeAlias q b off al v := by
  unfold writeWord wideTop
  simp only [h, List.contains_nil, List.find?_eq_none.2 (fun _ _ => Bool.false_ne_true), List.isEmpty_nil, if_true]

theorem bar0Target_reg_lt {a b off al : Nat} (h : bar0Target a = .reg b off al) : off < 4096 := by
  unfold bar0Target at h
  dsimp only at h
  split at h
  · injection h with _ hoff _
    rw [← hoff]
    exact Nat.mod_lt _ (by decide)
  · split at h
    · cases h
    · split at h
      · cases h
      · split at h
        · split at h <;> cases h
        · cases h

/-- What a written word leaves in a register: the RW bits take it, the W1C bits written 1 clear, the others stay. -/
theorem reg_writeReg_self (s : State) (b off : Nat) (v : Word) : (s.writeReg b off v).reg b off =
    ((s.reg b off &&& ~~~(if s.staged b then (classBits b off).1 else (classBits b off).1 ||| (classBits b off).2.1)) |||
      (v &&& (if s.staged b then (classBits b off).1 else (classBits b off).1 ||| (classBits b off).2.1))) &&&
      ~~~(v &&& (classBits b off).2.2.1) := by
  unfold writeReg
  dsimp only
  split <;> exact reg_setReg_self ..

/-! ### The registers of GLB -/

theorem regDefAt_mem {t : BlkType} {off : Nat} {d : RegDef} (h : regDefAt t off = some d) : d ∈ regDefsHDR ++ regDefs t := by
  unfold regDefAt at h
  split at h
  · exact List.mem_append_left _ (List.mem_of_find?_eq_some h)
  · exact List.mem_append_right _ (List.mem_of_find?_eq_some h)

/-- No register of GLB is staged, and no bit is both written and cleared. -/
theorem classBits_glb (off : Nat) : (classBits Blk.glb off).2.1 = 0 ∧
    (classBits Blk.glb off).1 &&& (classBits Blk.glb off).2.2.1 = 0 := by
  have hall : ∀ d ∈ regDefsHDR ++ regDefs .glb, BitVec.ofNat 32 d.rws = 0 ∧ BitVec.ofNat 32 d.rw &&& BitVec.ofNat 32 d.w1c = 0 := by decide
  unfold classBits
  split
  · rename_i d hd
    exact hall d (regDefAt_mem (show regDefAt .glb off = some d from hd))
  · exact ⟨rfl, rfl⟩

/-- The registers of GLB that a read computes have no RW bit. -/
theorem glbRead_rw (s : State) (off : Nat) : s.glbRead off &&& (classBits Blk.glb off).1 =
    s.reg Blk.glb off &&& (classBits Blk.glb off).1 := by
  have hnone : ∀ x y : Word, (classBits Blk.glb off).1 = 0 → x &&& (classBits Blk.glb off).1 = y &&& (classBits Blk.glb off).1 := by
    intro x y h
    rw [h]
    exact BitVec.and_zero.trans BitVec.and_zero.symm
  unfold glbRead
  split
  · rename_i h; subst h; exact hnone _ _ (by decide)
  · split
    · rename_i h; subst h; exact hnone _ _ (by decide)
    · split
      · rename_i h
        have hsum : ∀ i < 21, (classBits Blk.glb (0x200 + i)).1 = 0 := by decide
        obtain ⟨i, rfl⟩ : ∃ i, off = 0x200 + i := ⟨off - 0x200, by have := h.1; simp only [GLB.INT_SUM] at this; omega⟩
        exact hnone _ _ (hsum i (by have := h.2; simp only [GLB.INT_SUM] at this; omega))
      · rfl

/-- The word that a write of GLB stores in the form `al`, by its RW bits and by its W1C bits. -/
theorem aliasWord_glb {off : Nat} (ho : 0x30 ≤ off) (hl : SMap.get? s.latched (regKey Blk.glb off) = none) (al : Nat) (v : Word) :
    s.aliasWord q Blk.glb off al v &&& (classBits Blk.glb off).1 = (if al = 0 then v else if al = 1 then s.reg Blk.glb off ||| v
      else if al = 2 then s.reg Blk.glb off &&& ~~~v else s.reg Blk.glb off ^^^ v) &&& (classBits Blk.glb off).1 ∧
    s.aliasWord q Blk.glb off al v &&& (classBits Blk.glb off).2.2.1 =
      (if al = 0 then v &&& (classBits Blk.glb off).2.2.1 else 0) := by
  obtain ⟨hrws, hdisj⟩ := classBits_glb off
  have hread : (s.readOwn q Blk.glb off).1 = s.glbRead off := by
    unfold readOwn
    simp only [hl]
    rfl
  have hbase : s.mergeBase q Blk.glb off = s.reg Blk.glb off &&& (classBits Blk.glb off).1 := by
    unfold mergeBase
    rw [if_neg (show off ≠ HDR.INT_EN by unfold HDR.INT_EN; omega), if_neg (by omega), hread]
    dsimp only
    rw [hrws, glbRead_rw]
    exact (congrArg _ BitVec.and_zero).trans BitVec.or_zero
  unfold aliasWord
  dsimp only
  rw [hbase, hrws, show (classBits Blk.glb off).1 ||| 0 = (classBits Blk.glb off).1 from BitVec.or_zero]
  generalize (classBits Blk.glb off).1 = m at hdisj ⊢
  generalize (classBits Blk.glb off).2.2.1 = c at hdisj ⊢
  generalize s.reg Blk.glb off = r
  have hbit : ∀ i, (m.getLsbD i && c.getLsbD i) = false := fun i => by
    rw [← BitVec.getLsbD_and, hdisj]
    exact BitVec.getLsbD_zero
  match al with
  | 0 => exact ⟨rfl, rfl⟩
  | 1 | 2 | n + 3 =>
    constructor <;> refine BitVec.eq_of_getLsbD_eq fun i hi => ?_ <;> have hi' := hbit i <;>
      simp only [Nat.add_eq_zero_iff, Nat.reduceEqDiff, OfNat.ofNat_ne_zero, and_false, one_ne_zero, if_false, if_true,
        BitVec.getLsbD_and, BitVec.getLsbD_or, BitVec.getLsbD_xor, BitVec.getLsbD_not] <;>
      grind

end State
end Sys2Proof.Machine
end

section
/-! A write of one of GLB's registers from 0x100 on. -/

namespace Sys2Proof.Machine
namespace State

variable {s : State} {q : Requester}

/-- A register of GLB from 0x100 on, but for the interrupt mask and the count, is written as its classes say. -/
theorem writeDirect_glb {off : Nat} (ho : 0x100 ≤ off) (hmask : off ≠ GLB.INTN_MASK 0) (hcount : off ≠ GLB.OFF_ACC_STAT)
    (v : Word) : s.writeDirect q Blk.glb off v = s.writeReg Blk.glb off v := by
  have hown : s.writeOwn q Blk.glb off v = s.writeReg Blk.glb off v := by
    show s.glbWrite off v = _
    unfold glbWrite
    simp only [if_neg hmask, hcount, false_and, if_false]
  unfold writeDirect
  rw [if_neg (show ¬ off < 0x30 by omega), hown]
  exact ite_self _

/-- What a write of GLB leaves in the register. -/
theorem reg_writeReg_glb (off : Nat) (v : Word) : (s.writeReg Blk.glb off v).reg Blk.glb off =
    ((s.reg Blk.glb off &&& ~~~(classBits Blk.glb off).1) ||| (v &&& (classBits Blk.glb off).1)) &&&
      ~~~(v &&& (classBits Blk.glb off).2.2.1) := by
  rw [reg_writeReg_self, (classBits_glb off).1,
    show (classBits Blk.glb off).1 ||| 0 = (classBits Blk.glb off).1 from BitVec.or_zero, ite_self]

/-- The RW bits of what is left, and the others. -/
theorem writeReg_bits {r v m c : Word} (h : m &&& c = 0) :
    ((r &&& ~~~m ||| v &&& m) &&& ~~~(v &&& c)) &&& m = v &&& m ∧
    ((r &&& ~~~m ||| v &&& m) &&& ~~~(v &&& c)) &&& ~~~m = r &&& ~~~m &&& ~~~(v &&& c) := by
  have hbit : ∀ i, (m.getLsbD i && c.getLsbD i) = false := fun i => by
    rw [← BitVec.getLsbD_and, h]
    exact BitVec.getLsbD_zero
  constructor <;> refine BitVec.eq_of_getLsbD_eq fun i hi => ?_ <;> have hi' := hbit i <;>
    simp only [BitVec.getLsbD_and, BitVec.getLsbD_or, BitVec.getLsbD_not] <;> grind

end State
end Sys2Proof.Machine

open Sys2Proof Sys2Proof.Machine Sys2Proof.Machine.State

/-- Settles O54: the write goes to the register as its classes say (`writeDirect_glb`), with the word that its form makes
(`aliasWord_glb`). -/
theorem glbRegisters : Obligations.GlbRegisters := by
  unfold Obligations.GlbRegisters
  rintro s off al q addr be v hd rfl ha ht hr ho hmask hcount hl
  have hop : s.busWrite q addr.toNat 15 v =
      (s.heard q).writeReg Blk.glb off ((s.heard q).aliasWord q Blk.glb off al v) := by
    rw [busWrite_reg hd ha ht hr, writeWord_narrow (fun _ => rfl)]
    exact writeDirect_glb ho hmask hcount _
  have hlt := bar0Target_reg_lt ht
  have hperf : Blk.perf ≠ Blk.glb := by decide
  have hl' : SMap.get? (s.heard q).latched (regKey Blk.glb off) = none := by
    rw [of_heard latched fun _ => rfl]
    exact hl
  obtain ⟨hrw, hw1c⟩ := aliasWord_glb (q := q) (show 0x30 ≤ off by omega) hl' al v
  rw [reg_heard s q hperf hlt] at hrw
  obtain ⟨hkept, hrest⟩ := writeReg_bits (r := s.reg Blk.glb off) (v := (s.heard q).aliasWord q Blk.glb off al v)
    (classBits_glb off).2
  refine gives_of (congrArg (finish s) hop) ⟨?_, ?_, ?_, ?_, ?_⟩
  · rw [reg_sent _ _ hperf hlt, reg_writeReg_glb, reg_heard s q hperf hlt, hkept, hrw]
  · rw [reg_sent _ _ hperf hlt, reg_writeReg_glb, reg_heard s q hperf hlt, hrest, hw1c]
  · rw [keepsRegs_iff, outside_sent, outside_writeReg _ (List.mem_singleton_self _) hlt, outside_heard]
  · rw [keepsBlk_iff, others_sent _ hperf, others_writeReg _ (List.mem_singleton_self _), others_heard _ hperf]
  · unfold KeepsUnits
    rw [sent_units, writeReg_units, heard_units]
end

section
/-! The PCIe function: its reset, its link and its configuration space (R28, R32, R55). -/

namespace Sys2Proof.Machine
namespace State

variable {s : State}

/-- With MSI-X disabled no command sends a vector. -/
theorem sent_of_msixEn_false {old s : State} (h : s.msixEn = false) : sent old s = s := by
  have hstep : ∀ v, s.sendVector v = s := fun v => by
    unfold sendVector
    simp only [h, Bool.not_false, Bool.or_true, if_true]
  have hfold : ∀ l : List Nat, l.foldl sendVector s = s := fun l => by
    induction l with
    | nil => rfl
    | cons v l ih => rw [List.foldl_cons, hstep, ih]
  unfold sent sendEdges
  rw [hfold, hfold]

theorem msixWord_of_rest {t : State} (h : t.rest = s.rest) (v w : Nat) : t.msixWord v w = s.msixWord v w :=
  of_rest (msixWord · v w) (fun _ => rfl) h

theorem msixMasked_of_rest {t : State} (h : t.rest = s.rest) (v : Nat) : t.msixMasked v = s.msixMasked v :=
  of_rest (msixMasked · v) (fun _ => rfl) h

/-! ### The pending-bit array -/

theorem pendSend_rest (s : State) (v : Nat) : (s.pendSend v).rest = s.rest := by
  unfold pendSend
  split
  · dsimp only
    split
    · exact sendVector_rest ..
    · rfl
  · rfl

theorem outside_pendSend {bs : List Nat} (s : State) (v : Nat) : (s.pendSend v).outside bs = s.outside bs := by
  unfold pendSend
  split
  · dsimp only
    split
    · exact (outside_sendVector _ _).trans (outside_of_eq rfl rfl)
    · exact outside_of_eq rfl rfl
  · rfl

theorem f_pendSend (s : State) (v : Nat) {b : Nat} {g : Fld} (h : Blk.perf ≠ b) (ho : g.off < 4096) :
    (s.pendSend v).f b g = s.f b g := by
  have hframe := (keepsRegs_iff (bs := [])).2 (outside_pendSend s v)
  unfold State.f
  rw [hframe.reg b g.off List.not_mem_nil (Ne.symm h) ho]

/-! ### The link -/

/-- The link comes up (R28): the reset of the function ends and LINK_STAT shows the link, before pending vectors are sent. -/
def linkStat (s : State) (speed width : Nat) (flit reversed : Bool) : State :=
  (((({ s with perst := false }.setF Blk.pcie PCIE.LINK_STAT_SPEED speed).setF Blk.pcie PCIE.LINK_STAT_WIDTH width).setB Blk.pcie
    PCIE.LINK_STAT_FLIT flit).setB Blk.pcie PCIE.LINK_STAT_REVERSED reversed).setF Blk.pcie PCIE.LINK_STAT_DL_ACTIVE 1

/-- LINK_UP shows the link; the vectors it sends change no register outside PERF. -/
theorem linkUpEvent_of_ready (h : s.domReady Dom.pcie = true) (hh : s.held = false) (speed width : Nat) (flit rev : Bool) :
    (s.linkUpEvent speed width flit rev).rest = (s.linkStat speed width flit rev).rest ∧
    (∀ bs, (s.linkUpEvent speed width flit rev).outside bs = (s.linkStat speed width flit rev).outside bs) ∧
    ∀ g : Fld, g.off < 4096 → (s.linkUpEvent speed width flit rev).f Blk.pcie g = (s.linkStat speed width flit rev).f Blk.pcie g := by
  have hop : s.linkUpEvent speed width flit rev = if (s.linkStat speed width flit rev).msixEn then
      ((List.range 256).filter fun v => (s.linkStat speed width flit rev).pba.getLsbD v).foldl pendSend
        (s.linkStat speed width flit rev) else s.linkStat speed width flit rev := by
    unfold linkUpEvent
    rw [if_neg (by rw [h, hh]; decide)]
    rfl
  rw [hop]
  split
  · exact ⟨foldl_keeps rest _ _ (fun s v _ => pendSend_rest s v) _, fun bs => outside_foldl _ (fun s v => outside_pendSend s v) _,
      fun g hg => foldl_keeps (fun t => t.f Blk.pcie g) _ _ (fun s v _ => f_pendSend s v (by decide) hg) _⟩
  · exact ⟨rfl, fun _ => rfl, fun _ _ => rfl⟩

theorem linkStat_f (s : State) (speed : Fin 6) (width : Fin 5) (flit rev : Bool) :
    (s.linkStat (speed.val + 1) (2 ^ width.val) flit rev).f Blk.pcie PCIE.LINK_STAT_SPEED = speed.val + 1 ∧
    (s.linkStat (speed.val + 1) (2 ^ width.val) flit rev).f Blk.pcie PCIE.LINK_STAT_WIDTH = 2 ^ width.val ∧
    (s.linkStat (speed.val + 1) (2 ^ width.val) flit rev).fb Blk.pcie PCIE.LINK_STAT_FLIT = flit ∧
    (s.linkStat (speed.val + 1) (2 ^ width.val) flit rev).fb Blk.pcie PCIE.LINK_STAT_REVERSED = rev ∧
    (s.linkStat (speed.val + 1) (2 ^ width.val) flit rev).f Blk.pcie PCIE.LINK_STAT_DL_ACTIVE = 1 := by
  have hwidth : ∀ w : Fin 5, 2 ^ w.val % 2 ^ PCIE.LINK_STAT_WIDTH.w = 2 ^ w.val := by decide
  have hspeed : ∀ v : Fin 6, (v.val + 1) % 2 ^ PCIE.LINK_STAT_SPEED.w = v.val + 1 := by decide
  unfold linkStat
  simp only [setB_eq]
  refine ⟨?_, ?_, ?_, ?_, ?_⟩
  · simp (disch := decide) only [f_setF_apart, f_setF_self, hspeed]
  · simp (disch := decide) only [f_setF_apart, f_setF_self, hwidth]
  · simp (disch := decide) only [fb_setF_apart, fb_setF_self]
    cases flit <;> rfl
  · simp (disch := decide) only [fb_setF_apart, fb_setF_self]
    cases rev <;> rfl
  · simp (disch := decide) only [f_setF_self]
    rfl

/-! ### The function's masks -/

/-- Unmasking a vector clears its mask bit; its message goes when the vector is pending (R55). -/
theorem unmask_of_ready (h : s.domReady Dom.pcie = true) (hh : s.held = false) (v : Nat) :
    s.unmask v = ({ s with msix := SMap.put 1 s.msix (4 * v + 3) 0 } : State).pendSend v := by
  unfold unmask
  rw [if_pos (by rw [h, hh]; decide)]
  rfl

/-- Clearing a vector's mask word unmasks it and leaves its message. -/
theorem msixWord_put (s : State) (v : Nat) : ({ s with msix := SMap.put 1 s.msix (4 * v + 3) 0 } : State).msixMasked v = false ∧
    ∀ w ≠ 3, ({ s with msix := SMap.put 1 s.msix (4 * v + 3) 0 } : State).msixWord v w = s.msixWord v w := by
  constructor
  · show (SMap.get (1 : Word) (SMap.put 1 s.msix (4 * v + 3) 0) (4 * v + 3)).getLsbD 0 = false
    rw [SMap.get_put_self]
    rfl
  · intro w hw
    unfold msixWord
    rw [if_neg hw]
    exact SMap.get_put_ne (1 : Word) 0 s.msix (show 4 * v + 3 ≠ 4 * v + w by omega) 0

/-- A mask just cleared. -/
theorem unmask_rest (h : s.domReady Dom.pcie = true) (hh : s.held = false) (v : Nat) :
    (s.unmask v).rest = ({ s with msix := SMap.put 1 s.msix (4 * v + 3) 0 } : State).rest := by
  rw [unmask_of_ready h hh, pendSend_rest]

theorem unmask_msixMasked (h : s.domReady Dom.pcie = true) (hh : s.held = false) (v : Nat) :
    (s.unmask v).msixMasked v = false := by
  rw [msixMasked_of_rest (unmask_rest h hh v)]
  exact (msixWord_put s v).1

/-- A vector that is enabled and not masked goes out while the link is up. -/
theorem mem_out_sendVector_self {v : Nat} (h : s.domReady Dom.pcie = true) (hen : s.msixEn = true) (hm : s.msixMasked v = false)
    (hup : s.linkUp = true) : OutMsg.msix v (s.msixWord v 0) (s.msixWord v 1) (s.msixWord v 2) ∈ (s.sendVector v).out := by
  unfold sendVector
  rw [if_neg (by rw [h, hen]; decide), if_neg (by rw [hm, hup]; decide)]
  rw [out_tlp]
  exact mem_out_send ..

/-- A pending vector whose input is 1 goes out once it is unmasked. -/
theorem mem_out_unmask (h : s.domReady Dom.pcie = true) (hh : s.held = false) (hen : s.msixEn = true) (hup : s.linkUp = true)
    {v : Nat} (hp : s.pba.getLsbD v = true) (hin : s.vectorInput v = true) :
    OutMsg.msix v (s.msixWord v 0) (s.msixWord v 1) (s.msixWord v 2) ∈ (s.unmask v).out := by
  obtain ⟨hmask, hword⟩ := msixWord_put s v
  rw [unmask_of_ready h hh, ← hword 0 (by decide), ← hword 1 (by decide), ← hword 2 (by decide)]
  generalize hu : ({ s with msix := SMap.put 1 s.msix (4 * v + 3) 0 } : State) = u at hmask ⊢
  have hen' : u.msixEn = true := hu ▸ hen
  have hup' : u.linkUp = true := hu ▸ hup
  have hp' : u.pba.getLsbD v = true := hu ▸ hp
  have hin' : u.vectorInput v = true := hu ▸ hin
  have hready : u.domReady Dom.pcie = true := hu ▸ h
  clear hu hword
  unfold pendSend
  rw [if_pos (by rw [hp', hmask]; rfl)]
  dsimp only
  split
  · exact mem_out_sendVector_self hready hen' hmask hup'
  · rename_i hnot
    exact absurd hin' hnot

end State
end Sys2Proof.Machine

open Sys2Proof Sys2Proof.Machine Sys2Proof.Machine.State

/-- PCIE_PERST (R28). -/
theorem pciePerst_gives (s : State) : Gives .pciePerst s fun t => t.perst = true ∧ t.msix = [] ∧ t.pba = 0 ∧ t.msixEn = false ∧
    t.busMaster = false ∧ t.d3hot = false ∧ s.KeepsRegs [Blk.pcie] t ∧ s.KeepsUnitsBut (fun u =>
    { u with msix := [], msixEn := false, busMaster := false, d3hot := false, perst := false }) t := by
  have hsent : sent s s.pcieReset = s.pcieReset := sent_of_msixEn_false (by unfold pcieReset; dsimp only; split <;> rfl)
  refine gives_of (u := s.pcieReset) rfl ?_
  rw [hsent]
  unfold pcieReset
  dsimp only
  split
  · refine ⟨rfl, rfl, rfl, rfl, rfl, rfl, ?_, rfl⟩
    rw [keepsRegs_iff, outside_setF _ (by decide) (by decide), outside_setF _ (by decide) (by decide)]
    exact outside_of_eq rfl rfl
  · exact ⟨rfl, rfl, rfl, rfl, rfl, rfl, keepsRegs_of_eq rfl rfl, rfl⟩

/-- LINK_UP (R28). -/
theorem linkUp_gives (s : State) (speed : Fin 6) (width : Fin 5) (flit rev : Bool) (h : s.domReady Dom.pcie = true)
    (hh : s.held = false) : Gives (.linkUp speed width flit rev) s fun t => t.perst = false ∧
    t.f Blk.pcie PCIE.LINK_STAT_SPEED = speed.val + 1 ∧ t.f Blk.pcie PCIE.LINK_STAT_WIDTH = 2 ^ width.val ∧
    t.fb Blk.pcie PCIE.LINK_STAT_FLIT = flit ∧ t.fb Blk.pcie PCIE.LINK_STAT_REVERSED = rev ∧
    t.f Blk.pcie PCIE.LINK_STAT_DL_ACTIVE = 1 ∧ s.KeepsRegs [Blk.pcie] t ∧
    s.KeepsUnitsBut (fun u => { u with perst := false }) t := by
  obtain ⟨hrest, hout, hf⟩ := linkUpEvent_of_ready h hh (speed.val + 1) (2 ^ width.val) flit rev
  obtain ⟨hspeed, hwidth, hflit, hrev, hdl⟩ := linkStat_f s speed width flit rev
  have hfb : ∀ g : Fld, g.off < 4096 → (s.linkUpEvent (speed.val + 1) (2 ^ width.val) flit rev).fb Blk.pcie g =
      (s.linkStat (speed.val + 1) (2 ^ width.val) flit rev).fb Blk.pcie g := fun g hg => congrArg (· != 0) (hf g hg)
  have hperf : Blk.perf ≠ Blk.pcie := by decide
  refine gives_of (u := s.linkUpEvent (speed.val + 1) (2 ^ width.val) flit rev) rfl ⟨?_, ?_, ?_, ?_, ?_, ?_, ?_, ?_⟩
  · rw [of_sent State.perst fun _ => rfl]
    exact of_rest State.perst (fun _ => rfl) hrest
  · rw [f_sent _ _ hperf (by decide), hf _ (by decide), hspeed]
  · rw [f_sent _ _ hperf (by decide), hf _ (by decide), hwidth]
  · rw [fb_sent _ _ hperf (by decide), hfb _ (by decide), hflit]
  · rw [fb_sent _ _ hperf (by decide), hfb _ (by decide), hrev]
  · rw [f_sent _ _ hperf (by decide), hf _ (by decide), hdl]
  · rw [keepsRegs_iff, outside_sent, hout]
    unfold linkStat
    simp (disch := decide) only [outside_setF, outside_setB]
    exact outside_of_eq rfl rfl
  · unfold KeepsUnitsBut
    rw [sent_units, units_of_rest hrest]
    rfl

/-- LINK_DOWN (R28). -/
theorem linkDown_gives (s : State) (h : s.domReady Dom.pcie = true) : Gives .linkDown s fun t =>
    t.f Blk.pcie PCIE.LINK_STAT_DL_ACTIVE = 0 ∧ s.KeepsRegs [Blk.pcie] t ∧ s.KeepsUnits t := by
  have hop : s.linkDownEvent = (s.setF Blk.pcie PCIE.LINK_STAT_DL_ACTIVE 0).setF Blk.pcie PCIE.LINK_STAT_SPEED 0 := by
    unfold linkDownEvent
    rw [if_neg (by rw [h]; decide)]
  refine gives_of (congrArg (finish s) hop) ⟨?_, ?_, ?_⟩
  · rw [f_sent _ _ (by decide) (by decide), f_setF_apart _ (by decide), f_setF_self _ _ _ (by decide)]
    rfl
  · rw [keepsRegs_iff, outside_sent, outside_setF _ (by decide) (by decide), outside_setF _ (by decide) (by decide)]
  · unfold KeepsUnits
    rw [sent_units, setF_units, setF_units]

/-- A write of the configuration space (R32, R55). -/
theorem pcieConfigWrite_gives (s : State) (d b m : Bool) (h : s.domReady Dom.pcie = true) (hh : s.held = false) :
    Gives (.pcieConfigWrite d b m) s fun t => t.d3hot = d ∧ t.busMaster = b ∧ t.msixEn = m ∧ s.KeepsRegs [] t ∧
    s.KeepsUnitsBut (fun u => { u with msixEn := false, busMaster := false, d3hot := false }) t := by
  have hop : s.configWrite d b m = { s with d3hot := d, busMaster := b, msixEn := m } := by
    unfold configWrite
    rw [if_neg (by rw [h, hh]; decide)]
  refine gives_of (congrArg (finish s) hop) ⟨?_, ?_, ?_, ?_, ?_⟩
  · exact of_sent State.d3hot (fun _ => rfl) _ _
  · exact of_sent State.busMaster (fun _ => rfl) _ _
  · exact of_sent State.msixEn (fun _ => rfl) _ _
  · rw [keepsRegs_iff, outside_sent]
    exact outside_of_eq rfl rfl
  · unfold KeepsUnitsBut
    rw [sent_units]
    rfl

/-- A request outside the function's windows (R32). -/
theorem unsupportedRequest_gives (s : State) (h : s.domReady Dom.pcie = true) (hh : s.held = false) :
    Gives .unsupportedRequest s fun t => t.f Blk.pcie PCIE.ERR_STAT_UR_SENT = 1 ∧ OutMsg.unsupported ∈ t.out ∧
    s.KeepsRegs [Blk.pcie] t ∧ s.KeepsUnits t := by
  have hop : s.unsupportedRequest = ((((s.setF Blk.pcie PCIE.ERR_STAT_UR_SENT 1).countSat Blk.pcie PCIE.ERR_STAT_COUNT 1).send
      .unsupported).tlp 0 1).tlp 1 1 := by
    unfold State.unsupportedRequest
    rw [if_neg (by rw [h, hh]; decide)]
  refine gives_of (congrArg (finish s) hop) ⟨?_, mem_out_sent ?_, ?_, ?_⟩
  · rw [f_sent _ _ (by decide) (by decide), f_tlp _ (by decide) (by decide), f_tlp _ (by decide) (by decide), f_send]
    unfold countSat
    rw [f_setF_apart _ (by decide), f_setF_self _ _ _ (by decide)]
    rfl
  · rw [out_tlp, out_tlp]
    exact mem_out_send ..
  · rw [keepsRegs_iff]
    simp (disch := decide) only [outside_sent, outside_tlp, outside_send, outside_countSat, outside_setF]
  · unfold KeepsUnits
    simp only [sent_units, tlp_units, send_units, countSat_units, setF_units]

/-- Unmasking a vector (R55). -/
theorem msixUnmask_gives (s : State) (v : Fin 256) (h : s.domReady Dom.pcie = true) (hh : s.held = false) :
    Gives (.msixUnmask v) s fun t => t.msixMasked v = false ∧ s.KeepsRegs [] t ∧
      s.KeepsUnitsBut (fun u => { u with msix := [] }) t := by
  refine gives_of (u := s.unmask v) rfl ⟨?_, ?_, ?_⟩
  · rw [of_sent (msixMasked · v) fun _ => rfl]
    exact unmask_msixMasked h hh v
  · rw [keepsRegs_iff, outside_sent, unmask_of_ready h hh, outside_pendSend]
    exact outside_of_eq rfl rfl
  · unfold KeepsUnitsBut
    rw [sent_units, units_of_rest (unmask_rest h hh v)]
    rfl

/-- Settles O5, row by row. -/
theorem pcieFunctionEvents : Obligations.PcieFunctionEvents := by
  unfold Obligations.PcieFunctionEvents
  refine ⟨pciePerst_gives, linkUp_gives, linkDown_gives, pcieConfigWrite_gives, unsupportedRequest_gives, msixUnmask_gives, ?_⟩
  intro s v h hh hen hup hp hin
  obtain ⟨t, hexec, hmask, hregs, hunits⟩ := msixUnmask_gives s v h hh
  refine ⟨t, hexec, hmask, ?_, hregs, hunits⟩
  have ht : sent s (s.unmask v) = t := Host.Outcome.next.inj hexec
  rw [← ht]
  exact mem_out_sent (mem_out_unmask h hh hen hup hp hin)
end

section
/-! An AON edge ends a configuration apply whose blocks have all committed (R419): the version directory in flash is written. -/

namespace Sys2Proof.Machine

/-- Reset with the Keeper's firmware running, and a configuration image without records applied and staged: the next edge of the
AON clock makes it the active version. -/
theorem idle_edge_writes_flash : ((State.reset.setF Blk.kpr KPR.KSTAT_STAGE 7).follow [.apply .pcie 0 0,
      .verifyingDone 0 ⟨1, false, []⟩, .stagingDone]).map (fun s => (s.pending.isEmpty, s.inReset,
        s.fb Blk.aon AON.XTAL_STAT_OK, s.flash.act, match step s with | .next t => t.flash.act | _ => s.flash.act)) =
    some (true, false, true, 255, 0) := by decide +kernel

end Sys2Proof.Machine

open Sys2Proof Sys2Proof.Machine

/-- Refutes O3: with no command waiting, an AON edge can end an apply, which makes the image's slot the active one in flash
(R419), so the clause `t.flash = s.flash` fails. -/
theorem not_idleClock : ¬ Obligations.IdleClock := by
  unfold Obligations.IdleClock
  rintro ⟨-, hedge⟩
  obtain ⟨s, -, hs⟩ := Option.map_eq_some_iff.1 idle_edge_writes_flash
  obtain ⟨hpending, hreset, hxtal, hold, hnew⟩ : _ ∧ _ ∧ _ ∧ _ ∧ _ := by simpa only [Prod.mk.injEq] using hs
  obtain ⟨t, hstep, -, -, -, -, -, -, hflash, -⟩ := hedge s (List.isEmpty_iff.1 hpending) hreset hxtal
  rw [hstep] at hnew
  dsimp only at hnew
  have hact : t.flash.act = s.flash.act := congrArg FlashDir.act hflash
  rw [hact, hold] at hnew
  exact absurd hnew (by decide)
end

section
/-! Disabling a time base has its triggers pass, and an entry that skips reports to every block armed on it, as the run of
`tbEnable_skips_armed_fec` shows. -/

open Sys2Proof Sys2Proof.Machine

/-- Refutes O13, in a state that a run from reset reaches (`tbEnable_skips_armed_fec`): where EN goes to 0 the frame lets LOG,
TIME, SCHED and the ports change, but the entry that skips disarms FEC (R48, R290 case 5). -/
theorem not_timeBaseRates : ¬ Obligations.TimeBaseRates := by
  unfold Obligations.TimeBaseRates
  rintro ⟨-, -, -, -, -, -, -, -, -, -, -, hstop, -, -⟩
  obtain ⟨s, -, hs⟩ := Option.map_eq_some_iff.1 tbEnable_skips_armed_fec
  obtain ⟨hreach, hen, harmed, hskipped⟩ : _ ∧ _ ∧ _ ∧ _ := by simpa only [Prod.mk.injEq] using hs
  obtain ⟨t, hexec, -, -, -, -, hregs, -, -⟩ := hstop s .pcie 0 0 ⟨rfl, hreach⟩ hen (by decide) (by decide)
  rw [State.follow_singleton hexec, Option.map_some, hregs.reg _ _ (by decide) (by decide) (by decide), harmed] at hskipped
  exact absurd hskipped (by decide)
end

section
/-! The end of a port's generation has the triggers on its positions pass (R290), and an entry that skips reports to every block
armed on it (R48). So a command that takes a port out of alignment can write the page header of any block with staging. -/

namespace Sys2Proof.Machine
namespace State

/-- Entry 0 waits for a position of the aligned host-bound direction of port 0 and is skipped when that passes (LATE_ATTR = 1),
and HK is armed on it. -/
def hkWaits (s : State) : State :=
  { ((s.setF (Blk.port 0) HDR.BLK_CTL_ENABLE 1).setF (Blk.port 0) PORT.ALIGN_STAT_RX_STATE 3).setF Blk.hk
      HDR.STAGE_STAT_ARMED 1 with
    sched := { s.sched with entries := [(0, { w0 := 5, w1 := 64, state := 1 })] } }

/-- A command that disarms a block changes its page header. -/
theorem not_keepsRegs_of_disarms {bs : List Nat} {c : Instr} {s t : State} (hexec : exec c s = .next t)
    (harmed : s.armed Blk.hk = true) (hrun : (s.follow [c]).map (·.armed Blk.hk) = some false) (hbs : Blk.hk ∉ bs) :
    ¬ s.KeepsRegs bs t := by
  intro hregs
  rw [follow_singleton hexec, Option.map_some, Option.some_inj] at hrun
  unfold armed fb State.f at harmed hrun
  rw [hregs.reg _ _ hbs (by decide) (by decide), harmed] at hrun
  exact absurd hrun (by decide)

end State

theorem markerLoss_disarms_hk : (State.on.hkWaits.follow [.markerLoss 0 true]).map (·.armed Blk.hk) = some false := by
  decide

/-- LLANE1 with its receiver enabled. -/
def State.rxEnabled : State := State.on.hkWaits.setF (Blk.llane 1) LLANE.RX_CTL_RX_EN 1

/-- A write of RX_CTL that keeps the receiver enabled and asks for rate 1. -/
def rxCtlRate1 : Word := LLANE.RX_CTL_RATE.put (LLANE.RX_CTL_RX_EN.put 0 1) 1

theorem rxCtlWrite_disarms_hk :
    (State.rxEnabled.follow [.rxCtlWrite .pcie 1 rxCtlRate1]).map (·.armed Blk.hk) = some false := by decide +kernel

/-- Host lane 1 in SWITCH. -/
def State.hostSwitching : State := State.on.hkWaits.setF (Blk.hlane 1) HLANE.HL_STAT_STATE 5

theorem switchElapsed_disarms_hk : (State.hostSwitching.follow [.switchElapsed 1]).map (·.armed Blk.hk) = some false := by
  decide +kernel

/-- The device leaves the critical state with the next measurement below 115 °C. -/
def State.cooling : State :=
  { (State.on.hkWaits.setF Blk.therm THERM.STAT_BUSY 1).setF Blk.therm THERM.STAT_CRIT 1 with therm := { cool := 15 } }

theorem measurementDone_disarms_hk :
    (State.cooling.follow [.measurementDone (List.replicate 24 (some 0))]).map (·.armed Blk.hk) = some false := by decide +kernel

/-- LLANE1 under test. -/
def State.laneUnderTest : State := { State.on.hkWaits with bist := { lane := some 1 } }

theorem laneDone_disarms_hk :
    (State.laneUnderTest.follow [.laneDone false false false [] []]).map (·.armed Blk.hk) = some false := by decide +kernel

end Sys2Proof.Machine

open Sys2Proof Sys2Proof.Machine Sys2Proof.Machine.State

/-- Refutes O16: the loss of marker lock ends the generation of port 0, so the entry that waits for it is skipped and disarms HK
(R48, R290), which is not among the blocks that may change. -/
theorem not_portAlignment : ¬ Obligations.PortAlignment := by
  unfold Obligations.PortAlignment
  rintro ⟨-, -, -, -, -, hloss, -⟩
  obtain ⟨t, hexec, -, -, -, -, -, hregs, -⟩ := hloss State.on.hkWaits 0 true (by decide)
  exact not_keepsRegs_of_disarms hexec (by decide) markerLoss_disarms_hk (by decide) hregs

/-- Refutes O19: a write of RX_CTL has the ports judged again; port 0, whose lanes are not ready, leaves alignment, so the entry
that waits for it is skipped and disarms HK (R48, R290), which is not among the blocks that may change. -/
theorem not_lineReceiver : ¬ Obligations.LineReceiver := by
  unfold Obligations.LineReceiver
  rintro ⟨-, hrate, -⟩
  obtain ⟨t, hexec, -, -, -, -, hregs, -⟩ := hrate State.rxEnabled .pcie 1 rxCtlRate1 (by decide) (by decide) (by decide)
    (by decide)
  exact not_keepsRegs_of_disarms hexec (by decide) rxCtlWrite_disarms_hk (by decide) hregs

/-- Refutes O21: a host lane that leaves SWITCH has the ports judged again; port 0, whose lanes are not ready, leaves alignment,
so the entry that waits for it is skipped and disarms HK (R48, R290), which is not among the blocks that may change. -/
theorem not_hostNegotiation : ¬ Obligations.HostNegotiation := by
  unfold Obligations.HostNegotiation
  rintro ⟨-, -, -, -, -, -, -, hswitch, -⟩
  obtain ⟨t, hexec, -, -, -, -, hregs, -⟩ := hswitch State.hostSwitching 1 (by decide)
  exact not_keepsRegs_of_disarms hexec (by decide) switchElapsed_disarms_hk (by decide) hregs

/-- Refutes O24: the measurement that ends the critical state has the ports judged again; port 0, whose lanes are not ready,
leaves alignment, so the entry that waits for it is skipped and disarms HK (R48, R290), which is not among the blocks that may
change. -/
theorem not_thermalMeasurement : ¬ Obligations.ThermalMeasurement := by
  unfold Obligations.ThermalMeasurement
  rintro ⟨-, -, -, -, hdone, -⟩
  obtain ⟨t, hexec, -, -, -, -, -, -, -, hregs, -⟩ := hdone State.cooling (List.replicate 24 (some 0)) (by decide)
  exact not_keepsRegs_of_disarms hexec (by decide) measurementDone_disarms_hk (by decide) hregs

/-- Refutes O35: the end of a lane test resets the lane and has the ports judged again; port 0, whose lanes are not ready, leaves
alignment, so the entry that waits for it is skipped and disarms HK (R48, R290), which is not among the blocks that may
change. -/
theorem not_bistRuns : ¬ Obligations.BistRuns := by
  unfold Obligations.BistRuns
  rintro ⟨-, -, -, -, -, -, -, -, -, hdone⟩
  obtain ⟨t, hexec, -, -, -, -, -, -, -, -, -, -, hregs, -⟩ := hdone State.laneUnderTest 1 false false false [] [] (by decide)
    rfl
  exact not_keepsRegs_of_disarms hexec (by decide) laneDone_disarms_hk (by decide) hregs
end

section
/-! Where a record goes (R374): to the Logbook's open page. The clauses on memory speak of every state, and so also of a Logbook
whose open page is not one of the 1,024 staging pages; there a record is stored outside the staging area. -/

namespace Sys2Proof.Machine
namespace State

/-- The open pages of the Logbook, for ordinary and for anchored records, are page 5,000, which lies beyond the staging area. -/
def strayLog (s : State) : State := { s with log := { pages := [⟨5000, false, 0, 0, false⟩, ⟨5000, true, 0, 0, false⟩] } }

/-- The BAR2 offset of the source byte of the next record on page 5,000. -/
def strayByte : Nat := 0x2C00000 + 1024 * 5000 + 6

/-- A command that stores a record on page 5,000 changes a byte outside the staging pages. -/
theorem not_keepsRam_of_strays {c : Instr} {s t : State} {x : Byte} (hexec : exec c s = .next t) (hold : s.sramSeen strayByte = 0)
    (hrun : (s.follow [c]).map (·.sramSeen strayByte) = some x) (hx : x ≠ 0) : ¬ s.KeepsRam t := by
  intro hram
  rw [follow_singleton hexec, Option.map_some, Option.some_inj] at hrun
  rw [hram.sram strayByte (.inr (by decide)), hold] at hrun
  exact hx hrun.symm

/-- Engine 1 about to issue an instruction. -/
def strayEngine : State := (State.on.engUp 1).strayLog

end State

theorem vsat_strays : (State.strayEngine.follow [.vsat 1 0 0 0]).map (·.sramSeen State.strayByte) = some 43 := by decide +kernel

theorem misaligned_lw_strays : (State.strayEngine.follow [.lw 1 0 1 1]).map (·.sramSeen State.strayByte) = some 43 := by
  decide +kernel

/-- Engine 1 halted at a PC outside its bank. -/
def State.strayHalted : State :=
  (((State.on.engUp 1).setEf 1 ENG.LE_CTL_RUN 0).setRun 1 .halted).setEf 1 ENG.UC_BANK0_LEN 0 |>.strayLog

theorem engineStep_strays : (State.strayHalted.follow [.engineStep .pcie 1]).map (·.sramSeen State.strayByte) = some 43 := by
  decide +kernel

/-- A paired twin that has gone silent. -/
def State.strayPaired : State := (State.on.twUp 3).strayLog

theorem adrift_strays : (State.strayPaired.follow [.adrift]).map (·.sramSeen State.strayByte) = some 21 := by decide +kernel

end Sys2Proof.Machine

open Sys2Proof Sys2Proof.Machine Sys2Proof.Machine.State

/-- Refutes O38, in a state that no run reaches: VSAT with sh = 0 faults, and the fault's record goes to the Logbook's open page,
which the clause on memory takes to be a staging page without a premise that says so. -/
theorem not_engineVector : ¬ Obligations.EngineVector := by
  unfold Obligations.EngineVector
  rintro ⟨-, -, -, -, -, -, -, -, -, hvsat, -⟩
  obtain ⟨t, hexec, -, -, -, -, -, -, hram⟩ := hvsat strayEngine 1 0 0 0 (by decide) (.inl rfl)
  exact not_keepsRam_of_strays hexec rfl vsat_strays (by decide) hram

/-- Refutes O40, in a state that no run reaches: a misaligned LW faults, and the fault's record goes to the Logbook's open page,
which the clause on memory takes to be a staging page without a premise that says so. -/
theorem not_engineMemory : ¬ Obligations.EngineMemory := by
  unfold Obligations.EngineMemory
  rintro ⟨-, -, -, -, -, -, -, hlw, -⟩
  obtain ⟨t, hexec, -, -, -, -, -, -, -, -, -, hram⟩ := hlw strayEngine 1 0 1 1 (by decide) (by decide)
  exact not_keepsRam_of_strays hexec rfl misaligned_lw_strays (by decide) hram

/-- Refutes O43, in a state that no run reaches: STEP at a PC outside the bank faults, and the fault's record goes to the
Logbook's open page, which the clause on memory takes to be a staging page without a premise that says so. -/
theorem not_engineBanks : ¬ Obligations.EngineBanks := by
  unfold Obligations.EngineBanks
  rintro ⟨-, hstep, -⟩
  obtain ⟨t, hexec, -, -, -, -, -, -, -, hram⟩ := hstep strayHalted .pcie 1 (by decide) (by decide) (by decide) (by decide)
    (by decide) (by decide) (by decide)
  exact not_keepsRam_of_strays hexec rfl engineStep_strays (by decide) hram

/-- Refutes O45, in a state that no run reaches: going ADRIFT is recorded, and the record goes to the Logbook's open page, which
the clause on memory takes to be a staging page without a premise that says so. -/
theorem not_twinPairing : ¬ Obligations.TwinPairing := by
  unfold Obligations.TwinPairing
  rintro ⟨-, -, -, -, -, -, -, -, hadrift, -⟩
  obtain ⟨t, hexec, -, -, -, -, -, -, -, -, hram⟩ := hadrift strayPaired (by decide) (by decide) (by decide) (by decide)
  exact not_keepsRam_of_strays hexec rfl adrift_strays (by decide) hram
end

section
/-! LOOP at the last word of a bank starts its body at word 2,048, and the field of a fault's PC holds 11 bits. -/

namespace Sys2Proof.Machine

/-- Engine 1 at word 2,047 executes LOOP with its own word as the body's end, so it goes on at word 2,048, outside the bank; the
next word faults, and FAULT.PC reads 0. -/
theorem loop_at_last_word : ((((State.on.engUp 1).modEng 1 fun g => { g with pc := 2047 }).follow [.loop 1 1 2047]).map fun s =>
      (s.engClock 1, decide ((s.eng 1).run = .running), s.pcOk 1, (s.eng 1).pc,
        (s.follow [.illegalInstruction 1 0xFFFFFFFF]).map fun t => t.ef 1 ENG.LE_FAULT_PC)) =
    some (true, true, false, 2048, some 0) := by decide +kernel

end Sys2Proof.Machine

open Sys2Proof Sys2Proof.Machine Sys2Proof.Machine.State

/-- Refutes O39: after LOOP at word 2,047 the engine stands at word 2,048, and the fault that follows reports 0 as its PC. -/
theorem not_engineControlFlow : ¬ Obligations.EngineControlFlow := by
  unfold Obligations.EngineControlFlow
  rintro ⟨-, -, -, -, -, -, -, -, -, -, -, -, -, hrange, -⟩
  obtain ⟨s, -, hs⟩ := Option.map_eq_some_iff.1 loop_at_last_word
  obtain ⟨hclock, hrun, hpc, hat, hfault⟩ : _ ∧ _ ∧ _ ∧ _ ∧ _ := by simpa only [Prod.mk.injEq] using hs
  obtain ⟨t, hexec, -, hshown, -⟩ := hrange s 1 0xFFFFFFFF hclock (of_decide_eq_true hrun) hpc (by decide)
  rw [follow_singleton hexec, Option.map_some, show t.ef 1 ENG.LE_FAULT_PC = (s.eng 1).pc from hshown] at hfault
  have hzero : (s.eng 1).pc = 0 := Option.some.inj hfault
  rw [hat] at hzero
  exact absurd hzero (by decide)
end

section
/-! A refused host record raises a LOG source, and a source that is raised stamps the block's EVT_TIME pair (R44). -/

namespace Sys2Proof.Machine

/-- Every domain powered, and TB0 at 5 ns. -/
def State.fiveNs : State := { State.on with tb := [(0, 5 * nsUnit)] }

theorem refused_hrec_stamps : (State.fiveNs.follow [.hrec .pcie 0 false]).map (·.reg Blk.log HDR.EVT_TIME_LO) = some 5 := by
  decide

end Sys2Proof.Machine

open Sys2Proof Sys2Proof.Machine Sys2Proof.Machine.State

/-- Refutes O30: a host record of type 0 is refused, and the raised source stamps EVT_TIME of LOG (R44), while the clause lets STAT
alone change in that block. -/
theorem not_logbookRegions : ¬ Obligations.LogbookRegions := by
  unfold Obligations.LogbookRegions
  rintro ⟨-, -, -, -, hrefused, -⟩
  obtain ⟨t, hexec, -, -, -, -, hkeeps, -⟩ := hrefused fiveNs .pcie 0 false (by decide) (by decide)
  have hstamp := refused_hrec_stamps
  rw [follow_singleton hexec, Option.map_some, hkeeps _ (by decide) (by decide)] at hstamp
  exact absurd hstamp (by decide)
end

section
/-! ACCEPT supplies the trigger of the entry that the transaction names, also while that entry is disabled; a late trigger of an
entry that skips reports to every block armed on it (R48, R290). -/

namespace Sys2Proof.Machine

/-- A coordinated action has been proposed for entry 0, which is disabled and skips late triggers, and HK is armed on it. -/
def State.proposed : State :=
  { ((State.on.twUp 3).setF Blk.twin TWIN.COORD_STAT_PHASE 1).setF Blk.hk HDR.STAGE_STAT_ARMED 1 with
    sched := { entries := [(0, { w0 := 4 })] } }

theorem accept_disarms_hk : (State.proposed.follow [.accept ⟨1, true⟩ 0 0]).map (·.armed Blk.hk) = some false := by decide

end Sys2Proof.Machine

open Sys2Proof Sys2Proof.Machine Sys2Proof.Machine.State

/-- Refutes O47: the trigger that ACCEPT supplies is already late, so the entry is skipped and disarms HK (R48, R290), which is not
among the blocks that may change. -/
theorem not_twinCoordination : ¬ Obligations.TwinCoordination := by
  unfold Obligations.TwinCoordination
  rintro ⟨-, -, -, -, -, haccept, -⟩
  obtain ⟨t, hexec, -, -, -, -, hregs, -⟩ := haccept proposed ⟨1, true⟩ 0 0 (by decide) (by decide) (by decide) (by decide)
    (by decide)
  exact not_keepsRegs_of_disarms hexec (by decide) accept_disarms_hk (by decide) hregs
end

section
/-! Accesses through the host's map (R37 to R41, R15): what a write of INT_EN stores, what waits in a holding register, and what
an access that no block serves records. -/

namespace Sys2Proof.Machine

/-! ### Wide registers lie above the header -/

/-- The lower words of a wide register lie above the header. -/
theorem le_of_mem_wideLow {b t o : Nat} (h : o ∈ wideLow b t) : 0x100 ≤ o := by
  unfold wideLow at h
  dsimp only at h
  split at h
  case h_1 | h_2 | h_3 | h_4 =>
    simp only [apply_ite (o ∈ ·), List.mem_cons, List.not_mem_nil, or_false, TIME.TB_FREQ_LO,
      TIME.TB_STEP_NS, TIME.TB_STEP_S_LO, TIME.TPO_START_NS, TIME.TPO_START_S_LO, TSU.PT_FLT_VAL_LO, TSU.PT_FLT_MASK_LO,
      DMA.CH_RING_LO, TWIN.EXPECT_ID, TWIN.COORD_N_LO] at h
    grind
  case h_5 =>
    split at h
    · obtain ⟨i, -, rfl⟩ := List.mem_map.1 h
      unfold SEC.ROOT_HASH
      omega
    · cases h
  case h_6 => cases h

theorem wideTop_of_lt {b off : Nat} (h : off < 0x100) : wideTop b off = none := by
  refine List.find?_eq_none.2 fun t _ hc => ?_
  have := le_of_mem_wideLow (List.contains_iff_mem.1 hc)
  omega

theorem wideLow_intEn (b : Nat) : wideLow b HDR.INT_EN = [] := by
  unfold wideLow
  split
  case h_6 => rfl
  all_goals exact if_neg (by decide)

theorem State.classBits_intEn (b : Nat) : State.classBits b HDR.INT_EN = (BitVec.allOnes 32, 0#32, 0#32, 0#32) := by
  have hdef : regDefOf b HDR.INT_EN = some ⟨"INT_EN", 0x14, 4, 1, 0, 0xffffffff, 0, 0, 0⟩ := by
    unfold regDefOf
    rw [if_neg (by simp [HDR.INT_EN])]
    rfl
  unfold State.classBits
  rw [hdef]
  rfl

/-- The registers lie in the first 3 MiB of BAR0. -/
theorem lt_of_bar0Target_reg {a b off al : Nat} (h : bar0Target a = .reg b off al) : a < 0x300000 :=
  Nat.lt_of_not_le fun hle => bar0Target_ne_reg hle b off al h

namespace State

variable {s : State} {q : Requester}

theorem keepsRegs_mono {l l' : List Nat} {t : State} (h : ∀ b ∈ l, b ∈ l') (hk : s.KeepsRegs l t) : s.KeepsRegs l' t :=
  ⟨fun b o hb hp ho => hk.reg b o (fun hm => hb (h b hm)) hp ho, fun b hb hp => hk.ints b (fun hm => hb (h b hm)) hp⟩

/-! ### INT_EN -/

/-- What a write in the form `al` makes of the word in force. -/
def merged (al : Nat) (w v : Word) : Word :=
  if al = 0 then v else if al = 1 then w ||| v else if al = 2 then w &&& ~~~v else w ^^^ v

theorem aliasWord_intEn (s : State) (q : Requester) (b al : Nat) (v : Word) :
    s.aliasWord q b HDR.INT_EN al v = merged al (s.intEnable b) v := by
  have hbase : s.mergeBase q b HDR.INT_EN = s.intEnable b := by
    unfold mergeBase
    rw [if_pos rfl, classBits_intEn]
    simp only [BitVec.and_allOnes, BitVec.and_zero, BitVec.or_zero]
  unfold aliasWord
  rw [hbase, classBits_intEn]
  match al with
  | 0 => rfl
  | 1 | 2 | n + 3 => simp only [BitVec.or_zero, BitVec.and_allOnes]; rfl

/-- A write of INT_EN stores the merged word. -/
theorem writeWord_intEn (s : State) (q : Requester) (b al : Nat) (v : Word) : s.writeWord q b HDR.INT_EN al v =
    { s with intEn := SMap.put 0 s.intEn b (merged al (s.intEnable b) v) }.parityNew (regKey b HDR.INT_EN) := by
  unfold writeWord
  rw [wideTop_of_lt (by decide), wideLow_intEn, ← aliasWord_intEn s q]
  rfl

/-! ### Holding registers -/

theorem heldFor_heard (s : State) (q r : Requester) (k : Nat) : (s.heard q).heldFor r k = s.heldFor r k :=
  of_heard (heldFor · r k) (fun _ => rfl) s q

theorem writeWord_held {b off top : Nat} (h : wideTop b off = some top) (s : State) (al : Nat) (v : Word) :
    s.writeWord q b off al v = s.holdWord q b top off al v := by
  unfold writeWord
  rw [h]

/-- EXPECT_ID acts at once: TWIN has no staged registers and no pairs. -/
theorem writeDirect_expectId (s : State) (q : Requester) (i : Fin 4) (v : Word) :
    s.writeDirect q Blk.twin (TWIN.EXPECT_ID i) v = s.writeReg Blk.twin (TWIN.EXPECT_ID i) v := by
  have hown : s.writeOwn q Blk.twin (TWIN.EXPECT_ID i) v = s.writeReg Blk.twin (TWIN.EXPECT_ID i) v := by
    match i with
    | 0 | 1 | 2 | 3 => rfl
  have hactive : ∀ t : State, activeChanged s t Blk.twin = t := fun t => by
    unfold activeChanged
    rw [show rwsOffs Blk.twin = [] by decide]
    rfl
  unfold writeDirect
  rw [if_neg (by unfold TWIN.EXPECT_ID; omega), hown]
  dsimp only
  rw [hactive, ite_self]
  exact if_pos (by decide)

/-- The word of EXPECT_ID is RW in full. -/
theorem reg_writeReg_expectId (s : State) (i : Fin 4) (v : Word) :
    (s.writeReg Blk.twin (TWIN.EXPECT_ID i) v).reg Blk.twin (TWIN.EXPECT_ID i) = v := by
  have hclass : ∀ i : Fin 4, classBits Blk.twin (TWIN.EXPECT_ID i) = (BitVec.allOnes 32, 0#32, 0#32, 0#32) := by decide
  rw [reg_writeReg_self, hclass]
  simp only [BitVec.or_zero, ite_self, BitVec.and_zero, BitVec.not_allOnes, BitVec.zero_or, BitVec.not_zero,
    BitVec.and_allOnes]

theorem reg_writeReg_off (s : State) {b off off2 : Nat} (h : off ≠ off2) (v : Word) :
    (s.writeReg b off v).reg b off2 = s.reg b off2 := by
  unfold writeReg
  dsimp only
  split <;> exact reg_setReg_off s h _

/-- The most significant word of EXPECT_ID with one held word writes both. -/
theorem writeWord_expectId (s : State) (q : Requester) (i : Fin 3) (lo v : Word)
    (h : SMap.get? s.hold (reqCode q) =
      some ⟨regKey Blk.twin (TWIN.EXPECT_ID 3), [(regKey Blk.twin (TWIN.EXPECT_ID i), ⟨0, lo⟩)]⟩) :
    s.writeWord q Blk.twin (TWIN.EXPECT_ID 3) 0 v =
      (({ s with hold := SMap.erase s.hold (reqCode q) }).writeReg Blk.twin (TWIN.EXPECT_ID i) lo).writeReg Blk.twin
        (TWIN.EXPECT_ID 3) v := by
  have hheld : s.heldFor q (regKey Blk.twin (TWIN.EXPECT_ID 3)) = [(regKey Blk.twin (TWIN.EXPECT_ID i), ⟨0, lo⟩)] := by
    unfold heldFor
    rw [h]
    exact if_pos rfl
  have hoff : regKey Blk.twin (TWIN.EXPECT_ID i) % 4096 = TWIN.EXPECT_ID i := by
    unfold regKey TWIN.EXPECT_ID Blk.twin
    omega
  unfold writeWord
  rw [show wideTop Blk.twin (TWIN.EXPECT_ID 3) = none by decide,
    show (wideLow Blk.twin (TWIN.EXPECT_ID 3)).isEmpty = false by decide]
  dsimp only
  rw [if_neg (by decide)]
  unfold writeWide
  rw [hheld]
  dsimp only
  rw [if_neg (by decide)]
  simp only [List.foldl_cons, List.foldl_nil, writeAlias, aliasWord, hoff]
  exact (writeDirect_expectId _ q 3 v).trans (congrArg (writeReg · Blk.twin (TWIN.EXPECT_ID 3) v)
    (writeDirect_expectId _ q i.castSucc lo))

/-! ### What the record of an access counts -/

theorem busWrite_partial {a be : Nat} (hd : s.dbgAdmits q true = true) (h : be ≠ 15 ∨ a % 4 ≠ 0) (v : Word) :
    s.busWrite q a be v = (s.heard q).accErr q a GLB.STAT_ACCESS_ERR GLB.INT_ACCESS_ERR := by
  unfold busWrite
  rw [← heard]
  simp only [heard_dbgAdmits, hd, h, Bool.not_true, Bool.false_eq_true, if_false, if_true]

section
variable (hf : s.domReady Dom.fab = true)
include hf

theorem f_accErr_src (q : Requester) (a i : Nat) {g : Fld} (ha : g.apart GLB.STAT_SRC) :
    (s.accErr q a g i).f Blk.glb GLB.STAT_SRC = reqCode q := by
  have hset : ((s.setF Blk.glb GLB.STAT_SRC (reqCode q)).setReg Blk.glb GLB.ACC_ERR_ADDR (BitVec.ofNat 32 (a % 2 ^ 24))).f
      Blk.glb GLB.STAT_SRC = (s.setF Blk.glb GLB.STAT_SRC (reqCode q)).f Blk.glb GLB.STAT_SRC :=
    congrArg GLB.STAT_SRC.get (reg_setReg_off _ (by decide) _)
  rw [accErr_of_fab hf, f_flag_apart _ ha (by decide) (by decide) (by decide), hset, f_setF_self _ _ _ (by decide)]
  cases q <;> rfl

/-- OFF_ACC_STAT counts one more access and saturates. -/
theorem f_offRecord_count (bar : Bar) (o : Nat) (w : Bool) : (s.offRecord bar o w).f Blk.glb GLB.OFF_ACC_STAT_COUNT =
    min 65535 (s.f Blk.glb GLB.OFF_ACC_STAT_COUNT + 1) := by
  rw [offRecord_of_fab hf, f_flag_apart _ (by decide) (by decide) (by decide) (by decide), countSat,
    f_setF_self _ _ _ (by decide), setB_eq, f_setF_apart _ (by decide), f_setF_apart _ (by decide), f_setF_apart _ (by decide)]
  exact Nat.mod_eq_of_lt (Nat.lt_of_le_of_lt (Nat.min_le_left _ _) (by decide))

end

end State
end Sys2Proof.Machine
end

section
/-! Reads and writes of DDR4 through BAR4 (R341, R346). -/

namespace Sys2Proof.Machine
namespace State

variable {s : State} {q : Requester}

/-! ### A read without upsets -/

theorem hostRead_bar4 {a n : Nat} (hreach : s.memReach q = true) (hn : 0 < n) (hin : s.inBar .bar4 a n = true) :
    s.hostRead q .bar4 a n [] = (s.requested q false).bar4Read q a n := by
  have hupset : (if s.ddrServes then s.ddrUpset [] else s) = s := ite_self _
  simp [hostRead, memRead, requested, hupset, hin, hreach, Nat.ne_of_gt hn]

/-- Without inverted bits and marks no granule is poisoned. -/
theorem ddrPoisoned_of_clean (hfl : s.ddr.flips = []) (hpo : s.ddr.poison = []) (g : Nat) : s.ddrPoisoned g = false := by
  have hfails : ∀ x, s.ddrFails x = false := fun x => by
    have hzero : SMap.get 0 s.ddr.flips x = 0 := by rw [hfl]; rfl
    unfold ddrFails
    rw [hzero]
    rfl
  have hmark : SMap.get false s.ddr.poison g = false := by rw [hpo]; rfl
  unfold ddrPoisoned
  simp only [hmark, hfails]
  rfl

/-- Without inverted bits and marks the read of a granule is only counted. -/
theorem ddrReadGranule_of_clean (hfl : s.ddr.flips = []) (hpo : s.ddr.poison = []) (g src : Nat) :
    s.ddrReadGranule g src = (true, if s.ddrValid (g / 64) then s.perf 12 5 1 else s) := by
  have hddr : (s.perf 12 5 1).ddr = s.ddr := of_rest ddr (fun _ => rfl) (perf_rest ..)
  have hpois : (s.perf 12 5 1).ddrPoisoned g = false := ddrPoisoned_of_clean (by rw [hddr, hfl]) (by rw [hddr, hpo]) g
  have hbad : (s.perf 12 5 1).ddrBad g = [] := by unfold ddrBad; rw [hddr, hfl]; rfl
  unfold ddrReadGranule
  cases hv : s.ddrValid (g / 64) <;>
    simp only [hv, hpois, hbad, Bool.not_true, Bool.not_false, Bool.false_eq_true, if_false, List.isEmpty_nil, if_true]

theorem onlyCounts_perf (s : State) (c k n : Nat) : OnlyCounts s (s.perf c k n) :=
  ⟨⟨fun _ _ _ hp ho => reg_perf s (Ne.symm hp) ho c k n, fun _ _ hp => intStat_perf s (Ne.symm hp) c k n⟩, by rw [perf_rest]⟩

/-- Without inverted bits and marks a read of bytes answers that they are good, and is only counted. -/
theorem ddrRead_of_clean (hfl : s.ddr.flips = []) (hpo : s.ddr.poison = []) (a n src : Nat) :
    (s.ddrRead a n src).1 = true ∧ OnlyCounts s (s.ddrRead a n src).2.2 := by
  refine foldl_prop (p := fun r : Bool × State => r.1 = true ∧ OnlyCounts s r.2) (fun r g ⟨hgood, hcount⟩ => ?_) _
    ⟨rfl, onlyCounts_refl s⟩
  have hddr : r.2.ddr = s.ddr := hcount.eq_of ddr fun _ => rfl
  dsimp only
  rw [ddrReadGranule_of_clean (by rw [hddr, hfl]) (by rw [hddr, hpo])]
  refine ⟨by rw [hgood]; rfl, ?_⟩
  dsimp only
  split
  · exact onlyCounts_trans hcount (onlyCounts_perf ..)
  · exact hcount

/-- The bytes that a read without inverted bits answers. -/
theorem ddrRead_bytes (hfl : s.ddr.flips = []) (hpo : s.ddr.poison = []) (a n src : Nat) : (s.ddrRead a n src).2.1 =
    (List.range n).map fun i => if s.ddrValid ((a + i) / 4096) then SMap.get 0 s.ddr.bytes (a + i) else 0 := by
  have hddr : (s.ddrRead a n src).2.2.ddr = s.ddr := (ddrRead_of_clean hfl hpo a n src).2.eq_of ddr fun _ => rfl
  have hbyte : ∀ x, (s.ddrRead a n src).2.2.ddrByte x = SMap.get 0 s.ddr.bytes x := fun x => by
    unfold ddrByte
    rw [hddr, hfl]
    exact BitVec.xor_zero
  have hvalid : ∀ p, (s.ddrRead a n src).2.2.ddrValid p = s.ddrValid p := fun p => by unfold ddrValid; rw [hddr]
  calc (s.ddrRead a n src).2.1 = (List.range n).map fun i => if (s.ddrRead a n src).2.2.ddrValid ((a + i) / 4096) then
          (s.ddrRead a n src).2.2.ddrByte (a + i) else 0 := rfl
    _ = _ := by simp only [hbyte, hvalid]

/-! ### How an access is judged -/

theorem OnlyCounts.bar4Judge {s t : State} (h : OnlyCounts s t) (a n : Nat) : t.bar4Judge a n = s.bar4Judge a n := by
  have hf : ∀ g : Fld, g.off < 4096 → t.f Blk.ddr g = s.f Blk.ddr g := fun g hg => h.f (by decide) hg
  unfold State.bar4Judge ddrServes ddrData ddrf State.fb
  simp (disch := decide) only [hf, h.domReady]

/-! ### A write -/

/-- Bytes stored one after the other: those of the list lie in their places, the others stay. -/
theorem get_foldl_put (a x : Nat) : ∀ (l : List Byte) (k : Nat) (m : SMap Byte × SMap (BitVec 9)),
    SMap.get 0 ((l.zipIdx k).foldl (fun (m : SMap Byte × SMap (BitVec 9)) (x : Byte × Nat) =>
      (SMap.put 0 m.1 (a + x.2) x.1, SMap.erase m.2 (a + x.2))) m).1 x =
    if a + k ≤ x ∧ x < a + k + l.length then l.getD (x - (a + k)) 0 else SMap.get 0 m.1 x
  | [], k, m => by simp only [List.zipIdx_nil, List.foldl_nil, List.length_nil]; rw [if_neg (by omega)]
  | b :: l, k, m => by
    rw [List.zipIdx_cons, List.foldl_cons, get_foldl_put a x l (k + 1)]
    dsimp only
    by_cases hx : x = a + k
    · subst hx
      rw [if_neg (by omega), if_pos (by simp), SMap.get_put_self]
      simp
    · rw [SMap.get_put_ne _ _ _ (Ne.symm hx)]
      by_cases hin : a + (k + 1) ≤ x ∧ x < a + (k + 1) + l.length
      · rw [if_pos hin, if_pos (by rw [List.length_cons]; omega), show x - (a + k) = x - (a + (k + 1)) + 1 by omega]
        rfl
      · rw [if_neg hin, if_neg (by rw [List.length_cons]; omega)]

/-- From `s` to `t` pages were made valid and unsealed: the bytes of the pages that were valid stay, and nothing outside DDR and
PERF changes. -/
structure DdrOpens (s t : State) : Prop where
  valid : ∀ p, s.ddrValid p = true → t.ddrValid p = true
  bytes : ∀ x, s.ddrValid (x / 4096) = true → SMap.get 0 t.ddr.bytes x = SMap.get 0 s.ddr.bytes x
  regs : s.KeepsRegs [Blk.ddr] t
  units : s.KeepsUnitsBut (fun u => { u with ddr := {} }) t

theorem ddrOpens_trans {s t u : State} (h1 : DdrOpens s t) (h2 : DdrOpens t u) : DdrOpens s u where
  valid p h := h2.valid p (h1.valid p h)
  bytes x h := (h2.bytes x (h1.valid _ h)).trans (h1.bytes x h)
  regs := keepsRegs_trans h1.regs h2.regs
  units := keepsUnitsBut_trans h1.units h2.units

theorem ddrOpens_of_onlyCounts {s t : State} (h : OnlyCounts s t) : DdrOpens s t where
  valid p hp := by unfold ddrValid; rw [h.eq_of ddr fun _ => rfl]; exact hp
  bytes x _ := by rw [h.eq_of ddr fun _ => rfl]
  regs := h.keepsRegs _
  units := keepsUnitsBut_of_keepsUnits h.keepsUnits

/-- Registers of DDR open nothing. -/
theorem ddrOpens_of_rest {s t : State} (hr : t.rest = s.rest) (hregs : s.KeepsRegs [Blk.ddr] t) : DdrOpens s t where
  valid p hp := by rw [← hp]; exact of_rest (ddrValid · p) (fun _ => rfl) hr
  bytes x _ := of_rest (fun s => SMap.get 0 s.ddr.bytes x) (fun _ => rfl) hr
  regs := hregs
  units := keepsUnitsBut_of_keepsUnits (keepsUnits_of_rest hr)

/-- The first write of a page makes it valid; of another page nothing changes. -/
theorem ddrOpens_touch (s : State) (p : Nat) : DdrOpens s (s.ddrTouch p) ∧ (s.ddrTouch p).ddrValid p = true := by
  unfold ddrTouch
  split
  case isTrue h => exact ⟨ddrOpens_of_onlyCounts (onlyCounts_refl s), h⟩
  case isFalse h =>
    have hne : ∀ p', s.ddrValid p' = true → p' ≠ p := fun p' h' he => h (he ▸ h')
    have hpv : ∀ p', ((s.ddrForget (· == p)).modDdr fun d => { d with pv := SMap.put false d.pv p true }).ddrValid p' =
        SMap.get false (SMap.put false (SMap.drop (· == p) s.ddr.pv) p true) p' := fun _ => rfl
    have hbytes : ∀ x, SMap.get 0 ((s.ddrForget (· == p)).modDdr fun d => { d with pv := SMap.put false d.pv p true }).ddr.bytes
        x = SMap.get 0 (SMap.drop (fun y => y / 4096 == p) s.ddr.bytes) x := fun _ => rfl
    refine ⟨⟨fun p' h' => ?_, fun x hx => ?_, keepsRegs_of_eq rfl rfl, rfl⟩, ?_⟩
    · have hp := hne p' h'
      rw [hpv, SMap.get_put_ne _ _ _ (Ne.symm hp), SMap.get, SMap.get?_drop, if_neg (by simpa using hp)]
      exact h'
    · have hp := hne _ hx
      rw [hbytes, SMap.get, SMap.get?_drop, if_neg (by simpa using hp)]
      rfl
    · rw [hpv]
      exact SMap.get_put_self ..

theorem ddrOpens_count (s : State) (off bit n : Nat) (ho : off < 4096) : DdrOpens s (s.ddrCount off bit n) := by
  refine ddrOpens_of_rest (ddrCount_rest ..) ?_
  have hddr : Blk.ddr ∈ [Blk.ddr] := List.mem_singleton_self _
  have hcount : s.KeepsRegs [Blk.ddr] (s.count32 Blk.ddr off n).1 := keepsRegs_setReg s hddr ho _
  unfold ddrCount
  dsimp only
  split
  · exact keepsRegs_trans hcount (keepsRegs_trans (keepsRegs_setF _ hddr (by decide) _) (keepsRegs_raise _ hddr _))
  · exact hcount

theorem ddrOpens_unseal (s : State) (p : Nat) : DdrOpens s (s.ddrUnseal p) := by
  unfold ddrUnseal
  split
  · have herase : DdrOpens s (s.modDdr fun d => { d with sealed := SMap.erase d.sealed p }) :=
      ⟨fun _ h => h, fun _ _ => rfl, keepsRegs_of_eq rfl rfl, rfl⟩
    refine ddrOpens_trans herase (ddrOpens_trans (ddrOpens_count _ DDR.UNSEAL_CNT 3 1 (by decide)) ?_)
    exact ddrOpens_of_rest (raise_rest ..) (keepsRegs_raise _ (List.mem_singleton_self _) _)
  · exact ddrOpens_of_onlyCounts (onlyCounts_refl s)

/-- Opening a list of pages makes the first valid. -/
theorem ddrOpens_pages : ∀ (l : List Nat) (s : State),
    DdrOpens s (l.foldl (fun s p => (s.ddrTouch p).ddrUnseal p) s) ∧
      ∀ p ∈ l, (l.foldl (fun s p => (s.ddrTouch p).ddrUnseal p) s).ddrValid p = true
  | [], s => ⟨ddrOpens_of_onlyCounts (onlyCounts_refl s), fun _ h => absurd h List.not_mem_nil⟩
  | p :: l, s => by
    obtain ⟨htouch, hvalid⟩ := ddrOpens_touch s p
    have hun := ddrOpens_unseal (s.ddrTouch p) p
    obtain ⟨hrest, hall⟩ := ddrOpens_pages l ((s.ddrTouch p).ddrUnseal p)
    refine ⟨ddrOpens_trans (ddrOpens_trans htouch hun) hrest, fun p' hp' => ?_⟩
    rcases List.mem_cons.1 hp' with rfl | hp'
    · exact hrest.valid _ (hun.valid _ hvalid)
    · exact hall p' hp'

/-- A write stores its bytes; the bytes of valid pages outside it stay, and its first page is valid. -/
theorem ddrWrite_stores (s : State) (a : Nat) {data : List Byte} (hd : data ≠ []) :
    (∀ i < data.length, SMap.get 0 (s.ddrWrite a data false).ddr.bytes (a + i) = data.getD i 0) ∧
    (∀ x, x < a ∨ a + data.length ≤ x → s.ddrValid (x / 4096) = true →
      SMap.get 0 (s.ddrWrite a data false).ddr.bytes x = SMap.get 0 s.ddr.bytes x) ∧
    (s.ddrWrite a data false).ddrValid (a / 4096) = true ∧ s.KeepsRegs [Blk.ddr] (s.ddrWrite a data false) ∧
    s.KeepsUnitsBut (fun u => { u with ddr := {} }) (s.ddrWrite a data false) := by
  have hsame : ∀ (l : List Nat) (t : State), l.foldl (fun t _ => t) t = t := fun l => by
    induction l with
    | nil => exact fun _ => rfl
    | cons x l ih => exact ih
  have hne : data.isEmpty = false := by simpa using hd
  unfold ddrWrite
  simp only [hne, Bool.false_eq_true, if_false, Bool.false_and, hsame]
  have hcount := ddrOpens_of_onlyCounts (onlyCounts_perf s 12 6 (granules a data.length).length)
  obtain ⟨hpages, hvalid⟩ := ddrOpens_pages ((List.range ((a + data.length - 1) / 4096 - a / 4096 + 1)).map (a / 4096 + ·))
    (s.perf 12 6 (granules a data.length).length)
  have hopens := ddrOpens_trans hcount hpages
  refine ⟨fun i hi => ?_, fun x hx hv => ?_, hvalid _ (List.mem_map.2 ⟨0, by simp, by simp⟩),
    keepsRegs_trans hopens.regs (keepsRegs_of_eq rfl rfl), hopens.units⟩
  · refine (get_foldl_put a (a + i) data 0 _).trans ?_
    rw [if_pos (by omega), show a + i - (a + 0) = i by omega]
  · refine (get_foldl_put a x data 0 _).trans ?_
    rw [if_neg (by omega)]
    exact hopens.bytes x hv

end State
end Sys2Proof.Machine
end

section
namespace Sys2Proof.Machine
namespace State

variable {s : State} {q : Requester}

theorem hostWriteMem_bar4 {a : Nat} {data : List Byte} (hreach : s.memReach q = true) (hdata : data ≠ [])
    (hin : s.inBar .bar4 a data.length = true) : s.hostWriteMem q .bar4 a data = (s.requested q true).bar4Write a data := by
  simp [hostWriteMem, memWrite, requested, hin, hreach, hdata]

/-- A read of BAR4 that nothing bars, without inverted bits and marks, answers its bytes and is only counted. -/
theorem bar4Read_of_clean {a n : Nat} (hj : s.bar4Judge a n = .ok) (hfl : s.ddr.flips = []) (hpo : s.ddr.poison = []) :
    ∃ t, OnlyCounts s t ∧ s.bar4Read q a n = t.send (.memData .bar4 a ((List.range n).map fun i =>
      if s.ddrValid ((a + i) / 4096) then SMap.get 0 s.ddr.bytes (a + i) else 0)) := by
  obtain ⟨hgood, hcount⟩ := ddrRead_of_clean hfl hpo a n (ueSrc q)
  refine ⟨_, hcount, ?_⟩
  unfold bar4Read
  simp only [hj, hgood, if_true, ddrRead_bytes hfl hpo]

theorem onlyCounts_heard (s : State) (q : Requester) : OnlyCounts s (s.heard q) := ⟨keepsRegs_heard [] s q, by rw [heard_rest]⟩

theorem writeReg_hold (s : State) (b off : Nat) (v : Word) : (s.writeReg b off v).hold = s.hold :=
  show (s.writeReg b off v).units.hold = s.units.hold from by rw [writeReg_units]

/-- The holding registers are a unit of their own. -/
theorem keepsUnitsBut_hold (s : State) (q : Requester) (h : SMap Holding) :
    s.KeepsUnitsBut (fun u => { u with hold := [] }) { s.heard q with hold := h } :=
  congrArg (fun u : State => { u with hold := [] }) (heard_units s q)

/-- GLB has recorded an access to BAR0 offset `o`, and no register of another block and no unit has changed (R15). -/
abbrev RecordsOff (o : Nat) (w : Bool) (s t : State) : Prop :=
  t.f Blk.glb GLB.OFF_ACC_ADDR_BAR = 0 ∧ t.f Blk.glb GLB.OFF_ACC_ADDR_OFFSET = o ∧ t.fb Blk.glb GLB.OFF_ACC_STAT_WAS_WRITE = w ∧
    t.f Blk.glb GLB.OFF_ACC_STAT_OFF_ACCESS = 1 ∧
    t.f Blk.glb GLB.OFF_ACC_STAT_COUNT = min 65535 (s.f Blk.glb GLB.OFF_ACC_STAT_COUNT + 1) ∧ s.KeepsRegs [Blk.glb] t ∧
    s.KeepsUnits t

theorem recordsOff_of_offRecord {u t : State} {o : Nat} {w : Bool} (hf : s.domReady Dom.fab = true) (hu : OnlyCounts s u)
    (ht : OnlyCounts (u.offRecord .bar0 o w) t) (ho : o < 2 ^ 30) : RecordsOff o w s t := by
  have hperf : Blk.perf ≠ Blk.glb := by decide
  have hfab : u.domReady Dom.fab = true := by rw [hu.domReady, hf]
  refine ⟨?_, ?_, ?_, ?_, ?_, ?_, ?_⟩
  · rw [ht.f hperf (by decide), f_offRecord_bar hfab]; rfl
  · rw [ht.f hperf (by decide), f_offRecord_offset hfab, if_neg (by decide), Nat.mod_eq_of_lt ho]
  · rw [ht.fb hperf (by decide), fb_offRecord_write hfab]
  · rw [ht.f hperf (by decide), f_offRecord_flag hfab]
  · rw [ht.f hperf (by decide), f_offRecord_count hfab, hu.f hperf (by decide)]
  · exact keepsRegs_trans (hu.keepsRegs _) (keepsRegs_trans (keepsRegs_offRecord hfab .bar0 o w) (ht.keepsRegs _))
  · exact keepsUnits_trans hu.keepsUnits (keepsUnits_trans (keepsUnits_of_rest (offRecord_rest ..)) ht.keepsUnits)

/-- A block that is not reached is recorded by its address. -/
theorem offAccess_bar0 {a b o al : Nat} {w : Bool} (hd : s.dbgAdmits q w = true) (ha : a % 4 = 0)
    (ht : bar0Target a = .reg b o al) (hr : s.reach b = false) : s.offAccess q .bar0 a w =
      if w then (s.heard q).offRecord .bar0 a true else (s.offRecord .bar0 a false).send (.regData q a 0) := by
  have hoff : ((busBlk a).any fun b => !s.reach b) = true := by
    unfold busBlk
    rw [ht]
    simp [hr]
  unfold offAccess
  simp only [hoff, Bool.not_true, Bool.false_eq_true, if_false]
  cases w
  case false =>
    have hread : s.busRead q a = (0, s.offRecord .bar0 a false) := by
      unfold busRead
      simp [hd, ht, hr]
    simp only [Bool.false_eq_true, if_false, hread]
  case true =>
    have hr' : (s.heard q).reach b = false := by rw [heard_reach, hr]
    simp only [if_true]
    unfold busWrite
    rw [← heard]
    simp [hd, ha, ht, hr']

end State
end Sys2Proof.Machine

open Sys2Proof Sys2Proof.Machine Sys2Proof.Machine.State

/-- A BAR0 write that no block takes, with its flag. -/
theorem Sys2Proof.Machine.State.regWrite_accErr {s : State} {q : Requester} {addr : BitVec 24} {be : BitVec 4} {v : Word} {g : Fld}
    {i : Nat} (hf : s.domReady Dom.fab = true)
    (hop : s.busWrite q addr.toNat be.toNat v = (s.heard q).accErr q addr.toNat g i) (hg : g.off = GLB.STAT) (hfit : g.fits)
    (hw : 0 < g.w) (ha : g.apart GLB.STAT_SRC) : Gives (.regWrite q addr be v) s fun t => t.f Blk.glb g = 1 ∧
      t.f Blk.glb GLB.STAT_SRC = reqCode q ∧ t.reg Blk.glb GLB.ACC_ERR_ADDR = addr.setWidth 32 ∧ s.KeepsRegs [Blk.glb] t ∧
      s.KeepsUnits t := by
  have hh : (s.heard q).domReady Dom.fab = true := by rw [heard_domReady, hf]
  have hperf : Blk.perf ≠ Blk.glb := by decide
  refine gives_of (congrArg (finish s) hop) ⟨?_, ?_, ?_, ?_, ?_⟩
  · rw [f_sent _ _ hperf (by rw [hg]; decide)]
    exact f_accErr_self hh _ _ _ hg hfit hw
  · rw [f_sent _ _ hperf (by decide), f_accErr_src hh _ _ _ ha]
  · rw [reg_sent _ _ hperf (by decide), reg_accErr_addr hh _ _ _ hg, Nat.mod_eq_of_lt addr.isLt, BitVec.ofNat_toNat]
  · exact keepsRegs_trans (keepsRegs_heard _ s q)
      (keepsRegs_trans (keepsRegs_accErr hh _ _ _ hg) (keepsRegs_sent _ _ _))
  · exact keepsUnits_trans (keepsUnits_heard s q)
      (keepsUnits_trans (keepsUnits_of_rest (accErr_rest hh _ _ _ _)) (keepsUnits_sent _ _))

/-- Settles O6: a served write of INT_EN stores the merged word (`writeWord_intEn`), a lower word is held (`writeWord_held`) and
EXPECT_ID's most significant word takes it (`writeWord_expectId`), what no block takes is recorded in GLB, and DDR4 accesses that
nothing bars read and write their bytes (`ddrRead_bytes`, `ddrWrite_stores`). -/
theorem busWrites : Obligations.BusWrites := by
  unfold Obligations.BusWrites
  refine ⟨?_, ?_, ?_, ?_, ?_, ?_, ?_, ?_⟩
  · rintro s b al q addr be v hd rfl ha ht hr
    have hop := (busWrite_reg hd ha ht hr v).trans (writeWord_intEn (s.heard q) q b al v)
    refine gives_of (congrArg (finish s) hop) ⟨?_, ?_, ?_⟩
    · have hen : (s.heard q).intEn = s.intEn := of_heard intEn (fun _ => rfl) s q
      rw [of_sent intEn fun _ => rfl]
      show SMap.put 0 (s.heard q).intEn b (merged al ((s.heard q).intEnable b) v) = _
      unfold intEnable
      rw [hen]
      rfl
    · exact keepsRegs_iff.2 ((outside_sent ..).trans ((outside_of_eq rfl rfl).trans (outside_heard ..)))
    · exact (sent_units ..).trans (heard_units s q)
  · rintro s q addr be v hd hf rfl ha hu
    exact regWrite_accErr hf (busWrite_unmapped hd ha hu v) rfl (by decide) (by decide) (by decide)
  · intro s q addr be v hd hf h
    have hpart : be.toNat ≠ 15 ∨ addr.toNat % 4 ≠ 0 := h.imp_left fun hbe hn => hbe (BitVec.eq_of_toNat_eq hn)
    exact regWrite_accErr hf (busWrite_partial hd hpart v) rfl (by decide) (by decide) (by decide)
  · intro s b off al top q addr v hd ha ht hr hwide
    have hop := (busWrite_reg hd ha ht hr v).trans (writeWord_held hwide (s.heard q) al v)
    refine gives_of (congrArg (finish s) hop) ⟨?_, ?_, ?_⟩
    · rw [of_sent hold fun _ => rfl]
      show SMap.set (s.heard q).hold _ ⟨_, SMap.set ((s.heard q).heldFor q _) _ _⟩ = _
      rw [of_heard hold (fun _ => rfl), heldFor_heard]
    · exact keepsRegs_iff.2 ((outside_sent ..).trans ((outside_of_eq rfl rfl).trans (outside_heard ..)))
    · exact keepsUnitsBut_trans (keepsUnitsBut_hold s q _) (keepsUnitsBut_of_keepsUnits (keepsUnits_sent _ _))
  · intro s i lo q addr v hd ht ha hr hhold
    have hhold' : SMap.get? (s.heard q).hold (reqCode q) =
        some ⟨regKey Blk.twin (TWIN.EXPECT_ID 3), [(regKey Blk.twin (TWIN.EXPECT_ID i), ⟨0, lo⟩)]⟩ := by
      rw [of_heard hold fun _ => rfl]
      exact hhold
    have hop := (busWrite_reg hd ha ht hr v).trans (writeWord_expectId (s.heard q) q i lo v hhold')
    have hperf : Blk.perf ≠ Blk.twin := by decide
    have hi : TWIN.EXPECT_ID i < 4096 := by unfold TWIN.EXPECT_ID; omega
    have hne : TWIN.EXPECT_ID 3 ≠ TWIN.EXPECT_ID i := by unfold TWIN.EXPECT_ID; omega
    have htwin : Blk.twin ∈ [Blk.twin] := List.mem_singleton_self _
    refine gives_of (congrArg (finish s) hop) ⟨?_, ?_, ?_, ?_, ?_, ?_⟩
    · rw [reg_sent _ _ hperf hi, reg_writeReg_off _ hne]
      exact reg_writeReg_expectId _ i.castSucc lo
    · rw [reg_sent _ _ hperf (by decide)]
      exact reg_writeReg_expectId _ 3 v
    · rw [of_sent (fun s => SMap.get? s.hold (reqCode q)) fun _ => rfl]
      rw [writeReg_hold, writeReg_hold]
      exact SMap.get?_erase_self (s.heard q).hold (reqCode q)
    · rw [keepsRegs_iff, outside_sent, outside_writeReg _ htwin (by decide), outside_writeReg _ htwin hi]
      exact (outside_of_eq rfl rfl).trans (outside_heard ..)
    · rw [keepsBlk_iff, others_sent _ hperf, others_writeReg _ (by simp), others_writeReg _ (by simp)]
      exact (others_of_eq rfl).trans (others_heard _ hperf q)
    · refine keepsUnitsBut_trans (keepsUnitsBut_hold s q (SMap.erase (s.heard q).hold (reqCode q)))
        (keepsUnitsBut_of_keepsUnits ?_)
      exact (sent_units ..).trans ((writeReg_units ..).trans (writeReg_units ..))
  · rintro s b o al q bar off w rfl hd hf ha ht hr
    have hop := offAccess_bar0 hd ha ht hr
    have hperf : Blk.perf ≠ Blk.glb := by decide
    have hlt : off.toNat < 2 ^ 30 := Nat.lt_trans (lt_of_bar0Target_reg ht) (by decide)
    cases w
    case false =>
      have hcount := onlyCounts_trans (onlyCounts_send (s.offRecord .bar0 off.toNat false) (.regData q off.toNat 0))
        (onlyCounts_sent s _)
      obtain ⟨hbar, haddr, hwas, hflag, hcnt, hregs, hunits⟩ := recordsOff_of_offRecord hf (onlyCounts_refl s) hcount hlt
      exact gives_of (congrArg (finish s) hop)
        ⟨hbar, haddr, hwas, hflag, hcnt, fun _ => mem_out_sent (mem_out_send ..), hregs, hunits⟩
    case true =>
      obtain ⟨hbar, haddr, hwas, hflag, hcnt, hregs, hunits⟩ :=
        recordsOff_of_offRecord hf (onlyCounts_heard s q) (onlyCounts_sent s _) hlt
      exact gives_of (congrArg (finish s) hop) ⟨hbar, haddr, hwas, hflag, hcnt, fun h => absurd h (by decide), hregs, hunits⟩
  · rintro s q bar off len flips rfl rfl hreach hn hin hj hfl hpo
    have hcount := onlyCounts_requested s q false
    have hddr : (s.requested q false).ddr = s.ddr := hcount.eq_of ddr fun _ => rfl
    obtain ⟨t, ht, hread⟩ := bar4Read_of_clean (s := s.requested q false) (q := q) (a := off.toNat) (n := len)
      (by rw [hcount.bar4Judge, hj]) (by rw [hddr, hfl]) (by rw [hddr, hpo])
    have hvalid : ∀ p, (s.requested q false).ddrValid p = s.ddrValid p := fun p => by unfold ddrValid; rw [hddr]
    simp only [hvalid, hddr] at hread
    have hall : ∀ m, OnlyCounts s (sent s (t.send m)) := fun m =>
      onlyCounts_trans hcount (onlyCounts_trans ht (onlyCounts_trans (onlyCounts_send t m) (onlyCounts_sent s _)))
    refine gives_of (congrArg (finish s) ((hostRead_bar4 hreach hn hin).trans hread)) ⟨?_, ?_, ?_, ?_, ?_, ?_⟩
    · exact mem_out_sent (mem_out_send ..)
    · exact (hall _).eq_of ddr fun _ => rfl
    · exact (hall _).eq_of sram fun _ => rfl
    · exact (hall _).keepsRegs _
    · exact keepsUnitsBut_of_keepsUnits (hall _).keepsUnits
    · exact ⟨fun x _ => (hall _).eq_of (sramSeen · x) fun _ => rfl, fun x => (hall _).eq_of (fun s => SMap.get 0 s.ddr.bytes x) fun _ => rfl⟩
  · rintro s a q bar off data rfl hreach hdata hin hj
    have hcount := onlyCounts_requested s q true
    have hddr : (s.requested q true).ddr = s.ddr := hcount.eq_of ddr fun _ => rfl
    have hvalid : ∀ p, (s.requested q true).ddrValid p = s.ddrValid p := fun p => by unfold ddrValid; rw [hddr]
    have hjudge : (s.requested q true).bar4Judge off.toNat data.length = .ok := by rw [hcount.bar4Judge, hj]
    have hop : s.hostWriteMem q .bar4 off.toNat data = (s.requested q true).ddrWrite off.toNat data false := by
      rw [hostWriteMem_bar4 hreach hdata hin]
      unfold bar4Write
      simp only [hjudge]
    obtain ⟨hstored, hkept, hval, hregs, hunits⟩ := ddrWrite_stores (s.requested q true) off.toNat hdata
    have hsent : ∀ old t : State, (sent old t).ddr = t.ddr := of_sent ddr fun _ => rfl
    refine gives_of (congrArg (finish s) hop) ⟨fun i hi => ?_, fun hx hv => ?_, ?_, ?_, ?_, ?_⟩
    · rw [hsent]
      exact hstored i hi
    · rw [hsent, hkept a hx (by rw [hvalid]; exact hv), hddr]
    · unfold ddrValid at hval ⊢
      rw [hsent]
      exact hval
    · rw [of_sent sram fun _ => rfl]
      exact (congrArg State.sram hunits).trans (hcount.eq_of sram fun _ => rfl)
    · exact keepsRegs_mono (by decide) (keepsRegs_trans (hcount.keepsRegs _) (keepsRegs_trans hregs (keepsRegs_sent _ _ _)))
    · exact keepsUnitsBut_trans (keepsUnitsBut_of_keepsUnits hcount.keepsUnits)
        (keepsUnitsBut_trans hunits (keepsUnitsBut_of_keepsUnits (keepsUnits_sent _ _)))
end

section
/-! The I2C target (R33 to R35, R393, R394): its window changes alone, and its BAR0 access leaves the window. -/

namespace Sys2Proof.Machine

/-! ### The bytes of a window word -/

/-- Byte `i` of a word after it was put there. -/
theorem byte_putByte (w : BitVec 32) (i : Fin 4) (x : Byte) :
    BitVec.ofNat 8 ((State.putByte w i x).toNat / 256 ^ i.val) = x := by
  have hx := x.isLt
  have hput : ∀ k, k ≤ 24 → BitVec.ofNat 32 (x.toNat * 2 ^ k) = x.setWidth 32 <<< k := fun k hk => by
    refine BitVec.eq_of_toNat_eq ?_
    rw [BitVec.toNat_ofNat, BitVec.toNat_shiftLeft, BitVec.toNat_setWidth, Nat.mod_eq_of_lt (a := x.toNat) (by omega),
      Nat.shiftLeft_eq]
  have hmask : ∀ k, k ≤ 24 → BitVec.ofNat 32 (255 * 2 ^ k) = (255#32) <<< k := fun k hk => by
    refine BitVec.eq_of_toNat_eq ?_
    rw [BitVec.toNat_ofNat, BitVec.toNat_shiftLeft, Nat.shiftLeft_eq]
    rfl
  have hpow : 256 ^ i.val = 2 ^ (8 * i.val) := by rw [Nat.pow_mul]
  have hi : 8 * i.val ≤ 24 := by omega
  unfold State.putByte
  rw [hpow, hput _ hi, hmask _ hi, ← Nat.shiftRight_eq_div_pow]
  refine BitVec.eq_of_getLsbD_eq fun j hj => ?_
  rw [BitVec.getLsbD_ofNat, Nat.testBit_shiftRight, BitVec.testBit_toNat, BitVec.getLsbD_or, BitVec.getLsbD_and,
    BitVec.getLsbD_not, BitVec.getLsbD_shiftLeft, BitVec.getLsbD_shiftLeft, BitVec.getLsbD_setWidth]
  have h255 : (255#32).getLsbD j = true := by
    have : ∀ j < 8, (255#32).getLsbD j = true := by decide
    exact this j hj
  have h32 : 8 * i.val + j < 32 := by omega
  simp [hj, h32, h255, show j < 32 by omega]

namespace State

/-! ### What changes the window alone -/

/-- From `s` to `t` nothing but the target's window has changed. -/
abbrev OnlyI2c (s t : State) : Prop := t = { s with i2c := t.i2c }

section
variable {s t u : State}

theorem onlyI2c_trans (h1 : OnlyI2c s t) (h2 : OnlyI2c t u) : OnlyI2c s u := by
  rw [OnlyI2c, h2, h1]

theorem onlyI2c_modI2c (s : State) (g : I2cTarget → I2cTarget) : OnlyI2c s (s.modI2c g) := rfl

theorem OnlyI2c.keepsRegs (h : OnlyI2c s t) : s.KeepsRegs [] (sent s t) := by
  rw [keepsRegs_iff, outside_sent, h]
  exact outside_of_eq rfl rfl

theorem OnlyI2c.keepsUnits (h : OnlyI2c s t) : s.KeepsUnitsBut (fun u => { u with i2c := {} }) (sent s t) := by
  unfold KeepsUnitsBut
  rw [sent_units, h]
  rfl

end

theorem onlyI2c_start (s : State) (c : Nat) : OnlyI2c s (s.i2cStart c) ∧ (s.i2cStart c).i2c.sub = s.i2c.sub := by
  have hbump : ∀ t : State, OnlyI2c s t → t.i2c.sub = s.i2c.sub →
      OnlyI2c s (t.i2cBump c) ∧ (t.i2cBump c).i2c.sub = s.i2c.sub := fun t honly hsub => by
    unfold i2cBump
    split
    · exact ⟨onlyI2c_trans honly rfl, hsub⟩
    · exact ⟨honly, hsub⟩
  unfold i2cStart
  dsimp only
  split
  · exact ⟨rfl, rfl⟩
  · split
    · exact ⟨rfl, rfl⟩
    · split
      · exact hbump _ rfl rfl
      · exact ⟨rfl, rfl⟩

/-- The data bytes of a write advance the sub-address. -/
theorem onlyI2c_bytes : ∀ (l : List Byte) (r : State × Option Nat), OnlyI2c r.1 (l.foldl i2cByte r).1 ∧
    (l.foldl i2cByte r).1.i2c.sub = r.1.i2c.sub + BitVec.ofNat 4 l.length
  | [], r => ⟨rfl, by simp⟩
  | x :: l, r => by
    obtain ⟨honly, hsub⟩ := onlyI2c_bytes l (i2cByte r x)
    refine ⟨onlyI2c_trans rfl honly, hsub.trans ?_⟩
    show r.1.i2c.sub + 1 + BitVec.ofNat 4 l.length = r.1.i2c.sub + BitVec.ofNat 4 (l.length + 1)
    rw [BitVec.ofNat_add, BitVec.add_assoc, BitVec.add_comm 1]
    rfl

theorem i2cWrite_window (s : State) (first : Byte) (rest : List Byte) : OnlyI2c s (s.i2cWrite (first :: rest)) ∧
    (s.i2cWrite (first :: rest)).i2c.sub = first.setWidth 4 + BitVec.ofNat 4 rest.length := by
  obtain ⟨honly, hsub⟩ := onlyI2c_bytes rest (s.modI2c fun t => { t with sub := first.setWidth 4 }, none)
  have hbytes := onlyI2c_trans (s := s) rfl honly
  unfold i2cWrite
  dsimp only
  split
  · obtain ⟨hstart, hkept⟩ := onlyI2c_start (rest.foldl i2cByte (s.modI2c fun t => { t with sub := first.setWidth 4 }, none)).1 ‹_›
    exact ⟨onlyI2c_trans hbytes hstart, hkept.trans hsub⟩
  · exact ⟨hbytes, hsub⟩

/-- One byte of ADDR is written. -/
theorem i2cWrite_addr {s : State} {first x : Byte} (hb : s.i2c.busy = false) (hlow : first.toNat % 16 < 4) :
    (s.i2cWrite [first, x]).i2c =
      { s.i2c with addr := putByte s.i2c.addr (first.toNat % 16) x, sub := first.setWidth 4 + 1 } := by
  have hsub : (first.setWidth 4).toNat = first.toNat % 16 := BitVec.toNat_setWidth ..
  have h8 : ¬ first.toNat % 16 = 8 := by omega
  have h4 : ¬ 4 ≤ first.toNat % 16 := by omega
  unfold i2cWrite
  simp [i2cByte, modI2c, hsub, h8, h4, hlow, hb]

/-- A command that can start does. -/
theorem i2cStart_of_idle {s : State} {c : Nat} (hc : c = 1 ∨ c = 2 ∨ c = 5 ∨ c = 6) (hb : s.i2c.busy = false)
    (ha : s.i2c.addr.toNat < 2 ^ 24) : s.i2cStart c = s.modI2c fun t =>
      { t with busy := true, cmd := BitVec.ofNat 8 c, off := false, badCmd := false, accessErr := false } := by
  have haddr : ¬ 2 ^ 24 ≤ (s.modI2c fun t => { t with off := false, badCmd := false, accessErr := false }).i2c.addr.toNat :=
    Nat.not_le.2 ha
  unfold i2cStart
  simp only [hb, hc, haddr, decide_true, Bool.not_true, Bool.false_eq_true, if_false]
  rfl

/-! ### The BAR0 access -/

theorem busWrite_i2c (s : State) (q : Requester) (a be : Nat) (v : Word) : (s.busWrite q a be v).i2c = s.i2c :=
  of_unfused i2c (fun _ => rfl) (busWrite_unfused s q a be v)

theorem busRead_i2c (s : State) (q : Requester) (a : Nat) : (s.busRead q a).2.i2c = s.i2c :=
  of_still i2c (fun _ => rfl) (busRead_still s q a)

theorem i2cBump_addr (s : State) (c : Nat) : (s.i2cBump c).i2c.busy = s.i2c.busy ∧ (s.i2cBump c).i2c.sub = s.i2c.sub ∧
    (s.i2cBump c).i2c.data = s.i2c.data ∧ (s.i2cBump c).i2c.off = s.i2c.off ∧
    (s.i2cBump c).i2c.addr = if c = 5 ∨ c = 6 then s.i2c.addr + 4 else s.i2c.addr := by
  unfold i2cBump
  split
  · exact ⟨rfl, rfl, rfl, rfl, rfl⟩
  · exact ⟨rfl, rfl, rfl, rfl, rfl⟩

theorem i2cDone_of_busy {s : State} (hb : s.i2c.busy = true) (hst : s.f Blk.pwr PWR.STAT_STATE < 3) :
    s.i2cDone.i2c.busy = false ∧ s.i2cDone.i2c.sub = s.i2c.sub ∧ s.i2cDone.i2c.addr =
      if s.i2c.cmd.toNat = 5 ∨ s.i2c.cmd.toNat = 6 then s.i2c.addr + 4 else s.i2c.addr := by
  have hno : ¬ 3 ≤ s.f Blk.pwr PWR.STAT_STATE := by omega
  unfold i2cDone
  simp only [hb, hno, Bool.not_true, Bool.false_eq_true, if_false, false_and]
  generalize hu : (if s.i2c.cmd.toNat = 1 ∨ s.i2c.cmd.toNat = 5 then _ else _ : State) = u
  have hsame : u.i2c.sub = s.i2c.sub ∧ u.i2c.addr = s.i2c.addr := by
    rw [← hu]
    split
    · have h := s.busRead_i2c .i2c (s.i2c.addr.toNat - s.i2c.addr.toNat % 4)
      exact ⟨(congrArg I2cTarget.sub h :), (congrArg I2cTarget.addr h :)⟩
    · have h := s.busWrite_i2c .i2c (s.i2c.addr.toNat - s.i2c.addr.toNat % 4) 15 s.i2c.data
      exact ⟨(congrArg I2cTarget.sub h :), (congrArg I2cTarget.addr h :)⟩
  obtain ⟨hbusy, hsub, -, -, haddr⟩ := i2cBump_addr (u.modI2c fun t => { t with busy := false }) s.i2c.cmd.toNat
  refine ⟨hbusy, hsub.trans hsame.1, haddr.trans ?_⟩
  rw [← hsame.2]
  rfl

/-- The read of an interrupt enable reads it and changes nothing. -/
theorem busRead_intEn {s : State} {q : Requester} {a b al : Nat} (hd : s.dbgAdmits q false = true)
    (ht : bar0Target a = .reg b HDR.INT_EN al) (hr : s.reach b = true) : s.busRead q a = (s.intEnable b, s) := by
  have hread : s.readReg q b HDR.INT_EN = (s.intEnable b, s) := by
    unfold readReg
    rw [if_neg (by decide), if_pos rfl]
  unfold busRead
  simp only [hd, ht, hr, hread, Bool.not_true, Bool.false_eq_true, if_false, if_true]

/-- A read command of an interrupt enable takes it into DATA. -/
theorem i2cDone_intEn {s : State} {b : Nat} (hb : s.i2c.busy = true) (hc : s.i2c.cmd = 1) (hst : s.f Blk.pwr PWR.STAT_STATE < 3)
    (ht : bar0Target (s.i2c.addr.toNat - s.i2c.addr.toNat % 4) = .reg b HDR.INT_EN 0) (hr : s.reach b = true) :
    OnlyI2c s s.i2cDone ∧ s.i2cDone.i2c.data = s.intEnable b ∧ s.i2cDone.i2c.off = false := by
  have hno : ¬ 3 ≤ s.f Blk.pwr PWR.STAT_STATE := by omega
  have hcmd : s.i2c.cmd.toNat = 1 := by rw [hc]; rfl
  have hbus : busBlk (s.i2c.addr.toNat - s.i2c.addr.toNat % 4) = some b := by unfold busBlk; rw [ht]
  have hread := busRead_intEn (s := s) (q := .i2c) rfl ht hr
  unfold i2cDone
  simp only [hb, hno, hcmd, hbus, hread, hr, Bool.not_true, Bool.false_eq_true, if_false, false_and, true_or, if_true,
    Option.any_some]
  exact ⟨rfl, rfl, rfl⟩

/-- The state after wake source `i` was seen, with `src` as the source that wakes (R393). -/
def woken (s : State) (i src : Nat) : State :=
  (((s.setF Blk.pwr PWR.WAKE_STAT_SEEN (s.f Blk.pwr PWR.WAKE_STAT_SEEN ||| 2 ^ i)).setF Blk.pwr PWR.WAKE_STAT_SRC src).modPwr
    fun p => { p with wake := true }).raise Blk.pwr PWR.INT_WAKE

theorem f_modPwr (s : State) (g : PwrCtl → PwrCtl) (b : Nat) (fl : Fld) : (s.modPwr g).f b fl = s.f b fl := rfl

theorem outside_modPwr (s : State) (g : PwrCtl → PwrCtl) (bs : List Nat) : (s.modPwr g).outside bs = s.outside bs :=
  outside_of_eq rfl rfl

/-- An enabled source that the state lists is seen and wakes. -/
theorem wakeUp_of_listed {s : State} {i : Nat} (hen : (s.f Blk.pwr PWR.WAKE_EN_EN).testBit i = true)
    (hl : wakeListed i s.wakeState = true) : s.wakeUp i =
      s.woken i (if s.pwr.wake then min (i + 1) (s.f Blk.pwr PWR.WAKE_STAT_SRC) else i + 1) := by
  unfold wakeUp
  rw [hen, hl]
  rfl

section
variable (s : State) (i src : Nat)

theorem woken_pwr : (s.woken i src).pwr = { s.pwr with wake := true } := by
  unfold woken
  rw [raise_pwr]
  rfl

theorem seen_woken (hi : i < 9) : ((s.woken i src).f Blk.pwr PWR.WAKE_STAT_SEEN).testBit i = true := by
  have hf : (s.woken i src).f Blk.pwr PWR.WAKE_STAT_SEEN = (s.f Blk.pwr PWR.WAKE_STAT_SEEN ||| 2 ^ i) % 2 ^ 9 := by
    unfold woken
    rw [f_raise _ (by decide) (by decide) (by decide), f_modPwr, f_setF_apart _ (by decide), f_setF_self _ _ _ (by decide)]
    rfl
  rw [hf, Nat.testBit_mod_two_pow, Nat.testBit_or, Nat.testBit_two_pow_self]
  simp [hi]

theorem src_woken (hsrc : src < 16) : (s.woken i src).f Blk.pwr PWR.WAKE_STAT_SRC = src := by
  unfold woken
  rw [f_raise _ (by decide) (by decide) (by decide), f_modPwr, f_setF_self _ _ _ (by decide)]
  exact Nat.mod_eq_of_lt hsrc

theorem intStat_woken : ((s.woken i src).intStat Blk.pwr).getLsbD PWR.INT_WAKE = true := by
  unfold woken
  rw [intStat_raise_self, BitVec.getLsbD_or, BitVec.getLsbD_twoPow]
  simp [PWR.INT_WAKE]

theorem keepsRegs_woken : s.KeepsRegs [Blk.pwr] (s.woken i src) := by
  have hpwr : Blk.pwr ∈ [Blk.pwr] := List.mem_singleton_self _
  unfold woken
  rw [keepsRegs_iff, outside_raise _ hpwr, outside_modPwr, outside_setF _ hpwr (by decide), outside_setF _ hpwr (by decide)]

theorem keepsUnitsBut_woken : s.KeepsUnitsBut (fun u => { u with pwr := {} }) (s.woken i src) := by
  unfold KeepsUnitsBut woken
  rw [raise_units]
  rfl

end

end State
end Sys2Proof.Machine

open Sys2Proof Sys2Proof.Machine Sys2Proof.Machine.State

/-- Settles O7: the window's commands change the window alone (`OnlyI2c`), and the access under way leaves it until it ends. -/
theorem i2cTarget : Obligations.I2cTarget := by
  unfold Obligations.I2cTarget
  have hwin : ∀ old s : State, (sent old s).i2c = s.i2c := of_sent i2c fun _ => rfl
  have hrun : ∀ {s : State} {c : Instr} {k : State → State} {p : State → Prop}, exec c s = finish s (s.onI2c k) →
      s.domReady Dom.aon = true → p (sent s (k s)) → Gives c s p := fun hex hon hp =>
    gives_of hex (by unfold onI2c; rw [if_pos hon]; exact hp)
  have hstart : ∀ {s : State} {c : Instr} (n : Nat), (n = 1 ∨ n = 2 ∨ n = 5 ∨ n = 6) →
      exec c s = finish s (s.onI2c fun s => s.i2cStart n) → s.domReady Dom.aon = true → s.i2c.busy = false →
      s.i2c.addr.toNat < 2 ^ 24 → Gives c s fun t => t.i2c = { s.i2c with
        busy := true, cmd := BitVec.ofNat 8 n, off := false, badCmd := false, accessErr := false } ∧ s.KeepsRegs [] t ∧
        s.KeepsUnitsBut (fun u => { u with i2c := {} }) t := fun n hn hex hon hb ha => by
    refine hrun hex hon ⟨?_, (onlyI2c_start _ n).1.keepsRegs, (onlyI2c_start _ n).1.keepsUnits⟩
    rw [hwin, i2cStart_of_idle hn hb ha]
    rfl
  refine ⟨?_, ?_, ?_, ?_, ?_, ?_, ?_, ?_, ?_, ?_⟩
  · intro s first rest hon
    obtain ⟨honly, hsub⟩ := i2cWrite_window s first rest
    exact hrun rfl hon ⟨(congrArg I2cTarget.sub (hwin s _)).trans hsub, honly.keepsRegs, honly.keepsUnits⟩
  · intro s first x hon hb hlow
    obtain ⟨honly, -⟩ := i2cWrite_window s first [x]
    have hwrite := i2cWrite_addr hb hlow (x := x)
    refine hrun rfl hon ⟨?_, ?_, ?_, honly.keepsRegs, honly.keepsUnits⟩
    · rw [hwin, hwrite]
      unfold i2cAt
      rw [if_pos hlow]
      exact byte_putByte s.i2c.addr ⟨first.toNat % 16, hlow⟩ x
    · rw [hwin, hwrite]
    · rw [hwin, hwrite]
      exact hb
  · intro s n hon
    refine hrun rfl hon ⟨mem_out_sent (mem_out_send ..), ?_, ?_, ?_⟩
    · rw [hwin]
      rfl
    · exact keepsRegs_iff.2 ((outside_sent ..).trans (outside_of_eq rfl rfl))
    · unfold KeepsUnitsBut
      rw [sent_units]
      rfl
  · exact fun s => hstart 1 (by decide) rfl
  · exact fun s => hstart 2 (by decide) rfl
  · exact fun s => hstart 5 (by decide) rfl
  · exact fun s => hstart 6 (by decide) rfl
  · intro s hon hb hst
    obtain ⟨hbusy, hsub, haddr⟩ := i2cDone_of_busy hb hst
    have hcmd : (s.i2c.cmd.toNat = 5 ∨ s.i2c.cmd.toNat = 6) = (s.i2c.cmd = 5 ∨ s.i2c.cmd = 6) := by
      rw [← BitVec.toNat_inj, ← BitVec.toNat_inj]
      rfl
    simp only [hcmd] at haddr
    refine hrun rfl hon ⟨?_, ?_, ?_⟩
    · rw [hwin, hbusy]
    · rw [hwin, hsub]
    · rw [hwin, haddr]
  · intro s b hon hb hc hst ht hr
    obtain ⟨honly, hdata, hoff⟩ := i2cDone_intEn hb hc hst ht hr
    exact hrun rfl hon ⟨(congrArg I2cTarget.data (hwin s _)).trans hdata, (congrArg I2cTarget.off (hwin s _)).trans hoff,
      honly.keepsRegs, honly.keepsUnits⟩
  · intro s hon hen h1 h5
    have hwake := wakeUp_of_listed (i := 4) hen (by simp [wakeListed, h1, h5])
    have hperf : Blk.perf ≠ Blk.pwr := by decide
    refine hrun rfl hon ?_
    rw [hwake]
    refine ⟨?_, ?_, ?_, ?_, ?_⟩
    · rw [of_sent pwr fun _ => rfl, woken_pwr]
    · rw [f_sent _ _ hperf (by decide)]
      exact seen_woken s 4 _ (by decide)
    · rw [intStat_sent _ _ hperf, intStat_woken]
    · exact keepsRegs_trans (keepsRegs_woken s 4 _) (keepsRegs_sent _ _ _)
    · exact keepsUnitsBut_trans (keepsUnitsBut_woken s 4 _) (keepsUnitsBut_of_keepsUnits (keepsUnits_sent _ _))
end

section
/-! Frames of both kinds at once, and the commands of the lifecycle fuses and of the Keeper's control (R403, R409, R411 to R414). -/

namespace Sys2Proof.Machine
namespace State

/-! ### Frames -/

/-- No register outside the blocks `bs` and PERF, and no unit that `g` does not blank, has changed. -/
abbrev Frame (bs : List Nat) (g : State → State) (s t : State) : Prop := s.KeepsRegs bs t ∧ s.KeepsUnitsBut g t

section
variable {bs : List Nat} {g : State → State} {s t u : State}

theorem frame_refl (s : State) : Frame bs g s s := ⟨keepsRegs_refl bs s, rfl⟩

theorem frame_trans (h1 : Frame bs g s t) (h2 : Frame bs g t u) : Frame bs g s u :=
  ⟨keepsRegs_trans h1.1 h2.1, keepsUnitsBut_trans h1.2 h2.2⟩

theorem frame_of_eq (h1 : t.regs = s.regs) (h2 : t.ints = s.ints) (h3 : g t.units = g s.units) : Frame bs g s t :=
  ⟨keepsRegs_of_eq h1 h2, h3⟩

theorem frame_of_units (h1 : s.KeepsRegs bs t) (h2 : t.units = s.units) : Frame bs g s t := ⟨h1, keepsUnitsBut_of_keepsUnits h2⟩

section
variable (h : Frame bs g s t)
include h

theorem Frame.setReg {b off : Nat} {w : Word} (hb : b ∈ bs) (ho : off < 4096) : Frame bs g s (t.setReg b off w) :=
  frame_trans h (frame_of_units (keepsRegs_setReg t hb ho w) rfl)

theorem Frame.setF {b : Nat} {fl : Fld} {v : Nat} (hb : b ∈ bs) (ho : fl.off < 4096) : Frame bs g s (t.setF b fl v) :=
  frame_trans h (frame_of_units (keepsRegs_setF t hb ho v) rfl)

theorem Frame.setB {b : Nat} {fl : Fld} {v : Bool} (hb : b ∈ bs) (ho : fl.off < 4096) : Frame bs g s (t.setB b fl v) :=
  h.setF hb ho

theorem Frame.raise {b i : Nat} (hb : b ∈ bs) : Frame bs g s (t.raise b i) :=
  frame_trans h (frame_of_units (keepsRegs_raise t hb i) (raise_units t b i))

theorem Frame.flag {b i : Nat} {fl : Fld} (hb : b ∈ bs) (ho : fl.off < 4096) : Frame bs g s (t.flag b fl i) :=
  (h.setF hb ho).raise hb

theorem Frame.perf {c k n : Nat} : Frame bs g s (t.perf c k n) :=
  frame_trans h (frame_of_units (keepsRegs_iff.2 (outside_perf t c k n)) (perf_units t c k n))

theorem Frame.parityNew {k : Nat} : Frame bs g s (t.parityNew k) := frame_trans h (frame_of_eq rfl rfl rfl)

/-- What changes neither registers nor interrupt bits, and of the units only what `g` blanks. -/
theorem Frame.unit {u : State} (h1 : u.regs = t.regs) (h2 : u.ints = t.ints) (h3 : g u.units = g t.units) : Frame bs g s u :=
  frame_trans h (frame_of_eq h1 h2 h3)

theorem Frame.ite {c : Prop} [Decidable c] {u : State} (h2 : Frame bs g s u) : Frame bs g s (if c then t else u) := by
  split
  · exact h
  · exact h2

end

theorem frame_foldl {α : Type} {f : State → α → State} {l : List α} (h : ∀ (s : State) x, x ∈ l → Frame bs g s (f s x)) (s : State) :
    Frame bs g s (l.foldl f s) := by
  induction l generalizing s with
  | nil => exact frame_refl s
  | cons x l ih =>
    exact frame_trans (h s x List.mem_cons_self) (ih (fun s y hy => h s y (List.mem_cons_of_mem x hy)) _)

theorem frame_mono {bs' : List Nat} (hb : ∀ b ∈ bs, b ∈ bs') (h : Frame bs g s t) : Frame bs' g s t :=
  ⟨keepsRegs_mono hb h.1, h.2⟩

/-- What a command's messages add. -/
theorem frame_sent (h : Frame bs g s t) : Frame bs g s (sent s t) :=
  frame_trans h (frame_of_units (keepsRegs_sent bs s t) (sent_units t s))

/-- What a request and a command's messages add. -/
theorem frame_access {q : Requester} (h : Frame bs g (s.heard q) u) : Frame bs g s (sent s u) :=
  frame_sent (frame_trans (frame_of_units (keepsRegs_heard bs s q) (heard_units s q)) h)

/-- A command whose operation keeps a frame keeps it. -/
theorem gives_of_frame {c : Instr} {p : State → Prop} (bs : List Nat) (g : State → State) (hex : exec c s = finish s u)
    (hf : Frame bs g s u) (hp : Frame bs g s (sent s u) → p (sent s u)) : Gives c s p := gives_of hex (hp (frame_sent hf))

/-- A served access whose register keeps a frame keeps it. -/
theorem gives_access_frame {c : Instr} {q : Requester} {b off : Nat} {w : Bool} {k : State → State} {p : State → Prop}
    (bs : List Nat) (g : State → State) (hex : exec c s = finish s (s.accessBy q b off w k)) (hs : s.Serves q b w)
    (hop : k (s.heard q) = u) (hf : Frame bs g (s.heard q) u) (hp : Frame bs g s (sent s u) → p (sent s u)) : Gives c s p :=
  gives_of hex (by rw [accessBy_serves hs, hop]; exact hp (frame_access hf))

/-- A served access does what its register does. -/
theorem gives_access {c : Instr} {q : Requester} {b off : Nat} {w : Bool} {k : State → State} {p : State → Prop}
    (hex : exec c s = finish s (s.accessBy q b off w k)) (hs : s.Serves q b w) (hp : p (sent s (k (s.heard q)))) : Gives c s p :=
  gives_of hex (by rw [accessBy_serves hs]; exact hp)

end

/-! ### Fields of a register written whole -/

theorem f_setReg_off (s : State) {b off : Nat} {g : Fld} (h : off ≠ g.off) (w : Word) : (s.setReg b off w).f b g = s.f b g :=
  congrArg g.get (reg_setReg_off s h w)

theorem f_setReg_blk (s : State) {b b2 off : Nat} {g : Fld} (h : b ≠ b2) (ho : off < 4096) (ho2 : g.off < 4096) (w : Word) :
    (s.setReg b off w).f b2 g = s.f b2 g :=
  congrArg g.get (reg_setReg_blk s h ho ho2 w)

/-- The bit of a source just raised is set. -/
theorem getLsbD_raise (s : State) (b : Nat) {i : Nat} (h : i < 32) : ((s.raise b i).intStat b).getLsbD i = true := by
  rw [intStat_raise_self, BitVec.getLsbD_or, BitVec.getLsbD_twoPow]
  simp [h]

end State
end Sys2Proof.Machine
end

section
namespace Sys2Proof.Machine
namespace State

variable {s : State} {q : Requester}

/-! ### The hidden state of the debug port and of the fuses -/

/-- The state with the debug port's hidden state `d`. -/
def setDbg (s : State) (d : DbgState) : State := { s with dbg := d }

/-- The state with the fuses `x`. -/
def setFuse (s : State) (x : Fuses) : State := { s with fuse := x }

section
variable (s : State) (d : DbgState) (x : Fuses) (b : Nat) (fl : Fld)

theorem f_setDbg : (s.setDbg d).f b fl = s.f b fl := rfl
theorem f_setFuse : (s.setFuse x).f b fl = s.f b fl := rfl
theorem setDbg_fuse : (s.setDbg d).fuse = s.fuse := rfl
theorem setDbg_dbg : (s.setDbg d).dbg = d := rfl
theorem setFuse_fuse : (s.setFuse x).fuse = x := rfl

end

theorem Frame.setDbg {bs : List Nat} {g : State → State} {s t : State} (h : Frame bs g s t) {d : DbgState}
    (hg : g (t.setDbg d).units = g t.units) : Frame bs g s (t.setDbg d) := h.unit rfl rfl hg

theorem Frame.setFuse {bs : List Nat} {g : State → State} {s t : State} (h : Frame bs g s t) {x : Fuses}
    (hg : g (t.setFuse x).units = g t.units) : Frame bs g s (t.setFuse x) := h.unit rfl rfl hg

/-! ### The debug level -/

/-- Closing an open level takes it to CLOSED, records why, ends the duration and is announced. -/
theorem dbgClose_of_open (h : s.dbgLevel ≠ 0) (cause : Nat) : s.dbgClose cause =
    (((s.setF Blk.dbg DBG.STAT_LEVEL 0).setF Blk.dbg DBG.STAT_LAST_EXPIRY cause).setDbg { s.dbg with until_ := none }).raise
      Blk.dbg DBG.INT_EXPIRED := by
  unfold dbgClose
  exact if_neg h

section
variable (s : State) (cause : Nat)

theorem frame_dbgClose {bs : List Nat} (hb : Blk.dbg ∈ bs) {g : State → State}
    (hg : ∀ (t : State) d, g (t.setDbg d).units = g t.units) : Frame bs g s (s.dbgClose cause) := by
  by_cases h : s.dbgLevel = 0
  · unfold dbgClose
    rw [if_pos h]
    exact frame_refl s
  · rw [dbgClose_of_open h]
    exact ((((frame_refl s).setF hb (by decide)).setF hb (by decide)).setDbg (hg _ _)).raise hb

theorem fuse_dbgClose : (s.dbgClose cause).fuse = s.fuse := by
  by_cases h : s.dbgLevel = 0
  · unfold dbgClose
    rw [if_pos h]
  · rw [dbgClose_of_open h, raise_fuse]
    rfl

theorem f_dbgClose_blk {b : Nat} {g : Fld} (hb : Blk.dbg ≠ b) (ho : g.off < 4096) :
    (s.dbgClose cause).f b g = s.f b g := by
  by_cases h : s.dbgLevel = 0
  · unfold dbgClose
    rw [if_pos h]
  · rw [dbgClose_of_open h]
    unfold State.f
    rw [reg_raise_blk _ hb ho]
    show g.get (((s.setF Blk.dbg DBG.STAT_LEVEL 0).setF Blk.dbg DBG.STAT_LAST_EXPIRY cause).reg b g.off) = _
    rw [reg_setF_blk _ hb (by decide) ho, reg_setF_blk _ hb (by decide) ho]

theorem dbgLevel_dbgClose : (s.dbgClose cause).dbgLevel = 0 := by
  by_cases h : s.dbgLevel = 0
  · unfold dbgClose
    rw [if_pos h]
    exact h
  · rw [dbgClose_of_open h]
    unfold dbgLevel
    rw [f_raise _ (by decide) (by decide) (by decide), f_setDbg, f_setF_apart _ (by decide), f_setF_self _ _ _ (by decide)]
    rfl

end

/-! ### The lifecycle fuses -/

theorem fuseStart_eq (s : State) (n : Nat) :
    s.fuseStart n = (s.setF Blk.sec SEC.LC_FUSE_BUSY 1).setFuse { s.fuse with target := some n } := rfl

theorem f_fuseStart_busy (s : State) (n : Nat) : (s.fuseStart n).f Blk.sec SEC.LC_FUSE_BUSY = 1 := by
  rw [fuseStart_eq, f_setFuse, f_setF_self _ _ _ (by decide)]
  rfl

theorem frame_fuseStart {bs : List Nat} (hb : Blk.sec ∈ bs) {g : State → State}
    (hg : ∀ (t : State) x, g (t.setFuse x).units = g t.units) (s : State) (n : Nat) : Frame bs g s (s.fuseStart n) :=
  ((frame_refl s).setF hb (by decide)).setFuse (hg _ _)

theorem hashSet_heard (s : State) (q : Requester) : (s.heard q).hashSet = s.hashSet := by
  unfold hashSet
  rw [Bool.eq_iff_iff, List.any_eq_true, List.any_eq_true]
  refine exists_congr fun i => and_congr_right fun hi => ?_
  have := List.mem_range.1 hi
  rw [reg_heard s q (by decide) (by simp only [SEC.ROOT_HASH]; omega)]

/-- The DEV_PUB registers are cleared at the end of life. -/
def devPubCleared (s : State) (n : Nat) : State :=
  if n = 3 then (List.range 16).foldl (fun s i => s.setReg Blk.sec (SEC.DEV_PUB i) 0) s else s

/-- The end of a transition that the fuses took. -/
theorem lcChanged_taken {n : Nat} (ht : s.fuse.target = some n) (hon : s.blkOn Blk.sec = true) : s.lcChanged true =
    (((((s.setFuse { s.fuse with target := none }).setF Blk.sec SEC.LC_FUSE_BUSY 0).setFuse (s.fusesAfter n)).devPubCleared
      n).dbgClose 5).raise Blk.sec SEC.INT_LC_CHANGED := by
  unfold lcChanged
  simp only [ht, hon, if_true, Bool.not_true, Bool.false_eq_true, if_false]
  rfl

/-- The end of a transition that the fuses did not take. -/
theorem lcChanged_failed {n : Nat} (ht : s.fuse.target = some n) (hon : s.blkOn Blk.sec = true) : s.lcChanged false =
    ((s.setFuse { s.fuse with target := none }).setF Blk.sec SEC.LC_FUSE_BUSY 0).flag Blk.sec SEC.LC_FUSE_FAIL
      SEC.INT_FUSE_FAIL := by
  unfold lcChanged
  simp only [ht, hon, if_true, Bool.not_false]
  rfl

section
variable (s : State) (n : Nat)

theorem devPubCleared_rest : (s.devPubCleared n).rest = s.rest := by
  unfold devPubCleared
  split
  · exact foldl_keeps rest _ _ (fun s _ _ => setReg_rest s ..) s
  · rfl

theorem f_devPubCleared {g : Fld} (h : g.off < 0x160) : (s.devPubCleared n).f Blk.sec g = s.f Blk.sec g := by
  unfold devPubCleared
  split
  · exact foldl_keeps (·.f Blk.sec g) _ _ (fun s i _ => f_setReg_off s (by simp only [SEC.DEV_PUB]; omega) 0) s
  · rfl

theorem frame_devPubCleared {bs : List Nat} (hb : Blk.sec ∈ bs) {g : State → State} : Frame bs g s (s.devPubCleared n) := by
  unfold devPubCleared
  split
  · refine frame_foldl (fun s i hi => ?_) s
    have := List.mem_range.1 hi
    exact (frame_refl s).setReg hb (by simp only [SEC.DEV_PUB]; omega)
  · exact frame_refl s

end

end State
end Sys2Proof.Machine
end

section
/-! The Keeper's control register (R411, R412, R414) and the anti-rollback counter (R409). -/

namespace Sys2Proof.Machine

/-- A field under no bit of a mask reads 0. -/
theorem Fld.get_and_eq_zero {g : Fld} {m : Word} (h : ∀ i < g.w, m.getLsbD (g.lo + i) = false) (w : Word) : g.get (w &&& m) = 0 := by
  refine Nat.eq_of_testBit_eq fun i => ?_
  rw [Fld.testBit_get, BitVec.getLsbD_and, Nat.zero_testBit]
  by_cases hi : i < g.w
  · simp [h i hi]
  · simp [hi]

/-- A field under set bits of a mask reads as before. -/
theorem Fld.get_and_eq {g : Fld} {m : Word} (h : ∀ i < g.w, m.getLsbD (g.lo + i) = true) (w : Word) : g.get (w &&& m) = g.get w := by
  refine Nat.eq_of_testBit_eq fun i => ?_
  rw [Fld.testBit_get, Fld.testBit_get, BitVec.getLsbD_and]
  by_cases hi : i < g.w
  · simp [h i hi]
  · simp [hi]

namespace State

variable {s : State} {q : Requester}

/-! ### The lifecycle -/

theorem others_fuseStart (s : State) (n : Nat) : (s.fuseStart n).others Blk.sec [SEC.LC] = s.others Blk.sec [SEC.LC] :=
  calc (s.fuseStart n).others Blk.sec [SEC.LC] = (s.setF Blk.sec SEC.LC_FUSE_BUSY 1).others Blk.sec [SEC.LC] := others_of_eq rfl
    _ = s.others Blk.sec [SEC.LC] := others_setF s (by decide) 1

theorem sent_fuse (old s : State) : (sent old s).fuse = s.fuse := of_sent fuse (fun _ => rfl) old s

theorem heard_fuse (s : State) (q : Requester) : (s.heard q).fuse = s.fuse := of_heard fuse (fun _ => rfl) s q

theorem heard_dbgLevel (s : State) (q : Requester) : (s.heard q).dbgLevel = s.dbgLevel := f_heard s q (by decide) (by decide)

/-- A request that starts a transition. -/
theorem gives_fuseStart {c : Instr} {v : Word} {n : Nat} (hs : s.Serves q Blk.sec true)
    (hex : exec c s = finish s (s.accessBy q Blk.sec SEC.LC_CTL true fun s => s.lcCtl q v))
    (hop : (s.heard q).lcCtl q v = (s.heard q).fuseStart n) : Gives c s fun t =>
      t.fuse.target = some n ∧ t.f Blk.sec SEC.LC_FUSE_BUSY = 1 ∧ t.fuse.lifecycle = s.fuse.lifecycle ∧ s.KeepsRegs [Blk.sec] t ∧
      s.KeepsBlk Blk.sec [SEC.LC] t ∧ s.KeepsUnitsBut (fun u => { u with fuse := {} }) t := by
  have hsec : Blk.perf ≠ Blk.sec := by decide
  refine gives_access hex hs ?_
  rw [hop]
  obtain ⟨hregs, hunits⟩ := frame_access (frame_fuseStart (bs := [Blk.sec]) (by decide) (g := fun u => { u with fuse := {} })
    (fun _ _ => rfl) (s.heard q) n)
  refine ⟨?_, ?_, ?_, hregs, ?_, hunits⟩
  · rw [sent_fuse, fuseStart_eq, setFuse_fuse]
  · rw [f_sent _ _ hsec (by decide), f_fuseStart_busy]
  · rw [sent_fuse, fuseStart_eq, setFuse_fuse, heard_fuse]
  · rw [keepsBlk_iff, others_sent _ hsec, others_fuseStart, others_heard _ hsec q]

/-- A transition taken changes SEC and DBG, the fuses and the debug port's state. -/
theorem frame_lcTaken {n : Nat} : Frame [Blk.sec, Blk.dbg] (fun u => { u with fuse := {}, dbg := {} }) s
    ((((((s.setFuse { s.fuse with target := none }).setF Blk.sec SEC.LC_FUSE_BUSY 0).setFuse (s.fusesAfter n)).devPubCleared
      n).dbgClose 5).raise Blk.sec SEC.INT_LC_CHANGED) := by
  refine Frame.raise ?_ (by decide)
  refine frame_trans ?_ (frame_dbgClose _ 5 (by decide) fun _ _ => rfl)
  refine frame_trans ?_ (frame_devPubCleared _ n (by decide))
  exact (((frame_refl s).setFuse rfl).setF (by decide) (by decide)).setFuse rfl

/-! ### The counter -/

theorem arbCtl_of_raised {v : Word} (hv : v.toNat / 256 = 0xA70000) (hlt : s.fuse.arb < v.toNat % 256)
    (hle : v.toNat % 256 ≤ s.f Blk.kpr KPR.FW_SVN_SVN) (hq : q ≠ .debug) :
    s.arbCtl q v = (s.setFuse { s.fuse with arb := v.toNat % 256 }).raise Blk.kpr KPR.INT_ARB_ADVANCED := by
  unfold arbCtl
  exact if_pos ⟨hv, hlt, hle, hq⟩

theorem arbCtl_of_refused {v : Word}
    (h : v.toNat / 256 ≠ 0xA70000 ∨ v.toNat % 256 ≤ s.fuse.arb ∨ s.f Blk.kpr KPR.FW_SVN_SVN < v.toNat % 256) :
    s.arbCtl q v = s.setF Blk.kpr KPR.KSTAT_ARB_REFUSED 1 := by
  unfold arbCtl
  refine if_neg fun ⟨hv, hlt, hle, _⟩ => ?_
  omega

/-! ### KCTL -/

/-- Of KCTL only HALT is kept between writes. -/
theorem mergeWord_kctl (s : State) : s.mergeWord Blk.kpr KPR.KCTL = s.reg Blk.kpr KPR.KCTL &&& 1#32 := by
  have hclass : classBits Blk.kpr KPR.KCTL = (1#32, 0#32, 0#32, 0xe#32) := by decide
  unfold mergeWord
  rw [hclass]
  dsimp only
  rw [BitVec.and_zero, BitVec.or_zero]

/-- What a write of one field of KCTL gives another. -/
theorem get_oneField_kctl {g h : Fld} (ha : g.lo + g.w ≤ h.lo ∨ h.lo + h.w ≤ g.lo) (hh : ∀ i < h.w, (1#32).getLsbD (h.lo + i) = false)
    (v : Nat) : h.get (g.put (s.mergeWord Blk.kpr KPR.KCTL) v) = 0 := by
  rw [Fld.get_put_apart ha, mergeWord_kctl, Fld.get_and_eq_zero hh]

theorem halt_oneField_kctl {g : Fld} (ha : g.lo + g.w ≤ 0 ∨ 1 ≤ g.lo) (v : Nat) :
    KPR.KCTL_HALT.get (g.put (s.mergeWord Blk.kpr KPR.KCTL) v) = s.f Blk.kpr KPR.KCTL_HALT := by
  rw [Fld.get_put_apart ha, mergeWord_kctl, Fld.get_and_eq (by decide)]
  rfl

/-- HALT as a write of KCTL leaves it, and the step it counts. -/
def kctlHalted (s : State) (q : Requester) (v : Word) : State :=
  let t := (s.setB Blk.kpr KPR.KCTL_HALT (decide (KPR.KCTL_HALT.get v = 1 ∧
    ((q = .keeper ∨ s.dbgLevel = 2) ∨ s.fb Blk.kpr KPR.KCTL_HALT = true)))).parityNew (regKey Blk.kpr KPR.KCTL)
  if KPR.KCTL_STEP.get v = 1 ∧ (q = .keeper ∨ s.dbgLevel = 2) ∧ s.fb Blk.kpr KPR.KCTL_HALT = true then t.perf 13 0 1 else t

theorem kctl_eq (s : State) (q : Requester) (v : Word) (x : FwImage) : s.kctl q v x =
    let t := if KPR.KCTL_RESTART.get v = 1 then (s.kctlHalted q v).keeperRestart else s.kctlHalted q v
    if KPR.KCTL_LOAD.get v = 1 then t.keeperLoad x else t := by
  have hopen' : ((q == .keeper || s.dbgLevel == 2) = true) = (q = .keeper ∨ s.dbgLevel = 2) := by
    rw [Bool.or_eq_true, beq_iff_eq, beq_iff_eq]
  unfold kctl kctlHalted
  simp only [hopen']

theorem frame_kctlHalted (s : State) (q : Requester) (v : Word) (g : State → State) : Frame [Blk.kpr] g s (s.kctlHalted q v) := by
  have hset : Frame [Blk.kpr] g s ((s.setB Blk.kpr KPR.KCTL_HALT (decide (KPR.KCTL_HALT.get v = 1 ∧
      ((q = .keeper ∨ s.dbgLevel = 2) ∨ s.fb Blk.kpr KPR.KCTL_HALT = true)))).parityNew (regKey Blk.kpr KPR.KCTL)) :=
    ((frame_refl s).setB (by decide) (by decide)).parityNew
  exact hset.perf.ite hset

theorem others_kctlHalted (s : State) (q : Requester) (v : Word) :
    (s.kctlHalted q v).others Blk.kpr [KPR.KCTL] = s.others Blk.kpr [KPR.KCTL] := by
  have hset : ∀ b, ((s.setB Blk.kpr KPR.KCTL_HALT b).parityNew (regKey Blk.kpr KPR.KCTL)).others Blk.kpr [KPR.KCTL] =
      s.others Blk.kpr [KPR.KCTL] := fun b => (others_parityNew ..).trans (others_setB s (by decide) b)
  unfold kctlHalted
  dsimp only
  split
  · rw [others_perf _ (by decide), hset]
  · exact hset _

theorem reg_kctlHalted (s : State) (q : Requester) (v : Word) {off : Nat} (h : off ≠ KPR.KCTL) (ho : off < 4096) :
    (s.kctlHalted q v).reg Blk.kpr off = s.reg Blk.kpr off :=
  (keepsBlk_iff.2 (others_kctlHalted s q v)) off (by simpa using h) ho

/-- A field of KPR outside KCTL does not depend on HALT. -/
theorem f_kctlHalted (s : State) (q : Requester) (v : Word) {g : Fld} (h : g.off ≠ KPR.KCTL) (ho : g.off < 4096) :
    (s.kctlHalted q v).f Blk.kpr g = s.f Blk.kpr g :=
  congrArg g.get ((keepsBlk_iff.2 (others_kctlHalted s q v)) g.off (by simpa using h) ho)

theorem kctlHalted_fuse (s : State) (q : Requester) (v : Word) : (s.kctlHalted q v).fuse = s.fuse := by
  have h := (frame_kctlHalted s q v id).2
  exact (congrArg fuse h :)

theorem keeperRestart_fuse (s : State) : s.keeperRestart.fuse = s.fuse := by
  obtain ⟨broken, h⟩ := s.keeperRestart_eq
  rw [h, setF_fuse]
  rfl

theorem fb_kctlHalted (s : State) (q : Requester) (v : Word) : (s.kctlHalted q v).fb Blk.kpr KPR.KCTL_HALT =
    decide (KPR.KCTL_HALT.get v = 1 ∧ ((q = .keeper ∨ s.dbgLevel = 2) ∨ s.fb Blk.kpr KPR.KCTL_HALT = true)) := by
  have hset : ∀ b, ((s.setB Blk.kpr KPR.KCTL_HALT b).parityNew (regKey Blk.kpr KPR.KCTL)).fb Blk.kpr KPR.KCTL_HALT = b := fun b => by
    show (s.setF Blk.kpr KPR.KCTL_HALT b.toNat).fb Blk.kpr KPR.KCTL_HALT = b
    rw [fb_setF_self _ _ _ (by decide)]
    cases b <;> rfl
  unfold kctlHalted
  dsimp only
  split
  · unfold State.fb State.f at hset ⊢
    rw [reg_perf _ (by decide) (by decide), hset]
  · exact hset _

/-! ### LOAD -/

/-- What a firmware image leaves in KPR and SEC, whether it runs or not. -/
theorem frame_firmwareRun (s : State) (x : FwImage) (g : State → State) : Frame [Blk.kpr, Blk.sec] g s (s.firmwareRun x) := by
  have hres : Frame [Blk.kpr, Blk.sec] g s
      ((s.setF Blk.kpr KPR.KSTAT_FW_RESULT x.result.val).setF Blk.sec SEC.VERIFY_FW x.result.val) :=
    ((frame_refl s).setF (by decide) (by decide)).setF (by decide) (by decide)
  exact (((hres.setReg (by decide) (by decide)).setF (by decide) (by decide)).setF (by decide) (by decide)).ite hres

/-- An image that verifies runs. -/
theorem firmwareRun_ok (s : State) {x : FwImage} (h : x.result.val = 0 ∨ x.result.val = 7) :
    (s.firmwareRun x).f Blk.kpr KPR.KSTAT_STAGE = 7 ∧ (s.firmwareRun x).f Blk.kpr KPR.KSTAT_FW_RESULT = x.result.val ∧
    (s.firmwareRun x).f Blk.sec SEC.VERIFY_FW = x.result.val ∧ (s.firmwareRun x).reg Blk.kpr KPR.FW_VER = x.version ∧
    (s.firmwareRun x).f Blk.kpr KPR.FW_SVN_SVN = x.svn.toNat := by
  have hok : imageOk x.result = true := by
    unfold imageOk
    rcases h with h | h
    · rw [Fin.ext (a := x.result) (b := 0) h]; rfl
    · rw [Fin.ext (a := x.result) (b := 7) h]; rfl
  have hres : x.result.val % 2 ^ 4 = x.result.val := Nat.mod_eq_of_lt (by have := x.result.isLt; omega)
  have hsvn : x.svn.toNat % 2 ^ 6 = x.svn.toNat := Nat.mod_eq_of_lt x.svn.isLt
  unfold firmwareRun
  simp only [hok, if_true]
  refine ⟨?_, ?_, ?_, ?_, ?_⟩
  · rw [f_setF_self _ _ _ (by decide)]
    rfl
  · rw [f_setF_apart _ (by decide), f_setF_apart _ (by decide), f_setReg_off _ (by decide), f_setF_blk _ (by decide) (by decide)
      (by decide), f_setF_self _ _ _ (by decide)]
    exact hres
  · rw [f_setF_blk _ (by decide) (by decide) (by decide), f_setF_blk _ (by decide) (by decide) (by decide),
      f_setReg_blk _ (by decide) (by decide) (by decide), f_setF_self _ _ _ (by decide)]
    exact hres
  · rw [reg_setF_off _ (by decide), reg_setF_off _ (by decide), reg_setReg_self]
  · rw [f_setF_apart _ (by decide), f_setF_self _ _ _ (by decide)]
    exact hsvn

/-- An image that does not verify is only reported. -/
theorem firmwareRun_failed (s : State) {x : FwImage} (h : x.result.val ≠ 0 ∧ x.result.val ≠ 7) :
    (s.firmwareRun x).f Blk.kpr KPR.KSTAT_STAGE = s.f Blk.kpr KPR.KSTAT_STAGE ∧
    (s.firmwareRun x).f Blk.kpr KPR.KSTAT_FW_RESULT = x.result.val ∧
    (s.firmwareRun x).reg Blk.kpr KPR.FW_VER = s.reg Blk.kpr KPR.FW_VER := by
  have hok : imageOk x.result = false := by
    unfold imageOk
    rw [Bool.or_eq_false_iff, beq_eq_false_iff_ne, beq_eq_false_iff_ne]
    exact ⟨fun he => h.1 (congrArg Fin.val he), fun he => h.2 (congrArg Fin.val he)⟩
  have hres : x.result.val % 2 ^ 4 = x.result.val := Nat.mod_eq_of_lt (by have := x.result.isLt; omega)
  unfold firmwareRun
  simp only [hok, Bool.false_eq_true, if_false]
  refine ⟨?_, ?_, ?_⟩
  · rw [f_setF_blk _ (by decide) (by decide) (by decide), f_setF_apart _ (by decide)]
  · rw [f_setF_blk _ (by decide) (by decide) (by decide), f_setF_self _ _ _ (by decide)]
    exact hres
  · rw [reg_setF_blk _ (by decide) (by decide) (by decide), reg_setF_off _ (by decide)]

theorem gives_keeperLoad {x : FwImage} {p : State → Prop} (hs : s.Serves q Blk.kpr true)
    (hp : p (sent s (((s.heard q).kctlHalted q ((s.heard q).oneField Blk.kpr KPR.KCTL_LOAD 1)).keeperLoad x))) :
    Gives (.keeperLoad q x) s p := by
  refine gives_access rfl hs ?_
  have hrestart : KPR.KCTL_RESTART.get ((s.heard q).oneField Blk.kpr KPR.KCTL_LOAD 1) = 0 :=
    get_oneField_kctl (by decide) (by decide) 1
  have hloads : KPR.KCTL_LOAD.get ((s.heard q).oneField Blk.kpr KPR.KCTL_LOAD 1) = 1 := Fld.get_put_self _ (by decide) _ 1
  rw [kctl_eq, hrestart, hloads]
  exact hp

end State
end Sys2Proof.Machine

open Sys2Proof Sys2Proof.Machine Sys2Proof.Machine.State

/-- Settles O10: each command does what its register does (`lcCtl`, `arbCtl_of_raised`, `kctl_eq`), and the end of a transition
what the fuses took (`lcChanged_taken`). -/
theorem lifecycleAndKeeper : Obligations.LifecycleAndKeeper := by
  unfold Obligations.LifecycleAndKeeper
  have hsec : Blk.perf ≠ Blk.sec := by decide
  have hkpr : Blk.perf ≠ Blk.kpr := by decide
  refine ⟨?_, ?_, ?_, ?_, ?_, ?_, ?_, ?_, ?_, ?_, ?_, ?_, ?_⟩
  · intro s q hs ht hl hq hhash
    have hreq : isHost q = true ∨ q = .keeper := by cases q <;> simp_all [isHost]
    have hop : (s.heard q).lcCtl q 0x5C000001 = (s.heard q).fuseStart 1 := by
      unfold lcCtl
      exact if_pos ⟨rfl, by rw [heard_fuse, ht]; rfl, by rw [heard_fuse, hl], hreq, by rw [hashSet_heard, hhash]⟩
    obtain ⟨t, hex, htarget, hbusy, hkept, hframe⟩ := gives_fuseStart (c := .provision q) hs rfl hop
    exact ⟨t, hex, htarget, hbusy, hkept.trans hl, hframe⟩
  · intro s q hs ht hl hq
    have hreq : q = .keeper ∨ (isHost q = true ∧ (s.heard q).dbgLevel = 2) := by
      rw [heard_dbgLevel]
      exact hq.imp_right fun ⟨hh, h2⟩ => ⟨by rcases hh with rfl | rfl <;> rfl, h2⟩
    have hop : (s.heard q).lcCtl q 0x5C000002 = (s.heard q).fuseStart 2 := by
      unfold lcCtl
      exact (if_neg fun h => absurd h.1 (by decide)).trans
        (if_pos ⟨rfl, by rw [heard_fuse, ht]; rfl, by rw [heard_fuse, hl], hreq⟩)
    obtain ⟨t, hex, htarget, hbusy, hkept, hframe⟩ := gives_fuseStart (c := .field q) hs rfl hop
    exact ⟨t, hex, htarget, hbusy, hkept.trans hl, hframe⟩
  · intro s u ht hon
    have hop := lcChanged_taken ht hon
    obtain ⟨hregs, hunits⟩ := frame_sent (frame_lcTaken (s := s) (n := u))
    have hafter : ∀ t : State, ((t.setFuse (s.fusesAfter u)).devPubCleared u).fuse = s.fusesAfter u := fun t =>
      of_rest fuse (fun _ => rfl) (devPubCleared_rest (t.setFuse (s.fusesAfter u)) u)
    refine gives_of (congrArg (finish s) hop) ⟨?_, ?_, ?_, ?_, ?_, hregs, hunits⟩
    · rw [sent_fuse, raise_fuse, fuse_dbgClose, hafter]
      rfl
    · rw [sent_fuse, raise_fuse, fuse_dbgClose, hafter]
      rfl
    · rw [f_sent _ _ hsec (by decide), f_raise _ (by decide) (by decide) (by decide), f_dbgClose_blk _ _ (by decide) (by decide),
        f_devPubCleared _ _ (by decide), f_setFuse, f_setF_self _ _ _ (by decide)]
      rfl
    · rw [intStat_sent _ _ hsec, getLsbD_raise _ _ (by decide)]
    · unfold dbgLevel
      rw [f_sent _ _ (by decide) (by decide), f_raise _ (by decide) (by decide) (by decide)]
      exact dbgLevel_dbgClose _ 5
  · intro s u ht hon
    have hop := lcChanged_failed ht hon
    refine gives_of_frame [Blk.sec] (fun u => { u with fuse := {}, dbg := {} }) (congrArg (finish s) hop) ?_
      fun ⟨hregs, hunits⟩ => ⟨?_, ?_, ?_, ?_, hregs, hunits⟩
    · exact Frame.flag (Frame.setF (Frame.setFuse (frame_refl _) (by rfl)) (by decide) (by decide)) (by decide) (by decide)
    · rw [sent_fuse, flag_fuse]
      rfl
    · rw [f_sent _ _ hsec (by decide), f_flag_apart _ (by decide) (by decide) (by decide) (by decide), f_setF_self _ _ _ (by decide)]
      rfl
    · rw [f_sent _ _ hsec (by decide), f_flag_self _ (by decide) (by decide) (by decide) (by decide) (by decide)]
    · rw [intStat_sent _ _ hsec]
      exact getLsbD_raise _ _ (by decide)
  · intro s q v hs hq hv hlt hle
    have hop := arbCtl_of_raised (s := s.heard q) hv (by rw [heard_fuse]; exact hlt)
      (by rw [f_heard s q hkpr (by decide)]; exact hle) hq
    refine gives_access_frame [Blk.kpr] (fun u => { u with fuse := {} }) rfl hs hop ?_
      fun ⟨hregs, hunits⟩ => ⟨?_, ?_, hregs, hunits⟩
    · exact Frame.raise (Frame.setFuse (frame_refl _) (by rfl)) (by decide)
    · rw [sent_fuse, raise_fuse, setFuse_fuse, heard_fuse]
    · rw [intStat_sent _ _ hkpr, getLsbD_raise _ _ (by decide)]
  · intro s q v hs h
    have hop := arbCtl_of_refused (s := s.heard q) (q := q) (v := v) (by rw [heard_fuse, f_heard s q hkpr (by decide)]; exact h)
    refine gives_access_frame [Blk.kpr] (fun u => { u with fuse := {} }) rfl hs hop
      ((frame_refl (s.heard q)).setF (by decide) (by decide)) fun ⟨hregs, hunits⟩ => ⟨?_, ?_, hregs, hunits⟩
    · rw [sent_fuse, setF_fuse, heard_fuse]
    · rw [f_sent _ _ hkpr (by decide), f_setF_self _ _ _ (by decide)]
      rfl
  · intro s q x hs hst _ hok
    have hst' : ((s.heard q).kctlHalted q ((s.heard q).oneField Blk.kpr KPR.KCTL_LOAD 1)).f Blk.kpr KPR.KSTAT_STAGE = 8 := by
      rw [f_kctlHalted _ _ _ (by decide) (by decide), f_heard s q hkpr (by decide), hst]
    refine gives_keeperLoad hs ?_
    unfold keeperLoad
    rw [if_pos hst']
    obtain ⟨hstage, hres, hver, hword, hsvn⟩ := firmwareRun_ok ((s.heard q).kctlHalted q ((s.heard q).oneField Blk.kpr KPR.KCTL_LOAD 1)) hok
    obtain ⟨hregs, hunits⟩ := frame_access (frame_trans (frame_mono (by decide) (frame_kctlHalted (s.heard q) q
      ((s.heard q).oneField Blk.kpr KPR.KCTL_LOAD 1) fun u => { u with cfgv := {} })) (frame_firmwareRun _ x _))
    refine ⟨?_, ?_, ?_, ?_, ?_, hregs, hunits⟩
    · rw [f_sent _ _ hkpr (by decide), hstage]
    · rw [f_sent _ _ hkpr (by decide), hres]
    · rw [f_sent _ _ hsec (by decide), hver]
    · rw [reg_sent _ _ hkpr (by decide), hword]
    · rw [f_sent _ _ hkpr (by decide), hsvn]
  · intro s q x hs hst _ hbad
    have hst' : ((s.heard q).kctlHalted q ((s.heard q).oneField Blk.kpr KPR.KCTL_LOAD 1)).f Blk.kpr KPR.KSTAT_STAGE = 8 := by
      rw [f_kctlHalted _ _ _ (by decide) (by decide), f_heard s q hkpr (by decide), hst]
    refine gives_keeperLoad hs ?_
    unfold keeperLoad
    rw [if_pos hst']
    obtain ⟨hstage, hres, hword⟩ := firmwareRun_failed ((s.heard q).kctlHalted q ((s.heard q).oneField Blk.kpr KPR.KCTL_LOAD 1)) hbad
    obtain ⟨hregs, hunits⟩ := frame_access (frame_trans (frame_mono (by decide) (frame_kctlHalted (s.heard q) q
      ((s.heard q).oneField Blk.kpr KPR.KCTL_LOAD 1) fun u => { u with cfgv := {} })) (frame_firmwareRun _ x _))
    refine ⟨?_, ?_, ?_, hregs, hunits⟩
    · rw [f_sent _ _ hkpr (by decide), hstage, hst']
    · rw [f_sent _ _ hkpr (by decide), hres]
    · rw [reg_sent _ _ hkpr (by decide), hword, reg_kctlHalted _ _ _ (by decide) (by decide), reg_heard s q hkpr (by decide)]
  · intro s q hs
    have hop : (s.heard q).kctl q ((s.heard q).oneField Blk.kpr KPR.KCTL_RESTART 1) ⟨0, 0, 0⟩ =
        ((s.heard q).kctlHalted q ((s.heard q).oneField Blk.kpr KPR.KCTL_RESTART 1)).keeperRestart := by
      have hrestart : KPR.KCTL_RESTART.get ((s.heard q).oneField Blk.kpr KPR.KCTL_RESTART 1) = 1 :=
        Fld.get_put_self _ (by decide) _ 1
      have hload : KPR.KCTL_LOAD.get ((s.heard q).oneField Blk.kpr KPR.KCTL_RESTART 1) = 0 :=
        get_oneField_kctl (by decide) (by decide) 1
      rw [kctl_eq, hrestart, hload]
      rfl
    refine gives_access rfl hs ?_
    rw [hop]
    obtain ⟨hregs, hunits⟩ := frame_access (frame_trans (frame_kctlHalted (s.heard q) q ((s.heard q).oneField Blk.kpr KPR.KCTL_RESTART 1)
      fun u => { u with cfgv := {} }) ⟨keepsRegs_keeperRestart _, keepsUnitsBut_keeperRestart _⟩)
    refine ⟨?_, ?_, hregs, hunits⟩
    · rw [f_sent _ _ hkpr (by decide), f_keeperRestart_stage]
    · rw [sent_fuse, keeperRestart_fuse, kctlHalted_fuse, heard_fuse]
  · intro s q on hs hopen _ _
    have hop : (s.heard q).kctl q ((s.heard q).oneField Blk.kpr KPR.KCTL_HALT on.toNat) ⟨0, 0, 0⟩ =
        (s.heard q).kctlHalted q ((s.heard q).oneField Blk.kpr KPR.KCTL_HALT on.toNat) := by
      have hrestart : KPR.KCTL_RESTART.get ((s.heard q).oneField Blk.kpr KPR.KCTL_HALT on.toNat) = 0 :=
        get_oneField_kctl (by decide) (by decide) _
      have hload : KPR.KCTL_LOAD.get ((s.heard q).oneField Blk.kpr KPR.KCTL_HALT on.toNat) = 0 :=
        get_oneField_kctl (by decide) (by decide) _
      rw [kctl_eq, hrestart, hload]
      rfl
    have hhalt : KPR.KCTL_HALT.get ((s.heard q).oneField Blk.kpr KPR.KCTL_HALT on.toNat) = on.toNat := by
      unfold oneField
      rw [Fld.get_put_self _ (by decide)]
      cases on <;> rfl
    refine gives_access rfl hs ?_
    rw [hop]
    obtain ⟨hregs, hunits⟩ := frame_access (frame_kctlHalted (s.heard q) q ((s.heard q).oneField Blk.kpr KPR.KCTL_HALT on.toNat) id)
    refine ⟨?_, ?_, hregs, ?_, hunits⟩
    · rw [fb_sent _ _ hkpr (by decide), fb_kctlHalted, hhalt, heard_dbgLevel]
      cases on
      · exact decide_eq_false fun h => absurd h.1 (by decide)
      · exact decide_eq_true ⟨rfl, .inl hopen⟩
    · rw [f_sent _ _ hkpr (by decide), f_kctlHalted _ _ _ (by decide) (by decide), f_heard s q hkpr (by decide)]
    · rw [keepsBlk_iff, others_sent _ hkpr, others_kctlHalted, others_heard _ hkpr q]
  · intro s q hs hopen hhalt
    have hop : (s.heard q).kctl q ((s.heard q).oneField Blk.kpr KPR.KCTL_STEP 1) ⟨0, 0, 0⟩ =
        (s.heard q).kctlHalted q ((s.heard q).oneField Blk.kpr KPR.KCTL_STEP 1) := by
      have hrestart : KPR.KCTL_RESTART.get ((s.heard q).oneField Blk.kpr KPR.KCTL_STEP 1) = 0 :=
        get_oneField_kctl (by decide) (by decide) _
      have hload : KPR.KCTL_LOAD.get ((s.heard q).oneField Blk.kpr KPR.KCTL_STEP 1) = 0 :=
        get_oneField_kctl (by decide) (by decide) _
      rw [kctl_eq, hrestart, hload]
      rfl
    have hkept : KPR.KCTL_HALT.get ((s.heard q).oneField Blk.kpr KPR.KCTL_STEP 1) = 1 := by
      refine (halt_oneField_kctl (by decide) 1).trans ?_
      rw [f_heard s q hkpr (by decide)]
      have hlt : s.f Blk.kpr KPR.KCTL_HALT < 2 := f_lt s Blk.kpr KPR.KCTL_HALT
      have hne : s.f Blk.kpr KPR.KCTL_HALT ≠ 0 := by simpa [State.fb] using hhalt
      omega
    refine gives_access rfl hs ?_
    rw [hop]
    obtain ⟨hregs, hunits⟩ := frame_access (frame_kctlHalted (s.heard q) q ((s.heard q).oneField Blk.kpr KPR.KCTL_STEP 1)
      fun u => { u with cfgv := {} })
    refine ⟨?_, hregs, hunits⟩
    rw [fb_sent _ _ hkpr (by decide), fb_kctlHalted, hkept, heard_dbgLevel]
    exact decide_eq_true ⟨rfl, .inl hopen⟩
  · intro s hon
    obtain ⟨hstops, -⟩ := lockstepRestart
    obtain ⟨t, hex, h1, h2, h3, h4, h5, h6, -⟩ := hstops s hon
    exact ⟨t, hex, h1, h2, h3, h4, h5, h6⟩
  · rintro s us fw hon hrom hexit rfl
    refine gives_of (congrArg (finish s) (keeperBack_of_no_exit us hexit none)) ⟨?_, ?_, ?_, ?_⟩
    · rw [f_sent _ _ hkpr (by decide), f_keeperRestarted_fast us hon hrom (by decide) (by decide), f_fastRestart_stage]
    · rw [reg_sent _ _ hkpr (by decide), reg_keeperRestarted_fast us hon hrom (by decide) (by decide), fastRestart,
        reg_setF_off _ (by decide), setB_eq, reg_setF_off _ (by decide), reg_setReg_self]
    · rw [f_sent _ _ hkpr (by decide), f_keeperRestarted_fast us hon hrom (by decide) (by decide), f_fastRestart_fast]
    · rw [sent_fuse, fuse_keeperRestarted]
end

section
/-! The debug port's control register and the check of a token (R414 to R417). -/

namespace Sys2Proof.Machine
namespace State

variable {s : State} {q : Requester}

/-! ### CTL -/

/-- CTL keeps no bit between writes. -/
theorem mergeWord_dbgCtl (s : State) : s.mergeWord Blk.dbg DBG.CTL = 0 := by
  have hclass : classBits Blk.dbg DBG.CTL = (0#32, 0#32, 0#32, 0xf3#32) := by decide
  unfold mergeWord
  rw [hclass]
  dsimp only
  rw [BitVec.and_zero, BitVec.and_zero]
  rfl

theorem dbgCtl_chalNew (s : State) : s.dbgCtl (s.oneField Blk.dbg DBG.CTL_CHAL_NEW 1) = s.chalNew := by
  unfold oneField
  rw [show s.mergeWord Blk.dbg DBG.CTL_CHAL_NEW.off = 0 from mergeWord_dbgCtl s]
  rfl

theorem dbgCtl_submit (s : State) : s.dbgCtl (s.oneField Blk.dbg DBG.CTL_SUBMIT 1) = s.dbgSubmit := by
  unfold oneField
  rw [show s.mergeWord Blk.dbg DBG.CTL_SUBMIT.off = 0 from mergeWord_dbgCtl s]
  rfl

theorem dbgCtl_lock (s : State) : s.dbgCtl (s.oneField Blk.dbg DBG.CTL_LOCK 1) = s.dbgClose 4 := by
  unfold oneField
  rw [show s.mergeWord Blk.dbg DBG.CTL_LOCK.off = 0 from mergeWord_dbgCtl s]
  rfl

theorem dbgCtl_request (s : State) (level : Fin 4) :
    s.dbgCtl (DBG.CTL_LEVEL_REQ.put (DBG.CTL_REQUEST.put 0 1) level) = s.dbgRequest level := by
  have hbits : ∀ l : Fin 4, DBG.CTL_REQUEST.get (DBG.CTL_LEVEL_REQ.put (DBG.CTL_REQUEST.put 0 1) l) = 1 ∧
      DBG.CTL_LEVEL_REQ.get (DBG.CTL_LEVEL_REQ.put (DBG.CTL_REQUEST.put 0 1) l) = l ∧
      DBG.CTL_SUBMIT.get (DBG.CTL_LEVEL_REQ.put (DBG.CTL_REQUEST.put 0 1) l) = 0 ∧
      DBG.CTL_CHAL_NEW.get (DBG.CTL_LEVEL_REQ.put (DBG.CTL_REQUEST.put 0 1) l) = 0 ∧
      DBG.CTL_LOCK.get (DBG.CTL_LEVEL_REQ.put (DBG.CTL_REQUEST.put 0 1) l) = 0 := by decide
  obtain ⟨hreq, hlevel, hsub, hnew, hlock⟩ := hbits level
  unfold dbgCtl
  rw [hreq, hlevel, hsub, hnew, hlock]
  rfl

/-! ### Results -/

/-- The result is a register; all but the success are announced as refused. -/
theorem dbgResult_one (s : State) : s.dbgResult 1 = s.setReg Blk.dbg DBG.RESULT 1 := rfl

theorem dbgResult_refused {code : Nat} (h : code ≠ 1) (s : State) :
    s.dbgResult code = (s.setReg Blk.dbg DBG.RESULT (BitVec.ofNat 32 code)).raise Blk.dbg DBG.INT_REFUSED := by
  unfold dbgResult
  exact if_neg h

/-- A grant sets the level, its end and the success, and is announced. -/
theorem dbgGrant_eq (s : State) (level dur : Nat) : s.dbgGrant level dur =
    (((s.setF Blk.dbg DBG.STAT_LEVEL level).setDbg { s.dbg with until_ := (if dur = 0 then none else
      some ((s.setF Blk.dbg DBG.STAT_LEVEL level).aonCnt + dur * 25000000)) }).setReg Blk.dbg DBG.RESULT 1).raise Blk.dbg DBG.INT_UNLOCKED := rfl

section
variable (s : State) (level dur : Nat)

theorem dbgLevel_dbgGrant : (s.dbgGrant level dur).dbgLevel = level % 4 := by
  unfold dbgLevel
  rw [dbgGrant_eq, f_raise _ (by decide) (by decide) (by decide), f_setReg_off _ (by decide), f_setDbg,
    f_setF_self _ _ _ (by decide)]
  rfl

theorem result_dbgGrant : (s.dbgGrant level dur).reg Blk.dbg DBG.RESULT = 1 := by
  rw [dbgGrant_eq, reg_raise_off _ (by decide) (by decide) (by decide), reg_setReg_self]

theorem intStat_dbgGrant : ((s.dbgGrant level dur).intStat Blk.dbg).getLsbD DBG.INT_UNLOCKED = true := by
  rw [dbgGrant_eq]
  exact getLsbD_raise _ _ (by decide)

theorem busy_dbgGrant : (s.dbgGrant level dur).f Blk.dbg DBG.STAT_BUSY = s.f Blk.dbg DBG.STAT_BUSY := by
  rw [dbgGrant_eq, f_raise _ (by decide) (by decide) (by decide), f_setReg_off _ (by decide), f_setDbg, f_setF_apart _ (by decide)]

theorem until_dbgGrant : (s.dbgGrant level 0).dbg.until_ = none := by
  rw [dbgGrant_eq, raise_dbg, setReg_dbg]
  rfl

theorem fuse_dbgGrant : (s.dbgGrant level dur).fuse = s.fuse := by
  rw [dbgGrant_eq, raise_fuse]
  rfl

theorem frame_dbgGrant {bs : List Nat} (hb : Blk.dbg ∈ bs) {g : State → State}
    (hg : ∀ (t : State) d, g (t.setDbg d).units = g t.units) : Frame bs g s (s.dbgGrant level dur) :=
  (((((frame_refl s).setF hb (by decide)).setDbg (hg _ _)).setReg hb (by decide)).raise hb)

end

/-- The level that the lifecycle allows is granted, another refused. -/
theorem dbgRequest_granted {level : Nat}
    (h : (level = 1 ∧ s.fuse.lifecycle ≠ 2) ∨ (level = 2 ∧ (s.fuse.lifecycle = 0 ∨ s.fuse.lifecycle = 3))) :
    s.dbgRequest level = s.dbgGrant level 0 := if_pos h

theorem dbgRequest_refused {level : Nat} (h : s.fuse.lifecycle = 2) : s.dbgRequest level = s.dbgResult 6 := by
  refine if_neg fun hok => ?_
  rcases hok with ⟨-, h2⟩ | ⟨-, h0 | h3⟩ <;> omega

/-! ### The nonce -/

/-- Word `i` of the nonce is drawn. -/
def drawChal (s : State) (i : Nat) : State := (s.draw 32).2.setReg Blk.dbg (DBG.CHAL i) (s.draw 32).1

/-- The words of the nonce are drawn. -/
def drawNonce (s : State) : State := (List.range 8).foldl drawChal s

theorem chalNew_eq (s : State) : s.chalNew = s.drawNonce.setDbg { s.drawNonce.dbg with fresh := true } := rfl

theorem frame_draw (bs : List Nat) (g : State → State) (hg : ∀ t : State, g (t.draw 32).2.units = g t.units) (s : State) :
    Frame bs g s (s.draw 32).2 := frame_of_eq rfl rfl (hg s)

theorem frame_drawNonce (s : State) : Frame [Blk.dbg] (fun u => { u with dbg := {} }) s s.drawNonce := by
  refine frame_foldl (fun s i hi => ?_) s
  have := List.mem_range.1 hi
  exact (frame_draw _ _ (fun _ => rfl) s).setReg (by decide) (by simp only [DBG.CHAL]; omega)

theorem others_drawNonce (s : State) : s.drawNonce.others Blk.dbg ((List.range 8).map DBG.CHAL) =
    s.others Blk.dbg ((List.range 8).map DBG.CHAL) := by
  refine foldl_keeps (·.others Blk.dbg ((List.range 8).map DBG.CHAL)) _ _ (fun s i hi => ?_) s
  have hdraw : (s.draw 32).2.others Blk.dbg ((List.range 8).map DBG.CHAL) = s.others Blk.dbg ((List.range 8).map DBG.CHAL) :=
    others_of_eq rfl
  exact (others_setReg _ (List.mem_map_of_mem hi) _).trans hdraw

theorem others_setDbg (s : State) (d : DbgState) (b : Nat) (l : List Nat) : (s.setDbg d).others b l = s.others b l := others_of_eq rfl

theorem others_chalNew (s : State) : s.chalNew.others Blk.dbg ((List.range 8).map DBG.CHAL) =
    s.others Blk.dbg ((List.range 8).map DBG.CHAL) := by
  rw [chalNew_eq, others_setDbg, others_drawNonce]

theorem dbgLevel_chalNew (s : State) : s.chalNew.dbgLevel = s.dbgLevel :=
  congrArg DBG.STAT_LEVEL.get (keepsBlk_iff.2 (others_chalNew s) DBG.STAT (by decide) (by decide))

/-- A submission without a check under way starts one and spends the nonce. -/
theorem dbgSubmit_of_idle (h : s.f Blk.dbg DBG.STAT_BUSY = 0) : s.dbgSubmit =
    (s.setF Blk.dbg DBG.STAT_BUSY 1).setDbg { s.dbg with fresh := false, check := some (s.dbg.token, s.dbg.fresh &&
      (List.range 8).all fun i => decide (tokWord s.dbg.token (6 + i) = (s.reg Blk.dbg (DBG.CHAL i)).toNat)) } := by
  have hidle : s.fb Blk.dbg DBG.STAT_BUSY = false := by
    unfold State.fb
    rw [h]
    rfl
  unfold dbgSubmit
  exact if_neg (by rw [show ({ s with dbg := { s.dbg with fresh := false } } : State).fb Blk.dbg DBG.STAT_BUSY = false from hidle]; decide)

/-! ### Closing -/

theorem dbgClose_reports (h : s.dbgLevel ≠ 0) {cause : Nat} (hc : cause < 8) :
    (s.dbgClose cause).f Blk.dbg DBG.STAT_LAST_EXPIRY = cause ∧ (s.dbgClose cause).dbg.until_ = none ∧
      ((s.dbgClose cause).intStat Blk.dbg).getLsbD DBG.INT_EXPIRED = true := by
  rw [dbgClose_of_open h]
  refine ⟨?_, ?_, getLsbD_raise _ _ (by decide)⟩
  · rw [f_raise _ (by decide) (by decide) (by decide), f_setDbg, f_setF_self _ _ _ (by decide)]
    exact Nat.mod_eq_of_lt hc
  · rw [raise_dbg, setDbg_dbg]

/-! ### The check of a token -/

/-- The state in which a checked token is judged. -/
def tokenChecked (s : State) : State := (s.setF Blk.dbg DBG.STAT_BUSY 0).setDbg { s.dbg with check := none }

theorem tokenDone_eq {tok : SMap Word} {nonce : Bool} (h : s.dbg.check = some (tok, nonce)) (sigOk : Bool) :
    s.tokenDone sigOk = s.tokenChecked.tokenJudge tok nonce sigOk := by
  unfold tokenDone
  rw [h]
  rfl

/-- The state after the choice among the faults of a token. -/
def tokenChosen (s : State) : State := { s.tokenChecked with free := s.tokenChecked.free + 1 }

theorem frame_tokenChosen (bs : List Nat) (hb : Blk.dbg ∈ bs) (g : State → State)
    (hg : ∀ (t : State) d, g (t.setDbg d).units = g t.units) (s : State) : Frame bs g s s.tokenChosen :=
  (((frame_refl s).setF hb (by decide)).setDbg (hg _ _)).unit rfl rfl rfl

theorem f_tokenChosen_busy (s : State) : s.tokenChosen.f Blk.dbg DBG.STAT_BUSY = 0 :=
  (f_setF_self s _ DBG.STAT_BUSY (by decide) 0).trans rfl

theorem dbgLevel_tokenChosen (s : State) : s.tokenChosen.dbgLevel = s.dbgLevel := f_setF_apart s (by decide) 0

/-- A token without a fault acts. -/
theorem tokenDone_ok {tok : SMap Word} {nonce sigOk : Bool} (h : s.dbg.check = some (tok, nonce))
    (hf : s.tokenFaults tok nonce sigOk = []) : s.tokenDone sigOk =
      if tokWord tok 1 / 2 ^ 24 = 1 then
        (if s.tokenChosen.fuse.target.isSome then s.tokenChosen else s.tokenChosen.fuseStart 3).dbgResult 1
      else s.tokenChosen.dbgGrant (tokWord tok 1 / 2 ^ 8 % 256) (tokWord tok 14) := by
  have hf' : s.tokenChecked.tokenFaults tok nonce sigOk = [] := hf
  rw [tokenDone_eq h]
  unfold tokenJudge
  rw [hf']
  rfl

/-- A token with one fault is refused for it. -/
theorem tokenDone_fault {tok : SMap Word} {nonce sigOk : Bool} {code : Nat} (h : s.dbg.check = some (tok, nonce))
    (hf : s.tokenFaults tok nonce sigOk = [code]) : s.tokenDone sigOk = s.tokenChosen.dbgResult code := by
  have hf' : s.tokenChecked.tokenFaults tok nonce sigOk = [code] := hf
  rw [tokenDone_eq h]
  unfold tokenJudge choose
  simp only [hf', List.length_singleton, Nat.mod_one, List.getElem?_cons_zero]
  rfl

/-- No fault has the code of success. -/
theorem ne_one_of_mem_tokenFaults {tok : SMap Word} {nonce sigOk : Bool} {code : Nat}
    (h : code ∈ s.tokenFaults tok nonce sigOk) : code ≠ 1 := by
  unfold tokenFaults at h
  simp only [List.mem_append, List.mem_ite_nil_left, List.mem_singleton] at h
  omega

end State
end Sys2Proof.Machine

open Sys2Proof Sys2Proof.Machine Sys2Proof.Machine.State

/-- Settles O11: each field of CTL does its operation (`dbgCtl_chalNew` and its fellows), and the check of a token grants or
refuses (`tokenDone_ok`, `tokenDone_fault`). -/
theorem debugUnlock : Obligations.DebugUnlock := by
  unfold Obligations.DebugUnlock
  have hdbg : Blk.perf ≠ Blk.dbg := by decide
  have hstate : ∀ old s : State, (sent old s).dbg = s.dbg := of_sent dbg fun _ => rfl
  have hlevel : ∀ old s : State, (sent old s).dbgLevel = s.dbgLevel := fun old s => f_sent old s hdbg (by decide)
  have hfuse : ∀ (s : State) (q : Requester), (s.heard q).fuse.lifecycle = s.fuse.lifecycle := fun s q =>
    congrArg Fuses.lifecycle (heard_fuse s q)
  refine ⟨?_, ?_, ?_, ?_, ?_, ?_, ?_, ?_, ?_⟩
  · intro s q hs _ _ _
    refine gives_access_frame [Blk.dbg] (fun u => { u with dbg := {} }) rfl hs (dbgCtl_chalNew _) ?_
      fun ⟨hregs, hunits⟩ => ⟨?_, ?_, hregs, ?_, hunits⟩
    · exact Frame.setDbg (frame_drawNonce _) (by rfl)
    · rw [hstate, chalNew_eq, setDbg_dbg]
    · rw [hlevel, dbgLevel_chalNew, heard_dbgLevel]
    · rw [keepsBlk_iff, others_sent _ hdbg, others_chalNew, others_heard _ hdbg q]
  · intro s q level hs hl
    have hok : (level.val = 1 ∧ s.fuse.lifecycle ≠ 2) ∨ (level.val = 2 ∧ (s.fuse.lifecycle = 0 ∨ s.fuse.lifecycle = 3)) := by
      exact hl.imp (fun h => ⟨congrArg Fin.val h.1, h.2⟩) fun h => ⟨congrArg Fin.val h.1, h.2⟩
    refine gives_access_frame [Blk.dbg] (fun u => { u with dbg := {} }) rfl hs
      ((dbgCtl_request _ level).trans (dbgRequest_granted (by rw [hfuse]; exact hok)))
      (frame_dbgGrant _ _ _ (by decide) fun _ _ => rfl) fun ⟨hregs, hunits⟩ => ⟨?_, ?_, ?_, ?_, hregs, hunits⟩
    · rw [hlevel, dbgLevel_dbgGrant]
      exact Nat.mod_eq_of_lt level.isLt
    · rw [reg_sent _ _ hdbg (by decide), result_dbgGrant]
    · rw [intStat_sent _ _ hdbg, intStat_dbgGrant]
    · rw [hstate, until_dbgGrant]
  · intro s q level hs hl hlc
    refine gives_access_frame [Blk.dbg] id rfl hs
      ((dbgCtl_request _ level).trans ((dbgRequest_refused (by rw [hfuse, hlc])).trans (dbgResult_refused (by decide) _)))
      (Frame.raise (Frame.setReg (frame_refl _) (by decide) (by decide)) (by decide))
      fun ⟨hregs, hunits⟩ => ⟨?_, ?_, ?_, hregs, hunits⟩
    · rw [hlevel]
      unfold dbgLevel
      rw [f_raise _ (by decide) (by decide) (by decide), f_setReg_off _ (by decide), f_heard s q hdbg (by decide)]
    · rw [reg_sent _ _ hdbg (by decide), reg_raise_off _ (by decide) (by decide) (by decide), reg_setReg_self]
      rfl
    · rw [intStat_sent _ _ hdbg, getLsbD_raise _ _ (by decide)]
  · intro s q hs _ _ _ hbusy
    refine gives_access_frame [Blk.dbg] (fun u => { u with dbg := {} }) rfl hs
      ((dbgCtl_submit _).trans (dbgSubmit_of_idle (by rw [f_heard s q hdbg (by decide), hbusy]))) ?_
      fun ⟨hregs, hunits⟩ => ⟨?_, ?_, ?_, fun hfresh => ?_, ?_, hregs, ?_, hunits⟩
    · exact Frame.setDbg (Frame.setF (frame_refl _) (by decide) (by decide)) (by rfl)
    · rw [f_sent _ _ hdbg (by decide), f_setDbg, f_setF_self _ _ _ (by decide)]
      rfl
    · rw [hstate, setDbg_dbg]
    · rw [hstate, setDbg_dbg, of_heard dbg fun _ => rfl]
      rfl
    · rw [hstate, setDbg_dbg, of_heard dbg fun _ => rfl, hfresh]
      rfl
    · rw [hlevel]
      unfold dbgLevel
      rw [f_setDbg, f_setF_apart _ (by decide), f_heard s q hdbg (by decide)]
    · rw [keepsBlk_iff, others_sent _ hdbg, others_setDbg, others_setF _ (by decide), others_heard _ hdbg q]
  · intro s tok nonce sigOk hc hf hact
    have hop := tokenDone_ok hc hf
    rw [if_neg (by rw [hact]; decide)] at hop
    refine gives_of_frame [Blk.dbg] (fun u => { u with fuse := {}, dbg := {} }) (congrArg (finish s) hop)
      (frame_trans (frame_tokenChosen _ (by decide) _ (fun _ _ => rfl) s) (frame_dbgGrant _ _ _ (by decide) fun _ _ => rfl))
      fun ⟨hregs, hunits⟩ => ⟨?_, ?_, ?_, ?_, ?_, hregs, hunits⟩
    · rw [hlevel, dbgLevel_dbgGrant]
      omega
    · rw [f_sent _ _ hdbg (by decide), busy_dbgGrant, f_tokenChosen_busy]
    · rw [reg_sent _ _ hdbg (by decide), result_dbgGrant]
    · rw [intStat_sent _ _ hdbg, intStat_dbgGrant]
    · rw [sent_fuse, fuse_dbgGrant]
      rfl
  · intro s tok nonce sigOk hc hf hact htarget
    have hop := tokenDone_ok hc hf
    rw [if_pos hact, if_neg (by rw [show s.tokenChosen.fuse = s.fuse from rfl, htarget]; decide), dbgResult_one] at hop
    refine gives_of_frame [Blk.dbg, Blk.sec] (fun u => { u with fuse := {}, dbg := {} }) (congrArg (finish s) hop) ?_
      fun ⟨hregs, hunits⟩ => ⟨?_, ?_, ?_, ?_, hregs, hunits⟩
    · refine Frame.setReg (frame_trans (frame_tokenChosen _ (by decide) _ (fun _ _ => rfl) s) ?_) (by decide) (by decide)
      exact frame_fuseStart (by decide) (fun _ _ => rfl) _ 3
    · rw [sent_fuse, setReg_fuse, fuseStart_eq, setFuse_fuse]
      rfl
    · rw [f_sent _ _ (by decide) (by decide), f_setReg_blk _ (by decide) (by decide) (by decide), f_fuseStart_busy]
    · rw [reg_sent _ _ hdbg (by decide), reg_setReg_self]
    · rw [f_sent _ _ hdbg (by decide), f_setReg_off _ (by decide), fuseStart_eq, f_setFuse,
        f_setF_blk _ (by decide) (by decide) (by decide), f_tokenChosen_busy]
  · intro s tok nonce code sigOk hc hf
    have hne : code ≠ 1 := ne_one_of_mem_tokenFaults (s := s) (by rw [hf]; exact List.mem_singleton_self _)
    have hop := (tokenDone_fault hc hf).trans (dbgResult_refused hne _)
    refine gives_of_frame [Blk.dbg] (fun u => { u with fuse := {}, dbg := {} }) (congrArg (finish s) hop) ?_
      fun ⟨hregs, hunits⟩ => ⟨?_, ?_, ?_, ?_, ?_, hregs, hunits⟩
    · exact Frame.raise (Frame.setReg (frame_tokenChosen _ (by decide) _ (fun _ _ => rfl) s) (by decide) (by decide)) (by decide)
    · rw [reg_sent _ _ hdbg (by decide), reg_raise_off _ (by decide) (by decide) (by decide), reg_setReg_self]
    · rw [f_sent _ _ hdbg (by decide), f_raise _ (by decide) (by decide) (by decide), f_setReg_off _ (by decide), f_tokenChosen_busy]
    · rw [hlevel, ← dbgLevel_tokenChosen s]
      unfold dbgLevel
      rw [f_raise _ (by decide) (by decide) (by decide), f_setReg_off _ (by decide)]
    · rw [sent_fuse, raise_fuse, setReg_fuse]
      rfl
    · rw [intStat_sent _ _ hdbg, getLsbD_raise _ _ (by decide)]
  · intro s q hs _ _ _ hopen
    refine gives_access_frame [Blk.dbg] (fun u => { u with dbg := {} }) rfl hs (dbgCtl_lock _)
      (frame_dbgClose _ 4 (by decide) fun _ _ => rfl) fun ⟨hregs, hunits⟩ => ?_
    obtain ⟨hlast, huntil, hint⟩ := dbgClose_reports (s := s.heard q) (by rw [heard_dbgLevel]; exact hopen) (cause := 4) (by decide)
    refine ⟨?_, ?_, ?_, ?_, hregs, hunits⟩
    · rw [hlevel, dbgLevel_dbgClose]
    · rw [f_sent _ _ hdbg (by decide), hlast]
    · rw [hstate, huntil]
    · rw [intStat_sent _ _ hdbg, hint]
  · intro s n hu hopen
    have hop : s.unlockExpiry = s.dbgClose 3 := by
      unfold unlockExpiry
      rw [hu]
      rfl
    refine gives_of_frame [Blk.dbg] (fun u => { u with dbg := {} }) (congrArg (finish s) hop)
      (frame_dbgClose _ 3 (by decide) fun _ _ => rfl) fun ⟨hregs, hunits⟩ => ?_
    obtain ⟨hlast, huntil, hint⟩ := dbgClose_reports hopen (cause := 3) (by decide)
    refine ⟨?_, ?_, ?_, ?_, hregs, hunits⟩
    · rw [hlevel, dbgLevel_dbgClose]
    · rw [f_sent _ _ hdbg (by decide), hlast]
    · rw [hstate, huntil]
    · rw [intStat_sent _ _ hdbg, hint]
end

section
/-! A pulse output and the mapping of the vectors (R55, R284). The clause on a rise says what the device has sent in every state,
and so also in a state that holds an interrupt of a block number beyond the 179 blocks: no run reaches it, and the mapping
byte of that number is read where TPO_STAT 0 lies, so the rise of the pin moves the number to another vector, whose message is
sent. -/

namespace Sys2Proof.Machine

/-- A state with one-shot output 0 due. MSI-X is enabled with the link up and no vector masked, and the interrupt of block number
53272 contributes: the byte that maps it is bits [7:0] of TPO_STAT 0. -/
def State.strayMapping : State :=
  { (State.on.setF Blk.time (TIME.TPO_CTL_MODE 0) 1).setF Blk.pcie PCIE.LINK_STAT_DL_ACTIVE 1 with
    tb := [(0, 2 ^ 70)], ints := [(53272, 1)], intEn := [(53272, 1)], msixEn := true, msix := [(3, 0), (7, 0)] }

theorem State.strayMapping_premises : State.strayMapping.timeOn = true ∧
    State.strayMapping.uf Blk.time (TIME.TPO_CTL_MODE 0) = 1 ∧ State.strayMapping.fb Blk.time (TIME.TPO_STAT_ACTIVE 0) = false ∧
    SMap.get false State.strayMapping.tpoIssued 0 = false ∧ State.strayMapping.tpoReached 0 = true := by decide

/-- The rise sends the pulse and then a message. -/
theorem State.strayMapping_sends :
    (State.strayMapping.follow [.tpoEdge 0]).map (fun t => (t.out.length, State.strayMapping.out.length)) = some (2, 0) := by
  decide

end Sys2Proof.Machine

open Sys2Proof Sys2Proof.Machine

/-- Refutes O14: in `State.strayMapping` the rise of a one-shot output is not the only thing sent. -/
theorem not_stampsAndPulses : ¬ Obligations.StampsAndPulses := by
  unfold Obligations.StampsAndPulses
  rintro ⟨-, -, -, -, -, hrise, -⟩
  obtain ⟨hon, hmode, hactive, hissued, hreached⟩ := State.strayMapping_premises
  obtain ⟨t, hex, -, hout, -⟩ := hrise State.strayMapping 0 hon hmode hactive hissued hreached
  have hsends := State.strayMapping_sends
  rw [State.follow_singleton hex, Option.map_some, hout, List.length_cons] at hsends
  exact absurd hsends (by decide)
end

section
/-! RESUME of a stream and the staged control word (R45, R315). The clause on RESUME has no premise on STAGE. A RESUME keeps the
other fields of the control word, the staged ones as the shadow holds them, so with the reserved code 3 in the shadow's UPD
field the command is refused, though the active UPD says stream. -/

namespace Sys2Proof.Machine

/-- A state in which channel 0 is in stream mode, HDAC is staged, and UPD of the channel's shadow is 3. -/
def State.shadowReserved : State :=
  { (State.on.setF Blk.hdac (HDAC.CH_CTL_UPD 0) 2).setF Blk.hdac HDR.BLK_CTL_STAGE 1 with
    shadows := [(regKey Blk.hdac (HDAC.CH_CTL 0), 0x30)] }

theorem State.shadowReserved_premises : State.shadowReserved.Serves .pcie Blk.hdac true ∧
    State.shadowReserved.df (HDAC.CH_CTL_UPD 0) = 2 ∧ State.shadowReserved.hdacHeld 0 = false := by decide

/-- The stream does not start, and CFG_REFUSED is set. -/
theorem State.shadowReserved_refuses :
    (State.shadowReserved.follow [.streamResume .pcie 0]).map (fun t => (t.hdacStreams 0, t.df HDAC.HSTAT_CFG_REFUSED)) =
      some (false, 1) := by decide

end Sys2Proof.Machine

open Sys2Proof Sys2Proof.Machine

/-- Refutes O23: in `State.shadowReserved` RESUME of a channel in stream mode is refused. -/
theorem not_hdacChannels : ¬ Obligations.HdacChannels := by
  unfold Obligations.HdacChannels
  rintro ⟨-, -, -, hresume, -⟩
  obtain ⟨hserves, hmode, hfree⟩ := State.shadowReserved_premises
  obtain ⟨t, hex, hstream, -⟩ := hresume State.shadowReserved .pcie 0 hserves hmode hfree
  have hrefuses := State.shadowReserved_refuses
  rw [State.follow_singleton hex, Option.map_some] at hrefuses
  have hstopped : t.hdacStreams 0 = false := congrArg Prod.fst (Option.some.inj hrefuses)
  exact absurd (hstream.symm.trans hstopped) (by decide)
end

section
/-! The event time of PWR (R44). A command that raises a source of PWR also stamps its EVT_TIME registers while PD_TIME is up,
and the clauses on a request that is refused and on a wake pin let one register of PWR change. -/

namespace Sys2Proof.Machine

/-- A request for PS0 is refused, and the time of the refusal is stamped. -/
theorem refused_powerRequest_stamps :
    (State.fiveNs.follow [.powerRequest .i2c 0]).map (·.reg Blk.pwr HDR.EVT_TIME_LO) = some 5 := by
  decide

/-- PS1 with wake pin 0 enabled and inactive, and TB0 at 5 ns. -/
def State.fiveNsAsleep : State :=
  (((State.fiveNs.setF Blk.pwr PWR.STAT_STATE 1).setF Blk.pwr PWR.WAKE_EN_EN 1).setReg Blk.aon AON.WAKE_CTL 1).setF Blk.aon
    AON.PIN_STAT_WAKE 0

theorem State.fiveNsAsleep_premises : (State.fiveNsAsleep.f Blk.pwr PWR.WAKE_EN_EN).testBit 0 = true ∧
    State.fiveNsAsleep.wakeState = 1 ∧ State.fiveNsAsleep.pwr.wake = false ∧
    ((State.fiveNsAsleep.reg Blk.aon AON.WAKE_CTL).toNat.testBit 0 == true) = true ∧
    (State.fiveNsAsleep.f Blk.aon AON.PIN_STAT_WAKE).testBit 0 = false := by decide

/-- The pin wakes the device, and the time of the wake is stamped. -/
theorem wakePin_stamps :
    (State.fiveNsAsleep.follow [.wakePin 0 true]).map (·.reg Blk.pwr HDR.EVT_TIME_LO) = some 5 := by
  decide

end Sys2Proof.Machine

open Sys2Proof Sys2Proof.Machine Sys2Proof.Machine.State

/-- Refutes O31: a request for PS0 is refused, and the raised source stamps EVT_TIME of PWR (R44), while the clause lets STAT alone
change in that block. -/
theorem not_powerEntry : ¬ Obligations.PowerEntry := by
  unfold Obligations.PowerEntry
  rintro ⟨hrefused, -⟩
  obtain ⟨t, hexec, -, -, -, -, -, -, hkeeps, -⟩ :=
    hrefused fiveNs .i2c 0 (by decide) (.inl (by decide)) (.inl rfl)
  have hstamp := refused_powerRequest_stamps
  rw [follow_singleton hexec, Option.map_some, hkeeps _ (by decide) (by decide)] at hstamp
  exact absurd hstamp (by decide)

/-- Refutes O32: in PS1 an enabled pin wakes the device, and the raised source stamps EVT_TIME of PWR (R44), while the clause lets
WAKE_STAT alone change in that block. -/
theorem not_wakeAndExit : ¬ Obligations.WakeAndExit := by
  unfold Obligations.WakeAndExit
  rintro ⟨hpin, -⟩
  obtain ⟨hen, hstate, hwake, hlevel, hpinstat⟩ := fiveNsAsleep_premises
  obtain ⟨t, hexec, -, -, -, -, -, -, -, hkeeps, -⟩ := hpin fiveNsAsleep 0 true hen (by rw [hstate]) (by rw [hstate]; decide) hwake
    hlevel (by rw [show ((0 : Fin 4) : Nat) = 0 from rfl, hpinstat]; decide)
  have hstamp := wakePin_stamps
  rw [follow_singleton hexec, Option.map_some, hkeeps _ (by decide) (by decide)] at hstamp
  exact absurd hstamp (by decide)
end

section
/-! Interrupt sources that two clauses leave out. The source of lane engine 16 is a bit of PORTMAP (R147), where the clauses on its
mailbox let the block of its control set alone change; and a health report stamps the EVT_TIME registers of TWIN (R44), where
its clause lets RX_CNT alone change. -/

namespace Sys2Proof.Machine

/-- Engine 16 with its clock, and every source of LE_EVT enabled. -/
def State.engine16Enabled : State := (State.on.engUp 16).setReg (engBlk 16) (ENG.LE_EVT_EN (engBase 16)) (BitVec.allOnes 32)

theorem State.engine16Enabled_engClock : State.engine16Enabled.engClock 16 = true := by decide

theorem State.engine16Enabled_pmap : State.engine16Enabled.intStat Blk.pmap = 0 := by decide

/-- A note of engine 16 raises bit 31 of PORTMAP. -/
theorem mbxNote_raises_pmap :
    (State.engine16Enabled.follow [.mbxNote 16 0]).map (·.intStat Blk.pmap) = some (BitVec.twoPow 32 31) := by
  decide

/-- Paired, with TB0 at 5 ns. -/
def State.fiveNsPaired : State := State.fiveNs.twUp 3

theorem State.fiveNsPaired_accepts : State.fiveNsPaired.Accepts ⟨1, true⟩ := by decide

theorem State.fiveNsPaired_evtTime : State.fiveNsPaired.reg Blk.twin HDR.EVT_TIME_LO = 0 := by decide

/-- The time of a health report's arrival is stamped. -/
theorem health_stamps :
    (State.fiveNsPaired.follow [.health ⟨1, true⟩ []]).map (·.reg Blk.twin HDR.EVT_TIME_LO) = some 5 := by
  decide

end Sys2Proof.Machine

open Sys2Proof Sys2Proof.Machine Sys2Proof.Machine.State

/-- Refutes O42: MBX_NOTE of engine 16 raises a bit of INT_STAT of PORTMAP (R147), while the clause lets no block change but the one
that holds the engine's control set. -/
theorem not_engineMailbox : ¬ Obligations.EngineMailbox := by
  unfold Obligations.EngineMailbox
  rintro ⟨-, -, -, -, hnote, -⟩
  obtain ⟨t, hexec, -, -, -, -, hkeeps, -⟩ := hnote engine16Enabled 16 0 engine16Enabled_engClock
  have hraised := mbxNote_raises_pmap
  rw [follow_singleton hexec, Option.map_some, hkeeps.ints Blk.pmap (by decide) (by decide), engine16Enabled_pmap] at hraised
  exact absurd hraised (by decide)

/-- Refutes O46: the arrival of a health report raises a source of TWIN, which stamps EVT_TIME (R44), while the clause lets RX_CNT
alone change in that block. -/
theorem not_twinPosition : ¬ Obligations.TwinPosition := by
  unfold Obligations.TwinPosition
  rintro ⟨-, -, -, -, -, -, -, -, -, -, -, -, -, -, hhealth⟩
  obtain ⟨t, hexec, -, -, -, -, hkeeps, -⟩ := hhealth fiveNsPaired ⟨1, true⟩ [] fiveNsPaired_accepts
  have hstamp := health_stamps
  rw [follow_singleton hexec, Option.map_some, hkeeps HDR.EVT_TIME_LO (by decide) (by decide), fiveNsPaired_evtTime] at hstamp
  exact absurd hstamp (by decide)
end

section
/-! The instructions of a lane engine that set a scalar register (R150, R151, R154): what an instruction that goes on leaves of its
engine, what a write of a scalar register changes, and the values the operations give in the words of the statement. -/

namespace Sys2Proof.Machine

/-! ### The engine's record -/

/-- The record without the note of the last load's destination, which an instruction starts from. -/
def Engine.unloaded (g : Engine) : Engine := { g with loadDest := none }

/-- The record with scalar register `d` set to `v`, which s0 ignores (R150). -/
def Engine.withScalar (g : Engine) (d : Nat) (v : Word) : Engine := { g with s := if d = 0 then g.s else SMap.put 0 g.s d v }

@[simp] theorem core_unloaded (g : Engine) : g.unloaded.core = g.core := rfl

namespace State

@[simp] theorem engSeq_s (g : Engine) : (engSeq g).s = g.s := by
  rcases g with ⟨⟩
  unfold engSeq
  split
  · split
    · split <;> rfl
    · rfl
  · rfl

/-- Going on to the next instruction looks at the PC and the loop alone. -/
theorem engSeq_unloaded (g : Engine) : engSeq g.unloaded = (engSeq g).unloaded := by
  obtain hl | ⟨⟨n, st, en⟩, hl⟩ := Option.eq_none_or_eq_some g.loop
  · simp only [engSeq, Engine.unloaded, hl]
  · simp only [engSeq, Engine.unloaded, hl]
    split_ifs <;> rfl

variable (s : State) (e : Nat)

/-! ### An instruction that goes on -/

/-- Engine `e` has executed an instruction of `n` cycles and goes on to the next one. -/
def retired (n : Nat) : State := ((s.perf 6 e 1).modEng e engSeq).addCycles e n

theorem eng_perf (c k n x : Nat) : (s.perf c k n).eng x = s.eng x :=
  of_units (fun t => t.eng x) (fun _ => rfl) (perf_units ..)

theorem sram_perf (c k n : Nat) : (s.perf c k n).sram = s.sram := of_units State.sram (fun _ => rfl) (perf_units ..)

theorem eng_sent (old : State) (x : Nat) : (sent old s).eng x = s.eng x :=
  of_units (fun t => t.eng x) (fun _ => rfl) (sent_units ..)

theorem core_retired (n : Nat) : ((s.retired e n).eng e).core = (engSeq (s.eng e)).core := by
  simp only [retired, addCycles, modEng, eng_setEng_self, eng_perf]
  rfl

theorem s_retired (n : Nat) : ((s.retired e n).eng e).s = (s.eng e).s := by
  simp only [retired, addCycles, modEng, eng_setEng_self, eng_perf, engSeq_s]

theorem eng_retired_ne (n : Nat) {x : Nat} (h : x ≠ e) : (s.retired e n).eng x = s.eng x := by
  simp only [retired, addCycles, modEng, eng_setEng_ne _ h.symm, eng_perf]

theorem sram_retired (n : Nat) : (s.retired e n).sram = s.sram := sram_perf s 6 e 1

/-- What an instruction may change beside the record of its engine. -/
abbrev engBlank (u : State) : State := { u with engines := [], sram := {} }

theorem frame_modEng (g : Engine → Engine) : Frame [] engBlank s (s.modEng e g) := frame_of_eq rfl rfl rfl

theorem frame_retired (n : Nat) : Frame [] engBlank s (s.retired e n) := by
  unfold retired addCycles
  exact frame_trans (frame_trans (frame_refl s).perf (frame_modEng _ e engSeq)) (frame_modEng _ e _)

variable {s e}

theorem engWake_of_issues (h : s.Issues e) : s.engWake e = s := by
  unfold engWake
  rw [h.2.1]

/-- An instruction that gives the state `r` and goes on leaves `r` retired after its cycles. -/
theorem engIssue_of_seq (h : s.Issues e) {u : UInstr} {r : State}
    (hr : (s.modEng e Engine.unloaded).engExec e false u = (r, .seq)) : ∃ n, s.engIssue e u = r.retired e n := by
  obtain ⟨hclock, hrun, hpc⟩ := h
  have hone : s.engIssue e u = s.engOne e false u := by
    simp only [engIssue, engWake_of_issues ⟨hclock, hrun, hpc⟩, hclock, hrun, hpc]
    rfl
  refine ⟨?cycles, hone.trans ?retires⟩
  case retires =>
    unfold engOne
    dsimp only
    rw [show (s.modEng e fun g => { g with loadDest := none }) = s.modEng e Engine.unloaded from rfl, hr]
    rfl

/-! ### A write of a scalar register -/

theorem scalar_unloaded (i : Nat) : (s.modEng e Engine.unloaded).scalar e i = s.scalar e i := by
  simp only [scalar, modEng, eng_setEng_self]
  rfl

theorem vreg_unloaded (i : Nat) : (s.modEng e Engine.unloaded).vreg e i = s.vreg e i := by
  simp only [vreg, modEng, eng_setEng_self]
  rfl

theorem eng_setScalar_unloaded (d : Nat) (v : Word) :
    ((s.modEng e Engine.unloaded).setScalar e d v).eng e = ((s.eng e).withScalar d v).unloaded := by
  unfold setScalar
  split <;> rename_i h <;> simp [modEng, eng_setEng_self, Engine.withScalar, Engine.unloaded, h]

theorem eng_setScalar_ne (d : Nat) (v : Word) {x : Nat} (h : x ≠ e) : (s.setScalar e d v).eng x = s.eng x := by
  unfold setScalar
  split
  · rfl
  · exact eng_setEng_ne _ h.symm _

theorem sram_setScalar (d : Nat) (v : Word) : (s.setScalar e d v).sram = s.sram := by
  unfold setScalar
  split <;> rfl

theorem frame_setScalar (d : Nat) (v : Word) : Frame [] engBlank s (s.setScalar e d v) := by
  unfold setScalar
  split
  · exact frame_refl s
  · exact frame_modEng s e _

/-- The scalar registers after register `d` has been set to `v`. -/
theorem get_withScalar (g : Engine) (d i : Nat) (v : Word) : (if i = 0 then 0 else SMap.get 0 (g.withScalar d v).s i) =
    if i = 0 then 0 else if i = d then v else SMap.get 0 g.s i := by
  unfold Engine.withScalar
  by_cases hi : i = 0
  · rw [if_pos hi, if_pos hi]
  by_cases hd : d = 0
  · simp [hd, hi]
  by_cases h : i = d
  · simp [h, hd]
  · simp only [hi, hd, h, if_false]
    exact SMap.get_put_ne _ _ _ (Ne.symm h) _

/-- An instruction that sets scalar register `d` to `v` and goes on does what the statement says of it. -/
theorem setsScalar_retired (d : Nat) (v : Word) (n : Nat) :
    s.SetsScalar e d v (sent s (((s.modEng e Engine.unloaded).setScalar e d v).retired e n)) := by
  have hs : ((sent s (((s.modEng e Engine.unloaded).setScalar e d v).retired e n)).eng e).s = ((s.eng e).withScalar d v).s := by
    rw [eng_sent, s_retired, eng_setScalar_unloaded]
    rfl
  have hget (i : Nat) : (sent s (((s.modEng e Engine.unloaded).setScalar e d v).retired e n)).scalar e i =
      if i = 0 then 0 else if i = d then v else SMap.get 0 (s.eng e).s i := by
    unfold scalar
    rw [hs, get_withScalar]
  have hframe : Frame [] engBlank s (sent s (((s.modEng e Engine.unloaded).setScalar e d v).retired e n)) :=
    frame_sent (frame_trans (frame_modEng s e _) (frame_trans (frame_setScalar d v) (frame_retired _ e n)))
  refine ⟨?_, fun i hi => ?_, ⟨?_, fun x hx => ?_, hframe.2, hframe.1⟩, ?_⟩
  · rw [hget, if_pos (rfl : d = d)]
  · rw [hget, if_neg hi]
    rfl
  · rw [hs, eng_sent, core_retired, eng_setScalar_unloaded, engSeq_unloaded, core_unloaded]
    rfl
  · rw [eng_sent, eng_retired_ne _ _ _ hx, eng_setScalar_ne d v hx, modEng, eng_setEng_ne _ hx.symm]
  · rw [of_units State.sram (fun _ => rfl) (sent_units ..), sram_retired, sram_setScalar]
    rfl

/-- The rule of the scalar instructions: an issued instruction whose execution writes `w` to register `d` and goes on sets `d` to
`v`, where `v` is `w`. -/
theorem gives_setsScalar {c : Instr} {d : Nat} {u : UInstr} {v w : Word} (h : s.Issues e)
    (hexec : exec c s = finish s (s.engIssue e u))
    (hseq : (s.modEng e Engine.unloaded).engExec e false u = ((s.modEng e Engine.unloaded).setScalar e d w, .seq))
    (hval : w = v) : Gives c s fun t => s.SetsScalar e d v t := by
  obtain ⟨n, hn⟩ := engIssue_of_seq h hseq
  exact ⟨_, hexec.trans rfl, by rw [hn, hval]; exact setsScalar_retired d v n⟩

/-- The rule of the register-to-register instructions. -/
theorem gives_alu {c : Instr} {d a b : Nat} {op : AluOp} {v : Word} (h : s.Issues e)
    (hexec : exec c s = finish s (s.engIssue e (.alu op d a b))) (hval : op.eval (s.scalar e a) (s.scalar e b) = v) :
    Gives c s fun t => s.SetsScalar e d v t :=
  gives_setsScalar h hexec rfl (by rw [scalar_unloaded, scalar_unloaded, hval])

/-- The rule of the instructions with an immediate. -/
theorem gives_imm {c : Instr} {d a i : Nat} {op : ImmOp} {v : Word} (h : s.Issues e)
    (hexec : exec c s = finish s (s.engIssue e (.imm op d a i))) (hval : op.eval (s.scalar e a) i = v) :
    Gives c s fun t => s.SetsScalar e d v t :=
  gives_setsScalar h hexec rfl (by rw [scalar_unloaded, hval])

end State

/-! ### Values -/

theorem eval_min (x y : Word) : AluOp.eval .min x y = BitVec.ofInt 32 (min x.toInt y.toInt) := by
  rw [min_def]
  change (if _ then _ else _) = _
  split <;> rw [BitVec.ofInt_toInt]

theorem eval_max (x y : Word) : AluOp.eval .max x y = BitVec.ofInt 32 (max x.toInt y.toInt) := by
  rw [max_def]
  change (if _ then _ else _) = _
  split <;> rw [BitVec.ofInt_toInt]

theorem signed_toNat (i : BitVec 18) : signed 18 i.toNat = i.toInt := by
  rw [signed, BitVec.toInt_eq_toNat_cond, Nat.mod_eq_of_lt i.isLt]
  split_ifs <;> omega

theorem sext18_toNat (i : BitVec 18) : sext18 i.toNat = i.signExtend 32 := by
  rw [sext18, signed_toNat]
  rfl

theorem satSigned_succ (n : Nat) (x : Int) : satSigned (n + 1) x = max (-(2 ^ n)) (min (2 ^ n - 1) x) := by
  simp [satSigned, clampInt]

theorem lui_value (i : BitVec 18) : BitVec.ofNat 32 (i.toNat * 2 ^ 14) = i.setWidth 32 <<< 14 := by
  apply BitVec.eq_of_toNat_eq
  simp [Nat.shiftLeft_eq]

end Sys2Proof.Machine

open Sys2Proof Sys2Proof.Machine Sys2Proof.Machine.State

/-- Settles O37: each clause is the rule of its form of instruction, with the value of its operation. -/
theorem engineScalar : Obligations.EngineScalar := by
  unfold Obligations.EngineScalar
  refine ⟨fun s e d a b h => gives_alu h rfl rfl, fun s e d a b h => gives_alu h rfl rfl, fun s e d a b h => gives_alu h rfl rfl,
    fun s e d a b h => gives_alu h rfl rfl, fun s e d a b h => gives_alu h rfl rfl, fun s e d a b h => gives_alu h rfl rfl,
    fun s e d a b h => gives_alu h rfl rfl, fun s e d a b h => gives_alu h rfl rfl, fun s e d a b h => gives_alu h rfl rfl,
    fun s e d a b h => gives_alu h rfl rfl, fun s e d a b h => gives_alu h rfl (eval_min _ _),
    fun s e d a b h => gives_alu h rfl (eval_max _ _), fun s e d a b h => gives_alu h rfl rfl,
    fun s e d a b h => gives_alu h rfl rfl, fun s e d a i h => gives_imm h rfl ?_, fun s e d a i h => gives_imm h rfl ?_,
    fun s e d a i h => gives_imm h rfl ?_, fun s e d a i h => gives_imm h rfl ?_, fun s e d a i h => gives_imm h rfl ?_,
    fun s e d a i h => gives_imm h rfl ?_, fun s e d a i h => gives_imm h rfl ?_,
    fun s e d i h => gives_setsScalar h rfl rfl (lui_value i), fun s e d a i h => gives_setsScalar h rfl rfl ?_,
    fun s e d a h => gives_setsScalar h rfl rfl ?_, fun s e d a lane h => gives_setsScalar h rfl rfl ?_⟩
  case refine_1 => rw [ImmOp.eval, sext18_toNat]
  case refine_2 => rw [ImmOp.eval, ← BitVec.ofNat_toNat]
  case refine_3 => rw [ImmOp.eval, ← BitVec.ofNat_toNat]
  case refine_4 => rw [ImmOp.eval, ← BitVec.ofNat_toNat]
  case refine_5 => rw [ImmOp.eval, Nat.mod_eq_of_lt i.isLt]
  case refine_6 => rw [ImmOp.eval, Nat.mod_eq_of_lt i.isLt]
  case refine_7 => rw [ImmOp.eval, Nat.mod_eq_of_lt i.isLt]
  case refine_8 => rw [scalar_unloaded, satSigned_succ]
  case refine_9 => rw [vreg_unloaded, List.sum_eq_foldl]
  case refine_10 => rw [vreg_unloaded]
end

section
/-! Memory keeps its canonical form (O60): the rules, and the operations of registers, accesses, lanes, the scheduler's entries,
the ports and the Foghorn transceiver. The layer of `Laws/Memory.lean` says what the stores of SRAM and DDR4 and the Logbook's
writer do; here each operation that calls them, or changes neither memory, gets its lemma, in the order of the model. A proof
follows the definition: its term names what the operation does last, first. -/

namespace Sys2Proof.Machine
namespace State

/-! ### Rules -/

/-- A state that a partial operation may answer keeps the form. -/
def RamOks (o : Option State) : Prop := ∀ t, o = some t → t.RamOk

theorem ramOks_none : RamOks none := fun _ h => nomatch h

theorem ramOks_some {t : State} (h : t.RamOk) : RamOks (some t) := fun _ he => Option.some.inj he ▸ h

/-- A choice has a property that both its branches have. -/
theorem prop_ite {α : Type} {p : α → Prop} {c : Prop} [Decidable c] {a b : α} (ha : p a) (hb : p b) : p (if c then a else b) := by
  split
  · exact ha
  · exact hb

section
variable {α β : Type} {c : Prop} [Decidable c]

theorem ramOk_ite_opt {a b : Option State} (ha : RamOks a) (hb : RamOks b) : RamOks (if c then a else b) :=
  prop_ite (p := RamOks) ha hb

theorem ramOk_ite_fst {a b : State × α} (ha : a.1.RamOk) (hb : b.1.RamOk) : (if c then a else b).1.RamOk :=
  prop_ite (p := fun r : State × α => r.1.RamOk) ha hb

theorem ramOk_ite_snd {a b : α × State} (ha : a.2.RamOk) (hb : b.2.RamOk) : (if c then a else b).2.RamOk :=
  prop_ite (p := fun r : α × State => r.2.RamOk) ha hb

theorem ramOk_ite_snd_snd {a b : α × β × State} (ha : a.2.2.RamOk) (hb : b.2.2.RamOk) : (if c then a else b).2.2.RamOk :=
  prop_ite (p := fun r : α × β × State => r.2.2.RamOk) ha hb

theorem ramOk_ite_st {a b : DmaMove} (ha : a.st.RamOk) (hb : b.st.RamOk) : (if c then a else b).st.RamOk :=
  prop_ite (p := fun r : DmaMove => r.st.RamOk) ha hb

theorem ramOk_dite {a : c → State} {b : ¬c → State} (ha : ∀ h, (a h).RamOk) (hb : ∀ h, (b h).RamOk) :
    (if h : c then a h else b h).RamOk := by
  split
  · exact ha _
  · exact hb _

end

/-- A choice whose first branch goes on from the second. -/
theorem ramOk_then {c : Prop} [Decidable c] {a b : State} (hb : b.RamOk) (ha : b.RamOk → a.RamOk) : (if c then a else b).RamOk :=
  ramOk_ite (ha hb) hb

/-- A choice whose second branch goes on from the first. -/
theorem ramOk_else {c : Prop} [Decidable c] {a b : State} (ha : a.RamOk) (hb : a.RamOk → b.RamOk) : (if c then a else b).RamOk :=
  ramOk_ite ha (hb ha)

theorem ramOk_foldl_fst {α β : Type} {g : State × β → α → State × β} (h : ∀ r x, r.1.RamOk → (g r x).1.RamOk) (l : List α)
    {r : State × β} (hr : r.1.RamOk) : (l.foldl g r).1.RamOk :=
  foldl_prop (p := fun r : State × β => r.1.RamOk) h l hr

theorem ramOk_foldl_snd {α β : Type} {g : β × State → α → β × State} (h : ∀ r x, r.2.RamOk → (g r x).2.RamOk) (l : List α)
    {r : β × State} (hr : r.2.RamOk) : (l.foldl g r).2.RamOk :=
  foldl_prop (p := fun r : β × State => r.2.RamOk) h l hr

theorem ramOk_foldl_snd_snd {α β γ : Type} {g : β × γ × State → α → β × γ × State} (h : ∀ r x, r.2.2.RamOk → (g r x).2.2.RamOk)
    (l : List α) {r : β × γ × State} (hr : r.2.2.RamOk) : (l.foldl g r).2.2.RamOk :=
  foldl_prop (p := fun r : β × γ × State => r.2.2.RamOk) h l hr

theorem ramOk_foldl_st {α : Type} {g : DmaMove → α → DmaMove} (h : ∀ r x, r.st.RamOk → (g r x).st.RamOk) (l : List α)
    {r : DmaMove} (hr : r.st.RamOk) : (l.foldl g r).st.RamOk :=
  foldl_prop (p := fun r : DmaMove => r.st.RamOk) h l hr

/-- A state whose memories hold the same bytes. -/
theorem ramOk_same {s t : State} (hs : s.RamOk) (h1 : t.sram.bytes = s.sram.bytes := by rfl)
    (h2 : t.ddr.bytes = s.ddr.bytes := by rfl) : t.RamOk :=
  ramOk_of_eq h1 h2 hs

theorem ramOk_sameSram {s : State} {m : Sram} (hs : s.RamOk) (h : m.bytes = s.sram.bytes := by rfl) : (s.setSram m).RamOk :=
  ramOk_setSram hs (h.symm ▸ hs.1)

theorem ramOk_sameDdr {s : State} {g : DdrState → DdrState} (hs : s.RamOk) (h : (g s.ddr).bytes = s.ddr.bytes := by rfl) :
    (s.modDdr g).RamOk :=
  ramOk_modDdr hs (h.symm ▸ hs.2)

/-- A state that takes both memories from one in canonical form, whatever its other fields are. -/
theorem ramOk_mk {A : State} {x0 x1 x2 x3 x4 x5 x6 x7 x8 x9 x10 x11 x12 x13 x14 x15 x16 x17 x18 x19 x20 x21 x22 x23 x24 x25
    x26 x27 x28 x29 x30 x31 x32 x33 x34 x35 x37 x38 x39 x40 x41 x42 x43 x44 x45 x46 x47 x49 x50 x51 x52 x53 x54 x55 x56 x57
    x58 x59 x60 x61 x62 x63} (h : A.RamOk) :
    RamOk (State.mk x0 x1 x2 x3 x4 x5 x6 x7 x8 x9 x10 x11 x12 x13 x14 x15 x16 x17 x18 x19 x20 x21 x22 x23 x24 x25 x26 x27 x28
    x29 x30 x31 x32 x33 x34 x35 (A.sram) x37 x38 x39 x40 x41 x42 x43 x44 x45 x46 x47 (A.ddr) x49 x50 x51 x52 x53 x54 x55 x56
    x57 x58 x59 x60 x61 x62 x63) := h

section
variable {s : State} (hs : s.RamOk)
include hs

theorem ramOk_setReg {b off w} : (s.setReg b off w).RamOk := ramOk_rest (setReg_rest ..) hs
theorem ramOk_setF {b fl v} : (s.setF b fl v).RamOk := ramOk_rest (setF_rest ..) hs
theorem ramOk_setB {b fl v} : (s.setB b fl v).RamOk := ramOk_rest (setB_rest ..) hs
theorem ramOk_satReg {b off n} : (s.satReg b off n).RamOk := ramOk_rest (satReg_rest ..) hs
theorem ramOk_setIntStat {b w} : (s.setIntStat b w).RamOk := ramOk_rest rfl hs
theorem ramOk_raiseMask {b m} : (s.raiseMask b m).RamOk := ramOk_rest (raiseMask_rest ..) hs
theorem ramOk_raise {b i} : (s.raise b i).RamOk := ramOk_rest (raise_rest ..) hs
theorem ramOk_flag {b fl i} : (s.flag b fl i).RamOk := ramOk_rest (flag_rest ..) hs
theorem ramOk_perf {c k n} : (s.perf c k n).RamOk := ramOk_rest (perf_rest ..) hs
theorem ramOk_memCount {o i n} : (s.memCount o i n).RamOk := ramOk_rest (memCount_rest ..) hs
theorem ramOk_ddrCount {o i n} : (s.ddrCount o i n).RamOk := ramOk_rest (ddrCount_rest ..) hs
theorem ramOk_count32 {b off n} : (s.count32 b off n).1.RamOk := ramOk_rest (count32_rest ..) hs
theorem ramOk_sendVector {v} : (s.sendVector v).RamOk := ramOk_rest (sendVector_rest ..) hs
theorem ramOk_heard {q} : (s.heard q).RamOk := ramOk_rest (heard_rest ..) hs
theorem ramOk_sent {old} : (sent old s).RamOk := ramOk_rest (sent_rest ..) hs

end

variable {s : State}

/-! ### Free values -/

theorem ramOk_draw {w} (hs : s.RamOk) : (s.draw w).2.RamOk := by
  unfold draw
  exact ramOk_mk hs

theorem ramOk_choose {α : Type} {l : List α} (hs : s.RamOk) : (s.choose l).2.RamOk := by
  unfold choose
  exact ramOk_mk hs

theorem ramOk_send {m} (hs : s.RamOk) : (s.send m).RamOk := by
  unfold send
  exact ramOk_mk hs

/-! ### Time (R25, R44, R270) -/

theorem ramOk_setTb {n v} (hs : s.RamOk) : (s.setTb n v).RamOk := by
  unfold setTb
  exact ramOk_mk hs

theorem ramOk_setAonCnt {v} (hs : s.RamOk) : (s.setAonCnt v).RamOk := by
  unfold setAonCnt
  exact ramOk_setReg (ramOk_setReg hs)

/-! ### Interrupt status (R43, R44, R53) -/

theorem ramOk_stampEvt {b} (hs : s.RamOk) : (s.stampEvt b).RamOk := by
  unfold stampEvt
  exact ramOk_ite (ramOk_setReg (ramOk_setReg hs)) hs

/-! ### Performance counters (R435 to R438) -/

theorem ramOk_tlp {dir n} (hs : s.RamOk) : (s.tlp dir n).RamOk := by
  unfold tlp
  exact ramOk_perf hs

theorem ramOk_tlps {dir} (hs : s.RamOk) : (s.tlps dir).RamOk := by
  unfold tlps
  exact ramOk_tlp (ramOk_draw hs)

/-! ### Counters -/

theorem ramOk_count48 {b lo hi n} (hs : s.RamOk) : (s.count48 b lo hi n).1.RamOk := by
  unfold count48
  exact ramOk_setReg (ramOk_setReg hs)

theorem ramOk_countSat {b fl n} (hs : s.RamOk) : (s.countSat b fl n).RamOk := by
  unfold countSat
  exact ramOk_setF hs

theorem ramOk_countFlag32 {b off n wrap int} (hs : s.RamOk) : (s.countFlag32 b off n wrap int).RamOk := by
  unfold countFlag32
  exact ramOk_then (ramOk_count32 hs) fun h => ramOk_flag h

theorem ramOk_countFlag48 {b lo hi n wrap int} (hs : s.RamOk) : (s.countFlag48 b lo hi n wrap int).RamOk := by
  unfold countFlag48
  exact ramOk_then (ramOk_count48 hs) fun h => ramOk_flag h

/-! ### Units -/

theorem ramOk_setLane {n l} (hs : s.RamOk) : (s.setLane n l).RamOk := by
  unfold setLane
  exact ramOk_mk hs

theorem ramOk_setHlane {m h} (hs : s.RamOk) : (s.setHlane m h).RamOk := by
  unfold setHlane
  exact ramOk_mk hs

theorem ramOk_modHlane {m g} (hs : s.RamOk) : (s.modHlane m g).RamOk := by
  unfold modHlane
  exact ramOk_setHlane hs

theorem ramOk_setEng {e g} (hs : s.RamOk) : (s.setEng e g).RamOk := by
  unfold setEng
  exact ramOk_mk hs

theorem ramOk_setPrim {k p} (hs : s.RamOk) : (s.setPrim k p).RamOk := by
  unfold setPrim
  exact ramOk_mk hs

theorem ramOk_clearBlk {b} (hs : s.RamOk) : (s.clearBlk b).RamOk := by
  unfold clearBlk
  exact ramOk_mk hs

/-! ### Lane event TSUs (R283) -/

theorem ramOk_setLtsu {n u} (hs : s.RamOk) : (s.setLtsu n u).RamOk := by
  unfold setLtsu
  exact ramOk_mk hs

theorem ramOk_laneEvent {n kind} (hs : s.RamOk) : (s.laneEvent n kind).RamOk := by
  unfold laneEvent
  exact ramOk_ite hs (ramOk_ite (ramOk_raise (ramOk_setReg (ramOk_setLtsu hs))) (ramOk_then (ramOk_setLtsu hs) fun h =>
    ramOk_raise h))

/-! ### On-chip SRAM (R334 to R339) -/

theorem ramOk_pageRepair {pg} (hs : s.RamOk) : (s.pageRepair pg).RamOk := by
  unfold pageRepair
  exact ramOk_sameSram hs

/-! ### The Logbook writer (R371 to R377) -/

theorem ramOk_logFree (hs : s.RamOk) : s.logFree.RamOk := by
  unfold logFree
  exact ramOk_mk (ramOk_ite (ramOk_satReg hs) hs)

/-! ### Accesses -/

theorem ramOk_offRecord {bar off write} (hs : s.RamOk) : (s.offRecord bar off write).RamOk := by
  unfold offRecord
  exact ramOk_ite hs (ramOk_flag (ramOk_countSat (ramOk_setB (ramOk_setF (ramOk_setF hs)))))

theorem ramOk_access {b off write k} (hk : ∀ s, s.RamOk → (k s).RamOk) (hs : s.RamOk) : (s.access b off write k).RamOk := by
  unfold access
  exact ramOk_ite (hk _ hs) (ramOk_offRecord hs)

theorem ramOk_parityNew {key} (hs : s.RamOk) : (s.parityNew key).RamOk := by
  unfold parityNew
  exact ramOk_mk hs

theorem ramOk_writeReg {b off v} (hs : s.RamOk) : (s.writeReg b off v).RamOk := by
  unfold writeReg
  exact ramOk_then (ramOk_parityNew (ramOk_setReg hs)) fun h => ramOk_parityNew (ramOk_mk h)

/-! ### Debug level (R414) -/

theorem ramOk_dbgDenied (hs : s.RamOk) : s.dbgDenied.RamOk := by
  unfold dbgDenied
  exact ramOk_ite (ramOk_flag hs) hs

theorem ramOk_accessBy {q b off write k} (hk : ∀ s, s.RamOk → (k s).RamOk) (hs : s.RamOk) : (s.accessBy q b off write k).RamOk
  := by
  unfold accessBy
  exact ramOk_ite (ramOk_access hk (ramOk_heard hs)) (ramOk_dbgDenied (ramOk_heard hs))

/-! ### Declared pairs (R50) -/

theorem ramOk_pairsCheck {b l} (hs : s.RamOk) : (s.pairsCheck b l).RamOk := by
  unfold pairsCheck
  dsimp only
  split
  · exact ramOk_mk hs
  · exact ramOk_then (ramOk_setF (ramOk_setF (ramOk_mk hs))) fun h => ramOk_raise h

/-! ### Wake -/

theorem ramOk_wakeUp {i} (hs : s.RamOk) : (s.wakeUp i).RamOk := by
  unfold wakeUp
  exact ramOk_ite (ramOk_raise (ramOk_mk (ramOk_setF (ramOk_setF hs)))) (ramOk_ite (ramOk_mk hs) hs)

theorem ramOk_wakeHeldPins (hs : s.RamOk) : s.wakeHeldPins.RamOk := by
  unfold wakeHeldPins
  exact ramOk_ite hs (ramOk_foldl (g := wakeUp) (fun _ _ h => ramOk_wakeUp h) _ hs)

/-! ### PLLs (R93) -/

theorem ramOk_modLane {n g} (hs : s.RamOk) : (s.modLane n g).RamOk := by
  unfold modLane
  exact ramOk_setLane hs

theorem ramOk_sigChange {e} (hs : s.RamOk) : (s.sigChange e).RamOk := by
  unfold sigChange
  exact ramOk_setEng hs

/-! ### Receive banks (R74, R75) -/

theorem ramOk_setRxWord {n bank i v} (hs : s.RamOk) : (s.setRxWord n bank i v).RamOk := by
  unfold setRxWord
  exact ramOk_then (ramOk_modLane hs) fun h => ramOk_setF h

theorem ramOk_coefAdvance {n} (hs : s.RamOk) : (s.coefAdvance n).RamOk := by
  unfold coefAdvance
  exact ramOk_ite (ramOk_setF hs) hs

theorem ramOk_coefWrite {n v} (hs : s.RamOk) : (s.coefWrite n v).RamOk := by
  unfold coefWrite
  exact ramOk_coefAdvance (ramOk_ite (ramOk_flag hs) (ramOk_setRxWord hs))

/-! ### Transmit store (R97, R98) -/

theorem ramOk_setTxWord {n bank i v} (hs : s.RamOk) : (s.setTxWord n bank i v).RamOk := by
  unfold setTxWord
  exact ramOk_modLane hs

theorem ramOk_txCoefAdvance {n} (hs : s.RamOk) : (s.txCoefAdvance n).RamOk := by
  unfold txCoefAdvance
  exact ramOk_ite (ramOk_setF hs) hs

theorem ramOk_txCoefWrite {n v} (hs : s.RamOk) : (s.txCoefWrite n v).RamOk := by
  unfold txCoefWrite
  exact ramOk_txCoefAdvance (ramOk_ite (ramOk_flag hs) (ramOk_setTxWord hs))

/-! ### The slot map (R62 to R68) -/

theorem ramOk_bgStart {n} (hs : s.RamOk) : (s.bgStart n).RamOk := by
  unfold bgStart
  exact ramOk_ite (ramOk_modLane (ramOk_setB (ramOk_choose hs))) hs

theorem ramOk_setTrims {n cal} (hs : s.RamOk) : (s.setTrims n cal).RamOk := by
  unfold setTrims
  exact ramOk_foldl (fun _ _ h => ramOk_modLane h) _ hs

theorem ramOk_buildSlots {n} (hs : s.RamOk) : (s.buildSlots n).RamOk := by
  unfold buildSlots
  exact ramOk_setB (ramOk_modLane hs)

/-! ### Transmit: squelch, sources and sets (R101, R111 to R117) -/

theorem ramOk_squelch {n} (hs : s.RamOk) : (s.squelch n).RamOk := by
  unfold squelch
  exact ramOk_ite hs (ramOk_then (ramOk_setB (ramOk_setF hs)) fun h => ramOk_raise h)

theorem ramOk_squelchAll (hs : s.RamOk) : s.squelchAll.RamOk := by
  unfold squelchAll
  exact ramOk_foldl (g := squelch) (fun _ _ h => ramOk_squelch h) _ hs

theorem ramOk_clrFallLane {n} (hs : s.RamOk) : (s.clrFallLane n).RamOk := by
  unfold clrFallLane
  exact ramOk_ite (ramOk_then (ramOk_flag hs) fun h => ramOk_modLane h) hs

theorem ramOk_holdover {n} (hs : s.RamOk) : (s.holdover n).RamOk := by
  unfold holdover
  exact ramOk_ite hs (ramOk_then (ramOk_setB hs) fun h => ramOk_raise h)

theorem ramOk_txFollow {n k} (hs : s.RamOk) : (s.txFollow n k).RamOk := by
  unfold txFollow
  exact ramOk_ite hs (ramOk_setReg (ramOk_modLane hs))

theorem ramOk_pdApply {n} (hs : s.RamOk) : (s.pdApply n).RamOk := by
  unfold pdApply
  exact ramOk_ite (ramOk_setB hs) (ramOk_else (ramOk_setF (ramOk_setF hs)) fun h => ramOk_raise h)

theorem ramOk_pdBand {n band} (hs : s.RamOk) : (s.pdBand n band).RamOk := by
  unfold pdBand
  exact ramOk_ite (ramOk_pdApply (ramOk_setF hs)) hs

/-! ### Blocks armed on an entry (R47 to R49) -/

theorem ramOk_blkReport {b last} (hs : s.RamOk) : (s.blkReport b last).RamOk := by
  unfold blkReport
  exact ramOk_raise (ramOk_setF (ramOk_setF (ramOk_setF hs)))

theorem ramOk_disarm {b} (hs : s.RamOk) : (s.disarm b).RamOk := by
  unfold disarm
  exact ramOk_ite (ramOk_blkReport hs) hs

theorem ramOk_reportArmed {k last} (hs : s.RamOk) : (s.reportArmed k last).RamOk := by
  unfold reportArmed
  exact ramOk_foldl (fun _ _ h => ramOk_blkReport h) _ hs

/-! ### Entries -/

theorem ramOk_setSe {k e} (hs : s.RamOk) : (s.setSe k e).RamOk := by
  unfold setSe
  exact ramOk_mk hs

theorem ramOk_histPush {r} (hs : s.RamOk) : (s.histPush r).RamOk := by
  unfold histPush
  exact ramOk_ite (ramOk_mk hs) (ramOk_flag (ramOk_setReg hs))

theorem ramOk_seRecord {k o} (hs : s.RamOk) : (s.seRecord k o).RamOk := by
  unfold seRecord
  exact ramOk_then (ramOk_then (ramOk_histPush (ramOk_setSe hs)) fun h1 => ramOk_logRecord _ h1) fun h2 => ramOk_raise h2

theorem ramOk_seOff {k} (hs : s.RamOk) : (s.seOff k).RamOk := by
  unfold seOff
  exact ramOk_setSe hs

theorem ramOk_seAdvance {k ended} (hs : s.RamOk) : (s.seAdvance k ended).RamOk := by
  unfold seAdvance
  exact ramOk_ite (ramOk_seOff hs) (ramOk_ite (ramOk_setSe hs) (ramOk_setSe hs))

theorem ramOk_seSkip {k ended} (hs : s.RamOk) : (s.seSkip k ended).RamOk := by
  unfold seSkip
  exact ramOk_seAdvance (ramOk_seRecord (ramOk_reportArmed hs))

theorem ramOk_sePassed {k ended} (hs : s.RamOk) : (s.sePassed k ended).RamOk := by
  unfold sePassed
  exact ramOk_ite (ramOk_seSkip hs) (ramOk_setSe hs)

theorem ramOk_seEval {k} (hs : s.RamOk) : (s.seEval k).RamOk := by
  unfold seEval
  exact ramOk_then (ramOk_setSe hs) fun h => ramOk_sePassed h

theorem ramOk_seEnable {k} (hs : s.RamOk) : (s.seEnable k).RamOk := by
  unfold seEnable
  exact ramOk_ite (ramOk_seOff (ramOk_raise (ramOk_seRecord hs))) (ramOk_ite (ramOk_setSe hs) (ramOk_seEval hs))

theorem ramOk_seDisarm {k} (hs : s.RamOk) : (s.seDisarm k).RamOk := by
  unfold seDisarm
  exact ramOk_ite hs (ramOk_seOff (ramOk_seRecord (ramOk_foldl (g := disarm) (fun _ _ h => ramOk_disarm h) _ hs)))

theorem ramOk_seWrite {k w v} (hs : s.RamOk) : (s.seWrite k w v).RamOk := by
  unfold seWrite
  exact ramOk_then (ramOk_setSe (ramOk_seDisarm hs)) fun h => ramOk_seEnable h

theorem ramOk_seSupply {k port hostBound gen cw} (hs : s.RamOk) : (s.seSupply k port hostBound gen cw).RamOk := by
  unfold seSupply
  exact ramOk_seEval (ramOk_setSe hs)

theorem ramOk_seTwinSkip {k} (hs : s.RamOk) : (s.seTwinSkip k).RamOk := by
  unfold seTwinSkip
  exact ramOk_ite (ramOk_seOff (ramOk_seRecord (ramOk_reportArmed hs))) hs

theorem ramOk_seAllPassed {ended p} (hs : s.RamOk) : (s.seAllPassed ended p).RamOk := by
  unfold seAllPassed
  exact ramOk_foldl (fun _ _ h => ramOk_sePassed h) _ hs

theorem ramOk_relEnded {p hostBound} (hs : s.RamOk) : (s.relEnded p hostBound).RamOk := by
  unfold relEnded
  exact ramOk_mk hs

theorem ramOk_genEnded {p hostBound} (hs : s.RamOk) : (s.genEnded p hostBound).RamOk := by
  unfold genEnded
  exact ramOk_seAllPassed (ramOk_relEnded hs)

theorem ramOk_tbJumped {n old} (hs : s.RamOk) : (s.tbJumped n old).RamOk := by
  unfold tbJumped
  exact ramOk_seAllPassed hs

theorem ramOk_tbStopped {n} (hs : s.RamOk) : (s.tbStopped n).RamOk := by
  unfold tbStopped
  exact ramOk_seAllPassed hs

theorem ramOk_schedResume (hs : s.RamOk) : s.schedResume.RamOk := by
  unfold schedResume
  exact ramOk_foldl (fun _ _ h => ramOk_sePassed (ramOk_setSe h)) _ hs

/-! ### Foghorn -/

theorem ramOk_fogCount {i} (hs : s.RamOk) : (s.fogCount i).RamOk := by
  unfold fogCount
  exact ramOk_then (ramOk_count32 hs) fun h => ramOk_raise (ramOk_setF h)

theorem ramOk_fogSearch (hs : s.RamOk) : s.fogSearch.RamOk := by
  unfold fogSearch
  exact ramOk_setF (ramOk_setF hs)

theorem ramOk_fogCtl {v} (hs : s.RamOk) : (s.fogCtl v).RamOk := by
  unfold fogCtl
  exact ramOk_ite (ramOk_then (ramOk_writeReg hs) fun h1 => ramOk_fogSearch h1) (ramOk_then (ramOk_writeReg hs) fun h2 =>
    ramOk_setF (ramOk_setF (ramOk_setF h2)))

/-! ### Transmission (R256 to R261) -/

theorem ramOk_fogRefused (hs : s.RamOk) : s.fogRefused.RamOk := by
  unfold fogRefused
  exact ramOk_flag hs

theorem ramOk_setFogBusy {b on} (hs : s.RamOk) : (s.setFogBusy b on).RamOk := by
  unfold setFogBusy
  exact ramOk_setF hs

theorem ramOk_fogQueue {v} (hs : s.RamOk) : (s.fogQueue v).RamOk := by
  unfold fogQueue
  exact ramOk_ite hs (ramOk_ite (ramOk_fogRefused hs) (ramOk_setFogBusy (ramOk_mk hs)))

theorem ramOk_fogTwin {m} (hs : s.RamOk) : (s.fogTwin m).RamOk := by
  unfold fogTwin
  exact ramOk_setFogBusy (ramOk_mk hs)

theorem ramOk_fogStart (hs : s.RamOk) : s.fogStart.RamOk := by
  unfold fogStart
  refine ramOk_ite hs ?_
  split
  · exact hs
  · refine ramOk_ite ?_ (ramOk_send (ramOk_setF (ramOk_mk hs)))
    split
    · exact ramOk_send (ramOk_setF (ramOk_mk hs))
    · exact ramOk_setF (ramOk_mk hs)

theorem ramOk_fogTxStart (hs : s.RamOk) : s.fogTxStart.RamOk := by
  unfold fogTxStart
  exact ramOk_ite hs (ramOk_fogStart hs)

theorem ramOk_fogSlot (hs : s.RamOk) : s.fogSlot.RamOk := by
  unfold fogSlot
  exact ramOk_ite (ramOk_fogStart hs) hs

theorem ramOk_fogEnd (hs : s.RamOk) : s.fogEnd.RamOk := by
  unfold fogEnd
  split
  · exact hs
  · exact ramOk_then (ramOk_setFogBusy (ramOk_setF (ramOk_mk hs))) fun h => ramOk_setF h

theorem ramOk_fogTxDone {ago} (hs : s.RamOk) : (s.fogTxDone ago).RamOk := by
  unfold fogTxDone
  split
  · exact hs
  · exact ramOk_raise (ramOk_setF (ramOk_perf (ramOk_fogCount (ramOk_fogEnd (ramOk_setReg (ramOk_setReg (ramOk_setReg
      (ramOk_setReg hs))))))))

/-! ### Reception (R262 to R266) -/

theorem ramOk_fogNew {metric power} (hs : s.RamOk) : (s.fogNew metric power).RamOk := by
  unfold fogNew
  exact ramOk_setF (ramOk_mk hs)

theorem ramOk_fogPreamble {metric power} (hs : s.RamOk) : (s.fogPreamble metric power).RamOk := by
  unfold fogPreamble
  exact ramOk_ite hs (ramOk_ite (ramOk_fogNew hs) (ramOk_ite (ramOk_fogNew (ramOk_raise (ramOk_fogCount hs))) (ramOk_ite
    (ramOk_fogCount hs) (ramOk_ite (ramOk_fogNew (ramOk_fogCount hs)) hs))))

theorem ramOk_fogPreEnd (hs : s.RamOk) : s.fogPreEnd.RamOk := by
  unfold fogPreEnd
  exact ramOk_ite (ramOk_setF hs) hs

theorem ramOk_fogMarker {found} (hs : s.RamOk) : (s.fogMarker found).RamOk := by
  unfold fogMarker
  exact ramOk_ite hs (ramOk_ite (ramOk_setF hs) (ramOk_fogSearch (ramOk_fogCount hs)))

theorem ramOk_fogHeader {info crc ago} (hs : s.RamOk) : (s.fogHeader info crc ago).RamOk := by
  unfold fogHeader
  exact ramOk_ite hs (ramOk_ite (ramOk_setF (ramOk_mk hs)) (ramOk_fogSearch (ramOk_raise (ramOk_fogCount hs))))

theorem ramOk_fogPayload {data crc snr power drift} (hs : s.RamOk) : (s.fogPayload data crc snr power drift).RamOk := by
  unfold fogPayload
  exact ramOk_ite hs (ramOk_ite (ramOk_fogSearch (ramOk_raise (ramOk_fogCount (ramOk_setF (ramOk_setF (ramOk_setF hs))))))
    (ramOk_else (ramOk_then (ramOk_fogSearch (ramOk_perf (ramOk_fogCount (ramOk_setF (ramOk_setF (ramOk_setF hs)))))) fun h1 =>
    ramOk_wakeUp h1) fun h2 => ramOk_ite (ramOk_raise (ramOk_setF (ramOk_mk h2))) (ramOk_flag (ramOk_fogCount h2))))

theorem ramOk_fogTrackLost (hs : s.RamOk) : s.fogTrackLost.RamOk := by
  unfold fogTrackLost
  exact ramOk_ite (ramOk_fogSearch (ramOk_raise (ramOk_fogCount hs))) hs

theorem ramOk_fogPop (hs : s.RamOk) : s.fogPop.RamOk := by
  unfold fogPop
  exact ramOk_setF (ramOk_mk hs)

theorem ramOk_fogDuty {listen} (hs : s.RamOk) : (s.fogDuty listen).RamOk := by
  unfold fogDuty
  exact ramOk_ite (ramOk_ite (ramOk_fogSearch (ramOk_setF hs)) (ramOk_setF (ramOk_setF hs))) hs

theorem ramOk_idxAdvance {b word auto} (hs : s.RamOk) : (s.idxAdvance b word auto).RamOk := by
  unfold idxAdvance
  exact ramOk_ite (ramOk_setF hs) hs

theorem ramOk_fogTxbWrite {v} (hs : s.RamOk) : (s.fogTxbWrite v).RamOk := by
  unfold fogTxbWrite
  exact ramOk_idxAdvance (ramOk_ite hs (ramOk_mk hs))

theorem ramOk_fogHdacTx {v} (hs : s.RamOk) : (s.fogHdacTx v).RamOk := by
  unfold fogHdacTx
  exact ramOk_then (ramOk_writeReg hs) fun h => ramOk_fogRefused (ramOk_setF h)

theorem ramOk_fogAbort (hs : s.RamOk) : s.fogAbort.RamOk := by
  unfold fogAbort
  refine ramOk_then ?_ fun h => ramOk_fogSearch (ramOk_fogCount h)
  split
  · exact ramOk_setF (ramOk_fogEnd hs)
  · exact hs

/-! ### The alignment states (R206): 0 DOWN, 1 HUNT, 2 DESKEW, 3 ALIGNED, 4 FREEWHEEL -/

theorem ramOk_portLeave {p hb st lost} (hs : s.RamOk) : (s.portLeave p hb st lost).RamOk := by
  unfold portLeave
  exact ramOk_then (ramOk_then (ramOk_setF (ramOk_setF hs)) fun h1 => ramOk_raise h1) fun h2 => ramOk_genEnded h2

theorem ramOk_portEval {p hb} (hs : s.RamOk) : (s.portEval p hb).RamOk := by
  unfold portEval
  exact ramOk_ite (ramOk_ite (ramOk_setF hs) hs) (ramOk_ite hs (ramOk_portLeave hs))

theorem ramOk_portCheck {p old} (hs : s.RamOk) : (s.portCheck p old).RamOk := by
  unfold portCheck
  exact ramOk_pairsCheck hs

theorem ramOk_portEval2 {p} (hs : s.RamOk) : (s.portEval2 p).RamOk := by
  unfold portEval2
  exact ramOk_portEval (ramOk_portEval (ramOk_portCheck hs))

theorem ramOk_portsEval (hs : s.RamOk) : s.portsEval.RamOk := by
  unfold portsEval
  exact ramOk_foldl (fun _ _ h => ramOk_ite (ramOk_portEval2 h) h) _ hs

theorem ramOk_portPeriod {p} (hs : s.RamOk) : (s.portPeriod p).RamOk := by
  unfold portPeriod
  exact ramOk_setF hs

theorem ramOk_portRebuild {p} (hs : s.RamOk) : (s.portRebuild p).RamOk := by
  unfold portRebuild
  exact ramOk_portEval2 (ramOk_else (ramOk_else (ramOk_portPeriod hs) fun h1 => ramOk_portLeave h1) fun h2 => ramOk_portLeave
    h2)

theorem ramOk_markerLock {p hb skew} (hs : s.RamOk) : (s.markerLock p hb skew).RamOk := by
  unfold markerLock
  exact ramOk_ite (ramOk_setF (ramOk_setF hs)) hs

theorem ramOk_setPos {p hb cw} (hs : s.RamOk) : (s.setPos p hb cw).RamOk := by
  unfold setPos
  exact ramOk_setReg (ramOk_setReg (ramOk_setReg hs))

theorem ramOk_deskewDone {p hb} (hs : s.RamOk) : (s.deskewDone p hb).RamOk := by
  unfold deskewDone
  exact ramOk_ite hs (ramOk_ite (ramOk_raise (ramOk_setPos (ramOk_setF (ramOk_setF (ramOk_setF hs))))) (ramOk_flag (ramOk_setF
    hs)))

theorem ramOk_markerLoss {p hb} (hs : s.RamOk) : (s.markerLoss p hb).RamOk := by
  unfold markerLoss
  exact ramOk_ite (ramOk_portLeave hs) hs

theorem ramOk_forceDir {p hb} (hs : s.RamOk) : (s.forceDir p hb).RamOk := by
  unfold forceDir
  exact ramOk_portEval (ramOk_portLeave hs)

theorem ramOk_alignCtl {p v} (hs : s.RamOk) : (s.alignCtl p v).RamOk := by
  unfold alignCtl
  exact ramOk_then (ramOk_ite (ramOk_forceDir hs) hs) fun h => ramOk_forceDir h

theorem ramOk_portsFreewheel (hs : s.RamOk) : s.portsFreewheel.RamOk := by
  unfold portsFreewheel
  exact ramOk_foldl (fun _ _ h1 => ramOk_foldl (fun _ _ h2 => ramOk_ite (ramOk_setF h2) h2) _ h1) _ hs

theorem ramOk_freewheelEnd {p hb} (hs : s.RamOk) : (s.freewheelEnd p hb).RamOk := by
  unfold freewheelEnd
  exact ramOk_ite (ramOk_setF hs) hs

/-! ### Counters and monitors (R139, R143, R214 to R216) -/

theorem ramOk_portAdd {p hb lo hi wrap n} (hs : s.RamOk) : (s.portAdd p hb lo hi wrap n).RamOk := by
  unfold portAdd
  refine ramOk_ite hs ?_
  split
  · exact ramOk_countFlag48 hs
  · exact ramOk_countFlag32 hs

theorem ramOk_lineCorr {p n} (hs : s.RamOk) : (s.lineCorr p n).RamOk := by
  unfold lineCorr
  exact ramOk_portAdd hs

theorem ramOk_lineEras {p n} (hs : s.RamOk) : (s.lineEras p n).RamOk := by
  unfold lineEras
  exact ramOk_portAdd hs

theorem ramOk_lineFail {p n} (hs : s.RamOk) : (s.lineFail p n).RamOk := by
  unfold lineFail
  exact ramOk_portAdd hs

theorem ramOk_chargeEras {n fresh} (hs : s.RamOk) : (s.chargeEras n fresh).RamOk := by
  unfold chargeEras
  exact ramOk_ite hs (ramOk_foldl (fun _ _ h => ramOk_lineEras (ramOk_mk h)) _ hs)

theorem ramOk_setMon {p hb m} (hs : s.RamOk) : (s.setMon p hb m).RamOk := by
  unfold setMon
  exact ramOk_mk hs

theorem ramOk_rsMonitored {p hb flow o} (hs : s.RamOk) : (s.rsMonitored p hb flow o).RamOk := by
  unfold rsMonitored
  refine ramOk_ite hs (ramOk_else ?_ fun h1 => ramOk_then (ramOk_setMon h1) fun h2 => ramOk_setPos h2)
  split
  · refine ramOk_perf ?_
    split
    · exact ramOk_portAdd hs
    · exact ramOk_portAdd (ramOk_portAdd (ramOk_portAdd (ramOk_portAdd hs)))
    · exact ramOk_portAdd (ramOk_portAdd hs)
  · split
    · exact ramOk_portAdd hs
    · exact ramOk_portAdd (ramOk_portAdd (ramOk_portAdd (ramOk_portAdd hs)))
    · exact ramOk_portAdd (ramOk_portAdd hs)
  · refine ramOk_perf ?_
    split
    · exact ramOk_portAdd hs
    · exact ramOk_portAdd (ramOk_portAdd (ramOk_portAdd (ramOk_portAdd hs)))
    · exact ramOk_portAdd (ramOk_portAdd hs)
  · refine ramOk_perf ?_
    split
    · exact ramOk_portAdd hs
    · exact ramOk_portAdd (ramOk_portAdd (ramOk_portAdd (ramOk_portAdd hs)))
    · exact ramOk_portAdd (ramOk_portAdd hs)

theorem ramOk_monFlag {p fl on int} (hs : s.RamOk) : (s.monFlag p fl on int).RamOk := by
  unfold monFlag
  exact ramOk_then (ramOk_setB hs) fun h => ramOk_raise h

theorem ramOk_monWindowEnd {p hb} (hs : s.RamOk) : (s.monWindowEnd p hb).RamOk := by
  unfold monWindowEnd
  exact ramOk_monFlag (ramOk_monFlag (ramOk_setMon hs))

theorem ramOk_slip {p} (hs : s.RamOk) : (s.slip p).RamOk := by
  unfold slip
  exact ramOk_ite (ramOk_flag (ramOk_portAdd hs)) hs

theorem ramOk_muxLock {n} (hs : s.RamOk) : (s.muxLock n).RamOk := by
  unfold muxLock
  split
  · exact hs
  · exact ramOk_ite (ramOk_portsEval (ramOk_setF hs)) hs

theorem ramOk_muxUnlock {n} (hs : s.RamOk) : (s.muxUnlock n).RamOk := by
  unfold muxUnlock
  split
  · exact hs
  · exact ramOk_ite (ramOk_portsEval (ramOk_raise (ramOk_setF hs))) (ramOk_portsEval hs)

/-! ### Residue events (R83 to R87) -/

theorem ramOk_residueEvent {n kind first len group} (hs : s.RamOk) : (s.residueEvent n kind first len group).RamOk := by
  unfold residueEvent
  exact ramOk_then (ramOk_raise (ramOk_laneEvent (ramOk_chargeEras (ramOk_perf (ramOk_perf (ramOk_modLane (ramOk_countFlag48
    (ramOk_countFlag32 (ramOk_countFlag32 hs))))))))) fun h => ramOk_logRecord _ (ramOk_modLane h)

theorem ramOk_ffeEvent {n g} (hs : s.RamOk) : (s.ffeEvent n g).RamOk := by
  unfold ffeEvent
  exact ramOk_residueEvent hs

theorem ramOk_mlseEvent {n g} (hs : s.RamOk) : (s.mlseEvent n g).RamOk := by
  unfold mlseEvent
  exact ramOk_residueEvent hs

theorem ramOk_injRun {n} (hs : s.RamOk) : (s.injRun n).RamOk := by
  unfold injRun
  exact ramOk_then (ramOk_ite (ramOk_ffeEvent (ramOk_modLane hs)) hs) fun h => ramOk_mlseEvent (ramOk_modLane h)

theorem ramOk_resCtl {n v} (hs : s.RamOk) : (s.resCtl n v).RamOk := by
  unfold resCtl
  exact ramOk_injRun (ramOk_modLane (ramOk_writeReg hs))

/-! ### Counter groups (R85, R104, R142, R180, R216, R266) -/

theorem ramOk_counterZero {g} (hs : s.RamOk) : (s.counterZero g).RamOk := by
  unfold counterZero
  exact ramOk_foldl (fun _ _ h => ramOk_setReg h) _ hs

theorem ramOk_counterLatch {g} (hs : s.RamOk) : (s.counterLatch g).RamOk := by
  unfold counterLatch
  exact ramOk_mk hs

theorem ramOk_counterUnlatch {g} (hs : s.RamOk) : (s.counterUnlatch g).RamOk := by
  unfold counterUnlatch
  exact ramOk_mk hs

theorem ramOk_counterCtlWrite {g v} (hs : s.RamOk) : (s.counterCtlWrite g v).RamOk := by
  unfold counterCtlWrite
  refine ramOk_ite (ramOk_counterZero ?_) ?_
  · split
    · exact ramOk_writeReg hs
    · exact ramOk_ite (ramOk_counterLatch (ramOk_setF (ramOk_writeReg hs))) (ramOk_then (ramOk_setF (ramOk_writeReg hs))
        fun h1 => ramOk_counterUnlatch h1)
  · split
    · exact ramOk_writeReg hs
    · exact ramOk_ite (ramOk_counterLatch (ramOk_setF (ramOk_writeReg hs))) (ramOk_then (ramOk_setF (ramOk_writeReg hs))
        fun h2 => ramOk_counterUnlatch h2)

/-! ### The inner code (R125, R127, R140, R143) -/

theorem ramOk_innerIdle {n} (hs : s.RamOk) : (s.innerIdle n).RamOk := by
  unfold innerIdle
  exact ramOk_ite hs (ramOk_muxUnlock (ramOk_setF (ramOk_modLane hs)))

theorem ramOk_innerHunt {n off} (hs : s.RamOk) : (s.innerHunt n off).RamOk := by
  unfold innerHunt
  exact ramOk_portsEval (ramOk_setF (ramOk_modLane hs))

theorem ramOk_lpcDrop {n} (hs : s.RamOk) : (s.lpcDrop n).RamOk := by
  unfold lpcDrop
  exact ramOk_then (ramOk_setF (ramOk_modLane hs)) fun h => ramOk_muxUnlock h

theorem ramOk_codecRefresh {n} (hs : s.RamOk) : (s.codecRefresh n).RamOk := by
  unfold codecRefresh
  exact ramOk_else (ramOk_ite (ramOk_then (ramOk_setB (ramOk_setB hs)) fun h => ramOk_innerHunt h) (ramOk_innerIdle (ramOk_setB
    (ramOk_setB hs)))) fun h => ramOk_lpcDrop h

theorem ramOk_innerWindowEnd {n zsyn} (hs : s.RamOk) : (s.innerWindowEnd n zsyn).RamOk := by
  unfold innerWindowEnd
  dsimp only
  split
  · exact hs
  · exact ramOk_ite (ramOk_portsEval (ramOk_setF (ramOk_modLane (ramOk_setF hs)))) (ramOk_modLane (ramOk_setF hs))
  · exact ramOk_ite (ramOk_modLane (ramOk_setF hs)) (ramOk_ite (ramOk_modLane (ramOk_setF hs)) (ramOk_flag (ramOk_innerHunt
      (ramOk_setF hs))))

theorem ramOk_innerCtl {n v} (hs : s.RamOk) : (s.innerCtl n v).RamOk := by
  unfold innerCtl
  exact ramOk_then (ramOk_writeReg hs) fun h => ramOk_innerHunt h

theorem ramOk_chargeInner {n phase ps} (hs : s.RamOk) : (s.chargeInner n phase ps).RamOk := by
  unfold chargeInner
  refine ramOk_foldl (fun _ _ h => ?_) _ hs
  split
  · exact ramOk_lineCorr h
  · exact h

theorem ramOk_innerFailed {n} (hs : s.RamOk) : (s.innerFailed n).RamOk := by
  unfold innerFailed
  exact ramOk_then (ramOk_raise (ramOk_laneEvent (ramOk_foldl (fun _ _ h => ramOk_lineFail h) _ (ramOk_perf (ramOk_countFlag32
    hs))))) fun h => ramOk_logRecord _ (ramOk_modLane h)

theorem ramOk_innerCodeword {n o phase} (hs : s.RamOk) : (s.innerCodeword n o phase).RamOk := by
  unfold innerCodeword
  refine ramOk_ite hs ?_
  dsimp only
  split
  · exact ramOk_countFlag48 hs
  · exact ramOk_chargeInner (ramOk_countFlag48 (ramOk_countFlag48 (ramOk_countFlag48 hs)))
  · exact ramOk_innerFailed (ramOk_countFlag48 hs)

/-! ### The LPC (R132 to R135, R141) -/

theorem ramOk_lpcLocked {n} (hs : s.RamOk) : (s.lpcLocked n).RamOk := by
  unfold lpcLocked
  exact ramOk_muxLock (ramOk_setF (ramOk_modLane hs))

theorem ramOk_lpcPeriod {n score} (hs : s.RamOk) : (s.lpcPeriod n score).RamOk := by
  unfold lpcPeriod
  refine ramOk_ite hs ?_
  dsimp only
  split
  · exact ramOk_then (ramOk_setF hs) fun h => ramOk_modLane h
  · exact ramOk_ite (ramOk_modLane (ramOk_setF hs)) (ramOk_ite (ramOk_lpcLocked (ramOk_setF hs)) (ramOk_modLane (ramOk_setF
      hs)))
  · exact ramOk_ite (ramOk_modLane (ramOk_setF hs)) (ramOk_ite (ramOk_modLane (ramOk_setF hs)) (ramOk_raise (ramOk_setF
      (ramOk_lpcDrop (ramOk_setF hs)))))

theorem ramOk_lpcWrap {n fl r} (hs3 : r.1.RamOk) : (s.lpcWrap n fl r).RamOk := by
  unfold lpcWrap
  exact ramOk_then hs3 fun h => ramOk_raise (ramOk_setF (ramOk_setF h))

theorem ramOk_lpcMark {n row slot locked} (hs : s.RamOk) : (s.lpcMark n row slot locked).RamOk := by
  unfold lpcMark
  refine ramOk_else (ramOk_raise (ramOk_setF hs)) fun h1 => ramOk_then (ramOk_laneEvent ?_) fun h2 => ramOk_logRecord _
    (ramOk_modLane h2)
  split
  · exact ramOk_lineFail (ramOk_perf (ramOk_lpcWrap (ramOk_count32 h1)))
  · exact ramOk_perf (ramOk_lpcWrap (ramOk_count32 h1))

/-- The row's step is proved over the state after its count, so that the kernel need not evaluate the count. -/
theorem ramOk_lpcBlockEnd {n rows} (hs : s.RamOk) : (s.lpcBlockEnd n rows).RamOk := by
  unfold lpcBlockEnd
  refine ramOk_ite hs (ramOk_ite (ramOk_lpcMark hs) (ramOk_foldl (fun s r hs => ?_) _ ?_))
  · have hw := ramOk_lpcWrap (s := s) (n := n) (fl := FEC.CNT_CTL_CORR_WRAP n)
      (ramOk_count48 (b := Blk.fec) (lo := FEC.CORR_LO n) (hi := FEC.CORR_HI n) (n := r.bits) hs)
    generalize s.lpcWrap n (FEC.CNT_CTL_CORR_WRAP n) (s.count48 Blk.fec (FEC.CORR_LO n) (FEC.CORR_HI n) r.bits) = w at hw ⊢
    have hcorr : RamOk (match w.laneSlotOwner n r.slot with | some p => w.lineCorr p r.bits | none => w) := by
      split
      · exact ramOk_lineCorr hw
      · exact hw
    exact ramOk_then hcorr fun h => ramOk_lpcMark h
  · exact ramOk_then (ramOk_lpcWrap (ramOk_count48 hs)) fun h => ramOk_lpcWrap (ramOk_count32 h)

theorem ramOk_iterChg {n} (hs : s.RamOk) : (s.iterChg n).RamOk := by
  unfold iterChg
  exact ramOk_ite (ramOk_raise (ramOk_setF hs)) hs

theorem ramOk_fecLaneCtl {n v} (hs : s.RamOk) : (s.fecLaneCtl n v).RamOk := by
  unfold fecLaneCtl
  exact ramOk_ite (ramOk_flag hs) (ramOk_portsEval (ramOk_codecRefresh (ramOk_writeReg hs)))

/-! ### Starting and stopping a lane -/

theorem ramOk_hostHoldover {m} (hs : s.RamOk) : (s.hostHoldover m).RamOk := by
  unfold hostHoldover
  exact ramOk_setB hs

theorem ramOk_holdoverAll (hs : s.RamOk) : s.holdoverAll.RamOk := by
  unfold holdoverAll
  exact ramOk_foldl (g := hostHoldover) (fun _ _ h1 => ramOk_hostHoldover h1) _ (ramOk_foldl (g := holdover) (fun _ _ h2 =>
    ramOk_holdover h2) _ hs)

theorem ramOk_eyeAbort {n} (hs : s.RamOk) : (s.eyeAbort n).RamOk := by
  unfold eyeAbort
  exact ramOk_ite (ramOk_raise (ramOk_modLane (ramOk_setF (ramOk_setF (ramOk_setF hs))))) hs

theorem ramOk_rxStop {n} (hs : s.RamOk) : (s.rxStop n).RamOk := by
  unfold rxStop
  exact ramOk_holdoverAll (ramOk_codecRefresh (ramOk_then (ramOk_modLane (ramOk_eyeAbort (ramOk_setF (ramOk_setF (ramOk_setF
    (ramOk_setF hs)))))) fun h => ramOk_sigChange h))

/-! ### Control writes (R62, R92, R117, R118) -/

theorem ramOk_rxCtl {n v} (hs : s.RamOk) : (s.rxCtl n v).RamOk := by
  unfold rxCtl
  extract_lets b was badRate badEn v1 v2 s1 s2 now s3
  have h2 : s2.RamOk := ramOk_then (ramOk_writeReg hs) fun h => ramOk_flag h
  have h3 : s3.RamOk := ramOk_ite (ramOk_codecRefresh (ramOk_setF h2)) (ramOk_then h2 fun h => ramOk_rxStop h)
  exact ramOk_portsEval h3

theorem ramOk_txCtl {n v} (hs : s.RamOk) : (s.txCtl n v).RamOk := by
  unfold txCtl
  exact ramOk_squelch (ramOk_holdover (ramOk_then (ramOk_ite (ramOk_setF (ramOk_then (ramOk_writeReg hs) fun h1 => ramOk_flag
    h1)) (ramOk_then (ramOk_then (ramOk_writeReg hs) fun h2 => ramOk_flag h2) fun h3 => ramOk_modLane (ramOk_setF h3)))
    fun h4 => ramOk_clrFallLane h4))

theorem ramOk_txStat {n v} (hs : s.RamOk) : (s.txStat n v).RamOk := by
  unfold txStat
  exact ramOk_squelch (ramOk_then (ramOk_writeReg hs) fun h => ramOk_modLane h)

theorem ramOk_txMirror {n v} (hs : s.RamOk) : (s.txMirror n v).RamOk := by
  unfold txMirror
  exact ramOk_ite (ramOk_flag hs) (ramOk_squelch (ramOk_writeReg hs))

theorem ramOk_dacStart {n} (hs : s.RamOk) : (s.dacStart n).RamOk := by
  unfold dacStart
  refine ramOk_ite ?_ hs
  split <;> exact ramOk_setF (ramOk_modLane hs)

theorem ramOk_rxEnOff {n} (hs : s.RamOk) : (s.rxEnOff n).RamOk := by
  unfold rxEnOff
  exact ramOk_ite (ramOk_rxStop (ramOk_setF hs)) hs

theorem ramOk_txEnOff {n} (hs : s.RamOk) : (s.txEnOff n).RamOk := by
  unfold txEnOff
  exact ramOk_ite (ramOk_squelch (ramOk_setF (ramOk_modLane (ramOk_setF (ramOk_setF hs))))) hs

/-! ### Receiver events (R61, R64 to R69, R72, R93) -/

theorem ramOk_fgCalDone {n cal spur resErr} (hs : s.RamOk) : (s.fgCalDone n cal spur resErr).RamOk := by
  unfold fgCalDone
  exact ramOk_ite hs (ramOk_setF (ramOk_setReg (ramOk_buildSlots (ramOk_setTrims hs))))

theorem ramOk_sigRise {n} (hs : s.RamOk) : (s.sigRise n).RamOk := by
  unfold sigRise
  exact ramOk_ite (ramOk_injRun (ramOk_bgStart (ramOk_sigChange (ramOk_setF hs)))) hs

theorem ramOk_cdrLost {n} (hs : s.RamOk) : (s.cdrLost n).RamOk := by
  unfold cdrLost
  exact ramOk_ite (ramOk_holdoverAll (ramOk_raise (ramOk_laneEvent (ramOk_sigChange (ramOk_setF hs))))) hs

theorem ramOk_sigFall {n} (hs : s.RamOk) : (s.sigFall n).RamOk := by
  unfold sigFall
  exact ramOk_ite (ramOk_eyeAbort (ramOk_modLane (ramOk_cdrLost (ramOk_raise (ramOk_laneEvent (ramOk_sigChange (ramOk_setF
    hs))))))) hs

theorem ramOk_cdrGain {n freq} (hs : s.RamOk) : (s.cdrGain n freq).RamOk := by
  unfold cdrGain
  exact ramOk_ite (ramOk_holdoverAll (ramOk_sigChange (ramOk_setReg (ramOk_setF hs)))) hs

theorem ramOk_oorSet {n} (hs : s.RamOk) : (s.oorSet n).RamOk := by
  unfold oorSet
  exact ramOk_ite (ramOk_then (ramOk_flag hs) fun h => ramOk_holdoverAll (ramOk_sigChange (ramOk_setF h))) hs

theorem ramOk_oorClear {n} (hs : s.RamOk) : (s.oorClear n).RamOk := by
  unfold oorClear
  exact ramOk_setF hs

theorem ramOk_bgEnd {n c spur resErr} (hs : s.RamOk) : (s.bgEnd n c spur resErr).RamOk := by
  unfold bgEnd
  dsimp only
  split
  · exact hs
  · refine ramOk_bgStart (ramOk_then (ramOk_modLane ?_) fun h => ramOk_raise (ramOk_setReg h))
    split <;> exact ramOk_modLane hs

theorem ramOk_adcCtl {n v} (hs : s.RamOk) : (s.adcCtl n v).RamOk := by
  unfold adcCtl
  exact ramOk_ite (ramOk_bgStart (ramOk_setF (ramOk_writeReg hs))) (ramOk_then (ramOk_writeReg hs) fun h => ramOk_modLane h)

/-! ### The eye monitor (R88 to R90) -/

theorem ramOk_eyeCtl {n v} (hs : s.RamOk) : (s.eyeCtl n v).RamOk := by
  unfold eyeCtl
  exact ramOk_else (ramOk_writeReg hs) fun h1 => ramOk_then (ramOk_setReg (ramOk_setReg (ramOk_setB (ramOk_setF (ramOk_setF
    (ramOk_modLane h1)))))) fun h2 => ramOk_modLane h2

theorem ramOk_eyeDone {n hits results} (hs : s.RamOk) : (s.eyeDone n hits results).RamOk := by
  unfold eyeDone
  exact ramOk_ite hs (ramOk_raise (ramOk_modLane (ramOk_setF (ramOk_setF (ramOk_then (ramOk_ite (ramOk_setReg (ramOk_setReg hs))
    hs) fun h1 => ramOk_foldl (fun _ _ h2 => ramOk_setReg h2) _ h1)))))

/-! ### Transmitter calibration (R106 to R109) -/

theorem ramOk_buildPositions {n} (hs : s.RamOk) : (s.buildPositions n).RamOk := by
  unfold buildPositions
  exact ramOk_setB (ramOk_modLane hs)

theorem ramOk_dacQual {n res mx lap} (hs : s.RamOk) : (s.dacQual n res mx lap).RamOk := by
  unfold dacQual
  exact ramOk_setReg hs

theorem ramOk_dacCalDone {n cal res mx} (hs : s.RamOk) : (s.dacCalDone n cal res mx).RamOk := by
  unfold dacCalDone
  exact ramOk_ite hs (ramOk_dacStart (ramOk_squelch (ramOk_dacQual (ramOk_setF (ramOk_buildPositions (ramOk_foldl (fun _ _ h =>
    ramOk_modLane h) _ hs))))))

theorem ramOk_dacBgEnd {n c res mx} (hs : s.RamOk) : (s.dacBgEnd n c res mx).RamOk := by
  unfold dacBgEnd
  dsimp only
  split
  · exact ramOk_dacStart hs
  · exact ramOk_dacStart (ramOk_then (ramOk_modLane hs) fun h => ramOk_raise (ramOk_dacQual h))

theorem ramOk_txDacCtl {n v} (hs : s.RamOk) : (s.txDacCtl n v).RamOk := by
  unfold txDacCtl
  exact ramOk_ite (ramOk_dacStart (ramOk_setF (ramOk_writeReg hs))) (ramOk_then (ramOk_writeReg hs) fun h => ramOk_modLane h)

theorem ramOk_txPdWrite {n off v} (hs : s.RamOk) : (s.txPdWrite n off v).RamOk := by
  unfold txPdWrite
  exact ramOk_pdApply (ramOk_writeReg hs)

theorem ramOk_txTsrc {n v} (hs : s.RamOk) : (s.txTsrc n v).RamOk := by
  unfold txTsrc
  exact ramOk_holdover (ramOk_writeReg hs)

end State
end Sys2Proof.Machine
end

section
/-! Memory keeps its canonical form (O60): host lanes, the lane engines and their programs, and the PLLs. -/

namespace Sys2Proof.Machine
namespace State

variable {s : State}

/-! ### PMBus -/

theorem ramOk_modPwr {g} (hs : s.RamOk) : (s.modPwr g).RamOk := by
  unfold modPwr
  exact ramOk_mk hs

theorem ramOk_modPmb {g} (hs : s.RamOk) : (s.modPmb g).RamOk := by
  unfold modPmb
  exact ramOk_modPwr hs

theorem ramOk_pmbSend (hs : s.RamOk) : s.pmbSend.RamOk := by
  unfold pmbSend
  exact ramOk_ite (ramOk_send hs) (ramOk_send (ramOk_ite (ramOk_send hs) hs))

theorem ramOk_voltBegin {mv kind off} (hs : s.RamOk) : (s.voltBegin mv kind off).2.RamOk := by
  unfold voltBegin
  exact ramOk_ite_snd (ramOk_modPmb (ramOk_ite hs (ramOk_setF hs))) (ramOk_ite_snd (ramOk_modPmb hs) (ramOk_pmbSend
    (ramOk_modPmb (ramOk_setF (ramOk_setF (ramOk_ite hs (ramOk_setF hs)))))))

theorem ramOk_avsUpdate (hs : s.RamOk) : s.avsUpdate.RamOk := by
  unfold avsUpdate
  exact ramOk_ite hs (ramOk_voltBegin hs)

/-! ### Lanes, PLLs and banks -/

theorem ramOk_hostSigChange {m} (hs : s.RamOk) : (s.hostSigChange m).RamOk := by
  unfold hostSigChange
  exact ramOk_sigChange hs

theorem ramOk_setHostWord {m bank i v} (hs : s.RamOk) : (s.setHostWord m bank i v).RamOk := by
  unfold setHostWord
  exact ramOk_modHlane hs

theorem ramOk_hcoefAdvance {m} (hs : s.RamOk) : (s.hcoefAdvance m).RamOk := by
  unfold hcoefAdvance
  exact ramOk_ite (ramOk_setF hs) hs

theorem ramOk_hostRefused {m} (hs : s.RamOk) : (s.hostRefused m).RamOk := by
  unfold hostRefused
  exact ramOk_flag hs

theorem ramOk_hcoefWrite {m v} (hs : s.RamOk) : (s.hcoefWrite m v).RamOk := by
  unfold hcoefWrite
  exact ramOk_hcoefAdvance (ramOk_ite (ramOk_hostRefused hs) (ramOk_setHostWord hs))

/-! ### State, pages and candidates (R184 to R188) -/

theorem ramOk_setHostState {m st} (hs : s.RamOk) : (s.setHostState m st).RamOk := by
  unfold setHostState
  dsimp only
  exact ramOk_else (ramOk_setB (ramOk_setF hs)) fun h => ramOk_portsEval (ramOk_hostHoldover (ramOk_setF h))

theorem ramOk_seqUp {m} (hs : s.RamOk) : (s.seqUp m).RamOk := by
  unfold seqUp
  exact ramOk_setF hs

theorem ramOk_setSel {m sel} (hs : s.RamOk) : (s.setSel m sel).RamOk := by
  unfold setSel
  exact ramOk_ite hs (ramOk_seqUp (ramOk_setF hs))

theorem ramOk_hostToLock {m} (hs : s.RamOk) : (s.hostToLock m).RamOk := by
  unfold hostToLock
  exact ramOk_setHostState (ramOk_setSel (ramOk_setF (ramOk_setF (ramOk_modHlane (ramOk_ite hs (ramOk_setF (ramOk_setF hs)))))))

theorem ramOk_hostToUp {m} (hs : s.RamOk) : (s.hostToUp m).RamOk := by
  unfold hostToUp
  exact ramOk_raise (ramOk_setHostState (ramOk_ite (ramOk_modHlane hs) hs))

theorem ramOk_hostToTrain {m} (hs : s.RamOk) : (s.hostToTrain m).RamOk := by
  unfold hostToTrain
  exact ramOk_setHostState (ramOk_setF (ramOk_setF (ramOk_ite (ramOk_modHlane hs) hs)))

theorem ramOk_hostResolve {m} (hs : s.RamOk) : (s.hostResolve m).RamOk := by
  unfold hostResolve
  split
  · exact ramOk_setHostState (ramOk_setSel hs)
  · exact ramOk_raise (ramOk_setHostState (ramOk_setSel hs))

theorem ramOk_hostNegotiate {m} (hs : s.RamOk) : (s.hostNegotiate m).RamOk := by
  unfold hostNegotiate
  dsimp only
  split
  · exact ramOk_ite (ramOk_hostResolve hs) hs
  · split
    · exact ramOk_hostResolve hs
    · exact ramOk_then (ramOk_setSel hs) fun h => ramOk_setHostState (ramOk_modHlane h)
  · exact ramOk_ite (ramOk_hostResolve (ramOk_modHlane hs)) hs
  · exact hs

theorem ramOk_pageRx {m page} (hs : s.RamOk) : (s.pageRx m page).RamOk := by
  unfold pageRx
  exact ramOk_ite hs (ramOk_ite hs (ramOk_ite (ramOk_countSat hs) (ramOk_then (ramOk_then (ramOk_modHlane hs) fun h1 =>
    ramOk_then (ramOk_raise (ramOk_modHlane (ramOk_setF (ramOk_setReg h1)))) fun h2 => ramOk_setHostState h2) fun h3 =>
    ramOk_hostNegotiate h3)))

theorem ramOk_pageTx {m} (hs : s.RamOk) : (s.pageTx m).RamOk := by
  unfold pageTx
  exact ramOk_ite hs (ramOk_ite (ramOk_hostNegotiate (ramOk_send hs)) (ramOk_ite (ramOk_setHostState (ramOk_setF (ramOk_modHlane
    (ramOk_send hs)))) (ramOk_modHlane (ramOk_send hs))))

theorem ramOk_bypassEval {m} (hs : s.RamOk) : (s.bypassEval m).RamOk := by
  unfold bypassEval
  exact ramOk_ite (ramOk_ite (ramOk_hostToTrain hs) (ramOk_hostToUp hs)) hs

theorem ramOk_blockLock {m} (hs : s.RamOk) : (s.blockLock m).RamOk := by
  unfold blockLock
  exact ramOk_ite (ramOk_bypassEval (ramOk_then (ramOk_then (ramOk_setF hs) fun h1 => ramOk_setHostState (ramOk_modHlane h1))
    fun h2 => ramOk_portsEval (ramOk_modHlane h2))) hs

theorem ramOk_switchElapsed {m} (hs : s.RamOk) : (s.switchElapsed m).RamOk := by
  unfold switchElapsed
  exact ramOk_ite hs (ramOk_ite (ramOk_hostToTrain (ramOk_else (ramOk_setF (ramOk_setF hs)) fun h1 => ramOk_setF h1))
    (ramOk_hostToUp (ramOk_else (ramOk_setF (ramOk_setF hs)) fun h2 => ramOk_setF h2)))

/-! ### Training (R189, R190, R194) -/

theorem ramOk_setHostTaps {m t} (hs : s.RamOk) : (s.setHostTaps m t).RamOk := by
  unfold setHostTaps
  exact ramOk_setF (ramOk_setReg (ramOk_setReg hs))

theorem ramOk_trainEval {m} (hs : s.RamOk) : (s.trainEval m).RamOk := by
  unfold trainEval
  exact ramOk_ite (ramOk_hostToUp hs) hs

theorem ramOk_trainFrame {m tap op preset ready} (hs : s.RamOk) : (s.trainFrame m tap op preset ready).RamOk := by
  unfold trainFrame
  exact ramOk_ite hs (ramOk_trainEval (ramOk_setB (ramOk_ite hs (ramOk_ite (ramOk_send (ramOk_countSat (ramOk_setHostTaps hs)))
    (ramOk_send hs)))))

theorem ramOk_trainLimit {m} (hs : s.RamOk) : (s.trainLimit m).RamOk := by
  unfold trainLimit
  exact ramOk_ite hs (ramOk_hostToLock (ramOk_raise (ramOk_countSat (ramOk_ite hs (ramOk_setF hs)))))

theorem ramOk_negTimerLimit {m} (hs : s.RamOk) : (s.negTimerLimit m).RamOk := by
  unfold negTimerLimit
  exact ramOk_ite (ramOk_then (ramOk_hostToLock (ramOk_raise (ramOk_countSat hs))) fun h => ramOk_seqUp h) hs

theorem ramOk_linkDownTimeout {m} (hs : s.RamOk) : (s.linkDownTimeout m).RamOk := by
  unfold linkDownTimeout
  exact ramOk_ite (ramOk_hostToLock (ramOk_else (ramOk_raise hs) fun h => ramOk_setF h)) hs

theorem ramOk_hostRestart {m} (hs : s.RamOk) : (s.hostRestart m).RamOk := by
  unfold hostRestart
  exact ramOk_ite hs (ramOk_then (ramOk_hostToLock (ramOk_setF hs)) fun h => ramOk_seqUp h)

theorem ramOk_negCtl {m v} (hs : s.RamOk) : (s.negCtl m v).RamOk := by
  unfold negCtl
  exact ramOk_then (ramOk_then (ramOk_else (ramOk_writeReg hs) fun h1 => ramOk_seqUp h1) fun h2 => ramOk_setHostState h2)
    fun h3 => ramOk_hostRestart h3

/-! ### Enable, power, signal (R176, R188, R189, R191) -/

theorem ramOk_hostQuiet {m} (hs : s.RamOk) : (s.hostQuiet m).RamOk := by
  unfold hostQuiet
  exact ramOk_holdoverAll (ramOk_then (ramOk_setF (ramOk_setF (ramOk_setF (ramOk_setF hs)))) fun h => ramOk_hostSigChange h)

theorem ramOk_hostDisable {m} (hs : s.RamOk) : (s.hostDisable m).RamOk := by
  unfold hostDisable
  exact ramOk_setB (ramOk_hostQuiet (ramOk_setHostState (ramOk_modHlane (ramOk_setF (ramOk_setF (ramOk_setF (ramOk_setF
    (ramOk_setF (ramOk_setF hs)))))))))

theorem ramOk_hostEnable {m} (hs : s.RamOk) : (s.hostEnable m).RamOk := by
  unfold hostEnable
  exact ramOk_hostToLock (ramOk_seqUp (ramOk_setF (ramOk_setReg (ramOk_setF (ramOk_setF hs)))))

theorem ramOk_hlCtl {m v} (hs : s.RamOk) : (s.hlCtl m v).RamOk := by
  unfold hlCtl
  exact ramOk_ite (ramOk_hostEnable (ramOk_then (ramOk_writeReg hs) fun h1 => ramOk_hostRefused h1)) (ramOk_then (ramOk_then
    (ramOk_writeReg hs) fun h1 => ramOk_hostRefused h1) fun h2 => ramOk_hostDisable h2)

theorem ramOk_hostLanePwr {k v} (hs : s.RamOk) : (s.hostLanePwr k v).RamOk := by
  unfold hostLanePwr
  exact ramOk_foldl (fun _ _ h => ramOk_ite h (ramOk_setF (ramOk_ite (ramOk_hostDisable h) h))) _ (ramOk_writeReg hs)

theorem ramOk_hostSigRise {m} (hs : s.RamOk) : (s.hostSigRise m).RamOk := by
  unfold hostSigRise
  exact ramOk_ite (ramOk_hostSigChange (ramOk_setF hs)) hs

theorem ramOk_hostCdrLost {m} (hs : s.RamOk) : (s.hostCdrLost m).RamOk := by
  unfold hostCdrLost
  exact ramOk_ite (ramOk_holdoverAll (ramOk_else (ramOk_hostSigChange (ramOk_setF hs)) fun h => ramOk_raise h)) hs

theorem ramOk_hostSigFall {m} (hs : s.RamOk) : (s.hostSigFall m).RamOk := by
  unfold hostSigFall
  exact ramOk_ite (ramOk_hostCdrLost (ramOk_else (ramOk_hostSigChange (ramOk_setF hs)) fun h => ramOk_raise h)) hs

theorem ramOk_hostCdrGain {m freq} (hs : s.RamOk) : (s.hostCdrGain m freq).RamOk := by
  unfold hostCdrGain
  exact ramOk_ite (ramOk_bypassEval (ramOk_holdoverAll (ramOk_hostSigChange (ramOk_setReg (ramOk_setF hs))))) hs

theorem ramOk_hostOorSet {m} (hs : s.RamOk) : (s.hostOorSet m).RamOk := by
  unfold hostOorSet
  exact ramOk_ite (ramOk_then (ramOk_flag hs) fun h => ramOk_holdoverAll (ramOk_hostSigChange (ramOk_setF h))) hs

theorem ramOk_hostOorClear {m} (hs : s.RamOk) : (s.hostOorClear m).RamOk := by
  unfold hostOorClear
  exact ramOk_setF hs

theorem ramOk_rxIdleSet {m} (hs : s.RamOk) : (s.rxIdleSet m).RamOk := by
  unfold rxIdleSet
  exact ramOk_ite (ramOk_setF hs) hs

theorem ramOk_rxIdleClear {m} (hs : s.RamOk) : (s.rxIdleClear m).RamOk := by
  unfold rxIdleClear
  exact ramOk_setF hs

theorem ramOk_fastExit {m} (hs : s.RamOk) : (s.fastExit m).RamOk := by
  unfold fastExit
  exact ramOk_ite (ramOk_portsEval (ramOk_setHostState (ramOk_setF (ramOk_modHlane hs)))) hs

/-! ### Engines -/

theorem ramOk_modEng {e g} (hs : s.RamOk) : (s.modEng e g).RamOk := by
  unfold modEng
  exact ramOk_setEng hs

theorem ramOk_setEf {e fl v} (hs : s.RamOk) : (s.setEf e fl v).RamOk := by
  unfold setEf
  exact ramOk_setF hs

theorem ramOk_engIrq {e} (hs : s.RamOk) : (s.engIrq e).RamOk := by
  unfold engIrq
  exact ramOk_ite hs (ramOk_raise hs)

theorem ramOk_engEvt {e fl} (hs : s.RamOk) : (s.engEvt e fl).RamOk := by
  unfold engEvt
  exact ramOk_engIrq (ramOk_setEf hs)

theorem ramOk_setRun {e r} (hs : s.RamOk) : (s.setRun e r).RamOk := by
  unfold setRun
  exact ramOk_setEf (ramOk_setEf (ramOk_setEf (ramOk_modEng hs)))

theorem ramOk_engFault {e code detail} (hs : s.RamOk) : (s.engFault e code detail).RamOk := by
  unfold engFault
  exact ramOk_logRecord _ (ramOk_engEvt (ramOk_setRun (ramOk_setEf (ramOk_setEf (ramOk_setEf (ramOk_setEf hs))))))

/-! ### Banks (R164 to R167) -/

theorem ramOk_ucRefused {e} (hs : s.RamOk) : (s.ucRefused e).RamOk := by
  unfold ucRefused
  exact ramOk_engEvt hs

theorem ramOk_ucDataWrite {q e v} (hs : s.RamOk) : (s.ucDataWrite q e v).RamOk := by
  unfold ucDataWrite
  exact ramOk_ite (ramOk_ucRefused (ramOk_dbgDenied hs)) (ramOk_ite (ramOk_ucRefused hs) (ramOk_then (ramOk_setEf
    (ramOk_sramWrite _ _ hs)) fun h => ramOk_setEf h))

theorem ramOk_ucSeal {q e v} (hs : s.RamOk) : (s.ucSeal q e v).RamOk := by
  unfold ucSeal
  exact ramOk_ite (ramOk_ite (ramOk_ucRefused hs) (ramOk_setEf (ramOk_modEng hs))) (ramOk_ite (ramOk_ite (ramOk_ucRefused hs)
    (ramOk_setEf hs)) hs)

theorem ramOk_ucSealed {e} (hs : s.RamOk) : (s.ucSealed e).RamOk := by
  unfold ucSealed
  split
  · exact hs
  · exact ramOk_engEvt (ramOk_modEng (ramOk_setReg (ramOk_setEf (ramOk_setEf (ramOk_setEf (ramOk_sameSram hs))))))

theorem ramOk_bankChanged {e} (hs : s.RamOk) : (s.bankChanged e).RamOk := by
  unfold bankChanged
  exact ramOk_ite (ramOk_modEng hs) (ramOk_modEng hs)

theorem ramOk_ucSwap {e} (hs : s.RamOk) : (s.ucSwap e).RamOk := by
  unfold ucSwap
  split
  · exact hs
  · refine ramOk_engEvt (ramOk_then (ramOk_setEf ?_) fun h => ramOk_laneEvent h)
    split
    · exact ramOk_setRun (ramOk_modEng hs)
    · exact ramOk_modEng hs

theorem ramOk_engStart {e} (hs : s.RamOk) : (s.engStart e).RamOk := by
  unfold engStart
  exact ramOk_setRun (ramOk_setEf (ramOk_modEng hs))

/-! ### Mailbox (R168) -/

theorem ramOk_mbxCmd {e v} (hs : s.RamOk) : (s.mbxCmd e v).RamOk := by
  unfold mbxCmd
  exact ramOk_ite (ramOk_setEf hs) (ramOk_setEf (ramOk_writeReg hs))

theorem ramOk_mbxArg {e off v} (hs : s.RamOk) : (s.mbxArg e off v).RamOk := by
  unfold mbxArg
  exact ramOk_ite (ramOk_setEf hs) (ramOk_writeReg hs)

theorem ramOk_mbxDone {e err} (hs : s.RamOk) : (s.mbxDone e err).RamOk := by
  unfold mbxDone
  exact ramOk_ite hs (ramOk_engEvt (ramOk_setEf (ramOk_setEf (ramOk_setEf (ramOk_setEf (ramOk_setReg (ramOk_setReg hs)))))))

theorem ramOk_mbxNote {e note} (hs : s.RamOk) : (s.mbxNote e note).RamOk := by
  unfold mbxNote
  exact ramOk_engEvt (ramOk_setEf hs)

/-! ### Events (R169) -/

theorem ramOk_setScalar {e i v} (hs : s.RamOk) : (s.setScalar e i v).RamOk := by
  unfold setScalar
  exact ramOk_ite hs (ramOk_modEng hs)

theorem ramOk_engWake {e} (hs : s.RamOk) : (s.engWake e).RamOk := by
  unfold engWake
  split
  · exact ramOk_ite hs (ramOk_setRun (ramOk_setScalar hs))
  · exact hs

/-! ### Primitives of a lane (R157 to R163) -/

theorem ramOk_gaCtl {k v} (hs : s.RamOk) : RamOks (s.gaCtl k v) := by
  unfold gaCtl
  exact ramOk_ite_opt ramOks_none (ramOks_some (ramOk_setPrim hs))

theorem ramOk_gaAck {k v} (hs : s.RamOk) : (s.gaAck k v).RamOk := by
  unfold gaAck
  exact ramOk_setPrim hs

theorem ramOk_histCtl {k v} (hs : s.RamOk) : RamOks (s.histCtl k v) := by
  unfold histCtl
  exact ramOk_ite_opt ramOks_none (ramOks_some (ramOk_setPrim hs))

theorem ramOk_statWrite {k a v} (hs : s.RamOk) : RamOks (s.statWrite k a v) := by
  unfold statWrite
  exact ramOk_ite_opt (ramOk_gaCtl hs) (ramOk_ite_opt (ramOks_some (ramOk_gaAck hs)) (ramOk_ite_opt (ramOk_histCtl hs)
    (ramOk_ite_opt (ramOks_some (ramOk_setPrim hs)) ramOks_none)))

theorem ramOk_rxBankUse {n bank} (hs : s.RamOk) : (s.rxBankUse n bank).RamOk := by
  unfold rxBankUse
  exact ramOk_ite hs (ramOk_laneEvent (ramOk_setF hs))

theorem ramOk_pairMismatch {b id} (hs : s.RamOk) : (s.pairMismatch b id).RamOk := by
  unfold pairMismatch
  exact ramOk_else (ramOk_setF (ramOk_setF hs)) fun h => ramOk_raise h

theorem ramOk_putShadow {b fl v} (hs : s.RamOk) : (s.putShadow b fl v).RamOk := by
  unfold putShadow
  exact ramOk_mk hs

theorem ramOk_rxSwap {n} (hs : s.RamOk) : RamOks (s.rxSwap n) := by
  unfold rxSwap
  exact ramOk_ite_opt ramOks_none (ramOks_some (ramOk_rxBankUse (ramOk_then (ramOk_setF hs) fun h => ramOk_putShadow h)))

theorem ramOk_txSwap {n} (hs : s.RamOk) : (s.txSwap n).RamOk := by
  unfold txSwap
  exact ramOk_setF (ramOk_then (ramOk_setF hs) fun h => ramOk_putShadow h)

theorem ramOk_slotMap {n slot sub} (hs : s.RamOk) : RamOks (s.slotMap n slot sub) := by
  unfold slotMap
  exact ramOk_ite_opt ramOks_none (ramOks_some (ramOk_modLane hs))

theorem ramOk_phofsStep {n v} (hs : s.RamOk) : (s.phofsStep n v).RamOk := by
  unfold phofsStep
  exact ramOk_setF hs

theorem ramOk_lineWrite {n a v} (hs : s.RamOk) : RamOks (s.lineWrite n a v) := by
  unfold lineWrite
  exact ramOk_ite_opt (ramOk_ite_opt ramOks_none (ramOks_some (ramOk_setRxWord hs))) (ramOk_ite_opt (ramOk_ite_opt ramOks_none
    (ramOks_some (ramOk_setTxWord hs))) (ramOk_ite_opt (ramOk_ite_opt ramOks_none (ramOks_some (ramOk_setTxWord hs)))
    (ramOk_ite_opt (ramOk_rxSwap hs) (ramOk_ite_opt (ramOks_some (ramOk_txSwap hs)) (ramOk_ite_opt (ramOks_some (ramOk_setReg
    hs)) (ramOk_ite_opt (ramOks_some (ramOk_phofsStep hs)) (ramOk_ite_opt (ramOk_slotMap hs) (ramOk_ite_opt (ramOks_some
    (ramOk_eyeCtl hs)) (ramOk_ite_opt (ramOks_some (ramOk_writeReg hs)) (ramOk_statWrite hs))))))))))

theorem ramOk_trnReq {m v} (hs : s.RamOk) : RamOks (s.trnReq m v) := by
  unfold trnReq
  exact ramOk_ite_opt ramOks_none (ramOks_some (ramOk_send hs))

theorem ramOk_trnReady {m v} (hs : s.RamOk) : RamOks (s.trnReady m v) := by
  unfold trnReady
  exact ramOk_ite_opt ramOks_none (ramOks_some (ramOk_trainEval (ramOk_setB hs)))

theorem ramOk_hostSwap {m} (hs : s.RamOk) : (s.hostSwap m).RamOk := by
  unfold hostSwap
  exact ramOk_setF (ramOk_then (ramOk_setF hs) fun h => ramOk_putShadow h)

theorem ramOk_hostWrite {m a v} (hs : s.RamOk) : RamOks (s.hostWrite m a v) := by
  unfold hostWrite
  exact ramOk_ite_opt (ramOk_ite_opt ramOks_none (ramOks_some (ramOk_setHostWord hs))) (ramOk_ite_opt (ramOks_some
    (ramOk_hostSwap hs)) (ramOk_ite_opt (ramOks_some (ramOk_setReg hs)) (ramOk_ite_opt (ramOk_trnReq hs) (ramOk_ite_opt
    (ramOk_trnReady hs) (ramOk_statWrite hs)))))

theorem ramOk_primRead {e a} (hs : s.RamOk) : (s.primRead e a).2.RamOk := by
  unfold primRead
  exact ramOk_ite (ramOk_modEng hs) hs

theorem ramOk_pwrRsp {e v} (hs : s.RamOk) : (s.pwrRsp e v).RamOk := by
  unfold pwrRsp
  exact ramOk_modEng hs

theorem ramOk_primWrite {e a v} (hs : s.RamOk) : RamOks (s.primWrite e a v) := by
  unfold primWrite
  refine ramOk_ite_opt (ramOk_ite_opt (ramOk_lineWrite hs) (ramOk_hostWrite hs)) ?_
  split
  · exact ramOks_some (ramOk_modEng hs)
  · exact ramOks_some (ramOk_modEng hs)
  · exact ramOks_some (ramOk_mbxDone hs)
  · exact ramOks_some (ramOk_mbxNote hs)
  · exact ramOks_some (ramOk_setReg hs)
  · exact ramOks_some (ramOk_modEng hs)
  · exact ramOks_some (ramOk_pwrRsp hs)
  · exact ramOk_ite_opt ramOks_none (ramOks_some (ramOk_modEng hs))
  · exact ramOks_none

theorem ramOk_setP {e p} (hs : s.RamOk) : (s.setP e p).RamOk := by
  unfold setP
  exact ramOk_modEng hs

theorem ramOk_primStore {e a v} (hs : s.RamOk) : (s.primStore e a v).RamOk := by
  unfold primStore
  split
  · rename_i h
    exact ramOk_setP ((ramOk_primWrite hs _ h))
  · exact ramOk_setP (ramOk_ite (ramOk_pairMismatch hs) hs)

/-! ### Gradient and histogram windows (R158, R159, R163) -/

theorem ramOk_gaWindowEnd {k e runs sums} (hs : s.RamOk) : (s.gaWindowEnd k e runs sums).RamOk := by
  unfold gaWindowEnd
  exact ramOk_ite hs (ramOk_ite (ramOk_setPrim hs) (ramOk_then (ramOk_then (ramOk_setPrim hs) fun h1 => ramOk_perf h1) fun h2 =>
    ramOk_engEvt h2))

theorem ramOk_histEnd {k bins} (hs : s.RamOk) : (s.histEnd k bins).RamOk := by
  unfold histEnd
  exact ramOk_ite hs (ramOk_setPrim hs)

/-! ### Execution (R151 to R156) -/

theorem ramOk_setVreg {e i v} (hs : s.RamOk) : (s.setVreg e i v).RamOk := by
  unfold setVreg
  exact ramOk_modEng hs

theorem ramOk_setAcc {e n v} (hs : s.RamOk) : (s.setAcc e n v).RamOk := by
  unfold setAcc
  exact ramOk_modEng hs

theorem ramOk_setFlags {e x y} (hs : s.RamOk) : (s.setFlags e x y).RamOk := by
  unfold setFlags
  exact ramOk_modEng hs

theorem ramOk_dataWords (e : Nat) : ∀ (k a : Nat) {s : State}, s.RamOk → (s.dataWords e a k).1.RamOk
  | 0, _, _, hs => hs
  | k + 1, a, _, hs => by
    unfold dataWords
    exact ramOk_ite_fst (ramOk_sramRead _ _ hs) (ramOk_dataWords e k _ (ramOk_sramRead _ _ hs))

theorem ramOk_doLoad {e op d a i} (hs : s.RamOk) : (s.doLoad e op d a i).1.RamOk := by
  unfold doLoad
  dsimp only
  have h := ramOk_dataWords e 1 ((s.scalar e a + sext18 i).toNat / 4 * 4) hs
  split
  · exact hs
  · split
    · rename_i hw; rw [hw] at h; exact ramOk_modEng (ramOk_setScalar h)
    · rename_i hw; rw [hw] at h; exact h

theorem ramOk_doStore {e d a i k} (hs : s.RamOk) : (s.doStore e d a i k).1.RamOk := by
  unfold doStore
  dsimp only
  split
  · exact hs
  · exact ramOk_sramWrite _ _ hs

theorem ramOk_doPrd {e d a addr} (hs : s.RamOk) : (s.doPrd e d a addr).1.RamOk := by
  unfold doPrd
  exact ramOk_setP (ramOk_setScalar (ramOk_primRead hs))

theorem ramOk_doVldp {e d a addr} (hs : s.RamOk) : (s.doVldp e d a addr).1.RamOk := by
  unfold doVldp
  exact ramOk_setP (ramOk_setVreg (ramOk_ite (ramOk_modEng hs) hs))

theorem ramOk_doVstp {e d a addr} (hs : s.RamOk) : (s.doVstp e d a addr).1.RamOk := by
  unfold doVstp
  exact ramOk_setP (ramOk_foldl_fst (fun _ _ h => ramOk_primStore h) _ hs)

theorem ramOk_doVmac {e a b n sc} (hs : s.RamOk) : (s.doVmac e a b n sc).1.RamOk := by
  unfold doVmac
  exact ramOk_setAcc hs

theorem ramOk_doVrda {e d n clr sh} (hs : s.RamOk) : (s.doVrda e d n clr sh).1.RamOk := by
  unfold doVrda
  exact ramOk_then (ramOk_setVreg hs) fun h => ramOk_setAcc h

theorem ramOk_doVld {e d a i} (hs : s.RamOk) : (s.doVld e d a i).1.RamOk := by
  unfold doVld
  dsimp only
  have h := ramOk_dataWords e 8 (s.scalar e a + sext18 i).toNat hs
  split
  · exact hs
  · split
    · rename_i hw; rw [hw] at h; exact ramOk_modEng (ramOk_setVreg h)
    · rename_i hw; rw [hw] at h; exact h

theorem ramOk_doVst {e d a i} (hs : s.RamOk) : (s.doVst e d a i).1.RamOk := by
  unfold doVst
  dsimp only
  split
  · exact hs
  · exact ramOk_sramWrite _ _ hs

theorem ramOk_doLoop {e a last word} (hs : s.RamOk) : (s.doLoop e a last word).1.RamOk := by
  unfold doLoop
  exact ramOk_ite_fst hs (ramOk_ite_fst hs (ramOk_modEng hs))

theorem ramOk_engExec {e stepped u} (hs : s.RamOk) : (s.engExec e stepped u).1.RamOk := by
  unfold engExec
  dsimp only
  split
  · exact ramOk_setScalar hs
  · exact ramOk_setFlags hs
  · exact ramOk_setScalar hs
  · exact ramOk_setScalar hs
  · exact ramOk_setFlags hs
  · exact ramOk_setScalar hs
  · exact ramOk_doLoad hs
  · exact ramOk_doStore hs
  · exact ramOk_doStore hs
  · exact ramOk_ite_fst hs (ramOk_ite_fst hs hs)
  · exact ramOk_setScalar hs
  · exact hs
  · exact ramOk_doLoop hs
  · exact ramOk_ite_fst hs (ramOk_ite_fst (ramOk_setScalar hs) (ramOk_ite_fst (ramOk_setScalar hs) hs))
  · exact hs
  · exact ramOk_doPrd hs
  · exact ramOk_primStore hs
  · exact ramOk_doVldp hs
  · exact ramOk_doVstp hs
  · exact ramOk_ite_fst hs (ramOk_setVreg hs)
  · exact ramOk_doVmac hs
  · exact ramOk_doVrda hs
  · exact ramOk_setAcc hs
  · exact ramOk_setScalar hs
  · exact ramOk_setVreg hs
  · exact ramOk_setScalar hs
  · exact ramOk_setVreg hs
  · exact ramOk_doVld hs
  · exact ramOk_doVst hs

theorem ramOk_addCycles {e n} (hs : s.RamOk) : (s.addCycles e n).RamOk := by
  unfold addCycles
  exact ramOk_modEng hs

theorem ramOk_engOne {e stepped u} (hs : s.RamOk) : (s.engOne e stepped u).RamOk := by
  unfold engOne
  dsimp only
  split
  · exact ramOk_engFault (ramOk_perf hs)
  · exact ramOk_setRun (ramOk_setEf (ramOk_modEng (ramOk_perf (ramOk_engExec (ramOk_modEng hs)))))
  · exact ramOk_addCycles (ramOk_modEng (ramOk_perf (ramOk_engExec (ramOk_modEng hs))))
  · exact ramOk_addCycles (ramOk_modEng (ramOk_perf (ramOk_engExec (ramOk_modEng hs))))
  · exact ramOk_setRun (ramOk_addCycles (ramOk_modEng (ramOk_perf (ramOk_engExec (ramOk_modEng hs)))))

theorem ramOk_engIssue {e u} (hs : s.RamOk) : (s.engIssue e u).RamOk := by
  unfold engIssue
  exact ramOk_else (ramOk_engWake hs) fun h => ramOk_ite (ramOk_engFault h) (ramOk_engOne h)

theorem ramOk_engIllegal {e w} (hs : s.RamOk) : (s.engIllegal e w).RamOk := by
  unfold engIllegal
  exact ramOk_else (ramOk_engWake hs) fun h => ramOk_ite (ramOk_engFault h) (ramOk_engFault h)

theorem ramOk_engStep {e} (hs : s.RamOk) : (s.engStep e).RamOk := by
  unfold engStep
  refine ramOk_ite hs (ramOk_ite (ramOk_engFault hs) (ramOk_ite (ramOk_engFault (ramOk_sramRead _ _ hs)) ?_))
  split
  · exact ramOk_engFault (ramOk_sramRead _ _ hs)
  · exact ramOk_engOne (ramOk_sramRead _ _ hs)

theorem ramOk_leCtl {e v} (hs : s.RamOk) : (s.leCtl e v).RamOk := by
  unfold leCtl
  exact ramOk_then (ramOk_ite (ramOk_engStart (ramOk_bankChanged (ramOk_then (ramOk_writeReg hs) fun h1 => ramOk_ucRefused h1)))
    (ramOk_then (ramOk_bankChanged (ramOk_then (ramOk_writeReg hs) fun h1 => ramOk_ucRefused h1)) fun h2 => ramOk_setRun h2))
    fun h3 => ramOk_engStep h3

theorem ramOk_leEvtWrite {e off v} (hs : s.RamOk) : (s.leEvtWrite e off v).RamOk := by
  unfold leEvtWrite
  exact ramOk_engIrq (ramOk_writeReg hs)

/-! ### The supplied programs (R170, R196) -/

theorem ramOk_progAnswer {e rsp0 rsp1 err} (hs : s.RamOk) : (s.progAnswer e rsp0 rsp1 err).RamOk := by
  unfold progAnswer
  exact ramOk_mbxDone (ramOk_modEng hs)

theorem ramOk_setProgStat {e w} (hs : s.RamOk) : (s.setProgStat e w).RamOk := by
  unfold setProgStat
  exact ramOk_setReg hs

theorem ramOk_progEnter {e st} (hs : s.RamOk) : (s.progEnter e st).RamOk := by
  unfold progEnter
  dsimp only
  split
  · exact ramOk_else (ramOk_setProgStat hs) fun h => ramOk_setReg h
  · exact ramOk_setProgStat hs

theorem ramOk_progBank {n words} (hs : s.RamOk) : (s.progBank n words).RamOk := by
  unfold progBank
  extract_lets i s1 s2
  have h : s2.RamOk := ramOk_foldl (fun _ _ h => ramOk_setRxWord h) _ (ramOk_foldl (fun _ _ h => ramOk_setRxWord h) _ hs)
  cases hr : s2.rxSwap n with
  | none => exact h
  | some t => exact ramOk_rxSwap h t hr

theorem ramOk_progTrain {e converged words windows err} (hs : s.RamOk) : (s.progTrain e converged words windows err).RamOk := by
  unfold progTrain
  exact ramOk_progAnswer (ramOk_then (ramOk_setProgStat (ramOk_progBank (ramOk_progEnter hs))) fun h => ramOk_mbxNote
    (ramOk_progEnter h))

/-! ### Events -/

theorem ramOk_engWatchdog {e} (hs : s.RamOk) : (s.engWatchdog e).RamOk := by
  unfold engWatchdog
  exact ramOk_ite hs (ramOk_engFault hs)

theorem ramOk_primEvent {e a v} (hs : s.RamOk) : (s.primEvent e a v).RamOk := by
  unfold primEvent
  exact ramOk_ite (ramOk_primStore hs) hs

theorem ramOk_laneHistEnd {l bins} (hs : s.RamOk) : (s.laneHistEnd l bins).RamOk := by
  unfold laneHistEnd
  split <;> exact ramOk_histEnd hs

theorem ramOk_laneGaEnd {l sums} (hs : s.RamOk) : (s.laneGaEnd l sums).RamOk := by
  unfold laneGaEnd
  dsimp only
  split <;> exact ramOk_gaWindowEnd hs

theorem ramOk_timerMatch {e} (hs : s.RamOk) : (s.timerMatch e).RamOk := by
  unfold timerMatch
  exact ramOk_ite (ramOk_engWake (ramOk_modEng hs)) hs

theorem ramOk_ucSwapNow {e} (hs : s.RamOk) : (s.ucSwapNow e).RamOk := by
  unfold ucSwapNow
  exact ramOk_ite (ramOk_ucSwap hs) hs

/-! ### The supplied line program (R170) -/

theorem ramOk_progRun {e code m0 m1 k} (hk : ∀ s, s.RamOk → (k s).RamOk) (hs : s.RamOk) : (s.progRun e code m0 m1 k).RamOk := by
  unfold progRun
  exact ramOk_ite hs (ramOk_ite (ramOk_progAnswer hs) (hk _ hs))

theorem ramOk_lineTrain {n converged words windows err} (hs : s.RamOk) : (s.lineTrain n converged words windows err).RamOk := by
  unfold lineTrain
  exact ramOk_progRun (fun _ h => ramOk_ite (ramOk_progAnswer h) (ramOk_progTrain h)) hs

theorem ramOk_lineFreeze {n} (hs : s.RamOk) : (s.lineFreeze n).RamOk := by
  unfold lineFreeze
  exact ramOk_progRun (fun _ h => ramOk_progAnswer (ramOk_progEnter h)) hs

theorem ramOk_lineResume {n} (hs : s.RamOk) : (s.lineResume n).RamOk := by
  unfold lineResume
  exact ramOk_progRun (fun _ h => ramOk_ite (ramOk_progAnswer (ramOk_mbxNote (ramOk_progEnter h))) (ramOk_progAnswer h)) hs

theorem ramOk_lineSetMu {n} (hs : s.RamOk) : (s.lineSetMu n).RamOk := by
  unfold lineSetMu
  exact ramOk_progRun (fun _ h => ramOk_progAnswer (ramOk_modEng h)) hs

theorem ramOk_lineSetLoop {n} (hs : s.RamOk) : (s.lineSetLoop n).RamOk := by
  unfold lineSetLoop
  exact ramOk_progRun (fun _ h => ramOk_progAnswer (ramOk_modEng h)) hs

theorem ramOk_lineStatus {n err} (hs : s.RamOk) : (s.lineStatus n err).RamOk := by
  unfold lineStatus
  exact ramOk_progRun (fun _ h => ramOk_progAnswer h) hs

theorem ramOk_lineEye {n hits results} (hs : s.RamOk) : (s.lineEye n hits results).RamOk := by
  unfold lineEye
  exact ramOk_progRun (fun _ h => ramOk_ite (ramOk_progAnswer h) (ramOk_ite (ramOk_progAnswer (ramOk_eyeCtl h))
    (ramOk_progAnswer (ramOk_eyeDone (ramOk_eyeCtl h))))) hs

theorem ramOk_lineRemap {n} (hs : s.RamOk) : (s.lineRemap n).RamOk := by
  unfold lineRemap
  refine ramOk_progRun (fun _ h1 => ?_) hs
  split
  · rename_i h2
    exact ramOk_progAnswer ((ramOk_slotMap h1 _ h2))
  · exact ramOk_progAnswer h1

theorem ramOk_lineSpareTrain {n converged words windows err} (hs : s.RamOk) : (s.lineSpareTrain n converged words windows
  err).RamOk := by
  unfold lineSpareTrain
  exact ramOk_progRun (fun _ h => ramOk_progTrain h) hs

theorem ramOk_lineStop {n} (hs : s.RamOk) : (s.lineStop n).RamOk := by
  unfold lineStop
  exact ramOk_progRun (fun _ h => ramOk_progAnswer (ramOk_progEnter h)) hs

/-! ### The supplied host program (R196) -/

theorem ramOk_hostSets {k adapt frozen} (hs : s.RamOk) : (s.hostSets k adapt frozen).RamOk := by
  unfold hostSets
  exact ramOk_setProgStat (ramOk_modEng hs)

theorem ramOk_hostAdapt {k} (hs : s.RamOk) : (s.hostAdapt k).RamOk := by
  unfold hostAdapt
  exact ramOk_progRun (fun _ h => ramOk_progAnswer (ramOk_hostSets h)) hs

theorem ramOk_hostFreeze {k} (hs : s.RamOk) : (s.hostFreeze k).RamOk := by
  unfold hostFreeze
  exact ramOk_progRun (fun _ h => ramOk_progAnswer (ramOk_hostSets h)) hs

theorem ramOk_hostResume {k} (hs : s.RamOk) : (s.hostResume k).RamOk := by
  unfold hostResume
  exact ramOk_progRun (fun _ h => ramOk_ite (ramOk_progAnswer h) (ramOk_progAnswer (ramOk_hostSets h))) hs

theorem ramOk_hostSetMu {k} (hs : s.RamOk) : (s.hostSetMu k).RamOk := by
  unfold hostSetMu
  exact ramOk_progRun (fun _ h => ramOk_progAnswer (ramOk_modEng h)) hs

theorem ramOk_hostStatus {k err} (hs : s.RamOk) : (s.hostStatus k err).RamOk := by
  unfold hostStatus
  exact ramOk_progRun (fun _ h => ramOk_progAnswer h) hs

theorem ramOk_hostPreset {k} (hs : s.RamOk) : (s.hostPreset k).RamOk := by
  unfold hostPreset
  exact ramOk_progRun (fun _ h => ramOk_ite (ramOk_progAnswer h) (ramOk_progAnswer (ramOk_modEng h))) hs

theorem ramOk_hostStop {k} (hs : s.RamOk) : (s.hostStop k).RamOk := by
  unfold hostStop
  exact ramOk_progRun (fun _ h => ramOk_progAnswer (ramOk_hostSets h)) hs

/-! ### PLLs -/

theorem ramOk_rxQuiet {n} (hs : s.RamOk) : (s.rxQuiet n).RamOk := by
  unfold rxQuiet
  exact ramOk_holdoverAll (ramOk_then (ramOk_eyeAbort (ramOk_modLane (ramOk_setF (ramOk_setF (ramOk_setF hs))))) fun h =>
    ramOk_sigChange h)

theorem ramOk_pllStop {p} (hs : s.RamOk) : (s.pllStop p).RamOk := by
  unfold pllStop
  dsimp only
  exact ramOk_ite hs (ramOk_portsEval (ramOk_squelchAll (ramOk_foldl (g := hostQuiet) (fun _ _ h1 => ramOk_hostQuiet h1) _
    (ramOk_foldl (g := rxQuiet) (fun _ _ h2 => ramOk_rxQuiet h2) _ (ramOk_setF hs)))))

theorem ramOk_pllCtl {p v} (hs : s.RamOk) : (s.pllCtl p v).RamOk := by
  unfold pllCtl
  dsimp only
  exact ramOk_else (ramOk_writeReg hs) fun h => ramOk_pllStop h

theorem ramOk_pllLock {p us} (hs : s.RamOk) : (s.pllLock p us).RamOk := by
  unfold pllLock
  dsimp only
  exact ramOk_ite hs (ramOk_portsEval (ramOk_squelchAll (ramOk_foldl (fun _ _ h => ramOk_injRun (ramOk_ite (ramOk_bgStart h) h))
    _ (ramOk_setF (ramOk_setF hs)))))

theorem ramOk_pllLost {p} (hs : s.RamOk) : (s.pllLost p).RamOk := by
  unfold pllLost
  dsimp only
  refine ramOk_ite hs (ramOk_portsEval (ramOk_squelchAll (ramOk_foldl (g := hostCdrLost) (fun _ _ h1 => ramOk_hostCdrLost h1) _
    (ramOk_foldl (fun _ _ h2 => ramOk_modLane (ramOk_cdrLost h2)) _ ?_))))
  split
  · exact ramOk_raise (ramOk_setF (ramOk_setF hs))
  · exact ramOk_setF (ramOk_setF hs)

theorem ramOk_lineSlices {lanes} (hs : s.RamOk) : (s.lineSlices lanes).RamOk := by
  unfold lineSlices
  refine ramOk_portsEval (ramOk_foldl (fun s n h => ?_) _ hs)
  extract_lets b s1
  have h1 : s1.RamOk := ramOk_ite h (ramOk_setF (ramOk_rxEnOff h))
  exact ramOk_ite h1 (ramOk_setF (ramOk_txEnOff h1))

theorem ramOk_linePwr {c v} (hs : s.RamOk) : (s.linePwr c v).RamOk := by
  unfold linePwr
  exact ramOk_lineSlices (ramOk_writeReg hs)

theorem ramOk_slicesReady {l} (hs : s.RamOk) : (s.slicesReady l).RamOk := by
  unfold slicesReady
  split
  · exact ramOk_ite hs (ramOk_then (ramOk_ite (ramOk_setF hs) hs) fun h => ramOk_setF h)
  · exact ramOk_ite (ramOk_setF hs) hs

theorem ramOk_hostCalDone {m} (hs : s.RamOk) : (s.hostCalDone m).RamOk := by
  unfold hostCalDone
  exact ramOk_setF hs

theorem ramOk_blockLockLost {m} (hs : s.RamOk) : (s.blockLockLost m).RamOk := by
  unfold blockLockLost
  exact ramOk_setF hs

end State
end Sys2Proof.Machine
end

section
/-! Memory keeps its canonical form (O60): the twin, thermal control, memory's own operations, self-test and time. -/

namespace Sys2Proof.Machine
namespace State

variable {s : State}

/-! ### Messages and pairing (R220 to R227) -/

theorem ramOk_setPair {st} (hs : s.RamOk) : (s.setPair st).RamOk := by
  unfold setPair
  exact ramOk_setF hs

theorem ramOk_modTwin {g} (hs : s.RamOk) : (s.modTwin g).RamOk := by
  unfold modTwin
  exact ramOk_mk hs

theorem ramOk_twinPlain {typ fields} (hs : s.RamOk) : (s.twinPlain typ fields).RamOk := by
  unfold twinPlain
  exact ramOk_fogTwin hs

theorem ramOk_twinSend {typ fields} (hs : s.RamOk) : (s.twinSend typ fields).RamOk := by
  unfold twinSend
  exact ramOk_fogTwin (ramOk_setReg (ramOk_modTwin hs))

theorem ramOk_authFail (hs : s.RamOk) : s.authFail.RamOk := by
  unfold authFail
  exact ramOk_raise (ramOk_countSat hs)

theorem ramOk_setRxCnt {c} (hs : s.RamOk) : (s.setRxCnt c).RamOk := by
  unfold setRxCnt
  exact ramOk_setReg (ramOk_modTwin hs)

theorem ramOk_deriveKeys (hs : s.RamOk) : s.deriveKeys.RamOk := by
  unfold deriveKeys
  exact ramOk_setRxCnt (ramOk_setReg (ramOk_modTwin hs))

theorem ramOk_twinForget (hs : s.RamOk) : s.twinForget.RamOk := by
  unfold twinForget
  exact ramOk_setF (ramOk_setF (ramOk_setF (ramOk_modTwin hs)))

theorem ramOk_twinErase (hs : s.RamOk) : s.twinErase.RamOk := by
  unfold twinErase
  exact ramOk_twinForget (ramOk_setF (ramOk_setRxCnt (ramOk_setReg (ramOk_modTwin hs))))

theorem ramOk_setPeer {id} (hs : s.RamOk) : (s.setPeer id).RamOk := by
  unfold setPeer
  exact ramOk_foldl (fun _ _ h => ramOk_setReg h) _ hs

theorem ramOk_pairFail {why} (hs : s.RamOk) : (s.pairFail why).RamOk := by
  unfold pairFail
  exact ramOk_raise (ramOk_setF (ramOk_setPair hs))

theorem ramOk_pairHail (hs : s.RamOk) : s.pairHail.RamOk := by
  unfold pairHail
  exact ramOk_else (ramOk_setF hs) fun h => ramOk_ite (ramOk_pairFail h) (ramOk_twinPlain (ramOk_setF (ramOk_setPair h)))

theorem ramOk_pairRelease (hs : s.RamOk) : s.pairRelease.RamOk := by
  unfold pairRelease
  exact ramOk_ite hs (ramOk_twinSend (ramOk_modTwin (ramOk_setPair hs)))

theorem ramOk_pairCtl {v} (hs : s.RamOk) : (s.pairCtl v).RamOk := by
  unfold pairCtl
  exact ramOk_then (ramOk_then (ramOk_writeReg hs) fun h => ramOk_pairHail h) fun h => ramOk_pairRelease h

theorem ramOk_hailTimer (hs : s.RamOk) : s.hailTimer.RamOk := by
  unfold hailTimer
  exact ramOk_ite (ramOk_twinPlain hs) hs

theorem ramOk_hailLimit (hs : s.RamOk) : s.hailLimit.RamOk := by
  unfold hailLimit
  exact ramOk_ite (ramOk_pairFail hs) hs

theorem ramOk_confirmWait (hs : s.RamOk) : s.confirmWait.RamOk := by
  unfold confirmWait
  exact ramOk_ite (ramOk_pairFail (ramOk_twinErase hs)) hs

theorem ramOk_twinAnswered {id} (hs : s.RamOk) : (s.twinAnswered id).RamOk := by
  unfold twinAnswered
  exact ramOk_deriveKeys (ramOk_twinPlain (ramOk_twinForget (ramOk_setPeer (ramOk_setF (ramOk_setF (ramOk_setPair hs))))))

theorem ramOk_rxHail {id ok} (hs : s.RamOk) : (s.rxHail id ok).RamOk := by
  unfold rxHail
  refine ramOk_ite hs (ramOk_else (ramOk_authFail hs) fun h => ?_)
  dsimp only
  split
  · exact ramOk_ite (ramOk_twinAnswered hs) hs
  · exact ramOk_ite hs (ramOk_twinAnswered hs)
  · exact ramOk_ite (ramOk_twinAnswered hs) hs
  · exact h
  · exact ramOk_ite (ramOk_twinAnswered hs) hs
  · exact hs

theorem ramOk_rxAnswer {id ok} (hs : s.RamOk) : (s.rxAnswer id ok).RamOk := by
  unfold rxAnswer
  exact ramOk_ite hs (ramOk_ite (ramOk_authFail hs) (ramOk_ite hs (ramOk_raise (ramOk_twinSend (ramOk_deriveKeys (ramOk_setF
    (ramOk_setPeer (ramOk_setPair hs))))))))

theorem ramOk_rxConfirm {a} (hs : s.RamOk) : (s.rxConfirm a).RamOk := by
  unfold rxConfirm
  exact ramOk_ite hs (ramOk_ite (ramOk_authFail hs) (ramOk_raise (ramOk_setPair (ramOk_setRxCnt hs))))

/-! ### Ranging and the position handshake (R228 to R231) -/

theorem ramOk_rangeRun (hs : s.RamOk) : s.rangeRun.RamOk := by
  unfold rangeRun
  exact ramOk_ite hs (ramOk_twinSend (ramOk_setF hs))

theorem ramOk_posMessages : ∀ (n : Nat) (l : List (Nat × Pos)) {s : State}, s.RamOk → (s.posMessages n l).RamOk
  | 0, [], _, hs | 0, _ :: _, _, hs | _ + 1, [], _, hs => hs
  | n + 1, _ :: _, _, hs => ramOk_posMessages n _ (ramOk_twinSend hs)

theorem ramOk_posStart {ports} (hs : s.RamOk) : (s.posStart ports).RamOk := by
  unfold posStart
  exact ramOk_ite hs (ramOk_ite (ramOk_else (ramOk_setF (ramOk_modTwin hs)) fun h => ramOk_rangeRun h) (ramOk_ite (ramOk_raise
    (ramOk_setF (ramOk_modTwin hs))) (ramOk_posMessages _ _ (ramOk_setF (ramOk_modTwin hs)))))

theorem ramOk_posAuto (hs : s.RamOk) : s.posAuto.RamOk := by
  unfold posAuto
  exact ramOk_ite (ramOk_posStart hs) hs

theorem ramOk_posAll (hs : s.RamOk) : s.posAll.RamOk := by
  unfold posAll
  exact ramOk_posStart hs

theorem ramOk_posFail (hs : s.RamOk) : s.posFail.RamOk := by
  unfold posFail
  exact ramOk_flag (ramOk_modTwin hs)

theorem ramOk_twinRx {a k} (hk : ∀ s, s.RamOk → (k s).RamOk) (hs : s.RamOk) : (s.twinRx a k).RamOk := by
  unfold twinRx
  exact ramOk_ite hs (ramOk_ite (hk _ (ramOk_then (ramOk_setRxCnt hs) fun h => ramOk_posAll (ramOk_raise (ramOk_setPair h))))
    (ramOk_authFail hs))

theorem ramOk_rxPos {l} (hs : s.RamOk) : (s.rxPos l).RamOk := by
  unfold rxPos
  exact ramOk_twinSend (ramOk_foldl (fun _ _ h1 => ramOk_modTwin h1) _ (ramOk_then (ramOk_ite hs (ramOk_rangeRun hs)) fun h2 =>
    ramOk_posFail h2))

theorem ramOk_rxPosAck {l} (hs : s.RamOk) : (s.rxPosAck l).RamOk := by
  unfold rxPosAck
  refine ramOk_else (ramOk_modTwin (ramOk_foldl (fun _ _ h1 => ?_) _ hs)) fun h2 => ramOk_else (ramOk_setF h2) fun h3 =>
    ramOk_raise h3
  dsimp only
  split
  · exact ramOk_ite (ramOk_modTwin (ramOk_draw h1)) (ramOk_posFail h1)
  · exact ramOk_posFail h1

theorem ramOk_rxRange (hs : s.RamOk) : s.rxRange.RamOk := by
  unfold rxRange
  exact ramOk_twinSend hs

theorem ramOk_rxRangeEcho {t1 t2 t3 t4} (hs : s.RamOk) : (s.rxRangeEcho t1 t2 t3 t4).RamOk := by
  unfold rxRangeEcho
  exact ramOk_ite hs (ramOk_then (ramOk_raise (ramOk_setF (ramOk_setF (ramOk_setF (ramOk_setF (ramOk_ite (ramOk_draw hs)
    hs)))))) fun h => ramOk_posAll h)

/-! ### Sparing (R235 to R242) -/

theorem ramOk_setSpare {st} (hs : s.RamOk) : (s.setSpare st).RamOk := by
  unfold setSpare
  exact ramOk_ite hs (ramOk_raise (ramOk_setF hs))

theorem ramOk_spareWhy {w} (hs : s.RamOk) : (s.spareWhy w).RamOk := by
  unfold spareWhy
  exact ramOk_setF hs

theorem ramOk_spareTrainOn {e lane} (hs : s.RamOk) : (s.spareTrainOn e lane).RamOk := by
  unfold spareTrainOn
  exact ramOk_mbxCmd (ramOk_mbxArg hs)

theorem ramOk_spareTrainOff {e} (hs : s.RamOk) : (s.spareTrainOff e).RamOk := by
  unfold spareTrainOff
  exact ramOk_ite (ramOk_mbxDone (ramOk_progEnter (ramOk_choose hs))) hs

theorem ramOk_mirrorOn {m} (hs : s.RamOk) : (s.mirrorOn m).RamOk := by
  unfold mirrorOn
  exact ramOk_txMirror hs

theorem ramOk_mirrorOff (hs : s.RamOk) : s.mirrorOff.RamOk := by
  unfold mirrorOff
  exact ramOk_txMirror hs

theorem ramOk_spareIdle {why} (hs : s.RamOk) : (s.spareIdle why).RamOk := by
  unfold spareIdle
  exact ramOk_spareTrainOff (ramOk_else (ramOk_modTwin (ramOk_setF (ramOk_raise (ramOk_spareWhy (ramOk_setSpare hs))))) fun h =>
    ramOk_mirrorOff h)

theorem ramOk_spareNew {i} (hs : s.RamOk) : (s.spareNew i).RamOk := by
  unfold spareNew
  exact ramOk_modTwin (ramOk_setF (ramOk_setF (ramOk_setF (ramOk_setF (ramOk_spareWhy (ramOk_setF hs))))))

theorem ramOk_sparePrepare {i} (hs : s.RamOk) : (s.sparePrepare i).RamOk := by
  unfold sparePrepare
  split
  · exact ramOk_twinSend (ramOk_mirrorOn (ramOk_setSpare (ramOk_spareNew hs)))
  · exact ramOk_spareWhy hs

theorem ramOk_returnStart (hs : s.RamOk) : s.returnStart.RamOk := by
  unfold returnStart
  exact ramOk_spareTrainOn (ramOk_then (ramOk_setSpare (ramOk_spareNew hs)) fun h => ramOk_txMirror h)

theorem ramOk_spareReturn (hs : s.RamOk) : s.spareReturn.RamOk := by
  unfold spareReturn
  exact ramOk_ite hs (ramOk_ite (ramOk_spareWhy hs) (ramOk_twinSend (ramOk_returnStart hs)))

theorem ramOk_spareMoved {n} (hs : s.RamOk) : (s.spareMoved n).RamOk := by
  unfold spareMoved
  exact ramOk_portsEval (ramOk_laneEvent hs)

theorem ramOk_spareAssign {i} (hs : s.RamOk) : (s.spareAssign i).RamOk := by
  unfold spareAssign
  exact ramOk_ite (ramOk_spareWhy hs) (ramOk_portsEval (ramOk_setSpare (ramOk_setF (ramOk_modTwin (ramOk_spareNew hs)))))

/-! ### Coordinated actions (R232, R233) -/

theorem ramOk_coordEnd {phase why} (hs : s.RamOk) : (s.coordEnd phase why).RamOk := by
  unfold coordEnd
  exact ramOk_raise (ramOk_setF (ramOk_setF hs))

theorem ramOk_spareBack (hs : s.RamOk) : s.spareBack.RamOk := by
  unfold spareBack
  exact ramOk_ite (ramOk_setSpare hs) (ramOk_ite (ramOk_setSpare hs) hs)

theorem ramOk_coordDrop {why} (hs : s.RamOk) : (s.coordDrop why).RamOk := by
  unfold coordDrop
  exact ramOk_spareBack (ramOk_coordEnd (ramOk_seTwinSkip hs))

theorem ramOk_coordPropose {p action n} (hs : s.RamOk) : (s.coordPropose p action n).RamOk := by
  unfold coordPropose
  exact ramOk_ite hs (ramOk_ite (ramOk_coordEnd (ramOk_setF hs)) (ramOk_ite (ramOk_coordEnd (ramOk_setF hs)) (ramOk_ite
    (ramOk_coordEnd (ramOk_setF hs)) (ramOk_ite (ramOk_coordEnd (ramOk_setF hs)) (ramOk_twinSend (ramOk_setF (ramOk_setF
    (ramOk_modTwin (ramOk_setF hs)))))))))

theorem ramOk_coordStart (hs : s.RamOk) : s.coordStart.RamOk := by
  unfold coordStart
  exact ramOk_coordPropose hs

theorem ramOk_coordAbort (hs : s.RamOk) : s.coordAbort.RamOk := by
  unfold coordAbort
  exact ramOk_ite (ramOk_coordDrop (ramOk_twinSend hs)) hs

theorem ramOk_coordCtl {v} (hs : s.RamOk) : (s.coordCtl v).RamOk := by
  unfold coordCtl
  exact ramOk_then (ramOk_then (ramOk_writeReg hs) fun h => ramOk_coordStart h) fun h => ramOk_coordAbort h

theorem ramOk_spareGo {asked} (hs : s.RamOk) : (s.spareGo asked).RamOk := by
  unfold spareGo
  dsimp only
  exact ramOk_ite hs (ramOk_then (ramOk_setSpare hs) fun h => ramOk_coordPropose h)

theorem ramOk_spareEval (hs : s.RamOk) : s.spareEval.RamOk := by
  unfold spareEval
  exact ramOk_ite (ramOk_spareGo (ramOk_twinSend (ramOk_setSpare hs))) hs

theorem ramOk_spareMatch {delta} (hs : s.RamOk) : (s.spareMatch delta).RamOk := by
  unfold spareMatch
  exact ramOk_ite hs (ramOk_spareEval (ramOk_setB (ramOk_setF (ramOk_setF hs))))

theorem ramOk_spareMismatch (hs : s.RamOk) : s.spareMismatch.RamOk := by
  unfold spareMismatch
  exact ramOk_then (ramOk_setF hs) fun h => ramOk_setSpare h

theorem ramOk_spareLimit (hs : s.RamOk) : s.spareLimit.RamOk := by
  unfold spareLimit
  exact ramOk_ite (ramOk_spareIdle (ramOk_twinSend hs)) hs

theorem ramOk_spareSwitch (hs : s.RamOk) : s.spareSwitch.RamOk := by
  unfold spareSwitch
  exact ramOk_ite (ramOk_ite (ramOk_spareMoved (ramOk_twinSend (ramOk_setSpare (ramOk_setF hs)))) (ramOk_twinSend
    (ramOk_setSpare (ramOk_setF hs)))) (ramOk_ite (ramOk_ite (ramOk_then (ramOk_spareMoved (ramOk_twinSend (ramOk_setF hs)))
    fun h => ramOk_setSpare (ramOk_modTwin (ramOk_mirrorOff h))) (ramOk_twinSend (ramOk_setSpare (ramOk_setF hs)))) hs)

theorem ramOk_spareCtl {v} (hs : s.RamOk) : (s.spareCtl v).RamOk := by
  unfold spareCtl
  refine ramOk_else (ramOk_writeReg hs) fun h1 => ?_
  split
  · exact ramOk_sparePrepare h1
  · exact ramOk_spareGo h1
  · exact ramOk_spareReturn h1
  · exact ramOk_then h1 fun h2 => ramOk_spareIdle h2
  · exact ramOk_spareAssign h1
  · exact ramOk_spareEval (ramOk_modTwin h1)
  · exact h1

theorem ramOk_rxPropose {tag action q n ver staged} (hs : s.RamOk) : (s.rxPropose tag action q n ver staged).RamOk := by
  unfold rxPropose
  refine ramOk_ite (ramOk_twinSend hs) ?_
  split
  · exact ramOk_twinSend hs
  · exact ramOk_ite (ramOk_twinSend hs) (ramOk_ite (ramOk_twinSend hs) (ramOk_twinSend (ramOk_ite (ramOk_setSpare
      (ramOk_seSupply (ramOk_setF (ramOk_setF (ramOk_setF (ramOk_modTwin hs)))))) (ramOk_then (ramOk_seSupply (ramOk_setF
      (ramOk_setF (ramOk_setF (ramOk_modTwin hs))))) fun h => ramOk_setSpare h))))

theorem ramOk_rxAccept {tag m} (hs : s.RamOk) : (s.rxAccept tag m).RamOk := by
  unfold rxAccept
  exact ramOk_ite hs (ramOk_twinSend (ramOk_ite (ramOk_seSupply (ramOk_setF hs)) (ramOk_seSupply (ramOk_setF hs))))

theorem ramOk_rxReject {tag why} (hs : s.RamOk) : (s.rxReject tag why).RamOk := by
  unfold rxReject
  exact ramOk_ite hs (ramOk_coordDrop hs)

theorem ramOk_rxGo {tag} (hs : s.RamOk) : (s.rxGo tag).RamOk := by
  unfold rxGo
  exact ramOk_ite (ramOk_setF hs) hs

theorem ramOk_rxAbort {tag} (hs : s.RamOk) : (s.rxAbort tag).RamOk := by
  unfold rxAbort
  exact ramOk_ite (ramOk_coordDrop hs) hs

theorem ramOk_coordCutoff (hs : s.RamOk) : s.coordCutoff.RamOk := by
  unfold coordCutoff
  exact ramOk_else (ramOk_coordDrop hs) fun h => ramOk_ite (ramOk_modTwin h) hs

theorem ramOk_coordFired {k made} (hs : s.RamOk) : (s.coordFired k made).RamOk := by
  unfold coordFired
  exact ramOk_ite hs (ramOk_ite (ramOk_modTwin (ramOk_raise (ramOk_setF hs))) (ramOk_coordEnd hs))

theorem ramOk_rxSpareReq {i ret} (hs : s.RamOk) : (s.rxSpareReq i ret).RamOk := by
  unfold rxSpareReq
  refine ramOk_ite (ramOk_ite (ramOk_ite (ramOk_twinSend (ramOk_returnStart hs)) (ramOk_twinSend hs)) (ramOk_twinSend hs)) ?_
  split
  · exact ramOk_twinSend (ramOk_spareTrainOn (ramOk_mirrorOn (ramOk_setSpare (ramOk_spareNew hs))))
  · exact ramOk_twinSend (ramOk_ite (ramOk_spareWhy hs) hs)

theorem ramOk_rxSpareRsp {why} (hs : s.RamOk) : (s.rxSpareRsp why).RamOk := by
  unfold rxSpareRsp
  exact ramOk_ite (ramOk_ite (ramOk_spareTrainOn (ramOk_setSpare hs)) hs) (ramOk_ite (ramOk_setF (ramOk_spareIdle hs)) hs)

theorem ramOk_rxSpareStatus {x} (hs : s.RamOk) : (s.rxSpareStatus x).RamOk := by
  unfold rxSpareStatus
  split
  · exact ramOk_spareGo (ramOk_setF hs)
  · exact ramOk_then (ramOk_setF hs) fun h => ramOk_setSpare (ramOk_modTwin (ramOk_mirrorOff h))
  · exact ramOk_setF hs

theorem ramOk_emergSwitch {i} (hs : s.RamOk) : (s.emergSwitch i).RamOk := by
  unfold emergSwitch
  dsimp only
  exact ramOk_then (ramOk_spareMoved (ramOk_modTwin (ramOk_setF (ramOk_setF (ramOk_setSpare (ramOk_setF (ramOk_setF hs)))))))
    fun h => ramOk_twinSend h

theorem ramOk_emergency {i} (hs : s.RamOk) : (s.emergency i).RamOk := by
  unfold emergency
  exact ramOk_ite hs (ramOk_then (ramOk_else (ramOk_ite (ramOk_spareIdle hs) hs) fun h1 => ramOk_raise (ramOk_spareTrainOn
    (ramOk_mirrorOn (ramOk_modTwin h1)))) fun h2 => ramOk_emergSwitch h2)

theorem ramOk_emergIdentified {i} (hs : s.RamOk) : (s.emergIdentified i).RamOk := by
  unfold emergIdentified
  dsimp only
  exact ramOk_ite hs (ramOk_emergSwitch (ramOk_mirrorOn (ramOk_setF (ramOk_setF hs))))

/-! ### Heartbeats, health, release (R223, R226, R234, R243) -/

theorem ramOk_twinAdrift (hs : s.RamOk) : s.twinAdrift.RamOk := by
  unfold twinAdrift
  exact ramOk_ite hs (ramOk_then (ramOk_raise (ramOk_logRecord _ (ramOk_twinForget (ramOk_setPair hs)))) fun h =>
    ramOk_spareIdle h)

theorem ramOk_twinReleased (hs : s.RamOk) : s.twinReleased.RamOk := by
  unfold twinReleased
  exact ramOk_raise (ramOk_setPair (ramOk_twinErase hs))

theorem ramOk_adriftLimit (hs : s.RamOk) : s.adriftLimit.RamOk := by
  unfold adriftLimit
  exact ramOk_ite (ramOk_twinReleased hs) hs

theorem ramOk_heartbeatTimer (hs : s.RamOk) : s.heartbeatTimer.RamOk := by
  unfold heartbeatTimer
  exact ramOk_ite (ramOk_twinSend hs) hs

theorem ramOk_rxHeartbeat {act prev spareSt rsv} (hs : s.RamOk) : (s.rxHeartbeat act prev spareSt rsv).RamOk := by
  unfold rxHeartbeat
  dsimp only
  split
  · exact ramOk_modTwin (ramOk_then (ramOk_setReg (ramOk_setReg hs)) fun h1 => ramOk_raise h1)
  · exact ramOk_else (ramOk_modTwin (ramOk_modTwin (ramOk_then (ramOk_setReg (ramOk_setReg hs)) fun h2 => ramOk_raise h2)))
      fun h3 => ramOk_coordEnd h3

theorem ramOk_rxHealthReq (hs : s.RamOk) : s.rxHealthReq.RamOk := by
  unfold rxHealthReq
  exact ramOk_twinSend hs

theorem ramOk_rxHealth {l} (hs : s.RamOk) : (s.rxHealth l).RamOk := by
  unfold rxHealth
  exact ramOk_raise (ramOk_modTwin hs)

theorem ramOk_rxRelease (hs : s.RamOk) : s.rxRelease.RamOk := by
  unfold rxRelease
  exact ramOk_ite (ramOk_twinReleased (ramOk_twinSend hs)) hs

theorem ramOk_rxReleaseAck (hs : s.RamOk) : s.rxReleaseAck.RamOk := by
  unfold rxReleaseAck
  exact ramOk_ite (ramOk_twinReleased hs) hs

theorem ramOk_releaseResend (hs : s.RamOk) : s.releaseResend.RamOk := by
  unfold releaseResend
  exact ramOk_ite hs (ramOk_ite (ramOk_twinReleased hs) (ramOk_then (ramOk_twinSend (ramOk_modTwin hs)) fun h =>
    ramOk_twinReleased h))

theorem ramOk_posCtl {v} (hs : s.RamOk) : (s.posCtl v).RamOk := by
  unfold posCtl
  exact ramOk_then (ramOk_writeReg hs) fun h => ramOk_posAll h

theorem ramOk_rangeCtl {v} (hs : s.RamOk) : (s.rangeCtl v).RamOk := by
  unfold rangeCtl
  exact ramOk_then (ramOk_writeReg hs) fun h => ramOk_rangeRun h

theorem ramOk_healthCtl {v} (hs : s.RamOk) : (s.healthCtl v).RamOk := by
  unfold healthCtl
  exact ramOk_then (ramOk_writeReg hs) fun h => ramOk_twinSend h

/-! ### Starting a measurement (R323) -/

theorem ramOk_measStart (hs : s.RamOk) : s.measStart.RamOk := by
  unfold measStart
  exact ramOk_ite (ramOk_flag hs) (ramOk_setF (ramOk_mk hs))

theorem ramOk_measCtl {v} (hs : s.RamOk) : (s.measCtl v).RamOk := by
  unfold measCtl
  exact ramOk_then (ramOk_writeReg hs) fun h => ramOk_measStart h

theorem ramOk_measTimer (hs : s.RamOk) : s.measTimer.RamOk := by
  unfold measTimer
  exact ramOk_ite (ramOk_measStart hs) hs

/-! ### Bands (R326, R327) -/

theorem ramOk_setBand {b} (hs : s.RamOk) : (s.setBand b).RamOk := by
  unfold setBand
  exact ramOk_ite hs (ramOk_avsUpdate (ramOk_foldl (fun _ _ h => ramOk_pdBand h) _ (ramOk_raise (ramOk_setF hs))))

theorem ramOk_setCand {c} (hs : s.RamOk) : (s.setCand c).RamOk := by
  unfold setCand
  exact ramOk_setB (ramOk_mk hs)

theorem ramOk_bandEval {t} (hs : s.RamOk) : (s.bandEval t).RamOk := by
  unfold bandEval
  exact ramOk_else (ramOk_setCand hs) fun h => ramOk_ite (ramOk_setBand h) (ramOk_setCand hs)

theorem ramOk_bandCtl {v} (hs : s.RamOk) : (s.bandCtl v).RamOk := by
  unfold bandCtl
  exact ramOk_then (ramOk_writeReg hs) fun h => ramOk_setBand h

theorem ramOk_edgeWrite {off v} (hs : s.RamOk) : (s.edgeWrite off v).RamOk := by
  unfold edgeWrite
  exact ramOk_ite (ramOk_writeReg hs) (ramOk_flag hs)

/-! ### Throttle (R328 to R330) -/

theorem ramOk_thermDeliver (hs : s.RamOk) : s.thermDeliver.RamOk := by
  unfold thermDeliver
  exact ramOk_foldl (fun _ _ h => ramOk_ite (ramOk_setEf h) h) _ (ramOk_ite (ramOk_setF hs) hs)

theorem ramOk_throttle {t l} (hs : s.RamOk) : (s.throttle t l).RamOk := by
  unfold throttle
  exact ramOk_then (ramOk_thermDeliver (ramOk_setF (ramOk_setF (ramOk_setF (ramOk_setF (ramOk_setF (ramOk_setF hs)))))))
    fun h => ramOk_raise h

theorem ramOk_thermEnable {was} (hs : s.RamOk) : (s.thermEnable was).RamOk := by
  unfold thermEnable
  exact ramOk_ite hs (ramOk_ite (ramOk_throttle hs) (ramOk_setCand hs))

/-! ### Critical limit and alarm (R330, R331) -/

theorem ramOk_critEval {t} (hs : s.RamOk) : (s.critEval t).RamOk := by
  unfold critEval
  exact ramOk_ite (ramOk_ite (ramOk_squelchAll (ramOk_logRecord _ (ramOk_raise (ramOk_setF (ramOk_setF (ramOk_mk hs)))))) hs)
    (ramOk_ite (ramOk_portsEval (ramOk_squelchAll (ramOk_raise (ramOk_setF (ramOk_mk hs))))) (ramOk_mk hs))

theorem ramOk_alarmEval {t} (hs : s.RamOk) : (s.alarmEval t).RamOk := by
  unfold alarmEval
  exact ramOk_then (ramOk_mk hs) fun h => ramOk_wakeUp (ramOk_raise h)

/-! ### The end of a measurement (R324, R325) -/

theorem ramOk_faultShow (hs : s.RamOk) : s.faultShow.RamOk := by
  unfold faultShow
  exact ramOk_setB hs

theorem ramOk_measDone {l} (hs : s.RamOk) : (s.measDone l).RamOk := by
  unfold measDone
  refine ramOk_ite hs (ramOk_alarmEval (ramOk_throttle (ramOk_critEval (ramOk_then (ramOk_setF (ramOk_mk (ramOk_setF (ramOk_setF
    (ramOk_faultShow ?_))))) fun h => ramOk_bandEval h))))
  split
  · exact ramOk_mk (ramOk_setF hs)
  · exact ramOk_raise (ramOk_setF (ramOk_setF (ramOk_mk (ramOk_setF hs))))

theorem ramOk_thermWrite {off v} (hs : s.RamOk) : (s.thermWrite off v).RamOk := by
  unfold thermWrite
  exact ramOk_ite (ramOk_measCtl hs) (ramOk_ite (ramOk_bandCtl hs) (ramOk_ite (ramOk_faultShow (ramOk_writeReg hs)) (ramOk_ite
    (ramOk_edgeWrite hs) (ramOk_writeReg hs))))

theorem ramOk_thermSoft (hs : s.RamOk) : s.thermSoft.RamOk := by
  unfold thermSoft
  exact ramOk_throttle (ramOk_mk hs)

/-! ### On-chip SRAM -/

theorem ramOk_memRefused (hs : s.RamOk) : s.memRefused.RamOk := by
  unfold memRefused
  exact ramOk_setF hs

theorem ramOk_goldShow (hs : s.RamOk) : s.goldShow.RamOk := by
  unfold goldShow
  exact ramOk_setB hs

theorem ramOk_memInval {v} (hs : s.RamOk) : (s.memInval v).RamOk := by
  unfold memInval
  exact ramOk_ite hs (ramOk_setF (ramOk_goldShow (ramOk_sramForget _ (ramOk_ite (ramOk_logFree hs) hs))))

theorem ramOk_memInvalDone (hs : s.RamOk) : s.memInvalDone.RamOk := by
  unfold memInvalDone
  exact ramOk_setF hs

theorem ramOk_memSeal {q v} (hs : s.RamOk) : (s.memSeal q v).RamOk := by
  unfold memSeal
  exact ramOk_ite (ramOk_memRefused hs) (ramOk_setF (ramOk_setF (ramOk_sameSram hs)))

theorem ramOk_memSealDone (hs : s.RamOk) : s.memSealDone.RamOk := by
  unfold memSealDone
  exact ramOk_ite hs (ramOk_setF (ramOk_setF (ramOk_sameSram hs)))

theorem ramOk_memRepair {v} (hs : s.RamOk) : (s.memRepair v).RamOk := by
  unfold memRepair
  exact ramOk_else (ramOk_writeReg hs) fun h => ramOk_ite (ramOk_memRefused h) (ramOk_sameSram h)

/-! ### The SRAM scrubber (R349, R350, R352) -/

theorem ramOk_scrubReport {seg line ended} (hs : s.RamOk) : (s.scrubReport seg line ended).RamOk := by
  unfold scrubReport
  exact ramOk_then (ramOk_setF (ramOk_sameSram hs)) fun h => ramOk_setF (ramOk_sameSram h)

theorem ramOk_scrubWord {w} (hs : s.RamOk) : (s.scrubWord w).RamOk := by
  unfold scrubWord
  exact ramOk_ite hs (ramOk_sramWriteBack _ (ramOk_sramRead _ _ hs))

theorem ramOk_scrubPage {g} (hs : s.RamOk) : (s.scrubPage g).RamOk := by
  unfold scrubPage
  exact ramOk_ite (ramOk_perf (ramOk_memCount (ramOk_pageRepair hs))) hs

theorem ramOk_sramScrub {l} (hs : s.RamOk) : (s.sramScrub l).RamOk := by
  unfold sramScrub
  refine ramOk_ite hs ?_
  split
  · exact hs
  · refine ramOk_ite (ramOk_scrubReport (ramOk_then (ramOk_foldl (fun _ _ h1 => ramOk_scrubWord h1) _ (ramOk_sramUpset _ hs))
      fun h2 => ramOk_scrubPage h2)) ?_
    split
    · exact ramOk_scrubReport (ramOk_then (ramOk_foldl (fun _ _ h2 => ramOk_scrubWord h2) _ (ramOk_sramUpset _ hs)) fun h1 =>
        ramOk_scrubPage h1)
    · exact ramOk_scrubReport (ramOk_then (ramOk_foldl (fun _ _ h3 => ramOk_scrubWord h3) _ (ramOk_sramUpset _ hs)) fun h4 =>
        ramOk_scrubPage h4)

/-! ### Golden copies (R354) -/

theorem ramOk_goldFire {k} (hs : s.RamOk) : (s.goldFire k).RamOk := by
  unfold goldFire
  exact ramOk_ite (ramOk_sameSram hs) hs

theorem ramOk_goldRestart {g} (hs : s.RamOk) : (s.goldRestart g).RamOk := by
  unfold goldRestart
  exact ramOk_ite (ramOk_engStart (ramOk_setEf hs)) hs

theorem ramOk_goldReload {flash} (hs : s.RamOk) : (s.goldReload flash).RamOk := by
  unfold goldReload
  split
  · exact hs
  · refine ramOk_ite hs ?_
    dsimp only
    split
    · exact ramOk_flag (ramOk_goldShow (ramOk_sameSram hs))
    · exact ramOk_then (ramOk_raise (ramOk_sameSram (ramOk_sramPoke _ _ (ramOk_goldShow (ramOk_sameSram hs))))) fun h =>
        ramOk_goldRestart h

/-! ### Host access to BAR2 (R334, R335) -/

theorem ramOk_memDenied {off} (hs : s.RamOk) : (s.memDenied off).RamOk := by
  unfold memDenied
  exact ramOk_flag (ramOk_setF hs)

theorem ramOk_bar2Microcode {off} (hs : s.RamOk) : (s.bar2Microcode off).RamOk := by
  unfold bar2Microcode
  split
  · exact ramOk_setEf hs
  · exact hs

/-! ### DDR4 (R341 to R349) -/

theorem ramOk_ddrCfg {v} (hs : s.RamOk) : (s.ddrCfg v).RamOk := by
  unfold ddrCfg
  exact ramOk_then (ramOk_setF (ramOk_writeReg hs)) fun h => ramOk_sameDdr h

theorem ramOk_ddrTrained {ok} (hs : s.RamOk) : (s.ddrTrained ok).RamOk := by
  unfold ddrTrained
  exact ramOk_ite hs (ramOk_ite (ramOk_setF (ramOk_sameDdr hs)) (ramOk_raise (ramOk_sameDdr hs)))

theorem ramOk_ddrSeal {v} (hs : s.RamOk) : (s.ddrSeal v).RamOk := by
  unfold ddrSeal
  exact ramOk_ite (ramOk_ddrSealPage _ hs) (ramOk_setReg hs)

theorem ramOk_ddrPv {v} (hs : s.RamOk) : (s.ddrPv v).RamOk := by
  unfold ddrPv
  exact ramOk_ite hs (ramOk_setF (ramOk_ddrForget _ hs))

theorem ramOk_ddrPvDone (hs : s.RamOk) : s.ddrPvDone.RamOk := by
  unfold ddrPvDone
  exact ramOk_ite (ramOk_setF hs) hs

theorem ramOk_ddrRefresh (hs : s.RamOk) : s.ddrRefresh.RamOk := by
  unfold ddrRefresh
  exact ramOk_ite hs (ramOk_perf (ramOk_send (ramOk_setF (ramOk_setF hs))))

theorem ramOk_ddrRecentre (hs : s.RamOk) : s.ddrRecentre.RamOk := by
  unfold ddrRecentre
  exact ramOk_ite (ramOk_send hs) hs

/-! ### DDR4 data (R343 to R346, R351 to R353) -/

theorem ramOk_ddrUpset {l} (hs : s.RamOk) : (s.ddrUpset l).RamOk := by
  unfold ddrUpset
  exact ramOk_foldl (fun _ _ h => ramOk_ite (ramOk_sameDdr h) h) _ hs

theorem ramOk_ddrRepair {p} (hs : s.RamOk) : (s.ddrRepair p).RamOk := by
  unfold ddrRepair
  exact ramOk_raise (ramOk_perf (ramOk_ddrCount (ramOk_sameDdr hs)))

theorem ramOk_ddrUe {g src} (hs : s.RamOk) : (s.ddrUe g src).RamOk := by
  unfold ddrUe
  exact ramOk_raise (ramOk_logRecord _ (ramOk_setF (ramOk_setReg (ramOk_ddrCount (ramOk_sameDdr hs)))))

theorem ramOk_ddrReadGranule {g src} (hs : s.RamOk) : (s.ddrReadGranule g src).2.RamOk := by
  unfold ddrReadGranule
  extract_lets p s1 bad s2
  have h1 : s1.RamOk := ramOk_perf hs
  have h2 : s2.RamOk := ramOk_perf (ramOk_ddrCount h1)
  clear_value s2 s1
  exact ramOk_ite_snd hs (ramOk_ite_snd (ramOk_ddrUe h1) (ramOk_ite_snd h1 (ramOk_ite_snd (ramOk_ddrRepair h2) (ramOk_ddrUe h2))))

theorem ramOk_ddrRead {a len src} (hs : s.RamOk) : (s.ddrRead a len src).2.2.RamOk := by
  unfold ddrRead
  dsimp only
  refine ramOk_foldl_snd ?_ _ ?_
  · exact fun _ _ h => ramOk_ddrReadGranule h
  · exact hs

theorem ramOk_ddrDenied {off} (hs : s.RamOk) : (s.ddrDenied off).RamOk := by
  unfold ddrDenied
  exact ramOk_flag (ramOk_setF (ramOk_setReg hs))

theorem ramOk_ddrScrubTo {p b} (hs : s.RamOk) : (s.ddrScrubTo p b).RamOk := by
  unfold ddrScrubTo
  exact ramOk_then (ramOk_setF (ramOk_sameDdr hs)) fun h => ramOk_setF (ramOk_sameDdr h)

theorem ramOk_ddrScrub {l} (hs : s.RamOk) : (s.ddrScrub l).RamOk := by
  unfold ddrScrub
  refine ramOk_ite hs ?_
  split
  · exact ramOk_ddrScrubTo hs
  · exact ramOk_ite (ramOk_ddrScrubTo (ramOk_foldl (fun _ _ h => ramOk_ite h (ramOk_ddrReadGranule h)) _ (ramOk_ddrUpset hs)))
      (ramOk_ddrScrubTo (ramOk_foldl (fun _ _ h => ramOk_ite h (ramOk_ddrReadGranule h)) _ (ramOk_ddrUpset hs)))

theorem ramOk_ddrSleep (hs : s.RamOk) : s.ddrSleep.RamOk := by
  unfold ddrSleep
  exact ramOk_ite (ramOk_send (ramOk_setF hs)) hs

theorem ramOk_ddrResume {kept} (hs : s.RamOk) : (s.ddrResume kept).RamOk := by
  unfold ddrResume
  exact ramOk_else (ramOk_send (ramOk_setF hs)) fun h => ramOk_raise (ramOk_logRecord _ (ramOk_setF (ramOk_ddrForget _ h)))

theorem ramOk_ddrWriteReg {off v} (hs : s.RamOk) : (s.ddrWriteReg off v).RamOk := by
  unfold ddrWriteReg
  exact ramOk_ite (ramOk_ddrCfg hs) (ramOk_ite (ramOk_ddrSeal hs) (ramOk_ite (ramOk_ddrPv hs) (ramOk_then (ramOk_writeReg hs)
    fun h => ramOk_setReg h)))

theorem ramOk_memWriteReg {q off v} (hs : s.RamOk) : (s.memWriteReg q off v).RamOk := by
  unfold memWriteReg
  exact ramOk_ite (ramOk_memSeal hs) (ramOk_ite (ramOk_memInval hs) (ramOk_ite (ramOk_memRepair hs) (ramOk_writeReg hs)))

/-! ### Self-test -/

theorem ramOk_setBist {d w sig} (hs : s.RamOk) : (s.setBist d w sig).RamOk := by
  unfold setBist
  exact ramOk_mk hs

/-- The test of DDR4 leaves its contents empty, and that of another domain forgets the bytes of its SRAM. -/
theorem ramOk_bistWipe {d} (hs : s.RamOk) : (s.bistWipe d).RamOk := by
  unfold bistWipe
  extract_lets s1 s2
  have h : s2.RamOk := ramOk_foldl (fun _ _ h => ramOk_then h fun h => ramOk_clearBlk h) _ (ramOk_sramForget _ hs)
  exact ramOk_ite ⟨h.1, SMap.wf_nil _⟩ h

theorem ramOk_bistEnd (hs : s.RamOk) : s.bistEnd.RamOk := by
  unfold bistEnd
  exact ramOk_then (ramOk_then (ramOk_raise (ramOk_mk (ramOk_setReg (ramOk_setReg (ramOk_setReg (ramOk_setReg (ramOk_setB
    (ramOk_setF (ramOk_setF hs))))))))) fun h1 => ramOk_raise h1) fun h2 => ramOk_raise h2

theorem ramOk_bistPrecond {refclk rails} (hs : s.RamOk) : (s.bistPrecond refclk rails).2.RamOk := by
  unfold bistPrecond
  exact ramOk_ite_snd (ramOk_setF (ramOk_setB hs)) (ramOk_ite_snd (ramOk_setF (ramOk_setB hs)) (ramOk_ite_snd (ramOk_setF
    (ramOk_setB hs)) (ramOk_choose (ramOk_setF (ramOk_setB hs)))))

theorem ramOk_bistStart {refclk rails} (hs : s.RamOk) : (s.bistStart refclk rails).RamOk := by
  unfold bistStart
  refine ramOk_ite hs (ramOk_then (ramOk_foldl (fun _ _ h1 => ?_) _ (ramOk_bistPrecond (ramOk_mk (ramOk_setF (ramOk_setF hs)))))
    fun h2 => ramOk_bistEnd h2)
  split
  · exact ramOk_setBist h1
  · exact ramOk_mk (ramOk_bistWipe h1)

theorem ramOk_bistComplete {d x} (hs : s.RamOk) : (s.bistComplete d x).RamOk := by
  unfold bistComplete
  refine ramOk_setBist ?_
  split
  · exact hs
  · exact ramOk_draw hs

theorem ramOk_bistDone {l} (hs : s.RamOk) : (s.bistDone l).RamOk := by
  unfold bistDone
  exact ramOk_ite hs (ramOk_bistEnd (ramOk_foldl (fun _ _ h => ramOk_bistComplete h) _ hs))

theorem ramOk_bistCutDom {d cause} (hs : s.RamOk) : (s.bistCutDom d cause).RamOk := by
  unfold bistCutDom
  exact ramOk_setBist (ramOk_draw (ramOk_draw (ramOk_draw (ramOk_choose hs))))

/-! ### Lane tests (R432) -/

theorem ramOk_laneTestEnd {n subs segs} (hs : s.RamOk) : (s.laneTestEnd n subs segs).RamOk := by
  unfold laneTestEnd
  dsimp only
  exact ramOk_portsEval (ramOk_holdoverAll (ramOk_squelch (ramOk_codecRefresh (ramOk_raise (ramOk_setF (ramOk_setLane (ramOk_mk
    hs)))))))

theorem ramOk_laneTestDone {rx tx slice subs segs} (hs : s.RamOk) : (s.laneTestDone rx tx slice subs segs).RamOk := by
  unfold laneTestDone
  dsimp only
  split
  · exact hs
  · exact ramOk_laneTestEnd (ramOk_setF (ramOk_setF (ramOk_setB (ramOk_setB (ramOk_setB (ramOk_setF hs))))))

theorem ramOk_laneTestCut {cause} (hs : s.RamOk) : (s.laneTestCut cause).RamOk := by
  unfold laneTestCut
  split
  · exact hs
  · exact ramOk_laneTestEnd (ramOk_setF (ramOk_setF hs))

theorem ramOk_laneTest {v} (hs : s.RamOk) : (s.laneTest v).RamOk := by
  unfold laneTest
  exact ramOk_ite hs (ramOk_ite (ramOk_setF (ramOk_setReg hs)) (ramOk_mk (ramOk_setF (ramOk_setReg hs))))

theorem ramOk_bistCut {cause} (hs : s.RamOk) : (s.bistCut cause).RamOk := by
  unfold bistCut
  exact ramOk_laneTestCut (ramOk_ite hs (ramOk_bistEnd (ramOk_foldl (fun _ _ h => ramOk_bistCutDom h) _ hs)))

theorem ramOk_bistLapse {refclk rails} (hs : s.RamOk) : (s.bistLapse refclk rails).RamOk := by
  unfold bistLapse
  exact ramOk_ite hs (ramOk_bistCut (ramOk_bistPrecond hs))

theorem ramOk_bistParents {d} (hs : s.RamOk) : (s.bistParents d).RamOk := by
  unfold bistParents
  exact ramOk_then (ramOk_ite (ramOk_bistEnd (ramOk_foldl (fun _ _ h1 => ramOk_bistCutDom h1) _ hs)) hs) fun h2 =>
    ramOk_laneTestCut h2

/-! ### Rates (R271) -/

theorem ramOk_tbRate {n w} (hs : s.RamOk) : (s.tbRate n w).RamOk := by
  unfold tbRate
  exact ramOk_ite (ramOk_setReg (ramOk_setReg hs)) (ramOk_flag hs)

/-! ### Steps (R272, R273, R278) -/

theorem ramOk_stepRefuse {n} (hs : s.RamOk) : (s.stepRefuse n).RamOk := by
  unfold stepRefuse
  exact ramOk_flag hs

theorem ramOk_stepGo {n} (hs : s.RamOk) : (s.stepGo n).RamOk := by
  unfold stepGo
  exact ramOk_ite (ramOk_stepRefuse hs) (ramOk_setF (ramOk_mk hs))

theorem ramOk_stepCancel {n} (hs : s.RamOk) : (s.stepCancel n).RamOk := by
  unfold stepCancel
  exact ramOk_setF (ramOk_mk hs)

/-! ### Pulse outputs (R284, R285) -/

theorem ramOk_tpoDrive {k on} (hs : s.RamOk) : (s.tpoDrive k on).RamOk := by
  unfold tpoDrive
  exact ramOk_ite hs (ramOk_send (ramOk_setB hs))

theorem ramOk_tpoApply {k} (hs : s.RamOk) : (s.tpoApply k).RamOk := by
  unfold tpoApply
  exact ramOk_tpoDrive (ramOk_mk hs)

theorem ramOk_tpoEdge {k} (hs : s.RamOk) : (s.tpoEdge k).RamOk := by
  unfold tpoEdge
  exact ramOk_ite hs (ramOk_ite (ramOk_ite (ramOk_flag (ramOk_tpoDrive hs)) (ramOk_ite (ramOk_tpoDrive (ramOk_mk hs)) hs))
    (ramOk_ite (ramOk_ite (ramOk_tpoDrive hs) (ramOk_ite (ramOk_tpoDrive hs) hs)) hs))

theorem ramOk_tpoJumped {n old} (hs : s.RamOk) : (s.tpoJumped n old).RamOk := by
  unfold tpoJumped
  exact ramOk_foldl (fun _ _ h => ramOk_ite (ramOk_flag (ramOk_tpoDrive (ramOk_mk h))) h) _ hs

theorem ramOk_tbMoved {n old} (hs : s.RamOk) : (s.tbMoved n old).RamOk := by
  unfold tbMoved
  exact ramOk_tpoJumped (ramOk_tbJumped hs)

theorem ramOk_stepApply {n} (hs : s.RamOk) : (s.stepApply n).RamOk := by
  unfold stepApply
  dsimp only
  split
  · exact hs
  · exact ramOk_ite (ramOk_stepRefuse (ramOk_stepCancel hs)) (ramOk_tbMoved (ramOk_raise (ramOk_setReg (ramOk_setF (ramOk_setF
      (ramOk_setTb (ramOk_stepCancel hs)))))))

theorem ramOk_stepTick {n} (hs : s.RamOk) : (s.stepTick n).RamOk := by
  unfold stepTick
  split
  · exact ramOk_ite (ramOk_stepApply hs) hs
  · exact hs

theorem ramOk_tbSeed {n} (hs : s.RamOk) : (s.tbSeed n).RamOk := by
  unfold tbSeed
  exact ramOk_setF hs

theorem ramOk_tbCtl {n v} (hs : s.RamOk) : (s.tbCtl n v).RamOk := by
  unfold tbCtl
  exact ramOk_then (ramOk_then (ramOk_then (ramOk_ite (ramOk_tbStopped (ramOk_setF (ramOk_stepCancel (ramOk_writeReg hs))))
    (ramOk_then (ramOk_writeReg hs) fun h1 => ramOk_tbSeed (ramOk_setF h1))) fun h1 => ramOk_setReg (ramOk_setF h1)) fun h2 =>
    ramOk_stepCancel h2) fun h3 => ramOk_stepGo h3

/-! ### Snapshots (R274) -/

theorem ramOk_timeSnap (hs : s.RamOk) : s.timeSnap.RamOk := by
  unfold timeSnap
  exact ramOk_setF (ramOk_setReg (ramOk_setReg (ramOk_foldl (fun _ _ h => ramOk_setReg (ramOk_setReg (ramOk_setReg h))) _ hs)))

/-! ### Stamps -/

theorem ramOk_stampAt {n ps} (hs : s.RamOk) : (s.stampAt n ps).2.RamOk := by
  unfold stampAt
  exact ramOk_ite_snd hs (ramOk_draw (w := 96) hs)

theorem ramOk_tpiEdge {j falling} (hs : s.RamOk) : (s.tpiEdge j falling).RamOk := by
  unfold tpiEdge
  refine ramOk_ite hs (ramOk_else (ramOk_foldl (fun _ _ h1 => ?_) _ hs) fun h2 => ramOk_ite (ramOk_flag h2) (ramOk_raise
    (ramOk_setF (ramOk_mk (ramOk_stampAt h2)))))
  split
  · exact ramOk_ite (ramOk_stepApply h1) h1
  · exact h1

theorem ramOk_tpiPop {j} (hs : s.RamOk) : (s.tpiPop j).RamOk := by
  unfold tpiPop
  exact ramOk_setF (ramOk_mk hs)

/-! ### Port TSUs (R279 to R282) -/

theorem ramOk_setPtsu {p u} (hs : s.RamOk) : (s.setPtsu p u).RamOk := by
  unfold setPtsu
  exact ramOk_mk hs

theorem ramOk_ptsuPush {p hostBound x} (hs : s.RamOk) : (s.ptsuPush p hostBound x).RamOk := by
  unfold ptsuPush
  exact ramOk_ite (ramOk_raise (ramOk_setReg (ramOk_setPtsu hs))) (ramOk_then (ramOk_setPtsu hs) fun h => ramOk_raise h)

theorem ramOk_ptsuStamp {p i hostBound kind pos key} (hs : s.RamOk) : (s.ptsuStamp p i hostBound kind pos key).RamOk := by
  unfold ptsuStamp
  split
  · exact hs
  · exact ramOk_ptsuPush (ramOk_stampAt (ramOk_setPtsu hs))

theorem ramOk_frameStamp {p i hostBound marker bytes key} (hs : s.RamOk) : (s.frameStamp p i hostBound marker bytes key).RamOk
  := by
  unfold frameStamp
  exact ramOk_ite hs (ramOk_ite (ramOk_ite (ramOk_ptsuStamp hs) hs) (ramOk_ite (ramOk_ptsuStamp hs) hs))

theorem ramOk_ptPop {v} (hs : s.RamOk) : (s.ptPop v).RamOk := by
  unfold ptPop
  exact ramOk_ite hs (ramOk_setPtsu hs)

theorem ramOk_ltPop (hs : s.RamOk) : s.ltPop.RamOk := by
  unfold ltPop
  exact ramOk_ite (ramOk_setLtsu hs) hs

theorem ramOk_tsuWrite {off v} (hs : s.RamOk) : (s.tsuWrite off v).RamOk := by
  unfold tsuWrite
  exact ramOk_ite (ramOk_ite (ramOk_setPtsu hs) hs) (ramOk_ite (ramOk_ite (ramOk_setPtsu hs) hs) (ramOk_ite (ramOk_ite
    (ramOk_setPtsu hs) hs) (ramOk_ite (ramOk_ite (ramOk_setPtsu hs) hs) (ramOk_ite (ramOk_ite (ramOk_setPtsu hs) hs) (ramOk_ite
    (ramOk_ite (ramOk_setPtsu hs) hs) (ramOk_ite (ramOk_ite (ramOk_setPtsu hs) hs) (ramOk_ite (ramOk_ptPop hs) (ramOk_ite
    (ramOk_ite (ramOk_setLtsu hs) hs) (ramOk_ite (ramOk_ite (ramOk_setLtsu hs) hs) (ramOk_ite (ramOk_ite (ramOk_ltPop hs) hs)
    (ramOk_ite (ramOk_foldl (fun _ _ h1 => ramOk_ite (ramOk_setPtsu h1) h1) _ (ramOk_writeReg hs)) (ramOk_then (ramOk_writeReg
    hs) fun h2 => ramOk_foldl (fun _ _ h3 => ramOk_ite (ramOk_setLtsu h3) h3) _ h2))))))))))))

theorem ramOk_timeWrite {off v} (hs : s.RamOk) : (s.timeWrite off v).RamOk := by
  unfold timeWrite
  exact ramOk_ite (ramOk_ite (ramOk_timeSnap hs) hs) (ramOk_ite (ramOk_ite (ramOk_tpiPop hs) hs) (ramOk_then (ramOk_writeReg hs)
    fun h => ramOk_ite (ramOk_tbCtl hs) (ramOk_ite hs h)))

/-! ### The event scheduler's registers (R289, R292) -/

theorem ramOk_histPop (hs : s.RamOk) : s.histPop.RamOk := by
  unfold histPop
  exact ramOk_mk hs

theorem ramOk_schedWrite {off v} (hs : s.RamOk) : (s.schedWrite off v).RamOk := by
  unfold schedWrite
  exact ramOk_ite (ramOk_seWrite hs) (ramOk_ite (ramOk_ite (ramOk_histPop hs) hs) (ramOk_writeReg hs))

end State
end Sys2Proof.Machine
end

section
/-! Memory keeps its canonical form (O60): housekeeping, DMA, the Logbook's drain, power and its domains. -/

namespace Sys2Proof.Machine
namespace State

variable {s : State}

/-! ### References, slots and passes (R301 to R305) -/

theorem ramOk_setHkc {c h} (hs : s.RamOk) : (s.setHkc c h).RamOk := by
  unfold setHkc
  exact ramOk_mk hs

theorem ramOk_hkRefused (hs : s.RamOk) : s.hkRefused.RamOk := by
  unfold hkRefused
  exact ramOk_flag hs

theorem ramOk_hkShowGdly {c} (hs : s.RamOk) : (s.hkShowGdly c).RamOk := by
  unfold hkShowGdly
  exact ramOk_setReg hs

theorem ramOk_hkStartVisit {c k} (hs : s.RamOk) : (s.hkStartVisit c k).RamOk := by
  unfold hkStartVisit
  exact ramOk_hkShowGdly (ramOk_setHkc (ramOk_setF hs))

theorem ramOk_hkRestart {c} (hs : s.RamOk) : (s.hkRestart c).RamOk := by
  unfold hkRestart
  exact ramOk_then (ramOk_setHkc hs) fun h => ramOk_hkStartVisit h

theorem ramOk_hkStop {c} (hs : s.RamOk) : (s.hkStop c).RamOk := by
  unfold hkStop
  exact ramOk_setHkc (ramOk_setF hs)

theorem ramOk_hkPassEnd {c} (hs : s.RamOk) : (s.hkPassEnd c).RamOk := by
  unfold hkPassEnd
  exact ramOk_ite (ramOk_hkStartVisit hs) (ramOk_raise (ramOk_hkStop hs))

theorem ramOk_hkTrigger {c} (hs : s.RamOk) : (s.hkTrigger c).RamOk := by
  unfold hkTrigger
  exact ramOk_ite (ramOk_setF hs) (ramOk_ite hs (ramOk_hkStartVisit (ramOk_setF hs)))

theorem ramOk_hkStopCmd {c} (hs : s.RamOk) : (s.hkStopCmd c).RamOk := by
  unfold hkStopCmd
  exact ramOk_ite hs (ramOk_else (ramOk_hkStop hs) fun h => ramOk_raise h)

theorem ramOk_hkCtl {c v} (hs : s.RamOk) : (s.hkCtl c v).RamOk := by
  unfold hkCtl
  exact ramOk_then (ramOk_then (ramOk_then (ramOk_writeReg hs) fun h1 => ramOk_hkStop h1) fun h1 => ramOk_hkStopCmd h1)
    fun h2 => ramOk_hkTrigger h2

theorem ramOk_hkFire {mask} (hs : s.RamOk) : (s.hkFire mask).RamOk := by
  unfold hkFire
  exact ramOk_ite hs (ramOk_foldl (fun _ _ h => ramOk_ite (ramOk_hkTrigger h) h) _ hs)

theorem ramOk_hkCalAbort {c} (hs : s.RamOk) : (s.hkCalAbort c).RamOk := by
  unfold hkCalAbort
  exact ramOk_ite (ramOk_hkRestart (ramOk_setF (ramOk_setF hs))) hs

theorem ramOk_hkRefCtl {v} (hs : s.RamOk) : (s.hkRefCtl v).RamOk := by
  unfold hkRefCtl
  exact ramOk_ite (ramOk_hkRefused hs) (ramOk_foldl (g := hkCalAbort) (fun _ _ h => ramOk_hkCalAbort h) _ (ramOk_setF
    (ramOk_writeReg hs)))

theorem ramOk_hkRefSettled (hs : s.RamOk) : s.hkRefSettled.RamOk := by
  unfold hkRefSettled
  exact ramOk_ite hs (ramOk_flag hs)

theorem ramOk_hkCalCtl {c v} (hs : s.RamOk) : (s.hkCalCtl c v).RamOk := by
  unfold hkCalCtl
  exact ramOk_else (ramOk_writeReg hs) fun h => ramOk_ite (ramOk_hkRefused h) (ramOk_setF h)

theorem ramOk_hkCalDone {c cal} (hs : s.RamOk) : (s.hkCalDone c cal).RamOk := by
  unfold hkCalDone
  exact ramOk_ite hs (ramOk_raise (ramOk_hkRestart (ramOk_setF (ramOk_setHkc hs))))

theorem ramOk_hkFactAt {c g v} (hs : s.RamOk) : (s.hkFactAt c g v).RamOk := by
  unfold hkFactAt
  exact ramOk_setHkc hs

theorem ramOk_hkFact {c v} (hs : s.RamOk) : (s.hkFact c v).RamOk := by
  unfold hkFact
  exact ramOk_hkFactAt hs

theorem ramOk_hkSeq {c k v} (hs : s.RamOk) : (s.hkSeq c k v).RamOk := by
  unfold hkSeq
  exact ramOk_ite (ramOk_hkRefused hs) (ramOk_writeReg hs)

theorem ramOk_hkSlotChanged {c k old} (hs : s.RamOk) : (s.hkSlotChanged c k old).RamOk := by
  unfold hkSlotChanged
  exact ramOk_ite (ramOk_hkRestart hs) hs

theorem ramOk_filtChanged {c} (hs : s.RamOk) : (s.filtChanged c).RamOk := by
  unfold filtChanged
  exact ramOk_hkShowGdly (ramOk_ite (ramOk_setHkc hs) hs)

/-! ### Results (R306 to R312) -/

theorem ramOk_hkCompare {c k input data} (hs : s.RamOk) : (s.hkCompare c k input data).RamOk := by
  unfold hkCompare
  exact ramOk_ite hs (ramOk_then (ramOk_ite (ramOk_flag hs) hs) fun h => ramOk_flag h)

theorem ramOk_hkPush {c r} (hs : s.RamOk) : (s.hkPush c r).RamOk := by
  unfold hkPush
  exact ramOk_ite (ramOk_flag (ramOk_setReg hs)) (ramOk_then (ramOk_setF (ramOk_setHkc hs)) fun h => ramOk_raise h)

theorem ramOk_hkResult {c x} (hs : s.RamOk) : (s.hkResult c x).RamOk := by
  unfold hkResult
  exact ramOk_ite hs (ramOk_else (ramOk_then (ramOk_then (ramOk_setHkc (ramOk_ite_snd (ramOk_stampAt hs) hs)) fun h1 =>
    ramOk_hkCompare (ramOk_hkCompare h1)) fun h2 => ramOk_hkPush h2) fun h2 => ramOk_ite (ramOk_hkStartVisit h2)
    (ramOk_hkPassEnd h2))

theorem ramOk_hkPop {c} (hs : s.RamOk) : (s.hkPop c).RamOk := by
  unfold hkPop
  exact ramOk_setF (ramOk_setHkc hs)

theorem ramOk_hkClaim {c on} (hs : s.RamOk) : (s.hkClaim c on).RamOk := by
  unfold hkClaim
  exact ramOk_ite hs (ramOk_ite (ramOk_setF (ramOk_hkStop (ramOk_hkCalAbort hs))) (ramOk_setF hs))

theorem ramOk_fogHkRx {v} (hs : s.RamOk) : (s.fogHkRx v).RamOk := by
  unfold fogHkRx
  exact ramOk_then (ramOk_then (ramOk_writeReg hs) fun h => ramOk_hkClaim h) fun h => ramOk_hkClaim h

theorem ramOk_filtRefused (hs : s.RamOk) : s.filtRefused.RamOk := by
  unfold filtRefused
  exact ramOk_flag hs

theorem ramOk_fcoefAdvance (hs : s.RamOk) : s.fcoefAdvance.RamOk := by
  unfold fcoefAdvance
  exact ramOk_idxAdvance hs

theorem ramOk_fcoefWrite {v} (hs : s.RamOk) : (s.fcoefWrite v).RamOk := by
  unfold fcoefWrite
  exact ramOk_fcoefAdvance (ramOk_ite (ramOk_filtRefused hs) (ramOk_mk hs))

theorem ramOk_flenWrite {c v} (hs : s.RamOk) : (s.flenWrite c v).RamOk := by
  unfold flenWrite
  exact ramOk_ite (ramOk_writeReg hs) (ramOk_filtRefused hs)

/-! ### HDAC channels (R313 to R319) -/

theorem ramOk_setStream {n on} (hs : s.RamOk) : (s.setStream n on).RamOk := by
  unfold setStream
  exact ramOk_mk hs

theorem ramOk_hdacOut {n v} (hs : s.RamOk) : (s.hdacOut n v).RamOk := by
  unfold hdacOut
  exact ramOk_ite hs (ramOk_send (ramOk_setF hs))

theorem ramOk_hdacTick {n} (hs : s.RamOk) : (s.hdacTick n).RamOk := by
  unfold hdacTick
  exact ramOk_ite hs (ramOk_ite (ramOk_hdacOut hs) (ramOk_hdacOut (ramOk_draw hs)))

theorem ramOk_hdacLoad {n} (hs : s.RamOk) : (s.hdacLoad n).RamOk := by
  unfold hdacLoad
  exact ramOk_ite hs (ramOk_ite (ramOk_hdacTick (ramOk_setF (ramOk_setF hs))) (ramOk_hdacOut (ramOk_setF (ramOk_setF hs))))

theorem ramOk_hdacCodeWrite {n v} (hs : s.RamOk) : (s.hdacCodeWrite n v).RamOk := by
  unfold hdacCodeWrite
  dsimp only
  split
  · exact ramOk_hdacLoad (ramOk_writeReg hs)
  · exact ramOk_hdacTick (ramOk_writeReg hs)
  · exact ramOk_writeReg hs

theorem ramOk_hdacStrobe {g} (hs : s.RamOk) : (s.hdacStrobe g).RamOk := by
  unfold hdacStrobe
  exact ramOk_ite hs (ramOk_foldl (fun _ _ h => ramOk_ite (ramOk_hdacLoad h) h) _ hs)

theorem ramOk_hdacResume {n} (hs : s.RamOk) : (s.hdacResume n).RamOk := by
  unfold hdacResume
  exact ramOk_ite hs (ramOk_hdacLoad (ramOk_setStream hs))

theorem ramOk_hdacClear {n} (hs : s.RamOk) : (s.hdacClear n).RamOk := by
  unfold hdacClear
  exact ramOk_ite (ramOk_hdacOut (ramOk_setStream (ramOk_setF hs))) hs

theorem ramOk_hdacChange {n} (hs : s.RamOk) : (s.hdacChange n).RamOk := by
  unfold hdacChange
  exact ramOk_hdacOut (ramOk_setF hs)

theorem ramOk_hdacCtlChanged {n old} (hs : s.RamOk) : (s.hdacCtlChanged n old).RamOk := by
  unfold hdacCtlChanged
  exact ramOk_else (ramOk_ite hs (ramOk_setStream hs)) fun h => ramOk_hdacChange h

theorem ramOk_hdacRefused (hs : s.RamOk) : s.hdacRefused.RamOk := by
  unfold hdacRefused
  exact ramOk_flag hs

theorem ramOk_hdacCtl {n v} (hs : s.RamOk) : (s.hdacCtl n v).RamOk := by
  unfold hdacCtl
  exact ramOk_ite (ramOk_hdacRefused hs) (ramOk_then (ramOk_hdacClear (ramOk_hdacCtlChanged (ramOk_writeReg hs))) fun h =>
    ramOk_hdacResume h)

theorem ramOk_hdacChangeDone {n} (hs : s.RamOk) : (s.hdacChangeDone n).RamOk := by
  unfold hdacChangeDone
  exact ramOk_ite hs (ramOk_ite (ramOk_hdacOut (ramOk_raise (ramOk_setF hs))) (ramOk_ite (ramOk_hdacTick (ramOk_raise
    (ramOk_setF hs))) (ramOk_hdacOut (ramOk_raise (ramOk_setF hs)))))

theorem ramOk_hdacFall (hs : s.RamOk) : s.hdacFall.RamOk := by
  unfold hdacFall
  dsimp only
  exact ramOk_ite hs (ramOk_foldl (g := hdacClear) (fun _ _ h => ramOk_hdacClear h) _ (ramOk_flag (ramOk_setF hs)))

theorem ramOk_hdacRise (hs : s.RamOk) : s.hdacRise.RamOk := by
  unfold hdacRise
  exact ramOk_ite (ramOk_setF hs) hs

theorem ramOk_hdacShort {n on} (hs : s.RamOk) : (s.hdacShort n on).RamOk := by
  unfold hdacShort
  exact ramOk_ite hs (ramOk_ite (ramOk_flag (ramOk_setF hs)) (ramOk_setF hs))

theorem ramOk_hdacCompliance {n on} (hs : s.RamOk) : (s.hdacCompliance n on).RamOk := by
  unfold hdacCompliance
  exact ramOk_ite hs (ramOk_ite (ramOk_flag (ramOk_setF hs)) (ramOk_setF hs))

theorem ramOk_hdacWrite {off v} (hs : s.RamOk) : (s.hdacWrite off v).RamOk := by
  unfold hdacWrite
  exact ramOk_ite (ramOk_hdacStrobe hs) (ramOk_then (ramOk_writeReg hs) fun h => ramOk_ite (ramOk_hdacCtl hs) (ramOk_ite
    (ramOk_hdacCodeWrite hs) (ramOk_then h fun h => ramOk_hdacClear h)))

theorem ramOk_hkWrite {off v} (hs : s.RamOk) : (s.hkWrite off v).RamOk := by
  unfold hkWrite
  exact ramOk_ite (ramOk_hkRefCtl hs) (ramOk_then (ramOk_writeReg hs) fun h => ramOk_ite (ramOk_hkCtl hs) (ramOk_ite
    (ramOk_hkCalCtl hs) (ramOk_ite (ramOk_hkFact hs) (ramOk_ite (ramOk_ite (ramOk_hkPop hs) hs) (ramOk_ite (ramOk_hkSeq hs)
    h)))))

theorem ramOk_filtWrite {off v} (hs : s.RamOk) : (s.filtWrite off v).RamOk := by
  unfold filtWrite
  exact ramOk_ite (ramOk_fcoefWrite hs) (ramOk_ite (ramOk_flenWrite hs) (ramOk_writeReg hs))

theorem ramOk_hkPowerUp (hs : s.RamOk) : s.hkPowerUp.RamOk := by
  unfold hkPowerUp
  exact ramOk_else (ramOk_foldl (fun _ _ h1 => ramOk_hdacOut h1) _ (ramOk_mk hs)) fun h2 => ramOk_hdacFall h2

theorem ramOk_hkAbandon (hs : s.RamOk) : s.hkAbandon.RamOk := by
  unfold hkAbandon
  exact ramOk_foldl (fun _ _ h => ramOk_ite (ramOk_hkStop h) h) _ hs

theorem ramOk_clrFall (hs : s.RamOk) : s.clrFall.RamOk := by
  unfold clrFall
  exact ramOk_ite hs (ramOk_then (ramOk_mk hs) fun h1 => ramOk_hdacFall (ramOk_squelchAll (ramOk_foldl (g := clrFallLane)
    (fun _ _ h2 => ramOk_clrFallLane h2) _ h1)))

theorem ramOk_clrRise (hs : s.RamOk) : s.clrRise.RamOk := by
  unfold clrRise
  exact ramOk_hdacRise (ramOk_squelchAll (ramOk_mk hs))

/-! ### Channels -/

theorem ramOk_modDma {c g} (hs : s.RamOk) : (s.modDma c g).RamOk := by
  unfold modDma
  exact ramOk_mk hs

theorem ramOk_dmaGoto {c n} (hs : s.RamOk) : (s.dmaGoto c n).RamOk := by
  unfold dmaGoto
  exact ramOk_setF hs

theorem ramOk_dmaRefused (hs : s.RamOk) : s.dmaRefused.RamOk := by
  unfold dmaRefused
  exact ramOk_flag hs

theorem ramOk_dmaGo {c} (hs : s.RamOk) : (s.dmaGo c).RamOk := by
  unfold dmaGo
  exact ramOk_dmaGoto hs

theorem ramOk_dmaTail {c v} (hs : s.RamOk) : (s.dmaTail c v).RamOk := by
  unfold dmaTail
  exact ramOk_then (ramOk_writeReg hs) fun h => ramOk_dmaGo h

theorem ramOk_dmaRing {c hi v} (hs : s.RamOk) : (s.dmaRing c hi v).RamOk := by
  unfold dmaRing
  exact ramOk_ite (ramOk_dmaRefused hs) (ramOk_ite (ramOk_writeReg hs) (ramOk_setReg (ramOk_setReg (ramOk_writeReg hs))))

/-! ### Moving bytes -/

theorem ramOk_dmaSramOk {w write} (hs : s.RamOk) : (s.dmaSramOk w write).2.RamOk := by
  unfold dmaSramOk
  split
  · exact hs
  · exact ramOk_ite_snd (ramOk_offRecord hs) hs

theorem ramOk_dmaReadSram {a n host} (hs : s.RamOk) : (s.dmaReadSram a n host).st.RamOk := by
  unfold dmaReadSram
  exact ramOk_foldl_st (fun _ _ h => ramOk_ite_st h (ramOk_ite_st (ramOk_ite_snd (ramOk_dmaSramOk h) h) (ramOk_ite_st
    (ramOk_sramRead _ _ (ramOk_ite_snd (ramOk_dmaSramOk h) h)) (ramOk_sramRead _ _ (ramOk_ite_snd (ramOk_dmaSramOk h) h))))) _
    hs

theorem ramOk_dmaDdrOk {g write} (hs : s.RamOk) : (s.dmaDdrOk g write).2.RamOk := by
  unfold dmaDdrOk
  exact ramOk_ite_snd (ramOk_offRecord hs) hs

theorem ramOk_dmaReadDdr {a n} (hs : s.RamOk) : (s.dmaReadDdr a n).st.RamOk := by
  unfold dmaReadDdr
  exact ramOk_foldl_st (fun _ _ h => ramOk_ite_st h (ramOk_ite_st (ramOk_dmaDdrOk h) (ramOk_ite_st (ramOk_ddrRead
    (ramOk_dmaDdrOk h)) (ramOk_ddrRead (ramOk_dmaDdrOk h))))) _ hs

theorem ramOk_dmaReadHost {n host} (hs : s.RamOk) : (s.dmaReadHost n host).st.RamOk := by
  unfold dmaReadHost
  exact ramOk_ite_st hs (ramOk_ite_st hs (ramOk_tlps (ramOk_tlps hs)))

theorem ramOk_tapFill (hs : s.RamOk) : s.tapFill.RamOk := by
  unfold tapFill
  exact ramOk_setF hs

theorem ramOk_dmaReadTap {c n} (hs : s.RamOk) : (s.dmaReadTap c n).st.RamOk := by
  unfold dmaReadTap
  refine ramOk_ite_st hs (ramOk_tapFill ?_)
  refine foldl_prop (p := fun r : Bool × DmaMove => r.2.st.RamOk) (fun r b h => ?_) s.tap.ring hs
  dsimp only
  split
  · exact h
  · exact ramOk_else (ramOk_mk (ramOk_dmaReadSram h)) fun _ => ramOk_dmaReadSram h

theorem ramOk_dmaRead {c space a n host} (hs : s.RamOk) : (s.dmaRead c space a n host).st.RamOk := by
  unfold dmaRead
  split
  · exact ramOk_dmaReadHost hs
  · exact ramOk_dmaReadSram hs
  · exact ramOk_dmaReadDdr hs
  · exact ramOk_dmaReadTap hs

theorem ramOk_dmaRoom {space a n} (hs : s.RamOk) : (s.dmaRoom space a n).2.RamOk := by
  unfold dmaRoom
  split
  · exact ramOk_ite_snd hs hs
  · refine ramOk_foldl_snd (fun _ _ h1 => ?_) _ hs
    split
    · exact h1
    · exact ramOk_ite_snd (ramOk_dmaSramOk h1) (ramOk_dmaSramOk h1)
  · refine ramOk_foldl_snd (fun _ _ h2 => ?_) _ hs
    split
    · exact h2
    · exact ramOk_ite_snd (ramOk_dmaDdrOk h2) (ramOk_dmaDdrOk h2)

theorem ramOk_dmaPut {space a data final} (hs : s.RamOk) : (s.dmaPut space a data final).RamOk := by
  unfold dmaPut
  refine ramOk_ite hs ?_
  split
  · exact ramOk_ite (ramOk_tlps (ramOk_send hs)) hs
  · exact ramOk_foldl (fun _ _ h => ramOk_bar2Microcode h) _ (ramOk_sramWrite _ _ hs)
  · exact ramOk_ddrWrite _ _ _ hs

theorem ramOk_dmaBytes {c n} (hs : s.RamOk) : (s.dmaBytes c n).RamOk := by
  unfold dmaBytes
  exact ramOk_perf (ramOk_countFlag48 hs)

theorem ramOk_dmaStep {c n host} (hs : s.RamOk) : (s.dmaStep c n host).2.RamOk := by
  unfold dmaStep
  split
  · exact hs
  · exact ramOk_dmaBytes (ramOk_modDma (ramOk_dmaPut (ramOk_dmaRead (ramOk_dmaRoom hs))))

/-! ### Descriptors -/

theorem ramOk_dmaBoundary {c status stop} (hs : s.RamOk) : (s.dmaBoundary c status stop).RamOk := by
  unfold dmaBoundary
  exact ramOk_ite (ramOk_dmaGoto (ramOk_modDma hs)) (ramOk_ite (ramOk_dmaGoto (ramOk_modDma hs)) (ramOk_ite (ramOk_dmaGoto
    (ramOk_modDma hs)) (ramOk_dmaGo (ramOk_modDma hs))))

theorem ramOk_dmaComplete {c status len intOn stop} (hs : s.RamOk) : (s.dmaComplete c status len intOn stop).RamOk := by
  unfold dmaComplete
  exact ramOk_dmaBoundary (ramOk_then (ramOk_then (ramOk_setF (ramOk_setReg (ramOk_ite (ramOk_sramWrite _ _ hs) (ramOk_ite
    (ramOk_tlp (ramOk_send hs)) hs)))) fun h1 => ramOk_raise (ramOk_setReg h1)) fun h2 => ramOk_raise (ramOk_setReg (ramOk_setF
    h2)))

theorem ramOk_dmaStart {c host} (hs : s.RamOk) : (s.dmaStart c host).RamOk := by
  unfold dmaStart
  exact ramOk_ite hs (ramOk_ite hs (ramOk_ite (ramOk_dmaComplete (ramOk_modDma (ramOk_ite_st (ramOk_dmaReadSram hs)
    (ramOk_dmaReadHost hs)))) (ramOk_then (ramOk_modDma (ramOk_ite_st (ramOk_dmaReadSram hs) (ramOk_dmaReadHost hs))) fun h =>
    ramOk_dmaComplete h)))

theorem ramOk_dmaDone {c host writeErr} (hs : s.RamOk) : (s.dmaDone c host writeErr).RamOk := by
  unfold dmaDone
  split
  · exact hs
  · exact ramOk_ite hs (ramOk_else (ramOk_dmaStep hs) fun h => ramOk_dmaComplete h)

theorem ramOk_dmaLate {c idx} (hs : s.RamOk) : (s.dmaLate c idx).RamOk := by
  unfold dmaLate
  exact ramOk_ite hs (ramOk_ite (ramOk_dmaGoto (ramOk_modDma (ramOk_logRecord _ (ramOk_stampEvt (ramOk_raise (ramOk_setF
    (ramOk_ite hs (ramOk_setReg hs)))))))) (ramOk_then (ramOk_logRecord _ (ramOk_stampEvt (ramOk_raise (ramOk_setF (ramOk_ite hs
    (ramOk_setReg hs)))))) fun h => ramOk_dmaGoto h))

theorem ramOk_dmaStop {c} (hs : s.RamOk) : (s.dmaStop c).RamOk := by
  unfold dmaStop
  exact ramOk_ite (ramOk_dmaGoto (ramOk_modDma hs)) (ramOk_ite (ramOk_dmaGoto hs) hs)

theorem ramOk_dmaAbort {c} (hs : s.RamOk) : (s.dmaAbort c).RamOk := by
  unfold dmaAbort
  split
  · exact ramOk_dmaStop hs
  · exact ramOk_dmaComplete hs

theorem ramOk_dmaCtl {c v} (hs : s.RamOk) : (s.dmaCtl c v).RamOk := by
  unfold dmaCtl
  exact ramOk_then (ramOk_then (ramOk_then (ramOk_then (ramOk_writeReg hs) fun h => ramOk_dmaRefused h) fun h => ramOk_dmaGo h)
    fun h => ramOk_dmaStop h) fun h => ramOk_dmaAbort h

theorem ramOk_dmaAliasCtl {c v} (hs : s.RamOk) : (s.dmaAliasCtl c v).RamOk := by
  unfold dmaAliasCtl
  exact ramOk_dmaCtl hs

/-! ### Bus share (R365) -/

theorem ramOk_dmaWindow {moves} (hs : s.RamOk) : (s.dmaWindow moves).RamOk := by
  unfold dmaWindow
  refine ramOk_ite hs (ramOk_setF (ramOk_foldl_snd (fun _ _ h1 => ramOk_ite_snd h1 ?_) _ hs))
  dsimp only
  split
  · exact ramOk_then (ramOk_dmaStep h1) fun h2 => ramOk_dmaComplete h2
  · exact ramOk_dmaStep h1

/-! ### Payload tap (R367 to R369) -/

theorem ramOk_tapLost {n} (hs : s.RamOk) : (s.tapLost n).RamOk := by
  unfold tapLost
  exact ramOk_mk (ramOk_satReg hs)

theorem ramOk_tapClose (hs : s.RamOk) : s.tapClose.RamOk := by
  unfold tapClose
  split
  · exact hs
  · exact ramOk_ite (ramOk_perf (ramOk_flag (ramOk_tapLost (ramOk_countFlag32 (ramOk_mk hs))))) (ramOk_perf (ramOk_tapFill
      (ramOk_mk (ramOk_sramWrite _ _ (ramOk_countFlag32 (ramOk_mk hs))))))

theorem ramOk_tapDue (hs : s.RamOk) : s.tapDue.RamOk := by
  unfold tapDue
  split
  · exact hs
  · exact ramOk_ite (ramOk_mk (ramOk_tapClose hs)) (ramOk_ite (ramOk_tapClose hs) hs)

theorem ramOk_tapAdmits (hs : s.RamOk) : s.tapAdmits.2.RamOk := by
  unfold tapAdmits
  exact ramOk_ite_snd hs (ramOk_mk hs)

theorem ramOk_tapWord {p hb o cw pos} (hs : s.RamOk) : (s.tapWord p hb o cw pos).RamOk := by
  unfold tapWord
  exact ramOk_ite hs (ramOk_ite hs (ramOk_ite (ramOk_tapLost (ramOk_ite_snd (ramOk_tapAdmits (ramOk_tapDue hs)) (ramOk_tapDue
    hs))) (ramOk_mk (ramOk_ite_snd (ramOk_tapAdmits (ramOk_tapDue hs)) (ramOk_tapDue hs)))))

theorem ramOk_rsCodeword {p hb flow o cw} (hs : s.RamOk) : (s.rsCodeword p hb flow o cw).RamOk := by
  unfold rsCodeword
  exact ramOk_then (ramOk_rsMonitored hs) fun h => ramOk_tapWord h

theorem ramOk_tapCtl {v} (hs : s.RamOk) : (s.tapCtl v).RamOk := by
  unfold tapCtl
  exact ramOk_ite (ramOk_dmaRefused hs) (ramOk_setB (ramOk_writeReg (ramOk_ite hs (ramOk_tapClose (ramOk_tapDue hs)))))

theorem ramOk_tapPlace {off v} (hs : s.RamOk) : (s.tapPlace off v).RamOk := by
  unfold tapPlace
  exact ramOk_tapFill (ramOk_mk (ramOk_writeReg hs))

/-! ### Power handshake (R366) -/

theorem ramOk_dmaPwrAsk {doms} (hs : s.RamOk) : (s.dmaPwrAsk doms).2.RamOk := by
  unfold dmaPwrAsk
  exact ramOk_foldl (fun _ _ h1 => ramOk_else (ramOk_modDma h1) fun h2 => ramOk_dmaAbort h2) _ (ramOk_ite (ramOk_tapClose
    (ramOk_tapDue hs)) hs)

theorem ramOk_dmaPwrAbandon (hs : s.RamOk) : s.dmaPwrAbandon.RamOk := by
  unfold dmaPwrAbandon
  exact ramOk_foldl (fun _ _ h => ramOk_ite (ramOk_modDma h) h) _ hs

/-! ### Registers -/

theorem ramOk_dmaWriteReg {off v} (hs : s.RamOk) : (s.dmaWriteReg off v).RamOk := by
  unfold dmaWriteReg
  exact ramOk_ite (ramOk_tapCtl hs) (ramOk_ite (ramOk_tapPlace hs) (ramOk_else (ramOk_writeReg hs) fun h => ramOk_ite
    (ramOk_dmaCtl hs) (ramOk_ite (ramOk_dmaTail hs) (ramOk_ite (ramOk_dmaRing hs) (ramOk_ite (ramOk_dmaRing hs) h)))))

/-! ### The Logbook -/

theorem ramOk_logRefused (hs : s.RamOk) : s.logRefused.RamOk := by
  unfold logRefused
  exact ramOk_flag hs

theorem ramOk_logRegion {off v} (hs : s.RamOk) : (s.logRegion off v).RamOk := by
  unfold logRegion
  exact ramOk_ite (ramOk_logRefused hs) (ramOk_writeReg hs)

theorem ramOk_anchClr (hs : s.RamOk) : s.anchClr.RamOk := by
  unfold anchClr
  exact ramOk_setF (ramOk_setReg hs)

theorem ramOk_logCtl {v} (hs : s.RamOk) : (s.logCtl v).RamOk := by
  unfold logCtl
  exact ramOk_ite (ramOk_logRefused (ramOk_ite (ramOk_anchClr hs) hs)) (ramOk_setB (ramOk_ite (ramOk_anchClr hs) hs))

theorem ramOk_hrec {v} (hs : s.RamOk) : (s.hrec v).RamOk := by
  unfold hrec
  exact ramOk_ite hs (ramOk_ite (ramOk_logRefused hs) (ramOk_logRecord _ hs))

/-! ### Draining (R374, R375, R377) -/

theorem ramOk_logPageRead {pg} (hs : s.RamOk) : (s.logPageRead pg).2.2.RamOk := by
  unfold logPageRead
  exact ramOk_foldl_snd_snd (fun _ _ h => ramOk_sramRead _ _ h) _ hs

theorem ramOk_logMove {four dst} (hs : s.RamOk) : (s.logMove four dst).RamOk := by
  unfold logMove
  extract_lets r s1 s2 s3 gone unsealed
  have hr : r.2.2.RamOk := by
    unfold r
    refine ramOk_foldl_snd_snd ?_ _ ?_
    · intro r p h
      dsimp only
      exact ramOk_logPageRead h
    · exact hs
  have h1 : s1.RamOk := ramOk_ddrWrite _ _ _ hr
  have h2 : s2.RamOk := ramOk_sameDdr h1
  have h3 : s3.RamOk := ramOk_else h2 fun h => ramOk_flag h
  exact ramOk_same h3

theorem ramOk_logDrainRing {four} (hs : s.RamOk) : (s.logDrainRing four).RamOk := by
  unfold logDrainRing
  exact ramOk_then (ramOk_setReg (ramOk_logMove hs)) fun h => ramOk_flag h

theorem ramOk_anchFull (hs : s.RamOk) : s.anchFull.RamOk := by
  unfold anchFull
  exact ramOk_ite (ramOk_ite hs (ramOk_flag hs)) hs

theorem ramOk_logDrainAnch {four} (hs : s.RamOk) : (s.logDrainAnch four).RamOk := by
  unfold logDrainAnch
  extract_lets wr s1
  have h1 : s1.RamOk := ramOk_logMove hs
  exact ramOk_anchFull (ramOk_setReg h1)

theorem ramOk_logDrain (hs : s.RamOk) : s.logDrain.RamOk := by
  unfold logDrain
  refine ramOk_ite hs ?_
  dsimp only
  split
  · exact ramOk_anchFull hs
  · exact ramOk_ite (ramOk_logDrainAnch (ramOk_anchFull hs)) (ramOk_logDrainRing (ramOk_anchFull hs))

/-! ### Snapshots (R378) -/

theorem ramOk_snapRec {pos set inst vals} (hs : s.RamOk) : (s.snapRec pos set inst vals).RamOk := by
  unfold snapRec
  exact ramOk_logRecord _ hs

theorem ramOk_logSnap {arg pos} (hs : s.RamOk) : (s.logSnap arg pos).RamOk := by
  unfold logSnap
  exact ramOk_then (ramOk_else (ramOk_else (ramOk_else (ramOk_else (ramOk_ite (ramOk_snapRec hs) hs) fun h1 => ramOk_foldl
    (fun _ _ h2 => ramOk_ite (ramOk_snapRec h2) h2) _ h1) fun h3 => ramOk_foldl (fun _ _ h4 => ramOk_ite (ramOk_snapRec h4) h4)
    _ h3) fun h5 => ramOk_foldl (fun _ _ h6 => ramOk_ite (ramOk_snapRec h6) h6) _ h5) fun h7 => ramOk_snapRec (ramOk_foldl
    (fun _ _ h8 => ramOk_snapRec h8) _ h7)) fun h9 => ramOk_snapRec h9

theorem ramOk_logWriteReg {off v} (hs : s.RamOk) : (s.logWriteReg off v).RamOk := by
  unfold logWriteReg
  exact ramOk_ite (ramOk_logCtl hs) (ramOk_ite (ramOk_logRegion hs) (ramOk_ite (ramOk_hrec hs) (ramOk_writeReg hs)))

/-! ### What a power-down loses -/

theorem ramOk_tableLost (hs : s.RamOk) : s.tableLost.RamOk := by
  unfold tableLost
  exact ramOk_mk (ramOk_foldl (fun _ _ h => ramOk_disarm h) _ hs)

theorem ramOk_timeDown {keep} (hs : s.RamOk) : (s.timeDown keep).RamOk := by
  unfold timeDown
  exact ramOk_ite (ramOk_mk (ramOk_foldl (fun _ _ h1 => ramOk_setF h1) _ (ramOk_foldl (fun _ _ h2 => ramOk_setF h2) _ (ramOk_mk
    hs)))) (ramOk_mk (ramOk_tableLost (ramOk_mk hs)))

theorem ramOk_engDown {e keep} (hs : s.RamOk) : (s.engDown e keep).RamOk := by
  unfold engDown
  exact ramOk_mk (ramOk_then (ramOk_sramForget _ hs) fun h => ramOk_setEf h)

theorem ramOk_lineDown {n keep} (hs : s.RamOk) : (s.lineDown n keep).RamOk := by
  unfold lineDown
  exact ramOk_engDown (ramOk_ite hs (ramOk_mk hs))

theorem ramOk_hostDown {k keep} (hs : s.RamOk) : (s.hostDown k keep).RamOk := by
  unfold hostDown
  exact ramOk_engDown (ramOk_foldl (fun _ _ h1 => ramOk_else (ramOk_mk h1) fun h2 => ramOk_mk h2) _ hs)

theorem ramOk_fogDown (hs : s.RamOk) : s.fogDown.RamOk := by
  unfold fogDown
  exact ramOk_mk hs

theorem ramOk_fabDown {r} (hs : s.RamOk) : (s.fabDown r).RamOk := by
  unfold fabDown
  exact ramOk_mk (ramOk_goldShow (ramOk_sramForget _ (ramOk_logFree hs)))

theorem ramOk_kprDown {r} (hs : s.RamOk) : (s.kprDown r).RamOk := by
  unfold kprDown
  exact ramOk_sramForget _ (ramOk_ite hs (ramOk_mk hs))

theorem ramOk_pcieDown {keep} (hs : s.RamOk) : (s.pcieDown keep).RamOk := by
  unfold pcieDown
  exact ramOk_ite (ramOk_mk (ramOk_setF (ramOk_setF hs))) (ramOk_mk (ramOk_setF (ramOk_setF hs)))

theorem ramOk_unitsDown {d r} (hs : s.RamOk) : (s.unitsDown d r).RamOk := by
  unfold unitsDown
  exact ramOk_then (ramOk_then (ramOk_foldl (fun _ _ h1 => ramOk_ite (ramOk_hostDown h1) h1) _ (ramOk_then (ramOk_foldl
    (fun _ _ h2 => ramOk_ite (ramOk_foldl (fun _ _ h3 => ramOk_lineDown h3) _ h2) h2) _ (ramOk_then (ramOk_then (ramOk_ite
    (ramOk_mk hs) hs) fun h1 => ramOk_pcieDown h1) fun h1 => ramOk_fogDown h1)) fun h1 => ramOk_lineDown h1)) fun h4 => ramOk_mk
    h4) fun h5 => ramOk_timeDown h5

theorem ramOk_coresDown {d r} (hs : s.RamOk) : (s.coresDown d r).RamOk := by
  unfold coresDown
  exact ramOk_then (ramOk_then (ramOk_ite (ramOk_ite (ramOk_mk hs) (ramOk_mk hs)) hs) fun h => ramOk_kprDown h) fun h =>
    ramOk_fabDown h

theorem ramOk_pagesDown {d r} (hs : s.RamOk) : (s.pagesDown d r).RamOk := by
  unfold pagesDown
  exact ramOk_foldl (fun _ _ h => ramOk_ite (ramOk_clearBlk h) h) _ hs

theorem ramOk_analogDown {d} (hs : s.RamOk) : (s.analogDown d).RamOk := by
  unfold analogDown
  exact ramOk_foldl (fun _ _ h => ramOk_ite (ramOk_lineSlices (ramOk_pllStop h)) h) _ hs

theorem ramOk_domainsDown {d r} (hs : s.RamOk) : (s.domainsDown d r).RamOk := by
  unfold domainsDown
  extract_lets d s1 unlocked s2 s3 ddr pwr s4
  have h2 : s2.RamOk := ramOk_pagesDown (ramOk_coresDown (ramOk_unitsDown (ramOk_bistParents hs)))
  have h3 : s3.RamOk := ramOk_then h2 fun h => ramOk_setF h
  have h4 : s4.RamOk := ramOk_same h3 rfl (by unfold s4; dsimp only; split <;> rfl)
  exact ramOk_portsEval (ramOk_squelchAll (ramOk_analogDown h4))

/-! ### What a power-up brings -/

theorem ramOk_fogUp {kept} (hs : s.RamOk) : (s.fogUp kept).RamOk := by
  unfold fogUp
  exact ramOk_ite hs (ramOk_twinForget (ramOk_modTwin (ramOk_setReg (ramOk_setReg (ramOk_setB (ramOk_setPair (ramOk_foldl
    (fun _ _ h => ramOk_setReg h) _ hs)))))))

theorem ramOk_tableLostShow (hs : s.RamOk) : s.tableLostShow.RamOk := by
  unfold tableLostShow
  exact ramOk_flag hs

theorem ramOk_domainUp {d ddrKept} (hs : s.RamOk) : (s.domainUp d ddrKept).RamOk := by
  unfold domainUp
  exact ramOk_ite (ramOk_squelchAll (ramOk_hkPowerUp (ramOk_mk hs))) (ramOk_ite (ramOk_fogUp (ramOk_mk hs)) (ramOk_ite
    (ramOk_tableLostShow (ramOk_modPwr (ramOk_mk hs))) (ramOk_ite (ramOk_else (ramOk_mk hs) fun h => ramOk_ddrResume h)
    (ramOk_portsEval (ramOk_squelchAll (ramOk_mk hs))))))

/-! ### The entry handshake (R386, R387) -/

theorem ramOk_hsAsk {b} (hs : s.RamOk) : (s.hsAsk b).RamOk := by
  unfold hsAsk
  refine ramOk_foldl (fun _ _ h1 => ?_) _ hs
  dsimp only
  split
  · exact ramOk_then (ramOk_modEng h1) fun h2 => ramOk_engWake (ramOk_modEng h2)
  · exact ramOk_modEng h1

theorem ramOk_hsAnswer {b t} (hs : s.RamOk) : (s.hsAnswer b t).2.RamOk := by
  unfold hsAnswer
  split
  · exact hs
  · exact ramOk_ite (ramOk_fogAbort hs) hs
  · exact hs
  · exact ramOk_ite (ramOk_hkAbandon hs) hs
  · exact hs
  · exact ramOk_ite_snd (ramOk_ddrSleep hs) hs
  · exact ramOk_dmaPwrAsk hs
  · exact hs
  · exact hs
  · exact hs

theorem ramOk_hsUndo (hs : s.RamOk) : s.hsUndo.RamOk := by
  unfold hsUndo
  exact ramOk_modPwr (ramOk_then (ramOk_foldl (fun _ _ h1 => ramOk_ite (ramOk_dmaGo h1) h1) _ (ramOk_dmaPwrAbandon (ramOk_foldl
    (fun _ _ h2 => ramOk_modEng h2) _ hs))) fun h3 => ramOk_ddrResume h3)

theorem ramOk_pwrIdle (hs : s.RamOk) : s.pwrIdle.RamOk := by
  unfold pwrIdle
  exact ramOk_avsUpdate (ramOk_setF hs)

theorem ramOk_pwrRefuse {last refuser reason isDom} (hs : s.RamOk) : (s.pwrRefuse last refuser reason isDom).RamOk := by
  unfold pwrRefuse
  exact ramOk_pwrIdle (ramOk_raise (ramOk_hsUndo (ramOk_setB (ramOk_setF (ramOk_setF (ramOk_setF (ramOk_ite (ramOk_setF hs)
    hs)))))))

theorem ramOk_pwrBad (hs : s.RamOk) : s.pwrBad.RamOk := by
  unfold pwrBad
  exact ramOk_raise (ramOk_setF hs)

theorem ramOk_hsPass (hs : s.RamOk) : s.hsPass.RamOk := by
  unfold hsPass
  exact ramOk_ite hs (ramOk_else (ramOk_modPwr hs) fun h => ramOk_mk h)

theorem ramOk_hsStart {doms} (hs : s.RamOk) : (s.hsStart doms).RamOk := by
  unfold hsStart
  exact ramOk_hsPass (ramOk_foldl (g := hsAsk) (fun _ _ h => ramOk_hsAsk h) _ (ramOk_modPwr (ramOk_ite (ramOk_bistCut hs) hs)))

theorem ramOk_hsReply {b t} (hs : s.RamOk) : (s.hsReply b t).RamOk := by
  unfold hsReply
  refine ramOk_ite hs ?_
  dsimp only
  split
  · exact ramOk_hsPass (ramOk_modPwr (ramOk_hsAnswer hs))
  · exact ramOk_modPwr (ramOk_modPwr (ramOk_hsAnswer hs))
  · exact ramOk_pwrRefuse (ramOk_modPwr (ramOk_hsAnswer hs))

theorem ramOk_hsExpire {b} (hs : s.RamOk) : (s.hsExpire b).RamOk := by
  unfold hsExpire
  exact ramOk_ite hs (ramOk_hsAsk (ramOk_modPwr hs))

theorem ramOk_hsTimeout (hs : s.RamOk) : s.hsTimeout.RamOk := by
  unfold hsTimeout
  exact ramOk_ite hs (ramOk_pwrRefuse (ramOk_choose hs))

theorem ramOk_hsRefLost (hs : s.RamOk) : s.hsRefLost.RamOk := by
  unfold hsRefLost
  exact ramOk_ite (ramOk_pwrRefuse hs) hs

/-! ### Entry (R384, R388) -/

theorem ramOk_pwrAborted {ap} (hs : s.RamOk) : (s.pwrAborted ap).RamOk := by
  unfold pwrAborted
  exact ramOk_pwrIdle (ramOk_raise (ramOk_modPwr (ramOk_hsUndo (ramOk_setF (ramOk_setF hs)))))

theorem ramOk_pwrRequest {t} (hs : s.RamOk) : (s.pwrRequest t).RamOk := by
  unfold pwrRequest
  exact ramOk_ite (ramOk_pwrBad hs) (ramOk_ite (ramOk_hsStart (ramOk_modPwr (ramOk_bistCut (ramOk_setF hs)))) (ramOk_pwrAborted
    (ramOk_foldl (g := wakeUp) (fun _ _ h => ramOk_wakeUp h) _ (ramOk_modPwr (ramOk_bistCut (ramOk_setF hs))))))

theorem ramOk_pwrReq {q v} (hs : s.RamOk) : (s.pwrReq q v).RamOk := by
  unfold pwrReq
  exact ramOk_ite hs (ramOk_ite (ramOk_wakeUp hs) (ramOk_pwrRequest hs))

theorem ramOk_pwrReached {last} (hs : s.RamOk) : (s.pwrReached last).RamOk := by
  unfold pwrReached
  exact ramOk_pwrIdle (ramOk_raise (ramOk_modPwr (ramOk_setReg (ramOk_setF (ramOk_setF hs)))))

theorem ramOk_pwrQuiet {deep} (hs : s.RamOk) : (s.pwrQuiet deep).RamOk := by
  unfold pwrQuiet
  extract_lets s1 s2 s3 s4
  have h1 : s1.RamOk := ramOk_ite hs (ramOk_portsFreewheel hs)
  have h3 : s3.RamOk := by
    unfold s3
    refine ramOk_foldl ?_ _ (ramOk_modPwr h1)
    exact fun _ _ h => ramOk_then h fun h => ramOk_setF (ramOk_modHlane h)
  have h4 : s4.RamOk := ramOk_then h3 fun h => ramOk_foldl (g := codecRefresh) (fun _ _ h => ramOk_codecRefresh h) _
    (ramOk_foldl (g := pllStop) (fun _ _ h => ramOk_pllStop h) _ h)
  exact ramOk_portsEval (ramOk_squelchAll h4)

theorem ramOk_pwrLatch (hs : s.RamOk) : s.pwrLatch.RamOk := by
  unfold pwrLatch
  exact ramOk_then (ramOk_modPwr hs) fun h => ramOk_setB h

theorem ramOk_pwrOpen (hs : s.RamOk) : s.pwrOpen.RamOk := by
  unfold pwrOpen
  dsimp only
  exact ramOk_domainsDown (ramOk_modPwr hs)

theorem ramOk_entryStep (hs : s.RamOk) : s.entryStep.RamOk := by
  unfold entryStep
  refine ramOk_ite hs ?_
  split
  · exact ramOk_then (ramOk_modPwr (ramOk_pwrQuiet hs)) fun h => ramOk_pwrReached h
  · exact ramOk_modPwr hs
  · exact ramOk_modPwr (ramOk_setF hs)
  · exact ramOk_ite (ramOk_pwrReached (ramOk_modPwr (ramOk_pwrOpen (ramOk_pwrLatch hs)))) (ramOk_ite (ramOk_pwrReached
      (ramOk_ite_snd (ramOk_voltBegin (ramOk_modPwr (ramOk_pwrOpen (ramOk_pwrLatch hs)))) (ramOk_voltBegin (ramOk_modPwr
      (ramOk_pwrOpen (ramOk_pwrLatch hs)))))) (ramOk_modPwr (ramOk_ite_snd (ramOk_voltBegin (ramOk_modPwr (ramOk_pwrOpen
      (ramOk_pwrLatch hs)))) (ramOk_voltBegin (ramOk_modPwr (ramOk_pwrOpen (ramOk_pwrLatch hs)))))))
  · exact hs

/-! ### Rollback, wakes and exit (R389 to R395) -/

theorem ramOk_pwrUnquiet (hs : s.RamOk) : s.pwrUnquiet.RamOk := by
  unfold pwrUnquiet
  dsimp only
  exact ramOk_portsEval (ramOk_squelchAll (ramOk_foldl (fun _ _ h => ramOk_ite (ramOk_setF h) h) _ (ramOk_modPwr hs)))

theorem ramOk_pwrClocks (hs : s.RamOk) : s.pwrClocks.RamOk := by
  unfold pwrClocks
  exact ramOk_foldl (g := codecRefresh) (fun _ _ h1 => ramOk_codecRefresh h1) _ (ramOk_foldl (fun _ _ h2 => ramOk_pllLock h2) _
    (ramOk_modPwr hs))

theorem ramOk_pwrRollback (hs : s.RamOk) : s.pwrRollback.RamOk := by
  unfold pwrRollback
  exact ramOk_pwrAborted (ramOk_ite (ramOk_pwrUnquiet (ramOk_pwrClocks hs)) hs)

theorem ramOk_exitBegin (hs : s.RamOk) : s.exitBegin.RamOk := by
  unfold exitBegin
  exact ramOk_else (ramOk_modPwr (ramOk_setF hs)) fun h1 => ramOk_then (ramOk_voltBegin h1) fun h2 => ramOk_modPwr h2

theorem ramOk_wakeAct (hs : s.RamOk) : s.wakeAct.RamOk := by
  unfold wakeAct
  exact ramOk_ite hs (ramOk_ite (ramOk_ite (ramOk_pwrRollback hs) hs) (ramOk_ite (ramOk_exitBegin hs) hs))

theorem ramOk_entryNext (hs : s.RamOk) : s.entryNext.RamOk := by
  unfold entryNext
  exact ramOk_ite (ramOk_wakeAct hs) (ramOk_entryStep hs)

theorem ramOk_timeRestore {kept} (hs : s.RamOk) : (s.timeRestore kept).RamOk := by
  unfold timeRestore
  exact ramOk_setF (ramOk_modPwr (ramOk_foldl (fun _ _ h => ramOk_ite (ramOk_setTb (ramOk_setReg (ramOk_setReg h)))
    (ramOk_tbMoved (ramOk_flag (ramOk_tbSeed (ramOk_setReg (ramOk_setF (ramOk_setF (ramOk_setF (ramOk_setTb (ramOk_setReg
    (ramOk_setReg h))))))))))) _ (ramOk_setReg (ramOk_ite hs (ramOk_tableLostShow hs)))))

theorem ramOk_engRestore {e} (hs : s.RamOk) : (s.engRestore e).RamOk := by
  unfold engRestore
  exact ramOk_ite (ramOk_engStart hs) hs

theorem ramOk_pwrRestore {ddrKept} (hs : s.RamOk) : (s.pwrRestore ddrKept).RamOk := by
  unfold pwrRestore
  exact ramOk_foldl (g := engRestore) (fun _ _ h1 => ramOk_engRestore h1) _ (ramOk_then (ramOk_then (ramOk_then (ramOk_then
    (ramOk_mk hs) fun h1 => ramOk_ddrResume h1) fun h2 => ramOk_fogUp h2) fun h3 => ramOk_hkPowerUp h3) fun h4 => ramOk_setF h4)

theorem ramOk_exitEnd (hs : s.RamOk) : s.exitEnd.RamOk := by
  unfold exitEnd
  exact ramOk_pwrIdle (ramOk_raise (ramOk_then (ramOk_setReg (ramOk_foldl (fun _ _ h1 => ramOk_ite (ramOk_dmaGo h1) h1) _
    (ramOk_pwrUnquiet (ramOk_modPwr (ramOk_setF hs))))) fun h2 => ramOk_schedResume h2))

theorem ramOk_exitStep {ddrKept} (hs : s.RamOk) : (s.exitStep ddrKept).RamOk := by
  unfold exitStep
  dsimp only
  split
  · exact ramOk_modPwr (ramOk_mk hs)
  · exact ramOk_modPwr (ramOk_then (ramOk_mk hs) fun h => ramOk_timeRestore h)
  · exact ramOk_modPwr (ramOk_pwrRestore hs)
  · exact ramOk_modPwr (ramOk_pwrClocks hs)
  · exact ramOk_exitEnd hs
  · exact hs

theorem ramOk_wakePin {p level} (hs : s.RamOk) : (s.wakePin p level).RamOk := by
  unfold wakePin
  exact ramOk_then (ramOk_setF hs) fun h => ramOk_wakeUp h

theorem ramOk_schedWake (hs : s.RamOk) : s.schedWake.RamOk := by
  unfold schedWake
  exact ramOk_ite (ramOk_wakeUp hs) hs

/-! ### Domain requests (R14, R22, R23, R399) -/

theorem ramOk_domRefuse {d reason} (hs : s.RamOk) : (s.domRefuse d reason).RamOk := by
  unfold domRefuse
  exact ramOk_pwrRefuse hs

theorem ramOk_domUpReq {d} (hs : s.RamOk) : (s.domUpReq d).RamOk := by
  unfold domUpReq
  split
  · exact ramOk_domRefuse hs
  · exact ramOk_ite (ramOk_domRefuse hs) (ramOk_mk (ramOk_setF hs))

theorem ramOk_domDownReq {d} (hs : s.RamOk) : (s.domDownReq d).RamOk := by
  unfold domDownReq
  refine ramOk_ite (ramOk_domRefuse hs) ?_
  split
  · exact ramOk_domRefuse hs
  · exact ramOk_hsStart (ramOk_modPwr (ramOk_setF hs))

theorem ramOk_domReq {v} (hs : s.RamOk) : (s.domReq v).RamOk := by
  unfold domReq
  exact ramOk_ite hs (ramOk_ite (ramOk_pwrBad hs) (ramOk_ite (ramOk_mk (ramOk_setF hs)) (ramOk_ite (ramOk_domUpReq hs)
    (ramOk_domDownReq hs))))

theorem ramOk_bistResume (hs : s.RamOk) : s.bistResume.RamOk := by
  unfold bistResume
  split
  · exact ramOk_ite (ramOk_domReq (ramOk_mk (ramOk_setF hs))) hs
  · exact hs

theorem ramOk_domDone {ddrKept} (hs : s.RamOk) : (s.domDone ddrKept).RamOk := by
  unfold domDone
  split
  · exact hs
  · exact ramOk_ite hs (ramOk_pwrIdle (ramOk_raise (ramOk_modPwr (ramOk_ite (ramOk_domainsDown hs) (ramOk_ite hs (ramOk_domainUp
      hs))))))

/-! ### PMBus (R397, R398) -/

theorem ramOk_voltEnd {ok} (hs : s.RamOk) : (s.voltEnd ok).RamOk := by
  unfold voltEnd
  dsimp only
  split
  · exact ramOk_ite (ramOk_pwrReached (ramOk_ite (ramOk_ite (ramOk_setF (ramOk_setF hs)) (ramOk_setF (ramOk_setF hs)))
      (ramOk_modPmb (ramOk_setF (ramOk_setF hs))))) (ramOk_then (ramOk_ite (ramOk_ite (ramOk_setF (ramOk_setF hs)) (ramOk_setF
      (ramOk_setF hs))) (ramOk_modPmb (ramOk_setF (ramOk_setF hs)))) fun h1 => ramOk_ite (ramOk_modPwr h1) (ramOk_setF
      (ramOk_modPwr h1)))
  · exact ramOk_ite (ramOk_pwrReached (ramOk_voltBegin (ramOk_modPmb (ramOk_ite (ramOk_pwrReached (ramOk_ite (ramOk_ite
      (ramOk_setF (ramOk_setF hs)) (ramOk_setF (ramOk_setF hs))) (ramOk_modPmb (ramOk_setF (ramOk_setF hs))))) (ramOk_then
      (ramOk_ite (ramOk_ite (ramOk_setF (ramOk_setF hs)) (ramOk_setF (ramOk_setF hs))) (ramOk_modPmb (ramOk_setF (ramOk_setF
      hs)))) fun h2 => ramOk_ite (ramOk_modPwr h2) (ramOk_setF (ramOk_modPwr h2))))))) (ramOk_then (ramOk_voltBegin
      (ramOk_modPmb (ramOk_ite (ramOk_pwrReached (ramOk_ite (ramOk_ite (ramOk_setF (ramOk_setF hs)) (ramOk_setF (ramOk_setF
      hs))) (ramOk_modPmb (ramOk_setF (ramOk_setF hs))))) (ramOk_then (ramOk_ite (ramOk_ite (ramOk_setF (ramOk_setF hs))
      (ramOk_setF (ramOk_setF hs))) (ramOk_modPmb (ramOk_setF (ramOk_setF hs)))) fun h3 => ramOk_ite (ramOk_modPwr h3)
      (ramOk_setF (ramOk_modPwr h3)))))) fun h4 => ramOk_modPwr h4)

theorem ramOk_attemptFail (hs : s.RamOk) : s.attemptFail.RamOk := by
  unfold attemptFail
  exact ramOk_ite hs (ramOk_ite (ramOk_pmbSend (ramOk_send (ramOk_setF hs))) (ramOk_voltEnd (ramOk_send (ramOk_logRecord _
    (ramOk_flag hs)))))

theorem ramOk_pmbPoll {status} (hs : s.RamOk) : (s.pmbPoll status).RamOk := by
  unfold pmbPoll
  refine ramOk_ite hs ?_
  split
  · exact ramOk_attemptFail hs
  · exact ramOk_then (ramOk_setF hs) fun h => ramOk_voltEnd h

theorem ramOk_pmbAlert {w} (hs : s.RamOk) : (s.pmbAlert w).RamOk := by
  unfold pmbAlert
  exact ramOk_attemptFail (ramOk_raise (ramOk_setF hs))

theorem ramOk_pmbStart {vmode} (hs : s.RamOk) : (s.pmbStart vmode).RamOk := by
  unfold pmbStart
  exact ramOk_avsUpdate (ramOk_send (ramOk_send (ramOk_modPmb hs)))

theorem ramOk_pmbCfg {v vmode} (hs : s.RamOk) : (s.pmbCfg v vmode).RamOk := by
  unfold pmbCfg
  exact ramOk_ite (ramOk_pmbStart (ramOk_writeReg hs)) (ramOk_then (ramOk_writeReg hs) fun h => ramOk_setF (ramOk_voltEnd h))

theorem ramOk_pwrWriteReg {q off v vmode} (hs : s.RamOk) : (s.pwrWriteReg q off v vmode).RamOk := by
  unfold pwrWriteReg
  exact ramOk_ite (ramOk_pwrReq hs) (ramOk_ite (ramOk_domReq hs) (ramOk_ite (ramOk_pmbCfg hs) (ramOk_ite (ramOk_avsUpdate
    (ramOk_writeReg hs)) (ramOk_then (ramOk_writeReg hs) fun h => ramOk_wakeHeldPins h))))

end State
end Sys2Proof.Machine
end

section
/-! Memory keeps its canonical form (O60): staging, trust, register accesses, the bus, configuration, boot and reset; then every
row, the clock, and a step. -/

namespace Sys2Proof.Machine
namespace State

variable {s : State}

/-! ### Staging of blocks -/

theorem ramOk_recheck {old : State} {b} (hs1 : s.RamOk) : (old.recheck s b).RamOk := by
  unfold recheck
  exact ramOk_ite hs1 (ramOk_pairsCheck hs1)

/-! ### What changed active values do -/

theorem ramOk_applied {old : State} {b off} (hs1 : s.RamOk) : (old.applied s b off).RamOk := by
  unfold applied
  dsimp only
  split
  · exact ramOk_ite (ramOk_rxBankUse hs1) (ramOk_ite (ramOk_setF hs1) (ramOk_ite (ramOk_injRun hs1) (ramOk_ite (ramOk_squelch
      hs1) (ramOk_ite (ramOk_pdApply hs1) (ramOk_ite (ramOk_bankChanged hs1) hs1)))))
  · exact ramOk_bankChanged hs1
  · exact ramOk_ite (ramOk_bankChanged hs1) hs1
  · exact ramOk_ite (ramOk_setF hs1) hs1
  · exact ramOk_tpoApply hs1
  · exact ramOk_hkSlotChanged hs1
  · exact ramOk_filtChanged hs1
  · exact ramOk_ite (ramOk_hdacCtlChanged hs1) hs1
  · exact hs1

theorem ramOk_activeChanged {old : State} {b} (hs1 : s.RamOk) : (old.activeChanged s b).RamOk := by
  unfold activeChanged
  refine ramOk_ite hs1 ?_
  dsimp only
  split
  · exact ramOk_portRebuild (ramOk_foldl (fun _ _ h1 => ramOk_applied h1) _ hs1)
  · exact ramOk_portsEval (ramOk_foldl (fun _ _ h2 => ramOk_applied h2) _ hs1)
  · exact ramOk_foldl (fun _ _ h3 => ramOk_applied h3) _ hs1

/-! ### Shadows (R45, R49) -/

theorem ramOk_loadShadows {b} (hs : s.RamOk) : (s.loadShadows b).RamOk := by
  unfold loadShadows
  exact ramOk_foldl (fun _ _ h => ramOk_parityNew (ramOk_mk h)) _ hs

theorem ramOk_dropShadows {b} (hs : s.RamOk) : (s.dropShadows b).RamOk := by
  unfold dropShadows
  exact ramOk_mk hs

theorem ramOk_copyShadows {b} (hs : s.RamOk) : (s.copyShadows b).RamOk := by
  unfold copyShadows
  exact ramOk_foldl (fun _ _ h => ramOk_parityNew (ramOk_parityNew (ramOk_setReg h))) _ hs

/-! ### Commits (R46 to R48) -/

theorem ramOk_commitCheck {b peer} (hs : s.RamOk) : (s.commitCheck b peer).2.RamOk := by
  unfold commitCheck
  exact ramOk_ite_snd (ramOk_choose hs) hs

theorem ramOk_commitRefused {b c peer} (hs : s.RamOk) : (s.commitRefused b c peer).RamOk := by
  unfold commitRefused
  exact ramOk_then (ramOk_blkReport hs) fun h => ramOk_raise (ramOk_setF (ramOk_setF h))

theorem ramOk_commitNow {b} (hs : s.RamOk) : (s.commitNow b).RamOk := by
  unfold commitNow
  dsimp only
  split
  · exact ramOk_commitRefused (ramOk_commitCheck hs)
  · exact ramOk_blkReport (ramOk_activeChanged (ramOk_recheck (ramOk_copyShadows (ramOk_commitCheck hs))))

theorem ramOk_commitEntry {k late} (hs : s.RamOk) : (s.commitEntry k late).1.RamOk := by
  unfold commitEntry
  extract_lets l peer r t1 t2 t3
  have hr : r.2.RamOk := by
    unfold r
    refine ramOk_foldl_snd ?_ l hs
    intro a b h
    dsimp only
    exact ramOk_commitCheck h
  refine ramOk_ite_fst (ramOk_foldl (fun t x h => ?_) _ hr) (ramOk_foldl (fun _ _ h => ramOk_blkReport h) l (ramOk_foldl
    (fun _ _ h => ramOk_activeChanged h) l (ramOk_foldl (fun _ _ h => ramOk_recheck h) l (ramOk_foldl (g := copyShadows)
      (fun _ _ h => ramOk_copyShadows h) l hr))))
  split
  · exact ramOk_commitRefused h
  · exact ramOk_blkReport h

/-! ### STAGE_CTL and BLK_CTL (R45, R49) -/

theorem ramOk_discard {b} (hs : s.RamOk) : (s.discard b).RamOk := by
  unfold discard
  exact ramOk_disarm (ramOk_ite (ramOk_loadShadows hs) hs)

theorem ramOk_stageOn {b} (hs : s.RamOk) : (s.stageOn b).RamOk := by
  unfold stageOn
  exact ramOk_loadShadows (ramOk_setF hs)

theorem ramOk_arm {b} (hs : s.RamOk) : (s.arm b).RamOk := by
  unfold arm
  exact ramOk_setF (ramOk_setF hs)

theorem ramOk_stageCtl {b v} (hs : s.RamOk) : (s.stageCtl b v).RamOk := by
  unfold stageCtl
  exact ramOk_then (ramOk_parityNew (ramOk_setF (ramOk_then (ramOk_then (ramOk_ite (ramOk_discard hs) hs) fun h1 =>
    ramOk_commitNow h1) fun h1 => ramOk_disarm h1))) fun h2 => ramOk_arm h2

/-! ### Debug level (R414 to R417) -/

theorem ramOk_dbgClose {cause} (hs : s.RamOk) : (s.dbgClose cause).RamOk := by
  unfold dbgClose
  exact ramOk_ite hs (ramOk_raise (ramOk_mk (ramOk_setF (ramOk_setF hs))))

theorem ramOk_dbgResult {code} (hs : s.RamOk) : (s.dbgResult code).RamOk := by
  unfold dbgResult
  exact ramOk_else (ramOk_setReg hs) fun h => ramOk_raise h

theorem ramOk_dbgGrant {level dur} (hs : s.RamOk) : (s.dbgGrant level dur).RamOk := by
  unfold dbgGrant
  exact ramOk_raise (ramOk_dbgResult (ramOk_mk (ramOk_setF hs)))

theorem ramOk_dbgRequest {level} (hs : s.RamOk) : (s.dbgRequest level).RamOk := by
  unfold dbgRequest
  exact ramOk_ite (ramOk_dbgGrant hs) (ramOk_dbgResult hs)

theorem ramOk_chalNew (hs : s.RamOk) : s.chalNew.RamOk := by
  unfold chalNew
  exact ramOk_mk (ramOk_foldl (fun _ _ h => ramOk_setReg (ramOk_draw h)) _ hs)

theorem ramOk_dbgSubmit (hs : s.RamOk) : s.dbgSubmit.RamOk := by
  unfold dbgSubmit
  exact ramOk_ite (ramOk_dbgResult (ramOk_mk hs)) (ramOk_mk (ramOk_setF (ramOk_mk hs)))

theorem ramOk_fuseStart {target} (hs : s.RamOk) : (s.fuseStart target).RamOk := by
  unfold fuseStart
  exact ramOk_mk (ramOk_setF hs)

theorem ramOk_tokenJudge {tok nonce sigOk} (hs : s.RamOk) : (s.tokenJudge tok nonce sigOk).RamOk := by
  unfold tokenJudge
  dsimp only
  split
  · exact ramOk_dbgResult (ramOk_choose hs)
  · exact ramOk_ite (ramOk_dbgResult (ramOk_else (ramOk_choose hs) fun h => ramOk_fuseStart h)) (ramOk_dbgGrant (ramOk_choose
      hs))

theorem ramOk_tokenDone {sigOk} (hs : s.RamOk) : (s.tokenDone sigOk).RamOk := by
  unfold tokenDone
  split
  · exact hs
  · exact ramOk_tokenJudge (ramOk_mk (ramOk_setF hs))

theorem ramOk_dbgCtl {v} (hs : s.RamOk) : (s.dbgCtl v).RamOk := by
  unfold dbgCtl
  exact ramOk_then (ramOk_then (ramOk_then (ramOk_ite (ramOk_dbgRequest hs) hs) fun h1 => ramOk_dbgSubmit h1) fun h2 =>
    ramOk_chalNew h2) fun h1 => ramOk_dbgClose h1

theorem ramOk_dbgWrite {off v} (hs : s.RamOk) : (s.dbgWrite off v).RamOk := by
  unfold dbgWrite
  exact ramOk_ite (ramOk_dbgCtl hs) (ramOk_ite (ramOk_setReg (ramOk_mk hs)) (ramOk_ite (ramOk_writeReg hs) (ramOk_writeReg hs)))

theorem ramOk_dbgRead {off} (hs : s.RamOk) : (s.dbgRead off).2.RamOk := by
  unfold dbgRead
  exact ramOk_ite_snd hs (ramOk_ite_snd (ramOk_setReg hs) hs)

theorem ramOk_unlockExpiry (hs : s.RamOk) : s.unlockExpiry.RamOk := by
  unfold unlockExpiry
  exact ramOk_ite (ramOk_dbgClose hs) hs

/-! ### Lifecycle (R403, R404) -/

theorem ramOk_lcCtl {q v} (hs : s.RamOk) : (s.lcCtl q v).RamOk := by
  unfold lcCtl
  exact ramOk_ite (ramOk_fuseStart hs) (ramOk_ite (ramOk_fuseStart hs) (ramOk_setF hs))

theorem ramOk_lcChanged {ok} (hs : s.RamOk) : (s.lcChanged ok).RamOk := by
  unfold lcChanged
  split
  · exact hs
  · exact ramOk_ite (ramOk_then (ramOk_then (ramOk_mk hs) fun h1 => ramOk_setF h1) fun h2 => ramOk_flag h2) (ramOk_then
      (ramOk_dbgClose (ramOk_then (ramOk_mk (ramOk_then (ramOk_mk hs) fun h3 => ramOk_setF h3)) fun h4 => ramOk_foldl
      (fun _ _ h5 => ramOk_setReg h5) _ h4)) fun h6 => ramOk_raise h6)

theorem ramOk_secWrite {q off v} (hs : s.RamOk) : (s.secWrite q off v).RamOk := by
  unfold secWrite
  exact ramOk_ite (ramOk_lcCtl hs) (ramOk_ite (ramOk_ite (ramOk_parityNew (ramOk_setReg hs)) hs) (ramOk_writeReg hs))

theorem ramOk_deriveKey (hs : s.RamOk) : s.deriveKey.RamOk := by
  unfold deriveKey
  exact ramOk_ite hs (ramOk_foldl (fun _ _ h => ramOk_setReg h) _ hs)

/-! ### The Keeper (R409 to R413) -/

theorem ramOk_arbCtl {q v} (hs : s.RamOk) : (s.arbCtl q v).RamOk := by
  unfold arbCtl
  exact ramOk_ite (ramOk_raise (ramOk_mk hs)) (ramOk_setF hs)

theorem ramOk_firmwareRun {x} (hs : s.RamOk) : (s.firmwareRun x).RamOk := by
  unfold firmwareRun
  exact ramOk_then (ramOk_setF (ramOk_setF hs)) fun h => ramOk_setF (ramOk_setF (ramOk_setReg h))

theorem ramOk_firmwareBoot {l} (hs : s.RamOk) : (s.firmwareBoot l).RamOk := by
  unfold firmwareBoot
  split
  · exact ramOk_raise (ramOk_setF (ramOk_firmwareRun hs))
  · refine ramOk_else (ramOk_firmwareRun hs) fun h1 => ?_
    split
    · exact ramOk_else (ramOk_firmwareRun (ramOk_setF hs)) fun h2 => ramOk_raise (ramOk_setF h2)
    · exact ramOk_raise (ramOk_setF h1)

theorem ramOk_keeperRestart (hs : s.RamOk) : s.keeperRestart.RamOk := by
  unfold keeperRestart
  exact ramOk_setF (ramOk_ite (ramOk_mk hs) hs)

theorem ramOk_keeperLoad {x} (hs : s.RamOk) : (s.keeperLoad x).RamOk := by
  unfold keeperLoad
  exact ramOk_ite (ramOk_firmwareRun hs) hs

theorem ramOk_lockstep (hs : s.RamOk) : s.lockstep.RamOk := by
  unfold lockstep
  exact ramOk_ite hs (ramOk_keeperRestart (ramOk_countSat (ramOk_flag hs)))

theorem ramOk_kctl {q v x} (hs : s.RamOk) : (s.kctl q v x).RamOk := by
  unfold kctl
  exact ramOk_then (ramOk_then (ramOk_then (ramOk_parityNew (ramOk_setB hs)) fun h1 => ramOk_perf h1) fun h2 =>
    ramOk_keeperRestart h2) fun h3 => ramOk_keeperLoad h3

theorem ramOk_kprWrite {q off v x} (hs : s.RamOk) : (s.kprWrite q off v x).RamOk := by
  unfold kprWrite
  exact ramOk_ite (ramOk_kctl hs) (ramOk_ite (ramOk_arbCtl hs) (ramOk_writeReg hs))

theorem ramOk_kprRead {q off} (hs : s.RamOk) : (s.kprRead q off).2.RamOk := by
  unfold kprRead
  exact ramOk_ite_snd hs (ramOk_ite_snd (ramOk_ite_snd (ramOk_draw hs) (ramOk_dbgDenied hs)) hs)

/-! ### Commands of the configuration versions (R419 to R421) -/

theorem ramOk_setPhase {p} (hs : s.RamOk) : (s.setPhase p).RamOk := by
  unfold setPhase
  exact ramOk_setF hs

theorem ramOk_modCfgv {g} (hs : s.RamOk) : (s.modCfgv g).RamOk := by
  unfold modCfgv
  exact ramOk_mk hs

theorem ramOk_cfgResult {r} (hs : s.RamOk) : (s.cfgResult r).RamOk := by
  unfold cfgResult
  exact ramOk_setF hs

theorem ramOk_cfgApply {v} (hs : s.RamOk) : (s.cfgApply v).RamOk := by
  unfold cfgApply
  exact ramOk_ite hs (ramOk_ite (ramOk_cfgResult hs) (ramOk_modCfgv (ramOk_setPhase hs)))

theorem ramOk_cfgTimerOff (hs : s.RamOk) : s.cfgTimerOff.RamOk := by
  unfold cfgTimerOff
  exact ramOk_modCfgv (ramOk_setF hs)

theorem ramOk_cfgConfirm {v} (hs : s.RamOk) : (s.cfgConfirm v).RamOk := by
  unfold cfgConfirm
  exact ramOk_ite (ramOk_raise (ramOk_mk (ramOk_setPhase (ramOk_cfgTimerOff hs)))) (ramOk_cfgResult hs)

theorem ramOk_rollbackMissing (hs : s.RamOk) : s.rollbackMissing.RamOk := by
  unfold rollbackMissing
  exact ramOk_raise (ramOk_setF (ramOk_cfgResult (ramOk_setPhase (ramOk_cfgTimerOff hs))))

theorem ramOk_rollbackStart (hs : s.RamOk) : s.rollbackStart.RamOk := by
  unfold rollbackStart
  exact ramOk_ite (ramOk_rollbackMissing hs) (ramOk_modCfgv (ramOk_setPhase (ramOk_cfgTimerOff hs)))

theorem ramOk_cfgRollback {v} (hs : s.RamOk) : (s.cfgRollback v).RamOk := by
  unfold cfgRollback
  exact ramOk_ite hs (ramOk_ite (ramOk_rollbackStart hs) (ramOk_cfgResult hs))

theorem ramOk_confirmTimeout (hs : s.RamOk) : s.confirmTimeout.RamOk := by
  unfold confirmTimeout
  exact ramOk_ite (ramOk_rollbackStart hs) hs

theorem ramOk_cfgvWrite {off v} (hs : s.RamOk) : (s.cfgvWrite off v).RamOk := by
  unfold cfgvWrite
  exact ramOk_ite (ramOk_cfgApply hs) (ramOk_ite (ramOk_cfgConfirm hs) (ramOk_ite (ramOk_cfgRollback hs) (ramOk_writeReg hs)))

/-! ### Register reads -/

theorem ramOk_llaneRead {n off} (hs : s.RamOk) : (s.llaneRead n off).2.RamOk := by
  unfold llaneRead
  exact ramOk_ite_snd (ramOk_coefAdvance hs) (ramOk_ite_snd (ramOk_txCoefAdvance hs) (ramOk_ite_snd hs (ramOk_ite_snd hs
    (ramOk_ite_snd hs (ramOk_ite_snd hs hs)))))

theorem ramOk_fogRead {off} (hs : s.RamOk) : (s.fogRead off).2.RamOk := by
  unfold fogRead
  exact ramOk_ite_snd (ramOk_idxAdvance hs) (ramOk_ite_snd (ramOk_idxAdvance hs) hs)

theorem ramOk_readOwn {q b off} (hs : s.RamOk) : (s.readOwn q b off).2.RamOk := by
  unfold readOwn
  dsimp only
  split
  · exact hs
  · exact hs
  · split
    · exact hs
    · exact ramOk_kprRead hs
    · exact hs
    · exact ramOk_dbgRead hs
    · exact hs
    · exact hs
    · exact hs
    · exact hs
    · exact hs
    · exact hs
    · exact hs
    · exact hs
    · exact ramOk_ite_snd (ramOk_fcoefAdvance hs) hs
    · exact hs
    · exact ramOk_fogRead hs
    · exact hs
    · exact hs
    · exact hs
    · exact hs
    · exact ramOk_llaneRead hs
    · exact ramOk_ite_snd (ramOk_hcoefAdvance hs) hs
    · exact hs

theorem ramOk_readReg {q b off} (hs : s.RamOk) : (s.readReg q b off).2.RamOk := by
  unfold readReg
  exact ramOk_ite_snd hs (ramOk_ite_snd hs (ramOk_ite_snd hs (ramOk_ite_snd (ramOk_ite_snd hs (ramOk_readOwn hs)) (ramOk_ite_snd
    hs (ramOk_readOwn hs)))))

/-! ### Entries of the event scheduler -/

theorem ramOk_seAct {k again} (hs : s.RamOk) : (s.seAct k again).1.RamOk := by
  unfold seAct
  dsimp only
  split
  · exact ramOk_commitEntry hs
  · exact ramOk_ptsuStamp hs
  · refine ramOk_ite_fst hs ?_
    split
    · exact ramOk_spareSwitch hs
    · exact ramOk_hkFire hs
    · exact ramOk_measStart hs
    · exact ramOk_hdacStrobe hs
    · exact ramOk_fogSlot hs
    · exact ramOk_pwrRequest hs
    · exact ramOk_logSnap hs
    · exact ramOk_ite_fst (ramOk_stepRefuse hs) (ramOk_stepGo hs)
    · exact hs

theorem ramOk_seFire {k again} (hs : s.RamOk) : (s.seFire k again).RamOk := by
  unfold seFire
  exact ramOk_then (ramOk_then (ramOk_perf (ramOk_seRecord (ramOk_seAct (ramOk_goldFire hs)))) fun h => ramOk_coordFired h)
    fun h => ramOk_seAdvance h

theorem ramOk_seCycle {ks} (hs : s.RamOk) : (s.seCycle ks).RamOk := by
  unfold seCycle
  exact ramOk_foldl_fst (fun _ _ h1 => ramOk_seFire h1) _ (ramOk_foldl (fun _ _ h2 => ramOk_setSe h2) _ hs)

/-! ### Soft reset -/

theorem ramOk_engsReset {b} (hs : s.RamOk) : (s.engsReset b).RamOk := by
  unfold engsReset
  exact ramOk_foldl (fun _ _ h => ramOk_mk (ramOk_setRun h)) _ hs

theorem ramOk_outputsLow (hs : s.RamOk) : ((List.range 4).foldl (fun s k => s.tpoDrive k false) s).RamOk :=
  ramOk_foldl (fun _ _ h => ramOk_tpoDrive h) _ hs

theorem ramOk_tbsStopped (hs : s.RamOk) :
    ([1, 2, 3].foldl (fun s k => if s.fb Blk.time (TIME.TB_CTL_EN k) then s.tbStopped k else s) s).RamOk := by
  refine ramOk_foldl ?_ _ hs
  intro s k h
  exact ramOk_then h fun h => ramOk_tbStopped h

theorem ramOk_softEnd {b} (hs : s.RamOk) : (s.softEnd b).RamOk := by
  unfold softEnd
  dsimp only
  split
  · exact ramOk_mk (ramOk_then (ramOk_engsReset (ramOk_innerIdle (ramOk_txCtl (ramOk_rxCtl hs)))) fun h => ramOk_pllCtl h)
  · exact ramOk_pllCtl (ramOk_linePwr (ramOk_engsReset hs))
  · exact ramOk_pllCtl (ramOk_pllCtl (ramOk_hostLanePwr (ramOk_engsReset hs)))
  · exact ramOk_mk (ramOk_hlCtl hs)
  · exact ramOk_mk (ramOk_portRebuild (ramOk_setF hs))
  · exact ramOk_foldl (g := lpcDrop) (fun _ _ h => ramOk_lpcDrop h) _ hs
  · exact ramOk_mk (ramOk_tbsStopped (ramOk_outputsLow hs))
  · exact ⟨hs.1, hs.2⟩
  · exact ramOk_mk (ramOk_foldl (g := seDisarm) (fun _ _ h => ramOk_seDisarm h) _ hs)
  · exact ⟨hs.1, hs.2⟩
  · exact ⟨hs.1, hs.2⟩
  · exact ⟨hs.1, hs.2⟩
  · exact ramOk_thermSoft hs
  · exact ramOk_mk (ramOk_fogAbort hs)
  · exact ⟨hs.1, hs.2⟩
  · exact ramOk_same hs
  · exact ramOk_sameDdr hs
  · exact ⟨hs.1, hs.2⟩
  · exact ramOk_mk (ramOk_logFree hs)
  · exact ramOk_modPwr (ramOk_hsUndo hs)
  · exact ramOk_keeperRestart hs
  · exact ⟨hs.1, hs.2⟩
  · exact ⟨hs.1, hs.2⟩
  · exact ⟨hs.1, hs.2⟩
  · exact hs

theorem ramOk_softBegin {old : State} {b} (hs1 : s.RamOk) : (old.softBegin s b).RamOk := by
  unfold softBegin
  dsimp only
  split
  · exact ramOk_portsEval (ramOk_holdoverAll (ramOk_squelch (ramOk_codecRefresh hs1)))
  · exact ramOk_portsEval hs1
  · exact ramOk_portRebuild hs1
  · exact ramOk_portsEval hs1
  · exact ramOk_portsEval (ramOk_foldl (g := codecRefresh) (fun _ _ h1 => ramOk_codecRefresh h1) _ hs1)
  · exact ramOk_foldl (fun _ _ h2 => ramOk_hdacOut h2) _ hs1
  · exact ramOk_foldl (g := filtChanged) (fun _ _ h3 => ramOk_filtChanged h3) _ hs1
  · exact ramOk_mk hs1
  · exact ramOk_ite hs1 (ramOk_setF hs1)
  · exact ramOk_bistResume hs1
  · exact hs1

theorem ramOk_softReset {b} (hs : s.RamOk) : (s.softReset b).RamOk := by
  unfold softReset
  exact ramOk_softBegin (ramOk_foldl (fun _ _ h => ramOk_setF h) _ (ramOk_clearBlk (ramOk_softEnd hs)))

/-! ### The page header (R43, R45, R49, R53, R55) -/

theorem ramOk_blkCtl {b v} (hs : s.RamOk) : (s.blkCtl b v).RamOk := by
  unfold blkCtl
  refine ramOk_ite (ramOk_softReset hs) (ramOk_else (ramOk_ite (ramOk_loadShadows (ramOk_writeReg hs)) (ramOk_then
    (ramOk_writeReg hs) fun h => ramOk_dropShadows (ramOk_disarm h))) fun h => ?_)
  split
  · exact ramOk_portRebuild h
  · exact ramOk_thermEnable h
  · exact h

theorem ramOk_intClear {b v} (hs : s.RamOk) : (s.intClear b v).RamOk := by
  unfold intClear
  dsimp only
  exact ramOk_then (ramOk_foldl (g := engIrq) (fun _ _ h1 => ramOk_engIrq h1) _ (ramOk_setIntStat hs)) fun h2 =>
    ramOk_sendVector h2

theorem ramOk_headerWrite {b off v} (hs : s.RamOk) : (s.headerWrite b off v).RamOk := by
  unfold headerWrite
  exact ramOk_ite (ramOk_blkCtl hs) (ramOk_ite (ramOk_intClear hs) (ramOk_ite (ramOk_parityNew (ramOk_mk hs)) (ramOk_ite
    (ramOk_raiseMask hs) (ramOk_ite (ramOk_ite (ramOk_setF (ramOk_setF hs)) hs) (ramOk_ite (ramOk_stageCtl hs) (ramOk_writeReg
    hs))))))

/-! ### Block registers -/

theorem ramOk_engWrite {q e off v} (hs : s.RamOk) : (s.engWrite q e off v).RamOk := by
  unfold engWrite
  exact ramOk_ite (ramOk_leCtl hs) (ramOk_ite (ramOk_leEvtWrite hs) (ramOk_ite (ramOk_ucDataWrite hs) (ramOk_ite (ramOk_ucSeal
    hs) (ramOk_ite (ramOk_mbxCmd hs) (ramOk_ite (ramOk_mbxArg hs) (ramOk_writeReg hs))))))

theorem ramOk_llaneWrite {n off v} (hs : s.RamOk) : (s.llaneWrite n off v).RamOk := by
  unfold llaneWrite
  exact ramOk_ite (ramOk_rxCtl hs) (ramOk_ite (ramOk_adcCtl hs) (ramOk_ite (ramOk_coefWrite hs) (ramOk_ite (ramOk_resCtl hs)
    (ramOk_ite (ramOk_dite (fun _ => ramOk_counterCtlWrite hs) (fun _ => hs)) (ramOk_ite (ramOk_eyeCtl hs) (ramOk_ite
    (ramOk_innerCtl hs) (ramOk_ite (ramOk_dite (fun _ => ramOk_counterCtlWrite hs) (fun _ => hs)) (ramOk_ite (ramOk_txCtl hs)
    (ramOk_ite (ramOk_txStat hs) (ramOk_ite (ramOk_txCoefWrite hs) (ramOk_ite (ramOk_txPdWrite hs) (ramOk_ite (ramOk_txDacCtl
    hs) (ramOk_ite (ramOk_txTsrc hs) (ramOk_ite (ramOk_txMirror hs) (ramOk_ite (ramOk_dite (fun _ => ramOk_counterCtlWrite hs)
    (fun _ => hs)) (ramOk_ite (ramOk_pllCtl hs) (ramOk_writeReg hs)))))))))))))))))

theorem ramOk_hlaneWrite {m off v} (hs : s.RamOk) : (s.hlaneWrite m off v).RamOk := by
  unfold hlaneWrite
  exact ramOk_ite (ramOk_hlCtl hs) (ramOk_ite (ramOk_negCtl hs) (ramOk_ite (ramOk_hcoefWrite hs) (ramOk_ite (ramOk_dite
    (fun _ => ramOk_counterCtlWrite hs) (fun _ => hs)) (ramOk_writeReg hs))))

theorem ramOk_clusterWrite {b off v} (hs : s.RamOk) : (s.clusterWrite b off v).RamOk := by
  unfold clusterWrite
  dsimp only
  split
  · exact ramOk_ite (ramOk_pllCtl hs) (ramOk_ite (ramOk_linePwr hs) (ramOk_writeReg hs))
  · exact ramOk_ite (ramOk_pllCtl hs) (ramOk_ite (ramOk_pllCtl hs) (ramOk_ite (ramOk_hostLanePwr hs) (ramOk_writeReg hs)))

theorem ramOk_portWrite {p off v} (hs : s.RamOk) : (s.portWrite p off v).RamOk := by
  unfold portWrite
  exact ramOk_ite (ramOk_alignCtl hs) (ramOk_ite (ramOk_dite (fun _ => ramOk_counterCtlWrite hs) (fun _ => hs)) (ramOk_writeReg
    hs))

theorem ramOk_fecWrite {off v} (hs : s.RamOk) : (s.fecWrite off v).RamOk := by
  unfold fecWrite
  exact ramOk_ite (ramOk_fecLaneCtl hs) (ramOk_ite (ramOk_dite (fun _ => ramOk_counterCtlWrite hs) (fun _ => hs))
    (ramOk_writeReg hs))

theorem ramOk_fogWrite {off v} (hs : s.RamOk) : (s.fogWrite off v).RamOk := by
  unfold fogWrite
  exact ramOk_ite (ramOk_fogCtl hs) (ramOk_ite (ramOk_fogQueue hs) (ramOk_ite (ramOk_fogTxbWrite hs) (ramOk_ite (ramOk_ite
    (ramOk_fogPop hs) hs) (ramOk_ite (ramOk_fogHkRx hs) (ramOk_ite (ramOk_fogHdacTx hs) (ramOk_ite (ramOk_counterCtlWrite hs)
    (ramOk_writeReg hs)))))))

theorem ramOk_twinWrite {off v} (hs : s.RamOk) : (s.twinWrite off v).RamOk := by
  unfold twinWrite
  exact ramOk_ite (ramOk_pairCtl hs) (ramOk_ite (ramOk_posCtl hs) (ramOk_ite (ramOk_coordCtl hs) (ramOk_ite (ramOk_spareCtl hs)
    (ramOk_ite (ramOk_rangeCtl hs) (ramOk_ite (ramOk_healthCtl hs) (ramOk_writeReg hs))))))

theorem ramOk_perfCtl {v} (hs : s.RamOk) : (s.perfCtl v).RamOk := by
  unfold perfCtl
  exact ramOk_then (ramOk_writeReg hs) fun h1 => ramOk_foldl (fun _ _ h2 => ramOk_setReg (ramOk_setReg h2)) _ h1

theorem ramOk_bistCtl {v refclk rails} (hs : s.RamOk) : (s.bistCtl v refclk rails).RamOk := by
  unfold bistCtl
  exact ramOk_then (ramOk_ite (ramOk_bistResume (ramOk_bistCut hs)) hs) fun h => ramOk_bistStart h

theorem ramOk_glbWrite {off v} (hs : s.RamOk) : (s.glbWrite off v).RamOk := by
  unfold glbWrite
  exact ramOk_ite (ramOk_mk (ramOk_writeReg hs)) (ramOk_then (ramOk_writeReg hs) fun h => ramOk_setF h)

theorem ramOk_pcieWrite {off v} (hs : s.RamOk) : (s.pcieWrite off v).RamOk := by
  unfold pcieWrite
  exact ramOk_then (ramOk_writeReg hs) fun h => ramOk_setF h

theorem ramOk_anyImage (hs : s.RamOk) : s.anyImage.2.RamOk := by
  unfold anyImage
  dsimp only
  exact ramOk_draw (ramOk_draw (ramOk_draw hs))

theorem ramOk_writeOwn {q b off v} (hs : s.RamOk) : (s.writeOwn q b off v).RamOk := by
  unfold writeOwn
  dsimp only
  split
  · exact ramOk_engWrite hs
  · split
    · exact ramOk_glbWrite hs
    · exact ramOk_ite (ramOk_pwrWriteReg (ramOk_draw hs)) (ramOk_pwrWriteReg hs)
    · exact ramOk_ite (ramOk_kprWrite (ramOk_anyImage hs)) (ramOk_kprWrite hs)
    · exact ramOk_secWrite hs
    · exact ramOk_dbgWrite hs
    · exact ramOk_cfgvWrite hs
    · exact ramOk_memWriteReg hs
    · exact ramOk_ddrWriteReg hs
    · exact ramOk_dmaWriteReg hs
    · exact ramOk_logWriteReg hs
    · exact ramOk_pcieWrite hs
    · exact ramOk_timeWrite hs
    · exact ramOk_tsuWrite hs
    · exact ramOk_schedWrite hs
    · exact ramOk_hkWrite hs
    · exact ramOk_filtWrite hs
    · exact ramOk_hdacWrite hs
    · exact ramOk_thermWrite hs
    · exact ramOk_fogWrite hs
    · exact ramOk_twinWrite hs
    · exact ramOk_ite (ramOk_perfCtl hs) (ramOk_writeReg hs)
    · exact ramOk_ite (ramOk_bistCtl (ramOk_draw (ramOk_draw hs))) (ramOk_ite (ramOk_laneTest hs) (ramOk_writeReg hs))
    · exact ramOk_fecWrite hs
    · exact ramOk_llaneWrite hs
    · exact ramOk_clusterWrite hs
    · exact ramOk_clusterWrite hs
    · exact ramOk_hlaneWrite hs
    · exact ramOk_portWrite hs
    · exact ramOk_then (ramOk_writeReg hs) fun h => ramOk_wakeHeldPins h
    · exact ramOk_writeReg hs

theorem ramOk_writeDirect {q b off v} (hs : s.RamOk) : (s.writeDirect q b off v).RamOk := by
  unfold writeDirect
  exact ramOk_ite (ramOk_headerWrite hs) (ramOk_else (ramOk_recheck (ramOk_writeOwn hs)) fun h => ramOk_activeChanged h)

/-! ### The BAR0 map (R36 to R38, R370) -/

theorem ramOk_writeAlias {q b off al v} (hs : s.RamOk) : (s.writeAlias q b off al v).RamOk := by
  unfold writeAlias
  exact ramOk_writeDirect hs

/-! ### Holding registers (R41) -/

theorem ramOk_holdWord {q b top off al v} (hs : s.RamOk) : (s.holdWord q b top off al v).RamOk := by
  unfold holdWord
  exact ramOk_mk hs

theorem ramOk_writeWide {q b top al v} (hs : s.RamOk) : (s.writeWide q b top al v).RamOk := by
  unfold writeWide
  exact ramOk_ite (ramOk_parityNew (ramOk_parityNew (ramOk_tbRate (ramOk_mk hs)))) (ramOk_writeAlias (ramOk_foldl (fun _ _ h =>
    ramOk_writeAlias h) _ (ramOk_mk hs)))

theorem ramOk_writeWord {q b off al v} (hs : s.RamOk) : (s.writeWord q b off al v).RamOk := by
  unfold writeWord
  split
  · exact ramOk_holdWord hs
  · exact ramOk_ite (ramOk_writeAlias hs) (ramOk_writeWide hs)

/-! ### Refused and unmapped writes (R37, R40) -/

theorem ramOk_accErr {q a fl int} (hs : s.RamOk) : (s.accErr q a fl int).RamOk := by
  unfold accErr
  exact ramOk_ite hs (ramOk_flag (ramOk_setReg (ramOk_setF hs)))

/-! ### The MSI-X table (R36, R55) -/

theorem ramOk_pendSend {v} (hs : s.RamOk) : (s.pendSend v).RamOk := by
  unfold pendSend
  dsimp only
  exact ramOk_ite (ramOk_then (ramOk_mk hs) fun h => ramOk_sendVector h) hs

theorem ramOk_msixWrite {v w x} (hs : s.RamOk) : (s.msixWrite v w x).RamOk := by
  unfold msixWrite
  exact ramOk_pendSend (ramOk_mk hs)

/-! ### BAR0 accesses (R15, R35 to R42, R414) -/

theorem ramOk_busWrite {q a be v} (hs : s.RamOk) : (s.busWrite q a be v).RamOk := by
  unfold busWrite
  refine ramOk_ite (ramOk_dbgDenied (ramOk_ite (ramOk_tlp hs) hs)) (ramOk_ite (ramOk_accErr (ramOk_ite (ramOk_tlp hs) hs)) ?_)
  split
  · exact ramOk_ite (ramOk_writeWord (ramOk_ite (ramOk_tlp hs) hs)) (ramOk_offRecord (ramOk_ite (ramOk_tlp hs) hs))
  · exact ramOk_ite (ramOk_msixWrite (ramOk_ite (ramOk_tlp hs) hs)) (ramOk_offRecord (ramOk_ite (ramOk_tlp hs) hs))
  · exact ramOk_else (ramOk_ite (ramOk_tlp hs) hs) fun h => ramOk_offRecord h
  · exact ramOk_ite (ramOk_offRecord (ramOk_ite (ramOk_tlp hs) hs)) (ramOk_ite (ramOk_dmaAliasCtl (ramOk_ite (ramOk_tlp hs) hs))
      (ramOk_writeWord (ramOk_ite (ramOk_tlp hs) hs)))
  · exact ramOk_accErr (ramOk_ite (ramOk_tlp hs) hs)

theorem ramOk_busRead {q a} (hs : s.RamOk) : (s.busRead q a).2.RamOk := by
  unfold busRead
  refine ramOk_ite_snd (ramOk_dbgDenied hs) ?_
  split
  · exact ramOk_ite_snd (ramOk_readReg hs) (ramOk_offRecord hs)
  · exact ramOk_ite_snd hs (ramOk_offRecord hs)
  · exact ramOk_ite_snd hs (ramOk_offRecord hs)
  · exact ramOk_ite_snd (ramOk_readReg hs) (ramOk_offRecord hs)
  · exact hs

/-! ### BAR2 and BAR4 (R30, R31, R334, R335, R342, R346) -/

theorem ramOk_ueAnswer {q bar off data} (hs : s.RamOk) : (s.ueAnswer q bar off data).RamOk := by
  unfold ueAnswer
  split
  · exact ramOk_ite (ramOk_send (ramOk_setReg (ramOk_countSat (ramOk_setF hs)))) (ramOk_tlp (ramOk_send (ramOk_setReg
      (ramOk_countSat (ramOk_setF hs)))))
  · exact ramOk_ite (ramOk_setF hs) hs
  · exact hs

theorem ramOk_bar2Words {q a n} (hs : s.RamOk) : (s.bar2Words q a n).2.2.RamOk := by
  unfold bar2Words
  refine ramOk_foldl_snd_snd ?_ (wordsOf a n) hs
  intro r w h
  exact ramOk_ite_snd_snd (ramOk_draw (w := 32) h) (ramOk_sramRead w (ueSrc q) h)

theorem ramOk_bar2Read {q a n} (hs : s.RamOk) : (s.bar2Read q a n).RamOk := by
  unfold bar2Read
  dsimp only
  split
  · exact ramOk_send (ramOk_memDenied hs)
  · exact ramOk_send (ramOk_offRecord hs)
  · exact ramOk_ite (ramOk_ueAnswer (ramOk_bar2Words hs)) (ramOk_send (ramOk_bar2Words hs))

theorem ramOk_bar2Write {q a data} (hs : s.RamOk) : (s.bar2Write q a data).RamOk := by
  unfold bar2Write
  split
  · exact ramOk_memDenied hs
  · exact ramOk_offRecord hs
  · exact ramOk_ite hs (ramOk_foldl (fun _ _ h => ramOk_bar2Microcode h) _ (ramOk_ite (ramOk_sramPoke _ _ hs) (ramOk_sramWrite _
      _ hs)))

theorem ramOk_bar4Read {q a n} (hs : s.RamOk) : (s.bar4Read q a n).RamOk := by
  unfold bar4Read
  dsimp only
  split
  · exact ramOk_send (ramOk_ddrDenied hs)
  · exact ramOk_send (ramOk_offRecord hs)
  · exact ramOk_ite (ramOk_send (ramOk_ddrRead hs)) (ramOk_ueAnswer (ramOk_ddrRead hs))

theorem ramOk_bar4Write {a data} (hs : s.RamOk) : (s.bar4Write a data).RamOk := by
  unfold bar4Write
  split
  · exact ramOk_ddrDenied hs
  · exact ramOk_offRecord hs
  · exact ramOk_ddrWrite _ _ _ hs

theorem ramOk_memRead {q bar a n} (hs : s.RamOk) : (s.memRead q bar a n).RamOk := by
  unfold memRead
  refine ramOk_ite hs ?_
  extract_lets s1
  have h1 : s1.RamOk := ramOk_ite (ramOk_tlps (ramOk_tlp hs)) hs
  split
  · refine ramOk_send (ramOk_foldl_snd ?_ (wordsOf a n) h1)
    intro r w h
    exact ramOk_busRead h
  · exact ramOk_bar2Read h1
  · exact ramOk_bar4Read h1

theorem ramOk_memWrite {q bar a data} (hs : s.RamOk) : (s.memWrite q bar a data).RamOk := by
  unfold memWrite
  refine ramOk_ite hs ?_
  split
  · exact ramOk_foldl (fun _ _ h => ramOk_busWrite h) _ hs
  · exact ramOk_bar2Write (ramOk_ite (ramOk_tlps hs) hs)
  · exact ramOk_bar4Write (ramOk_ite (ramOk_tlps hs) hs)

/-! ### The I2C target (R33 to R35, R393, R394) -/

theorem ramOk_modI2c {g} (hs : s.RamOk) : (s.modI2c g).RamOk := by
  unfold modI2c
  exact ramOk_mk hs

theorem ramOk_i2cBump {c} (hs : s.RamOk) : (s.i2cBump c).RamOk := by
  unfold i2cBump
  exact ramOk_ite (ramOk_modI2c hs) hs

theorem ramOk_i2cStart {c} (hs : s.RamOk) : (s.i2cStart c).RamOk := by
  unfold i2cStart
  exact ramOk_ite hs (ramOk_ite (ramOk_modI2c hs) (ramOk_ite (ramOk_i2cBump (ramOk_modI2c (ramOk_modI2c hs))) (ramOk_modI2c
    (ramOk_modI2c hs))))

theorem ramOk_i2cDone (hs : s.RamOk) : s.i2cDone.RamOk := by
  unfold i2cDone
  exact ramOk_ite hs (ramOk_ite hs (ramOk_i2cBump (ramOk_modI2c (ramOk_ite (ramOk_modI2c (ramOk_busRead hs)) (ramOk_modI2c
    (ramOk_busWrite hs))))))

theorem ramOk_i2cByte {r x} (hs : r.1.RamOk) : (i2cByte r x).1.RamOk := by
  unfold i2cByte
  exact ramOk_modI2c hs

theorem ramOk_i2cWrite {l} (hs : s.RamOk) : (s.i2cWrite l).RamOk := by
  unfold i2cWrite
  split
  · exact hs
  · dsimp only
    split
    · exact ramOk_i2cStart (ramOk_foldl_fst (g := i2cByte) (fun _ _ h => ramOk_i2cByte h) _ (ramOk_modI2c hs))
    · exact ramOk_foldl_fst (g := i2cByte) (fun _ _ h => ramOk_i2cByte h) _ (ramOk_modI2c hs)

theorem ramOk_i2cRead {n} (hs : s.RamOk) : (s.i2cRead n).RamOk := by
  unfold i2cRead
  exact ramOk_send (ramOk_modI2c hs)

/-! ### Records (R408) -/

theorem ramOk_applySeeds {set words} (hs : s.RamOk) : (s.applySeeds set words).RamOk := by
  unfold applySeeds
  exact ramOk_ite (ramOk_sramPoke _ _ hs) hs

theorem ramOk_applyHkcal {words} (hs : s.RamOk) : (s.applyHkcal words).RamOk := by
  unfold applyHkcal
  exact ramOk_ite (ramOk_foldl (fun _ _ h => ramOk_hkFactAt h) _ hs) hs

theorem ramOk_applyRepairs {pairs p} (hs : s.RamOk) : (s.applyRepairs pairs p).RamOk := by
  unfold applyRepairs
  exact ramOk_foldl (fun _ _ h => ramOk_writeDirect (ramOk_writeDirect h)) _ hs

theorem ramOk_applyHdac {words} (hs : s.RamOk) : (s.applyHdac words).RamOk := by
  unfold applyHdac
  exact ramOk_foldl (fun _ _ h => ramOk_hdacOut (ramOk_setF (ramOk_setF (ramOk_setF h)))) _ hs

theorem ramOk_hkRecords (hs : s.RamOk) : s.hkRecords.RamOk := by
  unfold hkRecords
  split
  · exact hs
  · refine ramOk_foldl (fun _ _ h => ?_) _ hs
    split
    · exact ramOk_applyHdac h
    · exact ramOk_applyHkcal h
    · exact h

theorem ramOk_domRepairs {d} (hs : s.RamOk) : (s.domRepairs d).RamOk := by
  unfold domRepairs
  split
  · exact hs
  · refine ramOk_foldl (fun _ _ h => ?_) _ hs
    split
    · exact ramOk_applyRepairs h
    · exact h

/-! ### Staging (R419) -/

theorem ramOk_stageWord {b off w} (hs : s.RamOk) : (s.stageWord b off w).RamOk := by
  unfold stageWord
  exact ramOk_ite hs (ramOk_parityNew (ramOk_mk hs))

theorem ramOk_stageImage {x se} (hs : s.RamOk) : (s.stageImage x se).RamOk := by
  unfold stageImage
  refine ramOk_modCfgv (ramOk_foldl (fun _ _ h1 => ramOk_stageCtl h1) _ (ramOk_foldl (fun _ _ h2 => ?_) _ (ramOk_then
    (ramOk_foldl (fun _ _ h3 => ramOk_stageWord h3) _ (ramOk_foldl (fun _ _ h1 => ramOk_ite h1 (ramOk_stageOn h1)) _
    (ramOk_foldl (fun _ _ h1 => ramOk_offRecord h1) _ hs))) fun h2 => ramOk_foldl (fun _ _ h3 => ramOk_writeDirect (ramOk_setF
    (ramOk_stageWord h3))) _ h2)))
  split
  · exact ramOk_applyHkcal h2
  · exact ramOk_applySeeds h2
  · exact h2

/-! ### The commit point of a rollback (R421) -/

theorem ramOk_rbProgram {twin} (hs : s.RamOk) : (s.rbProgram twin).RamOk := by
  unfold rbProgram
  exact ramOk_foldl (fun _ _ h => ramOk_seWrite h) _ hs

theorem ramOk_rbEnable (hs : s.RamOk) : s.rbEnable.RamOk := by
  unfold rbEnable
  exact ramOk_seWrite hs

theorem ramOk_rbCoord {x} (hs : s.RamOk) : (s.rbCoord x).RamOk := by
  unfold rbCoord
  exact ramOk_coordPropose (ramOk_setReg (ramOk_setReg hs))

theorem ramOk_rbArm {x twin arm} (hk : ∀ s, s.RamOk → (arm s).RamOk) (hs : s.RamOk) : (s.rbArm x twin arm).RamOk := by
  unfold rbArm
  exact ramOk_ite (ramOk_foldl (g := commitNow) (fun _ _ h1 => ramOk_commitNow h1) _ (hk _ hs)) (ramOk_then (ramOk_rbEnable (hk
    _ (ramOk_rbProgram hs))) fun h2 => ramOk_rbCoord h2)

/-! ### Phases (R419 to R421, R423) -/

theorem ramOk_cfgFail {result int} (hs : s.RamOk) : (s.cfgFail result int).RamOk := by
  unfold cfgFail
  exact ramOk_raise (ramOk_setF (ramOk_cfgResult (ramOk_setPhase (ramOk_cfgTimerOff hs))))

theorem ramOk_verifyingDone {result x} (hs : s.RamOk) : (s.verifyingDone result x).RamOk := by
  unfold verifyingDone
  exact ramOk_ite hs (ramOk_ite (ramOk_ite (ramOk_modCfgv (ramOk_setPhase (ramOk_cfgResult hs))) (ramOk_cfgFail hs)) (ramOk_ite
    (ramOk_ite (ramOk_modCfgv hs) (ramOk_rollbackMissing hs)) hs))

theorem ramOk_stagingDone (hs : s.RamOk) : s.stagingDone.RamOk := by
  unfold stagingDone
  refine ramOk_ite hs ?_
  split
  · exact hs
  · exact ramOk_ite (ramOk_setPhase (ramOk_stageImage hs)) (ramOk_ite (ramOk_rbArm (fun _ h => ramOk_stageImage h)
      (ramOk_modCfgv hs)) hs)

theorem ramOk_writeRw {x} (hs : s.RamOk) : (s.writeRw x).RamOk := by
  unfold writeRw
  exact ramOk_foldl (fun _ _ h => ramOk_ite h (ramOk_ite (ramOk_offRecord h) (ramOk_writeWord h))) _ hs

theorem ramOk_cfgSwap {x slot} (hs : s.RamOk) : (s.cfgSwap x slot).RamOk := by
  unfold cfgSwap
  exact ramOk_modCfgv (ramOk_setF (ramOk_setF (ramOk_setReg (ramOk_setReg hs))))

theorem ramOk_applyDone {x} (hs : s.RamOk) : (s.applyDone x).RamOk := by
  unfold applyDone
  exact ramOk_raise (ramOk_setF (ramOk_modCfgv (ramOk_mk (ramOk_setPhase (ramOk_cfgSwap (ramOk_writeRw hs))))))

theorem ramOk_rollbackDone {x} (hs : s.RamOk) : (s.rollbackDone x).RamOk := by
  unfold rollbackDone
  exact ramOk_raise (ramOk_modCfgv (ramOk_mk (ramOk_setPhase (ramOk_cfgTimerOff (ramOk_cfgSwap (ramOk_writeRw hs))))))

theorem ramOk_cfgCommitFail (hs : s.RamOk) : s.cfgCommitFail.RamOk := by
  unfold cfgCommitFail
  exact ramOk_cfgFail (ramOk_modCfgv (ramOk_foldl (g := discard) (fun _ _ h => ramOk_discard h) _ hs))

theorem ramOk_cfgvEval (hs : s.RamOk) : s.cfgvEval.RamOk := by
  unfold cfgvEval
  refine ramOk_ite hs ?_
  split
  · exact hs
  · exact ramOk_ite (ramOk_ite (ramOk_applyDone hs) (ramOk_rollbackDone hs)) (ramOk_ite (ramOk_rbArm (fun _ h1 => ramOk_foldl
      (fun _ _ h2 => ramOk_stageCtl h2) _ h1) (ramOk_modCfgv hs)) (ramOk_ite hs (ramOk_cfgCommitFail hs)))

/-! ### The Keeper's restart (R392, R411 to R413, R423) -/

theorem ramOk_keeperRestarted {us fw} (hs : s.RamOk) : (s.keeperRestarted us fw).RamOk := by
  unfold keeperRestarted
  refine ramOk_ite hs (ramOk_then (ramOk_deriveKey ?_) fun h => ramOk_cfgFail (ramOk_modCfgv (ramOk_foldl (g := discard)
    (fun _ _ h => ramOk_discard h) _ h)))
  split
  · exact ramOk_setF (ramOk_setB (ramOk_setReg hs))
  · exact ramOk_firmwareBoot (ramOk_setB (ramOk_setReg hs))

/-! ### Reset (R8, R403, R444) -/

theorem ramOk_resetState : s.resetState.RamOk := by
  unfold resetState
  exact ramOk_else (ramOk_setReg (ramOk_mk ramOk_reset)) fun h => ramOk_setF h

theorem ramOk_porstLow : s.porstLow.RamOk := by
  unfold porstLow
  exact ramOk_mk ramOk_resetState

/-! ### Power-on BIST and the floors (R22, R426 to R430) -/

theorem ramOk_porBist {mask x} (hs : s.RamOk) : (s.porBist mask x).RamOk := by
  unfold porBist
  refine ramOk_ite (ramOk_modPwr (ramOk_setF (ramOk_setReg hs))) (ramOk_bistEnd (ramOk_foldl (fun _ _ h => ?_) _
    (ramOk_bistPrecond (ramOk_mk (ramOk_setF (ramOk_setReg hs))))))
  split
  · exact ramOk_setBist h
  · exact ramOk_bistComplete h

theorem ramOk_bistHold (hs : s.RamOk) : s.bistHold.RamOk := by
  unfold bistHold
  exact ramOk_mk (ramOk_domainsDown (ramOk_setF hs))

/-! ### Images (R407, R410, R411) -/

theorem ramOk_bootConfig {x} (hs : s.RamOk) : (s.bootConfig x).RamOk := by
  unfold bootConfig
  dsimp only
  split
  · exact ramOk_mk (ramOk_setF hs)
  · exact ramOk_mk (ramOk_setReg (ramOk_setReg (ramOk_setF (ramOk_setF (ramOk_setF hs)))))

theorem ramOk_bootBundle {l} (hs : s.RamOk) : (s.bootBundle l).RamOk := by
  unfold bootBundle
  split
  · exact ramOk_setF hs
  · exact ramOk_then (ramOk_setF hs) fun h => ramOk_setReg h

/-! ### The records of the active image at boot (R13, R30, R341, R375, R376, R408) -/

theorem ramOk_bootDomain {d} (hs : s.RamOk) : (s.bootDomain d).RamOk := by
  unfold bootDomain
  exact ramOk_ite hs (ramOk_then (ramOk_domRepairs (ramOk_domainUp hs)) fun h => ramOk_hkRecords h)

theorem ramOk_bootDomains {m} (hs : s.RamOk) : (s.bootDomains m).RamOk := by
  unfold bootDomains
  exact ramOk_foldl (g := bootDomain) (fun _ _ h1 => ramOk_bootDomain h1) _ (ramOk_foldl (g := bootDomain) (fun _ _ h2 =>
    ramOk_bootDomain h2) _ hs)

theorem ramOk_keeperWrite {b off v} (hs : s.RamOk) : (s.keeperWrite b off v).RamOk := by
  unfold keeperWrite
  exact ramOk_busWrite hs

theorem ramOk_drainStart (hs : s.RamOk) : s.drainStart.RamOk := by
  unfold drainStart
  exact ramOk_logCtl (ramOk_ite hs (ramOk_setReg (ramOk_setReg (ramOk_setReg (ramOk_setReg hs)))))

theorem ramOk_bootRecord {r} (hs : s.RamOk) : (s.bootRecord r).RamOk := by
  unfold bootRecord
  split
  · exact ramOk_foldl (fun _ _ h => ramOk_busWrite h) _ hs
  · exact ramOk_applySeeds hs
  · exact ramOk_logCtl (ramOk_setReg (ramOk_setReg (ramOk_setReg (ramOk_setReg hs))))
  · exact hs

theorem ramOk_bootApply (hs : s.RamOk) : s.bootApply.RamOk := by
  unfold bootApply
  refine ramOk_then (ramOk_foldl (g := bootRecord) (fun _ _ h1 => ramOk_bootRecord h1) _ (ramOk_foldl (fun _ _ h1 => ?_) _
    (ramOk_foldl (fun _ _ h2 => ?_) _ (ramOk_foldl (g := domRepairs) (fun _ _ h1 => ramOk_domRepairs h1) _ hs)))) fun h3 =>
    ramOk_drainStart h3
  · split
    · exact ramOk_setReg (ramOk_setReg (ramOk_bootDomains h1))
    · exact h1
  · split
    · exact ramOk_keeperWrite (ramOk_bootDomains h2)
    · exact h2

/-! ### The boot ROM (R411, R412) -/

theorem ramOk_boot {x cause} (hs : s.RamOk) : (s.boot x cause).RamOk := by
  unfold boot
  exact ramOk_ite (ramOk_bistHold (ramOk_porBist (ramOk_setF (ramOk_bootBundle (ramOk_bootConfig (ramOk_firmwareBoot
    (ramOk_setReg (ramOk_mk (ramOk_setF (ramOk_setF hs)))))))))) (ramOk_bootApply (ramOk_then (ramOk_keeperWrite
    (ramOk_deriveKey (ramOk_setF (ramOk_setB (ramOk_setReg (ramOk_mk (ramOk_else (ramOk_porBist (ramOk_setF (ramOk_bootBundle
    (ramOk_bootConfig (ramOk_firmwareBoot (ramOk_setReg (ramOk_mk (ramOk_setF (ramOk_setF hs))))))))) fun h1 =>
    ramOk_domainsDown h1))))))) fun h2 => ramOk_pmbStart h2))

theorem ramOk_powerOn {x} : (s.powerOn x).RamOk := by
  unfold powerOn
  exact ramOk_boot (ramOk_mk ramOk_resetState)

/-! ### Exits and domain requests that the Keeper completes (R276, R305, R314, R340, R392, R395) -/

theorem ramOk_darkExit {x} (hs : s.RamOk) : (s.darkExit x).RamOk := by
  unfold darkExit
  exact ramOk_modPwr (ramOk_else (ramOk_ite (ramOk_timeRestore (ramOk_boot (ramOk_mk hs))) (ramOk_modPwr (ramOk_boot (ramOk_mk
    hs)))) fun h => ramOk_exitEnd h)

theorem ramOk_keeperRestore {down r} (hs : s.RamOk) : (s.keeperRestore down r).RamOk := by
  unfold keeperRestore
  dsimp only
  split
  · exact ramOk_then (ramOk_foldl (g := domRepairs) (fun _ _ h1 => ramOk_domRepairs h1) _ hs) fun h2 => ramOk_hkRecords h2
  · exact ramOk_foldl (fun _ _ h3 => ramOk_keeperWrite h3) _ (ramOk_then (ramOk_foldl (g := domRepairs) (fun _ _ h4 =>
      ramOk_domRepairs h4) _ hs) fun h5 => ramOk_hkRecords h5)

theorem ramOk_exitStepDone {ddrKept x} (hs : s.RamOk) : (s.exitStepDone ddrKept x).RamOk := by
  unfold exitStepDone
  refine ramOk_ite ?_ (ramOk_ite hs (ramOk_then (ramOk_exitStep hs) fun h => ramOk_keeperRestore h))
  split
  · exact ramOk_darkExit hs
  · exact hs

theorem ramOk_keeperBack {us fw} (hs : s.RamOk) : (s.keeperBack us fw).RamOk := by
  unfold keeperBack
  exact ramOk_then (ramOk_keeperRestarted hs) fun h => ramOk_keeperRestore h

theorem ramOk_domRequestDone {ddrKept} (hs : s.RamOk) : (s.domRequestDone ddrKept).RamOk := by
  unfold domRequestDone
  dsimp only
  split
  · exact ramOk_then (ramOk_domDone hs) fun h1 => ramOk_then (ramOk_domRepairs h1) fun h2 => ramOk_hkRecords h2
  · exact ramOk_domDone hs

/-! ### The PCIe link (R28, R32, R55, R385, R445) -/

theorem ramOk_pcieReset (hs : s.RamOk) : s.pcieReset.RamOk := by
  unfold pcieReset
  exact ramOk_then (ramOk_mk hs) fun h => ramOk_setF (ramOk_setF h)

theorem ramOk_linkUpEvent {speed width flit reversed} (hs : s.RamOk) : (s.linkUpEvent speed width flit reversed).RamOk := by
  unfold linkUpEvent
  exact ramOk_ite hs (ramOk_then (ramOk_setF (ramOk_setB (ramOk_setB (ramOk_setF (ramOk_setF (ramOk_mk hs)))))) fun h1 =>
    ramOk_foldl (g := pendSend) (fun _ _ h2 => ramOk_pendSend h2) _ h1)

theorem ramOk_linkDownEvent (hs : s.RamOk) : s.linkDownEvent.RamOk := by
  unfold linkDownEvent
  exact ramOk_ite hs (ramOk_setF (ramOk_setF hs))

theorem ramOk_configWrite {d3hot busMaster msixEn} (hs : s.RamOk) : (s.configWrite d3hot busMaster msixEn).RamOk := by
  unfold configWrite
  exact ramOk_ite hs (ramOk_mk hs)

theorem ramOk_unsupportedRequest (hs : s.RamOk) : s.unsupportedRequest.RamOk := by
  unfold unsupportedRequest
  exact ramOk_ite hs (ramOk_tlp (ramOk_tlp (ramOk_send (ramOk_countSat (ramOk_setF hs)))))

theorem ramOk_hostRead {q bar off n l} (hs : s.RamOk) : (s.hostRead q bar off n l).RamOk := by
  unfold hostRead
  refine ramOk_ite (ramOk_unsupportedRequest ?_) (ramOk_memRead ?_)
  · split
    · exact hs
    · exact ramOk_ite (ramOk_sramUpset _ hs) hs
    · exact ramOk_ite (ramOk_ddrUpset hs) hs
  · split
    · exact hs
    · exact ramOk_ite (ramOk_sramUpset _ hs) hs
    · exact ramOk_ite (ramOk_ddrUpset hs) hs

theorem ramOk_hostWriteMem {q bar off data} (hs : s.RamOk) : (s.hostWriteMem q bar off data).RamOk := by
  unfold hostWriteMem
  exact ramOk_ite (ramOk_unsupportedRequest hs) (ramOk_memWrite hs)

theorem ramOk_offAccess {q bar off write} (hs : s.RamOk) : (s.offAccess q bar off write).RamOk := by
  unfold offAccess
  refine ramOk_ite hs ?_
  split
  · exact ramOk_ite (ramOk_busWrite hs) (ramOk_send (ramOk_busRead hs))
  · exact ramOk_ite (ramOk_memWrite hs) (ramOk_memRead hs)

theorem ramOk_unmask {v} (hs : s.RamOk) : (s.unmask v).RamOk := by
  unfold unmask
  exact ramOk_ite (ramOk_msixWrite hs) hs

theorem ramOk_onI2c {k} (hk : ∀ s, s.RamOk → (k s).RamOk) (hs : s.RamOk) : (s.onI2c k).RamOk := by
  unfold onI2c
  exact ramOk_ite (hk _ hs) hs

/-! ### The reference clock and the crystal (R19, R277, R458) -/

theorem ramOk_refLoss {ppm} (hs : s.RamOk) : (s.refLoss ppm).RamOk := by
  unfold refLoss
  split
  · exact hs
  · extract_lets s1 s2 s3 s4 s5
    have h3 : s3.RamOk := ramOk_mk (ramOk_setF (ramOk_setF (ramOk_flag (ramOk_setF hs))))
    have h4 : s4.RamOk := by
      refine ramOk_then h3 fun h => ramOk_foldl ?_ _ h
      exact fun _ _ h => ramOk_then h fun h => ramOk_setF h
    have h5 : s5.RamOk := ramOk_foldl (fun _ _ h => ramOk_then h fun h => ramOk_setF h) _ h4
    exact ramOk_hsRefLost (ramOk_portsEval (ramOk_holdoverAll (ramOk_squelchAll h5)))

theorem ramOk_refReturn {ppm} (hs : s.RamOk) : (s.refReturn ppm).RamOk := by
  unfold refReturn
  exact ramOk_ite hs (ramOk_else (ramOk_setF hs) fun h => ramOk_raise (ramOk_mk h))

theorem ramOk_refRelock (hs : s.RamOk) : s.refRelock.RamOk := by
  unfold refRelock
  split
  · exact hs
  · extract_lets edges tol unc s1 s2 s3
    have h2 : s2.RamOk := ramOk_mk (ramOk_setF (ramOk_setF hs))
    have h3 : s3.RamOk := by
      refine ramOk_then h2 fun h => ramOk_foldl ?_ _ h
      exact fun _ _ h => ramOk_then h fun h => ramOk_tbSeed (ramOk_setReg h)
    exact ramOk_portsEval (ramOk_squelchAll h3)

theorem ramOk_xtalFail (hs : s.RamOk) : s.xtalFail.RamOk := by
  unfold xtalFail
  exact ramOk_ite hs (ramOk_flag (ramOk_setF hs))

theorem ramOk_xtalResume (hs : s.RamOk) : s.xtalResume.RamOk := by
  unfold xtalResume
  exact ramOk_ite (ramOk_setF hs) hs

/-! ### The parity sweep (R51, R52, R422) -/

theorem ramOk_regUpset {b off shadow m} (hs : s.RamOk) : (s.regUpset b off shadow m).RamOk := by
  unfold regUpset
  exact ramOk_else (ramOk_ite hs (ramOk_ite (ramOk_mk hs) (ramOk_ite (ramOk_mk hs) (ramOk_activeChanged (ramOk_recheck
    (ramOk_setReg hs)))))) fun h => ramOk_ite (ramOk_mk h) (ramOk_mk h)

theorem ramOk_parityReport {b off shadow} (hs : s.RamOk) : (s.parityReport b off shadow).RamOk := by
  unfold parityReport
  exact ramOk_raise (ramOk_logRecord _ (ramOk_setF (ramOk_countSat (ramOk_setB (ramOk_setF (ramOk_mk hs))))))

theorem ramOk_sweepTo {b off} (hs : s.RamOk) : (s.sweepTo b off).RamOk := by
  unfold sweepTo
  exact ramOk_mk (ramOk_setF (ramOk_ite hs (ramOk_mk (ramOk_setF hs))))

theorem ramOk_paritySweep {b off shadow m} (hs : s.RamOk) : (s.paritySweep b off shadow m).RamOk := by
  unfold paritySweep
  exact ramOk_ite hs (ramOk_then (ramOk_sweepTo (ramOk_regUpset hs)) fun h => ramOk_parityReport h)

theorem ramOk_parityRestore {b off} (hs : s.RamOk) : (s.parityRestore b off).RamOk := by
  unfold parityRestore
  dsimp only
  split
  · exact hs
  · exact ramOk_ite hs (ramOk_raise (ramOk_satReg (ramOk_parityNew (ramOk_activeChanged (ramOk_recheck (ramOk_ite (ramOk_mk hs)
      (ramOk_setReg hs)))))))

/-! ### The AON clock edge -/

theorem ramOk_tbAdvance {n} (hs : s.RamOk) : (s.tbAdvance n).RamOk := by
  unfold tbAdvance
  exact ramOk_ite hs (ramOk_stepTick (ramOk_setTb hs))

theorem ramOk_hostFollow {m k} (hs : s.RamOk) : (s.hostFollow m k).RamOk := by
  unfold hostFollow
  exact ramOk_setReg (ramOk_modHlane hs)

theorem ramOk_wheelTurn {p hb a} (hs : s.RamOk) : (s.wheelTurn p hb a).RamOk := by
  unfold wheelTurn
  exact ramOk_ite (ramOk_setPos hs) hs

theorem ramOk_engPass {e k} (hs : s.RamOk) : (s.engPass e k).RamOk := by
  unfold engPass
  refine ramOk_ite hs (ramOk_engWake ?_)
  split
  · exact hs
  · exact ramOk_perf (ramOk_modEng hs)
  · exact ramOk_modEng hs

theorem ramOk_perfPass {k} (hs : s.RamOk) : (s.perfPass k).RamOk := by
  unfold perfPass
  exact ramOk_ite hs (ramOk_then (ramOk_then (ramOk_perf (ramOk_perf hs)) fun h1 => ramOk_perf h1) fun h2 => ramOk_perf
    (ramOk_perf (ramOk_perf (ramOk_draw (ramOk_draw h2)))))

theorem ramOk_aonEdge (hs : s.RamOk) : s.aonEdge.RamOk := by
  unfold aonEdge
  extract_lets a d s1 s2 k s3 s4 s5 s6 s7 s8 s9 s10
  have h2 : s2.RamOk := ramOk_else (ramOk_setAonCnt hs) fun h => ramOk_mk h
  have h3 : s3.RamOk := ramOk_foldl (g := tbAdvance) (fun _ _ h => ramOk_tbAdvance h) _ h2
  have h4 : s4.RamOk := ramOk_foldl (fun _ _ h => ramOk_txFollow h) _ h3
  have h5 : s5.RamOk := ramOk_else h4 fun h => ramOk_foldl (fun _ _ h => ramOk_hostFollow h) _ h
  have h6 : s6.RamOk := ramOk_foldl (fun _ _ h => ramOk_wheelTurn (ramOk_wheelTurn h)) _ h5
  have h7 : s7.RamOk := ramOk_foldl (fun _ _ h => ramOk_engPass h) _ h6
  have h8 : s8.RamOk := ramOk_foldl (fun _ _ h => ramOk_setPrim h) _ h7
  have h9 : s9.RamOk := ramOk_then h8 fun h => ramOk_foldl (g := hdacTick) (fun _ _ h => ramOk_hdacTick h) _ h
  have h10 : s10.RamOk := ramOk_then h9 fun h => ramOk_modCfgv h
  exact ramOk_cfgvEval (ramOk_perfPass h10)

/-! ### The rows and the clock -/

/-- A command sends the messages of an operation that keeps both memories in canonical form. -/
theorem ramOk_exec (c : Instr) (hs : s.RamOk) : ∃ u, exec c s = finish s u ∧ u.RamOk := by
  cases c
  case powerOnReset => exact ⟨_, rfl, ramOk_powerOn⟩
  case pciePerst => exact ⟨_, rfl, ramOk_pcieReset hs⟩
  case linkUp => exact ⟨_, rfl, ramOk_linkUpEvent hs⟩
  case linkDown => exact ⟨_, rfl, ramOk_linkDownEvent hs⟩
  case regWrite | holdingWrite => exact ⟨_, rfl, ramOk_busWrite hs⟩
  case offAccess => exact ⟨_, rfl, ramOk_offAccess hs⟩
  case hostMemRead => exact ⟨_, rfl, ramOk_hostRead hs⟩
  case hostMemWrite => exact ⟨_, rfl, ramOk_hostWriteMem hs⟩
  case unsupportedRequest => exact ⟨_, rfl, ramOk_unsupportedRequest hs⟩
  case i2cWrite => exact ⟨_, rfl, ramOk_onI2c (fun _ h => ramOk_i2cWrite h) hs⟩
  case i2cRead => exact ⟨_, rfl, ramOk_onI2c (fun _ h => ramOk_i2cRead h) hs⟩
  case i2cCmdRead | i2cCmdWrite | i2cCmdReadInc | i2cCmdWriteInc => exact ⟨_, rfl, ramOk_onI2c (fun _ h => ramOk_i2cStart h) hs⟩
  case i2cAccessDone => exact ⟨_, rfl, ramOk_onI2c (fun _ h => ramOk_i2cDone h) hs⟩
  case i2cAddressMatch => exact ⟨_, rfl, ramOk_onI2c (fun _ h => ramOk_wakeUp h) hs⟩
  case softReset | stageOn | stageOff => exact ⟨_, rfl, ramOk_accessBy (fun _ h => ramOk_blkCtl h) hs⟩
  case intForce => exact ⟨_, rfl, ramOk_accessBy (fun _ h => ramOk_headerWrite h) hs⟩
  case intStatClear => exact ⟨_, rfl, ramOk_accessBy (fun _ h => ramOk_intClear h) hs⟩
  case msixUnmask => exact ⟨_, rfl, ramOk_unmask hs⟩
  case commitNow | discard | arm | disarm => exact ⟨_, rfl, ramOk_accessBy (fun _ h => ramOk_stageCtl h) hs⟩
  case paritySweep => exact ⟨_, rfl, ramOk_paritySweep hs⟩
  case parityRestore => exact ⟨_, rfl, ramOk_parityRestore hs⟩
  case refclkLoss => exact ⟨_, rfl, ramOk_refLoss hs⟩
  case refclkReturn => exact ⟨_, rfl, ramOk_refReturn hs⟩
  case refPllRelock => exact ⟨_, rfl, ramOk_refRelock hs⟩
  case xtalFail => exact ⟨_, rfl, ramOk_xtalFail hs⟩
  case pllEnable => exact ⟨_, rfl, ramOk_accessBy (fun _ h => ramOk_pllCtl h) hs⟩
  case pllLock => exact ⟨_, rfl, ramOk_pllLock hs⟩
  case pllLockLost => exact ⟨_, rfl, ramOk_pllLost hs⟩
  case lanePwrWrite =>
    refine ⟨_, rfl, ?_⟩
    split
    · exact ramOk_accessBy (fun _ h1 => ramOk_linePwr h1) hs
    · exact ramOk_accessBy (fun _ h2 => ramOk_hostLanePwr h2) hs
  case slicePwrRdy => exact ⟨_, rfl, ramOk_slicesReady hs⟩
  case rxCtlWrite => exact ⟨_, rfl, ramOk_accessBy (fun _ h => ramOk_rxCtl h) hs⟩
  case fgCalDone => exact ⟨_, rfl, ramOk_fgCalDone hs⟩
  case sigDetRise =>
    refine ⟨_, rfl, ?_⟩
    split
    · exact ramOk_sigRise hs
    · exact ramOk_hostSigRise hs
  case sigDetFall =>
    refine ⟨_, rfl, ?_⟩
    split
    · exact ramOk_sigFall hs
    · exact ramOk_hostSigFall hs
  case cdrLockGain =>
    refine ⟨_, rfl, ?_⟩
    split
    · exact ramOk_cdrGain hs
    · exact ramOk_hostCdrGain hs
  case cdrLockLoss =>
    refine ⟨_, rfl, ?_⟩
    split
    · exact ramOk_cdrLost hs
    · exact ramOk_hostCdrLost hs
  case freqOorSet =>
    refine ⟨_, rfl, ?_⟩
    split
    · exact ramOk_oorSet hs
    · exact ramOk_hostOorSet hs
  case freqOorClear =>
    refine ⟨_, rfl, ?_⟩
    split
    · exact ramOk_oorClear hs
    · exact ramOk_hostOorClear hs
  case bgcalStepEnd => exact ⟨_, rfl, ramOk_bgEnd hs⟩
  case coefDataWrite => exact ⟨_, rfl, ramOk_accessBy (fun _ h => ramOk_coefWrite h) hs⟩
  case coefDataRead => exact ⟨_, rfl, ramOk_accessBy (fun _ h => ramOk_coefAdvance (ramOk_send h)) hs⟩
  case ffeResidueMismatch => exact ⟨_, rfl, ramOk_ite (ramOk_ffeEvent hs) hs⟩
  case mlseResidueMismatch => exact ⟨_, rfl, ramOk_ite (ramOk_mlseEvent hs) hs⟩
  case injFfe | injMlse => exact ⟨_, rfl, ramOk_accessBy (fun _ h => ramOk_resCtl h) hs⟩
  case counterClr => exact ⟨_, rfl, ramOk_accessBy (fun _ h => ramOk_counterCtlWrite h) hs⟩
  case counterSnap | counterLive =>
    refine ⟨_, rfl, ramOk_accessBy (fun _ h => ?_) hs⟩
    split
    · exact ramOk_counterCtlWrite h
    · exact h
  case eyeStart => exact ⟨_, rfl, ramOk_accessBy (fun _ h => ramOk_eyeCtl h) hs⟩
  case eyeDone => exact ⟨_, rfl, ramOk_eyeDone hs⟩
  case txCtlWrite => exact ⟨_, rfl, ramOk_accessBy (fun _ h => ramOk_txCtl h) hs⟩
  case dacCalDone => exact ⟨_, rfl, ramOk_dacCalDone hs⟩
  case dacBgcalStepEnd => exact ⟨_, rfl, ramOk_dacBgEnd hs⟩
  case txCoefDataWrite => exact ⟨_, rfl, ramOk_accessBy (fun _ h => ramOk_txCoefWrite h) hs⟩
  case txCoefDataRead => exact ⟨_, rfl, ramOk_accessBy (fun _ h => ramOk_txCoefAdvance (ramOk_send h)) hs⟩
  case txPdCtlWrite => exact ⟨_, rfl, ramOk_accessBy (fun _ h => ramOk_txPdWrite h) hs⟩
  case dacClrFall => exact ⟨_, rfl, ramOk_clrFall hs⟩
  case dacClrRise => exact ⟨_, rfl, ramOk_clrRise hs⟩
  case clrSeenClear => exact ⟨_, rfl, ramOk_accessBy (fun _ h => ramOk_txStat h) hs⟩
  case fecModeWrite => exact ⟨_, rfl, ramOk_accessBy (fun _ h => ramOk_fecLaneCtl h) hs⟩
  case innerWindowEnd => exact ⟨_, rfl, ramOk_innerWindowEnd hs⟩
  case forceHunt => exact ⟨_, rfl, ramOk_accessBy (fun _ h => ramOk_innerCtl h) hs⟩
  case innerCodewordDecoded => exact ⟨_, rfl, ramOk_innerCodeword hs⟩
  case lpcBlockPeriod => exact ⟨_, rfl, ramOk_lpcPeriod hs⟩
  case lpcBlockEnd => exact ⟨_, rfl, ramOk_lpcBlockEnd hs⟩
  case iterChg => exact ⟨_, rfl, ramOk_iterChg hs⟩
  case rsCodewordMonitored => exact ⟨_, rfl, ramOk_rsCodeword hs⟩
  case addOp | subOp | andOp | orOp | xorOp | sllOp | srlOp | sraOp | sltOp | sltuOp | minOp | maxOp | mulOp | mulhOp | cmp |
    addi | andi | ori | xori | slli | srli | srai | lui | cmpi | sati | lw | lh | lhu | sw | sh | br | jal | jr | loop | wait |
    halt | prd | pwr | vldp | vstp | vadd | vsub | vmul | vmin | vmax | vsgn | vshr | vshl | vsat | vand | vmov | vmac | vrda |
    vclr | vred | vbc | vext | vins | vld | vst =>
    exact ⟨_, rfl, ramOk_engIssue hs⟩
  case illegalInstruction => exact ⟨_, rfl, ramOk_engIllegal hs⟩
  case engineWatchdog => exact ⟨_, rfl, ramOk_engWatchdog hs⟩
  case rxSwap | txSwap | pdOut | phofsStep | slotMap | gaAck | histStart | timerCmp | mbxDone | mbxNote | pwrRsp | trnReq |
    trnReady =>
    exact ⟨_, rfl, ramOk_primEvent hs⟩
  case histDone => exact ⟨_, rfl, ramOk_laneHistEnd hs⟩
  case gaWindowEnd => exact ⟨_, rfl, ramOk_laneGaEnd hs⟩
  case timerMatch => exact ⟨_, rfl, ramOk_timerMatch hs⟩
  case engineRun | engineStep => exact ⟨_, rfl, ramOk_accessBy (fun _ h => ramOk_leCtl h) hs⟩
  case ucDataWrite => exact ⟨_, rfl, ramOk_accessBy (fun _ h => ramOk_ucDataWrite h) hs⟩
  case ucSeal | invalidate => exact ⟨_, rfl, ramOk_accessBy (fun _ h => ramOk_ucSeal h) hs⟩
  case sealed => exact ⟨_, rfl, ramOk_ucSealed hs⟩
  case microcodeSwap => exact ⟨_, rfl, ramOk_ucSwapNow hs⟩
  case mbxCmd => exact ⟨_, rfl, ramOk_accessBy (fun _ h => ramOk_mbxCmd h) hs⟩
  case train => exact ⟨_, rfl, ramOk_lineTrain hs⟩
  case freeze => exact ⟨_, rfl, ramOk_lineFreeze hs⟩
  case resume => exact ⟨_, rfl, ramOk_lineResume hs⟩
  case setMu => exact ⟨_, rfl, ramOk_lineSetMu hs⟩
  case setLoop => exact ⟨_, rfl, ramOk_lineSetLoop hs⟩
  case status => exact ⟨_, rfl, ramOk_lineStatus hs⟩
  case eye => exact ⟨_, rfl, ramOk_lineEye hs⟩
  case remap => exact ⟨_, rfl, ramOk_lineRemap hs⟩
  case spareTrain => exact ⟨_, rfl, ramOk_lineSpareTrain hs⟩
  case stop => exact ⟨_, rfl, ramOk_lineStop hs⟩
  case adapt => exact ⟨_, rfl, ramOk_hostAdapt hs⟩
  case hostFreeze => exact ⟨_, rfl, ramOk_hostFreeze hs⟩
  case hostResume => exact ⟨_, rfl, ramOk_hostResume hs⟩
  case hostSetMu => exact ⟨_, rfl, ramOk_hostSetMu hs⟩
  case hostStatus => exact ⟨_, rfl, ramOk_hostStatus hs⟩
  case setPreset => exact ⟨_, rfl, ramOk_hostPreset hs⟩
  case hostStop => exact ⟨_, rfl, ramOk_hostStop hs⟩
  case hlCtlWrite => exact ⟨_, rfl, ramOk_accessBy (fun _ h => ramOk_hlCtl h) hs⟩
  case hlCalDone => exact ⟨_, rfl, ramOk_hostCalDone hs⟩
  case blockLock => exact ⟨_, rfl, ramOk_blockLock hs⟩
  case capabilityPageRx => exact ⟨_, rfl, ramOk_pageRx hs⟩
  case capabilityPageTx => exact ⟨_, rfl, ramOk_pageTx hs⟩
  case switchElapsed => exact ⟨_, rfl, ramOk_switchElapsed hs⟩
  case trainingFrameRx => exact ⟨_, rfl, ramOk_trainFrame hs⟩
  case trainLimit => exact ⟨_, rfl, ramOk_trainLimit hs⟩
  case negTimerLimit => exact ⟨_, rfl, ramOk_negTimerLimit hs⟩
  case linkDownTimeout => exact ⟨_, rfl, ramOk_linkDownTimeout hs⟩
  case restart => exact ⟨_, rfl, ramOk_accessBy (fun _ h => ramOk_negCtl h) hs⟩
  case rxIdleSet => exact ⟨_, rfl, ramOk_rxIdleSet hs⟩
  case rxIdleClear => exact ⟨_, rfl, ramOk_rxIdleClear hs⟩
  case fastExitMarker => exact ⟨_, rfl, ramOk_fastExit hs⟩
  case hcoefDataWrite => exact ⟨_, rfl, ramOk_accessBy (fun _ h => ramOk_hcoefWrite h) hs⟩
  case muxLock => exact ⟨_, rfl, ramOk_muxLock hs⟩
  case muxLockLost => exact ⟨_, rfl, ramOk_muxUnlock hs⟩
  case markerLock => exact ⟨_, rfl, ramOk_markerLock (ramOk_freewheelEnd hs)⟩
  case deskewDone => exact ⟨_, rfl, ramOk_deskewDone hs⟩
  case markerLoss => exact ⟨_, rfl, ramOk_markerLoss hs⟩
  case lanesNotReady => exact ⟨_, rfl, ramOk_portEval hs⟩
  case forceTx | forceRx => exact ⟨_, rfl, ramOk_accessBy (fun _ h => ramOk_alignCtl h) hs⟩
  case slip => exact ⟨_, rfl, ramOk_slip hs⟩
  case monWindowEnd => exact ⟨_, rfl, ramOk_monWindowEnd hs⟩
  case pairHail | pairRelease => exact ⟨_, rfl, ramOk_accessBy (fun _ h => ramOk_pairCtl h) hs⟩
  case hailTimer => exact ⟨_, rfl, ramOk_hailTimer hs⟩
  case hailLimit => exact ⟨_, rfl, ramOk_hailLimit hs⟩
  case confirmWaitExpiry => exact ⟨_, rfl, ramOk_confirmWait hs⟩
  case heartbeatTimer => exact ⟨_, rfl, ramOk_heartbeatTimer hs⟩
  case adrift => exact ⟨_, rfl, ramOk_twinAdrift hs⟩
  case adriftLimit => exact ⟨_, rfl, ramOk_adriftLimit hs⟩
  case hail => exact ⟨_, rfl, ramOk_rxHail hs⟩
  case answer => exact ⟨_, rfl, ramOk_rxAnswer hs⟩
  case confirm => exact ⟨_, rfl, ramOk_rxConfirm hs⟩
  case heartbeat => exact ⟨_, rfl, ramOk_twinRx (fun _ h => ramOk_rxHeartbeat h) hs⟩
  case pos => exact ⟨_, rfl, ramOk_twinRx (fun _ h => ramOk_rxPos h) hs⟩
  case posAck => exact ⟨_, rfl, ramOk_twinRx (fun _ h => ramOk_rxPosAck h) hs⟩
  case posRun => exact ⟨_, rfl, ramOk_accessBy (fun _ h => ramOk_posCtl h) hs⟩
  case posAutoRerun => exact ⟨_, rfl, ramOk_posAuto hs⟩
  case rangeRun => exact ⟨_, rfl, ramOk_accessBy (fun _ h => ramOk_rangeCtl h) hs⟩
  case range => exact ⟨_, rfl, ramOk_twinRx (fun _ h => ramOk_rxRange h) hs⟩
  case rangeEcho => exact ⟨_, rfl, ramOk_twinRx (fun _ h => ramOk_rxRangeEcho h) hs⟩
  case coordStart | coordAbort => exact ⟨_, rfl, ramOk_accessBy (fun _ h => ramOk_coordCtl h) hs⟩
  case propose => exact ⟨_, rfl, ramOk_twinRx (fun _ h => ramOk_rxPropose h) hs⟩
  case accept => exact ⟨_, rfl, ramOk_twinRx (fun _ h => ramOk_rxAccept h) hs⟩
  case reject => exact ⟨_, rfl, ramOk_twinRx (fun _ h => ramOk_rxReject h) hs⟩
  case go => exact ⟨_, rfl, ramOk_twinRx (fun _ h => ramOk_rxGo h) hs⟩
  case abort => exact ⟨_, rfl, ramOk_twinRx (fun _ h => ramOk_rxAbort h) hs⟩
  case coordCutoff => exact ⟨_, rfl, ramOk_coordCutoff hs⟩
  case prepare | switch | returnOp | spareAbort | assign | force =>
    exact ⟨_, rfl, ramOk_accessBy (fun _ h => ramOk_spareCtl h) hs⟩
  case spareReq => exact ⟨_, rfl, ramOk_twinRx (fun _ h => ramOk_rxSpareReq h) hs⟩
  case spareRsp => exact ⟨_, rfl, ramOk_twinRx (fun _ h => ramOk_rxSpareRsp h) hs⟩
  case spareStatus => exact ⟨_, rfl, ramOk_twinRx (fun _ h => ramOk_rxSpareStatus h) hs⟩
  case spareMatch => exact ⟨_, rfl, ramOk_spareMatch hs⟩
  case spareMismatch => exact ⟨_, rfl, ramOk_spareMismatch hs⟩
  case spareTrainLimit => exact ⟨_, rfl, ramOk_spareLimit hs⟩
  case emergency => exact ⟨_, rfl, ramOk_emergency hs⟩
  case emergencyIdentified => exact ⟨_, rfl, ramOk_emergIdentified hs⟩
  case healthRequest => exact ⟨_, rfl, ramOk_accessBy (fun _ h => ramOk_healthCtl h) hs⟩
  case healthReq => exact ⟨_, rfl, ramOk_twinRx (fun _ h => ramOk_rxHealthReq h) hs⟩
  case health => exact ⟨_, rfl, ramOk_twinRx (fun _ h => ramOk_rxHealth h) hs⟩
  case release => exact ⟨_, rfl, ramOk_twinRx (fun _ h => ramOk_rxRelease h) hs⟩
  case releaseAck => exact ⟨_, rfl, ramOk_twinRx (fun _ h => ramOk_rxReleaseAck h) hs⟩
  case releaseResend => exact ⟨_, rfl, ramOk_releaseResend hs⟩
  case txQctlGo => exact ⟨_, rfl, ramOk_accessBy (fun _ h => ramOk_fogQueue h) hs⟩
  case packetTxStart => exact ⟨_, rfl, ramOk_fogTxStart hs⟩
  case txDone => exact ⟨_, rfl, ramOk_fogTxDone hs⟩
  case fogRxEnable => exact ⟨_, rfl, ramOk_accessBy (fun _ h => ramOk_fogCtl h) hs⟩
  case preambleDetection => exact ⟨_, rfl, ramOk_fogPreamble hs⟩
  case preambleEnd => exact ⟨_, rfl, ramOk_fogPreEnd hs⟩
  case frameMarker => exact ⟨_, rfl, ramOk_fogMarker hs⟩
  case headerDecoded => exact ⟨_, rfl, ramOk_fogHeader hs⟩
  case payloadEnd => exact ⟨_, rfl, ramOk_fogPayload hs⟩
  case trackLost => exact ⟨_, rfl, ramOk_fogTrackLost hs⟩
  case rxPop => exact ⟨_, rfl, ramOk_accessBy (fun _ h => ramOk_fogPop h) hs⟩
  case dutyListen => exact ⟨_, rfl, ramOk_fogDuty hs⟩
  case freqWrite => exact ⟨_, rfl, ramOk_accessBy (fun _ h => ramOk_tbRate h) hs⟩
  case stepSet | stepAdd | stepSetTpi | stepCancel | clrCoarse | tbEnable =>
    exact ⟨_, rfl, ramOk_accessBy (fun _ h => ramOk_tbCtl h) hs⟩
  case stepApplied => exact ⟨_, rfl, ramOk_stepTick hs⟩
  case snap | evtTbWrite | tpiPop => exact ⟨_, rfl, ramOk_accessBy (fun _ h => ramOk_timeWrite h) hs⟩
  case frameStamp => exact ⟨_, rfl, ramOk_frameStamp hs⟩
  case ptPop | ltPop => exact ⟨_, rfl, ramOk_accessBy (fun _ h => ramOk_tsuWrite h) hs⟩
  case tpoEdge => exact ⟨_, rfl, ramOk_tpoEdge hs⟩
  case tpiEdge => exact ⟨_, rfl, ramOk_tpiEdge hs⟩
  case seWrite | histPop => exact ⟨_, rfl, ramOk_accessBy (fun _ h => ramOk_schedWrite h) hs⟩
  case entryFire => exact ⟨_, rfl, ramOk_seCycle hs⟩
  case schedWake => exact ⟨_, rfl, ramOk_schedWake hs⟩
  case refCtlWrite | hkPop => exact ⟨_, rfl, ramOk_accessBy (fun _ h => ramOk_hkWrite h) hs⟩
  case refSettled => exact ⟨_, rfl, ramOk_hkRefSettled hs⟩
  case seqStart | seqStop => exact ⟨_, rfl, ramOk_accessBy (fun _ h => ramOk_hkCtl h) hs⟩
  case hkResult => exact ⟨_, rfl, ramOk_hkResult hs⟩
  case hkCalStart => exact ⟨_, rfl, ramOk_accessBy (fun _ h => ramOk_hkCalCtl h) hs⟩
  case calDone => exact ⟨_, rfl, ramOk_hkCalDone hs⟩
  case hkRxWrite => exact ⟨_, rfl, ramOk_accessBy (fun _ h => ramOk_fogHkRx h) hs⟩
  case fcoefDataWrite => exact ⟨_, rfl, ramOk_accessBy (fun _ h => ramOk_filtWrite h) hs⟩
  case chCodeWrite | strobe => exact ⟨_, rfl, ramOk_accessBy (fun _ h => ramOk_hdacWrite h) hs⟩
  case streamResume | modeChange => exact ⟨_, rfl, ramOk_accessBy (fun _ h => ramOk_hdacCtl h) hs⟩
  case changeDone => exact ⟨_, rfl, ramOk_hdacChangeDone hs⟩
  case shortCircuit | shortCircuitEnd => exact ⟨_, rfl, ramOk_hdacShort hs⟩
  case compliance | complianceEnd => exact ⟨_, rfl, ramOk_hdacCompliance hs⟩
  case meas => exact ⟨_, rfl, ramOk_accessBy (fun _ h => ramOk_measCtl h) hs⟩
  case measTimer => exact ⟨_, rfl, ramOk_measTimer hs⟩
  case measurementDone => exact ⟨_, rfl, ramOk_measDone hs⟩
  case forceBand => exact ⟨_, rfl, ramOk_accessBy (fun _ h => ramOk_bandCtl h) hs⟩
  case invalCtl | sealCtl | repApply => exact ⟨_, rfl, ramOk_accessBy (fun _ h => ramOk_memWriteReg h) hs⟩
  case invalDone => exact ⟨_, rfl, ramOk_memInvalDone hs⟩
  case sealDone => exact ⟨_, rfl, ramOk_memSealDone hs⟩
  case ddrInit | ddrSealCtl | pvCtl => exact ⟨_, rfl, ramOk_accessBy (fun _ h => ramOk_ddrWriteReg h) hs⟩
  case ddrTrained => exact ⟨_, rfl, ramOk_ddrTrained hs⟩
  case ddrRefresh => exact ⟨_, rfl, ramOk_ddrRefresh hs⟩
  case phyRecentre => exact ⟨_, rfl, ramOk_ddrRecentre hs⟩
  case sramScrub => exact ⟨_, rfl, ramOk_sramScrub hs⟩
  case ddrScrub => exact ⟨_, rfl, ramOk_ddrScrub hs⟩
  case goldenReload => exact ⟨_, rfl, ramOk_goldReload hs⟩
  case chTailWrite | ringWrite | dmaRun | dmaStop | dmaAbort | tapCtlWrite =>
    exact ⟨_, rfl, ramOk_accessBy (fun _ h => ramOk_dmaWriteReg h) hs⟩
  case descriptorStart => exact ⟨_, rfl, ramOk_ite (ramOk_dmaStart hs) hs⟩
  case descriptorComplete => exact ⟨_, rfl, ramOk_ite (ramOk_dmaDone hs) hs⟩
  case lateWriteErr => exact ⟨_, rfl, ramOk_ite (ramOk_dmaLate hs) hs⟩
  case shareWindow => exact ⟨_, rfl, ramOk_dmaWindow hs⟩
  case tapBlockClose => exact ⟨_, rfl, ramOk_ite (ramOk_tapDue hs) hs⟩
  case aliasCtlWrite => exact ⟨_, rfl, ramOk_accessBy (fun _ h => ramOk_dmaAliasCtl h) hs⟩
  case logDrain => exact ⟨_, rfl, ramOk_logDrain hs⟩
  case drainWrite | anchClrWrite | hrec => exact ⟨_, rfl, ramOk_accessBy (fun _ h => ramOk_logWriteReg h) hs⟩
  case powerRequest | pcieWake | domOn | domOff | pmbEnable =>
    exact ⟨_, rfl, ramOk_accessBy (fun _ h => ramOk_pwrWriteReg h) hs⟩
  case handshakeAnswer => exact ⟨_, rfl, ramOk_hsReply hs⟩
  case handshakeDelayExpiry => exact ⟨_, rfl, ramOk_hsExpire hs⟩
  case handshakeTimeout => exact ⟨_, rfl, ramOk_hsTimeout hs⟩
  case wakePin => exact ⟨_, rfl, ramOk_wakePin hs⟩
  case wake => exact ⟨_, rfl, ramOk_wakeAct hs⟩
  case voltageRequest => exact ⟨_, rfl, ramOk_avsUpdate hs⟩
  case pmbusPoll => exact ⟨_, rfl, ramOk_pmbPoll hs⟩
  case attemptTimeout => exact ⟨_, rfl, ramOk_attemptFail hs⟩
  case pmbAlert => exact ⟨_, rfl, ramOk_pmbAlert hs⟩
  case provision | field => exact ⟨_, rfl, ramOk_accessBy (fun _ h => ramOk_lcCtl h) hs⟩
  case lcChanged => exact ⟨_, rfl, ramOk_lcChanged hs⟩
  case arbCtl => exact ⟨_, rfl, ramOk_accessBy (fun _ h => ramOk_arbCtl h) hs⟩
  case keeperLoad | keeperRestart | keeperHalt | keeperStep => exact ⟨_, rfl, ramOk_accessBy (fun _ h => ramOk_kctl h) hs⟩
  case lockstep => exact ⟨_, rfl, ramOk_lockstep hs⟩
  case chalNew | request | submit | lock => exact ⟨_, rfl, ramOk_accessBy (fun _ h => ramOk_dbgCtl h) hs⟩
  case tokenCheckDone => exact ⟨_, rfl, ramOk_tokenDone hs⟩
  case unlockExpiry => exact ⟨_, rfl, ramOk_unlockExpiry hs⟩
  case apply | versionConfirm | rollback => exact ⟨_, rfl, ramOk_accessBy (fun _ h => ramOk_cfgvWrite h) hs⟩
  case verifyingDone => exact ⟨_, rfl, ramOk_verifyingDone hs⟩
  case stagingDone => exact ⟨_, rfl, ramOk_stagingDone hs⟩
  case confirmTimeout => exact ⟨_, rfl, ramOk_confirmTimeout hs⟩
  case bistStart | bistStop => exact ⟨_, rfl, ramOk_accessBy (fun _ h => ramOk_bistCtl h) hs⟩
  case bistPrecondLapse => exact ⟨_, rfl, ramOk_bistResume (ramOk_bistLapse hs)⟩
  case bistDone => exact ⟨_, rfl, ramOk_bistResume (ramOk_bistDone hs)⟩
  case laneBistStart => exact ⟨_, rfl, ramOk_accessBy (fun _ h => ramOk_laneTest h) hs⟩
  case laneDone => exact ⟨_, rfl, ramOk_laneTestDone hs⟩
  case clrAll | globalEn => exact ⟨_, rfl, ramOk_accessBy (fun _ h => ramOk_perfCtl h) hs⟩
  case porstNLow => exact ⟨_, rfl, ramOk_porstLow⟩
  case pcieConfigWrite => exact ⟨_, rfl, ramOk_configWrite hs⟩
  case blockLockLost => exact ⟨_, rfl, ramOk_blockLockLost hs⟩
  case entryStepDone => exact ⟨_, rfl, ramOk_entryNext hs⟩
  case exitStepDone => exact ⟨_, rfl, ramOk_exitStepDone hs⟩
  case domDone => exact ⟨_, rfl, ramOk_domRequestDone hs⟩
  case pvDone => exact ⟨_, rfl, ramOk_ddrPvDone hs⟩
  case keeperRestartDone => exact ⟨_, rfl, ramOk_keeperBack hs⟩
  case xtalResume => exact ⟨_, rfl, ramOk_xtalResume hs⟩

theorem ramOk_of_finish {t u : State} (h : finish s u = .next t) (hu : u.RamOk) : t.RamOk := by
  cases h
  exact ramOk_sent hu

theorem ramOk_tick {t : State} (h : tick s = .next t) (hs : s.RamOk) : t.RamOk := by
  unfold tick at h
  split at h
  · cases h
    exact hs
  · exact ramOk_of_finish h (ramOk_aonEdge hs)

/-- A step, a command's or an idle one, keeps both memories in canonical form. -/
theorem ramOk_step {t : State} (h : step s = .next t) (hs : s.RamOk) : t.RamOk := by
  unfold step at h
  split at h
  · exact ramOk_tick h hs
  · next c rest _ =>
    obtain ⟨u, hexec, hu⟩ := ramOk_exec (s := { s with pending := rest }) c (ramOk_mk hs)
    exact ramOk_of_finish (hexec.symm.trans h) hu

end State
end Sys2Proof.Machine

open Sys2Proof Sys2Proof.Machine Sys2Proof.Machine.State

/-- Settles O60: a byte of either memory is written by SMap.put or dropped by SMap.drop, and every operation of a step keeps the
form in which both leave a map. -/
theorem memoryForm : Obligations.MemoryForm := by
  unfold Obligations.MemoryForm
  intro s t hsram hddr h
  exact ramOk_step h ⟨hsram, hddr⟩
end
